-- ==== Sys2Proof/Word.lean ====
section
/-! DEFINITION. The word type, the sparse table, and the plain types that commands and state
share: register initiators, register pages, frames and descriptors. -/

namespace Sys2Proof

/-- A 32-bit register (R25). -/
abbrev Word := BitVec 32

/-- A byte of a frame, a PDU or a memory. -/
abbrev Byte := BitVec 8

/-- A sparse table: index and entry, indices strictly rising, no entry equal to the default of
its index. -/
abbrev Tab (α : Type) := List (Nat × α)

/-- Who makes a register access (ERR_ADDR.INITIATOR, R28). -/
inductive Init where
  | ha
  | hb
  /-- the management application cores -/
  | mc
  /-- the always-on core -/
  | aon
  /-- a thread of a Grove engine, engine × 8 + thread -/
  | gv (thread : Fin 128)
  /-- the debug port -/
  | dbg
  deriving DecidableEq, Repr

/-- A register page (R19): the region with its instance and the page index within it. -/
inductive Page where
  | mc (k : Nat)
  | pc (k : Nat)
  | sd (k : Nat)
  | sc (k : Nat)
  | tl (k : Nat)
  | gv (k : Nat)
  | can (n : Nat)
  | lin (n : Nat)
  | ep (n : Nat) (k : Nat)
  | ts (n : Nat)
  | sw (k : Nat)
  | lk (s : Nat) (k : Nat)
  | tm (k : Nat)
  | cp (k : Nat)
  | hb (k : Nat)
  deriving DecidableEq, Repr

/-- A Flowstone FIFO: FIFO f of a channel (0–63 CAN, 64–79 LIN; f = 0, 1 receive, 2 transmit,
R137, R148), or the LEARNQ of a lookup slice (R197). -/
inductive FifoId where
  | chan (c : Fin 80) (f : Fin 3)
  | learn (s : Fin 2)
  deriving DecidableEq, Repr

/-- A CAN frame on its bus (R134). A remote frame carries its data length in `data`. -/
structure CanFrame where
  id : BitVec 29
  ide : Bool
  rtr : Bool
  /-- 0 CC, 1 FD, 2 XL -/
  fmt : Fin 3
  brs : Bool
  esi : Bool
  sdt : Byte
  sec : Bool
  vcid : Byte
  af : Word
  data : List Byte
  deriving DecidableEq, Repr

/-- How a transmission attempt of a CAN frame ends (R142). -/
inductive CanEnd where
  | sent | lost | error
  deriving DecidableEq, Repr

/-- How an error changes the counters of ISO 11898-1 (R131): TEC + 8, no change (its exceptions),
REC + 1, REC + 8. -/
inductive CanErrKind where
  | tx8 | txNone | rx1 | rx8
  deriving DecidableEq, Repr

/-- A LIN response as seen on the bus (R149 to R151): its data, its checksum byte, and whether
the readback differed or a stop bit was dominant. -/
structure LinResponse where
  data : List Byte
  sum : Byte
  bitErr : Bool
  framing : Bool
  deriving DecidableEq, Repr

/-- A destination of Grove's sends (R99). -/
inductive GvDest where
  | can (n : Fin 64)
  | lin (n : Fin 16)
  | port26
  | host (q : Fin 16)
  deriving DecidableEq, Repr

/-- R38: what the host wrote in a DMA descriptor: LEN (of a device-to-host buffer its size), IRQ and
EOP; for a host-to-device descriptor the bytes of its buffer; and what the read of the log memory for
it met (R237): 0 no error, 1 one bit, 2 two bits in a word. -/
structure Descriptor where
  len : BitVec 16
  irq : Bool
  eop : Bool
  data : List Byte
  ecc : Fin 3
  deriving DecidableEq, Repr

end Sys2Proof
end

