-- ==== Sys2Proof/Syntax.lean ====
section
/-! DEFINITION. The commands: one constructor for each row of spec/opcode_table.json. -/

namespace Sys2Proof

/-- A command of the VA6416. -/
inductive Instr where
  /-- R367: A 32-bit write to a register that has no row of its own is judged field by field and
  either takes effect or is refused as a whole. -/
  | registerWrite (i : Init) (addr : Nat) (v : Word) (full parity : Bool)
  /-- R28: Writing CTRL.SOFT_RESET = 1 starts a block soft reset, or joins the one in progress. -/
  | softReset (i : Init) (pg : Page)
  /-- R28: A block soft reset ends within 10 µs, and SOFT_RESET and BUSY fall. -/
  | softResetComplete (pg : Page)
  /-- R28: Each 1 written to IRQ_FORCE sets that bit of IRQ_RAW. -/
  | irqForce (i : Init) (pg : Page) (bits : Word)
  /-- R32: A function-level reset, hot reset or link-down on one port clears that port's steering,
  posted-error log, MSI-X state and rings, and aborts its DMA. -/
  | pciePortReset (p : Fin 2) (linkDown : Bool)
  /-- R34: A PCIe data link comes up, restarting the posted-write sequence number and raising the
  LINK event. -/
  | pcieLinkUp (p : Fin 2) (width speed : Fin 8) (ptm : Bool)
  /-- R37: Writing RING_CFG.ENABLE = 1 starts a DMA ring, or is refused for an invalid SIZE or
  consumer. -/
  | dmaRingEnable (i : Init) (p : Fin 2) (r : Fin 16)
  /-- R37: Writing RING_CFG.ENABLE = 0 stops the ring after the descriptor in progress. -/
  | dmaRingStop (i : Init) (p : Fin 2) (r : Fin 16)
  /-- R37: Host software advances RING_TAIL, making descriptors or empty buffers available. -/
  | dmaRingTail (i : Init) (p : Fin 2) (r : Fin 16) (tail : BitVec 16)
  /-- R38: The device finishes a descriptor, writes DONE, ERR, STATUS, STAMP and the device-to-
  host fields, and advances HEAD. -/
  | dmaDescriptorDone (p : Fin 2) (r : Fin 16) (x : Descriptor)
  /-- R39: A host-memory access ends in an error completion or timeout, and the ring stops with
  ERR at HEAD and DMA_FAULT recorded. -/
  | dmaFault (p : Fin 2) (r : Fin 16) (timeout : Bool)
  /-- R40: Writing HB_PTM_CTRL.TRIGGER starts one PTM dialogue. -/
  | ptmTrigger (i : Init) (p : Fin 2)
  /-- R40: With AUTO set, the PERIOD timer expires and a PTM dialogue starts. -/
  | ptmPeriodExpire (p : Fin 2)
  /-- R40: A PTM dialogue completes; T1, T4, Master Time and propagation delay are updated
  together and PTM_SEQ increments. -/
  | ptmDialogueComplete (p : Fin 2) (master : BitVec 64) (delay : Word)
  /-- R13: The pacer of switch port 26 or 27 admits the next waiting frame within 10 Gb/s and 10
  Mpps. -/
  | pacerAdmit (management : Bool) (frame : List Byte)
  /-- R43: Writing TL_BASE_CTRL.SNAP starts a snapshot of Base time and D0–D3 at one tick, or
  joins the one in progress. -/
  | tlSnap (i : Init)
  /-- R43: The snapshot sets are written, SNAP_SEQ increments and SNAP clears. -/
  | snapComplete
  /-- R46: Setting DOM_CTRL.EN from 0 to 1 gives the domain Base time's value and enters ARMED. -/
  | domainEnable (i : Init) (dm : Fin 4)
  /-- R46: Writing DOM_CTRL.EN = 0 turns the domain OFF, or is refused with DOMAIN_IN_USE while it
  is named. -/
  | domainDisable (i : Init) (dm : Fin 4)
  /-- R47: Writing DOM_CTRL.ARM queues an ARM for handling, joins a held ARM, or is refused with
  DOMAIN_OFF. -/
  | domainArm (i : Init) (dm : Fin 4)
  /-- R48: ARM handling ends after 2 ticks; REFUSE_RUN and LOCK_RUN clear, the integrator is
  preloaded and the domain enters ARMED. -/
  | domainArmDone (dm : Fin 4)
  /-- R48: Writing DOM_SAMPLE_GO.SUBMIT captures the sample and queues it for handling, or is
  refused. -/
  | domainSampleSubmit (i : Init) (dm : Fin 4)
  /-- R47: A sample's 16-tick handling ends and its step, servo update, refusal or state change
  takes effect. -/
  | domainSampleHandled (dm : Fin 4)
  /-- R51: A write to DOM_RATE_LO latches the low rate bits, or is refused with SERVO_HW. -/
  | domainRateLoWrite (i : Init) (dm : Fin 4) (v : Word)
  /-- R51: A write to DOM_RATE_HI applies the whole 48-bit RATE from the next tick, or is refused
  with SERVO_HW. -/
  | domainRateHiWrite (i : Init) (dm : Fin 4) (v : Word)
  /-- R51: Changing DOM_CTRL.SERVO freezes RATE, or preloads the integrator from RATE. -/
  | domainServoSwitch (i : Init) (dm : Fin 4) (software : Bool)
  /-- R60: Writing ECHO_POP removes the head Echo entry, or is refused with ECHO_OWNER. -/
  | echoPop (i : Init) (p : Fin 24)
  /-- R66: The wheel READ command copies an entry into CNP_DATA0–CNP_DATA7. -/
  | cnpRead (i : Init) (ix : Fin 4096)
  /-- R66: The wheel WRITE command replaces an entry at one tick, or is refused under R64 and R65.
  -/
  | cnpWrite (i : Init) (ix : Fin 4096)
  /-- R66: The wheel CLEAR command sets VALID of an entry to 0. -/
  | cnpClear (i : Init) (ix : Fin 4096)
  /-- R69: A non-TRIG wheel entry becomes due and is released in index order, flagged late, or
  counted MISSED. -/
  | canopyRelease
  /-- R72: 2 µs before its release instant, a TRIG release is converted to Base time and committed
  as a pulse, or dropped as an overlap. -/
  | trigCommit
  /-- R72: A committed pulse's leading edge is driven on its trigger output at the release
  instant. -/
  | trigPulseStart (k : Fin 16)
  /-- R72: WIDTH_NS after its leading edge, the pulse's trailing edge returns the output to its
  idle level. -/
  | trigPulseEnd (k : Fin 16)
  /-- R72: Writing TRG_CFG.EN = 0 cancels every committed pulse on the output, ends a pulse in
  progress and drives the output low. -/
  | trgDisable (i : Init) (k : Fin 16)
  /-- R73: An edge crosses the threshold at a TCAP ball and is stamped, pending qualification. -/
  | tcapEdge (c : Fin 8) (rise : Bool) (frac : Fin 8)
  /-- R73: An edge whose level has held for the filter time is accepted and queued with its SEQ,
  or discarded when the queue is full. -/
  | tcapEdgeQualified (c : Fin 8)
  /-- R73: Writing TCP_POP removes the head capture entry, or is refused with CAPTURE_OWNER. -/
  | tcpPop (i : Init) (c : Fin 8)
  /-- R75: Setting PH_CTRL.EN moves a phase domain from OFF to ACQ with FULL_PERIODS 0. -/
  | phaseEnable (i : Init) (p : Fin 4)
  /-- R75: Writing PH_CTRL.EN = 0 turns the phase domain OFF, or is refused with PHASE_IN_USE. -/
  | phaseDisable (i : Init) (p : Fin 4)
  /-- R77: An encoder count edge updates the position, and the crossing predictions within the 1
  ms horizon are recomputed. -/
  | phaseCountEdge (p : Fin 4) (aLeads : Bool) (frac : Fin 8)
  /-- R75: An index edge sets the angle to ZERO, counts PH_REV and judges the period, locking or
  losing lock. -/
  | phaseIndexEdge (p : Fin 4) (frac : Fin 8)
  /-- R75: No index edge arrives within 1.5 × PH_PERIOD, and a LOCKED phase domain loses lock with
  cause NO_INDEX. -/
  | phaseNoIndex (p : Fin 4)
  /-- R81: A write to a signal descriptor word through the signal store window takes effect, or is
  refused with SIG_LIVE. -/
  | sigStoreWrite (i : Init) (w : Fin 0x300000) (v : Word)
  /-- R91: The table READ command copies a PDU descriptor into GV_TDATA. -/
  | gvPduRead (i : Init) (ix : BitVec 16)
  /-- R91: The table WRITE command replaces a PDU descriptor, allocating or freeing image cells,
  or is refused. -/
  | gvPduWrite (i : Init) (ix : BitVec 16)
  /-- R91: The table READ command copies a transform into GV_TDATA. -/
  | gvXfmRead (i : Init) (ix : BitVec 16)
  /-- R85: The table WRITE command replaces a transform, or is refused with TABLE_INVALID. -/
  | gvXfmWrite (i : Init) (ix : BitVec 16)
  /-- R91: The table READ command copies 32 image bytes at GV_TOFF into GV_TDATA. -/
  | gvImageRead (i : Init) (ix : BitVec 16)
  /-- R91: The table WRITE command replaces 32 image bytes as a group commit that triggers no
  send. -/
  | gvImageWrite (i : Init) (ix : BitVec 16)
  /-- R112: Grove hands the next instance, in the order of R100, to one waiting thread, or to two
  threads on different engines when paired. -/
  | instanceHandover (t t2 : Fin 128)
  /-- R92: Once every earlier instance from its source has committed, an ended instance commits
  each of its groups into its image at one instant. -/
  | instanceCommit (t : Fin 128) (err : Fin 3)
  /-- R99: A destination that can accept a send takes the item at the head of its queue and builds
  the frame or buffer from the image. -/
  | destinationAccept (x : GvDest)
  /-- R101: The sweeper declares a reception timeout, sets TIMED_OUT and submits a timeout
  instance. -/
  | rxTimeout (pdu : BitVec 16)
  /-- R116: GX.SIGLD loads a signal descriptor into a descriptor register at one instant. -/
  | gxSigld (t : Fin 128) (pc : Word) (rd : Fin 32) (k : Fin 4) (ix : Word) (dbe : Bool)
  /-- R116: GX.SIGST writes a descriptor register to the signal store at one instant. -/
  | gxSigst (t : Fin 128) (pc : Word) (rd : Fin 32) (k : Fin 4) (ix : Word)
  /-- R116: GX.EXT extracts a source field, or a sink's present bits, into a value register. -/
  | gxExt (t : Fin 128) (pc : Word) (rd : Fin 32) (k v : Fin 4)
  /-- R116: GX.XFM applies a transform to a value register for the sink's length and signedness.
  -/
  | gxXfm (t : Fin 128) (pc : Word) (rd : Fin 32) (k vd vs : Fin 4)
  /-- R116: GX.INS stages a value into a sink with its trigger. -/
  | gxIns (t : Fin 128) (pc : Word) (rd : Fin 32) (k v : Fin 4)
  /-- R116: GX.TS returns the instance's receive stamp or the present time of Base time or a
  domain. -/
  | gxTs (t : Fin 128) (pc : Word) (rd : Fin 32) (sel : Fin 8)
  /-- R116: GX.PDUGET takes an instance, waits for one, or reports that none waits. -/
  | gxPduget (t : Fin 128) (pc : Word) (rd : Fin 32) (block : Bool) (t2 : Fin 128)
  /-- R116: GX.PDUPUT END ends the instance and asks for its stage to be committed. -/
  | gxPduputEnd (t : Fin 128) (pc : Word) (rd : Fin 32)
  /-- R116: GX.PDUPUT SEND stages a trigger for a transmit PDU. -/
  | gxPduputSend (t : Fin 128) (pc : Word) (rd : Fin 32) (p : Word)
  /-- R116: GX.PDUPUT DROP ends the instance without a commit. -/
  | gxPduputDrop (t : Fin 128) (pc : Word) (rd : Fin 32)
  /-- R116: GX.WAIT takes a pending Canopy wake, or waits for one. -/
  | gxWait (t : Fin 128) (pc : Word) (rd : Fin 32)
  /-- R116: GX.EVT stages an event PDU of type 0x80–0xFF for a host queue. -/
  | gxEvt (t : Fin 128) (pc : Word) (rd : Fin 32) (tq x : Word)
  /-- R120: GX.CMP waits for the partner's GX.CMP, compares the two stages and returns the same
  status to both threads. -/
  | gxCmp (t : Fin 128) (pc : Word) (rd : Fin 32) (x : Word)
  /-- R120: The partner fails to reach GX.CMP within 20 µs, and status 2 is returned. -/
  | pairCmpTimeout (t : Fin 128)
  /-- R113: An instance not ended within 100 µs is aborted, and its thread takes the fault
  INST_TIME. -/
  | instanceTimeout (t : Fin 128) (pc : Word)
  /-- R121: 1 µs after a fault, the thread restarts at 0x0000_4000 with its state cleared. -/
  | threadRestart (t : Fin 128)
  /-- R111: Writing GV_ENG_CTRL.RUN = 1 starts every thread of every healthy engine, after the
  initial test following a cold reset. -/
  | engineRun (i : Init)
  /-- R111: Writing RUN = 0 halts every thread and aborts their instances, or is refused with
  LOAD_STATE. -/
  | engineHalt (i : Init)
  /-- R125: The initial test of all 16 engines ends; failed engines are retired, threads start and
  INIT_DONE is set. -/
  | engineInitTestDone (failed : BitVec 16)
  /-- R126: Writing GV_LOAD_CTRL.GO starts the image loader, or is refused with LOAD_STATE. -/
  | gvLoadStart (i : Init)
  /-- R126: The loader finishes its copy and CRC check, retrying once and ending in DONE or
  CRC_FAIL. -/
  | gvLoadDone (bytes : List Byte)
  /-- R111: A write to GV_LM_DATA stores a word into the selected engines' local memory and
  advances ADDR, or is refused. -/
  | gvLmDataWrite (i : Init) (v : Word)
  /-- R122: Once the resting engine's last instance has ended, its self-test begins on all eight
  threads. -/
  | selftestStart
  /-- R122: A self-test ends; a passing engine rejoins and the next engine begins its drain, a
  failing one is retired. -/
  | selftestDone (pass : Bool)
  /-- R327: Writing GV_ROT_CMD.GO requests the next engine to rest, or is refused with
  ROT_REFUSED. -/
  | gvRotCmd (i : Init) (e : Fin 16)
  /-- R139: A CAN frame is received correctly, stamped, filtered, optionally verified and stored,
  or refused as an overrun. -/
  | canFrameRx (n : Fin 64) (f : CanFrame) (ago : Nat)
  /-- R137: A falling item lands in a Flowstone FIFO or LEARNQ; FILL rises, and at a transmit head
  the controller takes the element. -/
  | flowstoneLand (q : FifoId)
  /-- R146: A timed frame whose MAC was not ready at its release starts once the MAC is ready, and
  is counted in TX_LATE. -/
  | canMacReady (n : Fin 64)
  /-- R142: A CAN frame ends; it is freed on success or retried after arbitration loss or error,
  and CAN_TXC takes its stamp. -/
  | canTxDone (n : Fin 64) (how : CanEnd) (ago : Nat)
  /-- R131: A detected bus error updates TEC, REC and LEC under error confinement, or is only
  recorded where signalling is off. -/
  | canBusError (n : Fin 64) (code : Fin 6) (kind : CanErrKind) (xlData : Bool)
  /-- R131: Writing CAN_CMD.RECOVER starts bus-off recovery. -/
  | canRecover (i : Init) (n : Fin 64)
  /-- R131: 128 occurrences of 11 recessive bits complete bus-off recovery. -/
  | canRecoveryDone (n : Fin 64)
  /-- R143: A timed frame still at the head WAIT_US after landing is discarded and counted in
  TX_EXPIRED. -/
  | canTimedExpire (n : Fin 64)
  /-- R133: A write into the message RAM window takes effect, or is refused with CAN_CONFIG. -/
  | canWindowWrite (i : Init) (n : Fin 64) (w : Fin 512) (v : Word)
  /-- R138: FS_CMD ADVANCE moves the read position one item on. -/
  | fsAdvance (i : Init) (c : Fin 80) (f : Fin 3)
  /-- R138: FS_CMD MARK saves the read position. -/
  | fsMark (i : Init) (c : Fin 80) (f : Fin 3)
  /-- R138: FS_CMD REWIND returns the read position to the mark. -/
  | fsRewind (i : Init) (c : Fin 80) (f : Fin 3)
  /-- R138: FS_CMD RELEASE frees the COUNT oldest items with their message RAM blocks. -/
  | fsRelease (i : Init) (c : Fin 80) (f : Fin 3) (count : Fin 64)
  /-- R141: FS_CMD NOTICE_ACK decrements PENDING in notice mode. -/
  | fsNoticeAck (i : Init) (c : Fin 80) (f : Fin 3)
  /-- R138: FS_CMD PUSH places a transmit slot at the tail of the transmit FIFO, or is refused. -/
  | fsPush (i : Init) (c : Fin 80) (f : Fin 3) (slot : Fin 64)
  /-- R142: FS_CMD FLUSH discards every transmit item not yet started. -/
  | fsFlush (i : Init) (c : Fin 80) (f : Fin 3) (started : Bool)
  /-- R149: A LIN master starts its next transmit item once the previous frame has ended. -/
  | linMasterItem (n : Fin 16)
  /-- R150: A valid LIN header is received and answered from a publish entry, or the controller
  listens. -/
  | linHeaderRx (n : Fin 16) (pid : Byte) (syncOk : Bool) (ago : Nat)
  /-- R150: A complete LIN response is checked and stored in receive FIFO 0. -/
  | linResponseRx (n : Fin 16) (r : LinResponse)
  /-- R149: A response not complete within the RESP_PCT limit is a NO_RESPONSE or PARTIAL error.
  -/
  | linResponseTimeout (n : Fin 16) (bytes : Nat)
  /-- R150: A dominant pulse of 150 µs or more on an idle LIN bus is taken as a wake-up. -/
  | linWakePulse (n : Fin 16)
  /-- R156: LINK_UP or the speed of a port changes, selecting stamp delays and raising LINK. -/
  | epLinkChange (n : Fin 16) (lock an phy : Bool) (speed : Fin 5) (lf rf : Bool)
  /-- R157: A received frame's 64th byte arrives and the frame is handed to the parser, after its
  buffer reservation. -/
  | epFrameHead (p : Fin 24) (bytes : List Byte) (ago : Nat) (express : Bool)
  /-- R158: A received frame's tail arrives good, bad, as a runt or oversize, and the frame is
  counted or ended bad. -/
  | epFrameTail (p : Fin 24) (rest : List Byte) (symbol : Bool)
  /-- R164: A pause runs out and held frames may start. -/
  | pauseEnd (p : Fin 16) (c : Fin 9)
  /-- R172: A held MACsec frame's ICV check completes and the frame is passed, decrypted or
  dropped under R171. -/
  | macsecIcvChecked (n : Fin 16)
  /-- R180: The slice returns the destination set, class and stream handle of a frame, and its
  meters and admission are applied. -/
  | lookupResult (p : Fin 28)
  /-- R166: While XOFF is held, the PAUSE or PFC frame is repeated every PAUSE_TIME ÷ 2 quanta. -/
  | pauseRepeat (p : Fin 16) (c : Fin 9)
  /-- R214: At a frame boundary the egress port picks the next frame by gate, shaping tier and WFQ
  tag, and starts it. -/
  | egressFrameStart (p : Fin 28) (dbe : Bool) (frac : Fin 8)
  /-- R162: A transmitted frame ends, is charged to its shapers, releases its cells and may
  release XOFF. -/
  | egressFrameEnd (p : Fin 28) (err : Fin 3)
  /-- R167: After IDLE_US with nothing to send, the port enters low-power idle. -/
  | eeeLpiEnter (n : Fin 16)
  /-- R167: WAKE_NS after leaving low-power idle, the waiting frame starts. -/
  | eeeWakeDone (n : Fin 16) (frac : Fin 8)
  /-- R169: 400 ns after data symbols resume, STAMP_READY rises. -/
  | stampReadyRise (n : Fin 16)
  /-- R170: The MACsec READ command copies an SC or SA entry into MS_DATA. -/
  | msRead (i : Init) (n : Fin 16) (sa : Bool) (ix : Fin 128)
  /-- R170: The MACsec WRITE command replaces an SC or SA entry, or is refused with SA_STATE. -/
  | msWrite (i : Init) (n : Fin 16) (sa : Bool) (ix : Fin 128)
  /-- R174: A T1S node's PLCA transmit opportunity arrives and it sends up to 1 + MAX_BURST
  frames. -/
  | tsTxOpportunity (n : Fin 8)
  /-- R175: A PLCA beacon is received and PLCA_ACTIVE rises again. -/
  | tsBeaconRx (n : Fin 8)
  /-- R175: No beacon for 400 µs; PLCA_ACTIVE falls, BEACON_LOSS counts and the segment runs
  CSMA/CD. -/
  | tsBeaconLoss (n : Fin 8)
  /-- R175: A collision is counted and the frame backs off, or is dropped after 16 attempts. -/
  | tsCollision (n : Fin 8)
  /-- R175: The back-off of a collided T1S frame ends and the frame is retried. -/
  | tsBackoffExpire (n : Fin 8)
  /-- R176: Writing EP_CNT_CTRL.SNAP or TS_CNT_CTRL.SNAP copies every counter to the readable bank
  at one instant. -/
  | cntSnap (i : Init) (p : Fin 24)
  /-- R180: The VLAN window READ command returns a VID's entry. -/
  | swVlanRead (i : Init) (vid : Fin 4096)
  /-- R180: The VLAN window WRITE command replaces a VID's entry, or is refused with SW_CONFIG. -/
  | swVlanWrite (i : Init) (vid : Fin 4096)
  /-- R195: LK SEARCH finds a key and returns its entry and index, or NOT_FOUND. -/
  | lkSearch (i : Init) (k : Fin 2)
  /-- R195: LK NEXT returns the first matching valid entry at or above LK_CURSOR. -/
  | lkNext (i : Init) (k : Fin 2) (kind : Fin 4) (port : Fin 32)
  /-- R193: LK INSERT places or updates a key in the named slices, relocating entries, or returns
  TABLE_FULL. -/
  | lkInsert (i : Init) (k : Fin 2) (slices : Fin 4)
  /-- R195: LK DELETE removes a key from the named slices, or returns NOT_FOUND. -/
  | lkDelete (i : Init) (k : Fin 2) (slices : Fin 4)
  /-- R195: LK FLUSH_PORT removes every entry of a port and kind from the named slices. -/
  | lkFlushPort (i : Init) (k : Fin 2) (slices kind : Fin 4) (port : Fin 32)
  /-- R197: LQ_CMD ADVANCE moves the LEARNQ read position one notice on. -/
  | lqAdvance (i : Init) (k : Fin 2)
  /-- R197: LQ_CMD MARK saves the LEARNQ read position. -/
  | lqMark (i : Init) (k : Fin 2)
  /-- R197: LQ_CMD REWIND returns the LEARNQ read position to the mark. -/
  | lqRewind (i : Init) (k : Fin 2)
  /-- R197: LQ_CMD RELEASE frees the COUNT oldest notices. -/
  | lqRelease (i : Init) (k : Fin 2) (count : Fin 64)
  /-- R199: The sweeper visits a dynamic home entry and clears, sets AGED or removes it with an
  AGED notice. -/
  | ageSweepVisit (k : Fin 2) (ix : Fin 0x20000)
  /-- R203: After a port's link falls with LINKDOWN_FLUSH set, both slices flush its dynamic
  entries once the window is free. -/
  | linkdownFlush (p : Fin 24)
  /-- R204: The stream filter READ command returns a filter entry and its counters. -/
  | sfRead (i : Init) (k : Fin 2) (ix : Fin 8192)
  /-- R204: The stream filter WRITE command replaces a filter entry and clears BLOCKED. -/
  | sfWrite (i : Init) (k : Fin 2) (ix : Fin 8192)
  /-- R205: The Limp window READ command returns a record of the staging copy. -/
  | limpRead (i : Init) (ix : Fin 512)
  /-- R205: The Limp window WRITE command replaces a record of the staging copy. -/
  | limpWrite (i : Init) (ix : Fin 512)
  /-- R205: The Limp COMMIT writes the staging copy with its CRC to the inactive MRAM copy and
  activates it within 10 ms. -/
  | limpCommit (i : Init)
  /-- R213: The flow meter READ command returns a meter entry and its counters. -/
  | fmRead (i : Init) (ix : Fin 8192)
  /-- R213: The flow meter WRITE command replaces a meter entry, filling or cutting its buckets.
  -/
  | fmWrite (i : Init) (ix : Fin 8192)
  /-- R218: Writing TM_GCL_CTRL.COMMIT computes the takeover instant and writes Canopy entry p, or
  is refused. -/
  | gclCommit (i : Init) (p : Fin 28)
  /-- R219: Writing ABORT clears the pending takeover's Canopy entry, or is refused once released.
  -/
  | gclAbort (i : Init) (p : Fin 28)
  /-- R219: Writing STOP ends the running list and any pending takeover, opening every gate. -/
  | gclStop (i : Init) (p : Fin 28)
  /-- R217: The interval of the gate entry in force ends and the next entry's gate states take
  effect. -/
  | gateEntryChange (p : Fin 28)
  /-- R220: Every PERIOD_US, every queue's depth and head-of-line delay are sampled into their
  histogram bins. -/
  | tmSample
  /-- R220: A histogram command reads, and optionally clears, a queue's 16 bins at the next
  sampling boundary. -/
  | tmHistCmd (i : Init) (q : Fin 256) (clear : Bool)
  /-- R229: A completed record is written into its log ring and becomes visible as WPTR advances,
  or is counted lost. -/
  | captureRecordCommit
  /-- R231: A software, tap, fault or warm-reset trigger moves a RUNNING ring to POST and records
  TRIG_NS and TRIG_PTR. -/
  | ringTrigger (i : Init) (r : Fin 16)
  /-- R231: CP_RING_CMD.REARM returns a FROZEN ring to RUNNING. -/
  | ringRearm (i : Init) (r : Fin 16)
  /-- R229: CP_RING_CMD.RESET_PTR sets WPTR, RPTR and SEQ to 0, or is refused with RING_STATE. -/
  | ringResetPtr (i : Init) (r : Fin 16)
  /-- R234: FLUSH_US after its first byte, a partly filled delivery buffer or 1722 PDU is
  completed. -/
  | deliveryFlushTimeout (stream : Option (Fin 4)) (p : Fin 2) (r : Fin 16) (x : Descriptor)
  /-- R235: A 1722 stream sends a VSF_STREAM PDU carrying ring bytes into port 27 and advances
  RPTR. -/
  | avtpPduSend (k : Fin 4) (ecc : Fin 3)
  /-- R236: LPDDR5 training completes and TRAINED is set, or fails. -/
  | ddrTrainingDone (ok : Bool)
  /-- R245: PC_GRP_CMD SLEEP puts each named awake group into GOING_TO_SLEEP, or is refused. -/
  | grpSleep (i : Init) (groups : Byte)
  /-- R247: PC_GRP_CMD WAKE wakes the named groups after INH_LEAD_MS. -/
  | grpWake (i : Init) (groups : Byte)
  /-- R246: After its go-to-sleep steps, a group's XCVM moves to the sleep code, the state becomes
  ASLEEP and INH may be released. -/
  | groupAsleep (g : Fin 8)
  /-- R247: CANRX or LINRX held dominant for the wake time starts a wake check of a sleeping
  group. -/
  | busWake (c : Fin 80)
  /-- R247: A qualified edge on a WAKE pin wakes its groups, with or without a wake check. -/
  | wakePinEdge (n : Fin 8) (rise : Bool)
  /-- R248: INH_LEAD_MS after a wake, the group's XCVM pins move to listen-only for the check. -/
  | wakeCheckListen (g : Fin 8)
  /-- R248: A valid frame passes the wake check and the group becomes AWAKE, starting a cold
  release from M0 or M1. -/
  | wakeCheckPass (g : Fin 8)
  /-- R248: No valid frame within T_FALSEWAKE_MS returns the group to ASLEEP and counts
  FALSE_WAKES. -/
  | falseWake (g : Fin 8)
  /-- R251: When its conditions hold, the assist joins the ring, sends ALIVE and marks the other
  members absent. -/
  | clrJoin
  /-- R252: A ring message is received; presence, LAP, agreement, acknowledgement and keepers are
  updated. -/
  | clrRingMsgRx (n : Fin 64) (data : List Byte)
  /-- R252: RING_PERIOD_MS after being addressed, the device sends its RING message to the next
  present member. -/
  | clrTokenSend
  /-- R252: An addressed node silent for 2 × RING_PERIOD_MS is marked absent and the token is sent
  on. -/
  | clrSkip
  /-- R252: No ring message for the lost-token time; the device sends ALIVE and takes the token.
  -/
  | clrLostToken
  /-- R254: T_SETTLE_MS elapse in SETTLE without a wake request; every group sleeps and the device
  enters TARGET. -/
  | clrCommit
  /-- R255: Writing CLR_CMD.WAKE_HOLD sends a WAKE_HOLD message, a wake request in SETTLE. -/
  | clrWakeHold (i : Init)
  /-- R253: Each 1 written to CLR_GV_HOLD sets a Grove hold and restarts its timer. -/
  | clrGvHoldSet (i : Init) (hi : Bool) (v : Word)
  /-- R253: Each 1 written to CLR_GV_REL releases that Grove hold at once. -/
  | clrGvHoldRelease (i : Init) (hi : Bool) (v : Word)
  /-- R253: A Grove hold lapses NM_TIMEOUT_MS after its last setting. -/
  | clrGvHoldLapse (b : Fin 64)
  /-- R261: PORn low, or VAON below its threshold, starts a power-on reset. -/
  | porAssert (cutChamber : Bool)
  /-- R268: The rising edge of PORn samples the straps and begins the release sequence. -/
  | porRelease (straps : Fin 16) (testen : Bool)
  /-- R261: RSTn low starts a cold or warm reset. -/
  | rstnAssert
  /-- R261: PC_RST_CMD.COLD with the correct KEY starts a software cold reset. -/
  | swResetCold (i : Init) (key : BitVec 16)
  /-- R261: PC_RST_CMD.WARM with the correct KEY starts a software warm reset. -/
  | swResetWarm (i : Init) (key : BitVec 16)
  /-- R261: The lockstep checker reports a mismatch of the application cores, causing a warm
  reset. -/
  | lockstepMismatch
  /-- R261: Tj at or above 140 °C for 1 ms starts a held cold reset. -/
  | thermalReset
  /-- R261: A supply out of range for 1 µs starts a held cold reset. -/
  | supplyFault (k : Fin 9) (cutChamber : Bool)
  /-- R261: A debug port request at level Full starts a cold or warm reset. -/
  | debugReset (warm : Bool)
  /-- R264: The next block of the cold release sequence is released after its wait or completion.
  -/
  | releaseStep
  /-- R265: The next block held by a warm reset is released. -/
  | warmReleaseStep
  /-- R269: A boot step fails or exceeds its limit; the boot record is updated, BOOT_FAIL is
  recorded and a boot-retry cold reset follows. -/
  | bootStepFail (plls : Fin 4096)
  /-- R273: A write of KICK reloads the watchdog, or expires it at once for a wrong value. -/
  | wdogKick (i : Init) (v : BitVec 16)
  /-- R273: The watchdog count expires, causing a warm or cold reset. -/
  | wdogExpire
  /-- R276: PC_MODE_REQ with GO requests a mode transition, which is taken or refused with
  MODE_REFUSED. -/
  | modeRequest (i : Init) (m : Fin 16)
  /-- R278: 40 ms after entry, platform control ends Activation and returns to RETURN. -/
  | activationLimit
  /-- R270: A PC_BOOT_CLR write clears CONSEC or path flags, or is refused with BOOT_REFUSED. -/
  | bootClr (i : Init) (consec : Bool) (flags : Fin 16)
  /-- R268: PC_HBOOT_CTRL.GO starts reading the host boot image by DMA, or is refused. -/
  | hbootStart (i : Init)
  /-- R268: The host boot image read ends done or with a read error. -/
  | hbootDone (ok : Bool) (image : List Byte)
  /-- R356: A supply leaves its operating range or Tj reaches 125 °C, raising SUPPLY_WARN or
  THERM_WARN. -/
  | monitorWarn (which : Fin 10) (tj : Byte)
  /-- R283: PROG_KEY_HASH programs a key hash into an empty slot. -/
  | otpProgKeyHash (i : Init) (slot : Fin 8) (key : BitVec 16)
  /-- R288: REVOKE revokes a key slot, or is refused. -/
  | otpRevoke (i : Init) (slot : Fin 8) (key : BitVec 16)
  /-- R287: RB_ADVANCE raises an anti-rollback counter, or is refused. -/
  | otpRbAdvance (i : Init) (ix : Fin 8) (key : BitVec 16)
  /-- R283: PROG_DBG_HASH programs the owner debug key hash. -/
  | otpProgDbgHash (i : Init) (key : BitVec 16)
  /-- R283: LC_ADVANCE programs the next lifecycle stage, effective at the next cold reset. -/
  | otpLcAdvance (i : Init) (target : Fin 8) (key : BitVec 16)
  /-- R283: An OTP command completes and raises OTP_DONE. -/
  | otpDone
  /-- R290: MEAS_EXT extends a measurement register 3–7 with MEAS_IN, or is refused. -/
  | measExtend (i : Init) (ix : Fin 8)
  /-- R292: QUOTE_CMD.GO snapshots the quote fields over the nonce and starts signing, or is
  refused with SC_BUSY. -/
  | quoteStart (i : Init)
  /-- R292: The signed quote is written to QUOTE_DATA and STATE reads DONE. -/
  | quoteDone
  /-- R293: SEAL stores a key in an empty vault slot. -/
  | vaultSeal (i : Init) (slot : Fin 32) (long : Bool)
  /-- R293: ERASE empties a vault slot. -/
  | vaultErase (i : Init) (slot : Fin 32)
  /-- R293: LOAD places a vault slot's key in the working key register. -/
  | vaultLoad (i : Init) (slot : Fin 32)
  /-- R293: DERIVE places a key derived from a vault slot and a label in the working key register.
  -/
  | vaultDerive (i : Init) (slot : Fin 32)
  /-- R293: UNWRAP unwraps a key-wrap blob under the working key into the traffic key staging. -/
  | vaultUnwrap (i : Init)
  /-- R293: CMAC computes AES-CMAC of the data window under the working key. -/
  | vaultCmac (i : Init)
  /-- R293: CLEAR empties the working key register. -/
  | vaultClear (i : Init)
  /-- R294: A write to TK_STG_KEY or TK_STG_SALT fills the traffic key staging and raises
  STG_VALID. -/
  | tkStageWrite (i : Init) (salt : Bool) (w : Fin 8) (v : Word)
  /-- R295: TK READ returns VALID, LEN, SALT_VALID and CHECK of a traffic key entry. -/
  | tkRead (i : Init) (ix : Fin 4096)
  /-- R295: TK COMMIT swaps the staged key into an entry when its check value matches, or is
  refused. -/
  | tkCommit (i : Init) (ix : Fin 4096)
  /-- R295: TK DELETE clears VALID of a traffic key entry. -/
  | tkDelete (i : Init) (ix : Fin 4096)
  /-- R294: TK CLEAR_STAGE empties the traffic key staging. -/
  | tkClearStage (i : Init)
  /-- R297: DBG CHALLENGE places a fresh random challenge, or is refused under lockout. -/
  | dbgChallenge (i : Init)
  /-- R297: DBG RESPOND checks the signed token and grants the level, or is refused and counted.
  -/
  | dbgRespond (i : Init) (level : Fin 4) (raneltik : Bool)
  /-- R298: DBG DROP lowers the debug level at once. -/
  | dbgDrop (i : Init) (level : Fin 4)
  /-- R307: A Sapling DATA message is checked, stored and acknowledged, starts a session, or is
  dropped. -/
  | sapDataRx (src : Word) (port : BitVec 16) (msg : List Byte)
  /-- R309: An ACK from a downstream peer advances its window and progress. -/
  | sapAckRx (src : Word) (port : BitVec 16) (msg : List Byte)
  /-- R309: A STATUS from a downstream peer updates its progress, ends a stall, or marks it
  REFUSED. -/
  | sapStatusRx (src : Word) (port : BitVec 16) (msg : List Byte)
  /-- R311: A QUERY is answered with a STATUS for the session. -/
  | sapQueryRx (src : Word) (port : BitVec 16) (msg : List Byte)
  /-- R311: An ABORT message from upstream ends the session and is passed to every downstream
  peer. -/
  | sapAbortRx (src : Word) (port : BitVec 16) (msg : List Byte)
  /-- R306: An ARP request for SAP_IP is answered with the device's own address. -/
  | sapArpRx (src target : Word)
  /-- R307: A block unacknowledged for 20 ms is retransmitted, or after eight sends the peer is
  marked STALLED. -/
  | sapRetxTimeout (k : Fin 4) (n : Fin 8192)
  /-- R307: Every 1 s a STALLED peer is sent a QUERY. -/
  | sapQueryTimer (k : Fin 4)
  /-- R308: The inactive slot's erase completes, block 0 is stored and verified, and the state
  becomes RECEIVING. -/
  | sapEraseDone
  /-- R313: SAP_CMD ACTIVATE starts the activation of a READY Sapling, or is refused with a code.
  -/
  | sapActivate (i : Init)
  /-- R311: SAP_CMD ABORT ends the session and sends ABORT to every downstream peer. -/
  | sapAbort (i : Init)
  /-- R323: A scrubber visits a word, corrects a single-bit error or reports a stuck or double-bit
  word. -/
  | scrubVisit (mem : Fin 16) (inst : Fin 256) (addr : Word) (bits : Fin 3)
  /-- R328: A clock monitor finds a clock outside ±2 % or stopped and reports CLOCK_REF or
  CLOCK_PLL. -/
  | clockFault (pll : Option (Fin 12)) (khz : Nat)
  /-- R331: Writing SD_INJECT.GO arms one fault for the next matching write or frame, or is
  refused. -/
  | sdInject (i : Init) (kind : Fin 4) (mem : Fin 16) (inst : Fin 256)
  /-- R333: The Chamber writer programs the next queued record into its slot and reads it back. -/
  | chamberWrite (ok : Bool)
  /-- R336: The Chamber scan ends, finding the highest SEQ and any torn slot. -/
  | chamberScanDone
  /-- R337: Writing CH_SEL copies a Chamber slot into CH_DATA and shows whether it is valid. -/
  | chSel (i : Init) (slot : Fin 16384)
  /-- R337: CH_WCMD.GO raises a firmware record, or is refused with CH_REFUSED. -/
  | chWcmd (i : Init) (cause : BitVec 16)
  /-- R340: CAL_CMD LOAD fills the calibration staging copy from the copy in use. -/
  | calLoad (i : Init)
  /-- R340: CAL_CMD COMMIT writes the staging copy into both calibration copies and queues
  CAL_WRITE, or is refused. -/
  | calCommit (i : Init) (key : BitVec 16)
  /-- R341: OPT_CMD LOAD fills the option staging copy from the options in use. -/
  | optLoad (i : Init)
  /-- R341: OPT_CMD COMMIT writes the option staging copy into both copies and queues OPT_WRITE,
  or is refused. -/
  | optCommit (i : Init) (key : BitVec 16)
  /-- R370: An enabled or freshly reset CAN controller sees 11 consecutive recessive bits, ends
  integration (STATE 3) and takes part on the bus, raising STATE and a CAN_STATE event. -/
  | canIntegrationDone (n : Fin 64)
  /-- R269: A boot step such as fetch, verify or measure completes its pass condition, BOOT_STEP
  advances, and at step 12 the device leaves Secure Start for M2, M7 or M11. -/
  | bootStepPass (read : List Byte)
  /-- R261: A held thermal or supply-monitor cold reset ends when Tj falls to 120 °C or every
  supply has been in range for 1 ms, and release begins. -/
  | heldResetRelease (thermal : Bool)
  /-- R356: A supply returns into its operating range or Tj falls below 125 °C, so its SUPPLY_OK
  bit rises and THERM_WARN clears, letting SAFE and the relay HOLD bits clear. -/
  | monitorClear (which : Fin 10) (tj : Byte)
  /-- R169: The link partner enters or leaves low-power idle; RX_LPI follows it, and on entry
  STAMP_READY falls. -/
  | rxLpiChange (n : Fin 16) (on : Bool)
  /-- R248: INH_LEAD_MS after a command, late-request or unchecked pin wake, the group becomes
  AWAKE and, from M0 or M1, the cold release starts. -/
  | groupAwake (g : Fin 8)
  /-- R121: A base RV32IMC instruction on a Grove thread raises illegal instruction, EBREAK, ECALL
  or a misaligned or out-of-map access, and the thread takes that fault. -/
  | threadException (t : Fin 128) (cause : Fin 7) (pc : Word)
  /-- R261: RSTn returns high and the cold or warm release sequence begins. -/
  | rstnRelease
  deriving DecidableEq, Repr

end Sys2Proof
end

