-- ==== Sys2Proof/Machine/RegMap.lean ====
section
/-! DEFINITION. The register map: every register of every page as data (offset, array size and
stride, fields with position, access code of R22, reset value and reset domain of R23), read off
the register tables of the spec's chapters, and the named addresses (`R.`) and fields (`F.`)
that the meanings use. The page header is R21 and R28, the page addresses are R19. -/

namespace Sys2Proof.Machine
open Sys2Proof

/-- R22: access codes. -/
inductive Acc where
  | rw | ro | w1c | w1s | wo | rwl
  deriving DecidableEq, Repr

/-- R23: reset domains, from the lightest to the heaviest. -/
inductive Dom where
  | b | w | c | p
  deriving DecidableEq, Repr

/-- The order of R23. -/
def domRank : Dom → Nat
  | .b => 0
  | .w => 1
  | .c => 2
  | .p => 3

/-- One field of a register: its lowest bit, its width, how it is accessed, what reset loads
and which reset loads it. -/
structure FieldDef where
  lo : Nat
  width : Nat
  acc : Acc
  rst : Nat
  dom : Dom
  deriving DecidableEq, Repr

/-- One register, or an array of `count` registers `stride` bytes apart. -/
structure RegDef where
  off : Nat
  count : Nat
  stride : Nat
  fields : List FieldDef
  deriving DecidableEq, Repr

/-- A field at an absolute address of the register space. -/
structure Fld where
  addr : Nat
  lo : Nat
  width : Nat
  deriving DecidableEq, Repr

/-- The header of every page (R21, R28). -/
def mapHeader : List RegDef := [
  ⟨0x008, 1, 0x4, [⟨31, 1, .w1s, 0x0, .w⟩, ⟨1, 1, .w1s, 0x0, .b⟩, ⟨0, 1, .rwl, 0x0, .b⟩]⟩,
  ⟨0x010, 1, 0x4, [⟨0, 32, .w1c, 0x0, .b⟩]⟩,
  ⟨0x014, 1, 0x4, [⟨0, 32, .rw, 0x0, .b⟩]⟩,
  ⟨0x01C, 1, 0x4, [⟨0, 32, .wo, 0x0, .b⟩]⟩,
  ⟨0x020, 1, 0x4, [⟨31, 1, .w1c, 0x0, .b⟩, ⟨30, 1, .w1c, 0x0, .b⟩, ⟨0, 16, .ro, 0x0, .b⟩]⟩,
  ⟨0x024, 1, 0x4, [⟨28, 4, .ro, 0x0, .b⟩, ⟨0, 26, .ro, 0x0, .b⟩]⟩,
  ⟨0x028, 1, 0x4, [⟨0, 32, .ro, 0x0, .b⟩]⟩,
  ⟨0x02C, 1, 0x4, [⟨0, 32, .ro, 0x0, .b⟩]⟩]

/-- Registers of page kind MC0 (ch01). -/
def mapMC0 : List RegDef := [
  ⟨0x040, 1, 0x4, [⟨16, 16, .ro, 0x0, .c⟩, ⟨4, 4, .ro, 0x0, .c⟩, ⟨2, 1, .ro, 0x1, .p⟩, ⟨1, 1, .ro, 0x0, .c⟩, ⟨0, 1, .ro, 0x0, .c⟩]⟩]

/-- Registers of page kind MC1 (ch15). -/
def mapMC1 : List RegDef := [
  ⟨0x040, 1, 0x4, [⟨31, 1, .rw, 0x0, .w⟩, ⟨24, 4, .rw, 0x0, .w⟩, ⟨0, 16, .rw, 0x5350, .w⟩]⟩,
  ⟨0x044, 1, 0x4, [⟨0, 32, .rw, 0x0, .w⟩]⟩,
  ⟨0x048, 4, 0x4, [⟨0, 32, .rw, 0x0, .w⟩]⟩,
  ⟨0x058, 1, 0x4, [⟨0, 20, .rw, 0xFFFFF, .w⟩]⟩,
  ⟨0x05C, 1, 0x4, [⟨0, 16, .rw, 0x32, .w⟩]⟩,
  ⟨0x060, 1, 0x4, [⟨0, 20, .rw, 0xFFFFF, .w⟩]⟩,
  ⟨0x064, 1, 0x4, [⟨0, 16, .rw, 0x2CEC, .w⟩]⟩,
  ⟨0x068, 1, 0x4, [⟨0, 32, .ro, 0x0, .w⟩]⟩,
  ⟨0x070, 1, 0x4, [⟨31, 1, .w1s, 0x0, .w⟩, ⟨24, 4, .rw, 0x0, .w⟩]⟩,
  ⟨0x074, 1, 0x4, [⟨0, 8, .ro, 0x0, .w⟩]⟩,
  ⟨0x078, 1, 0x4, [⟨28, 4, .ro, 0x0, .w⟩, ⟨24, 1, .ro, 0x0, .w⟩, ⟨0, 5, .ro, 0x0, .w⟩]⟩,
  ⟨0x07C, 1, 0x4, [⟨16, 14, .ro, 0x0, .w⟩, ⟨0, 14, .ro, 0x0, .w⟩]⟩,
  ⟨0x080, 4, 0x4, [⟨16, 14, .ro, 0x0, .w⟩, ⟨0, 3, .ro, 0x0, .w⟩]⟩,
  ⟨0x0A0, 1, 0x4, [⟨0, 32, .ro, 0x0, .w⟩]⟩,
  ⟨0x0A4, 1, 0x4, [⟨0, 32, .ro, 0x0, .w⟩]⟩,
  ⟨0x0A8, 1, 0x4, [⟨0, 32, .ro, 0x0, .w⟩]⟩]

/-- Registers of page kind PC0 (ch13). -/
def mapPC0 : List RegDef := [
  ⟨0x040, 1, 0x4, [⟨31, 1, .ro, 0x0, .c⟩, ⟨24, 4, .ro, 0x0, .c⟩, ⟨16, 4, .ro, 0x0, .c⟩, ⟨0, 4, .ro, 0x3, .c⟩]⟩,
  ⟨0x044, 1, 0x4, [⟨31, 1, .w1s, 0x0, .c⟩, ⟨0, 4, .rw, 0x0, .c⟩]⟩,
  ⟨0x050, 1, 0x4, [⟨31, 1, .w1c, 0x0, .p⟩, ⟨16, 2, .ro, 0x1, .p⟩, ⟨0, 10, .w1c, 0x1, .p⟩]⟩,
  ⟨0x054, 1, 0x4, [⟨16, 16, .wo, 0x0, .c⟩, ⟨1, 1, .wo, 0x0, .c⟩, ⟨0, 1, .wo, 0x0, .c⟩]⟩,
  ⟨0x058, 1, 0x4, [⟨0, 1, .rwl, 0x0, .p⟩]⟩,
  ⟨0x05C, 1, 0x4, [⟨16, 16, .ro, 0x0, .p⟩, ⟨0, 16, .ro, 0x0, .p⟩]⟩,
  ⟨0x060, 1, 0x4, [⟨31, 1, .w1s, 0x0, .w⟩, ⟨0, 16, .rwl, 0x3E8, .w⟩]⟩,
  ⟨0x064, 1, 0x4, [⟨0, 16, .wo, 0x0, .w⟩]⟩,
  ⟨0x068, 1, 0x4, [⟨0, 16, .ro, 0x0, .w⟩]⟩]

/-- Registers of page kind PC1 (ch13). -/
def mapPC1 : List RegDef := [
  ⟨0x040, 1, 0x4, [⟨2, 2, .ro, 0x0, .p⟩, ⟨0, 2, .ro, 0x0, .p⟩]⟩,
  ⟨0x044, 1, 0x4, [⟨31, 1, .ro, 0x0, .c⟩, ⟨16, 4, .ro, 0x0, .c⟩, ⟨0, 4, .ro, 0x0, .c⟩]⟩,
  ⟨0x048, 1, 0x4, [⟨31, 1, .ro, 0x1, .p⟩, ⟨8, 4, .ro, 0x0, .p⟩, ⟨4, 2, .ro, 0x0, .p⟩, ⟨0, 4, .ro, 0x0, .p⟩]⟩,
  ⟨0x04C, 1, 0x4, [⟨8, 1, .w1s, 0x0, .c⟩, ⟨0, 4, .w1s, 0x0, .c⟩]⟩,
  ⟨0x050, 1, 0x4, [⟨16, 8, .ro, 0x0, .c⟩, ⟨8, 1, .ro, 0x0, .c⟩, ⟨0, 3, .ro, 0x0, .c⟩]⟩,
  ⟨0x060, 1, 0x4, [⟨0, 32, .rw, 0x0, .c⟩]⟩,
  ⟨0x064, 1, 0x4, [⟨0, 32, .rw, 0x0, .c⟩]⟩,
  ⟨0x068, 1, 0x4, [⟨0, 24, .rw, 0x0, .c⟩]⟩,
  ⟨0x06C, 1, 0x4, [⟨31, 1, .w1s, 0x0, .c⟩, ⟨0, 2, .ro, 0x0, .c⟩]⟩,
  ⟨0x070, 1, 0x4, [⟨31, 1, .ro, 0x0, .c⟩, ⟨16, 12, .ro, 0x0, .p⟩, ⟨0, 2, .ro, 0x0, .c⟩]⟩]

/-- Registers of page kind PC2 (ch13). -/
def mapPC2 : List RegDef := [
  ⟨0x040, 1, 0x4, [⟨16, 8, .ro, 0x0, .c⟩, ⟨8, 4, .ro, 0x0, .c⟩, ⟨0, 5, .ro, 0x0, .c⟩]⟩,
  ⟨0x044, 1, 0x4, [⟨24, 8, .ro, 0x0, .c⟩, ⟨17, 1, .ro, 0x0, .c⟩, ⟨0, 9, .ro, 0x0, .c⟩]⟩]

/-- Registers of page kind PC3 (ch12). -/
def mapPC3 : List RegDef := [
  ⟨0x040, 1, 0x4, [⟨31, 1, .w1s, 0x0, .p⟩, ⟨24, 2, .rw, 0x0, .p⟩, ⟨0, 8, .rw, 0x0, .p⟩]⟩,
  ⟨0x044, 1, 0x4, [⟨0, 16, .ro, 0x0, .p⟩]⟩,
  ⟨0x048, 1, 0x4, [⟨0, 16, .ro, 0x5555, .p⟩]⟩,
  ⟨0x04C, 1, 0x4, [⟨8, 8, .rw, 0x0, .p⟩, ⟨0, 8, .rw, 0x0, .p⟩]⟩,
  ⟨0x050, 1, 0x4, [⟨31, 1, .rw, 0x1, .p⟩, ⟨30, 1, .rw, 0x1, .p⟩, ⟨8, 8, .rw, 0x2, .p⟩, ⟨0, 8, .rw, 0x5, .p⟩]⟩,
  ⟨0x054, 1, 0x4, [⟨0, 16, .rw, 0xAAAA, .p⟩]⟩,
  ⟨0x058, 1, 0x4, [⟨0, 32, .ro, 0x0, .p⟩]⟩,
  ⟨0x060, 4, 0x4, [⟨31, 1, .rw, 0x0, .p⟩, ⟨30, 1, .rw, 0x1, .p⟩, ⟨29, 1, .ro, 0x1, .p⟩, ⟨0, 8, .rw, 0x0, .p⟩]⟩,
  ⟨0x070, 8, 0x4, [⟨31, 1, .rw, 0x0, .p⟩, ⟨29, 2, .rw, 0x0, .p⟩, ⟨28, 1, .rw, 0x0, .p⟩, ⟨16, 8, .rw, 0xA, .p⟩, ⟨0, 8, .rw, 0x0, .p⟩]⟩,
  ⟨0x090, 1, 0x4, [⟨31, 1, .w1c, 0x0, .p⟩, ⟨24, 4, .ro, 0x0, .p⟩, ⟨8, 8, .ro, 0x0, .p⟩, ⟨0, 8, .ro, 0x0, .p⟩]⟩,
  ⟨0x094, 1, 0x4, [⟨0, 32, .ro, 0x0, .p⟩]⟩,
  ⟨0x0A0, 1, 0x4, [⟨0, 32, .ro, 0x0, .p⟩]⟩,
  ⟨0x0A4, 1, 0x4, [⟨0, 32, .ro, 0x0, .p⟩]⟩,
  ⟨0x0A8, 1, 0x4, [⟨0, 32, .ro, 0x0, .p⟩]⟩,
  ⟨0x0AC, 1, 0x4, [⟨0, 32, .ro, 0x0, .p⟩]⟩]

/-- Registers of page kind PC4 (ch12). -/
def mapPC4 : List RegDef := [
  ⟨0x040, 1, 0x4, [⟨31, 1, .rw, 0x0, .p⟩, ⟨30, 1, .rw, 0x0, .p⟩, ⟨29, 1, .rw, 0x0, .p⟩, ⟨16, 6, .rw, 0x0, .p⟩, ⟨8, 6, .rw, 0x0, .p⟩]⟩,
  ⟨0x044, 1, 0x4, [⟨29, 1, .rw, 0x0, .p⟩, ⟨0, 29, .rw, 0x400, .p⟩]⟩,
  ⟨0x048, 1, 0x4, [⟨0, 32, .rw, 0x0, .p⟩]⟩,
  ⟨0x04C, 1, 0x4, [⟨0, 32, .rw, 0x0, .p⟩]⟩,
  ⟨0x050, 1, 0x4, [⟨16, 16, .rw, 0x64, .p⟩, ⟨0, 16, .rw, 0x3E8, .p⟩]⟩,
  ⟨0x054, 1, 0x4, [⟨16, 16, .rw, 0x320, .p⟩, ⟨0, 16, .rw, 0x64, .p⟩]⟩,
  ⟨0x058, 1, 0x4, [⟨0, 3, .rw, 0x0, .p⟩]⟩,
  ⟨0x05C, 1, 0x4, [⟨24, 8, .rw, 0x0, .p⟩, ⟨0, 24, .rw, 0x0, .p⟩]⟩,
  ⟨0x060, 1, 0x4, [⟨0, 16, .rw, 0x3E8, .p⟩]⟩,
  ⟨0x064, 1, 0x4, [⟨0, 32, .w1s, 0x0, .p⟩]⟩,
  ⟨0x068, 1, 0x4, [⟨0, 32, .w1s, 0x0, .p⟩]⟩,
  ⟨0x06C, 1, 0x4, [⟨0, 32, .wo, 0x0, .p⟩]⟩,
  ⟨0x070, 1, 0x4, [⟨0, 32, .wo, 0x0, .p⟩]⟩,
  ⟨0x074, 1, 0x4, [⟨0, 16, .rw, 0xBB8, .p⟩]⟩,
  ⟨0x078, 1, 0x4, [⟨16, 8, .ro, 0x0, .p⟩, ⟨8, 1, .ro, 0x0, .p⟩, ⟨0, 3, .ro, 0x0, .p⟩]⟩,
  ⟨0x07C, 1, 0x4, [⟨0, 16, .ro, 0x0, .p⟩]⟩,
  ⟨0x080, 1, 0x4, [⟨0, 32, .ro, 0x0, .p⟩]⟩,
  ⟨0x084, 1, 0x4, [⟨0, 32, .ro, 0x0, .p⟩]⟩,
  ⟨0x088, 1, 0x4, [⟨0, 32, .ro, 0x0, .p⟩]⟩,
  ⟨0x08C, 1, 0x4, [⟨0, 32, .ro, 0x0, .p⟩]⟩,
  ⟨0x090, 1, 0x4, [⟨0, 1, .w1s, 0x0, .p⟩]⟩,
  ⟨0x0A0, 1, 0x4, [⟨0, 32, .ro, 0x0, .p⟩]⟩,
  ⟨0x0A4, 1, 0x4, [⟨0, 32, .ro, 0x0, .p⟩]⟩,
  ⟨0x0A8, 1, 0x4, [⟨0, 32, .ro, 0x0, .p⟩]⟩,
  ⟨0x0AC, 1, 0x4, [⟨0, 32, .ro, 0x0, .p⟩]⟩]

/-- Registers of page kind PC5 (ch16). -/
def mapPC5 : List RegDef := [
  ⟨0x040, 1, 0x4, [⟨0, 32, .ro, 0xFFFFFFFF, .p⟩]⟩,
  ⟨0x044, 1, 0x4, [⟨31, 1, .ro, 0x0, .c⟩, ⟨30, 1, .ro, 0x0, .c⟩, ⟨0, 7, .ro, 0x0, .c⟩]⟩,
  ⟨0x048, 1, 0x4, [⟨0, 32, .ro, 0x0, .c⟩]⟩,
  ⟨0x04C, 1, 0x4, [⟨0, 16, .rwl, 0xA, .c⟩]⟩,
  ⟨0x050, 1, 0x4, [⟨31, 1, .ro, 0x0, .c⟩, ⟨0, 14, .rw, 0x0, .c⟩]⟩,
  ⟨0x060, 16, 0x4, [⟨0, 32, .ro, 0x0, .c⟩]⟩,
  ⟨0x0A0, 1, 0x4, [⟨31, 1, .w1s, 0x0, .c⟩, ⟨0, 16, .rw, 0x0, .c⟩]⟩,
  ⟨0x0C0, 10, 0x4, [⟨0, 32, .rw, 0x0, .c⟩]⟩,
  ⟨0x100, 1, 0x4, [⟨31, 1, .ro, 0x1, .p⟩, ⟨30, 1, .ro, 0x0, .p⟩, ⟨29, 1, .ro, 0x0, .c⟩, ⟨0, 16, .ro, 0x0, .p⟩]⟩,
  ⟨0x104, 1, 0x4, [⟨0, 32, .ro, 0x49B31C60, .p⟩]⟩,
  ⟨0x108, 1, 0x4, [⟨0, 9, .rw, 0x0, .c⟩]⟩,
  ⟨0x10C, 1, 0x4, [⟨0, 32, .rw, 0x0, .c⟩]⟩,
  ⟨0x110, 1, 0x4, [⟨31, 1, .w1s, 0x0, .c⟩, ⟨24, 2, .rw, 0x0, .c⟩, ⟨0, 16, .wo, 0x0, .c⟩]⟩,
  ⟨0x200, 1, 0x4, [⟨0, 11, .rw, 0x0, .c⟩]⟩,
  ⟨0x204, 1, 0x4, [⟨0, 32, .rw, 0x0, .c⟩]⟩,
  ⟨0x208, 1, 0x4, [⟨31, 1, .w1s, 0x0, .c⟩, ⟨24, 2, .rw, 0x0, .c⟩, ⟨0, 16, .wo, 0x0, .c⟩]⟩,
  ⟨0x20C, 1, 0x4, [⟨0, 32, .ro, 0x90444623, .p⟩]⟩]

/-- Registers of page kind SD0 (ch00,ch16). -/
def mapSD0 : List RegDef := [
  ⟨0x040, 1, 0x4, [⟨0, 32, .ro, 0x0, .p⟩]⟩,
  ⟨0x044, 1, 0x4, [⟨0, 32, .ro, 0x0, .p⟩]⟩,
  ⟨0x048, 1, 0x4, [⟨0, 16, .ro, 0x0, .p⟩]⟩,
  ⟨0x04C, 1, 0x4, [⟨16, 8, .ro, 0x0, .p⟩, ⟨8, 8, .ro, 0x0, .p⟩, ⟨0, 5, .ro, 0x0, .p⟩]⟩,
  ⟨0x050, 1, 0x4, [⟨24, 4, .ro, 0x2, .p⟩, ⟨16, 8, .ro, 0x10, .p⟩, ⟨0, 16, .ro, 0x6416, .p⟩]⟩,
  ⟨0x060, 1, 0x4, [⟨31, 1, .ro, 0x0, .c⟩, ⟨4, 5, .ro, 0x0, .c⟩, ⟨3, 1, .ro, 0x0, .c⟩, ⟨2, 1, .ro, 0x0, .c⟩, ⟨1, 1, .ro, 0x0, .c⟩, ⟨0, 1, .ro, 0x0, .c⟩]⟩]

/-- Registers of page kind SD1 (ch16). -/
def mapSD1 : List RegDef := [
  ⟨0x040, 32, 0x4, [⟨31, 1, .rwl, 0x0, .c⟩, ⟨30, 1, .rwl, 0x0, .c⟩, ⟨29, 1, .rwl, 0x0, .c⟩, ⟨0, 3, .rwl, 0x0, .c⟩]⟩,
  ⟨0x0C0, 32, 0x4, [⟨0, 32, .ro, 0x0, .c⟩]⟩,
  ⟨0x140, 1, 0x4, [⟨31, 1, .w1c, 0x0, .c⟩, ⟨0, 5, .ro, 0x0, .c⟩]⟩]

/-- Registers of page kind SD2 (ch16). -/
def mapSD2 : List RegDef := [
  ⟨0x040, 1, 0x4, [⟨31, 1, .rwl, 0x1, .c⟩]⟩,
  ⟨0x044, 1, 0x4, [⟨0, 4, .rw, 0x1, .c⟩]⟩,
  ⟨0x048, 1, 0x4, [⟨16, 16, .ro, 0x0, .c⟩, ⟨0, 16, .ro, 0x0, .c⟩]⟩,
  ⟨0x04C, 1, 0x4, [⟨0, 32, .ro, 0x0, .c⟩]⟩,
  ⟨0x050, 1, 0x4, [⟨0, 32, .ro, 0x0, .c⟩]⟩]

/-- Registers of page kind SD3 (ch16). -/
def mapSD3 : List RegDef := [
  ⟨0x040, 1, 0x4, [⟨31, 1, .w1s, 0x0, .w⟩, ⟨24, 2, .rw, 0x0, .w⟩, ⟨16, 4, .rw, 0x0, .w⟩, ⟨8, 8, .rw, 0x0, .w⟩]⟩,
  ⟨0x044, 1, 0x4, [⟨0, 32, .rw, 0x0, .w⟩]⟩]

/-- Registers of page kind SC0 (ch14). -/
def mapSC0 : List RegDef := [
  ⟨0x040, 1, 0x4, [⟨31, 1, .ro, 0x0, .c⟩, ⟨8, 3, .ro, 0x0, .c⟩, ⟨0, 3, .ro, 0x0, .c⟩]⟩,
  ⟨0x044, 1, 0x4, [⟨11, 1, .ro, 0x0, .c⟩, ⟨10, 1, .ro, 0x0, .c⟩, ⟨8, 1, .ro, 0x0, .c⟩, ⟨4, 4, .ro, 0x0, .c⟩, ⟨0, 4, .ro, 0x0, .c⟩]⟩,
  ⟨0x048, 1, 0x4, [⟨0, 7, .ro, 0x0, .c⟩, ⟨8, 7, .ro, 0x0, .c⟩, ⟨16, 7, .ro, 0x0, .c⟩, ⟨24, 7, .ro, 0x0, .c⟩]⟩,
  ⟨0x04C, 1, 0x4, [⟨24, 7, .ro, 0x0, .w⟩, ⟨12, 2, .ro, 0x0, .w⟩, ⟨8, 4, .ro, 0x0, .w⟩, ⟨0, 3, .ro, 0x0, .w⟩]⟩,
  ⟨0x050, 1, 0x4, [⟨31, 1, .w1s, 0x0, .w⟩, ⟨24, 4, .rw, 0x0, .w⟩, ⟨16, 3, .rw, 0x0, .w⟩, ⟨0, 16, .wo, 0x0, .w⟩]⟩,
  ⟨0x054, 1, 0x4, [⟨0, 7, .rw, 0x0, .w⟩]⟩,
  ⟨0x058, 1, 0x4, [⟨0, 16, .ro, 0x0, .w⟩]⟩,
  ⟨0x060, 8, 0x4, [⟨0, 32, .rw, 0x0, .w⟩]⟩]

/-- Registers of page kind SC1 (ch14). -/
def mapSC1 : List RegDef := [
  ⟨0x040, 64, 0x4, [⟨0, 32, .ro, 0x0, .w⟩]⟩,
  ⟨0x140, 8, 0x4, [⟨0, 32, .rw, 0x0, .w⟩]⟩,
  ⟨0x160, 1, 0x4, [⟨31, 1, .w1s, 0x0, .w⟩, ⟨0, 3, .rw, 0x0, .w⟩]⟩,
  ⟨0x170, 1, 0x4, [⟨31, 1, .w1s, 0x0, .w⟩, ⟨0, 2, .ro, 0x0, .w⟩]⟩,
  ⟨0x180, 8, 0x4, [⟨0, 32, .rw, 0x0, .w⟩]⟩,
  ⟨0x200, 192, 0x4, [⟨0, 32, .ro, 0x0, .w⟩]⟩,
  ⟨0x600, 96, 0x4, [⟨0, 32, .ro, 0x0, .c⟩]⟩,
  ⟨0x800, 96, 0x4, [⟨0, 32, .ro, 0x0, .c⟩]⟩]

/-- Registers of page kind SC2 (ch14). -/
def mapSC2 : List RegDef := [
  ⟨0x040, 1, 0x4, [⟨31, 1, .w1s, 0x0, .w⟩, ⟨24, 3, .rw, 0x0, .w⟩, ⟨8, 1, .rw, 0x0, .w⟩, ⟨0, 5, .rw, 0x0, .w⟩]⟩,
  ⟨0x044, 1, 0x4, [⟨0, 16, .ro, 0x0, .w⟩]⟩,
  ⟨0x048, 1, 0x4, [⟨0, 32, .ro, 0x0, .c⟩]⟩,
  ⟨0x04C, 1, 0x4, [⟨31, 1, .ro, 0x0, .w⟩, ⟨30, 1, .ro, 0x0, .w⟩, ⟨24, 5, .ro, 0x0, .w⟩, ⟨0, 24, .ro, 0x0, .w⟩]⟩,
  ⟨0x060, 8, 0x4, [⟨0, 32, .wo, 0x0, .w⟩]⟩,
  ⟨0x080, 1, 0x4, [⟨0, 9, .rw, 0x0, .w⟩]⟩,
  ⟨0x090, 4, 0x4, [⟨0, 32, .ro, 0x0, .w⟩]⟩,
  ⟨0x100, 64, 0x4, [⟨0, 32, .rw, 0x0, .w⟩]⟩]

/-- Registers of page kind SC3 (ch14). -/
def mapSC3 : List RegDef := [
  ⟨0x040, 1, 0x4, [⟨31, 1, .w1s, 0x0, .w⟩, ⟨24, 3, .rw, 0x0, .w⟩, ⟨0, 12, .rw, 0x0, .w⟩]⟩,
  ⟨0x044, 1, 0x4, [⟨0, 16, .ro, 0x0, .w⟩]⟩,
  ⟨0x048, 1, 0x4, [⟨31, 1, .ro, 0x0, .w⟩, ⟨30, 1, .rw, 0x0, .w⟩, ⟨29, 1, .rw, 0x0, .w⟩, ⟨28, 1, .ro, 0x0, .w⟩, ⟨0, 24, .rw, 0x0, .w⟩]⟩,
  ⟨0x060, 8, 0x4, [⟨0, 32, .wo, 0x0, .w⟩]⟩,
  ⟨0x080, 3, 0x4, [⟨0, 32, .wo, 0x0, .w⟩]⟩,
  ⟨0x090, 1, 0x4, [⟨31, 1, .ro, 0x0, .w⟩, ⟨30, 1, .ro, 0x0, .w⟩, ⟨29, 1, .ro, 0x0, .w⟩, ⟨0, 24, .ro, 0x0, .w⟩]⟩,
  ⟨0x094, 1, 0x4, [⟨0, 32, .ro, 0x0, .w⟩]⟩,
  ⟨0x098, 1, 0x4, [⟨0, 32, .ro, 0x0, .w⟩]⟩]

/-- Registers of page kind SC4 (ch14). -/
def mapSC4 : List RegDef := [
  ⟨0x040, 1, 0x4, [⟨8, 1, .ro, 0x0, .c⟩, ⟨4, 2, .ro, 0x0, .c⟩, ⟨0, 2, .ro, 0x0, .c⟩]⟩,
  ⟨0x044, 1, 0x4, [⟨31, 1, .w1s, 0x0, .w⟩, ⟨24, 2, .rw, 0x0, .w⟩, ⟨16, 2, .rw, 0x0, .w⟩, ⟨8, 1, .rw, 0x0, .w⟩]⟩,
  ⟨0x048, 1, 0x4, [⟨0, 16, .ro, 0x0, .w⟩]⟩,
  ⟨0x060, 8, 0x4, [⟨0, 32, .ro, 0x0, .w⟩]⟩,
  ⟨0x100, 96, 0x4, [⟨0, 32, .rw, 0x0, .w⟩]⟩,
  ⟨0x300, 96, 0x4, [⟨0, 32, .rw, 0x0, .w⟩]⟩]

/-- Registers of page kind TL0 (ch03). -/
def mapTL0 : List RegDef := [
  ⟨0x040, 1, 0x4, [⟨0, 1, .w1s, 0x0, .c⟩]⟩,
  ⟨0x044, 1, 0x4, [⟨16, 16, .ro, 0x0, .c⟩, ⟨2, 1, .ro, 0x0, .c⟩, ⟨1, 1, .ro, 0x0, .p⟩, ⟨0, 1, .ro, 0x0, .c⟩]⟩,
  ⟨0x048, 1, 0x4, [⟨0, 32, .ro, 0x0, .c⟩]⟩,
  ⟨0x060, 5, 0x10, [⟨0, 32, .ro, 0x0, .c⟩]⟩,
  ⟨0x064, 5, 0x10, [⟨0, 16, .ro, 0x0, .c⟩]⟩,
  ⟨0x068, 5, 0x10, [⟨0, 30, .ro, 0x0, .c⟩]⟩,
  ⟨0x06C, 5, 0x10, [⟨31, 1, .ro, 0x0, .c⟩, ⟨16, 8, .ro, 0x0, .c⟩, ⟨0, 16, .ro, 0x0, .c⟩]⟩]

/-- Registers of page kind TLD (ch03). -/
def mapTLD : List RegDef := [
  ⟨0x040, 1, 0x4, [⟨31, 1, .w1s, 0x0, .c⟩, ⟨20, 4, .rw, 0x2, .c⟩, ⟨16, 4, .rw, 0x1, .c⟩, ⟨8, 8, .rw, 0xFD, .c⟩, ⟨1, 1, .rw, 0x0, .c⟩, ⟨0, 1, .rw, 0x0, .c⟩]⟩,
  ⟨0x044, 1, 0x4, [⟨24, 8, .ro, 0x0, .c⟩, ⟨20, 4, .ro, 0x0, .c⟩, ⟨16, 4, .ro, 0x0, .c⟩, ⟨3, 1, .ro, 0x0, .c⟩, ⟨0, 3, .ro, 0x0, .c⟩]⟩,
  ⟨0x048, 1, 0x4, [⟨0, 32, .rw, 0x0, .c⟩]⟩,
  ⟨0x04C, 1, 0x4, [⟨0, 16, .rw, 0x0, .c⟩]⟩,
  ⟨0x050, 1, 0x4, [⟨0, 32, .rw, 0x0, .c⟩]⟩,
  ⟨0x054, 1, 0x4, [⟨0, 16, .rw, 0x0, .c⟩]⟩,
  ⟨0x058, 1, 0x4, [⟨0, 30, .rw, 0x0, .c⟩]⟩,
  ⟨0x05C, 1, 0x4, [⟨0, 16, .rw, 0x0, .c⟩]⟩,
  ⟨0x060, 1, 0x4, [⟨0, 1, .wo, 0x0, .c⟩]⟩,
  ⟨0x064, 1, 0x4, [⟨0, 32, .rw, 0x3E8, .c⟩]⟩,
  ⟨0x068, 1, 0x4, [⟨16, 8, .rw, 0x8, .c⟩, ⟨0, 16, .rw, 0x32, .c⟩]⟩,
  ⟨0x06C, 1, 0x4, [⟨0, 32, .ro, 0x0, .b⟩]⟩,
  ⟨0x070, 1, 0x4, [⟨0, 32, .ro, 0x0, .b⟩]⟩,
  ⟨0x074, 1, 0x4, [⟨0, 32, .ro, 0x0, .b⟩]⟩]

/-- Registers of page kind TL5 (ch03). -/
def mapTL5 : List RegDef := [
  ⟨0x040, 24, 0x20, [⟨31, 1, .rw, 0x0, .c⟩, ⟨28, 2, .rw, 0x0, .c⟩, ⟨16, 1, .rw, 0x0, .c⟩, ⟨0, 16, .rw, 0x0, .c⟩]⟩,
  ⟨0x044, 24, 0x20, [⟨8, 1, .ro, 0x0, .w⟩, ⟨0, 7, .ro, 0x0, .w⟩]⟩,
  ⟨0x048, 24, 0x20, [⟨0, 32, .ro, 0x0, .w⟩]⟩,
  ⟨0x04C, 24, 0x20, [⟨0, 32, .ro, 0x0, .w⟩]⟩,
  ⟨0x050, 24, 0x20, [⟨0, 3, .ro, 0x0, .w⟩]⟩,
  ⟨0x054, 24, 0x20, [⟨0, 32, .ro, 0x0, .w⟩]⟩,
  ⟨0x058, 24, 0x20, [⟨0, 1, .wo, 0x0, .w⟩]⟩]

/-- Registers of page kind TL6 (ch03). -/
def mapTL6 : List RegDef := [
  ⟨0x040, 14, 0x4, [⟨0, 32, .rw, 0x0, .c⟩]⟩,
  ⟨0x080, 1, 0x4, [⟨12, 1, .rw, 0x0, .c⟩, ⟨8, 3, .rw, 0x0, .c⟩, ⟨0, 5, .rw, 0x0, .c⟩]⟩,
  ⟨0x084, 1, 0x4, [⟨0, 20, .ro, 0x0, .c⟩]⟩,
  ⟨0x088, 1, 0x4, [⟨0, 16, .rw, 0x0, .c⟩]⟩]

/-- Registers of page kind TL7 (ch03). -/
def mapTL7 : List RegDef := [
  ⟨0x040, 4, 0x8, [⟨31, 1, .rw, 0x0, .c⟩, ⟨30, 1, .rw, 0x0, .c⟩, ⟨29, 1, .rw, 0x0, .c⟩, ⟨8, 5, .rw, 0x0, .c⟩, ⟨0, 8, .rw, 0x0, .c⟩]⟩,
  ⟨0x044, 4, 0x8, [⟨0, 24, .rw, 0x0, .c⟩]⟩,
  ⟨0x080, 24, 0x4, [⟨0, 32, .rw, 0x0, .c⟩]⟩]

/-- Registers of page kind TL8 (ch04). -/
def mapTL8 : List RegDef := [
  ⟨0x040, 1, 0x4, [⟨31, 1, .w1s, 0x0, .b⟩, ⟨24, 2, .rw, 0x0, .b⟩, ⟨0, 12, .rw, 0x0, .b⟩]⟩,
  ⟨0x044, 1, 0x4, [⟨0, 16, .ro, 0x0, .b⟩]⟩,
  ⟨0x048, 1, 0x4, [⟨0, 13, .ro, 0x0, .w⟩]⟩,
  ⟨0x04C, 1, 0x4, [⟨0, 32, .ro, 0x0, .b⟩]⟩,
  ⟨0x050, 1, 0x4, [⟨0, 32, .ro, 0x0, .b⟩]⟩,
  ⟨0x054, 1, 0x4, [⟨0, 12, .ro, 0x0, .b⟩]⟩,
  ⟨0x060, 8, 0x4, [⟨0, 32, .rw, 0x0, .b⟩]⟩]

/-- Registers of page kind TL9 (ch04). -/
def mapTL9 : List RegDef := [
  ⟨0x040, 16, 0x10, [⟨31, 1, .rw, 0x0, .b⟩, ⟨30, 1, .rw, 0x0, .b⟩, ⟨0, 24, .rw, 0x3E8, .b⟩]⟩,
  ⟨0x044, 16, 0x10, [⟨0, 32, .rw, 0x0, .b⟩]⟩,
  ⟨0x048, 16, 0x10, [⟨16, 16, .ro, 0x0, .b⟩, ⟨8, 8, .ro, 0x0, .b⟩, ⟨0, 3, .ro, 0x0, .b⟩]⟩]

/-- Registers of page kind TL10 (ch04). -/
def mapTL10 : List RegDef := [
  ⟨0x040, 8, 0x20, [⟨31, 1, .rw, 0x0, .b⟩, ⟨28, 2, .rw, 0x0, .b⟩, ⟨26, 2, .rw, 0x1, .b⟩, ⟨0, 8, .rw, 0x0, .b⟩]⟩,
  ⟨0x044, 8, 0x20, [⟨8, 1, .ro, 0x0, .b⟩, ⟨0, 5, .ro, 0x0, .b⟩]⟩,
  ⟨0x048, 8, 0x20, [⟨0, 32, .ro, 0x0, .b⟩]⟩,
  ⟨0x04C, 8, 0x20, [⟨0, 32, .ro, 0x0, .b⟩]⟩,
  ⟨0x050, 8, 0x20, [⟨0, 3, .ro, 0x0, .b⟩]⟩,
  ⟨0x054, 8, 0x20, [⟨0, 32, .ro, 0x0, .b⟩]⟩,
  ⟨0x058, 8, 0x20, [⟨0, 1, .wo, 0x0, .b⟩]⟩]

/-- Registers of page kind TLP (ch04). -/
def mapTLP : List RegDef := [
  ⟨0x040, 1, 0x4, [⟨31, 1, .rw, 0x0, .c⟩, ⟨30, 1, .rw, 0x0, .c⟩, ⟨29, 1, .rw, 0x0, .c⟩, ⟨24, 3, .rw, 0x0, .c⟩, ⟨16, 8, .rw, 0x0, .c⟩, ⟨0, 16, .rw, 0x1000, .c⟩]⟩,
  ⟨0x044, 1, 0x4, [⟨0, 16, .rw, 0x0, .c⟩]⟩,
  ⟨0x048, 1, 0x4, [⟨0, 16, .rw, 0x1388, .c⟩]⟩,
  ⟨0x04C, 1, 0x4, [⟨4, 4, .ro, 0x0, .c⟩, ⟨2, 2, .ro, 0x0, .c⟩, ⟨0, 2, .ro, 0x0, .c⟩]⟩,
  ⟨0x050, 1, 0x4, [⟨0, 32, .ro, 0x0, .c⟩]⟩,
  ⟨0x054, 1, 0x4, [⟨0, 32, .ro, 0x0, .c⟩]⟩,
  ⟨0x058, 1, 0x4, [⟨0, 16, .ro, 0x0, .c⟩]⟩,
  ⟨0x05C, 1, 0x4, [⟨0, 32, .ro, 0x0, .b⟩]⟩]

/-- Registers of page kind GV0 (ch05). -/
def mapGV0 : List RegDef := [
  ⟨0x040, 1, 0x4, [⟨8, 1, .rwl, 0x1, .c⟩, ⟨0, 4, .rw, 0x0, .c⟩]⟩,
  ⟨0x044, 1, 0x4, [⟨5, 1, .ro, 0x0, .c⟩, ⟨0, 5, .ro, 0x0, .c⟩]⟩,
  ⟨0x048, 1, 0x4, [⟨16, 15, .ro, 0x0, .c⟩, ⟨0, 15, .rwl, 0x0, .c⟩]⟩,
  ⟨0x04C, 1, 0x4, [⟨31, 1, .rw, 0x0, .c⟩, ⟨0, 7, .rw, 0x0, .c⟩]⟩,
  ⟨0x050, 1, 0x4, [⟨0, 32, .ro, 0x0, .c⟩]⟩,
  ⟨0x054, 1, 0x4, [⟨0, 32, .ro, 0x0, .b⟩]⟩,
  ⟨0x058, 1, 0x4, [⟨0, 32, .ro, 0x0, .b⟩]⟩,
  ⟨0x05C, 1, 0x4, [⟨0, 32, .ro, 0x0, .b⟩]⟩,
  ⟨0x060, 1, 0x4, [⟨0, 32, .ro, 0x0, .b⟩]⟩,
  ⟨0x064, 1, 0x4, [⟨0, 32, .ro, 0x0, .b⟩]⟩,
  ⟨0x068, 1, 0x4, [⟨0, 32, .ro, 0x0, .b⟩]⟩,
  ⟨0x06C, 1, 0x4, [⟨0, 32, .ro, 0x0, .b⟩]⟩,
  ⟨0x070, 1, 0x4, [⟨0, 32, .ro, 0x0, .b⟩]⟩,
  ⟨0x074, 1, 0x4, [⟨0, 32, .ro, 0x0, .b⟩]⟩,
  ⟨0x078, 1, 0x4, [⟨0, 32, .ro, 0x0, .b⟩]⟩,
  ⟨0x07C, 1, 0x4, [⟨0, 32, .ro, 0x0, .b⟩]⟩]

/-- Registers of page kind GV1 (ch05). -/
def mapGV1 : List RegDef := [
  ⟨0x040, 1, 0x4, [⟨31, 1, .w1s, 0x0, .b⟩, ⟨24, 2, .rw, 0x0, .b⟩, ⟨20, 2, .rw, 0x0, .b⟩, ⟨0, 16, .rw, 0x0, .b⟩]⟩,
  ⟨0x044, 1, 0x4, [⟨5, 6, .rw, 0x0, .b⟩]⟩,
  ⟨0x048, 1, 0x4, [⟨0, 16, .ro, 0x0, .b⟩]⟩,
  ⟨0x060, 8, 0x4, [⟨0, 32, .rw, 0x0, .b⟩]⟩]

/-- Registers of page kind GV2 (ch06). -/
def mapGV2 : List RegDef := [
  ⟨0x040, 1, 0x4, [⟨0, 1, .rw, 0x0, .w⟩]⟩,
  ⟨0x044, 1, 0x4, [⟨16, 16, .ro, 0x0, .c⟩, ⟨0, 16, .ro, 0x0, .w⟩]⟩,
  ⟨0x048, 1, 0x4, [⟨28, 4, .ro, 0x0, .w⟩, ⟨26, 2, .ro, 0x0, .w⟩, ⟨25, 1, .ro, 0x0, .c⟩, ⟨0, 17, .ro, 0x0, .w⟩]⟩,
  ⟨0x04C, 1, 0x4, [⟨31, 1, .w1s, 0x0, .w⟩, ⟨0, 4, .rw, 0x0, .w⟩]⟩,
  ⟨0x050, 1, 0x4, [⟨0, 32, .ro, 0x0, .c⟩]⟩,
  ⟨0x060, 1, 0x4, [⟨6, 26, .rw, 0x0, .w⟩]⟩,
  ⟨0x064, 1, 0x4, [⟨0, 32, .rw, 0x0, .w⟩]⟩,
  ⟨0x068, 1, 0x4, [⟨0, 18, .rw, 0x0, .w⟩]⟩,
  ⟨0x06C, 1, 0x4, [⟨0, 32, .rw, 0x0, .w⟩]⟩,
  ⟨0x070, 1, 0x4, [⟨31, 1, .w1s, 0x0, .w⟩, ⟨0, 3, .ro, 0x0, .w⟩]⟩,
  ⟨0x080, 1, 0x4, [⟨0, 16, .rw, 0x0, .w⟩]⟩,
  ⟨0x084, 1, 0x4, [⟨2, 16, .rw, 0x0, .w⟩]⟩,
  ⟨0x088, 1, 0x4, [⟨0, 32, .rw, 0x0, .w⟩]⟩]

/-- Registers of page kind GVE (ch06). -/
def mapGVE : List RegDef := [
  ⟨0x040, 1, 0x4, [⟨30, 2, .ro, 0x0, .w⟩]⟩,
  ⟨0x044, 1, 0x4, [⟨0, 32, .ro, 0x0, .w⟩]⟩,
  ⟨0x048, 1, 0x4, [⟨0, 32, .ro, 0x0, .b⟩]⟩,
  ⟨0x04C, 1, 0x4, [⟨0, 32, .ro, 0x0, .b⟩]⟩,
  ⟨0x050, 1, 0x4, [⟨0, 32, .ro, 0x0, .b⟩]⟩,
  ⟨0x054, 1, 0x4, [⟨31, 1, .w1c, 0x0, .b⟩, ⟨28, 3, .ro, 0x0, .b⟩, ⟨16, 8, .ro, 0x0, .b⟩, ⟨0, 16, .ro, 0x0, .b⟩]⟩,
  ⟨0x058, 1, 0x4, [⟨0, 32, .ro, 0x0, .b⟩]⟩]

/-- Registers of page kind CAN (ch07). -/
def mapCAN : List RegDef := [
  ⟨0x040, 1, 0x4, [⟨8, 2, .rw, 0x0, .w⟩, ⟨7, 1, .rw, 0x0, .w⟩, ⟨6, 1, .rw, 0x1, .w⟩, ⟨5, 1, .rw, 0x0, .w⟩, ⟨4, 1, .rw, 0x1, .w⟩, ⟨2, 1, .rw, 0x0, .w⟩, ⟨1, 1, .rw, 0x0, .w⟩, ⟨0, 1, .rw, 0x0, .w⟩]⟩,
  ⟨0x044, 1, 0x4, [⟨24, 8, .rw, 0x0, .w⟩, ⟨16, 8, .rw, 0x0, .w⟩, ⟨8, 7, .rw, 0x0, .w⟩, ⟨0, 7, .rw, 0x0, .w⟩]⟩,
  ⟨0x048, 1, 0x4, [⟨24, 5, .rw, 0x0, .w⟩, ⟨16, 5, .rw, 0x0, .w⟩, ⟨8, 4, .rw, 0x0, .w⟩, ⟨0, 4, .rw, 0x0, .w⟩]⟩,
  ⟨0x04C, 1, 0x4, [⟨24, 5, .rw, 0x0, .w⟩, ⟨16, 5, .rw, 0x0, .w⟩, ⟨8, 4, .rw, 0x0, .w⟩, ⟨0, 4, .rw, 0x0, .w⟩]⟩,
  ⟨0x050, 1, 0x4, [⟨31, 1, .rw, 0x0, .w⟩, ⟨16, 7, .ro, 0x0, .w⟩, ⟨0, 7, .rw, 0x0, .w⟩]⟩,
  ⟨0x054, 1, 0x4, [⟨16, 6, .rw, 0x0, .w⟩, ⟨8, 6, .rw, 0x0, .w⟩, ⟨0, 6, .rw, 0x0, .w⟩]⟩,
  ⟨0x058, 1, 0x4, [⟨16, 9, .ro, 0x0, .b⟩, ⟨8, 8, .ro, 0x0, .b⟩, ⟨4, 2, .ro, 0x3, .b⟩, ⟨0, 3, .ro, 0x0, .b⟩]⟩,
  ⟨0x05C, 1, 0x4, [⟨0, 1, .w1s, 0x0, .b⟩]⟩,
  ⟨0x060, 1, 0x4, [⟨16, 9, .rw, 0x0, .w⟩, ⟨12, 2, .rw, 0x3, .w⟩, ⟨0, 8, .rw, 0x0, .w⟩]⟩,
  ⟨0x064, 1, 0x4, [⟨16, 9, .rw, 0x0, .w⟩, ⟨0, 7, .rw, 0x0, .w⟩]⟩,
  ⟨0x068, 1, 0x4, [⟨16, 9, .rw, 0x0, .w⟩, ⟨0, 10, .rw, 0x0, .w⟩]⟩,
  ⟨0x06C, 1, 0x4, [⟨16, 9, .rw, 0x0, .w⟩, ⟨0, 10, .rw, 0x0, .w⟩]⟩,
  ⟨0x070, 1, 0x4, [⟨16, 9, .rw, 0x0, .w⟩, ⟨8, 6, .rw, 0x0, .w⟩, ⟨0, 6, .rw, 0x0, .w⟩]⟩,
  ⟨0x074, 1, 0x4, [⟨0, 4, .rw, 0x0, .b⟩]⟩,
  ⟨0x078, 1, 0x4, [⟨0, 16, .rw, 0x2710, .w⟩]⟩,
  ⟨0x080, 3, 0x20, [⟨31, 1, .rw, 0x0, .w⟩, ⟨29, 2, .rw, 0x0, .w⟩, ⟨28, 1, .rw, 0x0, .w⟩, ⟨0, 6, .rw, 0x0, .w⟩]⟩,
  ⟨0x084, 3, 0x20, [⟨31, 1, .ro, 0x0, .b⟩, ⟨30, 1, .w1c, 0x0, .b⟩, ⟨29, 1, .ro, 0x0, .b⟩, ⟨28, 1, .ro, 0x0, .b⟩, ⟨16, 6, .ro, 0x0, .b⟩, ⟨8, 6, .ro, 0x0, .b⟩, ⟨0, 6, .ro, 0x0, .b⟩]⟩,
  ⟨0x088, 3, 0x20, [⟨31, 1, .ro, 0x0, .b⟩, ⟨16, 9, .ro, 0x0, .b⟩, ⟨0, 6, .ro, 0x0, .b⟩]⟩,
  ⟨0x08C, 3, 0x20, [⟨28, 4, .wo, 0x0, .b⟩, ⟨0, 6, .wo, 0x0, .b⟩]⟩,
  ⟨0x090, 3, 0x20, [⟨0, 32, .ro, 0x0, .b⟩]⟩,
  ⟨0x094, 3, 0x20, [⟨0, 6, .ro, 0x0, .b⟩]⟩,
  ⟨0x0E0, 1, 0x4, [⟨0, 32, .ro, 0x0, .b⟩]⟩,
  ⟨0x0E4, 1, 0x4, [⟨31, 1, .ro, 0x0, .b⟩, ⟨16, 5, .ro, 0x0, .b⟩, ⟨0, 16, .ro, 0x0, .b⟩]⟩,
  ⟨0x0E8, 1, 0x4, [⟨0, 32, .ro, 0x0, .b⟩]⟩,
  ⟨0x0EC, 1, 0x4, [⟨0, 3, .ro, 0x0, .b⟩]⟩,
  ⟨0x100, 11, 0x4, [⟨0, 32, .ro, 0x0, .b⟩]⟩]

/-- Registers of page kind LIN (ch07). -/
def mapLIN : List RegDef := [
  ⟨0x040, 1, 0x4, [⟨16, 16, .rw, 0x4B00, .w⟩, ⟨8, 3, .rw, 0x0, .w⟩, ⟨1, 1, .rw, 0x1, .w⟩, ⟨0, 1, .rw, 0x0, .w⟩]⟩,
  ⟨0x044, 1, 0x4, [⟨0, 8, .rw, 0x8C, .w⟩]⟩,
  ⟨0x048, 1, 0x4, [⟨0, 32, .rw, 0x0, .w⟩]⟩,
  ⟨0x04C, 1, 0x4, [⟨30, 2, .rw, 0x0, .w⟩, ⟨0, 28, .rw, 0x0, .w⟩]⟩,
  ⟨0x050, 1, 0x4, [⟨16, 3, .ro, 0x0, .b⟩, ⟨0, 8, .ro, 0x0, .b⟩]⟩,
  ⟨0x080, 3, 0x20, [⟨31, 1, .rw, 0x0, .w⟩, ⟨29, 2, .rw, 0x0, .w⟩, ⟨28, 1, .rw, 0x0, .w⟩, ⟨0, 6, .rw, 0x0, .w⟩]⟩,
  ⟨0x084, 3, 0x20, [⟨31, 1, .ro, 0x0, .b⟩, ⟨30, 1, .w1c, 0x0, .b⟩, ⟨29, 1, .ro, 0x0, .b⟩, ⟨28, 1, .ro, 0x0, .b⟩, ⟨16, 6, .ro, 0x0, .b⟩, ⟨8, 6, .ro, 0x0, .b⟩, ⟨0, 6, .ro, 0x0, .b⟩]⟩,
  ⟨0x088, 3, 0x20, [⟨31, 1, .ro, 0x0, .b⟩, ⟨16, 9, .ro, 0x0, .b⟩, ⟨0, 6, .ro, 0x0, .b⟩]⟩,
  ⟨0x08C, 3, 0x20, [⟨28, 4, .wo, 0x0, .b⟩, ⟨0, 6, .wo, 0x0, .b⟩]⟩,
  ⟨0x090, 3, 0x20, [⟨0, 32, .ro, 0x0, .b⟩]⟩,
  ⟨0x094, 3, 0x20, [⟨0, 6, .ro, 0x0, .b⟩]⟩,
  ⟨0x100, 4, 0x4, [⟨0, 32, .ro, 0x0, .b⟩]⟩]

/-- Registers of page kind EP0 (ch08). -/
def mapEP0 : List RegDef := [
  ⟨0x040, 1, 0x4, [⟨17, 1, .rw, 0x0, .w⟩, ⟨16, 1, .rw, 0x0, .w⟩, ⟨8, 3, .rw, 0x2, .w⟩, ⟨4, 1, .rw, 0x1, .w⟩, ⟨0, 3, .rw, 0x0, .w⟩]⟩,
  ⟨0x044, 1, 0x4, [⟨16, 1, .rw, 0x1, .w⟩, ⟨0, 14, .rw, 0x5F2, .w⟩]⟩,
  ⟨0x048, 1, 0x4, [⟨9, 1, .ro, 0x0, .w⟩, ⟨8, 1, .ro, 0x0, .w⟩, ⟨7, 1, .ro, 0x0, .w⟩, ⟨6, 1, .ro, 0x0, .w⟩, ⟨5, 1, .ro, 0x0, .w⟩, ⟨4, 1, .ro, 0x0, .w⟩, ⟨1, 3, .ro, 0x0, .w⟩, ⟨0, 1, .ro, 0x0, .w⟩]⟩]

/-- Registers of page kind EP1 (ch08). -/
def mapEP1 : List RegDef := [
  ⟨0x040, 1, 0x4, [⟨16, 16, .rw, 0xFFFF, .w⟩, ⟨5, 1, .rw, 0x0, .w⟩, ⟨4, 1, .rw, 0x0, .w⟩, ⟨0, 2, .rw, 0x0, .w⟩]⟩,
  ⟨0x044, 1, 0x4, [⟨24, 8, .ro, 0x0, .w⟩, ⟨8, 8, .ro, 0x0, .w⟩, ⟨0, 1, .ro, 0x0, .w⟩]⟩,
  ⟨0x048, 1, 0x4, [⟨31, 1, .rw, 0x0, .w⟩, ⟨0, 16, .rw, 0x20, .w⟩]⟩,
  ⟨0x04C, 1, 0x4, [⟨0, 16, .rw, 0x4074, .w⟩]⟩]

/-- Registers of page kind EP2 (ch08). -/
def mapEP2 : List RegDef := [
  ⟨0x040, 1, 0x4, [⟨31, 1, .rw, 0x0, .w⟩, ⟨30, 1, .rw, 0x0, .w⟩, ⟨28, 2, .rw, 0x0, .w⟩, ⟨27, 1, .rw, 0x0, .w⟩]⟩,
  ⟨0x044, 1, 0x4, [⟨31, 1, .w1s, 0x0, .w⟩, ⟨24, 2, .rw, 0x0, .w⟩, ⟨20, 1, .rw, 0x0, .w⟩, ⟨0, 7, .rw, 0x0, .w⟩]⟩,
  ⟨0x048, 1, 0x4, [⟨0, 16, .ro, 0x0, .w⟩]⟩,
  ⟨0x04C, 1, 0x4, [⟨0, 32, .rw, 0x0, .w⟩]⟩,
  ⟨0x060, 6, 0x4, [⟨0, 32, .rw, 0x0, .w⟩]⟩]

/-- Registers of page kind EP3 (ch08). -/
def mapEP3 : List RegDef := [
  ⟨0x040, 1, 0x4, [⟨0, 1, .w1s, 0x0, .w⟩]⟩,
  ⟨0x080, 26, 0x4, [⟨0, 32, .ro, 0x0, .w⟩]⟩]

/-- Registers of page kind TS (ch08). -/
def mapTS : List RegDef := [
  ⟨0x040, 1, 0x4, [⟨31, 1, .rw, 0x0, .w⟩, ⟨16, 8, .rw, 0x20, .w⟩, ⟨8, 8, .rw, 0x8, .w⟩, ⟨0, 8, .rw, 0x0, .w⟩]⟩,
  ⟨0x044, 1, 0x4, [⟨8, 8, .rw, 0x80, .w⟩, ⟨0, 8, .rw, 0x0, .w⟩]⟩,
  ⟨0x048, 1, 0x4, [⟨2, 1, .ro, 0x0, .w⟩, ⟨1, 1, .ro, 0x0, .w⟩, ⟨0, 1, .ro, 0x0, .w⟩]⟩,
  ⟨0x04C, 1, 0x4, [⟨0, 14, .rw, 0x5F2, .w⟩]⟩,
  ⟨0x050, 1, 0x4, [⟨0, 1, .w1s, 0x0, .w⟩]⟩,
  ⟨0x080, 11, 0x4, [⟨0, 32, .ro, 0x0, .w⟩]⟩]

/-- Registers of page kind SW0 (ch09). -/
def mapSW0 : List RegDef := [
  ⟨0x040, 1, 0x4, [⟨0, 17, .ro, 0xFC00, .w⟩]⟩,
  ⟨0x044, 1, 0x4, [⟨0, 17, .ro, 0x0, .w⟩]⟩,
  ⟨0x048, 1, 0x4, [⟨0, 32, .ro, 0x0, .w⟩]⟩,
  ⟨0x04C, 1, 0x4, [⟨0, 32, .ro, 0x0, .w⟩]⟩,
  ⟨0x050, 1, 0x4, [⟨0, 32, .ro, 0x0, .w⟩]⟩,
  ⟨0x054, 1, 0x4, [⟨0, 32, .ro, 0x0, .w⟩]⟩,
  ⟨0x058, 1, 0x4, [⟨0, 32, .ro, 0x0, .w⟩]⟩,
  ⟨0x05C, 1, 0x4, [⟨0, 32, .ro, 0x0, .w⟩]⟩,
  ⟨0x080, 1, 0x4, [⟨31, 1, .w1s, 0x0, .w⟩, ⟨24, 2, .rw, 0x0, .w⟩, ⟨0, 12, .rw, 0x0, .w⟩]⟩,
  ⟨0x084, 1, 0x4, [⟨0, 16, .ro, 0x0, .w⟩]⟩,
  ⟨0x088, 1, 0x4, [⟨31, 1, .rw, 0x0, .w⟩, ⟨0, 28, .rw, 0x0, .w⟩]⟩,
  ⟨0x08C, 1, 0x4, [⟨0, 28, .rw, 0x0, .w⟩]⟩]

/-- Registers of page kind SW1 (ch09). -/
def mapSW1 : List RegDef := [
  ⟨0x040, 28, 0x20, [⟨31, 1, .rw, 0x1, .w⟩, ⟨30, 1, .rw, 0x1, .w⟩, ⟨29, 1, .rw, 0x1, .w⟩, ⟨28, 1, .rw, 0x1, .w⟩, ⟨27, 1, .rw, 0x0, .w⟩, ⟨25, 2, .rw, 0x0, .w⟩, ⟨16, 3, .rw, 0x0, .w⟩, ⟨0, 12, .rw, 0x1, .w⟩]⟩,
  ⟨0x044, 28, 0x20, [⟨0, 24, .rw, 0xFAC688, .w⟩]⟩,
  ⟨0x048, 28, 0x20, [⟨0, 18, .rw, 0x400, .w⟩]⟩,
  ⟨0x04C, 28, 0x20, [⟨0, 32, .ro, 0x0, .w⟩]⟩]

/-- Registers of page kind SW2 (ch09). -/
def mapSW2 : List RegDef := [
  ⟨0x040, 224, 0x10, [⟨16, 16, .rw, 0x0, .w⟩, ⟨0, 16, .rw, 0x800, .w⟩]⟩,
  ⟨0x044, 224, 0x10, [⟨0, 17, .ro, 0x0, .w⟩]⟩,
  ⟨0x048, 224, 0x10, [⟨0, 32, .ro, 0x0, .w⟩]⟩]

/-- Registers of page kind SW3 (ch09). -/
def mapSW3 : List RegDef := [
  ⟨0x040, 28, 0x10, [⟨16, 16, .rw, 0x100, .w⟩, ⟨0, 16, .rw, 0x200, .w⟩]⟩,
  ⟨0x044, 28, 0x10, [⟨16, 8, .rw, 0x0, .w⟩, ⟨0, 13, .rwl, 0x0, .w⟩]⟩,
  ⟨0x048, 28, 0x10, [⟨16, 13, .ro, 0x0, .w⟩, ⟨0, 8, .ro, 0x0, .w⟩]⟩,
  ⟨0x04C, 28, 0x10, [⟨0, 32, .ro, 0x0, .w⟩]⟩]

/-- Registers of page kind SW4 (ch09). -/
def mapSW4 : List RegDef := [
  ⟨0x040, 1, 0x4, [⟨31, 1, .w1s, 0x0, .w⟩, ⟨24, 2, .rw, 0x0, .w⟩, ⟨0, 9, .rw, 0x0, .w⟩]⟩,
  ⟨0x044, 1, 0x4, [⟨31, 1, .ro, 0x0, .p⟩, ⟨0, 16, .ro, 0x0, .p⟩]⟩,
  ⟨0x048, 1, 0x4, [⟨0, 16, .ro, 0x0, .w⟩]⟩,
  ⟨0x060, 5, 0x4, [⟨0, 32, .rw, 0x0, .w⟩]⟩]

/-- Registers of page kind LK0 (ch09). -/
def mapLK0 : List RegDef := [
  ⟨0x040, 1, 0x4, [⟨31, 1, .rw, 0x1, .w⟩, ⟨0, 16, .rw, 0x64, .w⟩]⟩,
  ⟨0x044, 1, 0x4, [⟨31, 1, .ro, 0x0, .w⟩, ⟨0, 18, .ro, 0x0, .w⟩]⟩,
  ⟨0x048, 1, 0x4, [⟨0, 32, .ro, 0x0, .w⟩]⟩,
  ⟨0x050, 1, 0x4, [⟨0, 32, .ro, 0x0, .w⟩]⟩,
  ⟨0x054, 1, 0x4, [⟨0, 32, .ro, 0x0, .w⟩]⟩,
  ⟨0x058, 1, 0x4, [⟨0, 32, .ro, 0x0, .w⟩]⟩,
  ⟨0x05C, 1, 0x4, [⟨0, 32, .ro, 0x0, .w⟩]⟩,
  ⟨0x060, 1, 0x4, [⟨0, 32, .ro, 0x0, .w⟩]⟩,
  ⟨0x064, 1, 0x4, [⟨0, 32, .ro, 0x0, .w⟩]⟩,
  ⟨0x068, 1, 0x4, [⟨0, 32, .ro, 0x0, .w⟩]⟩,
  ⟨0x06C, 1, 0x4, [⟨0, 32, .ro, 0x0, .w⟩]⟩,
  ⟨0x100, 28, 0x4, [⟨0, 18, .ro, 0x0, .w⟩]⟩]

/-- Registers of page kind LK1 (ch09). -/
def mapLK1 : List RegDef := [
  ⟨0x040, 1, 0x4, [⟨31, 1, .w1s, 0x0, .w⟩, ⟨24, 4, .rw, 0x0, .w⟩, ⟨20, 2, .rw, 0x0, .w⟩, ⟨16, 2, .rw, 0x0, .w⟩, ⟨0, 5, .rw, 0x1F, .w⟩]⟩,
  ⟨0x044, 1, 0x4, [⟨0, 32, .rw, 0x0, .w⟩]⟩,
  ⟨0x048, 1, 0x4, [⟨16, 12, .rw, 0x0, .w⟩, ⟨0, 16, .rw, 0x0, .w⟩]⟩,
  ⟨0x04C, 1, 0x4, [⟨0, 18, .rw, 0x0, .w⟩]⟩,
  ⟨0x050, 1, 0x4, [⟨16, 16, .ro, 0x0, .w⟩, ⟨0, 16, .ro, 0x0, .w⟩]⟩,
  ⟨0x054, 1, 0x4, [⟨0, 17, .ro, 0x0, .w⟩]⟩,
  ⟨0x060, 6, 0x4, [⟨0, 32, .rw, 0x0, .w⟩]⟩]

/-- Registers of page kind LK2 (ch09). -/
def mapLK2 : List RegDef := [
  ⟨0x040, 1, 0x4, [⟨31, 1, .rw, 0x0, .w⟩, ⟨29, 2, .rw, 0x0, .w⟩, ⟨0, 6, .rw, 0x0, .w⟩]⟩,
  ⟨0x044, 1, 0x4, [⟨31, 1, .ro, 0x0, .w⟩, ⟨30, 1, .w1c, 0x0, .w⟩, ⟨29, 1, .ro, 0x0, .w⟩, ⟨28, 1, .ro, 0x0, .w⟩, ⟨16, 6, .ro, 0x0, .w⟩, ⟨8, 6, .ro, 0x0, .w⟩, ⟨0, 6, .ro, 0x0, .w⟩]⟩,
  ⟨0x048, 4, 0x4, [⟨0, 32, .ro, 0x0, .w⟩]⟩,
  ⟨0x058, 1, 0x4, [⟨28, 4, .wo, 0x0, .w⟩, ⟨0, 6, .wo, 0x0, .w⟩]⟩]

/-- Registers of page kind LK3 (ch09). -/
def mapLK3 : List RegDef := [
  ⟨0x040, 1, 0x4, [⟨31, 1, .w1s, 0x0, .w⟩, ⟨24, 2, .rw, 0x0, .w⟩, ⟨0, 13, .rw, 0x0, .w⟩]⟩,
  ⟨0x044, 1, 0x4, [⟨0, 16, .ro, 0x0, .w⟩]⟩,
  ⟨0x060, 8, 0x4, [⟨0, 32, .rw, 0x0, .w⟩]⟩]

/-- Registers of page kind TM0 (ch10). -/
def mapTM0 : List RegDef := [
  ⟨0x040, 1, 0x4, [⟨31, 1, .rw, 0x0, .w⟩, ⟨0, 16, .rw, 0xA, .w⟩]⟩,
  ⟨0x100, 64, 0x10, [⟨31, 1, .rw, 0x0, .w⟩, ⟨0, 28, .rw, 0x0, .w⟩]⟩,
  ⟨0x104, 64, 0x10, [⟨0, 24, .rw, 0x0, .w⟩]⟩,
  ⟨0x108, 64, 0x10, [⟨0, 32, .ro, 0x0, .w⟩]⟩,
  ⟨0x10C, 64, 0x10, [⟨0, 32, .ro, 0x0, .w⟩]⟩,
  ⟨0x600, 56, 0x4, [⟨31, 1, .rw, 0x0, .w⟩, ⟨24, 6, .rw, 0x0, .w⟩, ⟨23, 1, .rw, 0x0, .w⟩, ⟨16, 6, .rw, 0x0, .w⟩, ⟨15, 1, .rw, 0x0, .w⟩, ⟨8, 6, .rw, 0x0, .w⟩, ⟨7, 1, .rw, 0x0, .w⟩, ⟨0, 6, .rw, 0x0, .w⟩]⟩]

/-- Registers of page kind TM1 (ch10). -/
def mapTM1 : List RegDef := [
  ⟨0x040, 1, 0x4, [⟨31, 1, .w1s, 0x0, .w⟩, ⟨24, 2, .rw, 0x0, .w⟩, ⟨0, 13, .rw, 0x0, .w⟩]⟩,
  ⟨0x044, 1, 0x4, [⟨0, 16, .ro, 0x0, .w⟩]⟩,
  ⟨0x060, 8, 0x4, [⟨0, 32, .rw, 0x0, .w⟩]⟩]

/-- Registers of page kind TM2 (ch10). -/
def mapTM2 : List RegDef := [
  ⟨0x040, 224, 0x10, [⟨0, 28, .rw, 0x0, .w⟩]⟩,
  ⟨0x044, 224, 0x10, [⟨0, 28, .rw, 0x0, .w⟩]⟩,
  ⟨0x048, 224, 0x10, [⟨0, 24, .rw, 0x0, .w⟩]⟩,
  ⟨0x04C, 224, 0x10, [⟨0, 24, .rw, 0x0, .w⟩]⟩]

/-- Registers of page kind TM3 (ch10). -/
def mapTM3 : List RegDef := [
  ⟨0x040, 224, 0x4, [⟨0, 16, .rw, 0x1, .w⟩]⟩,
  ⟨0x400, 28, 0x10, [⟨0, 8, .rw, 0x14, .w⟩]⟩,
  ⟨0x404, 28, 0x10, [⟨0, 32, .ro, 0x0, .w⟩]⟩]

/-- Registers of page kind TM4 (ch10). -/
def mapTM4 : List RegDef := [
  ⟨0x040, 28, 0x40, [⟨24, 4, .rw, 0x1, .w⟩, ⟨2, 1, .w1s, 0x0, .w⟩, ⟨1, 1, .w1s, 0x0, .w⟩, ⟨0, 1, .w1s, 0x0, .w⟩]⟩,
  ⟨0x044, 28, 0x40, [⟨31, 1, .ro, 0x0, .w⟩, ⟨30, 1, .ro, 0x0, .w⟩, ⟨29, 1, .ro, 0x0, .w⟩, ⟨8, 8, .ro, 0xFF, .w⟩, ⟨0, 8, .ro, 0x0, .w⟩]⟩,
  ⟨0x048, 28, 0x40, [⟨0, 32, .rw, 0x0, .w⟩]⟩,
  ⟨0x04C, 28, 0x40, [⟨0, 16, .rw, 0x0, .w⟩]⟩,
  ⟨0x050, 28, 0x40, [⟨0, 30, .rw, 0x0, .w⟩]⟩,
  ⟨0x054, 28, 0x40, [⟨0, 32, .rw, 0x0, .w⟩]⟩,
  ⟨0x058, 28, 0x40, [⟨0, 9, .rw, 0x0, .w⟩]⟩,
  ⟨0x05C, 28, 0x40, [⟨0, 32, .ro, 0x0, .w⟩]⟩,
  ⟨0x060, 28, 0x40, [⟨0, 16, .ro, 0x0, .w⟩]⟩,
  ⟨0x064, 28, 0x40, [⟨0, 30, .ro, 0x0, .w⟩]⟩,
  ⟨0x068, 28, 0x40, [⟨0, 32, .ro, 0x0, .w⟩]⟩,
  ⟨0x800, 1, 0x4, [⟨16, 5, .rw, 0x0, .w⟩, ⟨8, 1, .rw, 0x0, .w⟩, ⟨0, 8, .rw, 0x0, .w⟩]⟩,
  ⟨0x804, 1, 0x4, [⟨0, 8, .rw, 0xFF, .w⟩]⟩,
  ⟨0x808, 1, 0x4, [⟨0, 32, .rw, 0x0, .w⟩]⟩]

/-- Registers of page kind TM5 (ch10). -/
def mapTM5 : List RegDef := [
  ⟨0x040, 1, 0x4, [⟨31, 1, .w1s, 0x0, .w⟩, ⟨24, 1, .rw, 0x0, .w⟩, ⟨0, 8, .rw, 0x0, .w⟩]⟩,
  ⟨0x044, 1, 0x4, [⟨0, 16, .ro, 0x0, .w⟩]⟩,
  ⟨0x048, 1, 0x4, [⟨16, 16, .rw, 0x8, .w⟩, ⟨0, 16, .rw, 0x64, .w⟩]⟩,
  ⟨0x060, 16, 0x4, [⟨0, 32, .ro, 0x0, .w⟩]⟩]

/-- Registers of page kind CP0 (ch11). -/
def mapCP0 : List RegDef := [
  ⟨0x040, 1, 0x4, [⟨8, 1, .ro, 0x0, .c⟩, ⟨4, 2, .ro, 0x0, .c⟩, ⟨0, 2, .ro, 0x0, .c⟩]⟩,
  ⟨0x044, 1, 0x4, [⟨2, 1, .ro, 0x0, .c⟩, ⟨1, 1, .ro, 0x0, .c⟩, ⟨0, 1, .ro, 0x0, .c⟩]⟩,
  ⟨0x048, 1, 0x4, [⟨0, 32, .ro, 0x0, .c⟩]⟩,
  ⟨0x04C, 1, 0x4, [⟨0, 32, .ro, 0x0, .c⟩]⟩,
  ⟨0x050, 1, 0x4, [⟨0, 32, .ro, 0x0, .c⟩]⟩,
  ⟨0x054, 1, 0x4, [⟨31, 1, .w1c, 0x0, .c⟩, ⟨0, 2, .ro, 0x0, .c⟩]⟩,
  ⟨0x058, 1, 0x4, [⟨0, 20, .ro, 0x0, .w⟩]⟩]

/-- Registers of page kind CP1 (ch11). -/
def mapCP1 : List RegDef := [
  ⟨0x040, 64, 0x8, [⟨31, 1, .rw, 0x0, .w⟩, ⟨30, 1, .rw, 0x0, .w⟩, ⟨28, 2, .rw, 0x0, .w⟩, ⟨26, 2, .rw, 0x0, .w⟩, ⟨16, 9, .rw, 0x0, .w⟩, ⟨0, 4, .rw, 0x0, .w⟩]⟩,
  ⟨0x044, 64, 0x8, [⟨0, 14, .rw, 0x0, .w⟩]⟩]

/-- Registers of page kind CP2 (ch11). -/
def mapCP2 : List RegDef := [
  ⟨0x040, 16, 0x40, [⟨31, 1, .rw, 0x0, .c⟩, ⟨30, 1, .rw, 0x0, .c⟩, ⟨28, 2, .rw, 0x0, .c⟩, ⟨24, 3, .rw, 0x0, .c⟩, ⟨16, 8, .rw, 0x64, .c⟩, ⟨0, 16, .rw, 0x0, .c⟩]⟩,
  ⟨0x044, 16, 0x40, [⟨6, 26, .rw, 0x0, .c⟩]⟩,
  ⟨0x048, 16, 0x40, [⟨0, 32, .rw, 0x0, .c⟩]⟩,
  ⟨0x04C, 16, 0x40, [⟨0, 16, .rw, 0x0, .c⟩]⟩,
  ⟨0x050, 16, 0x40, [⟨0, 32, .ro, 0x0, .c⟩]⟩,
  ⟨0x054, 16, 0x40, [⟨0, 32, .ro, 0x0, .c⟩]⟩,
  ⟨0x058, 16, 0x40, [⟨0, 2, .ro, 0x0, .c⟩]⟩,
  ⟨0x05C, 16, 0x40, [⟨0, 32, .ro, 0x0, .c⟩]⟩,
  ⟨0x060, 16, 0x40, [⟨0, 32, .ro, 0x0, .c⟩]⟩,
  ⟨0x064, 16, 0x40, [⟨0, 32, .ro, 0x0, .c⟩]⟩,
  ⟨0x068, 16, 0x40, [⟨0, 32, .ro, 0x0, .c⟩]⟩,
  ⟨0x06C, 16, 0x40, [⟨2, 1, .w1s, 0x0, .c⟩, ⟨1, 1, .w1s, 0x0, .c⟩, ⟨0, 1, .w1s, 0x0, .c⟩]⟩]

/-- Registers of page kind CP3 (ch11). -/
def mapCP3 : List RegDef := [
  ⟨0x040, 4, 0x20, [⟨31, 1, .rw, 0x0, .w⟩, ⟨24, 4, .rw, 0x0, .w⟩, ⟨20, 3, .rw, 0x0, .w⟩, ⟨8, 12, .rw, 0x1, .w⟩, ⟨0, 8, .rw, 0x16, .w⟩]⟩,
  ⟨0x044, 4, 0x20, [⟨0, 32, .rw, 0x0, .w⟩]⟩,
  ⟨0x048, 4, 0x20, [⟨0, 16, .rw, 0x0, .w⟩]⟩,
  ⟨0x04C, 4, 0x20, [⟨0, 32, .rw, 0x0, .w⟩]⟩,
  ⟨0x050, 4, 0x20, [⟨0, 32, .rw, 0x0, .w⟩]⟩,
  ⟨0x054, 4, 0x20, [⟨0, 14, .rw, 0x3E8, .w⟩]⟩,
  ⟨0x058, 4, 0x20, [⟨0, 32, .ro, 0x0, .w⟩]⟩,
  ⟨0x100, 1, 0x4, [⟨0, 32, .rw, 0x0, .w⟩]⟩,
  ⟨0x104, 1, 0x4, [⟨0, 32, .rw, 0x0, .w⟩]⟩,
  ⟨0x108, 1, 0x4, [⟨0, 32, .rw, 0x0, .w⟩]⟩,
  ⟨0x10C, 1, 0x4, [⟨0, 32, .rw, 0x0, .w⟩]⟩]

/-- Registers of page kind HB0 (ch02). -/
def mapHB0 : List RegDef := []

/-- Registers of page kind HBP (ch02). -/
def mapHBP : List RegDef := [
  ⟨0x040, 1, 0x4, [⟨7, 1, .ro, 0x0, .b⟩, ⟨4, 3, .ro, 0x0, .b⟩, ⟨1, 3, .ro, 0x0, .b⟩, ⟨0, 1, .ro, 0x0, .b⟩]⟩,
  ⟨0x044, 1, 0x4, [⟨0, 32, .ro, 0x0, .b⟩]⟩,
  ⟨0x048, 1, 0x4, [⟨4, 1, .ro, 0x0, .b⟩, ⟨0, 4, .ro, 0x0, .b⟩]⟩,
  ⟨0x04C, 1, 0x4, [⟨0, 32, .ro, 0x0, .b⟩]⟩,
  ⟨0x050, 1, 0x4, [⟨0, 9, .rw, 0x0, .b⟩]⟩,
  ⟨0x054, 1, 0x4, [⟨31, 1, .rw, 0x0, .b⟩, ⟨0, 8, .rw, 0x0, .b⟩]⟩,
  ⟨0x060, 1, 0x4, [⟨8, 8, .rw, 0xA, .b⟩, ⟨1, 1, .w1s, 0x0, .b⟩, ⟨0, 1, .rw, 0x0, .b⟩]⟩,
  ⟨0x064, 1, 0x4, [⟨0, 32, .ro, 0x0, .b⟩]⟩,
  ⟨0x068, 1, 0x4, [⟨0, 32, .ro, 0x0, .b⟩]⟩,
  ⟨0x06C, 1, 0x4, [⟨0, 32, .ro, 0x0, .b⟩]⟩,
  ⟨0x070, 1, 0x4, [⟨0, 32, .ro, 0x0, .b⟩]⟩,
  ⟨0x074, 1, 0x4, [⟨0, 32, .ro, 0x0, .b⟩]⟩,
  ⟨0x078, 1, 0x4, [⟨0, 32, .ro, 0x0, .b⟩]⟩,
  ⟨0x080, 8, 0x20, [⟨31, 1, .w1c, 0x0, .b⟩, ⟨0, 26, .ro, 0x0, .b⟩]⟩,
  ⟨0x084, 8, 0x20, [⟨0, 32, .ro, 0x0, .b⟩]⟩,
  ⟨0x088, 8, 0x20, [⟨0, 32, .ro, 0x0, .b⟩]⟩,
  ⟨0x08C, 8, 0x20, [⟨0, 16, .ro, 0x0, .b⟩]⟩,
  ⟨0x090, 8, 0x20, [⟨0, 32, .ro, 0x0, .b⟩]⟩,
  ⟨0x200, 16, 0x20, [⟨6, 26, .rw, 0x0, .b⟩]⟩,
  ⟨0x204, 16, 0x20, [⟨0, 32, .rw, 0x0, .b⟩]⟩,
  ⟨0x208, 16, 0x20, [⟨31, 1, .rw, 0x0, .b⟩, ⟨30, 1, .rw, 0x0, .b⟩, ⟨28, 2, .rw, 0x0, .b⟩, ⟨16, 12, .rw, 0x0, .b⟩, ⟨0, 4, .rw, 0x0, .b⟩]⟩,
  ⟨0x20C, 16, 0x20, [⟨0, 16, .ro, 0x0, .b⟩]⟩,
  ⟨0x210, 16, 0x20, [⟨0, 16, .rw, 0x0, .b⟩]⟩]

/-- Header register CTRL of the page at `base`. -/
def R.CTRL (base : Nat) : Nat := base + 0x008
def F.CTRL_LOCK (base : Nat) : Fld := ⟨R.CTRL base, 31, 1⟩
def F.CTRL_SOFT_RESET (base : Nat) : Fld := ⟨R.CTRL base, 1, 1⟩
def F.CTRL_ENABLE (base : Nat) : Fld := ⟨R.CTRL base, 0, 1⟩
/-- Header register IRQ_RAW of the page at `base`. -/
def R.IRQ_RAW (base : Nat) : Nat := base + 0x010
def F.IRQ_RAW_BITS (base : Nat) : Fld := ⟨R.IRQ_RAW base, 0, 32⟩
/-- Header register IRQ_MASK of the page at `base`. -/
def R.IRQ_MASK (base : Nat) : Nat := base + 0x014
def F.IRQ_MASK_BITS (base : Nat) : Fld := ⟨R.IRQ_MASK base, 0, 32⟩
/-- Header register ERR_INFO of the page at `base`. -/
def R.ERR_INFO (base : Nat) : Nat := base + 0x020
def F.ERR_INFO_VALID (base : Nat) : Fld := ⟨R.ERR_INFO base, 31, 1⟩
def F.ERR_INFO_OVERFLOW (base : Nat) : Fld := ⟨R.ERR_INFO base, 30, 1⟩
def F.ERR_INFO_CODE (base : Nat) : Fld := ⟨R.ERR_INFO base, 0, 16⟩
/-- Header register ERR_ADDR of the page at `base`. -/
def R.ERR_ADDR (base : Nat) : Nat := base + 0x024
def F.ERR_ADDR_INITIATOR (base : Nat) : Fld := ⟨R.ERR_ADDR base, 28, 4⟩
def F.ERR_ADDR_ADDR (base : Nat) : Fld := ⟨R.ERR_ADDR base, 0, 26⟩
/-- Header register ERR_TIME of the page at `base`. -/
def R.ERR_TIME (base : Nat) : Nat := base + 0x028
def F.ERR_TIME_STAMP_NS (base : Nat) : Fld := ⟨R.ERR_TIME base, 0, 32⟩
/-- Header register ERR_COUNT of the page at `base`. -/
def R.ERR_COUNT (base : Nat) : Nat := base + 0x02C
def F.ERR_COUNT_COUNT (base : Nat) : Fld := ⟨R.ERR_COUNT base, 0, 32⟩
/-- MC_CORE, page MC0 +0x040 (ch01). -/
def R.MC_CORE : Nat := 0x40
def F.MC_CORE_FW_BUILD : Fld := ⟨R.MC_CORE, 16, 16⟩
def F.MC_CORE_FW_STATE : Fld := ⟨R.MC_CORE, 4, 4⟩
def F.MC_CORE_TCM_READY : Fld := ⟨R.MC_CORE, 1, 1⟩
def F.MC_CORE_LOCKSTEP : Fld := ⟨R.MC_CORE, 0, 1⟩
/-- SAP_CFG, page MC1 +0x040 (ch15). -/
def R.SAP_CFG : Nat := 0x1040
def F.SAP_CFG_EN : Fld := ⟨R.SAP_CFG, 31, 1⟩
def F.SAP_CFG_DOWN_EN : Fld := ⟨R.SAP_CFG, 24, 4⟩
def F.SAP_CFG_UDP_PORT : Fld := ⟨R.SAP_CFG, 0, 16⟩
/-- SAP_IP, page MC1 +0x044 (ch15). -/
def R.SAP_IP : Nat := 0x1044
def F.SAP_IP_ADDR : Fld := ⟨R.SAP_IP, 0, 32⟩
/-- SAP_DOWN_IP, page MC1 +0x048 (ch15). -/
def R.SAP_DOWN_IP (i : Nat) : Nat := 0x1048 + i * 0x4
def F.SAP_DOWN_IP_ADDR (i : Nat) : Fld := ⟨R.SAP_DOWN_IP i, 0, 32⟩
/-- SAP_MOTION, page MC1 +0x058 (ch15). -/
def R.SAP_MOTION : Nat := 0x1058
def F.SAP_MOTION_SINK : Fld := ⟨R.SAP_MOTION, 0, 20⟩
/-- SAP_MOTION_MAX, page MC1 +0x05C (ch15). -/
def R.SAP_MOTION_MAX : Nat := 0x105C
def F.SAP_MOTION_MAX_MAX : Fld := ⟨R.SAP_MOTION_MAX, 0, 16⟩
/-- SAP_BATT, page MC1 +0x060 (ch15). -/
def R.SAP_BATT : Nat := 0x1060
def F.SAP_BATT_SINK : Fld := ⟨R.SAP_BATT, 0, 20⟩
/-- SAP_BATT_MIN, page MC1 +0x064 (ch15). -/
def R.SAP_BATT_MIN : Nat := 0x1064
def F.SAP_BATT_MIN_MIN : Fld := ⟨R.SAP_BATT_MIN, 0, 16⟩
/-- SAP_SESSION, page MC1 +0x068 (ch15). -/
def R.SAP_SESSION : Nat := 0x1068
def F.SAP_SESSION_ID : Fld := ⟨R.SAP_SESSION, 0, 32⟩
/-- SAP_CMD, page MC1 +0x070 (ch15). -/
def R.SAP_CMD : Nat := 0x1070
def F.SAP_CMD_GO : Fld := ⟨R.SAP_CMD, 31, 1⟩
def F.SAP_CMD_OP : Fld := ⟨R.SAP_CMD, 24, 4⟩
/-- SAP_RESULT, page MC1 +0x074 (ch15). -/
def R.SAP_RESULT : Nat := 0x1074
def F.SAP_RESULT_CODE : Fld := ⟨R.SAP_RESULT, 0, 8⟩
/-- SAP_STAT, page MC1 +0x078 (ch15). -/
def R.SAP_STAT : Nat := 0x1078
def F.SAP_STAT_STATE : Fld := ⟨R.SAP_STAT, 28, 4⟩
def F.SAP_STAT_SLOT : Fld := ⟨R.SAP_STAT, 24, 1⟩
def F.SAP_STAT_HOLD : Fld := ⟨R.SAP_STAT, 0, 5⟩
/-- SAP_RX, page MC1 +0x07C (ch15). -/
def R.SAP_RX : Nat := 0x107C
def F.SAP_RX_ACK_SEQ : Fld := ⟨R.SAP_RX, 16, 14⟩
def F.SAP_RX_TOTAL : Fld := ⟨R.SAP_RX, 0, 14⟩
/-- SAP_DOWN_STAT, page MC1 +0x080 (ch15). -/
def R.SAP_DOWN_STAT (i : Nat) : Nat := 0x1080 + i * 0x4
def F.SAP_DOWN_STAT_ACK_SEQ (i : Nat) : Fld := ⟨R.SAP_DOWN_STAT i, 16, 14⟩
def F.SAP_DOWN_STAT_STATE (i : Nat) : Fld := ⟨R.SAP_DOWN_STAT i, 0, 3⟩
/-- SAP_CRC_BAD, page MC1 +0x0A0 (ch15). -/
def R.SAP_CRC_BAD : Nat := 0x10A0
def F.SAP_CRC_BAD_COUNT : Fld := ⟨R.SAP_CRC_BAD, 0, 32⟩
/-- SAP_RETX, page MC1 +0x0A4 (ch15). -/
def R.SAP_RETX : Nat := 0x10A4
def F.SAP_RETX_COUNT : Fld := ⟨R.SAP_RETX, 0, 32⟩
/-- SAP_DUP, page MC1 +0x0A8 (ch15). -/
def R.SAP_DUP : Nat := 0x10A8
def F.SAP_DUP_COUNT : Fld := ⟨R.SAP_DUP, 0, 32⟩
/-- PC_MODE, page PC0 +0x040 (ch13). -/
def R.PC_MODE : Nat := 0x100040
def F.PC_MODE_BUSY : Fld := ⟨R.PC_MODE, 31, 1⟩
def F.PC_MODE_RETURN : Fld := ⟨R.PC_MODE, 24, 4⟩
def F.PC_MODE_PREV : Fld := ⟨R.PC_MODE, 16, 4⟩
def F.PC_MODE_MODE : Fld := ⟨R.PC_MODE, 0, 4⟩
/-- PC_MODE_REQ, page PC0 +0x044 (ch13). -/
def R.PC_MODE_REQ : Nat := 0x100044
def F.PC_MODE_REQ_GO : Fld := ⟨R.PC_MODE_REQ, 31, 1⟩
def F.PC_MODE_REQ_MODE : Fld := ⟨R.PC_MODE_REQ, 0, 4⟩
/-- PC_RST_CAUSE, page PC0 +0x050 (ch13). -/
def R.PC_RST_CAUSE : Nat := 0x100050
def F.PC_RST_CAUSE_PROMOTED : Fld := ⟨R.PC_RST_CAUSE, 31, 1⟩
def F.PC_RST_CAUSE_KIND : Fld := ⟨R.PC_RST_CAUSE, 16, 2⟩
def F.PC_RST_CAUSE_SOURCES : Fld := ⟨R.PC_RST_CAUSE, 0, 10⟩
/-- PC_RST_CMD, page PC0 +0x054 (ch13). -/
def R.PC_RST_CMD : Nat := 0x100054
def F.PC_RST_CMD_KEY : Fld := ⟨R.PC_RST_CMD, 16, 16⟩
def F.PC_RST_CMD_COLD : Fld := ⟨R.PC_RST_CMD, 1, 1⟩
def F.PC_RST_CMD_WARM : Fld := ⟨R.PC_RST_CMD, 0, 1⟩
/-- PC_RST_CFG, page PC0 +0x058 (ch13). -/
def R.PC_RST_CFG : Nat := 0x100058
def F.PC_RST_CFG_RSTN_WARM : Fld := ⟨R.PC_RST_CFG, 0, 1⟩
/-- PC_RST_COUNT, page PC0 +0x05C (ch13). -/
def R.PC_RST_COUNT : Nat := 0x10005C
def F.PC_RST_COUNT_COLD : Fld := ⟨R.PC_RST_COUNT, 16, 16⟩
def F.PC_RST_COUNT_WARM : Fld := ⟨R.PC_RST_COUNT, 0, 16⟩
/-- PC_WDOG_CFG, page PC0 +0x060 (ch13). -/
def R.PC_WDOG_CFG : Nat := 0x100060
def F.PC_WDOG_CFG_EN : Fld := ⟨R.PC_WDOG_CFG, 31, 1⟩
def F.PC_WDOG_CFG_TIMEOUT_MS : Fld := ⟨R.PC_WDOG_CFG, 0, 16⟩
/-- PC_WDOG_KICK, page PC0 +0x064 (ch13). -/
def R.PC_WDOG_KICK : Nat := 0x100064
def F.PC_WDOG_KICK_KICK : Fld := ⟨R.PC_WDOG_KICK, 0, 16⟩
/-- PC_WDOG_LEFT, page PC0 +0x068 (ch13). -/
def R.PC_WDOG_LEFT : Nat := 0x100068
def F.PC_WDOG_LEFT_MS : Fld := ⟨R.PC_WDOG_LEFT, 0, 16⟩
/-- PC_STRAP, page PC1 +0x040 (ch13). -/
def R.PC_STRAP : Nat := 0x101040
def F.PC_STRAP_CLKSEL : Fld := ⟨R.PC_STRAP, 2, 2⟩
def F.PC_STRAP_BOOTSEL : Fld := ⟨R.PC_STRAP, 0, 2⟩
/-- BOOT_STEP, page PC1 +0x044 (ch13). -/
def R.BOOT_STEP : Nat := 0x101044
def F.BOOT_STEP_DONE : Fld := ⟨R.BOOT_STEP, 31, 1⟩
def F.BOOT_STEP_FAIL_STEP : Fld := ⟨R.BOOT_STEP, 16, 4⟩
def F.BOOT_STEP_STEP : Fld := ⟨R.BOOT_STEP, 0, 4⟩
/-- PC_BOOT_REC, page PC1 +0x048 (ch13). -/
def R.PC_BOOT_REC : Nat := 0x101048
def F.PC_BOOT_REC_VALID : Fld := ⟨R.PC_BOOT_REC, 31, 1⟩
def F.PC_BOOT_REC_LAST_FAIL : Fld := ⟨R.PC_BOOT_REC, 8, 4⟩
def F.PC_BOOT_REC_CONSEC : Fld := ⟨R.PC_BOOT_REC, 4, 2⟩
def F.PC_BOOT_REC_FLAGS : Fld := ⟨R.PC_BOOT_REC, 0, 4⟩
/-- PC_BOOT_CLR, page PC1 +0x04C (ch13). -/
def R.PC_BOOT_CLR : Nat := 0x10104C
def F.PC_BOOT_CLR_CONSEC : Fld := ⟨R.PC_BOOT_CLR, 8, 1⟩
def F.PC_BOOT_CLR_FLAGS : Fld := ⟨R.PC_BOOT_CLR, 0, 4⟩
/-- PC_BOOT_PATH, page PC1 +0x050 (ch13). -/
def R.PC_BOOT_PATH : Nat := 0x101050
def F.PC_BOOT_PATH_BYPASS : Fld := ⟨R.PC_BOOT_PATH, 16, 8⟩
def F.PC_BOOT_PATH_DDR_CONS : Fld := ⟨R.PC_BOOT_PATH, 8, 1⟩
def F.PC_BOOT_PATH_IMAGE : Fld := ⟨R.PC_BOOT_PATH, 0, 3⟩
/-- PC_HBOOT_LEN, page PC1 +0x068 (ch13). -/
def R.PC_HBOOT_LEN : Nat := 0x101068
def F.PC_HBOOT_LEN_BYTES : Fld := ⟨R.PC_HBOOT_LEN, 0, 24⟩
/-- PC_HBOOT_CTRL, page PC1 +0x06C (ch13). -/
def R.PC_HBOOT_CTRL : Nat := 0x10106C
def F.PC_HBOOT_CTRL_GO : Fld := ⟨R.PC_HBOOT_CTRL, 31, 1⟩
def F.PC_HBOOT_CTRL_STATE : Fld := ⟨R.PC_HBOOT_CTRL, 0, 2⟩
/-- PC_OPT_STAT, page PC1 +0x070 (ch13). -/
def R.PC_OPT_STAT : Nat := 0x101070
def F.PC_OPT_STAT_DONE : Fld := ⟨R.PC_OPT_STAT, 31, 1⟩
def F.PC_OPT_STAT_RESTARTS : Fld := ⟨R.PC_OPT_STAT, 16, 12⟩
def F.PC_OPT_STAT_COPY : Fld := ⟨R.PC_OPT_STAT, 0, 2⟩
/-- PC_PLL_STAT, page PC2 +0x040 (ch13). -/
def R.PC_PLL_STAT : Nat := 0x102040
def F.PC_PLL_STAT_BYPASS : Fld := ⟨R.PC_PLL_STAT, 16, 8⟩
def F.PC_PLL_STAT_SDS_LOCK : Fld := ⟨R.PC_PLL_STAT, 8, 4⟩
def F.PC_PLL_STAT_LOCK : Fld := ⟨R.PC_PLL_STAT, 0, 5⟩
/-- PC_MON_STAT, page PC2 +0x044 (ch13). -/
def R.PC_MON_STAT : Nat := 0x102044
def F.PC_MON_STAT_TJ : Fld := ⟨R.PC_MON_STAT, 24, 8⟩
def F.PC_MON_STAT_THERM_WARN : Fld := ⟨R.PC_MON_STAT, 17, 1⟩
def F.PC_MON_STAT_SUPPLY_OK : Fld := ⟨R.PC_MON_STAT, 0, 9⟩
/-- PC_GRP_CMD, page PC3 +0x040 (ch12). -/
def R.PC_GRP_CMD : Nat := 0x103040
def F.PC_GRP_CMD_GO : Fld := ⟨R.PC_GRP_CMD, 31, 1⟩
def F.PC_GRP_CMD_OP : Fld := ⟨R.PC_GRP_CMD, 24, 2⟩
def F.PC_GRP_CMD_GROUPS : Fld := ⟨R.PC_GRP_CMD, 0, 8⟩
/-- PC_GRP_STAT, page PC3 +0x044 (ch12). -/
def R.PC_GRP_STAT : Nat := 0x103044
def F.PC_GRP_STAT_STATES : Fld := ⟨R.PC_GRP_STAT, 0, 16⟩
/-- PC_XCVM, page PC3 +0x048 (ch12). -/
def R.PC_XCVM : Nat := 0x103048
def F.PC_XCVM_CODES : Fld := ⟨R.PC_XCVM, 0, 16⟩
/-- PC_XCVM_CFG, page PC3 +0x04C (ch12). -/
def R.PC_XCVM_CFG : Nat := 0x10304C
def F.PC_XCVM_CFG_STBY : Fld := ⟨R.PC_XCVM_CFG, 8, 8⟩
def F.PC_XCVM_CFG_LISTEN : Fld := ⟨R.PC_XCVM_CFG, 0, 8⟩
/-- PC_GRP_CFG, page PC3 +0x050 (ch12). -/
def R.PC_GRP_CFG : Nat := 0x103050
def F.PC_GRP_CFG_FULL_WAKE : Fld := ⟨R.PC_GRP_CFG, 31, 1⟩
def F.PC_GRP_CFG_LIN_GTS : Fld := ⟨R.PC_GRP_CFG, 30, 1⟩
def F.PC_GRP_CFG_INH_LEAD_MS : Fld := ⟨R.PC_GRP_CFG, 8, 8⟩
def F.PC_GRP_CFG_BUS_WAKE_US : Fld := ⟨R.PC_GRP_CFG, 0, 8⟩
/-- PC_AON_MS, page PC3 +0x058 (ch12). -/
def R.PC_AON_MS : Nat := 0x103058
def F.PC_AON_MS_MS : Fld := ⟨R.PC_AON_MS, 0, 32⟩
/-- PC_INH_CFG, page PC3 +0x060 (ch12). -/
def R.PC_INH_CFG (i : Nat) : Nat := 0x103060 + i * 0x4
def F.PC_INH_CFG_SELF (i : Nat) : Fld := ⟨R.PC_INH_CFG i, 31, 1⟩
def F.PC_INH_CFG_KEEP (i : Nat) : Fld := ⟨R.PC_INH_CFG i, 30, 1⟩
def F.PC_INH_CFG_LEVEL (i : Nat) : Fld := ⟨R.PC_INH_CFG i, 29, 1⟩
def F.PC_INH_CFG_GROUPS (i : Nat) : Fld := ⟨R.PC_INH_CFG i, 0, 8⟩
/-- PC_WAKE_CFG, page PC3 +0x070 (ch12). -/
def R.PC_WAKE_CFG (i : Nat) : Nat := 0x103070 + i * 0x4
def F.PC_WAKE_CFG_EN (i : Nat) : Fld := ⟨R.PC_WAKE_CFG i, 31, 1⟩
def F.PC_WAKE_CFG_EDGE (i : Nat) : Fld := ⟨R.PC_WAKE_CFG i, 29, 2⟩
def F.PC_WAKE_CFG_CHECK (i : Nat) : Fld := ⟨R.PC_WAKE_CFG i, 28, 1⟩
def F.PC_WAKE_CFG_GROUPS (i : Nat) : Fld := ⟨R.PC_WAKE_CFG i, 0, 8⟩
/-- PC_WAKE_CAUSE, page PC3 +0x090 (ch12). -/
def R.PC_WAKE_CAUSE : Nat := 0x103090
def F.PC_WAKE_CAUSE_VALID : Fld := ⟨R.PC_WAKE_CAUSE, 31, 1⟩
def F.PC_WAKE_CAUSE_KIND : Fld := ⟨R.PC_WAKE_CAUSE, 24, 4⟩
def F.PC_WAKE_CAUSE_SOURCE : Fld := ⟨R.PC_WAKE_CAUSE, 8, 8⟩
def F.PC_WAKE_CAUSE_GROUPS : Fld := ⟨R.PC_WAKE_CAUSE, 0, 8⟩
/-- PC_WAKE_MS, page PC3 +0x094 (ch12). -/
def R.PC_WAKE_MS : Nat := 0x103094
def F.PC_WAKE_MS_MS : Fld := ⟨R.PC_WAKE_MS, 0, 32⟩
/-- FALSE_WAKES, page PC3 +0x0A0 (ch12). -/
def R.FALSE_WAKES : Nat := 0x1030A0
def F.FALSE_WAKES_COUNT : Fld := ⟨R.FALSE_WAKES, 0, 32⟩
/-- BUS_WAKES, page PC3 +0x0A4 (ch12). -/
def R.BUS_WAKES : Nat := 0x1030A4
def F.BUS_WAKES_COUNT : Fld := ⟨R.BUS_WAKES, 0, 32⟩
/-- PIN_WAKES, page PC3 +0x0A8 (ch12). -/
def R.PIN_WAKES : Nat := 0x1030A8
def F.PIN_WAKES_COUNT : Fld := ⟨R.PIN_WAKES, 0, 32⟩
/-- SLEEPS, page PC3 +0x0AC (ch12). -/
def R.SLEEPS : Nat := 0x1030AC
def F.SLEEPS_COUNT : Fld := ⟨R.SLEEPS, 0, 32⟩
/-- CLR_CFG, page PC4 +0x040 (ch12). -/
def R.CLR_CFG : Nat := 0x104040
def F.CLR_CFG_EN : Fld := ⟨R.CLR_CFG, 31, 1⟩
def F.CLR_CFG_COMPAT : Fld := ⟨R.CLR_CFG, 30, 1⟩
def F.CLR_CFG_TARGET : Fld := ⟨R.CLR_CFG, 29, 1⟩
def F.CLR_CFG_NODE : Fld := ⟨R.CLR_CFG, 16, 6⟩
def F.CLR_CFG_CHAN : Fld := ⟨R.CLR_CFG, 8, 6⟩
/-- CLR_ID, page PC4 +0x044 (ch12). -/
def R.CLR_ID : Nat := 0x104044
def F.CLR_ID_IDE : Fld := ⟨R.CLR_ID, 29, 1⟩
def F.CLR_ID_ID_BASE : Fld := ⟨R.CLR_ID, 0, 29⟩
/-- CLR_MEMBERS_LO, page PC4 +0x048 (ch12). -/
def R.CLR_MEMBERS_LO : Nat := 0x104048
def F.CLR_MEMBERS_LO_MASK : Fld := ⟨R.CLR_MEMBERS_LO, 0, 32⟩
/-- CLR_MEMBERS_HI, page PC4 +0x04C (ch12). -/
def R.CLR_MEMBERS_HI : Nat := 0x10404C
def F.CLR_MEMBERS_HI_MASK : Fld := ⟨R.CLR_MEMBERS_HI, 0, 32⟩
/-- CLR_TIMING, page PC4 +0x050 (ch12). -/
def R.CLR_TIMING : Nat := 0x104050
def F.CLR_TIMING_RING_PERIOD_MS : Fld := ⟨R.CLR_TIMING, 16, 16⟩
def F.CLR_TIMING_T_SETTLE_MS : Fld := ⟨R.CLR_TIMING, 0, 16⟩
/-- CLR_TIMING2, page PC4 +0x054 (ch12). -/
def R.CLR_TIMING2 : Nat := 0x104054
def F.CLR_TIMING2_T_FALSEWAKE_MS : Fld := ⟨R.CLR_TIMING2, 16, 16⟩
def F.CLR_TIMING2_KEEPER_LAPS : Fld := ⟨R.CLR_TIMING2, 0, 16⟩
/-- CLR_HOLD, page PC4 +0x058 (ch12). -/
def R.CLR_HOLD : Nat := 0x104058
def F.CLR_HOLD_BITS : Fld := ⟨R.CLR_HOLD, 0, 3⟩
/-- CLR_ACT, page PC4 +0x05C (ch12). -/
def R.CLR_ACT : Nat := 0x10405C
def F.CLR_ACT_GROUPS : Fld := ⟨R.CLR_ACT, 24, 8⟩
def F.CLR_ACT_PORTS : Fld := ⟨R.CLR_ACT, 0, 24⟩
/-- CLR_ACT_MS, page PC4 +0x060 (ch12). -/
def R.CLR_ACT_MS : Nat := 0x104060
def F.CLR_ACT_MS_MS : Fld := ⟨R.CLR_ACT_MS, 0, 16⟩
/-- CLR_GV_HOLD_LO, page PC4 +0x064 (ch12). -/
def R.CLR_GV_HOLD_LO : Nat := 0x104064
def F.CLR_GV_HOLD_LO_MASK : Fld := ⟨R.CLR_GV_HOLD_LO, 0, 32⟩
/-- CLR_GV_HOLD_HI, page PC4 +0x068 (ch12). -/
def R.CLR_GV_HOLD_HI : Nat := 0x104068
def F.CLR_GV_HOLD_HI_MASK : Fld := ⟨R.CLR_GV_HOLD_HI, 0, 32⟩
/-- CLR_GV_REL_LO, page PC4 +0x06C (ch12). -/
def R.CLR_GV_REL_LO : Nat := 0x10406C
/-- CLR_GV_REL_HI, page PC4 +0x070 (ch12). -/
def R.CLR_GV_REL_HI : Nat := 0x104070
/-- CLR_NM_TIMEOUT, page PC4 +0x074 (ch12). -/
def R.CLR_NM_TIMEOUT : Nat := 0x104074
def F.CLR_NM_TIMEOUT_MS : Fld := ⟨R.CLR_NM_TIMEOUT, 0, 16⟩
/-- CLR_STAT, page PC4 +0x078 (ch12). -/
def R.CLR_STAT : Nat := 0x104078
def F.CLR_STAT_REASON : Fld := ⟨R.CLR_STAT, 16, 8⟩
def F.CLR_STAT_CONSENT : Fld := ⟨R.CLR_STAT, 8, 1⟩
def F.CLR_STAT_STATE : Fld := ⟨R.CLR_STAT, 0, 3⟩
/-- CLR_LAP, page PC4 +0x07C (ch12). -/
def R.CLR_LAP : Nat := 0x10407C
def F.CLR_LAP_LAP : Fld := ⟨R.CLR_LAP, 0, 16⟩
/-- CLR_PRESENT_LO, page PC4 +0x080 (ch12). -/
def R.CLR_PRESENT_LO : Nat := 0x104080
def F.CLR_PRESENT_LO_MASK : Fld := ⟨R.CLR_PRESENT_LO, 0, 32⟩
/-- CLR_PRESENT_HI, page PC4 +0x084 (ch12). -/
def R.CLR_PRESENT_HI : Nat := 0x104084
def F.CLR_PRESENT_HI_MASK : Fld := ⟨R.CLR_PRESENT_HI, 0, 32⟩
/-- CLR_IND_LO, page PC4 +0x088 (ch12). -/
def R.CLR_IND_LO : Nat := 0x104088
def F.CLR_IND_LO_MASK : Fld := ⟨R.CLR_IND_LO, 0, 32⟩
/-- CLR_IND_HI, page PC4 +0x08C (ch12). -/
def R.CLR_IND_HI : Nat := 0x10408C
def F.CLR_IND_HI_MASK : Fld := ⟨R.CLR_IND_HI, 0, 32⟩
/-- CLR_CMD, page PC4 +0x090 (ch12). -/
def R.CLR_CMD : Nat := 0x104090
def F.CLR_CMD_WAKE_HOLD : Fld := ⟨R.CLR_CMD, 0, 1⟩
/-- LATE_WAKES, page PC4 +0x0A0 (ch12). -/
def R.LATE_WAKES : Nat := 0x1040A0
def F.LATE_WAKES_COUNT : Fld := ⟨R.LATE_WAKES, 0, 32⟩
/-- KEEPERS, page PC4 +0x0A4 (ch12). -/
def R.KEEPERS : Nat := 0x1040A4
def F.KEEPERS_COUNT : Fld := ⟨R.KEEPERS, 0, 32⟩
/-- RING_SKIPS, page PC4 +0x0A8 (ch12). -/
def R.RING_SKIPS : Nat := 0x1040A8
def F.RING_SKIPS_COUNT : Fld := ⟨R.RING_SKIPS, 0, 32⟩
/-- AGREEMENTS, page PC4 +0x0AC (ch12). -/
def R.AGREEMENTS : Nat := 0x1040AC
def F.AGREEMENTS_COUNT : Fld := ⟨R.AGREEMENTS, 0, 32⟩
/-- CH_HEAD, page PC5 +0x040 (ch16). -/
def R.CH_HEAD : Nat := 0x105040
def F.CH_HEAD_SEQ : Fld := ⟨R.CH_HEAD, 0, 32⟩
/-- CH_STAT, page PC5 +0x044 (ch16). -/
def R.CH_STAT : Nat := 0x105044
def F.CH_STAT_SCAN_DONE : Fld := ⟨R.CH_STAT, 31, 1⟩
def F.CH_STAT_TORN : Fld := ⟨R.CH_STAT, 30, 1⟩
def F.CH_STAT_QUEUED : Fld := ⟨R.CH_STAT, 0, 7⟩
/-- CH_DROPPED, page PC5 +0x048 (ch16). -/
def R.CH_DROPPED : Nat := 0x105048
def F.CH_DROPPED_COUNT : Fld := ⟨R.CH_DROPPED, 0, 32⟩
/-- CH_SUPPRESS, page PC5 +0x04C (ch16). -/
def R.CH_SUPPRESS : Nat := 0x10504C
def F.CH_SUPPRESS_SUPPRESS_MS : Fld := ⟨R.CH_SUPPRESS, 0, 16⟩
/-- CH_SEL, page PC5 +0x050 (ch16). -/
def R.CH_SEL : Nat := 0x105050
def F.CH_SEL_VALID : Fld := ⟨R.CH_SEL, 31, 1⟩
def F.CH_SEL_SLOT : Fld := ⟨R.CH_SEL, 0, 14⟩
/-- CH_DATA, page PC5 +0x060 (ch16). -/
def R.CH_DATA (i : Nat) : Nat := 0x105060 + i * 0x4
def F.CH_DATA_DATA (i : Nat) : Fld := ⟨R.CH_DATA i, 0, 32⟩
/-- CH_WCMD, page PC5 +0x0A0 (ch16). -/
def R.CH_WCMD : Nat := 0x1050A0
def F.CH_WCMD_GO : Fld := ⟨R.CH_WCMD, 31, 1⟩
def F.CH_WCMD_CAUSE : Fld := ⟨R.CH_WCMD, 0, 16⟩
/-- CH_WDATA, page PC5 +0x0C0 (ch16). -/
def R.CH_WDATA (i : Nat) : Nat := 0x1050C0 + i * 0x4
def F.CH_WDATA_DATA (i : Nat) : Fld := ⟨R.CH_WDATA i, 0, 32⟩
/-- CAL_STAT, page PC5 +0x100 (ch16). -/
def R.CAL_STAT : Nat := 0x105100
def F.CAL_STAT_VALID : Fld := ⟨R.CAL_STAT, 31, 1⟩
def F.CAL_STAT_ORIGIN : Fld := ⟨R.CAL_STAT, 30, 1⟩
def F.CAL_STAT_BUSY : Fld := ⟨R.CAL_STAT, 29, 1⟩
def F.CAL_STAT_GEN : Fld := ⟨R.CAL_STAT, 0, 16⟩
/-- CAL_CRC, page PC5 +0x104 (ch16). -/
def R.CAL_CRC : Nat := 0x105104
def F.CAL_CRC_CRC : Fld := ⟨R.CAL_CRC, 0, 32⟩
/-- CAL_SEL, page PC5 +0x108 (ch16). -/
def R.CAL_SEL : Nat := 0x105108
def F.CAL_SEL_INDEX : Fld := ⟨R.CAL_SEL, 0, 9⟩
/-- CAL_DATA, page PC5 +0x10C (ch16). -/
def R.CAL_DATA : Nat := 0x10510C
def F.CAL_DATA_DATA : Fld := ⟨R.CAL_DATA, 0, 32⟩
/-- CAL_CMD, page PC5 +0x110 (ch16). -/
def R.CAL_CMD : Nat := 0x105110
def F.CAL_CMD_GO : Fld := ⟨R.CAL_CMD, 31, 1⟩
def F.CAL_CMD_OP : Fld := ⟨R.CAL_CMD, 24, 2⟩
def F.CAL_CMD_KEY : Fld := ⟨R.CAL_CMD, 0, 16⟩
/-- OPT_SEL, page PC5 +0x200 (ch16). -/
def R.OPT_SEL : Nat := 0x105200
def F.OPT_SEL_INDEX : Fld := ⟨R.OPT_SEL, 0, 11⟩
/-- OPT_DATA, page PC5 +0x204 (ch16). -/
def R.OPT_DATA : Nat := 0x105204
def F.OPT_DATA_DATA : Fld := ⟨R.OPT_DATA, 0, 32⟩
/-- OPT_CMD, page PC5 +0x208 (ch16). -/
def R.OPT_CMD : Nat := 0x105208
def F.OPT_CMD_GO : Fld := ⟨R.OPT_CMD, 31, 1⟩
def F.OPT_CMD_OP : Fld := ⟨R.OPT_CMD, 24, 2⟩
def F.OPT_CMD_KEY : Fld := ⟨R.OPT_CMD, 0, 16⟩
/-- OPT_CRC, page PC5 +0x20C (ch16). -/
def R.OPT_CRC : Nat := 0x10520C
def F.OPT_CRC_CRC : Fld := ⟨R.OPT_CRC, 0, 32⟩
/-- ID_LOT0, page SD0 +0x040 (ch00,ch16). -/
def R.ID_LOT0 : Nat := 0x200040
/-- ID_LOT1, page SD0 +0x044 (ch00,ch16). -/
def R.ID_LOT1 : Nat := 0x200044
/-- ID_LOT2, page SD0 +0x048 (ch00,ch16). -/
def R.ID_LOT2 : Nat := 0x200048
/-- ID_DIE, page SD0 +0x04C (ch00,ch16). -/
def R.ID_DIE : Nat := 0x20004C
/-- ID_PART, page SD0 +0x050 (ch00,ch16). -/
def R.ID_PART : Nat := 0x200050
/-- SD_SAFE_STAT, page SD0 +0x060 (ch00,ch16). -/
def R.SD_SAFE_STAT : Nat := 0x200060
def F.SD_SAFE_STAT_SAFE : Fld := ⟨R.SD_SAFE_STAT, 31, 1⟩
def F.SD_SAFE_STAT_HEALTHY : Fld := ⟨R.SD_SAFE_STAT, 4, 5⟩
def F.SD_SAFE_STAT_TEMP_OK : Fld := ⟨R.SD_SAFE_STAT, 3, 1⟩
def F.SD_SAFE_STAT_SUPPLY_OK : Fld := ⟨R.SD_SAFE_STAT, 2, 1⟩
def F.SD_SAFE_STAT_PAIR_OK : Fld := ⟨R.SD_SAFE_STAT, 1, 1⟩
def F.SD_SAFE_STAT_SCRUB_OK : Fld := ⟨R.SD_SAFE_STAT, 0, 1⟩
/-- SD_FAULT_CFG, page SD1 +0x040 (ch16). -/
def R.SD_FAULT_CFG (i : Nat) : Nat := 0x201040 + i * 0x4
def F.SD_FAULT_CFG_IRQ (i : Nat) : Fld := ⟨R.SD_FAULT_CFG i, 31, 1⟩
def F.SD_FAULT_CFG_RECORD (i : Nat) : Fld := ⟨R.SD_FAULT_CFG i, 30, 1⟩
def F.SD_FAULT_CFG_RING (i : Nat) : Fld := ⟨R.SD_FAULT_CFG i, 29, 1⟩
def F.SD_FAULT_CFG_ACTION (i : Nat) : Fld := ⟨R.SD_FAULT_CFG i, 0, 3⟩
/-- SD_FAULT_CNT, page SD1 +0x0C0 (ch16). -/
def R.SD_FAULT_CNT (i : Nat) : Nat := 0x2010C0 + i * 0x4
def F.SD_FAULT_CNT_COUNT (i : Nat) : Fld := ⟨R.SD_FAULT_CNT i, 0, 32⟩
/-- SD_FAULT_LAST, page SD1 +0x140 (ch16). -/
def R.SD_FAULT_LAST : Nat := 0x201140
def F.SD_FAULT_LAST_VALID : Fld := ⟨R.SD_FAULT_LAST, 31, 1⟩
def F.SD_FAULT_LAST_SOURCE : Fld := ⟨R.SD_FAULT_LAST, 0, 5⟩
/-- SD_SCRUB_CTRL, page SD2 +0x040 (ch16). -/
def R.SD_SCRUB_CTRL : Nat := 0x202040
def F.SD_SCRUB_CTRL_EN : Fld := ⟨R.SD_SCRUB_CTRL, 31, 1⟩
/-- SD_SCRUB_SEL, page SD2 +0x044 (ch16). -/
def R.SD_SCRUB_SEL : Nat := 0x202044
def F.SD_SCRUB_SEL_MEM : Fld := ⟨R.SD_SCRUB_SEL, 0, 4⟩
/-- SD_SCRUB_STAT, page SD2 +0x048 (ch16). -/
def R.SD_SCRUB_STAT : Nat := 0x202048
def F.SD_SCRUB_STAT_PASSES : Fld := ⟨R.SD_SCRUB_STAT, 16, 16⟩
def F.SD_SCRUB_STAT_LAST_US : Fld := ⟨R.SD_SCRUB_STAT, 0, 16⟩
/-- SD_SCRUB_SBE, page SD2 +0x04C (ch16). -/
def R.SD_SCRUB_SBE : Nat := 0x20204C
def F.SD_SCRUB_SBE_COUNT : Fld := ⟨R.SD_SCRUB_SBE, 0, 32⟩
/-- SD_SCRUB_DBE, page SD2 +0x050 (ch16). -/
def R.SD_SCRUB_DBE : Nat := 0x202050
def F.SD_SCRUB_DBE_COUNT : Fld := ⟨R.SD_SCRUB_DBE, 0, 32⟩
/-- SD_INJECT, page SD3 +0x040 (ch16). -/
def R.SD_INJECT : Nat := 0x203040
def F.SD_INJECT_GO : Fld := ⟨R.SD_INJECT, 31, 1⟩
def F.SD_INJECT_KIND : Fld := ⟨R.SD_INJECT, 24, 2⟩
def F.SD_INJECT_MEM : Fld := ⟨R.SD_INJECT, 16, 4⟩
def F.SD_INJECT_INSTANCE : Fld := ⟨R.SD_INJECT, 8, 8⟩
/-- SD_INJECT_ADDR, page SD3 +0x044 (ch16). -/
def R.SD_INJECT_ADDR : Nat := 0x203044
def F.SD_INJECT_ADDR_ADDR : Fld := ⟨R.SD_INJECT_ADDR, 0, 32⟩
/-- SC_LC, page SC0 +0x040 (ch14). -/
def R.SC_LC : Nat := 0x300040
def F.SC_LC_PENDING_VALID : Fld := ⟨R.SC_LC, 31, 1⟩
def F.SC_LC_PENDING : Fld := ⟨R.SC_LC, 8, 3⟩
def F.SC_LC_STATE : Fld := ⟨R.SC_LC, 0, 3⟩
/-- SC_KEYS, page SC0 +0x044 (ch14). -/
def R.SC_KEYS : Nat := 0x300044
def F.SC_KEYS_VAULT_KILL : Fld := ⟨R.SC_KEYS, 11, 1⟩
def F.SC_KEYS_ID_OK : Fld := ⟨R.SC_KEYS, 10, 1⟩
def F.SC_KEYS_DBG_PROG : Fld := ⟨R.SC_KEYS, 8, 1⟩
def F.SC_KEYS_REVOKED : Fld := ⟨R.SC_KEYS, 4, 4⟩
def F.SC_KEYS_PROG : Fld := ⟨R.SC_KEYS, 0, 4⟩
/-- SC_RB, page SC0 +0x048 (ch14). -/
def R.SC_RB : Nat := 0x300048
def F.SC_RB_CTR0 : Fld := ⟨R.SC_RB, 0, 7⟩
def F.SC_RB_CTR1 : Fld := ⟨R.SC_RB, 8, 7⟩
def F.SC_RB_CTR2 : Fld := ⟨R.SC_RB, 16, 7⟩
def F.SC_RB_CTR3 : Fld := ⟨R.SC_RB, 24, 7⟩
/-- SC_BOOT_IMG, page SC0 +0x04C (ch14). -/
def R.SC_BOOT_IMG : Nat := 0x30004C
def F.SC_BOOT_IMG_SVN : Fld := ⟨R.SC_BOOT_IMG, 24, 7⟩
def F.SC_BOOT_IMG_RB_INDEX : Fld := ⟨R.SC_BOOT_IMG, 12, 2⟩
def F.SC_BOOT_IMG_KIND : Fld := ⟨R.SC_BOOT_IMG, 8, 4⟩
def F.SC_BOOT_IMG_KEY_SLOT : Fld := ⟨R.SC_BOOT_IMG, 0, 3⟩
/-- SC_OTP_CMD, page SC0 +0x050 (ch14). -/
def R.SC_OTP_CMD : Nat := 0x300050
def F.SC_OTP_CMD_GO : Fld := ⟨R.SC_OTP_CMD, 31, 1⟩
def F.SC_OTP_CMD_OP : Fld := ⟨R.SC_OTP_CMD, 24, 4⟩
def F.SC_OTP_CMD_ARG : Fld := ⟨R.SC_OTP_CMD, 16, 3⟩
def F.SC_OTP_CMD_KEY : Fld := ⟨R.SC_OTP_CMD, 0, 16⟩
/-- SC_OTP_VALUE, page SC0 +0x054 (ch14). -/
def R.SC_OTP_VALUE : Nat := 0x300054
def F.SC_OTP_VALUE_VALUE : Fld := ⟨R.SC_OTP_VALUE, 0, 7⟩
/-- SC_OTP_RESULT, page SC0 +0x058 (ch14). -/
def R.SC_OTP_RESULT : Nat := 0x300058
def F.SC_OTP_RESULT_CODE : Fld := ⟨R.SC_OTP_RESULT, 0, 16⟩
/-- SC_OTP_DATA, page SC0 +0x060 (ch14). -/
def R.SC_OTP_DATA (i : Nat) : Nat := 0x300060 + i * 0x4
/-- MEAS, page SC1 +0x040 (ch14). -/
def R.MEAS (i : Nat) : Nat := 0x301040 + i * 0x4
/-- MEAS_IN, page SC1 +0x140 (ch14). -/
def R.MEAS_IN (i : Nat) : Nat := 0x301140 + i * 0x4
/-- MEAS_EXT, page SC1 +0x160 (ch14). -/
def R.MEAS_EXT : Nat := 0x301160
def F.MEAS_EXT_GO : Fld := ⟨R.MEAS_EXT, 31, 1⟩
def F.MEAS_EXT_INDEX : Fld := ⟨R.MEAS_EXT, 0, 3⟩
/-- QUOTE_CMD, page SC1 +0x170 (ch14). -/
def R.QUOTE_CMD : Nat := 0x301170
def F.QUOTE_CMD_GO : Fld := ⟨R.QUOTE_CMD, 31, 1⟩
def F.QUOTE_CMD_STATE : Fld := ⟨R.QUOTE_CMD, 0, 2⟩
/-- QUOTE_NONCE, page SC1 +0x180 (ch14). -/
def R.QUOTE_NONCE (i : Nat) : Nat := 0x301180 + i * 0x4
/-- QUOTE_DATA, page SC1 +0x200 (ch14). -/
def R.QUOTE_DATA (i : Nat) : Nat := 0x301200 + i * 0x4
/-- ID_PUB, page SC1 +0x600 (ch14). -/
def R.ID_PUB (i : Nat) : Nat := 0x301600 + i * 0x4
/-- ID_CERT, page SC1 +0x800 (ch14). -/
def R.ID_CERT (i : Nat) : Nat := 0x301800 + i * 0x4
/-- VAULT_CMD, page SC2 +0x040 (ch14). -/
def R.VAULT_CMD : Nat := 0x302040
def F.VAULT_CMD_GO : Fld := ⟨R.VAULT_CMD, 31, 1⟩
def F.VAULT_CMD_OP : Fld := ⟨R.VAULT_CMD, 24, 3⟩
def F.VAULT_CMD_LEN : Fld := ⟨R.VAULT_CMD, 8, 1⟩
def F.VAULT_CMD_SLOT : Fld := ⟨R.VAULT_CMD, 0, 5⟩
/-- VAULT_RESULT, page SC2 +0x044 (ch14). -/
def R.VAULT_RESULT : Nat := 0x302044
def F.VAULT_RESULT_CODE : Fld := ⟨R.VAULT_RESULT, 0, 16⟩
/-- VAULT_USED, page SC2 +0x048 (ch14). -/
def R.VAULT_USED : Nat := 0x302048
def F.VAULT_USED_MASK : Fld := ⟨R.VAULT_USED, 0, 32⟩
/-- WK_STAT, page SC2 +0x04C (ch14). -/
def R.WK_STAT : Nat := 0x30204C
def F.WK_STAT_VALID : Fld := ⟨R.WK_STAT, 31, 1⟩
def F.WK_STAT_LEN : Fld := ⟨R.WK_STAT, 30, 1⟩
def F.WK_STAT_SLOT : Fld := ⟨R.WK_STAT, 24, 5⟩
def F.WK_STAT_CHECK : Fld := ⟨R.WK_STAT, 0, 24⟩
/-- KEY_IN, page SC2 +0x060 (ch14). -/
def R.KEY_IN (i : Nat) : Nat := 0x302060 + i * 0x4
/-- CMAC_LEN, page SC2 +0x080 (ch14). -/
def R.CMAC_LEN : Nat := 0x302080
def F.CMAC_LEN_BYTES : Fld := ⟨R.CMAC_LEN, 0, 9⟩
/-- CMAC_OUT, page SC2 +0x090 (ch14). -/
def R.CMAC_OUT (i : Nat) : Nat := 0x302090 + i * 0x4
/-- VDATA, page SC2 +0x100 (ch14). -/
def R.VDATA (i : Nat) : Nat := 0x302100 + i * 0x4
/-- TK_CMD, page SC3 +0x040 (ch14). -/
def R.TK_CMD : Nat := 0x303040
def F.TK_CMD_GO : Fld := ⟨R.TK_CMD, 31, 1⟩
def F.TK_CMD_OP : Fld := ⟨R.TK_CMD, 24, 3⟩
def F.TK_CMD_INDEX : Fld := ⟨R.TK_CMD, 0, 12⟩
/-- TK_RESULT, page SC3 +0x044 (ch14). -/
def R.TK_RESULT : Nat := 0x303044
def F.TK_RESULT_CODE : Fld := ⟨R.TK_RESULT, 0, 16⟩
/-- TK_STG_CFG, page SC3 +0x048 (ch14). -/
def R.TK_STG_CFG : Nat := 0x303048
def F.TK_STG_CFG_STG_VALID : Fld := ⟨R.TK_STG_CFG, 31, 1⟩
def F.TK_STG_CFG_LEN : Fld := ⟨R.TK_STG_CFG, 30, 1⟩
def F.TK_STG_CFG_SALT_EN : Fld := ⟨R.TK_STG_CFG, 29, 1⟩
def F.TK_STG_CFG_SRC : Fld := ⟨R.TK_STG_CFG, 28, 1⟩
def F.TK_STG_CFG_EXP_CHECK : Fld := ⟨R.TK_STG_CFG, 0, 24⟩
/-- TK_STG_KEY, page SC3 +0x060 (ch14). -/
def R.TK_STG_KEY (i : Nat) : Nat := 0x303060 + i * 0x4
/-- TK_STG_SALT, page SC3 +0x080 (ch14). -/
def R.TK_STG_SALT (i : Nat) : Nat := 0x303080 + i * 0x4
/-- TK_ENTRY, page SC3 +0x090 (ch14). -/
def R.TK_ENTRY : Nat := 0x303090
def F.TK_ENTRY_VALID : Fld := ⟨R.TK_ENTRY, 31, 1⟩
def F.TK_ENTRY_LEN : Fld := ⟨R.TK_ENTRY, 30, 1⟩
def F.TK_ENTRY_SALT_VALID : Fld := ⟨R.TK_ENTRY, 29, 1⟩
def F.TK_ENTRY_CHECK : Fld := ⟨R.TK_ENTRY, 0, 24⟩
/-- TK_SWAPS, page SC3 +0x094 (ch14). -/
def R.TK_SWAPS : Nat := 0x303094
def F.TK_SWAPS_COUNT : Fld := ⟨R.TK_SWAPS, 0, 32⟩
/-- TK_CHECK_FAIL, page SC3 +0x098 (ch14). -/
def R.TK_CHECK_FAIL : Nat := 0x303098
def F.TK_CHECK_FAIL_COUNT : Fld := ⟨R.TK_CHECK_FAIL, 0, 32⟩
/-- DBG_STAT, page SC4 +0x040 (ch14). -/
def R.DBG_STAT : Nat := 0x304040
def F.DBG_STAT_LOCKOUT : Fld := ⟨R.DBG_STAT, 8, 1⟩
def F.DBG_STAT_FAILS : Fld := ⟨R.DBG_STAT, 4, 2⟩
def F.DBG_STAT_LEVEL : Fld := ⟨R.DBG_STAT, 0, 2⟩
/-- DBG_CMD, page SC4 +0x044 (ch14). -/
def R.DBG_CMD : Nat := 0x304044
def F.DBG_CMD_GO : Fld := ⟨R.DBG_CMD, 31, 1⟩
def F.DBG_CMD_OP : Fld := ⟨R.DBG_CMD, 24, 2⟩
def F.DBG_CMD_LEVEL : Fld := ⟨R.DBG_CMD, 16, 2⟩
def F.DBG_CMD_KEYSEL : Fld := ⟨R.DBG_CMD, 8, 1⟩
/-- DBG_RESULT, page SC4 +0x048 (ch14). -/
def R.DBG_RESULT : Nat := 0x304048
def F.DBG_RESULT_CODE : Fld := ⟨R.DBG_RESULT, 0, 16⟩
/-- DBG_CHAL, page SC4 +0x060 (ch14). -/
def R.DBG_CHAL (i : Nat) : Nat := 0x304060 + i * 0x4
/-- DBG_SIG, page SC4 +0x100 (ch14). -/
def R.DBG_SIG (i : Nat) : Nat := 0x304100 + i * 0x4
/-- DBG_PUB, page SC4 +0x300 (ch14). -/
def R.DBG_PUB (i : Nat) : Nat := 0x304300 + i * 0x4
/-- TL_BASE_CTRL, page TL0 +0x040 (ch03). -/
def R.TL_BASE_CTRL : Nat := 0x400040
def F.TL_BASE_CTRL_SNAP : Fld := ⟨R.TL_BASE_CTRL, 0, 1⟩
/-- TL_BASE_STAT, page TL0 +0x044 (ch03). -/
def R.TL_BASE_STAT : Nat := 0x400044
def F.TL_BASE_STAT_SNAP_SEQ : Fld := ⟨R.TL_BASE_STAT, 16, 16⟩
def F.TL_BASE_STAT_CAL_BAD : Fld := ⟨R.TL_BASE_STAT, 2, 1⟩
def F.TL_BASE_STAT_TPLL_LOCK : Fld := ⟨R.TL_BASE_STAT, 1, 1⟩
def F.TL_BASE_STAT_RUNNING : Fld := ⟨R.TL_BASE_STAT, 0, 1⟩
/-- TL_NOW32, page TL0 +0x048 (ch03). -/
def R.TL_NOW32 : Nat := 0x400048
def F.TL_NOW32_NS : Fld := ⟨R.TL_NOW32, 0, 32⟩
/-- SNAP_SEC_LO, page TL0 +0x060 (ch03). -/
def R.SNAP_SEC_LO (i : Nat) : Nat := 0x400060 + i * 0x10
def F.SNAP_SEC_LO_SEC (i : Nat) : Fld := ⟨R.SNAP_SEC_LO i, 0, 32⟩
/-- SNAP_SEC_HI, page TL0 +0x064 (ch03). -/
def R.SNAP_SEC_HI (i : Nat) : Nat := 0x400064 + i * 0x10
def F.SNAP_SEC_HI_SEC (i : Nat) : Fld := ⟨R.SNAP_SEC_HI i, 0, 16⟩
/-- SNAP_NS, page TL0 +0x068 (ch03). -/
def R.SNAP_NS (i : Nat) : Nat := 0x400068 + i * 0x10
def F.SNAP_NS_NS (i : Nat) : Fld := ⟨R.SNAP_NS i, 0, 30⟩
/-- SNAP_AUX, page TL0 +0x06C (ch03). -/
def R.SNAP_AUX (i : Nat) : Nat := 0x40006C + i * 0x10
def F.SNAP_AUX_VALID (i : Nat) : Fld := ⟨R.SNAP_AUX i, 31, 1⟩
def F.SNAP_AUX_STEP_CNT (i : Nat) : Fld := ⟨R.SNAP_AUX i, 16, 8⟩
def F.SNAP_AUX_FRAC (i : Nat) : Fld := ⟨R.SNAP_AUX i, 0, 16⟩
/-- DOM_CTRL, page TLD +0x040 (ch03). -/
def R.DOM_CTRL (d : Nat) : Nat := 0x401040 + d * 0x1000
def F.DOM_CTRL_ARM (d : Nat) : Fld := ⟨R.DOM_CTRL d, 31, 1⟩
def F.DOM_CTRL_KI_SHIFT (d : Nat) : Fld := ⟨R.DOM_CTRL d, 20, 4⟩
def F.DOM_CTRL_KP_SHIFT (d : Nat) : Fld := ⟨R.DOM_CTRL d, 16, 4⟩
def F.DOM_CTRL_SAMPLE_LOG2 (d : Nat) : Fld := ⟨R.DOM_CTRL d, 8, 8⟩
def F.DOM_CTRL_SERVO (d : Nat) : Fld := ⟨R.DOM_CTRL d, 1, 1⟩
def F.DOM_CTRL_EN (d : Nat) : Fld := ⟨R.DOM_CTRL d, 0, 1⟩
/-- DOM_STATE, page TLD +0x044 (ch03). -/
def R.DOM_STATE (d : Nat) : Nat := 0x401044 + d * 0x1000
def F.DOM_STATE_STEP_CNT (d : Nat) : Fld := ⟨R.DOM_STATE d, 24, 8⟩
def F.DOM_STATE_REFUSE_RUN (d : Nat) : Fld := ⟨R.DOM_STATE d, 20, 4⟩
def F.DOM_STATE_LOCK_RUN (d : Nat) : Fld := ⟨R.DOM_STATE d, 16, 4⟩
def F.DOM_STATE_CLAMPED (d : Nat) : Fld := ⟨R.DOM_STATE d, 3, 1⟩
def F.DOM_STATE_STATE (d : Nat) : Fld := ⟨R.DOM_STATE d, 0, 3⟩
/-- DOM_RATE_LO, page TLD +0x048 (ch03). -/
def R.DOM_RATE_LO (d : Nat) : Nat := 0x401048 + d * 0x1000
/-- DOM_RATE_HI, page TLD +0x04C (ch03). -/
def R.DOM_RATE_HI (d : Nat) : Nat := 0x40104C + d * 0x1000
/-- DOM_SAMPLE_SEC_LO, page TLD +0x050 (ch03). -/
def R.DOM_SAMPLE_SEC_LO (d : Nat) : Nat := 0x401050 + d * 0x1000
def F.DOM_SAMPLE_SEC_LO_SEC (d : Nat) : Fld := ⟨R.DOM_SAMPLE_SEC_LO d, 0, 32⟩
/-- DOM_SAMPLE_SEC_HI, page TLD +0x054 (ch03). -/
def R.DOM_SAMPLE_SEC_HI (d : Nat) : Nat := 0x401054 + d * 0x1000
def F.DOM_SAMPLE_SEC_HI_SEC (d : Nat) : Fld := ⟨R.DOM_SAMPLE_SEC_HI d, 0, 16⟩
/-- DOM_SAMPLE_NS, page TLD +0x058 (ch03). -/
def R.DOM_SAMPLE_NS (d : Nat) : Nat := 0x401058 + d * 0x1000
def F.DOM_SAMPLE_NS_NS (d : Nat) : Fld := ⟨R.DOM_SAMPLE_NS d, 0, 30⟩
/-- DOM_SAMPLE_FRAC, page TLD +0x05C (ch03). -/
def R.DOM_SAMPLE_FRAC (d : Nat) : Nat := 0x40105C + d * 0x1000
def F.DOM_SAMPLE_FRAC_FRAC (d : Nat) : Fld := ⟨R.DOM_SAMPLE_FRAC d, 0, 16⟩
/-- DOM_SAMPLE_GO, page TLD +0x060 (ch03). -/
def R.DOM_SAMPLE_GO (d : Nat) : Nat := 0x401060 + d * 0x1000
def F.DOM_SAMPLE_GO_SUBMIT (d : Nat) : Fld := ⟨R.DOM_SAMPLE_GO d, 0, 1⟩
/-- DOM_JUMP_LIMIT, page TLD +0x064 (ch03). -/
def R.DOM_JUMP_LIMIT (d : Nat) : Nat := 0x401064 + d * 0x1000
def F.DOM_JUMP_LIMIT_NS (d : Nat) : Fld := ⟨R.DOM_JUMP_LIMIT d, 0, 32⟩
/-- DOM_LOCK, page TLD +0x068 (ch03). -/
def R.DOM_LOCK (d : Nat) : Nat := 0x401068 + d * 0x1000
def F.DOM_LOCK_LOCK_SAMPLES (d : Nat) : Fld := ⟨R.DOM_LOCK d, 16, 8⟩
def F.DOM_LOCK_LOCK_THRESH (d : Nat) : Fld := ⟨R.DOM_LOCK d, 0, 16⟩
/-- DOM_ACCEPTED, page TLD +0x06C (ch03). -/
def R.DOM_ACCEPTED (d : Nat) : Nat := 0x40106C + d * 0x1000
def F.DOM_ACCEPTED_COUNT (d : Nat) : Fld := ⟨R.DOM_ACCEPTED d, 0, 32⟩
/-- DOM_REFUSED, page TLD +0x070 (ch03). -/
def R.DOM_REFUSED (d : Nat) : Nat := 0x401070 + d * 0x1000
def F.DOM_REFUSED_COUNT (d : Nat) : Fld := ⟨R.DOM_REFUSED d, 0, 32⟩
/-- DOM_IGNORED, page TLD +0x074 (ch03). -/
def R.DOM_IGNORED (d : Nat) : Nat := 0x401074 + d * 0x1000
def F.DOM_IGNORED_COUNT (d : Nat) : Fld := ⟨R.DOM_IGNORED d, 0, 32⟩
/-- ECHO_CFG, page TL5 +0x040 (ch03). -/
def R.ECHO_CFG (i : Nat) : Nat := 0x405040 + i * 0x20
def F.ECHO_CFG_EN (i : Nat) : Fld := ⟨R.ECHO_CFG i, 31, 1⟩
def F.ECHO_CFG_OWNER (i : Nat) : Fld := ⟨R.ECHO_CFG i, 28, 2⟩
def F.ECHO_CFG_PTP (i : Nat) : Fld := ⟨R.ECHO_CFG i, 16, 1⟩
def F.ECHO_CFG_ETYPE (i : Nat) : Fld := ⟨R.ECHO_CFG i, 0, 16⟩
/-- ECHO_FILL, page TL5 +0x044 (ch03). -/
def R.ECHO_FILL (i : Nat) : Nat := 0x405044 + i * 0x20
def F.ECHO_FILL_GAP_PENDING (i : Nat) : Fld := ⟨R.ECHO_FILL i, 8, 1⟩
def F.ECHO_FILL_FILL (i : Nat) : Fld := ⟨R.ECHO_FILL i, 0, 7⟩
/-- ECHO_HEAD_TAG, page TL5 +0x048 (ch03). -/
def R.ECHO_HEAD_TAG (i : Nat) : Nat := 0x405048 + i * 0x20
def F.ECHO_HEAD_TAG_WORD (i : Nat) : Fld := ⟨R.ECHO_HEAD_TAG i, 0, 32⟩
/-- ECHO_HEAD_NS, page TL5 +0x04C (ch03). -/
def R.ECHO_HEAD_NS (i : Nat) : Nat := 0x40504C + i * 0x20
def F.ECHO_HEAD_NS_NS (i : Nat) : Fld := ⟨R.ECHO_HEAD_NS i, 0, 32⟩
/-- ECHO_HEAD_FRAC, page TL5 +0x050 (ch03). -/
def R.ECHO_HEAD_FRAC (i : Nat) : Nat := 0x405050 + i * 0x20
def F.ECHO_HEAD_FRAC_FRAC (i : Nat) : Fld := ⟨R.ECHO_HEAD_FRAC i, 0, 3⟩
/-- ECHO_LOST, page TL5 +0x054 (ch03). -/
def R.ECHO_LOST (i : Nat) : Nat := 0x405054 + i * 0x20
def F.ECHO_LOST_COUNT (i : Nat) : Fld := ⟨R.ECHO_LOST i, 0, 32⟩
/-- ECHO_POP, page TL5 +0x058 (ch03). -/
def R.ECHO_POP (i : Nat) : Nat := 0x405058 + i * 0x20
def F.ECHO_POP_POP (i : Nat) : Fld := ⟨R.ECHO_POP i, 0, 1⟩
/-- TL_TB_SEL, page TL6 +0x040 (ch03). -/
def R.TL_TB_SEL (i : Nat) : Nat := 0x406040 + i * 0x4
/-- DLY_SEL, page TL6 +0x080 (ch03). -/
def R.DLY_SEL : Nat := 0x406080
def F.DLY_SEL_DIR : Fld := ⟨R.DLY_SEL, 12, 1⟩
def F.DLY_SEL_SPEED : Fld := ⟨R.DLY_SEL, 8, 3⟩
def F.DLY_SEL_PORT : Fld := ⟨R.DLY_SEL, 0, 5⟩
/-- DLY_CAL, page TL6 +0x084 (ch03). -/
def R.DLY_CAL : Nat := 0x406084
def F.DLY_CAL_DLY : Fld := ⟨R.DLY_CAL, 0, 20⟩
/-- DLY_USER, page TL6 +0x088 (ch03). -/
def R.DLY_USER : Nat := 0x406088
def F.DLY_USER_ADJ : Fld := ⟨R.DLY_USER, 0, 16⟩
/-- PTP_DMAP, page TL7 +0x040 (ch03). -/
def R.PTP_DMAP (i : Nat) : Nat := 0x407040 + i * 0x8
def F.PTP_DMAP_VALID (i : Nat) : Fld := ⟨R.PTP_DMAP i, 31, 1⟩
def F.PTP_DMAP_ONESTEP (i : Nat) : Fld := ⟨R.PTP_DMAP i, 30, 1⟩
def F.PTP_DMAP_TC (i : Nat) : Fld := ⟨R.PTP_DMAP i, 29, 1⟩
def F.PTP_DMAP_SLAVE_PORT (i : Nat) : Fld := ⟨R.PTP_DMAP i, 8, 5⟩
def F.PTP_DMAP_DOMAIN_NUMBER (i : Nat) : Fld := ⟨R.PTP_DMAP i, 0, 8⟩
/-- PTP_MASTERS, page TL7 +0x044 (ch03). -/
def R.PTP_MASTERS (i : Nat) : Nat := 0x407044 + i * 0x8
def F.PTP_MASTERS_MASK (i : Nat) : Fld := ⟨R.PTP_MASTERS i, 0, 24⟩
/-- PTP_LINK_DLY, page TL7 +0x080 (ch03). -/
def R.PTP_LINK_DLY (i : Nat) : Nat := 0x407080 + i * 0x4
def F.PTP_LINK_DLY_DLY (i : Nat) : Fld := ⟨R.PTP_LINK_DLY i, 0, 32⟩
/-- CNP_CMD, page TL8 +0x040 (ch04). -/
def R.CNP_CMD : Nat := 0x408040
def F.CNP_CMD_GO : Fld := ⟨R.CNP_CMD, 31, 1⟩
def F.CNP_CMD_OP : Fld := ⟨R.CNP_CMD, 24, 2⟩
def F.CNP_CMD_INDEX : Fld := ⟨R.CNP_CMD, 0, 12⟩
/-- CNP_RESULT, page TL8 +0x044 (ch04). -/
def R.CNP_RESULT : Nat := 0x408044
def F.CNP_RESULT_CODE : Fld := ⟨R.CNP_RESULT, 0, 16⟩
/-- CNP_STAT, page TL8 +0x048 (ch04). -/
def R.CNP_STAT : Nat := 0x408048
def F.CNP_STAT_VALID_COUNT : Fld := ⟨R.CNP_STAT, 0, 13⟩
/-- CNP_LATE, page TL8 +0x04C (ch04). -/
def R.CNP_LATE : Nat := 0x40804C
def F.CNP_LATE_COUNT : Fld := ⟨R.CNP_LATE, 0, 32⟩
/-- CNP_MISSED, page TL8 +0x050 (ch04). -/
def R.CNP_MISSED : Nat := 0x408050
def F.CNP_MISSED_COUNT : Fld := ⟨R.CNP_MISSED, 0, 32⟩
/-- CNP_EVT_LAST, page TL8 +0x054 (ch04). -/
def R.CNP_EVT_LAST : Nat := 0x408054
def F.CNP_EVT_LAST_INDEX : Fld := ⟨R.CNP_EVT_LAST, 0, 12⟩
/-- CNP_DATA, page TL8 +0x060 (ch04). -/
def R.CNP_DATA (i : Nat) : Nat := 0x408060 + i * 0x4
def F.CNP_DATA_DATA (i : Nat) : Fld := ⟨R.CNP_DATA i, 0, 32⟩
/-- TRG_CFG, page TL9 +0x040 (ch04). -/
def R.TRG_CFG (i : Nat) : Nat := 0x409040 + i * 0x10
def F.TRG_CFG_EN (i : Nat) : Fld := ⟨R.TRG_CFG i, 31, 1⟩
def F.TRG_CFG_POL (i : Nat) : Fld := ⟨R.TRG_CFG i, 30, 1⟩
def F.TRG_CFG_WIDTH_NS (i : Nat) : Fld := ⟨R.TRG_CFG i, 0, 24⟩
/-- TRG_OFFSET, page TL9 +0x044 (ch04). -/
def R.TRG_OFFSET (i : Nat) : Nat := 0x409044 + i * 0x10
def F.TRG_OFFSET_OFFSET (i : Nat) : Fld := ⟨R.TRG_OFFSET i, 0, 32⟩
/-- TRG_STAT, page TL9 +0x048 (ch04). -/
def R.TRG_STAT (i : Nat) : Nat := 0x409048 + i * 0x10
def F.TRG_STAT_PULSES (i : Nat) : Fld := ⟨R.TRG_STAT i, 16, 16⟩
def F.TRG_STAT_OVERLAP (i : Nat) : Fld := ⟨R.TRG_STAT i, 8, 8⟩
def F.TRG_STAT_COMMITTED (i : Nat) : Fld := ⟨R.TRG_STAT i, 0, 3⟩
/-- TCP_CFG, page TL10 +0x040 (ch04). -/
def R.TCP_CFG (i : Nat) : Nat := 0x40A040 + i * 0x20
def F.TCP_CFG_EN (i : Nat) : Fld := ⟨R.TCP_CFG i, 31, 1⟩
def F.TCP_CFG_OWNER (i : Nat) : Fld := ⟨R.TCP_CFG i, 28, 2⟩
def F.TCP_CFG_EDGE (i : Nat) : Fld := ⟨R.TCP_CFG i, 26, 2⟩
def F.TCP_CFG_FILTER_NS (i : Nat) : Fld := ⟨R.TCP_CFG i, 0, 8⟩
/-- TCP_FILL, page TL10 +0x044 (ch04). -/
def R.TCP_FILL (i : Nat) : Nat := 0x40A044 + i * 0x20
def F.TCP_FILL_GAP_PENDING (i : Nat) : Fld := ⟨R.TCP_FILL i, 8, 1⟩
def F.TCP_FILL_FILL (i : Nat) : Fld := ⟨R.TCP_FILL i, 0, 5⟩
/-- TCP_HEAD_TAG, page TL10 +0x048 (ch04). -/
def R.TCP_HEAD_TAG (i : Nat) : Nat := 0x40A048 + i * 0x20
def F.TCP_HEAD_TAG_WORD (i : Nat) : Fld := ⟨R.TCP_HEAD_TAG i, 0, 32⟩
/-- TCP_HEAD_NS, page TL10 +0x04C (ch04). -/
def R.TCP_HEAD_NS (i : Nat) : Nat := 0x40A04C + i * 0x20
def F.TCP_HEAD_NS_NS (i : Nat) : Fld := ⟨R.TCP_HEAD_NS i, 0, 32⟩
/-- TCP_HEAD_FRAC, page TL10 +0x050 (ch04). -/
def R.TCP_HEAD_FRAC (i : Nat) : Nat := 0x40A050 + i * 0x20
def F.TCP_HEAD_FRAC_FRAC (i : Nat) : Fld := ⟨R.TCP_HEAD_FRAC i, 0, 3⟩
/-- TCP_LOST, page TL10 +0x054 (ch04). -/
def R.TCP_LOST (i : Nat) : Nat := 0x40A054 + i * 0x20
def F.TCP_LOST_COUNT (i : Nat) : Fld := ⟨R.TCP_LOST i, 0, 32⟩
/-- TCP_POP, page TL10 +0x058 (ch04). -/
def R.TCP_POP (i : Nat) : Nat := 0x40A058 + i * 0x20
def F.TCP_POP_POP (i : Nat) : Fld := ⟨R.TCP_POP i, 0, 1⟩
/-- PH_CTRL, page TLP +0x040 (ch04). -/
def R.PH_CTRL (p : Nat) : Nat := 0x40B040 + p * 0x1000
def F.PH_CTRL_EN (p : Nat) : Fld := ⟨R.PH_CTRL p, 31, 1⟩
def F.PH_CTRL_SRC (p : Nat) : Fld := ⟨R.PH_CTRL p, 30, 1⟩
def F.PH_CTRL_DIR (p : Nat) : Fld := ⟨R.PH_CTRL p, 29, 1⟩
def F.PH_CTRL_CPR (p : Nat) : Fld := ⟨R.PH_CTRL p, 0, 16⟩
/-- PH_ZERO, page TLP +0x044 (ch04). -/
def R.PH_ZERO (p : Nat) : Nat := 0x40B044 + p * 0x1000
def F.PH_ZERO_ZERO (p : Nat) : Fld := ⟨R.PH_ZERO p, 0, 16⟩
/-- PH_DRIFT, page TLP +0x048 (ch04). -/
def R.PH_DRIFT (p : Nat) : Nat := 0x40B048 + p * 0x1000
def F.PH_DRIFT_DRIFT_PPM (p : Nat) : Fld := ⟨R.PH_DRIFT p, 0, 16⟩
/-- PH_STAT, page TLP +0x04C (ch04). -/
def R.PH_STAT (p : Nat) : Nat := 0x40B04C + p * 0x1000
def F.PH_STAT_CAUSE (p : Nat) : Fld := ⟨R.PH_STAT p, 4, 4⟩
def F.PH_STAT_FULL_PERIODS (p : Nat) : Fld := ⟨R.PH_STAT p, 2, 2⟩
def F.PH_STAT_STATE (p : Nat) : Fld := ⟨R.PH_STAT p, 0, 2⟩
/-- PH_REV, page TLP +0x050 (ch04). -/
def R.PH_REV (p : Nat) : Nat := 0x40B050 + p * 0x1000
def F.PH_REV_COUNT (p : Nat) : Fld := ⟨R.PH_REV p, 0, 32⟩
/-- PH_PERIOD, page TLP +0x054 (ch04). -/
def R.PH_PERIOD (p : Nat) : Nat := 0x40B054 + p * 0x1000
def F.PH_PERIOD_NS (p : Nat) : Fld := ⟨R.PH_PERIOD p, 0, 32⟩
/-- PH_ANGLE, page TLP +0x058 (ch04). -/
def R.PH_ANGLE (p : Nat) : Nat := 0x40B058 + p * 0x1000
def F.PH_ANGLE_ANGLE (p : Nat) : Fld := ⟨R.PH_ANGLE p, 0, 16⟩
/-- PH_LOSS, page TLP +0x05C (ch04). -/
def R.PH_LOSS (p : Nat) : Nat := 0x40B05C + p * 0x1000
def F.PH_LOSS_COUNT (p : Nat) : Fld := ⟨R.PH_LOSS p, 0, 32⟩
/-- GV_CFG, page GV0 +0x040 (ch05). -/
def R.GV_CFG : Nat := 0x800040
def F.GV_CFG_PAIR_EN : Fld := ⟨R.GV_CFG, 8, 1⟩
def F.GV_CFG_EVT_QUEUE : Fld := ⟨R.GV_CFG, 0, 4⟩
/-- GV_STAT, page GV0 +0x044 (ch05). -/
def R.GV_STAT : Nat := 0x800044
def F.GV_STAT_PAUSED : Fld := ⟨R.GV_STAT, 5, 1⟩
def F.GV_STAT_SERVING : Fld := ⟨R.GV_STAT, 0, 5⟩
/-- GV_IMG_CELLS, page GV0 +0x048 (ch05). -/
def R.GV_IMG_CELLS : Nat := 0x800048
def F.GV_IMG_CELLS_USED : Fld := ⟨R.GV_IMG_CELLS, 16, 15⟩
def F.GV_IMG_CELLS_CELLS : Fld := ⟨R.GV_IMG_CELLS, 0, 15⟩
/-- GV_CAL_CTRL, page GV0 +0x04C (ch05). -/
def R.GV_CAL_CTRL : Nat := 0x80004C
def F.GV_CAL_CTRL_EN : Fld := ⟨R.GV_CAL_CTRL, 31, 1⟩
def F.GV_CAL_CTRL_THREAD : Fld := ⟨R.GV_CAL_CTRL, 0, 7⟩
/-- GV_CAL_STEP, page GV0 +0x050 (ch05). -/
def R.GV_CAL_STEP : Nat := 0x800050
def F.GV_CAL_STEP_COUNT : Fld := ⟨R.GV_CAL_STEP, 0, 32⟩
/-- GV_UNMATCHED, page GV0 +0x054 (ch05). -/
def R.GV_UNMATCHED : Nat := 0x800054
def F.GV_UNMATCHED_COUNT : Fld := ⟨R.GV_UNMATCHED, 0, 32⟩
/-- GV_FORMAT, page GV0 +0x058 (ch05). -/
def R.GV_FORMAT : Nat := 0x800058
def F.GV_FORMAT_COUNT : Fld := ⟨R.GV_FORMAT, 0, 32⟩
/-- GV_SKIPPED, page GV0 +0x05C (ch05). -/
def R.GV_SKIPPED : Nat := 0x80005C
def F.GV_SKIPPED_COUNT : Fld := ⟨R.GV_SKIPPED, 0, 32⟩
/-- GV_SAT, page GV0 +0x060 (ch05). -/
def R.GV_SAT : Nat := 0x800060
def F.GV_SAT_COUNT : Fld := ⟨R.GV_SAT, 0, 32⟩
/-- GV_COALESCED, page GV0 +0x064 (ch05). -/
def R.GV_COALESCED : Nat := 0x800064
def F.GV_COALESCED_COUNT : Fld := ⟨R.GV_COALESCED, 0, 32⟩
/-- GV_EVT_COALESCED, page GV0 +0x068 (ch05). -/
def R.GV_EVT_COALESCED : Nat := 0x800068
def F.GV_EVT_COALESCED_COUNT : Fld := ⟨R.GV_EVT_COALESCED, 0, 32⟩
/-- GV_TIMEOUTS, page GV0 +0x06C (ch05). -/
def R.GV_TIMEOUTS : Nat := 0x80006C
def F.GV_TIMEOUTS_COUNT : Fld := ⟨R.GV_TIMEOUTS, 0, 32⟩
/-- GV_CMP_FAIL, page GV0 +0x070 (ch05). -/
def R.GV_CMP_FAIL : Nat := 0x800070
def F.GV_CMP_FAIL_COUNT : Fld := ⟨R.GV_CMP_FAIL, 0, 32⟩
/-- GV_UNPAIRED, page GV0 +0x074 (ch05). -/
def R.GV_UNPAIRED : Nat := 0x800074
def F.GV_UNPAIRED_COUNT : Fld := ⟨R.GV_UNPAIRED, 0, 32⟩
/-- GV_RX_PDUS, page GV0 +0x078 (ch05). -/
def R.GV_RX_PDUS : Nat := 0x800078
def F.GV_RX_PDUS_COUNT : Fld := ⟨R.GV_RX_PDUS, 0, 32⟩
/-- GV_CSUM_SKIP, page GV0 +0x07C (ch05). -/
def R.GV_CSUM_SKIP : Nat := 0x80007C
def F.GV_CSUM_SKIP_COUNT : Fld := ⟨R.GV_CSUM_SKIP, 0, 32⟩
/-- GV_TCMD, page GV1 +0x040 (ch05). -/
def R.GV_TCMD : Nat := 0x801040
def F.GV_TCMD_GO : Fld := ⟨R.GV_TCMD, 31, 1⟩
def F.GV_TCMD_OP : Fld := ⟨R.GV_TCMD, 24, 2⟩
def F.GV_TCMD_TABLE : Fld := ⟨R.GV_TCMD, 20, 2⟩
def F.GV_TCMD_INDEX : Fld := ⟨R.GV_TCMD, 0, 16⟩
/-- GV_TOFF, page GV1 +0x044 (ch05). -/
def R.GV_TOFF : Nat := 0x801044
def F.GV_TOFF_OFFSET : Fld := ⟨R.GV_TOFF, 5, 6⟩
/-- GV_TRESULT, page GV1 +0x048 (ch05). -/
def R.GV_TRESULT : Nat := 0x801048
def F.GV_TRESULT_CODE : Fld := ⟨R.GV_TRESULT, 0, 16⟩
/-- GV_TDATA, page GV1 +0x060 (ch05). -/
def R.GV_TDATA (i : Nat) : Nat := 0x801060 + i * 0x4
def F.GV_TDATA_DATA (i : Nat) : Fld := ⟨R.GV_TDATA i, 0, 32⟩
/-- GV_ENG_CTRL, page GV2 +0x040 (ch06). -/
def R.GV_ENG_CTRL : Nat := 0x802040
def F.GV_ENG_CTRL_RUN : Fld := ⟨R.GV_ENG_CTRL, 0, 1⟩
/-- GV_ENG_STAT, page GV2 +0x044 (ch06). -/
def R.GV_ENG_STAT : Nat := 0x802044
def F.GV_ENG_STAT_RETIRED : Fld := ⟨R.GV_ENG_STAT, 16, 16⟩
def F.GV_ENG_STAT_SERVING : Fld := ⟨R.GV_ENG_STAT, 0, 16⟩
/-- GV_ROT_STAT, page GV2 +0x048 (ch06). -/
def R.GV_ROT_STAT : Nat := 0x802048
def F.GV_ROT_STAT_RESTING : Fld := ⟨R.GV_ROT_STAT, 28, 4⟩
def F.GV_ROT_STAT_PHASE : Fld := ⟨R.GV_ROT_STAT, 26, 2⟩
def F.GV_ROT_STAT_INIT_DONE : Fld := ⟨R.GV_ROT_STAT, 25, 1⟩
def F.GV_ROT_STAT_ELAPSED_US : Fld := ⟨R.GV_ROT_STAT, 0, 17⟩
/-- GV_ROT_CMD, page GV2 +0x04C (ch06). -/
def R.GV_ROT_CMD : Nat := 0x80204C
def F.GV_ROT_CMD_GO : Fld := ⟨R.GV_ROT_CMD, 31, 1⟩
def F.GV_ROT_CMD_ENGINE : Fld := ⟨R.GV_ROT_CMD, 0, 4⟩
/-- GV_ROT_CYCLES, page GV2 +0x050 (ch06). -/
def R.GV_ROT_CYCLES : Nat := 0x802050
def F.GV_ROT_CYCLES_COUNT : Fld := ⟨R.GV_ROT_CYCLES, 0, 32⟩
/-- GV_LOAD_LEN, page GV2 +0x068 (ch06). -/
def R.GV_LOAD_LEN : Nat := 0x802068
def F.GV_LOAD_LEN_BYTES : Fld := ⟨R.GV_LOAD_LEN, 0, 18⟩
/-- GV_LOAD_CRC, page GV2 +0x06C (ch06). -/
def R.GV_LOAD_CRC : Nat := 0x80206C
def F.GV_LOAD_CRC_CRC : Fld := ⟨R.GV_LOAD_CRC, 0, 32⟩
/-- GV_LOAD_CTRL, page GV2 +0x070 (ch06). -/
def R.GV_LOAD_CTRL : Nat := 0x802070
def F.GV_LOAD_CTRL_GO : Fld := ⟨R.GV_LOAD_CTRL, 31, 1⟩
def F.GV_LOAD_CTRL_STATE : Fld := ⟨R.GV_LOAD_CTRL, 0, 3⟩
/-- GV_LM_SEL, page GV2 +0x080 (ch06). -/
def R.GV_LM_SEL : Nat := 0x802080
def F.GV_LM_SEL_MASK : Fld := ⟨R.GV_LM_SEL, 0, 16⟩
/-- GV_LM_ADDR, page GV2 +0x084 (ch06). -/
def R.GV_LM_ADDR : Nat := 0x802084
def F.GV_LM_ADDR_ADDR : Fld := ⟨R.GV_LM_ADDR, 2, 16⟩
/-- GV_LM_DATA, page GV2 +0x088 (ch06). -/
def R.GV_LM_DATA : Nat := 0x802088
def F.GV_LM_DATA_DATA : Fld := ⟨R.GV_LM_DATA, 0, 32⟩
/-- ENG_STAT, page GVE +0x040 (ch06). -/
def R.ENG_STAT (e : Nat) : Nat := 0x803040 + e * 0x1000
def F.ENG_STAT_ROLE (e : Nat) : Fld := ⟨R.ENG_STAT e, 30, 2⟩
/-- ENG_THREADS, page GVE +0x044 (ch06). -/
def R.ENG_THREADS (e : Nat) : Nat := 0x803044 + e * 0x1000
def F.ENG_THREADS_STATES (e : Nat) : Fld := ⟨R.ENG_THREADS e, 0, 32⟩
/-- ENG_INSTANCES, page GVE +0x048 (ch06). -/
def R.ENG_INSTANCES (e : Nat) : Nat := 0x803048 + e * 0x1000
def F.ENG_INSTANCES_COUNT (e : Nat) : Fld := ⟨R.ENG_INSTANCES e, 0, 32⟩
/-- ENG_FAULTS, page GVE +0x04C (ch06). -/
def R.ENG_FAULTS (e : Nat) : Nat := 0x80304C + e * 0x1000
def F.ENG_FAULTS_COUNT (e : Nat) : Fld := ⟨R.ENG_FAULTS e, 0, 32⟩
/-- ENG_STAGE_FULL, page GVE +0x050 (ch06). -/
def R.ENG_STAGE_FULL (e : Nat) : Nat := 0x803050 + e * 0x1000
def F.ENG_STAGE_FULL_COUNT (e : Nat) : Fld := ⟨R.ENG_STAGE_FULL e, 0, 32⟩
/-- ENG_FAULT_CAUSE, page GVE +0x054 (ch06). -/
def R.ENG_FAULT_CAUSE (e : Nat) : Nat := 0x803054 + e * 0x1000
def F.ENG_FAULT_CAUSE_VALID (e : Nat) : Fld := ⟨R.ENG_FAULT_CAUSE e, 31, 1⟩
def F.ENG_FAULT_CAUSE_THREAD (e : Nat) : Fld := ⟨R.ENG_FAULT_CAUSE e, 28, 3⟩
def F.ENG_FAULT_CAUSE_CAUSE (e : Nat) : Fld := ⟨R.ENG_FAULT_CAUSE e, 16, 8⟩
def F.ENG_FAULT_CAUSE_PDU (e : Nat) : Fld := ⟨R.ENG_FAULT_CAUSE e, 0, 16⟩
/-- ENG_FAULT_PC, page GVE +0x058 (ch06). -/
def R.ENG_FAULT_PC (e : Nat) : Nat := 0x803058 + e * 0x1000
def F.ENG_FAULT_PC_PC (e : Nat) : Fld := ⟨R.ENG_FAULT_PC e, 0, 32⟩
/-- CAN_MODE, page CAN +0x040 (ch07). -/
def R.CAN_MODE (n : Nat) : Nat := 0x1000040 + n * 0x1000
def F.CAN_MODE_TEST (n : Nat) : Fld := ⟨R.CAN_MODE n, 8, 2⟩
def F.CAN_MODE_RESTRICTED (n : Nat) : Fld := ⟨R.CAN_MODE n, 7, 1⟩
def F.CAN_MODE_AUTO_RECOVER (n : Nat) : Fld := ⟨R.CAN_MODE n, 6, 1⟩
def F.CAN_MODE_DAR (n : Nat) : Fld := ⟨R.CAN_MODE n, 5, 1⟩
def F.CAN_MODE_PXE (n : Nat) : Fld := ⟨R.CAN_MODE n, 4, 1⟩
def F.CAN_MODE_TMS_EN (n : Nat) : Fld := ⟨R.CAN_MODE n, 2, 1⟩
def F.CAN_MODE_XL_EN (n : Nat) : Fld := ⟨R.CAN_MODE n, 1, 1⟩
def F.CAN_MODE_FD_EN (n : Nat) : Fld := ⟨R.CAN_MODE n, 0, 1⟩
/-- CAN_NBT, page CAN +0x044 (ch07). -/
def R.CAN_NBT (n : Nat) : Nat := 0x1000044 + n * 0x1000
def F.CAN_NBT_TSEG1_M1 (n : Nat) : Fld := ⟨R.CAN_NBT n, 16, 8⟩
def F.CAN_NBT_TSEG2_M1 (n : Nat) : Fld := ⟨R.CAN_NBT n, 8, 7⟩
def F.CAN_NBT_SJW_M1 (n : Nat) : Fld := ⟨R.CAN_NBT n, 0, 7⟩
/-- CAN_DBT, page CAN +0x048 (ch07). -/
def R.CAN_DBT (n : Nat) : Nat := 0x1000048 + n * 0x1000
/-- CAN_XBT, page CAN +0x04C (ch07). -/
def R.CAN_XBT (n : Nat) : Nat := 0x100004C + n * 0x1000
/-- CAN_TDC, page CAN +0x050 (ch07). -/
def R.CAN_TDC (n : Nat) : Nat := 0x1000050 + n * 0x1000
def F.CAN_TDC_TDC_EN (n : Nat) : Fld := ⟨R.CAN_TDC n, 31, 1⟩
def F.CAN_TDC_TDCV (n : Nat) : Fld := ⟨R.CAN_TDC n, 16, 7⟩
/-- CAN_PWM, page CAN +0x054 (ch07). -/
def R.CAN_PWM (n : Nat) : Nat := 0x1000054 + n * 0x1000
def F.CAN_PWM_PWML (n : Nat) : Fld := ⟨R.CAN_PWM n, 8, 6⟩
def F.CAN_PWM_PWMS (n : Nat) : Fld := ⟨R.CAN_PWM n, 0, 6⟩
/-- CAN_ERR, page CAN +0x058 (ch07). -/
def R.CAN_ERR (n : Nat) : Nat := 0x1000058 + n * 0x1000
def F.CAN_ERR_TEC (n : Nat) : Fld := ⟨R.CAN_ERR n, 16, 9⟩
def F.CAN_ERR_REC (n : Nat) : Fld := ⟨R.CAN_ERR n, 8, 8⟩
def F.CAN_ERR_STATE (n : Nat) : Fld := ⟨R.CAN_ERR n, 4, 2⟩
def F.CAN_ERR_LEC (n : Nat) : Fld := ⟨R.CAN_ERR n, 0, 3⟩
/-- CAN_CMD, page CAN +0x05C (ch07). -/
def R.CAN_CMD (n : Nat) : Nat := 0x100005C + n * 0x1000
def F.CAN_CMD_RECOVER (n : Nat) : Fld := ⟨R.CAN_CMD n, 0, 1⟩
/-- CAN_MR_FILT, page CAN +0x060 (ch07). -/
def R.CAN_MR_FILT (n : Nat) : Nat := 0x1000060 + n * 0x1000
def F.CAN_MR_FILT_BASE (n : Nat) : Fld := ⟨R.CAN_MR_FILT n, 16, 9⟩
def F.CAN_MR_FILT_NOMATCH (n : Nat) : Fld := ⟨R.CAN_MR_FILT n, 12, 2⟩
def F.CAN_MR_FILT_COUNT (n : Nat) : Fld := ⟨R.CAN_MR_FILT n, 0, 8⟩
/-- CAN_MR_AUTH, page CAN +0x064 (ch07). -/
def R.CAN_MR_AUTH (n : Nat) : Nat := 0x1000064 + n * 0x1000
def F.CAN_MR_AUTH_BASE (n : Nat) : Fld := ⟨R.CAN_MR_AUTH n, 16, 9⟩
def F.CAN_MR_AUTH_COUNT (n : Nat) : Fld := ⟨R.CAN_MR_AUTH n, 0, 7⟩
/-- CAN_MR_RX0, page CAN +0x068 (ch07). -/
def R.CAN_MR_RX0 (n : Nat) : Nat := 0x1000068 + n * 0x1000
def F.CAN_MR_RX0_BASE (n : Nat) : Fld := ⟨R.CAN_MR_RX0 n, 16, 9⟩
def F.CAN_MR_RX0_BLOCKS (n : Nat) : Fld := ⟨R.CAN_MR_RX0 n, 0, 10⟩
/-- CAN_MR_RX1, page CAN +0x06C (ch07). -/
def R.CAN_MR_RX1 (n : Nat) : Nat := 0x100006C + n * 0x1000
def F.CAN_MR_RX1_BASE (n : Nat) : Fld := ⟨R.CAN_MR_RX1 n, 16, 9⟩
def F.CAN_MR_RX1_BLOCKS (n : Nat) : Fld := ⟨R.CAN_MR_RX1 n, 0, 10⟩
/-- CAN_MR_TX, page CAN +0x070 (ch07). -/
def R.CAN_MR_TX (n : Nat) : Nat := 0x1000070 + n * 0x1000
def F.CAN_MR_TX_BASE (n : Nat) : Fld := ⟨R.CAN_MR_TX n, 16, 9⟩
def F.CAN_MR_TX_SLOTS (n : Nat) : Fld := ⟨R.CAN_MR_TX n, 8, 6⟩
def F.CAN_MR_TX_SLOT_BLOCKS (n : Nat) : Fld := ⟨R.CAN_MR_TX n, 0, 6⟩
/-- CAN_MR_BANK, page CAN +0x074 (ch07). -/
def R.CAN_MR_BANK (n : Nat) : Nat := 0x1000074 + n * 0x1000
def F.CAN_MR_BANK_BANK (n : Nat) : Fld := ⟨R.CAN_MR_BANK n, 0, 4⟩
/-- CAN_TIMED, page CAN +0x078 (ch07). -/
def R.CAN_TIMED (n : Nat) : Nat := 0x1000078 + n * 0x1000
def F.CAN_TIMED_WAIT_US (n : Nat) : Fld := ⟨R.CAN_TIMED n, 0, 16⟩
/-- FS_CFG, page CAN +0x080 (ch07). -/
def R.FS_CFG (n i : Nat) : Nat := 0x1000080 + n * 0x1000 + i * 0x20
def F.FS_CFG_EN (n i : Nat) : Fld := ⟨R.FS_CFG n i, 31, 1⟩
def F.FS_CFG_OWNER (n i : Nat) : Fld := ⟨R.FS_CFG n i, 29, 2⟩
def F.FS_CFG_NOTICE (n i : Nat) : Fld := ⟨R.FS_CFG n i, 28, 1⟩
def F.FS_CFG_WATERMARK (n i : Nat) : Fld := ⟨R.FS_CFG n i, 0, 6⟩
/-- FS_STAT, page CAN +0x084 (ch07). -/
def R.FS_STAT (n i : Nat) : Nat := 0x1000084 + n * 0x1000 + i * 0x20
def F.FS_STAT_MARK_VALID (n i : Nat) : Fld := ⟨R.FS_STAT n i, 29, 1⟩
def F.FS_STAT_FALLING (n i : Nat) : Fld := ⟨R.FS_STAT n i, 28, 1⟩
def F.FS_STAT_MARK (n i : Nat) : Fld := ⟨R.FS_STAT n i, 16, 6⟩
def F.FS_STAT_RPOS (n i : Nat) : Fld := ⟨R.FS_STAT n i, 8, 6⟩
def F.FS_STAT_FILL (n i : Nat) : Fld := ⟨R.FS_STAT n i, 0, 6⟩
/-- FS_ITEM, page CAN +0x088 (ch07). -/
def R.FS_ITEM (n i : Nat) : Nat := 0x1000088 + n * 0x1000 + i * 0x20
/-- FS_CMD, page CAN +0x08C (ch07). -/
def R.FS_CMD (n i : Nat) : Nat := 0x100008C + n * 0x1000 + i * 0x20
/-- FS_OVERRUN, page CAN +0x090 (ch07). -/
def R.FS_OVERRUN (n i : Nat) : Nat := 0x1000090 + n * 0x1000 + i * 0x20
def F.FS_OVERRUN_COUNT (n i : Nat) : Fld := ⟨R.FS_OVERRUN n i, 0, 32⟩
/-- FS_NOTICE, page CAN +0x094 (ch07). -/
def R.FS_NOTICE (n i : Nat) : Nat := 0x1000094 + n * 0x1000 + i * 0x20
def F.FS_NOTICE_PENDING (n i : Nat) : Fld := ⟨R.FS_NOTICE n i, 0, 6⟩
/-- CAN_TXSLOT_FREE, page CAN +0x0E0 (ch07). -/
def R.CAN_TXSLOT_FREE (n : Nat) : Nat := 0x10000E0 + n * 0x1000
def F.CAN_TXSLOT_FREE_MASK (n : Nat) : Fld := ⟨R.CAN_TXSLOT_FREE n, 0, 32⟩
/-- CAN_TXC_INFO, page CAN +0x0E4 (ch07). -/
def R.CAN_TXC_INFO (n : Nat) : Nat := 0x10000E4 + n * 0x1000
def F.CAN_TXC_INFO_VALID (n : Nat) : Fld := ⟨R.CAN_TXC_INFO n, 31, 1⟩
def F.CAN_TXC_INFO_SLOT (n : Nat) : Fld := ⟨R.CAN_TXC_INFO n, 16, 5⟩
def F.CAN_TXC_INFO_TAG (n : Nat) : Fld := ⟨R.CAN_TXC_INFO n, 0, 16⟩
/-- CAN_TXC_NS, page CAN +0x0E8 (ch07). -/
def R.CAN_TXC_NS (n : Nat) : Nat := 0x10000E8 + n * 0x1000
def F.CAN_TXC_NS_NS (n : Nat) : Fld := ⟨R.CAN_TXC_NS n, 0, 32⟩
/-- CAN_TXC_FRAC, page CAN +0x0EC (ch07). -/
def R.CAN_TXC_FRAC (n : Nat) : Nat := 0x10000EC + n * 0x1000
def F.CAN_TXC_FRAC_FRAC (n : Nat) : Fld := ⟨R.CAN_TXC_FRAC n, 0, 3⟩
/-- CAN_CNT, page CAN +0x100 (ch07). -/
def R.CAN_CNT (n i : Nat) : Nat := 0x1000100 + n * 0x1000 + i * 0x4
def F.CAN_CNT_COUNT (n i : Nat) : Fld := ⟨R.CAN_CNT n i, 0, 32⟩
/-- LIN_MODE, page LIN +0x040 (ch07). -/
def R.LIN_MODE (n : Nat) : Nat := 0x1040040 + n * 0x1000
def F.LIN_MODE_BAUD (n : Nat) : Fld := ⟨R.LIN_MODE n, 16, 16⟩
def F.LIN_MODE_MASTER (n : Nat) : Fld := ⟨R.LIN_MODE n, 0, 1⟩
/-- LIN_ENH_LO, page LIN +0x048 (ch07). -/
def R.LIN_ENH_LO (n : Nat) : Nat := 0x1040048 + n * 0x1000
/-- LIN_ENH_HI, page LIN +0x04C (ch07). -/
def R.LIN_ENH_HI (n : Nat) : Nat := 0x104004C + n * 0x1000
/-- LIN_ERR, page LIN +0x050 (ch07). -/
def R.LIN_ERR (n : Nat) : Nat := 0x1040050 + n * 0x1000
def F.LIN_ERR_CODE (n : Nat) : Fld := ⟨R.LIN_ERR n, 16, 3⟩
def F.LIN_ERR_PID (n : Nat) : Fld := ⟨R.LIN_ERR n, 0, 8⟩
/-- LFS_ITEM, page LIN +0x088 (ch07). -/
def R.LFS_ITEM (n i : Nat) : Nat := 0x1040088 + n * 0x1000 + i * 0x20
/-- LIN_CNT, page LIN +0x100 (ch07). -/
def R.LIN_CNT (n i : Nat) : Nat := 0x1040100 + n * 0x1000 + i * 0x4
def F.LIN_CNT_COUNT (n i : Nat) : Fld := ⟨R.LIN_CNT n i, 0, 32⟩
/-- EP_MODE, page EP0 +0x040 (ch08). -/
def R.EP_MODE (n : Nat) : Nat := 0x1800040 + n * 0x4000
def F.EP_MODE_SPEED (n : Nat) : Fld := ⟨R.EP_MODE n, 8, 3⟩
def F.EP_MODE_AN_EN (n : Nat) : Fld := ⟨R.EP_MODE n, 4, 1⟩
def F.EP_MODE_PCS (n : Nat) : Fld := ⟨R.EP_MODE n, 0, 3⟩
/-- EP_MAC, page EP0 +0x044 (ch08). -/
def R.EP_MAC (n : Nat) : Nat := 0x1800044 + n * 0x4000
def F.EP_MAC_DOWN_FLUSH (n : Nat) : Fld := ⟨R.EP_MAC n, 16, 1⟩
def F.EP_MAC_MAX_LEN (n : Nat) : Fld := ⟨R.EP_MAC n, 0, 14⟩
/-- EP_LINK, page EP0 +0x048 (ch08). -/
def R.EP_LINK (n : Nat) : Nat := 0x1800048 + n * 0x4000
def F.EP_LINK_REMOTE_FAULT (n : Nat) : Fld := ⟨R.EP_LINK n, 9, 1⟩
def F.EP_LINK_LOCAL_FAULT (n : Nat) : Fld := ⟨R.EP_LINK n, 8, 1⟩
def F.EP_LINK_STAMP_READY (n : Nat) : Fld := ⟨R.EP_LINK n, 7, 1⟩
def F.EP_LINK_TX_LPI (n : Nat) : Fld := ⟨R.EP_LINK n, 6, 1⟩
def F.EP_LINK_RX_LPI (n : Nat) : Fld := ⟨R.EP_LINK n, 5, 1⟩
def F.EP_LINK_AN_DONE (n : Nat) : Fld := ⟨R.EP_LINK n, 4, 1⟩
def F.EP_LINK_SPEED (n : Nat) : Fld := ⟨R.EP_LINK n, 1, 3⟩
def F.EP_LINK_LINK_UP (n : Nat) : Fld := ⟨R.EP_LINK n, 0, 1⟩
/-- FC_CTRL, page EP1 +0x040 (ch08). -/
def R.FC_CTRL (n : Nat) : Nat := 0x1801040 + n * 0x4000
def F.FC_CTRL_PAUSE_TIME (n : Nat) : Fld := ⟨R.FC_CTRL n, 16, 16⟩
def F.FC_CTRL_TX_EN (n : Nat) : Fld := ⟨R.FC_CTRL n, 5, 1⟩
def F.FC_CTRL_RX_EN (n : Nat) : Fld := ⟨R.FC_CTRL n, 4, 1⟩
def F.FC_CTRL_MODE (n : Nat) : Fld := ⟨R.FC_CTRL n, 0, 2⟩
/-- FC_STAT, page EP1 +0x044 (ch08). -/
def R.FC_STAT (n : Nat) : Nat := 0x1801044 + n * 0x4000
def F.FC_STAT_XOFF_SENT (n : Nat) : Fld := ⟨R.FC_STAT n, 24, 8⟩
def F.FC_STAT_PFC_HELD (n : Nat) : Fld := ⟨R.FC_STAT n, 8, 8⟩
def F.FC_STAT_PAUSE_HELD (n : Nat) : Fld := ⟨R.FC_STAT n, 0, 1⟩
/-- EEE_CTRL, page EP1 +0x048 (ch08). -/
def R.EEE_CTRL (n : Nat) : Nat := 0x1801048 + n * 0x4000
def F.EEE_CTRL_EN (n : Nat) : Fld := ⟨R.EEE_CTRL n, 31, 1⟩
def F.EEE_CTRL_IDLE_US (n : Nat) : Fld := ⟨R.EEE_CTRL n, 0, 16⟩
/-- EEE_WAKE, page EP1 +0x04C (ch08). -/
def R.EEE_WAKE (n : Nat) : Nat := 0x180104C + n * 0x4000
def F.EEE_WAKE_WAKE_NS (n : Nat) : Fld := ⟨R.EEE_WAKE n, 0, 16⟩
/-- MS_CTRL, page EP2 +0x040 (ch08). -/
def R.MS_CTRL (n : Nat) : Nat := 0x1802040 + n * 0x4000
def F.MS_CTRL_EN (n : Nat) : Fld := ⟨R.MS_CTRL n, 31, 1⟩
def F.MS_CTRL_PROTECT (n : Nat) : Fld := ⟨R.MS_CTRL n, 30, 1⟩
def F.MS_CTRL_VALIDATE (n : Nat) : Fld := ⟨R.MS_CTRL n, 28, 2⟩
def F.MS_CTRL_REPLAY (n : Nat) : Fld := ⟨R.MS_CTRL n, 27, 1⟩
/-- MS_CMD, page EP2 +0x044 (ch08). -/
def R.MS_CMD (n : Nat) : Nat := 0x1802044 + n * 0x4000
def F.MS_CMD_GO (n : Nat) : Fld := ⟨R.MS_CMD n, 31, 1⟩
def F.MS_CMD_OP (n : Nat) : Fld := ⟨R.MS_CMD n, 24, 2⟩
def F.MS_CMD_TABLE (n : Nat) : Fld := ⟨R.MS_CMD n, 20, 1⟩
def F.MS_CMD_INDEX (n : Nat) : Fld := ⟨R.MS_CMD n, 0, 7⟩
/-- MS_RESULT, page EP2 +0x048 (ch08). -/
def R.MS_RESULT (n : Nat) : Nat := 0x1802048 + n * 0x4000
def F.MS_RESULT_CODE (n : Nat) : Fld := ⟨R.MS_RESULT n, 0, 16⟩
/-- MS_WINDOW, page EP2 +0x04C (ch08). -/
def R.MS_WINDOW (n : Nat) : Nat := 0x180204C + n * 0x4000
def F.MS_WINDOW_WINDOW (n : Nat) : Fld := ⟨R.MS_WINDOW n, 0, 32⟩
/-- MS_DATA, page EP2 +0x060 (ch08). -/
def R.MS_DATA (n i : Nat) : Nat := 0x1802060 + n * 0x4000 + i * 0x4
def F.MS_DATA_DATA (n i : Nat) : Fld := ⟨R.MS_DATA n i, 0, 32⟩
/-- EP_CNT_CTRL, page EP3 +0x040 (ch08). -/
def R.EP_CNT_CTRL (n : Nat) : Nat := 0x1803040 + n * 0x4000
def F.EP_CNT_CTRL_SNAP (n : Nat) : Fld := ⟨R.EP_CNT_CTRL n, 0, 1⟩
/-- EP_CNT, page EP3 +0x080 (ch08). -/
def R.EP_CNT (n i : Nat) : Nat := 0x1803080 + n * 0x4000 + i * 0x4
def F.EP_CNT_COUNT (n i : Nat) : Fld := ⟨R.EP_CNT n i, 0, 32⟩
/-- TS_PLCA, page TS +0x040 (ch08). -/
def R.TS_PLCA (n : Nat) : Nat := 0x1900040 + n * 0x1000
def F.TS_PLCA_EN (n : Nat) : Fld := ⟨R.TS_PLCA n, 31, 1⟩
def F.TS_PLCA_TO_TIMER (n : Nat) : Fld := ⟨R.TS_PLCA n, 16, 8⟩
def F.TS_PLCA_NODE_COUNT (n : Nat) : Fld := ⟨R.TS_PLCA n, 8, 8⟩
def F.TS_PLCA_NODE_ID (n : Nat) : Fld := ⟨R.TS_PLCA n, 0, 8⟩
/-- TS_BURST, page TS +0x044 (ch08). -/
def R.TS_BURST (n : Nat) : Nat := 0x1900044 + n * 0x1000
def F.TS_BURST_BURST_TIMER (n : Nat) : Fld := ⟨R.TS_BURST n, 8, 8⟩
def F.TS_BURST_MAX_BURST (n : Nat) : Fld := ⟨R.TS_BURST n, 0, 8⟩
/-- TS_STAT, page TS +0x048 (ch08). -/
def R.TS_STAT (n : Nat) : Nat := 0x1900048 + n * 0x1000
def F.TS_STAT_CSMA (n : Nat) : Fld := ⟨R.TS_STAT n, 2, 1⟩
def F.TS_STAT_COORD (n : Nat) : Fld := ⟨R.TS_STAT n, 1, 1⟩
def F.TS_STAT_PLCA_ACTIVE (n : Nat) : Fld := ⟨R.TS_STAT n, 0, 1⟩
/-- TS_MAC, page TS +0x04C (ch08). -/
def R.TS_MAC (n : Nat) : Nat := 0x190004C + n * 0x1000
def F.TS_MAC_MAX_LEN (n : Nat) : Fld := ⟨R.TS_MAC n, 0, 14⟩
/-- TS_CNT_CTRL, page TS +0x050 (ch08). -/
def R.TS_CNT_CTRL (n : Nat) : Nat := 0x1900050 + n * 0x1000
def F.TS_CNT_CTRL_SNAP (n : Nat) : Fld := ⟨R.TS_CNT_CTRL n, 0, 1⟩
/-- TS_CNT, page TS +0x080 (ch08). -/
def R.TS_CNT (n i : Nat) : Nat := 0x1900080 + n * 0x1000 + i * 0x4
def F.TS_CNT_COUNT (n i : Nat) : Fld := ⟨R.TS_CNT n i, 0, 32⟩
/-- SW_GAL_STAT, page SW0 +0x040 (ch09). -/
def R.SW_GAL_STAT : Nat := 0x2000040
def F.SW_GAL_STAT_FREE : Fld := ⟨R.SW_GAL_STAT, 0, 17⟩
/-- SW_GAL_RES, page SW0 +0x044 (ch09). -/
def R.SW_GAL_RES : Nat := 0x2000044
def F.SW_GAL_RES_HEADROOM_TOTAL : Fld := ⟨R.SW_GAL_RES, 0, 17⟩
/-- SW_ECC_DISCARD, page SW0 +0x048 (ch09). -/
def R.SW_ECC_DISCARD : Nat := 0x2000048
def F.SW_ECC_DISCARD_COUNT : Fld := ⟨R.SW_ECC_DISCARD, 0, 32⟩
/-- SW_POOL_DROP, page SW0 +0x04C (ch09). -/
def R.SW_POOL_DROP : Nat := 0x200004C
def F.SW_POOL_DROP_COUNT : Fld := ⟨R.SW_POOL_DROP, 0, 32⟩
/-- SW_CT_BAD, page SW0 +0x050 (ch09). -/
def R.SW_CT_BAD : Nat := 0x2000050
def F.SW_CT_BAD_COUNT : Fld := ⟨R.SW_CT_BAD, 0, 32⟩
/-- SW_CT_DISCARD, page SW0 +0x054 (ch09). -/
def R.SW_CT_DISCARD : Nat := 0x2000054
def F.SW_CT_DISCARD_COUNT : Fld := ⟨R.SW_CT_DISCARD, 0, 32⟩
/-- SW_IN_DROP, page SW0 +0x058 (ch09). -/
def R.SW_IN_DROP : Nat := 0x2000058
def F.SW_IN_DROP_COUNT : Fld := ⟨R.SW_IN_DROP, 0, 32⟩
/-- SW_EMPTY, page SW0 +0x05C (ch09). -/
def R.SW_EMPTY : Nat := 0x200005C
def F.SW_EMPTY_COUNT : Fld := ⟨R.SW_EMPTY, 0, 32⟩
/-- SW_VCMD, page SW0 +0x080 (ch09). -/
def R.SW_VCMD : Nat := 0x2000080
def F.SW_VCMD_GO : Fld := ⟨R.SW_VCMD, 31, 1⟩
def F.SW_VCMD_OP : Fld := ⟨R.SW_VCMD, 24, 2⟩
def F.SW_VCMD_VID : Fld := ⟨R.SW_VCMD, 0, 12⟩
/-- SW_VRESULT, page SW0 +0x084 (ch09). -/
def R.SW_VRESULT : Nat := 0x2000084
def F.SW_VRESULT_CODE : Fld := ⟨R.SW_VRESULT, 0, 16⟩
/-- SW_VDATA0, page SW0 +0x088 (ch09). -/
def R.SW_VDATA0 : Nat := 0x2000088
def F.SW_VDATA0_MEMBER : Fld := ⟨R.SW_VDATA0, 0, 28⟩
/-- SW_VDATA1, page SW0 +0x08C (ch09). -/
def R.SW_VDATA1 : Nat := 0x200008C
/-- SW_PORT_CFG, page SW1 +0x040 (ch09). -/
def R.SW_PORT_CFG (i : Nat) : Nat := 0x2001040 + i * 0x20
def F.SW_PORT_CFG_CT_EN (i : Nat) : Fld := ⟨R.SW_PORT_CFG i, 31, 1⟩
def F.SW_PORT_CFG_LEARN (i : Nat) : Fld := ⟨R.SW_PORT_CFG i, 30, 1⟩
def F.SW_PORT_CFG_UUC_FLOOD (i : Nat) : Fld := ⟨R.SW_PORT_CFG i, 29, 1⟩
def F.SW_PORT_CFG_MC_FLOOD (i : Nat) : Fld := ⟨R.SW_PORT_CFG i, 28, 1⟩
def F.SW_PORT_CFG_LINKDOWN_FLUSH (i : Nat) : Fld := ⟨R.SW_PORT_CFG i, 27, 1⟩
def F.SW_PORT_CFG_ACCEPT (i : Nat) : Fld := ⟨R.SW_PORT_CFG i, 25, 2⟩
def F.SW_PORT_CFG_DEFAULT_PCP (i : Nat) : Fld := ⟨R.SW_PORT_CFG i, 16, 3⟩
def F.SW_PORT_CFG_PVID (i : Nat) : Fld := ⟨R.SW_PORT_CFG i, 0, 12⟩
/-- SW_PCP_MAP, page SW1 +0x044 (ch09). -/
def R.SW_PCP_MAP (i : Nat) : Nat := 0x2001044 + i * 0x20
def F.SW_PCP_MAP_CLASSES (i : Nat) : Fld := ⟨R.SW_PCP_MAP i, 0, 24⟩
/-- SW_HW_LIMIT, page SW1 +0x048 (ch09). -/
def R.SW_HW_LIMIT (i : Nat) : Nat := 0x2001048 + i * 0x20
def F.SW_HW_LIMIT_LIMIT (i : Nat) : Fld := ⟨R.SW_HW_LIMIT i, 0, 18⟩
/-- SW_ECN_MARKED, page SW1 +0x04C (ch09). -/
def R.SW_ECN_MARKED (i : Nat) : Nat := 0x200104C + i * 0x20
def F.SW_ECN_MARKED_COUNT (i : Nat) : Fld := ⟨R.SW_ECN_MARKED i, 0, 32⟩
/-- SW_QCFG, page SW2 +0x040 (ch09). -/
def R.SW_QCFG (i : Nat) : Nat := 0x2002040 + i * 0x10
def F.SW_QCFG_ECN_TH (i : Nat) : Fld := ⟨R.SW_QCFG i, 16, 16⟩
def F.SW_QCFG_QLIM (i : Nat) : Fld := ⟨R.SW_QCFG i, 0, 16⟩
/-- SW_QDEPTH, page SW2 +0x044 (ch09). -/
def R.SW_QDEPTH (i : Nat) : Nat := 0x2002044 + i * 0x10
def F.SW_QDEPTH_CELLS (i : Nat) : Fld := ⟨R.SW_QDEPTH i, 0, 17⟩
/-- SW_QDROP, page SW2 +0x048 (ch09). -/
def R.SW_QDROP (i : Nat) : Nat := 0x2002048 + i * 0x10
def F.SW_QDROP_COUNT (i : Nat) : Fld := ⟨R.SW_QDROP i, 0, 32⟩
/-- SW_IFC_TH, page SW3 +0x040 (ch09). -/
def R.SW_IFC_TH (i : Nat) : Nat := 0x2003040 + i * 0x10
def F.SW_IFC_TH_XON_TH (i : Nat) : Fld := ⟨R.SW_IFC_TH i, 16, 16⟩
def F.SW_IFC_TH_XOFF_TH (i : Nat) : Fld := ⟨R.SW_IFC_TH i, 0, 16⟩
/-- SW_IFC_HEAD, page SW3 +0x044 (ch09). -/
def R.SW_IFC_HEAD (i : Nat) : Nat := 0x2003044 + i * 0x10
def F.SW_IFC_HEAD_LOSSLESS (i : Nat) : Fld := ⟨R.SW_IFC_HEAD i, 16, 8⟩
def F.SW_IFC_HEAD_HEADROOM (i : Nat) : Fld := ⟨R.SW_IFC_HEAD i, 0, 13⟩
/-- SW_IFC_STAT, page SW3 +0x048 (ch09). -/
def R.SW_IFC_STAT (i : Nat) : Nat := 0x2003048 + i * 0x10
def F.SW_IFC_STAT_HEAD_USED (i : Nat) : Fld := ⟨R.SW_IFC_STAT i, 16, 13⟩
def F.SW_IFC_STAT_XOFF (i : Nat) : Fld := ⟨R.SW_IFC_STAT i, 0, 8⟩
/-- SW_IFC_HDROP, page SW3 +0x04C (ch09). -/
def R.SW_IFC_HDROP (i : Nat) : Nat := 0x200304C + i * 0x10
def F.SW_IFC_HDROP_COUNT (i : Nat) : Fld := ⟨R.SW_IFC_HDROP i, 0, 32⟩
/-- SW_LIMP_CMD, page SW4 +0x040 (ch09). -/
def R.SW_LIMP_CMD : Nat := 0x2004040
def F.SW_LIMP_CMD_GO : Fld := ⟨R.SW_LIMP_CMD, 31, 1⟩
def F.SW_LIMP_CMD_OP : Fld := ⟨R.SW_LIMP_CMD, 24, 2⟩
def F.SW_LIMP_CMD_INDEX : Fld := ⟨R.SW_LIMP_CMD, 0, 9⟩
/-- SW_LIMP_STAT, page SW4 +0x044 (ch09). -/
def R.SW_LIMP_STAT : Nat := 0x2004044
def F.SW_LIMP_STAT_VALID : Fld := ⟨R.SW_LIMP_STAT, 31, 1⟩
def F.SW_LIMP_STAT_GEN : Fld := ⟨R.SW_LIMP_STAT, 0, 16⟩
/-- SW_LIMP_RESULT, page SW4 +0x048 (ch09). -/
def R.SW_LIMP_RESULT : Nat := 0x2004048
def F.SW_LIMP_RESULT_CODE : Fld := ⟨R.SW_LIMP_RESULT, 0, 16⟩
/-- SW_LIMP_DATA, page SW4 +0x060 (ch09). -/
def R.SW_LIMP_DATA (i : Nat) : Nat := 0x2004060 + i * 0x4
def F.SW_LIMP_DATA_DATA (i : Nat) : Fld := ⟨R.SW_LIMP_DATA i, 0, 32⟩
/-- LK_CFG, page LK0 +0x040 (ch09). -/
def R.LK_CFG (s : Nat) : Nat := 0x2200040 + s * 0x100000
def F.LK_CFG_AGE_EN (s : Nat) : Fld := ⟨R.LK_CFG s, 31, 1⟩
def F.LK_CFG_AGE_PERIOD_S (s : Nat) : Fld := ⟨R.LK_CFG s, 0, 16⟩
/-- LK_STAT, page LK0 +0x044 (ch09). -/
def R.LK_STAT (s : Nat) : Nat := 0x2200044 + s * 0x100000
def F.LK_STAT_HWL_MODE (s : Nat) : Fld := ⟨R.LK_STAT s, 31, 1⟩
def F.LK_STAT_ENTRIES (s : Nat) : Fld := ⟨R.LK_STAT s, 0, 18⟩
/-- LK_RELOC_SEQ, page LK0 +0x048 (ch09). -/
def R.LK_RELOC_SEQ (s : Nat) : Nat := 0x2200048 + s * 0x100000
def F.LK_RELOC_SEQ_COUNT (s : Nat) : Fld := ⟨R.LK_RELOC_SEQ s, 0, 32⟩
/-- LK_FLOOD, page LK0 +0x050 (ch09). -/
def R.LK_FLOOD (s : Nat) : Nat := 0x2200050 + s * 0x100000
def F.LK_FLOOD_COUNT (s : Nat) : Fld := ⟨R.LK_FLOOD s, 0, 32⟩
/-- LK_LEARN_DROP, page LK0 +0x054 (ch09). -/
def R.LK_LEARN_DROP (s : Nat) : Nat := 0x2200054 + s * 0x100000
def F.LK_LEARN_DROP_COUNT (s : Nat) : Fld := ⟨R.LK_LEARN_DROP s, 0, 32⟩
/-- LK_LEARN_DUP, page LK0 +0x058 (ch09). -/
def R.LK_LEARN_DUP (s : Nat) : Nat := 0x2200058 + s * 0x100000
def F.LK_LEARN_DUP_COUNT (s : Nat) : Fld := ⟨R.LK_LEARN_DUP s, 0, 32⟩
/-- LK_AGE_DEFER, page LK0 +0x05C (ch09). -/
def R.LK_AGE_DEFER (s : Nat) : Nat := 0x220005C + s * 0x100000
def F.LK_AGE_DEFER_COUNT (s : Nat) : Fld := ⟨R.LK_AGE_DEFER s, 0, 32⟩
/-- LK_FULL, page LK0 +0x060 (ch09). -/
def R.LK_FULL (s : Nat) : Nat := 0x2200060 + s * 0x100000
def F.LK_FULL_COUNT (s : Nat) : Fld := ⟨R.LK_FULL s, 0, 32⟩
/-- LK_LIMIT, page LK0 +0x064 (ch09). -/
def R.LK_LIMIT (s : Nat) : Nat := 0x2200064 + s * 0x100000
def F.LK_LIMIT_COUNT (s : Nat) : Fld := ⟨R.LK_LIMIT s, 0, 32⟩
/-- LK_STATIC_MOVE, page LK0 +0x068 (ch09). -/
def R.LK_STATIC_MOVE (s : Nat) : Nat := 0x2200068 + s * 0x100000
def F.LK_STATIC_MOVE_COUNT (s : Nat) : Fld := ⟨R.LK_STATIC_MOVE s, 0, 32⟩
/-- LK_AGED, page LK0 +0x06C (ch09). -/
def R.LK_AGED (s : Nat) : Nat := 0x220006C + s * 0x100000
def F.LK_AGED_COUNT (s : Nat) : Fld := ⟨R.LK_AGED s, 0, 32⟩
/-- LK_PORT_DYN, page LK0 +0x100 (ch09). -/
def R.LK_PORT_DYN (s i : Nat) : Nat := 0x2200100 + s * 0x100000 + i * 0x4
def F.LK_PORT_DYN_COUNT (s i : Nat) : Fld := ⟨R.LK_PORT_DYN s i, 0, 18⟩
/-- LK_CMD, page LK1 +0x040 (ch09). -/
def R.LK_CMD (s : Nat) : Nat := 0x2201040 + s * 0x100000
def F.LK_CMD_GO (s : Nat) : Fld := ⟨R.LK_CMD s, 31, 1⟩
def F.LK_CMD_OP (s : Nat) : Fld := ⟨R.LK_CMD s, 24, 4⟩
def F.LK_CMD_SLICES (s : Nat) : Fld := ⟨R.LK_CMD s, 20, 2⟩
def F.LK_CMD_KIND (s : Nat) : Fld := ⟨R.LK_CMD s, 16, 2⟩
def F.LK_CMD_PORT (s : Nat) : Fld := ⟨R.LK_CMD s, 0, 5⟩
/-- LK_KEY0, page LK1 +0x044 (ch09). -/
def R.LK_KEY0 (s : Nat) : Nat := 0x2201044 + s * 0x100000
def F.LK_KEY0_MAC (s : Nat) : Fld := ⟨R.LK_KEY0 s, 0, 32⟩
/-- LK_KEY1, page LK1 +0x048 (ch09). -/
def R.LK_KEY1 (s : Nat) : Nat := 0x2201048 + s * 0x100000
def F.LK_KEY1_VID (s : Nat) : Fld := ⟨R.LK_KEY1 s, 16, 12⟩
def F.LK_KEY1_MAC (s : Nat) : Fld := ⟨R.LK_KEY1 s, 0, 16⟩
/-- LK_CURSOR, page LK1 +0x04C (ch09). -/
def R.LK_CURSOR (s : Nat) : Nat := 0x220104C + s * 0x100000
def F.LK_CURSOR_INDEX (s : Nat) : Fld := ⟨R.LK_CURSOR s, 0, 18⟩
/-- LK_RESULT, page LK1 +0x050 (ch09). -/
def R.LK_RESULT (s : Nat) : Nat := 0x2201050 + s * 0x100000
def F.LK_RESULT_CODE_B (s : Nat) : Fld := ⟨R.LK_RESULT s, 16, 16⟩
def F.LK_RESULT_CODE_A (s : Nat) : Fld := ⟨R.LK_RESULT s, 0, 16⟩
/-- LK_INDEX, page LK1 +0x054 (ch09). -/
def R.LK_INDEX (s : Nat) : Nat := 0x2201054 + s * 0x100000
def F.LK_INDEX_INDEX (s : Nat) : Fld := ⟨R.LK_INDEX s, 0, 17⟩
/-- LK_DATA, page LK1 +0x060 (ch09). -/
def R.LK_DATA (s i : Nat) : Nat := 0x2201060 + s * 0x100000 + i * 0x4
def F.LK_DATA_DATA (s i : Nat) : Fld := ⟨R.LK_DATA s i, 0, 32⟩
/-- LQ_CFG, page LK2 +0x040 (ch09). -/
def R.LQ_CFG (s : Nat) : Nat := 0x2202040 + s * 0x100000
def F.LQ_CFG_EN (s : Nat) : Fld := ⟨R.LQ_CFG s, 31, 1⟩
def F.LQ_CFG_OWNER (s : Nat) : Fld := ⟨R.LQ_CFG s, 29, 2⟩
def F.LQ_CFG_WATERMARK (s : Nat) : Fld := ⟨R.LQ_CFG s, 0, 6⟩
/-- LQ_STAT, page LK2 +0x044 (ch09). -/
def R.LQ_STAT (s : Nat) : Nat := 0x2202044 + s * 0x100000
def F.LQ_STAT_MARK_VALID (s : Nat) : Fld := ⟨R.LQ_STAT s, 29, 1⟩
def F.LQ_STAT_MARK (s : Nat) : Fld := ⟨R.LQ_STAT s, 16, 6⟩
def F.LQ_STAT_RPOS (s : Nat) : Fld := ⟨R.LQ_STAT s, 8, 6⟩
def F.LQ_STAT_FILL (s : Nat) : Fld := ⟨R.LQ_STAT s, 0, 6⟩
/-- LQ_ITEM, page LK2 +0x048 (ch09). -/
def R.LQ_ITEM (s i : Nat) : Nat := 0x2202048 + s * 0x100000 + i * 0x4
def F.LQ_ITEM_DATA (s i : Nat) : Fld := ⟨R.LQ_ITEM s i, 0, 32⟩
/-- LQ_CMD, page LK2 +0x058 (ch09). -/
def R.LQ_CMD (s : Nat) : Nat := 0x2202058 + s * 0x100000
def F.LQ_CMD_OP (s : Nat) : Fld := ⟨R.LQ_CMD s, 28, 4⟩
def F.LQ_CMD_COUNT (s : Nat) : Fld := ⟨R.LQ_CMD s, 0, 6⟩
/-- SF_CMD, page LK3 +0x040 (ch09). -/
def R.SF_CMD (s : Nat) : Nat := 0x2203040 + s * 0x100000
def F.SF_CMD_GO (s : Nat) : Fld := ⟨R.SF_CMD s, 31, 1⟩
def F.SF_CMD_OP (s : Nat) : Fld := ⟨R.SF_CMD s, 24, 2⟩
def F.SF_CMD_INDEX (s : Nat) : Fld := ⟨R.SF_CMD s, 0, 13⟩
/-- SF_RESULT, page LK3 +0x044 (ch09). -/
def R.SF_RESULT (s : Nat) : Nat := 0x2203044 + s * 0x100000
def F.SF_RESULT_CODE (s : Nat) : Fld := ⟨R.SF_RESULT s, 0, 16⟩
/-- SF_DATA, page LK3 +0x060 (ch09). -/
def R.SF_DATA (s i : Nat) : Nat := 0x2203060 + s * 0x100000 + i * 0x4
def F.SF_DATA_DATA (s i : Nat) : Fld := ⟨R.SF_DATA s i, 0, 32⟩
/-- TM_SAMPLE, page TM0 +0x040 (ch10). -/
def R.TM_SAMPLE : Nat := 0x2400040
def F.TM_SAMPLE_EN : Fld := ⟨R.TM_SAMPLE, 31, 1⟩
def F.TM_SAMPLE_PERIOD_US : Fld := ⟨R.TM_SAMPLE, 0, 16⟩
/-- TM_PM_CFG, page TM0 +0x100 (ch10). -/
def R.TM_PM_CFG (i : Nat) : Nat := 0x2400100 + i * 0x10
def F.TM_PM_CFG_EN (i : Nat) : Fld := ⟨R.TM_PM_CFG i, 31, 1⟩
def F.TM_PM_CFG_RATE (i : Nat) : Fld := ⟨R.TM_PM_CFG i, 0, 28⟩
/-- TM_PM_BURST, page TM0 +0x104 (ch10). -/
def R.TM_PM_BURST (i : Nat) : Nat := 0x2400104 + i * 0x10
def F.TM_PM_BURST_BURST (i : Nat) : Fld := ⟨R.TM_PM_BURST i, 0, 24⟩
/-- TM_PM_LEVEL, page TM0 +0x108 (ch10). -/
def R.TM_PM_LEVEL (i : Nat) : Nat := 0x2400108 + i * 0x10
def F.TM_PM_LEVEL_LEVEL (i : Nat) : Fld := ⟨R.TM_PM_LEVEL i, 0, 32⟩
/-- TM_PM_DROP, page TM0 +0x10C (ch10). -/
def R.TM_PM_DROP (i : Nat) : Nat := 0x240010C + i * 0x10
def F.TM_PM_DROP_COUNT (i : Nat) : Fld := ⟨R.TM_PM_DROP i, 0, 32⟩
/-- TM_PM_MAP, page TM0 +0x600 (ch10). -/
def R.TM_PM_MAP (i : Nat) : Nat := 0x2400600 + i * 0x4
/-- TM_FM_CMD, page TM1 +0x040 (ch10). -/
def R.TM_FM_CMD : Nat := 0x2401040
def F.TM_FM_CMD_GO : Fld := ⟨R.TM_FM_CMD, 31, 1⟩
def F.TM_FM_CMD_OP : Fld := ⟨R.TM_FM_CMD, 24, 2⟩
def F.TM_FM_CMD_INDEX : Fld := ⟨R.TM_FM_CMD, 0, 13⟩
/-- TM_FM_RESULT, page TM1 +0x044 (ch10). -/
def R.TM_FM_RESULT : Nat := 0x2401044
def F.TM_FM_RESULT_CODE : Fld := ⟨R.TM_FM_RESULT, 0, 16⟩
/-- TM_FM_DATA, page TM1 +0x060 (ch10). -/
def R.TM_FM_DATA (i : Nat) : Nat := 0x2401060 + i * 0x4
def F.TM_FM_DATA_DATA (i : Nat) : Fld := ⟨R.TM_FM_DATA i, 0, 32⟩
/-- TM_Q_CIR, page TM2 +0x040 (ch10). -/
def R.TM_Q_CIR (i : Nat) : Nat := 0x2402040 + i * 0x10
def F.TM_Q_CIR_RATE (i : Nat) : Fld := ⟨R.TM_Q_CIR i, 0, 28⟩
/-- TM_Q_PIR, page TM2 +0x044 (ch10). -/
def R.TM_Q_PIR (i : Nat) : Nat := 0x2402044 + i * 0x10
def F.TM_Q_PIR_RATE (i : Nat) : Fld := ⟨R.TM_Q_PIR i, 0, 28⟩
/-- TM_Q_CBS, page TM2 +0x048 (ch10). -/
def R.TM_Q_CBS (i : Nat) : Nat := 0x2402048 + i * 0x10
def F.TM_Q_CBS_BYTES (i : Nat) : Fld := ⟨R.TM_Q_CBS i, 0, 24⟩
/-- TM_Q_PBS, page TM2 +0x04C (ch10). -/
def R.TM_Q_PBS (i : Nat) : Nat := 0x240204C + i * 0x10
def F.TM_Q_PBS_BYTES (i : Nat) : Fld := ⟨R.TM_Q_PBS i, 0, 24⟩
/-- TM_Q_WEIGHT, page TM3 +0x040 (ch10). -/
def R.TM_Q_WEIGHT (i : Nat) : Nat := 0x2403040 + i * 0x4
def F.TM_Q_WEIGHT_WEIGHT (i : Nat) : Fld := ⟨R.TM_Q_WEIGHT i, 0, 16⟩
/-- TM_PORT_OH, page TM3 +0x400 (ch10). -/
def R.TM_PORT_OH (i : Nat) : Nat := 0x2403400 + i * 0x10
def F.TM_PORT_OH_OVERHEAD (i : Nat) : Fld := ⟨R.TM_PORT_OH i, 0, 8⟩
/-- TM_PORT_VT, page TM3 +0x404 (ch10). -/
def R.TM_PORT_VT (i : Nat) : Nat := 0x2403404 + i * 0x10
def F.TM_PORT_VT_V (i : Nat) : Fld := ⟨R.TM_PORT_VT i, 0, 32⟩
/-- TM_GCL_CTRL, page TM4 +0x040 (ch10). -/
def R.TM_GCL_CTRL (i : Nat) : Nat := 0x2404040 + i * 0x40
def F.TM_GCL_CTRL_DOMAIN (i : Nat) : Fld := ⟨R.TM_GCL_CTRL i, 24, 4⟩
def F.TM_GCL_CTRL_STOP (i : Nat) : Fld := ⟨R.TM_GCL_CTRL i, 2, 1⟩
def F.TM_GCL_CTRL_ABORT (i : Nat) : Fld := ⟨R.TM_GCL_CTRL i, 1, 1⟩
def F.TM_GCL_CTRL_COMMIT (i : Nat) : Fld := ⟨R.TM_GCL_CTRL i, 0, 1⟩
/-- TM_GCL_STAT, page TM4 +0x044 (ch10). -/
def R.TM_GCL_STAT (i : Nat) : Nat := 0x2404044 + i * 0x40
def F.TM_GCL_STAT_PENDING (i : Nat) : Fld := ⟨R.TM_GCL_STAT i, 31, 1⟩
def F.TM_GCL_STAT_OPER_BANK (i : Nat) : Fld := ⟨R.TM_GCL_STAT i, 30, 1⟩
def F.TM_GCL_STAT_RUNNING (i : Nat) : Fld := ⟨R.TM_GCL_STAT i, 29, 1⟩
def F.TM_GCL_STAT_GATES (i : Nat) : Fld := ⟨R.TM_GCL_STAT i, 8, 8⟩
def F.TM_GCL_STAT_INDEX (i : Nat) : Fld := ⟨R.TM_GCL_STAT i, 0, 8⟩
/-- TM_GCL_BASE_SEC_LO, page TM4 +0x048 (ch10). -/
def R.TM_GCL_BASE_SEC_LO (i : Nat) : Nat := 0x2404048 + i * 0x40
def F.TM_GCL_BASE_SEC_LO_SEC (i : Nat) : Fld := ⟨R.TM_GCL_BASE_SEC_LO i, 0, 32⟩
/-- TM_GCL_BASE_SEC_HI, page TM4 +0x04C (ch10). -/
def R.TM_GCL_BASE_SEC_HI (i : Nat) : Nat := 0x240404C + i * 0x40
def F.TM_GCL_BASE_SEC_HI_SEC (i : Nat) : Fld := ⟨R.TM_GCL_BASE_SEC_HI i, 0, 16⟩
/-- TM_GCL_BASE_NS, page TM4 +0x050 (ch10). -/
def R.TM_GCL_BASE_NS (i : Nat) : Nat := 0x2404050 + i * 0x40
def F.TM_GCL_BASE_NS_NS (i : Nat) : Fld := ⟨R.TM_GCL_BASE_NS i, 0, 30⟩
/-- TM_GCL_CYCLE, page TM4 +0x054 (ch10). -/
def R.TM_GCL_CYCLE (i : Nat) : Nat := 0x2404054 + i * 0x40
def F.TM_GCL_CYCLE_NS (i : Nat) : Fld := ⟨R.TM_GCL_CYCLE i, 0, 32⟩
/-- TM_GCL_LEN, page TM4 +0x058 (ch10). -/
def R.TM_GCL_LEN (i : Nat) : Nat := 0x2404058 + i * 0x40
def F.TM_GCL_LEN_LEN (i : Nat) : Fld := ⟨R.TM_GCL_LEN i, 0, 9⟩
/-- TM_GCL_TAKE_SEC_LO, page TM4 +0x05C (ch10). -/
def R.TM_GCL_TAKE_SEC_LO (i : Nat) : Nat := 0x240405C + i * 0x40
def F.TM_GCL_TAKE_SEC_LO_SEC (i : Nat) : Fld := ⟨R.TM_GCL_TAKE_SEC_LO i, 0, 32⟩
/-- TM_GCL_TAKE_SEC_HI, page TM4 +0x060 (ch10). -/
def R.TM_GCL_TAKE_SEC_HI (i : Nat) : Nat := 0x2404060 + i * 0x40
def F.TM_GCL_TAKE_SEC_HI_SEC (i : Nat) : Fld := ⟨R.TM_GCL_TAKE_SEC_HI i, 0, 16⟩
/-- TM_GCL_TAKE_NS, page TM4 +0x064 (ch10). -/
def R.TM_GCL_TAKE_NS (i : Nat) : Nat := 0x2404064 + i * 0x40
def F.TM_GCL_TAKE_NS_NS (i : Nat) : Fld := ⟨R.TM_GCL_TAKE_NS i, 0, 30⟩
/-- TM_GCL_OPER_CYCLE, page TM4 +0x068 (ch10). -/
def R.TM_GCL_OPER_CYCLE (i : Nat) : Nat := 0x2404068 + i * 0x40
def F.TM_GCL_OPER_CYCLE_NS (i : Nat) : Fld := ⟨R.TM_GCL_OPER_CYCLE i, 0, 32⟩
/-- TM_GCE_SEL, page TM4 +0x800 (ch10). -/
def R.TM_GCE_SEL : Nat := 0x2404800
def F.TM_GCE_SEL_PORT : Fld := ⟨R.TM_GCE_SEL, 16, 5⟩
def F.TM_GCE_SEL_BANK : Fld := ⟨R.TM_GCE_SEL, 8, 1⟩
def F.TM_GCE_SEL_INDEX : Fld := ⟨R.TM_GCE_SEL, 0, 8⟩
/-- TM_GCE_GATES, page TM4 +0x804 (ch10). -/
def R.TM_GCE_GATES : Nat := 0x2404804
def F.TM_GCE_GATES_GATES : Fld := ⟨R.TM_GCE_GATES, 0, 8⟩
/-- TM_GCE_INTERVAL, page TM4 +0x808 (ch10). -/
def R.TM_GCE_INTERVAL : Nat := 0x2404808
def F.TM_GCE_INTERVAL_NS : Fld := ⟨R.TM_GCE_INTERVAL, 0, 32⟩
/-- TM_HIST_CMD, page TM5 +0x040 (ch10). -/
def R.TM_HIST_CMD : Nat := 0x2405040
def F.TM_HIST_CMD_GO : Fld := ⟨R.TM_HIST_CMD, 31, 1⟩
def F.TM_HIST_CMD_CLEAR : Fld := ⟨R.TM_HIST_CMD, 24, 1⟩
def F.TM_HIST_CMD_QUEUE : Fld := ⟨R.TM_HIST_CMD, 0, 8⟩
/-- TM_HIST_RESULT, page TM5 +0x044 (ch10). -/
def R.TM_HIST_RESULT : Nat := 0x2405044
def F.TM_HIST_RESULT_CODE : Fld := ⟨R.TM_HIST_RESULT, 0, 16⟩
/-- TM_HIST_UNIT, page TM5 +0x048 (ch10). -/
def R.TM_HIST_UNIT : Nat := 0x2405048
def F.TM_HIST_UNIT_DEPTH_UNIT : Fld := ⟨R.TM_HIST_UNIT, 16, 16⟩
def F.TM_HIST_UNIT_DELAY_UNIT : Fld := ⟨R.TM_HIST_UNIT, 0, 16⟩
/-- TM_HIST_DATA, page TM5 +0x060 (ch10). -/
def R.TM_HIST_DATA (i : Nat) : Nat := 0x2405060 + i * 0x4
def F.TM_HIST_DATA_DATA (i : Nat) : Fld := ⟨R.TM_HIST_DATA i, 0, 32⟩
/-- CP_MEM_CFG, page CP0 +0x040 (ch11). -/
def R.CP_MEM_CFG : Nat := 0x2800040
def F.CP_MEM_CFG_X : Fld := ⟨R.CP_MEM_CFG, 8, 1⟩
def F.CP_MEM_CFG_RATE : Fld := ⟨R.CP_MEM_CFG, 4, 2⟩
def F.CP_MEM_CFG_DENSITY : Fld := ⟨R.CP_MEM_CFG, 0, 2⟩
/-- CP_MEM_STAT, page CP0 +0x044 (ch11). -/
def R.CP_MEM_STAT : Nat := 0x2800044
def F.CP_MEM_STAT_SELF_REFRESH : Fld := ⟨R.CP_MEM_STAT, 2, 1⟩
def F.CP_MEM_STAT_CONSERVATIVE : Fld := ⟨R.CP_MEM_STAT, 1, 1⟩
def F.CP_MEM_STAT_TRAINED : Fld := ⟨R.CP_MEM_STAT, 0, 1⟩
/-- CP_ECC_SBE, page CP0 +0x048 (ch11). -/
def R.CP_ECC_SBE : Nat := 0x2800048
def F.CP_ECC_SBE_COUNT : Fld := ⟨R.CP_ECC_SBE, 0, 32⟩
/-- CP_ECC_DBE, page CP0 +0x04C (ch11). -/
def R.CP_ECC_DBE : Nat := 0x280004C
def F.CP_ECC_DBE_COUNT : Fld := ⟨R.CP_ECC_DBE, 0, 32⟩
/-- CP_ECC_DBE_ADDR_LO, page CP0 +0x050 (ch11). -/
def R.CP_ECC_DBE_ADDR_LO : Nat := 0x2800050
def F.CP_ECC_DBE_ADDR_LO_ADDR : Fld := ⟨R.CP_ECC_DBE_ADDR_LO, 0, 32⟩
/-- CP_ECC_DBE_ADDR_HI, page CP0 +0x054 (ch11). -/
def R.CP_ECC_DBE_ADDR_HI : Nat := 0x2800054
def F.CP_ECC_DBE_ADDR_HI_VALID : Fld := ⟨R.CP_ECC_DBE_ADDR_HI, 31, 1⟩
def F.CP_ECC_DBE_ADDR_HI_ADDR : Fld := ⟨R.CP_ECC_DBE_ADDR_HI, 0, 2⟩
/-- CP_BUF_STAT, page CP0 +0x058 (ch11). -/
def R.CP_BUF_STAT : Nat := 0x2800058
def F.CP_BUF_STAT_USED : Fld := ⟨R.CP_BUF_STAT, 0, 20⟩
/-- CP_TAP_CFG, page CP1 +0x040 (ch11). -/
def R.CP_TAP_CFG (i : Nat) : Nat := 0x2801040 + i * 0x8
def F.CP_TAP_CFG_EN (i : Nat) : Fld := ⟨R.CP_TAP_CFG i, 31, 1⟩
def F.CP_TAP_CFG_DIR (i : Nat) : Fld := ⟨R.CP_TAP_CFG i, 30, 1⟩
def F.CP_TAP_CFG_TRIG_ON (i : Nat) : Fld := ⟨R.CP_TAP_CFG i, 28, 2⟩
def F.CP_TAP_CFG_PRIO (i : Nat) : Fld := ⟨R.CP_TAP_CFG i, 26, 2⟩
def F.CP_TAP_CFG_SOURCE (i : Nat) : Fld := ⟨R.CP_TAP_CFG i, 16, 9⟩
def F.CP_TAP_CFG_RING (i : Nat) : Fld := ⟨R.CP_TAP_CFG i, 0, 4⟩
/-- CP_TAP_SNAP, page CP1 +0x044 (ch11). -/
def R.CP_TAP_SNAP (i : Nat) : Nat := 0x2801044 + i * 0x8
def F.CP_TAP_SNAP_SNAP (i : Nat) : Fld := ⟨R.CP_TAP_SNAP i, 0, 14⟩
/-- CP_RING_CFG, page CP2 +0x040 (ch11). -/
def R.CP_RING_CFG (i : Nat) : Nat := 0x2802040 + i * 0x40
def F.CP_RING_CFG_EN (i : Nat) : Fld := ⟨R.CP_RING_CFG i, 31, 1⟩
def F.CP_RING_CFG_MODE (i : Nat) : Fld := ⟨R.CP_RING_CFG i, 30, 1⟩
def F.CP_RING_CFG_CONSUMER (i : Nat) : Fld := ⟨R.CP_RING_CFG i, 28, 2⟩
def F.CP_RING_CFG_TRIG_SRC (i : Nat) : Fld := ⟨R.CP_RING_CFG i, 24, 3⟩
def F.CP_RING_CFG_FLUSH_US (i : Nat) : Fld := ⟨R.CP_RING_CFG i, 16, 8⟩
def F.CP_RING_CFG_POST_KIB (i : Nat) : Fld := ⟨R.CP_RING_CFG i, 0, 16⟩
/-- CP_RING_BASE_LO, page CP2 +0x044 (ch11). -/
def R.CP_RING_BASE_LO (i : Nat) : Nat := 0x2802044 + i * 0x40
def F.CP_RING_BASE_LO_ADDR (i : Nat) : Fld := ⟨R.CP_RING_BASE_LO i, 6, 26⟩
/-- CP_RING_BASE_HI, page CP2 +0x048 (ch11). -/
def R.CP_RING_BASE_HI (i : Nat) : Nat := 0x2802048 + i * 0x40
def F.CP_RING_BASE_HI_ADDR (i : Nat) : Fld := ⟨R.CP_RING_BASE_HI i, 0, 32⟩
/-- CP_RING_SIZE, page CP2 +0x04C (ch11). -/
def R.CP_RING_SIZE (i : Nat) : Nat := 0x280204C + i * 0x40
def F.CP_RING_SIZE_UNITS (i : Nat) : Fld := ⟨R.CP_RING_SIZE i, 0, 16⟩
/-- CP_RING_WPTR, page CP2 +0x050 (ch11). -/
def R.CP_RING_WPTR (i : Nat) : Nat := 0x2802050 + i * 0x40
def F.CP_RING_WPTR_PTR (i : Nat) : Fld := ⟨R.CP_RING_WPTR i, 0, 32⟩
/-- CP_RING_RPTR, page CP2 +0x054 (ch11). -/
def R.CP_RING_RPTR (i : Nat) : Nat := 0x2802054 + i * 0x40
def F.CP_RING_RPTR_PTR (i : Nat) : Fld := ⟨R.CP_RING_RPTR i, 0, 32⟩
/-- CP_RING_STAT, page CP2 +0x058 (ch11). -/
def R.CP_RING_STAT (i : Nat) : Nat := 0x2802058 + i * 0x40
def F.CP_RING_STAT_STATE (i : Nat) : Fld := ⟨R.CP_RING_STAT i, 0, 2⟩
/-- CP_RING_TRIG_PTR, page CP2 +0x05C (ch11). -/
def R.CP_RING_TRIG_PTR (i : Nat) : Nat := 0x280205C + i * 0x40
def F.CP_RING_TRIG_PTR_PTR (i : Nat) : Fld := ⟨R.CP_RING_TRIG_PTR i, 0, 32⟩
/-- CP_RING_TRIG_NS, page CP2 +0x060 (ch11). -/
def R.CP_RING_TRIG_NS (i : Nat) : Nat := 0x2802060 + i * 0x40
def F.CP_RING_TRIG_NS_NS (i : Nat) : Fld := ⟨R.CP_RING_TRIG_NS i, 0, 32⟩
/-- CP_RING_LOST, page CP2 +0x064 (ch11). -/
def R.CP_RING_LOST (i : Nat) : Nat := 0x2802064 + i * 0x40
def F.CP_RING_LOST_COUNT (i : Nat) : Fld := ⟨R.CP_RING_LOST i, 0, 32⟩
/-- CP_RING_OVERWRITTEN, page CP2 +0x068 (ch11). -/
def R.CP_RING_OVERWRITTEN (i : Nat) : Nat := 0x2802068 + i * 0x40
def F.CP_RING_OVERWRITTEN_COUNT (i : Nat) : Fld := ⟨R.CP_RING_OVERWRITTEN i, 0, 32⟩
/-- CP_RING_CMD, page CP2 +0x06C (ch11). -/
def R.CP_RING_CMD (i : Nat) : Nat := 0x280206C + i * 0x40
def F.CP_RING_CMD_RESET_PTR (i : Nat) : Fld := ⟨R.CP_RING_CMD i, 2, 1⟩
def F.CP_RING_CMD_REARM (i : Nat) : Fld := ⟨R.CP_RING_CMD i, 1, 1⟩
def F.CP_RING_CMD_TRIGGER (i : Nat) : Fld := ⟨R.CP_RING_CMD i, 0, 1⟩
/-- CP_AV_CFG, page CP3 +0x040 (ch11). -/
def R.CP_AV_CFG (i : Nat) : Nat := 0x2803040 + i * 0x20
def F.CP_AV_CFG_EN (i : Nat) : Fld := ⟨R.CP_AV_CFG i, 31, 1⟩
def F.CP_AV_CFG_RING (i : Nat) : Fld := ⟨R.CP_AV_CFG i, 24, 4⟩
def F.CP_AV_CFG_PCP (i : Nat) : Fld := ⟨R.CP_AV_CFG i, 20, 3⟩
def F.CP_AV_CFG_VID (i : Nat) : Fld := ⟨R.CP_AV_CFG i, 8, 12⟩
def F.CP_AV_CFG_SEG (i : Nat) : Fld := ⟨R.CP_AV_CFG i, 0, 8⟩
/-- CP_AV_DA_LO, page CP3 +0x044 (ch11). -/
def R.CP_AV_DA_LO (i : Nat) : Nat := 0x2803044 + i * 0x20
def F.CP_AV_DA_LO_ADDR (i : Nat) : Fld := ⟨R.CP_AV_DA_LO i, 0, 32⟩
/-- CP_AV_DA_HI, page CP3 +0x048 (ch11). -/
def R.CP_AV_DA_HI (i : Nat) : Nat := 0x2803048 + i * 0x20
def F.CP_AV_DA_HI_ADDR (i : Nat) : Fld := ⟨R.CP_AV_DA_HI i, 0, 16⟩
/-- CP_AV_SID_LO, page CP3 +0x04C (ch11). -/
def R.CP_AV_SID_LO (i : Nat) : Nat := 0x280304C + i * 0x20
def F.CP_AV_SID_LO_SID (i : Nat) : Fld := ⟨R.CP_AV_SID_LO i, 0, 32⟩
/-- CP_AV_SID_HI, page CP3 +0x050 (ch11). -/
def R.CP_AV_SID_HI (i : Nat) : Nat := 0x2803050 + i * 0x20
def F.CP_AV_SID_HI_SID (i : Nat) : Fld := ⟨R.CP_AV_SID_HI i, 0, 32⟩
/-- CP_AV_RATE, page CP3 +0x054 (ch11). -/
def R.CP_AV_RATE (i : Nat) : Nat := 0x2803054 + i * 0x20
def F.CP_AV_RATE_MBPS (i : Nat) : Fld := ⟨R.CP_AV_RATE i, 0, 14⟩
/-- CP_AV_SENT, page CP3 +0x058 (ch11). -/
def R.CP_AV_SENT (i : Nat) : Nat := 0x2803058 + i * 0x20
def F.CP_AV_SENT_COUNT (i : Nat) : Fld := ⟨R.CP_AV_SENT i, 0, 32⟩
/-- CP_AV_SA_LO, page CP3 +0x100 (ch11). -/
def R.CP_AV_SA_LO : Nat := 0x2803100
def F.CP_AV_SA_LO_ADDR : Fld := ⟨R.CP_AV_SA_LO, 0, 32⟩
/-- CP_AV_SA_HI, page CP3 +0x104 (ch11). -/
def R.CP_AV_SA_HI : Nat := 0x2803104
def F.CP_AV_SA_HI_ADDR : Fld := ⟨R.CP_AV_SA_HI, 0, 32⟩
/-- CP_AV_VENDOR_LO, page CP3 +0x108 (ch11). -/
def R.CP_AV_VENDOR_LO : Nat := 0x2803108
def F.CP_AV_VENDOR_LO_ID : Fld := ⟨R.CP_AV_VENDOR_LO, 0, 32⟩
/-- CP_AV_VENDOR_HI, page CP3 +0x10C (ch11). -/
def R.CP_AV_VENDOR_HI : Nat := 0x280310C
def F.CP_AV_VENDOR_HI_ID : Fld := ⟨R.CP_AV_VENDOR_HI, 0, 32⟩
/-- HB_PORT_STAT, page HBP +0x040 (ch02). -/
def R.HB_PORT_STAT (p : Nat) : Nat := 0x2C01040 + p * 0x1000
def F.HB_PORT_STAT_PTM_EN (p : Nat) : Fld := ⟨R.HB_PORT_STAT p, 7, 1⟩
def F.HB_PORT_STAT_WIDTH (p : Nat) : Fld := ⟨R.HB_PORT_STAT p, 4, 3⟩
def F.HB_PORT_STAT_SPEED (p : Nat) : Fld := ⟨R.HB_PORT_STAT p, 1, 3⟩
def F.HB_PORT_STAT_LINK_UP (p : Nat) : Fld := ⟨R.HB_PORT_STAT p, 0, 1⟩
/-- HB_WSEQ, page HBP +0x044 (ch02). -/
def R.HB_WSEQ (p : Nat) : Nat := 0x2C01044 + p * 0x1000
def F.HB_WSEQ_SEQ (p : Nat) : Fld := ⟨R.HB_WSEQ p, 0, 32⟩
/-- HB_PEL_STAT, page HBP +0x048 (ch02). -/
def R.HB_PEL_STAT (p : Nat) : Nat := 0x2C01048 + p * 0x1000
def F.HB_PEL_STAT_FULL (p : Nat) : Fld := ⟨R.HB_PEL_STAT p, 4, 1⟩
def F.HB_PEL_STAT_COUNT (p : Nat) : Fld := ⟨R.HB_PEL_STAT p, 0, 4⟩
/-- HB_PEL_DISCARD, page HBP +0x04C (ch02). -/
def R.HB_PEL_DISCARD (p : Nat) : Nat := 0x2C0104C + p * 0x1000
def F.HB_PEL_DISCARD_COUNT (p : Nat) : Fld := ⟨R.HB_PEL_DISCARD p, 0, 32⟩
/-- HB_IRQ_SEL, page HBP +0x050 (ch02). -/
def R.HB_IRQ_SEL (p : Nat) : Nat := 0x2C01050 + p * 0x1000
def F.HB_IRQ_SEL_SOURCE (p : Nat) : Fld := ⟨R.HB_IRQ_SEL p, 0, 9⟩
/-- HB_IRQ_VEC, page HBP +0x054 (ch02). -/
def R.HB_IRQ_VEC (p : Nat) : Nat := 0x2C01054 + p * 0x1000
/-- HB_PTM_CTRL, page HBP +0x060 (ch02). -/
def R.HB_PTM_CTRL (p : Nat) : Nat := 0x2C01060 + p * 0x1000
def F.HB_PTM_CTRL_PERIOD (p : Nat) : Fld := ⟨R.HB_PTM_CTRL p, 8, 8⟩
def F.HB_PTM_CTRL_TRIGGER (p : Nat) : Fld := ⟨R.HB_PTM_CTRL p, 1, 1⟩
def F.HB_PTM_CTRL_AUTO (p : Nat) : Fld := ⟨R.HB_PTM_CTRL p, 0, 1⟩
/-- PTM_SEQ, page HBP +0x064 (ch02). -/
def R.PTM_SEQ (p : Nat) : Nat := 0x2C01064 + p * 0x1000
def F.PTM_SEQ_COUNT (p : Nat) : Fld := ⟨R.PTM_SEQ p, 0, 32⟩
/-- PTM_T1, page HBP +0x068 (ch02). -/
def R.PTM_T1 (p : Nat) : Nat := 0x2C01068 + p * 0x1000
def F.PTM_T1_NS (p : Nat) : Fld := ⟨R.PTM_T1 p, 0, 32⟩
/-- PTM_T4, page HBP +0x06C (ch02). -/
def R.PTM_T4 (p : Nat) : Nat := 0x2C0106C + p * 0x1000
def F.PTM_T4_NS (p : Nat) : Fld := ⟨R.PTM_T4 p, 0, 32⟩
/-- PTM_MT_LO, page HBP +0x070 (ch02). -/
def R.PTM_MT_LO (p : Nat) : Nat := 0x2C01070 + p * 0x1000
def F.PTM_MT_LO_NS (p : Nat) : Fld := ⟨R.PTM_MT_LO p, 0, 32⟩
/-- PTM_MT_HI, page HBP +0x074 (ch02). -/
def R.PTM_MT_HI (p : Nat) : Nat := 0x2C01074 + p * 0x1000
def F.PTM_MT_HI_NS (p : Nat) : Fld := ⟨R.PTM_MT_HI p, 0, 32⟩
/-- PTM_PDELAY, page HBP +0x078 (ch02). -/
def R.PTM_PDELAY (p : Nat) : Nat := 0x2C01078 + p * 0x1000
def F.PTM_PDELAY_NS (p : Nat) : Fld := ⟨R.PTM_PDELAY p, 0, 32⟩
/-- PEL_ADDR, page HBP +0x080 (ch02). -/
def R.PEL_ADDR (p i : Nat) : Nat := 0x2C01080 + p * 0x1000 + i * 0x20
def F.PEL_ADDR_VALID (p i : Nat) : Fld := ⟨R.PEL_ADDR p i, 31, 1⟩
def F.PEL_ADDR_ADDR (p i : Nat) : Fld := ⟨R.PEL_ADDR p i, 0, 26⟩
/-- PEL_SEQ, page HBP +0x084 (ch02). -/
def R.PEL_SEQ (p i : Nat) : Nat := 0x2C01084 + p * 0x1000 + i * 0x20
def F.PEL_SEQ_SEQ (p i : Nat) : Fld := ⟨R.PEL_SEQ p i, 0, 32⟩
/-- PEL_TIME, page HBP +0x088 (ch02). -/
def R.PEL_TIME (p i : Nat) : Nat := 0x2C01088 + p * 0x1000 + i * 0x20
def F.PEL_TIME_STAMP_NS (p i : Nat) : Fld := ⟨R.PEL_TIME p i, 0, 32⟩
/-- PEL_INFO, page HBP +0x08C (ch02). -/
def R.PEL_INFO (p i : Nat) : Nat := 0x2C0108C + p * 0x1000 + i * 0x20
def F.PEL_INFO_CODE (p i : Nat) : Fld := ⟨R.PEL_INFO p i, 0, 16⟩
/-- PEL_DATA, page HBP +0x090 (ch02). -/
def R.PEL_DATA (p i : Nat) : Nat := 0x2C01090 + p * 0x1000 + i * 0x20
def F.PEL_DATA_DATA (p i : Nat) : Fld := ⟨R.PEL_DATA p i, 0, 32⟩
/-- RING_CFG, page HBP +0x208 (ch02). -/
def R.RING_CFG (p i : Nat) : Nat := 0x2C01208 + p * 0x1000 + i * 0x20
def F.RING_CFG_ENABLE (p i : Nat) : Fld := ⟨R.RING_CFG p i, 31, 1⟩
def F.RING_CFG_DIR (p i : Nat) : Fld := ⟨R.RING_CFG p i, 30, 1⟩
def F.RING_CFG_KIND (p i : Nat) : Fld := ⟨R.RING_CFG p i, 28, 2⟩
def F.RING_CFG_SOURCE (p i : Nat) : Fld := ⟨R.RING_CFG p i, 16, 12⟩
def F.RING_CFG_SIZE (p i : Nat) : Fld := ⟨R.RING_CFG p i, 0, 4⟩
/-- RING_HEAD, page HBP +0x20C (ch02). -/
def R.RING_HEAD (p i : Nat) : Nat := 0x2C0120C + p * 0x1000 + i * 0x20
def F.RING_HEAD_INDEX (p i : Nat) : Fld := ⟨R.RING_HEAD p i, 0, 16⟩
/-- RING_TAIL, page HBP +0x210 (ch02). -/
def R.RING_TAIL (p i : Nat) : Nat := 0x2C01210 + p * 0x1000 + i * 0x20
def F.RING_TAIL_INDEX (p i : Nat) : Fld := ⟨R.RING_TAIL p i, 0, 16⟩

end Sys2Proof.Machine
end

