-- ==== Sys2Proof/Config.lean ====
section
/-! DEFINITION. What one implementation fixes and the values the spec leaves open: opaque
constants, applied to the operands they depend on or to the free-value counter of the state
(`Dev.freeIx`). Nothing can be proved about them, so a claim holds for every value. -/

namespace Sys2Proof.Config
open Sys2Proof

/-- A fresh value the spec does not fix, by the free-value counter (assumption 3). -/
opaque freeNat : Nat → Nat

/-- Fresh bytes the spec does not fix (random challenge, generated key): counter, byte index
(assumption 3). -/
opaque freeByte : Nat → Nat → Byte

/-- R50: whether round() goes up where the value lies exactly half way; by numerator and
denominator (assumption 4). -/
opaque roundHalfUp : Int → Int → Bool

/-- R50: whether a value that is no multiple of the kept unit is kept as the upper neighbour; by
numerator and denominator (assumption 4). -/
opaque quantUp : Int → Int → Bool

/-- R132, R369: the fixed input delay of the CAN and LIN stamps, in CAN clocks of 12.5 ns (assumption 32). -/
opaque canInputDelay : Nat

/-- R286, R297: byte k of the hash of Raneltik's image key, fixed in the boot ROM (assumption 30). -/
opaque romKeyHash : Nat → Byte

/-- R297: byte k of Raneltik's debug key hash, fixed in the boot ROM (assumption 30). -/
opaque debugKeyHash : Nat → Byte

/-- R283, R291: what the device generated at Raneltik: byte k of the root keys, and the two primes of the identity
key (assumption 30). -/
opaque idRoot : Nat → Byte
opaque vaultRoot : Nat → Byte
opaque idPrime : Bool → Nat

/-- R291: the primes of Raneltik's device-certificate key, and byte k of the salt of its signature
(assumption 30). -/
opaque certPrime : Bool → Nat
opaque certSalt : Nat → Byte

/-- R317: the UDP port and the IPv4 address that the boot ROM reads in the option words; the spec does not place
them (assumption 30). -/
opaque optUdpPort : List (Nat × Nat) → Nat
opaque optIp : List (Nat × Nat) → Nat

/-- R306: the open fields of the headers of a message sent at an always-on time (assumption 30): from bit 0 the DSCP
byte, the identification, Don't Fragment, the time to live, and the UDP source port. -/
opaque ipFields : (time : Nat) → (msg : List Byte) → Nat

/-- R322: the ECC words of a bank of other fabric SRAM (9) or of the buffers (10), as built (assumption 30). -/
opaque bankWords : (mem inst : Nat) → Nat

/-- R306: the device's own Ethernet address (assumption 30). -/
opaque ownMac : Nat

/-- R313: byte k of the digest of the Grove database in a flash slot that was programmed otherwise than by the relay
(assumption 30). -/
opaque flashDb : (slot k : Nat) → Byte

/-- R293: what the key derivation of NIST SP 800-108 feeds AES-CMAC for block i of a key of n bytes under
a label; the spec fixes no widths of its counter and length (assumption 31). -/
opaque kdfInput : (i n : Nat) → (label : List Byte) → List Byte

end Sys2Proof.Config
end

