-- ==== Sys2Proof/Machine/Bits.lean ====
section
/-! DEFINITION. Bit fields, byte strings and sparse tables: the operations every block shares. -/

namespace Sys2Proof.Machine
open Sys2Proof

/-- Bits lo+w−1:lo of a number. -/
def bitsOf (v lo w : Nat) : Nat := v / 2 ^ lo % 2 ^ w

/-- Bit i of a number. -/
def bitOf (v i : Nat) : Bool := v / 2 ^ i % 2 == 1

/-- `v` with bits lo+w−1:lo replaced by the low w bits of `x`. -/
def putBits (v lo w x : Nat) : Nat := v - bitsOf v lo w * 2 ^ lo + x % 2 ^ w * 2 ^ lo

/-- A field of a word. -/
def wordBits (v : Word) (lo w : Nat) : Nat := bitsOf v.toNat lo w

/-- A word with one field replaced. -/
def wordPut (v : Word) (lo w x : Nat) : Word := BitVec.ofNat 32 (putBits v.toNat lo w x)

/-- Bit i of a word. -/
def wordBit (v : Word) (i : Nat) : Bool := bitOf v.toNat i

/-- A number with bit i set. -/
def setBit (v i : Nat) : Nat := putBits v i 1 1

/-- A number with bit i cleared. -/
def clrBit (v i : Nat) : Nat := putBits v i 1 0

/-- A truth value as a bit. -/
def boolNat (b : Bool) : Nat := if b then 1 else 0

/-- The two's complement value of the low w bits. -/
def signedOf (w v : Nat) : Int :=
  if v % 2 ^ w < 2 ^ (w - 1) then (v % 2 ^ w : Nat) else (v % 2 ^ w : Nat) - (2 ^ w : Nat)

/-- The low w bits of an integer in two's complement. -/
def unsignedOf (w : Nat) (x : Int) : Nat := (x % (2 ^ w : Nat)).toNat

/-- A counter of w bits that saturates. -/
def satAdd (w v x : Nat) : Nat := if v + x < 2 ^ w then v + x else 2 ^ w - 1

/-- Bytes, least significant first, as a number. -/
def leNat : List Byte → Nat
  | [] => 0
  | b :: t => b.toNat + 256 * leNat t

/-- Bytes, most significant first, as a number. -/
def beNat (bs : List Byte) : Nat := bs.foldl (fun a b => a * 256 + b.toNat) 0

/-- A number as n bytes, least significant first. -/
def leBytes : Nat → Nat → List Byte
  | 0, _ => []
  | n + 1, v => BitVec.ofNat 8 v :: leBytes n (v / 256)

/-- A number as n bytes, most significant first. -/
def beBytes (n v : Nat) : List Byte := (leBytes n v).reverse

/-- The n bytes at offset `off` of a byte string, zero beyond its end. -/
def slice (bs : List Byte) (off n : Nat) : List Byte :=
  let t := (bs.drop off).take n
  t ++ List.replicate (n - t.length) 0

/-- `bs` with the bytes of `x` written at offset `off`, its length kept. -/
def overlay (bs : List Byte) (off : Nat) (x : List Byte) : List Byte :=
  (bs.take off ++ x ++ bs.drop (off + x.length)).take bs.length

/-- An entry of a sparse table. -/
def tabGet {α : Type} (dflt : Nat → α) : Tab α → Nat → α
  | [], i => dflt i
  | (j, v) :: t, i => if i = j then v else tabGet dflt t i

/-- An entry put in its place among those of other indices. -/
def tabIns {α : Type} : Tab α → Nat → α → Tab α
  | [], i, v => [(i, v)]
  | (j, w) :: t, i, v => if i < j then (i, v) :: (j, w) :: t else (j, w) :: tabIns t i v

/-- A sparse table with entry i written; the canonical form is kept. -/
def tabSet {α : Type} [DecidableEq α] (dflt : Nat → α) (t : Tab α) (i : Nat) (v : α) : Tab α :=
  let rest := t.filter (fun e => e.1 != i)
  if v = dflt i then rest else tabIns rest i v

/-- Every index of the table is above `lo`, indices rise, and no entry is its default. -/
def tabWfFrom {α : Type} [DecidableEq α] (dflt : Nat → α) : Nat → Tab α → Bool
  | _, [] => true
  | lo, (i, v) :: t => decide (lo ≤ i) && decide (v ≠ dflt i) && tabWfFrom dflt (i + 1) t

/-- The canonical form of a sparse table. -/
def tabWf {α : Type} [DecidableEq α] (dflt : Nat → α) (t : Tab α) : Bool := tabWfFrom dflt 0 t

/-- The entries that satisfy a test are dropped (they read as their default again). -/
def tabDrop {α : Type} (p : Nat → Bool) (t : Tab α) : Tab α := t.filter (fun e => !p e.1)

/-- An entry of a sparse table whose default is the type's default. -/
def tget {α : Type} [Inhabited α] (t : Tab α) (i : Nat) : α := tabGet (fun _ => default) t i

/-- A sparse table whose default is the type's default, with entry i written. -/
def tset {α : Type} [Inhabited α] [DecidableEq α] (t : Tab α) (i : Nat) (v : α) : Tab α :=
  tabSet (fun _ => default) t i v

/-- Entry i changed by `f`. -/
def tmod {α : Type} [Inhabited α] [DecidableEq α] (t : Tab α) (i : Nat) (f : α → α) : Tab α :=
  tset t i (f (tget t i))

/-- Every listed entry changed by `f`, which keeps the default. -/
def tmap {α : Type} [Inhabited α] [DecidableEq α] (t : Tab α) (f : α → α) : Tab α :=
  t.foldl (fun (a : Tab α) e => tset a e.1 (f e.2)) []

/-- The quotient rounded to the nearest whole number, half way as `Config.roundHalfUp` says
(R50). The denominator is positive. -/
def roundDiv (num den : Int) : Int :=
  let q := num / den
  let r := num % den
  if 2 * r < den then q else if 2 * r = den then (if Config.roundHalfUp num den then q + 1 else q)
  else q + 1

/-- The quotient kept as a whole number; where it is none, one of its neighbours
(`Config.quantUp`). -/
def quantDiv (num den : Int) : Int :=
  let q := num / den
  if num % den = 0 then q else if Config.quantUp num den then q + 1 else q

/-- The first index below n whose test holds. -/
def findBelow (n : Nat) (p : Nat → Bool) : Option Nat := (List.range n).find? p

/-! ## RSA key pairs (R285, R291) -/

/-- R285: p and q are the primes of an RSA-3072 key whose public exponent is 65,537. -/
def rsaPair (p q : Nat) : Bool :=
  p != q && decide (2 ^ 3071 ≤ p * q) && decide (p * q < 2 ^ 3072) && Nat.gcd 65537 ((p - 1) * (q - 1)) == 1 &&
    decide p.Prime && decide q.Prime

/-- A key of two free numbers: they are its primes where they make a key, and every key comes of some two. -/
def rsaKey (p q : Nat) : Nat × Nat :=
  if rsaPair p q then (p, q) else (2 ^ 614 * 3 ^ 580 * 5 + 1, 2 ^ 1059 * 3 ^ 298 * 5 ^ 2 + 1)

end Sys2Proof.Machine
end

