-- ==== Sys2Proof/Machine/State.lean ====
section
/-! DEFINITION. The state of the device as plain data: the register file, the hidden state of
every block, the queue of waiting commands, and the state after reset. -/

namespace Sys2Proof.Machine
open Sys2Proof

/-- R7: the identity loaded from OTP at power-on, as the five identity registers show it. -/
structure Identity where
  lot0 : Word
  lot1 : Word
  lot2 : Word
  die : Word
  part : Word
  deriving DecidableEq, Repr

/-- No command raises a fault: R29 records a failed access and the device goes on. The one
constructor is raised by nothing; a model of this device never stops (safe). -/
inductive Fault where
  /-- Raised by no meaning (safe). -/
  | never
  deriving DecidableEq, Repr

/-- Why a command is refused by the model. -/
inductive Refusal where
  /-- A command whose meaning is not written yet: raised by an arm of `exec` alone (safe). -/
  | notModelled (mnemonic : String)
  deriving DecidableEq, Repr

/-! ## Boot record and images (R269 to R272) -/

/-- R270: the boot record in MRAM, with the PLLs that failed (R272). -/
structure BootRec where
  lastFail : Nat := 0
  consec : Nat := 0
  /-- Bit 0 PLL_BYPASS, 1 DDR_CONS, 2 IMAGE_B, 3 RECOVERY. -/
  flags : Nat := 0
  plls : Nat := 0
  deriving DecidableEq, Repr, Inhabited

/-- R338, R341: one of two copies in MRAM: its words, GEN and CRC-32C. -/
structure MramCopy where
  words : Tab Nat := []
  gen : Nat := 0
  crc : Nat := 0
  deriving DecidableEq, Repr, Inhabited

/-- R261, R23: the reach of a reset, lightest first: a block soft reset, warm, cold, power-on. -/
inductive Level where
  | soft | warm | cold | power
  deriving DecidableEq, Repr

/-- What leaves the block: messages, bytes written to host memory, frames on wires, pins. The log
of them (`Dev.out`, newest first) is the model's own field. -/
inductive Out where
  /-- R31: an MSI-X message of a vector (port 0 HA, 1 HB). -/
  | msix (port vector : Nat)
  /-- R38, R39: what the device writes into the descriptor at an index of a ring. -/
  | descriptor (port ring index : Nat) (len : Option Nat) (flags stamp : Nat)
  /-- Bytes written into a host buffer by a ring. -/
  | hostData (port ring : Nat) (data : List Byte)
  /-- R40: a PTM request sent. -/
  | ptmRequest (port : Nat)
  /-- A pin driven to a level: trigger output k (R72). -/
  | trig (k : Nat) (level : Bool)
  /-- R149: a LIN channel sends a frame header, with its own response if it has one. -/
  | linFrame (n id : Nat) (data : Option (List Byte))
  /-- R149: a LIN channel sends a wake-up pulse. -/
  | linWake (n : Nat)
  /-- A frame leaves EP or TS port p, destination address through FCS. -/
  | wire (p : Nat) (data : List Byte)
  /-- R174: the PLCA beacon of T1S segment n. -/
  | beacon (n : Nat)
  /-- A frame is delivered through switch port 27 to the management firmware, with its ingress port
  and its stamp. -/
  | management (ingress stamp : Nat) (data : List Byte)
  /-- R243: the transceiver mode code on XCVM_Ag, XCVM_Bg. -/
  | xcvm (g code : Nat)
  /-- R244: the level of INHk. -/
  | inh (k : Nat) (level : Bool)
  /-- R250: a ring message sent on a CAN channel: IDE, identifier and eight bytes. -/
  | ring (channel : Nat) (ide : Bool) (id : Nat) (data : List Byte)
  /-- R37: a request that a ring of KIND 1 brings to the management mailbox. -/
  | mailbox (port ring : Nat) (data : List Byte)
  /-- R306: a Sapling message sent through port 27 to an address and a UDP port: its IPv4 packet. -/
  | sapling (ip port : Nat) (packet : List Byte)
  /-- R306: an ARP reply to an IPv4 address: SAP_IP, and the device's own Ethernet address. -/
  | arp (ip own mac : Nat)
  deriving DecidableEq, Repr

/-! ## Host bridge (R31 to R40) -/

/-- R39: what waits to be written into the buffers of a device-to-host ring: bytes left, stamp,
whether it is an event PDU, and the Gallery frame it comes from. -/
structure BackItem where
  data : List Byte
  stamp : Nat
  event : Bool
  frame : Option Nat
  /-- R225, R226: the PDU index of a Grove PDU of which nothing has been delivered yet. -/
  pdu : Option Nat := none
  deriving DecidableEq, Repr, Inhabited

/-- One PCIe port beyond its registers. -/
structure HbPort where
  /-- R31: steering entries by source number, as HB_IRQ_VEC shows them. -/
  steer : Tab Word := []
  /-- R31: MSI-X table entries written through BAR2 (address low, high, data) by byte offset. -/
  msixTable : Tab Word := []
  /-- R31: vectors whose mask bit is clear (PCI Express resets the mask bit to 1, assumption 12). -/
  unmasked : List Nat := []
  /-- R31: pending bits. -/
  pending : List Nat := []
  /-- R37: rings whose ENABLE was cleared while a descriptor was in progress. -/
  finishing : List Nat := []
  /-- Per host-to-device ring the bytes of the frame whose EOP is awaited. -/
  part : Tab (List Byte) := []
  /-- R39: per device-to-host ring what its producer has made, oldest first. -/
  back : Tab (List BackItem) := []
  /-- R234: per ring the Base time in ns from which its present buffer may take bytes. -/
  bufAt : Tab Nat := []
  /-- R40: a PTM dialogue is in progress, and the Base time at which its request was sent. -/
  dialogue : Bool := false
  ptmT1 : Nat := 0
  /-- R40: always-on time in ns at which the present PTM period began. -/
  ptmSince : Nat := 0
  deriving DecidableEq, Repr, Inhabited

/-! ## Timeline (R41 to R60) -/

/-- R53, R56: a selection or delay as it stood until a Base time instant in 2⁻⁶ ns, for the stamps of events
that began before it changed. -/
structure Past where
  key : Nat
  until_ : Nat
  old : Nat
  deriving DecidableEq, Repr, Inhabited

/-- R53: a domain as it ran until a Base time in 2⁻⁴⁰ ns: its value there, its advance per ns in 2⁻⁴⁰, and
(R43) its STEP_CNT and the tick of the change. -/
structure DomPast where
  until_ : Nat
  val : Nat
  adv : Int
  steps : Nat
  tick : Nat
  deriving DecidableEq, Repr, Inhabited

/-- R48: a sample or an ARM waiting to be handled or being handled. A sample holds its value in
2⁻¹⁶ ns and who submitted it. -/
inductive Handling where
  | sample (s : Int) (by_ : Init)
  | arm
  deriving DecidableEq, Repr

/-- A domain's hidden state. -/
structure DomainSt where
  /-- R44: the value in 2⁻⁴⁰ ns. -/
  val : Nat := 0
  /-- R44: RATE in 2⁻⁴⁰ ns per tick. -/
  rate : Int := 0
  /-- R50: the servo integrator in 2⁻⁶⁴. -/
  integ : Int := 0
  /-- R51: the latched low half of RATE. -/
  latch : Option Nat := none
  /-- R48: what is being handled, the tick at which its handling began, and the state it began in. -/
  running : Option (Handling × Nat × Nat) := none
  /-- R48: what is held, in order of arrival. -/
  held : List Handling := []
  /-- R53: how the domain ran before its latest steps and changes of rate, newest first. -/
  past : List DomPast := []
  deriving DecidableEq, Repr, Inhabited

/-- R59, R60: one Echo entry. -/
structure EchoEntry where
  gap : Bool
  kind : Bool
  lostRun : Nat
  msgType : Nat
  ptpDom : Nat
  tag : Nat
  stamp : Nat
  deriving DecidableEq, Repr, Inhabited

/-- R60: an Echo queue. -/
structure EchoQueue where
  entries : List EchoEntry := []
  lostRun : Nat := 0
  etypeCount : Nat := 0
  /-- R60: the entry discarded last, the tick at which it came, and ECHO_LOST and the run before it. -/
  late : Option (EchoEntry × Nat × Nat × Nat) := none
  deriving DecidableEq, Repr, Inhabited

/-- R43: the values one SNAP captured: Base time and the domains' values, enables and STEP_CNT. -/
structure Snapshot where
  base : Nat
  doms : List (Nat × Bool × Nat)
  deriving DecidableEq, Repr, Inhabited

/-- The Timeline. -/
structure TlSt where
  /-- R41: Base time in ns since the Timeline's release. -/
  ns : Nat := 0
  /-- R272: fifths of a ns beyond `ns`, other than 0 only in bypass at 156.25 MHz. -/
  fifth : Nat := 0
  /-- TPLL ticks since the Timeline's release. -/
  ticks : Nat := 0
  /-- R41: Base time counts. -/
  running : Bool := false
  dom : Tab DomainSt := []
  /-- R43: a snapshot in progress. -/
  snap : Option Snapshot := none
  /-- R56: DLY_CAL by entry 256 × DIR + 32 × SPEED + PORT, in 2⁻⁶ ns. -/
  dlyCal : Tab Nat := []
  /-- R56: DLY_USER by entry, 16 bits. -/
  dlyUser : Tab Nat := []
  /-- R53, R56: earlier selections by source and earlier DLY_USER by entry, newest first. -/
  selPast : List Past := []
  dlyPast : List Past := []
  echo : Tab EchoQueue := []
  deriving DecidableEq, Repr, Inhabited

/-! ## Canopy (R62 to R78) -/

/-- R62: a wheel entry: words 0–6 as written (COUNT of word 5 counts down), its status fields,
and where its next instant lies. -/
structure WheelEntry where
  w0 : Nat := 0
  w1 : Nat := 0
  w2 : Nat := 0
  w3 : Nat := 0
  w4 : Nat := 0
  w5 : Nat := 0
  w6 : Nat := 0
  late : Bool := false
  noLock : Bool := false
  /-- Releases of the present contents that are committed and not yet made. -/
  committed : Nat := 0
  missed : Nat := 0
  released : Nat := 0
  /-- Next instant of a time entry, in 2⁻¹⁶ ns. -/
  inst : Nat := 0
  /-- R70: the last instant is committed; VALID clears when it is released or missed. -/
  last : Bool := false
  /-- R66: how often the entry has been written or cleared. -/
  version : Nat := 0
  /-- R77: predicted crossing of a phase entry: instant in 2⁻¹⁶ ns and index count. -/
  pred : Option (Nat × Nat) := none
  /-- R62, R77: least index count at which a phase entry fires. -/
  minRev : Nat := 0
  /-- R76: least release instant of a phase entry's first crossing, in 2⁻¹⁶ ns. -/
  floor : Nat := 0
  deriving DecidableEq, Repr, Inhabited

/-- R66, R70: a release of a non-TRIG entry that waits apart from its entry: a late one found past, which the
next tick may issue, or one that was due when its entry was written or cleared. -/
structure LateRelease where
  index : Nat
  version : Nat
  action : Nat
  target : Nat
  param : Nat
  /-- First tick that may issue it, and whether it is late. -/
  from_ : Nat
  late : Bool
  /-- The entry's last instant. -/
  final : Bool
  deriving DecidableEq, Repr, Inhabited

/-- R72: a committed pulse: leading edge on Base time in 2⁻⁶ ns, and the entry that committed it. -/
structure Pulse where
  edge : Nat
  index : Nat
  version : Nat
  late : Bool
  /-- The entry's last instant. -/
  final : Bool
  deriving DecidableEq, Repr, Inhabited

/-- R72: a trigger output. -/
structure TrigSt where
  pulses : List Pulse := []
  /-- Trailing edge of the pulse in progress, in 2⁻⁶ ns. -/
  ends : Option Nat := none
  /-- Leading edge of the pulse fired last, in 2⁻⁶ ns. -/
  lastEdge : Option Nat := none
  level : Bool := false
  deriving DecidableEq, Repr, Inhabited

/-- R73: an edge under qualification, with EN, EDGE and FILTER_NS as they stood at it. -/
structure PendingEdge where
  rise : Bool
  /-- Base time of the edge in 125 ps. -/
  at_ : Nat
  stamp : Nat
  en : Bool
  edge : Nat
  filter : Nat
  deriving DecidableEq, Repr, Inhabited

/-- R73: one capture entry. -/
structure CaptureEntry where
  gap : Bool
  rise : Bool
  lostRun : Nat
  seq : Nat
  stamp : Nat
  deriving DecidableEq, Repr, Inhabited

/-- R73: a capture input. -/
structure CaptureSt where
  level : Bool := false
  pending : Option PendingEdge := none
  /-- Accepted edges since EN. -/
  count : Nat := 0
  entries : List CaptureEntry := []
  lostRun : Nat := 0
  /-- The entry discarded last, the tick at which it came, and TCP_LOST and LOST as they stood before it. -/
  late : Option (CaptureEntry × Nat × Nat × Bool) := none
  deriving DecidableEq, Repr, Inhabited

/-- R74 to R77: a phase domain. Times are Base time in 125 ps. -/
structure PhaseSt where
  /-- Instants of the latest count edges, newest first, at most C + 1. -/
  edges : List Nat := []
  /-- The latest edge the angle is taken from: instant and counts since the index. -/
  anchor : Option Nat := none
  pos : Nat := 0
  /-- Forward counts and whether a reverse count came, since the last index edge. -/
  counts : Nat := 0
  reverse : Bool := false
  lastIndex : Option Nat := none
  /-- Length of the preceding full period, for DRIFT_PPM. -/
  lastFull : Option Nat := none
  deriving DecidableEq, Repr, Inhabited

/-- Canopy. -/
structure CanopySt where
  wheel : Tab WheelEntry := []
  lateq : List LateRelease := []
  /-- R69: tick of the last non-TRIG release. -/
  lastIssue : Option Nat := none
  trig : Tab TrigSt := []
  cap : Tab CaptureSt := []
  phase : Tab PhaseSt := []
  deriving DecidableEq, Repr, Inhabited

/-! ## Platform control (R261 to R278) -/

/-- Platform control beyond its registers. -/
structure PlatSt where
  /-- R264: the last release step taken in this start, 0 to 11. -/
  relStep : Nat := 0
  /-- R265: blocks released again after a warm reset, in its order; 6 = none is held. -/
  warmStep : Nat := 6
  /-- Time in ns on the always-on clock since PORn (PC_AON_MS shows its milliseconds). -/
  aon : Nat := 0
  /-- R261: what holds the device: PORn low, RSTn low, the thermal and the supply reset. -/
  porLow : Bool := true
  rstLow : Bool := false
  thermal : Bool := false
  supply : Bool := false
  /-- R358: supplies removed in M0 or M1 have not yet been in range for 1 ms since the wake. -/
  removed : Bool := false
  /-- R348: TESTEN read 1 at the rising edge of PORn. -/
  testen : Bool := false
  /-- R279: step and mode at the last reset, and whether its RESET record waits for the writer. -/
  rstStep : Nat := 0
  rstMode : Nat := 3
  rstRecord : Bool := true
  /-- R279: the RESET records of earlier resets that still wait: cause word, kind, step and mode. -/
  rstOlder : List (Nat × Nat × Nat × Nat) := []
  /-- R276: the mode that the first reset since the last release left; 3 without one. -/
  modeLeft : Nat := 3
  /-- R356: the supplies (bit order of SUPPLY_OK) that lie in their range, and Tj ≥ 125 °C. -/
  inRange : Nat := 0x1FF
  /-- R357, R358: the ns for which a supply that came into its range has yet to stay there to make 1 ms. -/
  fresh : Tab Nat := []
  hot : Bool := false
  /-- R270, R272: the boot record in MRAM. -/
  boot : BootRec := {}
  /-- R269: the image held in LPDDR5: its header and payload. -/
  image : Option (List Byte) := none
  /-- R268, R269: the image that the boot source has delivered in this start. -/
  delivered : Option (List Byte) := none
  /-- R269: the present start is a warm start. -/
  warm : Bool := false
  /-- R272: the PLLs bypassed in this start: bits 0–4 as PC_PLL_STAT.LOCK, 8–11 as SDS_LOCK. -/
  bypass : Nat := 0
  /-- R273: when the watchdog expires (always-on ns). -/
  wdog : Option Nat := none
  /-- R278: when Activation was entered (always-on ns). -/
  m8At : Nat := 0
  /-- R253: when Grove was released (always-on ns). -/
  gvAt : Option Nat := none
  /-- R334: the TIME_LINK record of this start has been raised. -/
  timeLinked : Bool := false
  /-- R341: the option words in effect. -/
  options : Tab Nat := []
  deriving DecidableEq, Repr, Inhabited

/-! ## Grove (R79 to R127) -/

/-- R103: an event PDU waiting in a host queue. -/
structure EventPdu where
  type : Nat
  source : Nat
  count : Nat
  announce : Nat
  data : Nat
  /-- Stamp of the latest occurrence, 35 bits. -/
  stamp : Nat
  /-- Low 32 bits of the nanoseconds of the first occurrence counted. -/
  first : Nat
  deriving DecidableEq, Repr, Inhabited

/-- R99: what waits in a destination's queue. -/
inductive GvItem where
  | pdu (i : Nat)
  | event (e : EventPdu)
  deriving DecidableEq, Repr

/-- R88: a PDU descriptor: words 0–6 as written, the fields of word 7, its image and its times. -/
structure PduEntry where
  w0 : Nat := 0
  w1 : Nat := 0
  w2 : Nat := 0
  w3 : Nat := 0
  w4 : Nat := 0
  w5 : Nat := 0
  w6 : Nat := 0
  timedOut : Bool := false
  pending : Bool := false
  coalesced : Nat := 0
  /-- R92: how often the descriptor has been written with VALID = 0. -/
  gen : Nat := 0
  /-- The image as one number, bit k of the PDU (R82) at bit k. -/
  image : Nat := 0
  /-- R98: Base time in ns of the last send. -/
  lastSend : Option Nat := none
  /-- R105: receive stamp of the group committed last. -/
  stamp : Nat := 0
  /-- R101: Base time in ns from which the reception timeout counts. -/
  since : Nat := 0
  deriving DecidableEq, Repr, Inhabited

/-- R114: a value register. -/
structure VReg where
  val : Nat := 0
  cls : Nat := 0
  upd : Nat := 0
  signed : Bool := false
  /-- Length − 1. -/
  lenM1 : Nat := 0
  xfm : Nat := 0
  deriving DecidableEq, Repr, Inhabited

/-- R118: a granule of the stage: 32 bytes of an image with the mask of the bits written. -/
structure Granule where
  pdu : Nat
  gen : Nat
  /-- Byte offset, a multiple of 32. -/
  off : Nat
  data : Nat
  mask : Nat
  deriving DecidableEq, Repr, Inhabited

/-- R116: an event staged by GX.EVT: type, queue, data. -/
structure StagedEvent where
  type : Nat
  queue : Nat
  data : Nat
  deriving DecidableEq, Repr, Inhabited

/-- R118: the stage of a thread's instance. -/
structure Stage where
  granules : List Granule := []
  /-- Transmit PDUs with a staged trigger, and their generation. -/
  trigs : List (Nat × Nat) := []
  events : List StagedEvent := []
  deriving DecidableEq, Repr, Inhabited

/-- R112: an instance held by a thread. -/
structure Instance where
  serial : Nat := 0
  /-- R93: its source. -/
  src : Nat := 0
  pdu : Nat := 0
  timeout : Bool := false
  paired : Bool := false
  aborted : Bool := false
  /-- The thread of the partner of a paired instance. -/
  partner : Nat := 0
  first : Nat := 0
  count : Nat := 0
  hook : Nat := 0
  rxlen : Nat := 0
  /-- R83, R84: bytes in which a source field must lie, and R92: the PDU's `gen` at the match. -/
  fits : Nat := 0
  gen : Nat := 0
  /-- The input window as one number, byte 0 lowest. -/
  input : Nat := 0
  /-- 35-bit receive stamp, or Base time of the declaration of a timeout. -/
  stamp : Nat := 0
  /-- R101: TIMED_OUT was cleared by this frame. -/
  resume : Bool := false
  /-- Base time in ns of the GX.PDUGET that began it. -/
  start : Nat := 0
  /-- R120: the instance has already ended as a mismatch. -/
  ended : Bool := false
  /-- R120: the last GX.CMP returned 0 and nothing was staged since. -/
  cmpOk : Bool := false
  /-- R120: the partner's GX.CMP ran into the 20 µs limit; the next GX.CMP returns 2. -/
  owed : Bool := false
  deriving DecidableEq, Repr, Inhabited

/-- R109, ENG_THREADS: what a thread does. Waiting states keep the destination register. -/
inductive ThreadSt where
  | halted
  | ready
  | awaitWork (rd : Nat)
  | awaitWake (rd : Nat)
  /-- In GX.CMP with its word, since a Base time in ns. -/
  | awaitPartner (rd word since : Nat)
  /-- In GX.PDUPUT END. -/
  | committing (rd : Nat)
  | selftest
  /-- Until a Base time in ns. -/
  | restarting (until_ : Nat)
  deriving DecidableEq, Repr, Inhabited

/-- R109, R114: a thread. -/
structure ThreadCtx where
  st : ThreadSt := .halted
  pc : Nat := 0
  /-- x1 to x31. -/
  x : Tab Word := []
  /-- Descriptor registers, word w of D d at 3d + w, and their indices. -/
  dw : Tab Nat := []
  dix : Tab Nat := []
  v : Tab VReg := []
  inst : Option Instance := none
  stage : Stage := {}
  /-- R63: a pending Canopy wake. -/
  wake : Option Nat := none
  /-- R109, R116: Base time in ns until which the thread waits on a latency. -/
  busy : Nat := 0
  deriving DecidableEq, Repr, Inhabited

/-- R93, R140: an instance or a discarded frame in the order its source delivered it. -/
structure SrcItem where
  serial : Nat
  /-- It has ended (committed, aborted or discarded). -/
  ended : Bool
  /-- The receive Flowstone FIFO (channel, FIFO) that holds its input. -/
  fifo : Option (Nat × Nat)
  /-- The Gallery frame that holds its input. -/
  frame : Option Nat
  deriving DecidableEq, Repr, Inhabited

/-- R101: a timeout declared whose instance has not started. -/
structure Declared where
  pdu : Nat
  gen : Nat
  /-- Base time of the declaration in ns. -/
  ns : Nat
  deriving DecidableEq, Repr, Inhabited

/-- R89: a PDU from a host buffer that waits for Grove. -/
structure HostPdu where
  data : List Byte
  ns : Nat
  deriving DecidableEq, Repr, Inhabited

/-- Grove beyond its registers. -/
structure GvSt where
  /-- R80: signal store words by word index 3n + w. -/
  sig : Tab Nat := []
  /-- R85: transform words by 4n + w; transform 0 is the identity. -/
  xfm : Tab Nat := []
  pdu : Tab PduEntry := []
  /-- R99: destination queues: CAN n at n, LIN n at 64 + n, port 26 at 80, HQ q at 81 + q. -/
  queues : Tab (List GvItem) := []
  /-- R101: declared timeouts in order. -/
  declared : List Declared := []
  /-- Waiting host PDUs by port. -/
  hostIn : Tab (List HostPdu) := []
  /-- R100: the next input of the round robin: CAN n at n, LIN n at 64 + n, host p at 80 + p,
  port 26 at 82. -/
  rr : Nat := 0
  /-- R100: the Gallery frame at the port 26 input that waits for its handover. -/
  port26 : Option Nat := none
  /-- R112: the instance that the arbiter has taken and not handed over. -/
  arb : Option Instance := none
  /-- Instances and discarded frames taken so far. -/
  serial : Nat := 0
  /-- R93: per source the instances and frames not yet released, in order. -/
  srcs : Tab (List SrcItem) := []
  thr : Tab ThreadCtx := []
  /-- R109: per engine the thread that issued last. -/
  issued : Tab Nat := []
  /-- Engine local memory: word a of engine e at 65536 e + a. -/
  lm : Tab Word := []
  /-- R122: the engine whose turn comes next, and whether its turn was abandoned. -/
  next : Nat := 0
  again : Bool := false
  /-- Base time in ns at which the present phase of the turn began. -/
  phaseAt : Nat := 0
  /-- R327: per engine, the time in ns that counts at its last test. -/
  tested : Tab Nat := []
  /-- R122: ns that do not count, and since when they do not. -/
  idle : Nat := 0
  idleSince : Option Nat := some 0
  /-- R125: the initial test runs. -/
  initTest : Bool := false
  /-- R314: the management cores started the load. -/
  loadFw : Bool := false
  /-- R126: the loader's first copy failed its check. -/
  loadRetry : Bool := false
  deriving DecidableEq, Repr, Inhabited

/-- What a command owes to another block: carried out before the command ends (`Dev.settle`). -/
inductive Req where
  /-- R121: a Grove thread takes a fault with a cause. -/
  | gvFault (thread cause : Nat)
  /-- R329: a fault source reports to the collector, with its data. -/
  | fault (source data : Nat)
  deriving DecidableEq, Repr

/-! ## CAN and LIN (R128 to R152) -/

/-- R137: an item of a Flowstone FIFO: a handle to an element. -/
structure FsItem where
  /-- First block of the element, or its slot (transmit FIFO, LIN). -/
  block : Nat
  blocks : Nat
  /-- Base time in ns of the frame's stamp instant. -/
  ns : Nat
  /-- Order of storing among the FIFOs of its channel. -/
  seq : Nat
  /-- R326: its element holds an uncorrectable error. -/
  bad : Bool := false
  /-- R143: Base time in ns at which it landed in a transmit FIFO. -/
  landed : Nat := 0
  deriving DecidableEq, Repr, Inhabited

/-- R142, R143, R146: the item that has landed at the head of a transmit FIFO. -/
structure TxHead where
  /-- Base time in ns at which it landed. -/
  landed : Nat
  timed : Bool
  /-- R143: its Canopy release has arrived. -/
  released : Bool
  /-- R146: Base time in ns at which its MAC is ready, while it is not. -/
  macAt : Option Nat
  /-- R142: FLUSH came during its attempt. -/
  flushed : Bool
  deriving DecidableEq, Repr, Inhabited

/-- R149, R150: a LIN frame in progress. -/
structure LinFrame where
  id : Nat
  /-- The response is the device's own, with these bytes. -/
  own : Bool
  data : List Byte
  /-- The header was sent by the device for its transmit item. -/
  item : Bool
  /-- 35-bit stamp, its time base (R53), and Base time in ns of its break. -/
  stamp : Nat
  tb : Nat
  ns : Nat
  deriving DecidableEq, Repr, Inhabited

/-- A CAN channel (0–63) or LIN channel (64–79) beyond its registers. -/
structure ChanSt where
  /-- Message RAM by byte (CAN), or element memory by window offset (LIN). -/
  ram : Tab Byte := []
  rx0 : List FsItem := []
  rx1 : List FsItem := []
  tx : List FsItem := []
  /-- R133: next block of each receive region. -/
  wr0 : Nat := 0
  wr1 : Nat := 0
  seq : Nat := 0
  head : Option TxHead := none
  /-- R131: bus-off recovery is in progress. -/
  recovering : Bool := false
  lin : Option LinFrame := none
  deriving DecidableEq, Repr, Inhabited

/-! ## Ethernet ports and T1S segments (R153 to R178) -/

/-- R232: a tap's reservation for a frame whose tail is awaited. -/
structure TapRes where
  tap : Nat
  bytes : Nat
  deriving DecidableEq, Repr, Inhabited

/-- R210: what a meter charges A to once L is known: a port meter, or a bucket of a flow meter. -/
inductive Charge where
  | port (m : Nat)
  | committed (m : Nat)
  | excess (m : Nat)
  deriving DecidableEq, Repr

/-- Where a received frame stands: held whole by MACsec while it arrives, whole and waiting for its
ICV check (R172), a MAC control frame (R160), waiting for its lookup, stored in the Gallery, not stored
with FATE of R227, or dropped at its head with its tail ignored (R159, R4). -/
inductive RxAt where
  | held
  | icv
  | control
  | lookup
  | stored (id : Nat)
  | gone (fate : Nat)
  | ignored
  deriving DecidableEq, Repr

/-- R294: a traffic key entry. -/
structure TkEntry where
  valid : Bool := false
  /-- LEN: AES-256. -/
  long : Bool := false
  key : List Byte := []
  /-- The 96-bit salt, byte 0 first. -/
  salt : Option (List Byte) := none
  /-- Check value of the key. -/
  check : Nat := 0
  deriving DecidableEq, Repr, Inhabited

/-- A frame in a receive buffer (ports 0–23), or one that waits to enter from ports 24–27. -/
structure RxFrame where
  /-- What has been delivered, destination address through FCS; ports 24–27 carry four zero
  bytes in place of the FCS (R209). -/
  bytes : List Byte := []
  /-- The tail has arrived. -/
  whole : Bool := false
  /-- R227: 0 good, else the CAUSE with which it ended bad. -/
  bad : Nat := 0
  pos : RxAt := .lookup
  /-- 35-bit receive stamp on the port's time base. -/
  stamp : Nat := 0
  /-- R53: the time base of the stamp. -/
  tb : Nat := 0
  /-- Receive stamp on Base time in 2⁻⁶ ns (R58). -/
  base : Int := 0
  coarse : Bool := false
  /-- R171, R296: from the instant at which its validation begins, the secure channel of the frame and the
  key that validates it. -/
  sec : Option (Nat × Option TkEntry) := none
  /-- R227: a copy of it has started. -/
  started : Bool := false
  /-- R159: bytes of the receive buffer reserved. -/
  reserve : Nat := 0
  taps : List TapRes := []
  charges : List Charge := []
  /-- R204: the stream filter that judges its length. -/
  filter : Option Nat := none
  /-- R226: destination set after lookup, and class. -/
  dest : Nat := 0
  cls : Nat := 0
  deriving DecidableEq, Repr

/-- R173: what protects a frame being transmitted: SA entry, packet number, key, salt. -/
structure Protect where
  an : Nat
  pn : Nat
  w0 : Nat
  sci : Nat
  ssci : Nat
  key : List Byte
  salt : List Byte
  deriving DecidableEq, Repr

/-- R58: what is written into a PTP message that leaves: what its correctionField gains, and its new rate
offset. -/
structure PtpEdit where
  add : Int
  rate : Option Int
  deriving DecidableEq, Repr

/-- A frame in transmission on a port. -/
structure TxSt where
  /-- Gallery frame. -/
  id : Nat
  queue : Nat
  /-- R214: picked in the committed tier. -/
  committed : Bool
  /-- R215: A as estimated at its tag (0 = true A) and the weight used. -/
  est : Nat
  weight : Nat
  /-- R58: the transmit stamp on Base time, in 2⁻⁶ ns. -/
  base : Int
  /-- The transmit stamp on the port's time base. -/
  stamp : Nat
  /-- R58, R167: the correction, taken at the start. -/
  fix : Option PtpEdit
  /-- R53: the time base of the stamp. -/
  tb : Nat
  protect : Option Protect
  /-- R232: reservations of the egress taps. -/
  taps : List TapRes
  /-- R175: a collision stopped it; it waits for its back-off. -/
  waiting : Bool
  deriving DecidableEq, Repr

/-- A switch port beyond its registers: EP0–EP15 at 0–15, TS0–TS7 at 16–23, 24–27 as R12. -/
structure PortSt where
  rx : List RxFrame := []
  tx : Option TxSt := none
  /-- R176: live counters, by the offset of EP_CNT ÷ 4. -/
  live : Tab Nat := []
  /-- R164, R165: instants in 0.1 ns at which the pause of the port (8) or of a class ends. -/
  pause : Tab Nat := []
  /-- R166: PAUSE and PFC frames due at the next frame boundary, and whether each is an XOFF. -/
  ctl : List (Bool × List Byte) := []
  /-- R166: the instant in ns at which the frame of an XOFF was last due: per class under PFC, the port's (8)
  under PAUSE. -/
  xoffAt : Tab Nat := []
  /-- R167: the instant in ns at which the frame that ended low-power idle starts. -/
  wake : Option Nat := none
  /-- R167: since when the port has had no frame to send. -/
  idle : Nat := 0
  /-- R169: since when the receive lane has carried data symbols. -/
  data : Option Nat := none
  /-- R174: frames the present opportunity still admits, and when the last one ended. -/
  credit : Nat := 0
  burstAt : Nat := 0
  /-- R175: attempts of the frame in transmission, the end of its back-off, and the instant of the
  last beacon. -/
  attempts : Nat := 0
  backoff : Option Nat := none
  beacon : Nat := 0
  /-- R13: the earliest instant (0.1 ns) at which the pacer admits the next frame, and whether it has
  admitted one that has not entered. -/
  pace : Nat := 0
  admitted : Bool := false
  deriving DecidableEq, Repr, Inhabited

/-- R170: a secure channel entry: words 0–2. -/
structure ScEntry where
  w0 : Nat := 0
  w1 : Nat := 0
  w2 : Nat := 0
  deriving DecidableEq, Repr, Inhabited

/-- R170: an association entry. -/
structure SaEntry where
  w0 : Nat := 0
  ssci : Nat := 0
  pn : Nat := 0
  /-- R173: PN_WARN has been raised for it. -/
  warned : Bool := false
  deriving DecidableEq, Repr, Inhabited

/-! ## Switch, lookup slices and tables (R179 to R207) -/

/-- R197: a LEARNQ notice: the four words of LQ_ITEM. -/
structure LearnNotice where
  w0 : Nat
  w1 : Nat
  w2 : Nat
  w3 : Nat
  deriving DecidableEq, Repr, Inhabited

/-- R192: a table entry. REMOTE follows from SRC_PORT and the slice (R200). -/
structure LkEntry where
  mac : Nat := 0
  valid : Bool := false
  static : Bool := false
  hit : Bool := false
  aged : Bool := false
  vid : Nat := 0
  prioEn : Bool := false
  prio : Nat := 0
  dest : Nat := 0
  srcStream : Nat := 0
  dstStream : Nat := 0
  hwl : Bool := false
  drop : Bool := false
  srcPort : Nat := 0
  /-- R199: the instant in ns of the sweeper's last visit. -/
  visited : Option Nat := none
  /-- R199: the instant in ns of the last source hit. -/
  hitAt : Option Nat := none
  deriving DecidableEq, Repr, Inhabited

/-- R204: a stream filter: words 0 and 1 and its counters. -/
structure SfEntry where
  w0 : Nat := 0
  w1 : Nat := 0
  matched : Nat := 0
  passed : Nat := 0
  sduDrop : Nat := 0
  gateDrop : Nat := 0
  deriving DecidableEq, Repr, Inhabited

/-- A lookup slice. -/
structure LkSt where
  tab : Tab LkEntry := []
  filters : Tab SfEntry := []
  deriving DecidableEq, Repr, Inhabited

/-- R180, R182: a VLAN table entry. -/
structure VlanEntry where
  w0 : Nat := 0
  w1 : Nat := 0
  deriving DecidableEq, Repr, Inhabited

/-- R205: a copy of the Limp image in MRAM: records 0–319 by 5 × record + word, and its CRC-32C. -/
structure LimpCopy where
  words : Tab Nat := []
  crc : Nat := 0
  deriving DecidableEq, Repr, Inhabited

/-- R57, R58: the correction a frame takes on egress: none, one-step of a domain from its slave
port, or transparent clock of a domain. -/
inductive PtpFix where
  | none
  | oneStep (dm : Nat)
  | transparent (dm : Nat)
  deriving DecidableEq, Repr

/-- A frame in the Gallery (R186). -/
structure GFrame where
  /-- Ingress port. -/
  port : Nat := 0
  cls : Nat := 0
  bytes : List Byte := []
  whole : Bool := false
  bad : Bool := false
  /-- R182: the VID of the frame; none for frames forwarded as received. -/
  vid : Option Nat := none
  pcp : Nat := 0
  stamp : Nat := 0
  base : Int := 0
  /-- R186: cells held, and whether they are charged to the ingress port's headroom. -/
  cells : Nat := 0
  head : Bool := false
  /-- Copies queued or in transmission, and copies held by Grove. -/
  copies : Nat := 0
  /-- R184: a copy has started. -/
  started : Bool := false
  /-- R212: tagged copies leave with DEI = 1. -/
  dei : Bool := false
  /-- R190: egress ports whose copy leaves with CE. -/
  ce : List Nat := []
  ptp : PtpFix := .none
  /-- Base time in ns at which its first cell was committed (R220). -/
  ns : Nat := 0
  deriving DecidableEq, Repr

/-- The switch core. -/
structure SwSt where
  vlan : Tab VlanEntry := []
  /-- Gallery frames by identifier, rising. -/
  frames : List (Nat × GFrame) := []
  /-- Identifier of the next frame. -/
  next : Nat := 0
  /-- R186: guard cells that frames hold. -/
  guard : Nat := 0
  /-- R205: the staging copy, the two copies in MRAM, and which is active. -/
  stage : Tab Nat := []
  copy0 : Option LimpCopy := none
  copy1 : Option LimpCopy := none
  active : Bool := false
  /-- R205: commits made, kept in MRAM. -/
  limpGen : Nat := 0
  /-- R194: a command that names both slices holds both windows: the slice it was given in. -/
  lkHeld : Option Nat := none
  /-- R205: every PVID is taken as 1: Limp without a valid image. -/
  pvid1 : Bool := false
  /-- R203: ports whose link-down flush waits. -/
  flush : List Nat := []
  deriving DecidableEq, Repr, Inhabited

/-! ## Traffic manager (R208 to R223) -/

/-- A token bucket: its level in 2⁻¹⁶ ÷ 15,625 byte, and when it was computed. -/
structure Bucket where
  level : Int := 0
  since : Nat := 0
  deriving DecidableEq, Repr, Inhabited

/-- R212, R213: a flow meter. -/
structure FlowMeter where
  w0 : Nat := 0
  cir : Nat := 0
  cbs : Nat := 0
  eir : Nat := 0
  ebs : Nat := 0
  green : Nat := 0
  yellow : Nat := 0
  red : Nat := 0
  tc : Bucket := {}
  te : Bucket := {}
  deriving DecidableEq, Repr, Inhabited

/-- R215: a copy waiting in an egress queue. `est` and `weight` are set when it becomes head: A as
estimated (0 = true A) and the weight its tag used. -/
structure QCopy where
  id : Nat
  est : Nat
  weight : Nat
  deriving DecidableEq, Repr, Inhabited

/-- An egress queue: its copies, oldest first; F_prev, which is the head's tag while it has one; its
shaper buckets. -/
structure QueueSt where
  copies : List QCopy := []
  fprev : Nat := 0
  committed : Bucket := {}
  peak : Bucket := {}
  deriving DecidableEq, Repr, Inhabited

/-- R217: a gate entry. -/
structure GateEntry where
  gates : Nat := 0xFF
  ns : Nat := 0
  deriving DecidableEq, Repr, Inhabited

/-- R217, R218: a port's gate list beyond its registers: base time in ns, cycle and length of the
operational list, and the pending ones. -/
structure GateSt where
  base : Nat := 0
  cycle : Nat := 0
  len : Nat := 0
  take : Option Nat := none
  newCycle : Nat := 0
  newLen : Nat := 0
  deriving DecidableEq, Repr, Inhabited

/-- The traffic manager. -/
structure TmSt where
  /-- R211: port meter buckets. -/
  pm : Tab Bucket := []
  fm : Tab FlowMeter := []
  q : Tab QueueSt := []
  /-- R215: V_p. -/
  v : Tab Nat := []
  /-- R217: entry i of bank b of port p at 512p + 256b + i. -/
  gates : Tab GateEntry := []
  gcl : Tab GateSt := []
  /-- R220: bin w of queue q at 16q + w, and the last sampling boundary in ns. -/
  hist : Tab Nat := []
  sampled : Nat := 0
  deriving DecidableEq, Repr, Inhabited

/-! ## Capture (R224 to R239) -/

/-- R226: a record: a header's fields and the captured data. -/
structure CapRec where
  tap : Nat := 0
  /-- SOURCE: source code, DIR, time-base code. -/
  source : Nat := 0
  stamp : Nat := 0
  /-- Length of the frame or PDU as seen. -/
  orig : Nat := 0
  /-- FLAGS without SNAP, GAP and TRIGGER. -/
  flags : Nat := 0
  aux : Nat := 0
  aux2 : Nat := 0
  data : List Byte := []
  /-- R232: bytes of the capture buffer that it holds. -/
  held : Nat := 0
  deriving DecidableEq, Repr, Inhabited

/-- A record stored in a ring: its stamp and its bytes. -/
structure StoredRec where
  stamp : Nat
  /-- R235: the Base time in ns at which it became visible. -/
  seen : Nat
  bytes : List Byte
  deriving DecidableEq, Repr, Inhabited

/-- A log ring beyond its registers. -/
structure LogRing where
  seq : Nat := 0
  /-- R233: records lost since the last one stored. -/
  lostRun : Nat := 0
  /-- R231: bytes stored since the trigger. -/
  post : Nat := 0
  /-- Stored records, the one RPTR lies in or at first. -/
  recs : List StoredRec := []
  /-- Bytes of the first record already delivered by a 1722 stream. -/
  cut : Nat := 0
  deriving DecidableEq, Repr, Inhabited

/-- Capture beyond its registers. -/
structure CpSt where
  /-- Completed records that wait to be written into their rings, oldest first. -/
  pend : List CapRec := []
  ring : Tab LogRing := []
  /-- R235: sequence_num and earliest next PDU (Base ns) of the 1722 streams. -/
  avSeq : Tab Nat := []
  avNext : Tab Nat := []
  deriving DecidableEq, Repr, Inhabited

/-! ## Network sleep and wake (R241 to R258) -/

/-- R247 to R249: a wake of a group under way: KIND and SOURCE of PC_WAKE_CAUSE, when it began on the
always-on clock in ns, whether a wake check applies, and whether the XCVM pins listen for it. -/
structure GroupWake where
  kind : Nat
  source : Nat
  since : Nat
  check : Bool
  listen : Bool
  deriving DecidableEq, Repr, Inhabited

/-- R255: a wake latched after the commit: KIND, SOURCE and the groups it names. -/
structure LatchedWake where
  kind : Nat
  source : Nat
  groups : Nat
  check : Bool
  deriving DecidableEq, Repr, Inhabited

/-- The sleep groups beyond PC page 3. -/
structure SleepSt where
  /-- Wakes under way, by group. -/
  wake : Tab (Option GroupWake) := []
  /-- R243: PC page 3 has been written, so XCVM follows R243. -/
  live : Bool := false
  /-- R349: the PC_INH_CFG registers written since the last power-on or cold reset; until then INH is high. -/
  inhLive : Nat := 0
  /-- R249: recorded wakes whose event PDU waits for Grove: KIND and SOURCE. -/
  events : List (Nat × Nat) := []
  /-- R254, R276: the sleep mode entered once every group is asleep, and the initiator code of the
  mode request that named it. -/
  target : Option Nat := none
  byRequest : Option Nat := none
  latched : List LatchedWake := []
  /-- R247: the groups that the present entry put to sleep. -/
  committed : Nat := 0
  deriving DecidableEq, Repr, Inhabited

/-- R250: a ring message: KIND (3 limp home), next node, SLEEP_IND, SLEEP_ACK, REASON, LAP. -/
structure RingMsg where
  kind : Nat
  next : Nat
  ind : Bool
  ack : Bool
  reason : Nat
  lap : Nat
  deriving DecidableEq, Repr, Inhabited

/-- R256: what the assist remembers of another node: laps with SLEEP_IND = 0 in succession, when the
open keeper episode began (always-on ns), its last REASON. -/
structure NodeSt where
  laps : Nat := 0
  /-- The LAP of the last message counted in `laps`. -/
  lastLap : Option Nat := none
  keeper : Option Nat := none
  reason : Nat := 0
  deriving DecidableEq, Repr, Inhabited

/-- The Clearing assist beyond PC page 4. Times are always-on ns. -/
structure ClrSt where
  /-- R251: the assist takes part in the ring. -/
  joined : Bool := false
  /-- R252: when the token came to the device. -/
  turn : Option Nat := none
  /-- R252: the node addressed and when. -/
  sent : Option (Nat × Nat) := none
  /-- The last ring message. -/
  heard : Nat := 0
  /-- Members whose RING message carried the present LAP, and whether each had SLEEP_IND = 1. -/
  lapSeen : Nat := 0
  lapInd : Bool := true
  /-- R254: members that have sent SLEEP_ACK since the agreement. -/
  acked : Nat := 0
  /-- R254: when SETTLE began. -/
  settle : Nat := 0
  /-- R253: when each Grove hold was last set. -/
  holds : Tab Nat := []
  /-- R253: the last frame that counts as activity. -/
  act : Option Nat := none
  nodes : Tab NodeSt := []
  /-- R251: the messages in the reserved transmit buffer, oldest first, each with the CAN clock edge at
  which it was handed over (Base time, 2⁻⁶ ns). -/
  buf : List (RingMsg × Nat) := []
  deriving DecidableEq, Repr, Inhabited

/-! ## Security complex (R281 to R301) -/

/-- R283, R289: a hash field of OTP: its cells, three planes of the hash and its CRC-32C, the value that commands
write into it, whether the CRC passes, and whether a command has completed in it. Without cells set it is empty;
with cells and no completed command its programming was interrupted. -/
structure OtpHash where
  cells : List Byte := []
  want : List Byte := []
  good : Bool := false
  done : Bool := false
  deriving DecidableEq, Repr, Inhabited

/-- R283, R291: what the advance from Blank generates: the two root keys and the identity key's private part, the
primes of its modulus. -/
structure IdKeys where
  idRoot : List Byte
  vaultRoot : List Byte
  p : Nat
  q : Nat
  deriving DecidableEq, Repr, Inhabited

/-- The OTP. -/
structure OtpSt where
  /-- R282: the lifecycle stage programmed. Devices leave in Manufacturing (R6). -/
  stage : Nat := 1
  slots : Tab OtpHash := []
  revoked : Nat := 0
  rb : Tab Nat := []
  dbg : OtpHash := {}
  kill : Bool := false
  deriving DecidableEq, Repr, Inhabited

/-- R283: an OTP command in progress with its operands. -/
structure OtpRun where
  op : Nat
  arg : Nat
  value : Nat
  hash : List Byte
  deriving DecidableEq, Repr, Inhabited

/-- The security complex beyond its registers. -/
structure ScSt where
  /-- R282: the lifecycle state in force: 0 Blank, 1 Manufacturing, 2 Field, 3 Field-Locked,
  4 Returned. -/
  lc : Nat := 1
  /-- R297: the debug level: 0 None, 1 Observe, 2 Full. -/
  level : Nat := 0
  /-- R294: the traffic key table. -/
  tk : Tab TkEntry := []
  otp : OtpSt := {}
  /-- R283, R291: generated before delivery (R6), so the values after reset are free. -/
  ids : IdKeys := {
    idRoot := (List.range 32).map Config.idRoot, vaultRoot := (List.range 32).map Config.vaultRoot
    p := (rsaKey (Config.idPrime false) (Config.idPrime true)).1
    q := (rsaKey (Config.idPrime false) (Config.idPrime true)).2 }
  run : Option OtpRun := none
  /-- R293: the vault's keys by slot (16 or 32 bytes; none where empty), and the working key. -/
  vault : Tab (List Byte) := []
  wkr : List Byte := []
  /-- KEY_IN0 to KEY_IN7, TK_STG_KEY and TK_STG_SALT, write-only. -/
  keyIn : List Byte := []
  stgKey : List Byte := []
  stgSalt : List Byte := []
  /-- R299: keys are withheld. -/
  withheld : Bool := false
  /-- R297: a challenge stands. -/
  challenge : Bool := false
  /-- R292: bytes 0 to 383 of the quote being signed. -/
  quote : List Byte := []
  deriving DecidableEq, Repr, Inhabited

/-! ## Sapling relay (R303 to R317) -/

/-- R309: a downstream peer: per outstanding block its sends and when it was last sent (always-on
ns), and when the last QUERY went out. -/
structure SapPeer where
  /-- Outstanding blocks: number, sends, time. -/
  sent : List (Nat × Nat × Nat) := []
  /-- Blocks above ACK_SEQ the peer has shown in SACK. -/
  sack : List Nat := []
  query : Nat := 0
  deriving DecidableEq, Repr, Inhabited

/-- The Sapling relay and its slots. -/
structure SapSt where
  /-- R303: blocks stored in the slots, block n of slot s at 8192 s + n. -/
  flash : Tab (List Byte) := []
  /-- R308: the slots that the relay has erased since: bits 0 and 1. What another slot holds is not known. -/
  erased : Nat := 0
  peers : Tab SapPeer := []
  /-- R308: the block 0 that waits for the erase, and the sender's address. -/
  first : List Byte := []
  upstream : Nat := 0
  /-- R309: the slot that holds the session's blocks. -/
  slot : Nat := 0
  /-- R315: why the relay reverts: 0 it does not, 1 loader, 2 delta, 3 limit. -/
  reverting : Nat := 0
  /-- R314, R126: the loader has copied the code of this activation, or of its revert. -/
  loaded : Bool := false
  /-- R315: descriptors as they stood before the DELTA: the Grove state. -/
  saved : Option GvSt := none
  /-- R315: what the DELTA has changed: signal descriptors (0), PDU descriptors (1) and transforms (2) by index. -/
  touched : List (Nat × Nat) := []
  /-- R316: an activated slot that waits for its first start's boot step 15. -/
  unconfirmed : Option Nat := none
  deriving DecidableEq, Repr, Inhabited

/-! ## Safety, Chamber and MRAM pages (R321 to R342) -/

/-- R331: an armed fault injection. -/
structure Injection where
  kind : Nat
  mem : Nat
  inst : Nat
  addr : Nat
  deriving DecidableEq, Repr, Inhabited

/-- R335: a record raised for the Chamber: cause, source block, 40 data bytes, its stamp and mode,
and when it was raised (always-on ns). -/
structure ChRec where
  cause : Nat
  source : Nat
  data : List Byte
  sec : Nat
  ns : Nat
  mode : Nat
  raised : Nat
  deriving DecidableEq, Repr, Inhabited

/-- R332 to R336: the Chamber and its writer. -/
structure ChamberSt where
  /-- MRAM slots of 64 bytes; none listed is all zero. -/
  slots : Tab (List Byte) := []
  queue : List ChRec := []
  /-- The last stored record. -/
  last : Option ChRec := none
  /-- Suppressed records not yet shown: a record and how many like it. -/
  supp : List (ChRec × Nat) := []
  gap : Bool := false
  torn : Bool := false
  /-- R333: the slot of the record in front has failed its read-back once. -/
  again : Bool := false
  /-- R335: the always-on time before which no further record is written. -/
  nextAt : Nat := 0
  deriving DecidableEq, Repr, Inhabited

/-- R338 to R341: the calibration page and the option words: two copies and the staging copy of each,
and which copy is in use (none where neither is valid). -/
structure CopyRun where
  copy : MramCopy
  /-- The copy that is written first: the one not in use. -/
  first : Nat
  /-- The first one has been written. -/
  half : Bool := false
  /-- The always-on times at which the first and the second one have been written. -/
  mid : Nat
  fin : Nat
  /-- CRC-32C of the page that was in use. -/
  was : Nat
  deriving DecidableEq, Repr, Inhabited

/-- The calibration page and the options. -/
structure MramSt where
  cal0 : MramCopy := { words := [(0, 0x4C410000), (511, 0x49B31C60)], crc := 0x49B31C60 }
  cal1 : MramCopy := { words := [(0, 0x4C410000), (511, 0x49B31C60)], crc := 0x49B31C60 }
  calStage : Tab Nat := []
  opt0 : MramCopy := { crc := 0x90444623 }
  opt1 : MramCopy := { crc := 0x90444623 }
  optStage : Tab Nat := []
  calRun : Option CopyRun := none
  optRun : Option CopyRun := none
  deriving DecidableEq, Repr, Inhabited

/-- R324, R331: an error that stands in a word (memory, instance, address): its failing bits, and whether it
was injected. -/
structure WordErr where
  word : Nat × Nat × Nat
  bits : Nat
  inj : Bool
  deriving DecidableEq, Repr, Inhabited

/-- R324: words a scrubber corrected at its last visit: memory, instance, address. -/
structure ScrubSt where
  fixed : List (Nat × Nat × Nat) := []
  /-- Errors that stand. -/
  errs : List WordErr := []
  /-- R322: by bank, how many of its words the scrubber has visited in the present pass. -/
  pos : Tab Nat := []
  /-- When the pass in progress began. -/
  passAt : Nat := 0
  /-- Corrected and uncorrectable words by memory. -/
  sbe : Tab Nat := []
  dbe : Tab Nat := []
  deriving DecidableEq, Repr, Inhabited

/-- The device: everything but its identity and the queue of commands. -/
structure Dev where
  /-- Every register of R19's pages that holds a value of its own, by byte address; an address
  not listed holds its reset value. -/
  regs : Tab Word := []
  /-- The model's own log of what left the device, newest first. -/
  out : List Out := []
  /-- The model's own counter of free values used (`Config.freeNat`, `Config.freeByte`). -/
  freeIx : Nat := 0
  hb : Tab HbPort := []
  tl : TlSt := {}
  canopy : CanopySt := {}
  plat : PlatSt := {}
  gv : GvSt := {}
  /-- What the command in progress owes to other blocks, in order; empty between commands. -/
  todo : List Req := []
  chan : Tab ChanSt := []
  ports : Tab PortSt := []
  /-- R170: secure channels at 17 × port + SC, association entries at 68 × port + entry. -/
  msc : Tab ScEntry := []
  msa : Tab SaEntry := []
  /-- R197: notices held by the LEARNQ of each slice, oldest first. -/
  learnq : Tab (List LearnNotice) := []
  lk : Tab LkSt := []
  sw : SwSt := {}
  tm : TmSt := {}
  cp : CpSt := {}
  slp : SleepSt := {}
  clr : ClrSt := {}
  sc : ScSt := {}
  sap : SapSt := {}
  /-- R331: the fault armed and not yet applied. -/
  inject : Option Injection := none
  ch : ChamberSt := {}
  mram : MramSt := {}
  scrub : ScrubSt := {}
  deriving DecidableEq, Repr, Inhabited

/-- The whole state: the device, its identity, and the commands that wait, first in first out. -/
structure State where
  dev : Dev
  id : Identity
  pending : List Instr
  deriving DecidableEq, Repr

/-- R7's example of an identity: lot AK39071425, wafer 11, column 44, row 23 (assumption 1). -/
def Identity.example : Identity :=
  { lot0 := 0x39334B41, lot1 := 0x34313730, lot2 := 0x00003532, die := 0x00172C0B,
    part := 0x02106416 }

/-- The device right after power-on reset: every register at its reset value, nothing released
(R263, R264), the MRAM and OTP as R6 leaves them. -/
def State.reset : State := { dev := {}, id := Identity.example, pending := [] }

end Sys2Proof.Machine
end

