-- ==== Sys2Proof/Machine/Ops.lean ====
section
/-! DEFINITION. The named operations on the register file: pages and addresses (R19 to R21),
reading and writing fields, resets of registers (R23), interrupts and MSI-X (R28, R31), and the
recording of errors (R29, R30). -/

namespace Sys2Proof.Machine
open Sys2Proof

/-! ## Pages and addresses -/

/-- R19: the base address of a page. -/
def pageBase : Page → Nat
  | .mc k => k * 0x1000
  | .pc k => 0x100000 + k * 0x1000
  | .sd k => 0x200000 + k * 0x1000
  | .sc k => 0x300000 + k * 0x1000
  | .tl k => 0x400000 + k * 0x1000
  | .gv k => 0x800000 + k * 0x1000
  | .can n => 0x1000000 + n * 0x1000
  | .lin n => 0x1040000 + n * 0x1000
  | .ep n k => 0x1800000 + n * 0x4000 + k * 0x1000
  | .ts n => 0x1900000 + n * 0x1000
  | .sw k => 0x2000000 + k * 0x1000
  | .lk s k => 0x2200000 + s * 0x100000 + k * 0x1000
  | .tm k => 0x2400000 + k * 0x1000
  | .cp k => 0x2800000 + k * 0x1000
  | .hb k => 0x2C00000 + k * 0x1000

/-- Whether the owning chapter names the page as implemented (R19, R20). -/
def pageExists : Page → Bool
  | .mc k => k < 2
  | .pc k => k < 6
  | .sd k => k < 4
  | .sc k => k < 5
  | .tl k => k < 15
  | .gv k => k < 19
  | .can n => n < 64
  | .lin n => n < 16
  | .ep n k => n < 16 && k < 4
  | .ts n => n < 8
  | .sw k => k < 5
  | .lk s k => s < 2 && k < 4
  | .tm k => k < 6
  | .cp k => k < 4
  | .hb k => k < 3

/-- R19: the page whose 4 KiB hold an address, none where no page is implemented (R20). -/
def pageOf (addr : Nat) : Option Page :=
  let q := addr / 0x1000
  let pg : Page :=
    if q < 0x100 then .mc q
    else if q < 0x200 then .pc (q - 0x100)
    else if q < 0x300 then .sd (q - 0x200)
    else if q < 0x400 then .sc (q - 0x300)
    else if q < 0x800 then .tl (q - 0x400)
    else if q < 0x1000 then .gv (q - 0x800)
    else if q < 0x1040 then .can (q - 0x1000)
    else if q < 0x1800 then .lin (q - 0x1040)
    else if q < 0x1900 then .ep ((q - 0x1800) / 4) (q % 4)
    else if q < 0x2000 then .ts (q - 0x1900)
    else if q < 0x2200 then .sw (q - 0x2000)
    else if q < 0x2300 then .lk 0 (q - 0x2200)
    else if q < 0x2400 then .lk 1 (q - 0x2300)
    else if q < 0x2800 then .tm (q - 0x2400)
    else if q < 0x2C00 then .cp (q - 0x2800)
    else .hb (q - 0x2C00)
  if pageExists pg then some pg else none

/-- R19: whether an address lies in the signal store window. -/
def inSignalWindow (addr : Nat) : Bool := decide (0x3000000 ≤ addr) && decide (addr < 0x3C00000)

/-- R19: the interrupt source number of a page. -/
def pageSource : Page → Nat
  | .mc k => k
  | .pc k => 8 + k
  | .sd k => 16 + k
  | .sc k => 24 + k
  | .tl k => 32 + k
  | .gv k => 64 + k
  | .can n => 96 + n
  | .lin n => 160 + n
  | .ep n k => 176 + 4 * n + k
  | .ts n => 240 + n
  | .sw k => 248 + k
  | .lk s k => 264 + 8 * s + k
  | .tm k => 280 + k
  | .cp k => 296 + k
  | .hb k => 312 + k

/-- R28: the ID register of a page: BLOCK, INSTANCE, PAGE, REV. -/
def pageId : Page → Nat
  | .mc k => 0x01000010 + k * 0x100
  | .pc k => 0x02000010 + k * 0x100
  | .sd k => 0x03000010 + k * 0x100
  | .sc k => 0x04000010 + k * 0x100
  | .tl k => 0x05000010 + k * 0x100
  | .gv k => 0x06000010 + k * 0x100
  | .can n => 0x07000010 + n * 0x10000
  | .lin n => 0x07000010 + (64 + n) * 0x10000
  | .ts n => 0x08000010 + n * 0x10000
  | .ep n k => 0x09000010 + n * 0x10000 + k * 0x100
  | .sw k => 0x0A000010 + k * 0x100
  | .lk s k => 0x0B000010 + s * 0x10000 + k * 0x100
  | .tm k => 0x0C000010 + k * 0x100
  | .cp k => 0x0D000010 + k * 0x100
  | .hb k => 0x0E000010 + k * 0x100

/-- The registers of a page from offset 0x040 on. -/
def pageRegs : Page → List RegDef
  | .mc k => if k = 0 then mapMC0 else mapMC1
  | .pc k => if k = 0 then mapPC0 else if k = 1 then mapPC1 else if k = 2 then mapPC2
      else if k = 3 then mapPC3 else if k = 4 then mapPC4 else mapPC5
  | .sd k => if k = 0 then mapSD0 else if k = 1 then mapSD1 else if k = 2 then mapSD2 else mapSD3
  | .sc k => if k = 0 then mapSC0 else if k = 1 then mapSC1 else if k = 2 then mapSC2
      else if k = 3 then mapSC3 else mapSC4
  | .tl k => if k = 0 then mapTL0 else if k < 5 then mapTLD else if k = 5 then mapTL5
      else if k = 6 then mapTL6 else if k = 7 then mapTL7 else if k = 8 then mapTL8
      else if k = 9 then mapTL9 else if k = 10 then mapTL10 else mapTLP
  | .gv k => if k = 0 then mapGV0 else if k = 1 then mapGV1 else if k = 2 then mapGV2 else mapGVE
  | .can _ => mapCAN
  | .lin _ => mapLIN
  | .ep _ k => if k = 0 then mapEP0 else if k = 1 then mapEP1 else if k = 2 then mapEP2 else mapEP3
  | .ts _ => mapTS
  | .sw k => if k = 0 then mapSW0 else if k = 1 then mapSW1 else if k = 2 then mapSW2
      else if k = 3 then mapSW3 else mapSW4
  | .lk _ k => if k = 0 then mapLK0 else if k = 1 then mapLK1 else if k = 2 then mapLK2 else mapLK3
  | .tm k => if k = 0 then mapTM0 else if k = 1 then mapTM1 else if k = 2 then mapTM2
      else if k = 3 then mapTM3 else if k = 4 then mapTM4 else mapTM5
  | .cp k => if k = 0 then mapCP0 else if k = 1 then mapCP1 else if k = 2 then mapCP2 else mapCP3
  | .hb k => if k = 0 then mapHB0 else mapHBP

/-- Whether a register definition covers a page offset. -/
def regCovers (off : Nat) (r : RegDef) : Bool :=
  decide (r.off ≤ off) && decide (off < r.off + r.count * r.stride) &&
    decide ((off - r.off) % r.stride = 0)

/-- The register at an address, none at a reserved offset (R20). -/
def regAt (addr : Nat) : Option RegDef :=
  match pageOf addr with
  | none => none
  | some pg =>
    if addr % 0x1000 < 0x40 then mapHeader.find? (regCovers (addr % 0x1000))
    else (pageRegs pg).find? (regCovers (addr % 0x1000))

/-- The word that a list of fields loads at reset. -/
def fieldsReset (fs : List FieldDef) : Nat := fs.foldl (fun a f => a + f.rst * 2 ^ f.lo) 0

/-- R329: the default IRQ, RECORD and ACTION fields of SD_FAULT_CFG, by fault source. -/
def faultCfgReset (i : Nat) : Nat :=
  (([3, 0xC0000000, 0xC0000000, 0xC0000000, 0xC0000000, 0xC0000000, 0x40000004, 0x40000004,
    0xC0000000, 0xC0000000, 0xC0000000, 0x40000000, 0x80000000] : List Nat)[i]?).getD 0

/-- What the register at an address holds after reset. -/
def resetWord (addr : Nat) : Word :=
  if 0x201040 ≤ addr ∧ addr < 0x2010C0 then BitVec.ofNat 32 (faultCfgReset ((addr - 0x201040) / 4))
  else match regAt addr with
    | none => 0
    | some r => BitVec.ofNat 32 (fieldsReset r.fields)

/-! ## The register file -/

/-- The stored word of a register. -/
def Dev.word (d : Dev) (addr : Nat) : Word := tabGet resetWord d.regs addr

/-- The register file with one word written. -/
def Dev.setWord (d : Dev) (addr : Nat) (v : Word) : Dev :=
  { d with regs := tabSet resetWord d.regs addr v }

/-- A field of a stored register. -/
def Dev.get (d : Dev) (f : Fld) : Nat := wordBits (d.word f.addr) f.lo f.width

/-- A one-bit field. -/
def Dev.flag (d : Dev) (f : Fld) : Bool := d.get f == 1

/-- A field of a stored register written by the device. -/
def Dev.put (d : Dev) (f : Fld) (v : Nat) : Dev :=
  d.setWord f.addr (wordPut (d.word f.addr) f.lo f.width v)

/-- A one-bit field written by the device. -/
def Dev.putFlag (d : Dev) (f : Fld) (b : Bool) : Dev := d.put f (boolNat b)

/-- A saturating counter advanced by n. -/
def Dev.bumpBy (d : Dev) (f : Fld) (n : Nat) : Dev := d.put f (satAdd f.width (d.get f) n)

/-- A saturating counter advanced by one. -/
def Dev.bump (d : Dev) (f : Fld) : Dev := d.bumpBy f 1

/-- A wrapping counter advanced by one. -/
def Dev.bumpWrap (d : Dev) (f : Fld) : Dev := d.put f (d.get f + 1)

/-- R22: what a write of `new` leaves in a field that holds `old`. -/
def fieldNext (acc : Acc) (w old new : Nat) : Nat :=
  match acc with
  | .rw => new
  | .rwl => new
  | .ro => old
  | .w1c => Nat.land old (Nat.xor (2 ^ w - 1) new)
  | .w1s => Nat.lor old new
  | .wo => 0

/-- R22: the word a write of `v` leaves in a register, field by field. -/
def fieldsNext (fs : List FieldDef) (old v : Word) : Word :=
  fs.foldl (fun a f => wordPut a f.lo f.width
    (fieldNext f.acc f.width (wordBits old f.lo f.width) (wordBits v f.lo f.width))) old

/-- R22: a write of `v` to the register at an address with no further effect; ignored at a
reserved offset (R20). -/
def Dev.store (d : Dev) (addr : Nat) (v : Word) : Dev :=
  match regAt addr with
  | none => d
  | some r => d.setWord addr (fieldsNext r.fields (d.word addr) v)

/-- R22, R367: whether a write would change an RWL field of the register. -/
def Dev.changesRwl (d : Dev) (addr : Nat) (v : Word) : Bool :=
  match regAt addr with
  | none => false
  | some r => r.fields.any (fun f => f.acc == .rwl &&
      wordBits (d.word addr) f.lo f.width != wordBits v f.lo f.width)

/-- The value a write gives a field. -/
def newField (v : Word) (f : Fld) : Nat := wordBits v f.lo f.width

/-- R367: whether a write of `v` would change a field. -/
def Dev.changes (d : Dev) (v : Word) (f : Fld) : Bool := d.get f != newField v f

/-- A stored word with some fields given new values: what a row that writes one field writes. -/
def Dev.wordWith (d : Dev) (f : Fld) (x : Nat) : Word := wordPut (d.word f.addr) f.lo f.width x

/-! ## Resets of registers (R23) -/

/-- R23: the heaviest reset domain that a reset of this kind loads. -/
def levelDom : Level → Dom
  | .soft => .b
  | .warm => .w
  | .cold => .c
  | .power => .p

/-- The word a reset of this kind leaves in a register. -/
def resetFields (lvl : Level) (addr : Nat) (fs : List FieldDef) (old : Word) : Word :=
  fs.foldl (fun a f =>
    if domRank f.dom ≤ domRank (levelDom lvl) then
      wordPut a f.lo f.width (wordBits (resetWord addr) f.lo f.width)
    else a) old

/-- R23: every register of the pages that `sel` selects takes a reset of this kind. -/
def Dev.resetRegs (d : Dev) (lvl : Level) (sel : Page → Bool) : Dev :=
  d.regs.foldl (fun a e =>
    match pageOf e.1 with
    | none => a
    | some pg =>
      if sel pg then
        match regAt e.1 with
        | none => a
        | some r => a.setWord e.1 (resetFields lvl e.1 r.fields e.2)
      else a) d

/-! ## Time -/

/-- R41: Base time in ns, 0 before the Timeline counts (R8). -/
def Dev.baseNs (d : Dev) : Nat := d.tl.ns

/-- Base time at the present tick in 125 ps. -/
def Dev.base8 (d : Dev) : Nat := d.tl.ns * 8 + d.tl.fifth * 8 / 5

/-! ## Interrupts (R28, R31) -/

/-- Whether the PCIe link of port p is up. -/
def Dev.linkUp (d : Dev) (p : Nat) : Bool := d.flag (F.HB_PORT_STAT_LINK_UP p)

/-- R31: the message of a vector, or its pending bit while the entry is masked. -/
def Dev.sendMsix (d : Dev) (p v : Nat) : Dev :=
  let h := tget d.hb p
  if v ∈ h.unmasked then { d with out := .msix p v :: d.out }
  else if v ∈ h.pending then d
  else { d with hb := tset d.hb p { h with pending := v :: h.pending } }

/-- R31: a source raises its line at one port. -/
def Dev.notifyPort (d : Dev) (p src : Nat) : Dev :=
  let e := tget (tget d.hb p).steer src
  if d.linkUp p && wordBit e 31 then d.sendMsix p (wordBits e 0 8) else d

/-- R31: a source raises its line at both ports. -/
def Dev.notify (d : Dev) (src : Nat) : Dev := (d.notifyPort 0 src).notifyPort 1 src

/-- R31: the interrupt line of a page, the OR of its IRQ_STAT bits. -/
def Dev.line (d : Dev) (pg : Page) : Bool :=
  Nat.land (d.get (F.IRQ_RAW_BITS (pageBase pg))) (d.get (F.IRQ_MASK_BITS (pageBase pg))) != 0

/-- R28, R31: an event sets its bit of IRQ_RAW; a line that rises is reported. -/
def Dev.raise (d : Dev) (pg : Page) (bit : Nat) : Dev :=
  let f := F.IRQ_RAW_BITS (pageBase pg)
  let d1 := d.put f (setBit (d.get f) bit)
  if !d.line pg && d1.line pg then d1.notify (pageSource pg) else d1

/-- R31: after a write to IRQ_RAW, IRQ_MASK or IRQ_FORCE that leaves the line raised. -/
def Dev.renotify (d : Dev) (pg : Page) : Dev :=
  if d.line pg then d.notify (pageSource pg) else d

/-- R28: the bits of IRQ_RAW, IRQ_MASK and IRQ_FORCE of a page that carry an event: bit 0 ERR, and the
events its chapter defines; the others are reserved. -/
def irqEvents : Page → Nat
  | .mc k => if k = 1 then 0x1F else 1
  | .pc k => if k = 0 then 0x3 else if k = 2 then 0x7 else if k = 3 then 0xF else if k = 4 then 0x3F
      else if k = 5 then 0x7 else 1
  | .sd k => if k = 1 then 0x3 else 1
  | .sc k => if k = 0 ∨ k = 1 ∨ k = 3 then 0x3 else if k = 4 then 0x7 else 1
  | .tl k => if 1 ≤ k ∧ k < 5 then 0x3F else if k = 8 then 0x1F else if k = 9 then 0x3
      else if k = 10 then 0x1FFFF else if 11 ≤ k then 0x7 else 1
  | .gv k => if k = 0 then 0x1F else if 3 ≤ k then 0xF else 1
  | .can _ => 0xFF
  | .lin _ => 0x7B
  | .ep _ k => if k = 0 ∨ k = 2 then 0xF else if k = 1 then 0x7 else 1
  | .ts _ => 0x7
  | .sw k => if k = 0 then 0x7 else 1
  | .lk _ k => if k = 0 ∨ k = 2 then 0x7 else if k = 3 then 0x3 else 1
  | .tm k => if k = 0 then 0x3 else if k = 4 then 0xF else 1
  | .cp k => if k = 0 then 0x3 else if k = 2 then 0xF else 1
  | .hb k => if k = 0 then 1 else 0xF

/-- R20: what a write gives the event bits of a page, the reserved ones 0. -/
def irqGiven (pg : Page) (v : Word) : Word := BitVec.ofNat 32 (Nat.land v.toNat (irqEvents pg))

/-! ## Errors (R29, R30) -/

/-- R28: the code of an initiator in ERR_ADDR. -/
def initCode : Init → Nat
  | .ha => 0
  | .hb => 1
  | .mc => 2
  | .aon => 3
  | .gv _ => 4
  | .dbg => 5

/-- R28: the initiator code of an error the block itself finds. -/
def internalCode : Nat := 15

/-- R29: an error is recorded in a page: captured if VALID is 0, else OVERFLOW; counted. -/
def Dev.recordErr (d : Dev) (pg : Page) (who addr code : Nat) : Dev :=
  let b := pageBase pg
  let d := d.bump (F.ERR_COUNT_COUNT b)
  if d.flag (F.ERR_INFO_VALID b) then d.put (F.ERR_INFO_OVERFLOW b) 1
  else
    let d := (d.put (F.ERR_INFO_CODE b) code).put (F.ERR_INFO_VALID b) 1
    let d := (d.put (F.ERR_ADDR_INITIATOR b) who).put (F.ERR_ADDR_ADDR b) addr
    let d := d.put (F.ERR_TIME_STAMP_NS b) d.baseNs
    d.raise pg 0

/-- R30: the page in which an initiator's own errors are recorded. The spec names none for the
debug port: its own authentication page (assumption 8). -/
def ownPage : Init → Page
  | .ha => .hb 1
  | .hb => .hb 2
  | .mc => .mc 0
  | .aon => .mc 0
  | .gv _ => .gv 0
  | .dbg => .sc 4

/-! ## Modes and release -/

/-- R274: the present mode. -/
def Dev.mode (d : Dev) : Nat := d.get F.PC_MODE_MODE

/-- R264: the release step at which a page's block is released. -/
def releaseStepOf : Page → Nat
  | .mc _ => 5
  | .pc _ => 1
  | .sd _ => 1
  | .sc _ => 4
  | .tl _ => 7
  | .gv _ => 11
  | .can _ => 10
  | .lin _ => 10
  | .ep _ _ => 9
  | .ts _ => 9
  | .sw _ => 8
  | .lk _ _ => 8
  | .tm _ => 8
  | .cp _ => 6
  | .hb _ => 9

/-- R265: the place of a page's block in the order in which a warm reset releases what it held;
0 for the blocks that it never holds. -/
def warmStepOf : Page → Nat
  | .sc _ => 1
  | .mc _ => 2
  | .sw _ => 3
  | .lk _ _ => 3
  | .tm _ => 3
  | .ep _ _ => 4
  | .ts _ => 4
  | .hb _ => 4
  | .can _ => 5
  | .lin _ => 5
  | .gv _ => 6
  | .pc _ => 0
  | .sd _ => 0
  | .tl _ => 0
  | .cp _ => 0

/-- R274: whether Grove is powered and clocked in a mode: not in M0, M1, M7 and M11. -/
def groveOn (mode : Nat) : Bool := mode != 0 && mode != 1 && mode != 7 && mode != 11

/-- R30, R264, R265, R274: whether platform control has released a page's block. -/
def Dev.released (d : Dev) (pg : Page) : Bool :=
  decide (releaseStepOf pg ≤ d.plat.relStep) && decide (warmStepOf pg ≤ d.plat.warmStep) &&
    (match pg with
     | .gv _ => groveOn d.mode
     | _ => true)

/-- R28: the CTRL.ENABLE of a page. -/
def Dev.enabled (d : Dev) (pg : Page) : Bool := d.flag (F.CTRL_ENABLE (pageBase pg))

/-! ## Free values -/

/-- The next free value below n, and the counter advanced (assumption 3). -/
def Dev.free (d : Dev) (n : Nat) : Nat × Dev :=
  (Config.freeNat d.freeIx % n, { d with freeIx := d.freeIx + 1 })

/-- The next k free bytes, and the counter advanced (assumption 3). -/
def Dev.freeBytes (d : Dev) (k : Nat) : List Byte × Dev :=
  ((List.range k).map (Config.freeByte d.freeIx), { d with freeIx := d.freeIx + 1 })

/-- R283, R291: the root keys and the identity key pair are generated: free values. -/
def Dev.makeIdentity (d : Dev) : Dev :=
  let (idRoot, d) := d.freeBytes 32
  let (vaultRoot, d) := d.freeBytes 32
  let (p, d) := d.free (2 ^ 1536)
  let (q, d) := d.free (2 ^ 1536)
  { d with sc := { d.sc with ids := { idRoot, vaultRoot, p := (rsaKey p q).1, q := (rsaKey p q).2 } } }

/-- Something leaves the device. -/
def Dev.emit (d : Dev) (o : Out) : Dev := { d with out := o :: d.out }

/-- Something owed to another block before the command ends. -/
def Dev.owe (d : Dev) (r : Req) : Dev := { d with todo := d.todo ++ [r] }

/-- R329: a fault source reports to the collector of safety and diagnostics. -/
def Dev.report (d : Dev) (source data : Nat) : Dev := d.owe (.fault source data)

/-! ## Errors of memory words (R324) -/

/-- The error that stands in a word. -/
def Dev.wordErr (d : Dev) (w : Nat × Nat × Nat) : Option WordErr := d.scrub.errs.find? (fun e => e.word == w)

/-- R324: the first uncorrectable error that stands in an instance of a memory, among the addresses given. -/
def Dev.errIn (d : Dev) (mem inst : Nat) (p : Nat → Bool) : Option WordErr :=
  d.scrub.errs.find? (fun e => e.word.1 == mem && e.word.2.1 == inst && p e.word.2.2 && decide (2 ≤ e.bits))

/-- R324, R330: the data of a report about a word; its syndrome is free. -/
def Dev.reportWord (d : Dev) (source : Nat) (w : Nat × Nat × Nat) (inj : Bool) : Dev :=
  let (syn, d) := d.free (2 ^ 32)
  d.report source (w.1 + w.2.1 * 2 ^ 8 + boolNat inj * 2 ^ 16 + w.2.2 * 2 ^ 32 + syn * 2 ^ 64)

/-- R322: the instances of a memory, and the ECC words of each. -/
def scrubSize (mem : Nat) : Nat × Nat :=
  if mem = 1 then (32, 8192)
  else if mem = 2 then (48, 4096)
  else if mem = 3 ∨ mem = 4 then (16, 3072)
  else if mem = 5 then (16, 65536)
  else if mem = 6 then (64, 8192)
  else if mem = 7 then (8, 32768)
  else if mem = 8 then (1, 4096)
  else if mem = 9 then (256, 8192)
  else if mem = 10 then (256, 4096)
  else (0, 0)

/-- R324: a foreground access has met an uncorrectable error. -/
def Dev.reportErr (d : Dev) (e : WordErr) : Dev := d.reportWord 1 e.word e.inj

/-- R324: the uncorrectable errors that stand in a memory. -/
def Dev.errsIn (d : Dev) (mem : Nat) : List WordErr :=
  d.scrub.errs.filter (fun e => e.word.1 == mem && decide (2 ≤ e.bits))

/-- R324, R326: whether a foreground access reads a word of memory `mem` in which an uncorrectable error stands; it
is reported. The spec does not place the data of the memory in its words: which of those words the access reads, if
any, is free. -/
def Dev.meets (d : Dev) (mem : Nat) : Option WordErr × Dev :=
  let l := d.errsIn mem
  if l = [] then (none, d)
  else
    let (k, d) := d.free (l.length + 1)
    match l[k]? with
    | some e => (some e, d.reportErr e)
    | none => (none, d)

/-- R326: whether other fabric or buffer memory (memories 9 and 10) brings a bad word to a frame. -/
def Dev.fabricBad (d : Dev) : Bool × Dev :=
  match d.meets 9 with
  | (some _, d) => (true, d)
  | (none, d) =>
    match d.meets 10 with
    | (some _, d) => (true, d)
    | (none, d) => (false, d)

/-- R324, R326: a foreground access to memory `mem` has found an uncorrectable error: one that stands there, else a
new one, at a free place, where it stands from now on. -/
def Dev.dbe (d : Dev) (mem : Nat) : Dev :=
  match d.errsIn mem with
  | e :: _ => d.reportErr e
  | [] =>
    let (inst, d) := d.free (scrubSize mem).1
    let (addr, d) := d.free (scrubSize mem).2
    let e : WordErr := { word := (mem, inst, addr), bits := 2, inj := false }
    { d with scrub := { d.scrub with errs := e :: d.scrub.errs } }.reportErr e

/-- R324, R331: words are written: no error stands in them any more, and the fault armed for one of them is applied
to it. -/
def Dev.wordsWritten (d : Dev) (p : Nat × Nat × Nat → Bool) : Dev :=
  let taken := d.inject.filter (fun x => decide (x.kind < 2) && p (x.mem, x.inst, x.addr))
  let new := taken.toList.map (fun x => ({ word := (x.mem, x.inst, x.addr), bits := x.kind + 1, inj := true } : WordErr))
  { d with
    inject := if taken.isSome then none else d.inject
    scrub := { d.scrub with errs := new ++ d.scrub.errs.filter (fun e => !p e.word) } }

end Sys2Proof.Machine
end

