-- ==== Sys2Proof/Machine/Bus.lean ====
section
/-! DEFINITION. A register write as the bus carries it: who may reach what (R281, R300, R301,
R32), the common access errors (R30), posted-write numbering and the posted-error log (R34 to
R36), and the judgement by field (R367). -/

namespace Sys2Proof.Machine
open Sys2Proof

/-- What judging a write gives: the device after it, or the code it is refused with. -/
inductive Wr where
  | ok (d : Dev)
  | no (code : Nat)

/-- What else a write that is taken does. -/
def Wr.map (f : Dev → Dev) : Wr → Wr
  | .ok d => .ok (f d)
  | .no c => .no c

/-- The PCIe port an initiator writes through. -/
def portOf : Init → Option Nat
  | .ha => some 0
  | .hb => some 1
  | _ => none

/-- R300, R301: what the debug port reaches: 0 nothing, 1 SC page 4, 2 reads, 3 reads and
writes. -/
def debugReach (lc level mode : Nat) : Nat :=
  if mode = 0 ∨ mode = 1 then 0
  else if level = 0 then 1
  else if level = 1 then 2
  else if lc = 0 then 3
  else if lc = 3 then 1
  else if mode = 3 then 2
  else 3

/-- R281, R300, R337: a page, or its window into the Chamber, is closed to an initiator. -/
def Dev.denied (d : Dev) (i : Init) (pg : Page) (off : Nat) (write : Bool) : Bool :=
  let reach := debugReach d.sc.lc d.sc.level d.mode
  match pg with
  | .sc k =>
    match i with
    | .mc => false
    | .dbg =>
      if k = 4 then reach == 0
      else if k = 2 ∨ k = 3 then true
      else if write then decide (reach < 3) else decide (reach < 2)
    | .ha | .hb =>
      if k < 2 then write && !(k == 1 && (off == 0x170 || (0x180 ≤ off && off < 0x1A0))) else true
    | .aon => if k < 2 then write else true
    | .gv _ => true
  | .pc 5 =>
    match i with
    | .dbg => if write then decide (reach < 3) else decide (reach < 2)
    | .gv _ => (!write && decide (0x40 ≤ off) && decide (off < 0xE8)) || (decide (0x50 ≤ off) && decide (off < 0xA0))
    | _ => false
  | _ =>
    match i with
    | .dbg => if write then decide (reach < 3) else decide (reach < 2)
    | _ => false

/-- R32, R300: a port page is written only through its own port, by the application cores, and by a debug port
that reaches every page. -/
def foreignPage (i : Init) (pg : Page) : Bool :=
  match pg with
  | .hb k => if k = 1 then i != .ha && i != .mc && i != .dbg else if k = 2 then i != .hb && i != .mc && i != .dbg else false
  | _ => false

/-- Whether a page is in soft reset. -/
def Dev.softReset (d : Dev) (pg : Page) : Bool := d.flag (F.CTRL_SOFT_RESET (pageBase pg))

/-- A Grove engine as initiator. -/
def isEngine : Init → Bool
  | .gv _ => true
  | .ha | .hb | .mc | .aon | .dbg => false

/-- R30: the common error a write meets before its register judges it. An engine reaches the signal store only
through GX.SIGLD and GX.SIGST (R110). -/
def Dev.accessCode (d : Dev) (i : Init) (addr : Nat) (full : Bool) : Option Nat :=
  if !full || addr % 4 != 0 then some 0x0001
  else match pageOf addr with
    | none =>
      if inSignalWindow addr then
        (if (i = .dbg ∧ debugReach d.sc.lc d.sc.level d.mode < 3) ∨ isEngine i = true then some 0x0009
         else if d.released (.gv 0) then none else some 0x0004)
      else some 0x0003
    | some pg =>
      if d.denied i pg (addr % 0x1000) true then some 0x0009
      else if !d.released pg then some 0x0004
      else if foreignPage i pg then some 0x0006
      else if d.softReset pg && decide (0x40 ≤ addr % 0x1000) then some 0x0005
      else none

/-- R30: the page that records a failed access. -/
def Dev.errorPage (d : Dev) (i : Init) (addr : Nat) : Page :=
  match pageOf addr with
  | some pg => if d.released pg then pg else ownPage i
  | none => ownPage i

/-- R35, R36: the lowest free entry of a port's posted-error log. -/
def Dev.pelFree (d : Dev) (p : Nat) : Option Nat :=
  findBelow 8 (fun e => !d.flag (F.PEL_ADDR_VALID p e))

/-- R35: a failed posted write is logged in the lowest free entry. -/
def Dev.pelLog (d : Dev) (p addr : Nat) (v : Word) (code : Nat) : Dev :=
  match d.pelFree p with
  | none => d
  | some e =>
    let d := (d.put (F.PEL_ADDR_ADDR p e) addr).put (F.PEL_ADDR_VALID p e) 1
    let d := d.put (F.PEL_SEQ_SEQ p e) (d.get (F.HB_WSEQ_SEQ p))
    let d := d.put (F.PEL_TIME_STAMP_NS p e) d.baseNs
    let d := (d.put (F.PEL_INFO_CODE p e) code).put (F.PEL_DATA_DATA p e) v.toNat
    let d := d.raise (.hb (p + 1)) 1
    if (d.pelFree p).isNone then d.raise (.hb (p + 1)) 2 else d

/-- R121: a Grove thread whose register access is refused takes a thread fault. -/
def Dev.noteGvFault (d : Dev) (i : Init) : Dev :=
  match i with
  | .gv t => d.owe (.gvFault t.val 0x09)
  | _ => d

/-- R29, R30, R35: a write is refused with a code. -/
def Dev.failWrite (d : Dev) (i : Init) (addr : Nat) (v : Word) (code : Nat) : Dev :=
  let d := d.recordErr (d.errorPage i addr) (initCode i) addr code
  match portOf i with
  | some p => d.pelLog p addr v code
  | none => d.noteGvFault i

/-- One write that reaches its target: the common errors, then the register's own judgement. -/
def Dev.attempt (d : Dev) (i : Init) (addr : Nat) (v : Word) (full : Bool) (judge : Dev → Wr) :
    Dev :=
  match d.accessCode i addr full with
  | some code => d.failWrite i addr v code
  | none =>
    match judge d with
    | .ok d' => d'
    | .no code => d.failWrite i addr v code

/-- R35: a log entry of the port names the 4 KiB page of the address. -/
def Dev.pelNames (d : Dev) (p addr : Nat) : Bool :=
  (List.range 8).any (fun e => d.flag (F.PEL_ADDR_VALID p e) &&
    d.get (F.PEL_ADDR_ADDR p e) / 0x1000 == addr / 0x1000)

/-- R34: the number of the next posted write of a port, from 1 after link-up. -/
def nextSeq (n : Nat) : Nat := if n = 0xFFFFFFFF then 1 else n + 1

/-- R34 to R36: a register write by an initiator. A posted write of a PCIe port takes its number;
it is discarded while the log is full or names the page, unless it goes to the port's own page. -/
def Dev.busWrite (d : Dev) (i : Init) (addr : Nat) (v : Word) (full : Bool) (judge : Dev → Wr) :
    Dev :=
  match portOf i with
  | none => d.attempt i addr v full judge
  | some p =>
    if d.linkUp p then
      let d := d.put (F.HB_WSEQ_SEQ p) (nextSeq (d.get (F.HB_WSEQ_SEQ p)))
      if pageOf addr = some (.hb (p + 1)) then d.attempt i addr v full judge
      else if (d.pelFree p).isNone || d.pelNames p addr then d.bump (F.HB_PEL_DISCARD_COUNT p)
      else d.attempt i addr v full judge
    else d

/-- A full 32-bit write with no further effect than R22's. -/
def Dev.plain (addr : Nat) (v : Word) (d : Dev) : Wr := .ok (d.store addr v)

/-- R367, R22: the lock of a page refuses a write that would change an RWL field. -/
def Dev.lockedWrite (d : Dev) (addr : Nat) (v : Word) : Bool :=
  match pageOf addr with
  | none => false
  | some pg => d.flag (F.CTRL_LOCK (pageBase pg)) && d.changesRwl addr v

/-- R367: a register judged under its page's lock first, then by `judge`. -/
def judged (addr : Nat) (v : Word) (judge : Dev → Wr) (d : Dev) : Wr :=
  if d.lockedWrite addr v then .no 0x0002 else judge d

/-- A refusal with a code where a condition holds. -/
def refuseIf (c : Bool) (code : Nat) (w : Wr) : Wr := if c then .no code else w

/-- R66, R91: a command of a window that is refused: its code is recorded in the page under R29,
with the initiator, at the command register (assumption 9). -/
def Dev.windowErr (d : Dev) (i : Init) (addr code : Nat) : Dev :=
  match pageOf addr with
  | none => d
  | some pg => if code = 0 then d else d.recordErr pg (initCode i) addr code

/-- R91: a write of the command register of a window: ignored while GO reads 1; else stored, and
with GO = 1 the command is judged and carried out (assumption 9). -/
def Dev.window (d : Dev) (who : Init) (addr : Nat) (v : Word) (go res : Fld) (code : Dev → Nat)
    (effect : Dev → Dev) : Dev :=
  if d.flag go && newField v go == 1 then d
  else
    let d := (d.store addr v).put go 0
    if newField v go = 1 then
      let c := code d
      let d := if c = 0 then effect d else d
      (d.put res c).windowErr who addr c
    else d

end Sys2Proof.Machine
end

