-- ==== Sys2Proof/Machine/Operands.lean ====
section
/-! DEFINITION. Time bases and stamps: what the commands' events carry (R53 to R56, R369), and
owners of queues (R11). -/

namespace Sys2Proof.Machine
open Sys2Proof

/-! ## Clocks in bypass (R272) -/

/-- R272: the PLLs bypassed in this start: bits 0–4 as PC_PLL_STAT.LOCK, 8–11 as SDS_LOCK. -/
def Dev.bypassed (d : Dev) : Nat := d.plat.bypass

/-- R272: the length of a Timeline tick in fifths of a nanosecond: 1 ns, or a period of the reference when
the TPLL is bypassed (156.25 MHz where CLKSEL is 0b10). -/
def Dev.tickFifths (d : Dev) : Nat :=
  if bitOf d.bypassed 2 then (if d.get F.PC_STRAP_CLKSEL = 2 then 32 else 200) else 5

/-! ## Time bases (R44, R53) -/

/-- A domain's rate per ns in 2⁻⁴⁰. -/
def Dev.domStep (d : Dev) (i : Nat) : Int := 2 ^ 40 + (tget d.tl.dom i).rate

/-- R46: whether domain i is enabled. -/
def Dev.domEn (d : Dev) (i : Nat) : Bool := d.flag (F.DOM_CTRL_EN i)

/-- Base time at the present tick in 2⁻⁴⁰ ns. -/
def Dev.base40 (d : Dev) : Nat := d.tl.ns * 2 ^ 40 + d.tl.fifth * 2 ^ 40 / 5

/-- The value of a time base (0 Base time, 1–4 D0–D3) at the present tick in 2⁻¹⁶ ns. -/
def Dev.tbVal (d : Dev) (tb : Nat) : Nat :=
  if tb = 0 then d.base40 / 2 ^ 24 else (tget d.tl.dom (tb - 1)).val / 2 ^ 24

/-- R53: the time-base selection of a stamp source. -/
def Dev.tbSel (d : Dev) (src : Nat) : Nat := wordBits (d.word (R.TL_TB_SEL (src / 8))) (4 * (src % 8)) 4

/-- R53: how much of what has been is kept for the stamps of events that began before a change: 1 s. -/
def pastNs : Nat := 1000000000

/-- R53, R56: what stood for a key at a Base time instant in 2⁻⁶ ns, given what stands now. -/
def asOf (l : List Past) (key : Nat) (t64 : Int) (now : Nat) : Nat :=
  ((l.filter (fun x => x.key == key && decide (t64 < x.until_))).getLast?).elim now (fun x => x.old)

/-- R53, R56: a value that changes now is remembered. -/
def pastAdd (l : List Past) (key now64 old : Nat) : List Past :=
  { key, until_ := now64, old } :: l.filter (fun x => decide (now64 < x.until_ + pastNs * 64))

/-- R53: the time-base selection of a source for an event at a Base time instant in 2⁻⁶ ns. -/
def Dev.tbSelAt (d : Dev) (src : Nat) (t64 : Int) : Nat := asOf d.tl.selPast src t64 (d.tbSel src)

/-- R53: a reference of domain i that holds at a Base time instant in 2⁻⁶ ns: a Base time in 2⁻⁴⁰ ns, the
domain's value there, and its advance per ns. -/
def Dev.domRef (d : Dev) (i : Nat) (t64 : Int) : Nat × Nat × Int :=
  let s := tget d.tl.dom i
  match (s.past.filter (fun x => decide (t64 * 2 ^ 34 < x.until_))).getLast? with
  | some x => (x.until_, x.val, x.adv)
  | none => (d.base40, s.val, d.domStep i)

/-- R53, R369: a Base time instant in 2⁻⁶ ns expressed on a time base and rounded to the nearest
`res` × 2⁻⁶ ns, half way to the later. -/
def Dev.onBase (d : Dev) (tb : Nat) (t64 : Int) (res : Nat) : Int :=
  if tb = 0 then (2 * t64 + res) / (2 * res) * res
  else
    let (at40, val, adv) := d.domRef (tb - 1) t64
    let x : Int := (val : Int) * 64 + (t64 - (at40 / 2 ^ 34 : Nat)) * adv
    let stp : Int := (res : Int) * 2 ^ 40
    (2 * x + stp) / (2 * stp) * res

/-- R54: the 35 bits of a stamp given in 2⁻⁶ ns. -/
def stamp35 (t64 : Int) : Nat := ((t64 / 8) % (2 ^ 35 : Int)).toNat

/-- The present Base time in 2⁻⁶ ns. -/
def Dev.now64 (d : Dev) : Nat := d.base40 / 2 ^ 34

/-- R272: a Base time instant as the Timeline resolves it: itself, or the tick at or before it when the TPLL
is bypassed. -/
def Dev.tickAt (d : Dev) (t64 : Int) : Int :=
  if d.tickFifths = 5 then t64
  else
    let len : Int := d.tickFifths * 64
    let k := ((d.now64 - t64) * 5 + len - 1) / len
    (d.now64 * 5 - k * len) / 5

/-- R54, R272: the stamp of an event at a Base time instant in 2⁻⁶ ns on the time base of a source. -/
def Dev.stampAt (d : Dev) (src : Nat) (t64 : Int) (res : Nat) : Nat :=
  let t := d.tickAt t64
  stamp35 (d.onBase (d.tbSelAt src t) t (if d.tickFifths = 5 then res else 8))

/-- R53, R226: the time base of the stamp of an event at a Base time instant in 2⁻⁶ ns. -/
def Dev.stampBase (d : Dev) (src : Nat) (t64 : Int) : Nat := d.tbSelAt src (d.tickAt t64)

/-- R54: resolutions in 2⁻⁶ ns: 125 ps, 1 ns, 12.5 ns. -/
def res125ps : Nat := 8
def res1ns : Nat := 64
def res12ns5 : Nat := 800

/-- R369: the CAN clock edge at or before the present tick, in 2⁻⁶ ns. -/
def Dev.canEdge64 (d : Dev) : Nat := d.now64 / 800 * 800

/-- R132, R369: the Base time of a CAN or LIN event sampled `ago` CAN clocks ago, less the fixed input delay. -/
def Dev.canInstant (d : Dev) (ago : Nat) : Int := (d.canEdge64 : Int) - ago * 800 - Config.canInputDelay * 800

/-! ## Stamp delays (R56) -/

/-- R56: the index of a delay entry. -/
def dlyIndex (dir speed port : Nat) : Nat := 256 * dir + 32 * speed + port

/-- R56: the effective delay DLY_CAL + DLY_USER in 2⁻⁶ ns, for a frame that started at a Base time in 2⁻⁶
ns. -/
def Dev.stampDelay (d : Dev) (dir speed port : Nat) (t64 : Int) : Int :=
  let i := dlyIndex dir speed port
  ((tget d.tl.dlyCal i : Nat) : Int) + signedOf 16 (asOf d.tl.dlyPast i t64 (tget d.tl.dlyUser i))

/-- R56: whether a port has an entry for a speed: EP0–EP3 have 10 Gb/s, no EP lacks 2.5 Gb/s to
10 Mb/s, a TS segment has 10BASE-T1S alone. -/
def hasSpeed (speed port : Nat) : Bool :=
  if port < 4 then decide (speed < 5)
  else if port < 16 then decide (1 ≤ speed) && decide (speed < 5)
  else if port < 24 then speed == 5 else false

/-! ## Owners (R11) -/

/-- R11: whether an initiator is the owner that an owner field names (0 application cores, 1 HA,
2 HB; 3 names nobody). -/
def ownerIs (code : Nat) (i : Init) : Bool :=
  (code == 0 && i == .mc) || (code == 1 && i == .ha) || (code == 2 && i == .hb)

/-! ## Sleep groups (R242) -/

/-- R242: the sleep group of a channel (0–63 CAN, 64–79 LIN). -/
def chanGroup (c : Nat) : Nat := if c < 64 then c / 8 else (c - 64) / 2

/-- The state of group g: 0 AWAKE, 1 GOING_TO_SLEEP, 2 ASLEEP, 3 WAKE_CHECK. -/
def Dev.groupState (d : Dev) (g : Nat) : Nat := bitsOf (d.get F.PC_GRP_STAT_STATES) (2 * g) 2

/-- R246: only a channel of an AWAKE group takes a transmit item. -/
def Dev.chanAwake (d : Dev) (c : Nat) : Bool := d.groupState (chanGroup c) == 0

end Sys2Proof.Machine
end

