-- ==== Sys2Proof/Machine/Capture.lean ====
section
/-! DEFINITION. Capture: taps, the capture buffer, log rings and their triggers, the registers of
the CP pages, and the bytes of 1722 delivery (R224 to R240). -/

namespace Sys2Proof.Machine
open Sys2Proof

def Dev.ring (d : Dev) (r : Nat) : LogRing := tget d.cp.ring r
def Dev.modRing (d : Dev) (r : Nat) (f : LogRing → LogRing) : Dev :=
  { d with cp := { d.cp with ring := tmod d.cp.ring r f } }

/-- The size of a ring in bytes. -/
def Dev.ringBytes (d : Dev) (r : Nat) : Nat := d.get (F.CP_RING_SIZE_UNITS r) * 65536

/-- R229: bytes held. -/
def Dev.ringHeld (d : Dev) (r : Nat) : Nat :=
  let n := d.ringBytes r
  if n = 0 then 0 else (d.get (F.CP_RING_WPTR_PTR r) + n - d.get (F.CP_RING_RPTR_PTR r)) % n

/-- R233: a record is lost. -/
def Dev.ringLoss (d : Dev) (r : Nat) : Dev :=
  ((d.bump (F.CP_RING_LOST_COUNT r)).modRing r (fun g => { g with lostRun := g.lostRun + 1 })).raise (.cp 2) 3

/-! ## Taps (R225, R232) -/

/-- R225: whether tap t copies events of a source and direction. -/
def Dev.tapTakes (d : Dev) (src : Nat) (dir : Bool) (t : Nat) : Bool :=
  d.flag (F.CP_TAP_CFG_EN t) && d.get (F.CP_TAP_CFG_SOURCE t) == src && d.flag (F.CP_TAP_CFG_DIR t) == dir

/-- R232: the data bytes a tap keeps of at most n. -/
def Dev.tapKeeps (d : Dev) (t n : Nat) : Nat :=
  let snap := d.get (F.CP_TAP_SNAP_SNAP t)
  if snap = 0 then n else min snap n

/-- R232: the buffer occupancy at which a reservation of a priority is refused. -/
def prioLimit (prio : Nat) : Nat :=
  if prio = 0 then 262144 else if prio = 1 then 393216 else if prio = 2 then 471860 else 524288

/-- R232: at the head of an event every tap of its source reserves room for at most `most` data
bytes, or the record is lost. -/
def Dev.tapHead (d : Dev) (src : Nat) (dir : Bool) (most : Nat) : Dev × List TapRes :=
  if d.mode == 11 || !d.released (.cp 1) then (d, [])
  else
    (List.range 64).foldl (fun (acc : Dev × List TapRes) t =>
      if acc.1.tapTakes src dir t then
        let need := 32 + acc.1.tapKeeps t most
        let used := acc.1.get F.CP_BUF_STAT_USED + need
        if prioLimit (acc.1.get (F.CP_TAP_CFG_PRIO t)) ≤ used then
          (acc.1.ringLoss (acc.1.get (F.CP_TAP_CFG_RING t)), acc.2)
        else (acc.1.put F.CP_BUF_STAT_USED used, acc.2 ++ [{ tap := t, bytes := need }])
      else acc) (d, [])

/-- R226, R232: at the tail the record is completed and the unused part of the reservation
returned. A frame that outgrew the largest length of its source is recorded whole. -/
def Dev.tapTail (d : Dev) (rs : List TapRes) (r : CapRec) : Dev :=
  rs.foldl (fun a x =>
    let n := a.tapKeeps x.tap r.data.length
    let used := a.get F.CP_BUF_STAT_USED + (32 + n) - x.bytes
    let rec' : CapRec := { r with tap := x.tap, data := r.data.take n, held := 32 + n }
    { a.put F.CP_BUF_STAT_USED used with cp := { a.cp with pend := a.cp.pend ++ [rec'] } }) d

/-- R226: the SOURCE word of a record of a source and direction on a time base. -/
def capSource (src : Nat) (dir : Bool) (tb : Nat) : Nat := src + boolNat dir * 2 ^ 9 + tb * 2 ^ 10

/-- R225: an event known whole is captured at once. -/
def Dev.tapEvent (d : Dev) (src : Nat) (dir : Bool) (most : Nat) (r : CapRec) : Dev :=
  let (d, rs) := d.tapHead src dir most
  d.tapTail rs r

/-! ## Storing a record (R226, R229 to R233) -/

/-- R226: REC_LEN. -/
def recLen (r : CapRec) : Nat := (32 + r.data.length + 7) / 8 * 8

/-- R226: the bytes of a record as stored. -/
def recBytes (r : CapRec) (seq lost flags : Nat) : List Byte :=
  let n := recLen r
  leBytes 2 n ++ leBytes 2 r.data.length ++ leBytes 2 r.orig ++ leBytes 2 r.source ++
    leBytes 8 r.stamp ++ leBytes 4 seq ++ leBytes 2 flags ++ leBytes 2 lost ++
    leBytes 4 r.aux ++ leBytes 4 r.aux2 ++ r.data ++ List.replicate (n - 32 - r.data.length) 0

/-- R230: whole oldest records dropped until n more bytes fit, how many, and their bytes. -/
def dropOldest (room n : Nat) : List StoredRec → Nat × Nat × List StoredRec
  | [] => (0, 0, [])
  | x :: t =>
    if n + 8 ≤ room then (0, 0, x :: t)
    else
      let (k, b, rest) := dropOldest (room + x.bytes.length) n t
      (k + 1, b + x.bytes.length, rest)

/-- R230: a ring makes room for n bytes: none where the record must be dropped. -/
def Dev.ringRoom (d : Dev) (r n : Nat) : Option Dev :=
  let room := d.ringBytes r - d.ringHeld r
  if n + 8 ≤ room then some d
  else if !d.flag (F.CP_RING_CFG_MODE r) || d.ringBytes r < n + 8 || (d.ring r).cut ≠ 0 then none
  else
    let (k, b, rest) := dropOldest room n (d.ring r).recs
    let rp := (d.get (F.CP_RING_RPTR_PTR r) + b) % d.ringBytes r
    some (((d.put (F.CP_RING_RPTR_PTR r) rp).bumpBy (F.CP_RING_OVERWRITTEN_COUNT r) k).modRing r
      (fun g => { g with recs := rest }))

/-- R231: a ring's state. -/
def Dev.ringState (d : Dev) (r : Nat) : Nat := d.get (F.CP_RING_STAT_STATE r)

/-- R231: a ring freezes. -/
def Dev.ringFreeze (d : Dev) (r : Nat) : Dev := (d.put (F.CP_RING_STAT_STATE r) 3).raise (.cp 2) 2

/-- R231: a trigger of a RUNNING ring; others ignore it. -/
def Dev.ringTrigger (d : Dev) (r : Nat) (now : Bool) : Dev :=
  if d.ringState r = 1 then
    let d := (d.put (F.CP_RING_TRIG_NS_NS r) d.baseNs).put (F.CP_RING_TRIG_PTR_PTR r) (d.get (F.CP_RING_WPTR_PTR r))
    let d := ((d.put (F.CP_RING_STAT_STATE r) 2).raise (.cp 2) 1).modRing r (fun g => { g with post := 0 })
    if now && d.get (F.CP_RING_CFG_POST_KIB r) == 0 then d.ringFreeze r else d
  else d

/-- R231: whether a record of tap t triggers its ring. -/
def Dev.recTriggers (d : Dev) (r : Nat) (x : CapRec) : Bool :=
  let on := d.get (F.CP_TAP_CFG_TRIG_ON x.tap)
  bitOf (d.get (F.CP_RING_CFG_TRIG_SRC r)) 0 && d.ringState r == 1 &&
    (on == 1 || (on == 2 && (bitOf x.flags 2 || bitsOf x.flags 8 4 != 0)))

/-- R229, R233: a record is written and WPTR advances; a ring in POST may reach its limit. -/
def Dev.ringWrite (d : Dev) (r : Nat) (x : CapRec) (trig : Bool) : Dev :=
  let g := d.ring r
  let flags := x.flags + boolNat (decide (x.data.length < x.orig)) + boolNat (g.lostRun != 0) * 2 +
    boolNat trig * 2 ^ 7
  let bytes := recBytes x g.seq (min g.lostRun 65535) flags
  let wp := (d.get (F.CP_RING_WPTR_PTR r) + bytes.length) % d.ringBytes r
  let d := d.put (F.CP_RING_WPTR_PTR r) wp
  let d := d.modRing r (fun g => { g with
    seq := (g.seq + 1) % 2 ^ 32, lostRun := 0, post := g.post + bytes.length
    recs := g.recs ++ [{ stamp := x.stamp, seen := d.baseNs, bytes }] })
  if d.ringState r = 2 ∧ d.get (F.CP_RING_CFG_POST_KIB r) * 1024 ≤ (d.ring r).post then d.ringFreeze r else d

/-- R229 to R233: a record is offered to its ring. -/
def Dev.ringStore (d : Dev) (x : CapRec) : Dev :=
  let r := d.get (F.CP_TAP_CFG_RING x.tap)
  let st := d.ringState r
  if st = 0 then d
  else if st = 3 then d.ringLoss r
  else match d.ringRoom r (recLen x) with
    | none => d.ringLoss r
    | some d' =>
      let trig := d'.recTriggers r x
      (if trig then d'.ringTrigger r false else d').ringWrite r x trig

/-- R229: the oldest completed record is written into its ring; R239: not into a memory held in
self-refresh. -/
def Dev.captureCommit (d : Dev) : Dev :=
  match d.cp.pend with
  | [] => d
  | x :: rest =>
    if d.flag F.CP_MEM_STAT_SELF_REFRESH then d
    else
    let d := { d with cp := { d.cp with pend := rest } }
    (d.put F.CP_BUF_STAT_USED (d.get F.CP_BUF_STAT_USED - x.held)).ringStore x

/-- R231: a collected fault triggers the rings whose TRIG_SRC.FAULT is set. -/
def Dev.ringsFault (d : Dev) : Dev :=
  (List.range 16).foldl (fun a r =>
    if bitOf (a.get (F.CP_RING_CFG_TRIG_SRC r)) 1 then a.ringTrigger r true else a) d

/-- R231, R239: a warm reset loses what is not visible, and freezes the running rings whose
TRIG_SRC.WARM is set; the trigger of one in POST stays the earlier one. -/
def Dev.ringsWarm (d : Dev) : Dev :=
  let d := { d with cp := { d.cp with pend := [], avSeq := [], avNext := [] } }
  (List.range 16).foldl (fun a r =>
    if !bitOf (a.get (F.CP_RING_CFG_TRIG_SRC r)) 2 then a
    else if a.ringState r = 1 then (a.ringTrigger r false).ringFreeze r
    else if a.ringState r = 2 then a.ringFreeze r
    else a) d

/-! ## Consumption (R234, R235) -/

/-- R235: the next n ring bytes from RPTR, and the offset of the first record header in them. -/
def takeBytes (n cut off : Nat) : List StoredRec → List Byte × Option Nat
  | [] => ([], none)
  | x :: t =>
    if n = 0 then ([], none)
    else
      let b := (x.bytes.drop cut).take n
      let first := if cut = 0 then some off else none
      let (more, f) := takeBytes (n - b.length) 0 (off + b.length) t
      (b ++ more, match first with
        | some o => some o
        | none => f)

/-- R235: n bytes are consumed: what remains, and how far the first record is consumed. -/
def cutBytes (n cut : Nat) : List StoredRec → List StoredRec × Nat
  | [] => ([], 0)
  | x :: t =>
    let left := x.bytes.length - cut
    if left ≤ n then cutBytes (n - left) 0 t else (x :: t, cut + n)

/-- R235: RPTR advances by n bytes. -/
def Dev.ringAdvance (d : Dev) (r n : Nat) : Dev :=
  let g := d.ring r
  let (rest, cut) := cutBytes n g.cut g.recs
  let rp := if d.ringBytes r = 0 then 0 else (d.get (F.CP_RING_RPTR_PTR r) + n) % d.ringBytes r
  (d.put (F.CP_RING_RPTR_PTR r) rp).modRing r (fun g => { g with recs := rest, cut })

/-- R235: the frame of a VSF_STREAM PDU of stream s with a payload: tag, AVTP stream header of
IEEE 1722-2016 (subtype 0x6F, sv 1, tv 0, no time stamp), pointer with ECC_BAD, ring bytes. -/
def Dev.avtpFrame (d : Dev) (s : Nat) (payload : List Byte) (ptr : Option Nat) (bad : Bool) : List Byte :=
  let da := d.get (F.CP_AV_DA_LO_ADDR s) + d.get (F.CP_AV_DA_HI_ADDR s) * 2 ^ 32
  let sa := d.get F.CP_AV_SA_LO_ADDR + bitsOf (d.get F.CP_AV_SA_HI_ADDR) 0 16 * 2 ^ 32
  let sid := d.get (F.CP_AV_SID_LO_SID s) + d.get (F.CP_AV_SID_HI_SID s) * 2 ^ 32
  let ven := d.get F.CP_AV_VENDOR_LO_ID + d.get F.CP_AV_VENDOR_HI_ID * 2 ^ 32
  let tci := d.get (F.CP_AV_CFG_PCP s) * 2 ^ 13 + d.get (F.CP_AV_CFG_VID s)
  let seq := tget d.cp.avSeq s % 256
  beBytes 6 da ++ beBytes 6 sa ++ beBytes 2 0x8100 ++ beBytes 2 tci ++ beBytes 2 0x22F0 ++
    beBytes 1 0x6F ++ beBytes 1 0x80 ++ beBytes 1 seq ++ beBytes 1 0 ++ beBytes 8 sid ++
    beBytes 4 0 ++ beBytes 4 0 ++ beBytes 2 (payload.length + 4) ++ beBytes 2 0 ++ beBytes 8 ven ++
    leBytes 2 (ptr.getD 0xFFFF) ++ leBytes 2 (boolNat bad) ++ payload

/-- R234, R235: the Base time in ns at which the oldest undelivered byte of a ring became visible. -/
def Dev.ringSeen (d : Dev) (r : Nat) : Nat := ((d.ring r).recs.head?.map (fun x => x.seen)).getD d.baseNs

/-- R235: whether stream s has a PDU to send now: SEG × 64 bytes visible, or FLUSH_US after the oldest
undelivered byte became visible; its rate admits it. -/
def Dev.avtpDue (d : Dev) (s : Nat) : Bool :=
  let r := d.get (F.CP_AV_CFG_RING s)
  d.flag (F.CP_AV_CFG_EN s) && d.get (F.CP_RING_CFG_CONSUMER r) == 3 && decide (0 < d.ringHeld r) &&
    (decide (d.get (F.CP_AV_CFG_SEG s) * 64 ≤ d.ringHeld r) ||
      decide (d.ringSeen r + d.get (F.CP_RING_CFG_FLUSH_US r) * 1000 ≤ d.baseNs)) &&
    decide (tget d.cp.avNext s ≤ d.baseNs) && !d.flag F.CP_MEM_STAT_SELF_REFRESH

/-- R237: the read of log memory at RPTR met an ECC error (1 one bit, 2 two bits in a word). The spec
does not say at which byte: a free address. -/
def Dev.ddrError (d : Dev) (ecc : Nat) : Dev :=
  if ecc = 1 then d.bump F.CP_ECC_SBE_COUNT
  else if ecc = 2 then
    let d := (d.bump F.CP_ECC_DBE_COUNT).raise (.cp 0) 1
    let d := if d.flag F.CP_ECC_DBE_ADDR_HI_VALID then d
      else
        let (a, d) := d.free (2 ^ 34)
        ((d.put F.CP_ECC_DBE_ADDR_LO_ADDR a).put F.CP_ECC_DBE_ADDR_HI_ADDR (a / 2 ^ 32)).put F.CP_ECC_DBE_ADDR_HI_VALID 1
    d.report 10 0
  else d

/-- R235: the PDU a stream sends now: its frame, and the device after RPTR advanced. -/
def Dev.avtpTake (d : Dev) (s : Nat) (ecc : Nat) : Option (List Byte × Dev) :=
  if d.avtpDue s then
    let r := d.get (F.CP_AV_CFG_RING s)
    let n := min (d.get (F.CP_AV_CFG_SEG s) * 64) (d.ringHeld r)
    let (payload, ptr) := takeBytes n (d.ring r).cut 0 (d.ring r).recs
    let frame := d.avtpFrame s payload ptr (ecc == 2)
    let d := ((d.ddrError ecc).ringAdvance r n).bump (F.CP_AV_SENT_COUNT s)
    let gap := frame.length * 8 * 1000 / max 1 (d.get (F.CP_AV_RATE_MBPS s))
    some (frame, { d with cp := { d.cp with
      avSeq := tset d.cp.avSeq s ((tget d.cp.avSeq s + 1) % 256)
      avNext := tset d.cp.avNext s (d.baseNs + gap) } })
  else none

/-! ## Register writes -/

/-- R236, R237: the usable bytes of the memory. -/
def Dev.memUsable (d : Dev) : Nat := 2 ^ 31 * 2 ^ d.get F.CP_MEM_CFG_DENSITY / 8 * 7

/-- The base of a ring. -/
def Dev.ringBase (d : Dev) (r : Nat) : Nat :=
  d.get (F.CP_RING_BASE_LO_ADDR r) * 64 + d.get (F.CP_RING_BASE_HI_ADDR r) * 2 ^ 32

/-- R229, R236: ENABLE of ring r is refused. -/
def Dev.ringCannotRun (d : Dev) (r : Nat) : Bool :=
  let b := d.ringBase r
  let n := d.ringBytes r
  !d.flag F.CP_MEM_STAT_TRAINED || b % 65536 != 0 || n == 0 || decide (d.memUsable < b + n) ||
    (List.range 16).any (fun q => q != r && d.flag (F.CP_RING_CFG_EN q) &&
      decide (b < d.ringBase q + d.ringBytes q) && decide (d.ringBase q < b + n))

/-- R229 to R234: a write of CP_RING_CFG. -/
def Dev.ringCfgWrite (d : Dev) (r : Nat) (v : Word) : Wr :=
  let en := d.flag (F.CP_RING_CFG_EN r)
  let en' := newField v (F.CP_RING_CFG_EN r) == 1
  refuseIf (newField v (F.CP_RING_CFG_FLUSH_US r) == 0) 0x0120 <|
  refuseIf (en && d.changes v (F.CP_RING_CFG_MODE r)) 0x0121 <|
  refuseIf (en && d.ringState r != 3 && d.changes v (F.CP_RING_CFG_CONSUMER r)) 0x0121 <|
  refuseIf (!en && en' && d.ringCannotRun r) 0x0120 <|
  let d := d.store (R.CP_RING_CFG r) v
  .ok (if !en && en' then (d.put (F.CP_RING_STAT_STATE r) 1).modRing r (fun g => { g with seq := 0 })
    else if en && !en' then d.put (F.CP_RING_STAT_STATE r) 0 else d)

/-- R229, R231: a write of CP_RING_CMD. -/
def Dev.ringCmdWrite (d : Dev) (r : Nat) (v : Word) : Wr :=
  let reset := newField v (F.CP_RING_CMD_RESET_PTR r) == 1
  refuseIf (reset && d.flag (F.CP_RING_CFG_EN r)) 0x0121 <|
  let d := if reset then
      ((d.put (F.CP_RING_WPTR_PTR r) 0).put (F.CP_RING_RPTR_PTR r) 0).modRing r
        (fun g => { g with seq := 0, recs := [], cut := 0 })
    else d
  let d := if newField v (F.CP_RING_CMD_REARM r) = 1 ∧ d.ringState r = 3 then d.put (F.CP_RING_STAT_STATE r) 1 else d
  .ok (if newField v (F.CP_RING_CMD_TRIGGER r) = 1 then d.ringTrigger r true else d)

/-- R225: a source code of the table. -/
def tapSourceOk (s : Nat) : Bool := decide (s ≤ 27) || (decide (32 ≤ s) && decide (s ≤ 127))

/-- R225, R231: a write of CP_TAP_CFG. -/
def Dev.tapCfgWrite (d : Dev) (t : Nat) (v : Word) : Wr :=
  refuseIf (d.flag (F.CP_TAP_CFG_EN t) &&
    (d.changes v (F.CP_TAP_CFG_SOURCE t) || d.changes v (F.CP_TAP_CFG_DIR t))) 0x0120 <|
  refuseIf (d.changes v (F.CP_TAP_CFG_SOURCE t) && !tapSourceOk (newField v (F.CP_TAP_CFG_SOURCE t))) 0x0120 <|
  refuseIf (newField v (F.CP_TAP_CFG_TRIG_ON t) == 3) 0x0120 <|
  .ok (d.store (R.CP_TAP_CFG t) v)

/-- R11, R235: another stream that runs delivers the same log ring. -/
def Dev.streamShared (d : Dev) (s r : Nat) : Bool :=
  (List.range 4).any (fun q => q != s && d.flag (F.CP_AV_CFG_EN q) && d.get (F.CP_AV_CFG_RING q) == r)

/-- R235: a write to the registers of stream s. -/
def Dev.avWrite (d : Dev) (s addr : Nat) (v : Word) : Wr :=
  let en := d.flag (F.CP_AV_CFG_EN s)
  if addr = R.CP_AV_CFG s then
    let other := (d.word addr).toNat % 2 ^ 31 != ((d.store addr v).word addr).toNat % 2 ^ 31
    let vid := newField v (F.CP_AV_CFG_VID s)
    let seg := newField v (F.CP_AV_CFG_SEG s)
    refuseIf (en && other) 0x0120 <|
    refuseIf (vid == 0 || decide (4094 < vid) || seg == 0 || decide (140 < seg)) 0x0120 <|
    refuseIf (!en && newField v (F.CP_AV_CFG_EN s) == 1 &&
      (d.get (F.CP_RING_CFG_CONSUMER (newField v (F.CP_AV_CFG_RING s))) != 3 ||
        d.streamShared s (newField v (F.CP_AV_CFG_RING s)))) 0x0120 <|
    .ok (d.store addr v)
  else
    refuseIf (en && (d.store addr v).word addr != d.word addr) 0x0120 <|
    refuseIf (addr == R.CP_AV_RATE s && (newField v (F.CP_AV_RATE_MBPS s) == 0 ||
      decide (10000 < newField v (F.CP_AV_RATE_MBPS s)))) 0x0120 <|
    .ok (d.store addr v)

/-- A write to the CP pages. -/
def Dev.cpWrite (d : Dev) (k addr : Nat) (v : Word) : Wr :=
  if k = 1 then
    let t := (addr - 0x2801040) / 8
    if addr = R.CP_TAP_CFG t then d.tapCfgWrite t v else .ok (d.store addr v)
  else if k = 2 then
    let r := (addr - 0x2802040) / 0x40
    if addr = R.CP_RING_CFG r then d.ringCfgWrite r v
    else if addr = R.CP_RING_CMD r then d.ringCmdWrite r v
    else if addr = R.CP_RING_BASE_LO r ∨ addr = R.CP_RING_BASE_HI r ∨ addr = R.CP_RING_SIZE r then
      refuseIf (d.flag (F.CP_RING_CFG_EN r) && (d.store addr v).word addr != d.word addr) 0x0121 <|
      refuseIf (addr == R.CP_RING_BASE_LO r && v.toNat % 65536 != 0) 0x0120 <|
      refuseIf (addr == R.CP_RING_SIZE r && newField v (F.CP_RING_SIZE_UNITS r) == 0) 0x0120 <|
      .ok (d.store addr v)
    else .ok (d.store addr v)
  else if k = 3 ∧ addr < 0x28030C0 then d.avWrite ((addr - 0x2803040) / 0x20) addr v
  else .ok (d.store addr v)

end Sys2Proof.Machine
end

