-- ==== Sys2Proof/Machine/Timeline.lean ====
section
/-! DEFINITION. The Timeline: snapshots, domains and their servo, time-base selections, stamp
delays, PTP maps and Echo queues (R41 to R60). -/

namespace Sys2Proof.Machine
open Sys2Proof

/-- A domain's hidden state changed. -/
def Dev.modDom (d : Dev) (i : Nat) (f : DomainSt → DomainSt) : Dev :=
  { d with tl := { d.tl with dom := tmod d.tl.dom i f } }

/-- R43, R53: how domain i has run up to now, kept before it steps or changes its rate. -/
def Dev.markDom (d : Dev) (i : Nat) : Dev :=
  let x (s : DomainSt) : DomPast := ⟨d.base40, s.val, d.domStep i, d.get (F.DOM_STATE_STEP_CNT i), d.tl.ticks⟩
  d.modDom i (fun s => { s with
    past := x s :: s.past.filter (fun y => decide (d.base40 < y.until_ + pastNs * 2 ^ 40)) })

/-- R43: a domain's value and STEP_CNT at the present tick before a step applied at it. -/
def Dev.beforeStep (d : Dev) (i : Nat) : Nat × Nat :=
  let s := tget d.tl.dom i
  match (s.past.filter (fun x => x.tick == d.tl.ticks)).getLast? with
  | some x => (x.val, x.steps)
  | none => (s.val, d.get (F.DOM_STATE_STEP_CNT i))

/-! ## Snapshots (R43) -/

/-- R43: the write of 1 to SNAP captures Base time and the domains at one tick, as they stood before a step
of that tick, or joins the snapshot in progress. -/
def Dev.takeSnap (d : Dev) : Dev :=
  if d.flag F.TL_BASE_CTRL_SNAP then d
  else
    let s : Snapshot := {
      base := d.base40
      doms := (List.range 4).map (fun i =>
        ((d.beforeStep i).1, d.domEn i, (d.beforeStep i).2)) }
    { d with tl := { d.tl with snap := some s } }.put F.TL_BASE_CTRL_SNAP 1

/-- R43: one snapshot set written from a value in 2⁻⁴⁰ ns. -/
def Dev.writeSnap (d : Dev) (s v40 : Nat) (valid : Bool) (stepCnt : Nat) : Dev :=
  let ns := v40 / 2 ^ 40
  let sec := ns / 1000000000
  let d := (d.put (F.SNAP_SEC_LO_SEC s) sec).put (F.SNAP_SEC_HI_SEC s) (sec / 2 ^ 32)
  let d := (d.put (F.SNAP_NS_NS s) (ns % 1000000000)).putFlag (F.SNAP_AUX_VALID s) valid
  (d.put (F.SNAP_AUX_STEP_CNT s) stepCnt).put (F.SNAP_AUX_FRAC s) (v40 / 2 ^ 24)

/-- R43: the five sets are written, SNAP_SEQ increments and SNAP clears. -/
def Dev.snapDone (d : Dev) : Dev :=
  match d.tl.snap with
  | none => d
  | some s =>
    let d := d.writeSnap 0 s.base true 0
    let d := (List.range 4).foldl (fun a i =>
      match s.doms[i]? with
      | none => a
      | some (v, en, c) => a.writeSnap (i + 1) v en c) d
    let d := (d.bumpWrap F.TL_BASE_STAT_SNAP_SEQ).put F.TL_BASE_CTRL_SNAP 0
    { d with tl := { d.tl with snap := none } }

/-! ## Domains (R44 to R51) -/

/-- R46: something names domain i: a time-base selection, a valid PTP_DMAP entry, a gate list
that runs or is pending, or a valid Canopy entry. -/
def Dev.domNamed (d : Dev) (i : Nat) : Bool :=
  (List.range 112).any (fun src => d.tbSel src == i + 1) ||
  d.flag (F.PTP_DMAP_VALID i) ||
  (List.range 28).any (fun p => d.get (F.TM_GCL_CTRL_DOMAIN p) == i + 1 &&
    (d.flag (F.TM_GCL_STAT_RUNNING p) || d.flag (F.TM_GCL_STAT_PENDING p))) ||
  d.canopy.wheel.any (fun e => bitOf e.2.w0 31 && bitsOf e.2.w0 24 4 == i + 1)

/-- Whether a handling is an ARM. -/
def isArm : Handling → Bool
  | .arm => true
  | .sample _ _ => false

/-- R48: whether an ARM is held or being handled; DOM_CTRL.ARM reads it. -/
def armBusy (s : DomainSt) : Bool :=
  (match s.running with
   | some (h, _, _) => isArm h
   | none => false) || s.held.any isArm

/-- R48: a sample or ARM arrives: handled at once, joined, or held in its place. -/
def Dev.arrive (d : Dev) (i : Nat) (h : Handling) : Dev :=
  let s := tget d.tl.dom i
  match s.running with
  | none => d.modDom i (fun s => { s with running := some (h, d.tl.ticks, d.get (F.DOM_STATE_STATE i)) })
  | some _ =>
    if isArm h then
      if armBusy s then d else d.modDom i (fun s => { s with held := s.held ++ [h] })
    else
      let d := if s.held.any (fun x => !isArm x) then d.bump (F.DOM_IGNORED_COUNT i) else d
      d.modDom i (fun s => { s with held := s.held.filter isArm ++ [h] })

/-- R48: the next handling begins at the tick at which the one ahead of it ends. -/
def Dev.nextHandling (d : Dev) (i ended : Nat) : Dev :=
  d.modDom i (fun s =>
    match s.held with
    | [] => { s with running := none }
    | h :: t => { s with running := some (h, ended, d.get (F.DOM_STATE_STATE i)), held := t })

/-- R50: the clamp of R45. -/
def rateLimit : Int := 0x40000000

/-- R50: SAMPLE_LOG2 as a signed number. -/
def Dev.sampleLog2 (d : Dev) (i : Nat) : Int := signedOf 8 (d.get (F.DOM_CTRL_SAMPLE_LOG2 i))

/-- R50: the hardware PI servo on a sample in 2⁻¹⁶ ns. u = n / q; the rate and the kept
integrator are computed on exact fractions. -/
def Dev.servo (d : Dev) (i : Nat) (s16 : Int) : Dev :=
  let st := tget d.tl.dom i
  let kp : Int := 2 ^ d.get (F.DOM_CTRL_KP_SHIFT i)
  let ki : Int := 2 ^ d.get (F.DOM_CTRL_KI_SHIFT i)
  let n : Int := s16 * 128
  let q : Int := 2 ^ 16 * 1000000000 * 2 ^ (d.sampleLog2 i + 7).toNat
  -- integrator and rate over the denominators q · ki · 2^64 and q · kp · ki · 2^64
  let inum : Int := st.integ * q * ki + n * 2 ^ 64
  let iden : Int := q * ki
  let rnum : Int := -(n * ki * 2 ^ 64 + inum * kp) * 2 ^ 40
  let rden : Int := q * kp * ki * 2 ^ 64
  let rate := roundDiv rnum rden
  if rateLimit < rate ∨ rate < -rateLimit then
    let r : Int := if rate < 0 then -rateLimit else rateLimit
    -- the integrator value that gives the clamped rate
    let integ := quantDiv (-(r * q * kp + n * 2 ^ 40) * 2 ^ 24) (q * kp)
    let d1 := if st.rate = r then d else d.raise (.tl (1 + i)) 5
    (d1.markDom i).modDom i (fun s => { s with rate := r, integ := integ })
  else (d.markDom i).modDom i (fun s => { s with rate := rate, integ := quantDiv inum iden })

/-- The magnitude of a sample in 2⁻¹⁶ ns. -/
def sampleMag (s16 : Int) : Nat := s16.natAbs

/-- R47: the state that a handling enters. A domain that has been disabled since stays OFF (R46). -/
def Dev.enterState (d : Dev) (i st bit : Nat) : Dev :=
  if d.domEn i then (d.put (F.DOM_STATE_STATE i) st).raise (.tl (1 + i)) bit else d

/-- R47: a step raises STEPPED and leads to TRACKING; a domain that has been disabled since stays OFF (R46). -/
def Dev.stepState (d : Dev) (i : Nat) : Dev :=
  (if d.domEn i then d.put (F.DOM_STATE_STATE i) 2 else d).raise (.tl (1 + i)) 1

/-- R47, R49, R50: what a sample does when its handling ends, by the state in which its handling began.
`before` and `after` tell Canopy of a step (R71). -/
def Dev.handleSample (d : Dev) (i st : Nat) (s16 : Int) (who : Init) (before after : Dev → Dev) : Dev :=
  if st = 1 then
    let v : Int := (tget d.tl.dom i).val - s16 * 2 ^ 24
    if v < 0 then d.recordErr (.tl (1 + i)) (initCode who) (R.DOM_SAMPLE_GO i) 0x0103
    else
      let d := ((before d).markDom i).modDom i (fun s => { s with val := v.toNat, integ := -s.rate * 2 ^ 24 })
      let d := (d.bumpWrap (F.DOM_STATE_STEP_CNT i)).bump (F.DOM_ACCEPTED_COUNT i)
      after (d.stepState i)
  else if st = 2 then
    let d := d.bump (F.DOM_ACCEPTED_COUNT i)
    let d := if d.flag (F.DOM_CTRL_SERVO i) then d else d.servo i s16
    let run := if sampleMag s16 ≤ d.get (F.DOM_LOCK_LOCK_THRESH i) * 2 ^ 16
      then satAdd 4 (d.get (F.DOM_STATE_LOCK_RUN i)) 1 else 0
    let d := d.put (F.DOM_STATE_LOCK_RUN i) run
    if d.get (F.DOM_LOCK_LOCK_SAMPLES i) ≤ run then
      d.enterState i 3 2
    else d
  else if st = 3 then
    if sampleMag s16 ≤ d.get (F.DOM_JUMP_LIMIT_NS i) * 2 ^ 16 then
      let d := d.bump (F.DOM_ACCEPTED_COUNT i)
      let d := if d.flag (F.DOM_CTRL_SERVO i) then d else d.servo i s16
      d.put (F.DOM_STATE_REFUSE_RUN i) 0
    else
      let d := (d.bump (F.DOM_REFUSED_COUNT i)).bumpBy (F.DOM_STATE_REFUSE_RUN i) 1
      let d := d.raise (.tl (1 + i)) 3
      if 8 ≤ d.get (F.DOM_STATE_REFUSE_RUN i) then
        d.enterState i 4 4
      else d
  else if st = 4 then d.bump (F.DOM_IGNORED_COUNT i)
  else d

/-- R47, R51: an ARM's handling ends: ARMED, the runs back to 0, the integrator preloaded. -/
def Dev.handleArm (d : Dev) (i : Nat) : Dev :=
  let d := (d.put (F.DOM_STATE_REFUSE_RUN i) 0).put (F.DOM_STATE_LOCK_RUN i) 0
  let d := d.put (F.DOM_STATE_STATE i) 1
  d.modDom i (fun s => { s with integ := -s.rate * 2 ^ 24 })

/-- R46, R48, R51: what a write of DOM_CTRL that is taken does. A sample whose handling has begun completes
though EN falls; an ARM and what is held are dropped. -/
def Dev.domCtrlTaken (d : Dev) (i : Nat) (v : Word) : Dev :=
  let en := d.domEn i
  let servo := d.flag (F.DOM_CTRL_SERVO i)
  let d := (d.store (R.DOM_CTRL i) v).put (F.DOM_CTRL_ARM i) 0
  let d := if servo && !d.flag (F.DOM_CTRL_SERVO i)
    then d.modDom i (fun s => { s with integ := -s.rate * 2 ^ 24 }) else d
  let d :=
    if !en && d.domEn i then
      let d := (d.put (F.DOM_STATE_STATE i) 1).put (F.DOM_STATE_LOCK_RUN i) 0
      let d := d.put (F.DOM_STATE_REFUSE_RUN i) 0
      d.modDom i (fun s => { s with val := d.base40, past := [] })
    else if en && !d.domEn i then
      (d.put (F.DOM_STATE_STATE i) 0).modDom i (fun s => { s with
        running := s.running.filter (fun x => !isArm x.1), held := [] })
    else d
  if en && d.domEn i && newField v (F.DOM_CTRL_ARM i) == 1 then d.arrive i .arm else d

/-- R45 to R47: a write of DOM_CTRL. -/
def Dev.domCtrlWrite (d : Dev) (i : Nat) (v : Word) : Wr :=
  let slog := signedOf 8 (newField v (F.DOM_CTRL_SAMPLE_LOG2 i))
  refuseIf (d.changes v (F.DOM_CTRL_SAMPLE_LOG2 i) && (decide (slog < -7) || decide (3 < slog))) 0x0103 <|
  refuseIf (newField v (F.DOM_CTRL_ARM i) == 1 && !d.domEn i) 0x0104 <|
  refuseIf (d.domEn i && newField v (F.DOM_CTRL_EN i) == 0 && d.domNamed i) 0x0105 <|
  .ok (d.domCtrlTaken i v)

/-- R47: the sample held in the sample registers, in 2⁻¹⁶ ns. -/
def Dev.sampleHeld (d : Dev) (i : Nat) : Int :=
  let sec := signedOf 48 (d.get (F.DOM_SAMPLE_SEC_LO_SEC i) + 2 ^ 32 * d.get (F.DOM_SAMPLE_SEC_HI_SEC i))
  (sec * 1000000000 + d.get (F.DOM_SAMPLE_NS_NS i)) * 2 ^ 16 + d.get (F.DOM_SAMPLE_FRAC_FRAC i)

/-- R47 to R49: a write of DOM_SAMPLE_GO. -/
def Dev.sampleGoWrite (d : Dev) (i : Nat) (who : Init) (v : Word) : Wr :=
  if newField v (F.DOM_SAMPLE_GO_SUBMIT i) = 0 then .ok d
  else
    refuseIf (decide (1000000000 ≤ d.get (F.DOM_SAMPLE_NS_NS i))) 0x0103 <|
    refuseIf (!d.domEn i) 0x0104 <|
    .ok (d.arrive i (.sample (d.sampleHeld i) who))

/-- R51: a write of DOM_RATE_LO. -/
def Dev.rateLoWrite (d : Dev) (i : Nat) (v : Word) : Wr :=
  refuseIf (!d.flag (F.DOM_CTRL_SERVO i)) 0x0101 <|
  .ok (d.modDom i (fun s => { s with latch := some v.toNat }))

/-- R51: the RATE that a write of DOM_RATE_HI applies. With nothing latched the low half stays as
it is in force. -/
def Dev.rateFrom (d : Dev) (i : Nat) (v : Word) : Int :=
  let s := tget d.tl.dom i
  signedOf 48 (v.toNat % 2 ^ 16 * 2 ^ 32 + (s.latch.getD (unsignedOf 32 s.rate)))

/-- R45, R51: a write of DOM_RATE_HI. -/
def Dev.rateHiWrite (d : Dev) (i : Nat) (v : Word) : Wr :=
  let rate := d.rateFrom i v
  refuseIf (!d.flag (F.DOM_CTRL_SERVO i)) 0x0101 <|
  refuseIf (decide (rateLimit < rate) || decide (rate < -rateLimit)) 0x0102 <|
  .ok ((d.markDom i).modDom i (fun s => { s with rate := rate, latch := none }))

/-- A write to a domain page. -/
def Dev.domPageWrite (d : Dev) (i : Nat) (who : Init) (addr : Nat) (v : Word) : Wr :=
  if addr = R.DOM_CTRL i then d.domCtrlWrite i v
  else if addr = R.DOM_RATE_LO i then d.rateLoWrite i v
  else if addr = R.DOM_RATE_HI i then d.rateHiWrite i v
  else if addr = R.DOM_SAMPLE_GO i then d.sampleGoWrite i who v
  else if addr = R.DOM_JUMP_LIMIT i then refuseIf (v == 0) 0x0103 (.ok (d.store addr v))
  else if addr = R.DOM_LOCK i then
    let n := newField v (F.DOM_LOCK_LOCK_SAMPLES i)
    refuseIf (n == 0 || decide (16 ≤ n)) 0x0103 (.ok (d.store addr v))
  else .ok (d.store addr v)

/-! ## Selections, delays and PTP maps (R53, R56, R57) -/

/-- R53: a write of TL_TB_SEL register j: each selection that changes must be a code of R53 and
name an enabled domain. -/
def Dev.tbSelWrite (d : Dev) (addr : Nat) (v : Word) : Wr :=
  let changed := (List.range 8).filter (fun k => wordBits (d.word addr) (4 * k) 4 != wordBits v (4 * k) 4)
  refuseIf (changed.any (fun k => decide (4 < wordBits v (4 * k) 4))) 0x0103 <|
  refuseIf (changed.any (fun k => wordBits v (4 * k) 4 != 0 && !d.domEn (wordBits v (4 * k) 4 - 1))) 0x0104 <|
  .ok ((changed.foldl (fun (a : Dev) k =>
    let src := 8 * ((addr - R.TL_TB_SEL 0) / 4) + k
    { a with tl := { a.tl with selPast := pastAdd a.tl.selPast src d.now64 (d.tbSel src) } }) d).store addr v)

/-- R56: the delay entry that DLY_SEL selects. -/
def Dev.dlySelected (d : Dev) : Nat :=
  dlyIndex (d.get F.DLY_SEL_DIR) (d.get F.DLY_SEL_SPEED) (d.get F.DLY_SEL_PORT)

/-- A write to TL page 6. -/
def Dev.tl6Write (d : Dev) (addr : Nat) (v : Word) : Wr :=
  if addr = R.DLY_SEL then
    refuseIf (!hasSpeed (newField v F.DLY_SEL_SPEED) (newField v F.DLY_SEL_PORT)) 0x0103
      (.ok (d.store addr v))
  else if addr = R.DLY_USER then
    let i := d.dlySelected
    .ok { d with tl := { d.tl with
      dlyUser := tset d.tl.dlyUser i (v.toNat % 2 ^ 16)
      dlyPast := pastAdd d.tl.dlyPast i d.now64 (tget d.tl.dlyUser i) } }
  else if addr < R.DLY_SEL then d.tbSelWrite addr v
  else .ok (d.store addr v)

/-- R57: a write to TL page 7. PTP_DMAP of a domain with EN = 0 takes no change (R52). -/
def Dev.tl7Write (d : Dev) (addr : Nat) (v : Word) : Wr :=
  match findBelow 4 (fun i => addr == R.PTP_DMAP i) with
  | some i =>
    refuseIf (newField v (F.PTP_DMAP_ONESTEP i) == 1 && newField v (F.PTP_DMAP_TC i) == 1) 0x0103 <|
    refuseIf (!d.domEn i && (d.store addr v).word addr != d.word addr) 0x0104 <|
    .ok (d.store addr v)
  | none => .ok (d.store addr v)

/-! ## Echo queues (R59, R60) -/

/-- An Echo queue changed. -/
def Dev.modEcho (d : Dev) (p : Nat) (f : EchoQueue → EchoQueue) : Dev :=
  { d with tl := { d.tl with echo := tmod d.tl.echo p f } }

/-- R60: an entry is stored, or discarded when the queue holds 64. What a POP of the same clock needs to
store it after all is kept. -/
def Dev.echoPush (d : Dev) (p : Nat) (kind : Bool) (msgType ptpDom tag stamp : Nat) : Dev :=
  let q := tget d.tl.echo p
  let e : EchoEntry := { gap := q.lostRun != 0, kind, lostRun := min q.lostRun 31, msgType, ptpDom, tag, stamp }
  if q.entries.length < 64 then
    d.modEcho p (fun q => { q with entries := q.entries ++ [e], lostRun := 0 })
  else
    (d.bump (F.ECHO_LOST_COUNT p)).modEcho p (fun q => { q with
      lostRun := q.lostRun + 1, late := some (e, d.tl.ticks, d.get (F.ECHO_LOST_COUNT p), q.lostRun) })

/-- R60: the head entry is removed. An entry that found the queue full in the same clock is stored after
all. -/
def Dev.echoPop (d : Dev) (p : Nat) : Dev :=
  let q := tget d.tl.echo p
  match q.late with
  | some (e, t, lost, _) =>
    if t = d.tl.ticks ∧ q.entries.length = 64 then
      (d.put (F.ECHO_LOST_COUNT p) lost).modEcho p (fun q => { q with
        entries := q.entries.drop 1 ++ [e], lostRun := 0, late := none })
    else d.modEcho p (fun q => { q with entries := q.entries.drop 1 })
  | none => d.modEcho p (fun q => { q with entries := q.entries.drop 1 })

/-- R60: a write of ECHO_POP. -/
def Dev.echoPopWrite (d : Dev) (p : Nat) (who : Init) (v : Word) : Wr :=
  if newField v (F.ECHO_POP_POP p) = 0 then .ok d
  else
    refuseIf (!ownerIs (d.get (F.ECHO_CFG_OWNER p)) who) 0x0106 <|
    .ok (d.echoPop p)

/-- A write to TL page 5. -/
def Dev.tl5Write (d : Dev) (who : Init) (addr : Nat) (v : Word) : Wr :=
  let p := (addr - 0x405040) / 0x20
  if addr = R.ECHO_CFG p then
    refuseIf (d.flag (F.ECHO_CFG_EN p) && d.changes v (F.ECHO_CFG_OWNER p)) 0x0106
      (.ok (d.store addr v))
  else if addr = R.ECHO_POP p then d.echoPopWrite p who v
  else .ok (d.store addr v)

/-- A write to TL pages 0–7. -/
def Dev.tlWrite (d : Dev) (k : Nat) (who : Init) (addr : Nat) (v : Word) : Wr :=
  if k = 0 then
    if addr = R.TL_BASE_CTRL then
      .ok (if newField v F.TL_BASE_CTRL_SNAP = 1 then d.takeSnap else d)
    else .ok (d.store addr v)
  else if k < 5 then d.domPageWrite (k - 1) who addr v
  else if k = 5 then d.tl5Write who addr v
  else if k = 6 then d.tl6Write addr v
  else d.tl7Write addr v

/-- A row that is a write of a TL register: judged under the page's lock, then as `tlWrite`. -/
def Dev.tlRow (d : Dev) (i : Init) (k addr : Nat) (v : Word) : Dev :=
  d.busWrite i addr v true (judged addr v (fun d => d.tlWrite k i addr v))

end Sys2Proof.Machine
end

