-- ==== Sys2Proof/Machine/Canopy.lean ====
section
/-! DEFINITION. Canopy: the event wheel, trigger outputs, capture inputs and phase domains
(R62 to R77). What a release does to CAN, gate lists and Grove is in Machine/CanopyRelease.lean. -/

namespace Sys2Proof.Machine
open Sys2Proof

/-! ## Wheel entries (R62) -/

def wheelValid (e : WheelEntry) : Bool := bitOf e.w0 31
def wheelPeriodic (e : WheelEntry) : Bool := bitOf e.w0 30
def wheelLatePol (e : WheelEntry) : Bool := bitOf e.w0 29
def wheelBase (e : WheelEntry) : Nat := bitsOf e.w0 24 4
def wheelAction (e : WheelEntry) : Nat := bitsOf e.w0 20 4
def wheelTarget (e : WheelEntry) : Nat := bitsOf e.w0 0 12
def wheelCount (e : WheelEntry) : Nat := bitsOf e.w5 16 16
/-- A phase entry names P0–P3. -/
def wheelPhase (e : WheelEntry) : Bool := decide (8 ≤ wheelBase e)
/-- The period of a time entry in 2⁻¹⁶ ns. -/
def wheelPeriod (e : WheelEntry) : Nat := e.w4 * 2 ^ 16 + bitsOf e.w5 0 16
/-- The instant that words 1–3 of a time entry name, in 2⁻¹⁶ ns. -/
def wheelInstant (e : WheelEntry) : Nat :=
  ((e.w1 + bitsOf e.w2 0 16 * 2 ^ 32) * 1000000000 + bitsOf e.w3 0 30) * 2 ^ 16 + bitsOf e.w2 16 16
/-- The status word 7. -/
def wheelStatus (e : WheelEntry) : Nat :=
  boolNat e.late * 2 ^ 31 + boolNat e.noLock * 2 ^ 30 + boolNat (e.committed != 0) * 2 ^ 29 +
    e.missed * 2 ^ 16 + e.released
/-- Word k of an entry as READ copies it. -/
def wheelWord (e : WheelEntry) (k : Nat) : Nat :=
  (([e.w0, e.w1, e.w2, e.w3, e.w4, e.w5, e.w6, wheelStatus e] : List Nat)[k]?).getD 0

def Dev.entry (d : Dev) (i : Nat) : WheelEntry := tget d.canopy.wheel i
def Dev.setEntry (d : Dev) (i : Nat) (e : WheelEntry) : Dev :=
  { d with canopy := { d.canopy with wheel := tset d.canopy.wheel i e } }
def Dev.modEntry (d : Dev) (i : Nat) (f : WheelEntry → WheelEntry) : Dev := d.setEntry i (f (d.entry i))

/-- R70: an entry that has used its last instant is no longer in use. -/
def clearValid (e : WheelEntry) : WheelEntry := { e with w0 := clrBit e.w0 31, last := false }

/-- R71, R275: Canopy releases nothing in Fault Hold (M11) and in Secure Start (M3). -/
def Dev.quiet (d : Dev) : Bool := d.mode == 11 || d.mode == 3

/-- R71: a release of an action is counted MISSED in the present mode: any where Canopy is quiet, GROVE also
in Activation (M8) and Limp (M7). -/
def Dev.missesAction (d : Dev) (action : Nat) : Bool :=
  d.quiet || (action == 4 && (d.mode == 8 || d.mode == 7))

/-! ## Counting releases and misses (R66, R70) -/

/-- n instants of an entry are counted MISSED; the status word only if the entry still has the
contents that made them. -/
def Dev.countMissed (d : Dev) (i version n : Nat) : Dev :=
  let d := if (d.entry i).version = version
    then d.modEntry i (fun e => { e with missed := min 255 (e.missed + n) }) else d
  (d.bumpBy F.CNP_MISSED_COUNT n).raise (.tl 8) 2

/-- R326: the wheel entry that holds an uncorrectable error is cleared and counted MISSED. -/
def Dev.wheelLost (d : Dev) (i : Nat) : Dev :=
  let e := d.entry i
  let d := if wheelValid e then d.countMissed i e.version 1 else d
  d.modEntry i (fun e => { clearValid e with version := e.version + 1, committed := 0 })

/-- R324, R326: wheel entry i is read: whether it could be, and the device after it. -/
def Dev.wheelRead (d : Dev) (i : Nat) : Bool × Dev :=
  match d.errIn 8 0 (· == i) with
  | none => (true, d)
  | some e => (false, (d.reportErr e).wheelLost i)

/-- A release is made or missed: status word, page counters, and VALID after the last instant. -/
def Dev.outcome (d : Dev) (i version : Nat) (ok late final : Bool) : Dev :=
  let same := (d.entry i).version = version
  let d :=
    if ok then
      let d := if same then
          d.modEntry i (fun e => { e with released := (e.released + 1) % 2 ^ 16, late := late })
        else d
      if late then (d.bump F.CNP_LATE_COUNT).raise (.tl 8) 1 else d
    else d.countMissed i version 1
  if same ∧ final then d.modEntry i clearValid else d

/-- A committed release of the entry's present contents is made or dropped. -/
def Dev.uncommit (d : Dev) (i version : Nat) : Dev :=
  if (d.entry i).version = version then d.modEntry i (fun e => { e with committed := e.committed - 1 })
  else d

/-- R70: n instants of an entry are used: COUNT falls, the next instant moves on, and the last
one is marked. -/
def useInstants (e : WheelEntry) (n : Nat) : WheelEntry :=
  if wheelPeriodic e then
    let c := wheelCount e
    { e with
      inst := e.inst + n * wheelPeriod e
      w5 := if c = 0 then e.w5 else putBits e.w5 16 16 (c - n)
      last := c != 0 && decide (c ≤ n) }
  else { e with last := true }

/-! ## Trigger outputs (R72) -/

def Dev.trigSt (d : Dev) (k : Nat) : TrigSt := tget d.canopy.trig k
def Dev.modTrig (d : Dev) (k : Nat) (f : TrigSt → TrigSt) : Dev :=
  { d with canopy := { d.canopy with trig := tmod d.canopy.trig k f } }

/-- A trigger output is driven to a level. -/
def Dev.setTrig (d : Dev) (k : Nat) (lvl : Bool) : Dev :=
  if (d.trigSt k).level = lvl then d
  else (d.modTrig k (fun t => { t with level := lvl })).emit (.trig k lvl)

/-- R72: the idle level: low with EN = 0 and where Canopy is quiet, else POL. -/
def Dev.trigIdle (d : Dev) (k : Nat) : Bool :=
  d.flag (F.TRG_CFG_EN k) && d.flag (F.TRG_CFG_POL k) && !d.quiet

/-- The OFFSET of a trigger output in 2⁻⁶ ns. -/
def Dev.trigOffset (d : Dev) (k : Nat) : Int := signedOf 32 (d.get (F.TRG_OFFSET_OFFSET k))

/-- R72: two leading edges are too close on an output. -/
def tooClose (width a b : Nat) : Bool := decide (max a b - min a b < (width + 4) * 64)

/-- A pulse placed among the committed ones, in order of leading edge. -/
def insertPulse (p : Pulse) : List Pulse → List Pulse
  | [] => [p]
  | q :: t => if p.edge < q.edge then p :: q :: t else q :: insertPulse p t

/-- R63, R72: a TRIG release is committed as a pulse, dropped as an overlap, or missed because
the output is out of service. -/
def Dev.commitTrig (d : Dev) (i : Nat) (edge : Nat) (late final : Bool) : Dev :=
  let e := d.entry i
  let k := wheelTarget e
  let t := d.trigSt k
  let w := d.get (F.TRG_CFG_WIDTH_NS k)
  if d.quiet || !d.flag (F.TRG_CFG_EN k) then d.outcome i e.version false late final
  else if 4 ≤ t.pulses.length || t.pulses.any (fun q => tooClose w q.edge edge) ||
      (match t.lastEdge with
       | some x => tooClose w x edge
       | none => false) then
    let d := (d.bump (F.TRG_STAT_OVERLAP k)).raise (.tl 9) 1
    d.outcome i e.version false late final
  else
    let d := d.modTrig k (fun t => { t with
      pulses := insertPulse { edge, index := i, version := e.version, late, final } t.pulses })
    let d := d.put (F.TRG_STAT_COMMITTED k) (t.pulses.length + 1)
    d.modEntry i (fun e => { e with committed := e.committed + 1 })

/-- R72: every committed pulse of an output is cancelled and counted MISSED, a pulse in progress
ends, and the output takes its idle level. -/
def Dev.cancelPulses (d : Dev) (k : Nat) : Dev :=
  let ps := (d.trigSt k).pulses
  let d := d.modTrig k (fun t => { t with pulses := [], ends := none })
  let d := d.put (F.TRG_STAT_COMMITTED k) 0
  let d := ps.foldl (fun a p => (a.uncommit p.index p.version).outcome p.index p.version false false p.final) d
  d.setTrig k (d.trigIdle k)

/-- R71: the entry into Fault Hold cancels the pulses of every output. -/
def Dev.canopyHold (d : Dev) : Dev := (List.range 16).foldl (fun a k => a.cancelPulses k) d

/-- R72: the leading edge of the first committed pulse, once its instant has come. -/
def Dev.pulseStart (d : Dev) (k : Nat) : Dev :=
  match (d.trigSt k).pulses with
  | [] => d
  | p :: rest =>
    if p.edge ≤ d.now64 then
      let d := d.modTrig k (fun t => { t with
        pulses := rest, lastEdge := some p.edge, ends := some (p.edge + d.get (F.TRG_CFG_WIDTH_NS k) * 64) })
      let d := (d.put (F.TRG_STAT_COMMITTED k) rest.length).bumpWrap (F.TRG_STAT_PULSES k)
      let d := d.setTrig k (!d.flag (F.TRG_CFG_POL k))
      (d.uncommit p.index p.version).outcome p.index p.version true p.late p.final
    else d

/-- R72: the trailing edge of the pulse in progress, once its instant has come. -/
def Dev.pulseEnd (d : Dev) (k : Nat) : Dev :=
  match (d.trigSt k).ends with
  | none => d
  | some t =>
    if t ≤ d.now64 then (d.modTrig k (fun s => { s with ends := none })).setTrig k (d.trigIdle k)
    else d

/-! ## Time entries (R69, R70) -/

/-- The value of a time base, in 2⁻⁴⁰ ns, `ahead` ns after the present tick. -/
def Dev.tbAhead40 (d : Dev) (tb : Nat) (ahead : Nat) : Int :=
  if tb = 0 then ((d.base40 + ahead * 2 ^ 40 : Nat) : Int)
  else ((tget d.tl.dom (tb - 1)).val : Int) + ahead * d.domStep (tb - 1)

/-- The release instant of a time entry, in 2⁻⁴⁰ ns of its base: TRIG adds OFFSET (R63). -/
def Dev.release40 (d : Dev) (e : WheelEntry) : Int :=
  (e.inst : Int) * 2 ^ 24 + (if wheelAction e = 1 then d.trigOffset (wheelTarget e) * 2 ^ 34 else 0)

/-- R70: how many of an entry's next instants are past. For TRIG those with less than 200 ns to
their release. -/
def Dev.pastCount (d : Dev) (e : WheelEntry) : Nat :=
  let trig := wheelAction e == 1
  let lim := d.tbAhead40 (wheelBase e) (if trig then 200 else 0) - boolNat trig
  let gap := lim - d.release40 e
  if gap < 0 then 0
  else if wheelPeriodic e then
    let n := (gap / ((wheelPeriod e * 2 ^ 24 : Nat) : Int)).toNat + 1
    if wheelCount e = 0 then n else min n (wheelCount e)
  else 1

/-- R70: the past instants of an entry that becomes valid, or has moved to its next instant. -/
def Dev.armEntry (d : Dev) (i : Nat) : Dev :=
  let e := d.entry i
  if !wheelValid e || e.last || wheelPhase e then d
  else
    let n := d.pastCount e
    if n = 0 then d
    else if wheelLatePol e then
      let e1 := useInstants e n
      (d.setEntry i (if e1.last then clearValid e1 else e1)).countMissed i e.version n
    else
      let e1 := useInstants e 1
      let d := d.setEntry i e1
      let d := if wheelAction e = 1 then d.commitTrig i (d.now64 + 200 * 64) true e1.last
        else
          let r : LateRelease := {
            index := i, version := e.version, action := wheelAction e
            target := wheelTarget e, param := e.w6, from_ := d.tl.ticks + 1, late := true, final := e1.last }
          { d with canopy := { d.canopy with lateq := d.canopy.lateq ++ [r] } }.modEntry i
            (fun e => { e with committed := e.committed + 1 })
      if n ≤ 1 then d
      else
        let e2 := useInstants (d.entry i) (n - 1)
        (d.setEntry i (if e2.last then clearValid e2 else e2)).countMissed i e.version (n - 1)

/-- R71: after a step of domain i every entry on it is looked at again, in index order. -/
def Dev.canopyStep (d : Dev) (dm : Nat) : Dev :=
  d.canopy.wheel.foldl (fun a x => if wheelValid x.2 && wheelBase x.2 == dm + 1 then a.armEntry x.1 else a) d

/-! ## Phase domains (R74 to R77) -/

def Dev.phaseSt (d : Dev) (p : Nat) : PhaseSt := tget d.canopy.phase p
def Dev.modPhase (d : Dev) (p : Nat) (f : PhaseSt → PhaseSt) : Dev :=
  { d with canopy := { d.canopy with phase := tmod d.canopy.phase p f } }

/-- R74: counts per revolution. -/
def Dev.phaseC (d : Dev) (p : Nat) : Nat :=
  if d.flag (F.PH_CTRL_SRC p) then 1 else d.get (F.PH_CTRL_CPR p)

/-- R77: the length of one revolution, t[k] − t[k−C], in 125 ps. -/
def Dev.phaseRev (d : Dev) (p : Nat) : Option Nat :=
  let s := d.phaseSt p
  match s.edges[0]?, s.edges[d.phaseC p]? with
  | some a, some b => some (a - b)
  | _, _ => none

/-- R77: the predicted crossing of an angle: instant in 2⁻¹⁶ ns and index count. -/
def Dev.crossing (d : Dev) (p angle : Nat) : Option (Nat × Nat) :=
  let s := d.phaseSt p
  match s.anchor, d.phaseRev p with
  | some tk, some w =>
    let c := d.phaseC p
    let f := (angle + 2 ^ 16 - d.get (F.PH_ZERO_ZERO p)) % 2 ^ 16
    let den := 2 ^ 16 * c
    let num := (f * c + den - s.pos * 2 ^ 16 % den) % den
    let rev := d.get (F.PH_REV_COUNT p) + (if f * c < s.pos * 2 ^ 16 then 1 else 0)
    some (tk * 8192 + num * w * 8192 / den, rev)
  | _, _ => none

/-- R63: the release instant of a crossing, in 2⁻¹⁶ ns. -/
def Dev.crossRelease (d : Dev) (e : WheelEntry) (t : Nat) : Int :=
  (t : Int) + (if wheelAction e = 1 then d.trigOffset (wheelTarget e) * 2 ^ 10 else 0)

/-- R76, R77: the crossing of a phase entry that Canopy predicts: at most 1 ms ahead, at or after
its index count, its release at or after its floor. -/
def Dev.predict (d : Dev) (e : WheelEntry) : Option (Nat × Nat) :=
  let p := wheelBase e - 8
  if d.get (F.PH_STAT_STATE p) = 2 then
    match d.crossing p (bitsOf e.w1 0 16) with
    | some (t, rev) =>
      if t ≤ d.base40 / 2 ^ 24 + 1000000 * 2 ^ 16 ∧ e.minRev ≤ rev ∧ (e.floor : Int) ≤ d.crossRelease e t
      then some (t, rev) else none
    | none => none
  else none

/-- R77: the crossing of a phase entry that is predicted now: the one that stands, or that has come within
the horizon since the latest edge. -/
def Dev.predOf (d : Dev) (e : WheelEntry) : Option (Nat × Nat) :=
  match e.pred with
  | some x => some x
  | none => d.predict e

/-- R77: whether an entry's prediction is past its commit point and stands. -/
def Dev.predStands (d : Dev) (e : WheelEntry) : Bool :=
  match e.pred with
  | none => false
  | some (t, _) =>
    decide (d.crossRelease e t ≤ ((d.base40 / 2 ^ 24 + (if wheelAction e = 1 then 2000 * 2 ^ 16 else 0) : Nat) : Int))

/-- Every valid entry of phase domain p changed. -/
def Dev.phaseEntries (d : Dev) (p : Nat) (f : Dev → WheelEntry → WheelEntry) : Dev :=
  d.canopy.wheel.foldl (fun a x =>
    if wheelValid x.2 && wheelBase x.2 == 8 + p then a.setEntry x.1 (f a x.2) else a) d

/-- R77: the prediction with the latest edge. The formula finds the crossing ahead of that edge: where this is
another crossing than the predicted one, the shaft has passed the angle and the prediction stands. -/
def Dev.predAgain (d : Dev) (e : WheelEntry) : Option (Nat × Nat) :=
  match e.pred, d.crossing (wheelBase e - 8) (bitsOf e.w1 0 16) with
  | some x, some y => if x.2 % 2 ^ 32 = y.2 % 2 ^ 32 then d.predict e else some x
  | _, _ => d.predict e

/-- R77: the predictions of phase domain p found anew; one past its commit point stands. -/
def Dev.predictBy (d : Dev) (p : Nat) (f : Dev → WheelEntry → Option (Nat × Nat)) : Dev :=
  d.phaseEntries p (fun a e => if a.predStands e then e else { e with pred := f a e })

/-- R77: predictions are recomputed with the latest edge. -/
def Dev.repredict (d : Dev) (p : Nat) : Dev := d.predictBy p Dev.predAgain

/-- R76: the phase domain locks: held entries are no longer held and fire at a crossing whose
release lies at least 200 ns ahead. -/
def Dev.phaseLocked (d : Dev) (p : Nat) : Dev :=
  let fl := d.base40 / 2 ^ 24 + 200 * 2 ^ 16
  (d.phaseEntries p (fun _ e => { e with noLock := false, floor := fl })).repredict p

/-- R76: the phase domain is not LOCKED: its entries are held. A release past its commit point still
occurs. -/
def Dev.phaseHeld (d : Dev) (p : Nat) : Dev :=
  let newly := d.canopy.wheel.any (fun x => wheelValid x.2 && wheelBase x.2 == 8 + p && !x.2.noLock)
  let d := d.phaseEntries p (fun a e => { e with noLock := true, pred := if a.predStands e then e.pred else none })
  if newly then d.raise (.tl 8) 4 else d

/-- R75: a loss of lock, or a loss event in ACQ. -/
def Dev.phaseLoss (d : Dev) (p cause : Nat) : Dev :=
  let st := d.get (F.PH_STAT_STATE p)
  let d := (d.put (F.PH_STAT_CAUSE p) cause).put (F.PH_STAT_FULL_PERIODS p) 0
  if st = 2 then
    let d := (d.put (F.PH_STAT_STATE p) 1).bump (F.PH_LOSS_COUNT p)
    (d.raise (.tl (11 + p)) 2).phaseHeld p
  else d

/-- R74, R75: an encoder count edge. -/
def Dev.countEdge (d : Dev) (p : Nat) (forward : Bool) (t : Nat) : Dev :=
  let c := d.phaseC p
  if !d.flag (F.PH_CTRL_EN p) || d.flag (F.PH_CTRL_SRC p) then d
  else if forward then
    ((d.repredict p).modPhase p (fun s => { s with
      edges := (t :: s.edges).take (c + 1), anchor := some t, pos := (s.pos + 1) % c
      counts := s.counts + 1 })).repredict p
  else
    let d := (d.repredict p).modPhase p (fun s => { s with
      edges := [], anchor := some t, pos := (s.pos + c - 1) % c, reverse := true })
    d.phaseLoss p 3

/-- R75: a period that ends at an index edge: 0 full, else the cause it fails with, in the order of
the LOCKED row. -/
def Dev.periodCause (d : Dev) (p len : Nat) : Nat :=
  let s := d.phaseSt p
  let countOk := d.flag (F.PH_CTRL_SRC p) || (s.counts == d.get (F.PH_CTRL_CPR p) && !s.reverse)
  let driftOk := match s.lastFull with
    | none => true
    | some l => decide ((max len l - min len l) * 1000000 ≤ d.get (F.PH_DRIFT_DRIFT_PPM p) * l)
  if !countOk then 2 else if !driftOk then 4
  else if len < 5000000 * 8 ∨ 1000000000 * 8 < len then 5 else 0

/-- R75: the period that ends is judged. -/
def Dev.judgePeriod (d : Dev) (p len : Nat) : Dev :=
  let cause := d.periodCause p len
  let st := d.get (F.PH_STAT_STATE p)
  if cause = 0 then
    let d := (d.put (F.PH_PERIOD_NS p) (len / 8)).modPhase p (fun s => { s with lastFull := some len })
    if st = 1 then
      let n := d.get (F.PH_STAT_FULL_PERIODS p) + 1
      let d := d.put (F.PH_STAT_FULL_PERIODS p) n
      if n = 2 then (d.put (F.PH_STAT_STATE p) 2).raise (.tl (11 + p)) 1 else d
    else d
  else d.phaseLoss p (if st = 2 then cause else 6)

/-- R74, R75: an index edge. -/
def Dev.indexEdge (d : Dev) (p : Nat) (t : Nat) : Dev :=
  if !d.flag (F.PH_CTRL_EN p) then d
  else
    let was := d.get (F.PH_STAT_STATE p)
    let d := d.repredict p
    let d := match (d.phaseSt p).lastIndex with
      | none => d
      | some t0 => d.judgePeriod p (t - t0)
    let d := d.bumpWrap (F.PH_REV_COUNT p)
    let d := d.modPhase p (fun s => { s with
      edges := if d.flag (F.PH_CTRL_SRC p) then (t :: s.edges).take 2 else s.edges
      anchor := some t, pos := 0, counts := 0, reverse := false, lastIndex := some t })
    if was ≠ 2 ∧ d.get (F.PH_STAT_STATE p) = 2 then d.phaseLocked p else d.repredict p

/-- R75: no index edge within 1.5 × PH_PERIOD. -/
def Dev.noIndex (d : Dev) (p : Nat) : Dev :=
  match (d.phaseSt p).lastIndex with
  | none => d
  | some t0 =>
    if d.get (F.PH_STAT_STATE p) ≠ 0 ∧ d.get (F.PH_PERIOD_NS p) ≠ 0 ∧
        3 * d.get (F.PH_PERIOD_NS p) * 8 < 2 * (d.base8 - t0) then (d.repredict p).phaseLoss p 1 else d

/-! ## Wheel commands (R64 to R66) -/

/-- R63: the targets of each action; GATE is the traffic manager's alone (R64). -/
def targetOk (action target : Nat) : Bool :=
  if action = 1 then decide (target < 16) else if action = 2 then decide (target < 64)
  else if action = 4 then decide (target < 128) else if action = 5 then target == 0 else false

/-- R65: whether a WRITE that sets VALID is accepted. -/
def Dev.entryOk (d : Dev) (e : WheelEntry) : Bool :=
  let b := wheelBase e
  targetOk (wheelAction e) (wheelTarget e) &&
  (if b < 5 then
     (b == 0 || d.domEn (b - 1)) && decide (bitsOf e.w3 0 30 < 1000000000) &&
       (!wheelPeriodic e || decide (5000 ≤ e.w4))
   else if 8 ≤ b ∧ b < 12 then
     d.flag (F.PH_CTRL_EN (b - 8)) && (!wheelPeriodic e || decide (bitsOf e.w4 0 16 ≠ 0))
   else false)

/-- The entry that CNP_DATA0–CNP_DATA6 hold. -/
def Dev.windowEntry (d : Dev) (version : Nat) : WheelEntry :=
  let w := fun k => d.get (F.CNP_DATA_DATA k)
  let e : WheelEntry := { w0 := w 0, w1 := w 1, w2 := w 2, w3 := w 3, w4 := w 4, w5 := w 5, w6 := w 6, version }
  if wheelPhase e then { e with minRev := e.w3 } else { e with inst := wheelInstant e }

/-- R66: an entry replaced at one tick, its status word 0; what it names is looked at at once. -/
def Dev.writeEntry (d : Dev) (i : Nat) (e : WheelEntry) : Dev :=
  if !wheelValid e then d.setEntry i e
  else if wheelPhase e then
    let p := wheelBase e - 8
    if d.get (F.PH_STAT_STATE p) = 2 then
      let e := { e with floor := d.base40 / 2 ^ 24 + (if wheelAction e = 1 then 200 * 2 ^ 16 else 0) }
      d.setEntry i { e with pred := d.predict e }
    else (d.setEntry i { e with noLock := true }).raise (.tl 8) 4
  else (d.setEntry i e).armEntry i

/-- R66: the code a wheel command ends with. -/
def Dev.cnpCode (d : Dev) (op ix : Nat) : Nat :=
  if op = 3 then 0x0108
  else if op = 0 then 0
  else if ix < 28 then 0x0107
  else if op = 1 && wheelValid (d.windowEntry 0) && !d.entryOk (d.windowEntry 0) then 0x0108
  else 0

/-! ## Commit points and due entries (R63, R69) -/

/-- R69: whether a non-TRIG entry is due at the present tick. -/
def Dev.entryDue (d : Dev) (e : WheelEntry) : Bool :=
  wheelValid e && !e.last && wheelAction e != 1 &&
  (if wheelPhase e then
     match d.predOf e with
     | none => false
     | some (t, _) => decide (t ≤ d.base40 / 2 ^ 24)
   else decide (d.release40 e ≤ d.tbAhead40 (wheelBase e) 0))

/-- R69: whether a TRIG entry has reached its commit point. -/
def Dev.commitDue (d : Dev) (e : WheelEntry) : Bool :=
  wheelValid e && !e.last && wheelAction e == 1 &&
  (if wheelPhase e then
     match d.predOf e with
     | none => false
     | some (t, _) => decide (d.crossRelease e t ≤ ((d.base40 / 2 ^ 24 + 2000 * 2 ^ 16 : Nat) : Int))
   else decide (d.release40 e ≤ d.tbAhead40 (wheelBase e) 2000))

/-- R69, R72: the Base time instant, in 2⁻⁶ ns, at which a TRIG release is placed. -/
def Dev.edgeOf (d : Dev) (e : WheelEntry) : Nat :=
  if wheelPhase e then
    match d.predOf e with
    | none => 0
    | some (t, _) => ((2 * d.crossRelease e t + 1024) / 2048).toNat
  else if wheelBase e = 0 then ((2 * d.release40 e + 2 ^ 34) / 2 ^ 35).toNat
  else
    let away := d.release40 e - d.tbAhead40 (wheelBase e) 0
    let stp := d.domStep (wheelBase e - 1)
    ((2 * (d.base40 + away * 2 ^ 40 / stp) + 2 ^ 34) / 2 ^ 35).toNat

/-- R70, R77: an entry uses the instant that is being released: a time entry moves on by its
period, a phase entry by its revolutions. -/
def Dev.useOne (d : Dev) (i : Nat) : Dev :=
  let e := d.entry i
  if wheelPhase e then
    let rev := match d.predOf e with
      | some (_, r) => r
      | none => 0
    let e1 := { useInstants e 1 with minRev := rev + bitsOf e.w4 0 16, pred := none }
    d.setEntry i { e1 with pred := if e1.last then none else d.predict e1 }
  else d.setEntry i (useInstants e 1)

/-- R69, R72: a TRIG entry that has reached its commit point is committed. -/
def Dev.commitEntry (d : Dev) (i : Nat) (e : WheelEntry) : Dev :=
  let edge := d.edgeOf e
  let d := d.useOne i
  (d.commitTrig i edge false (d.entry i).last).armEntry i

/-- R69, R72: the lowest TRIG entry that has reached its commit point is committed. -/
def Dev.trigCommit (d : Dev) : Dev :=
  match d.canopy.wheel.find? (fun x => d.commitDue x.2) with
  | none => d
  | some (i, e) =>
    match d.wheelRead i with
    | (true, d) => d.commitEntry i e
    | (false, d) => d

/-- R66: a release of an entry that is past its commit point when the entry is written or cleared occurs with
the entry's earlier contents: a TRIG release is committed, one that is due waits for its turn. -/
def Dev.keepCommitted (d : Dev) (i : Nat) : Dev :=
  let e := d.entry i
  if d.commitDue e then d.commitEntry i e
  else if d.entryDue e then
    let r : LateRelease := {
      index := i, version := e.version, action := wheelAction e, target := wheelTarget e, param := e.w6
      from_ := d.tl.ticks, late := false, final := true }
    { d with canopy := { d.canopy with lateq := d.canopy.lateq ++ [r] } }
  else d

/-- R63, R71: the releases of entry i that are past their commit point before its domain steps: a TRIG release
is committed, one that is due waits for its turn apart from the entry, and the step does not make it late. -/
def Dev.setApart (d : Dev) (i : Nat) : Dev :=
  let e := d.entry i
  if !d.commitDue e && !d.entryDue e then d
  else
    match d.wheelRead i with
    | (false, d) => d
    | (true, d) =>
      if d.commitDue e then d.commitEntry i e
      else
        let d := d.useOne i
        let r : LateRelease := {
          index := i, version := e.version, action := wheelAction e, target := wheelTarget e, param := e.w6
          from_ := d.tl.ticks, late := false, final := (d.entry i).last }
        ({ d with canopy := { d.canopy with lateq := d.canopy.lateq ++ [r] } }.modEntry i
          (fun e => { e with committed := e.committed + 1 })).armEntry i

/-- R71: the entries on domain i just before it steps. -/
def Dev.canopyBefore (d : Dev) (dm : Nat) : Dev :=
  d.canopy.wheel.foldl (fun a x => if wheelValid x.2 && wheelBase x.2 == dm + 1 then a.setApart x.1 else a) d

/-- R66: what a wheel command that is not refused does. -/
def Dev.cnpEffect (d : Dev) (op ix : Nat) : Dev :=
  let (_, d) := d.wheelRead ix
  let e := d.entry ix
  if op = 0 then
    let e := if d.entryDue e then { e with committed := e.committed + 1 } else e
    (List.range 8).foldl (fun a k => a.put (F.CNP_DATA_DATA k) (wheelWord e k)) d
  else
    let d := d.keepCommitted ix
    if op = 1 then d.writeEntry ix (d.windowEntry (e.version + 1))
    else d.setEntry ix { clearValid (d.entry ix) with version := e.version + 1, committed := 0 }

/-- R66: a write of CNP_CMD. -/
def Dev.cnpCmd (d : Dev) (who : Init) (v : Word) : Dev :=
  if d.flag F.CNP_CMD_GO && newField v F.CNP_CMD_GO == 1 then d
  else
    let d := (d.store R.CNP_CMD v).put F.CNP_CMD_GO 0
    if newField v F.CNP_CMD_GO = 1 then
      let op := newField v F.CNP_CMD_OP
      let ix := newField v F.CNP_CMD_INDEX
      let code := d.cnpCode op ix
      let d := if code = 0 then d.cnpEffect op ix else d
      (d.put F.CNP_RESULT_CODE code).windowErr who R.CNP_CMD code
    else d

/-! ## Issuing releases (R69) -/

/-- R69: the next non-TRIG release: the lowest index among those that wait apart from their entry and the
entries that are due. -/
def Dev.nextRelease (d : Dev) : Option (Nat × Option LateRelease) :=
  let due := (d.canopy.wheel.find? (fun x => d.entryDue x.2)).map (·.1)
  let late := (d.canopy.lateq.filter (fun r => decide (r.from_ ≤ d.tl.ticks))).foldl
    (fun (b : Option LateRelease) r => match b with
      | none => some r
      | some q => if r.index < q.index then some r else some q) none
  match due, late with
  | none, none => none
  | some i, none => some (i, none)
  | none, some r => some (r.index, some r)
  | some i, some r => if i < r.index then some (i, none) else some (r.index, some r)

/-- The first occurrence of a late release removed from the list. -/
def dropLate (r : LateRelease) : List LateRelease → List LateRelease
  | [] => []
  | q :: t => if q = r then t else q :: dropLate r t

/-- R63, R69 to R71: one non-TRIG release is issued, at most one a tick. `perform` carries out an
action on its target with its parameter, for an entry, late or not, and says whether it was made. -/
def Dev.canopyRelease (d : Dev) (perform : Dev → Nat → Nat → Nat → Nat → Bool → Dev × Bool) : Dev :=
  if d.canopy.lastIssue = some d.tl.ticks then d
  else
    match d.nextRelease with
    | none => d
    | some (i, some r) =>
      let d := { d with canopy := { d.canopy with lastIssue := some d.tl.ticks, lateq := dropLate r d.canopy.lateq } }
      let d := d.uncommit i r.version
      let (d, ok) := if d.missesAction r.action then (d, false) else perform d r.action r.target r.param i r.late
      d.outcome i r.version ok r.late r.final
    | some (i, none) =>
      let e := d.entry i
      let d := { d with canopy := { d.canopy with lastIssue := some d.tl.ticks } }
      match d.wheelRead i with
      | (false, d) => d
      | (true, d) =>
      let d := d.useOne i
      let final := (d.entry i).last
      let (d, ok) := if d.missesAction (wheelAction e) then (d, false) else perform d (wheelAction e) (wheelTarget e) e.w6 i false
      (d.outcome i e.version ok false final).armEntry i

/-! ## Capture inputs (R73) -/

def Dev.capSt (d : Dev) (c : Nat) : CaptureSt := tget d.canopy.cap c
def Dev.modCap (d : Dev) (c : Nat) (f : CaptureSt → CaptureSt) : Dev :=
  { d with canopy := { d.canopy with cap := tmod d.canopy.cap c f } }

/-- R73: whether EDGE selects an edge. -/
def edgeSelected (edge : Nat) (rise : Bool) : Bool :=
  edge == 3 || (edge == 1 && rise) || (edge == 2 && !rise)

/-- R73: a qualified edge is accepted: counted, and queued or discarded. -/
def Dev.capAccept (d : Dev) (c : Nat) (e : PendingEdge) : Dev :=
  let d := d.modCap c (fun s => { s with pending := none })
  if e.en && edgeSelected e.edge e.rise then
    let s := d.capSt c
    let n := s.count + 1
    let x : CaptureEntry := {
      gap := s.lostRun != 0, rise := e.rise, lostRun := min s.lostRun 31
      seq := n % 2 ^ 16, stamp := e.stamp }
    if s.entries.length < 16 then
      (d.modCap c (fun s => { s with count := n, entries := s.entries ++ [x], lostRun := 0 })).raise (.tl 10) (1 + c)
    else
      let was := bitOf (d.get (F.IRQ_RAW_BITS (pageBase (.tl 10)))) (9 + c)
      let d := d.modCap c (fun s => { s with
        count := n, lostRun := s.lostRun + 1, late := some (x, d.tl.ticks, d.get (F.TCP_LOST_COUNT c), was) })
      (d.bump (F.TCP_LOST_COUNT c)).raise (.tl 10) (9 + c)
  else d

/-- R73: the head entry is removed. An entry that found the queue full in the same clock is stored after
all. -/
def Dev.capPop (d : Dev) (c : Nat) : Dev :=
  let s := d.capSt c
  match s.late with
  | some (x, t, lost, was) =>
    if t = d.tl.ticks ∧ s.entries.length = 16 then
      let f := F.IRQ_RAW_BITS (pageBase (.tl 10))
      let d := (d.put (F.TCP_LOST_COUNT c) lost).put f (if was then d.get f else clrBit (d.get f) (9 + c))
      (d.modCap c (fun s => { s with entries := s.entries.drop 1 ++ [x], lostRun := 0, late := none })).raise (.tl 10) (1 + c)
    else d.modCap c (fun s => { s with entries := s.entries.drop 1 })
  | none => d.modCap c (fun s => { s with entries := s.entries.drop 1 })

/-- R73: the level has held for the greater of FILTER_NS and 8 ns at an instant in 125 ps. -/
def edgeHeld (e : PendingEdge) (now8 : Nat) : Bool := decide (e.at_ + max e.filter 8 * 8 ≤ now8)

/-- R73: an edge at the ball, `frac` × 125 ps after the present tick. An edge that returns the
input before the earlier one has qualified cancels it and does not qualify itself. -/
def Dev.tcapEdge (d : Dev) (c : Nat) (rise : Bool) (frac : Nat) : Dev :=
  if (d.capSt c).level = rise then d
  else
    let t := d.base8 + frac
    let d := match (d.capSt c).pending with
      | none => d
      | some e => if edgeHeld e t then d.capAccept c e else d
    match (d.capSt c).pending with
    | some _ => d.modCap c (fun s => { s with level := rise, pending := none })
    | none =>
      let e : PendingEdge := {
        rise, at_ := t, stamp := d.stampAt (104 + c) (t * 8) res125ps
        en := d.flag (F.TCP_CFG_EN c), edge := d.get (F.TCP_CFG_EDGE c), filter := d.get (F.TCP_CFG_FILTER_NS c) }
      d.modCap c (fun s => { s with level := rise, pending := some e })

/-- R73: the edge under qualification has held its level for the filter time. -/
def Dev.tcapQualify (d : Dev) (c : Nat) : Dev :=
  match (d.capSt c).pending with
  | none => d
  | some e => if edgeHeld e d.base8 then d.capAccept c e else d

/-! ## Register writes -/

/-- R72: a write of TRG_CFG. -/
def Dev.trgCfgWrite (d : Dev) (k : Nat) (v : Word) : Wr :=
  let en := d.flag (F.TRG_CFG_EN k)
  refuseIf (decide (newField v (F.TRG_CFG_WIDTH_NS k) < 4)) 0x0109 <|
  refuseIf (en && (d.changes v (F.TRG_CFG_POL k) || d.changes v (F.TRG_CFG_WIDTH_NS k))) 0x0109 <|
  let d := d.store (R.TRG_CFG k) v
  .ok (if en && !d.flag (F.TRG_CFG_EN k) then d.cancelPulses k
       else if en then d else d.setTrig k (d.trigIdle k))

/-- R70, R77: after a new OFFSET of output k its time entries are looked at again, in index order, and a phase
entry whose release now lies less than 200 ns ahead waits for a later crossing. Releases past their commit
point are committed before the write. -/
def Dev.offsetWrite (d : Dev) (k addr : Nat) (v : Word) : Dev :=
  let mine (e : WheelEntry) := wheelValid e && wheelAction e == 1 && wheelTarget e == k
  let d := d.canopy.wheel.foldl (fun (a : Dev) x =>
    if mine x.2 && a.commitDue x.2 then a.commitEntry x.1 x.2 else a) d
  let d := d.store addr v
  let soon := d.base40 / 2 ^ 24 + 200 * 2 ^ 16
  d.canopy.wheel.foldl (fun (a : Dev) x =>
    if !mine x.2 then a
    else if wheelPhase x.2 then a.setEntry x.1 { x.2 with floor := max x.2.floor soon, pred := none }
    else a.armEntry x.1) d

/-- R72: outside a pulse every output stands at its idle level. -/
def Dev.trigRest (d : Dev) : Dev :=
  (List.range 16).foldl (fun (a : Dev) k => if (a.trigSt k).ends.isSome then a else a.setTrig k (a.trigIdle k)) d

/-- A write to TL page 9. -/
def Dev.tl9Write (d : Dev) (addr : Nat) (v : Word) : Wr :=
  let k := (addr - 0x409040) / 0x10
  if addr = R.TRG_CFG k then d.trgCfgWrite k v
  else if addr = R.TRG_OFFSET k then
    let x := signedOf 32 v.toNat
    refuseIf (decide (x < -63872000) || decide (64000000 < x)) 0x0109 (.ok (d.offsetWrite k addr v))
  else .ok (d.store addr v)

/-- R73: a write to TL page 10. -/
def Dev.tl10Write (d : Dev) (who : Init) (addr : Nat) (v : Word) : Wr :=
  let c := (addr - 0x40A040) / 0x20
  if addr = R.TCP_CFG c then
    let en := d.flag (F.TCP_CFG_EN c)
    refuseIf (en && d.changes v (F.TCP_CFG_OWNER c)) 0x010A <|
    let d := d.store addr v
    .ok (if !en && d.flag (F.TCP_CFG_EN c) then d.modCap c (fun s => { s with count := 0 }) else d)
  else if addr = R.TCP_POP c then
    if newField v (F.TCP_POP_POP c) = 0 then .ok d
    else refuseIf (!ownerIs (d.get (F.TCP_CFG_OWNER c)) who) 0x010A <|
      .ok (d.capPop c)
  else .ok (d.store addr v)

/-- R65: a valid entry names phase domain p. -/
def Dev.phaseNamed (d : Dev) (p : Nat) : Bool :=
  d.canopy.wheel.any (fun x => wheelValid x.2 && wheelBase x.2 == 8 + p)

/-- R75: a write of PH_CTRL. -/
def Dev.phCtrlWrite (d : Dev) (p : Nat) (v : Word) : Wr :=
  let en := d.flag (F.PH_CTRL_EN p)
  let en' := newField v (F.PH_CTRL_EN p) == 1
  let a := R.PH_CTRL p
  refuseIf (en && bitsOf (d.word a).toNat 0 31 != bitsOf ((d.store a v).word a).toNat 0 31) 0x0109 <|
  refuseIf (en' && newField v (F.PH_CTRL_SRC p) == 0 && newField v (F.PH_CTRL_CPR p) == 0) 0x0109 <|
  refuseIf (en && !en' && d.phaseNamed p) 0x010B <|
  let d := d.store a v
  .ok (if !en && en' then
      ((d.put (F.PH_STAT_STATE p) 1).put (F.PH_STAT_FULL_PERIODS p) 0 |>.put (F.PH_REV_COUNT p) 0).modPhase p
        (fun _ => {})
    else if en && !en' then d.put (F.PH_STAT_STATE p) 0
    else d)

/-- A write to TL pages 11–14. -/
def Dev.phWrite (d : Dev) (p : Nat) (addr : Nat) (v : Word) : Wr :=
  if addr = R.PH_CTRL p then d.phCtrlWrite p v
  else if addr = R.PH_DRIFT p then
    refuseIf (newField v (F.PH_DRIFT_DRIFT_PPM p) == 0) 0x0109 (.ok (d.store addr v))
  else if addr = R.PH_ZERO p then .ok (((d.repredict p).store addr v).predictBy p Dev.predict)
  else .ok (d.store addr v)

/-- A write to TL pages 8–14. -/
def Dev.canopyWrite (d : Dev) (k : Nat) (who : Init) (addr : Nat) (v : Word) : Wr :=
  if k = 8 then .ok (if addr = R.CNP_CMD then d.cnpCmd who v else d.store addr v)
  else if k = 9 then d.tl9Write addr v
  else if k = 10 then d.tl10Write who addr v
  else d.phWrite (k - 11) addr v

/-- A row that is a write of a Canopy register. -/
def Dev.cnpRow (d : Dev) (i : Init) (k addr : Nat) (v : Word) : Dev :=
  d.busWrite i addr v true (judged addr v (fun d => d.canopyWrite k i addr v))

end Sys2Proof.Machine
end

