-- ==== Sys2Proof/Machine/Crypto.lean ====
section
/-! DEFINITION. The check values and the cryptography that the spec names: CRC-32, CRC-32C,
SHA-256, AES-128 and AES-256, AES-CMAC, AES key unwrap (RFC 3394), RSA PSS signatures, and the cells of OTP hash
fields. -/

namespace Sys2Proof.Machine
open Sys2Proof

/-! ## CRC -/

/-- One step of a reflected CRC register of 32 bits. -/
def crcBit (poly c : Nat) : Nat := if c % 2 = 1 then Nat.xor (c / 2) poly else c / 2

/-- A byte taken into a reflected CRC register. -/
def crcByte (poly c : Nat) (b : Byte) : Nat :=
  (List.range 8).foldl (fun a _ => crcBit poly a) (Nat.xor c b.toNat)

/-- A reflected CRC of 32 bits, all ones at start and complemented at the end. -/
def crcOf (poly : Nat) (bs : List Byte) : Nat := Nat.xor (bs.foldl (crcByte poly) 0xFFFFFFFF) 0xFFFFFFFF

/-- CRC-32 of IEEE 802.3. -/
def crc32 (bs : List Byte) : Nat := crcOf 0xEDB88320 bs

/-- CRC-32C. -/
def crc32c (bs : List Byte) : Nat := crcOf 0x82F63B78 bs

/-! ## SHA-256 (FIPS 180-4) -/

def rotr32 (x n : Nat) : Nat := (x / 2 ^ n + x * 2 ^ (32 - n)) % 2 ^ 32

/-- The first 32 bits of the fractional part of the k-th root of p, found as the integer root of
p · 2^(32 k). -/
def rootFrac (k p : Nat) : Nat :=
  ((List.range 36).foldl (fun r j =>
    let t := r + 2 ^ (35 - j)
    if t ^ k ≤ p * 2 ^ (32 * k) then t else r) 0) % 2 ^ 32

/-- The first 64 primes. -/
def sixtyFourPrimes : List Nat :=
  ((List.range 312).filter (fun n => decide (2 ≤ n) && (List.range n).all (fun m => decide (m < 2) || n % m != 0))).take 64

/-- The round constants: cube roots of the first 64 primes. -/
def shaK : List Nat := sixtyFourPrimes.map (rootFrac 3)

/-- The initial hash value: square roots of the first 8 primes. -/
def shaH0 : List Nat := (sixtyFourPrimes.take 8).map (rootFrac 2)

/-- The message schedule, latest word first, extended by n words. -/
def shaExtend : Nat → List Nat → List Nat
  | 0, w => w
  | n + 1, w =>
    let g := fun k => (w[k]?).getD 0
    let a := g 14
    let b := g 1
    let s0 := Nat.xor (Nat.xor (rotr32 a 7) (rotr32 a 18)) (a / 8)
    let s1 := Nat.xor (Nat.xor (rotr32 b 17) (rotr32 b 19)) (b / 1024)
    shaExtend n ((g 15 + s0 + g 6 + s1) % 2 ^ 32 :: w)

/-- One round of the compression. -/
def shaRound (s : List Nat) (kw : Nat) : List Nat :=
  match s with
  | [a, b, c, d, e, f, g, h] =>
    let s1 := Nat.xor (Nat.xor (rotr32 e 6) (rotr32 e 11)) (rotr32 e 25)
    let ch := Nat.xor (Nat.land e f) (Nat.land (2 ^ 32 - 1 - e) g)
    let t1 := h + s1 + ch + kw
    let s0 := Nat.xor (Nat.xor (rotr32 a 2) (rotr32 a 13)) (rotr32 a 22)
    let mj := Nat.xor (Nat.xor (Nat.land a b) (Nat.land a c)) (Nat.land b c)
    [(t1 + s0 + mj) % 2 ^ 32, a, b, c, (d + t1) % 2 ^ 32, e, f, g]
  | s => s

/-- A 64-byte block taken into a hash value. -/
def shaBlock (h : List Nat) (blk : List Byte) : List Nat :=
  let w := (List.range 16).map (fun i => beNat ((blk.drop (4 * i)).take 4))
  let ws := (shaExtend 48 w.reverse).reverse
  let s := (List.zipWith (fun k x => k + x) shaK ws).foldl shaRound h
  List.zipWith (fun a b => (a + b) % 2 ^ 32) h s

/-- n blocks of a padded message. -/
def shaBlocks : Nat → List Nat → List Byte → List Nat
  | 0, h, _ => h
  | n + 1, h, m => shaBlocks n (shaBlock h (m.take 64)) (m.drop 64)

/-- SHA-256 of a message, 32 bytes. -/
def sha256 (m : List Byte) : List Byte :=
  let pad := (119 - m.length % 64) % 64
  let p := m ++ [0x80] ++ List.replicate pad 0 ++ beBytes 8 (8 * m.length)
  (shaBlocks (p.length / 64) shaH0 p).flatMap (beBytes 4)

/-! ## AES (FIPS 197) -/

/-- Multiplication by x in GF(2^8). -/
def xtime (b : Nat) : Nat := if b < 128 then 2 * b else Nat.xor (2 * b % 256) 0x1B

/-- Multiplication in GF(2^8). -/
def gmul (a b : Nat) : Nat :=
  ((List.range 8).foldl (fun (s : Nat × Nat) i =>
    (if bitOf b i then Nat.xor s.1 s.2 else s.1, xtime s.2)) (0, a)).1

/-- The S-box, the value of a at 256^a. -/
def sboxTable : Nat :=
  0x16BB54B00F2D99416842E6BF0D89A18CDF2855CEE9871E9B948ED9691198F8E1 * 2 ^ 1792 +
    0x9E1DC186B95735610EF6034866B53E708A8BBD4B1F74DDE8C6B4A61C2E2578BA * 2 ^ 1536 +
    0x08AE7A65EAF4566CA94ED58D6D37C8E779E4959162ACD3C25C2406490A3A32E0 * 2 ^ 1280 +
    0xDB0B5EDE14B8EE4688902A22DC4F816073195D643D7EA7C41744975FEC130CCD * 2 ^ 1024 +
    0xD2F3FF1021DAB6BCF5389D928F40A351A89F3C507F02F94585334D43FBAAEFD0 * 2 ^ 768 +
    0xCF584C4A39BECB6A5BB1FC20ED00D153842FE329B3D63B52A05A6E1B1A2C8309 * 2 ^ 512 +
    0x75B227EBE28012079A059618C323C7041531D871F1E5A534CCF73F362693FDB7 * 2 ^ 256 +
    0xC072A49CAFA2D4ADF04759FA7DC982CA76ABD7FE2B670130C56F6BF27B777C63

/-- The inverse S-box, the value of a at 256^a. -/
def sboxInvTable : Nat :=
  0x7D0C2155631469E126D677BA7E042B17619953833CBBEBC8B0F52AAE4D3BE0A0 * 2 ^ 1792 +
    0xEF9CC9939F7AE52D0D4AB519A97F51605FEC8027591012B131C7078833A8DD1F * 2 ^ 1536 +
    0xF45ACD78FEC0DB9A2079D2C64B3E56FC1BBE18AA0E62B76F89C5291D711AF147 * 2 ^ 1280 +
    0x6EDF751CE837F9E28535ADE72274AC9673E6B4F0CECFF297EADC674F4111913A * 2 ^ 1024 +
    0x6B8A130103BDAFC1020F3FCA8F1E2CD00645B3B80558E4F70AD3BC8C00ABD890 * 2 ^ 768 +
    0x849D8DA75746155EDAB9EDFD5048706C92B6655DCC5CA4D41698688664F6F872 * 2 ^ 512 +
    0x25D18B6D49A25B76B224D92866A12E084EC3FA420B954CEE3D23C2A632947B54 * 2 ^ 256 +
    0xCBE9DEC444438E3487FF2F9B8239E37CFBD7F3819EA340BF38A53630D56A0952

/-- The S-box. -/
def sbox (a : Nat) : Nat := sboxTable / 256 ^ a % 256

/-- The inverse S-box. -/
def sboxInv (a : Nat) : Nat := sboxInvTable / 256 ^ a % 256

def xorBytes (a b : List Nat) : List Nat := List.zipWith Nat.xor a b

/-- The key schedule as words of four bytes, latest first, extended by n words; `i` is the index
of the next word and `nk` the words of the key. -/
def keyExtend (nk : Nat) : Nat → Nat → List (List Nat) → List (List Nat)
  | 0, _, w => w
  | n + 1, i, w =>
    let prev := (w[0]?).getD []
    let back := (w[nk - 1]?).getD []
    let rcon := (List.range (i / nk - 1)).foldl (fun a _ => xtime a) 1
    let t :=
      if i % nk = 0 then xorBytes ((prev.drop 1 ++ prev.take 1).map sbox) [rcon, 0, 0, 0]
      else if 6 < nk ∧ i % nk = 4 then prev.map sbox
      else prev
    keyExtend nk n (i + 1) (xorBytes back t :: w)

/-- The round keys of a key of 16 or 32 bytes, 16 bytes each. -/
def roundKeys (key : List Nat) : List (List Nat) :=
  let nk := key.length / 4
  let w0 := ((List.range nk).map (fun i => (key.drop (4 * i)).take 4)).reverse
  let n := 4 * (nk + 7)
  let ws := (keyExtend nk (n - nk) nk w0).reverse
  (List.range (nk + 7)).map (fun r => ((ws.drop (4 * r)).take 4).flatten)

/-- The bytes of a state with byte i taken from place `f i`. -/
def permute (f : Nat → Nat) (s : List Nat) : List Nat := (List.range 16).map (fun i => (s[f i]?).getD 0)

def shiftRows (s : List Nat) : List Nat := permute (fun i => (i + 4 * (i % 4)) % 16) s
def unshiftRows (s : List Nat) : List Nat := permute (fun i => (i + 16 - 4 * (i % 4)) % 16) s

/-- Every column times the circulant matrix of a first row. -/
def mixWith (row : List Nat) (s : List Nat) : List Nat :=
  (List.range 16).map (fun i =>
    (List.range 4).foldl (fun a k =>
      Nat.xor a (gmul ((s[i / 4 * 4 + k]?).getD 0) ((row[(k + 4 - i % 4) % 4]?).getD 0))) 0)

/-- AES encryption of a block with its round keys. -/
def aesEncK (ks : List (List Nat)) (blk : List Nat) : List Nat :=
  match ks with
  | [] => blk
  | k0 :: rest =>
    let s := (rest.dropLast).foldl (fun s k => xorBytes (mixWith [2, 3, 1, 1] (shiftRows (s.map sbox))) k)
      (xorBytes blk k0)
    xorBytes (shiftRows (s.map sbox)) (rest.getLast?.getD [])

/-- AES decryption of a block with its round keys. -/
def aesDecK (ks : List (List Nat)) (blk : List Nat) : List Nat :=
  match ks.reverse with
  | [] => blk
  | kn :: rest =>
    let s := (rest.dropLast).foldl (fun s k => mixWith [14, 11, 13, 9] (xorBytes ((unshiftRows s).map sboxInv) k))
      (xorBytes blk kn)
    xorBytes ((unshiftRows s).map sboxInv) (rest.getLast?.getD [])

def natsOf (bs : List Byte) : List Nat := bs.map (fun b => b.toNat)
def bytesOf (ns : List Nat) : List Byte := ns.map (fun n => BitVec.ofNat 8 n)

/-! ## AES-CMAC (NIST SP 800-38B) -/

/-- Doubling in GF(2^128). -/
def cmacDouble (b : List Nat) : List Nat :=
  let v := b.foldl (fun a x => a * 256 + x) 0
  let d := v * 2 % 2 ^ 128
  natsOf (beBytes 16 (if v < 2 ^ 127 then d else Nat.xor d 0x87))

/-- AES-CMAC of a message under a key, 16 bytes. -/
def cmac (key msg : List Byte) : List Byte :=
  let ks := roundKeys (natsOf key)
  let k1 := cmacDouble (aesEncK ks (List.replicate 16 0))
  let m := natsOf msg
  let n := if m.length = 0 then 1 else (m.length + 15) / 16
  let last := m.drop (16 * (n - 1))
  let tail :=
    if last.length = 16 then xorBytes last k1
    else xorBytes (last ++ [0x80] ++ List.replicate (15 - last.length) 0) (cmacDouble k1)
  let mid := (List.range (n - 1)).foldl (fun x i => aesEncK ks (xorBytes x ((m.drop (16 * i)).take 16)))
    (List.replicate 16 0)
  bytesOf (aesEncK ks (xorBytes mid tail))

/-! ## AES key unwrap (RFC 3394) -/

/-- Steps t = n downto 1 of the unwrapping of register a and blocks r, each of 8 bytes. -/
def unwrapSteps (ks : List (List Nat)) (blocks : Nat) : Nat → List Nat → List (List Nat) → List Nat × List (List Nat)
  | 0, a, r => (a, r)
  | t + 1, a, r =>
    let i := t % blocks
    let x := xorBytes a (natsOf (beBytes 8 (t + 1)))
    let b := aesDecK ks (x ++ (r[i]?).getD [])
    unwrapSteps ks blocks t (b.take 8) (r.set i (b.drop 8))

/-- The key data of a wrapped blob, none when its integrity check fails. -/
def keyUnwrap (key blob : List Byte) : Option (List Byte) :=
  let ks := roundKeys (natsOf key)
  let n := blob.length / 8 - 1
  let r := (List.range n).map (fun i => natsOf ((blob.drop (8 * (i + 1))).take 8))
  let (a, out) := unwrapSteps ks n (6 * n) (natsOf (blob.take 8)) r
  if a = List.replicate 8 0xA6 then some (bytesOf out.flatten) else none

/-! ## RSA PSS verification (RFC 8017), exponent 65537 -/

/-- m^65537 mod n. -/
def rsaPower (n m : Nat) : Nat :=
  let sq := (List.range 16).foldl (fun a _ => a * a % n) (m % n)
  sq * m % n

/-- MGF1 with SHA-256. -/
def mgf1 (seed : List Byte) (len : Nat) : List Byte :=
  (((List.range ((len + 31) / 32)).flatMap (fun i => sha256 (seed ++ beBytes 4 i))).take len)

/-- m^e mod n for an exponent of at most `bits` bits. -/
def modPow (n : Nat) : Nat → Nat → Nat → Nat
  | 0, _, _ => 1 % n
  | bits + 1, m, e =>
    let r := modPow n bits (m * m % n) (e / 2)
    if e % 2 = 1 then r * m % n else r

/-- Euclid's algorithm on r0, r1 with the multipliers t0, t1 of the second number. -/
def invStep : Nat → Nat → Nat → Int → Int → Int
  | 0, _, _, t0, _ => t0
  | fuel + 1, r0, r1, t0, t1 => if r1 = 0 then t0 else invStep fuel r1 (r0 % r1) t1 (t0 - (r0 / r1 : Nat) * t1)

/-- The inverse of 65537 modulo l. -/
def rsaExponent (l : Nat) : Nat := (invStep 40 l 65537 0 1 % (l : Int)).toNat

/-- EMSA-PSS encoding of a hash of 32 bytes with a salt of 32 bytes, for a modulus of `len` bytes. -/
def pssEncode (len : Nat) (hash salt : List Byte) : List Byte :=
  let dbLen := len - 33
  let h := sha256 (List.replicate 8 0 ++ hash ++ salt)
  let db := List.replicate (dbLen - 33) 0 ++ [0x01] ++ salt
  let masked := bytesOf (xorBytes (natsOf db) (natsOf (mgf1 h dbLen)))
  (masked.take 1).map (fun b => b &&& 0x7F) ++ masked.drop 1 ++ h ++ [0xBC]

/-- R285: the RSA-3072 signature of a message under the key with the primes p and q. -/
def pssSign (p q : Nat) (msg salt : List Byte) : List Byte :=
  let l := (p - 1) * (q - 1) / Nat.gcd (p - 1) (q - 1)
  beBytes 384 (modPow (p * q) 3072 (beNat (pssEncode 384 (sha256 msg) salt)) (rsaExponent l))

/-- EMSA-PSS verification of a hash of 32 bytes with a salt of 32 bytes, for a modulus of `len`
bytes: a signature that is no number below the modulus is invalid. -/
def pssVerify (len n : Nat) (hash sig : List Byte) : Bool :=
  let em := beBytes len (rsaPower n (beNat sig))
  let dbLen := len - 33
  let masked := em.take dbLen
  let h := (em.drop dbLen).take 32
  let db := bytesOf (xorBytes (natsOf masked) (natsOf (mgf1 h dbLen)))
  let db := (db.take 1).map (fun b => b &&& 0x7F) ++ db.drop 1
  let zeros := dbLen - 33
  sig.length == len && decide (beNat sig < n) && em.getLast? == some 0xBC && decide (beNat (em.take 1) < 128) &&
    db.take zeros == List.replicate zeros 0 && (db.drop zeros).take 1 == [0x01] &&
    sha256 (List.replicate 8 0 ++ hash ++ db.drop (zeros + 1)) == h

/-! ## OTP hash fields (R289) -/

/-- The bit of a cell that two of its three copies hold. -/
def majority (a b c : Byte) : Byte := (a &&& b) ||| (a &&& c) ||| (b &&& c)

/-- The three planes of cells that hold a hash and its CRC-32C. -/
def hashCells (hash : List Byte) : List Byte :=
  let plane := hash ++ leBytes 4 (crc32c hash)
  plane ++ plane ++ plane

/-- R289: the hash and CRC as read by majority. -/
def OtpHash.value (h : OtpHash) : List Byte :=
  let plane (k : Nat) : List Byte := slice h.cells (36 * k) 36
  List.zipWith (fun (x : Byte × Byte) c => majority x.1 x.2 c) (List.zip (plane 0) (plane 1)) (plane 2)

/-- The hash as read. -/
def OtpHash.hash (h : OtpHash) : List Byte := slice h.value 0 32

/-- No cell is set. -/
def OtpHash.empty (h : OtpHash) : Bool := h.cells.all (fun b => b == 0)

/-- A hash field programmed whole. -/
def hashFull (hash : List Byte) : OtpHash := { cells := hashCells hash, want := hash, good := true, done := true }

/-- R289: some cells of a hash, by a mask, have been written into a field. -/
def OtpHash.part (h : OtpHash) (hash mask : List Byte) : OtpHash :=
  let cells := List.zipWith (fun (a b : Byte) => a ||| b) (slice h.cells 0 108)
    (List.zipWith (fun (a b : Byte) => a &&& b) (hashCells hash) mask)
  let h' : OtpHash := { cells, want := hash }
  { h' with good := leNat (slice h'.value 32 4) == crc32c h'.hash && !h'.empty }

end Sys2Proof.Machine
end

