-- ==== Sys2Proof/Machine/Flowstone.lean ====
section
/-! DEFINITION. Flowstone FIFOs: items, landing, the read position and the FS_CMD and LQ_CMD
operations that move it (R137 to R141, R197). -/

namespace Sys2Proof.Machine
open Sys2Proof

def Dev.chanSt (d : Dev) (c : Nat) : ChanSt := tget d.chan c
def Dev.modChan (d : Dev) (c : Nat) (f : ChanSt → ChanSt) : Dev := { d with chan := tmod d.chan c f }

/-- The page of a channel. -/
def chanPage (c : Nat) : Page := if c < 64 then .can c else .lin (c - 64)

/-- The page of a FIFO. -/
def fifoPage : FifoId → Page
  | .chan c _ => chanPage c
  | .learn s => .lk s 2

/-- The address of FS_STAT or LQ_STAT. The LIN pages follow the CAN pages (R128), with the FIFO
registers at the same offsets (R148). -/
def fifoStat : FifoId → Nat
  | .chan c f => R.FS_STAT c f
  | .learn s => R.LQ_STAT s

/-- FS_STAT fields. -/
def fsFull (q : FifoId) : Fld := ⟨fifoStat q, 31, 1⟩
def fsOverrun (q : FifoId) : Fld := ⟨fifoStat q, 30, 1⟩
def fsMarkValid (q : FifoId) : Fld := ⟨fifoStat q, 29, 1⟩
def fsFalling (q : FifoId) : Fld := ⟨fifoStat q, 28, 1⟩
def fsMark (q : FifoId) : Fld := ⟨fifoStat q, 16, 6⟩
def fsRpos (q : FifoId) : Fld := ⟨fifoStat q, 8, 6⟩
def fsFill (q : FifoId) : Fld := ⟨fifoStat q, 0, 6⟩

/-- The items of FIFO f of a channel, oldest first. -/
def chanItems (s : ChanSt) (f : Nat) : List FsItem :=
  if f = 0 then s.rx0 else if f = 1 then s.rx1 else s.tx

/-- A channel with the items of FIFO f replaced. -/
def withItems (s : ChanSt) (f : Nat) (l : List FsItem) : ChanSt :=
  if f = 0 then { s with rx0 := l } else if f = 1 then { s with rx1 := l } else { s with tx := l }

def Dev.fsItems (d : Dev) (c f : Nat) : List FsItem := chanItems (d.chanSt c) f

/-- How many items a FIFO holds. -/
def Dev.fsCount (d : Dev) (q : FifoId) : Nat :=
  match q with
  | .chan c f => (d.fsItems c f).length
  | .learn s => (tget d.learnq s).length

/-- R137: FILL set, and FULL and FALLING with it. -/
def Dev.fsSetFill (d : Dev) (q : FifoId) (fill : Nat) : Dev :=
  let n := d.fsCount q
  ((d.put (fsFill q) fill).putFlag (fsFull q) (decide (32 ≤ n))).putFlag (fsFalling q) (decide (fill < n))

/-- R139, R197: an item is refused. -/
def Dev.fsRefuse (d : Dev) (q : FifoId) (count : Fld) (irq : Nat) : Dev :=
  ((d.put (fsOverrun q) 1).bump count).raise (fifoPage q) irq

/-- The oldest n items leave a FIFO. -/
def Dev.fsDrop (d : Dev) (q : FifoId) (n : Nat) : Dev :=
  match q with
  | .chan c f => d.modChan c (fun s => withItems s f ((chanItems s f).drop n))
  | .learn s => { d with learnq := tset d.learnq s ((tget d.learnq s).drop n) }

/-- R137, R138: the n oldest items are freed; the read position and the mark shift down. -/
def Dev.fsFree (d : Dev) (q : FifoId) (n : Nat) : Dev :=
  let fill := d.get (fsFill q)
  let rpos := d.get (fsRpos q)
  let mark := d.get (fsMark q)
  let d := (d.fsDrop q n).put (fsRpos q) (rpos - n)
  let d :=
    if d.flag (fsMarkValid q) then
      if mark < n then (d.put (fsMarkValid q) 0).put (fsMark q) 0 else d.put (fsMark q) (mark - n)
    else d
  d.fsSetFill q (fill - n)

/-- R138: ADVANCE. -/
def Dev.fsAdvance (d : Dev) (q : FifoId) : Dev :=
  let r := d.get (fsRpos q)
  if r < d.get (fsFill q) then d.put (fsRpos q) (r + 1) else d

/-- R138: MARK. -/
def Dev.fsMarkOp (d : Dev) (q : FifoId) : Dev :=
  (d.put (fsMark q) (d.get (fsRpos q))).put (fsMarkValid q) 1

/-- R138: REWIND; refused with `code` when no mark is held. -/
def Dev.fsRewind (d : Dev) (q : FifoId) (code : Nat) : Wr :=
  refuseIf (!d.flag (fsMarkValid q)) code (.ok (d.put (fsRpos q) (d.get (fsMark q))))

/-- R138: RELEASE; refused with `code` when COUNT is 0, above 32 or above RPOS. -/
def Dev.fsRelease (d : Dev) (q : FifoId) (n code : Nat) : Wr :=
  refuseIf (n == 0 || decide (32 < n) || decide (d.get (fsRpos q) < n)) code (.ok (d.fsFree q n))

/-- R138: operations 1 to 4. -/
def Dev.fsOp (d : Dev) (q : FifoId) (op n code : Nat) : Wr :=
  if op = 1 then .ok (d.fsAdvance q)
  else if op = 2 then .ok (d.fsMarkOp q)
  else if op = 3 then d.fsRewind q code
  else if op = 4 then d.fsRelease q n code
  else .no code

/-! ## FIFOs of CAN and LIN channels -/

/-- R138: an item enters FIFO f of a channel. -/
def Dev.fsPush (d : Dev) (c : Fin 80) (f : Fin 3) (block blocks ns : Nat) : Dev :=
  let d := d.modChan c (fun s =>
    let it : FsItem := { block, blocks, ns, seq := s.seq }
    { withItems s f (chanItems s f ++ [it]) with seq := s.seq + 1 })
  d.fsSetFill (.chan c f) (d.get (fsFill (.chan c f)))

/-- R139: an item of a channel's FIFO is refused as an overrun. -/
def Dev.fsOverrunAt (d : Dev) (c : Fin 80) (f : Fin 3) : Dev :=
  d.fsRefuse (.chan c f) (F.FS_OVERRUN_COUNT c f) 4

/-- R141: a received item has landed: a notice, or the watermark. -/
def Dev.fsLanded (d : Dev) (c : Fin 80) (f : Fin 3) : Dev :=
  if d.flag (F.FS_CFG_NOTICE c f) then
    (d.put (F.FS_NOTICE_PENDING c f) (min 32 (d.get (F.FS_NOTICE_PENDING c f) + 1))).raise (chanPage c) (1 + f)
  else if d.get (F.FS_CFG_WATERMARK c f) = d.get (fsFill (.chan c f)) then d.raise (chanPage c) (1 + f)
  else d

/-- R141: in notice mode IRQ_RAW.RXf stays set while PENDING is not zero. -/
def Dev.noticeHold (d : Dev) (c : Nat) : Dev :=
  [0, 1].foldl (fun a f =>
    if a.flag (F.FS_CFG_NOTICE c f) && a.get (F.FS_NOTICE_PENDING c f) != 0 then
      let x := F.IRQ_RAW_BITS (pageBase (chanPage c))
      a.put x (setBit (a.get x) (1 + f))
    else a) d

/-- R11, R140: whether an initiator is the owner that FS_CFG.OWNER names: 0 Grove, 1 management
firmware, 2 HA, 3 HB. -/
def fsOwnerIs (code : Nat) (i : Init) : Bool :=
  match i with
  | .gv _ => code == 0
  | .mc => code == 1
  | .ha => code == 2
  | .hb => code == 3
  | .aon => false
  | .dbg => false

/-! ## Message RAM and element memory -/

/-- Bytes of a channel's memory at an address. -/
def Dev.ramBytes (d : Dev) (c a n : Nat) : List Byte := (List.range n).map (fun k => tget (d.chanSt c).ram (a + k))

/-- A number of n bytes of a channel's memory, least significant first. -/
def Dev.ramNat (d : Dev) (c a n : Nat) : Nat := leNat (d.ramBytes c a n)

/-- Bytes written from an address on. -/
def writeBytes (ram : Tab Byte) : Nat → List Byte → Tab Byte
  | _, [] => ram
  | a, b :: t => writeBytes (tset ram a b) (a + 1) t

def Dev.ramWrite (d : Dev) (c a : Nat) (bs : List Byte) : Dev :=
  (d.modChan c (fun s => { s with ram := writeBytes s.ram a bs })).wordsWritten (fun w =>
    w.1 == 6 && w.2.1 == c && decide (a < 4 * w.2.2 + 4) && decide (4 * w.2.2 < a + bs.length))

/-- Whether a block lies in a region. -/
def inRegion (r : Nat × Nat) (b : Nat) : Bool := decide (r.1 ≤ b) && decide (b < r.1 + r.2)

/-- Whether an item's blocks, in a region of a first block and a size, hold block b. -/
def itemHolds (r : Nat × Nat) (b : Nat) (it : FsItem) : Bool :=
  inRegion r b && decide ((b + r.2 - it.block) % max 1 r.2 < it.blocks)

end Sys2Proof.Machine
end

