-- ==== Sys2Proof/Machine/Lookup.lean ====
section
/-! DEFINITION. The lookup slices: the exact-match tables and their commands (R191 to R195), learning
and aging (R196 to R200), the LEARNQ and the stream filter window (R197, R204). -/

namespace Sys2Proof.Machine
open Sys2Proof

/-- R12: the slice that serves a switch port: 0 A, 1 B. -/
def portSlice (p : Nat) : Nat :=
  if p < 8 ∨ (16 ≤ p ∧ p < 20) ∨ p = 24 ∨ p = 26 then 0 else 1

def Dev.lkSlice (d : Dev) (s : Nat) : LkSt := tget d.lk s

/-! ## Keys and entries (R191, R192) -/

/-- R191: the eight bytes of a key. -/
def lkKey (mac vid : Nat) : List Byte := beBytes 6 mac ++ beBytes 2 vid

/-- R191: the two buckets of a key. -/
def lkHash0 (mac vid : Nat) : Nat := crc32c (lkKey mac vid) % 32768
def lkHash1 (mac vid : Nat) : Nat := crc32 (lkKey mac vid) % 32768

/-- R200: the other slice serves the entry's SRC_PORT. -/
def lkRemote (s : Nat) (e : LkEntry) : Bool := decide (e.srcPort < 28) && portSlice e.srcPort != s

/-- R192: a dynamic entry in use. -/
def lkDynamic (e : LkEntry) : Bool := e.valid && !e.static

/-- R192: word w of an entry of slice s. -/
def lkWord (s : Nat) (e : LkEntry) (w : Nat) : Nat :=
  if w = 0 then e.mac % 2 ^ 32
  else if w = 1 then
    boolNat e.valid * 2 ^ 31 + boolNat e.static * 2 ^ 30 + boolNat e.hit * 2 ^ 29 +
      boolNat e.aged * 2 ^ 28 + e.vid * 2 ^ 16 + e.mac / 2 ^ 32
  else if w = 2 then boolNat e.prioEn * 2 ^ 31 + e.prio * 2 ^ 28 + e.dest
  else if w = 3 then e.srcStream * 2 ^ 16 + e.dstStream
  else if w = 4 then
    boolNat (lkRemote s e) * 2 ^ 31 + boolNat e.hwl * 2 ^ 30 + boolNat e.drop * 2 ^ 29 + e.srcPort
  else 0

/-- The entry that words 1–4 describe for a key: in use, HIT set, AGED and HWL clear (R193). -/
def lkOfWords (mac vid : Nat) (w : Nat → Nat) : LkEntry :=
  { mac, vid, valid := true, static := bitOf (w 1) 30, hit := true
    prioEn := bitOf (w 2) 31, prio := bitsOf (w 2) 28 3, dest := bitsOf (w 2) 0 28
    srcStream := bitsOf (w 3) 16 13, dstStream := bitsOf (w 3) 0 13
    drop := bitOf (w 4) 29, srcPort := bitsOf (w 4) 0 5 }

/-- R192: an entry that INSERT accepts. -/
def lkEntryOk (e : LkEntry) : Bool :=
  !(!e.static && e.dest != 2 ^ e.srcPort) && !(bitOf e.mac 40 && !(e.static && e.srcPort == 31)) &&
    e.vid != 0 && e.vid != 4095 && !(decide (28 ≤ e.srcPort) && decide (e.srcPort ≤ 30))

/-! ## The table -/

/-- Entry i of slice s written; ENTRIES and LK_PORT_DYN follow. -/
def Dev.lkSet (d : Dev) (s i : Nat) (e : LkEntry) : Dev :=
  let old : LkEntry := tget (d.lkSlice s).tab i
  let d := { d with lk := tmod d.lk s (fun x => { x with tab := tset x.tab i e }) }
  let n := F.LK_STAT_ENTRIES s
  let d := if old.valid = e.valid then d
    else d.put n (if e.valid then d.get n + 1 else d.get n - 1)
  let d := if lkDynamic old && decide (old.srcPort < 28) then
      d.put (F.LK_PORT_DYN_COUNT s old.srcPort) (d.get (F.LK_PORT_DYN_COUNT s old.srcPort) - 1) else d
  if lkDynamic e && decide (e.srcPort < 28) then
    d.put (F.LK_PORT_DYN_COUNT s e.srcPort) (d.get (F.LK_PORT_DYN_COUNT s e.srcPort) + 1) else d

/-- The slot of a bucket that holds a key. -/
def Dev.lkInBucket (d : Dev) (s b mac vid : Nat) : Option Nat :=
  ((List.range 4).map (fun k => 4 * b + k)).find? (fun i =>
    let e := tget (d.lkSlice s).tab i
    e.valid && e.mac == mac && e.vid == vid)

/-- R191: the index of the entry with a key. -/
def Dev.lkFind (d : Dev) (s mac vid : Nat) : Option Nat :=
  match d.lkInBucket s (lkHash0 mac vid) mac vid with
  | some i => some i
  | none => d.lkInBucket s (lkHash1 mac vid) mac vid

/-- The lowest free slot of a bucket. -/
def Dev.lkFree (d : Dev) (s b : Nat) : Option Nat :=
  ((List.range 4).map (fun k => 4 * b + k)).find? (fun i => !(tget (d.lkSlice s).tab i).valid)

/-- R193: the other bucket of the entry at index i, which lies in bucket b. -/
def Dev.lkAlt (d : Dev) (s i b : Nat) : Nat :=
  let e := tget (d.lkSlice s).tab i
  let h0 := lkHash0 e.mac e.vid
  if h0 = b then lkHash1 e.mac e.vid else h0

/-- R193: the search for a relocation path: the moves (index, other bucket), last first; none where
16 steps find no free slot. -/
def Dev.lkPath (d : Dev) (s : Nat) : Nat → Nat → List (Nat × Nat) → Option (List (Nat × Nat))
  | 0, _, _ => none
  | fuel + 1, b, path =>
    let i := 4 * b + path.length % 4
    let alt := d.lkAlt s i b
    let path := (i, alt) :: path
    if (d.lkFree s alt).isSome then some path else d.lkPath s fuel alt path

/-- R193: one move: the entry is copied into the free slot of its other bucket, then its slot is
freed. -/
def Dev.lkMove (d : Dev) (s : Nat) (m : Nat × Nat) : Dev :=
  match d.lkFree s m.2 with
  | none => d
  | some j =>
    let d := (d.lkSet s j (tget (d.lkSlice s).tab m.1)).lkSet s m.1 default
    d.bumpWrap (F.LK_RELOC_SEQ_COUNT s)

/-- R193: an entry inserted or updated; false with TABLE_FULL, which leaves the table as it was. -/
def Dev.lkInsert (d : Dev) (s : Nat) (e : LkEntry) : Dev × Bool :=
  match d.lkFind s e.mac e.vid with
  | some i => (d.lkSet s i { e with visited := (tget (d.lkSlice s).tab i).visited }, true)
  | none =>
    match d.lkFree s (lkHash0 e.mac e.vid) with
    | some i => (d.lkSet s i e, true)
    | none =>
      match d.lkFree s (lkHash1 e.mac e.vid) with
      | some i => (d.lkSet s i e, true)
      | none =>
        match d.lkPath s 16 (lkHash0 e.mac e.vid) [] with
        | none => (d, false)
        | some path =>
          let d := path.foldl (fun a m => a.lkMove s m) d
          match path.getLast? with
          | some m => (d.lkSet s m.1 e, true)
          | none => (d, false)

/-- Every entry of a slice that satisfies a test is removed. -/
def Dev.lkRemove (d : Dev) (s : Nat) (p : LkEntry → Bool) : Dev :=
  (d.lkSlice s).tab.foldl (fun a x => if x.2.valid && p x.2 then a.lkSet s x.1 default else a) d

/-- R195: FLUSH_PORT in one slice: KIND 1 dynamic, 2 static, 3 both. -/
def Dev.lkFlush (d : Dev) (s port kind : Nat) : Dev :=
  d.lkRemove s (fun e => e.srcPort == port && (if e.static then bitOf kind 1 else bitOf kind 0))

/-! ## The command window (R195) -/

/-- The entry that LK_KEY and LK_DATA of slice s describe. -/
def Dev.lkWindowEntry (d : Dev) (s : Nat) : LkEntry :=
  lkOfWords (d.get (F.LK_KEY1_MAC s) * 2 ^ 32 + d.get (F.LK_KEY0_MAC s)) (d.get (F.LK_KEY1_VID s))
    (fun w => d.get (F.LK_DATA_DATA s w))

/-- R195: an entry shown in LK_DATA and LK_INDEX. -/
def Dev.lkShow (d : Dev) (s i : Nat) : Dev :=
  let e := tget (d.lkSlice s).tab i
  ((List.range 6).foldl (fun a w => a.put (F.LK_DATA_DATA s w) (lkWord s e w)) d).put (F.LK_INDEX_INDEX s) i

/-- R195: NEXT's filter. -/
def lkMatches (port kind : Nat) (e : LkEntry) : Bool :=
  e.valid && (port == 31 || e.srcPort == port) &&
    (kind == 0 || (kind == 1 && !e.static) || (kind == 2 && e.static) || (kind == 3 && e.hwl))

/-- R195: one command in one slice t, given in the window of slice s: its result code. -/
def Dev.lkRun (d : Dev) (s t op : Nat) : Dev × Nat :=
  let k := d.lkWindowEntry s
  if op = 0 then
    match d.lkFind t k.mac k.vid with
    | some i => (d.lkShow s i, 0)
    | none => (d, 0x011D)
  else if op = 1 then
    match (d.lkSlice t).tab.find? (fun x => decide (d.get (F.LK_CURSOR_INDEX s) ≤ x.1) &&
        lkMatches (d.get (F.LK_CMD_PORT s)) (d.get (F.LK_CMD_KIND s)) x.2) with
    | some x => ((d.lkShow s x.1).put (F.LK_CURSOR_INDEX s) (x.1 + 1), 0)
    | none => (d.put (F.LK_CURSOR_INDEX s) 0x20000, 0x011D)
  else if op = 2 then
    let (d, ok) := d.lkInsert t k
    (d, if ok then 0 else 0x011C)
  else if op = 3 then
    match d.lkFind t k.mac k.vid with
    | some i => (d.lkSet t i default, 0)
    | none => (d, 0x011D)
  else (d.lkFlush t (d.get (F.LK_CMD_PORT s)) (d.get (F.LK_CMD_KIND s)), 0)

/-- R195: the slices a command acts on. -/
def Dev.lkSlices (d : Dev) (s : Nat) : List Nat :=
  let op := d.get (F.LK_CMD_OP s)
  let sel := d.get (F.LK_CMD_SLICES s)
  if op < 2 ∨ sel = 0 then [s] else (List.range 2).filter (fun t => bitOf sel t)

/-- R192, R195: the code a command is refused with. -/
def Dev.lkRefusal (d : Dev) (s : Nat) : Nat :=
  let op := d.get (F.LK_CMD_OP s)
  if 5 ≤ op then 0x0119
  else if op = 2 && !lkEntryOk (d.lkWindowEntry s) then 0x0119
  else if op = 4 && d.get (F.LK_CMD_KIND s) == 0 then 0x0119
  else 0

/-- The result field of a slice. -/
def lkResultFld (s t : Nat) : Fld := if t = 0 then F.LK_RESULT_CODE_A s else F.LK_RESULT_CODE_B s

/-- R194: a command that named both slices completes, and both windows are free. -/
def Dev.lkDone (d : Dev) : Dev :=
  match d.sw.lkHeld with
  | none => d
  | some s => { d with sw := { d.sw with lkHeld := none } }.put (F.LK_CMD_GO s) 0

/-- R194: a command given in the window of slice s holds both windows. -/
def Dev.lkHold (d : Dev) (s : Nat) : Dev := { d with sw := { d.sw with lkHeld := some s } }

/-- R194: GO of the window of slice s is refused: a command that names both slices holds it. -/
def Dev.lkBusy (d : Dev) (s : Nat) (v : Word) : Bool :=
  d.sw.lkHeld.isSome && !d.flag (F.LK_CMD_GO s) && newField v (F.LK_CMD_GO s) == 1

/-- R195: a write of LK_CMD of slice s. TABLE_FULL and NOT_FOUND are results, not errors. A command that names
both slices acts at once and holds both windows until it completes (assumption 33). -/
def Dev.lkCmdWrite (d : Dev) (s : Nat) (who : Init) (v : Word) : Dev :=
  let go := F.LK_CMD_GO s
  if d.flag go && newField v go == 1 then d
  else
    let d := (d.store (R.LK_CMD s) v).put go 0
    if newField v go = 1 then
      let d := d.setWord (R.LK_RESULT s) 0
      let c := d.lkRefusal s
      if c = 0 then
        let l := d.lkSlices s
        let d := l.foldl (fun a t =>
          let (a, r) := a.lkRun s t (a.get (F.LK_CMD_OP s))
          a.put (lkResultFld s t) r) d
        if l.length = 2 then (d.put go 1).lkHold s else d
      else ((d.lkSlices s).foldl (fun a t => a.put (lkResultFld s t) c) d).windowErr who (R.LK_CMD s) c
    else d

/-! ## LEARNQ (R197) -/

/-- R197: a notice falls into the LEARNQ; whether it is queued or a like one is there already. NEW and
MOVE notices that find the queue full are counted as dropped. -/
def Dev.lkNotice (d : Dev) (s kind mac vid port old stamp : Nat) : Dev × Bool :=
  if !d.flag (F.LQ_CFG_EN s) then (d, false)
  else
    let n : LearnNotice := {
      w0 := mac % 2 ^ 32
      w1 := kind * 2 ^ 28 + vid * 2 ^ 16 + mac / 2 ^ 32
      w2 := 2 ^ 31 + old * 2 ^ 8 + port
      w3 := stamp }
    let l := tget d.learnq s
    if l.any (fun x => x.w0 == n.w0 && x.w1 == n.w1) then (d.bump (F.LK_LEARN_DUP_COUNT s), true)
    else if 32 ≤ l.length then
      (if kind ≤ 2 then d.fsRefuse (if s = 0 then .learn 0 else .learn 1) (F.LK_LEARN_DROP_COUNT s) 2 else d,
        false)
    else
      let q : FifoId := if s = 0 then .learn 0 else .learn 1
      let d := { d with learnq := tset d.learnq s (l ++ [n]) }
      (d.fsSetFill q (d.get (fsFill q)), true)

/-! ## Learning (R196, R198) -/

/-- R198, R206: the modes in which the slices learn by themselves. -/
def hwLearnMode (mode : Nat) : Bool := mode == 2 || mode == 7 || mode == 9 || mode == 10

/-- R198: an entry learned by hardware on port p. -/
def hwEntry (mac vid p : Nat) : LkEntry :=
  { mac, vid, valid := true, hit := true, hwl := true, dest := 2 ^ p, srcPort := p }

/-- R198: port p is below its limit in slice s. -/
def Dev.hwRoom (d : Dev) (s p : Nat) : Bool :=
  decide (d.get (F.LK_PORT_DYN_COUNT s p) < d.get (F.SW_HW_LIMIT_LIMIT p))

/-- R198: learning beyond the limit. -/
def Dev.hwLimit (d : Dev) (s mac vid p stamp : Nat) : Dev :=
  let d := (d.bump (F.LK_LIMIT_COUNT s)).raise (.lk s 0) 2
  (d.lkNotice s 5 mac vid p 0 stamp).1

/-- R196, R199: an entry whose source is seen. -/
def Dev.sourceHit (d : Dev) (e : LkEntry) : LkEntry := { e with hit := true, hitAt := some d.plat.aon }

/-- R198: hardware learning of a source seen on port p. -/
def Dev.hwLearn (d : Dev) (s mac vid p stamp : Nat) : Dev :=
  match d.lkFind s mac vid with
  | none =>
    if d.hwRoom s p then
      let (d, ok) := d.lkInsert s (d.sourceHit (hwEntry mac vid p))
      if ok then d
      else
        let d := (d.bump (F.LK_FULL_COUNT s)).raise (.lk s 0) 1
        (d.lkNotice s 4 mac vid p 0 stamp).1
    else d.hwLimit s mac vid p stamp
  | some i =>
    let e := tget (d.lkSlice s).tab i
    if e.srcPort = p then d.lkSet s i (d.sourceHit e)
    else if e.static then
      if e.srcPort = 31 then d else d.bump (F.LK_STATIC_MOVE_COUNT s)
    else if d.hwRoom s p then d.lkSet s i { d.sourceHit e with aged := false, hwl := true, dest := 2 ^ p, srcPort := p }
    else d.hwLimit s mac vid p stamp

/-- R196: software-mediated learning of a source seen on port p. -/
def Dev.swLearn (d : Dev) (s mac vid p stamp : Nat) : Dev :=
  match d.lkFind s mac vid with
  | none => (d.lkNotice s 1 mac vid p 0 stamp).1
  | some i =>
    let e := tget (d.lkSlice s).tab i
    if e.srcPort = p then d.lkSet s i (d.sourceHit e)
    else if e.static then
      if e.srcPort = 31 then d else d.bump (F.LK_STATIC_MOVE_COUNT s)
    else (d.lkNotice s 2 mac vid p e.srcPort stamp).1

/-- R196, R198: what the source lookup of a frame from port p does. -/
def Dev.lkLearn (d : Dev) (p mac vid stamp : Nat) : Dev :=
  let s := portSlice p
  if d.flag (F.SW_PORT_CFG_LEARN p) then
    if hwLearnMode d.mode then d.hwLearn s mac vid p stamp else d.swLearn s mac vid p stamp
  else
    match d.lkFind s mac vid with
    | none => d
    | some i =>
      let e := tget (d.lkSlice s).tab i
      if e.srcPort = p then d.lkSet s i (d.sourceHit e) else d

/-! ## Aging (R199) -/

/-- R199: a visit of an entry of slice s is due: AGE_PERIOD_S after the last one. -/
def Dev.ageDue (d : Dev) (s : Nat) (e : LkEntry) : Bool :=
  e.visited.elim true (fun t => decide (t + d.get (F.LK_CFG_AGE_PERIOD_S s) * 1000000000 ≤ d.plat.aon))

/-- R199: the sweeper visits entry i of slice s, if it is a dynamic home entry, once per AGE_PERIOD_S. A source
hit in the same clock leaves HIT. -/
def Dev.ageVisit (d : Dev) (s i : Nat) : Dev :=
  let old := tget (d.lkSlice s).tab i
  if d.enabled (.lk s 0) && d.flag (F.LK_CFG_AGE_EN s) && lkDynamic old && !lkRemote s old && d.ageDue s old then
    let e := { old with visited := some d.plat.aon }
    if e.hit then d.lkSet s i { e with hit := e.hitAt == some d.plat.aon, aged := false }
    else if !e.aged then d.lkSet s i { e with aged := true }
    else
      let (d, ok) := d.lkNotice s 3 e.mac e.vid e.srcPort 0 (d.baseNs % 2 ^ 32)
      if ok then (d.lkSet s i default).bump (F.LK_AGED_COUNT s) else (d.lkSet s i e).bump (F.LK_AGE_DEFER_COUNT s)
  else d

/-! ## Stream filters (R204) -/

def Dev.filter (d : Dev) (s h : Nat) : SfEntry := tget (d.lkSlice s).filters h
def Dev.setFilter (d : Dev) (s h : Nat) (f : SfEntry) : Dev :=
  { d with lk := tmod d.lk s (fun x => { x with filters := tset x.filters h f }) }

/-- R204: word w of a filter entry. -/
def sfWord (f : SfEntry) (w : Nat) : Nat :=
  (([f.w0, f.w1, 0, 0, f.matched, f.passed, f.sduDrop, f.gateDrop] : List Nat)[w]?).getD 0

/-- R204: a command of the filter window: READ, or WRITE, which ignores words 4–7 and clears
BLOCKED. -/
def Dev.sfEffect (d : Dev) (s : Nat) : Dev :=
  let h := d.get (F.SF_CMD_INDEX s)
  let f := d.filter s h
  if d.get (F.SF_CMD_OP s) = 0 then
    (List.range 8).foldl (fun a w => a.put (F.SF_DATA_DATA s w) (sfWord f w)) d
  else
    let x := d.get (F.SF_DATA_DATA s 0)
    d.setFilter s h { f with
      w0 := bitsOf x 29 3 * 2 ^ 29 + bitsOf x 27 1 * 2 ^ 27 + bitsOf x 0 13
      w1 := bitsOf (d.get (F.SF_DATA_DATA s 1)) 0 14 }

/-- R204: a filter command is refused for OP 2 and 3 and INDEX 0. -/
def Dev.sfCode (d : Dev) (s : Nat) : Nat :=
  if 2 ≤ d.get (F.SF_CMD_OP s) ∨ d.get (F.SF_CMD_INDEX s) = 0 then 0x0119 else 0

/-! ## Register writes -/

/-- R197: a write of LQ_CFG. -/
def Dev.lqCfgWrite (d : Dev) (s : Nat) (v : Word) : Wr :=
  refuseIf (d.flag (F.LQ_CFG_EN s) && d.changes v (F.LQ_CFG_OWNER s)) 0x011B (.ok (d.store (R.LQ_CFG s) v))

/-- R197: a write of LQ_CMD. -/
def Dev.lqCmdWrite (d : Dev) (s : Nat) (who : Init) (v : Word) : Wr :=
  refuseIf (!ownerIs (d.get (F.LQ_CFG_OWNER s)) who) 0x011B
    (d.fsOp (if s = 0 then .learn 0 else .learn 1) (newField v (F.LQ_CMD_OP s)) (newField v (F.LQ_CMD_COUNT s))
      0x0119)

/-- A write to page k of slice s. -/
def Dev.lkWrite (d : Dev) (s k : Nat) (who : Init) (addr : Nat) (v : Word) : Wr :=
  if k = 0 then
    if addr = R.LK_CFG s then
      refuseIf (newField v (F.LK_CFG_AGE_PERIOD_S s) == 0) 0x0119 (.ok (d.store addr v))
    else .ok (d.store addr v)
  else if k = 1 then
    if addr = R.LK_CMD s then refuseIf (d.lkBusy s v) 0x011A (.ok (d.lkCmdWrite s who v)) else .ok (d.store addr v)
  else if k = 2 then
    if addr = R.LQ_CFG s then d.lqCfgWrite s v
    else if addr = R.LQ_CMD s then d.lqCmdWrite s who v
    else .ok (d.store addr v)
  else if addr = R.SF_CMD s then
    .ok (d.window who addr v (F.SF_CMD_GO s) (F.SF_RESULT_CODE s) (fun d => d.sfCode s) (fun d => d.sfEffect s))
  else .ok (d.store addr v)

/-- R203: the link-down flush of a port, as one command from the window of the slice that serves it; it waits
while that window is in use. -/
def Dev.linkFlush (d : Dev) (p : Nat) : Dev :=
  if p ∈ d.sw.flush ∧ d.sw.lkHeld = none then
    let d := { d with sw := { d.sw with flush := d.sw.flush.filter (· != p) } }
    ((d.lkFlush 0 p 1).lkFlush 1 p 1).lkHold (portSlice p)
  else d

end Sys2Proof.Machine
end

