-- ==== Sys2Proof/Machine/Gallery.lean ====
section
/-! DEFINITION. The Gallery: its cells, frames and copies (R186, R187), ingress accounts and XOFF
(R188), the PAUSE and PFC frames they send (R166), and the ports' live counters (R176). -/

namespace Sys2Proof.Machine
open Sys2Proof

/-! ## Ports and their counters (R176) -/

def Dev.port (d : Dev) (p : Nat) : PortSt := tget d.ports p
def Dev.modPort (d : Dev) (p : Nat) (f : PortSt → PortSt) : Dev := { d with ports := tmod d.ports p f }

/-- Live counters by the offset of EP_CNT ÷ 4, and those that only TS has. -/
def cRxOctets : Nat := 0
def cTxOctets : Nat := 2
def cRxFrames : Nat := 4
def cTxFrames : Nat := 5
def cRxFcs : Nat := 6
def cRxSymbol : Nat := 7
def cRxRunt : Nat := 8
def cRxOversize : Nat := 9
def cRxOverflow : Nat := 10
def cRxPreempt : Nat := 11
def cRxPause : Nat := 12
def cTxPause : Nat := 13
def cRxCtrlDrop : Nat := 14
def cTxBadTail : Nat := 15
def cTxLinkDown : Nat := 16
def cLpiEntries : Nat := 17
def cStampCoarse : Nat := 18
def cMsUntagged : Nat := 19
def cMsNoSci : Nat := 20
def cMsNotValid : Nat := 21
def cMsLate : Nat := 22
def cMsNoSa : Nat := 23
def cMsProtected : Nat := 24
def cMsDropped : Nat := 25
def cCollisions : Nat := 30
def cBeaconLoss : Nat := 31
def cCollDrop : Nat := 32

/-- A frame or error counter advances; it saturates. -/
def Dev.count (d : Dev) (p k : Nat) : Dev :=
  d.modPort p (fun s => { s with live := tset s.live k (satAdd 32 (tget s.live k) 1) })

/-- An octet counter advances; it wraps at 64 bits. -/
def Dev.octets (d : Dev) (p k n : Nat) : Dev :=
  d.modPort p (fun s => { s with live := tset s.live k ((tget s.live k + n) % 2 ^ 64) })

/-- R156, R183: the rate of a switch port in Mb/s. -/
def Dev.portRate (d : Dev) (p : Nat) : Nat :=
  if p < 16 then
    match d.get (F.EP_LINK_SPEED p) with
    | 0 => 10000
    | 1 => 2500
    | 2 => 1000
    | 3 => 100
    | _ => 10
  else if p < 24 then 10
  else if p < 26 then 50000
  else 10000

/-- MAX_LEN of a switch port; 9,216 for ports 24–27 (R186). -/
def Dev.maxLen (d : Dev) (p : Nat) : Nat :=
  if p < 16 then d.get (F.EP_MAC_MAX_LEN p) else if p < 24 then d.get (F.TS_MAC_MAX_LEN (p - 16)) else 9216

/-! ## Cells (R186) -/

/-- Cells that n bytes occupy. -/
def cellsOf (n : Nat) : Nat := (n + 255) / 256

/-- n cells are taken from the pool, and from the guard once it is empty. -/
def Dev.takeCells (d : Dev) (n : Nat) : Dev :=
  let free := d.get F.SW_GAL_STAT_FREE
  let k := min free n
  { d.put F.SW_GAL_STAT_FREE (free - k) with sw := { d.sw with guard := d.sw.guard + (n - k) } }

/-- n cells are released; they refill the guard first. -/
def Dev.giveCells (d : Dev) (n : Nat) : Dev :=
  let k := min d.sw.guard n
  let d := { d with sw := { d.sw with guard := d.sw.guard - k } }
  d.put F.SW_GAL_STAT_FREE (d.get F.SW_GAL_STAT_FREE + (n - k))

/-- R188: n cells charged to the headroom of a port, or released. -/
def Dev.headAdd (d : Dev) (p n : Nat) : Dev :=
  d.put (F.SW_IFC_STAT_HEAD_USED p) (d.get (F.SW_IFC_STAT_HEAD_USED p) + n)
def Dev.headSub (d : Dev) (p n : Nat) : Dev :=
  d.put (F.SW_IFC_STAT_HEAD_USED p) (d.get (F.SW_IFC_STAT_HEAD_USED p) - n)

/-- R187: n cells charged to a queue, or released. -/
def Dev.depthAdd (d : Dev) (q n : Nat) : Dev := d.put (F.SW_QDEPTH_CELLS q) (d.get (F.SW_QDEPTH_CELLS q) + n)
def Dev.depthSub (d : Dev) (q n : Nat) : Dev := d.put (F.SW_QDEPTH_CELLS q) (d.get (F.SW_QDEPTH_CELLS q) - n)

/-! ## Frames -/

/-- The Gallery frame with an identifier. -/
def Dev.frame? (d : Dev) (id : Nat) : Option GFrame := (d.sw.frames.find? (fun x => x.1 == id)).map (·.2)

def Dev.modFrame (d : Dev) (id : Nat) (f : GFrame → GFrame) : Dev :=
  { d with sw := { d.sw with frames := d.sw.frames.map (fun x => if x.1 = id then (x.1, f x.2) else x) } }

/-- A frame enters the Gallery. -/
def Dev.addFrame (d : Dev) (g : GFrame) : Dev × Nat :=
  ({ d with sw := { d.sw with frames := d.sw.frames ++ [(d.sw.next, g)], next := d.sw.next + 1 } }, d.sw.next)

/-- R188: the account of an ingress port and class: cells held for its frames. -/
def Dev.account (d : Dev) (p c : Nat) : Nat :=
  d.sw.frames.foldl (fun n x => if x.2.port = p ∧ x.2.cls = c then n + x.2.cells else n) 0

/-! ## PAUSE and PFC frames (R166) -/

/-- A frame without FCS, padded to 60 bytes and with its FCS appended. -/
def withFcs (f : List Byte) : List Byte :=
  let f := f ++ List.replicate (60 - f.length) 0
  f ++ leBytes 4 (crc32 f)

/-- R166: a PAUSE frame. The spec gives no source address: six free bytes. -/
def pauseFrame (src : List Byte) (time : Nat) : List Byte :=
  withFcs (beBytes 6 0x0180C2000001 ++ src ++ beBytes 2 0x8808 ++ beBytes 2 1 ++ beBytes 2 time)

/-- R166: a PFC frame that names one class. -/
def pfcFrame (src : List Byte) (cls time : Nat) : List Byte :=
  withFcs (beBytes 6 0x0180C2000001 ++ src ++ beBytes 2 0x8808 ++ beBytes 2 0x0101 ++ beBytes 2 (2 ^ cls) ++
    ((List.range 8).map (fun c => beBytes 2 (if c = cls then time else 0))).flatten)

/-- R166: the PAUSE and PFC frames due leave at a frame boundary. -/
def Dev.sendCtl (d : Dev) (p : Nat) : Dev :=
  let l := (d.port p).ctl
  let d := d.modPort p (fun s => { s with ctl := [], idle := d.plat.aon })
  l.foldl (fun a x =>
    let a := (a.emit (.wire p x.2)).count p cTxPause
    if x.1 then a.raise (.ep p 1) 2 else a) d

/-- R167: a port in low-power idle has a frame to send: it leaves it, and starts WAKE_NS later. -/
def Dev.leaveLpi (d : Dev) (p : Nat) : Dev :=
  if p < 16 && d.flag (F.EP_LINK_TX_LPI p) then
    (d.put (F.EP_LINK_TX_LPI p) 0).modPort p (fun s =>
      { s with wake := some (d.plat.aon + d.get (F.EEE_WAKE_WAKE_NS p)) })
  else d

/-- R166: a PAUSE or PFC frame is due: sent at once at a frame boundary, else behind the frame in
transmission or the wake of the port. -/
def Dev.dueCtl (d : Dev) (p : Nat) (xoff : Bool) (f : List Byte) : Dev :=
  let d := (d.modPort p (fun s => { s with ctl := s.ctl ++ [(xoff, f)] })).leaveLpi p
  if (d.port p).tx.isNone && (d.port p).wake.isNone then d.sendCtl p else d

/-- R156, R166, R177: an EP port may send PAUSE and PFC frames: its lane carries them, and TX_EN and MODE
ask for them. -/
def Dev.signals (d : Dev) (p : Nat) : Bool :=
  decide (p < 16) && d.mode != 11 && d.enabled (.ep p 0) && d.flag (F.EP_LINK_LINK_UP p) &&
    d.flag (F.FC_CTRL_TX_EN p) && d.get (F.FC_CTRL_MODE p) != 0

/-- R166: what the repeats of an XOFF are timed by: the class under PFC, the port (8) under PAUSE. -/
def Dev.xoffKey (d : Dev) (p c : Nat) : Nat := if d.get (F.FC_CTRL_MODE p) = 1 then 8 else c

/-- R166: what a port sends for class c of an ingress port: XOFF, or its release. -/
def Dev.signal (d : Dev) (p c : Nat) (xoff : Bool) : Dev :=
  let time := if xoff then d.get (F.FC_CTRL_PAUSE_TIME p) else 0
  let mode := d.get (F.FC_CTRL_MODE p)
  if mode = 1 then
    let (src, d) := d.freeBytes 6
    d.dueCtl p xoff (pauseFrame src time)
  else if mode = 2 then
    let (src, d) := d.freeBytes 6
    d.dueCtl p xoff (pfcFrame src c time)
  else d

/-- R166: the classes that XOFF_SENT shows once a frame for class c has been sent: under PAUSE every class under
XOFF. -/
def Dev.xoffShown (d : Dev) (p c : Nat) : Nat :=
  if d.get (F.FC_CTRL_MODE p) = 1 then d.get (F.SW_IFC_STAT_XOFF p) else setBit (d.get (F.FC_STAT_XOFF_SENT p)) c

/-- R166: XOFF of class c is due at port p at this instant: it is signalled where the port may send it. -/
def Dev.sendXoff (d : Dev) (p c : Nat) : Dev :=
  let d := d.modPort p (fun s => { s with xoffAt := tset s.xoffAt (d.xoffKey p c) d.plat.aon })
  if d.signals p then
    (d.put (F.FC_STAT_XOFF_SENT p) (d.xoffShown p c)).signal p c true
  else d

/-- R166: the release of XOFF of class c: signalled when no XOFF that the frame covers remains. -/
def Dev.sendXon (d : Dev) (p c : Nat) : Dev :=
  if p < 16 && bitOf (d.get (F.FC_STAT_XOFF_SENT p)) c then
    let left := if d.get (F.FC_CTRL_MODE p) = 1 then d.get (F.SW_IFC_STAT_XOFF p)
      else clrBit (d.get (F.FC_STAT_XOFF_SENT p)) c
    let d := d.put (F.FC_STAT_XOFF_SENT p) left
    if d.signals p && (d.get (F.FC_CTRL_MODE p) == 2 || left == 0) then d.signal p c false
    else d
  else d

/-- R188: XOFF of an account raised or released at its thresholds. -/
def Dev.xoffCheck (d : Dev) (p c : Nat) : Dev :=
  let n := d.account p c
  let x := d.get (F.SW_IFC_STAT_XOFF p)
  if !bitOf x c && decide (d.get (F.SW_IFC_TH_XOFF_TH p) ≤ n) then
    (d.put (F.SW_IFC_STAT_XOFF p) (setBit x c)).sendXoff p c
  else if bitOf x c && decide (n ≤ d.get (F.SW_IFC_TH_XON_TH p)) then
    (d.put (F.SW_IFC_STAT_XOFF p) (clrBit x c)).sendXon p c
  else d

/-- R186: one copy of a frame has left or been removed; with the last one its cells are released. -/
def Dev.releaseCopy (d : Dev) (id : Nat) : Dev :=
  match d.frame? id with
  | none => d
  | some g =>
    if 1 < g.copies then d.modFrame id (fun g => { g with copies := g.copies - 1 })
    else
      let d := { d with sw := { d.sw with frames := d.sw.frames.filter (fun x => x.1 != id) } }
      let d := if g.head then d.headSub g.port g.cells else d.giveCells g.cells
      d.xoffCheck g.port g.cls

end Sys2Proof.Machine
end

