-- ==== Sys2Proof/Machine/Traffic.lean ====
section
/-! DEFINITION. The traffic manager (R208 to R222): accounted lengths, meters, egress queues with their
shapers and virtual finish times, gate lists and their takeovers, histograms. -/

namespace Sys2Proof.Machine
open Sys2Proof

/-! ## Accounted length and buckets (R209 to R211) -/

/-- R209: A of a frame of L bytes on a port. -/
def Dev.acctLen (d : Dev) (p len : Nat) : Nat :=
  (max 1 ((len : Int) + signedOf 8 (d.get (F.TM_PORT_OH_OVERHEAD p)))).toNat

/-- One byte in the unit of bucket levels. -/
def bucketByte : Nat := 65536 * 15625

/-- A rate of r kbit/s adds 128 r units each ns. -/
def bucketAt (rate size now : Nat) (b : Bucket) : Bucket :=
  { level := min ((size * bucketByte : Nat) : Int) (b.level + (rate * 128 * (now - b.since) : Nat)), since := now }

/-- A full bucket. -/
def bucketFull (size now : Nat) : Bucket := { level := (size * bucketByte : Nat), since := now }

/-- R210: a bucket passes a frame: A when the frame is whole, else 0. -/
def bucketPasses (b : Bucket) (whole : Bool) (a : Nat) : Bool :=
  decide ((if whole then ((a * bucketByte : Nat) : Int) else 0) ≤ b.level)

/-- A bucket charged A. -/
def bucketCharge (b : Bucket) (a : Nat) : Bucket := { b with level := b.level - (a * bucketByte : Nat) }

/-- R211, R214: a level is above 0, in steps of 2⁻¹⁶ byte. -/
def bucketPositive (b : Bucket) : Bool := decide (15625 ≤ b.level)

/-! ## Port meters (R211) -/

/-- R211: the bucket of port meter m now. -/
def Dev.pmNow (d : Dev) (m : Nat) : Bucket :=
  bucketAt (d.get (F.TM_PM_CFG_RATE m)) (d.get (F.TM_PM_BURST_BURST m)) d.plat.aon (tget d.tm.pm m)

/-- The bucket of port meter m set, and shown in whole bytes. -/
def Dev.setPm (d : Dev) (m : Nat) (b : Bucket) : Dev :=
  let d := { d with tm := { d.tm with pm := tset d.tm.pm m b } }
  d.put (F.TM_PM_LEVEL_LEVEL m) (unsignedOf 32 (b.level / bucketByte))

/-- R211: the port meter of an ingress port and class. -/
def Dev.pmOf (d : Dev) (p c : Nat) : Option Nat :=
  let w := d.word (R.TM_PM_MAP (2 * p + c / 4))
  if wordBit w (8 * (c % 4) + 7) then
    let m := wordBits w (8 * (c % 4)) 6
    if d.flag (F.TM_PM_CFG_EN m) then some m else none
  else none

/-! ## Flow meters (R212, R213) -/

def Dev.fm (d : Dev) (m : Nat) : FlowMeter := tget d.tm.fm m
def Dev.setFm (d : Dev) (m : Nat) (x : FlowMeter) : Dev := { d with tm := { d.tm with fm := tset d.tm.fm m x } }

/-- R212: both buckets of a flow meter at the present instant. -/
def fmAt (now : Nat) (x : FlowMeter) : FlowMeter :=
  { x with tc := bucketAt x.cir x.cbs now x.tc, te := bucketAt x.eir x.ebs now x.te }

/-- R210: a charge that a frame owes is made. -/
def Dev.charge (d : Dev) (c : Charge) (a : Nat) : Dev :=
  match c with
  | .port m => d.setPm m (bucketCharge (d.pmNow m) a)
  | .committed m =>
    let x := fmAt d.plat.aon (d.fm m)
    d.setFm m { x with tc := bucketCharge x.tc a }
  | .excess m =>
    let x := fmAt d.plat.aon (d.fm m)
    d.setFm m { x with te := bucketCharge x.te a }

/-- R212: the colour of a frame (0 green, 1 yellow, 2 red) and the bucket charged. A frame yellow at
its input is red where Tc does not pass, as the table states (assumption 21). -/
def fmColour (x : FlowMeter) (m : Nat) (whole : Bool) (a : Nat) (yellow : Bool) : Nat × Option Charge :=
  if bitOf x.w0 25 then (2, none)
  else if yellow then
    if bucketPasses x.tc whole a && bucketPasses x.te whole a then (1, some (.excess m)) else (2, none)
  else if bucketPasses x.tc whole a then (0, some (.committed m))
  else if bucketPasses x.te whole a then (1, some (.excess m))
  else (2, none)

/-- What a flow meter decides of a frame. -/
structure Coloured where
  drop : Bool
  mark : Bool
  charge : Option Charge

/-- R212: flow meter m colours a frame of accounted length a, which it may drop or mark. -/
def Dev.fmTest (d : Dev) (m : Nat) (whole : Bool) (a : Nat) (dei : Bool) : Dev × Coloured :=
  let x := fmAt d.plat.aon (d.fm m)
  if bitOf x.w0 31 then
    let (col, ch) := fmColour x m whole a (bitOf x.w0 30 && dei)
    let x := if col = 0 then { x with green := satAdd 32 x.green 1 }
      else if col = 1 then { x with yellow := satAdd 32 x.yellow 1 }
      else { x with red := satAdd 32 x.red 1, w0 := if bitOf x.w0 26 then setBit x.w0 25 else x.w0 }
    (d.setFm m x, {
      drop := (col == 1 && bitOf x.w0 29) || (col == 2 && bitOf x.w0 28)
      mark := col != 0 && bitOf x.w0 27
      charge := ch })
  else (d, { drop := false, mark := false, charge := none })

/-- R213: word w of a flow meter. -/
def fmWord (x : FlowMeter) (w : Nat) : Nat :=
  (([x.w0, x.cir, x.cbs, x.eir, x.ebs, x.green, x.yellow, x.red] : List Nat)[w]?).getD 0

/-- R213: the code of a flow meter command. -/
def Dev.fmCode (d : Dev) : Nat :=
  let op := d.get F.TM_FM_CMD_OP
  if 2 ≤ op then 0x011E
  else if op = 1 && (decide (50000000 < bitsOf (d.get (F.TM_FM_DATA_DATA 1)) 0 28) ||
      decide (50000000 < bitsOf (d.get (F.TM_FM_DATA_DATA 3)) 0 28)) then 0x011E
  else 0

/-- R212, R213: a flow meter command: READ, or WRITE, which fills or cuts both buckets and clears
MARK_ALL_RED. -/
def Dev.fmEffect (d : Dev) : Dev :=
  let m := d.get F.TM_FM_CMD_INDEX
  let x := fmAt d.plat.aon (d.fm m)
  if d.get F.TM_FM_CMD_OP = 0 then
    (List.range 8).foldl (fun a w => a.put (F.TM_FM_DATA_DATA w) (fmWord x w)) d
  else
    let w := fun k => d.get (F.TM_FM_DATA_DATA k)
    let cbs := bitsOf (w 2) 0 24
    let ebs := bitsOf (w 4) 0 24
    let y := { x with
      w0 := bitsOf (w 0) 26 6 * 2 ^ 26, cir := bitsOf (w 1) 0 28, cbs, eir := bitsOf (w 3) 0 28, ebs }
    d.setFm m (
      if bitOf y.w0 31 && !bitOf x.w0 31 then
        { y with
          green := 0, yellow := 0, red := 0
          tc := bucketFull cbs d.plat.aon, te := bucketFull ebs d.plat.aon }
      else { y with tc := bucketAt 0 cbs d.plat.aon x.tc, te := bucketAt 0 ebs d.plat.aon x.te })

/-! ## Egress queues (R214 to R216) -/

def Dev.qs (d : Dev) (q : Nat) : QueueSt := tget d.tm.q q
def Dev.modQ (d : Dev) (q : Nat) (f : QueueSt → QueueSt) : Dev :=
  { d with tm := { d.tm with q := tmod d.tm.q q f } }

/-- R215: a tag comes before another: signed difference of 64 bits. -/
def tagBefore (a b : Nat) : Bool := decide (2 ^ 63 ≤ (2 ^ 64 + a % 2 ^ 64 - b % 2 ^ 64) % 2 ^ 64)

/-- R215: the virtual time of a port. -/
def Dev.vtime (d : Dev) (p : Nat) : Nat := tget d.tm.v p
def Dev.setVtime (d : Dev) (p v : Nat) : Dev :=
  { d with tm := { d.tm with v := tset d.tm.v p v } }.put (F.TM_PORT_VT_V p) (v / 65536 % 2 ^ 32)

/-- R215: the head of queue q receives its tag. -/
def Dev.tagHead (d : Dev) (q : Nat) : Dev :=
  match (d.qs q).copies with
  | [] => d
  | c :: rest =>
    match d.frame? c.id with
    | none => d
    | some g =>
      let len := if g.whole then g.bytes.length else d.maxLen g.port
      let a := d.acctLen (q / 8) len
      let w := d.get (F.TM_Q_WEIGHT_WEIGHT q)
      let v := d.vtime (q / 8)
      let f := (d.qs q).fprev
      let start := if tagBefore v f then f else v
      d.modQ q (fun s => { s with
        copies := { c with est := if g.whole then 0 else a, weight := w } :: rest
        fprev := (start + a * 65536 / w) % 2 ^ 64 })

/-- A copy of a frame enters queue q. -/
def Dev.pushCopy (d : Dev) (q id : Nat) : Dev :=
  let empty := (d.qs q).copies.isEmpty
  let d := d.modQ q (fun s => { s with copies := s.copies ++ [{ id, est := 0, weight := 0 }] })
  let d := if empty then d.tagHead q else d
  d.leaveLpi (q / 8)

/-- R215: the tail of a frame has arrived: the tag made with an estimated A is corrected. -/
def Dev.fixTag (d : Dev) (q est weight a : Nat) : Dev :=
  if est = 0 then d
  else d.modQ q (fun s => { s with
    fprev := unsignedOf 64 ((s.fprev : Int) - ((est : Int) - a) * 65536 / (weight : Int)) })

/-- R215: the tags of every copy of a frame corrected once its length is known. -/
def Dev.fixTags (d : Dev) (id len : Nat) : Dev :=
  let d := d.tm.q.foldl (fun a x =>
    match x.2.copies with
    | [] => a
    | c :: rest =>
      if c.id = id && c.est != 0 then
        (a.fixTag x.1 c.est c.weight (a.acctLen (x.1 / 8) len)).modQ x.1 (fun s =>
          { s with copies := { c with est := 0 } :: rest })
      else a) d
  d.ports.foldl (fun a x =>
    match x.2.tx with
    | none => a
    | some t =>
      if t.id = id && t.est != 0 then
        (a.fixTag t.queue t.est t.weight (a.acctLen x.1 len)).modPort x.1 (fun s =>
          { s with tx := some { t with est := 0 } })
      else a) d

/-- Queues that hold, or whose port transmits, a copy of a frame. -/
def Dev.queuesOf (d : Dev) (id : Nat) : List Nat :=
  (d.tm.q.filter (fun x => x.2.copies.any (fun c => c.id == id))).map (·.1) ++
    d.ports.filterMap (fun x => x.2.tx.bind (fun t => if t.id = id then some t.queue else none))

/-- R214: both shaper buckets of queue q now. -/
def Dev.qBuckets (d : Dev) (q : Nat) : Bucket × Bucket :=
  (bucketAt (d.get (F.TM_Q_CIR_RATE q)) (d.get (F.TM_Q_CBS_BYTES q)) d.plat.aon (d.qs q).committed,
    bucketAt (d.get (F.TM_Q_PIR_RATE q)) (d.get (F.TM_Q_PBS_BYTES q)) d.plat.aon (d.qs q).peak)

/-- R214: the tier of queue q: 2 committed, 1 peak, 0 ineligible. -/
def Dev.tier (d : Dev) (q : Nat) : Nat :=
  let (c, k) := d.qBuckets q
  if d.get (F.TM_Q_CIR_RATE q) != 0 && bucketPositive c then 2
  else if d.get (F.TM_Q_PIR_RATE q) = 0 || bucketPositive k then 1
  else 0

/-- R214: a transmitted frame is charged to the shapers of its queue. -/
def Dev.chargeShapers (d : Dev) (q : Nat) (committed : Bool) (a : Nat) : Dev :=
  let (c, k) := d.qBuckets q
  d.modQ q (fun s => { s with
    committed := if committed then bucketCharge c a else c, peak := bucketCharge k a })

/-! ## Gate lists (R217 to R219) -/

def Dev.gate (d : Dev) (p bank i : Nat) : GateEntry := tget d.tm.gates (512 * p + 256 * bank + i)
def Dev.gcl (d : Dev) (p : Nat) : GateSt := tget d.tm.gcl p
def Dev.modGcl (d : Dev) (p : Nat) (f : GateSt → GateSt) : Dev :=
  { d with tm := { d.tm with gcl := tmod d.tm.gcl p f } }

/-- The time of a port's gate domain in 2⁻¹⁶ ns. -/
def Dev.gateTime (d : Dev) (p : Nat) : Nat := d.tbVal (d.get (F.TM_GCL_CTRL_DOMAIN p))

/-- R217: entries with the position at which each ends, cut at the cycle, the last one to its end. -/
def gateSegs (cycle : Nat) : Nat → List GateEntry → List (Nat × Nat)
  | _, [] => []
  | at_, [e] => if at_ < cycle then [(e.gates, cycle)] else []
  | at_, e :: t =>
    if at_ < cycle then (e.gates, min cycle (at_ + e.ns)) :: gateSegs cycle (at_ + e.ns) t else []

/-- R217: the segments of the operational list of port p. -/
def Dev.gateList (d : Dev) (p : Nat) : List (Nat × Nat) :=
  let g := d.gcl p
  gateSegs g.cycle 0 ((List.range g.len).map (fun i => d.gate p (d.get (F.TM_GCL_STAT_OPER_BANK p)) i))

/-- R217: the position in the cycle now, in 2⁻¹⁶ ns. -/
def Dev.gatePos (d : Dev) (p : Nat) : Nat :=
  let g := d.gcl p
  ((((d.gateTime p : Nat) : Int) - (g.base * 65536 : Nat)) % ((g.cycle * 65536 : Nat) : Int)).toNat

/-- R217: index and gate states of the entry in force; every gate is open while no list runs. -/
def Dev.gateNow (d : Dev) (p : Nat) : Nat × Nat :=
  if d.flag (F.TM_GCL_STAT_RUNNING p) then
    let l := d.gateList p
    let x := d.gatePos p
    match l.findIdx? (fun s => decide (x < s.2 * 65536)) with
    | some i => (i, ((l[i]?).map (·.1)).getD 0xFF)
    | none => (0, 0xFF)
  else (0, 0xFF)

/-- R217: time in ns through the consecutive segments from `from_` that keep a gate open. -/
def openThrough (c : Nat) : Nat → List (Nat × Nat) → Nat
  | _, [] => 0
  | from_, s :: t => if bitOf s.1 c then (s.2 - from_) + openThrough c s.2 t else 0

/-- R217: the open time that remains to class c of port p, in 2⁻¹⁶ ns, at most one cycle; none while
no list runs. -/
def Dev.openTime (d : Dev) (p c : Nat) : Option Nat :=
  if d.flag (F.TM_GCL_STAT_RUNNING p) then
    let l := d.gateList p
    let x := d.gatePos p
    let cyc := (d.gcl p).cycle
    match l.dropWhile (fun s => decide (s.2 * 65536 ≤ x)) with
    | [] => some 0
    | s :: t =>
      if bitOf s.1 c then
        let rest := openThrough c s.2 t
        let tail := if t.all (fun y => bitOf y.1 c) then openThrough c 0 l else 0
        some (min (cyc * 65536) (s.2 * 65536 - x + (rest + tail) * 65536))
      else some 0
  else none

/-- R217: class c of port p may start a frame of accounted length a now. -/
def Dev.gateFits (d : Dev) (p c a : Nat) : Bool :=
  match d.openTime p c with
  | none => true
  | some t => decide (a * 8000 * 65536 ≤ t * d.portRate p) && decide (0 < t)

/-- R217: GATES and INDEX follow the entry in force. -/
def Dev.gateShow (d : Dev) (p : Nat) : Dev :=
  let (i, g) := d.gateNow p
  (d.put (F.TM_GCL_STAT_INDEX p) i).put (F.TM_GCL_STAT_GATES p) g

/-- R217: the interval of the entry in force of port p ends. -/
def Dev.gateChange (d : Dev) (p : Nat) : Dev :=
  if d.flag (F.TM_GCL_STAT_RUNNING p) then d.gateShow p else d

/-- The administrative base time of port p in ns. -/
def Dev.gclBase (d : Dev) (p : Nat) : Nat :=
  (d.get (F.TM_GCL_BASE_SEC_HI_SEC p) * 2 ^ 32 + d.get (F.TM_GCL_BASE_SEC_LO_SEC p)) * 1000000000 +
    d.get (F.TM_GCL_BASE_NS_NS p)

/-- The administrative bank. -/
def Dev.adminBank (d : Dev) (p : Nat) : Nat := 1 - d.get (F.TM_GCL_STAT_OPER_BANK p)

/-- R218: whether a COMMIT is refused with TM_CONFIG. -/
def Dev.gclBad (d : Dev) (p : Nat) : Bool :=
  let len := d.get (F.TM_GCL_LEN_LEN p)
  let cyc := d.get (F.TM_GCL_CYCLE_NS p)
  let dm := d.get (F.TM_GCL_CTRL_DOMAIN p)
  len == 0 || decide (256 < len) || decide (cyc < 1000) || decide (1000000000 < cyc) ||
    (List.range len).any (fun i => decide ((d.gate p (d.adminBank p) i).ns < 8)) ||
    (dm != 0 && !d.domEn (dm - 1)) || (decide (p < 16) && d.flag (F.EEE_CTRL_EN p))

/-- R218: the first B + k × C at or after `t`. -/
def takeover (b c t : Nat) : Nat := if t ≤ b then b else b + (t - b + c - 1) / c * c

/-- R218: the takeover instant of a COMMIT now, in ns of the gate domain. -/
def Dev.takeInstant (d : Dev) (p : Nat) : Nat :=
  takeover (d.gclBase p) (d.get (F.TM_GCL_CYCLE_NS p)) ((d.gateTime p + 65535) / 65536 + 1000)

/-- R218: the Canopy entry of a takeover at instant `t`. -/
def gateEntry (dm p t version : Nat) : WheelEntry :=
  let sec := t / 1000000000
  let e : WheelEntry := {
    w0 := 2 ^ 31 + dm * 2 ^ 24 + 3 * 2 ^ 20 + p
    w1 := sec % 2 ^ 32, w2 := sec / 2 ^ 32 % 2 ^ 16, w3 := t % 1000000000, version }
  { e with inst := wheelInstant e }

/-- R218: COMMIT schedules the takeover and writes Canopy entry p. -/
def Dev.gclCommit (d : Dev) (p : Nat) : Dev :=
  let t := d.takeInstant p
  let sec := t / 1000000000
  let d := (d.put (F.TM_GCL_TAKE_SEC_LO_SEC p) (sec % 2 ^ 32)).put (F.TM_GCL_TAKE_SEC_HI_SEC p) (sec / 2 ^ 32 % 2 ^ 16)
  let d := (d.put (F.TM_GCL_TAKE_NS_NS p) (t % 1000000000)).put (F.TM_GCL_STAT_PENDING p) 1
  let d := d.modGcl p (fun g => { g with
    take := some t, newCycle := d.get (F.TM_GCL_CYCLE_NS p), newLen := d.get (F.TM_GCL_LEN_LEN p) })
  d.writeEntry p (gateEntry (d.get (F.TM_GCL_CTRL_DOMAIN p)) p t ((d.entry p).version + 1))

/-- R219: the pending takeover of port p ends without being made. -/
def Dev.gclDrop (d : Dev) (p : Nat) : Dev :=
  (d.modGcl p (fun g => { g with take := none })).put (F.TM_GCL_STAT_PENDING p) 0

/-- R219: the traffic manager clears Canopy entry p. -/
def Dev.gclClearEntry (d : Dev) (p : Nat) : Dev :=
  let e := d.entry p
  d.setEntry p { clearValid e with version := e.version + 1, committed := 0 }

/-- R219: ABORT. -/
def Dev.gclAbort (d : Dev) (p : Nat) : Dev := (d.gclClearEntry p).gclDrop p

/-- R219: STOP ends the running list and any pending takeover, and every gate opens. -/
def Dev.gclStop (d : Dev) (p : Nat) : Dev :=
  let d := if (d.gcl p).take.isSome then d.gclAbort p else d
  (d.put (F.TM_GCL_STAT_RUNNING p) 0).gateShow p

/-- R218, R219: the GATE release of Canopy entry p: the administrative list takes over. -/
def Dev.gclTakeover (d : Dev) (p : Nat) (late : Bool) : Dev × Bool :=
  match (d.gcl p).take with
  | none => (d, false)
  | some t =>
    let d := d.modGcl p (fun g => { g with
      take := none, base := t, cycle := g.newCycle, len := g.newLen })
    let d := (d.put (F.TM_GCL_STAT_PENDING p) 0).put (F.TM_GCL_STAT_RUNNING p) 1
    let d := d.put (F.TM_GCL_STAT_OPER_BANK p) (1 - d.get (F.TM_GCL_STAT_OPER_BANK p))
    let d := (d.put (F.TM_GCL_OPER_CYCLE_NS p) (d.gcl p).cycle).gateShow p
    let d := d.raise (.tm 4) 1
    (if late then d.raise (.tm 4) 2 else d, true)

/-- R219: takeovers that Canopy has counted MISSED, or whose entry is gone, are lost. -/
def Dev.gclMissed (d : Dev) : Dev :=
  d.tm.gcl.foldl (fun a x =>
    if x.2.take.isSome && !wheelValid (a.entry x.1) then (a.gclDrop x.1).raise (.tm 4) 3 else a) d

/-- R66, R219: the release of a takeover is at hand: its tick has come, and no ABORT stops it. -/
def Dev.takeDue (d : Dev) (p : Nat) : Bool :=
  d.entryDue (d.entry p) || d.canopy.lateq.any (fun r => r.index == p && r.action == 3)

/-- R217 to R219: a write of TM_GCL_CTRL of port p. -/
def Dev.gclCtrlWrite (d : Dev) (p : Nat) (v : Word) : Wr :=
  let pend := d.flag (F.TM_GCL_STAT_PENDING p)
  let act := fun f => newField v f == 1
  let dom := d.changes v (F.TM_GCL_CTRL_DOMAIN p)
  refuseIf (dom && pend) 0x011F <|
  refuseIf (dom && d.flag (F.TM_GCL_STAT_RUNNING p)) 0x011E <|
  refuseIf (decide (4 < newField v (F.TM_GCL_CTRL_DOMAIN p))) 0x011E <|
  refuseIf (act (F.TM_GCL_CTRL_COMMIT p) && pend) 0x011F <|
  refuseIf (act (F.TM_GCL_CTRL_ABORT p) && (!pend || d.takeDue p)) 0x011F <|
  let d := d.put (F.TM_GCL_CTRL_DOMAIN p) (newField v (F.TM_GCL_CTRL_DOMAIN p))
  refuseIf (act (F.TM_GCL_CTRL_COMMIT p) && d.gclBad p) 0x011E <|
  let d := if act (F.TM_GCL_CTRL_ABORT p) then d.gclAbort p else d
  let d := if act (F.TM_GCL_CTRL_STOP p) then d.gclStop p else d
  .ok (if act (F.TM_GCL_CTRL_COMMIT p) then d.gclCommit p else d)

/-- R219: the entry of the window takes no change. -/
def Dev.gceLocked (d : Dev) : Bool :=
  let p := d.get F.TM_GCE_SEL_PORT
  d.flag (F.TM_GCL_STAT_PENDING p) || d.get F.TM_GCE_SEL_BANK == d.get (F.TM_GCL_STAT_OPER_BANK p)

/-- The selected gate entry shown in the window. -/
def Dev.gceShow (d : Dev) : Dev :=
  let e := d.gate (d.get F.TM_GCE_SEL_PORT) (d.get F.TM_GCE_SEL_BANK) (d.get F.TM_GCE_SEL_INDEX)
  (d.put F.TM_GCE_GATES_GATES e.gates).put F.TM_GCE_INTERVAL_NS e.ns

/-- The selected gate entry changed. -/
def Dev.gceSet (d : Dev) (f : GateEntry → GateEntry) : Dev :=
  let i := 512 * d.get F.TM_GCE_SEL_PORT + 256 * d.get F.TM_GCE_SEL_BANK + d.get F.TM_GCE_SEL_INDEX
  { d with tm := { d.tm with gates := tmod d.tm.gates i f } }.gceShow

/-- A write to TM page 4. -/
def Dev.tm4Write (d : Dev) (addr : Nat) (v : Word) : Wr :=
  let off := addr % 0x1000
  if off < 0x740 then
    let p := (off - 0x40) / 0x40
    if addr = R.TM_GCL_CTRL p then d.gclCtrlWrite p v
    else if R.TM_GCL_BASE_SEC_LO p ≤ addr ∧ addr ≤ R.TM_GCL_LEN p then
      refuseIf (d.flag (F.TM_GCL_STAT_PENDING p) && (d.store addr v).word addr != d.word addr) 0x011F <|
      refuseIf (addr == R.TM_GCL_BASE_NS p && decide (1000000000 ≤ newField v (F.TM_GCL_BASE_NS_NS p))) 0x011E <|
      .ok (d.store addr v)
    else .ok (d.store addr v)
  else if addr = R.TM_GCE_SEL then
    refuseIf (decide (28 ≤ newField v F.TM_GCE_SEL_PORT)) 0x011E (.ok (d.store addr v).gceShow)
  else if addr = R.TM_GCE_GATES then
    refuseIf (d.gceLocked && d.changes v F.TM_GCE_GATES_GATES) 0x011F
      (.ok (d.gceSet (fun e => { e with gates := newField v F.TM_GCE_GATES_GATES })))
  else if addr = R.TM_GCE_INTERVAL then
    refuseIf (d.gceLocked && d.changes v F.TM_GCE_INTERVAL_NS) 0x011F
      (.ok (d.gceSet (fun e => { e with ns := v.toNat })))
  else .ok (d.store addr v)

/-! ## Histograms (R220) -/

/-- R220: the bin of a value for a unit. -/
def histBin (u x : Nat) : Nat := if x < u then 0 else min 7 (Nat.log2 (x / u) + 1)

/-- R220: one bin increments. -/
def Dev.binUp (d : Dev) (i : Nat) : Dev :=
  { d with tm := { d.tm with hist := tset d.tm.hist i (satAdd 32 (tget d.tm.hist i) 1) } }

/-- R220: one queue is sampled. -/
def Dev.sampleQueue (d : Dev) (q : Nat) : Dev :=
  let delay := match (d.qs q).copies with
    | [] => 0
    | c :: _ =>
      match d.frame? c.id with
      | none => 0
      | some g => d.baseNs - g.ns
  let d := d.binUp (16 * q + histBin (d.get F.TM_HIST_UNIT_DEPTH_UNIT) (d.get (F.SW_QDEPTH_CELLS q)))
  d.binUp (16 * q + 8 + histBin (d.get F.TM_HIST_UNIT_DELAY_UNIT * 10) delay)

/-- R220: a histogram command acts. -/
def Dev.histEffect (d : Dev) : Dev :=
  let q := d.get F.TM_HIST_CMD_QUEUE
  let d := (List.range 16).foldl (fun a w => a.put (F.TM_HIST_DATA_DATA w) (tget a.tm.hist (16 * q + w))) d
  if d.flag F.TM_HIST_CMD_CLEAR then
    { d with tm := { d.tm with hist := tabDrop (fun i => i / 16 == q) d.tm.hist } }
  else d

/-- R220: the histogram command that waits completes. -/
def Dev.histDone (d : Dev) : Dev := if d.flag F.TM_HIST_CMD_GO then d.histEffect.put F.TM_HIST_CMD_GO 0 else d

/-- R220: a sampling boundary, PERIOD_US after the last; a histogram command that waits for it reads the bins. -/
def Dev.tmSample (d : Dev) : Dev :=
  let next := d.tm.sampled + d.get F.TM_SAMPLE_PERIOD_US * 1000
  if d.flag F.TM_SAMPLE_EN && decide (next ≤ d.plat.aon) then
    let d := { d with tm := { d.tm with sampled := next } }
    ((List.range 224).foldl (fun a q => a.sampleQueue q) d).histDone
  else d

/-- R91, R220: a write of TM_HIST_CMD: the command waits for the next sampling boundary; without sampling there
is none, and it acts at once (assumption 34). A command that waits keeps GO and its fields. -/
def Dev.histCmdWrite (d : Dev) (who : Init) (v : Word) : Dev :=
  let go := F.TM_HIST_CMD_GO
  if d.flag go then d
  else
    let d := (d.store R.TM_HIST_CMD v).put go 0
    if newField v go = 1 then
      let c := if 224 ≤ d.get F.TM_HIST_CMD_QUEUE then 0x011E else 0
      let d := (d.put F.TM_HIST_RESULT_CODE c).windowErr who R.TM_HIST_CMD c
      if c ≠ 0 then d else if d.flag F.TM_SAMPLE_EN then d.put go 1 else d.histEffect
    else d

/-! ## Register writes -/

/-- R211: a write of TM_PM_CFG or TM_PM_BURST of meter m. -/
def Dev.pmWrite (d : Dev) (m addr : Nat) (v : Word) : Wr :=
  refuseIf (addr == R.TM_PM_CFG m && decide (50000000 < newField v (F.TM_PM_CFG_RATE m))) 0x011E <|
  let b := d.pmNow m
  let was := d.flag (F.TM_PM_CFG_EN m)
  let d := d.store addr v
  let size := d.get (F.TM_PM_BURST_BURST m)
  .ok (d.setPm m (if d.flag (F.TM_PM_CFG_EN m) && !was then bucketFull size d.plat.aon
    else bucketAt 0 size d.plat.aon b))

/-- R214, R216: a write of a shaper register of queue q. -/
def Dev.shaperWrite (d : Dev) (q addr : Nat) (v : Word) : Wr :=
  let (c, k) := d.qBuckets q
  let old := (d.get (F.TM_Q_CIR_RATE q), d.get (F.TM_Q_PIR_RATE q))
  let d := d.store addr v
  let cir := d.get (F.TM_Q_CIR_RATE q)
  let pir := d.get (F.TM_Q_PIR_RATE q)
  let cbs := d.get (F.TM_Q_CBS_BYTES q)
  let pbs := d.get (F.TM_Q_PBS_BYTES q)
  refuseIf (decide (50000000 < cir) || decide (50000000 < pir) || (cir != 0 && cbs == 0) ||
    (pir != 0 && pbs == 0)) 0x011E <|
  .ok (d.modQ q (fun s => { s with
    committed := if old.1 = 0 ∧ cir ≠ 0 then bucketFull cbs d.plat.aon else bucketAt 0 cbs d.plat.aon c
    peak := if old.2 = 0 ∧ pir ≠ 0 then bucketFull pbs d.plat.aon else bucketAt 0 pbs d.plat.aon k }))

/-- A write to TM page 0. -/
def Dev.tm0Write (d : Dev) (addr : Nat) (v : Word) : Wr :=
  let off := addr % 0x1000
  if addr = R.TM_SAMPLE then
    refuseIf (newField v F.TM_SAMPLE_PERIOD_US == 0) 0x011E <|
    let was := d.flag F.TM_SAMPLE_EN
    let d := d.store addr v
    .ok (if d.flag F.TM_SAMPLE_EN && !was then { d with tm := { d.tm with sampled := d.plat.aon } }
      else if d.flag F.TM_SAMPLE_EN then d else d.histDone)
  else if 0x100 ≤ off ∧ off < 0x500 ∧ off % 16 < 8 then d.pmWrite ((off - 0x100) / 16) addr v
  else .ok (d.store addr v)

/-- A write to the TM pages. -/
def Dev.tmWrite (d : Dev) (k : Nat) (who : Init) (addr : Nat) (v : Word) : Wr :=
  let off := addr % 0x1000
  if k = 0 then d.tm0Write addr v
  else if k = 1 then
    .ok (if addr = R.TM_FM_CMD then
      d.window who addr v F.TM_FM_CMD_GO F.TM_FM_RESULT_CODE (fun d => d.fmCode) (fun d => d.fmEffect)
    else d.store addr v)
  else if k = 2 then
    if 0x40 ≤ off ∧ off < 0xE40 then d.shaperWrite ((off - 0x40) / 16) addr v else .ok (d.store addr v)
  else if k = 3 then
    refuseIf (decide (0x40 ≤ off) && decide (off < 0x3C0) && wordBits v 0 16 == 0) 0x011E (.ok (d.store addr v))
  else if k = 4 then d.tm4Write addr v
  else if addr = R.TM_HIST_CMD then
    .ok (d.histCmdWrite who v)
  else if addr = R.TM_HIST_UNIT then
    refuseIf (newField v F.TM_HIST_UNIT_DEPTH_UNIT == 0 || newField v F.TM_HIST_UNIT_DELAY_UNIT == 0) 0x011E
      (.ok (d.store addr v))
  else .ok (d.store addr v)

end Sys2Proof.Machine
end

