-- ==== Sys2Proof/Machine/Switch.lean ====
section
/-! DEFINITION. The switch core: the parser, the forwarding decision (R180 to R182, R57), stream
filters and meters (R204, R211, R212), admission (R186 to R190), frame tails (R184), the VLAN and
Limp windows (R180, R205). -/

namespace Sys2Proof.Machine
open Sys2Proof

/-! ## The parser -/

/-- The header of a frame: addresses, tag control information, EtherType and where its payload
begins. A tag is one with EtherType 0x8100. -/
structure Head where
  da : Nat
  sa : Nat
  tag : Option Nat
  etype : Nat
  off : Nat
  deriving DecidableEq, Repr

/-- A number of n bytes of a frame, first byte most significant. -/
def beAt (f : List Byte) (off n : Nat) : Nat := beNat (slice f off n)

/-- The header of a frame. -/
def headOf (f : List Byte) : Head :=
  let tagged := beAt f 12 2 == 0x8100
  { da := beAt f 0 6, sa := beAt f 6 6, tag := if tagged then some (beAt f 14 2) else none
    etype := if tagged then beAt f 16 2 else beAt f 12 2, off := if tagged then 18 else 14 }

/-- The group bit of an address. -/
def isGroup (a : Nat) : Bool := bitOf a 40

/-- R180: a link-local address. -/
def isLinkLocal (a : Nat) : Bool := a / 16 == 0x0180C2000000 / 16

/-! ## PTP (R57) -/

/-- PTP messageType, twoStepFlag, domainNumber and sequenceId of a frame. -/
def ptpType (f : List Byte) (off : Nat) : Nat := beAt f off 1 % 16
def ptpTwoStep (f : List Byte) (off : Nat) : Bool := bitOf (beAt f (off + 6) 1) 1
def ptpDomain (f : List Byte) (off : Nat) : Nat := beAt f (off + 4) 1
def ptpSeq (f : List Byte) (off : Nat) : Nat := beAt f (off + 30) 2

/-- R57: the domain whose valid PTP_DMAP entry has a domainNumber and satisfies a test. -/
def Dev.ptpMap (d : Dev) (num : Nat) (p : Nat → Bool) : Option Nat :=
  findBelow 4 (fun k => d.flag (F.PTP_DMAP_VALID k) && d.get (F.PTP_DMAP_DOMAIN_NUMBER k) == num && p k)

/-! ## The forwarding decision (R180, R181) -/

/-- What R180 decides of a frame. -/
structure Fwd where
  dest : Nat
  cls : Nat
  vid : Option Nat
  pcp : Nat
  handle : Nat
  ptp : PtpFix
  /-- Counted in SW_IN_DROP. -/
  bad : Bool
  /-- Flooded. -/
  flood : Bool
  deriving DecidableEq, Repr

/-- Every port. -/
def allPorts : Nat := 2 ^ 28 - 1

/-- R181: the class of a PCP on a port. -/
def Dev.classOf (d : Dev) (p pcp : Nat) : Nat := bitsOf (d.get (F.SW_PCP_MAP_CLASSES p)) (3 * pcp) 3

/-- R180: the VID of a frame on a port; R205: PVID 1 in Limp without an image. -/
def Dev.vidOf (d : Dev) (p : Nat) (h : Head) : Nat :=
  let pvid := if d.sw.pvid1 && d.mode == 7 then 1 else d.get (F.SW_PORT_CFG_PVID p)
  match h.tag with
  | some t => if t % 4096 = 0 then pvid else t % 4096
  | none => pvid

/-- R180: PCP of a frame. -/
def Dev.pcpOf (d : Dev) (p : Nat) (h : Head) : Nat :=
  match h.tag with
  | some t => t / 8192
  | none => d.get (F.SW_PORT_CFG_DEFAULT_PCP p)

/-- R180 step 2: the frame is discarded. -/
def Dev.vlanBad (d : Dev) (p : Nat) (h : Head) : Bool :=
  let acc := d.get (F.SW_PORT_CFG_ACCEPT p)
  let carries := match h.tag with
    | some t => t % 4096 != 0
    | none => false
  let vid := d.vidOf p h
  let e := tget d.sw.vlan vid
  (acc == 1 && !carries) || (acc == 2 && carries) || vid == 4095 || !bitOf e.w0 31 || !bitOf e.w0 p || isGroup h.sa

/-- R180 step 5: the destination set before VLAN membership, whether the frame floods, the class,
and the destination's stream. -/
def Dev.destOf (d : Dev) (p : Nat) (h : Head) (cls : Nat) : Nat × Bool × Nat × Nat :=
  let s := portSlice p
  match d.lkFind s h.da (d.vidOf p h) with
  | some i =>
    let e := tget (d.lkSlice s).tab i
    (if e.drop then 0 else e.dest, false, if e.prioEn then e.prio else cls, e.dstStream)
  | none =>
    let flood := h.da == 2 ^ 48 - 1 ||
      (if isGroup h.da then d.flag (F.SW_PORT_CFG_MC_FLOOD p) else d.flag (F.SW_PORT_CFG_UUC_FLOOD p))
    (if flood then allPorts else 0, flood, cls, 0)

/-- R204: the stream handle of the source entry. -/
def Dev.srcStream (d : Dev) (p : Nat) (h : Head) : Nat :=
  let s := portSlice p
  match d.lkFind s h.sa (d.vidOf p h) with
  | some i => (tget (d.lkSlice s).tab i).srcStream
  | none => 0

/-- R205: Limp removes port 26 from every destination set. -/
def Dev.limpSet (d : Dev) (set : Nat) : Nat := if d.mode = 7 then clrBit set 26 else set

/-- R180 steps 2 to 7 for a frame that is switched. -/
def Dev.switched (d : Dev) (p : Nat) (h : Head) (ptp : PtpFix) : Fwd :=
  let pcp := d.pcpOf p h
  let vid := d.vidOf p h
  let (set, flood, cls, dst) := d.destOf p h (d.classOf p pcp)
  let member := bitsOf (tget d.sw.vlan vid).w0 0 28
  { dest := d.limpSet (clrBit (Nat.land set member) p), cls, vid := some vid, pcp
    handle := if dst = 0 then d.srcStream p h else dst, ptp, bad := d.vlanBad p h, flood }

/-- A frame with a fixed destination set, forwarded as received. -/
def Dev.fixed (d : Dev) (p : Nat) (h : Head) (set : Nat) (ptp : PtpFix) : Fwd :=
  let pcp := d.pcpOf p h
  { dest := set, cls := if isLinkLocal h.da then 7 else d.classOf p pcp, vid := none, pcp, handle := 0
    ptp, bad := false, flood := false }

/-- R57, R180: the decision for a frame from port p. -/
def Dev.forward (d : Dev) (p : Nat) (f : List Byte) : Fwd :=
  let h := headOf f
  if h.etype = 0x88F7 ∧ p < 24 then
    let num := ptpDomain f h.off
    let one := d.ptpMap num (fun k => d.flag (F.PTP_DMAP_ONESTEP k) && d.get (F.PTP_DMAP_SLAVE_PORT k) == p &&
      ptpType f h.off == 0 && !ptpTwoStep f h.off)
    match one with
    | some k => d.fixed p h (Nat.lor (d.get (F.PTP_MASTERS_MASK k)) (2 ^ 27)) (.oneStep k)
    | none =>
      match d.ptpMap num (fun k => d.flag (F.PTP_DMAP_TC k) && decide (ptpType f h.off < 4)) with
      | some k => d.switched p h (.transparent k)
      | none => if h.da = 0x0180C200000E then d.fixed p h (2 ^ 27) .none else d.switched p h .none
  else if isLinkLocal h.da then d.fixed p h (2 ^ 27) .none
  else d.switched p h .none

/-! ## Stream filters (R204) -/

/-- A counter of a filter advances. -/
def up32 (x : Nat) : Nat := satAdd 32 x 1

/-- R204: the head of a frame meets its filter: whether it is dropped. -/
def Dev.filterHead (d : Dev) (s h : Nat) : Dev × Bool :=
  let f := d.filter s h
  let drop := bitOf f.w0 28 || !bitOf f.w0 30
  (d.setFilter s h { f with matched := up32 f.matched, gateDrop := if drop then up32 f.gateDrop else f.gateDrop },
    drop)

/-- R204: the filter judges the length of a frame: whether it is oversize. -/
def Dev.filterTail (d : Dev) (s h len : Nat) : Dev × Bool :=
  let f := d.filter s h
  let big := f.w1 != 0 && decide (f.w1 < len)
  if big then
    let block := bitOf f.w0 29
    let d := d.setFilter s h { f with sduDrop := up32 f.sduDrop, w0 := if block then setBit f.w0 28 else f.w0 }
    (if block then d.raise (.lk s 3) 1 else d, true)
  else (d.setFilter s h { f with passed := up32 f.passed }, false)

/-! ## Records of frames (R226, R227) -/

/-- R227: the ingress record of a frame is completed with its fate. -/
def Dev.ingressRecord (d : Dev) (p : Nat) (f : RxFrame) (fate cause : Nat) (started : Bool) : Dev :=
  d.tapTail f.taps {
    source := capSource p false f.tb, stamp := f.stamp, orig := f.bytes.length
    flags := boolNat (fate == 5) * 4 + boolNat (fate == 5 && started) * 8 + boolNat f.coarse * 32 +
      fate * 256 + cause * 4096
    aux := f.dest, aux2 := f.cls, data := f.bytes }

/-! ## Tails (R184) -/

/-- R184: every copy of a frame not yet started is removed; with a copy started each is counted. -/
def Dev.dropQueued (d : Dev) (id : Nat) (count : Bool) : Dev :=
  d.tm.q.foldl (fun a x =>
    match x.2.copies.filter (fun c => c.id == id) with
    | [] => a
    | _ :: _ =>
      let cells := ((a.frame? id).map (·.cells)).getD 0
      let wasHead := (x.2.copies.head?.map (·.id)) == some id
      let a := (a.modQ x.1 (fun s => { s with copies := s.copies.filter (fun c => c.id != id) })).depthSub x.1 cells
      let a := if wasHead then a.tagHead x.1 else a
      let a := a.modPort (x.1 / 8) (fun s => { s with idle := a.plat.aon })
      let a := if count then a.bump F.SW_CT_DISCARD_COUNT else a
      a.releaseCopy id) d

/-- R184: a stored frame is found bad. -/
def Dev.frameBad (d : Dev) (id : Nat) : Dev :=
  match d.frame? id with
  | none => d
  | some g =>
    let d := d.modFrame id (fun g => { g with whole := true, bad := true })
    if g.started then
      let d := (d.bump F.SW_CT_BAD_COUNT).raise (.sw 0) 2
      d.dropQueued id true
    else d.dropQueued id false

/-- R186, R187, R215: the rest of a stored frame of n bytes arrives: its cells and tags. -/
def Dev.frameGrow (d : Dev) (id : Nat) (bytes : List Byte) : Dev :=
  match d.frame? id with
  | none => d
  | some g =>
    let more := cellsOf bytes.length - g.cells
    let d := if g.head then d.headAdd g.port more else d.takeCells more
    let d := (d.queuesOf id).foldl (fun a q => a.depthAdd q more) d
    let d := d.modFrame id (fun g => { g with bytes, cells := g.cells + more })
    (d.fixTags id bytes.length).xoffCheck g.port g.cls

/-- R184, R204, R210, R227: the tail of a frame that has had its lookup: charges, length check,
end good or bad, ingress record. -/
def Dev.finishFrame (d : Dev) (p : Nat) (f : RxFrame) : Dev :=
  let a := d.acctLen p f.bytes.length
  let d := f.charges.foldl (fun x c => x.charge c a) d
  let (d, big) := match f.filter with
    | none => (d, false)
    | some h => d.filterTail (portSlice p) h f.bytes.length
  let cause := if f.bad != 0 then f.bad else if big then 4 else 0
  match f.pos with
  | .stored id =>
    let d := d.frameGrow id f.bytes
    let d := if cause = 0 then d.modFrame id (fun g => { g with whole := true }) else d.frameBad id
    d.ingressRecord p f (if cause = 0 then 0 else 5) cause f.started
  | .gone fate => d.ingressRecord p f (if cause = 0 then fate else 5) cause false
  | _ => d.ingressRecord p f (if cause = 0 then 0 else 5) cause false

/-! ## Admission (R186 to R190) -/

/-- R188: class c of an ingress port is lossless. -/
def Dev.lossless (d : Dev) (p c : Nat) : Bool := decide (24 ≤ p) || bitOf (d.get (F.SW_IFC_HEAD_LOSSLESS p)) c

/-- R190: a frame carries IPv4 or IPv6 behind at most two VLAN tags with ECT(0) or ECT(1): where its
IP header begins. -/
def ipHeader (f : List Byte) : Option Nat :=
  let vlan := fun t => t == 0x8100 || t == 0x88A8
  let off := if vlan (beAt f 12 2) then (if vlan (beAt f 16 2) then 20 else 16) else 12
  let et := beAt f off 2
  if et = 0x0800 ∨ et = 0x86DD then some (off + 2) else none

/-- R190: the ECN codepoint of an IP header. -/
def ecnOf (f : List Byte) (ip : Nat) : Nat :=
  if beAt f ip 1 / 16 = 4 then beAt f (ip + 1) 1 % 4 else bitsOf (beAt f (ip + 1) 1) 4 2

/-- R190: an ECN-capable frame. -/
def ecnCapable (f : List Byte) : Bool :=
  match ipHeader f with
  | some ip => ecnOf f ip == 1 || ecnOf f ip == 2
  | none => false

/-- R187, R188: whether the copy for an egress port is admitted, with the refusal counted. -/
def Dev.admitCopy (d : Dev) (p c e : Nat) : Dev × Bool :=
  let q := 8 * e + c
  let free := d.get F.SW_GAL_STAT_FREE
  if d.lossless p c then (d, true)
  else if d.get (F.SW_QDEPTH_CELLS q) < d.get (F.SW_QCFG_QLIM q) ∧ 1 ≤ free then (d, true)
  else
    let d := d.bump (F.SW_QDROP_COUNT q)
    (if free = 0 then (d.bump F.SW_POOL_DROP_COUNT).raise (.sw 0) 1 else d, false)

/-- The ports of a set. -/
def portsOf (set : Nat) : List Nat := (List.range 28).filter (fun e => bitOf set e)

/-- R188: a frame of a lossless class that meets FREE = 0 goes to the headroom, or is discarded. -/
def Dev.headroomFits (d : Dev) (p : Nat) : Bool :=
  decide (d.get (F.SW_IFC_STAT_HEAD_USED p) + cellsOf (d.maxLen p) ≤ d.get (F.SW_IFC_HEAD_HEADROOM p))

/-- R187, R190: a frame is stored with its admitted copies. -/
def Dev.storeFrame (d : Dev) (p : Nat) (f : RxFrame) (w : Fwd) (mark : Bool) (ports : List Nat) (head : Bool) :
    Dev × Nat :=
  let cells := cellsOf f.bytes.length
  let d := if head then d.headAdd p cells else d.takeCells cells
  let dei := match (headOf f.bytes).tag with
    | some t => bitOf t 12
    | none => false
  let ce := if ecnCapable f.bytes then
      ports.filter (fun e =>
        let q := 8 * e + w.cls
        let th := d.get (F.SW_QCFG_ECN_TH q)
        th != 0 && decide (th ≤ d.get (F.SW_QDEPTH_CELLS q)))
    else []
  let g : GFrame := {
    port := p, cls := w.cls, bytes := f.bytes, whole := f.whole, vid := w.vid, pcp := w.pcp
    stamp := f.stamp, base := f.base, cells, head, copies := ports.length, dei := dei || mark, ce
    ptp := w.ptp, ns := d.baseNs }
  let (d, id) := d.addFrame g
  let d := ports.foldl (fun a e => (a.depthAdd (8 * e + w.cls) cells).pushCopy (8 * e + w.cls) id) d
  (d.xoffCheck p w.cls, id)

/-- R187, R188: admission of a frame: its identifier, none where no copy is admitted. -/
def Dev.admitFrame (d : Dev) (p : Nat) (f : RxFrame) (w : Fwd) (mark : Bool) : Dev × Option Nat :=
  let ports := portsOf w.dest
  if d.lossless p w.cls && d.get F.SW_GAL_STAT_FREE == 0 then
    if decide (p < 24) && d.headroomFits p then
      let (d, id) := d.storeFrame p f w mark ports true
      (d, some id)
    else (d.bump (F.SW_IFC_HDROP_COUNT p), none)
  else
    let (d, ok) := ports.foldl (fun (a : Dev × List Nat) e =>
      let (x, y) := a.1.admitCopy p w.cls e
      (x, if y then a.2 ++ [e] else a.2)) (d, [])
    if ok.isEmpty then (d, none)
    else
      let (d, id) := d.storeFrame p f w mark ok false
      (d, some id)

/-! ## The lookup result (R180) -/

/-- R204, R211, R212: filter and meters of a frame: fate 0 to go on, what it owes, its filter, and
whether its copies are marked. -/
def Dev.police (d : Dev) (p : Nat) (f : RxFrame) (w : Fwd) : Dev × Nat × List Charge × Option Nat × Bool :=
  let s := portSlice p
  let a := d.acctLen p f.bytes.length
  let flt := if w.handle != 0 && bitOf (d.filter s w.handle).w0 31 then some w.handle else none
  let (d, gated) := match flt with
    | none => (d, false)
    | some h => d.filterHead s h
  if gated then (d, 3, [], none, false)
  else
    let pm := d.pmOf p w.cls
    let pass := match pm with
      | none => true
      | some m => bucketPasses (d.pmNow m) f.whole a
    if !pass then
      let m := pm.getD 0
      (((d.bump (F.TM_PM_DROP_COUNT m)).raise (.tm 0) 1), 2, [], none, false)
    else
      let owed := match pm with
        | none => []
        | some m => [Charge.port m]
      match flt with
      | none => (d, 0, owed, none, false)
      | some h =>
        let x := (d.filter s h).w0
        if bitOf x 27 then
          let dei := match (headOf f.bytes).tag with
            | some t => bitOf t 12
            | none => false
          let (d, c) := d.fmTest (bitsOf x 0 13) f.whole a dei
          let owed := owed ++ c.charge.toList
          if c.drop then (d, 3, owed, none, false) else (d, 0, owed, some h, c.mark)
        else (d, 0, owed, some h, false)

/-- The first frame of a list that waits for its lookup, where none before it is held back. -/
def nextLookup : List RxFrame → Option Nat
  | [] => none
  | f :: t =>
    match f.pos with
    | .lookup => some 0
    | .held => none
    | .icv => none
    | _ => (nextLookup t).map (· + 1)

/-- Received frame k of a port changed, or taken out when it has left the receive buffer. -/
def Dev.setRx (d : Dev) (p k : Nat) (f : RxFrame) : Dev :=
  d.modPort p (fun s => { s with rx := s.rx.set k f })
def Dev.dropRx (d : Dev) (p k : Nat) : Dev := d.modPort p (fun s => { s with rx := s.rx.eraseIdx k })

/-- A frame that has had its lookup: with its tail in, it leaves the receive buffer. -/
def Dev.placed (d : Dev) (p k : Nat) (f : RxFrame) : Dev :=
  if f.whole then (d.dropRx p k).finishFrame p f else d.setRx p k f

/-- R189: ports 24–27 hold a frame while XOFF is raised for its class or FREE is 0. -/
def Dev.producerHolds (d : Dev) (p c : Nat) : Bool :=
  decide (24 ≤ p) && (bitOf (d.get (F.SW_IFC_STAT_XOFF p)) c || d.get F.SW_GAL_STAT_FREE == 0)

/-- R275: in Secure Start only EP0 is served, when BOOTSEL is 0b10. -/
def Dev.startAdmits (d : Dev) (p : Nat) : Bool := d.mode != 3 || (p == 0 && d.get F.PC_STRAP_BOOTSEL == 2)

/-- R275: in Secure Start frames go to port 27 alone. -/
def Dev.startOnly (d : Dev) (w : Fwd) : Fwd :=
  if d.mode = 3 then { w with dest := if bitOf w.dest 27 then 2 ^ 27 else 0 } else w

/-- R180, R326: the decision for a frame from port p. A lookup that reads a bad word of its slice is a miss, and
the entry that holds the word, a free one, is removed. -/
def Dev.lookUp (d : Dev) (p : Nat) (f : List Byte) : Fwd × Dev :=
  let s := portSlice p
  match d.meets (3 + s) with
  | (none, d) => (d.startOnly (d.forward p f), d)
  | (some e, d) =>
    let (i, d) := d.free 131072
    let d := (d.lkSet s i default).wordsWritten (fun w => w == e.word)
    (d.startOnly ({ d with lk := tset d.lk s default }.forward p f), d)

/-- R326: a bad word of fabric or buffer memory: frame k of port p, which waits for its lookup, is discarded. -/
def Dev.rxLost (d : Dev) (p k : Nat) : Dev :=
  match (d.port p).rx[k]? with
  | none => d
  | some f => (d.bump F.SW_IN_DROP_COUNT).placed p k { f with pos := .gone 1 }

/-- R180: the slice that serves port p returns the result for the next frame of the port. -/
def Dev.lookupResult (d : Dev) (p : Nat) : Dev :=
  if d.enabled (.sw 0) && d.enabled (.lk (portSlice p) 0) && d.mode != 11 && d.startAdmits p then
    match nextLookup (d.port p).rx with
    | none => d
    | some k =>
      match (d.port p).rx[k]? with
      | none => d
      | some f =>
        let (w, d1) := d.lookUp p f.bytes
        if d.producerHolds p w.cls then d
        else
        let (bad, d) := d1.fabricBad
        if bad then d.rxLost p k
        else if w.bad then (d.bump F.SW_IN_DROP_COUNT).placed p k { f with pos := .gone 1, cls := w.cls }
        else
          let h := headOf f.bytes
          let d := if w.vid.isSome then d.lkLearn p h.sa (d.vidOf p h) (f.stamp / 8 % 2 ^ 32) else d
          let d := if w.flood then d.bump (F.LK_FLOOD_COUNT (portSlice p)) else d
          let f := { f with dest := w.dest, cls := w.cls }
          if w.dest = 0 then (d.bump F.SW_EMPTY_COUNT).placed p k { f with pos := .gone 1 }
          else
            let (d, fate, owed, flt, mark) := d.police p f w
            let f := { f with charges := owed, filter := flt }
            if fate != 0 then d.placed p k { f with pos := .gone fate }
            else
              let (d, id) := d.admitFrame p f w mark
              match id with
              | none => d.placed p k { f with pos := .gone 4 }
              | some id => d.placed p k { f with pos := .stored id }
  else d

/-! ## The VLAN window (R180) -/

/-- R180: the code of a VLAN command. -/
def Dev.vlanCode (d : Dev) : Nat :=
  let op := d.get F.SW_VCMD_OP
  let vid := d.get F.SW_VCMD_VID
  if 2 ≤ op ∨ (op = 1 ∧ (vid = 0 ∨ vid = 4095)) then 0x0118 else 0

/-- R180: a VLAN command. -/
def Dev.vlanEffect (d : Dev) : Dev :=
  let vid := d.get F.SW_VCMD_VID
  if d.get F.SW_VCMD_OP = 0 then
    let e := tget d.sw.vlan vid
    (d.setWord R.SW_VDATA0 (BitVec.ofNat 32 e.w0)).setWord R.SW_VDATA1 (BitVec.ofNat 32 e.w1)
  else
    let e : VlanEntry := { w0 := (d.word R.SW_VDATA0).toNat, w1 := (d.word R.SW_VDATA1).toNat }
    { d with sw := { d.sw with vlan := tset d.sw.vlan vid e } }

/-! ## The Limp image (R205) -/

/-- R205: the bytes over which a copy's CRC-32C is taken: five words of each record, little-endian. -/
def limpBytes (t : Tab Nat) : List Byte := ((List.range 1600).map (fun i => leBytes 4 (tget t i))).flatten

/-- R205: a copy passes its CRC. -/
def limpGood (c : Option LimpCopy) : Bool :=
  match c with
  | none => false
  | some x => crc32c (limpBytes x.words) == x.crc

/-- R205: the active copy. -/
def Dev.limpActive (d : Dev) : Option LimpCopy := if d.sw.active then d.sw.copy1 else d.sw.copy0

/-- R205: COMMIT writes the staging copy to the inactive copy, which becomes active. -/
def Dev.limpCommit (d : Dev) : Dev :=
  let c : LimpCopy := { words := d.sw.stage, crc := crc32c (limpBytes d.sw.stage) }
  let sw := if d.sw.active then { d.sw with copy0 := some c, active := false }
    else { d.sw with copy1 := some c, active := true }
  { d with sw := { sw with limpGen := (sw.limpGen + 1) % 2 ^ 16 } }

/-- R205: the code of a Limp command. -/
def Dev.limpCode (d : Dev) : Nat :=
  let op := d.get F.SW_LIMP_CMD_OP
  if op = 3 ∨ 320 ≤ d.get F.SW_LIMP_CMD_INDEX then 0x0118 else 0

/-- R205: a Limp command. -/
def Dev.limpEffect (d : Dev) : Dev :=
  let op := d.get F.SW_LIMP_CMD_OP
  let i := 5 * d.get F.SW_LIMP_CMD_INDEX
  if op = 0 then (List.range 5).foldl (fun a w => a.put (F.SW_LIMP_DATA_DATA w) (tget a.sw.stage (i + w))) d
  else if op = 1 then
    let stage := (List.range 5).foldl (fun t w => tset t (i + w) (d.get (F.SW_LIMP_DATA_DATA w))) d.sw.stage
    { d with sw := { d.sw with stage } }
  else d.limpCommit

/-- R205, R206: both tables, the VLAN table and every stream filter cleared. -/
def Dev.clearTables (d : Dev) : Dev :=
  let d := (d.lkRemove 0 (fun _ => true)).lkRemove 1 (fun _ => true)
  { d with sw := { d.sw with vlan := [] }, lk := tmap d.lk (fun x => { x with filters := [] }) }

/-- R205: VLAN definition record r of an image is written. -/
def Dev.limpVlan (d : Dev) (t : Tab Nat) (r : Nat) : Dev :=
  let w0 := tget t (5 * r)
  if bitOf w0 31 then
    let e : VlanEntry := { w0 := 2 ^ 31 + bitsOf (tget t (5 * r + 1)) 0 28, w1 := bitsOf (tget t (5 * r + 2)) 0 28 }
    { d with sw := { d.sw with vlan := tset d.sw.vlan (w0 % 4096) e } }
  else d

/-- R205: static entry record r of an image is inserted into slice s; one that meets TABLE_FULL is
skipped and counted. -/
def Dev.limpEntry (d : Dev) (t : Tab Nat) (s r : Nat) : Dev :=
  let w := fun k => tget t (5 * r + k)
  if bitOf (w 1) 31 then
    let e := lkOfWords (bitsOf (w 1) 0 16 * 2 ^ 32 + w 0) (bitsOf (w 1) 16 12) w
    let (d, ok) := d.lkInsert s { e with static := true }
    if ok then d else d.bump (F.LK_FULL_COUNT s)
  else d

/-- R205: every frame queued toward port 26 is discarded and counted. -/
def Dev.emptyPort26 (d : Dev) : Dev :=
  (List.range 8).foldl (fun a c =>
    let q := 208 + c
    (a.qs q).copies.foldl (fun b x =>
      let cells := ((b.frame? x.id).map (·.cells)).getD 0
      (((b.depthSub q cells).bump (F.SW_QDROP_COUNT q)).modQ q (fun s =>
        { s with copies := s.copies.drop 1 })).releaseCopy x.id) a) d

/-- R205: VID 1 of ports 0–23 and 27, and every PVID 1. -/
def Dev.limpDefault (d : Dev) : Dev :=
  let m := 2 ^ 24 - 1 + 2 ^ 27
  { d with sw := { d.sw with vlan := tset d.sw.vlan 1 { w0 := 2 ^ 31 + m, w1 := m }, pvid1 := true } }

/-- R205: the image that Limp takes: the active copy, or where that fails its CRC the other. -/
def Dev.limpImage (d : Dev) : Option LimpCopy :=
  let other := if d.sw.active then d.sw.copy0 else d.sw.copy1
  if limpGood d.limpActive then d.limpActive else if limpGood other then other else none

/-- R205: the entry into Limp. -/
def Dev.limpEnter (d : Dev) : Dev :=
  let d := d.clearTables
  let d :=
    match d.limpImage with
    | some c =>
      let d := (List.range 64).foldl (fun (a : Dev) k => a.limpVlan c.words (256 + k)) d
      let d := (List.range 256).foldl (fun (a : Dev) r => (a.limpEntry c.words 0 r).limpEntry c.words 1 r) d
      { d with sw := { d.sw with pvid1 := false } }
    | none => d.limpDefault
  d.emptyPort26

/-! ## Register writes -/

/-- R186: cells of the shared pool that frames hold. -/
def Dev.poolUsed (d : Dev) : Nat :=
  (d.sw.frames.foldl (fun n x => if x.2.head then n else n + x.2.cells) 0) - d.sw.guard

/-- R186: the size of the shared pool; 0 where the shares exceed the Gallery. -/
def Dev.poolSize (d : Dev) : Nat :=
  65536 - 1024 - d.get F.GV_IMG_CELLS_CELLS - d.get F.SW_GAL_RES_HEADROOM_TOTAL

/-- R186: FREE follows a change of the shares. -/
def Dev.repool (d : Dev) : Dev := d.put F.SW_GAL_STAT_FREE (d.poolSize - d.poolUsed)

/-- R186, R188: a write of SW_IFC_HEAD of port p. -/
def Dev.ifcHeadWrite (d : Dev) (p : Nat) (v : Word) : Wr :=
  let h := F.SW_IFC_HEAD_HEADROOM p
  refuseIf (d.changes v h && d.enabled (.sw 0)) 0x0118 <|
  refuseIf (decide (4096 < newField v h)) 0x0118 <|
  let total := d.get F.SW_GAL_RES_HEADROOM_TOTAL - d.get h + newField v h
  .ok ((d.store (R.SW_IFC_HEAD p) v).put F.SW_GAL_RES_HEADROOM_TOTAL total).repool

/-- A write to the SW pages. -/
def Dev.swWrite (d : Dev) (k : Nat) (who : Init) (addr : Nat) (v : Word) : Wr :=
  let off := addr % 0x1000
  if k = 0 then
    .ok (if addr = R.SW_VCMD then
      d.window who addr v F.SW_VCMD_GO F.SW_VRESULT_CODE (fun d => d.vlanCode) (fun d => d.vlanEffect)
    else d.store addr v)
  else if k = 1 then
    let p := (off - 0x40) / 0x20
    if 0x40 ≤ off ∧ addr = R.SW_PORT_CFG p then
      let vid := newField v (F.SW_PORT_CFG_PVID p)
      refuseIf (newField v (F.SW_PORT_CFG_ACCEPT p) == 3 || vid == 0 || vid == 4095) 0x0118 (.ok (d.store addr v))
    else if 0x40 ≤ off ∧ addr = R.SW_HW_LIMIT p then
      refuseIf (decide (131072 < newField v (F.SW_HW_LIMIT_LIMIT p))) 0x0118 (.ok (d.store addr v))
    else .ok (d.store addr v)
  else if k = 3 then
    let p := (off - 0x40) / 0x10
    if 0x40 ≤ off ∧ addr = R.SW_IFC_TH p then
      refuseIf (decide (newField v (F.SW_IFC_TH_XOFF_TH p) ≤ newField v (F.SW_IFC_TH_XON_TH p))) 0x0118 <|
      .ok ((List.range 8).foldl (fun a c => a.xoffCheck p c) (d.store addr v))
    else if 0x40 ≤ off ∧ addr = R.SW_IFC_HEAD p then d.ifcHeadWrite p v
    else .ok (d.store addr v)
  else if k = 4 ∧ addr = R.SW_LIMP_CMD then
    .ok (d.window who addr v F.SW_LIMP_CMD_GO F.SW_LIMP_RESULT_CODE (fun d => d.limpCode) (fun d => d.limpEffect))
  else .ok (d.store addr v)

end Sys2Proof.Machine
end

