-- ==== Sys2Proof/Machine/Copy.lean ====
section
/-! DEFINITION. What a copy of a frame leaves a port as (R58, R162, R182, R184, R190), and a copy that is
abandoned (R162, R232). -/

namespace Sys2Proof.Machine
open Sys2Proof

/-! ## What a copy leaves as -/

/-- R182: the frame as one egress port sends it: payload behind the addresses with its tag removed,
kept or added. `f` carries no FCS. -/
def retag (g : GFrame) (untag : Bool) (f : List Byte) : List Byte :=
  match g.vid with
  | none => f
  | some vid =>
    let body := if (headOf f).tag.isSome then f.drop 16 else f.drop 12
    if untag then f.take 12 ++ body
    else f.take 12 ++ beBytes 2 0x8100 ++ beBytes 2 (g.pcp * 8192 + boolNat g.dei * 4096 + vid) ++ body

/-- R190: RFC 1624: a header checksum after one 16-bit word changed. -/
def checksumFix (sum old new : Nat) : Nat :=
  let s := (65535 - sum) + (65535 - old) + new
  let s := s % 65536 + s / 65536
  65535 - (s % 65536 + s / 65536)

/-- R190: a frame with its ECN codepoint set to CE. -/
def markCe (f : List Byte) : List Byte :=
  match ipHeader f with
  | none => f
  | some ip =>
    if beAt f ip 1 / 16 = 4 then
      let old := beAt f ip 2
      let new := old / 4 * 4 + 3
      overlay (overlay f ip (beBytes 2 new)) (ip + 10) (beBytes 2 (checksumFix (beAt f (ip + 10) 2) old new))
    else overlay f (ip + 1) (beBytes 1 (putBits (beAt f (ip + 1) 1) 4 2 3))

/-- R58: what is added to correctionField for a residence in 2⁻⁶ ns, with the rate of a domain. -/
def Dev.correction (d : Dev) (dm : Nat) (residence : Int) : Int :=
  roundDiv (residence * (2 ^ 40 + (tget d.tl.dom dm).rate)) (2 ^ 30)

/-- R58: a PTP message with its correctionField raised, at the offset of its header. -/
def addCorrection (f : List Byte) (off : Nat) (x : Int) : List Byte :=
  overlay f (off + 8) (beBytes 8 (unsignedOf 64 ((beAt f (off + 8) 8 : Int) + x)))

/-- R58: cumulativeScaledRateOffset of the Follow_Up information TLV, where the message carries it
behind a Sync body, becomes 2 × RATE. -/
def setRateOffset (f : List Byte) (off : Nat) (rate : Int) : List Byte :=
  let tlv := off + 44
  if beAt f tlv 2 = 3 ∧ beAt f (tlv + 4) 6 = 0x0080C2000001 then
    overlay f (tlv + 10) (beBytes 4 (unsignedOf 32 (2 * rate)))
  else f

/-- R58: the correction of a frame that leaves with an egress stamp on Base time. -/
def Dev.ptpFix (d : Dev) (g : GFrame) (egress : Int) : Option PtpEdit :=
  match g.ptp with
  | .none => none
  | .oneStep k =>
    let link : Int := d.get (F.PTP_LINK_DLY_DLY g.port)
    some { add := d.correction k (egress - g.base + link), rate := some (tget d.tl.dom k).rate }
  | .transparent k => some { add := d.correction k (egress - g.base), rate := none }

/-- R58: a frame with its correction. -/
def ptpFixed (x : Option PtpEdit) (f : List Byte) : List Byte :=
  match x with
  | none => f
  | some x =>
    let off := (headOf f).off
    let f := addCorrection f off x.add
    x.rate.elim f (setRateOffset f off)

/-- The bytes of a copy without FCS, padding and protection. -/
def Dev.copyBytes (d : Dev) (g : GFrame) (p : Nat) (fix : Option PtpEdit) : List Byte :=
  let f := g.bytes.take (g.bytes.length - 4)
  let f := if p < 24 then ptpFixed fix f else f
  let f := if g.ce.contains p then markCe f else f
  let vlan := match g.vid with
    | some v => tget d.sw.vlan v
    | none => {}
  retag g (bitOf vlan.w1 p) f

/-- R184: four bytes that are the complement of the correct FCS. -/
def badFcs (f : List Byte) : List Byte := leBytes 4 (0xFFFFFFFF - crc32 f)

/-- R162, R184: a copy with its padding and FCS, good or inverted. -/
def closed (bad : Bool) (f : List Byte) : List Byte :=
  if bad then
    let f := f ++ List.replicate (60 - f.length) 0
    f ++ badFcs f
  else withFcs f

/-! ## Abandoned copies -/

/-- R162, R175, R232: a copy of a port ends without having been sent whole: its cells are released, and its
taps' records are completed with what left, a free number of its bytes. -/
def Dev.dropTx (d : Dev) (p : Nat) (t : TxSt) : Dev :=
  let g := (d.frame? t.id).getD {}
  let bytes := closed false (d.copyBytes g p t.fix)
  let (n, d) := d.free (bytes.length + 1)
  let d := d.tapTail t.taps {
    source := capSource p true t.tb, stamp := t.stamp, orig := n, data := bytes.take n }
  let d := d.modPort p (fun s => { s with tx := none, attempts := 0, backoff := none, idle := d.plat.aon })
  (d.depthSub t.queue g.cells).releaseCopy t.id

end Sys2Proof.Machine
end

