-- ==== Sys2Proof/Machine/MacSec.lean ====
section
/-! DEFINITION. MACsec frames (R170 to R173): GCM, the SecTAG, protecting and checking a frame. The
frame formats are those of IEEE 802.1AE-2018, which R170 names (assumption 20). -/

namespace Sys2Proof.Machine
open Sys2Proof

/-! ## GCM (NIST SP 800-38D) -/

/-- Product in GF(2^128) of GCM, most significant bit first. -/
def ghashMul (x y : Nat) : Nat :=
  ((List.range 128).foldl (fun (a : Nat × Nat) i =>
    let z := if bitOf x (127 - i) then Nat.xor a.1 a.2 else a.1
    let v := if a.2 % 2 = 1 then Nat.xor (a.2 / 2) (0xE1 * 2 ^ 120) else a.2 / 2
    (z, v)) (0, y)).1

/-- A byte string cut into blocks of n bytes, the last one shorter, at most `fuel` of them. -/
def chunks (n : Nat) : Nat → List Byte → List (List Byte)
  | 0, _ => []
  | _ + 1, [] => []
  | fuel + 1, bs => bs.take n :: chunks n fuel (bs.drop n)

/-- The GCM blocks of a byte string, zero-padded. -/
def gcmBlocks (bs : List Byte) : List Nat :=
  (chunks 16 (bs.length / 16 + 1) bs).map (fun c => beNat c * 256 ^ (16 - c.length))

/-- GHASH over associated data and ciphertext. -/
def ghash (h : Nat) (aad ct : List Byte) : Nat :=
  (gcmBlocks aad ++ gcmBlocks ct ++ [aad.length * 8 * 2 ^ 64 + ct.length * 8]).foldl
    (fun y b => ghashMul (Nat.xor y b) h) 0

/-- The key stream block of counter k under a 12-byte IV. -/
def gcmStream (ks : List (List Nat)) (iv : List Byte) (k : Nat) : List Nat :=
  aesEncK ks (natsOf (iv ++ beBytes 4 k))

/-- Counter mode from counter 2 on. -/
def gcmCrypt (ks : List (List Nat)) (iv data : List Byte) : List Byte :=
  ((chunks 16 (data.length / 16 + 1) data).zipIdx.map (fun c =>
    bytesOf (xorBytes (natsOf c.1) (gcmStream ks iv (c.2 + 2))))).flatten

/-- The 16-byte tag over associated data and ciphertext. -/
def gcmTag (ks : List (List Nat)) (iv aad ct : List Byte) : List Byte :=
  let h := beNat (bytesOf (aesEncK ks (List.replicate 16 0)))
  beBytes 16 (Nat.xor (ghash h aad ct) (beNat (bytesOf (gcmStream ks iv 1))))

/-! ## The SecTAG -/

/-- A SecTAG as received. -/
structure SecTag where
  e : Bool
  c : Bool
  an : Nat
  sl : Nat
  pn : Nat
  /-- SCI, none where the tag carries none. -/
  sci : Option Nat
  deriving DecidableEq, Repr

/-- Bytes of a SecTAG. -/
def SecTag.len (t : SecTag) : Nat := if t.sci.isSome then 16 else 8

/-- The EtherType of a frame (destination address first). -/
def etypeAt (f : List Byte) (off : Nat) : Nat := beNat (slice f off 2)

/-- The SecTAG of a frame, none where it has none. -/
def secTagOf (f : List Byte) : Option SecTag :=
  if etypeAt f 12 = 0x88E5 then
    let tci := beNat (slice f 14 1)
    some {
      e := bitOf tci 3, c := bitOf tci 2, an := tci % 4, sl := beNat (slice f 15 1) % 64
      pn := beNat (slice f 16 4), sci := if bitOf tci 5 then some (beNat (slice f 20 8)) else none }
  else none

/-- R171: the SCI of a received frame: the tag's, or source address and port identifier 1. -/
def frameSci (f : List Byte) (t : SecTag) : Nat := t.sci.getD (beNat (slice f 6 6) * 65536 + 1)

/-- Whether a CIPHER code is an XPN suite, and its key length is 256 bits. -/
def cipherXpn (c : Nat) : Bool := decide (2 ≤ c)
def cipherLong (c : Nat) : Bool := c % 2 == 1

/-- The IV of a frame: SCI and PN, or SSCI and 64-bit PN under the salt for XPN suites. -/
def macsecIv (cipher sci ssci pn : Nat) (salt : List Byte) : List Byte :=
  if cipherXpn cipher then
    bytesOf (xorBytes (natsOf (beBytes 4 ssci ++ beBytes 8 pn)) (natsOf (slice salt 0 12)))
  else beBytes 8 sci ++ beBytes 4 pn

/-- R171: the full PN of a received frame of an XPN suite, from the lowest acceptable PN. -/
def recoverPn (cipher low pn32 : Nat) : Nat :=
  if cipherXpn cipher then
    let hi := low / 2 ^ 32
    if low % 2 ^ 32 / 2 ^ 31 = 1 ∧ pn32 / 2 ^ 31 = 0 then (hi + 1) * 2 ^ 32 + pn32 else hi * 2 ^ 32 + pn32
  else pn32

/-- Bytes of secure data in a frame without FCS. -/
def secureLen (f : List Byte) (t : SecTag) : Nat :=
  if t.sl = 0 then f.length - 12 - t.len - 16 else min t.sl (f.length - 12 - t.len - 16)

/-- R171: a frame without FCS checked with a key: its plain text without SecTAG and ICV, and
whether the ICV is right. `off` is the confidentiality offset. -/
def macsecCheck (cipher ssci pn : Nat) (key salt : List Byte) (off : Nat) (f : List Byte) (t : SecTag) :
    List Byte × Bool :=
  let ks := roundKeys (natsOf key)
  let iv := macsecIv cipher (frameSci f t) ssci pn salt
  let start := 12 + t.len
  let n := secureLen f t
  let data := slice f start n
  let icv := slice f (start + n) 16
  if t.e then
    let ct := data.drop off
    let ok := gcmTag ks iv (f.take start ++ data.take off) ct == icv
    (f.take 12 ++ data.take off ++ gcmCrypt ks iv ct, ok)
  else (f.take 12 ++ data, gcmTag ks iv (f.take start ++ data) [] == icv)

/-- R171: a frame without SecTAG and ICV, its secure data as received. -/
def macsecStrip (f : List Byte) (t : SecTag) : List Byte :=
  f.take 12 ++ slice f (12 + t.len) (secureLen f t)

/-- R170: the confidentiality offset of an OFFSET code. -/
def confOffset (c : Nat) : Nat := if c = 1 then 30 else if c = 2 then 50 else 0

/-- R173: a frame without FCS protected. `w0` is word 0 of SC 0. -/
def macsecProtect (w0 an pn sci ssci : Nat) (key salt f : List Byte) : List Byte :=
  let cipher := bitsOf w0 29 2
  let enc := bitOf w0 28
  let incl := bitOf w0 25
  let off := confOffset (bitsOf w0 26 2)
  let ks := roundKeys (natsOf key)
  let iv := macsecIv cipher sci ssci pn salt
  let data := f.drop 12
  let tci := boolNat incl * 32 + boolNat enc * 12 + an
  let sl := if data.length < 48 then data.length else 0
  let tag := beBytes 2 0x88E5 ++ beBytes 1 tci ++ beBytes 1 sl ++ beBytes 4 pn ++
    (if incl then beBytes 8 sci else [])
  let head := f.take 12 ++ tag
  if enc then
    let ct := gcmCrypt ks iv (data.drop off)
    head ++ data.take off ++ ct ++ gcmTag ks iv (head ++ data.take off) ct
  else head ++ data ++ gcmTag ks iv (head ++ data) []

end Sys2Proof.Machine
end

