-- ==== Sys2Proof/Machine/EthPort.lean ====
section
/-! DEFINITION. The EP ports and T1S segments (R153 to R178): links, received frames and their tails,
PAUSE and PFC, Energy-Efficient Ethernet, MACsec entries and checks, PLCA, counters. -/

namespace Sys2Proof.Machine
open Sys2Proof

/-- The page of a port 0–23 that carries its interrupts and errors. -/
def portPage (p : Nat) : Page := if p < 16 then .ep p 0 else .ts (p - 16)

/-- A port 0–23 is in service and its link is up. -/
def Dev.portUp (d : Dev) (p : Nat) : Bool :=
  d.released (portPage p) && d.enabled (portPage p) && d.mode != 11 &&
    (decide (16 ≤ p) || d.flag (F.EP_LINK_LINK_UP p))

/-- R56: the code of a port's present speed in DLY_SEL. -/
def Dev.speedCode (d : Dev) (p : Nat) : Nat := if p < 16 then d.get (F.EP_LINK_SPEED p) else 5

/-- R56: where a port's former speeds stand beside the former stamp delays. -/
def speedKey (p : Nat) : Nat := 1000 + p

/-! ## Links (R154 to R156, R162, R169) -/

/-- R154: the speeds of a PCS mode. -/
def pcsSpeedOk (pcs speed : Nat) : Bool :=
  if pcs = 0 then speed == 2 || speed == 3 || speed == 4
  else if pcs = 1 then speed == 1
  else if pcs = 2 then speed == 0
  else decide (speed < 4)

/-- R156: the speed and link follow the PHY's in-band word. -/
def Dev.inBand (d : Dev) (n : Nat) : Bool :=
  d.flag (F.EP_MODE_AN_EN n) && (d.get (F.EP_MODE_PCS n) == 0 || d.get (F.EP_MODE_PCS n) == 3)

/-- R154, R156: the PHY's in-band word is accepted and names a speed that the mode supports. -/
def Dev.wordTaken (d : Dev) (n : Nat) (an : Bool) (speed : Nat) : Bool := an && pcsSpeedOk (d.get (F.EP_MODE_PCS n)) speed

/-- R156: the speed of a port whose in-band word, accepted or not, says `speed`. -/
def Dev.speedFor (d : Dev) (n : Nat) (an : Bool) (speed : Nat) : Nat :=
  let pcs := d.get (F.EP_MODE_PCS n)
  if pcs = 1 then 1
  else if pcs = 2 then 0
  else if d.inBand n then (if d.wordTaken n an speed then speed else d.get (F.EP_LINK_SPEED n))
  else d.get (F.EP_MODE_SPEED n)

/-- R155, R156: ENABLE of EP n is refused. -/
def Dev.epCannotRun (d : Dev) (n : Nat) : Bool :=
  let pcs := d.get (F.EP_MODE_PCS n)
  (decide (2 ≤ pcs) && decide (4 ≤ n)) ||
    (decide (n < 4) && (List.range 4).any (fun m => m != n && d.enabled (.ep m 0) &&
      (decide (2 ≤ d.get (F.EP_MODE_PCS m)) != decide (2 ≤ pcs)))) ||
    (!d.inBand n && (pcs == 0 || pcs == 3) && !pcsSpeedOk pcs (d.get (F.EP_MODE_SPEED n)))

/-- The received frame that is still arriving: it is the last one. -/
def Dev.arriving (d : Dev) (p : Nat) : Option (Nat × RxFrame) :=
  let l := (d.port p).rx
  match l.getLast? with
  | some f => if f.whole then none else some (l.length - 1, f)
  | none => none

/-! ## MACsec keys (R170, R171) -/

def Dev.scEntry (d : Dev) (p sc : Nat) : ScEntry := tget d.msc (17 * p + sc)
def Dev.saEntry (d : Dev) (p sa : Nat) : SaEntry := tget d.msa (68 * p + sa)
def Dev.modSa (d : Dev) (p sa : Nat) (f : SaEntry → SaEntry) : Dev := { d with msa := tmod d.msa (68 * p + sa) f }

/-- R170: CIPHER of a secure channel. -/
def scCipher (e : ScEntry) : Nat := bitsOf e.w0 29 2
def scSci (e : ScEntry) : Nat := e.w2 * 2 ^ 32 + e.w1

/-- R170, R294: the key of an association entry under a cipher, none where it is unusable: no valid key, one of
another length, or under an XPN suite one without a salt. -/
def Dev.saKey (d : Dev) (p sa cipher : Nat) : Option TkEntry :=
  let e := d.saEntry p sa
  let k := tget d.sc.tk (bitsOf e.w0 0 12)
  if bitOf e.w0 31 && k.valid && k.long == cipherLong cipher && (!cipherXpn cipher || k.salt.isSome) then some k
  else none

/-- R171, R296: the receive channel of a frame (without FCS) and the key its validation takes: none without a
SecTAG or where its SCI is of no valid channel. -/
def Dev.frameKey (d : Dev) (p : Nat) (f : List Byte) : Option (Nat × Option TkEntry) :=
  (secTagOf f).bind (fun t =>
    ((List.range 17).find? (fun sc => sc != 0 && bitOf (d.scEntry p sc).w0 31 &&
      scSci (d.scEntry p sc) == frameSci f t)).map (fun sc =>
        (sc, d.saKey p (4 * sc + t.an) (scCipher (d.scEntry p sc)))))

/-- R158: a frame of a port ends with a cause (0 good); it leaves the receive buffer unless it waits
for its ICV check or its lookup. -/
def Dev.endRx (d : Dev) (p k : Nat) (f : RxFrame) (cause : Nat) : Dev :=
  let f := { f with whole := true, bad := cause }
  match f.pos with
  | .ignored => d.dropRx p k
  | .control => d.dropRx p k
  | .held =>
    if cause = 0 then d.setRx p k { f with pos := .icv, sec := d.frameKey p (f.bytes.take (f.bytes.length - 4)) }
    else d.dropRx p k
  | .icv => d.setRx p k f
  | .lookup => if cause = 0 then d.setRx p k f else (d.dropRx p k).ingressRecord p f 5 cause false
  | .stored _ => (d.dropRx p k).finishFrame p f
  | .gone _ => (d.dropRx p k).finishFrame p f

/-- R158, R162, R169, R203: LINK_UP of EP n falls. -/
def Dev.linkFall (d : Dev) (n : Nat) : Dev :=
  let d := (d.put (F.EP_LINK_LINK_UP n) 0).put (F.EP_LINK_STAMP_READY n) 0
  let d := ((d.put (F.EP_LINK_TX_LPI n) 0).put (F.EP_LINK_RX_LPI n) 0).put (F.FC_STAT_XOFF_SENT n) 0
  let d := d.modPort n (fun s => { s with data := none, wake := none, ctl := [] })
  let d := match d.arriving n with
    | none => d
    | some (k, f) =>
      match f.pos with
      | .ignored => d.endRx n k f 2
      | _ => (d.count n cRxSymbol).endRx n k f 2
  let d := match (d.port n).tx with
    | none => d
    | some t => (d.count n cTxLinkDown).dropTx n t
  if d.flag (F.SW_PORT_CFG_LINKDOWN_FLUSH n) && !(d.sw.flush.contains n) then
    { d with sw := { d.sw with flush := d.sw.flush ++ [n] } }
  else d

/-- R156: the link state of EP n changes: code-group lock, the in-band word (accepted, link, speed),
local and remote fault. -/
def Dev.linkChange (d : Dev) (n : Nat) (lock an phy : Bool) (speed : Nat) (lf rf : Bool) : Dev :=
  if d.released (.ep n 0) && d.enabled (.ep n 0) && d.mode != 11 then
    let pcs := d.get (F.EP_MODE_PCS n)
    let fault := decide (2 ≤ pcs)
    let up := lock && (!d.inBand n || (phy && d.wordTaken n an speed)) && !(fault && (lf || rf))
    let was := d.flag (F.EP_LINK_LINK_UP n)
    let old := d.get (F.EP_LINK_SPEED n)
    let new := d.speedFor n an speed
    let d := if old = new then d else { d with tl := { d.tl with dlyPast := pastAdd d.tl.dlyPast (speedKey n) d.now64 old } }
    let d := (d.putFlag (F.EP_LINK_LOCAL_FAULT n) (fault && lf)).putFlag (F.EP_LINK_REMOTE_FAULT n) (fault && rf)
    let d := (d.putFlag (F.EP_LINK_AN_DONE n) (d.inBand n && an)).put (F.EP_LINK_SPEED n) new
    let d := if was && !up then d.linkFall n
      else if !was && up then
        (d.put (F.EP_LINK_LINK_UP n) 1).modPort n (fun s => { s with data := some d.plat.aon, idle := d.plat.aon })
      else d
    let d := if new = 4 then d.leaveLpi n else d
    if was != up || old != new then d.raise (.ep n 0) 1 else d
  else d

/-- R156: EP n leaves service: its lanes are idle and its link is down. -/
def Dev.epDisabled (d : Dev) (n : Nat) : Dev :=
  let d := if d.flag (F.EP_LINK_LINK_UP n) then (d.linkFall n).raise (.ep n 0) 1 else d
  d.put (F.EP_LINK_AN_DONE n) 0

/-- R169: STAMP_READY rises 400 ns after data symbols resume. -/
def Dev.stampReady (d : Dev) (n : Nat) : Dev :=
  match (d.port n).data with
  | some t => if t + 400 ≤ d.plat.aon && d.flag (F.EP_LINK_LINK_UP n) then d.put (F.EP_LINK_STAMP_READY n) 1 else d
  | none => d

/-- R167, R169: the partner begins or ends low-power idle. -/
def Dev.rxLpi (d : Dev) (n : Nat) (on : Bool) : Dev :=
  if d.portUp n then
    let d := d.putFlag (F.EP_LINK_RX_LPI n) on
    if on then (d.put (F.EP_LINK_STAMP_READY n) 0).modPort n (fun s => { s with data := none })
    else if (d.port n).data.isNone then d.modPort n (fun s => { s with data := some d.plat.aon })
    else d
  else d

/-- R167: the port has nothing to send: no frame queued or in transmission, no PAUSE or PFC due. -/
def Dev.portIdle (d : Dev) (p : Nat) : Bool :=
  (d.port p).tx.isNone && (d.port p).ctl.isEmpty && (List.range 8).all (fun c => (d.qs (8 * p + c)).copies.isEmpty)

/-- R167: the port enters low-power idle after IDLE_US with nothing to send. -/
def Dev.lpiEnter (d : Dev) (n : Nat) : Dev :=
  if d.portUp n && d.flag (F.EEE_CTRL_EN n) && decide (d.get (F.EP_LINK_SPEED n) < 4) && d.portIdle n &&
      !d.flag (F.EP_LINK_TX_LPI n) && (d.port n).wake.isNone &&
      decide ((d.port n).idle + d.get (F.EEE_CTRL_IDLE_US n) * 1000 ≤ d.plat.aon) then
    (d.put (F.EP_LINK_TX_LPI n) 1).count n cLpiEntries
  else d

/-! ## Receiving frames (R157 to R161) -/

/-- R159: bytes of the receive buffer of a port. -/
def rxBuffer (p : Nat) : Nat := if p < 16 then 32768 else 20480

/-- R159: bytes reserved. -/
def Dev.rxReserved (d : Dev) (p : Nat) : Nat := (d.port p).rx.foldl (fun n f => n + f.reserve) 0

/-- R169: STAMP_READY of a port as an SFD `ago` × 125 ps before now met it. T1S segments have none. -/
def Dev.readyAt (d : Dev) (p ago : Nat) : Bool :=
  decide (16 ≤ p) || (d.flag (F.EP_LINK_STAMP_READY p) &&
    (match (d.port p).data with
     | some t => decide ((t + 400) * 8 + ago ≤ d.plat.aon * 8)
     | none => true))

/-- R169: a frame whose SFD met STAMP_READY 0 is counted. -/
def Dev.coarseCount (d : Dev) (p : Nat) (ready : Bool) : Dev :=
  if ready then d else (d.count p cStampCoarse).raise (.ep p 0) 3

/-- R54: the resolution of the stamps of port p. A Timeline that resolves ticks alone rounds no further. -/
def Dev.stampRes (d : Dev) (p : Nat) : Nat := if p < 16 ∨ d.tickFifths ≠ 5 then res125ps else res1ns

/-- A whole number of ns within `w` × 2⁻⁶ ns of an instant, in 2⁻⁶ ns: a free one. -/
def Dev.wholeNs (d : Dev) (t : Int) (w : Nat) : Int × Dev :=
  let lo := (t - w + 63) / 64
  let (k, d) := d.free ((t + w) / 64 - lo + 1).toNat
  ((lo + k) * 64, d)

/-- R10, R53, R54, R56, R169: the stamps of a frame whose SFD crossed the pins `ago` × 125 ps before now, by
the selection, delay and speed of that instant: on the port's time base, which that is, on Base time in 2⁻⁶
ns, and whether it is coarse. A coarse one lies within 1 ns of the instant on its time base. -/
def Dev.rxStamp (d : Dev) (p ago : Nat) : Dev × Nat × Nat × Int × Bool :=
  let sfd : Int := (d.now64 : Int) - (ago * 8 : Nat)
  let speed := asOf d.tl.dlyPast (speedKey p) sfd (d.speedCode p)
  let t : Int := d.tickAt sfd - d.stampDelay 0 speed p sfd
  let tb := d.tbSelAt p sfd
  if d.readyAt p ago then (d, stamp35 (d.onBase tb t (d.stampRes p)), tb, d.onBase 0 t (d.stampRes p), false)
  else
    let (c, d) := d.wholeNs t 64
    let (s, d) := if tb = 0 then (c, d) else d.wholeNs (d.onBase tb t 1) 63
    (d, stamp35 s, tb, c, true)

/-- R160: a MAC control frame. -/
def isControl (f : List Byte) : Bool := beAt f 0 6 == 0x0180C2000001 && beAt f 12 2 == 0x8808

/-- R172: the port holds frames whole for MACsec validation. -/
def Dev.macsecHolds (d : Dev) (p : Nat) (f : List Byte) : Bool :=
  decide (p < 16) && d.flag (F.MS_CTRL_EN p) && d.get (F.MS_CTRL_VALIDATE p) != 0 && beAt f 12 2 != 0x888E

/-- A received frame takes its place in the receive buffer. -/
def Dev.pushRx (d : Dev) (p : Nat) (f : RxFrame) : Dev := d.modPort p (fun s => { s with rx := s.rx ++ [f] })

/-- A frame is handed to the parser: the taps of the port reserve room for MAX_LEN (R232). -/
def Dev.handOver (d : Dev) (p : Nat) (f : RxFrame) : Dev × RxFrame :=
  let (d, taps) := d.tapHead p false (d.maxLen p)
  (d, { f with pos := .lookup, taps })

/-- R157 to R160: the 64th byte of a frame arrives; its SFD came `ago` × 125 ps before. -/
def Dev.frameHead (d : Dev) (p : Nat) (bytes : List Byte) (ago : Nat) (express : Bool) : Dev :=
  if !d.portUp p || (d.arriving p).isSome || bytes.length != 64 then d
  else if !express then (d.count p cRxPreempt).pushRx p { bytes, pos := .ignored }
  else
  let d := d.coarseCount p (d.readyAt p ago)
  if rxBuffer p < d.rxReserved p + d.maxLen p then
    ((d.count p cRxOverflow).raise (portPage p) 2).pushRx p { bytes, pos := .ignored }
  else
    let (d, stamp, tb, base, coarse) := d.rxStamp p ago
    let f : RxFrame := { bytes, stamp, tb, base, coarse, reserve := d.maxLen p }
    if isControl bytes then d.pushRx p { f with pos := .control }
    else if d.macsecHolds p bytes then d.pushRx p { f with pos := .held }
    else
      let (d, f) := d.handOver p f
      d.pushRx p f

/-! ## PAUSE and PFC (R163 to R166) -/

/-- R163: a pause quantum in 0.1 ns, by speed code. -/
def quantum (speed : Nat) : Nat := (([512, 2048, 5120, 51200, 512000] : List Nat)[speed]?).getD 512000

/-- R164, R165: the flag of a pause: class 0–7, or 8 for the port. -/
def Dev.pauseOn (d : Dev) (p c : Nat) : Bool :=
  if c = 8 then d.flag (F.FC_STAT_PAUSE_HELD p) else bitOf (d.get (F.FC_STAT_PFC_HELD p)) c
def Dev.setPause (d : Dev) (p c : Nat) (on : Bool) : Dev :=
  if c = 8 then d.putFlag (F.FC_STAT_PAUSE_HELD p) on
  else d.put (F.FC_STAT_PFC_HELD p) (putBits (d.get (F.FC_STAT_PFC_HELD p)) c 1 (boolNat on))

/-- R164, R165: a pause of q quanta replaces the pause in force. -/
def Dev.pauseFor (d : Dev) (p c q : Nat) : Dev :=
  let was := d.pauseOn p c
  let d := d.modPort p (fun s => { s with
    pause := tset s.pause c (d.plat.aon * 10 + q * quantum (d.get (F.EP_LINK_SPEED p))) })
  let d := d.setPause p c (q != 0)
  if q != 0 && !was then d.raise (.ep p 1) 1 else d

/-- R164: the pause of a port or class runs out. -/
def Dev.pauseEnd (d : Dev) (p c : Nat) : Dev :=
  if d.pauseOn p c && decide (tget (d.port p).pause c ≤ d.plat.aon * 10) then d.setPause p c false else d

/-- R160, R164, R165: a MAC control frame received whole and good. -/
def Dev.macControl (d : Dev) (p : Nat) (f : List Byte) : Dev :=
  let op := beAt f 14 2
  let on := decide (p < 16) && d.flag (F.FC_CTRL_RX_EN p)
  if on && d.get (F.FC_CTRL_MODE p) == 1 && op == 1 then (d.count p cRxPause).pauseFor p 8 (beAt f 16 2)
  else if on && d.get (F.FC_CTRL_MODE p) == 2 && op == 0x0101 then
    (List.range 8).foldl (fun (a : Dev) c =>
      if bitOf (beAt f 16 2) c then a.pauseFor p c (beAt f (18 + 2 * c) 2) else a) (d.count p cRxPause)
  else d.count p cRxCtrlDrop

/-- R166: while XOFF is held, its frame is repeated every PAUSE_TIME ÷ 2 quanta: a PFC frame per class, a
PAUSE frame for the port (8). -/
def Dev.pauseRepeat (d : Dev) (p c : Nat) : Dev :=
  let half := d.get (F.FC_CTRL_PAUSE_TIME p) * quantum (d.get (F.EP_LINK_SPEED p)) / 2
  let held := d.get (F.SW_IFC_STAT_XOFF p)
  if d.signals p && decide (tget (d.port p).xoffAt c * 10 + half ≤ d.plat.aon * 10) then
    if d.get (F.FC_CTRL_MODE p) = 1 then
      (if c = 8 ∧ held ≠ 0 then d.sendXoff p ((findBelow 8 (bitOf held)).getD 0) else d)
    else if bitOf held c then d.sendXoff p c else d
  else d

/-- R163: PAUSE and PFC are never active together: a pause that a former MODE took ends when MODE changes, and
what it signalled no longer stands. -/
def Dev.pauseMode (d : Dev) (p : Nat) : Dev :=
  ((d.put (F.FC_STAT_PAUSE_HELD p) 0).put (F.FC_STAT_PFC_HELD p) 0).put (F.FC_STAT_XOFF_SENT p) 0

/-- R158: the cause with which a frame ends: truncated at MAX_LEN, a symbol error, a wrong FCS. -/
def tailCause (max : Nat) (bytes : List Byte) (symbol : Bool) : Nat :=
  if max < bytes.length then 3
  else if symbol then 2
  else if leBytes 4 (crc32 (bytes.take (bytes.length - 4))) = bytes.drop (bytes.length - 4) then 0
  else 1

/-- R158: the counter of a cause. -/
def causeCount (cause : Nat) : Nat := if cause = 3 then cRxOversize else if cause = 2 then cRxSymbol else cRxFcs

/-- R157 to R161: the tail of a frame arrives after `rest`; with no frame arriving it is a runt. -/
def Dev.frameTail (d : Dev) (p : Nat) (rest : List Byte) (symbol : Bool) : Dev :=
  if !d.portUp p then d
  else
    match d.arriving p with
    | none => if rest.length < 64 then (d.coarseCount p (d.readyAt p (rest.length * 64000 / d.portRate p))).count p cRxRunt else d
    | some (k, f) =>
      if f.pos = .ignored then d.dropRx p k
      else
        let bytes := f.bytes ++ rest
        let cause := tailCause (d.maxLen p) bytes symbol
        let f := { f with bytes := bytes.take (d.maxLen p) }
        let d := if cause != 0 then d.count p (causeCount cause)
          else if f.pos = .control then d.macControl p bytes
          else (d.count p cRxFrames).octets p cRxOctets bytes.length
        d.endRx p k f cause

/-! ## MACsec (R170 to R173) -/


/-- What R171 makes of a frame held for its check: dropped, or its bytes without FCS. -/
structure Checked where
  dev : Dev
  pass : Option (List Byte)
  deriving DecidableEq, Repr

/-- R171: passed where E = 0 and VALIDATE is Check, else dropped. -/
def checkedBy (d : Dev) (strict : Bool) (t : SecTag) (f : List Byte) : Checked :=
  { dev := d, pass := if strict || t.e then none else some f }

/-- R171: a frame with a SecTAG whose association is usable. -/
def Dev.macsecSa (d : Dev) (p sc : Nat) (strict : Bool) (t : SecTag) (f : List Byte) (k : TkEntry) : Checked :=
  let cipher := scCipher (d.scEntry p sc)
  let sa := 4 * sc + t.an
  let e := d.saEntry p sa
  let pn := recoverPn cipher e.pn t.pn
  if d.flag (F.MS_CTRL_REPLAY p) && decide (pn < e.pn) then { dev := d.count p cMsLate, pass := none }
  else
    let off := confOffset (bitsOf (d.scEntry p 0).w0 26 2)
    let (plain, ok) := macsecCheck cipher e.ssci pn k.key (k.salt.getD []) off f t
    if ok then
      let d := if d.flag (F.MS_CTRL_REPLAY p) then
          d.modSa p sa (fun s => { s with pn := max s.pn (pn + 1 - d.get (F.MS_WINDOW_WINDOW p)) })
        else d
      { dev := d, pass := some plain }
    else checkedBy (d.count p cMsNotValid) strict t (macsecStrip f t)

/-- R171: a frame (without FCS) that was held for its ICV check, by the channel and key it took. -/
def Dev.macsecIn (d : Dev) (p : Nat) (f : List Byte) (sec : Option (Nat × Option TkEntry)) : Checked :=
  if !d.flag (F.MS_CTRL_EN p) || d.get (F.MS_CTRL_VALIDATE p) == 0 then { dev := d, pass := some f }
  else
    let strict := d.get (F.MS_CTRL_VALIDATE p) == 2
    match secTagOf f with
    | none => { dev := d.count p cMsUntagged, pass := if strict then none else some f }
    | some t =>
      match sec with
      | none => checkedBy (d.count p cMsNoSci) strict t f
      | some (_, none) => checkedBy (d.count p cMsNoSa) strict t f
      | some (sc, some k) => d.macsecSa p sc strict t f k

/-- R171, R172: the ICV check of the oldest held frame of EP n completes. -/
def Dev.icvChecked (d : Dev) (n : Nat) : Dev :=
  match (d.port n).rx.findIdx? (fun f => f.pos == .icv) with
  | none => d
  | some k =>
    match (d.port n).rx[k]? with
    | none => d
    | some f =>
      let c := d.macsecIn n (f.bytes.take (f.bytes.length - 4)) f.sec
      match c.pass with
      | none => (c.dev.dropRx n k).raise (.ep n 2) 3
      | some g =>
        let bytes := g ++ leBytes 4 (crc32 g)
        let (d, f) := c.dev.handOver n { f with bytes }
        d.setRx n k f

/-- R170: the code of a MACsec command. -/
def Dev.msCode (d : Dev) (n : Nat) : Nat :=
  let op := d.get (F.MS_CMD_OP n)
  let i := d.get (F.MS_CMD_INDEX n)
  let w := fun k => d.get (F.MS_DATA_DATA n k)
  let bad :=
    if 2 ≤ op then true
    else if d.flag (F.MS_CMD_TABLE n) then
      decide (68 ≤ i) || (op == 1 &&
        (bitsOf (w 0) 12 19 != 0 || w 4 != 0 || w 5 != 0 ||
          (!cipherXpn (scCipher (d.scEntry n (i / 4))) && w 3 != 0) ||
          (decide (i < 4) && !bitOf (w 0) 31 && bitOf (d.saEntry n i).w0 31 && bitOf (d.scEntry n 0).w0 31 &&
            bitsOf (d.scEntry n 0).w0 0 2 == i)))
    else
      decide (17 ≤ i) || (op == 1 &&
        (let old := d.scEntry n i
         let an := bitsOf (w 0) 0 2
         w 3 != 0 || w 4 != 0 || w 5 != 0 ||
          (if i = 0 then bitsOf (w 0) 2 23 != 0 || bitsOf (w 0) 26 2 == 3 else bitsOf (w 0) 0 29 != 0) ||
          (bitOf old.w0 31 && scCipher old != bitsOf (w 0) 29 2) ||
          (i == 0 && (bitOf (w 0) 31 || an != bitsOf old.w0 0 2) && !bitOf (d.saEntry n an).w0 31)))
  if bad then 0x0116 else 0

/-- R170: a MACsec command. READ returns the current PN. -/
def Dev.msEffect (d : Dev) (n : Nat) : Dev :=
  let i := d.get (F.MS_CMD_INDEX n)
  let w := fun k => d.get (F.MS_DATA_DATA n k)
  let show_ := fun (l : List Nat) => (List.range 6).foldl (fun (a : Dev) k => a.put (F.MS_DATA_DATA n k) ((l[k]?).getD 0)) d
  if d.flag (F.MS_CMD_TABLE n) then
    if d.get (F.MS_CMD_OP n) = 0 then
      let e := d.saEntry n i
      show_ [e.w0, e.ssci, e.pn % 2 ^ 32, e.pn / 2 ^ 32]
    else d.modSa n i (fun _ => { w0 := w 0, ssci := w 1, pn := w 3 * 2 ^ 32 + w 2, warned := false })
  else if d.get (F.MS_CMD_OP n) = 0 then
    let e := d.scEntry n i
    show_ [e.w0, e.w1, e.w2]
  else { d with msc := tset d.msc (17 * n + i) { w0 := w 0, w1 := w 1, w2 := w 2 } }

/-- R173: what protects the next frame of EP n: none where it must be dropped. The next PN is
incremented. -/
def Dev.protect (d : Dev) (n : Nat) : Dev × Option Protect :=
  let sc := d.scEntry n 0
  let an := bitsOf sc.w0 0 2
  let e := d.saEntry n an
  let cipher := scCipher sc
  let limit := if cipherXpn cipher then 2 ^ 64 else 2 ^ 32
  match d.saKey n an cipher with
  | none => (d, none)
  | some k =>
    if !bitOf sc.w0 31 || decide (limit ≤ e.pn) then (d, none)
    else
      let warn := decide (limit - (e.pn + 1) < 2 ^ 30) && !e.warned
      let d := d.modSa n an (fun s => { s with pn := s.pn + 1, warned := s.warned || warn })
      let d := if warn then d.raise (.ep n 2) 1 else d
      (d, some { an, pn := e.pn, w0 := sc.w0, sci := scSci sc, ssci := e.ssci, key := k.key, salt := k.salt.getD [] })

/-- R173: a frame without FCS as it leaves under a protection. -/
def protectFrame (x : Protect) (f : List Byte) : List Byte :=
  macsecProtect x.w0 x.an x.pn x.sci x.ssci x.key x.salt f

/-! ## T1S segments (R174, R175) -/

/-- R174: the least time in ns from a beacon to an opportunity of the segment: every node before it gives up
its own after TO_TIMER bit times; for the coordinator, the whole cycle of NODE_COUNT nodes to its next beacon. -/
def Dev.plcaWait (d : Dev) (n : Nat) : Nat :=
  let nodes := if d.get (F.TS_PLCA_NODE_ID n) = 0 then d.get (F.TS_PLCA_NODE_COUNT n) else d.get (F.TS_PLCA_NODE_ID n)
  nodes * d.get (F.TS_PLCA_TO_TIMER n) * 100

/-- R174: TS_STAT as a segment enters or leaves service. -/
def Dev.tsStart (d : Dev) (n : Nat) (on : Bool) : Dev :=
  let plca := on && d.flag (F.TS_PLCA_EN n)
  let coord := plca && d.get (F.TS_PLCA_NODE_ID n) == 0
  let d := (d.putFlag (F.TS_STAT_COORD n) coord).putFlag (F.TS_STAT_PLCA_ACTIVE n) coord
  (d.putFlag (F.TS_STAT_CSMA n) (on && !coord)).modPort (16 + n) (fun s => { s with
    credit := 0, beacon := if coord then d.plat.aon - d.plcaWait n else d.plat.aon })

/-- A segment leaves service: the frame that was arriving ends bad, the one in transmission is lost. -/
def Dev.tsDisabled (d : Dev) (n : Nat) : Dev :=
  let p := 16 + n
  let d := match d.arriving p with
    | none => d
    | some (k, f) => d.endRx p k f 2
  let d := match (d.port p).tx with
    | none => d
    | some t => d.dropTx p t
  d.tsStart n false

/-- R175: a beacon is received by a node that is not the coordinator. -/
def Dev.beaconRx (d : Dev) (n : Nat) : Dev :=
  if d.portUp (16 + n) && d.flag (F.TS_PLCA_EN n) && !d.flag (F.TS_STAT_COORD n) then
    ((d.put (F.TS_STAT_PLCA_ACTIVE n) 1).put (F.TS_STAT_CSMA n) 0).modPort (16 + n) (fun s =>
      { s with beacon := d.plat.aon })
  else d

/-- R175: no beacon for 4,000 bit times. -/
def Dev.beaconLoss (d : Dev) (n : Nat) : Dev :=
  if d.portUp (16 + n) && d.flag (F.TS_STAT_PLCA_ACTIVE n) && !d.flag (F.TS_STAT_COORD n) &&
      decide ((d.port (16 + n)).beacon + 400000 ≤ d.plat.aon) then
    (((d.put (F.TS_STAT_PLCA_ACTIVE n) 0).put (F.TS_STAT_CSMA n) 1).count (16 + n) cBeaconLoss).raise (.ts n) 1
  else d

/-- R175: a collision of the frame in transmission: back-off of IEEE 802.3 (a free number of slots of
51.2 µs), or dropped after 16 attempts. -/
def Dev.collision (d : Dev) (n : Nat) : Dev :=
  let p := 16 + n
  match (d.port p).tx with
  | none => d
  | some t =>
    if t.waiting then d
    else
      let d := d.count p cCollisions
      let k := (d.port p).attempts
      if 16 ≤ k then (d.count p cCollDrop).dropTx p t
      else
        let (r, d) := d.free (2 ^ min k 10)
        d.modPort p (fun s => { s with
          tx := some { t with waiting := true }, backoff := some (d.plat.aon + r * 51200), attempts := k + 1 })

/-! ## Counters (R176) -/

/-- R176: the counters of TS_CNT, by their live numbers. -/
def tsCounters : List Nat :=
  [cRxFrames, cTxFrames, cRxFcs, cRxRunt, cRxOversize, cRxOverflow, cCollisions, cBeaconLoss, cRxCtrlDrop,
    cTxBadTail, cCollDrop]

/-- R176: every counter of EP n copied to the readable bank. -/
def Dev.epSnap (d : Dev) (n : Nat) : Dev :=
  let c := fun k => tget (d.port n).live k
  let wide := fun (a : Dev) k => (a.put (F.EP_CNT_COUNT n k) (c k % 2 ^ 32)).put (F.EP_CNT_COUNT n (k + 1)) (c k / 2 ^ 32)
  (List.range 22).foldl (fun (a : Dev) k => a.put (F.EP_CNT_COUNT n (4 + k)) (c (4 + k))) (wide (wide d 0) 2)

/-- R176: every counter of TS n copied to the readable bank. -/
def Dev.tsSnap (d : Dev) (n : Nat) : Dev :=
  tsCounters.zipIdx.foldl (fun (a : Dev) x => a.put (F.TS_CNT_COUNT n x.2) (tget (d.port (16 + n)).live x.1)) d

/-! ## Register writes -/

/-- R156: MAX_LEN is out of range. -/
def lenBad (n : Nat) : Bool := decide (n < 64) || decide (9216 < n)

/-- A write to EP page 1. -/
def Dev.ep1Write (d : Dev) (n addr : Nat) (v : Word) : Wr :=
  if addr = R.FC_CTRL n then
    refuseIf (decide (newField v (F.FC_CTRL_PAUSE_TIME n) < 2) || newField v (F.FC_CTRL_MODE n) == 3) 0x0115
      (.ok (if d.changes v (F.FC_CTRL_MODE n) then (d.store addr v).pauseMode n else d.store addr v))
  else if addr = R.EEE_CTRL n then
    refuseIf (newField v (F.EEE_CTRL_IDLE_US n) == 0) 0x0115 <|
    refuseIf (newField v (F.EEE_CTRL_EN n) == 1 && d.changes v (F.EEE_CTRL_EN n) &&
      (d.flag (F.TM_GCL_STAT_RUNNING n) || d.flag (F.TM_GCL_STAT_PENDING n))) 0x0115
      (.ok (if newField v (F.EEE_CTRL_EN n) = 0 then (d.store addr v).leaveLpi n else d.store addr v))
  else if addr = R.EEE_WAKE n then
    refuseIf (decide (newField v (F.EEE_WAKE_WAKE_NS n) < 500)) 0x0115 (.ok (d.store addr v))
  else .ok (d.store addr v)

/-- A write to EP page 2. -/
def Dev.ep2Write (d : Dev) (n : Nat) (who : Init) (addr : Nat) (v : Word) : Wr :=
  if addr = R.MS_CTRL n then
    refuseIf (newField v (F.MS_CTRL_VALIDATE n) == 3) 0x0116 <|
    refuseIf (d.flag (F.MS_CTRL_EN n) && (d.changes v (F.MS_CTRL_VALIDATE n) || d.changes v (F.MS_CTRL_REPLAY n)))
      0x0116 (.ok (d.store addr v))
  else if addr = R.MS_CMD n then
    .ok (d.window who addr v (F.MS_CMD_GO n) (F.MS_RESULT_CODE n) (fun d => d.msCode n) (fun d => d.msEffect n))
  else .ok (d.store addr v)

/-- A write to page k of EP n. -/
def Dev.epWrite (d : Dev) (n k : Nat) (who : Init) (addr : Nat) (v : Word) : Wr :=
  if k = 0 then
    if addr = R.EP_MODE n then
      refuseIf (d.enabled (.ep n 0) && (d.store addr v).word addr != d.word addr) 0x0115 <|
      refuseIf (decide (4 ≤ newField v (F.EP_MODE_PCS n))) 0x0115 (.ok (d.store addr v))
    else if addr = R.EP_MAC n then
      refuseIf (lenBad (newField v (F.EP_MAC_MAX_LEN n))) 0x0115 (.ok (d.store addr v))
    else .ok (d.store addr v)
  else if k = 1 then d.ep1Write n addr v
  else if k = 2 then d.ep2Write n who addr v
  else if addr = R.EP_CNT_CTRL n then .ok (if newField v (F.EP_CNT_CTRL_SNAP n) = 1 then d.epSnap n else d)
  else .ok (d.store addr v)

/-- A write to TS n. -/
def Dev.tsWrite (d : Dev) (n addr : Nat) (v : Word) : Wr :=
  if addr = R.TS_PLCA n ∨ addr = R.TS_BURST n then
    refuseIf (d.enabled (.ts n) && (d.store addr v).word addr != d.word addr) 0x0117 <|
    refuseIf (addr == R.TS_PLCA n && (newField v (F.TS_PLCA_NODE_ID n) == 255 ||
      newField v (F.TS_PLCA_TO_TIMER n) == 0 || newField v (F.TS_PLCA_NODE_COUNT n) == 0)) 0x0117
      (.ok (d.store addr v))
  else if addr = R.TS_MAC n then
    refuseIf (lenBad (newField v (F.TS_MAC_MAX_LEN n))) 0x0115 (.ok (d.store addr v))
  else if addr = R.TS_CNT_CTRL n then .ok (if newField v (F.TS_CNT_CTRL_SNAP n) = 1 then d.tsSnap n else d)
  else .ok (d.store addr v)

end Sys2Proof.Machine
end

