-- ==== Sys2Proof/Machine/Egress.lean ====
section
/-! DEFINITION. Egress (R58, R59, R162, R174, R182 to R185, R190, R214): the pick of the next frame of
a port, its start, the bytes it leaves with, and its end. -/

namespace Sys2Proof.Machine
open Sys2Proof

/-! ## The pick (R183, R214) -/

/-- R183: the copy of a frame on an egress port may start. -/
def Dev.mayStart (d : Dev) (g : GFrame) (e : Nat) : Bool :=
  g.whole || (decide (g.port < 24) && decide (e < 24) && d.flag (F.SW_PORT_CFG_CT_EN g.port) &&
    d.flag (F.SW_PORT_CFG_CT_EN e) && decide (d.portRate e ≤ d.portRate g.port))

/-- R214, R217: the tier of queue q if its head may start now, else 0. -/
def Dev.ready (d : Dev) (q : Nat) : Nat :=
  match (d.qs q).copies with
  | [] => 0
  | c :: _ =>
    match d.frame? c.id with
    | none => 0
    | some g =>
      let p := q / 8
      let a := if c.est = 0 then d.acctLen p g.bytes.length else c.est
      let held := decide (p < 16) && d.flag (F.EP_LINK_LINK_UP p) && bitOf (d.get (F.FC_STAT_PFC_HELD p)) (q % 8)
      if d.mayStart g p && !held && d.gateFits p (q % 8) a then d.tier q else 0

/-- R214: of two queues, the one that is served first: tier, tag, class. `b` is the higher class. -/
def Dev.better (d : Dev) (a b : Option (Nat × Nat)) : Option (Nat × Nat) :=
  match a, b with
  | none, b => b
  | a, none => a
  | some x, some y =>
    if y.2 < x.2 then some x
    else if x.2 < y.2 then some y
    else if tagBefore (d.qs x.1).fprev (d.qs y.1).fprev then some x
    else some y

/-- R214: the queue that port p serves next and its tier. -/
def Dev.pick (d : Dev) (p : Nat) : Option (Nat × Nat) :=
  (List.range 8).foldl (fun best c =>
    let q := 8 * p + c
    let t := d.ready q
    d.better best (if t = 0 then none else some (q, t))) none

/-! ## Host rings of KIND 0 (R37, R39) -/

/-- A device-to-host ring of a kind and source that runs and has a buffer. -/
def Dev.backRing (d : Dev) (port kind : Nat) (source : Option Nat) : Option Nat :=
  findBelow 16 (fun r =>
    d.flag (F.RING_CFG_ENABLE port r) && d.flag (F.RING_CFG_DIR port r) && d.get (F.RING_CFG_KIND port r) == kind &&
      (match source with
       | none => true
       | some s => d.get (F.RING_CFG_SOURCE port r) == s) &&
      d.get (F.RING_HEAD_INDEX port r) != d.get (F.RING_TAIL_INDEX port r))

/-- R39: a producer makes an entry of a device-to-host ring. -/
def Dev.pushBack (d : Dev) (port r : Nat) (x : BackItem) : Dev :=
  { d with hb := tmod d.hb port (fun h => { h with back := tmod h.back r (fun l => l ++ [x]) }) }

/-! ## Start of a frame (R162, R164, R167, R173, R174, R185, R214) -/

/-- R174: a T1S segment may start a frame: under CSMA/CD, or within its transmit opportunity, which it gives up
where no frame has started after TO_TIMER bit times, or after BURST_TIMER behind a frame of its burst. -/
def Dev.tsMaySend (d : Dev) (n : Nat) : Bool :=
  let s := d.port (16 + n)
  d.flag (F.TS_STAT_CSMA n) ||
    (d.flag (F.TS_STAT_PLCA_ACTIVE n) && decide (0 < s.credit) &&
      decide (d.plat.aon ≤ s.burstAt + 100 *
        (if s.credit = 1 + d.get (F.TS_BURST_MAX_BURST n) then d.get (F.TS_PLCA_TO_TIMER n)
         else d.get (F.TS_BURST_BURST_TIMER n))))

/-- Port p takes frames from its queues now. -/
def Dev.takes (d : Dev) (p : Nat) : Bool :=
  d.mode != 11 && (d.port p).tx.isNone && (d.port p).wake.isNone &&
    (if p < 16 then
      d.released (.ep p 0) &&
        (if d.flag (F.EP_LINK_LINK_UP p) then !d.flag (F.FC_STAT_PAUSE_HELD p) && !d.flag (F.EP_LINK_TX_LPI p)
         else d.flag (F.EP_MAC_DOWN_FLUSH p))
     else if p < 24 then d.portUp p && d.tsMaySend (p - 16) && (d.arriving p).isNone
     else if p < 26 then (d.backRing (p - 24) 0 none).isSome
     else if p = 26 then
       d.gv.port26.isNone && d.released (.gv 0) && d.enabled (.gv 0) && d.mode != 8 && d.mode != 3
     else d.released (.mc 0))

/-- The head of queue q is picked: V_p moves to its tag, and the next head is tagged (R215). -/
def Dev.takeHead (d : Dev) (q : Nat) : Dev :=
  let d := d.setVtime (q / 8) (d.qs q).fprev
  (d.modQ q (fun s => { s with copies := s.copies.drop 1 })).tagHead q

/-- The picked head of queue q is discarded and its cells are released. -/
def Dev.discardHead (d : Dev) (q id : Nat) : Dev :=
  let cells := ((d.frame? id).map (·.cells)).getD 0
  (((d.takeHead q).depthSub q cells).modPort (q / 8) (fun s => { s with idle := d.plat.aon })).releaseCopy id

/-- R326: a bad word of fabric or buffer memory: the head of queue q is discarded, and the queue goes on. -/
def Dev.queueLost (d : Dev) (q : Nat) : Dev :=
  match (d.qs q).copies with
  | [] => d
  | c :: _ =>
    let cells := ((d.frame? c.id).map (·.cells)).getD 0
    let d := ((d.modQ q (fun s => { s with copies := s.copies.drop 1 })).tagHead q).depthSub q cells
    ((d.bump (F.SW_QDROP_COUNT q)).modPort (q / 8) (fun s => { s with idle := d.plat.aon })).releaseCopy c.id

/-- R54, R56, R272: the transmit stamp on Base time of a frame that starts `frac` × 125 ps after the present
tick, in 2⁻⁶ ns. With the TPLL bypassed the Timeline resolves ticks alone. -/
def Dev.txBase (d : Dev) (p frac : Nat) : Int :=
  let at_ : Int := d.now64 + (if d.tickFifths = 5 then frac * 8 else 0 : Nat)
  if p < 24 then at_ + d.stampDelay 1 (d.speedCode p) p at_ else at_

/-- R54, R58: the transmit stamp on Base time. -/
def Dev.txBaseStamp (d : Dev) (p frac : Nat) : Int := d.onBase 0 (d.txBase p frac) (d.stampRes p)

/-- R54: the transmit stamp on the time base of port p < 24. -/
def Dev.txStamp (d : Dev) (p frac : Nat) : Nat := stamp35 (d.onBase (d.tbSel p) (d.txBase p frac) (d.stampRes p))

/-- R59: the Echo entry of a transmitted frame. -/
def Dev.echoFor (d : Dev) (p : Nat) (g : GFrame) (stamp : Nat) : Dev :=
  let h := headOf g.bytes
  if !d.flag (F.ECHO_CFG_EN p) then d
  else
    let one := match g.ptp with
      | .oneStep _ => true
      | _ => false
    if h.etype = 0x88F7 && d.flag (F.ECHO_CFG_PTP p) && decide (ptpType g.bytes h.off < 4) && !one then
      let dom := (d.ptpMap (ptpDomain g.bytes h.off) (fun _ => true)).getD 15
      d.echoPush p false (ptpType g.bytes h.off) dom (ptpSeq g.bytes h.off) stamp
    else if d.get (F.ECHO_CFG_ETYPE p) != 0 && h.etype == d.get (F.ECHO_CFG_ETYPE p) then
      let d := d.modEcho p (fun q => { q with etypeCount := q.etypeCount + 1 })
      d.echoPush p true 0 15 ((tget d.tl.echo p).etypeCount % 65536) stamp
    else d

/-- R173: whether a frame that leaves EP p is protected. -/
def Dev.protects (d : Dev) (p : Nat) (g : GFrame) : Bool :=
  decide (p < 16) && d.flag (F.MS_CTRL_EN p) && d.flag (F.MS_CTRL_PROTECT p) && (headOf g.bytes).etype != 0x888E

/-- The copy at the head of queue q starts on port p. Ports 24 to 27 have no place of R54: a free stamp. -/
def Dev.begin_ (d : Dev) (p q tier : Nat) (c : QCopy) (g : GFrame) (prot : Option Protect) (frac : Nat) : Dev :=
  let base := d.txBaseStamp p frac
  let fix := if p < 24 then d.ptpFix g base else none
  let tb := if p < 24 then d.tbSel p else 0
  let (stamp, d) := if p < 24 then (d.txStamp p frac, d) else d.free (2 ^ 35)
  let (d, taps) := d.tapHead p true (d.maxLen p)
  let d := d.takeHead q
  let d := (d.modFrame c.id (fun g => { g with started := true })).modPort g.port (fun s => { s with
    rx := s.rx.map (fun f => if f.pos = .stored c.id then { f with started := true } else f) })
  let d := d.modPort p (fun s => { s with
    tx := some { id := c.id, queue := q, committed := tier == 2, est := c.est, weight := c.weight, base, stamp, fix, tb
                 protect := prot, taps, waiting := false }
    attempts := 1, credit := s.credit - 1 })
  if p = 26 then { d with gv := { d.gv with port26 := some c.id } }
  else if 24 ≤ p ∧ p < 26 then
    match d.backRing (p - 24) 0 none with
    | none => d
    | some r => d.pushBack (p - 24) r { data := d.copyBytes g p none, stamp := g.stamp, event := false, frame := some c.id }
  else d

/-- R331: a parity error armed for the next frame that leaves port p. -/
def Dev.parityArmed (d : Dev) (p : Nat) : Bool :=
  match d.inject with
  | some x => x.kind == 2 && x.inst == p
  | none => false

/-- R185, R326: the picked copy of queue q for port p reads an uncorrectable error in the frame's cells. Ports
24–27, which check parity at the same read, may have found that instead: free. -/
def Dev.cellsBad (d : Dev) (p q id : Nat) : Dev :=
  if p < 24 then ((d.bump F.SW_CT_DISCARD_COUNT).discardHead q id).dbe 1
  else
    let (k, d) := d.free 2
    if k = 0 then ((d.bump F.SW_ECC_DISCARD_COUNT).discardHead q id).dbe 1
    else (((d.discardHead q id).bump F.SW_CT_BAD_COUNT).raise (.sw 0) 2).report 3 p

/-- R214: at a frame boundary port p picks and starts its next frame, `frac` × 125 ps after the present tick;
`dbe` tells of an uncorrectable error in its cells (R185, R326). -/
def Dev.egressStart (d : Dev) (p : Nat) (dbe : Bool) (frac : Nat) : Dev :=
  if !d.takes p then d
  else
    match d.pick p with
    | none => d
    | some (q, tier) =>
      match (d.qs q).copies with
      | [] => d
      | c :: _ =>
        match d.frame? c.id with
        | none => d
        | some g =>
          let (bad, d) := d.fabricBad
          if bad then (d.bump (F.SW_QDROP_COUNT q)).discardHead q c.id
          else if decide (24 ≤ p) && d.parityArmed p then
            let d := ((d.discardHead q c.id).bump F.SW_CT_BAD_COUNT).raise (.sw 0) 2
            ({ d with inject := none }).report 3 (p + 2 ^ 16)
          else if dbe then d.cellsBad p q c.id
          else if decide (p < 16) && !d.flag (F.EP_LINK_LINK_UP p) then (d.discardHead q c.id).count p cTxLinkDown
          else if d.protects p g then
            match d.protect p with
            | (d, none) => ((d.discardHead q c.id).count p cMsDropped).raise (.ep p 2) 2
            | (d, some x) => (d.begin_ p q tier c g (some x) frac).count p cMsProtected
          else d.begin_ p q tier c g none frac

/-! ## End of a frame (R162, R184, R214) -/

/-- What a finished copy leaves as on port p, and its egress record. -/
def Dev.finishCopy (d : Dev) (p : Nat) (t : TxSt) (g : GFrame) (bad : Bool) : Dev :=
  let f := d.copyBytes g p t.fix
  let plain := closed bad f
  let d := d.tapTail t.taps {
    source := capSource p true t.tb, stamp := t.stamp, orig := plain.length, flags := boolNat bad * 16, data := plain }
  let d := if g.ce.contains p then d.bump (F.SW_ECN_MARKED_COUNT p) else d
  if p < 24 then
    let wire := match t.protect with
      | none => plain
      | some x => closed bad (protectFrame x f)
    let d := d.emit (.wire p wire)
    let d := d.echoFor p g t.stamp
    if bad then d.count p cTxBadTail else (d.count p cTxFrames).octets p cTxOctets wire.length
  else if p = 27 then d.emit (.management g.port g.stamp f)
  else d

/-- R39: the frame still waits in a device-to-host ring. -/
def Dev.inBack (d : Dev) (port id : Nat) : Bool :=
  (tget d.hb port).back.any (fun x => x.2.any (fun i => i.frame == some id))

/-- R162: the frame in transmission on port p ends; `err` 1 tells of an uncorrectable error found in
its cells, 2 of a parity error on its path (R326). -/
def Dev.egressEnd (d : Dev) (p : Nat) (err : Nat) : Dev :=
  match (d.port p).tx with
  | none => d
  | some t =>
    match d.frame? t.id with
    | none => (d.modPort p (fun s => { s with tx := none })).sendCtl p
    | some g =>
      if !g.whole || t.waiting || (decide (24 ≤ p) && decide (p < 26) && d.inBack (p - 24) t.id) then d
      else
        let armed := d.parityArmed p
        let err := if 24 ≤ p then 0 else if armed then 2 else err
        let d := if err = 2 then
            let d := (d.bump F.SW_CT_BAD_COUNT).raise (.sw 0) 2
            (if armed then { d with inject := none } else d).report 3 (p + boolNat armed * 2 ^ 16)
          else if err = 1 then d.dbe 1
          else d
        let d := d.finishCopy p t g (g.bad || err != 0)
        let d := d.chargeShapers t.queue t.committed (d.acctLen p g.bytes.length)
        let d := d.depthSub t.queue g.cells
        let d := d.modPort p (fun s => { s with
          tx := none, attempts := 0, idle := d.plat.aon, burstAt := d.plat.aon })
        let d := if p = 26 then d else d.releaseCopy t.id
        if p < 16 then d.sendCtl p else d

/-! ## T1S and low-power idle -/

/-- R174: a transmit opportunity of a PLCA node, whose turn has come since the last beacon, on a segment with
no frame arriving: up to 1 + MAX_BURST frames, the first at once. The coordinator's opens a cycle: its beacon leaves. -/
def Dev.txOpportunity (d : Dev) (n : Nat) : Dev :=
  if d.portUp (16 + n) && d.flag (F.TS_STAT_PLCA_ACTIVE n) && (d.port (16 + n)).tx.isNone &&
      (d.arriving (16 + n)).isNone && decide ((d.port (16 + n)).beacon + d.plcaWait n ≤ d.plat.aon) then
    let d := if d.flag (F.TS_STAT_COORD n) then
        (d.modPort (16 + n) (fun s => { s with beacon := d.plat.aon })).emit (.beacon n)
      else d
    let d := d.modPort (16 + n) (fun s => { s with
      credit := 1 + d.get (F.TS_BURST_MAX_BURST n), burstAt := d.plat.aon })
    d.egressStart (16 + n) false 0
  else d

/-- R175: the back-off of a collided frame ends and it is retried. -/
def Dev.backoffExpire (d : Dev) (n : Nat) : Dev :=
  let p := 16 + n
  match (d.port p).tx, (d.port p).backoff with
  | some t, some u =>
    if t.waiting && decide (u ≤ d.plat.aon) && (d.arriving p).isNone then
      let base := d.txBaseStamp p 0
      let fix := (d.frame? t.id).bind (fun g => d.ptpFix g base)
      d.modPort p (fun s => { s with
        tx := some { t with waiting := false, base, stamp := d.txStamp p 0, fix, tb := d.tbSel p }, backoff := none })
    else d
  | _, _ => d

/-- R167: WAKE_NS after leaving low-power idle the frames due may start, `frac` × 125 ps after the present
tick. -/
def Dev.eeeWake (d : Dev) (n frac : Nat) : Dev :=
  match (d.port n).wake with
  | none => d
  | some u =>
    if u ≤ d.plat.aon then
      let d := (d.modPort n (fun s => { s with wake := none })).sendCtl n
      d.egressStart n false frac
    else d

end Sys2Proof.Machine
end

