-- ==== Sys2Proof/Machine/Grove.lean ====
section
/-! DEFINITION. Grove's tables and queues: signal descriptors, transforms, PDU descriptors and
images, the table command window, triggers, the calendar, event PDUs and destination queues
(R79 to R107). -/

namespace Sys2Proof.Machine
open Sys2Proof

/-! ## Fields of a PDU (R82 to R84) -/

/-- R82: the bit position of bit i of a field. -/
def fieldPos (big : Bool) (start i : Nat) : Nat :=
  if big then 8 * (start / 8 - (start % 8 + i) / 8) + (start % 8 + i) % 8 else start + i

/-- R83: whether every bit of a field of length `len` lies in the first n bytes. -/
def fieldFits (big : Bool) (start len n : Nat) : Bool :=
  if big then decide (start / 8 < n) && decide ((start % 8 + len - 1) / 8 ≤ start / 8)
  else decide (start + len ≤ 8 * n)

/-- R82: the raw bits of a field of a PDU. -/
def fieldGet (big : Bool) (start len pdu : Nat) : Nat :=
  (List.range len).foldl (fun a i => a + boolNat (bitOf pdu (fieldPos big start i)) * 2 ^ i) 0

/-! ## Transforms (R85 to R87) -/

/-- R86: the bit pattern that a code names, for a field of length w; code 0 names none. -/
def pattern (code w : Nat) : Option Nat :=
  if code = 1 then some (2 ^ w - 1)
  else if code = 2 then some (2 ^ w - 2)
  else if code = 3 then some (2 ^ (w - 1))
  else none

/-- R86: a pattern read as a number of a field. -/
def patternVal (code w : Nat) (sgn : Bool) : Option Int :=
  (pattern code w).map (fun p => if sgn then signedOf w p else (p : Int))

/-- R85: what a transform word holds that nothing has written: transform 0 is the identity. -/
def xfmDflt (i : Nat) : Nat := if i = 0 then 1 else 0

/-- Word w of transform k. -/
def Dev.xfmWord (d : Dev) (k w : Nat) : Nat := tabGet xfmDflt d.gv.xfm (4 * k + w)

/-- R87: one step away from a reserved output pattern, toward zero. -/
def stepAway (inv na w : Nat) (sgn : Bool) (v : Int) : Int :=
  if patternVal inv w sgn = some v ∨ patternVal na w sgn = some v then
    (if 0 < v then v - 1 else v + 1)
  else v

/-- R87: what a transform makes of a value for a sink: nothing to write, or a result and whether
it was saturated. `cls` is the class of the value register (R116). -/
def Dev.transform (d : Dev) (k cls raw lsrc : Nat) (val : Int) (w : Nat) (sgn : Bool) :
    Option (Nat × Bool) :=
  let c := d.xfmWord k 3
  let inInv := bitsOf c 8 2
  let inNa := bitsOf c 10 2
  let outInv := bitsOf c 12 2
  let outNa := bitsOf c 14 2
  if cls = 3 then none
  else if cls = 1 ∨ (cls = 0 ∧ pattern inInv lsrc = some raw) then (pattern outInv w).map (fun p => (p, false))
  else if cls = 2 ∨ (cls = 0 ∧ pattern inNa lsrc = some raw) then (pattern outNa w).map (fun p => (p, false))
  else
    let m := signedOf 32 (d.xfmWord k 0)
    let b := signedOf 64 (d.xfmWord k 1 + d.xfmWord k 2 * 2 ^ 32)
    let s := bitsOf c 0 6
    let p := val * m + (if bitOf c 6 ∧ 0 < s then 2 ^ (s - 1) else 0)
    let v := p / 2 ^ s + b
    let lo : Int := if sgn then -(2 ^ (w - 1)) else 0
    let hi : Int := if sgn then 2 ^ (w - 1) - 1 else 2 ^ w - 1
    let v1 := if v < lo then lo else if hi < v then hi else v
    let r := stepAway outInv outNa w sgn (stepAway outInv outNa w sgn v1)
    some (unsignedOf w r, decide (v1 ≠ v))

/-! ## Counters of page 0 -/

/-- R81, R83, R84: something is skipped. -/
def Dev.gvSkip (d : Dev) : Dev := (d.bump F.GV_SKIPPED_COUNT).raise (.gv 0) 3

/-! ## Signal store (R80, R81) -/

/-- Word w of descriptor n. -/
def Dev.sigWord (d : Dev) (n w : Nat) : Nat := tget d.gv.sig (3 * n + w)

/-- A word of the signal store written. -/
def Dev.setSig (d : Dev) (k v : Nat) : Dev := { d with gv := { d.gv with sig := tset d.gv.sig k v } }

/-- R80: the bits of descriptor word w that are not reserved. -/
def sigMask (w : Nat) : Nat := if w = 0 then 0xFF0FFFFF else if w = 1 then 0xFFFFFFFF else 0x000FFFFF

/-- R81: a write through the signal store window to word k = 3n + w. -/
def Dev.sigWrite (d : Dev) (k : Nat) (v : Word) : Wr :=
  refuseIf (k % 3 != 0 && bitOf (tget d.gv.sig (k / 3 * 3)) 31) 0x010C <|
  .ok (d.setSig k (Nat.land v.toNat (sigMask (k % 3))))

/-! ## PDU descriptors (R88) -/

def pduValid (e : PduEntry) : Bool := bitOf e.w0 31
def pduTx (e : PduEntry) : Bool := bitOf e.w0 30
def pduSafety (e : PduEntry) : Bool := bitOf e.w0 29
def pduBus (e : PduEntry) : Nat := bitsOf e.w0 24 4
def pduChan (e : PduEntry) : Nat := bitsOf e.w0 16 8
def pduFormat (e : PduEntry) : Nat := bitsOf e.w0 12 4
def pduHook (e : PduEntry) : Nat := bitsOf e.w0 0 12
def pduFirst (e : PduEntry) : Nat := bitsOf e.w2 12 20
def pduTag (e : PduEntry) : Nat := bitsOf e.w2 16 16
def pduLen (e : PduEntry) : Nat := bitsOf e.w2 0 12
def pduCount (e : PduEntry) : Nat := bitsOf e.w3 0 15
def pduTimeoutMs (e : PduEntry) : Nat := bitsOf e.w4 0 16
def pduTrig (e : PduEntry) : Nat := bitsOf e.w4 29 3
def pduGapUs (e : PduEntry) : Nat := bitsOf e.w4 0 16
def pduCycle (e : PduEntry) : Nat := bitsOf e.w5 0 16
def pduOffset (e : PduEntry) : Nat := bitsOf e.w5 16 16
/-- A valid transmit PDU. -/
def pduIsTx (e : PduEntry) : Bool := pduValid e && pduTx e
/-- A valid receive PDU. -/
def pduIsRx (e : PduEntry) : Bool := pduValid e && !pduTx e

/-- Word 7. -/
def pduStatus (e : PduEntry) : Nat :=
  boolNat e.timedOut * 2 ^ 31 + boolNat e.pending * 2 ^ 30 + e.coalesced

/-- Word k of a descriptor as READ copies it. -/
def pduWord (e : PduEntry) (k : Nat) : Nat :=
  (([e.w0, e.w1, e.w2, e.w3, e.w4, e.w5, e.w6, pduStatus e] : List Nat)[k]?).getD 0

def Dev.pdu (d : Dev) (i : Nat) : PduEntry := tget d.gv.pdu i
def Dev.setPdu (d : Dev) (i : Nat) (e : PduEntry) : Dev :=
  { d with gv := { d.gv with pdu := tset d.gv.pdu i e } }
def Dev.modPdu (d : Dev) (i : Nat) (f : PduEntry → PduEntry) : Dev := d.setPdu i (f (d.pdu i))

/-- R134: whether a length is one of a CAN format. -/
def canLen (fmt len : Nat) : Bool :=
  if fmt = 0 then decide (len ≤ 8)
  else if fmt = 1 then decide (len ≤ 8) || len == 12 || len == 16 || len == 20 || len == 24 ||
    len == 32 || len == 48 || len == 64
  else if fmt = 2 then decide (1 ≤ len) && decide (len ≤ 2048)
  else false

/-- R88: how many channels a bus has in a direction. -/
def busChans (bus : Nat) (tx : Bool) : Nat :=
  if bus = 0 then 64
  else if bus = 1 then 16
  else if bus = 2 then (if tx then 1 else 26)
  else if bus = 3 then (if tx then 16 else 2)
  else 0

/-- R88: the bits of word 1 that a bus uses in a direction. -/
def idBits (bus fmt : Nat) (tx : Bool) : Nat :=
  if bus = 0 then (if fmt = 2 then 11 else 30)
  else if bus = 1 then 6
  else if tx then 0 else 32

/-- R91: a code or a range of R88 is broken, or a field that does not apply is not 0. -/
def pduInvalid (e : PduEntry) : Bool :=
  let bus := pduBus e
  let tx := pduTx e
  let fmt := pduFormat e
  let len := pduLen e
  decide (busChans bus tx ≤ pduChan e) ||
  (if bus = 0 then decide (2 < fmt) else fmt != 0) ||
  len == 0 || decide (2048 < len) || (tx && bus == 2 && decide (len < 60)) ||
  e.w1 / 2 ^ idBits bus fmt tx != 0 ||
  (if tx then
    pduSafety e || decide (3 < pduTrig e) ||
    (if pduCycle e = 0 then pduOffset e != 0 else decide (pduCycle e ≤ pduOffset e)) ||
    (if bus = 0 then
      bitsOf e.w2 12 4 != 0 || !canLen fmt len || (bitOf e.w6 17 && fmt != 1) ||
      (fmt != 2 && (e.w3 != 0 || bitsOf e.w6 0 17 != 0))
    else if bus = 1 then
      bitsOf e.w2 12 20 != 0 || e.w3 != 0 || decide (8 < len) || e.w6 / 4 != 0 || bitOf e.w6 0
    else if bus = 2 then bitsOf e.w2 12 20 != 0 || e.w3 != 0 || e.w6 / 2 ^ 10 != 0
    else bitsOf e.w2 12 20 != 0 || e.w3 != 0 || e.w6 != 0)
  else
    decide (16384 < pduCount e) || pduTrig e != 0 || e.w5 != 0 ||
    (if bus = 2 then e.w6 / 2 ^ 16 != 0 else e.w6 != 0))

/-- R89: a valid receive PDU other than i has the triple of e. -/
def Dev.pduDuplicate (d : Dev) (i : Nat) (e : PduEntry) : Bool :=
  d.gv.pdu.any (fun x => x.1 != i && pduIsRx x.2 && pduBus x.2 == pduBus e &&
    pduChan x.2 == pduChan e && x.2.w1 == e.w1)

/-- R89: the receive PDU of a triple. -/
def Dev.rxPdu (d : Dev) (bus chan id : Nat) : Option Nat :=
  (d.gv.pdu.find? (fun x => pduIsRx x.2 && pduBus x.2 == bus && pduChan x.2 == chan &&
    x.2.w1 == id)).map (fun x => x.1)

/-- R91: image cells of a length. -/
def imageCells (len : Nat) : Nat := (len + 255) / 256

/-! ## Destination queues (R99, R104) -/

/-- R99: the destination of a transmit PDU, numbered as `GvSt.queues`. -/
def pduDest (e : PduEntry) : Nat :=
  if pduBus e = 0 then pduChan e
  else if pduBus e = 1 then 64 + pduChan e
  else if pduBus e = 2 then 80
  else 81 + pduChan e

def Dev.queue (d : Dev) (k : Nat) : List GvItem := tget d.gv.queues k
def Dev.setQueue (d : Dev) (k : Nat) (q : List GvItem) : Dev :=
  { d with gv := { d.gv with queues := tset d.gv.queues k q } }

/-- R99: a transmit PDU is triggered: pending, or absorbed. -/
def Dev.trigger (d : Dev) (i : Nat) : Dev :=
  let e := d.pdu i
  if !pduIsTx e then d
  else if e.pending then
    (d.modPdu i (fun e => { e with coalesced := satAdd 16 e.coalesced 1 })).bump F.GV_COALESCED_COUNT
  else
    let k := pduDest e
    (d.modPdu i (fun e => { e with pending := true })).setQueue k (d.queue k ++ [.pdu i])

/-- R91: a PDU leaves every destination queue. -/
def Dev.dropPending (d : Dev) (i : Nat) : Dev :=
  { d with gv := { d.gv with
      queues := d.gv.queues.filterMap (fun x =>
        let q := x.2.filter (fun it => it != .pdu i)
        if q = [] then none else some (x.1, q)) } }

/-- R104: the event of a kind that waits in a queue. -/
def sameKind (type source : Nat) : GvItem → Option EventPdu
  | .event e => if e.type = type ∧ e.source = source then some e else none
  | .pdu _ => none

/-- R103, R104: an event PDU is queued on host queue q, or merged with the pending one of its
kind, which moves to the tail. -/
def Dev.gvEvent (d : Dev) (q : Nat) (type source data stamp announce : Nat) : Dev :=
  let k := 81 + q
  let items := d.queue k
  if !d.released (.gv 0) then d
  else match items.findSome? (sameKind type source) with
  | some e =>
    let e' : EventPdu := { e with count := min 65535 (e.count + 1), data, stamp, announce }
    (d.setQueue k (items.filter (fun it => it != .event e) ++ [.event e'])).bump F.GV_EVT_COALESCED_COUNT
  | none =>
    d.setQueue k (items ++ [.event { type, source, count := 1, announce, data, stamp, first := stamp / 8 }])

/-- R103: an event of the device's own goes to GV_CFG.EVT_QUEUE. -/
def Dev.deviceEvent (d : Dev) (type source data stamp announce : Nat) : Dev :=
  d.gvEvent (d.get F.GV_CFG_EVT_QUEUE) type source data stamp announce

/-- Base time at the present tick as a 35-bit stamp (R54). -/
def Dev.stampNow (d : Dev) : Nat := d.base8 % 2 ^ 35

/-! ## Calendar (R97) -/

/-- R96, R97: whether step n of the calendar triggers a PDU. -/
def dueAt (n : Nat) (e : PduEntry) : Bool :=
  pduIsTx e && pduCycle e != 0 && pduTrig e != 1 && n % pduCycle e == pduOffset e

/-- R97: one calendar step. -/
def Dev.calendarStep (d : Dev) : Dev :=
  let n := d.get F.GV_CAL_STEP_COUNT
  let due := d.gv.pdu.filter (fun x => dueAt n x.2)
  due.foldl (fun a x => a.trigger x.1) (d.bumpWrap F.GV_CAL_STEP_COUNT)

/-! ## Table command window (R91) -/

/-- R91: what a WRITE of VALID = 0 does to a descriptor that was valid. -/
def Dev.pduInvalidate (d : Dev) (i : Nat) : Dev :=
  let e := d.pdu i
  if pduValid e then
    let d := if pduTx e then
        (d.dropPending i).put F.GV_IMG_CELLS_USED (d.get F.GV_IMG_CELLS_USED - imageCells (pduLen e))
      else d
    d.modPdu i (fun e => { e with
      timedOut := false, pending := false, coalesced := 0, gen := e.gen + 1
      image := 0, lastSend := none, stamp := 0, since := 0 })
  else d.modPdu i (fun e => { e with timedOut := false, pending := false, coalesced := 0 })

/-- A WRITE of a PDU descriptor: the device after it and the refusal code, 0 for success. -/
def Dev.pduWrite (d : Dev) (i : Nat) (w : Nat → Nat) : Dev × Nat :=
  let old := d.pdu i
  let rx := !bitOf (w 0) 30
  let e : PduEntry := { old with
    w0 := putBits (w 0) 28 1 0, w1 := w 1, w2 := w 2
    w3 := if rx then bitsOf (w 3) 0 15 else w 3
    w4 := putBits (w 4) 16 13 0, w5 := w 5, w6 := bitsOf (w 6) 0 26 }
  if pduValid e then
    let was := pduValid old
    if pduInvalid e then (d, 0x010D)
    else if was && (pduTx old != pduTx e || pduBus old != pduBus e || pduLen old != pduLen e) then (d, 0x010D)
    else if !pduTx e && d.pduDuplicate i e then (d, 0x010E)
    else if was then (d.setPdu i e, 0)
    else
      let need := imageCells (pduLen e)
      let used := d.get F.GV_IMG_CELLS_USED
      if pduTx e && decide (d.get F.GV_IMG_CELLS_CELLS < used + need) then (d, 0x010F)
      else
        let d := if pduTx e then d.put F.GV_IMG_CELLS_USED (used + need) else d
        (d.setPdu i { e with since := d.baseNs }, 0)
  else ((d.pduInvalidate i).modPdu i (fun o => { o with
    w0 := e.w0, w1 := e.w1, w2 := e.w2, w3 := e.w3, w4 := e.w4, w5 := e.w5, w6 := e.w6 }), 0)

/-- The words of a PDU descriptor that a WRITE sets. -/
def PduEntry.setWords (e o : PduEntry) : PduEntry :=
  { e with w0 := o.w0, w1 := o.w1, w2 := o.w2, w3 := o.w3, w4 := o.w4, w5 := o.w5, w6 := o.w6 }

/-- R315: a PDU descriptor made invalid where the one to be restored cannot replace it live (R91). -/
def Dev.pduClear (d : Dev) (i : Nat) (o : PduEntry) : Dev :=
  let e := d.pdu i
  if pduValid e && !(pduValid o && pduTx o == pduTx e && pduBus o == pduBus e && pduLen o == pduLen e) then
    (d.pduInvalidate i).modPdu i (fun e => { e with w0 := clrBit e.w0 31 })
  else d

/-- R315: a PDU descriptor restored; where it becomes valid it begins as after a WRITE. -/
def Dev.pduBack (d : Dev) (i : Nat) (o : PduEntry) : Dev :=
  let e := d.pdu i
  if pduValid o && !pduValid e then
    let d := if pduTx o then d.put F.GV_IMG_CELLS_USED (d.get F.GV_IMG_CELLS_USED + imageCells (pduLen o)) else d
    d.setPdu i { e.setWords o with since := d.baseNs }
  else d.setPdu i (e.setWords o)

/-- R315: the descriptors named, signal (0), PDU (1) and transform (2), take what a former Grove state held. -/
def Dev.tablesBack (d : Dev) (g : GvSt) (l : List (Nat × Nat)) : Dev :=
  let pdus := (l.filter (fun x => x.1 == 1)).map (fun x => x.2)
  let d := pdus.foldl (fun (a : Dev) i => a.pduClear i (tget g.pdu i)) d
  let d := pdus.foldl (fun (a : Dev) i => a.pduBack i (tget g.pdu i)) d
  let sig := (l.filter (fun x => x.1 == 0)).foldl (fun t x =>
    [3 * x.2, 3 * x.2 + 1, 3 * x.2 + 2].foldl (fun t w => tset t w (tget g.sig w)) t) d.gv.sig
  let xfm := (l.filter (fun x => x.1 == 2)).foldl (fun t x =>
    [4 * x.2, 4 * x.2 + 1, 4 * x.2 + 2, 4 * x.2 + 3].foldl (fun t w => tabSet xfmDflt t w (tabGet xfmDflt g.xfm w)) t) d.gv.xfm
  { d with gv := { d.gv with sig, xfm } }

/-- R86: two codes name one pattern. -/
def codesClash (a b : Nat) : Bool := a != 0 && a == b

/-- R85, R86: a WRITE of a transform. -/
def Dev.xfmWrite (d : Dev) (k : Nat) (w : Nat → Nat) : Dev × Nat :=
  let c := Nat.land (w 3) 0xFF7F
  if k = 0 || codesClash (bitsOf c 8 2) (bitsOf c 10 2) || codesClash (bitsOf c 12 2) (bitsOf c 14 2) then
    (d, 0x010D)
  else
    let t := tabSet xfmDflt (tabSet xfmDflt d.gv.xfm (4 * k) (w 0)) (4 * k + 1) (w 1)
    ({ d with gv := { d.gv with xfm := tabSet xfmDflt (tabSet xfmDflt t (4 * k + 2) (w 2)) (4 * k + 3) c } }, 0)

/-- R91: the low 8·len bits of an image stay within its PDU. -/
def cutImage (len x : Nat) : Nat := x % 2 ^ (8 * len)

/-- R91, R93: a WRITE of 32 image bytes, a group commit that triggers no send. -/
def Dev.imageWrite (d : Dev) (i off : Nat) (w : Nat → Nat) : Dev × Nat :=
  let e := d.pdu i
  if pduIsTx e && decide (off < pduLen e) then
    let v := (List.range 8).foldl (fun a k => a + w k * 2 ^ (32 * k)) 0
    (d.modPdu i (fun e => { e with image := cutImage (pduLen e) (putBits e.image (8 * off) 256 v) }), 0)
  else (d, 0x010D)

/-- The words GV_TDATA0 to GV_TDATA7. -/
def Dev.tdata (d : Dev) (k : Nat) : Nat := d.get (F.GV_TDATA_DATA k)

/-- GV_TDATA words written by a READ. -/
def Dev.putTdata (d : Dev) (n : Nat) (w : Nat → Nat) : Dev :=
  (List.range n).foldl (fun a k => a.put (F.GV_TDATA_DATA k) (w k)) d

/-- R91: a table command on TABLE, INDEX and GV_TOFF. -/
def Dev.tableCommand (d : Dev) (op table ix : Nat) : Dev × Nat :=
  let off := 32 * d.get F.GV_TOFF_OFFSET
  if op = 0 then
    if table = 0 then (d.putTdata 8 (pduWord (d.pdu ix)), 0)
    else if table = 1 then (d.putTdata 4 (d.xfmWord ix), 0)
    else if table = 2 then
      let e := d.pdu ix
      if pduIsTx e && decide (off < pduLen e) then
        (d.putTdata 8 (fun k => bitsOf e.image (8 * off + 32 * k) 32), 0)
      else (d, 0x010D)
    else (d, 0x010D)
  else if op = 1 then
    if table = 0 then d.pduWrite ix d.tdata
    else if table = 1 then d.xfmWrite ix d.tdata
    else if table = 2 then d.imageWrite ix off d.tdata
    else (d, 0x010D)
  else (d, 0x010D)

/-- R91: a write of GV_TCMD. -/
def Dev.tcmdWrite (d : Dev) (who : Init) (v : Word) : Dev :=
  if d.flag F.GV_TCMD_GO then d
  else
    let d := (d.store R.GV_TCMD v).put F.GV_TCMD_GO 0
    if newField v F.GV_TCMD_GO = 1 then
      let (d1, code) := d.tableCommand (d.get F.GV_TCMD_OP) (d.get F.GV_TCMD_TABLE) (d.get F.GV_TCMD_INDEX)
      (d1.put F.GV_TRESULT_CODE code).windowErr who R.GV_TCMD code
    else d

/-- R79, R186: a write of GV_IMG_CELLS. The cells come from and return to the shared pool. -/
def Dev.imgCellsWrite (d : Dev) (v : Word) : Wr :=
  let old := d.get F.GV_IMG_CELLS_CELLS
  let n := newField v F.GV_IMG_CELLS_CELLS
  let free := d.get F.SW_GAL_STAT_FREE
  if n = old then .ok d
  else
    refuseIf (d.enabled (.gv 0) || decide (16384 < n) || decide (n < d.get F.GV_IMG_CELLS_USED) ||
      decide (free + old < n)) 0x010D <|
    .ok ((d.store R.GV_IMG_CELLS v).put F.SW_GAL_STAT_FREE (free + old - n))

/-- A write to GV pages 0 and 1. An engine reaches the transform table only through GX.XFM (R110). -/
def Dev.gvWrite01 (d : Dev) (k : Nat) (who : Init) (addr : Nat) (v : Word) : Wr :=
  if k = 0 then
    if addr = R.GV_IMG_CELLS then d.imgCellsWrite v
    else if addr = R.GV_CAL_CTRL then
      refuseIf (d.flag F.GV_CAL_CTRL_EN && d.changes v F.GV_CAL_CTRL_THREAD) 0x010D (.ok (d.store addr v))
    else .ok (d.store addr v)
  else if addr = R.GV_TCMD then
    refuseIf (isEngine who && newField v F.GV_TCMD_GO == 1 && newField v F.GV_TCMD_TABLE == 1) 0x0009
      (.ok (d.tcmdWrite who v))
  else .ok (d.store addr v)

/-- The word of GV_TCMD that starts a command. -/
def tcmdWord (op table ix : Nat) : Word := BitVec.ofNat 32 (2 ^ 31 + op * 2 ^ 24 + table * 2 ^ 20 + ix)

end Sys2Proof.Machine
end

