-- ==== Sys2Proof/Machine/Can.lean ====
section
/-! DEFINITION. CAN channels: message RAM, filters, authentication, transmission, error
confinement and the registers of the CAN pages (R128 to R147, R370). -/

namespace Sys2Proof.Machine
open Sys2Proof

/-- The index of a CAN channel among the channels. -/
def canC (n : Fin 64) : Fin 80 := n.castLE (by decide)

/-! ## Keys (R294, R8) -/

/-- The AES-128 key of a traffic key entry that CAN may use. -/
def Dev.canKey (d : Dev) (k : Nat) : Option (List Byte) :=
  let e := tget d.sc.tk k
  if e.valid && !e.long then some e.key else none

/-! ## Regions of message RAM (R133) -/

/-- The regions as (first block, blocks): filter, authentication, RX0, RX1, TX. -/
def Dev.canRegions (d : Dev) (c : Nat) : List (Nat × Nat) :=
  [(d.get (F.CAN_MR_FILT_BASE c), (d.get (F.CAN_MR_FILT_COUNT c) + 7) / 8),
   (d.get (F.CAN_MR_AUTH_BASE c), (d.get (F.CAN_MR_AUTH_COUNT c) + 1) / 2),
   (d.get (F.CAN_MR_RX0_BASE c), d.get (F.CAN_MR_RX0_BLOCKS c)),
   (d.get (F.CAN_MR_RX1_BASE c), d.get (F.CAN_MR_RX1_BLOCKS c)),
   (d.get (F.CAN_MR_TX_BASE c), d.get (F.CAN_MR_TX_SLOTS c) * d.get (F.CAN_MR_TX_SLOT_BLOCKS c))]

/-- R133: two regions overlap. -/
def regionsClash (a b : Nat × Nat) : Bool :=
  decide (0 < a.2) && decide (0 < b.2) && decide (a.1 < b.1 + b.2) && decide (b.1 < a.1 + a.2)

/-- Some pair of a list is related. -/
def anyPair {α : Type} (p : α → α → Bool) : List α → Bool
  | [] => false
  | x :: t => t.any (p x) || anyPair p t

/-- R133: the regions may not be used: an overlap, a block beyond 511, or a count out of range. -/
def Dev.regionsBad (d : Dev) (c : Nat) : Bool :=
  let slots := d.get (F.CAN_MR_TX_SLOTS c)
  let sb := d.get (F.CAN_MR_TX_SLOT_BLOCKS c)
  anyPair regionsClash (d.canRegions c) ||
    (d.canRegions c).any (fun r => decide (0 < r.2) && decide (512 < r.1 + r.2)) ||
    decide (128 < d.get (F.CAN_MR_FILT_COUNT c)) || decide (64 < d.get (F.CAN_MR_AUTH_COUNT c)) ||
    decide (32 < slots) || (slots != 0 && (sb == 0 || decide (33 < sb)))

/-- R130: the quanta of a data bit and its length in CAN clocks. -/
def dataQuanta (w : Word) : Nat := 3 + wordBits w 16 5 + wordBits w 8 4

/-- R130: a data bit timing that may not be used. -/
def dataTimingBad (w : Word) : Bool :=
  decide (wordBits w 8 4 < wordBits w 0 4) || decide (dataQuanta w < 4) ||
    decide ((wordBits w 24 5 + 1) * dataQuanta w < 4)

/-- R130: the bit timing may not be used. The data phase is judged where its format is enabled. -/
def Dev.timingBad (d : Dev) (c : Nat) : Bool :=
  let xbt := d.word (R.CAN_XBT c)
  decide (d.get (F.CAN_NBT_TSEG2_M1 c) < d.get (F.CAN_NBT_SJW_M1 c)) ||
    decide (3 + d.get (F.CAN_NBT_TSEG1_M1 c) + d.get (F.CAN_NBT_TSEG2_M1 c) < 8) ||
    (d.flag (F.CAN_MODE_FD_EN c) && dataTimingBad (d.word (R.CAN_DBT c))) ||
    (d.flag (F.CAN_MODE_XL_EN c) && dataTimingBad xbt) ||
    (d.flag (F.CAN_MODE_TMS_EN c) &&
      d.get (F.CAN_PWM_PWMS c) + d.get (F.CAN_PWM_PWML c) != (wordBits xbt 24 5 + 1) * dataQuanta xbt)

/-! ## Elements (R134) -/

/-- R133: blocks of an element of a length. -/
def elemBlocks (len : Nat) : Nat := (24 + len + 63) / 64

/-- The address of byte k of an element that begins `off` blocks into a region. -/
def elemAddr (base size off k : Nat) : Nat := (base + (off + k / 64) % max 1 size) * 64 + k % 64

/-- R134: a classical remote frame has a length code and no data on the wire. -/
def remoteFrame (f : CanFrame) : Bool := f.rtr && f.fmt == 0

/-- R134: the ID word of a frame. -/
def frameIdWord (f : CanFrame) : Nat :=
  if f.fmt = 2 then f.id.toNat % 2 ^ 11
  else (if f.ide then f.id.toNat else f.id.toNat % 2 ^ 11) + boolNat f.ide * 2 ^ 29 +
    boolNat (remoteFrame f) * 2 ^ 30

/-- R134: the lengths of a format that hold n bytes, the least. -/
def storedLen (fmt n : Nat) : Nat :=
  if fmt = 0 then min n 8
  else if fmt = 1 then
    (([8, 12, 16, 20, 24, 32, 48, 64].find? (fun k => decide (n ≤ k))).getD 64) |> fun k =>
      if n ≤ 8 then n else k
  else min n 2048

/-- R134: the data of a received frame as stored; a remote frame's are zeros. -/
def storedData (f : CanFrame) : List Byte :=
  slice (if remoteFrame f then [] else f.data) 0 (storedLen f.fmt f.data.length)

/-- R226: the data bytes of a received frame that a record holds. -/
def capturedData (f : CanFrame) : List Byte := if remoteFrame f then [] else storedData f

/-- R134: the CTRL word of a received frame. -/
def frameCtrl (f : CanFrame) (auth : Bool) : Nat :=
  (storedData f).length + f.fmt * 2 ^ 12 + boolNat f.brs * 2 ^ 14 + boolNat f.esi * 2 ^ 15 +
    (if f.fmt = 2 then f.sdt.toNat * 2 ^ 16 + boolNat f.sec * 2 ^ 24 else 0) + boolNat auth * 2 ^ 25

/-- R134: the bytes of an element. -/
def elemBytes (id ctrl af aux stamp : Nat) (data : List Byte) : List Byte :=
  leBytes 4 id ++ leBytes 4 ctrl ++ leBytes 4 af ++ leBytes 4 aux ++ leBytes 8 stamp ++ data

/-! ## Filters (R135) -/

/-- R135: the identifier that filters and authentication compare. -/
def frameId (f : CanFrame) : Nat := frameIdWord f % 2 ^ 29

/-- R135: whether a filter element matches a frame. -/
def filterHit (w0 w1 : Nat) (f : CanFrame) : Bool :=
  bitsOf w0 30 2 != 0 && (bitOf w1 29 == (f.fmt == 2)) && (f.fmt == 2 || bitOf w0 29 == f.ide) &&
    Nat.land (Nat.xor (frameId f) (bitsOf w0 0 29)) (bitsOf w1 0 29) == 0

/-- R135: the action for a frame and the index of the element that decided. -/
def Dev.canFilter (d : Dev) (c : Nat) (f : CanFrame) : Nat × Nat :=
  let a := d.get (F.CAN_MR_FILT_BASE c) * 64
  match findBelow (d.get (F.CAN_MR_FILT_COUNT c)) (fun i =>
      filterHit (d.ramNat c (a + 8 * i) 4) (d.ramNat c (a + 8 * i + 4) 4) f) with
  | some i => (bitsOf (d.ramNat c (a + 8 * i) 4) 30 2, i)
  | none =>
    let m := d.get (F.CAN_MR_FILT_NOMATCH c)
    (if m = 0 then 3 else m, 0x7F)

/-! ## Authentication (R144 to R146) -/

/-- The address of an authentication entry. -/
def Dev.authAddr (d : Dev) (c k : Nat) : Nat := d.get (F.CAN_MR_AUTH_BASE c) * 64 + 32 * k

/-- R145: the first valid receive entry with a frame's identifier. -/
def Dev.authRxEntry (d : Dev) (c : Nat) (f : CanFrame) : Option Nat :=
  findBelow (d.get (F.CAN_MR_AUTH_COUNT c)) (fun k =>
    let w := d.ramNat c (d.authAddr c k) 4
    bitOf w 31 && !bitOf w 30 && (bitOf w 29 == (f.ide && f.fmt != 2)) && bitsOf w 0 29 == frameId f)

/-- R144: the CMAC input. -/
def cmacInput (id af : Nat) (xl : Bool) (data : List Byte) (fresh : Nat) : List Byte :=
  beBytes 4 (id % 2 ^ 30) ++ (if xl then beBytes 4 af else []) ++ data ++ beBytes 8 fresh

/-- R145: the verdict on a received frame: stored unverified, stored with an entry and its new
freshness, failed at an entry, or without a key. -/
inductive AuthVerdict where
  | plain
  | pass (entry fresh : Nat)
  | fail (entry : Nat)
  | noKey
  deriving DecidableEq, Repr

/-- R145: the verification of a received frame's data. -/
def Dev.authVerify (d : Dev) (c : Nat) (f : CanFrame) (data : List Byte) : AuthVerdict :=
  match d.authRxEntry c f with
  | none => .plain
  | some k =>
    let a := d.authAddr c k
    let w1 := d.ramNat c (a + 4) 4
    let fv := bitsOf w1 20 4
    let mac := bitsOf w1 16 4
    match d.canKey (bitsOf w1 0 12) with
    | none => .noKey
    | some key =>
      if data.length < fv + mac then .fail k
      else
        let body := data.take (data.length - fv - mac)
        let rx := beNat ((data.drop body.length).take fv)
        let fresh := d.ramNat c (a + 8) 8
        let span := 2 ^ (8 * fv)
        let c0 := fresh / span * span + rx
        let cand := if fv = 0 then fresh + 1 else if c0 ≤ fresh then c0 + span else c0
        let tag := (cmac key (cmacInput (frameIdWord f) f.af.toNat (f.fmt == 2) body cand)).take mac
        if cand - fresh ≤ bitsOf w1 24 8 ∧ cand < 2 ^ 64 ∧ tag = data.drop (body.length + fv) then .pass k cand
        else .fail k

/-! ## States and error counters (R131, R370) -/

/-- A counter of the channel. -/
def Dev.canCount (d : Dev) (c k : Nat) : Dev := d.bump (F.CAN_CNT_COUNT c k)

/-- R131: a change of STATE raises STATE and queues a CAN_STATE event. -/
def Dev.canSetState (d : Dev) (c st : Nat) : Dev :=
  if d.get (F.CAN_ERR_STATE c) = st then d
  else
    let d := (d.put (F.CAN_ERR_STATE c) st).raise (.can c) 5
    d.deviceEvent 0x02 c (d.word (R.CAN_ERR c)).toNat d.stampNow 0xFFFF

/-- R131: error active or error passive by the counters. -/
def Dev.canErrState (d : Dev) (c : Nat) : Nat :=
  if 127 < d.get (F.CAN_ERR_TEC c) ∨ 127 < d.get (F.CAN_ERR_REC c) then 1 else 0

/-- R246: the controllers of the channel's group drive their buses. -/
def Dev.chanDrives (d : Dev) (c : Nat) : Bool := decide (d.groupState (chanGroup c) < 2)

/-- Whether the controller takes part on the bus. -/
def Dev.canActive (d : Dev) (c : Nat) : Bool :=
  d.enabled (.can c) && decide (d.get (F.CAN_ERR_STATE c) < 2) && d.chanDrives c

/-! ## Transmission (R142, R143, R146) -/

/-- The address of a transmit slot. -/
def Dev.slotAddr (d : Dev) (c s : Nat) : Nat :=
  (d.get (F.CAN_MR_TX_BASE c) + s * d.get (F.CAN_MR_TX_SLOT_BLOCKS c)) * 64

/-- R142: the slots that are free. -/
def Dev.slotFree (d : Dev) (c s : Nat) : Bool :=
  decide (s < d.get (F.CAN_MR_TX_SLOTS c)) && !(d.chanSt c).tx.any (fun it => it.block == s)

/-- The head of a transmit FIFO leaves it: its stage and slot are freed. -/
def Dev.txFree (d : Dev) (c : Fin 80) : Dev :=
  let d := (d.fsFree (.chan c 2) 1).modChan c (fun s => { s with head := none })
  if (d.chanSt c).tx = [] then d.raise (chanPage c) 3 else d

/-- R134: a format is enabled in CAN_MODE. -/
def Dev.fmtEnabled (d : Dev) (c fmt : Nat) : Bool :=
  fmt == 0 || (fmt == 1 && d.flag (F.CAN_MODE_FD_EN c)) || (fmt == 2 && d.flag (F.CAN_MODE_XL_EN c))

/-- R146: the freshness and MAC are computed and written into the element of slot s: the device
and the CMAC blocks, or the counter that counts the discarded frame. -/
def Dev.authTransmit (d : Dev) (c s : Nat) : Except Nat (Dev × Nat) :=
  let e := d.slotAddr c s
  let ctrl := d.ramNat c (e + 4) 4
  let len := bitsOf ctrl 0 12
  let k := bitsOf (d.ramNat c (e + 12) 4) 8 6
  let a := d.authAddr c k
  let w0 := d.ramNat c a 4
  let w1 := d.ramNat c (a + 4) 4
  let fv := bitsOf w1 20 4
  let mac := bitsOf w1 16 4
  if d.get (F.CAN_MR_AUTH_COUNT c) ≤ k ∨ !bitOf w0 31 ∨ !bitOf w0 30 then .error 6
  else match d.canKey (bitsOf w1 0 12) with
    | none => .error 6
    | some key =>
      if len ≤ fv + mac then .error 9
      else
        let fresh := (d.ramNat c (a + 8) 8 + 1) % 2 ^ 64
        let n := len - fv - mac
        let input := cmacInput (d.ramNat c e 4) (d.ramNat c (e + 8) 4) (bitsOf ctrl 12 2 == 2)
          (d.ramBytes c (e + 24) n) fresh
        let d := d.ramWrite c (a + 8) (leBytes 8 fresh)
        .ok (d.ramWrite c (e + 24 + n) (beBytes fv fresh ++ (cmac key input).take mac), (input.length + 15) / 16)

/-- R134, R142, R146: the element at the head is taken by the controller, or discarded. Discarded
elements let the next landed one take the head. -/
def Dev.txTake (d : Dev) (c : Fin 80) : Nat → Dev
  | 0 => d
  | fuel + 1 =>
    match (d.chanSt c).tx, (d.chanSt c).head with
    | it :: _, none =>
      if d.get (fsFill (.chan c 2)) = 0 || !d.enabled (chanPage c) || !d.flag (F.FS_CFG_EN c 2) || !d.chanAwake c then d
      else
        let e := d.slotAddr c it.block
        let ctrl := d.ramNat c (e + 4) 4
        let len := bitsOf ctrl 0 12
        let fmt := bitsOf ctrl 12 2
        let fits := decide (24 + len ≤ d.get (F.CAN_MR_TX_SLOT_BLOCKS c) * 64)
        let timed := bitOf ctrl 26
        let err := d.errIn 6 c (fun a => decide (e / 4 ≤ a) && decide (a < e / 4 + 16 * d.get (F.CAN_MR_TX_SLOT_BLOCKS c)))
        let d := err.elim d d.reportErr
        if it.bad || err.isSome || !canLen fmt len || !d.fmtEnabled c fmt || !fits then ((d.txFree c).canCount c 9).txTake c fuel
        else if bitOf ctrl 25 then
          match d.authTransmit c it.block with
          | .error k => ((d.txFree c).canCount c k).txTake c fuel
          | .ok (d', blocks) =>
            let h : TxHead := {
              landed := it.landed, timed, released := false
              macAt := some (d.baseNs + 200 + 30 * blocks), flushed := false }
            d'.modChan c (fun s => { s with head := some h })
        else
          let h : TxHead := { landed := it.landed, timed, released := false, macAt := none, flushed := false }
          d.modChan c (fun s => { s with head := some h })
    | _, _ => d

/-- Enough fuel for every item of a FIFO. -/
def Dev.txNext (d : Dev) (c : Fin 80) : Dev := d.txTake c 33

/-- R142, R143, R146: the frame at the head may be on the bus. -/
def Dev.txEligible (d : Dev) (c : Nat) : Bool :=
  match (d.chanSt c).head with
  | none => false
  | some h => d.canActive c && d.get (F.CAN_MODE_TEST c) != 1 && (!h.timed || h.released) && h.macAt.isNone

/-- R143: a Canopy CAN release: whether it starts the frame. -/
def Dev.canRelease (d : Dev) (c tag : Nat) : Dev × Bool :=
  match (d.chanSt c).tx, (d.chanSt c).head with
  | it :: _, some h =>
    let t := d.ramNat c (d.slotAddr c it.block + 14) 2
    if h.timed && t == tag && d.enabled (.can c) && d.get (F.CAN_ERR_STATE c) != 2 then
      (d.modChan c (fun s => { s with head := some { h with released := true } }), true)
    else (d, false)
  | _, _ => (d, false)

/-- R146: the MAC of the head is ready; a timed frame released before it starts late. -/
def Dev.canMacReady (d : Dev) (c : Nat) : Dev :=
  match (d.chanSt c).head with
  | some h =>
    match h.macAt with
    | some t =>
      if t ≤ d.baseNs then
        let d := d.modChan c (fun s => { s with head := some { h with macAt := none } })
        if h.timed && h.released then d.canCount c 8 else d
      else d
    | none => d
  | none => d

/-- R130: a frame with a data phase is sent under transmitter delay compensation: the measured delay
is free. -/
def Dev.canTdc (d : Dev) (n ctrl : Nat) : Dev :=
  if d.flag (F.CAN_TDC_TDC_EN n) ∧ (bitsOf ctrl 12 2 = 2 ∨ (bitsOf ctrl 12 2 = 1 ∧ bitOf ctrl 14)) then
    let x := d.free 128
    x.2.put (F.CAN_TDC_TDCV n) x.1
  else d

/-- R139: whether receive FIFO f stores an element of a number of blocks. -/
def Dev.rxRoom (d : Dev) (n f blocks : Nat) : Bool :=
  let size := if f = 0 then d.get (F.CAN_MR_RX0_BLOCKS n) else d.get (F.CAN_MR_RX1_BLOCKS n)
  let used := (d.fsItems n f).foldl (fun a it => a + it.blocks) 0
  d.flag (F.FS_CFG_EN n f) && decide (used + blocks ≤ size) && decide ((d.fsItems n f).length < 32)

/-- R133, R139: an element is stored in FIFO f and its handle written at the tail. -/
def Dev.rxStore (d : Dev) (n : Fin 64) (f : Fin 3) (f' : CanFrame) (auth : Option Nat) (flt stamp ns : Nat) : Dev :=
  let data := storedData f'
  let size := if f = 0 then d.get (F.CAN_MR_RX0_BLOCKS n) else d.get (F.CAN_MR_RX1_BLOCKS n)
  let base := if f = 0 then d.get (F.CAN_MR_RX0_BASE n) else d.get (F.CAN_MR_RX1_BASE n)
  let off := (if f = 0 then (d.chanSt n).wr0 else (d.chanSt n).wr1) % max 1 size
  let need := elemBlocks data.length
  let aux := (if f'.fmt = 2 then f'.vcid.toNat else 0) + auth.getD 0 * 2 ^ 8 + flt * 2 ^ 16
  let bytes := elemBytes (frameIdWord f') (frameCtrl f' auth.isSome) (if f'.fmt = 2 then f'.af.toNat else 0) aux stamp data
  let next := (off + need) % max 1 size
  let d := d.modChan n (fun s =>
    let ram := (List.range bytes.length).foldl (fun a k =>
      tset a (elemAddr base size off k) ((bytes[k]?).getD 0)) s.ram
    if f = 0 then { s with ram, wr0 := next } else { s with ram, wr1 := next })
  let d := d.wordsWritten (fun w => w.1 == 6 && w.2.1 == n.val &&
    (List.range bytes.length).any (fun k => elemAddr base size off k / 4 == w.2.2))
  (d.fsPush (canC n) f (base + off) need ns).canCount n 0

/-- R139, R145: what becomes of a frame: the device and the FATE of R227. -/
def Dev.rxDecide (d : Dev) (n : Fin 64) (f : CanFrame) (stamp ns : Nat) : Dev × Nat × Bool :=
  let (action, flt) := d.canFilter n f
  if action = 3 then (d.canCount n 4, 1, false)
  else
    let q : Fin 3 := if action = 1 then 0 else 1
    let data := storedData f
    if !d.rxRoom n q (elemBlocks data.length) then (d.fsOverrunAt (canC n) q, 3, false)
    else match d.authVerify n f data with
      | .plain => (d.rxStore n q f none flt stamp ns, 0, false)
      | .pass k fresh =>
        let d := d.ramWrite n (d.authAddr n k + 8) (leBytes 8 fresh)
        (d.rxStore n q f (some k) flt stamp ns, 0, true)
      | .fail k =>
        let a := d.authAddr n k + 16
        let d := d.ramWrite n a (leBytes 4 (satAdd 32 (d.ramNat n a 4) 1))
        ((d.canCount n 5).raise (.can n) 6, 2, false)
      | .noKey => (d.canCount n 6, 2, false)

/-- R132: the stamp of a received frame whose start of frame lay `ago` CAN clocks back. -/
def Dev.canRxStamp (d : Dev) (n ago : Nat) : Nat := d.stampAt (24 + n) (d.canInstant ago) res12ns5

/-- R226, R227: the record that a tap takes of a received frame with this FATE. -/
def Dev.canRxRecord (d : Dev) (n : Nat) (f : CanFrame) (ago fate : Nat) (auth : Bool) : CapRec := {
  source := capSource (32 + n) false (d.stampBase (24 + n) (d.canInstant ago)), stamp := d.canRxStamp n ago
  orig := (storedData f).length, flags := boolNat auth * 2 ^ 6 + fate * 2 ^ 8, aux := frameCtrl f auth
  aux2 := frameIdWord f, data := capturedData f }

/-- R135 to R139: a frame received whole: captured before filtering, then stored or not. -/
def Dev.canStore (d : Dev) (n : Fin 64) (f : CanFrame) (ago : Nat) : Dev :=
  let h := d.tapHead (32 + n) false 2048
  let r := h.1.rxDecide n f (d.canRxStamp n ago) (d.canInstant ago / 64).toNat
  r.1.tapTail h.2 (d.canRxRecord n f ago r.2.1 r.2.2)

/-- R129: internal or external loopback. -/
def Dev.canLoops (d : Dev) (n : Nat) : Bool := decide (2 ≤ d.get (F.CAN_MODE_TEST n))

/-- R129: the controller receives from the bus: it takes part there and is in no loopback. -/
def Dev.canHears (d : Dev) (n : Nat) : Bool := d.canActive n && !d.canLoops n

/-- R134: the frame that the element at byte address e names. -/
def Dev.slotFrame (d : Dev) (n e : Nat) : CanFrame :=
  let w := d.ramNat n e 4
  let ctrl := d.ramNat n (e + 4) 4
  { id := BitVec.ofNat 29 w, ide := bitOf w 29, rtr := bitOf w 30, fmt := Fin.ofNat 3 (bitsOf ctrl 12 2)
    brs := bitOf ctrl 14, esi := bitOf ctrl 15, sdt := BitVec.ofNat 8 (bitsOf ctrl 16 8), sec := bitOf ctrl 24
    vcid := BitVec.ofNat 8 (d.ramNat n (e + 12) 1), af := BitVec.ofNat 32 (d.ramNat n (e + 8) 4)
    data := d.ramBytes n (e + 24) (bitsOf ctrl 0 12) }

/-- R142: the frame of the item at the head was sent: its record, its transmit event, its slot and the counters. -/
def Dev.canLeft (d : Dev) (n : Fin 64) (it : FsItem) (ago : Nat) : Dev :=
  let c := canC n
  let e := d.slotAddr c it.block
  let ctrl := d.ramNat c (e + 4) 4
  let f := d.slotFrame n e
  let tag := d.ramNat c (e + 14) 2
  let t : Int := (d.canEdge64 : Int) - ago * 800
  let stamp := d.stampAt (24 + n) t res12ns5
  let d := d.tapEvent (32 + n) true 2048 {
    source := capSource (32 + n) true (d.stampBase (24 + n) t), stamp, orig := f.data.length, aux := ctrl
    aux2 := d.ramNat c e 4, data := if remoteFrame f then [] else f.data }
  let d := ((d.put (F.CAN_TXC_INFO_VALID n) 1).put (F.CAN_TXC_INFO_SLOT n) it.block).put (F.CAN_TXC_INFO_TAG n) tag
  let d := (d.put (F.CAN_TXC_NS_NS n) (stamp / 8)).put (F.CAN_TXC_FRAC_FRAC n) stamp
  let d := ((d.txFree c).canCount n 1).canTdc n ctrl
  let d := d.put (F.CAN_ERR_TEC n) (d.get (F.CAN_ERR_TEC n) - 1)
  (d.canSetState n (d.canErrState n)).txNext c

/-- R129, R142: the frame at the head was sent; in loopback the controller receives it. -/
def Dev.canSent (d : Dev) (n : Fin 64) (ago : Nat) : Dev :=
  match (d.chanSt (canC n)).tx with
  | [] => d
  | it :: _ =>
    let e := d.canLeft n it ago
    if d.canLoops n then e.canStore n (d.slotFrame n (d.slotAddr (canC n) it.block)) ago else e

/-- R142: an attempt ended without success. -/
def Dev.canNotSent (d : Dev) (n : Fin 64) : Dev :=
  let c := canC n
  match (d.chanSt c).head with
  | none => d
  | some h =>
    if h.flushed then ((d.txFree c).canCount n 10).txNext c
    else if d.flag (F.CAN_MODE_DAR n) then (d.txFree c).txNext c
    else d

/-- CAN_TX_DONE: an attempt of the frame at the head ends; its start of frame lay `ago` CAN clocks
before the present clock edge. -/
def Dev.canTxDone (d : Dev) (n : Fin 64) (how : CanEnd) (ago : Nat) : Dev :=
  if d.txEligible n then
    match how with
    | .sent => d.canSent n ago
    | .lost => d.canNotSent n
    | .error => d.canNotSent n
  else d

/-- R143: a timed frame still at the head WAIT_US after it landed; a sleeping group holds it (R246). -/
def Dev.canTimedExpire (d : Dev) (n : Fin 64) : Dev :=
  let c := canC n
  match (d.chanSt c).head with
  | none => d
  | some h =>
    let w := d.get (F.CAN_TIMED_WAIT_US n)
    if h.timed && w != 0 && d.chanDrives n && decide (h.landed + w * 1000 ≤ d.baseNs) then
      (((d.txFree c).canCount n 7).raise (.can n) 7).txNext c
    else d

/-- R142: FLUSH. `started` says whether the frame at the head is in transmission. -/
def Dev.canFlush (d : Dev) (c : Fin 80) (started : Bool) : Dev :=
  let items := (d.chanSt c).tx
  let keep := started && d.txEligible c
  let gone := if keep then items.length - 1 else items.length
  let d := (d.put (fsRpos (.chan c 2)) 0).modChan c (fun s => { s with
    tx := if keep then s.tx.take 1 else []
    head := if keep then s.head.map (fun h => { h with flushed := true }) else none })
  let d := d.fsSetFill (.chan c 2) (if keep then 1 else 0)
  let d := d.bumpBy (F.CAN_CNT_COUNT c 10) gone
  if !keep && items != [] then d.raise (chanPage c) 3 else d

/-! ## Errors (R131, R370) -/

/-- R142: a flushed frame, whose attempt has ended, leaves the head. -/
def Dev.dropFlushed (d : Dev) (n : Fin 64) : Dev :=
  match (d.chanSt n).head with
  | some h => if h.flushed then d.canNotSent n else d
  | none => d

/-- R131: entry to bus-off. -/
def Dev.canBusOff (d : Dev) (n : Fin 64) : Dev :=
  let d := ((d.canCount n 3).canSetState n 2).dropFlushed n
  let d := if d.flag (F.CAN_MODE_AUTO_RECOVER n) then d.modChan n (fun s => { s with recovering := true }) else d
  if d.flag (F.CAN_MODE_DAR n) && (d.chanSt n).head.isSome then
    ((d.txFree (canC n)).canCount n 9).txNext (canC n)
  else d

/-- An error of this kind met a transmitter. -/
def errSending : CanErrKind → Bool
  | .tx8 => true
  | .txNone => true
  | .rx1 => false
  | .rx8 => false

/-- R129, R370: the controller abandons the frame and integrates anew. A frame that it was transmitting has
ended its attempt. -/
def Dev.canAbandon (d : Dev) (n : Fin 64) (sending : Bool) : Dev :=
  let d := if sending && d.txEligible n then d.canNotSent n else d
  (d.canSetState n 3).dropFlushed n

/-- R131, R370: a bus error is detected; `xlData` says it lies in an XL data phase. -/
def Dev.canBusError (d : Dev) (n : Fin 64) (code : Nat) (kind : CanErrKind) (xlData : Bool) : Dev :=
  if !d.canActive n then d
  else
    let d := (d.put (F.CAN_ERR_LEC n) code).canCount n 2
    let off := d.flag (F.CAN_MODE_RESTRICTED n) || (xlData && d.flag (F.CAN_MODE_TMS_EN n))
    if d.get (F.CAN_MODE_TEST n) = 1 then d
    else if off then d.canAbandon n (errSending kind)
    else
      let d := match kind with
        | .tx8 => d.put (F.CAN_ERR_TEC n) (min 511 (d.get (F.CAN_ERR_TEC n) + 8))
        | .txNone => d
        | .rx1 => d.bumpBy (F.CAN_ERR_REC n) 1
        | .rx8 => d.bumpBy (F.CAN_ERR_REC n) 8
      if 255 < d.get (F.CAN_ERR_TEC n) then d.canBusOff n else d.canSetState n (d.canErrState n)

/-- R131: 128 occurrences of 11 recessive bits complete the recovery. -/
def Dev.canRecovered (d : Dev) (n : Fin 64) : Dev :=
  if d.get (F.CAN_ERR_STATE n) = 2 ∧ (d.chanSt n).recovering then
    let d := (d.put (F.CAN_ERR_TEC n) 0).put (F.CAN_ERR_REC n) 0
    let d := (d.put (F.CAN_CMD_RECOVER n) 0).modChan n (fun s => { s with recovering := false })
    d.canSetState n 0
  else d

/-- R370: the controller has integrated. -/
def Dev.canIntegrated (d : Dev) (n : Fin 64) : Dev :=
  if d.enabled (.can n) && d.get (F.CAN_ERR_STATE n) == 3 then d.canSetState n (d.canErrState n) else d

/-! ## Reception (R135, R136, R139, R145) -/

/-- ISO 11898-1: REC after a frame received correctly: one less, or from above 127 a value from
119 to 127. -/
def Dev.recReceived (d : Dev) (n : Nat) : Dev :=
  let r := d.get (F.CAN_ERR_REC n)
  let d :=
    if 127 < r then
      let (x, d) := d.free 9
      d.put (F.CAN_ERR_REC n) (119 + x)
    else d.put (F.CAN_ERR_REC n) (r - 1)
  d.canSetState n (d.canErrState n)

/-- R129: a frame of a format that is not enabled: protocol exception handling, or a form error. -/
def Dev.canForeign (d : Dev) (n : Fin 64) : Dev :=
  if d.flag (F.CAN_MODE_PXE n) then d.canAbandon n false else d.canBusError n 2 .rx1 false

/-- CAN_FRAME_RX: a frame received correctly ends; its start of frame lay `ago` CAN clocks before
the present clock edge. In loopback the controller hears no bus. -/
def Dev.canFrameRx (d : Dev) (n : Fin 64) (f : CanFrame) (ago : Nat) : Dev :=
  if !d.canHears n then d
  else if !d.fmtEnabled n f.fmt then d.canForeign n
  else (d.recReceived n).canStore n f ago

/-! ## Window and FIFO commands (R133, R138) -/

/-- R133: a window write to a byte address of message RAM is refused. -/
def Dev.windowClosed (d : Dev) (n a : Nat) : Bool :=
  let b := a / 64
  let sb := d.get (F.CAN_MR_TX_SLOT_BLOCKS n)
  let g := fun k => ((d.canRegions n)[k]?).getD (0, 0)
  (inRegion (g 2) b && d.flag (F.FS_CFG_EN n 0)) || (inRegion (g 3) b && d.flag (F.FS_CFG_EN n 1)) ||
    (inRegion (g 4) b && !d.slotFree n ((b - (g 4).1) / sb)) ||
    (inRegion (g 1) b && a % 32 != 0 && bitOf (d.ramNat n (a / 32 * 32) 4) 31)

/-- R133: a write into the message RAM window. -/
def Dev.canWindowWrite (d : Dev) (n off : Nat) (v : Word) : Wr :=
  let a := d.get (F.CAN_MR_BANK_BANK n) * 2048 + (off - 0x800)
  refuseIf (d.windowClosed n a) 0x0112 (.ok (d.ramWrite n a (leBytes 4 v.toNat)))

/-- R138, R139, R142: PUSH of a slot by the owner; into a full FIFO, whose items hold every slot, it is ignored
as an overrun. -/
def Dev.fsPushSlot (d : Dev) (c : Fin 80) (slot : Nat) (free : Bool) (blocks : Nat) : Wr :=
  let full := decide (32 ≤ (d.chanSt c).tx.length)
  refuseIf (!d.flag (F.FS_CFG_EN c 2) || (!full && !free)) 0x0114 <|
  .ok (if full then d.fsOverrunAt c 2 else d.fsPush c 2 slot blocks d.baseNs)

/-- R148: LIN transmit slots are 32 elements. -/
def Dev.anySlotFree (d : Dev) (c : Fin 80) (s : Nat) : Bool :=
  if c.val < 64 then d.slotFree c s else decide (s < 32) && !(d.chanSt c).tx.any (fun it => it.block == s)

/-- The blocks that FS_ITEM shows for a transmit slot. -/
def Dev.slotBlocks (d : Dev) (c : Fin 80) (s : Nat) : Nat :=
  if c.val < 64 then min 33 (elemBlocks (bitsOf (d.ramNat c (d.slotAddr c s + 4) 4) 0 12)) else 1

/-- R142, R148: FLUSH of a LIN transmit FIFO: the item whose frame is in progress stays until it
ends. -/
def Dev.linFlush (d : Dev) (c : Fin 80) : Dev :=
  let keep := match (d.chanSt c).lin with
    | some f => f.item
    | none => false
  let items := (d.chanSt c).tx
  let d := d.modChan c (fun s => { s with tx := if keep then s.tx.take 1 else [] })
  let d := d.fsSetFill (.chan c 2) (if keep then 1 else 0)
  if !keep && items != [] then d.raise (chanPage c) 3 else d

/-- R138, R140: a write of FS_CMD. `started` as for FLUSH. -/
def Dev.fsCmd (d : Dev) (c : Fin 80) (f : Fin 3) (who : Init) (op n : Nat) (started : Bool) : Wr :=
  let q : FifoId := .chan c f
  let own := fsOwnerIs (d.get (F.FS_CFG_OWNER c f)) who
  if f < 2 then
    refuseIf (!own) 0x0113 <|
    if op = 5 then
      refuseIf (!d.flag (F.FS_CFG_NOTICE c f)) 0x0114 <|
      .ok (d.put (F.FS_NOTICE_PENDING c f) (d.get (F.FS_NOTICE_PENDING c f) - 1))
    else d.fsOp q op n 0x0114
  else if op = 8 then
    refuseIf (!own) 0x0008 (d.fsPushSlot c (n % 32) (d.anySlotFree c (n % 32)) (d.slotBlocks c (n % 32)))
  else if op = 9 then refuseIf (!own) 0x0113 (.ok (if c.val < 64 then d.canFlush c started else d.linFlush c))
  else .no 0x0114

/-- R140, R141: a write of FS_CFG. -/
def Dev.fsCfgWrite (d : Dev) (c : Fin 80) (f : Fin 3) (v : Word) : Wr :=
  let a := R.FS_CFG c f
  refuseIf (d.flag (F.FS_CFG_EN c f) && d.changes v (F.FS_CFG_OWNER c f)) 0x0113 <|
  refuseIf (f != 2 && newField v (F.FS_CFG_NOTICE c f) == 1 && newField v (F.FS_CFG_OWNER c f) == 0) 0x0112 <|
  let d := d.store a v
  .ok (if f = 2 then d.put (F.FS_CFG_NOTICE c f) 0 else d)

/-- A write to the FIFO registers at page offset `off` of a channel. -/
def Dev.fsRegWrite (d : Dev) (c : Fin 80) (who : Init) (off : Nat) (v : Word) : Wr :=
  let f : Fin 3 := Fin.ofNat 3 ((off - 0x80) / 0x20)
  let r := (off - 0x80) % 0x20
  let addr := pageBase (chanPage c) + off
  if r = 0 then d.fsCfgWrite c f v
  else if r = 0x0C then
    let op := wordBits v 28 4
    if f = 2 ∧ op = 9 then
      let (x, d) := d.free 2
      d.fsCmd c f who op 0 (x == 1)
    else d.fsCmd c f who op (wordBits v 0 6) false
  else .ok (d.store addr v)

/-! ## Registers of a CAN page -/

/-- R130, R133: the configuration registers that a running controller does not change. -/
def canConfigOff (off : Nat) : Bool := (decide (0x40 ≤ off) && decide (off < 0x58)) ||
  (decide (0x60 ≤ off) && decide (off < 0x74))

/-- A write to a CAN page at an offset of 0x040 or above. -/
def Dev.canWrite (d : Dev) (n : Fin 64) (who : Init) (off : Nat) (v : Word) : Wr :=
  let addr := pageBase (.can n) + off
  if 0x800 ≤ off then d.canWindowWrite n off v
  else if 0x80 ≤ off ∧ off < 0xE0 then d.fsRegWrite (canC n) who off v
  else if canConfigOff off then
    refuseIf (d.enabled (.can n) && (d.store addr v).word addr != d.word addr) 0x0112 (.ok (d.store addr v))
  else if off = 0x5C then
    .ok (if newField v (F.CAN_CMD_RECOVER n) = 1 ∧ d.get (F.CAN_ERR_STATE n) = 2 ∧ !d.flag (F.CAN_MODE_AUTO_RECOVER n) then
        (d.put (F.CAN_CMD_RECOVER n) 1).modChan n (fun s => { s with recovering := true })
      else d)
  else .ok (d.store addr v)

/-- R130, R133, R147, R275: the code with which ENABLE of a CAN page is refused. -/
def Dev.canEnableCode (d : Dev) (n : Fin 64) : Option Nat :=
  if d.mode = 3 ∨ d.mode = 11 then some 0x0004
  else if d.timingBad n || d.regionsBad n then some 0x0112
  else none

/-- The controller is put into service: it integrates. -/
def Dev.canEnabled (d : Dev) (n : Fin 64) : Dev :=
  (if d.get (F.CAN_ERR_STATE n) = 2 then d else d.canSetState n 3).txNext (canC n)

/-- An input whose FIFO of channel c has been emptied has nothing left to release. -/
def forgetFifo (c : Nat) (it : SrcItem) : SrcItem :=
  match it.fifo with
  | some (c', _) => if c' = c then { it with fifo := none } else it
  | none => it

/-- R147: a block soft reset of a CAN or LIN channel beyond its registers; a warm reset also
clears its memory. -/
def Dev.chanReset (d : Dev) (c : Nat) (mem : Bool) : Dev :=
  let d := { d with gv := { d.gv with
    srcs := tmap d.gv.srcs (fun (l : List SrcItem) => l.map (forgetFifo c)) } }
  d.modChan c (fun s => { ram := if mem then [] else s.ram })

/-! ## Rows that write registers -/

/-- The word of FS_CMD. -/
def fsCmdWord (op n : Nat) : Word := BitVec.ofNat 32 (op * 2 ^ 28 + n)

/-- R148: a FIFO whose offsets are reserved: FIFO 1 of a LIN channel. -/
def fifoReserved (c : Fin 80) (f : Fin 3) : Bool := decide (64 ≤ c.val) && f == 1

/-- A row that is an FS_CMD of a channel; a write to a reserved offset has no effect (R20). -/
def Dev.fsRow (d : Dev) (i : Init) (c : Fin 80) (f : Fin 3) (op n : Nat) (started : Bool) : Dev :=
  let a := R.FS_CMD c f
  d.busWrite i a (fsCmdWord op n) true (fun d =>
    if fifoReserved c f then .ok d else d.fsCmd c f i op n started)

end Sys2Proof.Machine
end

