-- ==== Sys2Proof/Machine/Lin.lean ====
section
/-! DEFINITION. LIN channels: transmit items, headers, responses, errors, and the registers of the
LIN pages (R148 to R152). -/

namespace Sys2Proof.Machine
open Sys2Proof

/-- The index of a LIN channel among the channels. -/
def linC (n : Fin 16) : Fin 80 := ⟨64 + n.val, by omega⟩

/-- A LIN channel's frame in progress. -/
def Dev.linFrame (d : Dev) (n : Fin 16) : Option LinFrame := (d.chanSt (linC n)).lin
def Dev.setLinFrame (d : Dev) (n : Fin 16) (f : Option LinFrame) : Dev :=
  d.modChan (linC n) (fun s => { s with lin := f })

/-- ISO 17987: the protected identifier of an identifier. -/
def linPid (id : Nat) : Nat :=
  let b := fun i => bitsOf id i 1
  let p0 := (b 0 + b 1 + b 2 + b 4) % 2
  let p1 := 1 - (b 1 + b 3 + b 4 + b 5) % 2
  id % 64 + p0 * 64 + p1 * 128

/-- ISO 17987: the sum with carry of the bytes, inverted. -/
def linSum (start : Nat) (data : List Byte) : Nat :=
  255 - data.foldl (fun a b => if 255 < a + b.toNat then a + b.toNat - 255 else a + b.toNat) start

/-- R150: whether an identifier uses the enhanced checksum. -/
def Dev.linEnhanced (d : Dev) (n : Fin 16) (id : Nat) : Bool :=
  if id < 32 then wordBit (d.word (R.LIN_ENH_LO n)) id
  else id != 0x3C && id != 0x3D && wordBit (d.word (R.LIN_ENH_HI n)) (id - 32)

/-- R148: publish entry of an identifier: its data if EN. -/
def Dev.linPublished (d : Dev) (n : Fin 16) (id : Nat) : Option (List Byte) :=
  let a := 0xC00 + 16 * id
  let w := d.ramNat (linC n) a 4
  if bitOf w 31 then some (d.ramBytes (linC n) (a + 4) (min 8 (bitsOf w 8 4))) else none

/-- R148, R369: the stamp of a break `ago` CAN clocks before the present clock edge: at LINTX for a header the
device sends, else at LINRX less the fixed input delay; its time base; and Base time in ns. -/
def Dev.linStamp (d : Dev) (n : Fin 16) (sent : Bool) (ago : Nat) : Nat × Nat × Nat :=
  let t : Int := if sent then (d.canEdge64 : Int) - ago * 800 else d.canInstant ago
  (d.stampAt (88 + n) t res12ns5, d.stampBase (88 + n) t, (t / 64).toNat)

/-- A counter of the channel. -/
def Dev.linCount (d : Dev) (n : Fin 16) (k : Nat) : Dev := d.bump (F.LIN_CNT_COUNT n k)

/-- R225: a LIN event is captured. -/
def Dev.linTap (d : Dev) (n : Fin 16) (dir : Bool) (ctrl stamp tb : Nat) (data : List Byte) : Dev :=
  d.tapEvent (96 + n) dir 8 {
    source := capSource (96 + n) dir tb, stamp, orig := data.length, aux := ctrl, data }

/-- R142, R149: the transmit item whose frame has ended is freed. -/
def Dev.linItemFree (d : Dev) (n : Fin 16) : Dev :=
  let c := linC n
  let d := d.fsFree (.chan c 2) 1
  if (d.chanSt c).tx = [] then d.raise (.lin n) 3 else d

/-- The frame in progress ends. -/
def Dev.linEnd (d : Dev) (n : Fin 16) (f : LinFrame) : Dev :=
  let d := d.setLinFrame n none
  if f.item then d.linItemFree n else d

/-- R151: a LIN error. -/
def Dev.linError (d : Dev) (n : Fin 16) (code pid bytes : Nat) : Dev :=
  let d := (d.put (F.LIN_ERR_CODE n) code).put (F.LIN_ERR_PID n) pid
  let d := (d.linCount n 2).raise (.lin n) 5
  let d := if code = 3 then d.linCount n 3 else d
  d.deviceEvent 0x03 (64 + n) (code + pid * 2 ^ 8 + bytes * 2 ^ 16) d.stampNow 0xFFFF

/-- R149: the device sends a header, and its own response if it has one. -/
def Dev.linStart (d : Dev) (n : Fin 16) (id : Nat) (own : Option (List Byte)) (kind : Nat) : Dev :=
  let (stamp, tb, ns) := d.linStamp n true 0
  let data := own.getD []
  let d := d.setLinFrame n (some { id, own := own.isSome, data, item := true, stamp, tb, ns })
  (d.linTap n true (id + data.length * 2 ^ 8 + kind * 2 ^ 12) stamp tb data).emit (.linFrame n id own)

/-- R149: SLAVE_UPDATE. -/
def Dev.linUpdate (d : Dev) (n : Fin 16) (id len : Nat) (data : List Byte) : Dev :=
  let a := 0xC00 + 16 * id
  let w := putBits (d.ramNat (linC n) a 4) 8 4 len
  (d.ramWrite (linC n) a (leBytes 4 w)).ramWrite (linC n) (a + 4) data

/-- R149: the item at the head is started once the previous frame has ended. A slave takes
SLAVE_UPDATE items; the other kinds are a master's, and a slave discards them. -/
def Dev.linItem (d : Dev) (n : Fin 16) : Dev :=
  let c := linC n
  match (d.chanSt c).tx, d.linFrame n with
  | it :: _, none =>
    if d.get (fsFill (.chan c 2)) = 0 || !d.enabled (.lin n) || !d.flag (F.FS_CFG_EN c 2) || !d.chanAwake c then d
    else
      let e := 0x800 + 32 * it.block
      let ctrl := d.ramNat c e 4
      let id := bitsOf ctrl 0 6
      let len := min 8 (bitsOf ctrl 8 4)
      let kind := bitsOf ctrl 12 2
      let data := d.ramBytes c (e + 16) len
      let master := d.flag (F.LIN_MODE_MASTER n)
      if kind = 2 then (d.linUpdate n id len data).linItemFree n
      else if !master then d.linItemFree n
      else if kind = 3 ∧ bitsOf ctrl 14 2 = 1 then (d.emit (.linWake n)).linItemFree n
      else if kind = 0 then d.linStart n id (some data) 0
      else if kind = 1 then d.linStart n id (d.linPublished n id) 1
      else d.linStart n 0x3C (some (0x00 :: List.replicate 7 0xFF)) 3
  | _, _ => d

/-- R150: a header is received; its break lay `ago` CAN clocks before the present edge. -/
def Dev.linHeader (d : Dev) (n : Fin 16) (pid : Nat) (syncOk : Bool) (ago : Nat) : Dev :=
  if !d.enabled (.lin n) || d.flag (F.LIN_MODE_MASTER n) then d
  else if !syncOk then d.linError n 6 pid 0
  else if pid ≠ linPid (pid % 64) then d.linError n 5 pid 0
  else
    let id := pid % 64
    let (stamp, tb, ns) := d.linStamp n false ago
    let own := d.linPublished n id
    let d := d.setLinFrame n (some { id, own := own.isSome, data := own.getD [], item := false, stamp, tb, ns })
    match own with
    | some data =>
      (d.linTap n true (id + data.length * 2 ^ 8) stamp tb data).emit (.linFrame n id own)
    | none => d

/-- R139, R150: a received response is stored in receive FIFO 0. -/
def Dev.linStore (d : Dev) (n : Fin 16) (f : LinFrame) (ctrl : Nat) (data : List Byte) : Dev :=
  let c := linC n
  if !d.flag (F.FS_CFG_EN c 0) || decide (32 ≤ (d.chanSt c).rx0.length) then d.fsOverrunAt c 0
  else
    let slot := (d.chanSt c).wr0 % 32
    let bytes := leBytes 4 ctrl ++ leBytes 8 f.stamp ++ leBytes 4 0 ++ slice data 0 8
    let d := (d.ramWrite c (0x400 + 32 * slot) bytes).modChan c (fun s => { s with wr0 := (slot + 1) % 32 })
    (d.fsPush c 0 slot 1 f.ns).linCount n 0

/-- R150: the response of a frame that another node publishes is received correctly. -/
def Dev.linGood (d : Dev) (n : Fin 16) (f : LinFrame) (r : LinResponse) : Bool :=
  !r.framing && decide (linSum (if d.linEnhanced n f.id then linPid f.id else 0) r.data = r.sum.toNat) && r.data != [] &&
    decide (r.data.length ≤ 8)

/-- R149 to R151, R225: the response of the frame in progress ends, right or wrong, and is captured. -/
def Dev.linResponse (d : Dev) (n : Fin 16) (r : LinResponse) : Dev :=
  match d.linFrame n with
  | none => d
  | some f =>
    let pid := linPid f.id
    let enh := d.linEnhanced n f.id
    let seen := r.data.take 8
    let ctrl := f.id + seen.length * 2 ^ 8 + boolNat enh * 2 ^ 16
    let d := (d.linEnd n f).linTap n false ctrl f.stamp f.tb seen
    if f.own then
      if r.bitErr || r.data != f.data then d.linError n 1 pid r.data.length
      else d.linCount n 1
    else if r.framing then d.linError n 7 pid r.data.length
    else if d.linGood n f r then d.linStore n f ctrl r.data
    else d.linError n 2 pid r.data.length

/-- R149, R151: the response is not complete in time; `bytes` of it came. A slave that listens raises
nothing where no byte came. -/
def Dev.linTimeout (d : Dev) (n : Fin 16) (bytes : Nat) : Dev :=
  match d.linFrame n with
  | none => d
  | some f =>
    let d := d.linEnd n f
    if d.flag (F.LIN_MODE_MASTER n) || f.own || bytes != 0 then
      d.linError n (if bytes = 0 then 3 else 4) (linPid f.id) bytes
    else d

/-- R150: a wake-up pulse on an idle bus. -/
def Dev.linWakeUp (d : Dev) (n : Fin 16) : Dev :=
  if d.enabled (.lin n) && (d.linFrame n).isNone then d.raise (.lin n) 6 else d

/-! ## Registers -/

/-- A write to a LIN page at an offset of 0x040 or above. -/
def Dev.linWrite (d : Dev) (n : Fin 16) (who : Init) (off : Nat) (v : Word) : Wr :=
  let addr := pageBase (.lin n) + off
  if 0x400 ≤ off then .ok (d.ramWrite (linC n) off (leBytes 4 v.toNat))
  else if (0x80 ≤ off ∧ off < 0xA0) ∨ (0xC0 ≤ off ∧ off < 0xE0) then d.fsRegWrite (linC n) who off v
  else if 0xA0 ≤ off ∧ off < 0xC0 then .ok d
  else if off = 0x40 then
    refuseIf (d.enabled (.lin n) && (d.store addr v).word addr != d.word addr) 0x0112 (.ok (d.store addr v))
  else .ok (d.store addr v)

/-- R147, R148, R275: the code with which ENABLE of a LIN page is refused. -/
def Dev.linEnableCode (d : Dev) (n : Fin 16) : Option Nat :=
  let baud := d.get (F.LIN_MODE_BAUD n)
  if d.mode = 3 ∨ d.mode = 11 then some 0x0004
  else if baud < 1000 ∨ 20000 < baud then some 0x0112
  else none

/-! ## Landing (R137) -/

/-- R137: the oldest falling item of a FIFO lands. -/
def Dev.fsLand (d : Dev) (q : FifoId) : Dev :=
  let fill := d.get (fsFill q)
  if fill < d.fsCount q then
    let d := d.fsSetFill q (fill + 1)
    match q with
    | .chan c f =>
      if f = 2 then
        let now := d.baseNs
        let d := d.modChan c (fun s => { s with tx := s.tx.modify fill (fun it => { it with landed := now }) })
        if c.val < 64 then d.txNext c else d
      else d.fsLanded c f
    | .learn s =>
      if d.get (F.LQ_CFG_WATERMARK s) = fill + 1 then d.raise (.lk s 2) 1 else d
  else d

end Sys2Proof.Machine
end

