-- ==== Sys2Proof/Machine/Chamber.lean ====
section
/-! DEFINITION. The Chamber, its writer and its windows, and the calibration and option pages in
MRAM (R332 to R342). -/

namespace Sys2Proof.Machine
open Sys2Proof

/-! ## Records (R333 to R336) -/

/-- PC_AON_MS. -/
def Dev.aonMs (d : Dev) : Nat := d.plat.aon / 1000000

def Dev.setQueueCh (d : Dev) (q : List ChRec) : Dev :=
  { d with ch := { d.ch with queue := q } }.put F.CH_STAT_QUEUED q.length

/-- R335: two records agree in CAUSE, SOURCE and DATA bytes 0–3. -/
def sameRec (a b : ChRec) : Bool :=
  a.cause == b.cause && a.source == b.source && a.data.take 4 == b.data.take 4

/-- R335: a record raised is suppressed by the last stored record. Family 0x0D never is. -/
def Dev.chSuppressed (d : Dev) (r : ChRec) : Bool :=
  match d.ch.last with
  | none => false
  | some l => sameRec l r && r.cause / 256 != 0x0D &&
      decide (r.raised < l.raised + d.get F.CH_SUPPRESS_SUPPRESS_MS * 1000000)

/-- R335: one suppressed record more. -/
def suppress (r : ChRec) : List (ChRec × Nat) → List (ChRec × Nat)
  | [] => [(r, 1)]
  | (x, n) :: t => if sameRec x r then (x, satAdd 16 n 1) :: t else (x, n) :: suppress r t

def Dev.chSuppress (d : Dev) (r : ChRec) : Dev :=
  { d with ch := { d.ch with supp := suppress r d.ch.supp } }

/-- R333, R335: a record is raised: queued, suppressed, or dropped. -/
def Dev.chRaise (d : Dev) (cause source : Nat) (data : List Byte) : Dev :=
  let r : ChRec := {
    cause, source, data := Sys2Proof.Machine.slice data 0 40
    sec := d.baseNs / 1000000000 % 2 ^ 32, ns := d.baseNs % 1000000000
    mode := d.mode, raised := d.plat.aon }
  if d.chSuppressed r then d.chSuppress r
  else if 64 ≤ d.ch.queue.length then
    { (d.bump F.CH_DROPPED_COUNT).raise (.pc 5) 2 with ch := { d.ch with gap := true } }
  else d.setQueueCh (d.ch.queue ++ [r])

/-- R28: the block codes of records of platform control, the relay, the collector. -/
def chPC : Nat := 2
def chMC : Nat := 1
def chSD : Nat := 3

/-- R333: the 64 bytes of a record. -/
def chBytes (r : ChRec) (seq supp : Nat) (gap torn : Bool) : List Byte :=
  let b := leBytes 2 0x4843 ++ leBytes 2 r.cause ++ leBytes 4 seq ++ leBytes 4 r.sec ++
    leBytes 4 (r.ns + 2 ^ 30 * boolNat torn + 2 ^ 31 * boolNat gap) ++
    leBytes 1 r.mode ++ leBytes 1 r.source ++ leBytes 2 supp ++ r.data
  b ++ leBytes 4 (crc32c b)

def Dev.slot (d : Dev) (i : Nat) : List Byte := Sys2Proof.Machine.slice (tget d.ch.slots i) 0 64

/-- R336: a slot holds a valid record. -/
def slotValid (b : List Byte) : Bool :=
  leNat (b.take 2) == 0x4843 && leNat (Sys2Proof.Machine.slice b 60 4) == crc32c (b.take 60)

def slotSeq (b : List Byte) : Nat := leNat (Sys2Proof.Machine.slice b 4 4)

def Dev.setSlot (d : Dev) (i : Nat) (b : List Byte) : Dev :=
  { d with ch := { d.ch with slots := tset d.ch.slots i b } }

/-- R333: free bytes in a slot whose pulse was cut short or failed its read-back. -/
def Dev.spoilSlot (d : Dev) (i : Nat) : Dev :=
  let (b, d) := d.freeBytes 64
  d.setSlot i b

/-- SEQ of the next record. -/
def Dev.nextChSeq (d : Dev) : Nat := (d.get F.CH_HEAD_SEQ + 1) % 2 ^ 32

/-- R335: the records in front that are suppressed leave the queue. -/
def Dev.chSkip (d : Dev) : List ChRec → Dev
  | [] => d.setQueueCh []
  | r :: t => if d.chSuppressed r then (d.chSuppress r).chSkip t else d.setQueueCh (r :: t)

/-- R333: the record in front counts as stored; its slot holds it when the read-back passed. -/
def Dev.chStore (d : Dev) (r : ChRec) (rest : List ChRec) (ok : Bool) : Dev :=
  let seq := d.nextChSeq
  let supp := (d.ch.supp.find? (fun x => sameRec x.1 r)).elim 0 (fun x => x.2)
  let d := if ok then d.setSlot (seq % 16384) (chBytes r seq supp d.ch.gap d.ch.torn)
    else d.spoilSlot (seq % 16384)
  let d := { d with ch := { d.ch with
    last := some r, supp := d.ch.supp.filter (fun x => !sameRec x.1 r)
    gap := false, torn := false, again := false, nextAt := d.plat.aon + 6000 } }
  ((d.setQueueCh rest).put F.CH_HEAD_SEQ seq).raise (.pc 5) 1

/-- CHAMBER_WRITE: one slot is programmed and read back. -/
def Dev.chamberWrite (d : Dev) (ok : Bool) : Dev :=
  if d.flag F.CH_STAT_SCAN_DONE then
    let d := d.chSkip d.ch.queue
    match d.ch.queue with
    | [] => d
    | r :: t =>
      if ok then d.chStore r t true
      else if d.ch.again then (d.chStore r t false).report 12 0
      else
        let d := d.spoilSlot (d.nextChSeq % 16384)
        { d with ch := { d.ch with again := true } }
  else d

/-- CHAMBER_WRITE as the writer's pace lets it (R335). -/
def Dev.chamberPaced (d : Dev) (ok : Bool) : Dev := if d.ch.nextAt ≤ d.plat.aon then d.chamberWrite ok else d

/-- R336: the higher of two sequence numbers by their signed difference. -/
def later (a b : Nat) : Nat := if signedOf 32 (b + 2 ^ 32 - a) > 0 then b else a

/-- R336: the scan of every slot ends. -/
def Dev.chScan (d : Dev) : Dev :=
  let seqs := (d.ch.slots.filter (fun e => slotValid (Sys2Proof.Machine.slice e.2 0 64))).map (fun e => slotSeq e.2)
  let s := match seqs with
    | [] => 2 ^ 32 - 1
    | a :: t => t.foldl later a
  let next := d.slot ((s + 1) % 2 ^ 32 % 16384)
  let clean := next.all (fun b => b == 0) ||
    (slotValid next && slotSeq next == (s + 1 + 2 ^ 32 - 16384) % 2 ^ 32)
  let d := ((d.put F.CH_HEAD_SEQ s).put F.CH_STAT_SCAN_DONE 1).putFlag F.CH_STAT_TORN (!clean)
  { d with ch := { d.ch with torn := !clean } }

/-- CHAMBER_SCAN_DONE. -/
def Dev.chamberScanDone (d : Dev) : Dev :=
  if d.released (.pc 5) && !d.flag F.CH_STAT_SCAN_DONE then d.chScan else d

/-- R269, R271: every record raised is stored before a boot-retry reset. -/
def Dev.chFlush (d : Dev) : Dev :=
  let d := if d.flag F.CH_STAT_SCAN_DONE then d else d.chScan
  d.ch.queue.foldl (fun (a : Dev) _ => a.chamberWrite true) d

/-- R267: the pulse in progress ends before a reset takes effect. -/
def Dev.chPulseEnds (d : Dev) : Dev := d.chamberWrite true

/-- R267, R336: a power-on or supply-monitor reset cuts the pulse in progress. -/
def Dev.chPulseCut (d : Dev) : Dev :=
  if d.flag F.CH_STAT_SCAN_DONE && !d.ch.queue.isEmpty then d.spoilSlot (d.nextChSeq % 16384) else d

/-! ## The record window (R337) -/

/-- A write of CH_SEL. -/
def Dev.chSelWrite (d : Dev) (who : Init) (v : Word) : Wr :=
  match who with
  | .gv _ => .no 0x0009
  | _ =>
    let d := d.put F.CH_SEL_SLOT (newField v F.CH_SEL_SLOT)
    let b := d.slot (d.get F.CH_SEL_SLOT)
    let d := (List.range 16).foldl (fun (a : Dev) w =>
      a.put (F.CH_DATA_DATA w) (leNat (Sys2Proof.Machine.slice b (4 * w) 4))) d
    .ok (d.putFlag F.CH_SEL_VALID (slotValid b))

/-- A write of CH_WCMD. -/
def Dev.chCmdWrite (d : Dev) (who : Init) (v : Word) : Wr :=
  let cause := newField v F.CH_WCMD_CAUSE
  if newField v F.CH_WCMD_GO = 0 then .ok (d.store R.CH_WCMD v)
  else
    refuseIf (who != .mc || decide (cause < 0x8000)) 0x012D <|
    let data := ((List.range 10).map (fun w => leBytes 4 (d.get (F.CH_WDATA_DATA w)))).flatten
    .ok ((d.put F.CH_WCMD_CAUSE cause).chRaise cause chMC data)

/-! ## Calibration page and options (R338 to R341) -/

/-- The words of a table as bytes. -/
def wordBytes (t : Tab Nat) (n : Nat) : List Byte := ((List.range n).map (fun i => leBytes 4 (tget t i))).flatten

/-- R338: a calibration copy is valid: MAGIC, and word 511 holds the CRC-32C of words 0–510. -/
def calValid (c : MramCopy) : Bool :=
  tget c.words 0 / 65536 == 0x4C41 && tget c.words 511 == crc32c (wordBytes c.words 511)

/-- R341: an option copy is valid: CRC-32C of its 2,048 words. -/
def optValid (c : MramCopy) : Bool := c.crc == crc32c (wordBytes c.words 2048)

/-- R338: of the valid copies, the one with the higher GEN. -/
def inUse (valid : MramCopy → Bool) (a b : MramCopy) : Option (Nat × MramCopy) :=
  if valid a && (!valid b || decide (b.gen ≤ a.gen)) then some (0, a)
  else if valid b then some (1, b) else none

def Dev.calInUse (d : Dev) : Option (Nat × MramCopy) := inUse calValid d.mram.cal0 d.mram.cal1
def Dev.optInUse (d : Dev) : Option (Nat × MramCopy) := inUse optValid d.mram.opt0 d.mram.opt1

/-- The registers that show the calibration page and the options in MRAM. -/
def Dev.mramShow (d : Dev) : Dev :=
  let d := match d.calInUse with
    | none => (d.put F.CAL_STAT_VALID 0).put F.CAL_CRC_CRC 0
    | some (_, c) =>
      let d := (d.put F.CAL_STAT_VALID 1).put F.CAL_STAT_ORIGIN (tget c.words 0 % 2)
      (d.put F.CAL_STAT_GEN c.gen).put F.CAL_CRC_CRC c.crc
  match d.optInUse with
  | none => d.put F.OPT_CRC_CRC 0
  | some (_, c) => d.put F.OPT_CRC_CRC c.crc

/-- R340: LOAD. -/
def Dev.calLoad (d : Dev) : Dev :=
  { d with mram := { d.mram with calStage := d.calInUse.elim [] (fun x => x.2.words) } }

/-- Copy k of the calibration page. -/
def Dev.setCal (d : Dev) (k : Nat) (c : MramCopy) : Dev :=
  { d with mram := if k = 0 then { d.mram with cal0 := c } else { d.mram with cal1 := c } }

/-- Copy k of the options. -/
def Dev.setOpt (d : Dev) (k : Nat) (c : MramCopy) : Dev :=
  { d with mram := if k = 0 then { d.mram with opt0 := c } else { d.mram with opt1 := c } }

/-- CAL_STAT.BUSY. -/
def Dev.copyBusy (d : Dev) : Dev := d.putFlag F.CAL_STAT_BUSY (d.mram.calRun.isSome || d.mram.optRun.isSome)

/-- R340: a COMMIT starts: the copy not in use is written first. It completes within 20 ms, at free times. -/
def Dev.copyRun (d : Dev) (old : Option (Nat × MramCopy)) (copy : MramCopy) : CopyRun × Dev :=
  let (a, d) := d.free 10000000
  let (b, d) := d.free 10000000
  ({ copy, first := old.elim 0 (fun x => 1 - x.1), mid := d.plat.aon + a, fin := d.plat.aon + a + b
     was := old.elim 0 (fun x => x.2.crc) }, d)

/-- R340: COMMIT: the staging copy with ORIGIN 1, GEN + 1 and a new CRC goes into both copies. -/
def Dev.calCommit (d : Dev) : Dev :=
  let old := d.calInUse
  let gen := (old.elim 0 (fun x => x.2.gen) + 1) % 2 ^ 32
  let words := tset (tset (tset d.mram.calStage 0 0x4C410001) 1 gen) 511 0
  let crc := crc32c (wordBytes words 511)
  let (r, d) := d.copyRun old { words := tset words 511 crc, gen, crc }
  { d with mram := { d.mram with calRun := some r } }.copyBusy

/-- R340: the first copy has been written, or the second one, which ends the COMMIT. -/
def Dev.calDone (d : Dev) : Dev :=
  match d.mram.calRun with
  | none => d
  | some r =>
    let d := if r.mid ≤ d.plat.aon ∧ !r.half then
        ({ d with mram := { d.mram with calRun := some { r with half := true } } }.setCal r.first r.copy).mramShow
      else d
    if r.fin ≤ d.plat.aon then
      let d := ({ d with mram := { d.mram with calRun := none } }.setCal (1 - r.first) r.copy).mramShow
      d.copyBusy.chRaise 0x1101 chPC (leBytes 4 r.was ++ leBytes 4 r.copy.crc ++ leBytes 4 r.copy.gen)
    else d

/-- R341: LOAD of the options. -/
def Dev.optLoad (d : Dev) : Dev :=
  { d with mram := { d.mram with optStage := d.optInUse.elim [] (fun x => x.2.words) } }

/-- R341: COMMIT of the options. -/
def Dev.optCommit (d : Dev) : Dev :=
  let gen := (d.optInUse.elim 0 (fun x => x.2.gen) + 1) % 2 ^ 32
  let crc := crc32c (wordBytes d.mram.optStage 2048)
  let (r, d) := d.copyRun d.optInUse { words := d.mram.optStage, gen, crc }
  { d with mram := { d.mram with optRun := some r } }.copyBusy

/-- R341: the options follow the same two-copy rules. -/
def Dev.optDone (d : Dev) : Dev :=
  match d.mram.optRun with
  | none => d
  | some r =>
    let d := if r.mid ≤ d.plat.aon ∧ !r.half then
        ({ d with mram := { d.mram with optRun := some { r with half := true } } }.setOpt r.first r.copy).mramShow
      else d
    if r.fin ≤ d.plat.aon then
      let d := ({ d with mram := { d.mram with optRun := none } }.setOpt (1 - r.first) r.copy).mramShow
      d.copyBusy.chRaise 0x1102 chPC (leBytes 4 r.copy.crc)
    else d

/-- R340: a reset cuts a COMMIT: the copy that was being written is not valid. -/
def Dev.copyCut (d : Dev) : Dev :=
  let d := match d.mram.calRun with
    | none => d
    | some r => d.setCal (if r.half then 1 - r.first else r.first) {}
  let d := match d.mram.optRun with
    | none => d
    | some r => d.setOpt (if r.half then 1 - r.first else r.first) { crc := 1 }
  { d with mram := { d.mram with calRun := none, optRun := none } }

/-- R340: a start writes a copy that is not valid again, from the one in use. -/
def Dev.copyHeal (d : Dev) : Dev :=
  let d := match d.calInUse with
    | some (k, c) => if calValid (if k = 0 then d.mram.cal1 else d.mram.cal0) then d else d.setCal (1 - k) c
    | none => d
  match d.optInUse with
  | some (k, c) => if optValid (if k = 0 then d.mram.opt1 else d.mram.opt0) then d else d.setOpt (1 - k) c
  | none => d

/-- R340: the modes in which a COMMIT is taken. -/
def commitMode (m : Nat) : Bool := m == 2 || m == 4 || m == 5 || m == 6 || m == 9 || m == 10

/-- R340, R341: a write of CAL_CMD or OPT_CMD, whose layouts agree. LOAD is refused to nobody. -/
def Dev.mramCmdWrite (d : Dev) (who : Init) (addr : Nat) (v : Word) (busy : Bool) (load commit : Dev → Dev) : Wr :=
  let op := newField v F.CAL_CMD_OP
  if op ≥ 2 then .no 0x012E
  else if busy && newField v F.CAL_CMD_GO == 1 then .ok d
  else if newField v F.CAL_CMD_GO = 0 then .ok (d.store addr v)
  else if op = 0 then
    .ok (load ((d.store addr v).put ⟨addr, 31, 1⟩ 0))
  else
    refuseIf (who != .mc || newField v F.CAL_CMD_KEY != 0x5AC3 || !commitMode d.mode) 0x012E <|
    .ok (commit ((d.store addr v).put ⟨addr, 31, 1⟩ 0))

/-- A write of CAL_DATA or OPT_DATA: the staging word at INDEX. -/
def Dev.calDataWrite (d : Dev) (v : Word) : Dev :=
  let i := d.get F.CAL_SEL_INDEX
  if i = 0 ∨ i = 1 ∨ i = 511 then d
  else { d with mram := { d.mram with calStage := tset d.mram.calStage i v.toNat } }

/-- A write to PC page 5 at an offset of 0x040 or above. -/
def Dev.pc5Write (d : Dev) (who : Init) (addr : Nat) (v : Word) : Wr :=
  if addr = R.CH_SEL then d.chSelWrite who v
  else if addr = R.CH_WCMD then d.chCmdWrite who v
  else if addr = R.CAL_CMD then d.mramCmdWrite who addr v d.mram.calRun.isSome Dev.calLoad Dev.calCommit
  else if addr = R.OPT_CMD then d.mramCmdWrite who addr v d.mram.optRun.isSome Dev.optLoad Dev.optCommit
  else if addr = R.CAL_DATA then .ok (d.calDataWrite v)
  else if addr = R.OPT_DATA then
    .ok { d with mram := { d.mram with optStage := tset d.mram.optStage (d.get F.OPT_SEL_INDEX) v.toNat } }
  else .ok (d.store addr v)

end Sys2Proof.Machine
end

