-- ==== Sys2Proof/Machine/GroveEng.lean ====
section
/-! DEFINITION. Grove's engines: threads, instances and their ends, the stage, the Xgrove
instructions, pairing and thread faults (R92 to R96, R109 to R121). -/

namespace Sys2Proof.Machine
open Sys2Proof

/-! ## Engines and threads (R109, R111) -/

def Dev.thr (d : Dev) (t : Nat) : ThreadCtx := tget d.gv.thr t
def Dev.setThr (d : Dev) (t : Nat) (c : ThreadCtx) : Dev := { d with gv := { d.gv with thr := tset d.gv.thr t c } }
def Dev.modThr (d : Dev) (t : Nat) (f : ThreadCtx → ThreadCtx) : Dev := d.setThr t (f (d.thr t))

/-- The page of the engine of a thread. -/
def threadPage (t : Nat) : Page := .gv (3 + t / 8)

/-- The address at which the service program starts (R110). -/
def gvEntry : Nat := 0x4000

/-- R124: engine e is not retired. -/
def Dev.healthy (d : Dev) (e : Nat) : Bool := !bitOf (d.get F.GV_ENG_STAT_RETIRED) e

/-- R111, R125, R275: the engines run. -/
def Dev.gvRuns (d : Dev) : Bool :=
  d.flag F.GV_ENG_CTRL_RUN && d.flag F.GV_ROT_STAT_INIT_DONE && d.released (.gv 2) && d.mode != 3

/-- R97: the thread belongs to the calendar. -/
def Dev.calThread (d : Dev) (t : Nat) : Bool := d.flag F.GV_CAL_CTRL_EN && d.get F.GV_CAL_CTRL_THREAD == t

/-- R106, R126: instances may start. -/
def Dev.gvStarts (d : Dev) : Bool := d.gvRuns && d.enabled (.gv 0) && d.mode != 8

/-- R122: engine e is in its turn, in drain or test. -/
def Dev.resting (d : Dev) (e : Nat) : Bool :=
  (d.get F.GV_ROT_STAT_PHASE == 1 || d.get F.GV_ROT_STAT_PHASE == 2) && d.get F.GV_ROT_STAT_RESTING == e

/-- R122: engine e accepts hand-overs. -/
def Dev.serving (d : Dev) (e : Nat) : Bool := d.gvStarts && d.healthy e && !d.resting e

/-- Thread t issues an instruction. -/
def Dev.gxReady (d : Dev) (t : Nat) : Bool :=
  d.gvRuns && d.healthy (t / 8) && (d.thr t).st == .ready && !d.calThread t

/-- A result written to x[rd]; x0 discards it. -/
def setX (c : ThreadCtx) (rd v : Nat) : ThreadCtx :=
  if rd = 0 then c else { c with x := tset c.x rd (BitVec.ofNat 32 v) }

/-- An instruction of thread t at pc completes with a result. -/
def Dev.gxDone (d : Dev) (t rd v : Nat) : Dev :=
  d.modThr t (fun c => { setX c rd v with st := .ready, pc := (c.pc + 4) % 2 ^ 32 })

/-- R116: thread t waits on a latency of n clocks of 1 ns from now on. -/
def Dev.busyFor (d : Dev) (t n : Nat) : Dev := d.modThr t (fun c => { c with busy := d.baseNs + n })

/-- A thread at the start of the service program with cleared state; a pending wake stays. -/
def freshThread (c : ThreadCtx) (st : ThreadSt) : ThreadCtx := { st, pc := gvEntry, wake := c.wake }

/-- R111, R121: the thread data of thread t, words 0xC000 + 0x800 k of its engine's memory, is
cleared. -/
def Dev.clearData (d : Dev) (t : Nat) : Dev :=
  let lo := 65536 * (t / 8) + 0xC000 + 0x800 * (t % 8)
  ({ d with gv := { d.gv with lm := tabDrop (fun a => decide (lo ≤ a) && decide (a < lo + 0x800)) d.gv.lm } }).wordsWritten
    (fun w => w.1 == 5 && decide (lo ≤ 65536 * w.2.1 + w.2.2) && decide (65536 * w.2.1 + w.2.2 < lo + 0x800))

/-- R111, R121, R122: thread t starts at the service program with everything cleared. -/
def Dev.startThread (d : Dev) (t : Nat) : Dev := (d.clearData t).modThr t (fun c => freshThread c .ready)

/-! ## Order of a source (R93) -/

/-- R93: sources: CAN n at n, LIN n at 64 + n, ingress port p at 128 + p, host p at 160 + p, the
sweeper at 170. -/
def srcPort (p : Nat) : Nat := 128 + p
def srcHost (p : Nat) : Nat := 160 + p
def srcSweep : Nat := 170

/-- R112: the Flowstone item that held an input is freed. -/
def Dev.releaseItem (d : Dev) (it : SrcItem) : Dev :=
  match it.fifo with
  | some (c, f) => d.fsFree (.chan (Fin.ofNat 80 c) (Fin.ofNat 3 f)) 1
  | none => d

/-- R112: the Gallery copy that held an input is released at the end of its instance. -/
def Dev.releaseFrame (d : Dev) (frame : Option Nat) : Dev :=
  match frame with
  | some id => d.releaseCopy id
  | none => d

/-- R93, R140: whatever has ended at the front of a source's order leaves it; a FIFO's items are freed in
their order. -/
def Dev.releaseEnded (d : Dev) (src : Nat) : Dev :=
  let l := tget d.gv.srcs src
  let d := { d with gv := { d.gv with srcs := tset d.gv.srcs src (l.dropWhile (·.ended)) } }
  (l.takeWhile (·.ended)).foldl Dev.releaseItem d

/-- R93: an instance has ended. -/
def Dev.endItem (d : Dev) (src serial : Nat) : Dev :=
  let f := fun (l : List SrcItem) => l.map (fun it =>
    if it.serial = serial then { it with ended := true, frame := none } else it)
  let frame := ((tget d.gv.srcs src).find? (fun it => it.serial == serial)).bind (·.frame)
  ({ d with gv := { d.gv with srcs := tmod d.gv.srcs src f } }.releaseEnded src).releaseFrame frame

/-- R93: every earlier instance of its source has ended. -/
def Dev.isFront (d : Dev) (x : Instance) : Bool :=
  match tget d.gv.srcs x.src with
  | it :: _ => it.serial == x.serial
  | [] => true

/-! ## The stage (R118) -/

/-- R118: a granule applied to an image. -/
def applyGranule (image : Nat) (g : Granule) : Nat :=
  let old := bitsOf image (8 * g.off) 256
  putBits image (8 * g.off) 256 (Nat.lor (Nat.land old (2 ^ 256 - 1 - g.mask)) (Nat.land g.data g.mask))

/-- The granules of one transmit PDU as it stands. -/
def groupOf (s : Stage) (p gen : Nat) : List Granule := s.granules.filter (fun g => g.pdu == p && g.gen == gen)

/-- R116, R119: the image of a PDU overlaid by the staged writes. -/
def Dev.staged (d : Dev) (s : Stage) (p : Nat) : Nat :=
  (groupOf s p (d.pdu p).gen).foldl applyGranule (d.pdu p).image

/-- The granule offsets that a field touches. -/
def fieldGranules (big : Bool) (start len : Nat) : List Nat :=
  ((List.range len).map (fun i => fieldPos big start i / 256 * 32)).eraseDups

/-- One bit of a field written into a granule if it lies there. -/
def putBitIn (g : Granule) (pos : Nat) (b : Bool) : Granule :=
  if pos / 256 * 32 = g.off then
    { g with data := putBits g.data (pos % 256) 1 (boolNat b), mask := setBit g.mask (pos % 256) }
  else g

/-- R92: a field written into the stage; a later write's bits prevail. -/
def stageField (s : Stage) (p gen : Nat) (big : Bool) (start len v : Nat) : Stage :=
  let new := (fieldGranules big start len).filter (fun o =>
    !s.granules.any (fun g => g.pdu == p && g.gen == gen && g.off == o))
  let gs := s.granules ++ new.map (fun off => { pdu := p, gen, off, data := 0, mask := 0 })
  { s with granules := gs.map (fun g =>
      if g.pdu = p ∧ g.gen = gen then
        (List.range len).foldl (fun g i => putBitIn g (fieldPos big start i) (bitOf v i)) g
      else g) }

/-- R118: a trigger staged once for each PDU. -/
def stageTrig (s : Stage) (p gen : Nat) : Stage :=
  if s.trigs.contains (p, gen) then s else { s with trigs := s.trigs ++ [(p, gen)] }

/-- R118: the stage holds 256 granules and 64 triggers. -/
def stageFull (s : Stage) : Bool := decide (256 < s.granules.length) || decide (64 < s.trigs.length)

/-! ## Ends of instances (R93, R94, R101, R120) -/

/-- R104: the last PDU among the triggered ones that goes to host queue q. -/
def Dev.announceOf (d : Dev) (trig : List Nat) (q : Nat) : Nat :=
  ((trig.filter (fun p => pduBus (d.pdu p) == 3 && pduChan (d.pdu p) == q)).getLast?).getD 0xFFFF

/-- R101: the RX_TIMEOUT or RX_RESUME event of an instance that has ended. -/
def Dev.rxEvents (d : Dev) (x : Instance) (trig : List Nat) : Dev :=
  let q := d.get F.GV_CFG_EVT_QUEUE
  let d := if x.timeout then d.gvEvent q 0x04 x.pdu 0 x.stamp (d.announceOf trig q) else d
  if x.resume then d.gvEvent q 0x05 x.pdu 0 x.stamp (d.announceOf trig q) else d

/-- Whether thread t holds the instance of a serial number. -/
def Dev.holds (d : Dev) (t serial : Nat) : Bool :=
  match (d.thr t).inst with
  | some x => x.serial == serial
  | none => false

/-- A thread's instance changed. -/
def Dev.modInst (d : Dev) (t : Nat) (f : Instance → Instance) : Dev :=
  d.modThr t (fun c => { c with inst := c.inst.map f })

/-- Thread t leaves GX.PDUPUT END or DROP without an instance. The spec states no value for its rd:
a free value. -/
def Dev.leave (d : Dev) (t rd : Nat) : Dev :=
  let (v, d) := d.free (2 ^ 32)
  let d := d.modThr t (fun c => { c with inst := none, stage := {} })
  (d.bump (F.ENG_INSTANCES_COUNT (t / 8))).gxDone t rd v

/-- R94, R120: a paired instance ends as a mismatch, once. Its partner's copy has ended with it. -/
def Dev.mismatch (d : Dev) (t : Nat) (x : Instance) : Dev :=
  if x.ended then d
  else
    let d := (d.bump F.GV_CMP_FAIL_COUNT).raise (.gv 0) 1
    let d := d.deviceEvent 0x06 x.pdu 0 d.stampNow 0xFFFF
    let d := d.report 4 ((t / 8) * 2 ^ 64 + (x.partner / 8) * 2 ^ 72)
    let d := (d.rxEvents x []).modInst t (fun y => { y with ended := true })
    let d := if d.holds x.partner x.serial then d.modInst x.partner (fun y => { y with ended := true }) else d
    d.endItem x.src x.serial

/-- A partner that waits in GX.PDUPUT END for an instance that has ended leaves it. -/
def Dev.freePartner (d : Dev) (x : Instance) : Dev :=
  match (d.thr x.partner).st with
  | .committing rd => if d.holds x.partner x.serial then d.leave x.partner rd else d
  | _ => d

/-- R120: a partner that waits in GX.CMP receives status 2. -/
def Dev.failPartner (d : Dev) (x : Instance) : Dev :=
  if d.holds x.partner x.serial then
    let d := d.modInst x.partner (fun y => { y with cmpOk := false })
    match (d.thr x.partner).st with
    | .awaitPartner rd _ _ => d.gxDone x.partner rd 2
    | _ => d
  else d

/-- R118, R326: the instance of thread t is aborted and its stage dropped; R120: a partner that waits in
GX.CMP receives status 2. -/
def Dev.abortStage (d : Dev) (t : Nat) : Dev :=
  let inst := (d.thr t).inst
  let d := d.modThr t (fun c => { c with
    inst := c.inst.map (fun x => { x with aborted := true, cmpOk := false }), stage := {} })
  match inst with
  | some x => if x.paired then d.failPartner x else d
  | none => d

/-- R118: the instance of thread t is aborted because its stage is full. -/
def Dev.stageAbort (d : Dev) (t : Nat) : Dev :=
  ((d.bump (F.ENG_STAGE_FULL_COUNT (t / 8))).raise (threadPage t) 3).abortStage t

/-- R113, R121, R124: the instance that thread t holds is aborted. An unpaired one counts as
committed; a paired one ends with its partner. -/
def Dev.abortInst (d : Dev) (t : Nat) : Dev :=
  match (d.thr t).inst with
  | none => d
  | some x =>
    let d := d.modThr t (fun c => { c with inst := none, stage := {} })
    if x.paired then
      if d.holds x.partner x.serial then
        match (d.thr x.partner).st with
        | .committing _ => (d.mismatch t x).freePartner x
        | _ => d.failPartner x
      else d.mismatch t x
    else (d.rxEvents x []).endItem x.src x.serial

/-- R111: the instance that thread t holds is aborted by a halt: no fault and no event. -/
def Dev.haltInst (d : Dev) (t : Nat) : Dev :=
  match (d.thr t).inst with
  | none => d
  | some x => (d.modThr t (fun c => { c with inst := none, stage := {} })).endItem x.src x.serial

/-- R111: thread t halts. -/
def Dev.haltThread (d : Dev) (t : Nat) : Dev := (d.haltInst t).modThr t (fun c => { c with st := .halted })

/-- R111: every engine halts. -/
def Dev.haltAll (d : Dev) : Dev := (List.range 128).foldl Dev.haltThread d

/-! ## Thread faults (R121) -/

/-- R121: thread t takes a fault with a cause at a program counter. -/
def Dev.threadFault (d : Dev) (t cause pc : Nat) : Dev :=
  let e := t / 8
  let pdu := match (d.thr t).inst with
    | some x => x.pdu
    | none => 0xFFFF
  let d := (d.abortInst t).bump (F.ENG_FAULTS_COUNT e)
  let d := if d.flag (F.ENG_FAULT_CAUSE_VALID e) then d
    else
      let d := (d.put (F.ENG_FAULT_CAUSE_VALID e) 1).put (F.ENG_FAULT_CAUSE_THREAD e) (t % 8)
      let d := (d.put (F.ENG_FAULT_CAUSE_CAUSE e) cause).put (F.ENG_FAULT_CAUSE_PDU e) pdu
      d.put (F.ENG_FAULT_PC_PC e) pc
  (d.raise (threadPage t) 1).modThr t (fun c => { c with st := .restarting (d.baseNs + 1000) })

/-- R121: 1 µs after its fault the thread restarts. -/
def Dev.threadRestart (d : Dev) (t : Nat) : Dev :=
  match (d.thr t).st with
  | .restarting u => if d.gvRuns && decide (u ≤ d.baseNs) then d.startThread t else d
  | _ => d

/-- R121: a refused access of a Grove thread to register space. The command does not give the
program counter: a free value. -/
def Dev.gvAccessFault (d : Dev) (t cause : Nat) : Dev :=
  let (pc, d) := d.free (2 ^ 32)
  if d.gvRuns then d.threadFault t cause pc else d

/-- R121: a base instruction raises an exception. -/
def Dev.threadException (d : Dev) (t cause pc : Nat) : Dev :=
  if d.gxReady t then d.threadFault t cause pc else d

/-- R113, R121: an instance 100 µs after the GX.PDUGET that began it. `pc` is where the thread would
have issued next; a waiting thread gives the instruction it waits in. -/
def Dev.instanceTimeout (d : Dev) (t pc : Nat) : Dev :=
  let c := d.thr t
  match c.inst with
  | none => d
  | some x =>
    let ended := match c.st with
      | .committing _ => true
      | _ => false
    if x.start + 100000 ≤ d.baseNs ∧ !ended then
      d.threadFault t 0x10 (if c.st = .ready then pc else c.pc)
    else d

/-! ## Commit (R92, R95, R96, R118) -/

/-- The PDUs for which a stage holds granules, in order, with the generation they were staged for. -/
def stageGroups (s : Stage) : List (Nat × Nat) := (s.granules.map (fun g => (g.pdu, g.gen))).eraseDups

/-- R92: the PDU of a staged group or trigger is still the one it was staged for. -/
def Dev.sameTx (d : Dev) (p gen : Nat) : Bool := pduIsTx (d.pdu p) && (d.pdu p).gen == gen

/-- R92, R96: one group is committed; the PDUs triggered so far. -/
def Dev.commitGroup (x : Instance) (s : Stage) (a : Dev × List Nat) (g : Nat × Nat) : Dev × List Nat :=
  let (d, trig) := a
  if d.sameTx g.1 g.2 then
    let d := d.modPdu g.1 (fun e => { e with image := d.staged s g.1, stamp := x.stamp })
    let code := pduTrig (d.pdu g.1)
    if code = 3 ∨ (s.trigs.contains g ∧ (code = 1 ∨ code = 2)) then (d.trigger g.1, trig ++ [g.1]) else (d, trig)
  else (d.gvSkip, trig)

/-- R96, R116: a trigger that GX.PDUPUT SEND staged for a PDU without a group. -/
def Dev.commitSend (s : Stage) (a : Dev × List Nat) (g : Nat × Nat) : Dev × List Nat :=
  let (d, trig) := a
  if (stageGroups s).contains g || !d.sameTx g.1 g.2 || pduTrig (d.pdu g.1) == 0 then a
  else (d.trigger g.1, trig ++ [g.1])

/-- R92, R96, R104: what a stage commits. -/
def Dev.commitStage (d : Dev) (x : Instance) (s : Stage) : Dev :=
  let (d, trig) := (stageGroups s).foldl (Dev.commitGroup x s) (d, [])
  let (d, trig) := s.trigs.foldl (Dev.commitSend s) (d, trig)
  let d := s.events.foldl (fun (a : Dev) ev =>
    a.gvEvent ev.queue ev.type x.pdu ev.data x.stamp (a.announceOf trig ev.queue)) d
  let d := d.rxEvents x trig
  if x.timeout then d else d.bump F.GV_RX_PDUS_COUNT

/-- R93, R120: an instance whose GX.PDUPUT END waits commits, once every earlier one of its source
has, and a paired one once both threads have ended it. -/
def Dev.instanceCommit (d : Dev) (t : Nat) : Dev :=
  let c := d.thr t
  match c.st, c.inst with
  | .committing rd, some x =>
    if !d.isFront x then d
    else if x.paired then
      match (d.thr x.partner).st, (d.thr x.partner).inst with
      | .committing rd2, some y =>
        if y.serial = x.serial ∧ x.cmpOk ∧ y.cmpOk then
          let d := (d.commitStage x c.stage).endItem x.src x.serial
          (d.leave t rd).leave x.partner rd2
        else d
      | _, _ => d
    else ((d.commitStage x c.stage).endItem x.src x.serial).leave t rd
  | _, _ => d

/-- R326: a descriptor, transform or image of the instance of thread t has an uncorrectable error (source 1, in
the Gallery, where the images lie, or in the signal store, which of the two is free), or parity fails on its path
(source 3): the instance is aborted and commits nothing. -/
def Dev.instanceErr (d : Dev) (t source : Nat) : Dev :=
  let c := d.thr t
  match c.inst with
  | none => d
  | some x =>
    if x.ended then d
    else
      let d := if source = 1 then
          let (mem, d) := d.free 2
          d.dbe (1 + mem)
        else d.report source 0
      let d := d.bump (F.ENG_FAULTS_COUNT (t / 8))
      match c.st with
      | .committing rd =>
        if x.paired then (((d.mismatch t x).leave t rd).failPartner x).freePartner x
        else ((d.rxEvents x []).endItem x.src x.serial).leave t rd
      | _ => d.abortStage t

/-! ## Xgrove instructions (R115 to R120) -/

/-- R116: an instruction that needs an instance: without one the thread takes fault 0x12. -/
def Dev.withInst (d : Dev) (t pc : Nat) (f : Dev → ThreadCtx → Instance → Dev) : Dev :=
  if d.gxReady t then
    let d := d.modThr t (fun c => { c with pc })
    match (d.thr t).inst with
    | none => d.threadFault t 0x12 pc
    | some x => f d (d.thr t) x
  else d

/-- An instruction that needs no instance. -/
def Dev.withThread (d : Dev) (t pc : Nat) (f : Dev → ThreadCtx → Dev) : Dev :=
  if d.gxReady t then
    let d := d.modThr t (fun c => { c with pc })
    f d (d.thr t)
  else d

/-- Word w of descriptor register D k. -/
def dreg (c : ThreadCtx) (k w : Nat) : Nat := tget c.dw (3 * k + w)

/-- Fields of a signal descriptor (R80). -/
def sigValid (w0 : Nat) : Bool := bitOf w0 31
def sigSink (w0 : Nat) : Bool := bitOf w0 30
def sigBig (w0 : Nat) : Bool := bitOf w0 29
def sigSigned (w0 : Nat) : Bool := bitOf w0 28
def sigUpd (w0 : Nat) : Nat := bitsOf w0 26 2
def sigPol (w0 : Nat) : Nat := bitsOf w0 24 2
def sigLen (w0 : Nat) : Nat := bitsOf w0 14 6 + 1
def sigStart (w0 : Nat) : Nat := bitsOf w0 0 14

/-- GX.SIGLD. A descriptor with an uncorrectable error (`dbe`) counts as VALID = 0 (R326). -/
def Dev.gxSigld (d : Dev) (t pc rd k ix : Nat) (dbe : Bool) : Dev :=
  d.withThread t pc (fun d _ =>
    let n := ix % 2 ^ 20
    let d := d.modThr t (fun c => { c with
      dw := (List.range 3).foldl (fun a w => tset a (3 * k + w) (d.sigWord n w)) c.dw, dix := tset c.dix k n })
    let d := if dbe then d.dbe 2 else d
    if sigValid (d.sigWord n 0) && !dbe then d.gxDone t rd (bitsOf (d.sigWord n 2) 0 20)
    else d.gvSkip.gxDone t rd 0x800FFFFF)

/-- GX.SIGST. -/
def Dev.gxSigst (d : Dev) (t pc rd k ix : Nat) : Dev :=
  d.withThread t pc (fun d c =>
    let n := ix % 2 ^ 20
    let d := (List.range 3).foldl (fun (a : Dev) w => a.setSig (3 * n + w) (Nat.land (dreg c k w) (sigMask w))) d
    d.gxDone t rd 0)

/-- A value register written and the instruction completed. -/
def Dev.putV (d : Dev) (t k : Nat) (v : VReg) : Dev := d.modThr t (fun c => { c with v := tset c.v k v })

/-- R82, R114: the 64-bit value register contents of a field. -/
def extended (sgn : Bool) (len raw : Nat) : Nat := if sgn then unsignedOf 64 (signedOf len raw) else raw

/-- R117: the contents of V in a timeout instance: value, if the spec states one, and class. -/
def timeoutValue (w0 w1 : Nat) : Option Nat × Nat :=
  match sigPol w0 with
  | 0 => (none, 3)
  | 1 => (some (unsignedOf (sigLen w0) (signedOf 16 (bitsOf w1 16 16))), 0)
  | 2 => (none, 2)
  | _ => (none, 1)

/-- GX.EXT of the sink in D k. -/
def Dev.extSink (d : Dev) (t rd k vn : Nat) (c : ThreadCtx) : Dev :=
  let w0 := dreg c k 0
  let p := bitsOf (dreg c k 1) 16 16
  if pduIsTx (d.pdu p) && fieldFits (sigBig w0) (sigStart w0) (sigLen w0) (pduLen (d.pdu p)) then
    let raw := fieldGet (sigBig w0) (sigStart w0) (sigLen w0) (d.staged c.stage p)
    (d.putV t vn {
      val := extended (sigSigned w0) (sigLen w0) raw, cls := 0, upd := 0, signed := sigSigned w0
      lenM1 := sigLen w0 - 1, xfm := 0 }).gxDone t rd 0
  else d.gvSkip.gxDone t rd 2

/-- GX.EXT of the source in D k. A value that R117 does not state is free. -/
def Dev.extSource (d : Dev) (t rd k vn : Nat) (c : ThreadCtx) (x : Instance) : Dev :=
  let w0 := dreg c k 0
  let w1 := dreg c k 1
  if fieldFits (sigBig w0) (sigStart w0) (sigLen w0) x.fits then
    let (raw, cls) := if x.timeout then timeoutValue w0 w1
      else (some (fieldGet (sigBig w0) (sigStart w0) (sigLen w0) x.input), 0)
    let (val, d) := match raw with
      | some r => (extended (sigSigned w0) (sigLen w0) r, d)
      | none => d.free (2 ^ 64)
    (d.putV t vn {
      val, cls, upd := sigUpd w0, signed := sigSigned w0, lenM1 := sigLen w0 - 1
      xfm := bitsOf w1 0 16 }).gxDone t rd 0
  else d.gvSkip.gxDone t rd 2

/-- GX.EXT. -/
def Dev.gxExt (d : Dev) (t pc rd k vn : Nat) : Dev :=
  d.withInst t pc (fun d c x =>
    if x.aborted then d.gxDone t rd 3
    else if sigSink (dreg c k 0) then d.extSink t rd k vn c
    else d.extSource t rd k vn c x)

/-- The value of a value register as a number. -/
def vVal (v : VReg) : Int := if v.signed then signedOf 64 v.val else v.val

/-- GX.XFM. The value that goes with CLASS 3 is free. -/
def Dev.gxXfm (d : Dev) (t pc rd k vd vs : Nat) : Dev :=
  d.withInst t pc (fun d c x =>
    if x.aborted then d.gxDone t rd 3
    else
      let w0 := dreg c k 0
      let v := tget c.v vs
      let lsrc := v.lenM1 + 1
      match d.transform v.xfm v.cls (v.val % 2 ^ lsrc) lsrc (vVal v) (sigLen w0) (sigSigned w0) with
      | none =>
        let (val, d) := d.free (2 ^ 64)
        (d.putV t vd { val, cls := 3, upd := v.upd, signed := sigSigned w0, lenM1 := sigLen w0 - 1, xfm := 0 }).gxDone t rd 1
      | some (r, sat) =>
        let d := if sat then (d.bump F.GV_SAT_COUNT).raise (.gv 0) 4 else d
        (d.putV t vd {
          val := extended (sigSigned w0) (sigLen w0) r, cls := 0, upd := v.upd, signed := sigSigned w0
          lenM1 := sigLen w0 - 1, xfm := 0 }).gxDone t rd 0)

/-- A stage written back, or the instance aborted because it does not fit (R118). -/
def Dev.putStage (d : Dev) (t rd : Nat) (s : Stage) : Dev :=
  if stageFull s then (d.stageAbort t).gxDone t rd 3
  else ((d.modThr t (fun c => { c with stage := s })).modInst t (fun x => { x with cmpOk := false })).gxDone t rd 0

/-- GX.INS. -/
def Dev.gxIns (d : Dev) (t pc rd k vn : Nat) : Dev :=
  d.withInst t pc (fun d c x =>
    let w0 := dreg c k 0
    let p := bitsOf (dreg c k 1) 16 16
    let v := tget c.v vn
    if x.aborted then d.gxDone t rd 3
    else if v.cls ≠ 0 then d.gxDone t rd 1
    else if !sigSink w0 || !pduIsTx (d.pdu p) ||
        !fieldFits (sigBig w0) (sigStart w0) (sigLen w0) (pduLen (d.pdu p)) then d.gvSkip.gxDone t rd 2
    else
      let bits := v.val % 2 ^ sigLen w0
      let same := fieldGet (sigBig w0) (sigStart w0) (sigLen w0) (d.staged c.stage p) == bits
      if (v.upd = 1 ∨ v.upd = 3) ∧ same then d.gxDone t rd 1
      else
        let gen := (d.pdu p).gen
        let s := stageField c.stage p gen (sigBig w0) (sigStart w0) (sigLen w0) bits
        d.putStage t rd (if 2 ≤ v.upd then stageTrig s p gen else s))

/-- GX.TS: select 7 is illegal. -/
def Dev.gxTs (d : Dev) (t pc rd sel : Nat) : Dev :=
  if sel < 2 then
    d.withInst t pc (fun d _ x => d.gxDone t rd (if sel = 0 then x.stamp / 8 else x.stamp % 8))
  else
    d.withThread t pc (fun d _ =>
      if sel = 7 then d.threadFault t 0x02 pc
      else if sel = 2 then d.gxDone t rd (d.baseNs % 2 ^ 32)
      else d.gxDone t rd (d.tbVal (sel - 2) / 2 ^ 16 % 2 ^ 32))

/-- GX.PDUPUT END. A paired instance that has not matched ends as a mismatch; one aborted by a full
stage commits nothing. -/
def Dev.gxEnd (d : Dev) (t pc rd : Nat) : Dev :=
  d.withInst t pc (fun d _ x =>
    if x.paired then
      if x.ended then d.leave t rd
      else if x.cmpOk then d.modThr t (fun c => { c with st := .committing rd })
      else (((d.mismatch t x).leave t rd).failPartner x).freePartner x
    else if x.aborted then ((d.rxEvents x []).endItem x.src x.serial).leave t rd
    else d.modThr t (fun c => { c with st := .committing rd }))

/-- GX.PDUPUT SEND. -/
def Dev.gxSend (d : Dev) (t pc rd p : Nat) : Dev :=
  d.withInst t pc (fun d c x =>
    let p := p % 2 ^ 16
    if !pduIsTx (d.pdu p) then d.gxDone t rd 1
    else if x.aborted then d.gxDone t rd 0
    else d.putStage t rd (stageTrig c.stage p (d.pdu p).gen))

/-- GX.PDUPUT DROP. -/
def Dev.gxDrop (d : Dev) (t pc rd : Nat) : Dev :=
  d.withInst t pc (fun d _ x =>
    if x.paired then (((d.mismatch t x).leave t rd).failPartner x).freePartner x
    else ((d.rxEvents x []).endItem x.src x.serial).leave t rd)

/-- GX.WAIT. -/
def Dev.gxWait (d : Dev) (t pc rd : Nat) : Dev :=
  d.withThread t pc (fun d c =>
    match (if d.resting (t / 8) then none else c.wake) with
    | some p => (d.modThr t (fun c => { c with wake := none })).gxDone t rd p |>.busyFor t 2
    | none => d.modThr t (fun c => { c with st := .awaitWake rd }))

/-- GX.EVT. -/
def Dev.gxEvt (d : Dev) (t pc rd tq data : Nat) : Dev :=
  d.withInst t pc (fun d c _ =>
    if tq % 2 ^ 8 < 0x80 ∨ 4 ≤ c.stage.events.length then d.gxDone t rd 1
    else
      let s := { c.stage with events := c.stage.events ++ [{ type := tq % 2 ^ 8, queue := bitsOf tq 8 4, data }] }
      ((d.modThr t (fun c => { c with stage := s })).modInst t (fun x => { x with cmpOk := false })).gxDone t rd 0)

/-- R120: a stage as GX.CMP compares it: granule tags, data, masks, triggers and events. -/
def compared (s : Stage) : List (Nat × Nat × Nat × Nat) × List Nat × List StagedEvent :=
  (s.granules.map (fun g => (g.pdu, g.off, g.data, g.mask)), s.trigs.map (·.1), s.events)

/-- R120: both threads of a pair receive one status. -/
def Dev.cmpBoth (d : Dev) (t rd t2 rd2 status : Nat) : Dev :=
  let d := (d.modInst t (fun x => { x with cmpOk := status == 0 })).modInst t2 (fun x => { x with cmpOk := status == 0 })
  let n := 12 + (d.thr t).stage.granules.length
  (((d.gxDone t rd status).gxDone t2 rd2 status).busyFor t n).busyFor t2 n

/-- GX.CMP. -/
def Dev.gxCmp (d : Dev) (t pc rd word : Nat) : Dev :=
  d.withInst t pc (fun d c x =>
    if !x.paired then d.gxDone t rd 0
    else if x.owed then (d.modInst t (fun y => { y with owed := false, cmpOk := false })).gxDone t rd 2
    else
      match (d.thr x.partner).inst with
      | none => d.gxDone t rd 2
      | some y =>
        if y.serial ≠ x.serial ∨ x.ended ∨ x.aborted ∨ y.aborted then d.failPartner x |>.gxDone t rd 2
        else
          match (d.thr x.partner).st with
          | .awaitPartner rd2 word2 since =>
            if since + 20000 < d.baseNs then d.cmpBoth t rd x.partner rd2 2
            else
              let same := compared c.stage == compared (d.thr x.partner).stage && word == word2
              d.cmpBoth t rd x.partner rd2 (if same then 0 else 1)
          | _ => d.modThr t (fun c => { c with st := .awaitPartner rd word d.baseNs }))

/-- R120: thread t has waited 20 µs for its partner's GX.CMP. -/
def Dev.cmpTimeout (d : Dev) (t : Nat) : Dev :=
  match (d.thr t).st, (d.thr t).inst with
  | .awaitPartner rd _ since, some x =>
    if since + 20000 ≤ d.baseNs then
      let d := d.modInst x.partner (fun y => if y.serial = x.serial then { y with owed := true, cmpOk := false } else y)
      (d.modInst t (fun y => { y with cmpOk := false })).gxDone t rd 2
    else d
  | _, _ => d

end Sys2Proof.Machine
end

