-- ==== Sys2Proof/Machine/Pacer.lean ====
section
/-! DEFINITION. Frames that enter the switch at ports 24 to 27 (R12, R189, R209), and the pacer of
ports 26 and 27 (R13). -/

namespace Sys2Proof.Machine
open Sys2Proof

/-- A frame without FCS enters at port 24 to 27. The spec gives no receive stamp for these ports: a
free value. With `taps` the port's taps see it. -/
def Dev.enterPort (d : Dev) (p : Nat) (bytes : List Byte) (taps : Bool) : Dev :=
  let (stamp, d) := d.free (2 ^ 35)
  let f : RxFrame := { bytes := bytes ++ List.replicate 4 0, whole := true, stamp, base := d.now64 }
  let (d, f) := if taps then d.handOver p f else (d, f)
  d.pushRx p f

/-- R13: the time in 0.1 ns that a frame of n bytes without FCS takes of the pacer: 10 Gb/s and 10
million frames per second. -/
def paceTime (n : Nat) : Nat := max 1000 ((n + 4) * 8)

/-- R13, R189: the pacer of port p has admitted no frame that has not entered, and may take one. -/
def Dev.paceOpen (d : Dev) (p : Nat) : Bool :=
  let s := d.port p
  !s.admitted && s.rx == [] && decide (s.pace ≤ d.plat.aon * 10)

/-- R13: the pacer of port p admits the next waiting frame. -/
def Dev.admitNext (d : Dev) (p : Nat) : Dev :=
  if d.paceOpen p then d.modPort p (fun s => { s with admitted := true }) else d

/-- R13: the frame that the pacer of port p admitted enters. -/
def Dev.enterPaced (d : Dev) (p : Nat) (bytes : List Byte) (taps : Bool) : Dev :=
  (d.modPort p (fun s => { s with
    admitted := false, pace := d.plat.aon * 10 + paceTime bytes.length })).enterPort p bytes taps

/-- PACER_ADMIT: for port 26 the next frame of Grove's output queue is admitted and waits for its
build (R99). For port 27 a frame of the management transmit ring enters; without one the next PDU of a
1722 stream is admitted (R235). -/
def Dev.pacerAdmit (d : Dev) (management : Bool) (frame : List Byte) : Dev :=
  if !management then d.admitNext 26
  else if frame = [] then d.admitNext 27
  else if d.paceOpen 27 && decide (frame.length ≤ 9212) then d.enterPaced 27 frame true
  else d

end Sys2Proof.Machine
end

