-- ==== Sys2Proof/Machine/GroveFlow.lean ====
section
/-! DEFINITION. Grove's flow: its inputs and the arbiter (R89, R100, R112), reception timeouts (R101,
R102), destinations (R90, R98, R99, R105, R368), and the running, loading, testing and retirement of
engines (R111, R122 to R126, R327). -/

namespace Sys2Proof.Machine
open Sys2Proof

/-! ## Inputs (R89, R100) -/

/-- What an input offers. -/
structure Offer where
  src : Nat
  bus : Nat
  chan : Nat
  id : Nat
  fmt : Nat
  udp : Option Nat
  data : List Byte
  stamp : Nat
  ns : Nat
  fifo : Option (Nat × Nat)
  frame : Option Nat
  /-- R326: the element cannot be read, and the error that is met at the read. -/
  bad : Bool := false
  err : Option WordErr := none

/-- R140: the landed item at the read position of a receive FIFO that Grove owns. -/
def Dev.fifoNext (d : Dev) (c : Fin 80) (f : Fin 3) : Option FsItem :=
  let q : FifoId := .chan c f
  if d.flag (F.FS_CFG_EN c f) && d.get (F.FS_CFG_OWNER c f) == 0 && decide (d.get (fsRpos q) < d.get (fsFill q)) then
    (d.fsItems c f)[d.get (fsRpos q)]?
  else none

/-- The n bytes at offset `off` of a received CAN element. -/
def Dev.rxElem (d : Dev) (c f block off n : Nat) : List Byte :=
  let base := if f = 0 then d.get (F.CAN_MR_RX0_BASE c) else d.get (F.CAN_MR_RX1_BASE c)
  let size := if f = 0 then d.get (F.CAN_MR_RX0_BLOCKS c) else d.get (F.CAN_MR_RX1_BLOCKS c)
  (List.range n).map (fun k => tget (d.chanSt c).ram (elemAddr base size (block - base) (off + k)))

/-- R324: the uncorrectable error that stands in an element of a CAN receive FIFO. -/
def Dev.rxErr (d : Dev) (c f : Nat) (it : FsItem) : Option WordErr :=
  let r := if f = 0 then (d.get (F.CAN_MR_RX0_BASE c), d.get (F.CAN_MR_RX0_BLOCKS c))
    else (d.get (F.CAN_MR_RX1_BASE c), d.get (F.CAN_MR_RX1_BLOCKS c))
  d.errIn 6 c (fun a => itemHolds r (a / 16) it)

/-- R89: what a CAN item offers. -/
def Dev.canOffer (d : Dev) (c : Fin 80) (f : Fin 3) (it : FsItem) : Offer :=
  let err := d.rxErr c f it
  let ctrl := leNat (d.rxElem c f it.block 4 4)
  let fmt := bitsOf ctrl 12 2
  let w := leNat (d.rxElem c f it.block 0 4)
  { src := c, bus := 0, chan := c, id := if fmt = 2 then bitsOf w 0 11 else bitsOf w 0 30, fmt, udp := none
    data := d.rxElem c f it.block 24 (bitsOf ctrl 0 12), stamp := leNat (d.rxElem c f it.block 16 8)
    ns := it.ns, fifo := some (c, f), frame := none, bad := it.bad || err.isSome, err }

/-- R89: what a LIN item offers. -/
def Dev.linOffer (d : Dev) (c : Fin 80) (it : FsItem) : Offer :=
  let a := 0x400 + 32 * it.block
  let ctrl := d.ramNat c a 4
  { src := c, bus := 1, chan := c - 64, id := bitsOf ctrl 0 6, fmt := 0, udp := none
    data := d.ramBytes c (a + 16) (bitsOf ctrl 8 4), stamp := d.ramNat c (a + 4) 8
    ns := it.ns, fifo := some (c, 0), frame := none }

/-- A big-endian 16-bit word of a frame, 0 when the frame ends before it. -/
def word16 (f : List Byte) (off : Nat) : Nat := if off + 2 ≤ f.length then beAt f off 2 else 0

/-- R89: where the EtherType behind at most two VLAN tags lies. -/
def etherOff (f : List Byte) : Nat :=
  let vlan := fun t => t == 0x8100 || t == 0x88A8
  if vlan (word16 f 12) then (if vlan (word16 f 16) then 20 else 16) else 12

/-- R89: where the UDP header lies: IPv4 without fragmentation, or IPv6 without extension headers. -/
def udpOff (f : List Byte) : Option Nat :=
  let ip := etherOff f + 2
  let et := word16 f (etherOff f)
  let ihl := beAt f ip 1 % 16 * 4
  let v4 := et == 0x0800 && decide (ip + 20 ≤ f.length) && beAt f (ip + 9) 1 == 17 &&
    beAt f (ip + 6) 2 % 2 ^ 14 == 0 && decide (20 ≤ ihl)
  let v6 := et == 0x86DD && decide (ip + 40 ≤ f.length) && beAt f (ip + 6) 1 == 17
  let u := if v4 then ip + ihl else ip + 40
  if (v4 || v6) && decide (u + 8 ≤ f.length) then some u else none

/-- R89: the identifier of an Ethernet frame and its UDP destination port. -/
def etherId (f : List Byte) : Nat × Option Nat :=
  let other := 0xFFFF0000 + word16 f (etherOff f)
  match udpOff f with
  | none => (other, none)
  | some u =>
    let n := min (beAt f (u + 4) 2) (f.length - u)
    (if 12 ≤ n then beAt f (u + 8) 4 else other, some (beAt f (u + 2) 2))

/-- R100: the input numbered k offers its next PDU: CAN 0–63, LIN 64–79, host ports 80 and 81, port
26 at 82. A CAN channel offers the older item of its two FIFOs. -/
def Dev.offer (d : Dev) (k : Nat) : Option Offer :=
  if k < 64 then
    let c := Fin.ofNat 80 k
    match d.fifoNext c 0, d.fifoNext c 1 with
    | some a, some b => some (if a.seq ≤ b.seq then d.canOffer c 0 a else d.canOffer c 1 b)
    | some a, none => some (d.canOffer c 0 a)
    | none, some b => some (d.canOffer c 1 b)
    | none, none => none
  else if k < 80 then (d.fifoNext (Fin.ofNat 80 k) 0).map (d.linOffer (Fin.ofNat 80 k))
  else if k < 82 then
    match tget d.gv.hostIn (k - 80) with
    | [] => none
    | x :: _ => some {
        src := srcHost (k - 80), bus := 3, chan := k - 80, id := leNat (x.data.take 4), fmt := 0, udp := none
        data := x.data.drop 4, stamp := x.ns * 8 % 2 ^ 35, ns := x.ns, fifo := none, frame := none }
  else
    match d.gv.port26 with
    | none => none
    | some id =>
      match d.frame? id with
      | none => none
      | some g =>
        let f := d.copyBytes g 26 none
        if (d.port 26).tx.isSome then none
        else some {
          src := srcPort g.port, bus := 2, chan := g.port, id := (etherId f).1, fmt := 0, udp := (etherId f).2
          data := f, stamp := g.stamp, ns := (g.base / 64).toNat, fifo := none, frame := some id }

/-- The offer of input k is taken from it. -/
def Dev.takeOffer (d : Dev) (k : Nat) (o : Offer) : Dev :=
  let d := match o.fifo with
    | some (c, f) => d.fsAdvance (.chan (Fin.ofNat 80 c) (Fin.ofNat 3 f))
    | none => d
  if 80 ≤ k ∧ k < 82 then { d with gv := { d.gv with hostIn := tmod d.gv.hostIn (k - 80) (fun l => l.drop 1) } }
  else if k = 82 then { d with gv := { d.gv with port26 := none } }
  else d

/-! ## The arbiter (R89, R100, R112) -/

/-- R93: an instance or a discarded frame takes its place in the order of its source. -/
def Dev.enlist (d : Dev) (src : Nat) (ended : Bool) (fifo : Option (Nat × Nat)) (frame : Option Nat) : Dev :=
  let it : SrcItem := { serial := d.gv.serial, ended, fifo, frame := if ended then none else frame }
  let d := { d with gv := { d.gv with
    srcs := tmod d.gv.srcs src (fun l => l ++ [it]), serial := d.gv.serial + 1 } }
  if ended then (d.releaseEnded src).releaseFrame frame else d

/-- R94: whether an instance of a PDU is paired; a safety-class one that is not is counted. -/
def Dev.pairing (d : Dev) (e : PduEntry) : Dev × Bool :=
  if !pduSafety e then (d, false)
  else if d.flag F.GV_CFG_PAIR_EN then (d, true)
  else (d.bump F.GV_UNPAIRED_COUNT, false)

/-- R89, R93: an offer is discarded and counted. -/
def Dev.discardOffer (d : Dev) (o : Offer) (f : Fld) : Dev := (d.bump f).enlist o.src true o.fifo o.frame

/-- R89, R101, R112: an offer is matched to its receive PDU: its instance, or none for a frame that is
discarded. -/
def Dev.matchOffer (d : Dev) (o : Offer) : Dev × Option Instance :=
  match d.rxPdu o.bus o.chan o.id with
  | none => (d.discardOffer o F.GV_UNMATCHED_COUNT, none)
  | some i =>
    let e := d.pdu i
    let port := bitsOf e.w6 0 16
    if o.bus = 0 ∧ pduFormat e ≠ o.fmt then (d.discardOffer o F.GV_FORMAT_COUNT, none)
    else if o.bus = 2 ∧ port ≠ 0 ∧ o.udp ≠ some port then (d.discardOffer o F.GV_UNMATCHED_COUNT, none)
    else
      let (d, paired) := d.pairing e
      let serial := d.gv.serial
      let d := (d.enlist o.src false o.fifo o.frame).modPdu i (fun e => { e with timedOut := false, since := max e.since o.ns })
      (d, some {
        serial, src := o.src, pdu := i, paired, first := pduFirst e, count := pduCount e, hook := pduHook e
        rxlen := o.data.length, fits := min (pduLen e) o.data.length, gen := e.gen
        input := leNat (o.data.take 2048), stamp := o.stamp, resume := e.timedOut })

/-- R101: the instance of a declared timeout; none where the PDU is no longer the one it was declared
for. -/
def Dev.timeoutInst (d : Dev) (t : Declared) : Dev × Option Instance :=
  let e := d.pdu t.pdu
  if pduIsRx e && e.gen == t.gen then
    let (d, paired) := d.pairing e
    let serial := d.gv.serial
    (d.enlist srcSweep false none none, some {
      serial, src := srcSweep, pdu := t.pdu, timeout := true, paired, first := pduFirst e, count := pduCount e
      hook := pduHook e, rxlen := pduLen e, fits := pduLen e, gen := e.gen, stamp := t.ns * 8 % 2 ^ 35 })
  else (d, none)

/-- The first input from the round robin's next one that offers a PDU. -/
def Dev.nextInput (d : Dev) : Option (Nat × Offer) :=
  (List.range 83).findSome? (fun j =>
    let k := (d.gv.rr + j) % 83
    (d.offer k).map (fun o => (k, o)))

/-- R100: the arbiter takes its next instance: timeouts first, then the inputs round robin; what
matches nothing is discarded on the way. -/
def Dev.arbitrate (d : Dev) : Nat → Dev
  | 0 => d
  | fuel + 1 =>
    match d.gv.declared with
    | t :: rest =>
      let d := { d with gv := { d.gv with declared := rest } }
      match d.timeoutInst t with
      | (d, some x) => { d with gv := { d.gv with arb := some x } }
      | (d, none) => d.arbitrate fuel
    | [] =>
      match d.nextInput with
      | none => d
      | some (k, o) =>
        if o.bad then (((o.err.elim d d.reportErr).takeOffer k o).enlist o.src true o.fifo o.frame).arbitrate fuel
        else match (d.takeOffer k o).matchOffer o with
          | (d, some x) => { d with gv := { d.gv with arb := some x, rr := (k + 1) % 83 } }
          | (d, none) => d.arbitrate fuel

/-- More than every input can hold. -/
def Dev.arbFuel (d : Dev) : Nat :=
  6000 + d.gv.declared.length + (tget d.gv.hostIn 0).length + (tget d.gv.hostIn 1).length

/-- R101: an instance of a timeout that has not started is dropped when its PDU has been written with
VALID = 0. -/
def Dev.dropStale (d : Dev) : Dev :=
  match d.gv.arb with
  | none => d
  | some x =>
    let e := d.pdu x.pdu
    if x.timeout && !(pduIsRx e && e.gen == x.gen) then
      { d with gv := { d.gv with arb := none } }.endItem x.src x.serial
    else d

/-- The arbiter holds its next instance, if there is one. -/
def Dev.fillArb (d : Dev) : Dev :=
  let d := d.dropStale
  if d.gv.arb.isSome then d else d.arbitrate d.arbFuel

/-- R112: thread t waits for work on a serving engine. -/
def Dev.waits (d : Dev) (t : Nat) : Bool :=
  d.serving (t / 8) && !d.calThread t &&
    (match (d.thr t).st with
     | .awaitWork _ => true
     | _ => false)

/-- R114, R116: thread t receives an instance. -/
def Dev.deliver (d : Dev) (t partner rd : Nat) (x : Instance) : Dev :=
  (d.modThr t (fun c => { c with inst := some { x with partner, start := d.baseNs }, stage := {} })).gxDone t rd
    (x.pdu + boolNat x.timeout * 2 ^ 16 + boolNat x.paired * 2 ^ 17)
    |>.busyFor t (40 + if x.timeout then 0 else (x.rxlen + 31) / 32)

/-- The destination register of a thread that waits for work. -/
def Dev.waitRd (d : Dev) (t : Nat) : Nat :=
  match (d.thr t).st with
  | .awaitWork rd => rd
  | _ => 0

/-- R112: the instance that the arbiter holds is handed to thread t, whose result goes to x[rd], and
a paired one to t2 as well; it waits while t2 cannot take it. -/
def Dev.handTo (d : Dev) (t t2 rd : Nat) : Dev :=
  match d.gv.arb with
  | none => d
  | some x =>
    let took := { d with gv := { d.gv with arb := none } }
    if x.paired then
      if t2 / 8 != t / 8 && d.waits t2 then (took.deliver t t2 rd x).deliver t2 t (d.waitRd t2) x
      else d
    else took.deliver t 0 rd x

/-- INSTANCE_HANDOVER. -/
def Dev.handover (d : Dev) (t t2 : Nat) : Dev :=
  if d.waits t then d.fillArb.handTo t t2 (d.waitRd t) else d

/-- GX.PDUGET. A non-blocking one takes an instance at once or reports that none waits; `t2` takes a
paired one with it. -/
def Dev.gxPduget (d : Dev) (t pc rd : Nat) (block : Bool) (t2 : Nat) : Dev :=
  d.withThread t pc (fun d c =>
    if c.inst.isSome then d.threadFault t 0x11 pc
    else if block then d.modThr t (fun c => { c with st := .awaitWork rd })
    else
      let d := if d.serving (t / 8) then d.fillArb.handTo t t2 rd else d
      if (d.thr t).inst.isSome then d else d.gxDone t rd (2 ^ 31))

/-! ## Wakes (R63, R97, R123) -/

/-- R63, R97: a Canopy GROVE wake: whether it was taken. A wake for the calendar's thread steps the
calendar. A waiting thread takes its wake; another holds one pending. -/
def Dev.gvWake (d : Dev) (t param : Nat) : Dev × Bool :=
  if d.calThread t then
    if d.released (.gv 0) && d.enabled (.gv 0) then (d.calendarStep, true) else (d, false)
  else
    match (d.thr t).st with
    | .awaitWake rd =>
      if !d.resting (t / 8) then ((d.gxDone t rd param).busyFor t 2, true)
      else if (d.thr t).wake.isSome then (d, false)
      else (d.modThr t (fun c => { c with wake := some param }), true)
    | _ => if (d.thr t).wake.isSome then (d, false) else (d.modThr t (fun c => { c with wake := some param }), true)

/-! ## Reception timeouts (R101, R102) -/

/-- R101: the sweeper declares a timeout of a receive PDU. `asleep` tells of a channel whose group is
asleep (R102). -/
def Dev.rxTimeout (d : Dev) (i : Nat) (asleep : Nat → Nat → Bool) : Dev :=
  let e := d.pdu i
  if d.released (.gv 0) && d.enabled (.gv 0) && d.mode != 8 && pduIsRx e && !e.timedOut && pduTimeoutMs e != 0 &&
      !asleep (pduBus e) (pduChan e) && decide (e.since + pduTimeoutMs e * 1000000 ≤ d.baseNs) then
    let d := ((d.modPdu i (fun e => { e with timedOut := true })).bump F.GV_TIMEOUTS_COUNT).raise (.gv 0) 2
    { d with gv := { d.gv with declared := d.gv.declared ++ [{ pdu := i, gen := e.gen, ns := d.baseNs }] } }
  else d

/-- R102: the elapsed time of the receive PDUs that satisfy a test counts from now. -/
def Dev.restartTimeouts (d : Dev) (p : PduEntry → Bool) : Dev :=
  let now := d.baseNs
  { d with gv := { d.gv with
      pdu := tmap d.gv.pdu (fun (e : PduEntry) => if pduIsRx e && p e then { e with since := now } else e) } }

/-! ## Destinations (R90, R98, R99, R105, R368) -/

/-- The number of a destination's queue in `GvSt.queues`. -/
def destIndex : GvDest → Nat
  | .can n => n
  | .lin n => 64 + n
  | .port26 => 80
  | .host q => 81 + q

/-- The bytes of an image. -/
def imageBytes (e : PduEntry) : List Byte := leBytes (pduLen e) e.image

/-- RFC 1071: the one's complement of the one's complement sum of 16-bit words. -/
def onesSum (bs : List Byte) : Nat :=
  let rec go : List Byte → Nat
    | [] => 0
    | [a] => a.toNat * 256
    | a :: b :: t => a.toNat * 256 + b.toNat + go t
  let s := go bs
  let s := s % 65536 + s / 65536
  let s := s % 65536 + s / 65536
  65535 - s

/-- R90: a frame with the checksums that its descriptor asks for, and whether one was not written. -/
def checksums (w6 : Nat) (f : List Byte) : List Byte × Bool :=
  let ip := bitsOf w6 0 8
  let n := f.length
  let ihl := if ip < n then beAt f ip 1 % 16 * 4 else 0
  let hdr := decide (20 ≤ ihl) && decide (ip + ihl ≤ n)
  let (f, skip4) :=
    if !bitOf w6 8 then (f, false)
    else if hdr then
      let z := overlay f (ip + 10) [0, 0]
      (overlay z (ip + 10) (beBytes 2 (onesSum (slice z ip ihl))), false)
    else (f, true)
  let u := ip + ihl
  let len := beAt f (u + 4) 2
  let ok := hdr && decide (u + 8 ≤ n) && decide (8 ≤ len) && decide (u + len ≤ n)
  if !bitOf w6 9 then (f, skip4)
  else if ok then
    let z := overlay f (u + 6) [0, 0]
    let c := onesSum (slice z (ip + 12) 8 ++ [0, 17] ++ beBytes 2 len ++ slice z u len)
    (overlay z (u + 6) (beBytes 2 (if c = 0 then 0xFFFF else c)), skip4)
  else (f, true)

/-- R368: the element of a CAN send. -/
def canElement (e : PduEntry) : List Byte :=
  let xl := pduFormat e == 2
  let ctrl := pduLen e + pduFormat e * 2 ^ 12 + bitsOf e.w6 17 1 * 2 ^ 14 + bitsOf e.w6 8 8 * 2 ^ 16 +
    bitsOf e.w6 16 1 * 2 ^ 24 + bitsOf e.w6 18 1 * 2 ^ 25 + bitsOf e.w6 25 1 * 2 ^ 26
  let aux := bitsOf e.w6 0 8 + bitsOf e.w6 19 6 * 2 ^ 8 + pduTag e * 2 ^ 16
  elemBytes (bitsOf e.w1 0 (if xl then 11 else 30)) ctrl e.w3 aux 0 (imageBytes e)

/-- R368: the element of a LIN send. -/
def linElement (e : PduEntry) : List Byte :=
  leBytes 4 (bitsOf e.w1 0 6 + pduLen e * 2 ^ 8 + bitsOf e.w6 0 2 * 2 ^ 12) ++ leBytes 12 0 ++ imageBytes e

/-- R99: the free slot with which a CAN or LIN channel can accept a send. -/
def Dev.sendSlot (d : Dev) (c : Fin 80) : Option Nat :=
  if d.flag (F.FS_CFG_EN c 2) && d.get (F.FS_CFG_OWNER c 2) == 0 && decide ((d.chanSt c).tx.length < 32) then
    findBelow 32 (fun s => d.anySlotFree c s)
  else none

/-- R37, R39, R99: the ring of a host queue that can take an item now. -/
def Dev.queueRing (d : Dev) (q : Nat) : Option (Nat × Nat) :=
  [0, 1].findSome? (fun p =>
    match d.backRing p 3 (some q) with
    | some r => if tget (tget d.hb p).back r = [] then some (p, r) else none
    | none => none)

/-- R103: the 16 bytes of an event PDU. -/
def eventBytes (e : EventPdu) : List Byte :=
  leBytes 1 e.type ++ leBytes 1 (boolNat (decide (1 < e.count))) ++ leBytes 2 e.source ++ leBytes 2 e.count ++
    leBytes 2 e.announce ++ leBytes 4 e.data ++ leBytes 4 e.first

/-- R368: an element is written into a free slot and pushed. What does not fit in the slot is not
written. -/
def Dev.sendElement (d : Dev) (c : Fin 80) (slot : Nat) (e : PduEntry) : Dev :=
  if c.val < 64 then
    let bytes := (canElement e).take (d.get (F.CAN_MR_TX_SLOT_BLOCKS c) * 64)
    let d := d.ramWrite c (d.slotAddr c slot) bytes
    d.fsPush c 2 slot (d.slotBlocks c slot) d.baseNs
  else (d.ramWrite c (0x800 + 32 * slot) (linElement e)).fsPush c 2 slot 1 d.baseNs

/-- R99: the head of queue k leaves it; a PDU is no longer pending and its gap begins. -/
def Dev.popQueue (d : Dev) (k : Nat) (it : GvItem) : Dev :=
  let d := d.setQueue k ((d.queue k).drop 1)
  match it with
  | .pdu i => d.modPdu i (fun e => { e with pending := false, lastSend := some d.baseNs })
  | .event _ => d

/-- R98: the head of a queue may be sent now. -/
def Dev.gapOver (d : Dev) (it : GvItem) : Bool :=
  match it with
  | .pdu i =>
    (match (d.pdu i).lastSend with
     | some t => decide (t + pduGapUs (d.pdu i) * 1000 ≤ d.baseNs)
     | none => true)
  | .event _ => true

/-- R90, R99: a PDU is built and sent to port 26. -/
def Dev.sendFrame (d : Dev) (i : Nat) : Dev :=
  let (f, skip) := checksums (d.pdu i).w6 (imageBytes (d.pdu i))
  (if skip then d.bump F.GV_CSUM_SKIP_COUNT else d).enterPaced 26 f true

/-- R105: an item is delivered to a ring. -/
def Dev.sendHost (d : Dev) (p r : Nat) (it : GvItem) : Dev :=
  match it with
  | .pdu i => d.pushBack p r {
      data := leBytes 4 i ++ imageBytes (d.pdu i), stamp := (d.pdu i).stamp, event := false, frame := none
      pdu := some i }
  | .event e => d.pushBack p r { data := eventBytes e, stamp := e.stamp, event := true, frame := none
                                 pdu := some (if 4 ≤ e.type then e.source else 0) }

/-- DESTINATION_ACCEPT. -/
def Dev.destAccept (d : Dev) (x : GvDest) : Dev :=
  let k := destIndex x
  match d.queue k with
  | [] => d
  | it :: _ =>
    if !d.released (.gv 0) || !d.enabled (.gv 0) || d.mode == 3 || !d.gapOver it then d
    else
      match x, it with
      | .can n, .pdu i =>
        (match d.sendSlot (canC n) with
         | some s => (d.popQueue k it).sendElement (canC n) s (d.pdu i)
         | none => d)
      | .lin n, .pdu i =>
        (match d.sendSlot (linC n) with
         | some s => (d.popQueue k it).sendElement (linC n) s (d.pdu i)
         | none => d)
      | .port26, .pdu i => if (d.port 26).admitted then (d.popQueue k it).sendFrame i else d
      | .host q, it =>
        (match d.queueRing q with
         | some (p, r) => (d.popQueue k it).sendHost p r it
         | none => d)
      | _, .event _ => d

/-! ## Running and halting (R111, R125, R126) -/

/-- R111: a write of RUN = 1: every thread is cleared, and those of the healthy engines start, after
the initial test if it has not been passed. -/
def Dev.runStart (d : Dev) : Dev :=
  let d := d.put F.GV_ENG_CTRL_RUN 1
  let init := !d.flag F.GV_ROT_STAT_INIT_DONE
  let d := { d with gv := { d.gv with initTest := init } }
  (List.range 128).foldl (fun (a : Dev) t =>
    let a := a.clearData t
    let st : ThreadSt :=
      if !a.healthy (t / 8) || (!init && a.calThread t) then .halted else if init then .selftest else .ready
    a.modThr t (fun c => freshThread c st)) d

/-- R111: a write of RUN = 0. -/
def Dev.runStop (d : Dev) : Dev :=
  let d := (d.put F.GV_ENG_CTRL_RUN 0).haltAll
  { d with gv := { d.gv with initTest := false } }

/-- R111, R127: a write of GV_ENG_CTRL. -/
def Dev.engCtrlWrite (d : Dev) (v : Word) : Wr :=
  let run := newField v F.GV_ENG_CTRL_RUN == 1
  if run == d.flag F.GV_ENG_CTRL_RUN then .ok d
  else if run then .ok d.runStart
  else refuseIf (d.mode != 8 && d.enabled (.gv 0)) 0x0110 (.ok d.runStop)

/-- R124: engines that are not retired. -/
def Dev.healthyCount (d : Dev) : Nat := ((List.range 16).filter (fun e => d.healthy e)).length

/-- R124: engine e is retired. Its report carries its number in byte 1. -/
def Dev.retire (d : Dev) (e : Nat) : Dev :=
  if d.healthy e then
    let d := (List.range 8).foldl (fun (a : Dev) k =>
      (a.abortInst (8 * e + k)).modThr (8 * e + k) (fun c => { c with st := .halted })) d
    let own := d.resting e
    let d := d.put F.GV_ENG_STAT_RETIRED (setBit (d.get F.GV_ENG_STAT_RETIRED) e)
    let d := if own then
        { d.put F.GV_ROT_STAT_PHASE 0 with gv := { d.gv with next := (e + 1) % 16, again := false } }
      else d
    (d.raise (.gv (3 + e)) 2).report 5 (e * 2 ^ 8)
  else d

/-! ## Rotating self-test (R122, R123, R126, R327) -/

/-- R122, R327: time in ns that counts for the self-test limit. -/
def Dev.testTime (d : Dev) : Nat :=
  d.baseNs - d.gv.idle - (match d.gv.idleSince with
    | some t => d.baseNs - t
    | none => 0)

/-- The next healthy engine from e on. -/
def Dev.healthyFrom (d : Dev) (e : Nat) : Option Nat :=
  (List.range 16).findSome? (fun j => if d.healthy ((e + j) % 16) then some ((e + j) % 16) else none)

/-- R327: with x as the next engine, the turns in ascending order behind it, each at most 100.1 ms,
leave no healthy engine untested for more than 2.4 s. -/
def Dev.turnFits (d : Dev) (x : Nat) : Bool :=
  let order := ((List.range 16).map (fun j => (x + j) % 16)).filter (fun e => d.healthy e)
  (List.range order.length).all (fun j =>
    decide (d.testTime + (j + 1) * 100100000 ≤ tget d.gv.tested ((order[j]?).getD 0) + 2400000000))

/-- R122, R327: a turn begins with the requested engine if it may, else with engine e or the next
healthy one. -/
def Dev.beginTurn (d : Dev) (e : Nat) (again : Bool) : Dev :=
  let req := d.get F.GV_ROT_CMD_ENGINE
  let asked := !again && d.flag F.GV_ROT_CMD_GO && d.healthy req && d.turnFits req
  match (if asked then some req else d.healthyFrom e) with
  | none => d
  | some x =>
    let d := if asked then d.put F.GV_ROT_CMD_GO 0 else d
    let d := (d.put F.GV_ROT_STAT_RESTING x).put F.GV_ROT_STAT_PHASE 1
    { d with gv := { d.gv with again := false, phaseAt := d.baseNs } }

/-- R123: a wake that stayed pending is taken by a thread that waits for it. -/
def Dev.takeWake (d : Dev) (t : Nat) : Dev :=
  match (d.thr t).st, (d.thr t).wake with
  | .awaitWake rd, some p => (d.modThr t (fun c => { c with wake := none })).gxDone t rd p
    |>.busyFor t 2
  | _, _ => d

/-- R122, R123: the threads of the engine under test start again with cleared state, and those that drained
take the wakes that stayed pending. -/
def Dev.rejoin (d : Dev) (e : Nat) : Dev :=
  (List.range 8).foldl (fun (a : Dev) k =>
    if (a.thr (8 * e + k)).st = .selftest then a.startThread (8 * e + k) else a.takeWake (8 * e + k)) d

/-- R122, R126: the turn in progress is abandoned: the same engine begins it again later. -/
def Dev.abandonTurn (d : Dev) (phase : Nat) : Dev :=
  let e := d.get F.GV_ROT_STAT_RESTING
  let d := (d.rejoin e).put F.GV_ROT_STAT_PHASE phase
  { d with gv := { d.gv with next := e, again := true, phaseAt := d.baseNs } }

/-- R122, R126: after every command rotation follows ENABLE, RUN and the mode. -/
def Dev.rotSync (d : Dev) : Dev :=
  let counts := d.flag F.GV_ENG_CTRL_RUN && d.enabled (.gv 0)
  let d := match d.gv.idleSince with
    | some t => if counts then { d with gv := { d.gv with idle := d.gv.idle + (d.baseNs - t), idleSince := none } } else d
    | none => if counts then d else { d with gv := { d.gv with idleSince := some d.baseNs } }
  let phase := d.get F.GV_ROT_STAT_PHASE
  if d.gvRuns && d.enabled (.gv 0) then
    if d.mode = 8 then (if phase = 1 ∨ phase = 2 then d.abandonTurn 3 else d)
    else if phase = 0 ∨ phase = 3 then d.beginTurn d.gv.next d.gv.again
    else d
  else if phase != 0 then d.abandonTurn 0 else d

/-- SELFTEST_START: the resting engine holds no instance. -/
def Dev.selftestStart (d : Dev) : Dev :=
  let e := d.get F.GV_ROT_STAT_RESTING
  if d.get F.GV_ROT_STAT_PHASE == 1 && (List.range 8).all (fun k => (d.thr (8 * e + k)).inst.isNone) then
    let d := d.put F.GV_ROT_STAT_PHASE 2
    let d := { d with gv := { d.gv with phaseAt := d.baseNs } }
    (List.range 8).foldl (fun (a : Dev) k => a.modThr (8 * e + k) (fun c => freshThread c .selftest)) d
  else d

/-- SELFTEST_DONE: the engine passes and rejoins, or is retired; the next turn begins. -/
def Dev.selftestDone (d : Dev) (pass : Bool) : Dev :=
  let e := d.get F.GV_ROT_STAT_RESTING
  if d.get F.GV_ROT_STAT_PHASE = 2 then
    let d := if pass then
        let d := d.bumpWrap F.GV_ROT_CYCLES_COUNT
        { d with gv := { d.gv with tested := tset d.gv.tested e d.testTime } }.rejoin e
      else d.retire e
    (d.put F.GV_ROT_STAT_PHASE 0).beginTurn ((e + 1) % 16) false
  else d

/-- ENGINE_INIT_TEST_DONE: engines whose bit of `failed` is set are retired; the threads start. -/
def Dev.initTestDone (d : Dev) (failed : Nat) : Dev :=
  if d.gv.initTest && d.released (.gv 2) then
    let d := { d with gv := { d.gv with initTest := false } }
    let d := (List.range 16).foldl (fun (a : Dev) e => if bitOf failed e then a.retire e else a) d
    let d := d.put F.GV_ROT_STAT_INIT_DONE 1
    let d := (List.range 16).foldl (fun (a : Dev) e =>
      { a with gv := { a.gv with tested := tset a.gv.tested e a.testTime } }) d
    (List.range 128).foldl (fun (a : Dev) t =>
      if a.healthy (t / 8) then (if a.calThread t then a.modThr t (fun c => { c with st := .halted }) else a.startThread t)
      else a) d
  else d

/-- R127, R327: a write of GV_ROT_CMD. -/
def Dev.rotCmdWrite (d : Dev) (v : Word) : Wr :=
  refuseIf (!d.healthy (newField v F.GV_ROT_CMD_ENGINE) || d.mode == 8) 0x0111 (.ok (d.store R.GV_ROT_CMD v))

/-! ## The loader and the local memory window (R111, R126) -/

/-- R126: a write of GV_LOAD_CTRL. -/
def Dev.loadWrite (d : Dev) (who : Init) (v : Word) : Wr :=
  let n := d.get F.GV_LOAD_LEN_BYTES
  if newField v F.GV_LOAD_CTRL_GO = 0 ∨ d.get F.GV_LOAD_CTRL_STATE = 1 then .ok d
  else
    refuseIf (d.flag F.GV_ENG_CTRL_RUN || n == 0 || n % 64 != 0 || decide (196608 < n)) 0x0110 <|
    .ok ({ (d.put F.GV_LOAD_CTRL_GO 1).put F.GV_LOAD_CTRL_STATE 1 with gv := { d.gv with loadRetry := false, loadFw := who == .mc } })

/-- Words of local memory of engine e written from word a on. -/
def writeWords (lm : Tab Word) : Nat → List Byte → Nat → Tab Word
  | _, _, 0 => lm
  | a, bs, fuel + 1 =>
    if bs = [] then lm else writeWords (tset lm a (BitVec.ofNat 32 (leNat (bs.take 4)))) (a + 1) (bs.drop 4) fuel

/-- GV_LOAD_DONE: a copy of the bytes at GV_LOAD_SRC into every healthy engine ends and is checked; where the code
that lies there is known, a copy that does not begin with it fails too. A first copy that fails is made once more.
While RUN = 1 nothing is written and the load fails (R111). -/
def Dev.loadDone (d : Dev) (code : Option (List Byte)) (bytes : List Byte) : Dev :=
  if d.get F.GV_LOAD_CTRL_STATE = 1 ∧ d.flag F.GV_ENG_CTRL_RUN then
    (d.put F.GV_LOAD_CTRL_GO 0).put F.GV_LOAD_CTRL_STATE 3
  else if d.get F.GV_LOAD_CTRL_STATE = 1 then
    let bs := Sys2Proof.Machine.slice bytes 0 (d.get F.GV_LOAD_LEN_BYTES)
    let lm := (List.range 16).foldl (fun lm e => if d.healthy e then writeWords lm (65536 * e) bs bs.length else lm) d.gv.lm
    let d := ({ d with gv := { d.gv with lm } }).wordsWritten
      (fun w => w.1 == 5 && d.healthy w.2.1 && decide (4 * w.2.2 < bs.length))
    if crc32c bs = d.get F.GV_LOAD_CRC_CRC ∧ code.all (fun c => bs.take c.length == c) then (d.put F.GV_LOAD_CTRL_GO 0).put F.GV_LOAD_CTRL_STATE 2
    else if d.gv.loadRetry then (d.put F.GV_LOAD_CTRL_GO 0).put F.GV_LOAD_CTRL_STATE 3
    else { d with gv := { d.gv with loadRetry := true } }
  else d

/-- R111: a write of GV_LM_DATA. -/
def Dev.lmWrite (d : Dev) (v : Word) : Wr :=
  let a := d.get F.GV_LM_ADDR_ADDR
  let mask := d.get F.GV_LM_SEL_MASK
  refuseIf (d.flag F.GV_ENG_CTRL_RUN) 0x0110 <|
  let lm := (List.range 16).foldl (fun lm e => if bitOf mask e then tset lm (65536 * e + a) v else lm) d.gv.lm
  .ok ((({ d with gv := { d.gv with lm } }).wordsWritten (fun w => w.1 == 5 && bitOf mask w.2.1 && w.2.2 == a)).put
    F.GV_LM_ADDR_ADDR (a + 1))

/-! ## Registers and modes -/

/-- A write to page k of GV at an offset of 0x040 or above. -/
def Dev.gvWrite (d : Dev) (k : Nat) (who : Init) (addr : Nat) (v : Word) : Wr :=
  if k < 2 then d.gvWrite01 k who addr v
  else if addr = R.GV_ENG_CTRL then d.engCtrlWrite v
  else if addr = R.GV_ROT_CMD then d.rotCmdWrite v
  else if addr = R.GV_LOAD_CTRL then d.loadWrite who v
  else if addr = R.GV_LM_DATA then d.lmWrite v
  else .ok (d.store addr v)

/-- R106, R111: every engine halts in Limp and Fault Hold. -/
def Dev.gvStop (d : Dev) : Dev :=
  let d := d.haltAll
  match d.gv.arb with
  | none => d
  | some x => { d with gv := { d.gv with arb := none } }.endItem x.src x.serial

/-- R106: on entry to Limp the pending sends, the event PDUs and the frame that the port 26 pacer has
admitted are discarded; a frame that has passed the pacer goes on, and its records are completed (R232). -/
def Dev.gvLimp (d : Dev) : Dev :=
  let d := d.gvStop
  let d := { d with gv := { d.gv with
    queues := [], declared := []
    pdu := tmap d.gv.pdu (fun (e : PduEntry) => { e with pending := false }) } }
  d.modPort 26 (fun s => { s with admitted := false })

end Sys2Proof.Machine
end

