-- ==== Sys2Proof/Machine/HostBridge.lean ====
section
/-! DEFINITION. The two PCIe ports: links and port resets (R32, R34), DMA rings and descriptors (R37
to R39, R234), Precision Time Measurement (R40), and the port pages' registers. -/

namespace Sys2Proof.Machine
open Sys2Proof

def Dev.port' (d : Dev) (p : Nat) : HbPort := tget d.hb p
def Dev.modHb (d : Dev) (p : Nat) (f : HbPort → HbPort) : Dev := { d with hb := tmod d.hb p f }

/-! ## Links and port resets (R32, R34) -/

/-- The offsets of a port page that R32 clears: the steering window, the posted-error log, the ring
registers. -/
def portCleared (off : Nat) : Bool :=
  off == 0x54 || (decide (0x80 ≤ off) && decide (off < 0x180)) || (decide (0x200 ≤ off) && decide (off < 0x400))

/-- R234: a DMA abort leaves RPTR of a log ring at the first record not delivered whole. -/
def Dev.ringBack (d : Dev) (r : Nat) : Dev :=
  let n := d.ringBytes r
  if n = 0 then d
  else
    (d.put (F.CP_RING_RPTR_PTR r) ((d.get (F.CP_RING_RPTR_PTR r) + n - (d.ring r).cut % n) % n)).modRing r
      (fun g => { g with cut := 0 })

/-- R32: steering table, posted-error log, MSI-X state and ring registers of a port are cleared and its
DMA is aborted. -/
def Dev.portClear (d : Dev) (p : Nat) : Dev :=
  let d := (List.range 16).foldl (fun (a : Dev) r => if d.get (F.CP_RING_CFG_CONSUMER r) = p + 1 then a.ringBack r else a) d
  let regs := d.regs.filter (fun e => !(pageOf e.1 == some (.hb (p + 1)) && portCleared (e.1 % 0x1000)))
  { d with regs, hb := tset d.hb p {} }.put (F.HB_PTM_CTRL_TRIGGER p) 0

/-- PCIE_PORT_RESET: a function-level or hot reset, or the data link goes down. -/
def Dev.portReset (d : Dev) (p : Nat) (linkDown : Bool) : Dev :=
  if d.released (.hb 1) && d.linkUp p then
    let d := (d.portClear p).put (F.HB_PORT_STAT_PTM_EN p) 0
    if linkDown then
      let d := (d.put (F.HB_PORT_STAT_LINK_UP p) 0).put (F.HB_PORT_STAT_WIDTH p) 0
      (d.put (F.HB_PORT_STAT_SPEED p) 0).raise (.hb (p + 1)) 3
    else d
  else d

/-- PCIE_LINK_UP: the data link comes up, trained once the host bridge is released (R275); `ptm` is the
port's PTM Enable, and a PTM period begins (R40). On a link that is up the row shows what a host has set
in the port's PTM capability since. -/
def Dev.portLinkUp (d : Dev) (p width speed : Nat) (ptm : Bool) : Dev :=
  if d.released (.hb 1) then
    let fresh := !d.linkUp p || (ptm && !d.flag (F.HB_PORT_STAT_PTM_EN p))
    let d0 := if fresh then d.modHb p (fun h => { h with ptmSince := d.plat.aon }) else d
    if d.linkUp p then d0.putFlag (F.HB_PORT_STAT_PTM_EN p) ptm
    else
      let d := ((d0.put (F.HB_PORT_STAT_LINK_UP p) 1).put (F.HB_PORT_STAT_WIDTH p) width).put (F.HB_PORT_STAT_SPEED p) speed
      ((d.putFlag (F.HB_PORT_STAT_PTM_EN p) ptm).put (F.HB_WSEQ_SEQ p) 0).raise (.hb (p + 1)) 3
  else d

/-! ## Rings (R37, R234) -/

/-- R37: a ring may finish a descriptor: it runs or finishes the one in progress, and is not empty. -/
def Dev.ringBusy (d : Dev) (p r : Nat) : Bool :=
  d.linkUp p && (d.flag (F.RING_CFG_ENABLE p r) || (d.port' p).finishing.contains r) &&
    d.get (F.RING_HEAD_INDEX p r) != d.get (F.RING_TAIL_INDEX p r)

/-- R11, R234: another enabled DMA ring of either port consumes the same queue: the log ring, or the Grove
output queue of a device-to-host ring. -/
def Dev.ringShared (d : Dev) (p r kind src : Nat) : Bool :=
  (List.range 2).any (fun o => (List.range 16).any (fun q => (o != p || q != r) &&
    d.flag (F.RING_CFG_ENABLE o q) && d.get (F.RING_CFG_KIND o q) == kind &&
    (kind == 2 || d.flag (F.RING_CFG_DIR o q)) && d.get (F.RING_CFG_SOURCE o q) == src))

/-- R37, R234, R11: the code with which a write that leaves ENABLE = 1 is refused, 0 where it is taken: a
SIZE of 13 to 15; a change of what the ring connects while it runs; a log ring or a Grove output queue that
does not exist, that another ring consumes, or whose CONSUMER is not the port. -/
def Dev.ringCode (d : Dev) (p r : Nat) (v : Word) : Nat :=
  let kind := newField v (F.RING_CFG_KIND p r)
  let src := newField v (F.RING_CFG_SOURCE p r)
  let back := newField v (F.RING_CFG_DIR p r) == 1
  if 13 ≤ newField v (F.RING_CFG_SIZE p r) then 0x0100
  else if d.flag (F.RING_CFG_ENABLE p r) then
    (if d.changes v (F.RING_CFG_KIND p r) || d.changes v (F.RING_CFG_SOURCE p r) || d.changes v (F.RING_CFG_DIR p r)
     then 0x0100 else 0)
  else if kind = 2 then
    (if 16 ≤ src ∨ d.get (F.CP_RING_CFG_CONSUMER src) ≠ p + 1 ∨ d.ringShared p r 2 src = true then 0x0100 else 0)
  else if kind = 3 ∧ back = true then (if 16 ≤ src ∨ d.ringShared p r 3 src = true then 0x0100 else 0)
  else 0

/-- R234: the next buffer of a ring may take bytes from now on. -/
def Dev.bufNext (d : Dev) (p r : Nat) : Dev := d.modHb p (fun h => { h with bufAt := tset h.bufAt r d.baseNs })

/-- R37: a write of RING_CFG. -/
def Dev.ringCfgHost (d : Dev) (p r : Nat) (v : Word) : Wr :=
  let on := newField v (F.RING_CFG_ENABLE p r) == 1
  let was := d.flag (F.RING_CFG_ENABLE p r)
  let d1 := d.store (R.RING_CFG p r) v
  refuseIf (on && d.ringCode p r v != 0) (d.ringCode p r v) <|
  .ok (if on && !was then (d1.modHb p (fun h => { h with finishing := h.finishing.filter (fun x => x != r) })).bufNext p r
    else if was && !on && d.ringBusy p r then d1.modHb p (fun h => { h with finishing := r :: h.finishing })
    else d1)

/-! ## Descriptors (R38, R39) -/

/-- R38: the device writes back the descriptor at HEAD and advances. FLAGS carries DONE and what the
device writes beside it. -/
def Dev.descDone (d : Dev) (p r : Nat) (x : Descriptor) (len : Option Nat) (flags stamp : Nat) : Dev :=
  let head := d.get (F.RING_HEAD_INDEX p r)
  let d := d.emit (.descriptor p r head len (1 + flags) stamp)
  let d := d.put (F.RING_HEAD_INDEX p r) ((head + 1) % 2 ^ (d.get (F.RING_CFG_SIZE p r) + 4))
  let d := (d.modHb p (fun h => { h with finishing := h.finishing.filter (fun y => y != r) })).bufNext p r
  if x.irq then d.notifyPort p (320 + r) else d

/-- R37: a host-to-device descriptor is sent: frames into the switch, requests to the management
mailbox, PDUs to Grove. A frame waits while the port still holds one (R189), a PDU while one waits for
Grove (R15). The spec gives its descriptor no stamp: a free value. -/
def Dev.descSend (d : Dev) (p r : Nat) (x : Descriptor) : Dev :=
  let all := tget (d.port' p).part r ++ Sys2Proof.Machine.slice x.data 0 x.len.toNat
  let kind := d.get (F.RING_CFG_KIND p r)
  let (stamp, d') := d.free (2 ^ 35)
  let done := (d'.modHb p (fun h => { h with part := tset h.part r [] })).descDone p r x none 0 stamp
  if !x.eop then (d'.modHb p (fun h => { h with part := tset h.part r all })).descDone p r x none 0 stamp
  else if kind = 0 then (if (d.port (24 + p)).rx = [] then done.enterPort (24 + p) all true else d)
  else if kind = 1 then done.emit (.mailbox p r all)
  else if kind = 3 then
    if tget d.gv.hostIn p ≠ [] then d
    else { done with gv := { done.gv with hostIn := tmod done.gv.hostIn p (fun l => l ++ [{ data := all, ns := done.baseNs }]) } }
  else done

/-- R38: FLAGS of a device-to-host descriptor. -/
def backFlags (eop event : Bool) (status : Nat) : Nat :=
  8 * boolNat eop + 16 * boolNat event + (if status = 0 then 0 else 4 + 256 * status)

/-- R225, R226: the delivery of a Grove PDU from a host queue begins: its taps copy it. The spec gives no time
base for its stamp: a free value. -/
def Dev.hqTap (d : Dev) (q : Nat) (it : BackItem) : Dev :=
  match it.pdu with
  | none => d
  | some i =>
    let (tb, d) := d.free 5
    d.tapEvent (112 + q) true it.data.length {
      source := capSource (112 + q) true tb, stamp := it.stamp, orig := it.data.length, aux := i, data := it.data }

/-- R37: on a ring of KIND 1 the management firmware answers through the mailbox. What it answers is the row's
data, EOP on its last buffer; the spec gives its descriptor no stamp: a free value. -/
def Dev.mailboxFill (d : Dev) (p r : Nat) (x : Descriptor) : Dev :=
  let bytes := x.data.take x.len.toNat
  if d.get (F.RING_CFG_KIND p r) = 1 ∧ bytes ≠ [] then
    let (stamp, d) := d.free (2 ^ 35)
    (d.emit (.hostData p r bytes)).descDone p r x (some bytes.length) (backFlags x.eop false 0) stamp
  else d

/-- R38, R39: a buffer takes the next bytes of what the producer made. -/
def Dev.descFill (d : Dev) (p r : Nat) (x : Descriptor) : Dev :=
  match tget (d.port' p).back r with
  | [] => d.mailboxFill p r x
  | it :: t =>
    let n := x.len.toNat
    let rest := it.data.drop n
    let back := if rest = [] then t else { it with data := rest, pdu := none } :: t
    let d := if d.get (F.RING_CFG_KIND p r) = 3 then d.hqTap (d.get (F.RING_CFG_SOURCE p r)) it else d
    let d := (d.emit (.hostData p r (it.data.take n))).modHb p (fun h => { h with back := tset h.back r back })
    d.descDone p r x (some (min n it.data.length)) (backFlags (rest == []) it.event 0) it.stamp

/-- R234: how many bytes of the visible records fill a buffer of n bytes: whole records, or a part of
one that no whole buffer holds. The Bool says that the buffer is full. -/
def fillRecs (n : Nat) : Nat → List Nat → Nat × Bool
  | got, [] => (got, got == n)
  | got, l :: t =>
    if got + l ≤ n then fillRecs n (got + l) t
    else if got = 0 then (n, true) else (got, true)

/-- R234: the lengths of what remains of the visible records. -/
def Dev.recLens (d : Dev) (src : Nat) : List Nat :=
  match (d.ring src).recs with
  | [] => []
  | a :: t => (a.bytes.length - (d.ring src).cut) :: t.map (fun x => x.bytes.length)

/-- R234: a buffer of a drain ring is completed when it is full, or FLUSH_US after its first byte. A log ring
whose CONSUMER is no longer the port delivers nothing here (R11). -/
def Dev.descDrain (d : Dev) (p r : Nat) (x : Descriptor) (flush : Bool) : Dev :=
  let src := d.get (F.RING_CFG_SOURCE p r)
  let (n, full) := fillRecs x.len.toNat 0 (d.recLens src)
  let first := max (d.ringSeen src) (tget (d.port' p).bufAt r)
  let late := decide (first + d.get (F.CP_RING_CFG_FLUSH_US src) * 1000 ≤ d.baseNs)
  if d.flag F.CP_MEM_STAT_SELF_REFRESH || d.get (F.CP_RING_CFG_CONSUMER src) != p + 1 then d
  else if n = 0 || !(full || (flush && late)) then d
  else
    let g := d.ring src
    let stamp := (g.recs.head?.map (fun y => y.stamp)).getD 0
    let (bytes, _) := takeBytes n g.cut 0 g.recs
    let whole := (cutBytes n g.cut g.recs).2 == 0
    let d := ((d.ddrError x.ecc).ringAdvance src n).emit (.hostData p r bytes)
    d.descDone p r x (some n) (backFlags whole false (if x.ecc = 2 then 3 else 0)) stamp

/-- DMA_DESCRIPTOR_DONE. -/
def Dev.dmaDone (d : Dev) (p r : Nat) (x : Descriptor) : Dev :=
  if d.ringBusy p r then
    if !d.flag (F.RING_CFG_DIR p r) then d.descSend p r x
    else if d.get (F.RING_CFG_KIND p r) = 2 then d.descDrain p r x false
    else d.descFill p r x
  else d

/-- DELIVERY_FLUSH_TIMEOUT for a buffer: FLUSH_US is over. -/
def Dev.dmaFlush (d : Dev) (p r : Nat) (x : Descriptor) : Dev :=
  if d.ringBusy p r && d.flag (F.RING_CFG_DIR p r) && d.get (F.RING_CFG_KIND p r) == 2 then d.descDrain p r x true
  else d

/-- DMA_FAULT: a host-memory access of a ring ends in an error completion or a timeout. -/
def Dev.dmaFault (d : Dev) (p r : Nat) (timeout : Bool) : Dev :=
  if d.ringBusy p r then
    let status := if timeout then 2 else 1
    let d := d.emit (.descriptor p r (d.get (F.RING_HEAD_INDEX p r)) none (4 + 256 * status) 0)
    let d := (d.put (F.RING_CFG_ENABLE p r) 0).modHb p (fun h => { h with
      finishing := h.finishing.filter (fun y => y != r), part := tset h.part r [] })
    d.recordErr (.hb (p + 1)) internalCode (R.RING_CFG p r) 0x0100
  else d

/-! ## Precision Time Measurement (R40) -/

/-- R40: a dialogue starts; its request leaves. -/
def Dev.ptmStart (d : Dev) (p : Nat) : Dev :=
  if (d.port' p).dialogue then d
  else (d.modHb p (fun h => { h with dialogue := true, ptmT1 := d.baseNs })).emit (.ptmRequest p)

/-- PTM_PERIOD_EXPIRE. -/
def Dev.ptmPeriod (d : Dev) (p : Nat) : Dev :=
  let t := d.get (F.HB_PTM_CTRL_PERIOD p) * 1000000
  if d.linkUp p && d.flag (F.HB_PORT_STAT_PTM_EN p) && d.flag (F.HB_PTM_CTRL_AUTO p) && t != 0 &&
      decide ((d.port' p).ptmSince + t ≤ d.plat.aon) then
    (d.modHb p (fun h => { h with ptmSince := h.ptmSince + t })).ptmStart p
  else d

/-- PTM_DIALOGUE_COMPLETE. -/
def Dev.ptmDone (d : Dev) (p master delay : Nat) : Dev :=
  if (d.port' p).dialogue then
    let d := (d.put (F.PTM_T1_NS p) (d.port' p).ptmT1).put (F.PTM_T4_NS p) d.baseNs
    let d := (d.put (F.PTM_MT_LO_NS p) master).put (F.PTM_MT_HI_NS p) (master / 2 ^ 32)
    let d := ((d.put (F.PTM_PDELAY_NS p) delay).bumpWrap (F.PTM_SEQ_COUNT p)).put (F.HB_PTM_CTRL_TRIGGER p) 0
    d.modHb p (fun h => { h with dialogue := false })
  else d

/-- R40: a write of HB_PTM_CTRL. -/
def Dev.ptmCtrlWrite (d : Dev) (p : Nat) (v : Word) : Dev :=
  let fresh := d.changes v (F.HB_PTM_CTRL_AUTO p) || d.changes v (F.HB_PTM_CTRL_PERIOD p)
  let d := d.store (R.HB_PTM_CTRL p) v
  let d := if fresh then d.modHb p (fun h => { h with ptmSince := d.plat.aon }) else d
  if newField v (F.HB_PTM_CTRL_TRIGGER p) = 1 then d.ptmStart p else d

/-! ## Registers -/

/-- R31: HB_IRQ_VEC shows the steering entry that HB_IRQ_SEL names. -/
def Dev.steerShow (d : Dev) (p : Nat) : Dev :=
  d.setWord (R.HB_IRQ_VEC p) (tget (d.port' p).steer (d.get (F.HB_IRQ_SEL_SOURCE p)))

/-- R35, R36: HB_PEL_STAT. -/
def Dev.pelShow (d : Dev) (p : Nat) : Dev :=
  let n := ((List.range 8).filter (fun e => d.flag (F.PEL_ADDR_VALID p e))).length
  (d.put (F.HB_PEL_STAT_COUNT p) n).putFlag (F.HB_PEL_STAT_FULL p) (n == 8)

/-- A write to the page of port p at an offset of 0x040 or above. -/
def Dev.hbWrite (d : Dev) (p addr : Nat) (v : Word) : Wr :=
  let off := addr % 0x1000
  if addr = R.HB_IRQ_SEL p then .ok ((d.store addr v).steerShow p)
  else if addr = R.HB_IRQ_VEC p then
    let d := d.store addr v
    .ok (d.modHb p (fun h => { h with steer := tset h.steer (d.get (F.HB_IRQ_SEL_SOURCE p)) (d.word addr) }))
  else if addr = R.HB_PTM_CTRL p then .ok (d.ptmCtrlWrite p v)
  else if 0x200 ≤ off ∧ off < 0x400 ∧ off % 0x20 = 0x10 then
    let r := (off - 0x200) / 0x20
    .ok (if d.get (F.RING_HEAD_INDEX p r) = d.get (F.RING_TAIL_INDEX p r) then (d.store addr v).bufNext p r
      else d.store addr v)
  else if 0x200 ≤ off ∧ off < 0x400 ∧ off % 0x20 = 8 then d.ringCfgHost p ((off - 0x200) / 0x20) v
  else .ok (d.store addr v)

/-- A row that writes a register of port p's page. -/
def Dev.hbRow (d : Dev) (i : Init) (p addr : Nat) (v : Word) : Dev :=
  d.busWrite i addr v true (judged addr v (fun d => d.hbWrite p addr v))

end Sys2Proof.Machine
end

