-- ==== Sys2Proof/Machine/Security.lean ====
section
/-! DEFINITION. The security complex: OTP and lifecycle (R282, R283, R287 to R289), image checks (R284 to
R286), measurements and quotes (R290 to R292), the key vault (R293) and the traffic key table (R294,
R295). -/

namespace Sys2Proof.Machine
open Sys2Proof

/-! ## Words and bytes -/

/-- The bytes of n registers from an address on, byte 4w in bits 7:0 of word w. -/
def Dev.regBytes (d : Dev) (addr n : Nat) : List Byte :=
  ((List.range n).map (fun w => leBytes 4 (d.word (addr + 4 * w)).toNat)).flatten

/-- Bytes written to registers from an address on. -/
def Dev.putBytes (d : Dev) (addr : Nat) (bs : List Byte) : Dev :=
  (List.range (bs.length / 4)).foldl (fun (a : Dev) w =>
    a.setWord (addr + 4 * w) (BitVec.ofNat 32 (leNat (slice bs (4 * w) 4)))) d

/-- The n bytes of an opaque constant. -/
def fixedBytes (n : Nat) (f : Nat → Byte) : List Byte := (List.range n).map f

def Dev.modSc (d : Dev) (f : ScSt → ScSt) : Dev := { d with sc := f d.sc }

/-- R291: the 16-byte identity block. -/
def idBlock (x : Identity) : List Byte :=
  leBytes 4 x.lot0.toNat ++ leBytes 4 x.lot1.toNat ++ leBytes 2 x.lot2.toNat ++
    leBytes 1 (wordBits x.die 0 5) ++ leBytes 1 (wordBits x.die 8 8) ++ leBytes 1 (wordBits x.die 16 8) ++
    leBytes 1 (wordBits x.part 16 8) ++ leBytes 2 (wordBits x.part 0 16)

/-! ## OTP (R282, R283, R287 to R289) -/

/-- The key hash of a slot. -/
def Dev.otpSlot (d : Dev) (s : Nat) : OtpHash := tget d.sc.otp.slots s

/-- R289: slot s is revoked, or unreadable. -/
def Dev.otpRevoked (d : Dev) (s : Nat) : Bool :=
  bitOf d.sc.otp.revoked s || (!(d.otpSlot s).empty && !(d.otpSlot s).good)

/-- Slot s is programmed and not revoked. -/
def Dev.otpUsable (d : Dev) (s : Nat) : Bool := (d.otpSlot s).good && !d.otpRevoked s

/-- The OTP fields that change at once: SC_KEYS and SC_RB. -/
def Dev.otpShow (d : Dev) : Dev :=
  let mask (p : Nat → Bool) : Nat := (List.range 4).foldl (fun n s => n + boolNat (p s) * 2 ^ s) 0
  let d := (d.put F.SC_KEYS_PROG (mask (fun s => (d.otpSlot s).good))).put F.SC_KEYS_REVOKED (mask d.otpRevoked)
  let d := d.putFlag F.SC_KEYS_DBG_PROG d.sc.otp.dbg.good
  let d := (d.put F.SC_RB_CTR0 (tget d.sc.otp.rb 0)).put F.SC_RB_CTR1 (tget d.sc.otp.rb 1)
  (d.put F.SC_RB_CTR2 (tget d.sc.otp.rb 2)).put F.SC_RB_CTR3 (tget d.sc.otp.rb 3)

/-- R283, R289: a hash may be programmed into a field: no cell of it is set, or an interrupted command that none has
repeated began to write the same value. -/
def hashFits (h : OtpHash) (data : List Byte) : Bool := h.empty || (!h.done && h.want == data)

/-- R283: LC_ADVANCE from a state to a target. -/
def lcMay (st target : Nat) : Bool :=
  (st == 0 && target == 1) || (st == 1 && (target == 2 || target == 4)) || (st == 2 && (target == 3 || target == 4)) ||
    (st == 3 && target == 4)

/-- R283, R287 to R289: whether an OTP command is taken in the lifecycle in force. -/
def Dev.otpMay (d : Dev) (r : OtpRun) : Bool :=
  let lc := d.sc.lc
  if r.op = 1 then lc == 1 && r.arg < 4 && hashFits (d.otpSlot r.arg) r.hash
  else if r.op = 2 then
    lc != 0 && r.arg < 4 && !(d.get F.SC_BOOT_IMG_KIND != 0 && d.get F.SC_BOOT_IMG_KEY_SLOT == r.arg) &&
      (List.range 4).any (fun s => s != r.arg && d.otpUsable s)
  else if r.op = 3 then
    (lc == 1 || lc == 2 || lc == 3) && r.arg < 4 && decide (tget d.sc.otp.rb r.arg < r.value) && r.value ≤ 64 &&
      (d.get F.SC_BOOT_IMG_RB_INDEX != r.arg || decide (r.value ≤ d.get F.SC_BOOT_IMG_SVN))
  else if r.op = 4 then lc == 1 && hashFits d.sc.otp.dbg r.hash
  else if r.op = 5 then
    lcMay lc r.arg && decide (d.sc.otp.stage ≤ r.arg) && (r.arg != 2 || (List.range 4).any (fun s => d.otpUsable s))
  else false

/-- What a completed command leaves in OTP. -/
def otpAfter (o : OtpSt) (r : OtpRun) : OtpSt :=
  if r.op = 1 then { o with slots := tset o.slots r.arg (hashFull r.hash) }
  else if r.op = 2 then { o with revoked := setBit o.revoked r.arg }
  else if r.op = 3 then { o with rb := tset o.rb r.arg r.value }
  else if r.op = 4 then { o with dbg := hashFull r.hash }
  else { o with stage := r.arg, kill := o.kill || r.arg == 4 }

/-- A write of SC_OTP_CMD; the management cores alone change OTP. -/
def Dev.otpWrite (d : Dev) (who : Init) (v : Word) : Wr :=
  if newField v F.SC_OTP_CMD_GO = 0 then .ok (d.store R.SC_OTP_CMD v)
  else if d.sc.run.isSome then .no 0x0127
  else
    let d := d.store R.SC_OTP_CMD v
    let r : OtpRun := {
      op := d.get F.SC_OTP_CMD_OP, arg := d.get F.SC_OTP_CMD_ARG, value := d.get F.SC_OTP_VALUE_VALUE
      hash := d.regBytes (R.SC_OTP_DATA 0) 8 }
    if who = .mc ∧ newField v F.SC_OTP_CMD_KEY = 0x5AC3 ∧ d.otpMay r then .ok (d.modSc (fun s => { s with run := some r }))
    else .ok (((d.put F.SC_OTP_CMD_GO 0).put F.SC_OTP_RESULT_CODE 0x0128).windowErr who R.SC_OTP_CMD 0x0128)

/-- OTP_DONE: the command in progress completes. -/
def Dev.otpDone (d : Dev) : Dev :=
  match d.sc.run with
  | none => d
  | some r =>
    let d := if r.op = 5 ∧ d.sc.otp.stage = 0 then d.makeIdentity else d
    let d := (d.modSc (fun s => { s with otp := otpAfter s.otp r, run := none })).otpShow
    let d := if r.op = 5 then (d.put F.SC_LC_PENDING_VALID 1).put F.SC_LC_PENDING r.arg else d
    ((d.put F.SC_OTP_CMD_GO 0).put F.SC_OTP_RESULT_CODE 0).raise (.sc 0) 1

/-- The debug level in force. -/
def Dev.setLevel (d : Dev) (l : Nat) : Dev := (d.modSc (fun s => { s with level := l })).put F.DBG_STAT_LEVEL l

/-- R293: VAULT_USED shows the slots that hold a key. -/
def Dev.vaultShow (d : Dev) : Dev :=
  d.put F.VAULT_USED_MASK ((List.range 32).foldl (fun n s => n + boolNat (!(tget d.sc.vault s).isEmpty) * 2 ^ s) 0)

/-- R291: the identity modulus, and Raneltik's certificate over the identity block and the modulus. -/
def Dev.idPub (d : Dev) : List Byte := beBytes 384 (d.sc.ids.p * d.sc.ids.q)
def Dev.idCert (d : Dev) (ident : List Byte) : List Byte :=
  let key := rsaKey (Config.certPrime false) (Config.certPrime true)
  pssSign key.1 key.2 (ident ++ d.idPub) (fixedBytes 32 Config.certSalt)

/-- R282: the fuse pattern of the lifecycle matches a state. -/
def Dev.otpValid (d : Dev) : Bool := decide (d.sc.otp.stage ≤ 4)

/-- R282, R297: release step 4 of a power-on or cold reset decodes OTP. `ident` is the identity block. -/
def Dev.otpDecode (d : Dev) (ident : List Byte) : Dev :=
  let o := d.sc.otp
  let d := (d.modSc (fun s => { s with lc := o.stage, withheld := false })).put F.SC_LC_STATE o.stage
  let d := ((d.otpShow).putFlag F.SC_KEYS_VAULT_KILL o.kill).putFlag F.SC_KEYS_ID_OK (o.stage != 0)
  let d := if o.stage = 0 then d
    else (d.putBytes (R.ID_PUB 0) d.idPub).putBytes (R.ID_CERT 0) (d.idCert ident)
  (d.vaultShow).setLevel (if o.stage = 0 then 2 else 0)

/-! ## Signed images (R284 to R286) -/

/-- R285: an RSA-3072 signature over a message under a modulus of 384 bytes. -/
def rsaSigned (key msg sig : List Byte) : Bool := pssVerify 384 (beNat key) (sha256 msg) sig

/-- A field of a header. -/
def hdr (img : List Byte) (off n : Nat) : Nat := leNat (slice img off n)

def hdrKeySlot (img : List Byte) : Nat := hdr img 6 1
def hdrKind (img : List Byte) : Nat := hdr img 7 1
def hdrLen (img : List Byte) : Nat := hdr img 8 4
def hdrRbIndex (img : List Byte) : Nat := hdr img 12 1
def hdrSvn (img : List Byte) : Nat := hdr img 16 4
def hdrKey (img : List Byte) : List Byte := slice img 64 384
def hdrPayload (img : List Byte) : List Byte := slice img 1024 (hdrLen img)

/-- R284, R285: MAGIC, HDR_VER, the zero fields and the ranges. -/
def hdrForm (img : List Byte) : Bool :=
  hdr img 0 4 == 0x4E5A5641 && hdr img 4 2 == 1 && hdr img 13 3 == 0 && hdr img 20 12 == 0 &&
    hdr img 832 192 == 0 && decide (1 ≤ hdrLen img) && decide (hdrLen img ≤ 16777216) && decide (hdrRbIndex img < 4) &&
    decide (hdrSvn img ≤ 64)

/-- R286: the code of the key that boot accepts an image under (0 to 3 a slot, 6 self-signed, 7 the ROM
key), none where it accepts none. -/
def Dev.keyAccepted (d : Dev) (img : List Byte) : Option Nat :=
  let lc := d.sc.lc
  let h := sha256 (hdrKey img)
  let s := hdrKeySlot img
  let rom := if h = fixedBytes 32 Config.romKeyHash then some 7 else none
  if lc = 0 then some 6
  else if lc = 4 then rom
  else if lc = 1 ∧ (List.range 4).all (fun k => !(d.otpSlot k).good) then rom
  else if s < 4 ∧ d.otpUsable s ∧ (d.otpSlot s).hash = h then some s
  else none

/-- R285: an image of a KIND is verified; the code of its key. -/
def Dev.imageVerified (d : Dev) (img : List Byte) (kind : Nat) : Option Nat :=
  if hdrForm img && hdrKind img == kind && rsaSigned (hdrKey img) (img.take 448) (slice img 448 384) &&
      slice img 32 32 == sha256 (hdrPayload img) then d.keyAccepted img
  else none

/-- R287: an image's SVN is at least its counter. -/
def Dev.svnOk (d : Dev) (img : List Byte) : Bool := decide (tget d.sc.otp.rb (hdrRbIndex img) ≤ hdrSvn img)

/-! ## Measurements and quotes (R290 to R292) -/

/-- R290: MEASi is extended with a digest. -/
def Dev.extend (d : Dev) (i : Nat) (x : List Byte) : Dev :=
  d.putBytes (R.MEAS (8 * i)) (sha256 (d.regBytes (R.MEAS (8 * i)) 8 ++ x))

/-- A write of MEAS_EXT. -/
def Dev.measWrite (d : Dev) (v : Word) : Wr :=
  if newField v F.MEAS_EXT_GO = 0 then .ok (d.store R.MEAS_EXT v)
  else
    refuseIf (decide (newField v F.MEAS_EXT_INDEX < 3)) 0x0128 <|
    .ok (((d.store R.MEAS_EXT v).put F.MEAS_EXT_GO 0).extend (newField v F.MEAS_EXT_INDEX) (d.regBytes (R.MEAS_IN 0) 8))

/-- R292: bytes 0 to 383 of a quote; `ident` is the identity block. -/
def Dev.quoteBytes (d : Dev) (ident : List Byte) : List Byte :=
  let b1 (n : Nat) : List Byte := leBytes 1 n
  leBytes 4 0x54515A41 ++ leBytes 2 1 ++ b1 (d.get F.SC_LC_STATE) ++ b1 (d.get F.DBG_STAT_LEVEL) ++ b1 d.mode ++
    b1 (d.get F.SC_BOOT_IMG_KEY_SLOT) ++ b1 (d.get F.SC_KEYS_REVOKED) ++ b1 0 ++
    b1 (d.get F.SC_RB_CTR0) ++ b1 (d.get F.SC_RB_CTR1) ++ b1 (d.get F.SC_RB_CTR2) ++ b1 (d.get F.SC_RB_CTR3) ++
    ident ++ d.regBytes (R.QUOTE_NONCE 0) 8 ++ d.regBytes (R.MEAS 0) 64 ++ sha256 (d.regBytes (R.ID_PUB 0) 96) ++
    [0x01, 0x00, 0x01, 0x00] ++ List.replicate 28 0

/-- A write of QUOTE_CMD. -/
def Dev.quoteWrite (d : Dev) (ident : List Byte) (v : Word) : Wr :=
  if newField v F.QUOTE_CMD_GO = 0 then .ok d
  else
    refuseIf (d.get F.QUOTE_CMD_STATE == 1) 0x0127 <|
    .ok (((d.put F.QUOTE_CMD_GO 1).put F.QUOTE_CMD_STATE 1).modSc (fun s => { s with quote := d.quoteBytes ident }))

/-- QUOTE_DONE: the quote is signed under the identity key with a free salt; without an identity key it fails. -/
def Dev.quoteDone (d : Dev) : Dev :=
  if d.get F.QUOTE_CMD_STATE = 1 then
    let q := d.sc.quote
    let d := (d.put F.QUOTE_CMD_GO 0).modSc (fun s => { s with quote := [] })
    if d.flag F.SC_KEYS_ID_OK then
      let (salt, d) := d.freeBytes 32
      ((d.putBytes (R.QUOTE_DATA 0) (q ++ pssSign d.sc.ids.p d.sc.ids.q q salt)).put F.QUOTE_CMD_STATE 2).raise (.sc 1) 1
    else d.put F.QUOTE_CMD_STATE 3
  else d

/-! ## Vault and working key (R293) -/

/-- R295: the check value of a key. -/
def keyCheck (key : List Byte) : Nat :=
  beNat (bytesOf ((aesEncK (roundKeys (natsOf key)) (List.replicate 16 0)).take 3))

/-- The working key register and WK_STAT. -/
def Dev.setWkr (d : Dev) (key : List Byte) (slot : Nat) : Dev :=
  let d := d.modSc (fun s => { s with wkr := key })
  if key.isEmpty then d.setWord R.WK_STAT 0
  else
    let d := (d.put F.WK_STAT_VALID 1).putFlag F.WK_STAT_LEN (key.length == 32)
    (d.put F.WK_STAT_SLOT slot).put F.WK_STAT_CHECK (keyCheck key)

/-- R293: the counter-mode KDF of NIST SP 800-108 with AES-CMAC (assumption 31). -/
def kdf (key label : List Byte) : List Byte :=
  ((List.range (key.length / 16)).map (fun i => cmac key (Config.kdfInput (i + 1) key.length label))).flatten

/-- R294: the staging takes a key from UNWRAP. -/
def Dev.stageKey (d : Dev) (key : List Byte) : Dev :=
  let d := d.modSc (fun s => { s with stgKey := slice key 0 32 })
  ((d.put F.TK_STG_CFG_STG_VALID 1).putFlag F.TK_STG_CFG_LEN (key.length == 32)).put F.TK_STG_CFG_SRC 1

/-- A vault command: none where it is refused. -/
def Dev.vaultDo (d : Dev) (op long slot : Nat) : Option Dev :=
  let key := tget d.sc.vault slot
  let closed := key.isEmpty || d.flag F.SC_KEYS_VAULT_KILL || d.sc.withheld
  let n := d.get F.CMAC_LEN_BYTES
  let data := (d.regBytes (R.VDATA 0) 64).take n
  if op = 0 then
    (if key.isEmpty then
      some ((d.modSc (fun s => { s with
        vault := tset s.vault slot (slice s.keyIn 0 (if long = 1 then 32 else 16)) })).vaultShow)
    else none)
  else if op = 1 then some ((d.modSc (fun s => { s with vault := tset s.vault slot [] })).vaultShow)
  else if op = 2 then (if closed then none else some (d.setWkr key slot))
  else if op = 3 then (if closed then none else some (d.setWkr (kdf key (slice d.sc.keyIn 0 32)) slot))
  else if op = 4 then
    (if d.sc.wkr.isEmpty || d.flag F.TK_STG_CFG_STG_VALID || (n != 24 && n != 40) then none
    else (keyUnwrap d.sc.wkr data).map d.stageKey)
  else if op = 5 then
    (if d.sc.wkr.isEmpty || decide (256 < n) then none
    else some (d.putBytes (R.CMAC_OUT 0) (cmac d.sc.wkr data)))
  else if op = 6 then some (d.setWkr [] 0)
  else none

/-- A write of VAULT_CMD. -/
def Dev.vaultWrite (d : Dev) (who : Init) (v : Word) : Dev :=
  let d := (d.store R.VAULT_CMD v).put F.VAULT_CMD_GO 0
  if newField v F.VAULT_CMD_GO = 1 then
    match d.vaultDo (d.get F.VAULT_CMD_OP) (d.get F.VAULT_CMD_LEN) (d.get F.VAULT_CMD_SLOT) with
    | some d' => d'.put F.VAULT_RESULT_CODE 0
    | none => (d.put F.VAULT_RESULT_CODE 0x012A).windowErr who R.VAULT_CMD 0x012A
  else d

/-! ## Traffic keys (R294, R295) -/

/-- R294: the staging is emptied. -/
def Dev.unstage (d : Dev) : Dev :=
  (((d.modSc (fun s => { s with stgKey := [], stgSalt := [] })).put F.TK_STG_CFG_STG_VALID 0)).put F.TK_STG_CFG_SRC 0

/-- A write of a word of TK_STG_KEY. -/
def Dev.stageKeyWord (d : Dev) (w : Nat) (v : Word) : Dev :=
  let d := d.modSc (fun s => { s with stgKey := overlay (slice s.stgKey 0 32) (4 * w) (leBytes 4 v.toNat) })
  (d.put F.TK_STG_CFG_STG_VALID 1).put F.TK_STG_CFG_SRC 0

/-- A write of a word of TK_STG_SALT. -/
def Dev.stageSaltWord (d : Dev) (w : Nat) (v : Word) : Dev :=
  d.modSc (fun s => { s with stgSalt := overlay (slice s.stgSalt 0 12) (4 * w) (leBytes 4 v.toNat) })

/-- R295: COMMIT, with its refusal code. -/
def Dev.tkCommit (d : Dev) (ix : Nat) : Dev × Nat :=
  if d.sc.withheld || !d.flag F.TK_STG_CFG_STG_VALID then (d, 0x012A)
  else
    let long := d.flag F.TK_STG_CFG_LEN
    let key := slice d.sc.stgKey 0 (if long then 32 else 16)
    let check := keyCheck key
    let e : TkEntry := {
      valid := true, long, key, check
      salt := if d.flag F.TK_STG_CFG_SALT_EN then some (slice d.sc.stgSalt 0 12) else none }
    if check = d.get F.TK_STG_CFG_EXP_CHECK then
      (((d.modSc (fun s => { s with tk := tset s.tk ix e })).bump F.TK_SWAPS_COUNT).unstage, 0)
    else (((d.bump F.TK_CHECK_FAIL_COUNT).raise (.sc 3) 1).unstage, 0x0129)

/-- A command of the traffic key window, with its refusal code. -/
def Dev.tkDo (d : Dev) (op ix : Nat) : Dev × Nat :=
  let e := tget d.sc.tk ix
  if op = 0 then
    let d := (d.putFlag F.TK_ENTRY_VALID e.valid).putFlag F.TK_ENTRY_LEN e.long
    ((d.putFlag F.TK_ENTRY_SALT_VALID e.salt.isSome).put F.TK_ENTRY_CHECK e.check, 0)
  else if op = 1 then d.tkCommit ix
  else if op = 2 then (d.modSc (fun s => { s with tk := tset s.tk ix { e with valid := false } }), 0)
  else if op = 3 then (d.unstage, 0)
  else (d, 0x012A)

/-- A write of TK_CMD. -/
def Dev.tkWrite (d : Dev) (who : Init) (v : Word) : Dev :=
  let d := (d.store R.TK_CMD v).put F.TK_CMD_GO 0
  if newField v F.TK_CMD_GO = 1 then
    let (d, c) := d.tkDo (d.get F.TK_CMD_OP) (d.get F.TK_CMD_INDEX)
    (d.put F.TK_RESULT_CODE c).windowErr who R.TK_CMD c
  else d

/-! ## Registers of SC pages 0 to 3 -/

/-- A write to SC pages 0 to 3 at an offset of 0x040 or above. -/
def Dev.scWrite (d : Dev) (ident : List Byte) (who : Init) (addr : Nat) (v : Word) : Wr :=
  if addr = R.SC_OTP_CMD then d.otpWrite who v
  else if addr = R.MEAS_EXT then d.measWrite v
  else if addr = R.QUOTE_CMD then d.quoteWrite ident v
  else if addr = R.VAULT_CMD then .ok (d.vaultWrite who v)
  else if R.KEY_IN 0 ≤ addr ∧ addr ≤ R.KEY_IN 7 then
    .ok (d.modSc (fun s => { s with keyIn := overlay (slice s.keyIn 0 32) (addr - R.KEY_IN 0) (leBytes 4 v.toNat) }))
  else if addr = R.TK_CMD then .ok (d.tkWrite who v)
  else if R.TK_STG_KEY 0 ≤ addr ∧ addr ≤ R.TK_STG_KEY 7 then .ok (d.stageKeyWord ((addr - R.TK_STG_KEY 0) / 4) v)
  else if R.TK_STG_SALT 0 ≤ addr ∧ addr ≤ R.TK_STG_SALT 2 then .ok (d.stageSaltWord ((addr - R.TK_STG_SALT 0) / 4) v)
  else .ok (d.store addr v)

end Sys2Proof.Machine
end

