-- ==== Sys2Proof/Machine/Resets.lean ====
section
/-! DEFINITION. What a reset touches (R23, R28, R263): block soft resets, and the state that a power-on,
cold and warm reset leaves before anything is released. -/

namespace Sys2Proof.Machine
open Sys2Proof

/-- R263, R72: every trigger output low. -/
def Dev.trigLow (d : Dev) : Dev := (List.range 16).foldl (fun (a : Dev) k => a.setTrig k false) d

/-- R205: the staging copy as a reset loads it: the active Limp image. -/
def Dev.limpStaged (d : Dev) : SwSt :=
  { copy0 := d.sw.copy0, copy1 := d.sw.copy1, active := d.sw.active, limpGen := d.sw.limpGen
    stage := (d.limpActive.map (fun c => c.words)).getD [] }

/-- R267, R289: a reset ends an OTP command, in a pulse or after one: which cells are written by then is free. A
stage, a revocation and each counter step read as the old or the new value; a hash field has some of its
cells. SC_KEYS, SC_RB and the pending state show what is written. -/
def Dev.otpCut (d : Dev) : Dev :=
  match d.sc.run with
  | none => d
  | some r =>
    let o := d.sc.otp
    let (mask, d) := d.freeBytes 108
    let (c, d) := d.free 4
    let (steps, d) := d.free (r.value - tget o.rb r.arg + 1)
    let o' : OtpSt :=
      if r.op = 1 then { o with slots := tset o.slots r.arg ((tget o.slots r.arg).part r.hash mask) }
      else if r.op = 4 then { o with dbg := o.dbg.part r.hash mask }
      else if r.op = 2 then { o with revoked := if bitOf c 0 then setBit o.revoked r.arg else o.revoked }
      else if r.op = 3 then { o with rb := tset o.rb r.arg (tget o.rb r.arg + steps) }
      else { o with stage := if bitOf c 0 then r.arg else o.stage, kill := o.kill || (r.arg == 4 && bitOf c 1) }
    let d := ({ d with sc := { d.sc with otp := o', run := none } }).otpShow
    let d := if o'.stage = o.stage then d else (d.put F.SC_LC_PENDING_VALID 1).put F.SC_LC_PENDING o'.stage
    if o.stage = 0 ∧ o'.stage ≠ 0 then d.makeIdentity else d

/-- R263: what MRAM and OTP keep through every reset, in an otherwise fresh device. -/
def Dev.kept (d : Dev) : Dev :=
  { out := d.out, freeIx := d.freeIx
    ch := { slots := d.ch.slots }
    mram := { d.copyCut.mram with calStage := [], optStage := [] }
    sc := { otp := d.sc.otp, vault := d.sc.vault, ids := d.sc.ids }
    sw := d.limpStaged
    sap := { flash := d.sap.flash.filter (fun x => decide (x.1 < 16384)), erased := d.sap.erased, unconfirmed := d.sap.unconfirmed }
    plat := { boot := d.plat.boot } }

/-- PC_BOOT_REC shows the boot record. -/
def Dev.bootShow (d : Dev) : Dev :=
  let d := (d.put F.PC_BOOT_REC_VALID 1).put F.PC_BOOT_REC_LAST_FAIL d.plat.boot.lastFail
  (d.put F.PC_BOOT_REC_CONSEC d.plat.boot.consec).put F.PC_BOOT_REC_FLAGS d.plat.boot.flags

/-- R276: the mode that the change to M3 at the end of a release leaves, for a reset that arrives now. -/
def Dev.leftMode (d : Dev) : Nat := if d.plat.modeLeft = 3 then d.mode else d.plat.modeLeft

/-- R243, R244: the pins as PORn leaves them: standby codes, INH asserted. -/
def Dev.pinsIdle (d : Dev) : Dev :=
  let d := (List.range 8).foldl (fun (a : Dev) g =>
    if bitsOf (a.get F.PC_XCVM_CODES) (2 * g) 2 = 1 then a else a.emit (.xcvm g 1)) d
  (List.range 4).foldl (fun (a : Dev) k => if a.flag (F.PC_INH_CFG_LEVEL k) then a else a.emit (.inh k true)) d

/-- R263: what a power-on reset leaves. What the pins and monitors see outlasts it. -/
def Dev.powerState (d : Dev) : Dev :=
  let d := (d.trigLow).pinsIdle
  let head := d.get F.CH_HEAD_SEQ
  let k := d.kept
  let k := { k with plat := { k.plat with
    inRange := d.plat.inRange, fresh := d.plat.fresh, hot := d.plat.hot
    rstLow := d.plat.rstLow, thermal := d.plat.thermal
    rstStep := d.get F.BOOT_STEP_STEP, rstMode := d.mode, modeLeft := d.leftMode } }
  ((k.put F.CH_HEAD_SEQ head).bootShow).mramShow

/-- Sources of a reset (bits of PC_RST_CAUSE) are recorded. -/
def Dev.rstSources (d : Dev) (sources : Nat) : Dev :=
  d.put F.PC_RST_CAUSE_SOURCES (Nat.lor (d.get F.PC_RST_CAUSE_SOURCES) sources)

/-- R262: a power-on reset. The flag says whether it cuts a pulse of the Chamber writer (R267). RSTn held low and
a thermal reset still held are sources of this reset as well. -/
def Dev.powerOn (d : Dev) (cutChamber : Bool) : Dev :=
  (((if cutChamber then d.chPulseCut else d).otpCut).powerState).rstSources
    (2 * boolNat d.plat.rstLow + 0x040 * boolNat d.plat.thermal)

/-- R263: what a cold reset leaves: registers of domain P, the always-on time, sleep and Clearing
state, MRAM and OTP. -/
def Dev.coldState (d : Dev) : Dev :=
  let d := (d.trigLow).resetRegs .cold (fun _ => true)
  { d.kept with
    regs := d.regs, slp := d.slp, clr := { d.clr with buf := [] }
    plat := { d.plat with
      relStep := 0, warmStep := 6, bypass := 0, warm := false, wdog := none, image := none
      delivered := none, gvAt := none, timeLinked := false, options := [] } }

/-- R263: what a warm reset leaves. Blocks that it holds are released again by its release sequence. -/
def Dev.warmState (d : Dev) : Dev :=
  let d := (d.trigLow).ringsWarm
  let stat0 := d.word (R.HB_PORT_STAT 0)
  let stat1 := d.word (R.HB_PORT_STAT 1)
  let d := ((d.resetRegs .warm (fun _ => true)).portClear 0).portClear 1
  let d := (d.setWord (R.HB_PORT_STAT 0) stat0).setWord (R.HB_PORT_STAT 1) stat1
  let d := ((d.put F.MC_CORE_FW_STATE 0).put F.MC_CORE_LOCKSTEP 0).put F.MC_CORE_TCM_READY 0
  let d := ((d.put F.GV_IMG_CELLS_USED 0).put F.GV_CAL_CTRL_EN 0).put F.GV_CAL_STEP_COUNT 0
  let d := (d.copyCut).copyBusy
  { d with
    tl := { d.tl with echo := [] }
    canopy := { d.canopy with
      wheel := [], lateq := [], trig := []
      cap := tmap d.canopy.cap (fun e => { level := e.level }) }
    gv := {}, chan := [], ports := [], msc := [], msa := [], learnq := [], lk := [], tm := {}
    sw := d.limpStaged
    cp := { ring := d.cp.ring }
    sc := { otp := d.sc.otp, vault := d.sc.vault, ids := d.sc.ids, lc := d.sc.lc, level := d.sc.level, withheld := d.sc.withheld }
    sap := { flash := d.sap.flash, erased := d.sap.erased, unconfirmed := d.sap.unconfirmed }
    inject := none
    scrub := { d.scrub with errs := [] }
    plat := { d.plat with warmStep := 0, warm := true, wdog := none, delivered := none } }

end Sys2Proof.Machine
end

