-- ==== Sys2Proof/Machine/Modes.lean ====
section
/-! DEFINITION. The operating modes: what entering and leaving a mode does (R106, R147, R177, R205,
R206, R239, R270, R274 to R277). -/

namespace Sys2Proof.Machine
open Sys2Proof

/-- R276, R279: the MODE record and IRQ_RAW.MODE. Trigger 0 request, 1 hardware, 2 Activation limit, 3
fault reaction. -/
def Dev.modeRecord (d : Dev) (old new trig who : Nat) : Dev :=
  (d.chRaise 0x0D03 chPC (leBytes 1 old ++ leBytes 1 new ++ leBytes 1 trig ++
    leBytes 1 (if trig = 0 then who else 0))).raise (.pc 0) 1

/-- R206: every queued frame is discarded. -/
def Dev.emptyQueues (d : Dev) : Dev :=
  d.tm.q.foldl (fun (a : Dev) e =>
    e.2.copies.foldl (fun (b : Dev) x =>
      let cells := ((b.frame? x.id).map (·.cells)).getD 0
      (((b.depthSub e.1 cells).bump (F.SW_QDROP_COUNT e.1)).modQ e.1 (fun s =>
        { s with copies := s.copies.drop 1 })).releaseCopy x.id) a) d

/-- R147: a controller is disabled in Fault Hold. -/
def Dev.chanOff (d : Dev) (c : Nat) : Dev :=
  if d.enabled (chanPage c) then
    (d.put (F.CTRL_ENABLE (pageBase (chanPage c))) 0).modChan c (fun s => { s with head := none, lin := none })
  else d

/-- R71, R106, R147, R177, R206, R239, R274: entering Fault Hold. -/
def Dev.faultHold (d : Dev) : Dev :=
  let d := d.gvStop.canopyHold.trigLow
  let d := (List.range 80).foldl Dev.chanOff d
  let d := (List.range 16).foldl (fun (a : Dev) n => if a.enabled (.ep n 0) then a.epDisabled n else a) d
  let d := (List.range 8).foldl (fun (a : Dev) n => if a.enabled (.ts n) then a.tsDisabled n else a) d
  let d := (d.emptyQueues).put F.PC_PLL_STAT_LOCK (clrBit (d.get F.PC_PLL_STAT_LOCK) 1)
  let d := d.putFlag F.CP_MEM_STAT_SELF_REFRESH (d.flag F.CP_MEM_STAT_TRAINED)
  if bitOf d.plat.boot.flags 3 ∨ d.get F.PC_STRAP_BOOTSEL = 3 then d else d.put F.MC_CORE_FW_STATE 0xF

/-- R106, R205, R274: entering Limp. -/
def Dev.limpMode (d : Dev) : Dev :=
  (d.gvLimp.limpEnter).put F.PC_PLL_STAT_LOCK (clrBit (d.get F.PC_PLL_STAT_LOCK) 1)

/-- R316: a start whose firmware came from the activated slot has reached boot step 15. -/
def Dev.sapConfirm (d : Dev) : Dev :=
  match d.sap.unconfirmed with
  | none => d
  | some slot =>
    if boolNat (bitOf d.plat.boot.flags 2) = slot ∧ d.get F.PC_BOOT_PATH_IMAGE = slot then
      let d := { d with sap := { d.sap with unconfirmed := none } }
      let d := (d.put F.SAP_STAT_STATE 7).put F.SAP_STAT_SLOT (1 - slot)
      d.chRaise 0x0F04 chMC (leBytes 4 (d.get F.SAP_SESSION_ID) ++ leBytes 1 slot ++ leBytes 1 (d.get F.SC_BOOT_IMG_SVN))
    else d

/-- R269, R270: boot step 15 is reached. -/
def Dev.stepRun (d : Dev) : Dev :=
  let d := (d.put F.BOOT_STEP_STEP 15).put F.BOOT_STEP_DONE 1
  ({ d with plat := { d.plat with boot := { d.plat.boot with consec := 0 } } }.bootShow).sapConfirm

/-- R277: Limp, Fault Hold and resets take precedence over an entry to M0 or M1, whose request is refused. -/
def Dev.dropSleep (d : Dev) : Dev :=
  match d.slp.target with
  | none => d
  | some _ =>
    let d := match d.slp.byRequest with
      | none => d
      | some who => d.recordErr (.pc 0) who R.PC_MODE_REQ 0x0124
    let d := { d with
      slp := { d.slp with target := none, byRequest := none, latched := [], committed := 0 }
      clr := { d.clr with joined := false, turn := none, sent := none, buf := [] } }
    let d := d.put F.PC_MODE_BUSY 0
    if d.get F.CLR_STAT_STATE = 4 then d.put F.CLR_STAT_STATE 0 else d

/-- R274: GPLL has lock again in a mode that has its clock, unless this start bypasses it. -/
def Dev.gpllRuns (d : Dev) : Dev :=
  if bitOf d.plat.bypass 1 then d else d.put F.PC_PLL_STAT_LOCK (setBit (d.get F.PC_PLL_STAT_LOCK) 1)

/-- R239, R274: leaving Limp or Fault Hold, which only a reset does. -/
def Dev.quietEnds (d : Dev) (old new : Nat) : Dev :=
  let d := if old = 11 then d.put F.CP_MEM_STAT_SELF_REFRESH 0 else d
  if (old = 7 ∨ old = 11) ∧ new ≠ 7 ∧ new ≠ 11 then d.gpllRuns else d

/-- R276: the device moves to a mode other than M0 and M1. Limp and Fault Hold end an entry to M0 or M1 (R277). -/
def Dev.changeMode (d : Dev) (new trig who : Nat) : Dev :=
  let old := d.mode
  if old = new then d
  else
    let d := if new = 7 ∨ new = 11 then d.dropSleep else d
    let d := ((d.put F.PC_MODE_PREV old).put F.PC_MODE_MODE new).modeRecord old new trig who
    let d := d.quietEnds old new
    let d := if old = 8 then d.restartTimeouts (fun _ => true) else if old = 3 then d.trigRest else d
    let d :=
      if new = 7 then d.limpMode
      else if new = 11 then d.faultHold
      else if new = 8 then { d.put F.PC_MODE_RETURN old with plat := { d.plat with m8At := d.plat.aon } }
      else d
    if (new = 4 ∨ new = 6 ∨ new = 7) ∧ 14 ≤ d.get F.BOOT_STEP_STEP ∧ !d.flag F.BOOT_STEP_DONE then d.stepRun else d

/-- R124, R276: the mode of a device in service by its healthy engines. -/
def Dev.serviceMode (d : Dev) : Nat :=
  let h := d.healthyCount
  if h = 16 then 4 else if 12 ≤ h then 6 else 7

/-- R124, R276, R277: the mode follows the retirement of engines and the sleep groups. An entry to M0 or M1 stands
above every mode but Limp. -/
def Dev.modeSync (d : Dev) : Dev :=
  let m := d.mode
  let h := d.healthyCount
  let sleeping := d.get F.PC_GRP_STAT_STATES != 0
  if (m = 4 ∨ m = 5 ∨ m = 6) ∧ h < 12 then d.changeMode 7 1 internalCode
  else if d.slp.target.isSome then d
  else if (m = 4 ∨ m = 5) ∧ h < 16 then d.changeMode 6 1 internalCode
  else if m = 4 ∧ sleeping then d.changeMode 5 1 internalCode
  else if m = 5 ∧ !sleeping then d.changeMode 4 1 internalCode
  else if m = 8 ∧ h < 12 then d.put F.PC_MODE_RETURN 7
  else if m = 8 ∧ h < 16 then d.put F.PC_MODE_RETURN 6
  else d

end Sys2Proof.Machine
end

