-- ==== Sys2Proof/Machine/SleepGroups.lean ====
section
/-! DEFINITION. Sleep groups, transceiver and INH pins, wakes and the sleep modes (R242 to R249, R254,
R276), and the registers of PC page 3. -/

namespace Sys2Proof.Machine
open Sys2Proof

/-- Milliseconds as always-on time. -/
def msNs (n : Nat) : Nat := n * 1000000

/-! ## Groups and pins (R243, R244) -/

def Dev.setGroup (d : Dev) (g st : Nat) : Dev :=
  d.put F.PC_GRP_STAT_STATES (putBits (d.get F.PC_GRP_STAT_STATES) (2 * g) 2 st)

def Dev.setWake (d : Dev) (g : Nat) (w : Option GroupWake) : Dev :=
  { d with slp := { d.slp with wake := tset d.slp.wake g w } }

def Dev.groupWake (d : Dev) (g : Nat) : Option GroupWake := tget d.slp.wake g

/-- The device is in M0 or M1. -/
def Dev.sleeping (d : Dev) : Bool := d.mode < 2

/-- R243: the transceiver mode code of group g. -/
def Dev.xcvmCode (d : Dev) (g : Nat) : Nat :=
  let awake := if bitOf (d.get F.PC_XCVM_CFG_LISTEN) g then 2 else 3
  let asleep := if bitOf (d.get F.PC_XCVM_CFG_STBY) g then 1 else 0
  if !d.slp.live || d.mode == 11 then 1
  else if d.groupState g < 2 then awake
  else if d.groupState g = 3 && (d.groupWake g).any (fun w => w.listen) then 2 else asleep

/-- R244, R248, R249: whether INHk is asserted. -/
def Dev.inhLevel (d : Dev) (k : Nat) : Bool :=
  if d.mode = 11 then d.flag (F.PC_INH_CFG_LEVEL k)
  else if !bitOf d.slp.inhLive k then true
  else if d.flag (F.PC_INH_CFG_KEEP k) then true
  else if d.flag (F.PC_INH_CFG_SELF k) then !d.sleeping
  else (List.range 8).any (fun g => bitOf (d.get (F.PC_INH_CFG_GROUPS k)) g &&
    (d.groupState g != 2 || (d.groupWake g).isSome))

/-- After every command the pins follow. -/
def Dev.pinSync (d : Dev) : Dev :=
  let d := (List.range 8).foldl (fun (a : Dev) g =>
    let c := a.xcvmCode g
    if bitsOf (a.get F.PC_XCVM_CODES) (2 * g) 2 = c then a
    else (a.put F.PC_XCVM_CODES (putBits (a.get F.PC_XCVM_CODES) (2 * g) 2 c)).emit (.xcvm g c)) d
  (List.range 4).foldl (fun (a : Dev) k =>
    let l := a.inhLevel k
    if a.flag (F.PC_INH_CFG_LEVEL k) = l then a else (a.putFlag (F.PC_INH_CFG_LEVEL k) l).emit (.inh k l)) d

/-- PC_GRP_CMD.GO reads 1 until every named group has reached its new state, or its check has begun. -/
def Dev.goSync (d : Dev) : Dev :=
  let sleep := d.get F.PC_GRP_CMD_OP == 0
  let done := (List.range 8).all (fun g => !bitOf (d.get F.PC_GRP_CMD_GROUPS) g ||
    (if sleep then d.groupState g != 1 else d.groupState g == 0 || d.groupState g == 3))
  if done then d.put F.PC_GRP_CMD_GO 0 else d

/-! ## Going to sleep (R245, R246) -/

/-- R246: the groups named leave AWAKE. -/
def Dev.goToSleep (d : Dev) (groups : Nat) : Dev :=
  (List.range 8).foldl (fun (a : Dev) g =>
    if bitOf groups g && a.groupState g == 0 then a.setGroup g 1 else a) d

/-- R262: the release sequence of a power-on reset is in progress. -/
def Dev.powering (d : Dev) : Bool :=
  !d.sleeping && d.get F.PC_RST_CAUSE_KIND == 1 && decide (d.plat.relStep < 11)

/-- R262, R263: the power-on reset whose release a further reset restarts: the straps (R268), the sources and the
count of restarted loads (R266) stand. -/
def Dev.powerAgain (d : Dev) : Dev :=
  let k := d.powerState
  let k := { k with plat := { k.plat with porLow := false, supply := d.plat.supply, testen := d.plat.testen } }
  (((k.setWord R.PC_STRAP (d.word R.PC_STRAP)).rstSources (d.get F.PC_RST_CAUSE_SOURCES)).put
    F.PC_OPT_STAT_RESTARTS (d.get F.PC_OPT_STAT_RESTARTS))

/-- R279: the RESET records that wait when a further reset arrives. -/
def Dev.rstWaiting (d : Dev) : List (Nat × Nat × Nat × Nat) :=
  d.plat.rstOlder ++ (if d.plat.rstRecord then
    [((d.word R.PC_RST_CAUSE).toNat, d.get F.PC_RST_CAUSE_KIND, d.plat.rstStep, d.plat.rstMode)] else [])

/-- R261 to R263: a cold reset with its sources. During a power-on release the heavier kind stands (R262). XCVM and
INH take the states of R349. -/
def Dev.coldReset (d : Dev) (sources : Nat) : Dev :=
  let heavier := d.powering
  let k := (if heavier then d.powerAgain else d.coldState).rstSources sources
  let k := { k with slp := { k.slp with live := false, inhLive := 0 } }
  let k := if heavier then k else (k.put F.PC_RST_CAUSE_KIND 2).bump F.PC_RST_COUNT_COLD
  { k with plat := { k.plat with
      rstStep := d.get F.BOOT_STEP_STEP, rstMode := d.mode, rstRecord := true
      rstOlder := d.rstWaiting, modeLeft := d.leftMode } }

/-- R358: the supplies that the board may remove in M0 and M1, by their bits of SUPPLY_OK. -/
def removableMask : Nat := 0xF5

/-- R249, R257, R358: a wake completes in M0 or M1: the cause is recorded and a cold release starts. -/
def Dev.wakeDevice (d : Dev) (w : GroupWake) (groups : Nat) : Dev :=
  let d := if d.flag F.PC_WAKE_CAUSE_VALID then d
    else
      let d := (d.put F.PC_WAKE_CAUSE_VALID 1).put F.PC_WAKE_CAUSE_KIND w.kind
      let d := (d.put F.PC_WAKE_CAUSE_SOURCE w.source).put F.PC_WAKE_CAUSE_GROUPS groups
      let d := d.put F.PC_WAKE_MS_MS d.aonMs
      if w.kind ≤ 3 then { d with slp := { d.slp with events := d.slp.events ++ [(w.kind, w.source)] } } else d
  let ms := d.aonMs
  let d := d.coldReset 0
  let removed := Nat.land d.plat.inRange removableMask != removableMask || d.plat.fresh.any (fun x => bitOf removableMask x.1)
  let d := { d with plat := { d.plat with removed } }
  d.chRaise 0x0C05 chPC (leBytes 4 (d.word R.PC_WAKE_CAUSE).toNat ++ leBytes 4 ms)

/-- R102, R246: a group is AWAKE again: its channels go on, and reception timeouts count from now. -/
def Dev.groupResume (d : Dev) (g : Nat) : Dev :=
  let d := d.restartTimeouts (fun e =>
    (pduBus e == 0 && pduChan e / 8 == g) || (pduBus e == 1 && pduChan e / 2 == g))
  (List.finRange 64).foldl (fun (a : Dev) n => if n.val / 8 = g then a.txNext (canC n) else a) d

/-- R248: group k wakes with group g: both belong to one wake without a check. -/
def Dev.wakesWith (d : Dev) (w : GroupWake) (k : Nat) : Bool :=
  !w.check && (d.groupWake k).any (fun x => !x.check && x.kind == w.kind && x.source == w.source && x.since == w.since)

/-- R247 to R249: the wake of group g completes, with the other groups of a wake without a check; with FULL_WAKE
every group is AWAKE. -/
def Dev.wakeDone (d : Dev) (g : Nat) : Dev :=
  match d.groupWake g with
  | none => d
  | some w =>
    let full := d.flag F.PC_GRP_CFG_FULL_WAKE
    let woken := (List.range 8).filter (fun k => (k == g || full || d.wakesWith w k) && d.groupState k != 0)
    let mask := woken.foldl (fun n k => n + 2 ^ k) 0
    let d := woken.foldl (fun (a : Dev) k => (a.setGroup k 0).setWake k none) d
    if d.sleeping then d.wakeDevice w mask
    else woken.foldl Dev.groupResume (d.raise (.pc 3) 2)

/-! ## Wakes (R247, R248) -/

/-- R243, R247, R248: a wake of group g begins; a wake without a check takes over from one with a check, whose
pins stay as they are. -/
def Dev.startWake (d : Dev) (g kind source : Nat) (check : Bool) : Dev :=
  let listen := (d.groupWake g).any (fun x => x.listen)
  let w : GroupWake := { kind, source, since := d.plat.aon, check, listen }
  if check then
    (if d.groupState g = 2 && (d.groupWake g).isNone then (d.setWake g (some w)).setGroup g 3 else d)
  else if d.groupState g != 0 && (d.groupWake g).all (fun x => x.check) then d.setWake g (some w)
  else d

/-- R247: a wake of the groups named; without a check FULL_WAKE names every group. -/
def Dev.wakeGroups (d : Dev) (groups kind source : Nat) (check : Bool) : Dev :=
  let all := if d.flag F.PC_GRP_CFG_FULL_WAKE && !check then 255 else groups
  (List.range 8).foldl (fun (a : Dev) g => if bitOf all g then a.startWake g kind source check else a) d

/-- R255: a wake request after the commit is latched. -/
def Dev.latchWake (d : Dev) (w : LatchedWake) : Dev := { d with slp := { d.slp with latched := d.slp.latched ++ [w] } }

/-- R254, R276: every group is asleep: the device enters the sleep mode it is bound for. Records still
queued are stored first; then latched wakes begin (R255). -/
def Dev.enterSleep (d : Dev) : Dev :=
  match d.slp.target with
  | none => d
  | some m =>
    let old := d.mode
    let present := d.get F.CLR_PRESENT_LO_MASK + d.get F.CLR_PRESENT_HI_MASK * 2 ^ 32
    let count := ((List.range 64).filter (fun s => bitOf present s)).length
    let d := d.chRaise 0x0C04 chPC (leBytes 1 (1 - m) ++ leBytes 1 count ++ leBytes 2 (d.get F.CLR_LAP_LAP) ++ leBytes 8 present)
    let d := d.modeRecord old m (if d.slp.byRequest.isSome then 0 else 1) (d.slp.byRequest.getD internalCode)
    let latched := d.slp.latched
    let d := (d.chFlush).coldState
    let d := (d.put F.PC_MODE_PREV old).put F.PC_MODE_MODE m
    let d := { d.put F.CLR_STAT_STATE 0 with
      slp := { d.slp with target := none, byRequest := none, latched := [], committed := 0 }
      clr := { d.clr with joined := false, turn := none, sent := none, buf := [] } }
    latched.foldl (fun (a : Dev) w => a.wakeGroups w.groups w.kind w.source w.check) d

/-- R254, R276: the device is bound for M0 or M1: every group goes to sleep. -/
def Dev.beginSleep (d : Dev) (m : Nat) (byRequest : Option Nat) : Dev :=
  let committed := (List.range 8).foldl (fun n g =>
    n + boolNat (d.groupState g == 0 || d.groupState g == 3) * 2 ^ g) 0
  let d := (List.range 8).foldl (fun (a : Dev) g =>
    if a.groupState g = 3 then (a.setGroup g 2).setWake g none else a) (d.goToSleep 255)
  let d := { (d.put F.PC_MODE_BUSY 1) with slp := { d.slp with target := some m, byRequest, committed } }
  if (List.range 8).all (fun g => d.groupState g == 2) then d.enterSleep else d

/-- R246: a LIN channel of group g still transmits: a header it sent or a response of its own is under way. -/
def Dev.linSends (d : Dev) (g : Nat) : Bool :=
  [2 * g, 2 * g + 1].any (fun n =>
    (d.chanSt (64 + n)).lin.any (fun f => f.own || d.flag (F.LIN_MODE_MASTER n)))

/-- GROUP_ASLEEP: the frames that LIN channels of the group transmit have ended, its masters have sent
go-to-sleep, a frame to which a channel only listened is lost, and the pins carry the sleep code. -/
def Dev.groupAsleep (d : Dev) (g : Nat) : Dev :=
  if d.groupState g = 1 && !d.linSends g then
    let d := if d.flag F.PC_GRP_CFG_LIN_GTS then
        [2 * g, 2 * g + 1].foldl (fun (a : Dev) n =>
          if a.enabled (.lin n) && a.flag (F.LIN_MODE_MASTER n) then
            a.emit (.linFrame n 0x3C (some (0x00 :: List.replicate 7 0xFF))) else a) d
      else d
    let d := [2 * g, 2 * g + 1].foldl (fun (a : Dev) n => a.modChan (64 + n) (fun s => { s with lin := none })) d
    let d := ((d.setGroup g 2).bump F.SLEEPS_COUNT).raise (.pc 3) 1
    if (List.range 8).all (fun k => d.groupState k == 2) then d.enterSleep else d
  else d

/-- WAKE_CHECK_LISTEN. -/
def Dev.wakeListen (d : Dev) (g : Nat) : Dev :=
  match d.groupWake g with
  | none => d
  | some w =>
    if w.check && decide (w.since + msNs (d.get F.PC_GRP_CFG_INH_LEAD_MS) ≤ d.plat.aon) then
      d.setWake g (some { w with listen := true })
    else d

/-- WAKE_CHECK_PASS. -/
def Dev.wakePass (d : Dev) (g : Nat) : Dev :=
  if (d.groupWake g).any (fun w => w.check && w.listen) then d.wakeDone g else d

/-- FALSE_WAKE. -/
def Dev.falseWake (d : Dev) (g : Nat) : Dev :=
  match d.groupWake g with
  | none => d
  | some w =>
    if w.check && decide (w.since + msNs (d.get F.CLR_TIMING2_T_FALSEWAKE_MS) ≤ d.plat.aon) then
      let d := ((d.setGroup g 2).setWake g none).bump F.FALSE_WAKES_COUNT
      if d.sleeping then d else d.raise (.pc 3) 3
    else d

/-- GROUP_AWAKE. -/
def Dev.groupAwake (d : Dev) (g : Nat) : Dev :=
  match d.groupWake g with
  | none => d
  | some w =>
    if !w.check && d.slp.target.isNone && decide (w.since + msNs (d.get F.PC_GRP_CFG_INH_LEAD_MS) ≤ d.plat.aon) then
      d.wakeDone g
    else d

/-! ## Registers of PC page 3 -/

/-- R245, R247: a write of PC_GRP_CMD. -/
def Dev.grpCmdWrite (d : Dev) (v : Word) : Wr :=
  let op := newField v F.PC_GRP_CMD_OP
  let groups := newField v F.PC_GRP_CMD_GROUPS
  let clr := d.get F.CLR_STAT_STATE
  if op ≥ 2 then .no 0x0122
  else if newField v F.PC_GRP_CMD_GO = 0 then .ok (d.store R.PC_GRP_CMD v)
  else if op = 0 then
    refuseIf (d.flag F.CLR_CFG_EN && bitOf groups (d.get F.CLR_CFG_CHAN / 8)) 0x0122 <|
    refuseIf (clr == 3 || clr == 4) 0x0123 <|
    .ok ((d.store R.PC_GRP_CMD v).goToSleep groups)
  else .ok ((d.store R.PC_GRP_CMD v).wakeGroups groups 4 0 false)

/-- R244, R259: the value of a register of PC page 3 is refused. -/
def pc3Bad (addr : Nat) (v : Word) : Bool :=
  if addr = R.PC_GRP_CFG then newField v F.PC_GRP_CFG_INH_LEAD_MS == 0 || newField v F.PC_GRP_CFG_BUS_WAKE_US == 0
  else if R.PC_INH_CFG 0 ≤ addr ∧ addr ≤ R.PC_INH_CFG 3 then
    wordBits v 30 2 == 0 && wordBits v 0 8 == 0
  else if R.PC_WAKE_CFG 0 ≤ addr ∧ addr ≤ R.PC_WAKE_CFG 7 then wordBits v 29 2 == 3
  else false

/-- R243: PC page 3 has been written: XCVM follows the groups. -/
def Dev.goLive (d : Dev) : Dev := { d with slp := { d.slp with live := true } }

/-- R349: the register of an INH output has been written. -/
def Dev.inhWritten (d : Dev) (addr : Nat) : Dev :=
  { d with slp := { d.slp with
      inhLive := (List.range 4).foldl (fun m k => if addr = R.PC_INH_CFG k then setBit m k else m) d.slp.inhLive } }

/-- A write to PC page 3 at an offset of 0x040 or above. -/
def Dev.pc3Write (d : Dev) (addr : Nat) (v : Word) : Wr :=
  (if addr = R.PC_GRP_CMD then d.grpCmdWrite v
  else refuseIf (pc3Bad addr v) 0x0122 (.ok (d.store addr v))).map (fun d => (d.goLive).inhWritten addr)

end Sys2Proof.Machine
end

