-- ==== Sys2Proof/Machine/Clearing.lean ====
section
/-! DEFINITION. The Clearing ring assist (R250 to R258) and the registers of PC page 4. -/

namespace Sys2Proof.Machine
open Sys2Proof

/-! ## Members, consent and messages -/

def Dev.modClr (d : Dev) (f : ClrSt → ClrSt) : Dev := { d with clr := f d.clr }

def Dev.clrState (d : Dev) : Nat := d.get F.CLR_STAT_STATE
def Dev.clrNode (d : Dev) : Nat := d.get F.CLR_CFG_NODE
def Dev.clrPresent (d : Dev) : Nat := d.get F.CLR_PRESENT_LO_MASK + 2 ^ 32 * d.get F.CLR_PRESENT_HI_MASK
def Dev.clrMember (d : Dev) (s : Nat) : Bool :=
  bitOf (d.get F.CLR_MEMBERS_LO_MASK + 2 ^ 32 * d.get F.CLR_MEMBERS_HI_MASK) s
def Dev.clrPeriod (d : Dev) : Nat := msNs (d.get F.CLR_TIMING_RING_PERIOD_MS)

def Dev.setPresent (d : Dev) (m : Nat) : Dev :=
  (d.put F.CLR_PRESENT_LO_MASK m).put F.CLR_PRESENT_HI_MASK (m / 2 ^ 32)

/-- The nodes of a mask, ascending. -/
def nodesOf (m : Nat) : List Nat := (List.range 64).filter (fun s => bitOf m s)

/-- R252: the present member after a node, wrapping from 63 to 0. -/
def nextNode (m own : Nat) : Nat :=
  ((List.range 64).find? (fun k => bitOf m ((own + 1 + k) % 64))).elim own (fun k => (own + 1 + k) % 64)

/-- Every node of a mask lies in another. -/
def covers (big small : Nat) : Bool := Nat.land big small == small

/-- R310: a Sapling is forwarded to a peer that has neither all of it nor refused it. -/
def Dev.sapForwarding (d : Dev) : Bool :=
  (List.range 4).any (fun k => bitOf (d.get F.SAP_CFG_DOWN_EN) k &&
    d.get (F.SAP_DOWN_STAT_STATE k) != 2 && d.get (F.SAP_DOWN_STAT_STATE k) != 4)

/-- R310: the relay withholds consent. -/
def Dev.sapBusy (d : Dev) : Bool :=
  let s := d.get F.SAP_STAT_STATE
  s == 1 || s == 2 || (s == 4 && d.sapForwarding)

/-- R253: the lowest active cause, 0 for none. -/
def Dev.holdReason (d : Dev) : Nat :=
  let now := d.plat.aon
  if bitOf (d.get F.CLR_HOLD_BITS) 0 then 1
  else if bitOf (d.get F.CLR_HOLD_BITS) 1 then 2
  else if bitOf (d.get F.CLR_HOLD_BITS) 2 then 3
  else if d.get F.CLR_GV_HOLD_LO_MASK != 0 || d.get F.CLR_GV_HOLD_HI_MASK != 0 then 4
  else if d.clr.act.any (fun t => decide (now < t + msNs (d.get F.CLR_ACT_MS_MS))) then 5
  else if d.mode == 8 || d.sapBusy then 6
  else if d.plat.warmStep < 6 || d.plat.gvAt.all (fun t => decide (now < t + d.clrPeriod)) then 7
  else 0

/-- R250: the eight bytes of a message of the device, KIND 0 RING, 1 ALIVE, 2 WAKE_HOLD. -/
def Dev.ringBytesOf (d : Dev) (m : RingMsg) : List Byte :=
  if d.flag F.CLR_CFG_COMPAT then
    let op := (if m.kind = 0 then 2 else 1) + 16 * boolNat (m.ind && m.kind != 2) + 32 * boolNat m.ack
    leBytes 1 m.next ++ leBytes 1 op ++ leBytes 1 m.reason ++ beBytes 2 m.lap ++ leBytes 3 0
  else
    leBytes 1 d.clrNode ++ leBytes 1 m.next ++ leBytes 1 (boolNat m.ind + 2 * boolNat m.ack + 16 * m.kind) ++
      leBytes 1 m.reason ++ beBytes 2 m.lap ++ leBytes 2 0

/-- R15, R251: a message enters the reserved transmit buffer; it leaves when the controller has sent it. Behind the
message that the controller has taken waits one, which a newer one replaces. -/
def Dev.ringSend (d : Dev) (kind next : Nat) (ind ack : Bool) (reason : Nat) : Dev :=
  let m : RingMsg := { kind, next, ind, ack, reason, lap := d.get F.CLR_LAP_LAP }
  d.modClr (fun c => { c with buf := c.buf.take 1 ++ [(m, d.canEdge64)] })

/-- An ALIVE or WAKE_HOLD message; the spec names no next node for it: a free one. -/
def Dev.ringCall (d : Dev) (kind reason : Nat) : Dev :=
  let (next, d) := d.free 64
  d.ringSend kind next (d.flag F.CLR_STAT_CONSENT) false reason

/-- R250: a received ring message; none where its bytes are no message of the layout. -/
def ringRead (compat : Bool) (data : List Byte) : Option RingMsg :=
  let b (i : Nat) : Nat := leNat (slice data i 1)
  if data.length != 8 then none
  else if compat then
    let op := b 1
    let m : RingMsg := {
      kind := if bitOf op 2 then 3 else if bitOf op 1 then 0 else 1
      next := b 0 % 64, ind := bitOf op 4, ack := bitOf op 5, reason := b 2
      lap := beNat (slice data 3 2) }
    if op % 8 = 0 then none else some m
  else if bitsOf (b 2) 4 2 = 3 then none
  else some {
    kind := bitsOf (b 2) 4 2, next := b 1 % 64, ind := bitOf (b 2) 0, ack := bitOf (b 2) 1, reason := b 3
    lap := beNat (slice data 4 2) }

/-! ## Keepers (R256, R257) -/

def Dev.modNode (d : Dev) (s : Nat) (f : NodeSt → NodeSt) : Dev :=
  d.modClr (fun c => { c with nodes := tmod c.nodes s f })

/-- R256: the keeper episode of a node ends. -/
def Dev.keeperEnd (d : Dev) (s : Nat) : Dev :=
  let n := tget d.clr.nodes s
  let d := d.modNode s (fun x => { x with laps := 0, lastLap := none, keeper := none })
  match n.keeper with
  | none => d
  | some t =>
    d.chRaise 0x0C02 chPC (leBytes 1 s ++ leBytes 1 n.reason ++ leBytes 2 0 ++ leBytes 4 n.laps ++
      leBytes 4 ((d.plat.aon - t) / 1000000))

def Dev.keepersEnd (d : Dev) : Dev := (List.range 64).foldl Dev.keeperEnd d

/-- R256: a message of a node: it consents, or its first RING message of a lap holds the ring awake. -/
def Dev.keeperLap (d : Dev) (s : Nat) (m : RingMsg) : Dev :=
  let d := d.modNode s (fun x => { x with reason := m.reason })
  if m.ind then d.keeperEnd s
  else if m.kind ≠ 0 || !d.flag F.CLR_STAT_CONSENT || (tget d.clr.nodes s).lastLap == some m.lap then d
  else
    let d := d.modNode s (fun x => { x with laps := x.laps + 1, lastLap := some m.lap })
    let n := tget d.clr.nodes s
    if d.get F.CLR_TIMING2_KEEPER_LAPS < n.laps ∧ n.keeper.isNone then
      let d := ((d.modNode s (fun x => { x with keeper := some d.plat.aon })).bump F.KEEPERS_COUNT).raise (.pc 4) 4
      d.chRaise 0x0C01 chPC (leBytes 1 s ++ leBytes 1 m.reason ++ leBytes 2 (d.get F.CLR_LAP_LAP) ++ leBytes 4 n.laps)
    else d

/-! ## The sleep sequence (R254, R255) -/

/-- R254: back to RING: agreement needs a lap of its own. -/
def Dev.toRing (d : Dev) : Dev :=
  (d.put F.CLR_STAT_STATE 1).modClr (fun c => { c with lapSeen := 0, lapInd := true, acked := 0 })

/-- R254: a complete lap in which every present member consents is an agreement. -/
def Dev.lapCheck (d : Dev) : Dev :=
  if d.clrState = 1 ∧ d.clr.lapInd ∧ covers d.clr.lapSeen d.clrPresent then
    ((((d.put F.CLR_STAT_STATE 2).modClr (fun c => { c with acked := 0 })).bump F.AGREEMENTS_COUNT)).raise (.pc 4) 1
  else d

/-- R254: every present member has acknowledged. -/
def Dev.ackCheck (d : Dev) : Dev :=
  if d.clrState = 2 ∧ covers d.clr.acked d.clrPresent then
    ((d.put F.CLR_STAT_STATE 3).modClr (fun c => { c with settle := d.plat.aon })).raise (.pc 4) 2
  else d

/-- R252, R254: a message of a present member, the device's own included, is counted. -/
def Dev.ringCount (d : Dev) (s : Nat) (m : RingMsg) : Dev :=
  let d :=
    if m.kind = 0 && m.lap == d.get F.CLR_LAP_LAP then
      (d.modClr (fun c => { c with lapSeen := setBit c.lapSeen s, lapInd := c.lapInd && m.ind })).lapCheck
    else d
  if d.clrState = 2 then
    if !m.ind || m.kind != 0 then d.toRing
    else if m.ack then (d.modClr (fun c => { c with acked := setBit c.acked s })).ackCheck
    else d
  else d

/-- R255: a wake request in SETTLE: kind and argument of the LATE_WAKE record, REASON of the message. -/
def Dev.lateWake (d : Dev) (kind arg reason : Nat) : Dev :=
  let ms := (d.plat.aon - d.clr.settle) / 1000000
  let d := (d.ringCall 2 reason).toRing
  let d := (d.modClr (fun c => { c with turn := c.turn.map (fun _ => d.plat.aon), heard := d.plat.aon })).bump F.LATE_WAKES_COUNT
  (d.raise (.pc 4) 3).chRaise 0x0C03 chPC (leBytes 1 kind ++ leBytes 1 arg ++ leBytes 2 0 ++ leBytes 4 ms)

/-- R255: a request after the commit, other than a pin edge or a bus wake: a late-request wake. -/
def Dev.lateRequest (d : Dev) (kind : Nat) : Dev :=
  d.latchWake { kind := 5, source := kind, groups := d.slp.committed, check := false }

/-! ## Joining and leaving (R251, R258) -/

/-- R251: the conditions under which the assist takes part. -/
def Dev.clrMay (d : Dev) : Bool :=
  d.flag F.CLR_CFG_EN && d.enabled (.can (d.get F.CLR_CFG_CHAN)) && d.chanAwake (d.get F.CLR_CFG_CHAN) &&
    d.slp.target.isNone && d.mode != 11

/-- The assist leaves the ring. -/
def Dev.clrLeave (d : Dev) : Dev :=
  ((d.put F.CLR_STAT_STATE 0).keepersEnd).modClr (fun c => { c with
    joined := false, turn := none, sent := none, buf := [] })

/-- After every command: the assist leaves where R251 no longer holds, shows its consent, and acts on a
consent that has gone. -/
def Dev.clrSync (d : Dev) : Dev :=
  let d := if (d.clr.joined && !d.clrMay) || (!d.flag F.CLR_CFG_EN && d.clrState != 4) then
      (if d.clrState = 0 then d else d.clrLeave) else d
  let st := d.clrState
  let was := d.flag F.CLR_STAT_CONSENT
  let reason := if st = 0 then 0 else d.holdReason
  let consent := st != 0 && reason == 0
  let d := (d.put F.CLR_STAT_REASON reason).putFlag F.CLR_STAT_CONSENT consent
  if was && !consent then
    let d := d.keepersEnd
    if st = 2 then d.toRing
    else if st = 3 then d.lateWake 1 reason reason
    else if st = 4 then d.lateRequest 1
    else d
  else d

/-- CLR_JOIN. -/
def Dev.clrJoin (d : Dev) : Dev :=
  if d.clrMay && !d.clr.joined then
    let d := (d.setPresent (2 ^ d.clrNode)).toRing
    let d := d.modClr (fun c => { c with joined := true, turn := none, sent := none, heard := d.plat.aon })
    let reason := d.holdReason
    let d := (d.put F.CLR_STAT_REASON reason).putFlag F.CLR_STAT_CONSENT (reason == 0)
    d.ringCall 1 reason
  else d

/-! ## The ring (R252) -/

/-- A member leaves the present members. -/
def Dev.markAbsent (d : Dev) (s : Nat) : Dev := ((d.setPresent (clrBit d.clrPresent s)).lapCheck).ackCheck

/-- R250, R254: a limp-home message marks its sender absent; without consent it ends an agreement. -/
def Dev.limpHome (d : Dev) (s : Nat) (ind : Bool) : Dev :=
  (if d.clrState = 2 ∧ !ind then d.toRing else d).markAbsent s

/-- A ring message of another member is heard in RING or ACK. -/
def Dev.ringHear (d : Dev) (s : Nat) (m : RingMsg) : Dev :=
  let now := d.plat.aon
  let d := d.modClr (fun c => { c with heard := now, sent := c.sent.filter (fun x => x.1 != s) })
  let f := if s < 32 then F.CLR_IND_LO_MASK else F.CLR_IND_HI_MASK
  let d := d.put f (putBits (d.get f) (s % 32) 1 (boolNat m.ind))
  if m.kind = 3 then (d.keeperLap s m).limpHome s m.ind
  else
    let d := d.setPresent (setBit d.clrPresent s)
    let d :=
      if m.kind = 0 && (nodesOf d.clrPresent).head? == some s && m.lap != d.get F.CLR_LAP_LAP then
        (d.put F.CLR_LAP_LAP m.lap).modClr (fun c => { c with lapSeen := 0, lapInd := true })
      else d
    let d := d.keeperLap s m
    let d := d.ringCount s m
    if m.kind = 0 && m.next == d.clrNode then d.modClr (fun c => { c with turn := some now }) else d

/-- R251 to R255: a frame of node s in the ring identifier range, before filtering. -/
def Dev.ringRx (d : Dev) (s : Nat) (data : List Byte) : Dev :=
  match ringRead (d.flag F.CLR_CFG_COMPAT) data with
  | none => d
  | some m =>
    if d.clrState = 4 then (if d.clrMember s && s != d.clrNode then d.lateRequest 4 else d)
    else if !d.clr.joined || !d.clrMember s || s == d.clrNode then d
    else if d.clrState = 3 then (d.lateWake 4 s 0).ringHear s m
    else d.ringHear s m

/-- R252, R254: the device's RING message to the next present member enters the reserved buffer. -/
def Dev.ringTurn (d : Dev) : Dev :=
  let own := d.clrNode
  let d :=
    if (nodesOf d.clrPresent).head? = some own then
      (d.put F.CLR_LAP_LAP (d.get F.CLR_LAP_LAP + 1)).modClr (fun c => { c with lapSeen := 0, lapInd := true })
    else d
  let ind := d.flag F.CLR_STAT_CONSENT
  let ack := d.clrState == 2 && ind
  let next := nextNode d.clrPresent own
  let reason := d.get F.CLR_STAT_REASON
  (d.ringSend 0 next ind ack reason).modClr (fun c => { c with sent := none, turn := none })

/-- R251, R252: the oldest message of the reserved buffer has been sent: a RING message now counts, and the node
addressed has its time. -/
def Dev.ringSent (d : Dev) (m : RingMsg) : Dev :=
  let own := d.clrNode
  let now := d.plat.aon
  let d := d.emit (.ring (d.get F.CLR_CFG_CHAN) (d.flag F.CLR_ID_IDE) (d.get F.CLR_ID_ID_BASE + own) (d.ringBytesOf m))
  let d := d.modClr (fun c => { c with buf := c.buf.drop 1 })
  if m.kind = 0 ∧ d.clr.joined then
    (d.modClr (fun c => if m.next = own then { c with turn := some now } else { c with sent := some (m.next, now) })).ringCount
      own m
  else d

/-- The assist speaks on the ring: it has joined and is in RING or ACK. -/
def Dev.ringing (d : Dev) : Bool := d.clr.joined && (d.clrState == 1 || d.clrState == 2)

/-- CLR_TOKEN_SEND. -/
def Dev.tokenSend (d : Dev) : Dev :=
  if d.ringing && d.clr.turn.any (fun t => decide (t + d.clrPeriod ≤ d.plat.aon)) then d.ringTurn else d

/-- CLR_SKIP. -/
def Dev.ringSkip (d : Dev) : Dev :=
  match d.clr.sent with
  | none => d
  | some (s, t) =>
    if d.ringing && decide (t + 2 * d.clrPeriod ≤ d.plat.aon) then
      let d := ((d.bump F.RING_SKIPS_COUNT).raise (.pc 4) 5).keeperEnd s
      let d := d.markAbsent s
      if d.ringing then d.ringTurn else d
    else d

/-- CLR_LOST_TOKEN. -/
def Dev.lostToken (d : Dev) : Dev :=
  if d.ringing && decide (d.clr.heard + ((nodesOf d.clrPresent).length + 1) * d.clrPeriod ≤ d.plat.aon) then
    let d := d.ringCall 1 (d.get F.CLR_STAT_REASON)
    let d := if d.clrState = 2 then d.toRing else d
    d.modClr (fun c => { c with heard := d.plat.aon, turn := some d.plat.aon })
  else d

/-- CLR_COMMIT. -/
def Dev.clrCommit (d : Dev) : Dev :=
  if d.clr.joined && d.clrState == 3 && decide (d.clr.settle + msNs (d.get F.CLR_TIMING_T_SETTLE_MS) ≤ d.plat.aon) then
    ((d.put F.CLR_STAT_STATE 4).modClr (fun c => { c with joined := false, buf := [] })).beginSleep
      (if d.flag F.CLR_CFG_TARGET then 0 else 1) none
  else d

/-! ## Wakes and activity (R247, R253, R255) -/

/-- KIND and SOURCE of a bus wake of channel c. -/
def busKind (c : Nat) : Nat := if c < 64 then 1 else 2
def busSource (c : Nat) : Nat := if c < 64 then c else c - 64

/-- BUS_WAKE: channel c held dominant for its wake time. -/
def Dev.busWake (d : Dev) (c : Nat) : Dev :=
  let g := chanGroup c
  if d.slp.target.isSome then
    (d.bump F.BUS_WAKES_COUNT).latchWake { kind := busKind c, source := busSource c, groups := 2 ^ g, check := true }
  else if d.groupState g = 2 && (d.groupWake g).isNone && d.mode != 0 then
    let d := d.bump F.BUS_WAKES_COUNT
    let d := if d.clrState = 3 then d.lateWake 3 c d.holdReason else d
    d.wakeGroups (2 ^ g) (busKind c) (busSource c) true
  else d

/-- WAKE_PIN_EDGE: an edge of WAKE pin n whose level held for FILTER_US. -/
def Dev.pinWake (d : Dev) (n : Nat) (rise : Bool) : Dev :=
  let e := d.get (F.PC_WAKE_CFG_EDGE n)
  if d.flag (F.PC_WAKE_CFG_EN n) && (e == 2 || (rise && e == 0) || (!rise && e == 1)) then
    let d := d.bump F.PIN_WAKES_COUNT
    let groups := d.get (F.PC_WAKE_CFG_GROUPS n)
    let check := d.flag (F.PC_WAKE_CFG_CHECK n)
    if d.slp.target.isSome then d.latchWake { kind := 3, source := n, groups, check }
    else
      let d := if d.clrState = 3 then d.lateWake 2 n d.holdReason else d
      d.wakeGroups groups 3 n check
  else d

/-- R253: a frame received on switch port p counts as activity. -/
def Dev.portActivity (d : Dev) (p : Nat) : Dev :=
  if p < 24 && bitOf (d.get F.CLR_ACT_PORTS) p then d.modClr (fun c => { c with act := some d.plat.aon }) else d

/-- R253: a frame received on a channel counts as activity. -/
def Dev.chanActivity (d : Dev) (c : Nat) : Dev :=
  if bitOf (d.get F.CLR_ACT_GROUPS) (chanGroup c) then d.modClr (fun x => { x with act := some d.plat.aon }) else d

/-- R250: the node of a ring message: a classical data frame of 8 bytes in the ring identifier range of the
assist's channel. -/
def Dev.ringNode (d : Dev) (c : Nat) (f : CanFrame) : Option Nat :=
  let id := if f.ide then f.id.toNat else f.id.toNat % 2048
  let base := d.get F.CLR_ID_ID_BASE
  if d.flag F.CLR_CFG_EN && d.get F.CLR_CFG_CHAN == c && f.fmt == 0 && !f.rtr && f.data.length == 8 &&
      d.flag F.CLR_ID_IDE == f.ide && decide (base ≤ id) && decide (id < base + 64) then some (id - base)
  else none

/-- CAN_FRAME_RX: a channel of a group that sleeps receives nothing (R246). A frame received correctly that is a
ring message goes to the assist before it is filtered (R251); any other counts as activity (R253). -/
def Dev.canReceive (d : Dev) (n : Fin 64) (f : CanFrame) (ago : Nat) : Dev :=
  let d :=
    if d.canHears n && d.fmtEnabled n f.fmt then
      match d.ringNode n f with
      | some s => d.ringRx s f.data
      | none => d.chanActivity n
    else d
  d.canFrameRx n f ago

/-- R250: the frame of a ring message of node s. -/
def Dev.ringFrame (d : Dev) (s : Nat) (data : List Byte) : CanFrame := {
  fmt := 0, ide := d.flag F.CLR_ID_IDE, rtr := false, id := BitVec.ofNat 29 (d.get F.CLR_ID_ID_BASE + s)
  data, af := 0, sdt := 0, vcid := 0, sec := false, brs := false, esi := false }

/-- CLR_RING_MSG_RX: a ring message of node s is received on the ring channel; how long ago it began is free. -/
def Dev.ringReceive (d : Dev) (s : Fin 64) (data : List Byte) : Dev :=
  let (ago, d) := d.free (2 ^ 20)
  d.canReceive (Fin.ofNat 64 (d.get F.CLR_CFG_CHAN)) (d.ringFrame s data) ago

/-! ## The reserved transmit buffer (R251) -/

/-- R251: the frame whose attempt ended on channel n, its start `ago` CAN clocks back, is the oldest message of the
reserved buffer: it was there when the frame started, and it goes ahead of the FIFO. -/
def Dev.ringSending (d : Dev) (n ago : Nat) : Option RingMsg :=
  match d.clr.buf with
  | [] => none
  | (m, at64) :: _ =>
    if d.get F.CLR_CFG_CHAN = n ∧ at64 + ago * 800 ≤ d.canEdge64 ∧ d.canActive n ∧ d.get (F.CAN_MODE_TEST n) ≠ 1 then some m
    else none

/-- R129, R142, R251: the channel has sent a ring message: its counters and its capture, as for any frame sent; in
loopback the controller receives it, and the assist, whose own it is, takes nothing from it. -/
def Dev.ringLeft (d : Dev) (n : Fin 64) (m : RingMsg) (ago : Nat) : Dev :=
  let t : Int := (d.canEdge64 : Int) - ago * 800
  let id := d.get F.CLR_ID_ID_BASE + d.clrNode
  let f := d.ringFrame d.clrNode (d.ringBytesOf m)
  let d := d.tapEvent (32 + n) true 2048 {
    source := capSource (32 + n) true (d.stampBase (24 + n) t), stamp := d.stampAt (24 + n) t res12ns5, orig := 8, aux := 8
    aux2 := id + boolNat (d.flag F.CLR_ID_IDE) * 2 ^ 29, data := f.data }
  let d := (d.canCount n 1).put (F.CAN_ERR_TEC n) (d.get (F.CAN_ERR_TEC n) - 1)
  let d := (d.canSetState n (d.canErrState n)).ringSent m
  if d.canLoops n then d.canStore n f ago else d

/-- CAN_TX_DONE: of the ring message in the reserved buffer, or else of the frame at the head of the FIFO. -/
def Dev.canEnds (d : Dev) (n : Fin 64) (how : CanEnd) (ago : Nat) : Dev :=
  match d.ringSending n ago with
  | none => d.canTxDone n how ago
  | some m =>
    if how = .sent then d.ringLeft n m ago
    else if d.flag (F.CAN_MODE_DAR n) then d.modClr (fun c => { c with buf := c.buf.drop 1 })
    else d

/-- CAN_BUS_ERROR; the attempt of a ring message that ends in it is not repeated with DAR. -/
def Dev.canErrs (d : Dev) (n : Fin 64) (code : Nat) (kind : CanErrKind) (xlData : Bool) : Dev :=
  let e := d.canBusError n code kind xlData
  if errSending kind && d.canActive n && !e.canActive n && d.flag (F.CAN_MODE_DAR n) && d.get F.CLR_CFG_CHAN == n.val then
    e.modClr (fun c => { c with buf := c.buf.drop 1 })
  else e

/-! ## Grove holds (R253) -/

/-- Each bit set in `v` is set and its timer restarts. -/
def Dev.gvHoldSet (d : Dev) (hi : Bool) (v : Nat) : Dev :=
  let f := if hi then F.CLR_GV_HOLD_HI_MASK else F.CLR_GV_HOLD_LO_MASK
  let b := if hi then 32 else 0
  let d := d.put f (Nat.lor (d.get f) v)
  (List.range 32).foldl (fun (a : Dev) k =>
    if bitOf v k then a.modClr (fun c => { c with holds := tset c.holds (b + k) a.plat.aon }) else a) d

/-- Each bit set in `v` is released. -/
def Dev.gvHoldRelease (d : Dev) (hi : Bool) (v : Nat) : Dev :=
  let f := if hi then F.CLR_GV_HOLD_HI_MASK else F.CLR_GV_HOLD_LO_MASK
  d.put f (Nat.land (d.get f) (Nat.xor v (2 ^ 32 - 1)))

/-- CLR_GV_HOLD_LAPSE. -/
def Dev.gvHoldLapse (d : Dev) (b : Nat) : Dev :=
  let f := if 32 ≤ b then F.CLR_GV_HOLD_HI_MASK else F.CLR_GV_HOLD_LO_MASK
  if bitOf (d.get f) (b % 32) && decide (tget d.clr.holds b + msNs (d.get F.CLR_NM_TIMEOUT_MS) ≤ d.plat.aon) then
    d.put f (clrBit (d.get f) (b % 32))
  else d

/-! ## Registers of PC page 4 -/

/-- R250, CLR_CFG: EN may be set. -/
def Dev.clrEnableBad (d : Dev) (v : Word) : Bool :=
  !d.clrMember (newField v F.CLR_CFG_NODE) ||
    decide ((if d.flag F.CLR_ID_IDE then 2 ^ 29 else 2 ^ 11) ≤ d.get F.CLR_ID_ID_BASE + 63)

/-- The value of a timing register is refused. -/
def pc4Bad (addr : Nat) (v : Word) : Bool :=
  if addr = R.CLR_TIMING then newField v F.CLR_TIMING_RING_PERIOD_MS < 10 || newField v F.CLR_TIMING_T_SETTLE_MS == 0
  else if addr = R.CLR_TIMING2 then newField v F.CLR_TIMING2_T_FALSEWAKE_MS == 0 || newField v F.CLR_TIMING2_KEEPER_LAPS == 0
  else if addr = R.CLR_ACT_MS then newField v F.CLR_ACT_MS_MS == 0
  else if addr = R.CLR_NM_TIMEOUT then newField v F.CLR_NM_TIMEOUT_MS == 0
  else false

/-- CLR_HOLD: the bit that an initiator writes. -/
def holdBit : Init → Option Nat
  | .mc => some 0
  | .ha => some 1
  | .hb => some 2
  | _ => none

/-- CLR_CMD.WAKE_HOLD: a WAKE_HOLD message now; in SETTLE a wake request with cause 1, latched after the commit
(R255). -/
def Dev.wakeHold (d : Dev) : Dev :=
  if d.clr.joined then
    if d.clrState = 3 then d.lateWake 1 1 1
    else
      let d := d.ringCall 2 (d.get F.CLR_STAT_REASON)
      if d.clrState = 2 then d.toRing else d
  else if d.clrState = 4 then d.lateRequest 1
  else d

/-- A write to PC page 4 at an offset of 0x040 or above. -/
def Dev.pc4Write (d : Dev) (who : Init) (addr : Nat) (v : Word) : Wr :=
  if addr = R.CLR_CFG then
    let on := d.flag F.CLR_CFG_EN
    refuseIf (on && decide (wordBits (d.word addr) 8 23 ≠ wordBits (fieldsNext ((regAt addr).elim [] (·.fields)) (d.word addr) v) 8 23))
      0x0122 <|
    refuseIf (!on && newField v F.CLR_CFG_EN == 1 && d.clrEnableBad v) 0x0122 (.ok (d.store addr v))
  else if addr = R.CLR_HOLD then
    (match holdBit who with
     | none => .ok d
     | some b => .ok (d.put F.CLR_HOLD_BITS (putBits (d.get F.CLR_HOLD_BITS) b 1 (bitsOf v.toNat b 1))))
  else if addr = R.CLR_GV_HOLD_LO then .ok (d.gvHoldSet false v.toNat)
  else if addr = R.CLR_GV_HOLD_HI then .ok (d.gvHoldSet true v.toNat)
  else if addr = R.CLR_GV_REL_LO then .ok (d.gvHoldRelease false v.toNat)
  else if addr = R.CLR_GV_REL_HI then .ok (d.gvHoldRelease true v.toNat)
  else if addr = R.CLR_CMD then .ok (if newField v F.CLR_CMD_WAKE_HOLD = 1 then d.wakeHold else d)
  else refuseIf (pc4Bad addr v) 0x0122 (.ok (d.store addr v))

end Sys2Proof.Machine
end

