-- ==== Sys2Proof/Machine/Sapling.lean ====
section
/-! DEFINITION. The Sapling update relay: slots and manifests (R303 to R305), messages and windows (R306,
R307, R309), sessions (R308, R310, R311), holds (R312), activation and revert (R313 to R316), records
(R318), and the registers of MC page 1. -/

namespace Sys2Proof.Machine
open Sys2Proof

/-! ## Slots (R303) -/

def Dev.modSap (d : Dev) (f : SapSt → SapSt) : Dev := { d with sap := f d.sap }

/-- The relay runs in the management firmware. -/
def Dev.fwRuns (d : Dev) : Bool := d.get F.MC_CORE_FW_STATE == 2

/-- R317: the boot ROM receives a Sapling on EP0. Its blocks lie in LPDDR5, kept as slot 2. -/
def Dev.sapBoot (d : Dev) : Bool :=
  d.mode == 3 && d.get F.PC_STRAP_BOOTSEL == 2 && d.get F.BOOT_STEP_STEP == 10 && !bitOf d.plat.boot.flags 3

/-- The relay, or the boot ROM in its place, answers messages. -/
def Dev.sapOn (d : Dev) : Bool := (d.flag F.SAP_CFG_EN && d.fwRuns) || d.sapBoot

/-- The slot that a new session takes: the inactive slot, or LPDDR5 in the boot ROM. -/
def Dev.sapInactive (d : Dev) : Nat := if d.sapBoot then 2 else d.get F.SAP_STAT_SLOT

/-- The slot of the session: the one that was inactive when it began. -/
def Dev.sapSlot (d : Dev) : Nat := d.sap.slot

/-- Block n of a slot, empty where its map byte is 0xFF. -/
def Dev.sapBlock (d : Dev) (slot n : Nat) : List Byte := tget d.sap.flash (8192 * slot + n)

def Dev.sapStored (d : Dev) (n : Nat) : Bool := !(d.sapBlock d.sapSlot n).isEmpty

def Dev.sapErase (d : Dev) (slot : Nat) : Dev :=
  d.modSap (fun s => { s with
    flash := tabDrop (fun i => i / 8192 == slot) s.flash, erased := if slot < 2 then setBit s.erased slot else s.erased })

/-- The bytes of a slot from an offset on; erased flash reads 0xFF. -/
def Dev.slotBytes (d : Dev) (slot off len : Nat) : List Byte :=
  let blocks := (List.range ((off % 4096 + len + 4095) / 4096)).flatMap (fun k =>
    let b := d.sapBlock slot (off / 4096 + k)
    if b.isEmpty then List.replicate 4096 0xFF else Sys2Proof.Machine.slice b 0 4096)
  (blocks.drop (off % 4096)).take len

/-- R304: the firmware of a slot: header and payload at offset 0x1000. -/
def Dev.slotFirmware (d : Dev) (slot : Nat) : List Byte :=
  d.slotBytes slot 0x1000 (1024 + min 16777216 (hdrLen (d.slotBytes slot 0x1000 1024)))

/-! ## Manifests (R304, R305) -/

/-- A component entry. -/
structure SapEntry where
  kind : Nat
  off : Nat
  len : Nat
  apply : Nat
  digest : List Byte
  deriving DecidableEq, Repr

def manSession (b : List Byte) : Nat := hdr b 1024 4
def manTotal (b : List Byte) : Nat := hdr b 1028 4
def manCount (b : List Byte) : Nat := hdr b 1032 1
def manBase (b : List Byte) : List Byte := slice b 1036 32

def manEntries (b : List Byte) : List SapEntry :=
  (List.range (manCount b)).map (fun i =>
    let e := slice b (1068 + 48 * i) 48
    { kind := leNat (slice e 0 1), off := leNat (slice e 4 4), len := leNat (slice e 8 4), apply := leNat (slice e 12 4)
      digest := slice e 16 32 })

/-- The digest of the component of a kind. -/
def manDigest (b : List Byte) (kind : Nat) : Option (List Byte) :=
  ((manEntries b).find? (fun e => e.kind == kind)).map (·.digest)

def manCountOf (b : List Byte) (kind : Nat) : Nat := ((manEntries b).filter (fun e => e.kind == kind)).length

/-- R304: the payload obeys its layout. -/
def manForm (b : List Byte) : Bool :=
  let es := manEntries b
  let n := manCount b
  decide (2 ≤ manTotal b) && decide (manTotal b ≤ 8190) && decide (1 ≤ n) && decide (n ≤ 8) && hdr b 1033 3 == 0 &&
    hdrLen b == 44 + 48 * n && (b.drop (1068 + 48 * n)).all (fun x => x == 0) &&
    (List.range n).all (fun i => hdr b (1069 + 48 * i) 3 == 0) &&
    es.all (fun e => decide (1 ≤ e.kind) && decide (e.kind ≤ 5) && e.off % 4096 == 0 &&
      decide (e.off + e.len ≤ 0x1FFE000) && (e.kind != 1 || e.off == 0x1000)) &&
    manCountOf b 1 == 1 && manCountOf b 3 == 1 && (manCountOf b 4 != 0 || (manBase b).all (fun x => x == 0)) &&
    !anyPair (fun x y => decide (x.off < y.off + y.len) && decide (y.off < x.off + x.len)) es

/-- R305: the manifest's refusal code, 0 where it is accepted. -/
def Dev.manifestCode (d : Dev) (b : List Byte) : Nat :=
  if (d.imageVerified b 2).isNone || !manForm b then 7 else if d.svnOk b then 0 else 8

/-- R310: every component has its digest. -/
def Dev.sapDigests (d : Dev) (slot : Nat) : Bool :=
  (manEntries (d.sapBlock slot 0)).all (fun e => sha256 (d.slotBytes slot e.off e.len) == e.digest)

/-! ## Messages (R306) -/

/-- A message: TYPE, CODE, SESSION, SEQ, SACK, TOTAL, data. -/
structure SapMsg where
  typ : Nat
  code : Nat
  session : Nat
  seq : Nat
  sack : Nat
  total : Nat
  data : List Byte
  deriving DecidableEq, Repr

def sapBytes (m : SapMsg) : List Byte :=
  let h := beBytes 2 0x5350 ++ beBytes 1 m.typ ++ beBytes 1 m.code ++ beBytes 4 m.session ++ beBytes 4 m.seq ++
    beBytes 2 m.data.length ++ beBytes 2 m.sack ++ beBytes 4 m.total
  h ++ beBytes 4 (crc32c (h ++ m.data)) ++ List.replicate 8 0 ++ m.data

/-- RFC 1071: the Internet checksum of bytes. -/
def inetSum (bs : List Byte) : Nat :=
  let s := (List.range ((bs.length + 1) / 2)).foldl (fun a i => a + beNat (slice bs (2 * i) 2)) 0
  0xFFFF - (if s = 0 then 0 else (s - 1) % 0xFFFF + 1)

/-- R306, RFC 791, RFC 768: a message in an IPv4 packet with its UDP header; `x` gives the open fields. -/
def ipPacket (x src dst port : Nat) (msg : List Byte) : List Byte :=
  let sport := bitsOf x 33 16
  let pseudo := beBytes 4 src ++ beBytes 4 dst ++ beBytes 2 17 ++ beBytes 2 (8 + msg.length)
  let udp (sum : Nat) : List Byte := beBytes 2 sport ++ beBytes 2 port ++ beBytes 2 (8 + msg.length) ++ beBytes 2 sum
  let sum := inetSum (pseudo ++ udp 0 ++ msg)
  let ip (sum : Nat) : List Byte :=
    [0x45] ++ beBytes 1 (bitsOf x 0 8) ++ beBytes 2 (28 + msg.length) ++ beBytes 2 (bitsOf x 8 16) ++
      beBytes 2 (0x4000 * bitsOf x 24 1) ++ beBytes 1 (bitsOf x 25 8) ++ [17] ++ beBytes 2 sum ++
      beBytes 4 src ++ beBytes 4 dst
  ip (inetSum (ip 0)) ++ udp (if sum = 0 then 0xFFFF else sum) ++ msg

/-- A received datagram; none where MAGIC or CRC is wrong or the length differs from LEN. -/
def sapRead (b : List Byte) : Option SapMsg :=
  let g (off n : Nat) : Nat := beNat (slice b off n)
  let data := b.drop 32
  if 32 ≤ b.length && g 0 2 == 0x5350 && g 20 4 == crc32c (b.take 20 ++ data) && g 12 2 == data.length then
    some { typ := g 2 1, code := g 3 1, session := g 4 4, seq := g 8 4, sack := g 14 2, total := g 16 4, data }
  else none

/-! ## The session's own progress -/

def Dev.sapState (d : Dev) : Nat := d.get F.SAP_STAT_STATE
def Dev.sapTotal (d : Dev) : Nat := d.get F.SAP_RX_TOTAL
def Dev.sapAck (d : Dev) : Nat := d.get F.SAP_RX_ACK_SEQ
def Dev.sapSession (d : Dev) : Nat := d.get F.SAP_SESSION_ID
def Dev.sapManifest (d : Dev) : List Byte := d.sapBlock d.sapSlot 0

/-- ACK_SEQ follows the receipt map. -/
def Dev.sapCount (d : Dev) : Dev :=
  d.put F.SAP_RX_ACK_SEQ ((findBelow d.sapTotal (fun n => !d.sapStored n)).getD d.sapTotal)

def Dev.sapSack (d : Dev) : Nat :=
  (List.range 16).foldl (fun a i => a + boolNat (d.sapStored (d.sapAck + 1 + i)) * 2 ^ i) 0

/-- R306, R317: the UDP port of Sapling messages, and the device's IPv4 address; the boot ROM takes both from the
option words. -/
def Dev.sapPort (d : Dev) : Nat := if d.sapBoot then Config.optUdpPort d.plat.options % 2 ^ 16 else d.get F.SAP_CFG_UDP_PORT
def Dev.sapIp (d : Dev) : Nat := if d.sapBoot then Config.optIp d.plat.options % 2 ^ 32 else d.get F.SAP_IP_ADDR

/-- The IPv4 packet of a message to an address, with its UDP header. -/
def Dev.sapPacket (d : Dev) (ip : Nat) (msg : List Byte) : List Byte :=
  ipPacket (Config.ipFields d.plat.aon msg) d.sapIp ip d.sapPort msg

/-- A message to an address. -/
def Dev.sapEmit (d : Dev) (ip : Nat) (m : SapMsg) : Dev := d.emit (.sapling ip d.sapPort (d.sapPacket ip (sapBytes m)))

/-- A message of the session to an address. -/
def Dev.sapSend (d : Dev) (ip typ code session seq sack : Nat) (data : List Byte) : Dev :=
  d.sapEmit ip { typ, code, session, seq, sack, total := d.sapTotal, data }

def Dev.sapReply (d : Dev) (ip typ code : Nat) : Dev :=
  if d.sapState = 1 then d.sapSend ip typ code d.sapSession 0 0 []
  else d.sapSend ip typ code d.sapSession d.sapAck d.sapSack []

/-- R318: SAP_SESSION, with the final state and result code. -/
def Dev.sapRecord (d : Dev) : Dev :=
  d.chRaise 0x0F01 chMC (leBytes 4 d.sapSession ++ leBytes 4 d.sapTotal ++ leBytes 1 (d.get F.SAP_STAT_SLOT) ++
    leBytes 1 d.sapState ++ leBytes 1 (d.get F.SAP_RESULT_CODE))

/-! ## Downstream peers (R307, R309) -/

def Dev.sapPeer (d : Dev) (k : Nat) : SapPeer := tget d.sap.peers k
def Dev.modPeer (d : Dev) (k : Nat) (f : SapPeer → SapPeer) : Dev := d.modSap (fun s => { s with peers := tmod s.peers k f })
def Dev.peerIp (d : Dev) (k : Nat) : Nat := d.get (F.SAP_DOWN_IP_ADDR k)
def Dev.peerAck (d : Dev) (k : Nat) : Nat := d.get (F.SAP_DOWN_STAT_ACK_SEQ k)
def Dev.peerState (d : Dev) (k : Nat) : Nat := d.get (F.SAP_DOWN_STAT_STATE k)
def Dev.peerOn (d : Dev) (k : Nat) : Bool := bitOf (d.get F.SAP_CFG_DOWN_EN) k

/-- The peer in use at an address. -/
def Dev.peerAt (d : Dev) (ip : Nat) : Option Nat := findBelow 4 (fun k => d.peerOn k && d.peerIp k == ip)

def Dev.sapSendBlock (d : Dev) (k n : Nat) : Dev :=
  d.sapSend (d.peerIp k) 1 0 d.sapSession n 0 (d.sapBlock d.sapSlot n)

/-- Blocks of the window that are stored and not yet sent go out. -/
def Dev.sapPump (d : Dev) (k : Nat) : Dev :=
  let st := d.peerState k
  if d.peerOn k && st < 2 && d.sapState != 0 && d.sapState != 1 then
    (List.range 16).foldl (fun (a : Dev) i =>
      let n := a.peerAck k + i
      let p := a.sapPeer k
      if n < a.sapTotal && a.sapStored n && !p.sent.any (fun x => x.1 == n) && !p.sack.contains n then
        ((a.sapSendBlock k n).modPeer k (fun q => { q with sent := q.sent ++ [(n, 1, a.plat.aon)] })).put (F.SAP_DOWN_STAT_STATE k) 1
      else a) d
  else d

/-- A block is sent once more. -/
def Dev.sapResend (d : Dev) (k n : Nat) : Dev :=
  ((d.sapSendBlock k n).bump F.SAP_RETX_COUNT).modPeer k (fun q => { q with
    sent := q.sent.map (fun x => if x.1 = n then (n, x.2.1 + 1, d.plat.aon) else x) })

/-- A peer's ACK_SEQ and SACK. -/
def Dev.peerProgress (d : Dev) (k seq sack : Nat) : Dev :=
  let ack := min seq d.sapTotal
  let d := if d.peerAck k < ack then d.put (F.SAP_DOWN_STAT_ACK_SEQ k) ack else d
  let marked := ((List.range 16).filter (fun i => bitOf sack i)).map (fun i => seq + 1 + i)
  d.modPeer k (fun q => { q with
    sack := marked.filter (fun n => decide (ack ≤ n))
    sent := q.sent.filter (fun x => decide (ack ≤ x.1) && !marked.contains x.1) })

/-- A peer that has acknowledged TOTAL is complete. -/
def Dev.peerComplete (d : Dev) (k : Nat) : Dev :=
  if d.sapTotal != 0 && decide (d.sapTotal ≤ d.peerAck k) then d.put (F.SAP_DOWN_STAT_STATE k) 2 else d

/-- R307: after eight unanswered sends of a block the peer is STALLED, else the block is sent once more. -/
def Dev.sapAgain (d : Dev) (k n sends : Nat) : Dev :=
  if 8 ≤ sends then (d.put (F.SAP_DOWN_STAT_STATE k) 3).modPeer k (fun q => { q with query := d.plat.aon })
  else d.sapResend k n

/-- R307: blocks below the highest one marked in SACK that SACK leaves unmarked go out again. -/
def Dev.sapFillGaps (d : Dev) (k : Nat) : Dev :=
  let p := d.sapPeer k
  let top := p.sack.foldl max 0
  (p.sent.filter (fun x => decide (x.1 < top))).foldl (fun (a : Dev) x =>
    if a.peerState k = 3 then a else a.sapAgain k x.1 x.2.1) d

/-- R307: a STATUS ends a stall: the blocks outstanding go out again, as if not sent before. -/
def Dev.sapUnstall (d : Dev) (k : Nat) : Dev :=
  let sent := (d.sapPeer k).sent
  let d := (d.put (F.SAP_DOWN_STAT_STATE k) 1).modPeer k (fun q => { q with sent := sent.map (fun x => (x.1, 0, x.2.2)) })
  sent.foldl (fun (a : Dev) x => a.sapResend k x.1) d

/-- SAP_ACK_RX. -/
def Dev.sapAckRx (d : Dev) (src : Nat) (msg : List Byte) : Dev :=
  match sapRead msg, d.peerAt src with
  | some m, some k =>
    if d.sapOn && !d.sapBoot && m.typ == 2 && d.sapState != 0 && m.session == d.sapSession && d.peerState k < 2 then
      (((d.peerProgress k m.seq m.sack).sapFillGaps k).peerComplete k).sapPump k
    else d
  | _, _ => d

/-- SAP_STATUS_RX. -/
def Dev.sapStatusRx (d : Dev) (src : Nat) (msg : List Byte) : Dev :=
  match sapRead msg, d.peerAt src with
  | some m, some k =>
    if d.sapOn && !d.sapBoot && m.typ == 4 && d.sapState != 0 && m.session == d.sapSession && d.peerState k != 4 then
      if m.code != 0 then (d.put (F.SAP_DOWN_STAT_STATE k) 4).modPeer k (fun q => { q with sent := [] })
      else
        let d := (d.peerProgress k m.seq m.sack)
        let d := if d.peerState k = 3 then d.sapUnstall k else d.sapFillGaps k
        (d.peerComplete k).sapPump k
    else d
  | _, _ => d

/-- SAP_RETX_TIMEOUT: a block outstanding at peer k for 20 ms. -/
def Dev.sapRetx (d : Dev) (k n : Nat) : Dev :=
  match (d.sapPeer k).sent.find? (fun x => x.1 == n) with
  | none => d
  | some (_, sends, t) =>
    if d.sapOn && d.peerOn k && d.peerState k == 1 && decide (t + 20000000 ≤ d.plat.aon) then
      d.sapAgain k n sends
    else d

def Dev.sapQuery (d : Dev) (k : Nat) : Dev := d.sapSend (d.peerIp k) 3 0 d.sapSession 0 0 []

/-- SAP_QUERY_TIMER. -/
def Dev.sapQueryTimer (d : Dev) (k : Nat) : Dev :=
  if d.sapOn && d.peerOn k && d.peerState k == 3 && decide ((d.sapPeer k).query + 1000000000 ≤ d.plat.aon) then
    (d.sapQuery k).modPeer k (fun q => { q with query := d.plat.aon })
  else d

/-- R311: the link of a peer comes up: a QUERY to each peer in use. -/
def Dev.sapLinkUp (d : Dev) : Dev :=
  if d.sapOn && !d.sapBoot && d.sapState != 0 then
    (List.range 4).foldl (fun (a : Dev) k => if a.peerOn k && a.peerState k != 4 then a.sapQuery k else a) d
  else d

/-! ## Holds (R312) -/

/-- Whether the chain of sinks from descriptor n on reaches a sink. -/
def Dev.chainHas (d : Dev) (sink : Nat) : Nat → Nat → Bool
  | 0, _ => false
  | fuel + 1, n => n == sink || (n != 0xFFFFF && d.chainHas sink fuel (bitsOf (d.sigWord n 2) 0 20))

/-- The sources that feed a sink, by their transform. -/
def Dev.sinkXfms (d : Dev) (sink : Nat) : List Nat :=
  ((d.gv.sig.filter (fun e => e.1 % 3 == 0 && bitOf e.2 31 && !bitOf e.2 30)).filter (fun e =>
    d.chainHas sink d.gv.sig.length (bitsOf (d.sigWord (e.1 / 3) 2) 0 20))).map (fun e => bitsOf (d.sigWord (e.1 / 3) 1) 0 16)

/-- R312: the value of a sink, none where it counts as beyond its limit. -/
def Dev.sinkValue (d : Dev) (sink : Nat) : Option Int :=
  let w0 := d.sigWord sink 0
  let e := d.pdu (bitsOf (d.sigWord sink 1) 16 16)
  let start := bitsOf w0 0 14
  let len := bitsOf w0 14 6 + 1
  if sink = 0xFFFFF ∨ !bitOf w0 31 ∨ !bitOf w0 30 ∨ !pduIsTx e ∨ !fieldFits (bitOf w0 29) start len (pduLen e) then none
  else
    let raw := fieldGet (bitOf w0 29) start len e.image
    let out (x : Nat) : Bool :=
      pattern (bitsOf (d.xfmWord x 3) 12 2) len == some raw || pattern (bitsOf (d.xfmWord x 3) 14 2) len == some raw
    if (d.sinkXfms sink).any out then none else some (if bitOf w0 28 then signedOf len raw else (raw : Int))

/-- R312: the bits of SAP_STAT.HOLD. -/
def Dev.sapHolds (d : Dev) : Nat :=
  let motion := (d.sinkValue (d.get F.SAP_MOTION_SINK)).all (fun x => decide ((d.get F.SAP_MOTION_MAX_MAX : Int) < x))
  let battery := (d.sinkValue (d.get F.SAP_BATT_SINK)).all (fun x => decide (x < (d.get F.SAP_BATT_MIN_MIN : Int)))
  let supply := d.get F.PC_MON_STAT_SUPPLY_OK != 0x1FF || bitOf (d.get (F.IRQ_RAW_BITS (pageBase (.pc 2)))) 2
  let m := d.mode
  boolNat motion + 2 * boolNat supply + 4 * boolNat battery + 8 * boolNat (d.sc.lc == 3) +
    16 * boolNat (m != 4 && m != 5 && m != 6)

/-- After every command the holds follow, a session is held or goes on, and blocks go downstream. -/
def Dev.sapSync (d : Dev) : Dev :=
  if d.fwRuns then
    let h := d.sapHolds
    let d := if d.get F.SAP_STAT_HOLD = h then d else d.put F.SAP_STAT_HOLD h
    let held := bitsOf h 1 2 != 0
    let d :=
      if d.sapState = 2 ∧ held then (d.put F.SAP_STAT_STATE 3).raise (.mc 1) 4
      else if d.sapState = 3 ∧ !held then d.put F.SAP_STAT_STATE 2
      else d
    if d.flag F.SAP_CFG_EN then (List.range 4).foldl Dev.sapPump d else d
  else d

/-- The code of the lowest hold among those of a mask, 0 for none. -/
def holdCode (holds mask : Nat) : Nat :=
  ((List.range 5).find? (fun b => bitOf holds b && bitOf mask b)).elim 0 (fun b => b + 2)

/-! ## Receiving (R307, R308, R310) -/

/-- R310: the last block of TOTAL is stored. -/
def Dev.sapFinish (d : Dev) : Dev :=
  if d.sapTotal != 0 && d.sapAck == d.sapTotal && (d.sapState == 2 || d.sapState == 3) then
    if d.sapDigests d.sapSlot then (((d.put F.SAP_STAT_STATE 4).put F.SAP_RESULT_CODE 0).raise (.mc 1) 1).sapRecord
    else ((d.put F.SAP_STAT_STATE 8).put F.SAP_RESULT_CODE 11).sapRecord
  else d

/-- A block is entered in the receipt map. -/
def Dev.sapStore (d : Dev) (n : Nat) (data : List Byte) : Dev :=
  (d.modSap (fun s => { s with flash := tset s.flash (8192 * d.sapSlot + n) data })).sapCount

/-- R307: a block is programmed and read back; whether the flash returns what was written is free. -/
def Dev.sapProgram (d : Dev) (n : Nat) (data : List Byte) (stored : Dev → Dev) : Dev :=
  let (bad, d) := d.free 2
  if bad = 0 then stored (d.sapStore n data) else d

/-- R308: a session starts: the inactive slot is erased. -/
def Dev.sapBegin (d : Dev) (src : Nat) (m : SapMsg) : Dev :=
  let d := (d.sapErase d.sapInactive).modSap (fun s => { s with slot := d.sapInactive })
  let d := (((d.put F.SAP_STAT_STATE 1).put F.SAP_SESSION_ID m.session).put F.SAP_RX_TOTAL 0).put F.SAP_RX_ACK_SEQ 0
  let d := (List.range 4).foldl (fun (a : Dev) k => a.setWord (R.SAP_DOWN_STAT k) 0) d
  d.modSap (fun s => { s with first := m.data, upstream := src, peers := [] })

/-- A session that is not taken is answered with a STATUS; its block 0 is not known. -/
def Dev.sapRefuse (d : Dev) (src session code : Nat) : Dev :=
  d.sapEmit src { typ := 4, code, session, seq := 0, sack := 0, total := 0, data := [] }

/-- R305, R308: block 0 is verified and stored; while a hold is active it is not acknowledged (R312). After a refusal
the slot is erased. -/
def Dev.sapFirst (d : Dev) (up : Nat) (b : List Byte) : Dev :=
  let code := if manSession b == d.sapSession then d.manifestCode b else 7
  if code = 0 then
    let d := (d.put F.SAP_RX_TOTAL (manTotal b)).put F.SAP_STAT_STATE 2
    let held := !d.sapBoot && bitsOf d.sapHolds 1 2 != 0
    d.sapProgram 0 b (fun d => (if held then d else d.sapReply up 2 0).sapFinish)
  else
    let d := (((d.sapErase d.sapSlot).put F.SAP_STAT_STATE 8).put F.SAP_RESULT_CODE code).sapRecord
    d.sapReply up 4 code

/-- SAP_DATA_RX. -/
def Dev.sapDataRx (d : Dev) (src : Nat) (msg : List Byte) : Dev :=
  if d.sapOn then
    match sapRead msg with
    | none => d.bump F.SAP_CRC_BAD_COUNT
    | some m =>
      let st := d.sapState
      let known := st != 0 && m.session == d.sapSession
      if m.typ != 1 || m.data.length != 4096 then d
      else if !known then
        if m.seq != 0 then d
        else if st = 0 ∨ st = 4 ∨ st = 7 ∨ st = 8 then
          let code := if d.sapBoot then 0 else holdCode d.sapHolds 0x1E
          if code = 0 then d.sapBegin src m else d.sapRefuse src m.session code
        else d.sapRefuse src m.session 1
      else if st = 1 ∨ d.sapAck + 16 ≤ m.seq then d
      else if d.sapStored m.seq then
        let d := d.bump F.SAP_DUP_COUNT
        if st = 3 then d else d.sapReply src 2 0
      else if st = 2 ∧ m.seq < d.sapTotal then
        let d := d.modSap (fun s => { s with upstream := src })
        if m.seq = 0 then d.sapFirst src m.data
        else d.sapProgram m.seq m.data (fun d => (d.sapReply src 2 0).sapFinish)
      else d
  else d

/-- SAP_ERASE_DONE. -/
def Dev.sapEraseDone (d : Dev) : Dev :=
  if d.sapOn && d.sapState == 1 then
    (d.modSap (fun s => { s with first := [] })).sapFirst d.sap.upstream d.sap.first
  else d

/-- SAP_QUERY_RX. -/
def Dev.sapQueryRx (d : Dev) (src : Nat) (msg : List Byte) : Dev :=
  match sapRead msg with
  | none => d
  | some m =>
    if d.sapOn && m.typ == 3 && d.sapState != 0 && m.session == d.sapSession then
      d.sapReply src 4 (if d.sapState = 8 then d.get F.SAP_RESULT_CODE else 0)
    else d

/-- R311: the session ends; its slot is erased and every downstream peer is sent ABORT. -/
def Dev.sapEnd (d : Dev) : Dev :=
  let d := (List.range 4).foldl (fun (a : Dev) k =>
    if a.peerOn k then a.sapSend (a.peerIp k) 5 0 a.sapSession 0 0 [] else a) d
  let d := (d.put F.SAP_STAT_STATE 0).sapRecord
  let d := (((d.sapErase d.sapSlot).put F.SAP_RX_TOTAL 0).put F.SAP_RX_ACK_SEQ 0).modSap (fun s => { s with first := [], peers := [] })
  (List.range 4).foldl (fun (a : Dev) k => a.setWord (R.SAP_DOWN_STAT k) 0) d

/-- A session may be aborted: it has started and is not activating or activated. -/
def Dev.sapAbortable (d : Dev) : Bool :=
  let s := d.sapState
  s == 1 || s == 2 || s == 3 || s == 4 || s == 8

/-- SAP_ABORT_RX. -/
def Dev.sapAbortRx (d : Dev) (src : Nat) (msg : List Byte) : Dev :=
  match sapRead msg with
  | none => d
  | some m =>
    if d.sapOn && m.typ == 5 && m.session == d.sapSession && d.sapAbortable && (d.peerAt src).isNone then d.sapEnd else d

/-- R306: a datagram to another UDP port is no Sapling message. -/
def Dev.sapUdp (d : Dev) (port : Nat) (f : Dev → Dev) : Dev := if port = d.sapPort then f d else d

/-- SAP_ARP_RX: a request from an address for another. -/
def Dev.sapArpRx (d : Dev) (src target : Nat) : Dev :=
  if d.sapOn && target == d.sapIp then d.emit (.arp src d.sapIp (Config.ownMac % 2 ^ 48)) else d

/-! ## Activation (R313 to R316) -/

/-- The boot record's IMAGE_B names a slot, CONSEC as given. -/
def Dev.bootImage (d : Dev) (slot consec : Nat) : Dev :=
  { d with plat := { d.plat with boot := { d.plat.boot with
      flags := putBits d.plat.boot.flags 2 1 slot, consec } } }.bootShow

/-- R313: the digest of the running Grove database: that of the active slot, free where it was programmed otherwise
than by the relay. -/
def Dev.runningDb (d : Dev) : Option (List Byte) :=
  let slot := boolNat (bitOf d.plat.boot.flags 2)
  let b := d.sapBlock slot 0
  if !b.isEmpty then manDigest b 3
  else if bitOf d.sap.erased slot then none
  else some (fixedBytes 32 (Config.flashDb slot))

/-- R314: the GROVE_CODE of the slot that the boot record names. -/
def Dev.slotCode (d : Dev) : Option (List Byte) :=
  let slot := boolNat (bitOf d.plat.boot.flags 2)
  ((manEntries (d.sapBlock slot 0)).find? (fun e => e.kind == 2)).map (fun e => d.slotBytes slot e.off e.len)

/-- R313: the refusal code of ACTIVATE, 0 where it is taken. -/
def Dev.activateCode (d : Dev) : Nat :=
  let m := d.sapManifest
  let delta := (manEntries m).find? (fun e => e.kind == 4)
  if d.sapState != 4 then 1
  else if d.sapHolds != 0 then holdCode d.sapHolds 0x1F
  else if d.slp.target.isSome then 6
  else match delta with
    | none => 0
    | some e =>
      if d.runningDb != some (manBase m) then 9
      else if 30000 < e.apply then 10
      else 0

/-- R314, R316: the new slot is active and waits for its confirmation. -/
def Dev.sapActivated (d : Dev) (us : Nat) : Dev :=
  let slot := d.sapSlot
  let d := ((d.put F.SAP_STAT_STATE 6).put F.SAP_RESULT_CODE 0).modSap (fun s => { s with unconfirmed := some slot, saved := none })
  (d.raise (.mc 1) 2).chRaise 0x0F02 chMC (leBytes 4 d.sapSession ++ leBytes 1 slot ++ leBytes 4 us)

/-- R313, R314: ACTIVATE is taken. Without a DELTA the boot record alone changes. -/
def Dev.sapActivate (d : Dev) : Dev :=
  let d := d.bootImage d.sapSlot 0
  if manCountOf d.sapManifest 4 = 0 then d.sapActivated 0
  else
    ((d.put F.SAP_STAT_STATE 5).modSap (fun s => { s with
        saved := some d.gv, touched := [], loaded := false, reverting := 0 })).changeMode 8 0 (initCode .mc)

/-- R315: the descriptors that the DELTA changed are as before. -/
def Dev.sapRestore (d : Dev) : Dev :=
  (match d.sap.saved with
    | none => d
    | some g => d.tablesBack g d.sap.touched).modSap (fun s => { s with saved := none, touched := [] })

/-- R314, R315: the loader has copied the code: of the Sapling, or the previous one, with which the descriptors
are restored. -/
def Dev.sapLoaded (d : Dev) : Dev :=
  let d := d.modSap (fun s => { s with loaded := true })
  if d.sap.reverting = 0 then d else d.sapRestore

/-- R315: the revert fails as well: the relay requests Limp. -/
def Dev.sapGiveUp (d : Dev) : Dev :=
  ((d.modSap (fun s => { s with reverting := 0, saved := none, touched := [] })).put F.SAP_STAT_STATE 4).changeMode 7 0 (initCode .mc)

/-- R315: the relay reverts in a second Activation. Causes: 1 loader, 2 delta, 3 limit. -/
def Dev.sapRevert (d : Dev) (cause : Nat) : Dev :=
  if d.sapState != 5 then d
  else if d.sap.reverting != 0 then d.sapGiveUp
  else
    let d := (d.bootImage (1 - d.sapSlot) d.plat.boot.consec).modSap (fun s => { s with reverting := cause, loaded := false })
    let d := if d.mode = 8 then d.changeMode (d.get F.PC_MODE_RETURN) 0 (initCode .mc) else d
    if d.mode = 4 ∨ d.mode = 5 ∨ d.mode = 6 then d.changeMode 8 0 (initCode .mc) else d.sapGiveUp

/-- R314: the relay has done what comes before its request of RETURN: the code is loaded where the slot in force
names one, and the engines run. -/
def Dev.sapReady (d : Dev) : Bool :=
  d.sapState != 5 || (d.flag F.GV_ENG_CTRL_RUN && (d.sap.loaded || d.slotCode.isNone))

/-- R314, R315: the relay requests RETURN: the activation, or its revert, is complete. -/
def Dev.sapReturn (d : Dev) : Dev :=
  if d.sapState != 5 then d
  else if d.sap.reverting != 0 then
    let cause := d.sap.reverting
    let d := (d.sapRestore).modSap (fun s => { s with reverting := 0 })
    let d := ((d.put F.SAP_STAT_STATE 4).put F.SAP_RESULT_CODE 12).raise (.mc 1) 3
    d.chRaise 0x0F03 chMC (leBytes 4 d.sapSession ++ leBytes 1 (1 - d.sapSlot) ++ leBytes 1 cause)
  else
    let m := d.sapManifest
    let d := match manDigest m 2 with
      | none => d
      | some x => d.extend 3 x
    let d := match manDigest m 3 with
      | none => d
      | some x => d.extend 4 x
    d.sapActivated ((d.plat.aon - d.plat.m8At) / 1000)

/-- R311, R316: the firmware starts: the session is rebuilt from the receipt map, whatever the boot ROM received, and
an activation whose first start failed at one of steps 10 to 14 is shown as reverted. -/
def Dev.sapStart (d : Dev) : Dev :=
  let image := boolNat (bitOf d.plat.boot.flags 2)
  let pending := d.sap.unconfirmed == some image
  let slot := if pending then image else 1 - image
  let d := (((d.put F.SAP_STAT_SLOT slot).put F.SAP_STAT_STATE 0).put F.SAP_RESULT_CODE 0).put F.SAP_SESSION_ID 0
  let d := ((d.put F.SAP_RX_TOTAL 0).put F.SAP_RX_ACK_SEQ 0).modSap (fun s => { s with slot, first := [], peers := [] })
  let b := d.sapBlock slot 0
  let d :=
    if b.isEmpty then d
    else
      let d := ((d.put F.SAP_SESSION_ID (manSession b)).put F.SAP_RX_TOTAL (manTotal b)).sapCount
      if d.sapAck < d.sapTotal then d.put F.SAP_STAT_STATE 2
      else if pending then d.put F.SAP_STAT_STATE 6
      else if d.sapDigests slot then d.put F.SAP_STAT_STATE 4
      else (d.put F.SAP_STAT_STATE 8).put F.SAP_RESULT_CODE 11
  match d.sap.unconfirmed with
  | none => d
  | some s =>
    if s = image then d
    else
      let failed := decide (10 ≤ d.plat.boot.lastFail) && decide (d.plat.boot.lastFail ≤ 14)
      let d := d.modSap (fun x => { x with unconfirmed := none })
      if failed then
        ((d.put F.SAP_RESULT_CODE 12).raise (.mc 1) 3).chRaise 0x0F03 chMC (leBytes 4 d.sapSession ++ leBytes 1 image ++ leBytes 1 4)
      else d

/-! ## Registers of MC page 1 -/

/-- A write of SAP_CMD. -/
def Dev.sapCmdWrite (d : Dev) (who : Init) (v : Word) : Dev :=
  let d := (d.store R.SAP_CMD v).put F.SAP_CMD_GO 0
  let op := newField v F.SAP_CMD_OP
  if newField v F.SAP_CMD_GO = 0 then d
  else if op = 1 then
    let c := d.activateCode
    if c = 0 then d.sapActivate else (d.put F.SAP_RESULT_CODE c).windowErr who R.SAP_CMD 0x012C
  else if op = 2 then
    (if d.sapAbortable then (d.put F.SAP_RESULT_CODE 0).sapEnd
    else (d.put F.SAP_RESULT_CODE 1).windowErr who R.SAP_CMD 0x012C)
  else d.windowErr who R.SAP_CMD 0x012C

/-- A write to MC page 1 at an offset of 0x040 or above. -/
def Dev.mc1Write (d : Dev) (who : Init) (addr : Nat) (v : Word) : Wr :=
  if addr = R.SAP_CMD then .ok (d.sapCmdWrite who v)
  else if addr = R.SAP_CFG then
    refuseIf (d.flag F.SAP_CFG_EN && d.changes v F.SAP_CFG_UDP_PORT) 0x012C (.ok (d.store addr v))
  else .ok (d.store addr v)

end Sys2Proof.Machine
end

