-- ==== Sys2Proof/Machine/Platform.lean ====
section
/-! DEFINITION. Platform control: reset requests (R261 to R267), the release sequences (R264, R265), boot
steps and the boot record (R268 to R272), the watchdog (R273), mode requests (R274 to R278), monitors
(R356), and the registers of PC pages 0 to 2. -/

namespace Sys2Proof.Machine
open Sys2Proof

def Dev.modPlat (d : Dev) (f : PlatSt → PlatSt) : Dev := { d with plat := f d.plat }

def Dev.bootStep (d : Dev) : Nat := d.get F.BOOT_STEP_STEP

/-- R261: something holds the device in reset. -/
def Dev.held (d : Dev) : Bool := d.plat.porLow || d.plat.rstLow || d.plat.thermal || d.plat.supply

/-! ## Resets (R261 to R267) -/

/-- The bits of PC_RST_CAUSE.SOURCES. -/
def rstRstn : Nat := 0x002
def rstWdog : Nat := 0x004
def rstSwCold : Nat := 0x008
def rstSwWarm : Nat := 0x010
def rstLockstep : Nat := 0x020
def rstThermal : Nat := 0x040
def rstSupply : Nat := 0x080
def rstDebug : Nat := 0x100
def rstBoot : Nat := 0x200


/-- R279: the RESET record. -/
def Dev.resetRecord (d : Dev) (cause kind step mode : Nat) : Dev :=
  d.chRaise 0x0D01 chPC (leBytes 4 cause ++ leBytes 1 kind ++ leBytes 1 step ++ leBytes 1 mode)

/-- A warm reset, from any mode but M0 and M1, after boot step 15 has been reached. -/
def Dev.warmReset (d : Dev) (sources : Nat) : Dev :=
  let d := if d.clrState = 3 then d.lateWake 5 0 7 else d
  let step := d.bootStep
  let mode := d.mode
  let d := (d.warmState).modClr (fun c => { c with joined := false, turn := none, sent := none })
  let d := (d.rstSources sources).put F.PC_RST_CAUSE_KIND 3
  let d := (d.bump F.PC_RST_COUNT_WARM).resetRecord (d.word R.PC_RST_CAUSE).toNat 3 step mode
  let d := (d.put F.BOOT_STEP_STEP 5).put F.BOOT_STEP_DONE 0
  (d.changeMode 3 1 internalCode).put F.PC_MODE_BUSY 1

/-- R262, R263, R266: a cold reset that no pulse holds back. Release step 3 lasts until an option copy passes. -/
def Dev.coldNow (d : Dev) (sources : Nat) : Dev :=
  let loading := d.plat.relStep == 2 || (d.plat.relStep == 3 && !d.flag F.PC_OPT_STAT_DONE)
  let d := if loading then d.bump F.PC_OPT_STAT_RESTARTS else d
  (d.dropSleep).coldReset sources

/-- R262, R267: a reset requested by its sources, cold or warm; a pulse in progress ends first, and no other begins.
Under PORn the sources alone are recorded. -/
def Dev.resetReq (d : Dev) (warm : Bool) (sources : Nat) : Dev :=
  if d.plat.porLow then d.rstSources sources
  else
    let d := (d.otpCut).chPulseEnds
    if !warm then d.coldNow sources
    else if d.sleeping || !d.flag F.BOOT_STEP_DONE then (d.coldNow sources).put F.PC_RST_CAUSE_PROMOTED 1
    else if d.clrState = 4 then
      (d.rstSources sources).lateRequest 5
    else (d.dropSleep).warmReset sources

/-- R357: a supply has left its range. -/
def Dev.supplyOut (d : Dev) (s : Nat) : Dev :=
  d.modPlat (fun p => { p with inRange := clrBit p.inRange s, fresh := p.fresh.filter (fun x => x.1 != s) })

/-- R357: a supply has come into its range. -/
def Dev.supplyIn (d : Dev) (s : Nat) : Dev :=
  d.modPlat (fun p => { p with
    inRange := setBit p.inRange s, fresh := if bitOf p.inRange s then p.fresh else tset p.fresh s 1000000 })

/-- POR_RELEASE: the straps are sampled (R268, R348); a supply out of range, or not yet in range for 1 ms, holds
the device (R357). -/
def Dev.porRelease (d : Dev) (straps : Nat) (testen : Bool) : Dev :=
  if d.plat.porLow then
    let d := (d.put F.PC_STRAP_CLKSEL (straps / 4)).put F.PC_STRAP_BOOTSEL straps
    let early := d.plat.inRange != 0x1FF || !d.plat.fresh.isEmpty
    let d := if early then d.rstSources rstSupply else d
    d.modPlat (fun p => { p with porLow := false, testen, supply := early })
  else d

/-- RSTN_ASSERT. -/
def Dev.rstnLow (d : Dev) : Dev :=
  if d.plat.rstLow then d
  else (d.resetReq (d.flag F.PC_RST_CFG_RSTN_WARM) rstRstn).modPlat (fun p => { p with rstLow := true })

/-- THERMAL_RESET. -/
def Dev.thermalReset (d : Dev) : Dev :=
  if d.plat.thermal then d
  else (d.resetReq false rstThermal).modPlat (fun p => { p with thermal := true, hot := true })

/-- R358: supply s is not watched: the board may remove it. -/
def Dev.unwatched (d : Dev) (s : Nat) : Bool := d.sleeping && bitOf removableMask s

/-- SUPPLY_FAULT: supply s, by its bit of SUPPLY_OK. The flag says whether a pulse of the Chamber writer is cut
(R267). Under PORn the supply is seen when PORn rises, and in M0 and M1 at the wake. The internal always-on
regulator resets as power-on (R356). -/
def Dev.supplyFault (d : Dev) (s : Nat) (cutChamber : Bool) : Dev :=
  if s = 1 then d
  else if d.plat.porLow || d.unwatched s then d.supplyOut s
  else if s = 8 then ((d.powerOn cutChamber).supplyOut s).modPlat (fun p => { p with porLow := true })
  else
    let d := (if cutChamber then d.chPulseCut else d).otpCut
    ((d.coldNow rstSupply).supplyOut s).modPlat (fun p => { p with supply := true })

/-- HELD_RESET_RELEASE: Tj has fallen to 120 °C, or every supply has been in range for 1 ms. -/
def Dev.heldRelease (d : Dev) (thermal : Bool) : Dev :=
  if thermal then d.modPlat (fun p => { p with thermal := false, hot := p.hot && !p.thermal })
  else if d.plat.supply || d.plat.removed then
    d.modPlat (fun p => { p with supply := false, removed := false, inRange := 0x1FF, fresh := [] })
  else d

/-! ## Release sequences (R264, R265) -/

/-- Release step 1: always-on island and monitors; records of the reset; the calibration page. -/
def Dev.releaseAon (d : Dev) : Dev :=
  let (tj, d) := d.free 256
  let d := ((d.put F.PC_MON_STAT_TJ tj).putFlag F.PC_MON_STAT_THERM_WARN d.plat.hot).put F.PC_MON_STAT_SUPPLY_OK d.plat.inRange
  let d := (d.put F.BOOT_STEP_FAIL_STEP d.plat.boot.lastFail).put F.TL_BASE_STAT_TPLL_LOCK 0
  let d := d.rstWaiting.foldl (fun (a : Dev) x => a.resetRecord x.1 x.2.1 x.2.2.1 x.2.2.2)
    (d.modPlat (fun p => { p with rstRecord := false, rstOlder := [] }))
  if d.calInUse.isNone then d.report 11 0 else d

/-- Release step 2: the PLLs lock, but for those bypassed in this start (R272). -/
def Dev.releasePll (d : Dev) : Dev :=
  let b := if bitOf d.plat.boot.flags 0 then d.plat.boot.plls else 0
  let d := d.modPlat (fun p => { p with bypass := b })
  let d := (d.put F.PC_PLL_STAT_LOCK (31 - Nat.land b 31)).put F.PC_PLL_STAT_SDS_LOCK (15 - Nat.land (b / 256) 15)
  let d := ((d.put F.PC_PLL_STAT_BYPASS (b % 32)).put F.PC_BOOT_PATH_BYPASS (b % 32)).putFlag F.PC_BOOT_PATH_DDR_CONS (bitOf d.plat.boot.flags 1)
  d.putFlag F.TL_BASE_STAT_TPLL_LOCK (!bitOf b 2)

/-- R56, R338: the DLY_CAL entries of the calibration page. -/
def calDelays (words : Tab Nat) : Tab Nat :=
  (List.range 512).foldl (fun t i =>
    let port := i % 32
    let speed := i / 32 % 8
    let dir := i / 256
    if port < 24 ∧ speed < 6 then tset t i (tget words (128 + 12 * port + 6 * dir + speed) % 2 ^ 20) else t) []

/-- Release step 3: the option words and the calibration page. CP_MEM_CFG's place among the options is
not given: free values. -/
def Dev.releaseOptions (d : Dev) : Dev :=
  let d := d.copyHeal
  let d := match d.calInUse with
    | none => { d with tl := { d.tl with dlyCal := [] } }.put F.TL_BASE_STAT_CAL_BAD 1
    | some (_, c) => { d with tl := { d.tl with dlyCal := calDelays c.words } }.put F.TL_BASE_STAT_CAL_BAD 0
  match d.optInUse with
  | none => d.put F.PC_OPT_STAT_COPY 3
  | some (i, c) =>
    let d := ((d.put F.PC_OPT_STAT_COPY i).put F.PC_OPT_STAT_DONE 1).modPlat (fun p => { p with options := c.words })
    let (x, d) := d.free 2
    let (rate, d) := d.free 4
    let (density, d) := d.free 4
    ((d.put F.CP_MEM_CFG_X x).put F.CP_MEM_CFG_RATE rate).put F.CP_MEM_CFG_DENSITY density

/-- The management complex is released: the boot ROM runs in lockstep. -/
def Dev.releaseMc (d : Dev) : Dev :=
  ((d.put F.MC_CORE_LOCKSTEP 1).put F.MC_CORE_TCM_READY 1).put F.MC_CORE_FW_STATE 1

/-- R41: the Timeline starts at 0. -/
def Dev.releaseTimeline (d : Dev) : Dev :=
  { d with tl := { d.tl with ns := 0, fifth := 0, ticks := 0, running := true } }.put F.TL_BASE_STAT_RUNNING 1

/-- Grove is released. -/
def Dev.releaseGrove (d : Dev) : Dev := d.modPlat (fun p => { p with gvAt := some p.aon })

/-- RELEASE_STEP: the next step of a power-on or cold release. Step 2 waits
for supplies removed during sleep (R358), step 4 for an option copy that passes, and step 5 for a lifecycle that OTP decodes to; with CLKSEL 0b11 or TESTEN the device stays at step 1. `ident` is the identity
block. -/
def Dev.releaseNext (d : Dev) (ident : List Byte) : Dev :=
  let k := d.plat.relStep + 1
  if d.held || d.sleeping || decide (12 ≤ k) || (k == 2 && (d.plat.removed || d.get F.PC_STRAP_CLKSEL == 3 || d.plat.testen)) ||
      (k == 4 && !d.flag F.PC_OPT_STAT_DONE) || (k == 5 && !d.otpValid) then d
  else
    let d := d.modPlat (fun p => { p with relStep := k })
    if k = 1 then d.releaseAon
    else if k = 2 then d.releasePll
    else if k = 3 then d.releaseOptions
    else if k = 4 then (if d.otpValid then d.otpDecode ident else d)
    else if k = 5 then d.releaseMc
    else if k = 7 then d.releaseTimeline
    else if k = 11 then
      let d := d.releaseGrove
      let m := d.plat.modeLeft
      if m = 3 then d else (d.modPlat (fun p => { p with modeLeft := 3 })).modeRecord m 3 1 internalCode
    else d

/-- WARM_RELEASE_STEP. -/
def Dev.warmNext (d : Dev) : Dev :=
  let k := d.plat.warmStep + 1
  if d.held || decide (7 ≤ k) || decide (d.plat.relStep < 11) then d
  else
    let d := d.modPlat (fun p => { p with warmStep := k })
    if k = 1 then (d.copyHeal).mramShow
    else if k = 2 then d.releaseMc
    else if k = 6 then (d.releaseGrove).put F.PC_MODE_BUSY 0
    else d

/-! ## The boot record (R270, R271) and failures (R269) -/

/-- The recovery image runs in this start. -/
def Dev.recovery (d : Dev) : Bool := bitOf d.plat.boot.flags 3 || d.get F.PC_STRAP_BOOTSEL == 3

/-- R270, R272: a failure at a step. A PLL that was bypassed in the failed start stays so. -/
def recFail (r : BootRec) (step plls : Nat) (ospi : Bool) : BootRec :=
  let consec := if step = r.lastFail then min 3 (r.consec + 1) else 1
  let f := r.flags
  let f := if step = 2 then setBit f 0 else f
  let f := if step = 6 then setBit f 1 else f
  let f := if 10 ≤ step ∧ step ≤ 14 ∧ ospi then putBits f 2 1 (boolNat (!bitOf f 2)) else f
  let f := if consec = 3 then setBit f 3 else f
  let bypassed := if bitOf r.flags 0 then r.plls else 0
  { lastFail := step, consec, flags := f, plls := if step = 2 then Nat.lor bypassed plls else r.plls }

/-- R269, R271: the start ends: boot record and BOOT_FAIL record are written, then a cold reset follows. -/
def Dev.bootFail (d : Dev) (plls sources : Nat) : Dev :=
  let step := d.bootStep
  let ospi := d.get F.PC_STRAP_BOOTSEL == 0 && !d.recovery
  let d := (d.modPlat (fun p => { p with boot := recFail p.boot step plls ospi })).bootShow
  let d := d.chRaise 0x0D02 chPC (leBytes 1 step ++ leBytes 1 d.plat.boot.consec ++ leBytes 1 d.plat.boot.flags ++
    leBytes 1 (d.get F.PC_STRAP_BOOTSEL) ++ leBytes 4 d.aonMs)
  ((d.otpCut).chFlush).coldNow sources

/-- R268, R348: the device remains at release step 1 until the next PORn. -/
def Dev.stuck (d : Dev) : Bool := decide (1 ≤ d.plat.relStep) && (d.get F.PC_STRAP_CLKSEL == 3 || d.plat.testen)

/-- BOOT_STEP_FAIL: the step in progress fails; `plls` names the PLLs that did not lock at step 2. -/
def Dev.bootStepFail (d : Dev) (plls : Nat) : Dev :=
  if d.held || d.sleeping || d.flag F.BOOT_STEP_DONE || decide (14 < d.bootStep) || d.stuck then d else d.bootFail plls rstBoot

/-! ## Boot steps (R269, R290) -/

/-- R290: the 16-byte boot state. -/
def Dev.bootState (d : Dev) : List Byte :=
  let b1 (n : Nat) : List Byte := leBytes 1 n
  b1 (d.get F.SC_LC_STATE) ++ b1 (d.get F.DBG_STAT_LEVEL) ++ b1 (d.get F.SC_BOOT_IMG_KEY_SLOT) ++ b1 (d.get F.SC_KEYS_REVOKED) ++
    b1 (d.get F.SC_RB_CTR0) ++ b1 (d.get F.SC_RB_CTR1) ++ b1 (d.get F.SC_RB_CTR2) ++ b1 (d.get F.SC_RB_CTR3) ++
    b1 (d.get F.PC_BOOT_PATH_IMAGE) ++ b1 (d.get F.PC_BOOT_REC_FLAGS) ++ List.replicate 6 0

/-- R317: the manifest and the FIRMWARE component have arrived on EP0 in this start. -/
def Dev.ep0Arrived (d : Dev) : Bool :=
  d.sapState != 0 && d.sapState != 1 && ((manEntries (d.sapBlock 2 0)).find? (fun e => e.kind == 1)).any (fun e =>
    (List.range ((e.off + e.len + 4095) / 4096)).all (fun n => decide (n < e.off / 4096) || !(d.sapBlock 2 n).isEmpty))

/-- KIND of the image that this start runs. -/
def Dev.bootKind (d : Dev) : Nat := if d.recovery then 3 else 1

/-- Step 10: the image, and what PC_BOOT_PATH.IMAGE shows; none while the source has not delivered it.
`read` is what OSPI flash or the recovery image hold where the model does not know it. -/
def Dev.bootFetch (d : Dev) (read : List Byte) : Option (List Byte × Nat) :=
  let slot := boolNat (bitOf d.plat.boot.flags 2)
  let again := if d.plat.warm then d.plat.image.filter (fun x => (d.imageVerified x d.bootKind).isSome) else none
  match again with
  | some x => some (x, d.get F.PC_BOOT_PATH_IMAGE)
  | none =>
    if d.recovery then some (read, 2)
    else if d.get F.PC_STRAP_BOOTSEL = 0 then
      some (if bitOf d.sap.erased slot || !(d.sapBlock slot 1).isEmpty then d.slotFirmware slot else read, slot)
    else if d.get F.PC_STRAP_BOOTSEL = 1 then
      d.plat.delivered.map (fun x => (x, 3))
    else if d.ep0Arrived then some (d.slotFirmware 2, 4) else none

/-- Step 11: the image is verified. -/
def Dev.bootVerify (d : Dev) : Option Dev :=
  match d.plat.image with
  | none => none
  | some x => (d.imageVerified x d.bootKind).map (fun key =>
      (((d.put F.SC_BOOT_IMG_KEY_SLOT key).put F.SC_BOOT_IMG_KIND (hdrKind x)).put F.SC_BOOT_IMG_RB_INDEX (hdrRbIndex x)).put
        F.SC_BOOT_IMG_SVN (hdrSvn x))

/-- R269: the watchdog is armed for steps 13 and 14. -/
def Dev.armWdog (d : Dev) : Dev :=
  ((d.put F.PC_WDOG_CFG_TIMEOUT_MS 1000).put F.PC_WDOG_CFG_EN 1).modPlat (fun p => { p with wdog := some (p.aon + msNs 1000) })

/-- Step 12: anti-rollback and measurements; the device leaves Secure Start, unless Fault Hold was entered in it. -/
def Dev.bootMeasure (d : Dev) : Option Dev :=
  match d.plat.image with
  | none => none
  | some x =>
    if d.svnOk x then
      let d := d.extend 0 (sha256 d.bootState)
      let d := d.extend 1 (sha256 (x.take 448))
      let d := (d.extend 2 (sha256 (wordBytes d.plat.options 2048))).armWdog
      let d := d.put F.BOOT_STEP_STEP 13
      let d := if d.recovery then d.put F.MC_CORE_FW_STATE 3 else d
      some (
        if d.mode != 3 then d
        else if d.recovery then d.changeMode 11 1 internalCode
        else if bitOf d.plat.boot.flags 0 then d.changeMode 7 1 internalCode
        else d.changeMode 2 1 internalCode)
    else none

/-- Step 13: the firmware runs. Its build number is free. In Limp the start ends here. -/
def Dev.bootFirmware (d : Dev) : Option Dev :=
  if d.mode != 11 && d.flag F.MC_CORE_LOCKSTEP && d.flag F.MC_CORE_TCM_READY then
    let (build, d) := d.free (2 ^ 16)
    let d := ((d.put F.MC_CORE_FW_STATE 2).put F.MC_CORE_FW_BUILD build).sapStart
    some (if d.mode = 7 then d.stepRun else d.put F.BOOT_STEP_STEP 14)
  else none

/-- The pass condition of steps 0 to 9. -/
def Dev.bootReady (d : Dev) (step : Nat) : Bool :=
  let r := d.plat.relStep
  if step = 0 then decide (1 ≤ r)
  else if step = 1 then decide (1 ≤ r) && d.get F.PC_STRAP_CLKSEL != 3 && !d.plat.testen
  else if step = 2 then decide (2 ≤ r)
  else if step = 3 then d.flag F.PC_OPT_STAT_DONE
  else if step = 4 then decide (4 ≤ r) && d.otpValid
  else if step = 5 then decide (5 ≤ r) && decide (2 ≤ d.plat.warmStep) && d.flag F.MC_CORE_LOCKSTEP && d.flag F.MC_CORE_TCM_READY
  else if step = 6 then d.flag F.CP_MEM_STAT_TRAINED || bitOf d.bypassed 4
  else if step = 7 then d.flag F.TL_BASE_STAT_RUNNING
  else if step = 8 then decide (8 ≤ r)
  else decide (10 ≤ r)

/-- R317: at boot step 10 of a start from a Sapling the boot ROM enables EP0. -/
def Dev.romPort (d : Dev) : Dev :=
  if d.sapBoot && !bitOf d.bypassed 8 then
    (((d.put (F.EP_MODE_PCS 0) 0).put (F.EP_MODE_SPEED 0) 2).put (F.EP_MODE_AN_EN 0) 1).put (F.CTRL_ENABLE (pageBase (.ep 0 0))) 1
  else d

/-- BOOT_STEP_PASS: the step in progress passes. -/
def Dev.bootPass (d : Dev) (read : List Byte) : Dev :=
  let k := d.bootStep
  if d.held || d.sleeping || d.flag F.BOOT_STEP_DONE then d
  else if k < 10 then
    (if d.bootReady k then (d.put F.BOOT_STEP_STEP (if d.plat.warm && k == 5 then 10 else k + 1)).romPort else d)
  else if k = 10 then
    (match d.bootFetch read with
     | none => d
     | some (x, path) =>
       ((d.put F.PC_BOOT_PATH_IMAGE path).put F.BOOT_STEP_STEP 11).modPlat (fun p => { p with image := some x }))
  else if k = 11 then (d.bootVerify.map (fun x => x.put F.BOOT_STEP_STEP 12)).getD d
  else if k = 12 then d.bootMeasure.getD d
  else if k = 13 then d.bootFirmware.getD d
  else if k = 14 && d.flag F.GV_ROT_STAT_INIT_DONE && d.get F.GV_LOAD_CTRL_STATE == 2 then d.put F.BOOT_STEP_STEP 15
  else d

/-- R268, R270: a write of PC_BOOT_CLR. -/
def Dev.bootClrWrite (d : Dev) (who : Init) (v : Word) : Wr :=
  refuseIf (who != .mc) 0x0125 <|
  let r := d.plat.boot
  let r := { r with
    consec := if newField v F.PC_BOOT_CLR_CONSEC = 1 then 0 else r.consec
    flags := Nat.land r.flags (15 - newField v F.PC_BOOT_CLR_FLAGS) }
  .ok ((d.modPlat (fun p => { p with boot := r })).bootShow)

/-- R268: a write of PC_HBOOT_CTRL. -/
def Dev.hbootWrite (d : Dev) (v : Word) : Wr :=
  if newField v F.PC_HBOOT_CTRL_GO = 0 then .ok d
  else
    refuseIf (d.get F.PC_STRAP_BOOTSEL != 1 || d.bootStep != 10) 0x0125 <|
    .ok ((d.put F.PC_HBOOT_CTRL_GO 1).put F.PC_HBOOT_CTRL_STATE 1)

/-- HBOOT_DONE: the image has been read, or the read has failed. -/
def Dev.hbootDone (d : Dev) (ok : Bool) (image : List Byte) : Dev :=
  if d.get F.PC_HBOOT_CTRL_STATE = 1 then
    let d := (d.put F.PC_HBOOT_CTRL_GO 0).put F.PC_HBOOT_CTRL_STATE (if ok then 2 else 3)
    if ok then d.modPlat (fun p => { p with
      delivered := some (Sys2Proof.Machine.slice image 0 (d.get F.PC_HBOOT_LEN_BYTES)) }) else d
  else d

/-! ## Watchdog (R273) -/

/-- R273: the watchdog expires. -/
def Dev.wdogExpire (d : Dev) : Dev :=
  let d := d.modPlat (fun p => { p with wdog := none })
  if d.flag F.BOOT_STEP_DONE then d.resetReq true rstWdog else d.bootFail 0 rstWdog

/-- WDOG_EXPIRE. -/
def Dev.wdogDue (d : Dev) : Dev :=
  if !d.sleeping && d.plat.wdog.any (fun t => decide (t ≤ d.plat.aon)) then d.wdogExpire else d

def Dev.wdogLoad (d : Dev) : Dev :=
  d.modPlat (fun p => { p with wdog := some (p.aon + msNs (d.get F.PC_WDOG_CFG_TIMEOUT_MS)) })

/-- A write of PC_WDOG_CFG. -/
def Dev.wdogWrite (d : Dev) (v : Word) : Wr :=
  refuseIf (newField v F.PC_WDOG_CFG_TIMEOUT_MS == 0) 0x0124 <|
  let on := d.flag F.PC_WDOG_CFG_EN
  let d := d.store R.PC_WDOG_CFG v
  .ok (if !on && d.flag F.PC_WDOG_CFG_EN then d.wdogLoad else d)

/-- A write of PC_WDOG_KICK. -/
def Dev.wdogKick (d : Dev) (v : Word) : Dev :=
  if !d.flag F.PC_WDOG_CFG_EN then d
  else if newField v F.PC_WDOG_KICK_KICK = 0x5AC3 then d.wdogLoad
  else d.wdogExpire

/-- PC_WDOG_LEFT shows the milliseconds remaining. -/
def Dev.wdogShow (d : Dev) : Dev :=
  d.put F.PC_WDOG_LEFT_MS (d.plat.wdog.elim 0 (fun t => (t - d.plat.aon + 999999) / 1000000))

/-! ## Modes (R276 to R278, R301) -/

/-- R276: step 14 has passed. -/
def Dev.mayRun (d : Dev) : Bool :=
  d.bootStep == 15 || (d.bootStep == 14 && d.flag F.GV_ROT_STAT_INIT_DONE && d.get F.GV_LOAD_CTRL_STATE == 2)

/-- R276: a request of mode t, none where it is refused. The relay alone ends Activation (R314). -/
def Dev.modeTake (d : Dev) (t who : Nat) : Option Dev :=
  let m := d.mode
  let go (x : Nat) : Option Dev := some (d.changeMode x 0 who)
  let service := m == 4 || m == 5 || m == 6
  if m = 0 ∨ m = 1 ∨ m = 7 ∨ m = 10 ∨ m = 11 then none
  else if t = 11 then go 11
  else if m = 2 then
    (if t = 4 ∧ d.mayRun then go d.serviceMode
    else if t = 10 ∧ (d.sc.lc = 0 ∨ d.sc.lc = 1) then go 10
    else none)
  else if service then
    (if t = 7 then go 7
    else if d.slp.target.isSome then none
    else if t = 9 then (if d.sc.lc = 3 ∧ d.sc.level = 0 then none else go 9)
    else if t < 2 then some (d.beginSleep t (some who))
    else none)
  else if m = 9 ∧ t = 4 then go (if d.healthyCount = 16 then 4 else 6)
  else if m = 8 ∧ t = d.get F.PC_MODE_RETURN ∧ who = initCode .mc ∧ d.sapReady then some ((d.changeMode t 0 who).sapReturn)
  else none

/-- R277: requests are refused while a warm reset releases its blocks. -/
def Dev.modeWrite (d : Dev) (who : Init) (v : Word) : Wr :=
  let d1 := d.store R.PC_MODE_REQ v
  if newField v F.PC_MODE_REQ_GO = 0 then .ok d1
  else if d.plat.warmStep < 6 then .no 0x0124
  else match (d1.put F.PC_MODE_REQ_GO 0).modeTake (newField v F.PC_MODE_REQ_MODE) (initCode who) with
    | none => .no 0x0124
    | some d' => .ok d'

/-- ACTIVATION_LIMIT (R278, R315). -/
def Dev.activationLimit (d : Dev) : Dev :=
  if d.mode = 8 ∧ d.plat.m8At + msNs 40 ≤ d.plat.aon then
    (d.changeMode (d.get F.PC_MODE_RETURN) 2 internalCode).sapRevert 3
  else d

/-! ## Monitors (R356) -/

/-- MONITOR_WARN: supply `which` leaves its range (0–8), or Tj reaches 125 °C (9). -/
def Dev.monitorWarn (d : Dev) (which tj : Nat) : Dev :=
  let on := decide (1 ≤ d.plat.relStep)
  if which < 9 then
    let watched := on && !d.unwatched which
    let d := d.supplyOut which
    if watched then ((d.put F.PC_MON_STAT_SUPPLY_OK d.plat.inRange).raise (.pc 2) 2).report 8 which else d
  else
    let d := d.modPlat (fun p => { p with hot := true })
    if on then (((d.put F.PC_MON_STAT_TJ tj).put F.PC_MON_STAT_THERM_WARN 1).raise (.pc 2) 1).report 9 0 else d

/-- MONITOR_CLEAR. -/
def Dev.monitorClear (d : Dev) (which tj : Nat) : Dev :=
  let on := decide (1 ≤ d.plat.relStep)
  if which < 9 then
    let d := d.supplyIn which
    if on then d.put F.PC_MON_STAT_SUPPLY_OK d.plat.inRange else d
  else
    let d := d.modPlat (fun p => { p with hot := false })
    if on then (d.put F.PC_MON_STAT_TJ tj).put F.PC_MON_STAT_THERM_WARN 0 else d

/-! ## Registers of PC pages 0 to 2 -/

/-- A write of PC_RST_CMD. -/
def Dev.rstCmdWrite (d : Dev) (v : Word) : Wr :=
  refuseIf (newField v F.PC_RST_CMD_KEY != 0x5AC3) 0x0126 <|
  .ok (
    if newField v F.PC_RST_CMD_COLD = 1 then
      d.resetReq false (rstSwCold + rstSwWarm * newField v F.PC_RST_CMD_WARM)
    else if newField v F.PC_RST_CMD_WARM = 1 then d.resetReq true rstSwWarm
    else d)

/-- A write to PC pages 0 to 2 at an offset of 0x040 or above. -/
def Dev.pcWrite (d : Dev) (who : Init) (addr : Nat) (v : Word) : Wr :=
  if addr = R.PC_MODE_REQ then d.modeWrite who v
  else if addr = R.PC_RST_CMD then d.rstCmdWrite v
  else if addr = R.PC_WDOG_CFG then d.wdogWrite v
  else if addr = R.PC_WDOG_KICK then .ok (d.wdogKick v)
  else if addr = R.PC_BOOT_CLR then d.bootClrWrite who v
  else if addr = R.PC_HBOOT_CTRL then d.hbootWrite v
  else .ok (d.store addr v)

end Sys2Proof.Machine
end

