-- ==== Sys2Proof/Machine/Collector.lean ====
section
/-! DEFINITION. Safety and diagnostics: the fault collector (R329, R330), scrubbing (R322 to R326), clock
monitors (R328), fault injection (R331), SD_SAFE_STAT (R321), and the registers of the SD pages. -/

namespace Sys2Proof.Machine
open Sys2Proof

/-! ## Fault collection (R329, R330) -/

/-- R326, R329: the reaction to a report: the ACTION of its source; a warm reset, fixed, for LOCKSTEP and,
unless a cold one is configured, for the management TCM. -/
def Dev.faultAction (d : Dev) (source data : Nat) : Nat :=
  let a := d.get (F.SD_FAULT_CFG_ACTION source)
  if source = 0 then 3
  else if source = 1 ∧ data % 256 = 7 ∧ a ≠ 4 then 3
  else a

/-- The bits of PC_RST_CAUSE that a reset by a report sets (R326, R329). -/
def faultCause (source data : Nat) : Nat :=
  if source = 0 ∨ (source = 1 ∧ data % 256 = 7) then rstLockstep else 0

/-- R330: one report is counted, shown, recorded and triggers the rings. -/
def Dev.collect (d : Dev) (source data : Nat) : Dev :=
  let d := d.bump (F.SD_FAULT_CNT_COUNT source)
  let d := (d.put F.SD_FAULT_LAST_SOURCE source).put F.SD_FAULT_LAST_VALID 1
  let d := if d.flag (F.SD_FAULT_CFG_IRQ source) then d.raise (.sd 1) 1 else d
  let d := if d.flag (F.SD_FAULT_CFG_RECORD source) then
      d.chRaise (0x1000 + source) chSD (leBytes 12 data ++ leBytes 4 (d.get (F.SD_FAULT_CNT_COUNT source)) ++
        leBytes 4 d.aonMs)
    else d
  if d.flag (F.SD_FAULT_CFG_RING source) then d.ringsFault else d

/-- R277, R330: whether Fault Hold or Limp can be entered from the present mode; a warm reset in progress outranks
both. -/
def Dev.mayHold (d : Dev) : Bool := decide (6 ≤ d.plat.warmStep) && !(d.mode == 0 || d.mode == 1 || d.mode == 7 || d.mode == 10 || d.mode == 11)
def Dev.mayLimp (d : Dev) : Bool := d.mode == 4 || d.mode == 5 || d.mode == 6 || d.mode == 8

/-- R277, R330: the one action that reports which arrive together begin. -/
def Dev.react (d : Dev) (acts : List Nat) (cause : Nat) : Dev :=
  if acts.contains 4 then d.resetReq false cause
  else if acts.contains 3 then d.resetReq true cause
  else if acts.contains 1 && d.mayHold then d.changeMode 11 3 internalCode
  else if acts.contains 2 && d.mayLimp then d.changeMode 7 3 internalCode
  else d

/-- The reports of a source among what is owed. -/
def reportsOf (source : Nat) : List Req → List (Nat × Nat)
  | [] => []
  | .fault k x :: t => if k = source then (k, x) :: reportsOf source t else reportsOf source t
  | .gvFault _ _ :: t => reportsOf source t

/-- R330: reports that arrive together, in index order; the collector stands from release step 1 on. -/
def Dev.collectAll (d : Dev) (rs : List Req) : Dev :=
  if d.plat.relStep = 0 then d
  else
    let l := ((List.range 32).map (fun k => reportsOf k rs)).flatten
    let d := l.foldl (fun (a : Dev) r => a.collect r.1 r.2) d
    let cause := l.foldl (fun c r => Nat.lor c (faultCause r.1 r.2)) 0
    d.react (l.map (fun r => d.faultAction r.1 r.2)) cause

/-! ## Scrubbing (R322 to R326) -/

/-- SD_SCRUB_SBE and SD_SCRUB_DBE show the counts of MEM. -/
def Dev.scrubShow (d : Dev) : Dev :=
  let m := d.get F.SD_SCRUB_SEL_MEM
  (d.put F.SD_SCRUB_SBE_COUNT (tget d.scrub.sbe m)).put F.SD_SCRUB_DBE_COUNT (tget d.scrub.dbe m)

/-- R326: the elements of channel n that hold block b of its message RAM are marked. -/
def Dev.elemsBad (d : Dev) (n b : Nat) : Dev :=
  let mark (p : FsItem → Bool) (l : List FsItem) : List FsItem :=
    l.map (fun it => if p it then { it with bad := true } else it)
  let r0 := (d.get (F.CAN_MR_RX0_BASE n), d.get (F.CAN_MR_RX0_BLOCKS n))
  let r1 := (d.get (F.CAN_MR_RX1_BASE n), d.get (F.CAN_MR_RX1_BLOCKS n))
  let base := d.get (F.CAN_MR_TX_BASE n)
  let sb := d.get (F.CAN_MR_TX_SLOT_BLOCKS n)
  d.modChan n (fun s => { s with
    rx0 := mark (itemHolds r0 b) s.rx0
    rx1 := mark (itemHolds r1 b) s.rx1
    tx := mark (fun it => inRegion (base + it.block * sb, sb) b) s.tx })

/-- R326: a visit finds a bad word of other fabric or buffer memory. What holds the word is free: nothing, the head of
a queue, in memory 9 the stage of an engine (R124), in memory 10 the frame of a port that waits for its lookup. -/
def Dev.fabricLost (d : Dev) (mem : Nat) : Dev :=
  let (k, d) := d.free 253
  if k < 224 then d.queueLost k
  else if mem = 9 then (if k < 240 then d.retire (k - 224) else d)
  else if k < 252 then (nextLookup (d.port (k - 224)).rx).elim d (d.rxLost (k - 224))
  else d

/-- R326: what an uncorrectable error found by a visit does beyond its report. The entry of a lookup slice
that a word belongs to is not given: a free one. -/
def Dev.visitLost (d : Dev) (mem inst addr : Nat) : Dev :=
  if mem = 3 ∨ mem = 4 then
    let (i, d) := d.free 131072
    d.lkSet (mem - 3) i default
  else if mem = 5 then d.retire inst
  else if mem = 6 then d.elemsBad inst (addr / 16)
  else if mem = 8 then d.wheelLost addr
  else if mem = 9 ∨ mem = 10 then d.fabricLost mem
  else d

/-- The failing bits of the error that stands in a word; 0 without one. -/
def Dev.standing (d : Dev) (w : Nat × Nat × Nat) : Nat := (d.wordErr w).elim 0 (·.bits)

/-- A word holds no error any more. -/
def Dev.dropErr (d : Dev) (w : Nat × Nat × Nat) : Dev :=
  { d with scrub := { d.scrub with errs := d.scrub.errs.filter (fun e => e.word != w) } }

/-- R323: a single-bit error is corrected; at the second pass in succession the word is stuck. -/
def Dev.visitFixes (d : Dev) (w : Nat × Nat × Nat) (inj : Bool) : Dev :=
  let again := d.scrub.fixed.contains w
  let d := d.dropErr w
  let d := { d with scrub := { d.scrub with
    sbe := tmod d.scrub.sbe w.1 (fun n => satAdd 32 n 1)
    fixed := if again then d.scrub.fixed else w :: d.scrub.fixed } }
  if again then d.reportWord 2 w inj else d

/-- R324: an uncorrectable error stays as found until the word is written; the removal of a lookup entry
writes it. -/
def Dev.visitFails (d : Dev) (w : Nat × Nat × Nat) (inj : Bool) : Dev :=
  let d := d.dropErr w
  let e : WordErr := { word := w, bits := 2, inj }
  let d := { d with scrub := { d.scrub with
    dbe := tmod d.scrub.dbe w.1 (fun n => satAdd 32 n 1)
    errs := if w.1 = 3 ∨ w.1 = 4 then d.scrub.errs else e :: d.scrub.errs } }
  (d.reportWord 1 w inj).visitLost w.1 w.2.1 w.2.2

/-- R322: the words of the bank that word `addr` of instance `inst` of memory `mem` lies in, and the first of them.
An engine's local memory has four banks, taken as consecutive; memories 9 and 10 have banks as built. -/
def bankOf (mem inst addr : Nat) : Nat × Nat :=
  if mem = 5 then (16384, addr / 16384 * 16384)
  else if mem = 9 ∨ mem = 10 then (min (scrubSize mem).2 (max 1 (Config.bankWords mem inst)), 0)
  else ((scrubSize mem).2, 0)

/-- Where the position of the scrubber of that bank is kept. -/
def bankKey (mem inst addr : Nat) : Nat := mem * 2 ^ 32 + inst * 2 ^ 16 + (bankOf mem inst addr).2

/-- R322: the word is the next one that the scrubber of its bank visits. -/
def Dev.scrubNext (d : Dev) (mem inst addr : Nat) : Bool :=
  addr == (bankOf mem inst addr).2 + tget d.scrub.pos (bankKey mem inst addr)

/-- R322: the scrubber goes on to the next word of the bank, after the last one to the first. -/
def Dev.scrubStep (d : Dev) (mem inst addr : Nat) : Dev :=
  { d with scrub := { d.scrub with pos := tmod d.scrub.pos (bankKey mem inst addr) (fun k =>
    if k + 1 < (bankOf mem inst addr).1 then k + 1 else 0) } }

/-- R322: a pass of the slowest bank begins at its first word and ends at its last one: channel 0's message
RAM stands for the sixty-four. -/
def Dev.passMarks (d : Dev) (mem inst addr : Nat) : Dev :=
  if mem = 6 ∧ inst = 0 ∧ addr = 0 then { d with scrub := { d.scrub with passAt := d.plat.aon } }
  else if mem = 6 ∧ inst = 0 ∧ addr = 8191 then
    (d.bumpWrap F.SD_SCRUB_STAT_PASSES).put F.SD_SCRUB_STAT_LAST_US (min 65535 ((d.plat.aon - d.scrub.passAt) / 1000))
  else d

/-- R331: memories in which the spec gives a word its place: a write of the armed word is seen. -/
def placedMem (mem : Nat) : Bool := mem == 5 || mem == 6 || mem == 8

/-- R331: in the other memories, failing bits of the armed kind that a visit finds in the armed word are the
injected fault, applied by a write before the visit. -/
def Dev.injectFound (d : Dev) (w : Nat × Nat × Nat) (bits : Nat) : Dev :=
  match d.inject with
  | none => d
  | some x =>
    if decide (x.kind < 2) && (x.mem, x.inst, x.addr) == w && bits == x.kind + 1 && !placedMem x.mem &&
        d.standing w == 0 then
      { d with inject := none, scrub := { d.scrub with errs := { word := w, bits, inj := true } :: d.scrub.errs } }
    else d

/-- SCRUB_VISIT: a scrubber visits the next word of its bank, which holds `bits` failing bits (2 = two or more). -/
def Dev.scrubVisit (d : Dev) (mem inst addr bits : Nat) : Dev :=
  let size := scrubSize mem
  if !d.flag F.SD_SCRUB_CTRL_EN || !d.released (.sd 2) || decide (size.1 ≤ inst) || decide (size.2 ≤ addr) ||
      !d.scrubNext mem inst addr then d
  else
    let w := (mem, inst, addr)
    let d := d.injectFound w bits
    let n := max bits (d.standing w)
    let inj := (d.wordErr w).any (·.inj)
    let d :=
      if n = 0 then { d with scrub := { d.scrub with fixed := d.scrub.fixed.filter (fun x => x != w) } }
      else if n = 1 then d.visitFixes w inj
      else d.visitFails w inj
    ((d.scrubStep mem inst addr).passMarks mem inst addr).scrubShow

/-! ## Clocks (R328) -/

/-- CLOCK_FAULT: the reference (none), or a PLL by its bit of PC_PLL_STAT, is outside ±2 % or stopped. -/
def Dev.clockFault (d : Dev) (pll : Option Nat) (khz : Nat) : Dev :=
  match pll with
  | none => d.report 6 0
  | some p =>
    let d := if p = 2 then
        (d.put F.TL_BASE_STAT_TPLL_LOCK 0).put F.PC_PLL_STAT_LOCK (clrBit (d.get F.PC_PLL_STAT_LOCK) 2)
      else d
    d.report 7 (p + khz * 2 ^ 64)

/-! ## Injection (R331) -/

/-- R331: arming is refused. -/
def Dev.injectBad (d : Dev) (v : Word) : Bool :=
  let kind := newField v F.SD_INJECT_KIND
  let mem := newField v F.SD_INJECT_MEM
  (kind != 0 && !(d.mode == 9 || d.mode == 10 || d.sc.level == 2)) ||
    (decide (kind < 2) && (mem == 0 || decide (10 < mem))) ||
    (kind == 2 && decide (27 < newField v F.SD_INJECT_INSTANCE))

/-- A write of SD_INJECT. A forced mismatch takes effect at once. -/
def Dev.injectWrite (d : Dev) (v : Word) : Wr :=
  let go := newField v F.SD_INJECT_GO == 1
  refuseIf (go && d.injectBad v) 0x012F <|
  let d := d.store R.SD_INJECT v
  .ok (
    if !go then d
    else if newField v F.SD_INJECT_KIND = 3 then { (d.put F.SD_INJECT_GO 0) with inject := none }.report 0 (2 ^ 16)
    else { d with inject := some {
      kind := newField v F.SD_INJECT_KIND, mem := newField v F.SD_INJECT_MEM
      inst := newField v F.SD_INJECT_INSTANCE, addr := d.get F.SD_INJECT_ADDR_ADDR } })

/-- R324, R331: whether a command that left `d` of `old` wrote a word of the wheel. -/
def Dev.wheelWritten (old d : Dev) (w : Nat × Nat × Nat) : Bool :=
  w.1 == 8 && (old.entry w.2.2).version != (d.entry w.2.2).version

/-- R324, R331: a word of a memory whose data the spec does not place, in which an error stood or for which a fault
was armed before the command: whether it was written since is free. -/
def Dev.freeWritten (d : Dev) (w : Nat × Nat × Nat) : Dev :=
  if placedMem w.1 then d
  else
    let (k, d) := d.free 2
    if k = 1 then d.wordsWritten (fun x => x == w) else d

/-- R324, R331: after a command: the words of the wheel that it wrote, and those of the memories without a place; GO
shows the arming. -/
def Dev.injectSync (d old : Dev) : Dev :=
  let d := d.wordsWritten (old.wheelWritten d)
  let d := old.scrub.errs.foldl (fun a e => if a.scrub.errs.contains e then a.freeWritten e.word else a) d
  let d := match old.inject with
    | none => d
    | some x => if d.inject = some x ∧ x.kind < 2 then d.freeWritten (x.mem, x.inst, x.addr) else d
  d.putFlag F.SD_INJECT_GO d.inject.isSome

/-! ## SD_SAFE_STAT (R321) -/

/-- R321: the conditions of the single-fault guarantee. -/
def Dev.safeSync (d : Dev) : Dev :=
  let scrub := d.flag F.SD_SCRUB_CTRL_EN
  let pair := d.flag F.GV_CFG_PAIR_EN
  let supply := d.get F.PC_MON_STAT_SUPPLY_OK == 0x1FF && !bitOf (d.get (F.IRQ_RAW_BITS (pageBase (.pc 2)))) 2
  let temp := !d.flag F.PC_MON_STAT_THERM_WARN
  let h := d.healthyCount
  let d := ((d.putFlag F.SD_SAFE_STAT_SCRUB_OK scrub).putFlag F.SD_SAFE_STAT_PAIR_OK pair).putFlag F.SD_SAFE_STAT_SUPPLY_OK supply
  let d := (d.putFlag F.SD_SAFE_STAT_TEMP_OK temp).put F.SD_SAFE_STAT_HEALTHY h
  d.putFlag F.SD_SAFE_STAT_SAFE (scrub && pair && supply && temp && decide (12 ≤ h))

/-! ## Registers -/

/-- A write of SD_FAULT_CFG: LOCKSTEP's reaction is fixed. -/
def Dev.faultCfgWrite (d : Dev) (addr : Nat) (v : Word) : Wr :=
  let i := (addr - R.SD_FAULT_CFG 0) / 4
  refuseIf (decide (4 < newField v (F.SD_FAULT_CFG_ACTION i))) 0x012F <|
  .ok ((d.store addr v).put (F.SD_FAULT_CFG_ACTION i)
    (if i = 0 then d.get (F.SD_FAULT_CFG_ACTION 0) else newField v (F.SD_FAULT_CFG_ACTION i)))

/-- A write to the SD pages at an offset of 0x040 or above. -/
def Dev.sdWrite (d : Dev) (addr : Nat) (v : Word) : Wr :=
  if R.SD_FAULT_CFG 0 ≤ addr ∧ addr < R.SD_FAULT_CNT 0 then d.faultCfgWrite addr v
  else if addr = R.SD_SCRUB_SEL then
    refuseIf (newField v F.SD_SCRUB_SEL_MEM == 0 || decide (10 < newField v F.SD_SCRUB_SEL_MEM)) 0x012F
      (.ok (d.store addr v).scrubShow)
  else if addr = R.SD_INJECT then d.injectWrite v
  else .ok (d.store addr v)

end Sys2Proof.Machine
end

