-- ==== Sys2Proof/Machine/Debug.lean ====
section
/-! DEFINITION. Debug authentication (R297 to R299), leaving a mode whose cell is marked X (R301), debug
resets (R261), and the registers of SC page 4. -/

namespace Sys2Proof.Machine
open Sys2Proof

/-- R297: the hash of the key that KEYSEL names, none where it is not programmed. -/
def Dev.dbgKey (d : Dev) (raneltik : Bool) : Option (List Byte) :=
  if raneltik then some (fixedBytes 32 Config.debugKeyHash)
  else if d.sc.otp.dbg.good then some d.sc.otp.dbg.hash else none

/-- R297: whether a lifecycle accepts the key and can grant the level. -/
def grantable (lc level : Nat) (raneltik : Bool) : Bool :=
  (level == 1 || level == 2) &&
    (if lc = 0 ∨ lc = 1 then true
     else if lc = 2 then !raneltik
     else if lc = 3 then !raneltik && level == 1
     else raneltik)

/-- R297: the signed message, under the identity of the device. -/
def Dev.dbgMessage (d : Dev) (ident : List Byte) (level : Nat) : List Byte :=
  d.regBytes (R.DBG_CHAL 0) 8 ++ ident ++ leBytes 1 level ++ leBytes 1 d.sc.lc

/-- R297: whether a RESPOND succeeds. In Blank nothing is checked but that the level exists. -/
def Dev.respondOk (d : Dev) (ident : List Byte) (level : Nat) (raneltik : Bool) : Bool :=
  !d.flag F.DBG_STAT_LOCKOUT && grantable d.sc.lc level raneltik &&
    (d.sc.lc == 0 ||
      (d.sc.challenge && d.dbgKey raneltik == some (sha256 (d.regBytes (R.DBG_PUB 0) 96)) &&
        rsaSigned (d.regBytes (R.DBG_PUB 0) 96) (d.dbgMessage ident level) (d.regBytes (R.DBG_SIG 0) 96)))

/-- The challenge is consumed: it reads 0. -/
def Dev.dropChallenge (d : Dev) : Dev :=
  (d.putBytes (R.DBG_CHAL 0) (List.replicate 32 0)).modSc (fun s => { s with challenge := false })

/-- R299: keys are withheld. -/
def Dev.withhold (d : Dev) : Dev :=
  let d := d.setWkr [] 0
  d.modSc (fun s => { s with withheld := true, tk := tmap s.tk (fun e => { e with valid := false }) })

/-- R297, R298: a level is granted. In Blank the key whose hash is extended is not given: free bytes. -/
def Dev.grant (d : Dev) (level : Nat) (raneltik : Bool) : Dev :=
  let (hash, d) :=
    if d.sc.lc = 0 then d.freeBytes 32
    else ((d.dbgKey raneltik).getD [], d)
  let d := ((d.put F.DBG_STAT_FAILS 0).raise (.sc 4) 1).setLevel level
  let d := d.extend 0 (sha256 (leBytes 1 level ++ hash))
  if level = 2 ∧ (d.sc.lc = 2 ∨ d.sc.lc = 4) then d.withhold else d

/-- R298: a RESPOND fails. -/
def Dev.respondFails (d : Dev) : Dev :=
  let n := min 3 (d.get F.DBG_STAT_FAILS + 1)
  let d := (d.put F.DBG_STAT_FAILS n).raise (.sc 4) 2
  if n = 3 then d.put F.DBG_STAT_LOCKOUT 1 else d

/-- R298, R301: DROP. -/
def Dev.dbgDrop (d : Dev) (level who : Nat) : Dev :=
  if level < d.sc.level then
    let d := d.setLevel level
    if d.mode = 9 ∧ d.sc.lc = 3 ∧ level = 0 then (d.modeTake 4 who).getD d else d
  else d

/-- What a debug command does, and the code it ends with. -/
def Dev.dbgDo (d : Dev) (ident : List Byte) (who : Init) (op level : Nat) (raneltik : Bool) : Dev × Nat :=
  if op = 0 then
    if d.flag F.DBG_STAT_LOCKOUT then (d, 0x012B)
    else
      let (c, d) := d.freeBytes 32
      ((d.putBytes (R.DBG_CHAL 0) c).modSc (fun s => { s with challenge := true }), 0)
  else if op = 1 then
    if d.respondOk ident level raneltik then (d.dropChallenge.grant level raneltik, 0)
    else (d.dropChallenge.respondFails, 0x012B)
  else if op = 2 then (d.dbgDrop level (initCode who), 0)
  else (d, 0x012B)

/-- A write of DBG_CMD. -/
def Dev.dbgWrite (d : Dev) (ident : List Byte) (who : Init) (v : Word) : Dev :=
  let d := (d.store R.DBG_CMD v).put F.DBG_CMD_GO 0
  if newField v F.DBG_CMD_GO = 1 then
    let (d, code) := d.dbgDo ident who (newField v F.DBG_CMD_OP) (newField v F.DBG_CMD_LEVEL) (newField v F.DBG_CMD_KEYSEL == 1)
    (d.put F.DBG_RESULT_CODE code).windowErr who R.DBG_CMD code
  else d

/-- A write to SC page 4 at an offset of 0x040 or above. -/
def Dev.sc4Write (d : Dev) (ident : List Byte) (who : Init) (addr : Nat) (v : Word) : Wr :=
  if addr = R.DBG_CMD then .ok (d.dbgWrite ident who v) else .ok (d.store addr v)

/-- DEBUG_RESET: a debug port that reaches writes of every page may reset the device (R300). -/
def Dev.debugReset (d : Dev) (warm : Bool) : Dev :=
  if debugReach d.sc.lc d.sc.level d.mode = 3 then d.resetReq warm rstDebug else d

end Sys2Proof.Machine
end

