-- ==== Sys2Proof/Machine/CanopyRelease.lean ====
section
/-! DEFINITION. What a non-TRIG Canopy release does on its target (R63): CAN, GATE, GROVE and IRQ actions. -/

namespace Sys2Proof.Machine
open Sys2Proof

/-- R63: a release performed on its target, and whether it was made: 1 is TRIG, committed elsewhere. -/
def Dev.perform (d : Dev) (action target param entry : Nat) (late : Bool) : Dev × Bool :=
  if action = 2 then d.canRelease target (param % 65536)
  else if action = 3 then d.gclTakeover target late
  else if action = 4 then d.gvWake target param
  else if action = 5 then
    (((d.put F.CNP_EVT_LAST_INDEX entry).raise (.tl 8) 3), true)
  else (d, false)

end Sys2Proof.Machine
end

