-- ==== Sys2Proof/Machine/RegWrite.lean ====
section
/-! DEFINITION. A register write to any page: the header of a page with block enables and soft resets
(R28), the dispatch over the pages (R19), the MSI-X table behind BAR2 (R31), and what the header shows. -/

namespace Sys2Proof.Machine
open Sys2Proof

/-! ## What the header shows (R28) -/

/-- R28: a command of a page's block is in progress. -/
def Dev.commandBusy (d : Dev) (pg : Page) : Bool :=
  match pg with
  | .pc 0 => d.flag F.PC_MODE_BUSY
  | .pc 1 => d.get F.PC_HBOOT_CTRL_STATE == 1
  | .pc 3 => d.flag F.PC_GRP_CMD_GO
  | .pc 5 => d.flag F.CAL_STAT_BUSY
  | .mc 1 => d.sapState == 5
  | .sd 3 => d.flag F.SD_INJECT_GO
  | .sc 0 => d.flag F.SC_OTP_CMD_GO
  | .sc 1 => d.get F.QUOTE_CMD_STATE == 1
  | .tl k =>
    if k = 0 then d.flag F.TL_BASE_CTRL_SNAP
    else if k < 5 then armBusy (tget d.tl.dom (k - 1)) else false
  | .gv 2 => d.get F.GV_LOAD_CTRL_STATE == 1 || d.flag F.GV_ROT_CMD_GO
  | .can n => d.flag (F.CAN_CMD_RECOVER n)
  | .lk s 1 => d.flag (F.LK_CMD_GO s)
  | .tm 5 => d.flag F.TM_HIST_CMD_GO
  | .hb k => k != 0 && d.flag (F.HB_PTM_CTRL_TRIGGER (k - 1))
  | _ => false

/-- R28: STATUS of a page: FAULT, BUSY, READY. -/
def Dev.statusWord (d : Dev) (pg : Page) : Nat :=
  boolNat (d.flag (F.ERR_INFO_VALID (pageBase pg))) * 4 + boolNat (d.softReset pg || d.commandBusy pg) * 2 +
    boolNat (d.released pg && !d.softReset pg)

/-- R28: IRQ_STAT of a page. -/
def Dev.irqStat (d : Dev) (pg : Page) : Nat :=
  Nat.land (d.get (F.IRQ_RAW_BITS (pageBase pg))) (d.get (F.IRQ_MASK_BITS (pageBase pg)))

/-! ## ENABLE -/

/-- R147, R272, R275: the port's SerDes quad runs without its PLL. -/
def Dev.quadDown (d : Dev) (n : Nat) : Bool := bitOf d.bypassed (8 + n / 4)

/-- The code with which CTRL.ENABLE = 1 of a page is refused, none where it is taken. -/
def Dev.enableCode (d : Dev) (pg : Page) : Option Nat :=
  match pg with
  | .can n =>
    if bitOf d.bypassed 3 then some 0x0004
    else if h : n < 64 then d.canEnableCode ⟨n, h⟩ else none
  | .lin n =>
    if bitOf d.bypassed 3 then some 0x0004
    else if h : n < 16 then d.linEnableCode ⟨n, h⟩ else none
  | .ep n k =>
    if k ≠ 0 then none
    else if d.mode = 11 ∨ (d.mode = 3 ∧ !(n == 0 && d.get F.PC_STRAP_BOOTSEL == 2)) ∨ d.quadDown n then some 0x0004
    else if d.epCannotRun n then some 0x0115 else none
  | .ts _ => if d.mode = 3 ∨ d.mode = 11 then some 0x0004 else none
  | .sw k => if k = 0 ∧ d.poolSize = 0 then some 0x0118 else none
  | _ => none

/-- What putting a page's block into service does. -/
def Dev.enableNow (d : Dev) (pg : Page) : Dev :=
  match pg with
  | .can n => if h : n < 64 then d.canEnabled ⟨n, h⟩ else d
  | .ts n => d.tsStart n true
  | _ => d

/-- What taking a page's block out of service does. -/
def Dev.disableNow (d : Dev) (pg : Page) : Dev :=
  match pg with
  | .can n => d.modChan n (fun s => { s with head := none })
  | .lin n => d.modChan (64 + n) (fun s => { s with head := none, lin := none })
  | .ep n k => if k = 0 then d.epDisabled n else d
  | .ts n => d.tsDisabled n
  | _ => d

/-! ## Block soft reset (R28) -/

/-- What a soft reset clears beyond the registers of domain B (R32, R42, R72, R73, R147). -/
def Dev.softClear (d : Dev) (pg : Page) : Dev :=
  match pg with
  | .tl k =>
    if k = 5 then
      { d with tl := { d.tl with echo := tmap d.tl.echo (fun q => { q with entries := [], lostRun := 0, late := none }) } }
    else if k = 9 then (((List.range 16).foldl (fun (a : Dev) n => a.cancelPulses n) d).resetRegs .soft (fun q => q == pg)).trigLow
    else if k = 10 then { d with canopy := { d.canopy with cap := tmap d.canopy.cap (fun e => { level := e.level }) } }
    else d
  | .can n => d.chanReset n false
  | .lin n => d.chanReset (64 + n) false
  | .hb k => if k = 0 then d else d.portClear (k - 1)
  | _ => d

/-- R28: a soft reset starts: the block leaves service, its registers of domain B take their reset values
and SOFT_RESET reads 1. What a port page shows of its link stays. -/
def Dev.softStart (d : Dev) (pg : Page) : Dev :=
  let d := if d.enabled pg then d.disableNow pg else d
  let stat (k : Nat) (x : Dev) : Dev := x.setWord (R.HB_PORT_STAT (k - 1)) (d.word (R.HB_PORT_STAT (k - 1)))
  let d := (d.softClear pg).resetRegs .soft (fun q => q == pg)
  let d := match pg with
    | .hb k => if k = 0 then d else stat k d
    | _ => d
  d.put (F.CTRL_SOFT_RESET (pageBase pg)) 1

/-- SOFT_RESET_COMPLETE. -/
def Dev.softEnd (d : Dev) (pg : Page) : Dev :=
  if pageExists pg && d.softReset pg then d.put (F.CTRL_SOFT_RESET (pageBase pg)) 0 else d

/-! ## The header -/

/-- R28: a write of CTRL. -/
def Dev.ctrlWrite (d : Dev) (pg : Page) (v : Word) : Wr :=
  let b := pageBase pg
  let soft := newField v (F.CTRL_SOFT_RESET b) == 1
  let on := newField v (F.CTRL_ENABLE b) == 1
  let was := d.enabled pg
  refuseIf (d.flag (F.CTRL_LOCK b) && soft) 0x0002 <|
  match (if on && !was then d.enableCode pg else none) with
  | some c => .no c
  | none =>
    let begins := soft && !d.softReset pg
    let d := (d.put (F.CTRL_LOCK b) (Nat.lor (d.get (F.CTRL_LOCK b)) (newField v (F.CTRL_LOCK b)))).putFlag (F.CTRL_ENABLE b) on
    let d := if on && !was then d.enableNow pg else if was && !on then d.disableNow pg else d
    .ok (if begins then d.softStart pg else d)

/-- R141: what a page's events hold after a write that clears some. -/
def Dev.irqHold (d : Dev) (pg : Page) : Dev :=
  match pg with
  | .can n => d.noticeHold n
  | .lin n => d.noticeHold (64 + n)
  | _ => d

/-- R28: a write of IRQ_FORCE. -/
def Dev.irqForce (d : Dev) (pg : Page) (v : Word) : Dev :=
  let f := F.IRQ_RAW_BITS (pageBase pg)
  (d.put f (Nat.lor (d.get f) (irqGiven pg v).toNat)).renotify pg

/-- R28, R31: a write to a page's header. -/
def Dev.headerWrite (d : Dev) (pg : Page) (off : Nat) (v : Word) : Wr :=
  let b := pageBase pg
  if off = 0x008 then d.ctrlWrite pg v
  else if off = 0x010 then .ok (((d.store (b + off) v).irqHold pg).renotify pg)
  else if off = 0x014 then .ok ((d.store (b + off) (irqGiven pg v)).renotify pg)
  else if off = 0x01C then .ok (d.irqForce pg v)
  else .ok (d.store (b + off) v)

/-! ## All pages -/

/-- R19, R367: a write to a page's own registers. `ident` is the identity block. -/
def Dev.pageWrite (d : Dev) (ident : List Byte) (who : Init) (pg : Page) (addr : Nat) (v : Word) : Wr :=
  let off := addr % 0x1000
  if off < 0x40 then (d.headerWrite pg off v).map (fun d => if pg = .pc 3 then d.goLive else d)
  else match pg with
    | .mc k => if k = 1 then d.mc1Write who addr v else .ok (d.store addr v)
    | .pc k =>
      if k < 3 then d.pcWrite who addr v
      else if k = 3 then d.pc3Write addr v
      else if k = 4 then d.pc4Write who addr v
      else d.pc5Write who addr v
    | .sd _ => d.sdWrite addr v
    | .sc k => if k < 4 then d.scWrite ident who addr v else d.sc4Write ident who addr v
    | .tl k => if k < 8 then d.tlWrite k who addr v else d.canopyWrite k who addr v
    | .gv k => d.gvWrite k who addr v
    | .can n => if h : n < 64 then d.canWrite ⟨n, h⟩ who off v else .ok d
    | .lin n => if h : n < 16 then d.linWrite ⟨n, h⟩ who off v else .ok d
    | .ep n k => d.epWrite n k who addr v
    | .ts n => d.tsWrite n addr v
    | .sw k => d.swWrite k who addr v
    | .lk s k => d.lkWrite s k who addr v
    | .tm k => d.tmWrite k who addr v
    | .cp k => d.cpWrite k addr v
    | .hb k => if k = 0 then .ok (d.store addr v) else d.hbWrite (k - 1) addr v

/-- R19, R81: a write anywhere in the register space. -/
def Dev.regWrite (d : Dev) (ident : List Byte) (who : Init) (addr : Nat) (v : Word) : Wr :=
  match pageOf addr with
  | some pg => d.pageWrite ident who pg addr v
  | none => if inSignalWindow addr then d.sigWrite ((addr - 0x3000000) / 4) v else .ok d

/-! ## BAR2 (R31) -/

/-- R31: a write to the MSI-X table of a port: vector control unmasks or masks an entry, and a pending
message of an entry that is unmasked is sent. -/
def Dev.bar2Write (d : Dev) (p off : Nat) (v : Word) : Dev :=
  if !d.linkUp p || decide (0x1000 ≤ off) || off % 4 != 0 then d
  else
    let n := off / 16
    if off % 16 = 12 then
      let h := d.port' p
      if wordBit v 0 then d.modHb p (fun h => { h with unmasked := h.unmasked.filter (· != n) })
      else
        let d := d.modHb p (fun h => { h with
          unmasked := if h.unmasked.contains n then h.unmasked else n :: h.unmasked
          pending := h.pending.filter (· != n) })
        if h.pending.contains n then d.emit (.msix p n) else d
    else d.modHb p (fun h => { h with msixTable := tset h.msixTable off v })

/-- R315: the descriptor that a write of the signal store or of GV_TCMD has changed. -/
def deltaTouch (d : Dev) (addr : Nat) : List (Nat × Nat) :=
  if inSignalWindow addr then [(0, (addr - 0x3000000) / 12)]
  else if d.get F.GV_TCMD_OP = 1 then [(1 + d.get F.GV_TCMD_TABLE, d.get F.GV_TCMD_INDEX)]
  else []

/-- R315: while a Sapling delta is applied, the relay keeps in mind what it changes; a write of a table or of the
signal store that the management cores make and that is refused ends the activation. -/
def Dev.deltaCheck (d old : Dev) (who : Init) (addr : Nat) : Dev :=
  let pg : Page := if inSignalWindow addr then ownPage .mc else .gv 1
  let c := F.ERR_COUNT_COUNT (pageBase pg)
  if who = .mc ∧ old.sapState = 5 ∧ (inSignalWindow addr ∨ addr = R.GV_TCMD) then
    (if d.get c ≠ old.get c then d.sapRevert 2
    else if d.sapState = 5 then d.modSap (fun s => { s with touched := deltaTouch d addr ++ s.touched })
    else d)
  else d

/-- REGISTER_WRITE: a write of an initiator; from 0x400_0000 on, the BAR2 of its own port (assumption
12). -/
def Dev.registerWrite (d : Dev) (ident : List Byte) (who : Init) (addr : Nat) (v : Word) (full : Bool) : Dev :=
  if 0x4000000 ≤ addr then
    (match portOf who with
     | some p => if full then d.bar2Write p (addr - 0x4000000) v else d
     | none => d)
  else
    (d.busWrite who addr v full (judged addr v (fun d => d.regWrite ident who addr v))).deltaCheck d who addr

/-- R30, R326: a register write that meets a parity error on its path: it fails with TIMEOUT, and the error is
reported. -/
def Dev.parityWrite (d : Dev) (who : Init) (addr : Nat) (v : Word) (full : Bool) : Dev :=
  (if 0x4000000 ≤ addr then d else d.busWrite who addr v full (fun _ => .no 0x0007)).report 3 0

/-- A row that writes one register of any page with a whole word. -/
def Dev.anyRow (d : Dev) (ident : List Byte) (who : Init) (addr : Nat) (v : Word) : Dev :=
  d.registerWrite ident who addr v true

end Sys2Proof.Machine
end

