-- ==== Sys2Proof/Machine/Settle.lean ====
section
/-! DEFINITION. How a command ends: what it owes to other blocks is carried out, and the parts of the
device that follow others continuously are brought up to date. -/

namespace Sys2Proof.Machine
open Sys2Proof

/-- What is owed is carried out: thread faults in order (R121), then the reports that arrived together
(R330). -/
def Dev.settleReqs (d : Dev) : Dev :=
  let rs := d.todo
  let d := rs.foldl (fun (a : Dev) r =>
    match r with
    | .gvFault t cause => a.gvAccessFault t cause
    | .fault _ _ => a) { d with todo := [] }
  d.collectAll rs

/-- Until nothing is owed; a reaction may owe more. -/
def Dev.drain : Nat → Dev → Dev
  | 0, d => d
  | n + 1, d => if d.todo.isEmpty then d else Dev.drain n d.settleReqs

/-- R334: the first time in a start that a domain is LOCKED, a TIME_LINK record is raised, both times
taken at one tick. -/
def Dev.timeLink (d : Dev) : Dev :=
  if d.plat.timeLinked then d
  else
    match (List.range 4).find? (fun i => d.get (F.DOM_STATE_STATE i) == 3) with
    | none => d
    | some i =>
      let v := (tget d.tl.dom i).val / 2 ^ 40
      (d.modPlat (fun p => { p with timeLinked := true })).chRaise 0x1103 5
        (leBytes 4 i ++ leBytes 4 (d.baseNs / 1000000000) ++ leBytes 4 (d.baseNs % 1000000000) ++
          leBytes 8 (v / 1000000000 % 2 ^ 48) ++ leBytes 4 (v % 1000000000))

/-- R103, R249: once Grove runs, a WAKE event for each recorded wake. -/
def Dev.wakeEvents (d : Dev) : Dev :=
  if d.gvRuns then
    let l := d.slp.events
    let d := { d with slp := { d.slp with events := [] } }
    l.foldl (fun (a : Dev) e =>
      let src := if e.1 = 1 then e.2 else if e.1 = 2 then 64 + e.2 else 128 + e.2
      a.deviceEvent 1 src (e.1 + 256 * e.2) a.stampNow 0xFFFF) d
  else d

/-- The end of every command, `old` being the device before it. -/
def Dev.settle (d old : Dev) : Dev :=
  let d := Dev.drain 8 d
  let d := d.gclMissed.timeLink.modeSync.rotSync
  let d := d.clrSync.sapSync.goSync.wakeEvents
  let d := Dev.drain 8 d
  let d := (d.injectSync old).pinSync.safeSync
  { d with todo := [] }

/-- The word of a command register with the fields given. -/
def cmdWord (l : List (Fld × Nat)) : Word := l.foldl (fun w x => wordPut w x.1.lo x.1.width x.2) 0

/-- A command: its effect on the device, and what follows from it. -/
def act (s : State) (f : Dev → Dev) : Host.Outcome State Fault Refusal :=
  .next { s with dev := (f s.dev).settle s.dev }

end Sys2Proof.Machine
end

