-- ==== Sys2Proof/Machine/CanCmd.lean ====
section
/-! DEFINITION. The commands of the CAN channels and the Flowstone FIFOs (R129 to R147, R370). -/

namespace Sys2Proof.Machine
open Sys2Proof

/-- CAN_FRAME_RX (R139). -/
def execCanFrameRx (n : Fin 64) (f : CanFrame) (ago : Nat) (s : State) : Host.Outcome State Fault
    Refusal :=
  act s (fun d => d.canReceive n f ago)

/-- FLOWSTONE_LAND (R137). -/
def execFlowstoneLand (q : FifoId) (s : State) : Host.Outcome State Fault Refusal :=
  act s (fun d => d.fsLand q)

/-- CAN_MAC_READY (R146). -/
def execCanMacReady (n : Fin 64) (s : State) : Host.Outcome State Fault Refusal :=
  act s (fun d => d.canMacReady n)

/-- CAN_TX_DONE (R142). -/
def execCanTxDone (n : Fin 64) (how : CanEnd) (ago : Nat) (s : State) : Host.Outcome State Fault
    Refusal :=
  act s (fun d => d.canEnds n how ago)

/-- CAN_BUS_ERROR (R131). -/
def execCanBusError (n : Fin 64) (code : Fin 6) (kind : CanErrKind) (xlData : Bool) (s : State) :
    Host.Outcome State Fault Refusal :=
  act s (fun d => d.canErrs n (code + 1) kind xlData)

/-- CAN_RECOVER (R131). -/
def execCanRecover (i : Init) (n : Fin 64) (s : State) : Host.Outcome State Fault Refusal :=
  act s (fun d => d.anyRow (idBlock s.id) i (R.CAN_CMD n) 1)

/-- CAN_RECOVERY_DONE (R131). -/
def execCanRecoveryDone (n : Fin 64) (s : State) : Host.Outcome State Fault Refusal :=
  act s (fun d => d.canRecovered n)

/-- CAN_TIMED_EXPIRE (R143). -/
def execCanTimedExpire (n : Fin 64) (s : State) : Host.Outcome State Fault Refusal :=
  act s (fun d => d.canTimedExpire n)

/-- CAN_WINDOW_WRITE (R133). -/
def execCanWindowWrite (i : Init) (n : Fin 64) (w : Fin 512) (v : Word) (s : State) : Host.Outcome
    State Fault Refusal :=
  act s (fun d => d.anyRow (idBlock s.id) i (pageBase (.can n) + 0x800 + 4 * w) v)

/-- FS_ADVANCE (R138). -/
def execFsAdvance (i : Init) (c : Fin 80) (f : Fin 3) (s : State) : Host.Outcome State Fault Refusal :=
  act s (fun d => d.fsRow i c f 1 0 false)

/-- FS_MARK (R138). -/
def execFsMark (i : Init) (c : Fin 80) (f : Fin 3) (s : State) : Host.Outcome State Fault Refusal :=
  act s (fun d => d.fsRow i c f 2 0 false)

/-- FS_REWIND (R138). -/
def execFsRewind (i : Init) (c : Fin 80) (f : Fin 3) (s : State) : Host.Outcome State Fault Refusal :=
  act s (fun d => d.fsRow i c f 3 0 false)

/-- FS_RELEASE (R138). -/
def execFsRelease (i : Init) (c : Fin 80) (f : Fin 3) (count : Fin 64) (s : State) : Host.Outcome
    State Fault Refusal :=
  act s (fun d => d.fsRow i c f 4 count false)

/-- FS_NOTICE_ACK (R141). -/
def execFsNoticeAck (i : Init) (c : Fin 80) (f : Fin 3) (s : State) : Host.Outcome State Fault
    Refusal :=
  act s (fun d => d.fsRow i c f 5 0 false)

/-- FS_PUSH (R138). -/
def execFsPush (i : Init) (c : Fin 80) (f : Fin 3) (slot : Fin 64) (s : State) : Host.Outcome State
    Fault Refusal :=
  act s (fun d => d.fsRow i c f 8 slot false)

/-- FS_FLUSH (R142). -/
def execFsFlush (i : Init) (c : Fin 80) (f : Fin 3) (started : Bool) (s : State) : Host.Outcome
    State Fault Refusal :=
  act s (fun d => d.fsRow i c f 9 0 started)

/-- CAN_INTEGRATION_DONE (R370). -/
def execCanIntegrationDone (n : Fin 64) (s : State) : Host.Outcome State Fault Refusal :=
  act s (fun d => d.canIntegrated n)

end Sys2Proof.Machine
end

