-- ==== Sys2Proof/Machine/CanopyCmd.lean ====
section
/-! DEFINITION. The commands of the Canopy: the wheel window, trigger outputs, capture inputs and phase domains (R62 to R77). -/

namespace Sys2Proof.Machine
open Sys2Proof

/-- The word of CNP_CMD that starts a command. -/
def cnpWord (op ix : Nat) : Word := BitVec.ofNat 32 (2 ^ 31 + op * 2 ^ 24 + ix)

/-- CNP_READ (R66). -/
def execCnpRead (i : Init) (ix : Fin 4096) (s : State) : Host.Outcome State Fault Refusal :=
  act s (fun d => d.cnpRow i 8 R.CNP_CMD (cnpWord 0 ix))

/-- CNP_WRITE (R64 to R66). -/
def execCnpWrite (i : Init) (ix : Fin 4096) (s : State) : Host.Outcome State Fault Refusal :=
  act s (fun d => d.cnpRow i 8 R.CNP_CMD (cnpWord 1 ix))

/-- CNP_CLEAR (R66). -/
def execCnpClear (i : Init) (ix : Fin 4096) (s : State) : Host.Outcome State Fault Refusal :=
  act s (fun d => d.cnpRow i 8 R.CNP_CMD (cnpWord 2 ix))

/-- CANOPY_RELEASE (R63, R69 to R71). -/
def execCanopyRelease (s : State) : Host.Outcome State Fault Refusal :=
  act s (fun d => d.canopyRelease Dev.perform)

/-- TRIG_COMMIT (R69, R72). -/
def execTrigCommit (s : State) : Host.Outcome State Fault Refusal := act s (fun d => d.trigCommit)

/-- TRIG_PULSE_START (R72). -/
def execTrigPulseStart (k : Fin 16) (s : State) : Host.Outcome State Fault Refusal :=
  act s (fun d => d.pulseStart k)

/-- TRIG_PULSE_END (R72). -/
def execTrigPulseEnd (k : Fin 16) (s : State) : Host.Outcome State Fault Refusal :=
  act s (fun d => d.pulseEnd k)

/-- TRG_DISABLE (R72): TRG_CFG written with EN = 0. -/
def execTrgDisable (i : Init) (k : Fin 16) (s : State) : Host.Outcome State Fault Refusal :=
  act s (fun d => d.cnpRow i 9 (R.TRG_CFG k) (d.wordWith (F.TRG_CFG_EN k) 0))

/-- TCAP_EDGE (R73). -/
def execTcapEdge (c : Fin 8) (rise : Bool) (frac : Fin 8) (s : State) : Host.Outcome State Fault Refusal :=
  act s (fun d => d.tcapEdge c rise frac)

/-- TCAP_EDGE_QUALIFIED (R73). -/
def execTcapEdgeQualified (c : Fin 8) (s : State) : Host.Outcome State Fault Refusal :=
  act s (fun d => d.tcapQualify c)

/-- TCP_POP (R73). -/
def execTcpPop (i : Init) (c : Fin 8) (s : State) : Host.Outcome State Fault Refusal :=
  act s (fun d => d.cnpRow i 10 (R.TCP_POP c) 1)

/-- PHASE_ENABLE (R75): PH_CTRL written with EN = 1. -/
def execPhaseEnable (i : Init) (p : Fin 4) (s : State) : Host.Outcome State Fault Refusal :=
  act s (fun d => d.cnpRow i (11 + p) (R.PH_CTRL p) (d.wordWith (F.PH_CTRL_EN p) 1))

/-- PHASE_DISABLE (R75): PH_CTRL written with EN = 0. -/
def execPhaseDisable (i : Init) (p : Fin 4) (s : State) : Host.Outcome State Fault Refusal :=
  act s (fun d => d.cnpRow i (11 + p) (R.PH_CTRL p) (d.wordWith (F.PH_CTRL_EN p) 0))

/-- PHASE_COUNT_EDGE (R74, R77): a qualified edge of the encoder, `frac` × 125 ps after the tick;
`aLeads` says whether PHA leads PHB. -/
def execPhaseCountEdge (p : Fin 4) (aLeads : Bool) (frac : Fin 8) (s : State) :
    Host.Outcome State Fault Refusal :=
  act s (fun d => d.countEdge p (aLeads != d.flag (F.PH_CTRL_DIR p)) (d.base8 + frac))

/-- PHASE_INDEX_EDGE (R74, R75). -/
def execPhaseIndexEdge (p : Fin 4) (frac : Fin 8) (s : State) : Host.Outcome State Fault Refusal :=
  act s (fun d => d.indexEdge p (d.base8 + frac))

/-- PHASE_NO_INDEX (R75). -/
def execPhaseNoIndex (p : Fin 4) (s : State) : Host.Outcome State Fault Refusal :=
  act s (fun d => d.noIndex p)

end Sys2Proof.Machine
end

