-- ==== Sys2Proof/Machine/CaptureCmd.lean ====
section
/-! DEFINITION. The commands of the capture memory: records, rings, delivery, the memory (R224 to
R237). -/

namespace Sys2Proof.Machine
open Sys2Proof

/-- R225, R235: stream s sends its next PDU into port 27, once the pacer has admitted it; no tap of port 27
copies it. -/
def Dev.avtpSend (d : Dev) (s ecc : Nat) : Dev :=
  if (d.port 27).admitted then
    match d.avtpTake s ecc with
    | some (frame, d) => d.enterPaced 27 frame false
    | none => d
  else d

/-- DDR_TRAINING_DONE: training of release step 6 ends; after a failure TRAINED stays 0. -/
def Dev.ddrTrained (d : Dev) (ok : Bool) : Dev :=
  if ok && decide (6 ≤ d.plat.relStep) && !bitOf d.bypassed 4 then
    (d.put F.CP_MEM_STAT_TRAINED 1).putFlag F.CP_MEM_STAT_CONSERVATIVE (bitOf d.plat.boot.flags 1)
  else d

/-- CAPTURE_RECORD_COMMIT (R229). -/
def execCaptureRecordCommit (s : State) : Host.Outcome State Fault Refusal :=
  act s (fun d => d.captureCommit)

/-- RING_TRIGGER (R231). -/
def execRingTrigger (i : Init) (r : Fin 16) (s : State) : Host.Outcome State Fault Refusal :=
  act s (fun d => d.anyRow (idBlock s.id) i (R.CP_RING_CMD r) (cmdWord [(F.CP_RING_CMD_TRIGGER r, 1)]))

/-- RING_REARM (R231). -/
def execRingRearm (i : Init) (r : Fin 16) (s : State) : Host.Outcome State Fault Refusal :=
  act s (fun d => d.anyRow (idBlock s.id) i (R.CP_RING_CMD r) (cmdWord [(F.CP_RING_CMD_REARM r, 1)]))

/-- RING_RESET_PTR (R229). -/
def execRingResetPtr (i : Init) (r : Fin 16) (s : State) : Host.Outcome State Fault Refusal :=
  act s (fun d => d.anyRow (idBlock s.id) i (R.CP_RING_CMD r) (cmdWord [(F.CP_RING_CMD_RESET_PTR r, 1)]))

/-- DELIVERY_FLUSH_TIMEOUT (R234). -/
def execDeliveryFlushTimeout (stream : Option (Fin 4)) (p : Fin 2) (r : Fin 16) (x : Descriptor) (s
    : State) : Host.Outcome State Fault Refusal :=
  act s (fun d => match stream with | some k => d.avtpSend k 0 | none => d.dmaFlush p r x)

/-- AVTP_PDU_SEND (R235). -/
def execAvtpPduSend (k : Fin 4) (ecc : Fin 3) (s : State) : Host.Outcome State Fault Refusal :=
  act s (fun d => d.avtpSend k ecc)

/-- DDR_TRAINING_DONE (R236). -/
def execDdrTrainingDone (ok : Bool) (s : State) : Host.Outcome State Fault Refusal :=
  act s (fun d => d.ddrTrained ok)

end Sys2Proof.Machine
end

