-- ==== Sys2Proof/Machine/EthCmd.lean ====
section
/-! DEFINITION. The commands of the Ethernet ports and the T1S segments, and of frames on their way
through the switch (R153 to R186, R214). -/

namespace Sys2Proof.Machine
open Sys2Proof

/-- EP_LINK_CHANGE; R311: the relay asks its peers where it comes up. -/
def Dev.linkEvent (d : Dev) (n : Nat) (lock an phy : Bool) (speed : Nat) (lf rf : Bool) : Dev :=
  let was := d.flag (F.EP_LINK_LINK_UP n)
  let d := d.linkChange n lock an phy speed lf rf
  if !was && d.flag (F.EP_LINK_LINK_UP n) then d.sapLinkUp else d

/-- EP_LINK_CHANGE (R156). -/
def execEpLinkChange (n : Fin 16) (lock an phy : Bool) (speed : Fin 5) (lf rf : Bool) (s : State) :
    Host.Outcome State Fault Refusal :=
  act s (fun d => d.linkEvent n lock an phy speed lf rf)

/-- EP_FRAME_HEAD (R157). -/
def execEpFrameHead (p : Fin 24) (bytes : List Byte) (ago : Nat) (express : Bool) (s : State) :
    Host.Outcome State Fault Refusal :=
  act s (fun d => d.frameHead p bytes ago express)

/-- EP_FRAME_TAIL; the end of a frame that was arriving is activity (R253). -/
def Dev.tailEvent (d : Dev) (p : Nat) (rest : List Byte) (symbol : Bool) : Dev :=
  let heard := d.portUp p && (d.arriving p).isSome
  let d := d.frameTail p rest symbol
  if heard then d.portActivity p else d

/-- EP_FRAME_TAIL (R158). -/
def execEpFrameTail (p : Fin 24) (rest : List Byte) (symbol : Bool) (s : State) : Host.Outcome State
    Fault Refusal :=
  act s (fun d => d.tailEvent p rest symbol)

/-- PAUSE_END (R164). -/
def execPauseEnd (p : Fin 16) (c : Fin 9) (s : State) : Host.Outcome State Fault Refusal :=
  act s (fun d => d.pauseEnd p c)

/-- MACSEC_ICV_CHECKED (R172). -/
def execMacsecIcvChecked (n : Fin 16) (s : State) : Host.Outcome State Fault Refusal :=
  act s (fun d => d.icvChecked n)

/-- LOOKUP_RESULT (R180). -/
def execLookupResult (p : Fin 28) (s : State) : Host.Outcome State Fault Refusal :=
  act s (fun d => d.lookupResult p)

/-- PAUSE_REPEAT (R166). -/
def execPauseRepeat (p : Fin 16) (c : Fin 9) (s : State) : Host.Outcome State Fault Refusal :=
  act s (fun d => d.pauseRepeat p c)

/-- EGRESS_FRAME_START (R214). -/
def execEgressFrameStart (p : Fin 28) (dbe : Bool) (frac : Fin 8) (s : State) : Host.Outcome State Fault Refusal :=
  act s (fun d => d.egressStart p dbe frac)

/-- EGRESS_FRAME_END (R162). -/
def execEgressFrameEnd (p : Fin 28) (err : Fin 3) (s : State) : Host.Outcome State Fault Refusal :=
  act s (fun d => d.egressEnd p err)

/-- EEE_LPI_ENTER (R167). -/
def execEeeLpiEnter (n : Fin 16) (s : State) : Host.Outcome State Fault Refusal :=
  act s (fun d => d.lpiEnter n)

/-- EEE_WAKE_DONE (R167). -/
def execEeeWakeDone (n : Fin 16) (frac : Fin 8) (s : State) : Host.Outcome State Fault Refusal :=
  act s (fun d => d.eeeWake n frac)

/-- STAMP_READY_RISE (R169). -/
def execStampReadyRise (n : Fin 16) (s : State) : Host.Outcome State Fault Refusal :=
  act s (fun d => d.stampReady n)

/-- RX_LPI_CHANGE (R169). -/
def execRxLpiChange (n : Fin 16) (on : Bool) (s : State) : Host.Outcome State Fault Refusal :=
  act s (fun d => d.rxLpi n on)

/-- MS_READ (R170). -/
def execMsRead (i : Init) (n : Fin 16) (sa : Bool) (ix : Fin 128) (s : State) : Host.Outcome State
    Fault Refusal :=
    act s (fun d => d.anyRow (idBlock s.id) i (R.MS_CMD n) (cmdWord [(F.MS_CMD_GO n, 1),
    (F.MS_CMD_OP n, 0), (F.MS_CMD_TABLE n, boolNat sa), (F.MS_CMD_INDEX n, ix)]))

/-- MS_WRITE (R170). -/
def execMsWrite (i : Init) (n : Fin 16) (sa : Bool) (ix : Fin 128) (s : State) : Host.Outcome State
    Fault Refusal :=
    act s (fun d => d.anyRow (idBlock s.id) i (R.MS_CMD n) (cmdWord [(F.MS_CMD_GO n, 1),
    (F.MS_CMD_OP n, 1), (F.MS_CMD_TABLE n, boolNat sa), (F.MS_CMD_INDEX n, ix)]))

/-- TS_TX_OPPORTUNITY (R174). -/
def execTsTxOpportunity (n : Fin 8) (s : State) : Host.Outcome State Fault Refusal :=
  act s (fun d => d.txOpportunity n)

/-- TS_BEACON_RX (R175). -/
def execTsBeaconRx (n : Fin 8) (s : State) : Host.Outcome State Fault Refusal :=
  act s (fun d => d.beaconRx n)

/-- TS_BEACON_LOSS (R175). -/
def execTsBeaconLoss (n : Fin 8) (s : State) : Host.Outcome State Fault Refusal :=
  act s (fun d => d.beaconLoss n)

/-- TS_COLLISION (R175). -/
def execTsCollision (n : Fin 8) (s : State) : Host.Outcome State Fault Refusal :=
  act s (fun d => d.collision n)

/-- TS_BACKOFF_EXPIRE (R175). -/
def execTsBackoffExpire (n : Fin 8) (s : State) : Host.Outcome State Fault Refusal :=
  act s (fun d => d.backoffExpire n)

/-- CNT_SNAP (R176). -/
def execCntSnap (i : Init) (p : Fin 24) (s : State) : Host.Outcome State Fault Refusal :=
    act s (fun d => d.anyRow (idBlock s.id) i (if p.val < 16 then R.EP_CNT_CTRL p else R.TS_CNT_CTRL
    (p - 16)) 1)

end Sys2Proof.Machine
end

