-- ==== Sys2Proof/Machine/GroveCmd.lean ====
section
/-! DEFINITION. The commands of Grove's tables, arbiter, destinations and sweeper (R80 to R106,
R112). -/

namespace Sys2Proof.Machine
open Sys2Proof

/-- SIG_STORE_WRITE (R81). -/
def execSigStoreWrite (i : Init) (w : Fin 0x300000) (v : Word) (s : State) : Host.Outcome State
    Fault Refusal :=
  act s (fun d => d.anyRow (idBlock s.id) i (0x3000000 + 4 * w) v)

/-- GV_PDU_READ (R91). -/
def execGvPduRead (i : Init) (ix : BitVec 16) (s : State) : Host.Outcome State Fault Refusal :=
  act s (fun d => d.anyRow (idBlock s.id) i R.GV_TCMD (tcmdWord 0 0 ix.toNat))

/-- GV_PDU_WRITE (R91). -/
def execGvPduWrite (i : Init) (ix : BitVec 16) (s : State) : Host.Outcome State Fault Refusal :=
  act s (fun d => d.anyRow (idBlock s.id) i R.GV_TCMD (tcmdWord 1 0 ix.toNat))

/-- GV_XFM_READ (R91). -/
def execGvXfmRead (i : Init) (ix : BitVec 16) (s : State) : Host.Outcome State Fault Refusal :=
  act s (fun d => d.anyRow (idBlock s.id) i R.GV_TCMD (tcmdWord 0 1 ix.toNat))

/-- GV_XFM_WRITE (R85). -/
def execGvXfmWrite (i : Init) (ix : BitVec 16) (s : State) : Host.Outcome State Fault Refusal :=
  act s (fun d => d.anyRow (idBlock s.id) i R.GV_TCMD (tcmdWord 1 1 ix.toNat))

/-- GV_IMAGE_READ (R91). -/
def execGvImageRead (i : Init) (ix : BitVec 16) (s : State) : Host.Outcome State Fault Refusal :=
  act s (fun d => d.anyRow (idBlock s.id) i R.GV_TCMD (tcmdWord 0 2 ix.toNat))

/-- GV_IMAGE_WRITE (R91). -/
def execGvImageWrite (i : Init) (ix : BitVec 16) (s : State) : Host.Outcome State Fault Refusal :=
  act s (fun d => d.anyRow (idBlock s.id) i R.GV_TCMD (tcmdWord 1 2 ix.toNat))

/-- INSTANCE_HANDOVER (R112). -/
def execInstanceHandover (t t2 : Fin 128) (s : State) : Host.Outcome State Fault Refusal :=
  act s (fun d => d.handover t t2)

/-- INSTANCE_COMMIT (R92), unless an uncorrectable error (`err` 1) or a parity error (2) of what the instance
reads aborts it (R326). -/
def execInstanceCommit (t : Fin 128) (err : Fin 3) (s : State) : Host.Outcome State Fault Refusal :=
  act s (fun d => if err = 0 then d.instanceCommit t else d.instanceErr t (if err = 1 then 1 else 3))

/-- DESTINATION_ACCEPT (R99). -/
def execDestinationAccept (x : GvDest) (s : State) : Host.Outcome State Fault Refusal :=
  act s (fun d => d.destAccept x)

/-- R102: the channel of a receive PDU belongs to a sleep group that is asleep. -/
def Dev.chanAsleep (d : Dev) (bus chan : Nat) : Bool :=
  (bus == 0 && decide (2 ≤ d.groupState (chanGroup chan))) ||
    (bus == 1 && decide (2 ≤ d.groupState (chanGroup (64 + chan))))

/-- RX_TIMEOUT (R101). -/
def execRxTimeout (pdu : BitVec 16) (s : State) : Host.Outcome State Fault Refusal :=
  act s (fun d => d.rxTimeout pdu.toNat d.chanAsleep)

end Sys2Proof.Machine
end

