-- ==== Sys2Proof/Machine/GroveEngCmd.lean ====
section
/-! DEFINITION. The commands of the Grove engines: Xgrove instructions, thread faults, run control,
the image loader and rotation (R109 to R127). -/

namespace Sys2Proof.Machine
open Sys2Proof

/-- GX_SIGLD (R116). -/
def execGxSigld (t : Fin 128) (pc : Word) (rd : Fin 32) (k : Fin 4) (ix : Word) (dbe : Bool) (s :
    State) : Host.Outcome State Fault Refusal :=
  act s (fun d => d.gxSigld t pc.toNat rd k ix.toNat dbe)

/-- GX_SIGST (R116). -/
def execGxSigst (t : Fin 128) (pc : Word) (rd : Fin 32) (k : Fin 4) (ix : Word) (s : State) :
    Host.Outcome State Fault Refusal :=
  act s (fun d => d.gxSigst t pc.toNat rd k ix.toNat)

/-- GX_EXT (R116). -/
def execGxExt (t : Fin 128) (pc : Word) (rd : Fin 32) (k v : Fin 4) (s : State) : Host.Outcome State
    Fault Refusal :=
  act s (fun d => d.gxExt t pc.toNat rd k v)

/-- GX_XFM (R116). -/
def execGxXfm (t : Fin 128) (pc : Word) (rd : Fin 32) (k vd vs : Fin 4) (s : State) : Host.Outcome
    State Fault Refusal :=
  act s (fun d => d.gxXfm t pc.toNat rd k vd vs)

/-- GX_INS (R116). -/
def execGxIns (t : Fin 128) (pc : Word) (rd : Fin 32) (k v : Fin 4) (s : State) : Host.Outcome State
    Fault Refusal :=
  act s (fun d => d.gxIns t pc.toNat rd k v)

/-- GX_TS (R116). -/
def execGxTs (t : Fin 128) (pc : Word) (rd : Fin 32) (sel : Fin 8) (s : State) : Host.Outcome State
    Fault Refusal :=
  act s (fun d => d.gxTs t pc.toNat rd sel)

/-- GX_PDUGET (R116). -/
def execGxPduget (t : Fin 128) (pc : Word) (rd : Fin 32) (block : Bool) (t2 : Fin 128) (s : State) :
    Host.Outcome State Fault Refusal :=
  act s (fun d => d.gxPduget t pc.toNat rd block t2)

/-- GX_PDUPUT_END (R116). -/
def execGxPduputEnd (t : Fin 128) (pc : Word) (rd : Fin 32) (s : State) : Host.Outcome State Fault
    Refusal :=
  act s (fun d => d.gxEnd t pc.toNat rd)

/-- GX_PDUPUT_SEND (R116). -/
def execGxPduputSend (t : Fin 128) (pc : Word) (rd : Fin 32) (p : Word) (s : State) : Host.Outcome
    State Fault Refusal :=
  act s (fun d => d.gxSend t pc.toNat rd p.toNat)

/-- GX_PDUPUT_DROP (R116). -/
def execGxPduputDrop (t : Fin 128) (pc : Word) (rd : Fin 32) (s : State) : Host.Outcome State Fault
    Refusal :=
  act s (fun d => d.gxDrop t pc.toNat rd)

/-- GX_WAIT (R116). -/
def execGxWait (t : Fin 128) (pc : Word) (rd : Fin 32) (s : State) : Host.Outcome State Fault Refusal :=
  act s (fun d => d.gxWait t pc.toNat rd)

/-- GX_EVT (R116). -/
def execGxEvt (t : Fin 128) (pc : Word) (rd : Fin 32) (tq x : Word) (s : State) : Host.Outcome State
    Fault Refusal :=
  act s (fun d => d.gxEvt t pc.toNat rd tq.toNat x.toNat)

/-- GX_CMP (R120). -/
def execGxCmp (t : Fin 128) (pc : Word) (rd : Fin 32) (x : Word) (s : State) : Host.Outcome State
    Fault Refusal :=
  act s (fun d => d.gxCmp t pc.toNat rd x.toNat)

/-- PAIR_CMP_TIMEOUT (R120). -/
def execPairCmpTimeout (t : Fin 128) (s : State) : Host.Outcome State Fault Refusal :=
  act s (fun d => d.cmpTimeout t)

/-- INSTANCE_TIMEOUT (R113). -/
def execInstanceTimeout (t : Fin 128) (pc : Word) (s : State) : Host.Outcome State Fault Refusal :=
  act s (fun d => d.instanceTimeout t pc.toNat)

/-- THREAD_RESTART (R121). -/
def execThreadRestart (t : Fin 128) (s : State) : Host.Outcome State Fault Refusal :=
  act s (fun d => d.threadRestart t)

/-- ENGINE_RUN (R111). -/
def execEngineRun (i : Init) (s : State) : Host.Outcome State Fault Refusal :=
  act s (fun d => d.anyRow (idBlock s.id) i R.GV_ENG_CTRL 1)

/-- ENGINE_HALT (R111). -/
def execEngineHalt (i : Init) (s : State) : Host.Outcome State Fault Refusal :=
  act s (fun d => d.anyRow (idBlock s.id) i R.GV_ENG_CTRL 0)

/-- ENGINE_INIT_TEST_DONE (R125). -/
def execEngineInitTestDone (failed : BitVec 16) (s : State) : Host.Outcome State Fault Refusal :=
  act s (fun d => d.initTestDone failed.toNat)

/-- GV_LOAD_START (R126). -/
def execGvLoadStart (i : Init) (s : State) : Host.Outcome State Fault Refusal :=
  act s (fun d => d.anyRow (idBlock s.id) i R.GV_LOAD_CTRL (cmdWord [(F.GV_LOAD_CTRL_GO, 1)]))

/-- GV_LOAD_DONE. A load of the firmware takes the code of the slot in force (R314); a copy that fails while a
Sapling is applied ends the activation (R315). -/
def Dev.loadEnds (d : Dev) (bytes : List Byte) : Dev :=
  let busy := d.get F.GV_LOAD_CTRL_STATE == 1
  let d := d.loadDone (if d.gv.loadFw then d.slotCode else none) bytes
  if busy && d.sapState == 5 then
    (if d.get F.GV_LOAD_CTRL_STATE = 3 then d.sapRevert 1
    else if d.get F.GV_LOAD_CTRL_STATE = 2 then d.sapLoaded
    else d)
  else d

/-- GV_LOAD_DONE (R126). -/
def execGvLoadDone (bytes : List Byte) (s : State) : Host.Outcome State Fault Refusal :=
  act s (fun d => d.loadEnds bytes)

/-- GV_LM_DATA_WRITE (R111). -/
def execGvLmDataWrite (i : Init) (v : Word) (s : State) : Host.Outcome State Fault Refusal :=
  act s (fun d => d.anyRow (idBlock s.id) i R.GV_LM_DATA v)

/-- SELFTEST_START (R122). -/
def execSelftestStart (s : State) : Host.Outcome State Fault Refusal :=
  act s (fun d => d.selftestStart)

/-- SELFTEST_DONE (R122). -/
def execSelftestDone (pass : Bool) (s : State) : Host.Outcome State Fault Refusal :=
  act s (fun d => d.selftestDone pass)

/-- GV_ROT_CMD (R327). -/
def execGvRotCmd (i : Init) (e : Fin 16) (s : State) : Host.Outcome State Fault Refusal :=
    act s (fun d => d.anyRow (idBlock s.id) i R.GV_ROT_CMD (cmdWord [(F.GV_ROT_CMD_GO, 1),
    (F.GV_ROT_CMD_ENGINE, e)]))

/-- THREAD_EXCEPTION (R121). -/
def execThreadException (t : Fin 128) (cause : Fin 7) (pc : Word) (s : State) : Host.Outcome State
    Fault Refusal :=
  act s (fun d => d.threadException t (cause + 2) pc.toNat)

end Sys2Proof.Machine
end

