-- ==== Sys2Proof/Machine/HostBridgeCmd.lean ====
section
/-! DEFINITION. The commands of the register pages and the host bridge: writes, soft resets, PCIe
ports, DMA rings, PTM, pacers (R13, R28 to R40). -/

namespace Sys2Proof.Machine
open Sys2Proof

/-- REGISTER_WRITE (R367). -/
def execRegisterWrite (i : Init) (addr : Nat) (v : Word) (full parity : Bool) (s : State) : Host.Outcome
    State Fault Refusal :=
  act s (fun d => if parity then d.parityWrite i addr v full else d.registerWrite (idBlock s.id) i addr v full)

/-- SOFT_RESET (R28). -/
def execSoftReset (i : Init) (pg : Page) (s : State) : Host.Outcome State Fault Refusal :=
    act s (fun d => d.anyRow (idBlock s.id) i (pageBase pg + 0x008) (d.wordWith (F.CTRL_SOFT_RESET
    (pageBase pg)) 1))

/-- SOFT_RESET_COMPLETE (R28). -/
def execSoftResetComplete (pg : Page) (s : State) : Host.Outcome State Fault Refusal :=
  act s (fun d => d.softEnd pg)

/-- IRQ_FORCE (R28). -/
def execIrqForce (i : Init) (pg : Page) (bits : Word) (s : State) : Host.Outcome State Fault Refusal :=
  act s (fun d => d.anyRow (idBlock s.id) i (pageBase pg + 0x01C) bits)

/-- PCIE_PORT_RESET (R32). -/
def execPciePortReset (p : Fin 2) (linkDown : Bool) (s : State) : Host.Outcome State Fault Refusal :=
  act s (fun d => d.portReset p linkDown)

/-- PCIE_LINK_UP (R34). -/
def execPcieLinkUp (p : Fin 2) (width speed : Fin 8) (ptm : Bool) (s : State) : Host.Outcome State
    Fault Refusal :=
  act s (fun d => d.portLinkUp p width speed ptm)

/-- DMA_RING_ENABLE (R37). -/
def execDmaRingEnable (i : Init) (p : Fin 2) (r : Fin 16) (s : State) : Host.Outcome State Fault
    Refusal :=
  act s (fun d => d.hbRow i p (R.RING_CFG p r) (d.wordWith (F.RING_CFG_ENABLE p r) 1))

/-- DMA_RING_STOP (R37). -/
def execDmaRingStop (i : Init) (p : Fin 2) (r : Fin 16) (s : State) : Host.Outcome State Fault
    Refusal :=
  act s (fun d => d.hbRow i p (R.RING_CFG p r) (d.wordWith (F.RING_CFG_ENABLE p r) 0))

/-- DMA_RING_TAIL (R37). -/
def execDmaRingTail (i : Init) (p : Fin 2) (r : Fin 16) (tail : BitVec 16) (s : State) :
    Host.Outcome State Fault Refusal :=
  act s (fun d => d.hbRow i p (R.RING_TAIL p r) (tail.setWidth 32))

/-- DMA_DESCRIPTOR_DONE (R38). -/
def execDmaDescriptorDone (p : Fin 2) (r : Fin 16) (x : Descriptor) (s : State) : Host.Outcome State
    Fault Refusal :=
  act s (fun d => d.dmaDone p r x)

/-- DMA_FAULT (R39). -/
def execDmaFault (p : Fin 2) (r : Fin 16) (timeout : Bool) (s : State) : Host.Outcome State Fault
    Refusal :=
  act s (fun d => d.dmaFault p r timeout)

/-- PTM_TRIGGER (R40). -/
def execPtmTrigger (i : Init) (p : Fin 2) (s : State) : Host.Outcome State Fault Refusal :=
  act s (fun d => d.hbRow i p (R.HB_PTM_CTRL p) (d.wordWith (F.HB_PTM_CTRL_TRIGGER p) 1))

/-- PTM_PERIOD_EXPIRE (R40). -/
def execPtmPeriodExpire (p : Fin 2) (s : State) : Host.Outcome State Fault Refusal :=
  act s (fun d => d.ptmPeriod p)

/-- PTM_DIALOGUE_COMPLETE (R40). -/
def execPtmDialogueComplete (p : Fin 2) (master : BitVec 64) (delay : Word) (s : State) :
    Host.Outcome State Fault Refusal :=
  act s (fun d => d.ptmDone p master.toNat delay.toNat)

/-- PACER_ADMIT (R13). -/
def execPacerAdmit (management : Bool) (frame : List Byte) (s : State) : Host.Outcome State Fault
    Refusal :=
  act s (fun d => d.pacerAdmit management frame)

end Sys2Proof.Machine
end

