-- ==== Sys2Proof/Machine/LinCmd.lean ====
section
/-! DEFINITION. The commands of the LIN channels (R148 to R151). -/

namespace Sys2Proof.Machine
open Sys2Proof

/-- A LIN channel's bus is served: its sleep group is AWAKE or going to sleep (R246). -/
def Dev.linServed (d : Dev) (n : Fin 16) : Bool := decide (d.groupState (chanGroup (64 + n)) < 2)

/-- LIN_RESPONSE_RX: a frame that another node publishes and that is received counts as activity (R253). -/
def Dev.linReceive (d : Dev) (n : Fin 16) (r : LinResponse) : Dev :=
  if d.linServed n then
    let heard := (d.linFrame n).any (fun f => !f.own && d.linGood n f r)
    (if heard then d.chanActivity (64 + n) else d).linResponse n r
  else d

/-- LIN_MASTER_ITEM (R149). -/
def execLinMasterItem (n : Fin 16) (s : State) : Host.Outcome State Fault Refusal :=
  act s (fun d => d.linItem n)

/-- LIN_HEADER_RX (R150). -/
def execLinHeaderRx (n : Fin 16) (pid : Byte) (syncOk : Bool) (ago : Nat) (s : State) : Host.Outcome
    State Fault Refusal :=
  act s (fun d => if d.linServed n then d.linHeader n pid.toNat syncOk ago else d)

/-- LIN_RESPONSE_RX (R150). -/
def execLinResponseRx (n : Fin 16) (r : LinResponse) (s : State) : Host.Outcome State Fault Refusal :=
  act s (fun d => d.linReceive n r)

/-- LIN_RESPONSE_TIMEOUT (R149). -/
def execLinResponseTimeout (n : Fin 16) (bytes : Nat) (s : State) : Host.Outcome State Fault Refusal :=
  act s (fun d => d.linTimeout n bytes)

/-- LIN_WAKE_PULSE (R150). -/
def execLinWakePulse (n : Fin 16) (s : State) : Host.Outcome State Fault Refusal :=
  act s (fun d => if d.linServed n then d.linWakeUp n else d)

end Sys2Proof.Machine
end

