-- ==== Sys2Proof/Machine/PlatformCmd.lean ====
section
/-! DEFINITION. The commands of platform control: resets, release sequences, boot, watchdog, modes,
monitors (R261 to R278, R356, R357). -/

namespace Sys2Proof.Machine
open Sys2Proof

/-- POR_ASSERT: the flag says whether it cuts a pulse of the Chamber writer. -/
def Dev.porAssert (d : Dev) (cutChamber : Bool) : Dev :=
  (d.powerOn cutChamber).modPlat (fun p => { p with porLow := true })

/-- LOCKSTEP_MISMATCH: the checker runs once the management complex is released (R330). -/
def Dev.lockstepFails (d : Dev) : Dev :=
  if d.released (.mc 0) && d.flag F.MC_CORE_LOCKSTEP then d.report 0 0 else d

/-- POR_ASSERT (R261). -/
def execPorAssert (cutChamber : Bool) (s : State) : Host.Outcome State Fault Refusal :=
  act s (fun d => d.porAssert cutChamber)

/-- POR_RELEASE (R268). -/
def execPorRelease (straps : Fin 16) (testen : Bool) (s : State) : Host.Outcome State Fault Refusal :=
  act s (fun d => d.porRelease straps testen)

/-- RSTN_ASSERT (R261). -/
def execRstnAssert (s : State) : Host.Outcome State Fault Refusal :=
  act s (fun d => d.rstnLow)

/-- RSTN_RELEASE (R261). -/
def execRstnRelease (s : State) : Host.Outcome State Fault Refusal :=
  act s (fun d => d.modPlat (fun p => { p with rstLow := false }))

/-- SW_RESET_COLD (R261). -/
def execSwResetCold (i : Init) (key : BitVec 16) (s : State) : Host.Outcome State Fault Refusal :=
    act s (fun d => d.anyRow (idBlock s.id) i R.PC_RST_CMD (cmdWord [(F.PC_RST_CMD_KEY, key.toNat),
    (F.PC_RST_CMD_COLD, 1)]))

/-- SW_RESET_WARM (R261). -/
def execSwResetWarm (i : Init) (key : BitVec 16) (s : State) : Host.Outcome State Fault Refusal :=
    act s (fun d => d.anyRow (idBlock s.id) i R.PC_RST_CMD (cmdWord [(F.PC_RST_CMD_KEY, key.toNat),
    (F.PC_RST_CMD_WARM, 1)]))

/-- LOCKSTEP_MISMATCH (R261). -/
def execLockstepMismatch (s : State) : Host.Outcome State Fault Refusal :=
  act s (fun d => d.lockstepFails)

/-- THERMAL_RESET (R261). -/
def execThermalReset (s : State) : Host.Outcome State Fault Refusal :=
  act s (fun d => d.thermalReset)

/-- SUPPLY_FAULT (R261). -/
def execSupplyFault (k : Fin 9) (cutChamber : Bool) (s : State) : Host.Outcome State Fault
    Refusal :=
  act s (fun d => d.supplyFault k cutChamber)

/-- HELD_RESET_RELEASE (R261). -/
def execHeldResetRelease (thermal : Bool) (s : State) : Host.Outcome State Fault Refusal :=
  act s (fun d => d.heldRelease thermal)

/-- DEBUG_RESET (R261). -/
def execDebugReset (warm : Bool) (s : State) : Host.Outcome State Fault Refusal :=
  act s (fun d => d.debugReset warm)

/-- RELEASE_STEP (R264). -/
def execReleaseStep (s : State) : Host.Outcome State Fault Refusal :=
  act s (fun d => d.releaseNext (idBlock s.id))

/-- WARM_RELEASE_STEP (R265). -/
def execWarmReleaseStep (s : State) : Host.Outcome State Fault Refusal :=
  act s (fun d => d.warmNext)

/-- BOOT_STEP_PASS (R269). -/
def execBootStepPass (read : List Byte) (s : State) : Host.Outcome State Fault Refusal :=
  act s (fun d => d.bootPass read)

/-- BOOT_STEP_FAIL (R269). -/
def execBootStepFail (plls : Fin 4096) (s : State) : Host.Outcome State Fault Refusal :=
  act s (fun d => d.bootStepFail plls)

/-- WDOG_KICK (R273). -/
def execWdogKick (i : Init) (v : BitVec 16) (s : State) : Host.Outcome State Fault Refusal :=
  act s (fun d => d.anyRow (idBlock s.id) i R.PC_WDOG_KICK (v.setWidth 32))

/-- WDOG_EXPIRE (R273). -/
def execWdogExpire (s : State) : Host.Outcome State Fault Refusal :=
  act s (fun d => d.wdogDue)

/-- MODE_REQUEST (R276). -/
def execModeRequest (i : Init) (m : Fin 16) (s : State) : Host.Outcome State Fault Refusal :=
    act s (fun d => d.anyRow (idBlock s.id) i R.PC_MODE_REQ (cmdWord [(F.PC_MODE_REQ_GO, 1),
    (F.PC_MODE_REQ_MODE, m)]))

/-- ACTIVATION_LIMIT (R278). -/
def execActivationLimit (s : State) : Host.Outcome State Fault Refusal :=
  act s (fun d => d.activationLimit)

/-- BOOT_CLR (R270). -/
def execBootClr (i : Init) (consec : Bool) (flags : Fin 16) (s : State) : Host.Outcome State Fault
    Refusal :=
    act s (fun d => d.anyRow (idBlock s.id) i R.PC_BOOT_CLR (cmdWord [(F.PC_BOOT_CLR_CONSEC, boolNat
    consec), (F.PC_BOOT_CLR_FLAGS, flags)]))

/-- HBOOT_START (R268). -/
def execHbootStart (i : Init) (s : State) : Host.Outcome State Fault Refusal :=
  act s (fun d => d.anyRow (idBlock s.id) i R.PC_HBOOT_CTRL (cmdWord [(F.PC_HBOOT_CTRL_GO, 1)]))

/-- HBOOT_DONE (R268). -/
def execHbootDone (ok : Bool) (image : List Byte) (s : State) : Host.Outcome State Fault Refusal :=
  act s (fun d => d.hbootDone ok image)

/-- MONITOR_WARN (R356). -/
def execMonitorWarn (which : Fin 10) (tj : Byte) (s : State) : Host.Outcome State Fault Refusal :=
  act s (fun d => d.monitorWarn which tj.toNat)

/-- MONITOR_CLEAR (R356). -/
def execMonitorClear (which : Fin 10) (tj : Byte) (s : State) : Host.Outcome State Fault Refusal :=
  act s (fun d => d.monitorClear which tj.toNat)

end Sys2Proof.Machine
end

