-- ==== Sys2Proof/Machine/SafetyCmd.lean ====
section
/-! DEFINITION. The commands of safety, the Chamber and the MRAM pages (R322 to R341). -/

namespace Sys2Proof.Machine
open Sys2Proof

/-- SCRUB_VISIT (R323). -/
def execScrubVisit (mem : Fin 16) (inst : Fin 256) (addr : Word) (bits : Fin 3) (s : State) :
    Host.Outcome State Fault Refusal :=
  act s (fun d => d.scrubVisit mem inst addr.toNat bits)

/-- CLOCK_FAULT (R328). -/
def execClockFault (pll : Option (Fin 12)) (khz : Nat) (s : State) : Host.Outcome State Fault Refusal :=
  act s (fun d => d.clockFault (pll.map (fun k => k.val)) khz)

/-- SD_INJECT (R331). -/
def execSdInject (i : Init) (kind : Fin 4) (mem : Fin 16) (inst : Fin 256) (s : State) :
    Host.Outcome State Fault Refusal :=
    act s (fun d => d.anyRow (idBlock s.id) i R.SD_INJECT (cmdWord [(F.SD_INJECT_GO, 1),
    (F.SD_INJECT_KIND, kind), (F.SD_INJECT_MEM, mem), (F.SD_INJECT_INSTANCE, inst)]))

/-- CHAMBER_WRITE (R333). -/
def execChamberWrite (ok : Bool) (s : State) : Host.Outcome State Fault Refusal :=
  act s (fun d => d.chamberPaced ok)

/-- CHAMBER_SCAN_DONE (R336). -/
def execChamberScanDone (s : State) : Host.Outcome State Fault Refusal :=
  act s (fun d => d.chamberScanDone)

/-- CH_SEL (R337). -/
def execChSel (i : Init) (slot : Fin 16384) (s : State) : Host.Outcome State Fault Refusal :=
  act s (fun d => d.anyRow (idBlock s.id) i R.CH_SEL (cmdWord [(F.CH_SEL_SLOT, slot)]))

/-- CH_WCMD (R337). -/
def execChWcmd (i : Init) (cause : BitVec 16) (s : State) : Host.Outcome State Fault Refusal :=
    act s (fun d => d.anyRow (idBlock s.id) i R.CH_WCMD (cmdWord [(F.CH_WCMD_GO, 1),
    (F.CH_WCMD_CAUSE, cause.toNat)]))

/-- CAL_LOAD (R340). -/
def execCalLoad (i : Init) (s : State) : Host.Outcome State Fault Refusal :=
  act s (fun d => d.anyRow (idBlock s.id) i R.CAL_CMD (cmdWord [(F.CAL_CMD_GO, 1), (F.CAL_CMD_OP, 0)]))

/-- OPT_LOAD (R341). -/
def execOptLoad (i : Init) (s : State) : Host.Outcome State Fault Refusal :=
  act s (fun d => d.anyRow (idBlock s.id) i R.OPT_CMD (cmdWord [(F.OPT_CMD_GO, 1), (F.OPT_CMD_OP, 0)]))

/-- CAL_COMMIT (R340). -/
def execCalCommit (i : Init) (key : BitVec 16) (s : State) : Host.Outcome State Fault Refusal :=
    act s (fun d => d.anyRow (idBlock s.id) i R.CAL_CMD (cmdWord [(F.CAL_CMD_GO, 1), (F.CAL_CMD_OP,
    1), (F.CAL_CMD_KEY, key.toNat)]))

/-- OPT_COMMIT (R341). -/
def execOptCommit (i : Init) (key : BitVec 16) (s : State) : Host.Outcome State Fault Refusal :=
    act s (fun d => d.anyRow (idBlock s.id) i R.OPT_CMD (cmdWord [(F.OPT_CMD_GO, 1), (F.OPT_CMD_OP,
    1), (F.OPT_CMD_KEY, key.toNat)]))

end Sys2Proof.Machine
end

