-- ==== Sys2Proof/Machine/SaplingCmd.lean ====
section
/-! DEFINITION. The commands of the Sapling relay (R303 to R317). -/

namespace Sys2Proof.Machine
open Sys2Proof

/-- SAP_DATA_RX (R307). -/
def execSapDataRx (src : Word) (port : BitVec 16) (msg : List Byte) (s : State) : Host.Outcome State Fault Refusal :=
  act s (fun d => d.sapUdp port.toNat (fun d => d.sapDataRx src.toNat msg))

/-- SAP_ACK_RX (R309). -/
def execSapAckRx (src : Word) (port : BitVec 16) (msg : List Byte) (s : State) : Host.Outcome State Fault Refusal :=
  act s (fun d => d.sapUdp port.toNat (fun d => d.sapAckRx src.toNat msg))

/-- SAP_STATUS_RX (R309). -/
def execSapStatusRx (src : Word) (port : BitVec 16) (msg : List Byte) (s : State) : Host.Outcome State Fault Refusal :=
  act s (fun d => d.sapUdp port.toNat (fun d => d.sapStatusRx src.toNat msg))

/-- SAP_QUERY_RX (R311). -/
def execSapQueryRx (src : Word) (port : BitVec 16) (msg : List Byte) (s : State) : Host.Outcome State Fault Refusal :=
  act s (fun d => d.sapUdp port.toNat (fun d => d.sapQueryRx src.toNat msg))

/-- SAP_ABORT_RX (R311). -/
def execSapAbortRx (src : Word) (port : BitVec 16) (msg : List Byte) (s : State) : Host.Outcome State Fault Refusal :=
  act s (fun d => d.sapUdp port.toNat (fun d => d.sapAbortRx src.toNat msg))

/-- SAP_ARP_RX (R306). -/
def execSapArpRx (src target : Word) (s : State) : Host.Outcome State Fault Refusal :=
  act s (fun d => d.sapArpRx src.toNat target.toNat)

/-- SAP_RETX_TIMEOUT (R307). -/
def execSapRetxTimeout (k : Fin 4) (n : Fin 8192) (s : State) : Host.Outcome State Fault Refusal :=
  act s (fun d => d.sapRetx k n)

/-- SAP_QUERY_TIMER (R307). -/
def execSapQueryTimer (k : Fin 4) (s : State) : Host.Outcome State Fault Refusal :=
  act s (fun d => d.sapQueryTimer k)

/-- SAP_ERASE_DONE (R308). -/
def execSapEraseDone (s : State) : Host.Outcome State Fault Refusal :=
  act s (fun d => d.sapEraseDone)

/-- SAP_ACTIVATE (R313). -/
def execSapActivate (i : Init) (s : State) : Host.Outcome State Fault Refusal :=
  act s (fun d => d.anyRow (idBlock s.id) i R.SAP_CMD (cmdWord [(F.SAP_CMD_GO, 1), (F.SAP_CMD_OP, 1)]))

/-- SAP_ABORT (R311). -/
def execSapAbort (i : Init) (s : State) : Host.Outcome State Fault Refusal :=
  act s (fun d => d.anyRow (idBlock s.id) i R.SAP_CMD (cmdWord [(F.SAP_CMD_GO, 1), (F.SAP_CMD_OP, 2)]))

end Sys2Proof.Machine
end

