-- ==== Sys2Proof/Machine/SecurityCmd.lean ====
section
/-! DEFINITION. The commands of the security complex: OTP, measurements, quotes, vault, traffic
keys, debug access (R281 to R301). -/

namespace Sys2Proof.Machine
open Sys2Proof

/-- OTP_PROG_KEY_HASH (R283). -/
def execOtpProgKeyHash (i : Init) (slot : Fin 8) (key : BitVec 16) (s : State) : Host.Outcome State
    Fault Refusal :=
    act s (fun d => d.anyRow (idBlock s.id) i R.SC_OTP_CMD (cmdWord [(F.SC_OTP_CMD_GO, 1),
    (F.SC_OTP_CMD_OP, 1), (F.SC_OTP_CMD_ARG, slot), (F.SC_OTP_CMD_KEY, key.toNat)]))

/-- OTP_REVOKE (R288). -/
def execOtpRevoke (i : Init) (slot : Fin 8) (key : BitVec 16) (s : State) : Host.Outcome State Fault
    Refusal :=
    act s (fun d => d.anyRow (idBlock s.id) i R.SC_OTP_CMD (cmdWord [(F.SC_OTP_CMD_GO, 1),
    (F.SC_OTP_CMD_OP, 2), (F.SC_OTP_CMD_ARG, slot), (F.SC_OTP_CMD_KEY, key.toNat)]))

/-- OTP_RB_ADVANCE (R287). -/
def execOtpRbAdvance (i : Init) (ix : Fin 8) (key : BitVec 16) (s : State) : Host.Outcome State
    Fault Refusal :=
    act s (fun d => d.anyRow (idBlock s.id) i R.SC_OTP_CMD (cmdWord [(F.SC_OTP_CMD_GO, 1),
    (F.SC_OTP_CMD_OP, 3), (F.SC_OTP_CMD_ARG, ix), (F.SC_OTP_CMD_KEY, key.toNat)]))

/-- OTP_PROG_DBG_HASH (R283). -/
def execOtpProgDbgHash (i : Init) (key : BitVec 16) (s : State) : Host.Outcome State Fault Refusal :=
    act s (fun d => d.anyRow (idBlock s.id) i R.SC_OTP_CMD (cmdWord [(F.SC_OTP_CMD_GO, 1),
    (F.SC_OTP_CMD_OP, 4), (F.SC_OTP_CMD_ARG, 0), (F.SC_OTP_CMD_KEY, key.toNat)]))

/-- OTP_LC_ADVANCE (R283). -/
def execOtpLcAdvance (i : Init) (target : Fin 8) (key : BitVec 16) (s : State) : Host.Outcome State
    Fault Refusal :=
    act s (fun d => d.anyRow (idBlock s.id) i R.SC_OTP_CMD (cmdWord [(F.SC_OTP_CMD_GO, 1),
    (F.SC_OTP_CMD_OP, 5), (F.SC_OTP_CMD_ARG, target), (F.SC_OTP_CMD_KEY, key.toNat)]))

/-- OTP_DONE (R283). -/
def execOtpDone (s : State) : Host.Outcome State Fault Refusal :=
  act s (fun d => d.otpDone)

/-- MEAS_EXTEND (R290). -/
def execMeasExtend (i : Init) (ix : Fin 8) (s : State) : Host.Outcome State Fault Refusal :=
    act s (fun d => d.anyRow (idBlock s.id) i R.MEAS_EXT (cmdWord [(F.MEAS_EXT_GO, 1),
    (F.MEAS_EXT_INDEX, ix)]))

/-- QUOTE_START (R292). -/
def execQuoteStart (i : Init) (s : State) : Host.Outcome State Fault Refusal :=
  act s (fun d => d.anyRow (idBlock s.id) i R.QUOTE_CMD (cmdWord [(F.QUOTE_CMD_GO, 1)]))

/-- QUOTE_DONE (R292). -/
def execQuoteDone (s : State) : Host.Outcome State Fault Refusal :=
  act s (fun d => d.quoteDone)

/-- VAULT_SEAL (R293). -/
def execVaultSeal (i : Init) (slot : Fin 32) (long : Bool) (s : State) : Host.Outcome State Fault
    Refusal :=
    act s (fun d => d.anyRow (idBlock s.id) i R.VAULT_CMD (cmdWord [(F.VAULT_CMD_GO, 1),
    (F.VAULT_CMD_OP, 0), (F.VAULT_CMD_LEN, boolNat long), (F.VAULT_CMD_SLOT, slot)]))

/-- VAULT_ERASE (R293). -/
def execVaultErase (i : Init) (slot : Fin 32) (s : State) : Host.Outcome State Fault Refusal :=
    act s (fun d => d.anyRow (idBlock s.id) i R.VAULT_CMD (cmdWord [(F.VAULT_CMD_GO, 1),
    (F.VAULT_CMD_OP, 1), (F.VAULT_CMD_SLOT, slot)]))

/-- VAULT_LOAD (R293). -/
def execVaultLoad (i : Init) (slot : Fin 32) (s : State) : Host.Outcome State Fault Refusal :=
    act s (fun d => d.anyRow (idBlock s.id) i R.VAULT_CMD (cmdWord [(F.VAULT_CMD_GO, 1),
    (F.VAULT_CMD_OP, 2), (F.VAULT_CMD_SLOT, slot)]))

/-- VAULT_DERIVE (R293). -/
def execVaultDerive (i : Init) (slot : Fin 32) (s : State) : Host.Outcome State Fault Refusal :=
    act s (fun d => d.anyRow (idBlock s.id) i R.VAULT_CMD (cmdWord [(F.VAULT_CMD_GO, 1),
    (F.VAULT_CMD_OP, 3), (F.VAULT_CMD_SLOT, slot)]))

/-- VAULT_UNWRAP (R293). -/
def execVaultUnwrap (i : Init) (s : State) : Host.Outcome State Fault Refusal :=
    act s (fun d => d.anyRow (idBlock s.id) i R.VAULT_CMD (cmdWord [(F.VAULT_CMD_GO, 1),
    (F.VAULT_CMD_OP, 4)]))

/-- VAULT_CMAC (R293). -/
def execVaultCmac (i : Init) (s : State) : Host.Outcome State Fault Refusal :=
    act s (fun d => d.anyRow (idBlock s.id) i R.VAULT_CMD (cmdWord [(F.VAULT_CMD_GO, 1),
    (F.VAULT_CMD_OP, 5)]))

/-- VAULT_CLEAR (R293). -/
def execVaultClear (i : Init) (s : State) : Host.Outcome State Fault Refusal :=
    act s (fun d => d.anyRow (idBlock s.id) i R.VAULT_CMD (cmdWord [(F.VAULT_CMD_GO, 1),
    (F.VAULT_CMD_OP, 6)]))

/-- TK_STAGE_WRITE (R294). -/
def execTkStageWrite (i : Init) (salt : Bool) (w : Fin 8) (v : Word) (s : State) : Host.Outcome
    State Fault Refusal :=
  act s (fun d => d.anyRow (idBlock s.id) i (if salt then R.TK_STG_SALT (w % 3) else R.TK_STG_KEY w) v)

/-- TK_READ (R295). -/
def execTkRead (i : Init) (ix : Fin 4096) (s : State) : Host.Outcome State Fault Refusal :=
    act s (fun d => d.anyRow (idBlock s.id) i R.TK_CMD (cmdWord [(F.TK_CMD_GO, 1), (F.TK_CMD_OP, 0),
    (F.TK_CMD_INDEX, ix)]))

/-- TK_COMMIT (R295). -/
def execTkCommit (i : Init) (ix : Fin 4096) (s : State) : Host.Outcome State Fault Refusal :=
    act s (fun d => d.anyRow (idBlock s.id) i R.TK_CMD (cmdWord [(F.TK_CMD_GO, 1), (F.TK_CMD_OP, 1),
    (F.TK_CMD_INDEX, ix)]))

/-- TK_DELETE (R295). -/
def execTkDelete (i : Init) (ix : Fin 4096) (s : State) : Host.Outcome State Fault Refusal :=
    act s (fun d => d.anyRow (idBlock s.id) i R.TK_CMD (cmdWord [(F.TK_CMD_GO, 1), (F.TK_CMD_OP, 2),
    (F.TK_CMD_INDEX, ix)]))

/-- TK_CLEAR_STAGE (R294). -/
def execTkClearStage (i : Init) (s : State) : Host.Outcome State Fault Refusal :=
  act s (fun d => d.anyRow (idBlock s.id) i R.TK_CMD (cmdWord [(F.TK_CMD_GO, 1), (F.TK_CMD_OP, 3)]))

/-- DBG_CHALLENGE (R297). -/
def execDbgChallenge (i : Init) (s : State) : Host.Outcome State Fault Refusal :=
  act s (fun d => d.anyRow (idBlock s.id) i R.DBG_CMD (cmdWord [(F.DBG_CMD_GO, 1), (F.DBG_CMD_OP, 0)]))

/-- DBG_RESPOND (R297). -/
def execDbgRespond (i : Init) (level : Fin 4) (raneltik : Bool) (s : State) : Host.Outcome State
    Fault Refusal :=
    act s (fun d => d.anyRow (idBlock s.id) i R.DBG_CMD (cmdWord [(F.DBG_CMD_GO, 1), (F.DBG_CMD_OP,
    1), (F.DBG_CMD_LEVEL, level), (F.DBG_CMD_KEYSEL, boolNat raneltik)]))

/-- DBG_DROP (R298). -/
def execDbgDrop (i : Init) (level : Fin 4) (s : State) : Host.Outcome State Fault Refusal :=
    act s (fun d => d.anyRow (idBlock s.id) i R.DBG_CMD (cmdWord [(F.DBG_CMD_GO, 1), (F.DBG_CMD_OP,
    2), (F.DBG_CMD_LEVEL, level)]))

end Sys2Proof.Machine
end

