-- ==== Sys2Proof/Machine/SleepCmd.lean ====
section
/-! DEFINITION. The commands of the sleep groups and the Clearing assist (R241 to R258). -/

namespace Sys2Proof.Machine
open Sys2Proof

/-- GRP_SLEEP (R245). -/
def execGrpSleep (i : Init) (groups : Byte) (s : State) : Host.Outcome State Fault Refusal :=
    act s (fun d => d.anyRow (idBlock s.id) i R.PC_GRP_CMD (cmdWord [(F.PC_GRP_CMD_GO, 1),
    (F.PC_GRP_CMD_OP, 0), (F.PC_GRP_CMD_GROUPS, groups.toNat)]))

/-- GRP_WAKE (R247). -/
def execGrpWake (i : Init) (groups : Byte) (s : State) : Host.Outcome State Fault Refusal :=
    act s (fun d => d.anyRow (idBlock s.id) i R.PC_GRP_CMD (cmdWord [(F.PC_GRP_CMD_GO, 1),
    (F.PC_GRP_CMD_OP, 1), (F.PC_GRP_CMD_GROUPS, groups.toNat)]))

/-- GROUP_ASLEEP (R246). -/
def execGroupAsleep (g : Fin 8) (s : State) : Host.Outcome State Fault Refusal :=
  act s (fun d => d.groupAsleep g)

/-- BUS_WAKE (R247). -/
def execBusWake (c : Fin 80) (s : State) : Host.Outcome State Fault Refusal :=
  act s (fun d => d.busWake c)

/-- WAKE_PIN_EDGE (R247). -/
def execWakePinEdge (n : Fin 8) (rise : Bool) (s : State) : Host.Outcome State Fault Refusal :=
  act s (fun d => d.pinWake n rise)

/-- WAKE_CHECK_LISTEN (R248). -/
def execWakeCheckListen (g : Fin 8) (s : State) : Host.Outcome State Fault Refusal :=
  act s (fun d => d.wakeListen g)

/-- WAKE_CHECK_PASS (R248). -/
def execWakeCheckPass (g : Fin 8) (s : State) : Host.Outcome State Fault Refusal :=
  act s (fun d => d.wakePass g)

/-- FALSE_WAKE (R248). -/
def execFalseWake (g : Fin 8) (s : State) : Host.Outcome State Fault Refusal :=
  act s (fun d => d.falseWake g)

/-- GROUP_AWAKE (R248). -/
def execGroupAwake (g : Fin 8) (s : State) : Host.Outcome State Fault Refusal :=
  act s (fun d => d.groupAwake g)

/-- CLR_JOIN (R251). -/
def execClrJoin (s : State) : Host.Outcome State Fault Refusal :=
  act s (fun d => d.clrJoin)

/-- CLR_RING_MSG_RX (R252). -/
def execClrRingMsgRx (n : Fin 64) (data : List Byte) (s : State) : Host.Outcome State Fault Refusal :=
  act s (fun d => d.ringReceive n data)

/-- CLR_TOKEN_SEND (R252). -/
def execClrTokenSend (s : State) : Host.Outcome State Fault Refusal :=
  act s (fun d => d.tokenSend)

/-- CLR_SKIP (R252). -/
def execClrSkip (s : State) : Host.Outcome State Fault Refusal :=
  act s (fun d => d.ringSkip)

/-- CLR_LOST_TOKEN (R252). -/
def execClrLostToken (s : State) : Host.Outcome State Fault Refusal :=
  act s (fun d => d.lostToken)

/-- CLR_COMMIT (R254). -/
def execClrCommit (s : State) : Host.Outcome State Fault Refusal :=
  act s (fun d => d.clrCommit)

/-- CLR_WAKE_HOLD (R255). -/
def execClrWakeHold (i : Init) (s : State) : Host.Outcome State Fault Refusal :=
  act s (fun d => d.anyRow (idBlock s.id) i R.CLR_CMD 1)

/-- CLR_GV_HOLD_SET (R253). -/
def execClrGvHoldSet (i : Init) (hi : Bool) (v : Word) (s : State) : Host.Outcome State Fault Refusal :=
  act s (fun d => d.anyRow (idBlock s.id) i (if hi then R.CLR_GV_HOLD_HI else R.CLR_GV_HOLD_LO) v)

/-- CLR_GV_HOLD_RELEASE (R253). -/
def execClrGvHoldRelease (i : Init) (hi : Bool) (v : Word) (s : State) : Host.Outcome State Fault
    Refusal :=
  act s (fun d => d.anyRow (idBlock s.id) i (if hi then R.CLR_GV_REL_HI else R.CLR_GV_REL_LO) v)

/-- CLR_GV_HOLD_LAPSE (R253). -/
def execClrGvHoldLapse (b : Fin 64) (s : State) : Host.Outcome State Fault Refusal :=
  act s (fun d => d.gvHoldLapse b)

end Sys2Proof.Machine
end

