-- ==== Sys2Proof/Machine/SwitchCmd.lean ====
section
/-! DEFINITION. The commands of the switch tables: VLAN, lookup slices, learning queues, aging,
stream filters and the Limp image (R180 to R207). -/

namespace Sys2Proof.Machine
open Sys2Proof

/-- SW_VLAN_READ (R180). -/
def execSwVlanRead (i : Init) (vid : Fin 4096) (s : State) : Host.Outcome State Fault Refusal :=
    act s (fun d => d.anyRow (idBlock s.id) i R.SW_VCMD (cmdWord [(F.SW_VCMD_GO, 1), (F.SW_VCMD_OP,
    0), (F.SW_VCMD_VID, vid)]))

/-- SW_VLAN_WRITE (R180). -/
def execSwVlanWrite (i : Init) (vid : Fin 4096) (s : State) : Host.Outcome State Fault Refusal :=
    act s (fun d => d.anyRow (idBlock s.id) i R.SW_VCMD (cmdWord [(F.SW_VCMD_GO, 1), (F.SW_VCMD_OP,
    1), (F.SW_VCMD_VID, vid)]))

/-- LK_SEARCH (R195). -/
def execLkSearch (i : Init) (k : Fin 2) (s : State) : Host.Outcome State Fault Refusal :=
  act s (fun d => d.anyRow (idBlock s.id) i (R.LK_CMD k) (cmdWord [(F.LK_CMD_GO k, 1), (F.LK_CMD_OP k, 0)]))

/-- LK_NEXT (R195). -/
def execLkNext (i : Init) (k : Fin 2) (kind : Fin 4) (port : Fin 32) (s : State) : Host.Outcome
    State Fault Refusal :=
    act s (fun d => d.anyRow (idBlock s.id) i (R.LK_CMD k) (cmdWord [(F.LK_CMD_GO k, 1),
    (F.LK_CMD_OP k, 1), (F.LK_CMD_KIND k, kind), (F.LK_CMD_PORT k, port)]))

/-- LK_INSERT (R193). -/
def execLkInsert (i : Init) (k : Fin 2) (slices : Fin 4) (s : State) : Host.Outcome State Fault
    Refusal :=
    act s (fun d => d.anyRow (idBlock s.id) i (R.LK_CMD k) (cmdWord [(F.LK_CMD_GO k, 1),
    (F.LK_CMD_OP k, 2), (F.LK_CMD_SLICES k, slices)]))

/-- LK_DELETE (R195). -/
def execLkDelete (i : Init) (k : Fin 2) (slices : Fin 4) (s : State) : Host.Outcome State Fault
    Refusal :=
    act s (fun d => d.anyRow (idBlock s.id) i (R.LK_CMD k) (cmdWord [(F.LK_CMD_GO k, 1),
    (F.LK_CMD_OP k, 3), (F.LK_CMD_SLICES k, slices)]))

/-- LK_FLUSH_PORT (R195). -/
def execLkFlushPort (i : Init) (k : Fin 2) (slices kind : Fin 4) (port : Fin 32) (s : State) :
    Host.Outcome State Fault Refusal :=
    act s (fun d => d.anyRow (idBlock s.id) i (R.LK_CMD k) (cmdWord [(F.LK_CMD_GO k, 1),
    (F.LK_CMD_OP k, 4), (F.LK_CMD_SLICES k, slices), (F.LK_CMD_KIND k, kind), (F.LK_CMD_PORT k,
    port)]))

/-- LQ_ADVANCE (R197). -/
def execLqAdvance (i : Init) (k : Fin 2) (s : State) : Host.Outcome State Fault Refusal :=
  act s (fun d => d.anyRow (idBlock s.id) i (R.LQ_CMD k) (cmdWord [(F.LQ_CMD_OP k, 1)]))

/-- LQ_MARK (R197). -/
def execLqMark (i : Init) (k : Fin 2) (s : State) : Host.Outcome State Fault Refusal :=
  act s (fun d => d.anyRow (idBlock s.id) i (R.LQ_CMD k) (cmdWord [(F.LQ_CMD_OP k, 2)]))

/-- LQ_REWIND (R197). -/
def execLqRewind (i : Init) (k : Fin 2) (s : State) : Host.Outcome State Fault Refusal :=
  act s (fun d => d.anyRow (idBlock s.id) i (R.LQ_CMD k) (cmdWord [(F.LQ_CMD_OP k, 3)]))

/-- LQ_RELEASE (R197). -/
def execLqRelease (i : Init) (k : Fin 2) (count : Fin 64) (s : State) : Host.Outcome State Fault
    Refusal :=
    act s (fun d => d.anyRow (idBlock s.id) i (R.LQ_CMD k) (cmdWord [(F.LQ_CMD_OP k, 4),
    (F.LQ_CMD_COUNT k, count)]))

/-- AGE_SWEEP_VISIT (R199). -/
def execAgeSweepVisit (k : Fin 2) (ix : Fin 0x20000) (s : State) : Host.Outcome State Fault Refusal :=
  act s (fun d => d.ageVisit k ix)

/-- LINKDOWN_FLUSH (R203). -/
def execLinkdownFlush (p : Fin 24) (s : State) : Host.Outcome State Fault Refusal :=
  act s (fun d => d.linkFlush p)

/-- SF_READ (R204). -/
def execSfRead (i : Init) (k : Fin 2) (ix : Fin 8192) (s : State) : Host.Outcome State Fault Refusal :=
    act s (fun d => d.anyRow (idBlock s.id) i (R.SF_CMD k) (cmdWord [(F.SF_CMD_GO k, 1),
    (F.SF_CMD_OP k, 0), (F.SF_CMD_INDEX k, ix)]))

/-- SF_WRITE (R204). -/
def execSfWrite (i : Init) (k : Fin 2) (ix : Fin 8192) (s : State) : Host.Outcome State Fault Refusal :=
    act s (fun d => d.anyRow (idBlock s.id) i (R.SF_CMD k) (cmdWord [(F.SF_CMD_GO k, 1),
    (F.SF_CMD_OP k, 1), (F.SF_CMD_INDEX k, ix)]))

/-- LIMP_READ (R205). -/
def execLimpRead (i : Init) (ix : Fin 512) (s : State) : Host.Outcome State Fault Refusal :=
    act s (fun d => d.anyRow (idBlock s.id) i R.SW_LIMP_CMD (cmdWord [(F.SW_LIMP_CMD_GO, 1),
    (F.SW_LIMP_CMD_OP, 0), (F.SW_LIMP_CMD_INDEX, ix)]))

/-- LIMP_WRITE (R205). -/
def execLimpWrite (i : Init) (ix : Fin 512) (s : State) : Host.Outcome State Fault Refusal :=
    act s (fun d => d.anyRow (idBlock s.id) i R.SW_LIMP_CMD (cmdWord [(F.SW_LIMP_CMD_GO, 1),
    (F.SW_LIMP_CMD_OP, 1), (F.SW_LIMP_CMD_INDEX, ix)]))

/-- LIMP_COMMIT (R205). -/
def execLimpCommit (i : Init) (s : State) : Host.Outcome State Fault Refusal :=
    act s (fun d => d.anyRow (idBlock s.id) i R.SW_LIMP_CMD (cmdWord [(F.SW_LIMP_CMD_GO, 1),
    (F.SW_LIMP_CMD_OP, 2)]))

end Sys2Proof.Machine
end

