-- ==== Sys2Proof/Machine/TimelineCmd.lean ====
section
/-! DEFINITION. The commands of the Timeline: snapshots, domains, selections and Echo queues (R41 to R60). -/

namespace Sys2Proof.Machine
open Sys2Proof

/-- TL_SNAP (R43). -/
def execTlSnap (i : Init) (s : State) : Host.Outcome State Fault Refusal :=
  act s (fun d => d.tlRow i 0 R.TL_BASE_CTRL 1)

/-- SNAP_COMPLETE (R43). -/
def execSnapComplete (s : State) : Host.Outcome State Fault Refusal := act s (fun d => d.snapDone)

/-- DOM_CTRL as a row writes it: one field changed, ARM 0 (a read shows ARM while it is held). -/
def Dev.domWord (d : Dev) (i : Nat) (f : Fld) (x : Nat) : Word := (d.put (F.DOM_CTRL_ARM i) 0).wordWith f x

/-- DOMAIN_ENABLE (R46): DOM_CTRL written with EN = 1. -/
def execDomainEnable (i : Init) (dm : Fin 4) (s : State) : Host.Outcome State Fault Refusal :=
  act s (fun d => d.tlRow i (1 + dm) (R.DOM_CTRL dm) (d.domWord dm (F.DOM_CTRL_EN dm) 1))

/-- DOMAIN_DISABLE (R46): DOM_CTRL written with EN = 0. -/
def execDomainDisable (i : Init) (dm : Fin 4) (s : State) : Host.Outcome State Fault Refusal :=
  act s (fun d => d.tlRow i (1 + dm) (R.DOM_CTRL dm) (d.domWord dm (F.DOM_CTRL_EN dm) 0))

/-- DOMAIN_ARM (R47, R48): DOM_CTRL written with ARM = 1. -/
def execDomainArm (i : Init) (dm : Fin 4) (s : State) : Host.Outcome State Fault Refusal :=
  act s (fun d => d.tlRow i (1 + dm) (R.DOM_CTRL dm) (d.wordWith (F.DOM_CTRL_ARM dm) 1))

/-- R48: the handling of an ARM takes 2 ticks. -/
def Dev.armDone (d : Dev) (i : Nat) : Dev :=
  match (tget d.tl.dom i).running with
  | some (.arm, t0, _) => if t0 + 2 ≤ d.tl.ticks then (d.handleArm i).nextHandling i (t0 + 2) else d
  | _ => d

/-- DOMAIN_ARM_DONE (R48). -/
def execDomainArmDone (dm : Fin 4) (s : State) : Host.Outcome State Fault Refusal :=
  act s (fun d => d.armDone dm)

/-- DOMAIN_SAMPLE_SUBMIT (R47 to R49). -/
def execDomainSampleSubmit (i : Init) (dm : Fin 4) (s : State) : Host.Outcome State Fault Refusal :=
  act s (fun d => d.tlRow i (1 + dm) (R.DOM_SAMPLE_GO dm) 1)

/-- R48: the handling of a sample takes 16 ticks. -/
def Dev.sampleDone (d : Dev) (i : Nat) (before after : Dev → Dev) : Dev :=
  match (tget d.tl.dom i).running with
  | some (.sample s who, t0, st) =>
    if t0 + 16 ≤ d.tl.ticks then (d.handleSample i st s who before after).nextHandling i (t0 + 16) else d
  | _ => d

/-- DOMAIN_SAMPLE_HANDLED (R47 to R50; R71: a step is told to Canopy). -/
def execDomainSampleHandled (dm : Fin 4) (s : State) : Host.Outcome State Fault Refusal :=
  act s (fun d => d.sampleDone dm (fun d => d.canopyBefore dm) (fun d => d.canopyStep dm))

/-- DOMAIN_RATE_LO_WRITE (R51). -/
def execDomainRateLoWrite (i : Init) (dm : Fin 4) (v : Word) (s : State) :
    Host.Outcome State Fault Refusal :=
  act s (fun d => d.tlRow i (1 + dm) (R.DOM_RATE_LO dm) v)

/-- DOMAIN_RATE_HI_WRITE (R51). -/
def execDomainRateHiWrite (i : Init) (dm : Fin 4) (v : Word) (s : State) :
    Host.Outcome State Fault Refusal :=
  act s (fun d => d.tlRow i (1 + dm) (R.DOM_RATE_HI dm) v)

/-- DOMAIN_SERVO_SWITCH (R51): DOM_CTRL written with the new SERVO. -/
def execDomainServoSwitch (i : Init) (dm : Fin 4) (software : Bool) (s : State) :
    Host.Outcome State Fault Refusal :=
  act s (fun d => d.tlRow i (1 + dm) (R.DOM_CTRL dm) (d.domWord dm (F.DOM_CTRL_SERVO dm) (boolNat software)))

/-- ECHO_POP (R60). -/
def execEchoPop (i : Init) (p : Fin 24) (s : State) : Host.Outcome State Fault Refusal :=
  act s (fun d => d.tlRow i 5 (R.ECHO_POP p) 1)

end Sys2Proof.Machine
end

