-- ==== Sys2Proof/Machine/TrafficCmd.lean ====
section
/-! DEFINITION. The commands of the traffic manager: flow meters, gate lists, histograms (R208 to
R220). -/

namespace Sys2Proof.Machine
open Sys2Proof

/-- FM_READ (R213). -/
def execFmRead (i : Init) (ix : Fin 8192) (s : State) : Host.Outcome State Fault Refusal :=
    act s (fun d => d.anyRow (idBlock s.id) i R.TM_FM_CMD (cmdWord [(F.TM_FM_CMD_GO, 1),
    (F.TM_FM_CMD_OP, 0), (F.TM_FM_CMD_INDEX, ix)]))

/-- FM_WRITE (R213). -/
def execFmWrite (i : Init) (ix : Fin 8192) (s : State) : Host.Outcome State Fault Refusal :=
    act s (fun d => d.anyRow (idBlock s.id) i R.TM_FM_CMD (cmdWord [(F.TM_FM_CMD_GO, 1),
    (F.TM_FM_CMD_OP, 1), (F.TM_FM_CMD_INDEX, ix)]))

/-- GCL_COMMIT (R218). -/
def execGclCommit (i : Init) (p : Fin 28) (s : State) : Host.Outcome State Fault Refusal :=
  act s (fun d => d.anyRow (idBlock s.id) i (R.TM_GCL_CTRL p) (d.wordWith (F.TM_GCL_CTRL_COMMIT p) 1))

/-- GCL_ABORT (R219). -/
def execGclAbort (i : Init) (p : Fin 28) (s : State) : Host.Outcome State Fault Refusal :=
  act s (fun d => d.anyRow (idBlock s.id) i (R.TM_GCL_CTRL p) (d.wordWith (F.TM_GCL_CTRL_ABORT p) 1))

/-- GCL_STOP (R219). -/
def execGclStop (i : Init) (p : Fin 28) (s : State) : Host.Outcome State Fault Refusal :=
  act s (fun d => d.anyRow (idBlock s.id) i (R.TM_GCL_CTRL p) (d.wordWith (F.TM_GCL_CTRL_STOP p) 1))

/-- GATE_ENTRY_CHANGE (R217). -/
def execGateEntryChange (p : Fin 28) (s : State) : Host.Outcome State Fault Refusal :=
  act s (fun d => d.gateChange p)

/-- TM_SAMPLE (R220). -/
def execTmSample (s : State) : Host.Outcome State Fault Refusal :=
  act s (fun d => d.tmSample)

/-- TM_HIST_CMD (R220). -/
def execTmHistCmd (i : Init) (q : Fin 256) (clear : Bool) (s : State) : Host.Outcome State Fault
    Refusal :=
    act s (fun d => d.anyRow (idBlock s.id) i R.TM_HIST_CMD (cmdWord [(F.TM_HIST_CMD_GO, 1),
    (F.TM_HIST_CMD_CLEAR, boolNat clear), (F.TM_HIST_CMD_QUEUE, q)]))

end Sys2Proof.Machine
end

