-- ==== Sys2Proof/Machine/Dispatch.lean ====
section
/-! DEFINITION. One arm per command: which meaning it has. -/

namespace Sys2Proof.Machine
open Sys2Proof

def exec (i : Instr) (s : State) : Host.Outcome State Fault Refusal :=
  match i with
  | .registerWrite ini addr v full parity => Sys2Proof.Machine.execRegisterWrite ini addr v full parity s
  | .softReset ini pg => Sys2Proof.Machine.execSoftReset ini pg s
  | .softResetComplete pg => Sys2Proof.Machine.execSoftResetComplete pg s
  | .irqForce ini pg bits => Sys2Proof.Machine.execIrqForce ini pg bits s
  | .pciePortReset p linkDown => Sys2Proof.Machine.execPciePortReset p linkDown s
  | .pcieLinkUp p width speed ptm => Sys2Proof.Machine.execPcieLinkUp p width speed ptm s
  | .dmaRingEnable ini p r => Sys2Proof.Machine.execDmaRingEnable ini p r s
  | .dmaRingStop ini p r => Sys2Proof.Machine.execDmaRingStop ini p r s
  | .dmaRingTail ini p r tail => Sys2Proof.Machine.execDmaRingTail ini p r tail s
  | .dmaDescriptorDone p r x => Sys2Proof.Machine.execDmaDescriptorDone p r x s
  | .dmaFault p r timeout => Sys2Proof.Machine.execDmaFault p r timeout s
  | .ptmTrigger ini p => Sys2Proof.Machine.execPtmTrigger ini p s
  | .ptmPeriodExpire p => Sys2Proof.Machine.execPtmPeriodExpire p s
  | .ptmDialogueComplete p master delay => Sys2Proof.Machine.execPtmDialogueComplete p master delay s
  | .pacerAdmit management frame => Sys2Proof.Machine.execPacerAdmit management frame s
  | .tlSnap ini => Sys2Proof.Machine.execTlSnap ini s
  | .snapComplete => Sys2Proof.Machine.execSnapComplete s
  | .domainEnable ini dm => Sys2Proof.Machine.execDomainEnable ini dm s
  | .domainDisable ini dm => Sys2Proof.Machine.execDomainDisable ini dm s
  | .domainArm ini dm => Sys2Proof.Machine.execDomainArm ini dm s
  | .domainArmDone dm => Sys2Proof.Machine.execDomainArmDone dm s
  | .domainSampleSubmit ini dm => Sys2Proof.Machine.execDomainSampleSubmit ini dm s
  | .domainSampleHandled dm => Sys2Proof.Machine.execDomainSampleHandled dm s
  | .domainRateLoWrite ini dm v => Sys2Proof.Machine.execDomainRateLoWrite ini dm v s
  | .domainRateHiWrite ini dm v => Sys2Proof.Machine.execDomainRateHiWrite ini dm v s
  | .domainServoSwitch ini dm software => Sys2Proof.Machine.execDomainServoSwitch ini dm software s
  | .echoPop ini p => Sys2Proof.Machine.execEchoPop ini p s
  | .cnpRead ini ix => Sys2Proof.Machine.execCnpRead ini ix s
  | .cnpWrite ini ix => Sys2Proof.Machine.execCnpWrite ini ix s
  | .cnpClear ini ix => Sys2Proof.Machine.execCnpClear ini ix s
  | .canopyRelease => Sys2Proof.Machine.execCanopyRelease s
  | .trigCommit => Sys2Proof.Machine.execTrigCommit s
  | .trigPulseStart k => Sys2Proof.Machine.execTrigPulseStart k s
  | .trigPulseEnd k => Sys2Proof.Machine.execTrigPulseEnd k s
  | .trgDisable ini k => Sys2Proof.Machine.execTrgDisable ini k s
  | .tcapEdge c rise frac => Sys2Proof.Machine.execTcapEdge c rise frac s
  | .tcapEdgeQualified c => Sys2Proof.Machine.execTcapEdgeQualified c s
  | .tcpPop ini c => Sys2Proof.Machine.execTcpPop ini c s
  | .phaseEnable ini p => Sys2Proof.Machine.execPhaseEnable ini p s
  | .phaseDisable ini p => Sys2Proof.Machine.execPhaseDisable ini p s
  | .phaseCountEdge p aLeads frac => Sys2Proof.Machine.execPhaseCountEdge p aLeads frac s
  | .phaseIndexEdge p frac => Sys2Proof.Machine.execPhaseIndexEdge p frac s
  | .phaseNoIndex p => Sys2Proof.Machine.execPhaseNoIndex p s
  | .sigStoreWrite ini w v => Sys2Proof.Machine.execSigStoreWrite ini w v s
  | .gvPduRead ini ix => Sys2Proof.Machine.execGvPduRead ini ix s
  | .gvPduWrite ini ix => Sys2Proof.Machine.execGvPduWrite ini ix s
  | .gvXfmRead ini ix => Sys2Proof.Machine.execGvXfmRead ini ix s
  | .gvXfmWrite ini ix => Sys2Proof.Machine.execGvXfmWrite ini ix s
  | .gvImageRead ini ix => Sys2Proof.Machine.execGvImageRead ini ix s
  | .gvImageWrite ini ix => Sys2Proof.Machine.execGvImageWrite ini ix s
  | .instanceHandover t t2 => Sys2Proof.Machine.execInstanceHandover t t2 s
  | .instanceCommit t err => Sys2Proof.Machine.execInstanceCommit t err s
  | .destinationAccept x => Sys2Proof.Machine.execDestinationAccept x s
  | .rxTimeout pdu => Sys2Proof.Machine.execRxTimeout pdu s
  | .gxSigld t pc rd k ix dbe => Sys2Proof.Machine.execGxSigld t pc rd k ix dbe s
  | .gxSigst t pc rd k ix => Sys2Proof.Machine.execGxSigst t pc rd k ix s
  | .gxExt t pc rd k v => Sys2Proof.Machine.execGxExt t pc rd k v s
  | .gxXfm t pc rd k vd vs => Sys2Proof.Machine.execGxXfm t pc rd k vd vs s
  | .gxIns t pc rd k v => Sys2Proof.Machine.execGxIns t pc rd k v s
  | .gxTs t pc rd sel => Sys2Proof.Machine.execGxTs t pc rd sel s
  | .gxPduget t pc rd block t2 => Sys2Proof.Machine.execGxPduget t pc rd block t2 s
  | .gxPduputEnd t pc rd => Sys2Proof.Machine.execGxPduputEnd t pc rd s
  | .gxPduputSend t pc rd p => Sys2Proof.Machine.execGxPduputSend t pc rd p s
  | .gxPduputDrop t pc rd => Sys2Proof.Machine.execGxPduputDrop t pc rd s
  | .gxWait t pc rd => Sys2Proof.Machine.execGxWait t pc rd s
  | .gxEvt t pc rd tq x => Sys2Proof.Machine.execGxEvt t pc rd tq x s
  | .gxCmp t pc rd x => Sys2Proof.Machine.execGxCmp t pc rd x s
  | .pairCmpTimeout t => Sys2Proof.Machine.execPairCmpTimeout t s
  | .instanceTimeout t pc => Sys2Proof.Machine.execInstanceTimeout t pc s
  | .threadRestart t => Sys2Proof.Machine.execThreadRestart t s
  | .engineRun ini => Sys2Proof.Machine.execEngineRun ini s
  | .engineHalt ini => Sys2Proof.Machine.execEngineHalt ini s
  | .engineInitTestDone failed => Sys2Proof.Machine.execEngineInitTestDone failed s
  | .gvLoadStart ini => Sys2Proof.Machine.execGvLoadStart ini s
  | .gvLoadDone bytes => Sys2Proof.Machine.execGvLoadDone bytes s
  | .gvLmDataWrite ini v => Sys2Proof.Machine.execGvLmDataWrite ini v s
  | .selftestStart => Sys2Proof.Machine.execSelftestStart s
  | .selftestDone pass => Sys2Proof.Machine.execSelftestDone pass s
  | .gvRotCmd ini e => Sys2Proof.Machine.execGvRotCmd ini e s
  | .canFrameRx n f ago => Sys2Proof.Machine.execCanFrameRx n f ago s
  | .flowstoneLand q => Sys2Proof.Machine.execFlowstoneLand q s
  | .canMacReady n => Sys2Proof.Machine.execCanMacReady n s
  | .canTxDone n how ago => Sys2Proof.Machine.execCanTxDone n how ago s
  | .canBusError n code kind xlData => Sys2Proof.Machine.execCanBusError n code kind xlData s
  | .canRecover ini n => Sys2Proof.Machine.execCanRecover ini n s
  | .canRecoveryDone n => Sys2Proof.Machine.execCanRecoveryDone n s
  | .canTimedExpire n => Sys2Proof.Machine.execCanTimedExpire n s
  | .canWindowWrite ini n w v => Sys2Proof.Machine.execCanWindowWrite ini n w v s
  | .fsAdvance ini c f => Sys2Proof.Machine.execFsAdvance ini c f s
  | .fsMark ini c f => Sys2Proof.Machine.execFsMark ini c f s
  | .fsRewind ini c f => Sys2Proof.Machine.execFsRewind ini c f s
  | .fsRelease ini c f count => Sys2Proof.Machine.execFsRelease ini c f count s
  | .fsNoticeAck ini c f => Sys2Proof.Machine.execFsNoticeAck ini c f s
  | .fsPush ini c f slot => Sys2Proof.Machine.execFsPush ini c f slot s
  | .fsFlush ini c f started => Sys2Proof.Machine.execFsFlush ini c f started s
  | .linMasterItem n => Sys2Proof.Machine.execLinMasterItem n s
  | .linHeaderRx n pid syncOk ago => Sys2Proof.Machine.execLinHeaderRx n pid syncOk ago s
  | .linResponseRx n r => Sys2Proof.Machine.execLinResponseRx n r s
  | .linResponseTimeout n bytes => Sys2Proof.Machine.execLinResponseTimeout n bytes s
  | .linWakePulse n => Sys2Proof.Machine.execLinWakePulse n s
  | .epLinkChange n lock an phy speed lf rf => Sys2Proof.Machine.execEpLinkChange n lock an phy speed lf rf s
  | .epFrameHead p bytes ago express => Sys2Proof.Machine.execEpFrameHead p bytes ago express s
  | .epFrameTail p rest symbol => Sys2Proof.Machine.execEpFrameTail p rest symbol s
  | .pauseEnd p c => Sys2Proof.Machine.execPauseEnd p c s
  | .macsecIcvChecked n => Sys2Proof.Machine.execMacsecIcvChecked n s
  | .lookupResult p => Sys2Proof.Machine.execLookupResult p s
  | .pauseRepeat p c => Sys2Proof.Machine.execPauseRepeat p c s
  | .egressFrameStart p dbe frac => Sys2Proof.Machine.execEgressFrameStart p dbe frac s
  | .egressFrameEnd p err => Sys2Proof.Machine.execEgressFrameEnd p err s
  | .eeeLpiEnter n => Sys2Proof.Machine.execEeeLpiEnter n s
  | .eeeWakeDone n frac => Sys2Proof.Machine.execEeeWakeDone n frac s
  | .stampReadyRise n => Sys2Proof.Machine.execStampReadyRise n s
  | .msRead ini n sa ix => Sys2Proof.Machine.execMsRead ini n sa ix s
  | .msWrite ini n sa ix => Sys2Proof.Machine.execMsWrite ini n sa ix s
  | .tsTxOpportunity n => Sys2Proof.Machine.execTsTxOpportunity n s
  | .tsBeaconRx n => Sys2Proof.Machine.execTsBeaconRx n s
  | .tsBeaconLoss n => Sys2Proof.Machine.execTsBeaconLoss n s
  | .tsCollision n => Sys2Proof.Machine.execTsCollision n s
  | .tsBackoffExpire n => Sys2Proof.Machine.execTsBackoffExpire n s
  | .cntSnap ini p => Sys2Proof.Machine.execCntSnap ini p s
  | .swVlanRead ini vid => Sys2Proof.Machine.execSwVlanRead ini vid s
  | .swVlanWrite ini vid => Sys2Proof.Machine.execSwVlanWrite ini vid s
  | .lkSearch ini k => Sys2Proof.Machine.execLkSearch ini k s
  | .lkNext ini k kind port => Sys2Proof.Machine.execLkNext ini k kind port s
  | .lkInsert ini k slices => Sys2Proof.Machine.execLkInsert ini k slices s
  | .lkDelete ini k slices => Sys2Proof.Machine.execLkDelete ini k slices s
  | .lkFlushPort ini k slices kind port => Sys2Proof.Machine.execLkFlushPort ini k slices kind port s
  | .lqAdvance ini k => Sys2Proof.Machine.execLqAdvance ini k s
  | .lqMark ini k => Sys2Proof.Machine.execLqMark ini k s
  | .lqRewind ini k => Sys2Proof.Machine.execLqRewind ini k s
  | .lqRelease ini k count => Sys2Proof.Machine.execLqRelease ini k count s
  | .ageSweepVisit k ix => Sys2Proof.Machine.execAgeSweepVisit k ix s
  | .linkdownFlush p => Sys2Proof.Machine.execLinkdownFlush p s
  | .sfRead ini k ix => Sys2Proof.Machine.execSfRead ini k ix s
  | .sfWrite ini k ix => Sys2Proof.Machine.execSfWrite ini k ix s
  | .limpRead ini ix => Sys2Proof.Machine.execLimpRead ini ix s
  | .limpWrite ini ix => Sys2Proof.Machine.execLimpWrite ini ix s
  | .limpCommit ini => Sys2Proof.Machine.execLimpCommit ini s
  | .fmRead ini ix => Sys2Proof.Machine.execFmRead ini ix s
  | .fmWrite ini ix => Sys2Proof.Machine.execFmWrite ini ix s
  | .gclCommit ini p => Sys2Proof.Machine.execGclCommit ini p s
  | .gclAbort ini p => Sys2Proof.Machine.execGclAbort ini p s
  | .gclStop ini p => Sys2Proof.Machine.execGclStop ini p s
  | .gateEntryChange p => Sys2Proof.Machine.execGateEntryChange p s
  | .tmSample => Sys2Proof.Machine.execTmSample s
  | .tmHistCmd ini q clear => Sys2Proof.Machine.execTmHistCmd ini q clear s
  | .captureRecordCommit => Sys2Proof.Machine.execCaptureRecordCommit s
  | .ringTrigger ini r => Sys2Proof.Machine.execRingTrigger ini r s
  | .ringRearm ini r => Sys2Proof.Machine.execRingRearm ini r s
  | .ringResetPtr ini r => Sys2Proof.Machine.execRingResetPtr ini r s
  | .deliveryFlushTimeout stream p r x => Sys2Proof.Machine.execDeliveryFlushTimeout stream p r x s
  | .avtpPduSend k ecc => Sys2Proof.Machine.execAvtpPduSend k ecc s
  | .ddrTrainingDone ok => Sys2Proof.Machine.execDdrTrainingDone ok s
  | .grpSleep ini groups => Sys2Proof.Machine.execGrpSleep ini groups s
  | .grpWake ini groups => Sys2Proof.Machine.execGrpWake ini groups s
  | .groupAsleep g => Sys2Proof.Machine.execGroupAsleep g s
  | .busWake c => Sys2Proof.Machine.execBusWake c s
  | .wakePinEdge n rise => Sys2Proof.Machine.execWakePinEdge n rise s
  | .wakeCheckListen g => Sys2Proof.Machine.execWakeCheckListen g s
  | .wakeCheckPass g => Sys2Proof.Machine.execWakeCheckPass g s
  | .falseWake g => Sys2Proof.Machine.execFalseWake g s
  | .clrJoin => Sys2Proof.Machine.execClrJoin s
  | .clrRingMsgRx n data => Sys2Proof.Machine.execClrRingMsgRx n data s
  | .clrTokenSend => Sys2Proof.Machine.execClrTokenSend s
  | .clrSkip => Sys2Proof.Machine.execClrSkip s
  | .clrLostToken => Sys2Proof.Machine.execClrLostToken s
  | .clrCommit => Sys2Proof.Machine.execClrCommit s
  | .clrWakeHold ini => Sys2Proof.Machine.execClrWakeHold ini s
  | .clrGvHoldSet ini hi v => Sys2Proof.Machine.execClrGvHoldSet ini hi v s
  | .clrGvHoldRelease ini hi v => Sys2Proof.Machine.execClrGvHoldRelease ini hi v s
  | .clrGvHoldLapse b => Sys2Proof.Machine.execClrGvHoldLapse b s
  | .porAssert cutChamber => Sys2Proof.Machine.execPorAssert cutChamber s
  | .porRelease straps testen => Sys2Proof.Machine.execPorRelease straps testen s
  | .rstnAssert => Sys2Proof.Machine.execRstnAssert s
  | .swResetCold ini key => Sys2Proof.Machine.execSwResetCold ini key s
  | .swResetWarm ini key => Sys2Proof.Machine.execSwResetWarm ini key s
  | .lockstepMismatch => Sys2Proof.Machine.execLockstepMismatch s
  | .thermalReset => Sys2Proof.Machine.execThermalReset s
  | .supplyFault k cutChamber => Sys2Proof.Machine.execSupplyFault k cutChamber s
  | .debugReset warm => Sys2Proof.Machine.execDebugReset warm s
  | .releaseStep => Sys2Proof.Machine.execReleaseStep s
  | .warmReleaseStep => Sys2Proof.Machine.execWarmReleaseStep s
  | .bootStepFail plls => Sys2Proof.Machine.execBootStepFail plls s
  | .wdogKick ini v => Sys2Proof.Machine.execWdogKick ini v s
  | .wdogExpire => Sys2Proof.Machine.execWdogExpire s
  | .modeRequest ini m => Sys2Proof.Machine.execModeRequest ini m s
  | .activationLimit => Sys2Proof.Machine.execActivationLimit s
  | .bootClr ini consec flags => Sys2Proof.Machine.execBootClr ini consec flags s
  | .hbootStart ini => Sys2Proof.Machine.execHbootStart ini s
  | .hbootDone ok image => Sys2Proof.Machine.execHbootDone ok image s
  | .monitorWarn which tj => Sys2Proof.Machine.execMonitorWarn which tj s
  | .otpProgKeyHash ini slot key => Sys2Proof.Machine.execOtpProgKeyHash ini slot key s
  | .otpRevoke ini slot key => Sys2Proof.Machine.execOtpRevoke ini slot key s
  | .otpRbAdvance ini ix key => Sys2Proof.Machine.execOtpRbAdvance ini ix key s
  | .otpProgDbgHash ini key => Sys2Proof.Machine.execOtpProgDbgHash ini key s
  | .otpLcAdvance ini target key => Sys2Proof.Machine.execOtpLcAdvance ini target key s
  | .otpDone => Sys2Proof.Machine.execOtpDone s
  | .measExtend ini ix => Sys2Proof.Machine.execMeasExtend ini ix s
  | .quoteStart ini => Sys2Proof.Machine.execQuoteStart ini s
  | .quoteDone => Sys2Proof.Machine.execQuoteDone s
  | .vaultSeal ini slot long => Sys2Proof.Machine.execVaultSeal ini slot long s
  | .vaultErase ini slot => Sys2Proof.Machine.execVaultErase ini slot s
  | .vaultLoad ini slot => Sys2Proof.Machine.execVaultLoad ini slot s
  | .vaultDerive ini slot => Sys2Proof.Machine.execVaultDerive ini slot s
  | .vaultUnwrap ini => Sys2Proof.Machine.execVaultUnwrap ini s
  | .vaultCmac ini => Sys2Proof.Machine.execVaultCmac ini s
  | .vaultClear ini => Sys2Proof.Machine.execVaultClear ini s
  | .tkStageWrite ini salt w v => Sys2Proof.Machine.execTkStageWrite ini salt w v s
  | .tkRead ini ix => Sys2Proof.Machine.execTkRead ini ix s
  | .tkCommit ini ix => Sys2Proof.Machine.execTkCommit ini ix s
  | .tkDelete ini ix => Sys2Proof.Machine.execTkDelete ini ix s
  | .tkClearStage ini => Sys2Proof.Machine.execTkClearStage ini s
  | .dbgChallenge ini => Sys2Proof.Machine.execDbgChallenge ini s
  | .dbgRespond ini level raneltik => Sys2Proof.Machine.execDbgRespond ini level raneltik s
  | .dbgDrop ini level => Sys2Proof.Machine.execDbgDrop ini level s
  | .sapDataRx src port msg => Sys2Proof.Machine.execSapDataRx src port msg s
  | .sapAckRx src port msg => Sys2Proof.Machine.execSapAckRx src port msg s
  | .sapStatusRx src port msg => Sys2Proof.Machine.execSapStatusRx src port msg s
  | .sapQueryRx src port msg => Sys2Proof.Machine.execSapQueryRx src port msg s
  | .sapAbortRx src port msg => Sys2Proof.Machine.execSapAbortRx src port msg s
  | .sapArpRx src target => Sys2Proof.Machine.execSapArpRx src target s
  | .sapRetxTimeout k n => Sys2Proof.Machine.execSapRetxTimeout k n s
  | .sapQueryTimer k => Sys2Proof.Machine.execSapQueryTimer k s
  | .sapEraseDone => Sys2Proof.Machine.execSapEraseDone s
  | .sapActivate ini => Sys2Proof.Machine.execSapActivate ini s
  | .sapAbort ini => Sys2Proof.Machine.execSapAbort ini s
  | .scrubVisit mem inst addr bits => Sys2Proof.Machine.execScrubVisit mem inst addr bits s
  | .clockFault pll khz => Sys2Proof.Machine.execClockFault pll khz s
  | .sdInject ini kind mem inst => Sys2Proof.Machine.execSdInject ini kind mem inst s
  | .chamberWrite ok => Sys2Proof.Machine.execChamberWrite ok s
  | .chamberScanDone => Sys2Proof.Machine.execChamberScanDone s
  | .chSel ini slot => Sys2Proof.Machine.execChSel ini slot s
  | .chWcmd ini cause => Sys2Proof.Machine.execChWcmd ini cause s
  | .calLoad ini => Sys2Proof.Machine.execCalLoad ini s
  | .calCommit ini key => Sys2Proof.Machine.execCalCommit ini key s
  | .optLoad ini => Sys2Proof.Machine.execOptLoad ini s
  | .optCommit ini key => Sys2Proof.Machine.execOptCommit ini key s
  | .canIntegrationDone n => Sys2Proof.Machine.execCanIntegrationDone n s
  | .bootStepPass read => Sys2Proof.Machine.execBootStepPass read s
  | .heldResetRelease thermal => Sys2Proof.Machine.execHeldResetRelease thermal s
  | .monitorClear which tj => Sys2Proof.Machine.execMonitorClear which tj s
  | .rxLpiChange n on => Sys2Proof.Machine.execRxLpiChange n on s
  | .groupAwake g => Sys2Proof.Machine.execGroupAwake g s
  | .threadException t cause pc => Sys2Proof.Machine.execThreadException t cause pc s
  | .rstnRelease => Sys2Proof.Machine.execRstnRelease s

end Sys2Proof.Machine
end

