-- ==== Sys2Proof/Machine/Rv.lean ====
section
/-! DEFINITION. The instructions of a Grove engine and their decoding from program words: RV32IMC with the
standard CSR instructions (R109, R114), and Xgrove (R115). Register operands are register numbers. -/

namespace Sys2Proof.Machine
open Sys2Proof

/-- The register-register and register-immediate operations of RV32IM. -/
inductive Alu where
  | add | sub | sll | slt | sltu | xor | srl | sra | or | and
  | mul | mulh | mulhsu | mulhu | div | divu | rem | remu
  deriving DecidableEq, Repr

/-- The conditions of branches. -/
inductive Cond where
  | eq | ne | lt | ge | ltu | geu
  deriving DecidableEq, Repr

/-- What a CSR instruction does to its register: replace, set bits, clear bits. -/
inductive CsrOp where
  | rw | rs | rc
  deriving DecidableEq, Repr

/-- Where a CSR instruction's operand comes from. -/
inductive CsrSrc where
  | reg (r : Nat)
  | imm (v : Nat)
  deriving DecidableEq, Repr

/-- How GX.PDUPUT ends or goes on (R115). -/
inductive Put where
  | stop | send | drop
  deriving DecidableEq, Repr

/-- An instruction of an engine. Offsets and immediates are signed; a load or store names its width in
bytes. -/
inductive Rv where
  | lui (rd imm : Nat)
  | auipc (rd imm : Nat)
  | jal (rd : Nat) (off : Int)
  | jalr (rd rs1 : Nat) (off : Int)
  | branch (c : Cond) (rs1 rs2 : Nat) (off : Int)
  | load (width : Nat) (signed : Bool) (rd rs1 : Nat) (off : Int)
  | store (width : Nat) (rs1 rs2 : Nat) (off : Int)
  | opImm (f : Alu) (rd rs1 : Nat) (imm : Int)
  | op (f : Alu) (rd rs1 rs2 : Nat)
  | fence
  | ecall
  | ebreak
  | csr (f : CsrOp) (rd n : Nat) (src : CsrSrc)
  | gxExt (rd k v : Nat)
  | gxIns (rd k v : Nat)
  | gxXfm (rd k vd vs : Nat)
  | gxSigld (rd rs1 k : Nat)
  | gxSigst (rd rs1 k : Nat)
  | gxTs (rd sel : Nat)
  | gxPduget (rd : Nat) (block : Bool)
  | gxPduput (how : Put) (rd rs1 : Nat)
  | gxWait (rd : Nat)
  | gxEvt (rd rs1 rs2 : Nat)
  | gxCmp (rd rs1 : Nat)
  deriving DecidableEq, Repr

/-! ## Fields of a 32-bit word (R115) -/

def rvRd (w : Nat) : Nat := bitsOf w 7 5
def rvFunct3 (w : Nat) : Nat := bitsOf w 12 3
def rvRs1 (w : Nat) : Nat := bitsOf w 15 5
def rvRs2 (w : Nat) : Nat := bitsOf w 20 5
def rvFunct7 (w : Nat) : Nat := bitsOf w 25 7

/-- The signed immediate of an I-type word, of an S-type, a B-type and a J-type word. -/
def immI (w : Nat) : Int := signedOf 12 (bitsOf w 20 12)
def immS (w : Nat) : Int := signedOf 12 (bitsOf w 25 7 * 2 ^ 5 + bitsOf w 7 5)
def immB (w : Nat) : Int :=
  signedOf 13 (bitsOf w 31 1 * 2 ^ 12 + bitsOf w 7 1 * 2 ^ 11 + bitsOf w 25 6 * 2 ^ 5 + bitsOf w 8 4 * 2)
def immJ (w : Nat) : Int :=
  signedOf 21 (bitsOf w 31 1 * 2 ^ 20 + bitsOf w 12 8 * 2 ^ 12 + bitsOf w 20 1 * 2 ^ 11 + bitsOf w 21 10 * 2)

/-! ## Base instructions of 32 bits -/

/-- Opcode 0b110_0011. -/
def decBranch (w : Nat) : Option Rv :=
  let b := fun c => some (Rv.branch c (rvRs1 w) (rvRs2 w) (immB w))
  match rvFunct3 w with
  | 0 => b .eq
  | 1 => b .ne
  | 4 => b .lt
  | 5 => b .ge
  | 6 => b .ltu
  | 7 => b .geu
  | _ => none

/-- Opcode 0b000_0011. -/
def decLoad (w : Nat) : Option Rv :=
  let l := fun n sg => some (Rv.load n sg (rvRd w) (rvRs1 w) (immI w))
  match rvFunct3 w with
  | 0 => l 1 true
  | 1 => l 2 true
  | 2 => l 4 true
  | 4 => l 1 false
  | 5 => l 2 false
  | _ => none

/-- Opcode 0b010_0011. -/
def decStore (w : Nat) : Option Rv :=
  let s := fun n => some (Rv.store n (rvRs1 w) (rvRs2 w) (immS w))
  match rvFunct3 w with
  | 0 => s 1
  | 1 => s 2
  | 2 => s 4
  | _ => none

/-- Opcode 0b001_0011. A shift's amount is its rs2 field. -/
def decOpImm (w : Nat) : Option Rv :=
  let o := fun f => some (Rv.opImm f (rvRd w) (rvRs1 w) (immI w))
  let sh := fun f => some (Rv.opImm f (rvRd w) (rvRs1 w) (rvRs2 w))
  match rvFunct3 w, rvFunct7 w with
  | 0, _ => o .add
  | 1, 0 => sh .sll
  | 2, _ => o .slt
  | 3, _ => o .sltu
  | 4, _ => o .xor
  | 5, 0 => sh .srl
  | 5, 0x20 => sh .sra
  | 6, _ => o .or
  | 7, _ => o .and
  | _, _ => none

/-- Opcode 0b011_0011. -/
def decOp (w : Nat) : Option Rv :=
  let o := fun f => some (Rv.op f (rvRd w) (rvRs1 w) (rvRs2 w))
  match rvFunct7 w, rvFunct3 w with
  | 0, 0 => o .add
  | 0x20, 0 => o .sub
  | 0, 1 => o .sll
  | 0, 2 => o .slt
  | 0, 3 => o .sltu
  | 0, 4 => o .xor
  | 0, 5 => o .srl
  | 0x20, 5 => o .sra
  | 0, 6 => o .or
  | 0, 7 => o .and
  | 1, 0 => o .mul
  | 1, 1 => o .mulh
  | 1, 2 => o .mulhsu
  | 1, 3 => o .mulhu
  | 1, 4 => o .div
  | 1, 5 => o .divu
  | 1, 6 => o .rem
  | 1, 7 => o .remu
  | _, _ => none

/-- Opcode 0b111_0011: ECALL, EBREAK and the CSR instructions. -/
def decSystem (w : Nat) : Option Rv :=
  let c := fun f src => some (Rv.csr f (rvRd w) (bitsOf w 20 12) src)
  match rvFunct3 w with
  | 0 => if w = 0x73 then some .ecall else if w = 0x100073 then some .ebreak else none
  | 1 => c .rw (.reg (rvRs1 w))
  | 2 => c .rs (.reg (rvRs1 w))
  | 3 => c .rc (.reg (rvRs1 w))
  | 5 => c .rw (.imm (rvRs1 w))
  | 6 => c .rs (.imm (rvRs1 w))
  | 7 => c .rc (.imm (rvRs1 w))
  | _ => none

/-! ## Xgrove (R115) -/

/-- An instruction stands where fields that are marked 0 are 0. -/
def onlyIf (c : Bool) (i : Rv) : Option Rv := if c then some i else none

/-- R115: custom-0. -/
def decCustom0 (w : Nat) : Option Rv :=
  let f := rvFunct7 w
  let k := bitsOf f 5 2
  let v := bitsOf f 3 2
  let rd := rvRd w
  let no2 := rvRs2 w == 0
  let none12 := no2 && rvRs1 w == 0
  match rvFunct3 w with
  | 0 => onlyIf (none12 && bitsOf f 0 3 == 0) (.gxExt rd k v)
  | 1 => onlyIf (none12 && bitsOf f 0 3 == 0) (.gxIns rd k v)
  | 2 => onlyIf (none12 && bitsOf f 0 1 == 0) (.gxXfm rd k v (bitsOf f 1 2))
  | 3 => onlyIf (no2 && bitsOf f 0 5 == 0) (.gxSigld rd (rvRs1 w) k)
  | 4 => onlyIf (no2 && bitsOf f 0 5 == 0) (.gxSigst rd (rvRs1 w) k)
  | 5 => onlyIf (none12 && bitsOf f 3 4 == 0 && f != 7) (.gxTs rd f)
  | _ => none

/-- R115: custom-1. -/
def decCustom1 (w : Nat) : Option Rv :=
  let f := rvFunct7 w
  let rd := rvRd w
  let no2 := rvRs2 w == 0
  let none12 := no2 && rvRs1 w == 0
  match rvFunct3 w with
  | 0 => onlyIf (none12 && decide (f < 2)) (.gxPduget rd (f == 1))
  | 1 =>
    (match f with
     | 0 => onlyIf none12 (.gxPduput .stop rd 0)
     | 1 => onlyIf no2 (.gxPduput .send rd (rvRs1 w))
     | 2 => onlyIf none12 (.gxPduput .drop rd 0)
     | _ => none)
  | 2 => onlyIf (none12 && f == 0) (.gxWait rd)
  | 3 => onlyIf (f == 0) (.gxEvt rd (rvRs1 w) (rvRs2 w))
  | 4 => onlyIf (no2 && f == 0) (.gxCmp rd (rvRs1 w))
  | _ => none

/-- R115: the word of the R-type layout with the fields given. -/
def rType (funct7 rs2 rs1 funct3 rd opcode : Nat) : Nat :=
  funct7 * 2 ^ 25 + rs2 * 2 ^ 20 + rs1 * 2 ^ 15 + funct3 * 2 ^ 12 + rd * 2 ^ 7 + opcode

/-- R115: the word of an Xgrove instruction, none for a base instruction. -/
def xgroveWord : Rv → Option Nat
  | .gxExt rd k v => some (rType (k * 32 + v * 8) 0 0 0 rd 0x0B)
  | .gxIns rd k v => some (rType (k * 32 + v * 8) 0 0 1 rd 0x0B)
  | .gxXfm rd k vd vs => some (rType (k * 32 + vd * 8 + vs * 2) 0 0 2 rd 0x0B)
  | .gxSigld rd rs1 k => some (rType (k * 32) 0 rs1 3 rd 0x0B)
  | .gxSigst rd rs1 k => some (rType (k * 32) 0 rs1 4 rd 0x0B)
  | .gxTs rd sel => some (rType sel 0 0 5 rd 0x0B)
  | .gxPduget rd block => some (rType (if block then 1 else 0) 0 0 0 rd 0x2B)
  | .gxPduput .stop rd rs1 => some (rType 0 0 rs1 1 rd 0x2B)
  | .gxPduput .send rd rs1 => some (rType 1 0 rs1 1 rd 0x2B)
  | .gxPduput .drop rd rs1 => some (rType 2 0 rs1 1 rd 0x2B)
  | .gxWait rd => some (rType 0 0 0 2 rd 0x2B)
  | .gxEvt rd rs1 rs2 => some (rType 0 rs2 rs1 3 rd 0x2B)
  | .gxCmp rd rs1 => some (rType 0 0 rs1 4 rd 0x2B)
  | .lui .. | .auipc .. | .jal .. | .jalr .. | .branch .. | .load .. | .store .. | .opImm .. | .op .. | .fence
  | .ecall | .ebreak | .csr .. => none

/-- R109, R115: an instruction word of 32 bits; none for an illegal instruction. -/
def decode32 (w : Nat) : Option Rv :=
  match bitsOf w 0 7 with
  | 0x37 => some (.lui (rvRd w) (bitsOf w 12 20))
  | 0x17 => some (.auipc (rvRd w) (bitsOf w 12 20))
  | 0x6F => some (.jal (rvRd w) (immJ w))
  | 0x67 => onlyIf (rvFunct3 w == 0) (.jalr (rvRd w) (rvRs1 w) (immI w))
  | 0x63 => decBranch w
  | 0x03 => decLoad w
  | 0x23 => decStore w
  | 0x13 => decOpImm w
  | 0x33 => decOp w
  | 0x0F => onlyIf (rvFunct3 w == 0) .fence
  | 0x73 => decSystem w
  | 0x0B => decCustom0 w
  | 0x2B => decCustom1 w
  | _ => none

/-! ## Compressed instructions (RV32C without floating point) -/

/-- Registers x8 to x15 of the three-bit fields at bits 9:7 and 4:2. -/
def cRs1 (h : Nat) : Nat := 8 + bitsOf h 7 3
def cRs2 (h : Nat) : Nat := 8 + bitsOf h 2 3

/-- The signed six-bit immediate at bits 12 and 6:2. -/
def cImm (h : Nat) : Int := signedOf 6 (bitsOf h 12 1 * 2 ^ 5 + bitsOf h 2 5)

/-- The offsets of C.LW and C.SW, of C.J and C.JAL, and of C.BEQZ and C.BNEZ. -/
def cWord (h : Nat) : Nat := bitsOf h 5 1 * 2 ^ 6 + bitsOf h 10 3 * 2 ^ 3 + bitsOf h 6 1 * 2 ^ 2
def cJump (h : Nat) : Int :=
  signedOf 12 (bitsOf h 12 1 * 2 ^ 11 + bitsOf h 8 1 * 2 ^ 10 + bitsOf h 9 2 * 2 ^ 8 + bitsOf h 6 1 * 2 ^ 7 +
    bitsOf h 7 1 * 2 ^ 6 + bitsOf h 2 1 * 2 ^ 5 + bitsOf h 11 1 * 2 ^ 4 + bitsOf h 3 3 * 2)
def cBranch (h : Nat) : Int :=
  signedOf 9 (bitsOf h 12 1 * 2 ^ 8 + bitsOf h 5 2 * 2 ^ 6 + bitsOf h 2 1 * 2 ^ 5 + bitsOf h 10 2 * 2 ^ 3 +
    bitsOf h 3 2 * 2)

/-- Quadrant 0. -/
def decC0 (h : Nat) : Option Rv :=
  match bitsOf h 13 3 with
  | 0 =>
    let imm : Nat := bitsOf h 7 4 * 2 ^ 6 + bitsOf h 11 2 * 2 ^ 4 + bitsOf h 5 1 * 2 ^ 3 + bitsOf h 6 1 * 2 ^ 2
    onlyIf (imm != 0) (.opImm .add (cRs2 h) 2 imm)
  | 2 => some (.load 4 true (cRs2 h) (cRs1 h) (cWord h))
  | 6 => some (.store 4 (cRs1 h) (cRs2 h) (cWord h))
  | _ => none

/-- C.SRLI, C.SRAI, C.ANDI and the register operations of quadrant 1. -/
def decCArith (h : Nat) : Option Rv :=
  let r := cRs1 h
  let short := bitsOf h 12 1 == 0
  match bitsOf h 10 2 with
  | 0 => onlyIf short (.opImm .srl r r (bitsOf h 2 5))
  | 1 => onlyIf short (.opImm .sra r r (bitsOf h 2 5))
  | 2 => some (.opImm .and r r (cImm h))
  | _ =>
    let f : Alu := match bitsOf h 5 2 with
      | 0 => .sub
      | 1 => .xor
      | 2 => .or
      | _ => .and
    onlyIf short (.op f r r (cRs2 h))

/-- Quadrant 1. -/
def decC1 (h : Nat) : Option Rv :=
  let rd := bitsOf h 7 5
  match bitsOf h 13 3 with
  | 0 => some (.opImm .add rd rd (cImm h))
  | 1 => some (.jal 1 (cJump h))
  | 2 => some (.opImm .add rd 0 (cImm h))
  | 3 =>
    if rd = 2 then
      let imm := signedOf 10 (bitsOf h 12 1 * 2 ^ 9 + bitsOf h 3 2 * 2 ^ 7 + bitsOf h 5 1 * 2 ^ 6 +
        bitsOf h 2 1 * 2 ^ 5 + bitsOf h 6 1 * 2 ^ 4)
      onlyIf (imm != 0) (.opImm .add 2 2 imm)
    else onlyIf (cImm h != 0) (.lui rd (unsignedOf 20 (cImm h)))
  | 4 => decCArith h
  | 5 => some (.jal 0 (cJump h))
  | 6 => some (.branch .eq (cRs1 h) 0 (cBranch h))
  | _ => some (.branch .ne (cRs1 h) 0 (cBranch h))

/-- Quadrant 2. -/
def decC2 (h : Nat) : Option Rv :=
  let rd := bitsOf h 7 5
  let rs2 := bitsOf h 2 5
  let long := bitsOf h 12 1 == 1
  match bitsOf h 13 3 with
  | 0 => onlyIf (!long) (.opImm .sll rd rd rs2)
  | 2 => onlyIf (rd != 0)
      (.load 4 true rd 2 (Int.ofNat (bitsOf h 2 2 * 2 ^ 6 + bitsOf h 12 1 * 2 ^ 5 + bitsOf h 4 3 * 2 ^ 2)))
  | 4 =>
    if rs2 = 0 then
      (if rd = 0 then onlyIf long .ebreak else some (.jalr (boolNat long) rd 0))
    else some (.op .add rd (if long then rd else 0) rs2)
  | 6 => some (.store 4 2 rs2 (Int.ofNat (bitsOf h 7 2 * 2 ^ 6 + bitsOf h 9 4 * 2 ^ 2)))
  | _ => none

/-- R109: an instruction of 16 bits; none for an illegal instruction. -/
def decode16 (h : Nat) : Option Rv :=
  match bitsOf h 0 2 with
  | 0 => decC0 h
  | 1 => decC1 h
  | 2 => decC2 h
  | _ => none

/-! ## What the operations compute -/

/-- A 32-bit number from an integer. -/
def word32 (x : Int) : Nat := unsignedOf 32 x

/-- RV32I, RV32M: a register operation on two 32-bit numbers. -/
def aluOf (f : Alu) (a b : Nat) : Nat :=
  let sa := signedOf 32 a
  let sb := signedOf 32 b
  match f with
  | .add => (a + b) % 2 ^ 32
  | .sub => word32 ((a : Int) - b)
  | .sll => a * 2 ^ (b % 32) % 2 ^ 32
  | .slt => boolNat (decide (sa < sb))
  | .sltu => boolNat (decide (a < b))
  | .xor => Nat.xor a b
  | .srl => a / 2 ^ (b % 32)
  | .sra => word32 (sa / 2 ^ (b % 32))
  | .or => Nat.lor a b
  | .and => Nat.land a b
  | .mul => a * b % 2 ^ 32
  | .mulh => word32 (sa * sb / 2 ^ 32)
  | .mulhsu => word32 (sa * b / 2 ^ 32)
  | .mulhu => a * b / 2 ^ 32
  | .div => if b = 0 then 2 ^ 32 - 1 else word32 (sa.tdiv sb)
  | .divu => if b = 0 then 2 ^ 32 - 1 else a / b
  | .rem => if b = 0 then a else word32 (sa.tmod sb)
  | .remu => if b = 0 then a else a % b

/-- Whether a branch is taken. -/
def condOf (c : Cond) (a b : Nat) : Bool :=
  match c with
  | .eq => a == b
  | .ne => a != b
  | .lt => decide (signedOf 32 a < signedOf 32 b)
  | .ge => decide (signedOf 32 b ≤ signedOf 32 a)
  | .ltu => decide (a < b)
  | .geu => decide (b ≤ a)

/-- What a CSR instruction leaves in its register. -/
def csrOf (f : CsrOp) (old v : Nat) : Nat :=
  match f with
  | .rw => v
  | .rs => Nat.lor old v
  | .rc => Nat.land old (2 ^ 32 - 1 - v % 2 ^ 32)

end Sys2Proof.Machine
end

