-- ==== Sys2Proof/Machine/View.lean ====
section
/-! DEFINITION. What a register read returns (R24: a read changes nothing): the header (R28), the
registers that are computed from the state of their block, the memory windows, and the errors of R30. -/

namespace Sys2Proof.Machine
open Sys2Proof

/-- The head of an Echo queue: TAG word (R60). -/
def echoTag (e : EchoEntry) : Nat :=
  2 ^ 31 + boolNat e.gap * 2 ^ 30 + boolNat e.kind * 2 ^ 29 + e.lostRun * 2 ^ 24 + e.msgType * 2 ^ 20 +
    e.ptpDom * 2 ^ 16 + e.tag

/-- The head of a capture queue: TAG word (R73). -/
def captureTag (e : CaptureEntry) : Nat :=
  2 ^ 31 + boolNat e.gap * 2 ^ 30 + boolNat e.rise * 2 ^ 29 + e.lostRun * 2 ^ 24 + e.seq

/-- R77: the angle at the present tick, by the latest edge and the length of a revolution. -/
def Dev.phaseAngle (d : Dev) (p : Nat) : Nat :=
  let s := d.phaseSt p
  match d.get (F.PH_STAT_STATE p), s.anchor, d.phaseRev p with
  | 2, some t, some rev =>
    d.get (F.PH_ZERO_ZERO p) + s.pos * 2 ^ 16 / d.phaseC p + (d.base8 - t) * 2 ^ 16 / max rev 1
  | _, _, _ => 0

/-- ENG_THREADS: the code of a thread's state. -/
def Dev.threadCode (d : Dev) (t : Nat) : Nat :=
  if d.calThread t then 8
  else match (d.thr t).st with
  | .halted => 0
  | .ready => if d.baseNs < (d.thr t).busy then 2 else 1
  | .awaitWork _ => 3
  | .awaitWake _ => 4
  | .awaitPartner _ _ _ => 5
  | .committing _ => 6
  | .selftest => 7
  | .restarting _ => 9

/-- ENG_STAT.ROLE. -/
def Dev.engRole (d : Dev) (e : Nat) : Nat :=
  if !d.healthy e then 3
  else if !d.gvRuns then 0
  else if d.get F.GV_ROT_STAT_PHASE ≠ 0 ∧ d.get F.GV_ROT_STAT_RESTING = e then 2
  else 1

/-- R137: the item that FS_ITEM of a channel's FIFO shows. -/
def Dev.fsShown (d : Dev) (c f : Nat) (q : FifoId) : Option FsItem :=
  let i := if f = 2 then 0 else d.get (fsRpos q)
  if i < d.get (fsFill q) then (d.fsItems c f)[i]? else none

/-- FS_ITEM of a FIFO. An item whose element holds an uncorrectable error is not shown (R326). -/
def Dev.fsItemWord (d : Dev) (c : Fin 80) (f : Fin 3) : Nat :=
  match d.fsShown c f (.chan c f) with
  | none => 0
  | some it =>
    if it.bad then 0
    else 2 ^ 31 + it.block * 2 ^ 16 + (if f.val = 2 then d.slotBlocks c it.block else it.blocks)

/-- Fields computed at the read, page by page. -/
def Dev.shownPage (d : Dev) (x : Identity) (pg : Page) : Dev :=
  match pg with
  | .pc 0 => d.wdogShow
  | .pc 3 => d.put F.PC_AON_MS_MS d.aonMs
  | .pc 5 =>
    (d.put F.CAL_DATA_DATA (tget d.mram.calStage (d.get F.CAL_SEL_INDEX))).put F.OPT_DATA_DATA
      (tget d.mram.optStage (d.get F.OPT_SEL_INDEX))
  | .sd 0 =>
    let d := ((d.setWord R.ID_LOT0 x.lot0).setWord R.ID_LOT1 x.lot1).setWord R.ID_LOT2 x.lot2
    (d.setWord R.ID_DIE x.die).setWord R.ID_PART x.part
  | .tl k =>
    if k = 0 then d.put F.TL_NOW32_NS d.baseNs
    else if k < 5 then
      let s := tget d.tl.dom (k - 1)
      let d := (d.putFlag (F.DOM_STATE_CLAMPED (k - 1)) (decide (s.rate.natAbs = rateLimit.natAbs))).putFlag
        (F.DOM_CTRL_ARM (k - 1)) (armBusy s)
      (d.setWord (R.DOM_RATE_LO (k - 1)) (BitVec.ofNat 32 (unsignedOf 48 s.rate))).setWord (R.DOM_RATE_HI (k - 1))
        (BitVec.ofNat 32 (unsignedOf 48 s.rate / 2 ^ 32))
    else if k = 5 then
      (List.range 24).foldl (fun (a : Dev) p =>
        let q := tget d.tl.echo p
        let a := (a.put (F.ECHO_FILL_FILL p) q.entries.length).putFlag (F.ECHO_FILL_GAP_PENDING p) (q.lostRun != 0)
        let a := a.put (F.ECHO_HEAD_TAG_WORD p) (q.entries.head?.elim 0 echoTag)
        (a.put (F.ECHO_HEAD_NS_NS p) (q.entries.head?.elim 0 (fun e => e.stamp / 8))).put
          (F.ECHO_HEAD_FRAC_FRAC p) (q.entries.head?.elim 0 (fun e => e.stamp))) d
    else if k = 6 then
      (d.put F.DLY_CAL_DLY (tget d.tl.dlyCal d.dlySelected)).put F.DLY_USER_ADJ (tget d.tl.dlyUser d.dlySelected)
    else if k = 8 then
      d.put F.CNP_STAT_VALID_COUNT (d.canopy.wheel.filter (fun e => wheelValid e.2)).length
    else if k = 10 then
      (List.range 8).foldl (fun (a : Dev) c =>
        let q := d.capSt c
        let a := (a.put (F.TCP_FILL_FILL c) q.entries.length).putFlag (F.TCP_FILL_GAP_PENDING c) (q.lostRun != 0)
        let a := a.put (F.TCP_HEAD_TAG_WORD c) (q.entries.head?.elim 0 captureTag)
        (a.put (F.TCP_HEAD_NS_NS c) (q.entries.head?.elim 0 (fun e => e.stamp / 8))).put
          (F.TCP_HEAD_FRAC_FRAC c) (q.entries.head?.elim 0 (fun e => e.stamp))) d
    else if 11 ≤ k ∧ k < 15 then d.put (F.PH_ANGLE_ANGLE (k - 11)) (d.phaseAngle (k - 11))
    else d
  | .gv k =>
    if k = 0 then
      (d.putFlag F.GV_STAT_PAUSED (d.mode == 8)).put F.GV_STAT_SERVING
        ((List.range 16).filter (fun e => d.serving e)).length
    else if k = 2 then
      let e := findBelow 16 (fun e => bitOf (d.get F.GV_LM_SEL_MASK) e)
      let w := e.elim 0 (fun e => (tget d.gv.lm (65536 * e + d.get F.GV_LM_ADDR_ADDR)).toNat)
      let us := (d.baseNs - d.gv.phaseAt) / 1000
      let d := d.put F.GV_ENG_STAT_SERVING
        ((List.range 16).foldl (fun m e => m + (if d.serving e then 2 ^ e else 0)) 0)
      (d.put F.GV_LM_DATA_DATA w).put F.GV_ROT_STAT_ELAPSED_US
        (if d.get F.GV_ROT_STAT_PHASE = 0 then 0 else min us (2 ^ 17 - 1))
    else if 3 ≤ k then
      (d.put (F.ENG_STAT_ROLE (k - 3)) (d.engRole (k - 3))).put (F.ENG_THREADS_STATES (k - 3))
        ((List.range 8).foldl (fun m t => m + d.threadCode ((k - 3) * 8 + t) * 16 ^ t) 0)
    else d
  | .can n =>
    if h : n < 80 then
      let d := ([0, 1, 2] : List (Fin 3)).foldl (fun (a : Dev) (f : Fin 3) =>
        a.setWord (R.FS_ITEM n f) (BitVec.ofNat 32 (d.fsItemWord ⟨n, h⟩ f))) d
      d.put (F.CAN_TXSLOT_FREE_MASK n)
        ((List.range 32).foldl (fun m s => m + (if d.slotFree n s then 2 ^ s else 0)) 0)
    else d
  | .lin n =>
    if h : 64 + n < 80 then
      ([0, 1, 2] : List (Fin 3)).foldl (fun (a : Dev) (f : Fin 3) =>
        a.setWord (R.LFS_ITEM n f) (BitVec.ofNat 32 (d.fsItemWord ⟨64 + n, h⟩ f))) d
    else d
  | .lk s k =>
    if k = 0 then d.putFlag (F.LK_STAT_HWL_MODE s) (hwLearnMode d.mode)
    else if k = 2 then
      if h : s < 2 then
        let q : FifoId := .learn ⟨s, h⟩
        let i := d.get (fsRpos q)
        match (if i < d.get (fsFill q) then (tget d.learnq s)[i]? else none) with
        | none => d
        | some x =>
          ((d.put (F.LQ_ITEM_DATA s 0) x.w0).put (F.LQ_ITEM_DATA s 1) x.w1).put (F.LQ_ITEM_DATA s 2) x.w2
            |>.put (F.LQ_ITEM_DATA s 3) x.w3
      else d
    else d
  | .hb k => if k = 0 then d else d.pelShow (k - 1)
  | .mc 1 => d.putFlag F.SAP_CMD_GO (d.sapState == 5)
  | .tm k =>
    if k = 0 then
      (List.range 64).foldl (fun (a : Dev) m =>
        a.put (F.TM_PM_LEVEL_LEVEL m) (unsignedOf 32 ((d.pmNow m).level / bucketByte))) d
    else d
  | .sw k =>
    if k = 4 then (d.putFlag F.SW_LIMP_STAT_VALID (limpGood d.limpActive)).put F.SW_LIMP_STAT_GEN d.sw.limpGen else d
  | _ => d

/-- R23: the registers whose reset value is what OTP, the straps, MRAM, the options or the calibration page hold. -/
def loadedAtReset (addr : Nat) : Bool :=
  [R.ID_LOT0, R.ID_LOT1, R.ID_LOT2, R.ID_DIE, R.ID_PART, R.PC_STRAP, R.PC_BOOT_REC, R.SW_LIMP_STAT, R.SC_LC,
    R.SC_KEYS, R.SC_RB, R.VAULT_USED, R.CH_HEAD, R.CAL_STAT, R.CAL_CRC, R.OPT_CRC, R.CP_MEM_CFG, R.DLY_CAL].contains addr ||
  (decide (R.ID_PUB 0 ≤ addr) && decide (addr < R.ID_PUB 96)) ||
  (decide (R.ID_CERT 0 ≤ addr) && decide (addr < R.ID_CERT 96))

/-- R30: what a register at 0x040 or above reads during a soft reset: its reset value. The debug level's follows
the lifecycle (R297). -/
def Dev.softRead (d : Dev) (x : Identity) (pg : Page) (addr : Nat) : Word :=
  if addr = R.DBG_STAT then BitVec.ofNat 32 (if d.sc.lc = 0 then 2 else 0)
  else if loadedAtReset addr then (d.shownPage x pg).word addr
  else resetWord addr

/-- The word a read at an offset of an accessible page returns; during a soft reset the reset value of a
register at 0x040 or above (R30). -/
def Dev.pageRead (d : Dev) (x : Identity) (pg : Page) (addr : Nat) : Word :=
  let off := addr % 0x1000
  if off = 0 then BitVec.ofNat 32 (pageId pg)
  else if off = 0xC then BitVec.ofNat 32 (d.statusWord pg)
  else if off = 0x18 then BitVec.ofNat 32 (d.irqStat pg)
  else if off < 0x40 then (if (regAt addr).isSome then d.word addr else 0)
  else if d.softReset pg then d.softRead x pg addr
  else
    match pg with
    | .can n =>
      if 0x800 ≤ off then
        BitVec.ofNat 32 (d.ramNat n (d.get (F.CAN_MR_BANK_BANK n) * 2048 + (off - 0x800)) 4)
      else if (regAt addr).isSome then (d.shownPage x pg).word addr else 0
    | .lin n =>
      if 0x400 ≤ off then BitVec.ofNat 32 (d.ramNat (64 + n) off 4)
      else if (regAt addr).isSome then (d.shownPage x pg).word addr else 0
    | _ => if (regAt addr).isSome then (d.shownPage x pg).word addr else 0

/-- R20, R30, R281: a register read by an initiator: its value, none for an access error. Write-only
fields read 0, since nothing is stored in them (R22). -/
def Dev.readReg (d : Dev) (x : Identity) (who : Init) (addr : Nat) : Option Word :=
  if addr % 4 ≠ 0 then none
  else
    match pageOf addr with
    | none =>
      if inSignalWindow addr && d.released (.gv 0) && !isEngine who &&
          !(decide (who = .dbg) && decide (debugReach d.sc.lc d.sc.level d.mode < 2)) then
        let k := (addr - 0x3000000) / 4
        some (BitVec.ofNat 32 (d.sigWord (k / 3) (k % 3)))
      else none
    | some pg =>
      if d.denied who pg (addr % 0x1000) false || !d.released pg then none
      else some (d.pageRead x pg addr)

/-- R30, R326: a register read whose path has a parity error or none: it fails with TIMEOUT, and the error is
reported. A read has no other effect (R24). -/
def Dev.readParity (d : Dev) (x : Identity) (who : Init) (addr : Nat) (parity : Bool) : Option Word × Dev :=
  if parity then (none, d.report 3 0) else (d.readReg x who addr, d)

/-- R25: a read request of `dws` words, `full` where every byte enable is set: 1 to 16 words read in ascending
order, none where the request is refused or one of its reads meets an access error. -/
def Dev.readRequest (d : Dev) (x : Identity) (who : Init) (addr dws : Nat) (full : Bool) : Option (List Word) :=
  if full && decide (1 ≤ dws) && decide (dws ≤ 16) then
    (List.range dws).mapM (fun k => d.readReg x who (addr + 4 * k))
  else none

end Sys2Proof.Machine
end

