-- ==== Sys2Proof/Machine/Engine.lean ====
section
/-! DEFINITION. Grove's engines at work: the address map of a thread (R110), its CSRs (R114), the execution
of its program (R109, R116), and one clock of the sixteen engines. -/

namespace Sys2Proof.Machine
open Sys2Proof

/-! ## Registers of a thread -/

/-- x[r]; x0 reads 0. -/
def xReg (c : ThreadCtx) (r : Nat) : Nat := if r = 0 then 0 else (tget c.x r).toNat

/-- A base instruction of thread t completes: a result, and where the thread goes on. -/
def Dev.rvDone (d : Dev) (t rd v next : Nat) : Dev :=
  d.modThr t (fun c => { setX c rd v with pc := next % 2 ^ 32 })

/-- R114: gx_inst. -/
def instWord (x : Instance) : Nat :=
  x.pdu + boolNat x.timeout * 2 ^ 16 + boolNat x.paired * 2 ^ 17 + boolNat x.aborted * 2 ^ 18

/-- R114: the tag of a value register. -/
def tagWord (v : VReg) : Nat := v.cls + v.upd * 2 ^ 2 + boolNat v.signed * 2 ^ 4 + v.lenM1 * 2 ^ 5 + v.xfm * 2 ^ 16

/-- R114: an instance register; 0 while no instance is held. -/
def instCsr (c : ThreadCtx) (k : Nat) : Nat :=
  match c.inst with
  | none => 0
  | some x => (([instWord x, x.first, x.count, x.hook, x.rxlen] : List Nat)[k]?).getD 0

/-- R109, R114: the value of CSR n of thread t, none for a CSR that does not exist. -/
def csrRead (t : Nat) (c : ThreadCtx) (n : Nat) : Option Nat :=
  if n = 0xF14 then some t
  else if 0x8C0 ≤ n ∧ n < 0x8CC then some (tget c.dw (n - 0x8C0))
  else if 0x8CC ≤ n ∧ n < 0x8D0 then some (tget c.dix (n - 0x8CC))
  else if 0x8D0 ≤ n ∧ n < 0x8E0 then
    let v := tget c.v ((n - 0x8D0) / 4)
    match n % 4 with
    | 0 => some (v.val % 2 ^ 32)
    | 1 => some (v.val / 2 ^ 32)
    | 2 => some (tagWord v)
    | _ => none
  else if 0xCC0 ≤ n ∧ n < 0xCC5 then some (instCsr c (n - 0xCC0))
  else none

/-- R114: a value register with word k of its three CSRs written. -/
def putVCsr (v : VReg) (k x : Nat) : VReg :=
  if k = 0 then { v with val := putBits v.val 0 32 x }
  else if k = 1 then { v with val := putBits v.val 32 32 x }
  else
    { v with
      cls := bitsOf x 0 2, upd := bitsOf x 2 2, signed := bitOf x 4, lenM1 := bitsOf x 5 6, xfm := bitsOf x 16 16 }

/-- R114: a CSR written; none for one that cannot be written. Bits that are reserved are ignored. -/
def csrWrite (c : ThreadCtx) (n x : Nat) : Option ThreadCtx :=
  if 0x8C0 ≤ n ∧ n < 0x8CC then
    some { c with dw := tset c.dw (n - 0x8C0) (Nat.land x (sigMask ((n - 0x8C0) % 3))) }
  else if 0x8CC ≤ n ∧ n < 0x8D0 then some { c with dix := tset c.dix (n - 0x8CC) (x % 2 ^ 20) }
  else if 0x8D0 ≤ n ∧ n < 0x8E0 ∧ n % 4 ≠ 3 then
    some { c with v := tmod c.v ((n - 0x8D0) / 4) (fun v => putVCsr v (n % 4) x) }
  else none

/-- A CSR instruction; CSRRS and CSRRC with x0 or 0 write nothing. -/
def Dev.rvCsr (d : Dev) (t pc next : Nat) (f : CsrOp) (rd n : Nat) (src : CsrSrc) : Dev :=
  let c := d.thr t
  let (v, bare) := match src with
    | .reg r => (xReg c r, r == 0)
    | .imm v => (v, v == 0)
  match csrRead t c n with
  | none => d.threadFault t 0x02 pc
  | some old =>
    if f != .rw && bare then d.rvDone t rd old next
    else
      match csrWrite c n (csrOf f old v) with
      | none => d.threadFault t 0x02 pc
      | some c => (d.setThr t c).rvDone t rd old next

/-! ## The address map (R110) -/

/-- Where the register space begins, and its size. -/
def gvRegBase : Nat := 0x40000000
def inRegSpace (a : Nat) : Bool := decide (gvRegBase ≤ a) && decide (a < gvRegBase + 0x4000000)
def inWindow (a : Nat) : Bool := decide (0x40000 ≤ a) && decide (a < 0x40800)
def inData (a : Nat) : Bool := decide (0x30000 ≤ a) && decide (a < 0x32000)

/-- The word of engine local memory at an address of thread t: the code image, which its engine's threads
share, or its own thread data. -/
def lmIndex (t a : Nat) : Option Nat :=
  if a < 0x30000 then some (65536 * (t / 8) + a / 4)
  else if inData a then some (65536 * (t / 8) + 0xC000 + 0x800 * (t % 8) + (a - 0x30000) / 4)
  else none

/-- R110: byte i of the input window of thread t where the device has copied one into it. -/
def Dev.windowByte (d : Dev) (t i : Nat) : Option Nat :=
  match (d.thr t).inst with
  | none => none
  | some x => if !x.timeout && decide (i < x.rxlen) then some (bitsOf x.input (8 * i) 8) else none

/-- R110: n bytes of the input window. What the spec does not put there is free. -/
def Dev.windowRead (d : Dev) (t i : Nat) : Nat → Nat × Dev
  | 0 => (0, d)
  | n + 1 =>
    let (b, d) := match d.windowByte t i with
      | some b => (b, d)
      | none => d.free 256
    let (r, d) := d.windowRead t (i + 1) n
    (b + 256 * r, d)

/-- A value loaded with n bytes. -/
def loaded (n : Nat) (signed : Bool) (v : Nat) : Nat := if signed then word32 (signedOf (8 * n) v) else v

/-- R324, R326: word i of engine local memory is read: with an uncorrectable error its engine retires. -/
def Dev.lmRead (d : Dev) (i : Nat) : Bool × Dev :=
  match d.errIn 5 (i / 65536) (· == i % 65536) with
  | none => (true, d)
  | some e => (false, (d.reportErr e).retire (i / 65536))

/-- A load of n bytes at address a (R110, R121). Register space takes whole words only (R25). -/
def Dev.rvLoad (d : Dev) (x : Identity) (t pc next n : Nat) (signed : Bool) (rd a : Nat) : Dev :=
  if a % n ≠ 0 then d.threadFault t 0x04 pc
  else if inRegSpace a then
    match (if n = 4 then d.readReg x (.gv (Fin.ofNat 128 t)) (a - gvRegBase) else none) with
    | some v => d.rvDone t rd v.toNat next
    | none => d.threadFault t 0x09 pc
  else if inWindow a then
    let (v, d) := d.windowRead t (a - 0x40000) n
    d.rvDone t rd (loaded n signed v) next
  else
    match lmIndex t a with
    | some i =>
      match d.lmRead i with
      | (true, d) => d.rvDone t rd (loaded n signed (bitsOf (tget d.gv.lm i).toNat (8 * (a % 4)) (8 * n))) next
      | (false, d) => d
    | none => d.threadFault t 0x05 pc

/-- A store to register space: a refused one is a fault of the thread at its pc. -/
def Dev.rvRegStore (d : Dev) (x : Identity) (t pc next addr v : Nat) (full : Bool) : Dev :=
  let owed : Req := .gvFault t 0x09
  let d := (d.rvDone t 0 0 next).registerWrite (idBlock x) (.gv (Fin.ofNat 128 t)) addr (BitVec.ofNat 32 v) full
  if d.todo.contains owed then { d with todo := d.todo.filter (fun r => r != owed) }.threadFault t 0x09 pc else d

/-- A store of n bytes at address a (R110, R121). -/
def Dev.rvStore (d : Dev) (x : Identity) (t pc next n a v : Nat) : Dev :=
  if a % n ≠ 0 then d.threadFault t 0x06 pc
  else if inRegSpace a then d.rvRegStore x t pc next (a - gvRegBase) v (n == 4)
  else if inData a then
    let i := (lmIndex t a).getD 0
    let w := wordPut (tget d.gv.lm i) (8 * (a % 4)) (8 * n) v
    (({ d with gv := { d.gv with lm := tset d.gv.lm i w } }).wordsWritten
      (fun w => w.1 == 5 && 65536 * w.2.1 + w.2.2 == i)).rvDone t 0 0 next
  else d.threadFault t 0x07 pc

/-! ## Execution -/

/-- R112: the thread that takes a paired instance together with thread t; where several could, which one
is free. -/
def Dev.partnerFor (d : Dev) (t : Nat) : Nat × Dev :=
  let (f, d) := d.free 128
  let u := (List.range 128).findSome? (fun j =>
    if (f + j) % 128 / 8 != t / 8 && d.waits ((f + j) % 128) then some ((f + j) % 128) else none)
  (u.getD 0, d)

/-- GX.PDUGET as thread t issues it. -/
def Dev.rvPduget (d : Dev) (t pc rd : Nat) (block : Bool) : Dev :=
  let (t2, d) := if block then (0, d) else d.partnerFor t
  d.gxPduget t pc rd block t2

/-- GX.XFM with its latency: whether it misses the engine's transform cache is free. -/
def Dev.rvXfm (d : Dev) (t pc rd k vd vs : Nat) : Dev :=
  let (miss, d) := d.free 2
  (d.gxXfm t pc rd k vd vs).busyFor t (if miss = 0 then 8 else 30)

/-- GX.PDUPUT as thread t issues it. -/
def Dev.rvPut (d : Dev) (t pc : Nat) (how : Put) (rd p : Nat) : Dev :=
  match how with
  | .stop => d.gxEnd t pc rd
  | .send => (d.gxSend t pc rd p).busyFor t 2
  | .drop => (d.gxDrop t pc rd).busyFor t 4

/-- R109, R116: thread t executes an instruction at pc, `next` being the address behind it. -/
def Dev.rvExec (d : Dev) (x : Identity) (t pc next : Nat) (i : Rv) : Dev :=
  let c := d.thr t
  let at_ (r : Nat) (off : Int) : Nat := word32 (xReg c r + off)
  match i with
  | .lui rd imm => d.rvDone t rd (imm * 2 ^ 12) next
  | .auipc rd imm => d.rvDone t rd (pc + imm * 2 ^ 12) next
  | .jal rd off => d.rvDone t rd next (word32 (pc + off))
  | .jalr rd rs1 off => d.rvDone t rd next (at_ rs1 off / 2 * 2)
  | .branch f rs1 rs2 off =>
    d.rvDone t 0 0 (if condOf f (xReg c rs1) (xReg c rs2) then word32 (pc + off) else next)
  | .load n sg rd rs1 off => d.rvLoad x t pc next n sg rd (at_ rs1 off)
  | .store n rs1 rs2 off => d.rvStore x t pc next n (at_ rs1 off) (xReg c rs2)
  | .opImm f rd rs1 imm => d.rvDone t rd (aluOf f (xReg c rs1) (word32 imm)) next
  | .op f rd rs1 rs2 => d.rvDone t rd (aluOf f (xReg c rs1) (xReg c rs2)) next
  | .fence => d.rvDone t 0 0 next
  | .ecall => d.threadFault t 0x08 pc
  | .ebreak => d.threadFault t 0x03 pc
  | .csr f rd n src => d.rvCsr t pc next f rd n src
  | .gxExt rd k v => (d.gxExt t pc rd k v).busyFor t (if sigSink (dreg c k 0) then 14 else 3)
  | .gxIns rd k v => (d.gxIns t pc rd k v).busyFor t (if (tget c.v v).upd % 2 = 1 then 16 else 4)
  | .gxXfm rd k vd vs => d.rvXfm t pc rd k vd vs
  | .gxSigld rd rs1 k => (d.gxSigld t pc rd k (xReg c rs1) false).busyFor t 24
  | .gxSigst rd rs1 k => (d.gxSigst t pc rd k (xReg c rs1)).busyFor t 24
  | .gxTs rd sel => (d.gxTs t pc rd sel).busyFor t (if sel < 2 then 1 else 4)
  | .gxPduget rd block => d.rvPduget t pc rd block
  | .gxPduput how rd rs1 => d.rvPut t pc how rd (xReg c rs1)
  | .gxWait rd => d.gxWait t pc rd
  | .gxEvt rd rs1 rs2 => (d.gxEvt t pc rd (xReg c rs1) (xReg c rs2)).busyFor t 2
  | .gxCmp rd rs1 => d.gxCmp t pc rd (xReg c rs1)

/-! ## Issue (R109) -/

/-- The 16 bits of the code image at an address of thread t; none outside it. -/
def Dev.fetch16 (d : Dev) (t a : Nat) : Option Nat :=
  if a < 0x30000 then some (bitsOf (tget d.gv.lm (65536 * (t / 8) + a / 4)).toNat (8 * (a % 4)) 16) else none

/-- The instruction at pc and its length in bytes: none outside the code image, and none within for an
illegal instruction. -/
def Dev.fetch (d : Dev) (t pc : Nat) : Option (Option Rv × Nat) :=
  match d.fetch16 t pc with
  | none => none
  | some h =>
    if h % 4 ≠ 3 then some (decode16 h, 2)
    else (d.fetch16 t (pc + 2)).map (fun h2 => (decode32 (h + h2 * 2 ^ 16), 4))

/-- R109: the thread of engine e that issues next, round robin among the ready ones. -/
def Dev.nextThread (d : Dev) (e : Nat) : Option Nat :=
  (List.range 8).findSome? (fun j =>
    let t := 8 * e + (tget d.gv.issued e + 1 + j) % 8
    if d.gxReady t && decide ((d.thr t).busy ≤ d.baseNs) then some t else none)

/-- R326: the words of the instruction at pc can be read. -/
def Dev.fetchRead (d : Dev) (t pc : Nat) : Bool × Dev :=
  match d.lmRead (65536 * (t / 8) + pc / 4) with
  | (true, d) => if pc % 4 = 0 then (true, d) else d.lmRead (65536 * (t / 8) + (pc / 4 + 1))
  | r => r

/-- Thread t issues the instruction at its pc. The cause of a fetch outside the code image is free. -/
def Dev.issueThread (d : Dev) (x : Identity) (t : Nat) : Dev :=
  let pc := (d.thr t).pc
  match d.fetch t pc with
  | none =>
    let (cause, d) := d.free 256
    d.threadFault t cause pc
  | some (none, _) => d.threadFault t 0x02 pc
  | some (some i, n) =>
    match d.fetchRead t pc with
    | (true, d) => d.rvExec x t pc (pc + n) i
    | (false, d) => d

/-- R109: one clock of engine e. -/
def Dev.issue (d : Dev) (x : Identity) (e : Nat) : Dev :=
  match d.nextThread e with
  | none => d
  | some t => { d with gv := { d.gv with issued := tset d.gv.issued e (t % 8) } }.issueThread x t

/-- R109: one clock of 1.0 GHz in every engine. -/
def Dev.engines (d : Dev) (x : Identity) : Dev :=
  if d.gvRuns then (List.range 16).foldl (fun (a : Dev) e => a.issue x e) d else d

end Sys2Proof.Machine
end

