-- ==== Sys2Proof/Machine/Step.lean ====
section
/-! DEFINITION. One step: the command at the front of the queue, or, on an empty queue, one tick of the
device's clocks, at which each engine issues one instruction (assumptions 2 and 35). -/

namespace Sys2Proof.Machine
open Sys2Proof

/-- R41, R44: one tick: the always-on clock, Base time and every enabled domain go on, and a table command
that held both windows completes (R194). -/
def Dev.tick (d : Dev) : Dev :=
  let d := d.lkDone.calDone.optDone
  let x := d.tl.fifth + d.tickFifths
  let d' := d.modPlat (fun p => { p with
    aon := if p.porLow then p.aon else p.aon + x / 5
    fresh := tmap p.fresh (fun n => n - x / 5) })
  if d.tl.running then
    let dom := (List.range 4).foldl (fun (t : Tab DomainSt) i =>
      if d.domEn i then tmod t i (fun s => { s with val := (s.val + d.domStep i * d.tickFifths / 5).toNat })
      else t) d.tl.dom
    { d' with tl := { d'.tl with ns := d.tl.ns + x / 5, fifth := x % 5, ticks := d.tl.ticks + 1, dom } }
  else d'

/-- One step: the command at the front of the queue runs with the queue's rest; an empty queue lets one tick
pass, at which the engines issue (R109). -/
def step (s : State) : Host.Outcome State Fault Refusal :=
  match s.pending with
  | [] => act s (fun d => d.tick.engines s.id)
  | c :: rest => exec c { s with pending := rest }

/-- The state with the command that a word spells at the front of its queue. -/
def State.withFetchWord (s : State) (nbits w : Nat) : State :=
  match decodeTableWord nbits w with
  | none => s
  | some c => { s with pending := c :: s.pending }

end Sys2Proof.Machine
end

