-- ==== Sys2Proof/WellFormed.lean ====
section
/-! DEFINITION. Well-formed commands: what an operand may be beyond its type. A command that is not well
formed stands for nothing the device can meet; `exec` answers on it all the same. -/

namespace Sys2Proof
open Sys2Proof.Machine

/-- R134: a CAN frame as its bus carries it: the data lengths of its format, identifiers of 11 bits but for
29-bit ones of Classical and FD frames, remote frames only in Classical format. -/
def CanFrame.wellFormed (f : CanFrame) : Bool :=
  canLen f.fmt f.data.length && (f.ide || decide (f.id.toNat < 2048)) && (f.fmt != 2 || !f.ide) &&
    (!f.rtr || f.fmt == 0)

/-- R38: the bytes of a descriptor's buffer are at most LEN. -/
def Descriptor.wellFormed (x : Descriptor) : Bool := decide (x.data.length ≤ x.len.toNat)

/-- R149: a LIN response has 1 to 8 data bytes. -/
def LinResponse.wellFormed (r : LinResponse) : Bool := decide (1 ≤ r.data.length) && decide (r.data.length ≤ 8)

/-- R19, R31: an address of the register space, or of the MSI-X table that BAR2 shows from 0x400_0000 on. -/
def addrOk (addr : Nat) : Bool := decide (addr < 0x4001000)

/-- The checks of a command's operands. -/
def Instr.wellFormed (c : Instr) : Bool :=
  match c with
  | .registerWrite _ addr _ _ _ => addrOk addr
  | .softReset _ pg => pageExists pg
  | .softResetComplete pg => pageExists pg
  | .irqForce _ pg _ => pageExists pg
  | .dmaDescriptorDone _ _ x => x.wellFormed
  | .deliveryFlushTimeout _ _ _ x => x.wellFormed
  | .pacerAdmit management frame => management || frame.isEmpty
  | .canFrameRx _ f _ => f.wellFormed
  | .linResponseRx _ r => r.wellFormed
  | .linResponseTimeout _ bytes => decide (bytes ≤ 8)
  | .epFrameHead _ bytes _ _ => bytes.length == 64
  | .clrRingMsgRx _ data => decide (data.length ≤ 8)
  | .clockFault pll _ => pll.elim true (fun k => k.val < 5 || decide (8 ≤ k.val))
  | .scrubVisit mem inst addr _ =>
    decide (inst.val < (scrubSize mem).1) && decide (addr.toNat < (scrubSize mem).2)
  | .tkStageWrite _ salt w _ => !salt || decide (w.val < 3)
  | _ => true

end Sys2Proof
end

