-- ==== Sys2Proof/Safety.lean ====
section
/-! DEFINITION. The words that claims about the device use: how a command ends, when a register write
reaches its register, and when the device gives its single-fault guarantee (R321). -/

namespace Sys2Proof.Machine
open Sys2Proof

/-- The state after a command whose own effect leaves the device `d`: the parts that follow others are
brought up to date; the queue and the identity stay. -/
def State.ends (s : State) (d : Dev) : State := { s with dev := d.settle s.dev }

/-- R30, R34 to R36: the device as a full, aligned write of an initiator finds it at its register: a write
through a PCIe port has taken its number. None where the write is refused or discarded on its way. -/
def Dev.reaches (d : Dev) (i : Init) (addr : Nat) : Option Dev :=
  match portOf i with
  | none => if d.accessCode i addr true = none then some d else none
  | some p =>
    let d' := d.put (F.HB_WSEQ_SEQ p) (nextSeq (d.get (F.HB_WSEQ_SEQ p)))
    if d.linkUp p ∧ d'.accessCode i addr true = none ∧
        (pageOf addr = some (.hb (p + 1)) ∨ ((d'.pelFree p).isSome ∧ d'.pelNames p addr = false)) then some d'
    else none

/-- R66, R91: the device once the command register of a window is written: it shows what was written, and
GO reads 0 again. -/
def Dev.commanded (d : Dev) (addr : Nat) (v : Word) (go : Fld) : Dev := (d.store addr v).put go 0

/-- The machine after n steps; it stops at a stop. -/
def steps : Nat → State → Host.Outcome State Fault Refusal
  | 0, s => .next s
  | n + 1, s =>
    match step s with
    | .next t => steps n t
    | .fault r => .fault r
    | .refused r => .refused r

/-- R321: the conditions of the single-fault guarantee. -/
def Dev.guaranteed (d : Dev) : Bool :=
  d.flag F.SD_SCRUB_CTRL_EN && d.flag F.GV_CFG_PAIR_EN && d.get F.PC_MON_STAT_SUPPLY_OK == 0x1FF &&
    !bitOf (d.get (F.IRQ_RAW_BITS (pageBase (.pc 2)))) 2 && !d.flag F.PC_MON_STAT_THERM_WARN &&
    decide (12 ≤ d.healthyCount)

/-- A device in Full Run (M4) with nothing of its own to do at the end of a command: nothing is owed, no
gate list waits, no time link is due, every engine is healthy and its turn goes on, no group sleeps, the
Clearing assist and the management firmware stand still, and no fault is armed or stands. -/
def Dev.atRest (d : Dev) : Bool :=
  let runs := d.flag F.GV_ENG_CTRL_RUN && d.enabled (.gv 0)
  let phase := d.get F.GV_ROT_STAT_PHASE
  d.todo.isEmpty && d.tm.gcl.all (fun x => x.2.take.isNone) &&
    (d.plat.timeLinked || (List.range 4).all (fun i => d.get (F.DOM_STATE_STATE i) != 3)) &&
    d.mode == 4 && d.healthyCount == 16 && d.get F.PC_GRP_STAT_STATES == 0 && d.gv.idleSince.isNone == runs &&
    (if d.gvRuns && d.enabled (.gv 0) then phase == 1 || phase == 2 else phase == 0) &&
    d.clrState == 0 && !d.clr.joined && !d.flag F.CLR_STAT_CONSENT && !d.fwRuns && d.slp.events.isEmpty &&
    d.inject.isNone && d.scrub.errs.isEmpty

/-- R243: the code that group g's transceiver pins carry (3 normal, 2 listen-only, 1 standby, 0 sleep). -/
def Dev.xcvmFollows (d : Dev) (g code : Nat) : Prop :=
  let group := bitsOf (d.get F.PC_GRP_STAT_STATES) (2 * g) 2
  let listens := (d.groupWake g).any (fun w => w.listen)
  ((d.mode = 11 ∨ d.slp.live = false) → code = 1) ∧
    (d.mode ≠ 11 → d.slp.live = true →
      ((group = 0 ∨ group = 1) → code = if bitOf (d.get F.PC_XCVM_CFG_LISTEN) g then 2 else 3) ∧
      (group = 3 → listens = true → code = 2) ∧
      ((group = 2 ∨ (group = 3 ∧ listens = false)) → code = if bitOf (d.get F.PC_XCVM_CFG_STBY) g then 1 else 0))

/-- R244, R248: whether INHk is asserted. Before its register is written it is; in M11 it keeps its level. -/
def Dev.inhFollows (d : Dev) (k : Nat) (level : Bool) : Prop :=
  d.mode ≠ 11 →
    ((bitOf d.slp.inhLive k = false ∨ d.flag (F.PC_INH_CFG_KEEP k) = true) → level = true) ∧
    (bitOf d.slp.inhLive k = true → d.flag (F.PC_INH_CFG_KEEP k) = false →
      (d.flag (F.PC_INH_CFG_SELF k) = true → (level = false ↔ d.mode = 0 ∨ d.mode = 1)) ∧
      (d.flag (F.PC_INH_CFG_SELF k) = false → (level = false ↔ ∀ g < 8,
        bitOf (d.get (F.PC_INH_CFG_GROUPS k)) g = true →
          bitsOf (d.get F.PC_GRP_STAT_STATES) (2 * g) 2 = 2 ∧ d.groupWake g = none)))

/-- R243, R244: the XCVM and INH pins stand as the sleep groups ask. -/
def Dev.pinsFollow (d : Dev) : Prop :=
  (∀ g < 8, d.xcvmFollows g (bitsOf (d.get F.PC_XCVM_CODES) (2 * g) 2)) ∧
    ∀ k < 4, d.inhFollows k (d.flag (F.PC_INH_CFG_LEVEL k))

end Sys2Proof.Machine
end

