-- ==== Sys2Proof/Certificates/Slice0/Obligations.lean ====
section
/-! DEFINITION. The statements for the provers. -/

open Sys2Proof Sys2Proof.Machine

/-- Writes of the header that every page opens with, and block soft resets (R20, R21, R22, R28, R31, R367).
A write is taken where it reaches its register and no LOCK refuses it. That a raised line is reported
again after (1) to (3) is the model's choice.
Log entries that say where the model chose on these rules: 12, 15, 16, 25, 187, 197, 257, 282. -/
def Obligations.HeaderRegisterWrites : Prop :=
  -- (1) A taken REGISTER_WRITE of IRQ_MASK stores the bits that stand for an event of that page, drops
  -- the others, and changes nothing else.
  (∀ (s : State) (i : Init) (pg : Page) (v : Word) (d : Dev), pageExists pg = true → s.dev.reaches i
    (pageBase pg + 0x014) = some d → d.lockedWrite (pageBase pg + 0x014) (v) = false → exec
    (.registerWrite i (pageBase pg + 0x014) v true false) s = .next (s.ends ((d.setWord (pageBase pg +
    0x014) (irqGiven pg v)).renotify pg))) ∧
  -- (2) One of IRQ_RAW, on a page that is no bus channel's, clears the bits written 1 and changes
  -- nothing else.
  (∀ (s : State) (i : Init) (pg : Page) (v : Word) (d : Dev), pageExists pg = true → (pageSource pg < 96
    ∨ 176 ≤ pageSource pg) → s.dev.reaches i (pageBase pg + 0x010) = some d → d.lockedWrite (pageBase pg
    + 0x010) (v) = false → exec (.registerWrite i (pageBase pg + 0x010) v true false) s = .next (s.ends
    ((d.setWord (pageBase pg + 0x010) (d.word (pageBase pg + 0x010) &&& ~~~ v)).renotify pg))) ∧
  -- (3) IRQ_FORCE, taken, sets the event bits written 1 in IRQ_RAW and changes nothing else.
  (∀ (s : State) (i : Init) (pg : Page) (v : Word) (d : Dev), pageExists pg = true → s.dev.reaches i
    (pageBase pg + 0x01C) = some d → d.lockedWrite (pageBase pg + 0x01C) (v) = false → exec (.irqForce i
    pg v) s = .next (s.ends ((d.put (F.IRQ_RAW_BITS (pageBase pg)) (Nat.lor (d.get (F.IRQ_RAW_BITS
    (pageBase pg))) (irqGiven pg v).toNat)).renotify pg))) ∧
  -- (4) SOFT_RESET, taken with LOCK 0 on a page not in soft reset, leaves SOFT_RESET 1 and ENABLE 0.
  (∀ (s : State) (i : Init) (pg : Page) (d : Dev), pageExists pg = true → s.dev.reaches i (pageBase pg +
    0x008) = some d → d.lockedWrite (pageBase pg + 0x008) (d.wordWith (F.CTRL_SOFT_RESET (pageBase pg))
    1) = false → d.flag (F.CTRL_LOCK (pageBase pg)) = false → d.softReset pg = false → ∃ d' : Dev, exec
    (.softReset i pg) s = .next (s.ends d') ∧ d'.softReset pg = true ∧ d'.enabled pg = false) ∧
  -- (5) With LOCK 1 it fails with LOCKED.
  (∀ (s : State) (i : Init) (pg : Page) (d : Dev), pageExists pg = true → s.dev.reaches i (pageBase pg +
    0x008) = some d → d.lockedWrite (pageBase pg + 0x008) (d.wordWith (F.CTRL_SOFT_RESET (pageBase pg))
    1) = false → d.flag (F.CTRL_LOCK (pageBase pg)) = true → exec (.softReset i pg) s = .next (s.ends
    (d.failWrite i (pageBase pg + 0x008) (d.wordWith (F.CTRL_SOFT_RESET (pageBase pg)) 1) 0x0002))) ∧
  -- (6) SOFT_RESET_COMPLETE clears SOFT_RESET and changes nothing else.
  (∀ (s : State) (pg : Page), pageExists pg = true → s.dev.softReset pg = true → exec
    (.softResetComplete pg) s = .next (s.ends (s.dev.put (F.CTRL_SOFT_RESET (pageBase pg)) 0))) ∧
  -- (7) A read of IRQ_STAT on a released page that is not denied returns the bits of IRQ_RAW that
  -- IRQ_MASK passes.
  (∀ (d : Dev) (x : Identity) (i : Init) (pg : Page), pageExists pg = true → d.denied i pg 0x018 false =
    false → d.released pg = true → d.readReg x i (pageBase pg + 0x018) = some (BitVec.ofNat 32 (Nat.land
    (d.get (F.IRQ_RAW_BITS (pageBase pg))) (d.get (F.IRQ_MASK_BITS (pageBase pg))))))

/-- PCIe links, port resets and Precision Time Measurement (R32, R34, R40).
A write is taken where it reaches its register and no LOCK refuses it.
Log entries that say where the model chose on these rules: 9, 14, 201, 202, 203, 208, 209, 249, 260. -/
def Obligations.PortLinksAndTiming : Prop :=
  -- (1) PCIE_LINK_UP on a link that is down shows LINK_UP, width, speed and PTM Enable, restarts the
  -- posted-write number (the model's choice) and the PTM period, and raises LINK; nothing else changes.
  (∀ (s : State) (p : Fin 2) (width speed : Fin 8) (ptm : Bool), s.dev.released (.hb 1) = true →
    s.dev.linkUp p = false → exec (.pcieLinkUp p width speed ptm) s = .next (s.ends (((((((s.dev.modHb p
    (fun h => { h with ptmSince := s.dev.plat.aon })).put (F.HB_PORT_STAT_LINK_UP p) 1).put
    (F.HB_PORT_STAT_WIDTH p) width).put (F.HB_PORT_STAT_SPEED p) speed).putFlag (F.HB_PORT_STAT_PTM_EN
    p) ptm).put (F.HB_WSEQ_SEQ p) 0).raise (.hb (p + 1)) 3))) ∧
  -- (2) On a link that is up it only shows PTM Enable, where that does not rise.
  (∀ (s : State) (p : Fin 2) (width speed : Fin 8) (ptm : Bool), s.dev.released (.hb 1) = true →
    s.dev.linkUp p = true → (ptm = false ∨ s.dev.flag (F.HB_PORT_STAT_PTM_EN p) = true) → exec
    (.pcieLinkUp p width speed ptm) s = .next (s.ends (s.dev.putFlag (F.HB_PORT_STAT_PTM_EN p) ptm))) ∧
  -- (3) PCIE_PORT_RESET loads the reset value into every register R32 clears, ends what the port held
  -- besides, clears PTM Enable, keeps the write number, and takes the link down only where the row says
  -- so; registers outside the port's page and log-ring page stay.
  (∀ (s : State) (p : Fin 2) (linkDown : Bool), s.dev.released (.hb 1) = true → s.dev.linkUp p = true →
    ∃ d' : Dev, exec (.pciePortReset p linkDown) s = .next (s.ends d') ∧ d'.linkUp p = !linkDown ∧
    d'.port' p = {} ∧ d'.flag (F.HB_PORT_STAT_PTM_EN p) = false ∧ (∀ off : Fin 4096, portCleared off =
    true → d'.word (pageBase (.hb (p + 1)) + off) = resetWord (pageBase (.hb (p + 1)) + off)) ∧ d'.tl =
    s.dev.tl ∧ d'.gv = s.dev.gv ∧ d'.get (F.HB_WSEQ_SEQ p) = s.dev.get (F.HB_WSEQ_SEQ p) ∧ ∀ a, pageOf a
    ≠ some (.hb (p + 1)) → pageOf a ≠ some (.cp 2) → d'.word a = s.dev.word a) ∧
  -- (4) PTM_TRIGGER, taken with no dialogue running, starts one: T1 is taken, the request leaves,
  -- TRIGGER reads 1, other registers stay.
  (∀ (s : State) (i : Init) (p : Fin 2) (d : Dev), s.dev.reaches i (R.HB_PTM_CTRL p) = some d →
    d.lockedWrite (R.HB_PTM_CTRL p) (d.wordWith (F.HB_PTM_CTRL_TRIGGER p) 1) = false → (d.port'
    p).dialogue = false → ∃ d' : Dev, exec (.ptmTrigger i p) s = .next (s.ends d') ∧ (d'.port' p) = {
    d.port' p with dialogue := true, ptmT1 := d.baseNs } ∧ d'.out = .ptmRequest p :: d.out ∧ d'.flag
    (F.HB_PTM_CTRL_TRIGGER p) = true ∧ ∀ a, a ≠ R.HB_PTM_CTRL p → d'.word a = d.word a) ∧
  -- (5) PTM_PERIOD_EXPIRE starts one where AUTO, PTM Enable and the link stand, PERIOD is not 0 and has
  -- passed; the registers stay.
  (∀ (s : State) (p : Fin 2), s.dev.linkUp p = true → s.dev.flag (F.HB_PORT_STAT_PTM_EN p) = true →
    s.dev.flag (F.HB_PTM_CTRL_AUTO p) = true → s.dev.get (F.HB_PTM_CTRL_PERIOD p) ≠ 0 → (s.dev.port'
    p).ptmSince + s.dev.get (F.HB_PTM_CTRL_PERIOD p) * 1000000 ≤ s.dev.plat.aon → (s.dev.port'
    p).dialogue = false → ∃ d' : Dev, exec (.ptmPeriodExpire p) s = .next (s.ends d') ∧ d'.port' p = {
    s.dev.port' p with ptmSince := (s.dev.port' p).ptmSince + s.dev.get (F.HB_PTM_CTRL_PERIOD p) *
                         1000000, dialogue := true, ptmT1 := s.dev.baseNs } ∧ d'.out = .ptmRequest p ::
    s.dev.out ∧ d'.regs = s.dev.regs) ∧
  -- (6) PTM_DIALOGUE_COMPLETE writes T1, T4, the master time and the delay, adds 1 to PTM_SEQ, clears
  -- TRIGGER, ends the dialogue, and leaves every other register.
  (∀ (s : State) (p : Fin 2) (master : BitVec 64) (delay : Word), (s.dev.port' p).dialogue = true → ∃ d'
    : Dev, exec (.ptmDialogueComplete p master delay) s = .next (s.ends d') ∧ d'.get (F.PTM_T1_NS p) =
    (s.dev.port' p).ptmT1 % 2 ^ 32 ∧ d'.get (F.PTM_T4_NS p) = s.dev.baseNs % 2 ^ 32 ∧ d'.get
    (F.PTM_MT_LO_NS p) = master.toNat % 2 ^ 32 ∧ d'.get (F.PTM_MT_HI_NS p) = master.toNat / 2 ^ 32 ∧
    d'.get (F.PTM_PDELAY_NS p) = delay.toNat ∧ d'.get (F.PTM_SEQ_COUNT p) = (s.dev.get (F.PTM_SEQ_COUNT
    p) + 1) % 2 ^ (F.PTM_SEQ_COUNT p).width ∧ d'.flag (F.HB_PTM_CTRL_TRIGGER p) = false ∧ d'.port' p = {
    s.dev.port' p with dialogue := false } ∧ d'.out = s.dev.out ∧ ∀ a, a ≠ R.PTM_T1 p → a ≠ R.PTM_T4 p →
    a ≠ R.PTM_MT_LO p → a ≠ R.PTM_MT_HI p → a ≠ R.PTM_PDELAY p → a ≠ R.PTM_SEQ p → a ≠ R.HB_PTM_CTRL p →
    d'.word a = s.dev.word a)

/-- DMA rings: enabling, stopping, the tail, a finished descriptor, a host-memory fault; the pacer (R13,
R34, R37, R38, R39, R234).
A write is taken where it reaches its register and no LOCK refuses it. A ring is busy while enabled or
finishing with HEAD not TAIL.
Log entries that say where the model chose on these rules: 9, 19, 22, 23, 24, 125, 194, 201, 202, 207,
228, 261, 262, 263, 264. -/
def Obligations.DmaRingCommands : Prop :=
  -- (1) DMA_RING_ENABLE of a KIND 0 or 1 ring, SIZE up to 12, sets ENABLE and changes no other register.
  (∀ (s : State) (i : Init) (p : Fin 2) (r : Fin 16) (d : Dev), s.dev.reaches i (R.RING_CFG p r) = some
    d → d.lockedWrite (R.RING_CFG p r) (d.wordWith (F.RING_CFG_ENABLE p r) 1) = false → d.flag
    (F.RING_CFG_ENABLE p r) = false → d.get (F.RING_CFG_SIZE p r) ≤ 12 → d.get (F.RING_CFG_KIND p r) ≤ 1
    → ∃ d' : Dev, exec (.dmaRingEnable i p r) s = .next (s.ends d') ∧ d'.flag (F.RING_CFG_ENABLE p r) =
    true ∧ (∀ a, a ≠ R.RING_CFG p r → d'.word a = d.word a) ∧ d'.port' p = { d.port' p with
      finishing := (d.port' p).finishing.filter (fun x => x != r.val), bufAt := tset (d.port' p).bufAt r
        d.baseNs }) ∧
  -- (2) The same for KIND 2 naming a log ring whose CONSUMER is its port and which no other ring drains.
  (∀ (s : State) (i : Init) (p : Fin 2) (r : Fin 16) (d : Dev), s.dev.reaches i (R.RING_CFG p r) = some
    d → d.lockedWrite (R.RING_CFG p r) (d.wordWith (F.RING_CFG_ENABLE p r) 1) = false → d.flag
    (F.RING_CFG_ENABLE p r) = false → d.get (F.RING_CFG_SIZE p r) ≤ 12 → d.get (F.RING_CFG_KIND p r) = 2
    → d.get (F.RING_CFG_SOURCE p r) < 16 → d.get (F.CP_RING_CFG_CONSUMER (d.get (F.RING_CFG_SOURCE p
    r))) = p + 1 → d.ringShared p r 2 (d.get (F.RING_CFG_SOURCE p r)) = false → ∃ d' : Dev, exec
    (.dmaRingEnable i p r) s = .next (s.ends d') ∧ d'.flag (F.RING_CFG_ENABLE p r) = true ∧ ∀ a, a ≠
    R.RING_CFG p r → d'.word a = d.word a) ∧
  -- (3) The same for KIND 3, which device-to-host names a Grove queue no other ring drains.
  (∀ (s : State) (i : Init) (p : Fin 2) (r : Fin 16) (d : Dev), s.dev.reaches i (R.RING_CFG p r) = some
    d → d.lockedWrite (R.RING_CFG p r) (d.wordWith (F.RING_CFG_ENABLE p r) 1) = false → d.flag
    (F.RING_CFG_ENABLE p r) = false → d.get (F.RING_CFG_SIZE p r) ≤ 12 → d.get (F.RING_CFG_KIND p r) = 3
    → (d.flag (F.RING_CFG_DIR p r) = false ∨ (d.get (F.RING_CFG_SOURCE p r) < 16 ∧ d.ringShared p r 3
    (d.get (F.RING_CFG_SOURCE p r)) = false)) → ∃ d' : Dev, exec (.dmaRingEnable i p r) s = .next
    (s.ends d') ∧ d'.flag (F.RING_CFG_ENABLE p r) = true ∧ ∀ a, a ≠ R.RING_CFG p r → d'.word a = d.word
    a) ∧
  -- (4) SIZE above 12, and KIND 2 with another CONSUMER, fail with 0x0100.
  (∀ (s : State) (i : Init) (p : Fin 2) (r : Fin 16) (d : Dev), s.dev.reaches i (R.RING_CFG p r) = some
    d → d.lockedWrite (R.RING_CFG p r) (d.wordWith (F.RING_CFG_ENABLE p r) 1) = false → d.flag
    (F.RING_CFG_ENABLE p r) = false → (12 < d.get (F.RING_CFG_SIZE p r) ∨ (d.get (F.RING_CFG_KIND p r) =
    2 ∧ d.get (F.CP_RING_CFG_CONSUMER (d.get (F.RING_CFG_SOURCE p r))) ≠ p + 1)) → exec (.dmaRingEnable
    i p r) s = .next (s.ends (d.failWrite i (R.RING_CFG p r) (d.wordWith (F.RING_CFG_ENABLE p r) 1)
    0x0100))) ∧
  -- (5) DMA_RING_STOP of an enabled ring clears ENABLE; a busy ring finishes its descriptor.
  (∀ (s : State) (i : Init) (p : Fin 2) (r : Fin 16) (d : Dev), s.dev.reaches i (R.RING_CFG p r) = some
    d → d.lockedWrite (R.RING_CFG p r) (d.wordWith (F.RING_CFG_ENABLE p r) 0) = false → d.flag
    (F.RING_CFG_ENABLE p r) = true → ∃ d' : Dev, exec (.dmaRingStop i p r) s = .next (s.ends d') ∧
    d'.flag (F.RING_CFG_ENABLE p r) = false ∧ (∀ a, a ≠ R.RING_CFG p r → d'.word a = d.word a) ∧
    (d'.port' p).finishing = if d.ringBusy p r then r.val :: (d.port' p).finishing else (d.port'
    p).finishing) ∧
  -- (6) DMA_RING_TAIL sets TAIL and changes no other register.
  (∀ (s : State) (i : Init) (p : Fin 2) (r : Fin 16) (tail : BitVec 16) (d : Dev), s.dev.reaches i
    (R.RING_TAIL p r) = some d → d.lockedWrite (R.RING_TAIL p r) (tail.setWidth 32) = false → ∃ d' :
    Dev, exec (.dmaRingTail i p r tail) s = .next (s.ends d') ∧ d'.get (F.RING_TAIL_INDEX p r) =
    tail.toNat ∧ (∀ a, a ≠ R.RING_TAIL p r → d'.word a = d.word a) ∧ d'.port' p = { d.port' p with
      bufAt := if d.get (F.RING_HEAD_INDEX p r) = d.get (F.RING_TAIL_INDEX p r) then tset (d.port'
        p).bufAt r d.baseNs else (d.port' p).bufAt }) ∧
  -- (7) DMA_DESCRIPTOR_DONE, device to host, what fits the buffer: the data and its write-back with DONE
  -- and EOP leave, HEAD advances, the item is gone.
  (∀ (s : State) (p : Fin 2) (r : Fin 16) (x : Descriptor) (it : BackItem) (t : List BackItem),
    s.dev.ringBusy p r = true → s.dev.flag (F.RING_CFG_DIR p r) = true → (s.dev.get (F.RING_CFG_KIND p
    r) ≤ 1 ∨ (s.dev.get (F.RING_CFG_KIND p r) = 3 ∧ it.pdu = none)) → s.dev.get (F.RING_CFG_SIZE p r) ≤
    12 → tget (s.dev.port' p).back r = it :: t → it.data.length ≤ x.len.toNat → ∃ d' : Dev, exec
    (.dmaDescriptorDone p r x) s = .next (s.ends d') ∧ (x.irq = false → d'.out = .descriptor p r
    (s.dev.get (F.RING_HEAD_INDEX p r)) (some it.data.length) (1 + 8 + 16 * boolNat it.event) it.stamp
    :: .hostData p r it.data :: s.dev.out) ∧ d'.get (F.RING_HEAD_INDEX p r) = (s.dev.get
    (F.RING_HEAD_INDEX p r) + 1) % 2 ^ (s.dev.get (F.RING_CFG_SIZE p r) + 4) ∧ tget (d'.port' p).back r
    = t ∧ ∀ a, a ≠ R.RING_HEAD p r → d'.word a = s.dev.word a) ∧
  -- (8) What does not fit fills the buffer, without EOP; the rest waits.
  (∀ (s : State) (p : Fin 2) (r : Fin 16) (x : Descriptor) (it : BackItem) (t : List BackItem),
    s.dev.ringBusy p r = true → s.dev.flag (F.RING_CFG_DIR p r) = true → (s.dev.get (F.RING_CFG_KIND p
    r) ≤ 1 ∨ (s.dev.get (F.RING_CFG_KIND p r) = 3 ∧ it.pdu = none)) → s.dev.get (F.RING_CFG_SIZE p r) ≤
    12 → tget (s.dev.port' p).back r = it :: t → x.len.toNat < it.data.length → ∃ d' : Dev, exec
    (.dmaDescriptorDone p r x) s = .next (s.ends d') ∧ (x.irq = false → d'.out = .descriptor p r
    (s.dev.get (F.RING_HEAD_INDEX p r)) (some x.len.toNat) (1 + 16 * boolNat it.event) it.stamp ::
    .hostData p r (it.data.take x.len.toNat) :: s.dev.out) ∧ d'.get (F.RING_HEAD_INDEX p r) = (s.dev.get
    (F.RING_HEAD_INDEX p r) + 1) % 2 ^ (s.dev.get (F.RING_CFG_SIZE p r) + 4) ∧ tget (d'.port' p).back r
    = { it with data := it.data.drop x.len.toNat, pdu := none } :: t ∧ ∀ a, a ≠ R.RING_HEAD p r →
    d'.word a = s.dev.word a) ∧
  -- (9) A PDU that fits is delivered likewise (HEAD, queue).
  (∀ (s : State) (p : Fin 2) (r : Fin 16) (x : Descriptor) (it : BackItem) (t : List BackItem),
    s.dev.ringBusy p r = true → s.dev.flag (F.RING_CFG_DIR p r) = true → s.dev.get (F.RING_CFG_KIND p r)
    = 3 → it.pdu.isSome = true → s.dev.get (F.RING_CFG_SIZE p r) ≤ 12 → tget (s.dev.port' p).back r = it
    :: t → it.data.length ≤ x.len.toNat → ∃ d' : Dev, exec (.dmaDescriptorDone p r x) s = .next (s.ends
    d') ∧ d'.get (F.RING_HEAD_INDEX p r) = (s.dev.get (F.RING_HEAD_INDEX p r) + 1) % 2 ^ (s.dev.get
    (F.RING_CFG_SIZE p r) + 4) ∧ tget (d'.port' p).back r = t) ∧
  -- (10) KIND 2: the records, or the part of one, that fill the buffer leave and HEAD and RPTR alone
  -- advance.
  (∀ (s : State) (p : Fin 2) (r : Fin 16) (x : Descriptor) (n : Nat), s.dev.ringBusy p r = true →
    s.dev.flag (F.RING_CFG_DIR p r) = true → s.dev.get (F.RING_CFG_KIND p r) = 2 → s.dev.get
    (F.RING_CFG_SIZE p r) ≤ 12 → s.dev.get (F.RING_CFG_SOURCE p r) < 16 → s.dev.get
    (F.CP_RING_CFG_CONSUMER (s.dev.get (F.RING_CFG_SOURCE p r))) = p.val + 1 → s.dev.flag
    F.CP_MEM_STAT_SELF_REFRESH = false → fillRecs x.len.toNat 0 (s.dev.recLens (s.dev.get
    (F.RING_CFG_SOURCE p r))) = (n, true) → n ≠ 0 → x.ecc = 0 → x.irq = false → ∃ d' : Dev, exec
    (.dmaDescriptorDone p r x) s = .next (s.ends d') ∧ d'.out.tail = .hostData p r (takeBytes n
    (s.dev.ring (s.dev.get (F.RING_CFG_SOURCE p r))).cut 0 (s.dev.ring (s.dev.get (F.RING_CFG_SOURCE p
    r))).recs).1 :: s.dev.out ∧ d'.get (F.RING_HEAD_INDEX p r) = (s.dev.get (F.RING_HEAD_INDEX p r) + 1)
    % 2 ^ (s.dev.get (F.RING_CFG_SIZE p r) + 4) ∧ (d'.ring (s.dev.get (F.RING_CFG_SOURCE p r))).recs =
    (cutBytes n (s.dev.ring (s.dev.get (F.RING_CFG_SOURCE p r))).cut (s.dev.ring (s.dev.get
    (F.RING_CFG_SOURCE p r))).recs).1 ∧ ∀ a, a ≠ R.RING_HEAD p r → a ≠ R.CP_RING_RPTR (s.dev.get
    (F.RING_CFG_SOURCE p r)) → d'.word a = s.dev.word a) ∧
  -- (11) KIND 1: bytes that the management firmware answers leave, and HEAD alone advances.
  (∀ (s : State) (p : Fin 2) (r : Fin 16) (x : Descriptor), s.dev.ringBusy p r = true → s.dev.flag
    (F.RING_CFG_DIR p r) = true → s.dev.get (F.RING_CFG_KIND p r) = 1 → s.dev.get (F.RING_CFG_SIZE p r)
    ≤ 12 → tget (s.dev.port' p).back r = [] → x.data ≠ [] → x.data.length ≤ x.len.toNat → ∃ d' : Dev,
    exec (.dmaDescriptorDone p r x) s = .next (s.ends d') ∧ (x.irq = false → d'.out.tail = .hostData p r
    x.data :: s.dev.out) ∧ d'.get (F.RING_HEAD_INDEX p r) = (s.dev.get (F.RING_HEAD_INDEX p r) + 1) % 2
    ^ (s.dev.get (F.RING_CFG_SIZE p r) + 4) ∧ ∀ a, a ≠ R.RING_HEAD p r → d'.word a = s.dev.word a) ∧
  -- (12) Before they fill it, or with another CONSUMER, nothing happens.
  (∀ (s : State) (p : Fin 2) (r : Fin 16) (x : Descriptor) (n : Nat) (b : Bool), s.dev.ringBusy p r =
    true → s.dev.flag (F.RING_CFG_DIR p r) = true → s.dev.get (F.RING_CFG_KIND p r) = 2 → fillRecs
    x.len.toNat 0 (s.dev.recLens (s.dev.get (F.RING_CFG_SOURCE p r))) = (n, b) → (b = false ∨ s.dev.get
    (F.CP_RING_CFG_CONSUMER (s.dev.get (F.RING_CFG_SOURCE p r))) ≠ p.val + 1) → exec (.dmaDescriptorDone
    p r x) s = .next (s.ends (s.dev))) ∧
  -- (13) Host to device without EOP: bytes are gathered.
  (∀ (s : State) (p : Fin 2) (r : Fin 16) (x : Descriptor), s.dev.ringBusy p r = true → s.dev.flag
    (F.RING_CFG_DIR p r) = false → x.eop = false → ∃ d' : Dev, exec (.dmaDescriptorDone p r x) s = .next
    (s.ends d') ∧ tget (d'.port' p).part r = tget (s.dev.port' p).part r ++ Sys2Proof.Machine.slice
    x.data 0 x.len.toNat ∧ d'.get (F.RING_HEAD_INDEX p r) = (s.dev.get (F.RING_HEAD_INDEX p r) + 1) % 2
    ^ (s.dev.get (F.RING_CFG_SIZE p r) + 4) % 2 ^ 16 ∧ ∀ a, a ≠ R.RING_HEAD p r → d'.word a = s.dev.word
    a) ∧
  -- (14) KIND 1 with EOP: the request goes to the mailbox.
  (∀ (s : State) (p : Fin 2) (r : Fin 16) (x : Descriptor), s.dev.ringBusy p r = true → s.dev.flag
    (F.RING_CFG_DIR p r) = false → s.dev.get (F.RING_CFG_KIND p r) = 1 → x.eop = true → ∃ d' : Dev, exec
    (.dmaDescriptorDone p r x) s = .next (s.ends d') ∧ d'.out.head? = some (.mailbox p r (tget
    (s.dev.port' p).part r ++ Sys2Proof.Machine.slice x.data 0 x.len.toNat)) ∧ d'.get (F.RING_HEAD_INDEX
    p r) = (s.dev.get (F.RING_HEAD_INDEX p r) + 1) % 2 ^ (s.dev.get (F.RING_CFG_SIZE p r) + 4) % 2 ^ 16
    ∧ tget (d'.port' p).part r = [] ∧ ∀ a, a ≠ R.RING_HEAD p r → d'.word a = s.dev.word a) ∧
  -- (15) KIND 3 with EOP: the PDU joins Grove's empty queue.
  (∀ (s : State) (p : Fin 2) (r : Fin 16) (x : Descriptor), s.dev.ringBusy p r = true → s.dev.flag
    (F.RING_CFG_DIR p r) = false → s.dev.get (F.RING_CFG_KIND p r) = 3 → x.eop = true → tget
    s.dev.gv.hostIn p = [] → ∃ d' : Dev, exec (.dmaDescriptorDone p r x) s = .next (s.ends d') ∧ tget
    d'.gv.hostIn p = [{ data := tget (s.dev.port' p).part r ++ Sys2Proof.Machine.slice x.data 0
                          x.len.toNat, ns := s.dev.baseNs }] ∧ d'.get (F.RING_HEAD_INDEX p r) =
    (s.dev.get (F.RING_HEAD_INDEX p r) + 1) % 2 ^ (s.dev.get (F.RING_CFG_SIZE p r) + 4) % 2 ^ 16 ∧ tget
    (d'.port' p).part r = [] ∧ ∀ a, a ≠ R.RING_HEAD p r → d'.word a = s.dev.word a) ∧
  -- (16) KIND 0 with EOP: the frame, with 4 bytes of FCS, enters the port's switch port.
  (∀ (s : State) (p : Fin 2) (r : Fin 16) (x : Descriptor), s.dev.ringBusy p r = true → s.dev.flag
    (F.RING_CFG_DIR p r) = false → s.dev.get (F.RING_CFG_KIND p r) = 0 → x.eop = true → (s.dev.port (24
    + p)).rx = [] → ∃ d' : Dev, exec (.dmaDescriptorDone p r x) s = .next (s.ends d') ∧ (d'.port (24 +
    p)).rx.map (·.bytes) = [tget (s.dev.port' p).part r ++ Sys2Proof.Machine.slice x.data 0 x.len.toNat
    ++ List.replicate 4 0] ∧ tget (d'.port' p).part r = []) ∧
  -- (17) DMA_FAULT writes back ERR and the status, clears ENABLE, drops what was gathered, records
  -- DMA_FAULT 0x0100; nothing else.
  (∀ (s : State) (p : Fin 2) (r : Fin 16) (timeout : Bool), s.dev.ringBusy p r = true → exec (.dmaFault
    p r timeout) s = .next (s.ends ((((s.dev.emit (.descriptor p r (s.dev.get (F.RING_HEAD_INDEX p r))
    none (if timeout then 0x204 else 0x104) 0)).put (F.RING_CFG_ENABLE p r) 0).modHb p (fun h => { h
    with finishing := h.finishing.filter (fun y => y != r.val), part := tset h.part r [] })).recordErr
    (.hb (p + 1)) 15 (R.RING_CFG p r) 0x0100))) ∧
  -- (18) PACER_ADMIT opens port 26 to its next frame.
  (∀ (s : State) (frame : List Byte), s.dev.paceOpen 26 = true → exec (.pacerAdmit false frame) s =
    .next (s.ends (s.dev.modPort 26 (fun x => { x with
      admitted := true })))) ∧
  -- (19) With a frame of up to 9212 bytes it lets it into port 27 and spaces the next by its length at
  -- 10 Gb/s, at least 100 ns.
  (∀ (s : State) (frame : List Byte), s.dev.paceOpen 27 = true → frame ≠ [] → frame.length ≤ 9212 → exec
    (.pacerAdmit true frame) s = .next (s.ends ((s.dev.modPort 27 (fun x => { x with
      admitted := false, pace := s.dev.plat.aon * 10 + max 1000 ((frame.length + 4) * 8) })).enterPort
    27 frame true))) ∧
  -- (20) With none it opens port 27.
  (∀ (s : State), s.dev.paceOpen 27 = true → exec (.pacerAdmit true []) s = .next (s.ends (s.dev.modPort
    27 (fun x => { x with admitted := true }))))

/-- A snapshot of Timeline values, its completion, and the pop of an Echo queue (R43, R60).
A write is taken where it reaches its register and no LOCK refuses it.
Log entries that say where the model chose on these rules: 193, 215. -/
def Obligations.SnapshotAndEchoCommands : Prop :=
  -- (1) TL_SNAP, taken with SNAP = 0, captures Base time and each domain's value, EN and STEP_CNT at one
  -- tick, as they stood before a step applied at that tick, and SNAP reads 1; nothing else changes.
  (∀ (s : State) (i : Init) (d : Dev), s.dev.reaches i (R.TL_BASE_CTRL) = some d → d.lockedWrite
    (R.TL_BASE_CTRL) (1) = false → d.flag F.TL_BASE_CTRL_SNAP = false → exec (.tlSnap i) s = .next
    (s.ends (({ d with tl := { d.tl with snap := some ⟨d.base40, (List.range 4).map (fun k =>
                                           ((d.beforeStep k).1, d.domEn k, (d.beforeStep k).2))⟩ } } :
    Dev).put F.TL_BASE_CTRL_SNAP 1))) ∧
  -- (2) With SNAP = 1 the write joins the snapshot in progress: nothing changes.
  (∀ (s : State) (i : Init) (d : Dev), s.dev.reaches i (R.TL_BASE_CTRL) = some d → d.lockedWrite
    (R.TL_BASE_CTRL) (1) = false → d.flag F.TL_BASE_CTRL_SNAP = true → exec (.tlSnap i) s = .next
    (s.ends (d))) ∧
  -- (3) SNAP_COMPLETE writes what was captured into set 0 (Base, VALID 1) and into each domain's set
  -- (VALID its EN), adds 1 to SNAP_SEQ and clears SNAP; no register outside the page changes.
  (∀ (s : State) (sn : Snapshot), s.dev.tl.snap = some sn → ∃ d' : Dev, exec (.snapComplete) s = .next
    (s.ends d') ∧ d'.tl = { s.dev.tl with snap := none } ∧ d'.flag F.TL_BASE_CTRL_SNAP = false ∧ d'.get
    F.TL_BASE_STAT_SNAP_SEQ = (s.dev.get F.TL_BASE_STAT_SNAP_SEQ + 1) % 2 ^ 16 ∧ d'.get
    (F.SNAP_SEC_LO_SEC 0) = sn.base / 2 ^ 40 / 1000000000 % 2 ^ 32 ∧ d'.get (F.SNAP_SEC_HI_SEC 0) =
    sn.base / 2 ^ 40 / 1000000000 / 2 ^ 32 % 2 ^ 16 ∧ d'.get (F.SNAP_NS_NS 0) = sn.base / 2 ^ 40 %
    1000000000 ∧ d'.flag (F.SNAP_AUX_VALID 0) = true ∧ (∀ a, pageOf a ≠ some (.tl 0) → d'.word a =
    s.dev.word a) ∧ ∀ (k : Fin 4) (v c : Nat) (en : Bool), sn.doms[k.val]? = some (v, en, c) → d'.get
    (F.SNAP_SEC_LO_SEC (k + 1)) = v / 2 ^ 40 / 1000000000 % 2 ^ 32 ∧ d'.get (F.SNAP_SEC_HI_SEC (k + 1))
    = v / 2 ^ 40 / 1000000000 / 2 ^ 32 % 2 ^ 16 ∧ d'.get (F.SNAP_NS_NS (k + 1)) = v / 2 ^ 40 %
    1000000000 ∧ d'.get (F.SNAP_AUX_FRAC (k + 1)) = v / 2 ^ 24 % 2 ^ 16 ∧ d'.flag (F.SNAP_AUX_VALID (k +
    1)) = en ∧ d'.get (F.SNAP_AUX_STEP_CNT (k + 1)) = c % 2 ^ 8) ∧
  -- (4) Without a snapshot in progress SNAP_COMPLETE changes nothing.
  (∀ (s : State), s.dev.tl.snap = none → exec (.snapComplete) s = .next (s.ends (s.dev))) ∧
  -- (5) ECHO_POP by the owner removes the head entry of the queue.
  (∀ (s : State) (i : Init) (p : Fin 24) (d : Dev), s.dev.reaches i (R.ECHO_POP p) = some d →
    d.lockedWrite (R.ECHO_POP p) (1) = false → ownerIs (d.get (F.ECHO_CFG_OWNER p)) i = true → (tget
    d.tl.echo p).late = none → exec (.echoPop i p) s = .next (s.ends (d.modEcho p (fun q => { q with
      entries := q.entries.drop 1 })))) ∧
  -- (6) On a full queue it also stores the entry that the same tick found no room for, whose loss is not
  -- counted.
  (∀ (s : State) (i : Init) (p : Fin 24) (d : Dev) (e : EchoEntry) (lost run : Nat), s.dev.reaches i
    (R.ECHO_POP p) = some d → d.lockedWrite (R.ECHO_POP p) (1) = false → ownerIs (d.get
    (F.ECHO_CFG_OWNER p)) i = true → (tget d.tl.echo p).late = some (e, d.tl.ticks, lost, run) → (tget
    d.tl.echo p).entries.length = 64 → ∃ d' : Dev, exec (.echoPop i p) s = .next (s.ends d') ∧ tget
    d'.tl.echo p = { tget d.tl.echo p with entries := (tget d.tl.echo p).entries.drop 1 ++ [e], lostRun
                                             := 0, late := none } ∧ d'.get (F.ECHO_LOST_COUNT p) = lost
    % 2 ^ (F.ECHO_LOST_COUNT p).width ∧ (∀ a, a ≠ R.ECHO_LOST p → d'.word a = d.word a) ∧ ∀ k, k ≠ p.val
    → tget d'.tl.echo k = tget d.tl.echo k) ∧
  -- (7) ECHO_POP by another initiator is refused with ECHO_OWNER.
  (∀ (s : State) (i : Init) (p : Fin 24) (d : Dev), s.dev.reaches i (R.ECHO_POP p) = some d →
    d.lockedWrite (R.ECHO_POP p) (1) = false → ownerIs (d.get (F.ECHO_CFG_OWNER p)) i = false → exec
    (.echoPop i p) s = .next (s.ends (d.failWrite i (R.ECHO_POP p) 1 0x0106)))

/-- What the commands of a Timeline domain do (R44, R46, R47, R48, R51).
A write is taken where it reaches its register and no LOCK refuses it. Each clause leaves the other
domains and every register it does not name as they were.
Log entries that say where the model chose on these rules: 17, 26, 27, 29, 212. -/
def Obligations.DomainCommands : Prop :=
  -- (1) DOMAIN_ENABLE of a domain that is off gives it Base time's value, state ARMED and both runs at
  -- 0.
  (∀ (s : State) (i : Init) (dm : Fin 4) (d : Dev), s.dev.reaches i (R.DOM_CTRL dm) = some d →
    d.lockedWrite (R.DOM_CTRL dm) (d.domWord dm (F.DOM_CTRL_EN dm) 1) = false → d.domEn dm = false → ∃
    d' : Dev, exec (.domainEnable i dm) s = .next (s.ends d') ∧ d'.domEn dm = true ∧ d'.get
    (F.DOM_STATE_STATE dm) = 1 ∧ d'.get (F.DOM_STATE_LOCK_RUN dm) = 0 ∧ d'.get (F.DOM_STATE_REFUSE_RUN
    dm) = 0 ∧ tget d'.tl.dom dm = { tget d.tl.dom dm with
      val := d.base40, past := [] } ∧ (∀ k, k ≠ dm.val → tget d'.tl.dom k = tget d.tl.dom k) ∧ ∀ a, a ≠
    R.DOM_CTRL dm → a ≠ R.DOM_STATE dm → d'.word a = d.word a) ∧
  -- (2) Of one that is on it changes nothing but what DOM_CTRL stores.
  (∀ (s : State) (i : Init) (dm : Fin 4) (d : Dev), s.dev.reaches i (R.DOM_CTRL dm) = some d →
    d.lockedWrite (R.DOM_CTRL dm) (d.domWord dm (F.DOM_CTRL_EN dm) 1) = false → d.domEn dm = true → ∃ d'
    : Dev, exec (.domainEnable i dm) s = .next (s.ends d') ∧ d'.domEn dm = true ∧ d'.tl = d.tl ∧ ∀ a, a
    ≠ R.DOM_CTRL dm → d'.word a = d.word a) ∧
  -- (3) DOMAIN_DISABLE of one that nothing names turns it OFF; what it holds and an ARM are dropped, and
  -- a sample whose handling has begun completes.
  (∀ (s : State) (i : Init) (dm : Fin 4) (d : Dev), s.dev.reaches i (R.DOM_CTRL dm) = some d →
    d.lockedWrite (R.DOM_CTRL dm) (d.domWord dm (F.DOM_CTRL_EN dm) 0) = false → d.domEn dm = true →
    d.domNamed dm = false → ∃ d' : Dev, exec (.domainDisable i dm) s = .next (s.ends d') ∧ d'.domEn dm =
    false ∧ d'.get (F.DOM_STATE_STATE dm) = 0 ∧ tget d'.tl.dom dm = { tget d.tl.dom dm with
      running := (tget d.tl.dom dm).running.filter (fun x => !isArm x.1), held := [] } ∧ (∀ k, k ≠
    dm.val → tget d'.tl.dom k = tget d.tl.dom k) ∧ ∀ a, a ≠ R.DOM_CTRL dm → a ≠ R.DOM_STATE dm → d'.word
    a = d.word a) ∧
  -- (4) Of one that something names it is refused with 0x0105.
  (∀ (s : State) (i : Init) (dm : Fin 4) (d : Dev), s.dev.reaches i (R.DOM_CTRL dm) = some d →
    d.lockedWrite (R.DOM_CTRL dm) (d.domWord dm (F.DOM_CTRL_EN dm) 0) = false → d.domEn dm = true →
    d.domNamed dm = true → exec (.domainDisable i dm) s = .next (s.ends (d.failWrite i (R.DOM_CTRL dm)
    (d.domWord dm (F.DOM_CTRL_EN dm) 0) 0x0105))) ∧
  -- (5) DOMAIN_ARM of an idle domain begins the handling of the ARM.
  (∀ (s : State) (i : Init) (dm : Fin 4) (d : Dev), s.dev.reaches i (R.DOM_CTRL dm) = some d →
    d.lockedWrite (R.DOM_CTRL dm) (d.wordWith (F.DOM_CTRL_ARM dm) 1) = false → d.domEn dm = true → (tget
    d.tl.dom dm).running = none → ∃ d' : Dev, exec (.domainArm i dm) s = .next (s.ends d') ∧ tget
    d'.tl.dom dm = { tget d.tl.dom dm with running := some (.arm, d.tl.ticks, d.get (F.DOM_STATE_STATE
                                             dm)) } ∧ (∀ k, k ≠ dm.val → tget d'.tl.dom k = tget
    d.tl.dom k) ∧ ∀ a, a ≠ R.DOM_CTRL dm → d'.word a = d.word a) ∧
  -- (6) While a sample is handled the ARM is held behind it; one ARM joins another.
  (∀ (s : State) (i : Init) (dm : Fin 4) (d : Dev) (x : Handling × Nat × Nat), s.dev.reaches i
    (R.DOM_CTRL dm) = some d → d.lockedWrite (R.DOM_CTRL dm) (d.wordWith (F.DOM_CTRL_ARM dm) 1) = false
    → d.domEn dm = true → (tget d.tl.dom dm).running = some x → ∃ d' : Dev, exec (.domainArm i dm) s =
    .next (s.ends d') ∧ tget d'.tl.dom dm = (if isArm x.1 || (tget d.tl.dom dm).held.any isArm then tget
    d.tl.dom dm else { tget d.tl.dom dm with held := (tget d.tl.dom dm).held ++ [.arm] }) ∧ (∀ k, k ≠
    dm.val → tget d'.tl.dom k = tget d.tl.dom k) ∧ ∀ a, a ≠ R.DOM_CTRL dm → d'.word a = d.word a) ∧
  -- (7) DOMAIN_ARM of a domain with EN = 0 is refused with 0x0104.
  (∀ (s : State) (i : Init) (dm : Fin 4) (d : Dev), s.dev.reaches i (R.DOM_CTRL dm) = some d →
    d.lockedWrite (R.DOM_CTRL dm) (d.wordWith (F.DOM_CTRL_ARM dm) 1) = false → d.domEn dm = false → exec
    (.domainArm i dm) s = .next (s.ends (d.failWrite i (R.DOM_CTRL dm) (d.wordWith (F.DOM_CTRL_ARM dm)
    1) 0x0104))) ∧
  -- (8) DOMAIN_ARM_DONE, 2 ticks after the handling began, leaves ARMED, both runs 0 and the integrator
  -- preloaded, and the first of what is held begins at that tick.
  (∀ (s : State) (dm : Fin 4) (t x : Nat), (tget s.dev.tl.dom dm).running = some (.arm, t, x) → t + 2 ≤
    s.dev.tl.ticks → ∃ d' : Dev, exec (.domainArmDone dm) s = .next (s.ends d') ∧ d'.get
    (F.DOM_STATE_STATE dm) = 1 ∧ d'.get (F.DOM_STATE_LOCK_RUN dm) = 0 ∧ d'.get (F.DOM_STATE_REFUSE_RUN
    dm) = 0 ∧ tget d'.tl.dom dm = { tget s.dev.tl.dom dm with
      running := (tget s.dev.tl.dom dm).held.head?.map (fun h => (h, t + 2, 1)), held := (tget
        s.dev.tl.dom dm).held.drop 1, integ := -(tget s.dev.tl.dom dm).rate * 2 ^ 24 } ∧ (∀ k, k ≠
    dm.val → tget d'.tl.dom k = tget s.dev.tl.dom k) ∧ ∀ a, a ≠ R.DOM_STATE dm → d'.word a = s.dev.word
    a) ∧
  -- (9) Before that it changes nothing.
  (∀ (s : State) (dm : Fin 4) (t x : Nat), (tget s.dev.tl.dom dm).running = some (.arm, t, x) →
    s.dev.tl.ticks < t + 2 → exec (.domainArmDone dm) s = .next (s.ends (s.dev))) ∧
  -- (10) DOMAIN_SAMPLE_SUBMIT to an idle domain captures the sample registers and begins its handling.
  (∀ (s : State) (i : Init) (dm : Fin 4) (d : Dev), s.dev.reaches i (R.DOM_SAMPLE_GO dm) = some d →
    d.lockedWrite (R.DOM_SAMPLE_GO dm) (1) = false → d.get (F.DOM_SAMPLE_NS_NS dm) < 1000000000 →
    d.domEn dm = true → (tget d.tl.dom dm).running = none → exec (.domainSampleSubmit i dm) s = .next
    (s.ends (d.modDom dm (fun x => { x with running := some (.sample (d.sampleHeld dm) i, d.tl.ticks,
                                              d.get (F.DOM_STATE_STATE dm)) })))) ∧
  -- (11) While something is handled it is held behind an ARM and in place of a sample held before, which
  -- is counted as ignored.
  (∀ (s : State) (i : Init) (dm : Fin 4) (d : Dev) (x : Handling × Nat × Nat), s.dev.reaches i
    (R.DOM_SAMPLE_GO dm) = some d → d.lockedWrite (R.DOM_SAMPLE_GO dm) (1) = false → d.get
    (F.DOM_SAMPLE_NS_NS dm) < 1000000000 → d.domEn dm = true → (tget d.tl.dom dm).running = some x →
    exec (.domainSampleSubmit i dm) s = .next (s.ends ((if (tget d.tl.dom dm).held.any (fun x => !isArm
    x) then d.bump (F.DOM_IGNORED_COUNT dm) else d).modDom dm (fun y => { y with
      held := y.held.filter isArm ++ [.sample (d.sampleHeld dm) i] })))) ∧
  -- (12) A sample of 1 000 000 000 ns or more is refused with 0x0103.
  (∀ (s : State) (i : Init) (dm : Fin 4) (d : Dev), s.dev.reaches i (R.DOM_SAMPLE_GO dm) = some d →
    d.lockedWrite (R.DOM_SAMPLE_GO dm) (1) = false → 1000000000 ≤ d.get (F.DOM_SAMPLE_NS_NS dm) → exec
    (.domainSampleSubmit i dm) s = .next (s.ends (d.failWrite i (R.DOM_SAMPLE_GO dm) 1 0x0103))) ∧
  -- (13) One to a domain with EN = 0 is refused with 0x0104.
  (∀ (s : State) (i : Init) (dm : Fin 4) (d : Dev), s.dev.reaches i (R.DOM_SAMPLE_GO dm) = some d →
    d.lockedWrite (R.DOM_SAMPLE_GO dm) (1) = false → d.get (F.DOM_SAMPLE_NS_NS dm) < 1000000000 →
    d.domEn dm = false → exec (.domainSampleSubmit i dm) s = .next (s.ends (d.failWrite i
    (R.DOM_SAMPLE_GO dm) 1 0x0104)))

/-- The handling of a sample by the domain's state, and the writes of RATE (R45, R47, R49, R51).
A write is taken where it reaches its register and no LOCK refuses it. DOMAIN_SAMPLE_HANDLED acts 16
ticks after the handling began, by the state in which it began.
Log entries that say where the model chose on these rules: 26, 27, 211. -/
def Obligations.DomainSamplesAndRate : Prop :=
  -- (1) LOCKED, software servo: a sample within JUMP_LIMIT is accepted and REFUSE_RUN is 0.
  (∀ (s : State) (dm : Fin 4) (x : Int) (who : Init) (t : Nat), (tget s.dev.tl.dom dm).running = some
    (.sample x who, t, 3) → t + 16 ≤ s.dev.tl.ticks → s.dev.flag (F.DOM_CTRL_SERVO dm) = true → x.natAbs
    ≤ s.dev.get (F.DOM_JUMP_LIMIT_NS dm) * 2 ^ 16 → exec (.domainSampleHandled dm) s = .next (s.ends
    (((s.dev.bump (F.DOM_ACCEPTED_COUNT dm)).put (F.DOM_STATE_REFUSE_RUN dm) 0).nextHandling dm (t +
    16)))) ∧
  -- (2) LOCKED, hardware servo: the accepted sample also goes through the servo.
  (∀ (s : State) (dm : Fin 4) (x : Int) (who : Init) (t : Nat), (tget s.dev.tl.dom dm).running = some
    (.sample x who, t, 3) → t + 16 ≤ s.dev.tl.ticks → s.dev.flag (F.DOM_CTRL_SERVO dm) = false →
    x.natAbs ≤ s.dev.get (F.DOM_JUMP_LIMIT_NS dm) * 2 ^ 16 → exec (.domainSampleHandled dm) s = .next
    (s.ends ((((s.dev.bump (F.DOM_ACCEPTED_COUNT dm)).servo dm x).put (F.DOM_STATE_REFUSE_RUN dm)
    0).nextHandling dm (t + 16)))) ∧
  -- (3) LOCKED, a sample beyond JUMP_LIMIT: refused, counted in REFUSED and REFUSE_RUN, event 3; below 8
  -- in a row the state stays.
  (∀ (s : State) (dm : Fin 4) (x : Int) (who : Init) (t : Nat), (tget s.dev.tl.dom dm).running = some
    (.sample x who, t, 3) → t + 16 ≤ s.dev.tl.ticks → s.dev.get (F.DOM_JUMP_LIMIT_NS dm) * 2 ^ 16 <
    x.natAbs → s.dev.get (F.DOM_STATE_REFUSE_RUN dm) < 7 → exec (.domainSampleHandled dm) s = .next
    (s.ends ((((s.dev.bump (F.DOM_REFUSED_COUNT dm)).put (F.DOM_STATE_REFUSE_RUN dm) (s.dev.get
    (F.DOM_STATE_REFUSE_RUN dm) + 1)).raise (.tl (1 + dm)) 3).nextHandling dm (t + 16)))) ∧
  -- (4) The eighth in a row of an enabled domain turns it LOST with event 4.
  (∀ (s : State) (dm : Fin 4) (x : Int) (who : Init) (t : Nat), (tget s.dev.tl.dom dm).running = some
    (.sample x who, t, 3) → t + 16 ≤ s.dev.tl.ticks → s.dev.get (F.DOM_JUMP_LIMIT_NS dm) * 2 ^ 16 <
    x.natAbs → s.dev.get (F.DOM_STATE_REFUSE_RUN dm) = 7 → s.dev.domEn dm = true → exec
    (.domainSampleHandled dm) s = .next (s.ends (((((((s.dev.bump (F.DOM_REFUSED_COUNT dm)).put
    (F.DOM_STATE_REFUSE_RUN dm) 8).raise (.tl (1 + dm)) 3).put (F.DOM_STATE_STATE dm) 4).raise (.tl (1 +
    dm)) 4)).nextHandling dm (t + 16)))) ∧
  -- (5) TRACKING, software servo: accepted; LOCK_RUN grows by a sample within LOCK_THRESH, or starts
  -- again, and below LOCK_SAMPLES the state stays.
  (∀ (s : State) (dm : Fin 4) (x : Int) (who : Init) (t run : Nat), (tget s.dev.tl.dom dm).running =
    some (.sample x who, t, 2) → t + 16 ≤ s.dev.tl.ticks → s.dev.flag (F.DOM_CTRL_SERVO dm) = true → run
    = (if x.natAbs ≤ s.dev.get (F.DOM_LOCK_LOCK_THRESH dm) * 2 ^ 16 then satAdd 4 (s.dev.get
    (F.DOM_STATE_LOCK_RUN dm)) 1 else 0) → run < s.dev.get (F.DOM_LOCK_LOCK_SAMPLES dm) → exec
    (.domainSampleHandled dm) s = .next (s.ends (((s.dev.bump (F.DOM_ACCEPTED_COUNT dm)).put
    (F.DOM_STATE_LOCK_RUN dm) run).nextHandling dm (t + 16)))) ∧
  -- (6) At LOCK_SAMPLES an enabled domain turns LOCKED with event 2.
  (∀ (s : State) (dm : Fin 4) (x : Int) (who : Init) (t run : Nat), (tget s.dev.tl.dom dm).running =
    some (.sample x who, t, 2) → t + 16 ≤ s.dev.tl.ticks → s.dev.flag (F.DOM_CTRL_SERVO dm) = true →
    s.dev.domEn dm = true → run = (if x.natAbs ≤ s.dev.get (F.DOM_LOCK_LOCK_THRESH dm) * 2 ^ 16 then
    satAdd 4 (s.dev.get (F.DOM_STATE_LOCK_RUN dm)) 1 else 0) → s.dev.get (F.DOM_LOCK_LOCK_SAMPLES dm) ≤
    run → exec (.domainSampleHandled dm) s = .next (s.ends (((((s.dev.bump (F.DOM_ACCEPTED_COUNT
    dm)).put (F.DOM_STATE_LOCK_RUN dm) run).put (F.DOM_STATE_STATE dm) 3).raise (.tl (1 + dm))
    2).nextHandling dm (t + 16)))) ∧
  -- (7) TRACKING, hardware servo: the same through the servo; below LOCK_SAMPLES the state stays.
  (∀ (s : State) (dm : Fin 4) (x : Int) (who : Init) (t run : Nat), (tget s.dev.tl.dom dm).running =
    some (.sample x who, t, 2) → t + 16 ≤ s.dev.tl.ticks → s.dev.flag (F.DOM_CTRL_SERVO dm) = false →
    run = (if x.natAbs ≤ s.dev.get (F.DOM_LOCK_LOCK_THRESH dm) * 2 ^ 16 then satAdd 4 (s.dev.get
    (F.DOM_STATE_LOCK_RUN dm)) 1 else 0) → run < s.dev.get (F.DOM_LOCK_LOCK_SAMPLES dm) → exec
    (.domainSampleHandled dm) s = .next (s.ends ((((s.dev.bump (F.DOM_ACCEPTED_COUNT dm)).servo dm
    x).put (F.DOM_STATE_LOCK_RUN dm) run).nextHandling dm (t + 16)))) ∧
  -- (8) At LOCK_SAMPLES an enabled domain turns LOCKED with event 2 under the hardware servo too.
  (∀ (s : State) (dm : Fin 4) (x : Int) (who : Init) (t run : Nat), (tget s.dev.tl.dom dm).running =
    some (.sample x who, t, 2) → t + 16 ≤ s.dev.tl.ticks → s.dev.flag (F.DOM_CTRL_SERVO dm) = false →
    s.dev.domEn dm = true → run = (if x.natAbs ≤ s.dev.get (F.DOM_LOCK_LOCK_THRESH dm) * 2 ^ 16 then
    satAdd 4 (s.dev.get (F.DOM_STATE_LOCK_RUN dm)) 1 else 0) → s.dev.get (F.DOM_LOCK_LOCK_SAMPLES dm) ≤
    run → exec (.domainSampleHandled dm) s = .next (s.ends ((((((s.dev.bump (F.DOM_ACCEPTED_COUNT
    dm)).servo dm x).put (F.DOM_STATE_LOCK_RUN dm) run).put (F.DOM_STATE_STATE dm) 3).raise (.tl (1 +
    dm)) 2).nextHandling dm (t + 16)))) ∧
  -- (9) A step whose domain has been disabled since applies too, with event 1; the state stays.
  (∀ (s : State) (dm : Fin 4) (x : Int) (who : Init) (t : Nat), (tget s.dev.tl.dom dm).running = some
    (.sample x who, t, 1) → t + 16 ≤ s.dev.tl.ticks → s.dev.domEn dm = false → 0 ≤ ((tget s.dev.tl.dom
    dm).val : Int) - x * 2 ^ 24 → (∀ e ∈ s.dev.canopy.wheel, wheelValid e.2 = false ∨ wheelBase e.2 ≠ dm
    + 1) → exec (.domainSampleHandled dm) s = .next (s.ends (((((((s.dev.markDom dm).modDom dm (fun y =>
    { y with val := ((y.val : Int) - x * 2 ^ 24).toNat, integ := -y.rate * 2 ^ 24 })).bumpWrap
    (F.DOM_STATE_STEP_CNT dm)).bump (F.DOM_ACCEPTED_COUNT dm)).raise (.tl (1 + dm)) 1)).nextHandling dm
    (t + 16)))) ∧
  -- (10) LOST: the sample is ignored and counted.
  (∀ (s : State) (dm : Fin 4) (x : Int) (who : Init) (t : Nat), (tget s.dev.tl.dom dm).running = some
    (.sample x who, t, 4) → t + 16 ≤ s.dev.tl.ticks → exec (.domainSampleHandled dm) s = .next (s.ends
    ((s.dev.bump (F.DOM_IGNORED_COUNT dm)).nextHandling dm (t + 16)))) ∧
  -- (11) ARMED, no Canopy entry on the domain: it steps back by the sample, STEP_CNT and ACCEPTED grow,
  -- the integrator is preloaded, TRACKING with event 1.
  (∀ (s : State) (dm : Fin 4) (x : Int) (who : Init) (t : Nat), (tget s.dev.tl.dom dm).running = some
    (.sample x who, t, 1) → t + 16 ≤ s.dev.tl.ticks → s.dev.domEn dm = true → 0 ≤ ((tget s.dev.tl.dom
    dm).val : Int) - x * 2 ^ 24 → (∀ e ∈ s.dev.canopy.wheel, wheelValid e.2 = false ∨ wheelBase e.2 ≠ dm
    + 1) → exec (.domainSampleHandled dm) s = .next (s.ends ((((((((s.dev.markDom dm).modDom dm (fun y
    => { y with val := ((y.val : Int) - x * 2 ^ 24).toNat, integ := -y.rate * 2 ^ 24 })).bumpWrap
    (F.DOM_STATE_STEP_CNT dm)).bump (F.DOM_ACCEPTED_COUNT dm)).put (F.DOM_STATE_STATE dm) 2).raise (.tl
    (1 + dm)) 1)).nextHandling dm (t + 16)))) ∧
  -- (12) ARMED, a step below 0 is refused: error 0x0103 in the page.
  (∀ (s : State) (dm : Fin 4) (x : Int) (who : Init) (t : Nat), (tget s.dev.tl.dom dm).running = some
    (.sample x who, t, 1) → t + 16 ≤ s.dev.tl.ticks → ((tget s.dev.tl.dom dm).val : Int) - x * 2 ^ 24 <
    0 → exec (.domainSampleHandled dm) s = .next (s.ends ((s.dev.recordErr (.tl (1 + dm)) (initCode who)
    (R.DOM_SAMPLE_GO dm) 0x0103).nextHandling dm (t + 16)))) ∧
  -- (13) Before 16 ticks have passed nothing happens.
  (∀ (s : State) (dm : Fin 4) (x : Int) (who : Init) (t y : Nat), (tget s.dev.tl.dom dm).running = some
    (.sample x who, t, y) → s.dev.tl.ticks < t + 16 → exec (.domainSampleHandled dm) s = .next (s.ends
    (s.dev))) ∧
  -- (14) DOMAIN_RATE_LO_WRITE latches under the software servo, and is refused with 0x0101 under the
  -- other.
  (∀ (s : State) (i : Init) (dm : Fin 4) (v : Word) (d : Dev), s.dev.reaches i (R.DOM_RATE_LO dm) = some
    d → d.lockedWrite (R.DOM_RATE_LO dm) (v) = false → exec (.domainRateLoWrite i dm v) s = .next
    (s.ends (if d.flag (F.DOM_CTRL_SERVO dm) then d.modDom dm (fun x => { x with
      latch := some v.toNat }) else d.failWrite i (R.DOM_RATE_LO dm) v 0x0101))) ∧
  -- (15) DOMAIN_RATE_HI_WRITE under the software servo applies the 48-bit RATE of the latched low half,
  -- or of the low half in force where none is latched, if its magnitude is at most 2^30.
  (∀ (s : State) (i : Init) (dm : Fin 4) (v : Word) (rate : Int) (d : Dev), s.dev.reaches i
    (R.DOM_RATE_HI dm) = some d → d.lockedWrite (R.DOM_RATE_HI dm) (v) = false → d.flag
    (F.DOM_CTRL_SERVO dm) = true → rate = signedOf 48 (v.toNat % 2 ^ 16 * 2 ^ 32 + (tget d.tl.dom
    dm).latch.getD (unsignedOf 32 (tget d.tl.dom dm).rate)) → rate.natAbs ≤ 0x40000000 → exec
    (.domainRateHiWrite i dm v) s = .next (s.ends ((d.markDom dm).modDom dm (fun x => { x with
      rate := rate, latch := none })))) ∧
  -- (16) A greater one is refused with 0x0102.
  (∀ (s : State) (i : Init) (dm : Fin 4) (v : Word) (rate : Int) (d : Dev), s.dev.reaches i
    (R.DOM_RATE_HI dm) = some d → d.lockedWrite (R.DOM_RATE_HI dm) (v) = false → d.flag
    (F.DOM_CTRL_SERVO dm) = true → rate = signedOf 48 (v.toNat % 2 ^ 16 * 2 ^ 32 + (tget d.tl.dom
    dm).latch.getD (unsignedOf 32 (tget d.tl.dom dm).rate)) → 0x40000000 < rate.natAbs → exec
    (.domainRateHiWrite i dm v) s = .next (s.ends (d.failWrite i (R.DOM_RATE_HI dm) v 0x0102))) ∧
  -- (17) Under the hardware servo it is refused with 0x0101.
  (∀ (s : State) (i : Init) (dm : Fin 4) (v : Word) (d : Dev), s.dev.reaches i (R.DOM_RATE_HI dm) = some
    d → d.lockedWrite (R.DOM_RATE_HI dm) (v) = false → d.flag (F.DOM_CTRL_SERVO dm) = false → exec
    (.domainRateHiWrite i dm v) s = .next (s.ends (d.failWrite i (R.DOM_RATE_HI dm) v 0x0101))) ∧
  -- (18) DOMAIN_SERVO_SWITCH to software, or to the servo in force, leaves RATE and the domain as they
  -- are.
  (∀ (s : State) (i : Init) (dm : Fin 4) (sw : Bool) (d : Dev), s.dev.reaches i (R.DOM_CTRL dm) = some d
    → d.lockedWrite (R.DOM_CTRL dm) (d.domWord dm (F.DOM_CTRL_SERVO dm) (boolNat sw)) = false → (sw =
    true ∨ d.flag (F.DOM_CTRL_SERVO dm) = false) → ∃ d' : Dev, exec (.domainServoSwitch i dm sw) s =
    .next (s.ends d') ∧ d'.flag (F.DOM_CTRL_SERVO dm) = sw ∧ d'.tl = d.tl ∧ ∀ a, a ≠ R.DOM_CTRL dm →
    d'.word a = d.word a) ∧
  -- (19) From software to hardware it preloads the integrator from RATE.
  (∀ (s : State) (i : Init) (dm : Fin 4) (d : Dev), s.dev.reaches i (R.DOM_CTRL dm) = some d →
    d.lockedWrite (R.DOM_CTRL dm) (d.domWord dm (F.DOM_CTRL_SERVO dm) 0) = false → d.flag
    (F.DOM_CTRL_SERVO dm) = true → ∃ d' : Dev, exec (.domainServoSwitch i dm false) s = .next (s.ends
    d') ∧ d'.flag (F.DOM_CTRL_SERVO dm) = false ∧ tget d'.tl.dom dm = { tget d.tl.dom dm with
      integ := -(tget d.tl.dom dm).rate * 2 ^ 24 } ∧ (∀ k, k ≠ dm.val → tget d'.tl.dom k = tget d.tl.dom
    k) ∧ ∀ a, a ≠ R.DOM_CTRL dm → d'.word a = d.word a)

/-- What the wheel window's READ, WRITE and CLEAR do (R62, R64, R65, R66).
A command is taken where its write reaches CNP_CMD, no LOCK refuses it and GO reads 0. An entry named is
one without an uncorrectable error; 'not past its commit point' means it is neither due nor due to be
committed.
Log entries that say where the model chose on these rules: 9, 38, 216, 267, 268. -/
def Obligations.WheelWindowCommands : Prop :=
  -- (1) CNP_READ copies the entry's eight words into CNP_DATA, COMMITTED also while it is due, and the
  -- result is 0.
  (∀ (s : State) (i : Init) (ix : Fin 4096) (d : Dev), s.dev.reaches i (R.CNP_CMD) = some d →
    d.lockedWrite (R.CNP_CMD) (cnpWord 0 ix) = false → d.flag F.CNP_CMD_GO = false → d.errIn 8 0 (· ==
    ix.val) = none → exec (.cnpRead i ix) s = .next (s.ends (((List.range 8).foldl (fun a k => a.put
    (F.CNP_DATA_DATA k) (wheelWord (if d.entryDue (d.entry ix) then { d.entry ix with
      committed := (d.entry ix).committed + 1 } else d.entry ix) k)) (d.commanded (R.CNP_CMD) (cnpWord 0
    ix) F.CNP_CMD_GO)).put F.CNP_RESULT_CODE 0))) ∧
  -- (2) CNP_WRITE of CNP_DATA with VALID = 0 replaces an entry from 28 on that is not past its commit
  -- point, its status 0.
  (∀ (s : State) (i : Init) (ix : Fin 4096) (d : Dev), s.dev.reaches i (R.CNP_CMD) = some d →
    d.lockedWrite (R.CNP_CMD) (cnpWord 1 ix) = false → d.flag F.CNP_CMD_GO = false → 28 ≤ ix.val →
    d.errIn 8 0 (· == ix.val) = none → d.commitDue (d.entry ix) = false → d.entryDue (d.entry ix) =
    false → wheelValid (d.windowEntry 0) = false → exec (.cnpWrite i ix) s = .next (s.ends
    (((d.commanded (R.CNP_CMD) (cnpWord 1 ix) F.CNP_CMD_GO).setEntry ix (d.windowEntry ((d.entry
    ix).version + 1))).put F.CNP_RESULT_CODE 0))) ∧
  -- (3) So does a valid time entry that R65 accepts and of which no instant is past.
  (∀ (s : State) (i : Init) (ix : Fin 4096) (d : Dev), s.dev.reaches i (R.CNP_CMD) = some d →
    d.lockedWrite (R.CNP_CMD) (cnpWord 1 ix) = false → d.flag F.CNP_CMD_GO = false → 28 ≤ ix.val →
    d.errIn 8 0 (· == ix.val) = none → d.commitDue (d.entry ix) = false → d.entryDue (d.entry ix) =
    false → wheelValid (d.windowEntry 0) = true → wheelPhase (d.windowEntry 0) = false → d.entryOk
    (d.windowEntry 0) = true → d.pastCount (d.windowEntry ((d.entry ix).version + 1)) = 0 → exec
    (.cnpWrite i ix) s = .next (s.ends (((d.commanded (R.CNP_CMD) (cnpWord 1 ix) F.CNP_CMD_GO).setEntry
    ix (d.windowEntry ((d.entry ix).version + 1))).put F.CNP_RESULT_CODE 0))) ∧
  -- (4) Entries below 28 are refused with 0x0107.
  (∀ (s : State) (i : Init) (ix : Fin 4096) (d : Dev), s.dev.reaches i (R.CNP_CMD) = some d →
    d.lockedWrite (R.CNP_CMD) (cnpWord 1 ix) = false → d.flag F.CNP_CMD_GO = false → ix.val < 28 → exec
    (.cnpWrite i ix) s = .next (s.ends (((d.commanded (R.CNP_CMD) (cnpWord 1 ix) F.CNP_CMD_GO).put
    F.CNP_RESULT_CODE 0x0107).recordErr (.tl 8) (initCode i) R.CNP_CMD 0x0107))) ∧
  -- (5) So does a valid phase entry that R65 accepts of a domain not LOCKED; it is held, with event 4.
  (∀ (s : State) (i : Init) (ix : Fin 4096) (d : Dev), s.dev.reaches i (R.CNP_CMD) = some d →
    d.lockedWrite (R.CNP_CMD) (cnpWord 1 ix) = false → d.flag F.CNP_CMD_GO = false → 28 ≤ ix.val →
    d.errIn 8 0 (· == ix.val) = none → d.commitDue (d.entry ix) = false → d.entryDue (d.entry ix) =
    false → wheelValid (d.windowEntry 0) = true → wheelPhase (d.windowEntry 0) = true → d.entryOk
    (d.windowEntry 0) = true → d.get (F.PH_STAT_STATE (wheelBase (d.windowEntry 0) - 8)) ≠ 2 → exec
    (.cnpWrite i ix) s = .next (s.ends ((((d.commanded (R.CNP_CMD) (cnpWord 1 ix) F.CNP_CMD_GO).setEntry
    ix { d.windowEntry ((d.entry ix).version + 1) with
      noLock := true }).raise (.tl 8) 4).put F.CNP_RESULT_CODE 0))) ∧
  -- (6) A valid one that R65 does not accept is refused with 0x0108, recorded in the page.
  (∀ (s : State) (i : Init) (ix : Fin 4096) (d : Dev), s.dev.reaches i (R.CNP_CMD) = some d →
    d.lockedWrite (R.CNP_CMD) (cnpWord 1 ix) = false → d.flag F.CNP_CMD_GO = false → 28 ≤ ix.val →
    wheelValid (d.windowEntry 0) = true → d.entryOk (d.windowEntry 0) = false → exec (.cnpWrite i ix) s
    = .next (s.ends (((d.commanded (R.CNP_CMD) (cnpWord 1 ix) F.CNP_CMD_GO).put F.CNP_RESULT_CODE
    0x0108).recordErr (.tl 8) (initCode i) R.CNP_CMD 0x0108))) ∧
  -- (7) CNP_CLEAR clears VALID of an entry from 28 on that is not past its commit point.
  (∀ (s : State) (i : Init) (ix : Fin 4096) (d : Dev), s.dev.reaches i (R.CNP_CMD) = some d →
    d.lockedWrite (R.CNP_CMD) (cnpWord 2 ix) = false → d.flag F.CNP_CMD_GO = false → 28 ≤ ix.val →
    d.errIn 8 0 (· == ix.val) = none → d.commitDue (d.entry ix) = false → d.entryDue (d.entry ix) =
    false → exec (.cnpClear i ix) s = .next (s.ends (((d.commanded (R.CNP_CMD) (cnpWord 2 ix)
    F.CNP_CMD_GO).setEntry ix { clearValid (d.entry ix) with
      version := (d.entry ix).version + 1, committed := 0 }).put F.CNP_RESULT_CODE 0))) ∧
  -- (8) Of one that is due it also leaves that release to be made with the earlier contents.
  (∀ (s : State) (i : Init) (ix : Fin 4096) (d : Dev), s.dev.reaches i (R.CNP_CMD) = some d →
    d.lockedWrite (R.CNP_CMD) (cnpWord 2 ix) = false → d.flag F.CNP_CMD_GO = false → 28 ≤ ix.val →
    d.errIn 8 0 (· == ix.val) = none → d.entryDue (d.entry ix) = true → ∃ d' : Dev, exec (.cnpClear i
    ix) s = .next (s.ends d') ∧ wheelValid (d'.entry ix) = false ∧ d'.canopy.lateq = d.canopy.lateq ++
    [{ index := ix, version := (d.entry ix).version, action := wheelAction (d.entry ix), target :=
         wheelTarget (d.entry ix), param := (d.entry ix).w6, from_ := d.tl.ticks, late := false, final
         := true }] ∧ (∀ k, k ≠ ix.val → d'.entry k = d.entry k) ∧ d'.get F.CNP_RESULT_CODE = 0) ∧
  -- (9) Of one below 28 it is refused with 0x0107.
  (∀ (s : State) (i : Init) (ix : Fin 4096) (d : Dev), s.dev.reaches i (R.CNP_CMD) = some d →
    d.lockedWrite (R.CNP_CMD) (cnpWord 2 ix) = false → d.flag F.CNP_CMD_GO = false → ix.val < 28 → exec
    (.cnpClear i ix) s = .next (s.ends (((d.commanded (R.CNP_CMD) (cnpWord 2 ix) F.CNP_CMD_GO).put
    F.CNP_RESULT_CODE 0x0107).recordErr (.tl 8) (initCode i) R.CNP_CMD 0x0107)))

/-- Releases of the event wheel and pulses of the trigger outputs (R63, R69, R70, R72).
At most one release that is no TRIG leaves in a tick. An entry named is one without an uncorrectable
error.
Log entries that say where the model chose on these rules: 38, 98, 217, 270. -/
def Obligations.ReleasesAndPulses : Prop :=
  -- (1) CANOPY_RELEASE of the next entry, a one-shot IRQ time entry in a mode that releases it, shows
  -- its index in CNP_EVT_LAST, counts it released, clears VALID and uses the tick; the other entries,
  -- the Timeline and the trigger outputs stay.
  (∀ (s : State) (n : Nat), s.dev.canopy.lastIssue ≠ some s.dev.tl.ticks → s.dev.nextRelease = some (n,
    none) → s.dev.errIn 8 0 (· == n) = none → s.dev.quiet = false → wheelAction (s.dev.entry n) = 5 →
    wheelPhase (s.dev.entry n) = false → wheelPeriodic (s.dev.entry n) = false → ∃ d' : Dev, exec
    (.canopyRelease) s = .next (s.ends d') ∧ d'.get F.CNP_EVT_LAST_INDEX = n % 4096 ∧ d'.entry n = {
    clearValid (s.dev.entry n) with released := ((s.dev.entry n).released + 1) % 2 ^ 16, late := false }
    ∧ (∀ k, k ≠ n → d'.entry k = s.dev.entry k) ∧ d'.canopy.lastIssue = some s.dev.tl.ticks ∧ d'.tl =
    s.dev.tl ∧ d'.canopy.trig = s.dev.canopy.trig) ∧
  -- (2) In a mode that misses its action a one-shot time entry is counted MISSED, its VALID cleared, and
  -- the tick used; Grove, the bus channels, the traffic manager and the Timeline stay.
  (∀ (s : State) (n : Nat), s.dev.canopy.lastIssue ≠ some s.dev.tl.ticks → s.dev.nextRelease = some (n,
    none) → s.dev.errIn 8 0 (· == n) = none → s.dev.missesAction (wheelAction (s.dev.entry n)) = true →
    wheelPhase (s.dev.entry n) = false → wheelPeriodic (s.dev.entry n) = false → ∃ d' : Dev, exec
    (.canopyRelease) s = .next (s.ends d') ∧ d'.entry n = { clearValid (s.dev.entry n) with
      missed := min 255 ((s.dev.entry n).missed + 1) } ∧ d'.get F.CNP_MISSED_COUNT = min (2 ^
    (F.CNP_MISSED_COUNT).width - 1) (s.dev.get F.CNP_MISSED_COUNT + 1) ∧ d'.canopy.lastIssue = some
    s.dev.tl.ticks ∧ d'.gv = s.dev.gv ∧ d'.chan = s.dev.chan ∧ d'.tm = s.dev.tm ∧ (∀ k, k ≠ n → d'.entry
    k = s.dev.entry k) ∧ d'.tl = s.dev.tl) ∧
  -- (3) With the tick used or nothing due nothing happens.
  (∀ (s : State), (s.dev.canopy.lastIssue = some s.dev.tl.ticks ∨ s.dev.nextRelease = none) → exec
    (.canopyRelease) s = .next (s.ends (s.dev))) ∧
  -- (4) TRIG_COMMIT of the lowest TRIG entry at its commit point, one-shot, on an enabled idle output,
  -- places its pulse, counts it in TRG_STAT and marks the entry; nothing else leaves or changes.
  (∀ (s : State) (n : Nat) (e : WheelEntry), s.dev.canopy.wheel.find? (fun x => s.dev.commitDue x.2) =
    some (n, e) → s.dev.entry n = e → s.dev.errIn 8 0 (· == n) = none → wheelPhase e = false →
    wheelPeriodic e = false → s.dev.quiet = false → s.dev.flag (F.TRG_CFG_EN (wheelTarget e)) = true →
    (s.dev.trigSt (wheelTarget e)).pulses = [] → (s.dev.trigSt (wheelTarget e)).lastEdge = none → ∃ d' :
    Dev, exec (.trigCommit) s = .next (s.ends d') ∧ (d'.trigSt (wheelTarget e)).pulses = [⟨s.dev.edgeOf
    e, n, e.version, false, true⟩] ∧ d'.entry n = { e with
      last := true, committed := e.committed + 1 } ∧ d'.get (F.TRG_STAT_COMMITTED (wheelTarget e)) = 1 ∧
    (∀ k, k ≠ n → d'.entry k = s.dev.entry k) ∧ d'.out = s.dev.out ∧ ∀ a, a ≠ R.TRG_STAT (wheelTarget e)
    → d'.word a = s.dev.word a) ∧
  -- (5) With none at its commit point nothing happens.
  (∀ (s : State), s.dev.canopy.wheel.find? (fun x => s.dev.commitDue x.2) = none → exec (.trigCommit) s
    = .next (s.ends (s.dev))) ∧
  -- (6) TRIG_PULSE_START at the first pulse's instant drives the active level, takes the pulse off and
  -- sets its end WIDTH later; the other outputs stay.
  (∀ (s : State) (k : Fin 16) (p : Pulse) (rest : List Pulse), (s.dev.trigSt k).pulses = p :: rest →
    p.edge ≤ s.dev.now64 → ∃ d' : Dev, exec (.trigPulseStart k) s = .next (s.ends d') ∧ (d'.trigSt
    k).level = !s.dev.flag (F.TRG_CFG_POL k) ∧ (d'.trigSt k).pulses = rest ∧ (d'.trigSt k).lastEdge =
    some p.edge ∧ (d'.trigSt k).ends = some (p.edge + s.dev.get (F.TRG_CFG_WIDTH_NS k) * 64) ∧ (∀ j, j ≠
    k.val → d'.trigSt j = s.dev.trigSt j) ∧ d'.tl = s.dev.tl) ∧
  -- (7) Before that instant nothing happens.
  (∀ (s : State) (k : Fin 16), (∀ p ∈ (s.dev.trigSt k).pulses, s.dev.now64 < p.edge) → exec
    (.trigPulseStart k) s = .next (s.ends (s.dev))) ∧
  -- (8) TRIG_PULSE_END at the end drives the idle level and changes nothing else.
  (∀ (s : State) (k : Fin 16) (t : Nat), (s.dev.trigSt k).ends = some t → t ≤ s.dev.now64 → exec
    (.trigPulseEnd k) s = .next (s.ends ((s.dev.modTrig k (fun x => { x with
      ends := none })).setTrig k (s.dev.trigIdle k)))) ∧
  -- (9) Before that nothing happens.
  (∀ (s : State) (k : Fin 16), (s.dev.trigSt k).ends.all (fun t => decide (s.dev.now64 < t)) = true →
    exec (.trigPulseEnd k) s = .next (s.ends (s.dev))) ∧
  -- (10) TRG_DISABLE, taken, of an enabled output of WIDTH 4 or more clears EN, cancels its pulses, ends
  -- the one in progress, and drives the output low; the other outputs stay.
  (∀ (s : State) (i : Init) (k : Fin 16) (d : Dev), s.dev.reaches i (R.TRG_CFG k) = some d →
    d.lockedWrite (R.TRG_CFG k) (d.wordWith (F.TRG_CFG_EN k) 0) = false → d.flag (F.TRG_CFG_EN k) = true
    → 4 ≤ d.get (F.TRG_CFG_WIDTH_NS k) → ∃ d' : Dev, exec (.trgDisable i k) s = .next (s.ends d') ∧
    d'.flag (F.TRG_CFG_EN k) = false ∧ (d'.trigSt k).pulses = [] ∧ (d'.trigSt k).ends = none ∧
    (d'.trigSt k).level = false ∧ (∀ j, j ≠ k.val → d'.trigSt j = d.trigSt j) ∧ d'.tl = d.tl) ∧
  -- (11) With WIDTH below 4 it is refused with 0x0109.
  (∀ (s : State) (i : Init) (k : Fin 16) (d : Dev), s.dev.reaches i (R.TRG_CFG k) = some d →
    d.lockedWrite (R.TRG_CFG k) (d.wordWith (F.TRG_CFG_EN k) 0) = false → d.get (F.TRG_CFG_WIDTH_NS k) <
    4 → exec (.trgDisable i k) s = .next (s.ends (d.failWrite i (R.TRG_CFG k) (d.wordWith (F.TRG_CFG_EN
    k) 0) 0x0109)))

/-- Edges at the capture inputs and the pop of a capture entry (R73).
Log entries that say where the model chose on these rules: 43, 215, 271. -/
def Obligations.CaptureInputCommands : Prop :=
  -- (1) TCAP_EDGE to a new level with no edge under qualification puts the edge under qualification with
  -- its stamp and the settings of that instant.
  (∀ (s : State) (c : Fin 8) (rise : Bool) (frac : Fin 8), (s.dev.capSt c).level ≠ rise → (s.dev.capSt
    c).pending = none → exec (.tcapEdge c rise frac) s = .next (s.ends (s.dev.modCap c (fun x => { x
    with level := rise, pending := some { rise, at_ := s.dev.base8 + frac, stamp := s.dev.stampAt (104 +
                                            c) ((s.dev.base8 + frac : Nat) * 8) res125ps, en :=
                                            s.dev.flag (F.TCP_CFG_EN c), edge := s.dev.get
                                            (F.TCP_CFG_EDGE c), filter := s.dev.get (F.TCP_CFG_FILTER_NS
                                            c) } })))) ∧
  -- (2) An edge back before the earlier one has held its level cancels it and does not qualify itself.
  (∀ (s : State) (c : Fin 8) (rise : Bool) (frac : Fin 8) (e : PendingEdge), (s.dev.capSt c).level ≠
    rise → (s.dev.capSt c).pending = some e → edgeHeld e (s.dev.base8 + frac) = false → exec (.tcapEdge
    c rise frac) s = .next (s.ends (s.dev.modCap c (fun x => { x with
      level := rise, pending := none })))) ∧
  -- (3) An edge to the present level changes nothing.
  (∀ (s : State) (c : Fin 8) (rise : Bool) (frac : Fin 8), (s.dev.capSt c).level = rise → exec
    (.tcapEdge c rise frac) s = .next (s.ends (s.dev))) ∧
  -- (4) TCAP_EDGE_QUALIFIED of an enabled, selected edge that has held counts it and queues it, with
  -- LOST_RUN, while fewer than 16 wait, with the input's event.
  (∀ (s : State) (c : Fin 8) (e : PendingEdge), (s.dev.capSt c).pending = some e → edgeHeld e
    s.dev.base8 = true → e.en = true → edgeSelected e.edge e.rise = true → (s.dev.capSt
    c).entries.length < 16 → exec (.tcapEdgeQualified c) s = .next (s.ends ((s.dev.modCap c (fun x => {
    x with pending := none, count := x.count + 1, lostRun := 0, entries := x.entries ++ [⟨x.lostRun !=
             0, e.rise, min x.lostRun 31, (x.count + 1) % 2 ^ 16, e.stamp⟩] })).raise (.tl 10) (1 +
    c)))) ∧
  -- (5) With 16 waiting it counts it lost, with the loss event, and keeps it for a POP of that same
  -- tick.
  (∀ (s : State) (c : Fin 8) (e : PendingEdge), (s.dev.capSt c).pending = some e → edgeHeld e
    s.dev.base8 = true → e.en = true → edgeSelected e.edge e.rise = true → 16 ≤ (s.dev.capSt
    c).entries.length → exec (.tcapEdgeQualified c) s = .next (s.ends (((s.dev.modCap c (fun x => { x
    with pending := none, count := x.count + 1, lostRun := x.lostRun + 1, late := some (⟨x.lostRun != 0,
           e.rise, min x.lostRun 31, (x.count + 1) % 2 ^ 16, e.stamp⟩, s.dev.tl.ticks, s.dev.get
           (F.TCP_LOST_COUNT c), bitOf (s.dev.get (F.IRQ_RAW_BITS (pageBase (.tl 10)))) (9 + c))
           })).bump (F.TCP_LOST_COUNT c)).raise (.tl 10) (9 + c)))) ∧
  -- (6) An edge not enabled or not selected is dropped.
  (∀ (s : State) (c : Fin 8) (e : PendingEdge), (s.dev.capSt c).pending = some e → edgeHeld e
    s.dev.base8 = true → (e.en && edgeSelected e.edge e.rise) = false → exec (.tcapEdgeQualified c) s =
    .next (s.ends (s.dev.modCap c (fun x => { x with
      pending := none })))) ∧
  -- (7) Before the level has held nothing happens.
  (∀ (s : State) (c : Fin 8), (s.dev.capSt c).pending.all (fun e => !edgeHeld e s.dev.base8) = true →
    exec (.tcapEdgeQualified c) s = .next (s.ends (s.dev))) ∧
  -- (8) TCP_POP, taken, by the owner removes the head entry.
  (∀ (s : State) (i : Init) (c : Fin 8) (d : Dev), s.dev.reaches i (R.TCP_POP c) = some d →
    d.lockedWrite (R.TCP_POP c) (1) = false → ownerIs (d.get (F.TCP_CFG_OWNER c)) i = true → (d.capSt
    c).late = none → exec (.tcpPop i c) s = .next (s.ends (d.modCap c (fun x => { x with
      entries := x.entries.drop 1 })))) ∧
  -- (9) On a full queue it also stores the entry that the same tick found no room for, whose loss is not
  -- counted.
  (∀ (s : State) (i : Init) (c : Fin 8) (d : Dev) (x : CaptureEntry) (lost : Nat) (was : Bool),
    s.dev.reaches i (R.TCP_POP c) = some d → d.lockedWrite (R.TCP_POP c) (1) = false → ownerIs (d.get
    (F.TCP_CFG_OWNER c)) i = true → (d.capSt c).late = some (x, d.tl.ticks, lost, was) → (d.capSt
    c).entries.length = 16 → ∃ d' : Dev, exec (.tcpPop i c) s = .next (s.ends d') ∧ d'.capSt c = {
    d.capSt c with entries := (d.capSt c).entries.drop 1 ++ [x], lostRun := 0, late := none } ∧ d'.get
    (F.TCP_LOST_COUNT c) = lost % 2 ^ (F.TCP_LOST_COUNT c).width ∧ ∀ k, k ≠ c.val → d'.capSt k = d.capSt
    k) ∧
  -- (10) By another initiator it is refused with CAPTURE_OWNER 0x010A.
  (∀ (s : State) (i : Init) (c : Fin 8) (d : Dev), s.dev.reaches i (R.TCP_POP c) = some d →
    d.lockedWrite (R.TCP_POP c) (1) = false → ownerIs (d.get (F.TCP_CFG_OWNER c)) i = false → exec
    (.tcpPop i c) s = .next (s.ends (d.failWrite i (R.TCP_POP c) 1 0x010A)))

/-- Enabling, disabling and running the phase domains (R74, R75, R76, R77).
A write is taken where it reaches its register and no LOCK refuses it. 'Predictions' are those of the
phase entries of the domain.
Log entries that say where the model chose on these rules: 40, 41, 268, 269, 271. -/
def Obligations.PhaseDomainCommands : Prop :=
  -- (1) PHASE_ENABLE, taken, of a domain that is off, with CPR not 0 for an encoder, gives ACQ with
  -- FULL_PERIODS and REV 0 and a fresh position; every other register and domain stays.
  (∀ (s : State) (i : Init) (p : Fin 4) (d : Dev), s.dev.reaches i (R.PH_CTRL p) = some d →
    d.lockedWrite (R.PH_CTRL p) (d.wordWith (F.PH_CTRL_EN p) 1) = false → d.flag (F.PH_CTRL_EN p) =
    false → (d.flag (F.PH_CTRL_SRC p) = true ∨ d.get (F.PH_CTRL_CPR p) ≠ 0) → ∃ d' : Dev, exec
    (.phaseEnable i p) s = .next (s.ends d') ∧ d'.flag (F.PH_CTRL_EN p) = true ∧ d'.get (F.PH_STAT_STATE
    p) = 1 ∧ d'.get (F.PH_STAT_FULL_PERIODS p) = 0 ∧ d'.get (F.PH_REV_COUNT p) = 0 ∧ d'.phaseSt p = {} ∧
    (∀ k, k ≠ p.val → d'.phaseSt k = d.phaseSt k) ∧ ∀ a, a ≠ R.PH_CTRL p → a ≠ R.PH_STAT p → a ≠
    R.PH_REV p → d'.word a = d.word a) ∧
  -- (2) PHASE_DISABLE of one that no valid entry names gives OFF and changes nothing else.
  (∀ (s : State) (i : Init) (p : Fin 4) (d : Dev), s.dev.reaches i (R.PH_CTRL p) = some d →
    d.lockedWrite (R.PH_CTRL p) (d.wordWith (F.PH_CTRL_EN p) 0) = false → d.flag (F.PH_CTRL_EN p) = true
    → d.phaseNamed p = false → ∃ d' : Dev, exec (.phaseDisable i p) s = .next (s.ends d') ∧ d'.flag
    (F.PH_CTRL_EN p) = false ∧ d'.get (F.PH_STAT_STATE p) = 0 ∧ d'.canopy = d.canopy ∧ ∀ a, a ≠
    R.PH_CTRL p → a ≠ R.PH_STAT p → d'.word a = d.word a) ∧
  -- (3) Of one that is named it is refused with PHASE_IN_USE 0x010B.
  (∀ (s : State) (i : Init) (p : Fin 4) (d : Dev), s.dev.reaches i (R.PH_CTRL p) = some d →
    d.lockedWrite (R.PH_CTRL p) (d.wordWith (F.PH_CTRL_EN p) 0) = false → d.flag (F.PH_CTRL_EN p) = true
    → d.phaseNamed p = true → exec (.phaseDisable i p) s = .next (s.ends (d.failWrite i (R.PH_CTRL p)
    (d.wordWith (F.PH_CTRL_EN p) 0) 0x010B))) ∧
  -- (4) PHASE_ENABLE of an encoder with CPR 0 is refused with 0x0109.
  (∀ (s : State) (i : Init) (p : Fin 4) (d : Dev), s.dev.reaches i (R.PH_CTRL p) = some d →
    d.lockedWrite (R.PH_CTRL p) (d.wordWith (F.PH_CTRL_EN p) 1) = false → d.flag (F.PH_CTRL_EN p) =
    false → d.flag (F.PH_CTRL_SRC p) = false → d.get (F.PH_CTRL_CPR p) = 0 → exec (.phaseEnable i p) s =
    .next (s.ends (d.failWrite i (R.PH_CTRL p) (d.wordWith (F.PH_CTRL_EN p) 1) 0x0109))) ∧
  -- (5) A forward count edge of an enabled encoder advances the position by 1 and its predictions
  -- follow.
  (∀ (s : State) (p : Fin 4) (aLeads : Bool) (frac : Fin 8), s.dev.flag (F.PH_CTRL_EN p) = true →
    s.dev.flag (F.PH_CTRL_SRC p) = false → aLeads ≠ s.dev.flag (F.PH_CTRL_DIR p) → exec (.phaseCountEdge
    p aLeads frac) s = .next (s.ends (((s.dev.repredict p).modPhase p (fun x => { x with
      edges := ((s.dev.base8 + frac) :: x.edges).take (s.dev.get (F.PH_CTRL_CPR p) + 1), anchor := some
        (s.dev.base8 + frac), pos := (x.pos + 1) % s.dev.get (F.PH_CTRL_CPR p), counts := x.counts + 1
        })).repredict p))) ∧
  -- (6) A reverse one in ACQ takes it back by 1, with cause REVERSE and FULL_PERIODS 0.
  (∀ (s : State) (p : Fin 4) (aLeads : Bool) (frac : Fin 8), s.dev.flag (F.PH_CTRL_EN p) = true →
    s.dev.flag (F.PH_CTRL_SRC p) = false → aLeads = s.dev.flag (F.PH_CTRL_DIR p) → s.dev.get
    (F.PH_STAT_STATE p) = 1 → exec (.phaseCountEdge p aLeads frac) s = .next (s.ends
    (((((s.dev.repredict p).modPhase p (fun x => { x with
      edges := [], anchor := some (s.dev.base8 + frac), pos := (x.pos + s.dev.get (F.PH_CTRL_CPR p) - 1)
        % s.dev.get (F.PH_CTRL_CPR p), reverse := true })).put (F.PH_STAT_CAUSE p) 3).put
    (F.PH_STAT_FULL_PERIODS p) 0)))) ∧
  -- (7) The first index edge in ACQ sets the position to 0, counts a revolution, and predictions follow.
  (∀ (s : State) (p : Fin 4) (frac : Fin 8), s.dev.flag (F.PH_CTRL_EN p) = true → (s.dev.phaseSt
    p).lastIndex = none → s.dev.flag (F.PH_CTRL_SRC p) = false → s.dev.get (F.PH_STAT_STATE p) = 1 →
    exec (.phaseIndexEdge p frac) s = .next (s.ends ((((s.dev.repredict p).bumpWrap (F.PH_REV_COUNT
    p)).modPhase p (fun x => { x with anchor := some (s.dev.base8 + frac), pos := 0, counts := 0,
                                        reverse := false, lastIndex := some (s.dev.base8 + frac)
                                        })).repredict p))) ∧
  -- (8) PHASE_NO_INDEX in LOCKED, past 1.5 periods, goes to ACQ with cause NO_INDEX, counts the loss,
  -- raises event 2, and the entries are held.
  (∀ (s : State) (p : Fin 4) (t : Nat), (s.dev.phaseSt p).lastIndex = some t → s.dev.get
    (F.PH_STAT_STATE p) = 2 → s.dev.get (F.PH_PERIOD_NS p) ≠ 0 → 3 * s.dev.get (F.PH_PERIOD_NS p) * 8 <
    2 * (s.dev.base8 - t) → exec (.phaseNoIndex p) s = .next (s.ends ((((((((s.dev.repredict p).put
    (F.PH_STAT_CAUSE p) 1).put (F.PH_STAT_FULL_PERIODS p) 0).put (F.PH_STAT_STATE p) 1).bump
    (F.PH_LOSS_COUNT p)).raise (.tl (11 + p)) 2).phaseHeld p)))) ∧
  -- (9) A count edge of a domain off or without an encoder does nothing.
  (∀ (s : State) (p : Fin 4) (aLeads : Bool) (frac : Fin 8), (s.dev.flag (F.PH_CTRL_EN p) = false ∨
    s.dev.flag (F.PH_CTRL_SRC p) = true) → exec (.phaseCountEdge p aLeads frac) s = .next (s.ends
    (s.dev))) ∧
  -- (10) The index edge that ends a first full period in ACQ shows it in PH_PERIOD and counts it.
  (∀ (s : State) (p : Fin 4) (frac : Fin 8) (t0 n : Nat), s.dev.flag (F.PH_CTRL_EN p) = true →
    (s.dev.phaseSt p).lastIndex = some t0 → s.dev.flag (F.PH_CTRL_SRC p) = false → s.dev.get
    (F.PH_STAT_STATE p) = 1 → s.dev.get (F.PH_STAT_FULL_PERIODS p) = 0 → n = s.dev.base8 + frac - t0 →
    (s.dev.phaseSt p).counts = s.dev.get (F.PH_CTRL_CPR p) → (s.dev.phaseSt p).reverse = false →
    (s.dev.phaseSt p).lastFull = none → 5000000 * 8 ≤ n → n ≤ 1000000000 * 8 → ∃ d' : Dev, exec
    (.phaseIndexEdge p frac) s = .next (s.ends d') ∧ d'.get (F.PH_STAT_STATE p) = 1 ∧ d'.get
    (F.PH_STAT_FULL_PERIODS p) = 1 ∧ d'.get (F.PH_PERIOD_NS p) = n / 8 ∧ d'.get (F.PH_REV_COUNT p) =
    (s.dev.get (F.PH_REV_COUNT p) + 1) % 2 ^ (F.PH_REV_COUNT p).width ∧ d'.phaseSt p = { s.dev.phaseSt p
    with lastFull := some n, anchor := some (s.dev.base8 + frac), pos := 0, counts := 0, reverse :=
           false, lastIndex := some (s.dev.base8 + frac) } ∧ ∀ a, a ≠ R.PH_STAT p → a ≠ R.PH_PERIOD p →
    a ≠ R.PH_REV p → d'.word a = s.dev.word a) ∧
  -- (11) An index edge of a domain that is off does nothing.
  (∀ (s : State) (p : Fin 4) (frac : Fin 8), s.dev.flag (F.PH_CTRL_EN p) = false → exec (.phaseIndexEdge
    p frac) s = .next (s.ends (s.dev))) ∧
  -- (12) PHASE_NO_INDEX in OFF or with no period known does nothing.
  (∀ (s : State) (p : Fin 4), (s.dev.get (F.PH_STAT_STATE p) = 0 ∨ s.dev.get (F.PH_PERIOD_NS p) = 0) →
    exec (.phaseNoIndex p) s = .next (s.ends (s.dev)))

/-- The signal store window, and the READ and WRITE of transforms (R80, R81, R85, R91).
A write that is let through reaches its register; a table command is taken where its write does, no LOCK
refuses it and GO reads 0.
Log entries that say where the model chose on these rules: 9, 68, 71, 282. -/
def Obligations.SignalStoreAndTransforms : Prop :=
  -- (1) SIG_STORE_WRITE let through of a word 0, or of a descriptor with VALID 0, stores the bits that
  -- are not reserved and changes nothing else, but what the relay keeps in mind of an activation (STATE
  -- 5).
  (∀ (s : State) (i : Init) (w : Fin 0x300000) (v : Word) (d : Dev), s.dev.reaches i (0x3000000 + 4 * w)
    = some d → (w.val % 3 = 0 ∨ bitOf (tget d.gv.sig (w.val / 3 * 3)) 31 = false) → exec (.sigStoreWrite
    i w v) s = .next (s.ends (if i = .mc ∧ s.dev.sapState = 5 then (d.setSig w (Nat.land v.toNat
    (sigMask (w % 3)))).modSap (fun x => { x with touched := (0, w.val / 3) :: x.touched }) else
    d.setSig w (Nat.land v.toNat (sigMask (w % 3)))))) ∧
  -- (2) Of words 1 and 2 of a valid descriptor it fails with SIG_LIVE 0x010C.
  (∀ (s : State) (i : Init) (w : Fin 0x300000) (v : Word) (d : Dev), s.dev.reaches i (0x3000000 + 4 * w)
    = some d → w.val % 3 ≠ 0 → bitOf (tget d.gv.sig (w.val / 3 * 3)) 31 = true → (i ≠ .mc ∨
    s.dev.sapState ≠ 5) → exec (.sigStoreWrite i w v) s = .next (s.ends (d.failWrite i (0x3000000 + 4 *
    w) v 0x010C))) ∧
  -- (3) In an activation (STATE 5) that failure of management firmware also reverts it (the model's
  -- choice).
  (∀ (s : State) (w : Fin 0x300000) (v : Word), s.dev.reaches .mc (0x3000000 + 4 * w) = some s.dev →
    w.val % 3 ≠ 0 → bitOf (tget s.dev.gv.sig (w.val / 3 * 3)) 31 = true → s.dev.sapState = 5 → exec
    (.sigStoreWrite .mc w v) s = .next (s.ends ((s.dev.failWrite .mc (0x3000000 + 4 * w) v
    0x010C).sapRevert 2))) ∧
  -- (4) GV_XFM_READ copies the transform's four words into GV_TDATA with result 0.
  (∀ (s : State) (i : Init) (ix : BitVec 16) (d : Dev), s.dev.reaches i (R.GV_TCMD) = some d →
    d.lockedWrite (R.GV_TCMD) (tcmdWord 0 1 ix.toNat) = false → d.flag F.GV_TCMD_GO = false → isEngine i
    = false → exec (.gvXfmRead i ix) s = .next (s.ends (((d.commanded (R.GV_TCMD) (tcmdWord 0 1
    ix.toNat) F.GV_TCMD_GO).putTdata 4 (d.xfmWord ix.toNat)).put F.GV_TRESULT_CODE 0))) ∧
  -- (5) GV_XFM_WRITE of a transform other than 0 with two unequal (or 0) input codes and output codes
  -- stores it; the other transforms, the signal store and the PDUs stay, result 0.
  (∀ (s : State) (i : Init) (ix : BitVec 16) (d : Dev), s.dev.reaches i (R.GV_TCMD) = some d →
    d.lockedWrite (R.GV_TCMD) (tcmdWord 1 1 ix.toNat) = false → d.flag F.GV_TCMD_GO = false → isEngine i
    = false → ix.toNat ≠ 0 → codesClash (bitsOf (d.tdata 3) 8 2) (bitsOf (d.tdata 3) 10 2) = false →
    codesClash (bitsOf (d.tdata 3) 12 2) (bitsOf (d.tdata 3) 14 2) = false → ∃ d' : Dev, exec
    (.gvXfmWrite i ix) s = .next (s.ends d') ∧ (∀ k, k < 3 → d'.xfmWord ix.toNat k = d.tdata k) ∧
    d'.xfmWord ix.toNat 3 = Nat.land (d.tdata 3) 0xFF7F ∧ (∀ n, n ≠ ix.toNat → d'.xfmWord n 0 =
    d.xfmWord n 0) ∧ d'.get F.GV_TRESULT_CODE = 0 ∧ d'.gv.sig = d.gv.sig ∧ d'.gv.pdu = d.gv.pdu) ∧
  -- (6) Of transform 0, or with equal codes not 0, it is refused with TABLE_INVALID 0x010D (outside such
  -- an activation).
  (∀ (s : State) (i : Init) (ix : BitVec 16) (d : Dev), s.dev.reaches i (R.GV_TCMD) = some d →
    d.lockedWrite (R.GV_TCMD) (tcmdWord 1 1 ix.toNat) = false → d.flag F.GV_TCMD_GO = false → isEngine i
    = false → (ix.toNat = 0 ∨ codesClash (bitsOf (d.tdata 3) 8 2) (bitsOf (d.tdata 3) 10 2) = true ∨
    codesClash (bitsOf (d.tdata 3) 12 2) (bitsOf (d.tdata 3) 14 2) = true) → (i ≠ .mc ∨ s.dev.sapState ≠
    5) → exec (.gvXfmWrite i ix) s = .next (s.ends (((d.commanded (R.GV_TCMD) (tcmdWord 1 1 ix.toNat)
    F.GV_TCMD_GO).put F.GV_TRESULT_CODE 0x010D).recordErr (.gv 1) (initCode i) R.GV_TCMD 0x010D))) ∧
  -- (7) A thread starts no command on transforms (R110): its READ is an ACCESS_DENIED 0x0009.
  (∀ (s : State) (i : Init) (ix : BitVec 16) (d : Dev), s.dev.reaches i (R.GV_TCMD) = some d →
    d.lockedWrite (R.GV_TCMD) (tcmdWord 0 1 ix.toNat) = false → isEngine i = true → exec (.gvXfmRead i
    ix) s = .next (s.ends (d.failWrite i R.GV_TCMD (tcmdWord 0 1 ix.toNat) 0x0009))) ∧
  -- (8) So is its WRITE.
  (∀ (s : State) (i : Init) (ix : BitVec 16) (d : Dev), s.dev.reaches i (R.GV_TCMD) = some d →
    d.lockedWrite (R.GV_TCMD) (tcmdWord 1 1 ix.toNat) = false → isEngine i = true → exec (.gvXfmWrite i
    ix) s = .next (s.ends (d.failWrite i R.GV_TCMD (tcmdWord 1 1 ix.toNat) 0x0009)))

/-- The READ and WRITE of PDU descriptors and of images (R88, R89, R91).
A table command is taken where its write reaches GV_TCMD, no LOCK refuses it and GO reads 0; e is the
descriptor that GV_TDATA spells. What the relay adds to a write by management firmware in an activation
(STATE 5) stands in clauses of its own, but a refusal there is left out here.
Log entries that say where the model chose on these rules: 9, 69, 71, 110, 282. -/
def Obligations.PduDescriptorsAndImages : Prop :=
  -- (1) GV_PDU_READ copies the eight words into GV_TDATA with result 0.
  (∀ (s : State) (i : Init) (ix : BitVec 16) (d : Dev), s.dev.reaches i (R.GV_TCMD) = some d →
    d.lockedWrite (R.GV_TCMD) (tcmdWord 0 0 ix.toNat) = false → d.flag F.GV_TCMD_GO = false → exec
    (.gvPduRead i ix) s = .next (s.ends (((d.commanded (R.GV_TCMD) (tcmdWord 0 0 ix.toNat)
    F.GV_TCMD_GO).putTdata 8 (pduWord (d.pdu ix.toNat))).put F.GV_TRESULT_CODE 0))) ∧
  -- (2) GV_PDU_WRITE of a valid receive PDU that R88 allows with a new triple, where none was valid,
  -- stores it with its time from now.
  (∀ (s : State) (i : Init) (ix : BitVec 16) (d : Dev) (e : PduEntry), s.dev.reaches i (R.GV_TCMD) =
    some d → d.lockedWrite (R.GV_TCMD) (tcmdWord 1 0 ix.toNat) = false → d.flag F.GV_TCMD_GO = false →
    bitOf (d.tdata 0) 31 = true → bitOf (d.tdata 0) 30 = false → e = { d.pdu ix.toNat with
      w0 := putBits (d.tdata 0) 28 1 0, w1 := d.tdata 1, w2 := d.tdata 2, w3 := bitsOf (d.tdata 3) 0 15,
        w4 := putBits (d.tdata 4) 16 13 0, w5 := d.tdata 5, w6 := bitsOf (d.tdata 6) 0 26 } → pduInvalid
    e = false → pduValid (d.pdu ix.toNat) = false → d.pduDuplicate ix.toNat e = false → (i ≠ .mc ∨
    s.dev.sapState ≠ 5) → exec (.gvPduWrite i ix) s = .next (s.ends (((d.commanded (R.GV_TCMD) (tcmdWord
    1 0 ix.toNat) F.GV_TCMD_GO).setPdu ix.toNat { e with
      since := d.baseNs }).put F.GV_TRESULT_CODE 0))) ∧
  -- (3) With a triple that another valid receive PDU has it is refused with 0x010E.
  (∀ (s : State) (i : Init) (ix : BitVec 16) (d : Dev) (e : PduEntry), s.dev.reaches i (R.GV_TCMD) =
    some d → d.lockedWrite (R.GV_TCMD) (tcmdWord 1 0 ix.toNat) = false → d.flag F.GV_TCMD_GO = false →
    bitOf (d.tdata 0) 31 = true → bitOf (d.tdata 0) 30 = false → e = { d.pdu ix.toNat with
      w0 := putBits (d.tdata 0) 28 1 0, w1 := d.tdata 1, w2 := d.tdata 2, w3 := bitsOf (d.tdata 3) 0 15,
        w4 := putBits (d.tdata 4) 16 13 0, w5 := d.tdata 5, w6 := bitsOf (d.tdata 6) 0 26 } → pduInvalid
    e = false → pduValid (d.pdu ix.toNat) = false → d.pduDuplicate ix.toNat e = true → (i ≠ .mc ∨
    s.dev.sapState ≠ 5) → exec (.gvPduWrite i ix) s = .next (s.ends (((d.commanded (R.GV_TCMD) (tcmdWord
    1 0 ix.toNat) F.GV_TCMD_GO).put F.GV_TRESULT_CODE 0x010E).recordErr (.gv 1) (initCode i) R.GV_TCMD
    0x010E))) ∧
  -- (4) One that R88 does not allow is refused with 0x010D.
  (∀ (s : State) (i : Init) (ix : BitVec 16) (d : Dev) (e : PduEntry), s.dev.reaches i (R.GV_TCMD) =
    some d → d.lockedWrite (R.GV_TCMD) (tcmdWord 1 0 ix.toNat) = false → d.flag F.GV_TCMD_GO = false →
    bitOf (d.tdata 0) 31 = true → e = { d.pdu ix.toNat with
      w0 := putBits (d.tdata 0) 28 1 0, w1 := d.tdata 1, w2 := d.tdata 2, w3 := if bitOf (d.tdata 0) 30
        then d.tdata 3 else bitsOf (d.tdata 3) 0 15, w4 := putBits (d.tdata 4) 16 13 0, w5 := d.tdata 5,
        w6 := bitsOf (d.tdata 6) 0 26 } → pduInvalid e = true → (i ≠ .mc ∨ s.dev.sapState ≠ 5) → exec
    (.gvPduWrite i ix) s = .next (s.ends (((d.commanded (R.GV_TCMD) (tcmdWord 1 0 ix.toNat)
    F.GV_TCMD_GO).put F.GV_TRESULT_CODE 0x010D).recordErr (.gv 1) (initCode i) R.GV_TCMD 0x010D))) ∧
  -- (5) Such a store by management firmware in an activation (STATE 5) is kept in mind by the relay
  -- (R315).
  (∀ (s : State) (i : Init) (ix : BitVec 16) (d : Dev) (e : PduEntry), i = .mc → s.dev.sapState = 5 →
    s.dev.reaches i (R.GV_TCMD) = some d → d.lockedWrite (R.GV_TCMD) (tcmdWord 1 0 ix.toNat) = false →
    d.flag F.GV_TCMD_GO = false → bitOf (d.tdata 0) 31 = true → bitOf (d.tdata 0) 30 = false → e = {
    d.pdu ix.toNat with w0 := putBits (d.tdata 0) 28 1 0, w1 := d.tdata 1, w2 := d.tdata 2, w3 := bitsOf
                          (d.tdata 3) 0 15, w4 := putBits (d.tdata 4) 16 13 0, w5 := d.tdata 5, w6 :=
                          bitsOf (d.tdata 6) 0 26 } → pduInvalid e = false → pduValid (d.pdu ix.toNat) =
    false → d.pduDuplicate ix.toNat e = false → exec (.gvPduWrite i ix) s = .next (s.ends
    ((((d.commanded (R.GV_TCMD) (tcmdWord 1 0 ix.toNat) F.GV_TCMD_GO).setPdu ix.toNat { e with
      since := d.baseNs }).put F.GV_TRESULT_CODE 0).modSap (fun x => { x with
      touched := (1, ix.toNat) :: x.touched })))) ∧
  -- (6) Over a valid one of the same direction, bus and length, its triple new, it replaces the words
  -- and keeps the rest.
  (∀ (s : State) (i : Init) (ix : BitVec 16) (d : Dev) (e : PduEntry), s.dev.reaches i (R.GV_TCMD) =
    some d → d.lockedWrite (R.GV_TCMD) (tcmdWord 1 0 ix.toNat) = false → d.flag F.GV_TCMD_GO = false →
    bitOf (d.tdata 0) 31 = true → e = { d.pdu ix.toNat with
      w0 := putBits (d.tdata 0) 28 1 0, w1 := d.tdata 1, w2 := d.tdata 2, w3 := if bitOf (d.tdata 0) 30
        then d.tdata 3 else bitsOf (d.tdata 3) 0 15, w4 := putBits (d.tdata 4) 16 13 0, w5 := d.tdata 5,
        w6 := bitsOf (d.tdata 6) 0 26 } → pduInvalid e = false → pduValid (d.pdu ix.toNat) = true →
    pduTx (d.pdu ix.toNat) = pduTx e → pduBus (d.pdu ix.toNat) = pduBus e → pduLen (d.pdu ix.toNat) =
    pduLen e → (pduTx e = true ∨ d.pduDuplicate ix.toNat e = false) → (i ≠ .mc ∨ s.dev.sapState ≠ 5) →
    exec (.gvPduWrite i ix) s = .next (s.ends (((d.commanded (R.GV_TCMD) (tcmdWord 1 0 ix.toNat)
    F.GV_TCMD_GO).setPdu ix.toNat e).put F.GV_TRESULT_CODE 0))) ∧
  -- (7) Over one of another direction, bus or length it is refused with 0x010D.
  (∀ (s : State) (i : Init) (ix : BitVec 16) (d : Dev) (e : PduEntry), s.dev.reaches i (R.GV_TCMD) =
    some d → d.lockedWrite (R.GV_TCMD) (tcmdWord 1 0 ix.toNat) = false → d.flag F.GV_TCMD_GO = false →
    bitOf (d.tdata 0) 31 = true → e = { d.pdu ix.toNat with
      w0 := putBits (d.tdata 0) 28 1 0, w1 := d.tdata 1, w2 := d.tdata 2, w3 := if bitOf (d.tdata 0) 30
        then d.tdata 3 else bitsOf (d.tdata 3) 0 15, w4 := putBits (d.tdata 4) 16 13 0, w5 := d.tdata 5,
        w6 := bitsOf (d.tdata 6) 0 26 } → pduInvalid e = false → pduValid (d.pdu ix.toNat) = true →
    (pduTx (d.pdu ix.toNat) ≠ pduTx e ∨ pduBus (d.pdu ix.toNat) ≠ pduBus e ∨ pduLen (d.pdu ix.toNat) ≠
    pduLen e) → (i ≠ .mc ∨ s.dev.sapState ≠ 5) → exec (.gvPduWrite i ix) s = .next (s.ends
    (((d.commanded (R.GV_TCMD) (tcmdWord 1 0 ix.toNat) F.GV_TCMD_GO).put F.GV_TRESULT_CODE
    0x010D).recordErr (.gv 1) (initCode i) R.GV_TCMD 0x010D))) ∧
  -- (8) Of a transmit PDU without cells enough it is refused with 0x010F.
  (∀ (s : State) (i : Init) (ix : BitVec 16) (d : Dev) (e : PduEntry), s.dev.reaches i (R.GV_TCMD) =
    some d → d.lockedWrite (R.GV_TCMD) (tcmdWord 1 0 ix.toNat) = false → d.flag F.GV_TCMD_GO = false →
    bitOf (d.tdata 0) 31 = true → bitOf (d.tdata 0) 30 = true → e = { d.pdu ix.toNat with
      w0 := putBits (d.tdata 0) 28 1 0, w1 := d.tdata 1, w2 := d.tdata 2, w3 := if bitOf (d.tdata 0) 30
        then d.tdata 3 else bitsOf (d.tdata 3) 0 15, w4 := putBits (d.tdata 4) 16 13 0, w5 := d.tdata 5,
        w6 := bitsOf (d.tdata 6) 0 26 } → pduInvalid e = false → pduValid (d.pdu ix.toNat) = false →
    d.get F.GV_IMG_CELLS_CELLS < d.get F.GV_IMG_CELLS_USED + imageCells (pduLen e) → (i ≠ .mc ∨
    s.dev.sapState ≠ 5) → exec (.gvPduWrite i ix) s = .next (s.ends (((d.commanded (R.GV_TCMD) (tcmdWord
    1 0 ix.toNat) F.GV_TCMD_GO).put F.GV_TRESULT_CODE 0x010F).recordErr (.gv 1) (initCode i) R.GV_TCMD
    0x010F))) ∧
  -- (9) Of a valid transmit PDU, where none was valid, it also takes the image cells.
  (∀ (s : State) (i : Init) (ix : BitVec 16) (d : Dev) (e : PduEntry), s.dev.reaches i (R.GV_TCMD) =
    some d → d.lockedWrite (R.GV_TCMD) (tcmdWord 1 0 ix.toNat) = false → d.flag F.GV_TCMD_GO = false →
    bitOf (d.tdata 0) 31 = true → bitOf (d.tdata 0) 30 = true → e = { d.pdu ix.toNat with
      w0 := putBits (d.tdata 0) 28 1 0, w1 := d.tdata 1, w2 := d.tdata 2, w3 := d.tdata 3, w4 := putBits
        (d.tdata 4) 16 13 0, w5 := d.tdata 5, w6 := bitsOf (d.tdata 6) 0 26 } → pduInvalid e = false →
    pduValid (d.pdu ix.toNat) = false → d.get F.GV_IMG_CELLS_USED + imageCells (pduLen e) ≤ d.get
    F.GV_IMG_CELLS_CELLS → (i ≠ .mc ∨ s.dev.sapState ≠ 5) → exec (.gvPduWrite i ix) s = .next (s.ends
    ((((d.commanded (R.GV_TCMD) (tcmdWord 1 0 ix.toNat) F.GV_TCMD_GO).put F.GV_IMG_CELLS_USED (d.get
    F.GV_IMG_CELLS_USED + imageCells (pduLen e))).setPdu ix.toNat { e with
      since := d.baseNs }).put F.GV_TRESULT_CODE 0))) ∧
  -- (10) With VALID = 0 it leaves the descriptor invalid with its status word 0; the others stay.
  (∀ (s : State) (i : Init) (ix : BitVec 16) (d : Dev), s.dev.reaches i (R.GV_TCMD) = some d →
    d.lockedWrite (R.GV_TCMD) (tcmdWord 1 0 ix.toNat) = false → d.flag F.GV_TCMD_GO = false → bitOf
    (d.tdata 0) 31 = false → ∃ d' : Dev, exec (.gvPduWrite i ix) s = .next (s.ends d') ∧ pduValid
    (d'.pdu ix.toNat) = false ∧ pduStatus (d'.pdu ix.toNat) = 0 ∧ (d'.pdu ix.toNat).w1 = d.tdata 1 ∧
    (d'.pdu ix.toNat).w2 = d.tdata 2 ∧ (∀ k, k ≠ ix.toNat → d'.pdu k = d.pdu k) ∧ d'.get
    F.GV_TRESULT_CODE = 0) ∧
  -- (11) GV_IMAGE_READ of a transmit PDU at an offset within it copies 32 bytes into GV_TDATA.
  (∀ (s : State) (i : Init) (ix : BitVec 16) (d : Dev), s.dev.reaches i (R.GV_TCMD) = some d →
    d.lockedWrite (R.GV_TCMD) (tcmdWord 0 2 ix.toNat) = false → d.flag F.GV_TCMD_GO = false → pduIsTx
    (d.pdu ix.toNat) = true → 32 * d.get F.GV_TOFF_OFFSET < pduLen (d.pdu ix.toNat) → exec (.gvImageRead
    i ix) s = .next (s.ends (((d.commanded (R.GV_TCMD) (tcmdWord 0 2 ix.toNat) F.GV_TCMD_GO).putTdata 8
    (fun k => bitsOf (d.pdu ix.toNat).image (8 * (32 * d.get F.GV_TOFF_OFFSET) + 32 * k) 32)).put
    F.GV_TRESULT_CODE 0))) ∧
  -- (12) GV_IMAGE_WRITE writes 32 bytes, cut at the PDU's length.
  (∀ (s : State) (i : Init) (ix : BitVec 16) (d : Dev), s.dev.reaches i (R.GV_TCMD) = some d →
    d.lockedWrite (R.GV_TCMD) (tcmdWord 1 2 ix.toNat) = false → d.flag F.GV_TCMD_GO = false → pduIsTx
    (d.pdu ix.toNat) = true → 32 * d.get F.GV_TOFF_OFFSET < pduLen (d.pdu ix.toNat) → (i ≠ .mc ∨
    s.dev.sapState ≠ 5) → exec (.gvImageWrite i ix) s = .next (s.ends (((d.commanded (R.GV_TCMD)
    (tcmdWord 1 2 ix.toNat) F.GV_TCMD_GO).setPdu ix.toNat { d.pdu ix.toNat with
      image := cutImage (pduLen (d.pdu ix.toNat)) (putBits (d.pdu ix.toNat).image (8 * (32 * d.get
        F.GV_TOFF_OFFSET)) 256 ((List.range 8).foldl (fun a k => a + d.tdata k * 2 ^ (32 * k)) 0))
        }).put F.GV_TRESULT_CODE 0))) ∧
  -- (13) GV_IMAGE_READ elsewhere is refused with 0x010D.
  (∀ (s : State) (i : Init) (ix : BitVec 16) (d : Dev), s.dev.reaches i (R.GV_TCMD) = some d →
    d.lockedWrite (R.GV_TCMD) (tcmdWord 0 2 ix.toNat) = false → d.flag F.GV_TCMD_GO = false → (pduIsTx
    (d.pdu ix.toNat) = false ∨ pduLen (d.pdu ix.toNat) ≤ 32 * d.get F.GV_TOFF_OFFSET) → (i ≠ .mc ∨
    s.dev.sapState ≠ 5) → exec (.gvImageRead i ix) s = .next (s.ends (((d.commanded (R.GV_TCMD)
    (tcmdWord 0 2 ix.toNat) F.GV_TCMD_GO).put F.GV_TRESULT_CODE 0x010D).recordErr (.gv 1) (initCode i)
    R.GV_TCMD 0x010D))) ∧
  -- (14) GV_IMAGE_WRITE elsewhere is refused with 0x010D.
  (∀ (s : State) (i : Init) (ix : BitVec 16) (d : Dev), s.dev.reaches i (R.GV_TCMD) = some d →
    d.lockedWrite (R.GV_TCMD) (tcmdWord 1 2 ix.toNat) = false → d.flag F.GV_TCMD_GO = false → (pduIsTx
    (d.pdu ix.toNat) = false ∨ pduLen (d.pdu ix.toNat) ≤ 32 * d.get F.GV_TOFF_OFFSET) → (i ≠ .mc ∨
    s.dev.sapState ≠ 5) → exec (.gvImageWrite i ix) s = .next (s.ends (((d.commanded (R.GV_TCMD)
    (tcmdWord 1 2 ix.toNat) F.GV_TCMD_GO).put F.GV_TRESULT_CODE 0x010D).recordErr (.gv 1) (initCode i)
    R.GV_TCMD 0x010D)))

/-- Instances handed over and committed, destinations, and reception timeouts (R92, R93, R98, R99, R101,
R112).
Log entries that say where the model chose on these rules: 77, 81, 87, 104, 194, 272. -/
def Obligations.GroveFlowCommands : Prop :=
  -- (1) INSTANCE_HANDOVER gives the unpaired instance, no timeout, that the arbiter holds to a waiting
  -- thread: empty stage, PDU in rd, the thread busy for 40 ns plus the input's transfer (the model's
  -- choice); the others and every register stay.
  (∀ (s : State) (t t2 : Fin 128) (x : Instance) (rd : Nat), s.dev.waits t = true → (s.dev.thr t).st =
    .awaitWork rd → s.dev.gv.arb = some x → x.timeout = false → x.paired = false → ∃ d' : Dev, exec
    (.instanceHandover t t2) s = .next (s.ends d') ∧ (d'.thr t).inst = some { x with
      partner := 0, start := s.dev.baseNs } ∧ (d'.thr t).stage = {} ∧ (d'.thr t).st = .ready ∧ (d'.thr
    t).pc = ((s.dev.thr t).pc + 4) % 2 ^ 32 ∧ (rd ≠ 0 → tget (d'.thr t).x rd = BitVec.ofNat 32 x.pdu) ∧
    (d'.thr t).busy = s.dev.baseNs + (40 + (x.rxlen + 31) / 32) ∧ d'.gv.arb = none ∧ (∀ k, k ≠ t.val →
    d'.thr k = s.dev.thr k) ∧ d'.regs = s.dev.regs) ∧
  -- (2) A paired one goes to two waiting threads of different engines, each the other's partner, with
  -- bit 17 of rd set.
  (∀ (s : State) (t t2 : Fin 128) (x : Instance) (rd rd2 : Nat), s.dev.waits t = true → s.dev.waits t2 =
    true → t.val / 8 ≠ t2.val / 8 → (s.dev.thr t).st = .awaitWork rd → (s.dev.thr t2).st = .awaitWork
    rd2 → s.dev.gv.arb = some x → x.timeout = false → x.paired = true → ∃ d' : Dev, exec
    (.instanceHandover t t2) s = .next (s.ends d') ∧ (d'.thr t).inst = some { x with
      partner := t2, start := s.dev.baseNs } ∧ (d'.thr t2).inst = some { x with
      partner := t, start := s.dev.baseNs } ∧ (d'.thr t).st = .ready ∧ (d'.thr t2).st = .ready ∧ (rd ≠ 0
    → tget (d'.thr t).x rd = BitVec.ofNat 32 (x.pdu + 2 ^ 17)) ∧ d'.gv.arb = none ∧ (∀ k, k ≠ t.val → k
    ≠ t2.val → d'.thr k = s.dev.thr k) ∧ d'.regs = s.dev.regs) ∧
  -- (3) To a thread that does not wait nothing is handed.
  (∀ (s : State) (t t2 : Fin 128), s.dev.waits t = false → exec (.instanceHandover t t2) s = .next
    (s.ends (s.dev))) ∧
  -- (4) INSTANCE_COMMIT of an unpaired instance at the front of its source commits its stage, ends it
  -- and completes its GX.PDUPUT END.
  (∀ (s : State) (t : Fin 128) (rd : Nat) (x : Instance), (s.dev.thr t).st = .committing rd → (s.dev.thr
    t).inst = some x → s.dev.isFront x = true → x.paired = false → exec (.instanceCommit t 0) s = .next
    (s.ends (((s.dev.commitStage x (s.dev.thr t).stage).endItem x.src x.serial).leave t rd))) ∧
  -- (5) Behind an earlier one it waits.
  (∀ (s : State) (t : Fin 128) (rd : Nat) (x : Instance), (s.dev.thr t).st = .committing rd → (s.dev.thr
    t).inst = some x → s.dev.isFront x = false → exec (.instanceCommit t 0) s = .next (s.ends (s.dev)))
    ∧
  -- (6) With an uncorrectable error (in the Gallery or the signal store, which is free) or a parity
  -- error it commits nothing, is reported and counted, and ends.
  (∀ (s : State) (t : Fin 128) (rd : Nat) (x : Instance) (err : Fin 3), err ≠ 0 → (s.dev.thr t).st =
    .committing rd → (s.dev.thr t).inst = some x → x.paired = false → x.ended = false → exec
    (.instanceCommit t err) s = .next (s.ends ((((((if err = 1 then (s.dev.free 2).2.dbe (1 +
    (s.dev.free 2).1) else s.dev.report 3 0).bump (F.ENG_FAULTS_COUNT (t / 8))).rxEvents x []).endItem
    x.src x.serial).leave t rd)))) ∧
  -- (7) The same while the instance runs aborts it and drops its stage.
  (∀ (s : State) (t : Fin 128) (x : Instance) (err : Fin 3), err ≠ 0 → (s.dev.thr t).st = .ready →
    (s.dev.thr t).inst = some x → x.ended = false → exec (.instanceCommit t err) s = .next (s.ends
    ((((if err = 1 then (s.dev.free 2).2.dbe (1 + (s.dev.free 2).1) else s.dev.report 3 0).bump
    (F.ENG_FAULTS_COUNT (t / 8))).abortStage t)))) ∧
  -- (8) DESTINATION_ACCEPT of port 26, admitted, head's gap over, Grove on, mode not M3: the head leaves
  -- the queue, is no longer pending, its gap begins, the admission is used.
  (∀ (s : State) (n : Nat) (rest : List GvItem), s.dev.queue 80 = .pdu n :: rest → s.dev.released (.gv
    0) = true → s.dev.enabled (.gv 0) = true → s.dev.mode ≠ 3 → s.dev.gapOver (.pdu n) = true →
    (s.dev.port 26).admitted = true → ∃ d' : Dev, exec (.destinationAccept .port26) s = .next (s.ends
    d') ∧ d'.queue 80 = rest ∧ (d'.pdu n).pending = false ∧ (d'.pdu n).lastSend = some s.dev.baseNs ∧
    (d'.port 26).admitted = false) ∧
  -- (9) Of a CAN channel with a free slot the head is popped and its element pushed.
  (∀ (s : State) (c : Fin 64) (n slot : Nat) (rest : List GvItem), s.dev.queue c = .pdu n :: rest →
    s.dev.released (.gv 0) = true → s.dev.enabled (.gv 0) = true → s.dev.mode ≠ 3 → s.dev.gapOver (.pdu
    n) = true → s.dev.sendSlot (canC c) = some slot → exec (.destinationAccept (.can c)) s = .next
    (s.ends ((s.dev.popQueue c (.pdu n)).sendElement (canC c) slot (s.dev.pdu n)))) ∧
  -- (10) The same of a LIN channel.
  (∀ (s : State) (c : Fin 16) (n slot : Nat) (rest : List GvItem), s.dev.queue (64 + c) = .pdu n :: rest
    → s.dev.released (.gv 0) = true → s.dev.enabled (.gv 0) = true → s.dev.mode ≠ 3 → s.dev.gapOver
    (.pdu n) = true → s.dev.sendSlot (linC c) = some slot → exec (.destinationAccept (.lin c)) s = .next
    (s.ends ((s.dev.popQueue (64 + c) (.pdu n)).sendElement (linC c) slot (s.dev.pdu n)))) ∧
  -- (11) Of a host queue with a ring that can take it a PDU goes to the ring.
  (∀ (s : State) (q : Fin 16) (p r n : Nat) (rest : List GvItem), s.dev.queue (81 + q) = .pdu n :: rest
    → s.dev.released (.gv 0) = true → s.dev.enabled (.gv 0) = true → s.dev.mode ≠ 3 → s.dev.gapOver
    (.pdu n) = true → s.dev.queueRing q = some (p, r) → exec (.destinationAccept (.host q)) s = .next
    (s.ends ((s.dev.popQueue (81 + q) (.pdu n)).sendHost p r (.pdu n)))) ∧
  -- (12) An event PDU goes to it as 16 bytes; the PDU descriptors stay.
  (∀ (s : State) (q : Fin 16) (p r : Nat) (e : EventPdu) (rest : List GvItem), s.dev.queue (81 + q) =
    .event e :: rest → s.dev.released (.gv 0) = true → s.dev.enabled (.gv 0) = true → s.dev.mode ≠ 3 →
    s.dev.queueRing q = some (p, r) → ∃ d' : Dev, exec (.destinationAccept (.host q)) s = .next (s.ends
    d') ∧ d'.queue (81 + q) = rest ∧ tget (tget d'.hb p).back r = tget (tget s.dev.hb p).back r ++
    [⟨eventBytes e, e.stamp, true, none, some (if 4 ≤ e.type then e.source else 0)⟩] ∧ d'.gv.pdu =
    s.dev.gv.pdu) ∧
  -- (13) Before MIN_GAP_US has passed nothing happens.
  (∀ (s : State) (x : GvDest) (n t : Nat) (rest : List GvItem), s.dev.queue (destIndex x) = .pdu n ::
    rest → (s.dev.pdu n).lastSend = some t → s.dev.baseNs < t + pduGapUs (s.dev.pdu n) * 1000 → exec
    (.destinationAccept x) s = .next (s.ends (s.dev))) ∧
  -- (14) RX_TIMEOUT of a valid receive PDU with TIMEOUT_MS not 0 and passed, channel awake, mode not M8,
  -- marks it, counts it and declares a timeout; the other PDUs and the threads stay.
  (∀ (s : State) (pdu : BitVec 16) (e : PduEntry), s.dev.pdu pdu.toNat = e → s.dev.released (.gv 0) =
    true → s.dev.enabled (.gv 0) = true → s.dev.mode ≠ 8 → pduIsRx e = true → e.timedOut = false →
    pduTimeoutMs e ≠ 0 → s.dev.chanAsleep (pduBus e) (pduChan e) = false → e.since + pduTimeoutMs e *
    1000000 ≤ s.dev.baseNs → ∃ d' : Dev, exec (.rxTimeout pdu) s = .next (s.ends d') ∧ d'.pdu pdu.toNat
    = { e with timedOut := true } ∧ (∀ k, k ≠ pdu.toNat → d'.pdu k = s.dev.pdu k) ∧ d'.gv.declared =
    s.dev.gv.declared ++ [⟨pdu.toNat, e.gen, s.dev.baseNs⟩] ∧ d'.get F.GV_TIMEOUTS_COUNT = satAdd 32
    (s.dev.get F.GV_TIMEOUTS_COUNT) 1 ∧ d'.gv.thr = s.dev.gv.thr)

/-- The Xgrove instructions that move and transform data (R80, R114, R116, R117, R118).
A thread runs where it may issue an instruction. A result goes to x[rd] (x0 discards it) and pc moves on
by 4.
Log entries that say where the model chose on these rules: 72, 74, 75, 83, 84, 276, 277. -/
def Obligations.XgroveDataInstructions : Prop :=
  -- (1) GX.SIGLD of a valid descriptor loads its words and index and returns NEXT.
  (∀ (s : State) (t : Fin 128) (pc : Word) (rd : Fin 32) (k : Fin 4) (ix : Word), s.dev.gxReady t = true
    → sigValid (s.dev.sigWord (ix.toNat % 2 ^ 20) 0) = true → exec (.gxSigld t pc rd k ix false) s =
    .next (s.ends ((((s.dev.modThr t (fun c => { c with
      pc := pc.toNat }))).modThr t (fun c => { c with
      dw := (List.range 3).foldl (fun a w => tset a (3 * k + w) (s.dev.sigWord (ix.toNat % 2 ^ 20) w))
        c.dw, dix := tset c.dix k (ix.toNat % 2 ^ 20) })).gxDone t rd (bitsOf (s.dev.sigWord (ix.toNat %
    2 ^ 20) 2) 0 20)))) ∧
  -- (2) Of an invalid one it counts a skip and returns 0x800FFFFF.
  (∀ (s : State) (t : Fin 128) (pc : Word) (rd : Fin 32) (k : Fin 4) (ix : Word), s.dev.gxReady t = true
    → sigValid (s.dev.sigWord (ix.toNat % 2 ^ 20) 0) = false → exec (.gxSigld t pc rd k ix false) s =
    .next (s.ends (((((s.dev.modThr t (fun c => { c with
      pc := pc.toNat }))).modThr t (fun c => { c with
      dw := (List.range 3).foldl (fun a w => tset a (3 * k + w) (s.dev.sigWord (ix.toNat % 2 ^ 20) w))
        c.dw, dix := tset c.dix k (ix.toNat % 2 ^ 20) })).gvSkip).gxDone t rd 0x800FFFFF))) ∧
  -- (3) One with an uncorrectable error is reported and counts as invalid.
  (∀ (s : State) (t : Fin 128) (pc : Word) (rd : Fin 32) (k : Fin 4) (ix : Word), s.dev.gxReady t = true
    → exec (.gxSigld t pc rd k ix true) s = .next (s.ends ((((((s.dev.modThr t (fun c => { c with
      pc := pc.toNat }))).modThr t (fun c => { c with
      dw := (List.range 3).foldl (fun a w => tset a (3 * k + w) (s.dev.sigWord (ix.toNat % 2 ^ 20) w))
        c.dw, dix := tset c.dix k (ix.toNat % 2 ^ 20) })).dbe 2).gvSkip).gxDone t rd 0x800FFFFF))) ∧
  -- (4) GX.SIGST writes the descriptor's bits that are not reserved and returns 0.
  (∀ (s : State) (t : Fin 128) (pc : Word) (rd : Fin 32) (k : Fin 4) (ix : Word), s.dev.gxReady t = true
    → exec (.gxSigst t pc rd k ix) s = .next (s.ends (((List.range 3).foldl (fun (a : Dev) w => a.setSig
    (3 * (ix.toNat % 2 ^ 20) + w) (Nat.land (dreg (s.dev.thr t) k w) (sigMask w))) (s.dev.modThr t (fun
    c => { c with pc := pc.toNat }))).gxDone t rd 0))) ∧
  -- (5) GX.EXT of a source that fits, in no timeout, takes the field from the input with class 0.
  (∀ (s : State) (t : Fin 128) (pc : Word) (rd : Fin 32) (k v : Fin 4) (x : Instance) (w0 : Nat),
    s.dev.gxReady t = true → (s.dev.thr t).inst = some x → x.aborted = false → x.timeout = false → dreg
    (s.dev.thr t) k 0 = w0 → sigSink w0 = false → fieldFits (sigBig w0) (sigStart w0) (sigLen w0) x.fits
    = true → exec (.gxExt t pc rd k v) s = .next (s.ends ((((s.dev.modThr t (fun c => { c with
      pc := pc.toNat }))).putV t v { val := extended (sigSigned w0) (sigLen w0) (fieldGet (sigBig w0)
                                       (sigStart w0) (sigLen w0) x.input), cls := 0, upd := sigUpd w0,
                                       signed := sigSigned w0, lenM1 := sigLen w0 - 1, xfm := bitsOf
                                       (dreg (s.dev.thr t) k 1) 0 16 }).gxDone t rd 0))) ∧
  -- (6) Of a source that does not fit it counts a skip and returns 2.
  (∀ (s : State) (t : Fin 128) (pc : Word) (rd : Fin 32) (k v : Fin 4) (x : Instance) (w0 : Nat),
    s.dev.gxReady t = true → (s.dev.thr t).inst = some x → x.aborted = false → dreg (s.dev.thr t) k 0 =
    w0 → sigSink w0 = false → fieldFits (sigBig w0) (sigStart w0) (sigLen w0) x.fits = false → exec
    (.gxExt t pc rd k v) s = .next (s.ends ((((s.dev.modThr t (fun c => { c with
      pc := pc.toNat }))).gvSkip).gxDone t rd 2))) ∧
  -- (7) Of a sink that fits a valid transmit PDU it takes the staged field.
  (∀ (s : State) (t : Fin 128) (pc : Word) (rd : Fin 32) (k v : Fin 4) (x : Instance) (w0 p : Nat),
    s.dev.gxReady t = true → (s.dev.thr t).inst = some x → x.aborted = false → dreg (s.dev.thr t) k 0 =
    w0 → bitsOf (dreg (s.dev.thr t) k 1) 16 16 = p → sigSink w0 = true → pduIsTx (s.dev.pdu p) = true →
    fieldFits (sigBig w0) (sigStart w0) (sigLen w0) (pduLen (s.dev.pdu p)) = true → exec (.gxExt t pc rd
    k v) s = .next (s.ends ((((s.dev.modThr t (fun c => { c with
      pc := pc.toNat }))).putV t v { val := extended (sigSigned w0) (sigLen w0) (fieldGet (sigBig w0)
                                       (sigStart w0) (sigLen w0) (s.dev.staged (s.dev.thr t).stage p)),
                                       cls := 0, upd := 0, signed := sigSigned w0, lenM1 := sigLen w0 -
                                       1, xfm := 0 }).gxDone t rd 0))) ∧
  -- (8) In an aborted instance EXT, XFM and INS return 3.
  (∀ (s : State) (t : Fin 128) (pc : Word) (rd : Fin 32) (k v w : Fin 4) (x : Instance), s.dev.gxReady t
    = true → (s.dev.thr t).inst = some x → x.aborted = true → exec (.gxExt t pc rd k v) s = .next
    (s.ends (((s.dev.modThr t (fun c => { c with pc := pc.toNat }))).gxDone t rd 3)) ∧ exec (.gxXfm t pc
    rd k v w) s = .next (s.ends (((s.dev.modThr t (fun c => { c with
      pc := pc.toNat }))).gxDone t rd 3)) ∧ exec (.gxIns t pc rd k v) s = .next (s.ends (((s.dev.modThr
    t (fun c => { c with pc := pc.toNat }))).gxDone t rd 3))) ∧
  -- (9) GX.XFM writes what the transform makes, returns 0.
  (∀ (s : State) (t : Fin 128) (pc : Word) (rd : Fin 32) (k vd vs : Fin 4) (x : Instance) (w0 r : Nat),
    s.dev.gxReady t = true → (s.dev.thr t).inst = some x → x.aborted = false → dreg (s.dev.thr t) k 0 =
    w0 → s.dev.transform (tget (s.dev.thr t).v vs).xfm (tget (s.dev.thr t).v vs).cls ((tget (s.dev.thr
    t).v vs).val % 2 ^ ((tget (s.dev.thr t).v vs).lenM1 + 1)) ((tget (s.dev.thr t).v vs).lenM1 + 1)
    (vVal (tget (s.dev.thr t).v vs)) (sigLen w0) (sigSigned w0) = some (r, false) → exec (.gxXfm t pc rd
    k vd vs) s = .next (s.ends ((((s.dev.modThr t (fun c => { c with
      pc := pc.toNat }))).putV t vd { val := extended (sigSigned w0) (sigLen w0) r, cls := 0, upd :=
                                        (tget (s.dev.thr t).v vs).upd, signed := sigSigned w0, lenM1 :=
                                        sigLen w0 - 1, xfm := 0 }).gxDone t rd 0))) ∧
  -- (10) A saturated result is also counted, with event 4.
  (∀ (s : State) (t : Fin 128) (pc : Word) (rd : Fin 32) (k vd vs : Fin 4) (x : Instance) (w0 r : Nat),
    s.dev.gxReady t = true → (s.dev.thr t).inst = some x → x.aborted = false → dreg (s.dev.thr t) k 0 =
    w0 → s.dev.transform (tget (s.dev.thr t).v vs).xfm (tget (s.dev.thr t).v vs).cls ((tget (s.dev.thr
    t).v vs).val % 2 ^ ((tget (s.dev.thr t).v vs).lenM1 + 1)) ((tget (s.dev.thr t).v vs).lenM1 + 1)
    (vVal (tget (s.dev.thr t).v vs)) (sigLen w0) (sigSigned w0) = some (r, true) → exec (.gxXfm t pc rd
    k vd vs) s = .next (s.ends ((((((s.dev.modThr t (fun c => { c with
      pc := pc.toNat }))).bump F.GV_SAT_COUNT).raise (.gv 0) 4).putV t vd {
      val := extended (sigSigned w0) (sigLen w0) r, cls := 0, upd := (tget (s.dev.thr t).v vs).upd,
        signed := sigSigned w0, lenM1 := sigLen w0 - 1, xfm := 0 }).gxDone t rd 0))) ∧
  -- (11) Where it makes nothing it returns 1 with class 3 and a free value; other threads and every
  -- register stay.
  (∀ (s : State) (t : Fin 128) (pc : Word) (rd : Fin 32) (k vd vs : Fin 4) (x : Instance) (w0 : Nat),
    s.dev.gxReady t = true → (s.dev.thr t).inst = some x → x.aborted = false → dreg (s.dev.thr t) k 0 =
    w0 → s.dev.transform (tget (s.dev.thr t).v vs).xfm (tget (s.dev.thr t).v vs).cls ((tget (s.dev.thr
    t).v vs).val % 2 ^ ((tget (s.dev.thr t).v vs).lenM1 + 1)) ((tget (s.dev.thr t).v vs).lenM1 + 1)
    (vVal (tget (s.dev.thr t).v vs)) (sigLen w0) (sigSigned w0) = none → ∃ d' : Dev, exec (.gxXfm t pc
    rd k vd vs) s = .next (s.ends d') ∧ (tget (d'.thr t).v vd).cls = 3 ∧ (rd ≠ 0 → tget (d'.thr t).x rd
    = 1) ∧ (d'.thr t).pc = (pc.toNat + 4) % 2 ^ 32 ∧ (d'.thr t).st = .ready ∧ d'.regs = s.dev.regs ∧ ∀
    n, n ≠ t.val → d'.thr n = s.dev.thr n) ∧
  -- (12) GX.TS 3 to 6 returns the low word of Base or a domain's ns.
  (∀ (s : State) (t : Fin 128) (pc : Word) (rd : Fin 32) (sel : Fin 8), s.dev.gxReady t = true → 3 ≤
    sel.val → sel.val ≤ 6 → exec (.gxTs t pc rd sel) s = .next (s.ends (((s.dev.modThr t (fun c => { c
    with pc := pc.toNat }))).gxDone t rd (s.dev.tbVal (sel - 2) / 2 ^ 16 % 2 ^ 32)))) ∧
  -- (13) 0 returns the instance's stamp in ns.
  (∀ (s : State) (t : Fin 128) (pc : Word) (rd : Fin 32) (x : Instance), s.dev.gxReady t = true →
    (s.dev.thr t).inst = some x → exec (.gxTs t pc rd 0) s = .next (s.ends (((s.dev.modThr t (fun c => {
    c with pc := pc.toNat }))).gxDone t rd (x.stamp / 8)))) ∧
  -- (14) 1 its 125 ps.
  (∀ (s : State) (t : Fin 128) (pc : Word) (rd : Fin 32) (x : Instance), s.dev.gxReady t = true →
    (s.dev.thr t).inst = some x → exec (.gxTs t pc rd 1) s = .next (s.ends (((s.dev.modThr t (fun c => {
    c with pc := pc.toNat }))).gxDone t rd (x.stamp % 8)))) ∧
  -- (15) 2 returns Base time, 7 is an illegal instruction, cause 2.
  (∀ (s : State) (t : Fin 128) (pc : Word) (rd : Fin 32), s.dev.gxReady t = true → exec (.gxTs t pc rd
    2) s = .next (s.ends (((s.dev.modThr t (fun c => { c with
      pc := pc.toNat }))).gxDone t rd (s.dev.baseNs % 2 ^ 32))) ∧ exec (.gxTs t pc rd 7) s = .next
    (s.ends (((s.dev.modThr t (fun c => { c with pc := pc.toNat }))).threadFault t 0x02 pc.toNat)))

/-- The Xgrove instructions that take, stage and end instances (R112, R116, R118, R120).
For a thread that runs. Results as of every Xgrove instruction.
Log entries that say where the model chose on these rules: 72, 73, 74, 77, 83, 87, 276, 277. -/
def Obligations.XgroveStageAndInstances : Prop :=
  -- (1) GX.PDUGET without an instance, blocking, waits for work.
  (∀ (s : State) (t t2 : Fin 128) (pc : Word) (rd : Fin 32), s.dev.gxReady t = true → (s.dev.thr t).inst
    = none → exec (.gxPduget t pc rd true t2) s = .next (s.ends (((s.dev.modThr t (fun c => { c with
      pc := pc.toNat }))).modThr t (fun c => { c with
      st := .awaitWork rd })))) ∧
  -- (2) Not blocking, in its engine's turn, it returns bit 31.
  (∀ (s : State) (t t2 : Fin 128) (pc : Word) (rd : Fin 32), s.dev.gxReady t = true → (s.dev.thr t).inst
    = none → s.dev.serving (t / 8) = false → exec (.gxPduget t pc rd false t2) s = .next (s.ends
    (((s.dev.modThr t (fun c => { c with pc := pc.toNat }))).gxDone t rd 0x80000000))) ∧
  -- (3) Not blocking on a serving engine it takes the unpaired instance, no timeout, that the arbiter
  -- holds.
  (∀ (s : State) (t t2 : Fin 128) (pc : Word) (rd : Fin 32) (x : Instance), s.dev.gxReady t = true →
    (s.dev.thr t).inst = none → s.dev.serving (t / 8) = true → s.dev.gv.arb = some x → x.timeout = false
    → x.paired = false → exec (.gxPduget t pc rd false t2) s = .next (s.ends (({ (s.dev.modThr t (fun c
    => { c with pc := pc.toNat })) with gv := { ((s.dev.modThr t (fun c => { c with
                                          pc := pc.toNat }))).gv with
                                          arb := none } }).deliver t 0 rd x))) ∧
  -- (4) With an instance it is fault 0x11.
  (∀ (s : State) (t t2 : Fin 128) (pc : Word) (rd : Fin 32) (block : Bool) (x : Instance), s.dev.gxReady
    t = true → (s.dev.thr t).inst = some x → exec (.gxPduget t pc rd block t2) s = .next (s.ends
    (((s.dev.modThr t (fun c => { c with pc := pc.toNat }))).threadFault t 0x11 pc.toNat))) ∧
  -- (5) GX.INS of class 0, UPD 0, that fits stages the value.
  (∀ (s : State) (t : Fin 128) (pc : Word) (rd : Fin 32) (k v : Fin 4) (x : Instance) (w0 p : Nat),
    s.dev.gxReady t = true → (s.dev.thr t).inst = some x → x.aborted = false → dreg (s.dev.thr t) k 0 =
    w0 → bitsOf (dreg (s.dev.thr t) k 1) 16 16 = p → (tget (s.dev.thr t).v v).cls = 0 → (tget (s.dev.thr
    t).v v).upd = 0 → sigSink w0 = true → pduIsTx (s.dev.pdu p) = true → fieldFits (sigBig w0) (sigStart
    w0) (sigLen w0) (pduLen (s.dev.pdu p)) = true → stageFull (stageField (s.dev.thr t).stage p
    (s.dev.pdu p).gen (sigBig w0) (sigStart w0) (sigLen w0) ((tget (s.dev.thr t).v v).val % 2 ^ sigLen
    w0)) = false → exec (.gxIns t pc rd k v) s = .next (s.ends (((((s.dev.modThr t (fun c => { c with
      pc := pc.toNat }))).modThr t (fun c => { c with
      stage := stageField (s.dev.thr t).stage p (s.dev.pdu p).gen (sigBig w0) (sigStart w0) (sigLen w0)
        ((tget (s.dev.thr t).v v).val % 2 ^ sigLen w0) })).modInst t (fun y => { y with
      cmpOk := false })).gxDone t rd 0))) ∧
  -- (6) Another class returns 1.
  (∀ (s : State) (t : Fin 128) (pc : Word) (rd : Fin 32) (k v : Fin 4) (x : Instance), s.dev.gxReady t =
    true → (s.dev.thr t).inst = some x → x.aborted = false → (tget (s.dev.thr t).v v).cls ≠ 0 → exec
    (.gxIns t pc rd k v) s = .next (s.ends (((s.dev.modThr t (fun c => { c with
      pc := pc.toNat }))).gxDone t rd 1))) ∧
  -- (7) No sink, no valid transmit PDU or no fit: a skip, 2.
  (∀ (s : State) (t : Fin 128) (pc : Word) (rd : Fin 32) (k v : Fin 4) (x : Instance) (w0 p : Nat),
    s.dev.gxReady t = true → (s.dev.thr t).inst = some x → x.aborted = false → dreg (s.dev.thr t) k 0 =
    w0 → bitsOf (dreg (s.dev.thr t) k 1) 16 16 = p → (tget (s.dev.thr t).v v).cls = 0 → (sigSink w0 =
    false ∨ pduIsTx (s.dev.pdu p) = false ∨ fieldFits (sigBig w0) (sigStart w0) (sigLen w0) (pduLen
    (s.dev.pdu p)) = false) → exec (.gxIns t pc rd k v) s = .next (s.ends ((((s.dev.modThr t (fun c => {
    c with pc := pc.toNat }))).gvSkip).gxDone t rd 2))) ∧
  -- (8) UPD 1 or 3 and the value unchanged: 1.
  (∀ (s : State) (t : Fin 128) (pc : Word) (rd : Fin 32) (k v : Fin 4) (x : Instance) (w0 p : Nat),
    s.dev.gxReady t = true → (s.dev.thr t).inst = some x → x.aborted = false → dreg (s.dev.thr t) k 0 =
    w0 → bitsOf (dreg (s.dev.thr t) k 1) 16 16 = p → (tget (s.dev.thr t).v v).cls = 0 → sigSink w0 =
    true → pduIsTx (s.dev.pdu p) = true → fieldFits (sigBig w0) (sigStart w0) (sigLen w0) (pduLen
    (s.dev.pdu p)) = true → ((tget (s.dev.thr t).v v).upd = 1 ∨ (tget (s.dev.thr t).v v).upd = 3) →
    fieldGet (sigBig w0) (sigStart w0) (sigLen w0) (s.dev.staged (s.dev.thr t).stage p) = (tget
    (s.dev.thr t).v v).val % 2 ^ sigLen w0 → exec (.gxIns t pc rd k v) s = .next (s.ends (((s.dev.modThr
    t (fun c => { c with pc := pc.toNat }))).gxDone t rd 1))) ∧
  -- (9) UPD 2 also stages a trigger.
  (∀ (s : State) (t : Fin 128) (pc : Word) (rd : Fin 32) (k v : Fin 4) (x : Instance) (w0 p : Nat),
    s.dev.gxReady t = true → (s.dev.thr t).inst = some x → x.aborted = false → dreg (s.dev.thr t) k 0 =
    w0 → bitsOf (dreg (s.dev.thr t) k 1) 16 16 = p → (tget (s.dev.thr t).v v).cls = 0 → sigSink w0 =
    true → pduIsTx (s.dev.pdu p) = true → fieldFits (sigBig w0) (sigStart w0) (sigLen w0) (pduLen
    (s.dev.pdu p)) = true → (tget (s.dev.thr t).v v).upd = 2 → stageFull (stageTrig (stageField
    (s.dev.thr t).stage p (s.dev.pdu p).gen (sigBig w0) (sigStart w0) (sigLen w0) ((tget (s.dev.thr t).v
    v).val % 2 ^ sigLen w0)) p (s.dev.pdu p).gen) = false → exec (.gxIns t pc rd k v) s = .next (s.ends
    (((((s.dev.modThr t (fun c => { c with pc := pc.toNat }))).modThr t (fun c => { c with
      stage := stageTrig (stageField (s.dev.thr t).stage p (s.dev.pdu p).gen (sigBig w0) (sigStart w0)
        (sigLen w0) ((tget (s.dev.thr t).v v).val % 2 ^ sigLen w0)) p (s.dev.pdu p).gen })).modInst t
    (fun y => { y with cmpOk := false })).gxDone t rd 0))) ∧
  -- (10) A full stage aborts the instance: 3.
  (∀ (s : State) (t : Fin 128) (pc : Word) (rd : Fin 32) (k v : Fin 4) (x : Instance) (w0 p : Nat),
    s.dev.gxReady t = true → (s.dev.thr t).inst = some x → x.aborted = false → dreg (s.dev.thr t) k 0 =
    w0 → bitsOf (dreg (s.dev.thr t) k 1) 16 16 = p → (tget (s.dev.thr t).v v).cls = 0 → sigSink w0 =
    true → pduIsTx (s.dev.pdu p) = true → fieldFits (sigBig w0) (sigStart w0) (sigLen w0) (pduLen
    (s.dev.pdu p)) = true → (tget (s.dev.thr t).v v).upd = 0 → stageFull (stageField (s.dev.thr t).stage
    p (s.dev.pdu p).gen (sigBig w0) (sigStart w0) (sigLen w0) ((tget (s.dev.thr t).v v).val % 2 ^ sigLen
    w0)) = true → exec (.gxIns t pc rd k v) s = .next (s.ends ((((s.dev.modThr t (fun c => { c with
      pc := pc.toNat }))).stageAbort t).gxDone t rd 3))) ∧
  -- (11) GX.PDUPUT END, unpaired: waits for the commit.
  (∀ (s : State) (t : Fin 128) (pc : Word) (rd : Fin 32) (x : Instance), s.dev.gxReady t = true →
    (s.dev.thr t).inst = some x → x.paired = false → x.aborted = false → exec (.gxPduputEnd t pc rd) s =
    .next (s.ends (((s.dev.modThr t (fun c => { c with
      pc := pc.toNat }))).modThr t (fun c => { c with
      st := .committing rd })))) ∧
  -- (12) Aborted: the instance ends.
  (∀ (s : State) (t : Fin 128) (pc : Word) (rd : Fin 32) (x : Instance), s.dev.gxReady t = true →
    (s.dev.thr t).inst = some x → x.paired = false → x.aborted = true → exec (.gxPduputEnd t pc rd) s =
    .next (s.ends (((((s.dev.modThr t (fun c => { c with
      pc := pc.toNat }))).rxEvents x []).endItem x.src x.serial).leave t rd))) ∧
  -- (13) Paired: waits once compared equal, else a mismatch.
  (∀ (s : State) (t : Fin 128) (pc : Word) (rd : Fin 32) (x : Instance), s.dev.gxReady t = true →
    (s.dev.thr t).inst = some x → x.paired = true → x.ended = false → exec (.gxPduputEnd t pc rd) s =
    .next (s.ends (if x.cmpOk then ((s.dev.modThr t (fun c => { c with
      pc := pc.toNat }))).modThr t (fun c => { c with
      st := .committing rd }) else (((((s.dev.modThr t (fun c => { c with
      pc := pc.toNat }))).mismatch t x).leave t rd).failPartner x).freePartner x))) ∧
  -- (14) SEND stages a trigger of a valid transmit PDU.
  (∀ (s : State) (t : Fin 128) (pc : Word) (rd : Fin 32) (p : Word) (x : Instance), s.dev.gxReady t =
    true → (s.dev.thr t).inst = some x → x.aborted = false → pduIsTx (s.dev.pdu (p.toNat % 2 ^ 16)) =
    true → stageFull (stageTrig (s.dev.thr t).stage (p.toNat % 2 ^ 16) (s.dev.pdu (p.toNat % 2 ^
    16)).gen) = false → exec (.gxPduputSend t pc rd p) s = .next (s.ends (((((s.dev.modThr t (fun c => {
    c with pc := pc.toNat }))).modThr t (fun c => { c with
      stage := stageTrig (s.dev.thr t).stage (p.toNat % 2 ^ 16) (s.dev.pdu (p.toNat % 2 ^ 16)).gen
        })).modInst t (fun y => { y with cmpOk := false })).gxDone t rd 0))) ∧
  -- (15) Of another: 1.
  (∀ (s : State) (t : Fin 128) (pc : Word) (rd : Fin 32) (p : Word) (x : Instance), s.dev.gxReady t =
    true → (s.dev.thr t).inst = some x → pduIsTx (s.dev.pdu (p.toNat % 2 ^ 16)) = false → exec
    (.gxPduputSend t pc rd p) s = .next (s.ends (((s.dev.modThr t (fun c => { c with
      pc := pc.toNat }))).gxDone t rd 1))) ∧
  -- (16) DROP, unpaired, no timeout or restart, no FIFO or frame held, ends the instance; other threads,
  -- PDUs, queues stay.
  (∀ (s : State) (t : Fin 128) (pc : Word) (rd : Fin 32) (x : Instance), s.dev.gxReady t = true →
    (s.dev.thr t).inst = some x → x.paired = false → x.timeout = false → x.resume = false → (∀ e ∈ tget
    s.dev.gv.srcs x.src, e.fifo = none ∧ e.frame = none) → ∃ d' : Dev, exec (.gxPduputDrop t pc rd) s =
    .next (s.ends d') ∧ (d'.thr t).inst = none ∧ (d'.thr t).stage = {} ∧ (d'.thr t).st = .ready ∧
    (d'.thr t).pc = (pc.toNat + 4) % 2 ^ 32 ∧ (∀ k, k ≠ t.val → d'.thr k = s.dev.thr k) ∧ d'.gv.pdu =
    s.dev.gv.pdu ∧ d'.gv.queues = s.dev.gv.queues) ∧
  -- (17) DROP, paired: a mismatch.
  (∀ (s : State) (t : Fin 128) (pc : Word) (rd : Fin 32) (x : Instance), s.dev.gxReady t = true →
    (s.dev.thr t).inst = some x → x.paired = true → exec (.gxPduputDrop t pc rd) s = .next (s.ends
    ((((((s.dev.modThr t (fun c => { c with pc := pc.toNat }))).mismatch t x).leave t rd).failPartner
    x).freePartner x))) ∧
  -- (18) GX.WAIT takes a pending wake.
  (∀ (s : State) (t : Fin 128) (pc : Word) (rd : Fin 32) (p : Nat), s.dev.gxReady t = true →
    s.dev.resting (t / 8) = false → (s.dev.thr t).wake = some p → exec (.gxWait t pc rd) s = .next
    (s.ends (((((s.dev.modThr t (fun c => { c with
      pc := pc.toNat }))).modThr t (fun c => { c with
      wake := none })).gxDone t rd p).busyFor t 2))) ∧
  -- (19) Without one, or in its engine's turn, waits.
  (∀ (s : State) (t : Fin 128) (pc : Word) (rd : Fin 32), s.dev.gxReady t = true → ((s.dev.thr t).wake =
    none ∨ s.dev.resting (t / 8) = true) → exec (.gxWait t pc rd) s = .next (s.ends (((s.dev.modThr t
    (fun c => { c with pc := pc.toNat }))).modThr t (fun c => { c with
      st := .awaitWake rd })))) ∧
  -- (20) GX.EVT stages an event of type 0x80 or more, up to 4.
  (∀ (s : State) (t : Fin 128) (pc : Word) (rd : Fin 32) (tq x : Word) (y : Instance), s.dev.gxReady t =
    true → (s.dev.thr t).inst = some y → 0x80 ≤ tq.toNat % 2 ^ 8 → (s.dev.thr t).stage.events.length < 4
    → exec (.gxEvt t pc rd tq x) s = .next (s.ends (((((s.dev.modThr t (fun c => { c with
      pc := pc.toNat }))).modThr t (fun c => { c with
      stage := { (s.dev.thr t).stage with events := (s.dev.thr t).stage.events ++ [⟨tq.toNat % 2 ^ 8,
                                            bitsOf tq.toNat 8 4, x.toNat⟩] } })).modInst t (fun z => { z
    with cmpOk := false })).gxDone t rd 0))) ∧
  -- (21) Else 1.
  (∀ (s : State) (t : Fin 128) (pc : Word) (rd : Fin 32) (tq x : Word) (y : Instance), s.dev.gxReady t =
    true → (s.dev.thr t).inst = some y → (tq.toNat % 2 ^ 8 < 0x80 ∨ 4 ≤ (s.dev.thr
    t).stage.events.length) → exec (.gxEvt t pc rd tq x) s = .next (s.ends (((s.dev.modThr t (fun c => {
    c with pc := pc.toNat }))).gxDone t rd 1))) ∧
  -- (22) GX.CMP unpaired: 0.
  (∀ (s : State) (t : Fin 128) (pc : Word) (rd : Fin 32) (x : Word) (y : Instance), s.dev.gxReady t =
    true → (s.dev.thr t).inst = some y → y.paired = false → exec (.gxCmp t pc rd x) s = .next (s.ends
    (((s.dev.modThr t (fun c => { c with pc := pc.toNat }))).gxDone t rd 0))) ∧
  -- (23) Paired, the partner not there yet: waits.
  (∀ (s : State) (t : Fin 128) (pc : Word) (rd : Fin 32) (x : Word) (y z : Instance), s.dev.gxReady t =
    true → (s.dev.thr t).inst = some y → y.paired = true → y.owed = false → y.ended = false → y.aborted
    = false → y.partner ≠ t.val → (s.dev.thr y.partner).inst = some z → z.serial = y.serial → z.aborted
    = false → (s.dev.thr y.partner).st = .ready → exec (.gxCmp t pc rd x) s = .next (s.ends
    (((s.dev.modThr t (fun c => { c with pc := pc.toNat }))).modThr t (fun c => { c with
      st := .awaitPartner rd x.toNat s.dev.baseNs })))) ∧
  -- (24) Both there within 20 us: both get 0 where stages and words are equal, 1 where not.
  (∀ (s : State) (t : Fin 128) (pc : Word) (rd : Fin 32) (x : Word) (y z : Instance) (rd2 word since :
    Nat), s.dev.gxReady t = true → (s.dev.thr t).inst = some y → y.paired = true → y.owed = false →
    y.ended = false → y.aborted = false → y.partner ≠ t.val → (s.dev.thr y.partner).inst = some z →
    z.serial = y.serial → z.aborted = false → (s.dev.thr y.partner).st = .awaitPartner rd2 word since →
    s.dev.baseNs ≤ since + 20000 → exec (.gxCmp t pc rd x) s = .next (s.ends (((s.dev.modThr t (fun c =>
    { c with pc := pc.toNat }))).cmpBoth t rd y.partner rd2 (if compared (s.dev.thr t).stage == compared
    (s.dev.thr y.partner).stage && x.toNat == word then 0 else 1))))

/-- Faults of Grove threads, the limits on instances and pairs, and the restart (R113, R120, R121).
A thread runs where it may issue an instruction.
Log entries that say where the model chose on these rules: 72, 73, 76, 80, 85, 93, 198, 255. -/
def Obligations.ThreadFaultsAndRestart : Prop :=
  -- (1) THREAD_EXCEPTION of a running thread, ENG_FAULT_CAUSE not VALID: it records cause 2 to 8, thread
  -- and pc, counts the fault, ends the instance, and the thread restarts 1 us later; the Timeline stays.
  (∀ (s : State) (t : Fin 128) (cause : Fin 7) (pc : Word), s.dev.gxReady t = true → s.dev.flag
    (F.ENG_FAULT_CAUSE_VALID (t / 8)) = false → ∃ d' : Dev, exec (.threadException t cause pc) s = .next
    (s.ends d') ∧ d'.get (F.ENG_FAULT_CAUSE_CAUSE (t / 8)) = cause + 2 ∧ d'.get
    (F.ENG_FAULT_CAUSE_THREAD (t / 8)) = t % 8 ∧ d'.get (F.ENG_FAULT_PC_PC (t / 8)) = pc.toNat ∧ d'.get
    (F.ENG_FAULTS_COUNT (t / 8)) = satAdd 32 (s.dev.get (F.ENG_FAULTS_COUNT (t / 8))) 1 ∧ (d'.thr t).st
    = .restarting (s.dev.baseNs + 1000) ∧ (d'.thr t).inst = none ∧ d'.flag (F.ENG_FAULT_CAUSE_VALID (t /
    8)) = true ∧ d'.tl = s.dev.tl) ∧
  -- (2) INSTANCE_TIMEOUT 100 us after the start of a ready thread's instance does the same with cause
  -- 0x10.
  (∀ (s : State) (t : Fin 128) (pc : Word) (x : Instance), (s.dev.thr t).inst = some x → (s.dev.thr
    t).st = .ready → x.start + 100000 ≤ s.dev.baseNs → s.dev.flag (F.ENG_FAULT_CAUSE_VALID (t / 8)) =
    false → ∃ d' : Dev, exec (.instanceTimeout t pc) s = .next (s.ends d') ∧ d'.get
    (F.ENG_FAULT_CAUSE_CAUSE (t / 8)) = 0x10 ∧ d'.get (F.ENG_FAULT_PC_PC (t / 8)) = pc.toNat ∧ (d'.thr
    t).st = .restarting (s.dev.baseNs + 1000) ∧ (d'.thr t).inst = none ∧ d'.flag
    (F.ENG_FAULT_CAUSE_VALID (t / 8)) = true ∧ d'.tl = s.dev.tl) ∧
  -- (3) THREAD_EXCEPTION of a thread that does not run does nothing.
  (∀ (s : State) (t : Fin 128) (cause : Fin 7) (pc : Word), s.dev.gxReady t = false → exec
    (.threadException t cause pc) s = .next (s.ends (s.dev))) ∧
  -- (4) INSTANCE_TIMEOUT before 100 us, or with no instance, does nothing.
  (∀ (s : State) (t : Fin 128) (pc : Word), (s.dev.thr t).inst.all (fun x => decide (s.dev.baseNs <
    x.start + 100000)) = true → exec (.instanceTimeout t pc) s = .next (s.ends (s.dev))) ∧
  -- (5) THREAD_RESTART, due, while Grove runs, begins at 0x4000 with the thread's state cleared but a
  -- pending wake; the other threads and every register stay.
  (∀ (s : State) (t : Fin 128) (u : Nat), (s.dev.thr t).st = .restarting u → s.dev.gvRuns = true → u ≤
    s.dev.baseNs → ∃ d' : Dev, exec (.threadRestart t) s = .next (s.ends d') ∧ d'.thr t = {
      st := .ready, pc := 0x4000, wake := (s.dev.thr t).wake } ∧ (∀ k, k ≠ t.val → d'.thr k = s.dev.thr
    k) ∧ d'.regs = s.dev.regs) ∧
  -- (6) PAIR_CMP_TIMEOUT 20 us after a thread began to wait for its partner, another thread, returns
  -- status 2; the third threads and every register stay.
  (∀ (s : State) (t : Fin 128) (rd word since : Nat) (x : Instance), (s.dev.thr t).st = .awaitPartner rd
    word since → (s.dev.thr t).inst = some x → since + 20000 ≤ s.dev.baseNs → x.partner ≠ t.val → ∃ d' :
    Dev, exec (.pairCmpTimeout t) s = .next (s.ends d') ∧ (d'.thr t).st = .ready ∧ (d'.thr t).inst =
    some { x with cmpOk := false } ∧ (rd ≠ 0 → tget (d'.thr t).x rd = 2) ∧ (∀ k, k ≠ t.val → k ≠
    x.partner → d'.thr k = s.dev.thr k) ∧ d'.regs = s.dev.regs) ∧
  -- (7) An Xgrove instruction of a thread that does not run does nothing.
  (∀ (s : State) (t t2 : Fin 128) (pc v w : Word) (rd : Fin 32) (k a b : Fin 4) (sel : Fin 8) (block dbe
    : Bool), s.dev.gxReady t = false → exec (.gxSigld t pc rd k v dbe) s = .next (s.ends (s.dev)) ∧ exec
    (.gxSigst t pc rd k v) s = .next (s.ends (s.dev)) ∧ exec (.gxExt t pc rd k a) s = .next (s.ends
    (s.dev)) ∧ exec (.gxXfm t pc rd k a b) s = .next (s.ends (s.dev)) ∧ exec (.gxIns t pc rd k a) s =
    .next (s.ends (s.dev)) ∧ exec (.gxTs t pc rd sel) s = .next (s.ends (s.dev)) ∧ exec (.gxPduget t pc
    rd block t2) s = .next (s.ends (s.dev)) ∧ exec (.gxPduputEnd t pc rd) s = .next (s.ends (s.dev)) ∧
    exec (.gxPduputSend t pc rd v) s = .next (s.ends (s.dev)) ∧ exec (.gxPduputDrop t pc rd) s = .next
    (s.ends (s.dev)) ∧ exec (.gxWait t pc rd) s = .next (s.ends (s.dev)) ∧ exec (.gxEvt t pc rd v w) s =
    .next (s.ends (s.dev)) ∧ exec (.gxCmp t pc rd v) s = .next (s.ends (s.dev))) ∧
  -- (8) One that needs an instance takes fault 0x12 without one.
  (∀ (s : State) (t : Fin 128) (pc v w : Word) (rd : Fin 32) (k a b : Fin 4) (sel : Fin 2),
    s.dev.gxReady t = true → (s.dev.thr t).inst = none → exec (.gxExt t pc rd k a) s = .next (s.ends
    (((s.dev.modThr t (fun c => { c with pc := pc.toNat }))).threadFault t 0x12 pc.toNat)) ∧ exec
    (.gxXfm t pc rd k a b) s = .next (s.ends (((s.dev.modThr t (fun c => { c with
      pc := pc.toNat }))).threadFault t 0x12 pc.toNat)) ∧ exec (.gxIns t pc rd k a) s = .next (s.ends
    (((s.dev.modThr t (fun c => { c with pc := pc.toNat }))).threadFault t 0x12 pc.toNat)) ∧ exec (.gxTs
    t pc rd (Fin.castLE (by omega) sel)) s = .next (s.ends (((s.dev.modThr t (fun c => { c with
      pc := pc.toNat }))).threadFault t 0x12 pc.toNat)) ∧ exec (.gxPduputEnd t pc rd) s = .next (s.ends
    (((s.dev.modThr t (fun c => { c with pc := pc.toNat }))).threadFault t 0x12 pc.toNat)) ∧ exec
    (.gxPduputSend t pc rd v) s = .next (s.ends (((s.dev.modThr t (fun c => { c with
      pc := pc.toNat }))).threadFault t 0x12 pc.toNat)) ∧ exec (.gxPduputDrop t pc rd) s = .next (s.ends
    (((s.dev.modThr t (fun c => { c with pc := pc.toNat }))).threadFault t 0x12 pc.toNat)) ∧ exec
    (.gxEvt t pc rd v w) s = .next (s.ends (((s.dev.modThr t (fun c => { c with
      pc := pc.toNat }))).threadFault t 0x12 pc.toNat)) ∧ exec (.gxCmp t pc rd v) s = .next (s.ends
    (((s.dev.modThr t (fun c => { c with pc := pc.toNat }))).threadFault t 0x12 pc.toNat)))

/-- Starting and halting the engines, their initial test, the image loader and local memory (R111, R125,
R126).
A write is taken where it reaches its register and no LOCK refuses it.
Log entries that say where the model chose on these rules: 78, 79, 88, 94. -/
def Obligations.EngineRunAndLoad : Prop :=
  -- (1) ENGINE_RUN, taken, while halted sets RUN; each thread of a healthy engine but the calendar's is
  -- fresh at 0x4000, ready once the initial test is done, else in test; PDUs stay.
  (∀ (s : State) (i : Init) (d : Dev), s.dev.reaches i (R.GV_ENG_CTRL) = some d → d.lockedWrite
    (R.GV_ENG_CTRL) (1) = false → d.flag F.GV_ENG_CTRL_RUN = false → ∃ d' : Dev, exec (.engineRun i) s =
    .next (s.ends d') ∧ d'.flag F.GV_ENG_CTRL_RUN = true ∧ d'.gv.initTest = (!d.flag
    F.GV_ROT_STAT_INIT_DONE) ∧ d'.gv.pdu = d.gv.pdu ∧ ∀ t : Fin 128, d.healthy (t / 8) = true →
    d.calThread t = false → d'.thr t = { st := if d.flag F.GV_ROT_STAT_INIT_DONE then .ready else
                                           .selftest, pc := 0x4000, wake := (d.thr t).wake }) ∧
  -- (2) ENGINE_HALT, taken, in M8 or with Grove disabled clears RUN; every thread halts without an
  -- instance.
  (∀ (s : State) (i : Init) (d : Dev), s.dev.reaches i (R.GV_ENG_CTRL) = some d → d.lockedWrite
    (R.GV_ENG_CTRL) (0) = false → d.flag F.GV_ENG_CTRL_RUN = true → (d.mode = 8 ∨ d.enabled (.gv 0) =
    false) → ∃ d' : Dev, exec (.engineHalt i) s = .next (s.ends d') ∧ d'.flag F.GV_ENG_CTRL_RUN = false
    ∧ d'.gv.initTest = false ∧ ∀ t : Fin 128, (d'.thr t).st = .halted ∧ (d'.thr t).inst = none) ∧
  -- (3) With Grove enabled outside M8 it is refused with LOAD_STATE 0x0110.
  (∀ (s : State) (i : Init) (d : Dev), s.dev.reaches i (R.GV_ENG_CTRL) = some d → d.lockedWrite
    (R.GV_ENG_CTRL) (0) = false → d.flag F.GV_ENG_CTRL_RUN = true → d.mode ≠ 8 → d.enabled (.gv 0) =
    true → exec (.engineHalt i) s = .next (s.ends (d.failWrite i R.GV_ENG_CTRL 0 0x0110))) ∧
  -- (4) ENGINE_INIT_TEST_DONE of a running test sets INIT_DONE and retires exactly the engines that
  -- failed.
  (∀ (s : State) (failed : BitVec 16), s.dev.gv.initTest = true → s.dev.released (.gv 2) = true → ∃ d' :
    Dev, exec (.engineInitTestDone failed) s = .next (s.ends d') ∧ d'.flag F.GV_ROT_STAT_INIT_DONE =
    true ∧ d'.gv.initTest = false ∧ ∀ e : Fin 16, d'.healthy e = (s.dev.healthy e && !bitOf failed.toNat
    e)) ∧
  -- (5) GV_LOAD_START, taken, engines halted, BYTES not 0, a multiple of 64 up to 196608, starts the
  -- loader; nothing else changes.
  (∀ (s : State) (i : Init) (d : Dev), s.dev.reaches i (R.GV_LOAD_CTRL) = some d → d.lockedWrite
    (R.GV_LOAD_CTRL) (cmdWord [(F.GV_LOAD_CTRL_GO, 1)]) = false → d.get F.GV_LOAD_CTRL_STATE ≠ 1 →
    d.flag F.GV_ENG_CTRL_RUN = false → d.get F.GV_LOAD_LEN_BYTES ≠ 0 → d.get F.GV_LOAD_LEN_BYTES % 64 =
    0 → d.get F.GV_LOAD_LEN_BYTES ≤ 196608 → ∃ d' : Dev, exec (.gvLoadStart i) s = .next (s.ends d') ∧
    d'.get F.GV_LOAD_CTRL_STATE = 1 ∧ d'.flag F.GV_LOAD_CTRL_GO = true ∧ d'.gv = { d.gv with
      loadRetry := false, loadFw := i == .mc } ∧ ∀ a, a ≠ R.GV_LOAD_CTRL → d'.word a = d.word a) ∧
  -- (6) GV_LOAD_DONE with the CRC right, in a load of the firmware also the code of the slot in force
  -- where it is known, outside an activation (STATE 5): every healthy engine holds the bytes as little-
  -- endian words, STATE DONE, GO 0; threads, PDUs and other registers stay.
  (∀ (s : State) (bytes : List Byte) (code : Option (List Byte)), s.dev.get F.GV_LOAD_CTRL_STATE = 1 →
    s.dev.flag F.GV_ENG_CTRL_RUN = false → crc32c (Sys2Proof.Machine.slice bytes 0 (s.dev.get
    F.GV_LOAD_LEN_BYTES)) = s.dev.get F.GV_LOAD_CRC_CRC → s.dev.get F.GV_LOAD_LEN_BYTES ≤ 196608 → (if
    s.dev.gv.loadFw then s.dev.slotCode else none) = code → code.all (fun c => (Sys2Proof.Machine.slice
    bytes 0 (s.dev.get F.GV_LOAD_LEN_BYTES)).take c.length == c) = true → s.dev.sapState ≠ 5 → ∃ d' :
    Dev, exec (.gvLoadDone bytes) s = .next (s.ends d') ∧ d'.get F.GV_LOAD_CTRL_STATE = 2 ∧ d'.flag
    F.GV_LOAD_CTRL_GO = false ∧ (∀ (e : Fin 16) (w : Fin 65536), s.dev.healthy e = true → 4 * w.val <
    s.dev.get F.GV_LOAD_LEN_BYTES → tget d'.gv.lm (65536 * e + w) = BitVec.ofNat 32 (leNat
    (((Sys2Proof.Machine.slice bytes 0 (s.dev.get F.GV_LOAD_LEN_BYTES)).drop (4 * w)).take 4))) ∧
    d'.gv.thr = s.dev.gv.thr ∧ d'.gv.pdu = s.dev.gv.pdu ∧ ∀ a, a ≠ R.GV_LOAD_CTRL → d'.word a =
    s.dev.word a) ∧
  -- (7) With a second wrong CRC, or code: STATE CRC_FAIL.
  (∀ (s : State) (bytes : List Byte) (code : Option (List Byte)), s.dev.get F.GV_LOAD_CTRL_STATE = 1 →
    (if s.dev.gv.loadFw then s.dev.slotCode else none) = code → (crc32c (Sys2Proof.Machine.slice bytes 0
    (s.dev.get F.GV_LOAD_LEN_BYTES)) ≠ s.dev.get F.GV_LOAD_CRC_CRC ∨ code.all (fun c =>
    (Sys2Proof.Machine.slice bytes 0 (s.dev.get F.GV_LOAD_LEN_BYTES)).take c.length == c) = false) →
    s.dev.flag F.GV_ENG_CTRL_RUN = false → s.dev.gv.loadRetry = true → s.dev.sapState ≠ 5 → ∃ d' : Dev,
    exec (.gvLoadDone bytes) s = .next (s.ends d') ∧ d'.get F.GV_LOAD_CTRL_STATE = 3 ∧ d'.flag
    F.GV_LOAD_CTRL_GO = false) ∧
  -- (8) With a first the copy is made once more.
  (∀ (s : State) (bytes : List Byte) (code : Option (List Byte)), s.dev.get F.GV_LOAD_CTRL_STATE = 1 →
    (if s.dev.gv.loadFw then s.dev.slotCode else none) = code → (crc32c (Sys2Proof.Machine.slice bytes 0
    (s.dev.get F.GV_LOAD_LEN_BYTES)) ≠ s.dev.get F.GV_LOAD_CRC_CRC ∨ code.all (fun c =>
    (Sys2Proof.Machine.slice bytes 0 (s.dev.get F.GV_LOAD_LEN_BYTES)).take c.length == c) = false) →
    s.dev.flag F.GV_ENG_CTRL_RUN = false → s.dev.gv.loadRetry = false → ∃ d' : Dev, exec (.gvLoadDone
    bytes) s = .next (s.ends d') ∧ d'.gv.loadRetry = true ∧ d'.regs = s.dev.regs) ∧
  -- (9) With RUN = 1 the load fails (the model's choice).
  (∀ (s : State) (bytes : List Byte), s.dev.get F.GV_LOAD_CTRL_STATE = 1 → s.dev.flag F.GV_ENG_CTRL_RUN
    = true → s.dev.sapState ≠ 5 → exec (.gvLoadDone bytes) s = .next (s.ends ((s.dev.put
    F.GV_LOAD_CTRL_GO 0).put F.GV_LOAD_CTRL_STATE 3))) ∧
  -- (10) In an activation the end of the copy is told to the relay (R314, R315).
  (∀ (s : State) (bytes : List Byte) (d1 : Dev), s.dev.get F.GV_LOAD_CTRL_STATE = 1 → s.dev.sapState = 5
    → s.dev.loadDone (if s.dev.gv.loadFw then s.dev.slotCode else none) bytes = d1 → exec (.gvLoadDone
    bytes) s = .next (s.ends (if d1.get F.GV_LOAD_CTRL_STATE = 3 then d1.sapRevert 1 else if d1.get
    F.GV_LOAD_CTRL_STATE = 2 then d1.sapLoaded else d1))) ∧
  -- (11) With no load in progress nothing happens.
  (∀ (s : State) (bytes : List Byte), s.dev.get F.GV_LOAD_CTRL_STATE ≠ 1 → exec (.gvLoadDone bytes) s =
    .next (s.ends (s.dev))) ∧
  -- (12) GV_LOAD_START otherwise is refused with 0x0110.
  (∀ (s : State) (i : Init) (d : Dev), s.dev.reaches i (R.GV_LOAD_CTRL) = some d → d.lockedWrite
    (R.GV_LOAD_CTRL) (cmdWord [(F.GV_LOAD_CTRL_GO, 1)]) = false → d.get F.GV_LOAD_CTRL_STATE ≠ 1 →
    (d.flag F.GV_ENG_CTRL_RUN = true ∨ d.get F.GV_LOAD_LEN_BYTES = 0 ∨ d.get F.GV_LOAD_LEN_BYTES % 64 ≠
    0 ∨ 196608 < d.get F.GV_LOAD_LEN_BYTES) → exec (.gvLoadStart i) s = .next (s.ends (d.failWrite i
    R.GV_LOAD_CTRL (cmdWord [(F.GV_LOAD_CTRL_GO, 1)]) 0x0110))) ∧
  -- (13) GV_LM_DATA_WRITE with RUN = 1 is refused with 0x0110.
  (∀ (s : State) (i : Init) (v : Word) (d : Dev), s.dev.reaches i (R.GV_LM_DATA) = some d →
    d.lockedWrite (R.GV_LM_DATA) (v) = false → d.flag F.GV_ENG_CTRL_RUN = true → exec (.gvLmDataWrite i
    v) s = .next (s.ends (d.failWrite i R.GV_LM_DATA v 0x0110))) ∧
  -- (14) With RUN = 0 it stores into the selected engines at ADDR, and ADDR grows by 1; other registers
  -- stay.
  (∀ (s : State) (i : Init) (v : Word) (d : Dev), s.dev.reaches i (R.GV_LM_DATA) = some d →
    d.lockedWrite (R.GV_LM_DATA) (v) = false → d.flag F.GV_ENG_CTRL_RUN = false → ∃ d' : Dev, exec
    (.gvLmDataWrite i v) s = .next (s.ends d') ∧ (∀ e : Fin 16, bitOf (d.get F.GV_LM_SEL_MASK) e = true
    → tget d'.gv.lm (65536 * e + d.get F.GV_LM_ADDR_ADDR) = v) ∧ d'.get F.GV_LM_ADDR_ADDR = (d.get
    F.GV_LM_ADDR_ADDR + 1) % 2 ^ F.GV_LM_ADDR_ADDR.width ∧ (∀ a, a ≠ R.GV_LM_ADDR → d'.word a = d.word
    a)) ∧
  -- (15) ENGINE_INIT_TEST_DONE without a running test does nothing.
  (∀ (s : State) (failed : BitVec 16), s.dev.gv.initTest = false → exec (.engineInitTestDone failed) s =
    .next (s.ends (s.dev)))

/-- The rotating self-test of the engines (R122, R124, R327).
A write is taken where it reaches its register and no LOCK refuses it.
Log entries that say where the model chose on these rules: 78, 80, 82, 90, 91, 92. -/
def Obligations.RotatingSelfTest : Prop :=
  -- (1) SELFTEST_START in the drain phase, the resting engine's threads without instances, begins the
  -- test: PHASE 2, its threads in test.
  (∀ (s : State), s.dev.get F.GV_ROT_STAT_PHASE = 1 → (∀ k : Fin 8, (s.dev.thr (8 * s.dev.get
    F.GV_ROT_STAT_RESTING + k)).inst = none) → ∃ d' : Dev, exec (.selftestStart) s = .next (s.ends d') ∧
    d'.get F.GV_ROT_STAT_PHASE = 2 ∧ (∀ k : Fin 8, (d'.thr (8 * s.dev.get F.GV_ROT_STAT_RESTING + k)).st
    = .selftest) ∧ d'.get F.GV_ROT_STAT_RESTING = s.dev.get F.GV_ROT_STAT_RESTING ∧ d'.gv.phaseAt =
    s.dev.baseNs) ∧
  -- (2) SELFTEST_DONE, passed, counts the turn, notes the engine's test time, and its threads in test
  -- start afresh at 0x4000 with their pending wakes.
  (∀ (s : State) (e : Nat), s.dev.get F.GV_ROT_STAT_PHASE = 2 → s.dev.get F.GV_ROT_STAT_RESTING = e → ∃
    d' : Dev, exec (.selftestDone true) s = .next (s.ends d') ∧ d'.get F.GV_ROT_CYCLES_COUNT =
    (s.dev.get F.GV_ROT_CYCLES_COUNT + 1) % 2 ^ F.GV_ROT_CYCLES_COUNT.width ∧ tget d'.gv.tested e =
    s.dev.testTime ∧ ∀ k : Fin 8, (s.dev.thr (8 * e + k)).st = .selftest → d'.thr (8 * e + k) = {
      st := .ready, pc := 0x4000, wake := (s.dev.thr (8 * e + k)).wake }) ∧
  -- (3) Failed it retires that engine alone.
  (∀ (s : State) (e : Fin 16), s.dev.get F.GV_ROT_STAT_PHASE = 2 → s.dev.get F.GV_ROT_STAT_RESTING = e →
    ∃ d' : Dev, exec (.selftestDone false) s = .next (s.ends d') ∧ d'.healthy e = false ∧ ∀ f : Fin 16,
    f ≠ e → d'.healthy f = s.dev.healthy f) ∧
  -- (4) GV_ROT_CMD, taken, of a healthy engine outside M8 is held with GO = 1; other registers and Grove
  -- stay.
  (∀ (s : State) (i : Init) (e : Fin 16) (d : Dev), s.dev.reaches i (R.GV_ROT_CMD) = some d →
    d.lockedWrite (R.GV_ROT_CMD) (cmdWord [(F.GV_ROT_CMD_GO, 1), (F.GV_ROT_CMD_ENGINE, e)]) = false →
    d.healthy e = true → d.mode ≠ 8 → ∃ d' : Dev, exec (.gvRotCmd i e) s = .next (s.ends d') ∧ d'.flag
    F.GV_ROT_CMD_GO = true ∧ d'.get F.GV_ROT_CMD_ENGINE = e ∧ d'.gv = d.gv ∧ ∀ a, a ≠ R.GV_ROT_CMD →
    d'.word a = d.word a) ∧
  -- (5) Of a retired engine, or in M8, it is refused with ROT_REFUSED 0x0111.
  (∀ (s : State) (i : Init) (e : Fin 16) (d : Dev), s.dev.reaches i (R.GV_ROT_CMD) = some d →
    d.lockedWrite (R.GV_ROT_CMD) (cmdWord [(F.GV_ROT_CMD_GO, 1), (F.GV_ROT_CMD_ENGINE, e)]) = false →
    (d.healthy e = false ∨ d.mode = 8) → exec (.gvRotCmd i e) s = .next (s.ends (d.failWrite i
    R.GV_ROT_CMD (cmdWord [(F.GV_ROT_CMD_GO, 1), (F.GV_ROT_CMD_ENGINE, e)]) 0x0111))) ∧
  -- (6) SELFTEST_DONE outside the test phase does nothing.
  (∀ (s : State) (pass : Bool), s.dev.get F.GV_ROT_STAT_PHASE ≠ 2 → exec (.selftestDone pass) s = .next
    (s.ends (s.dev))) ∧
  -- (7) SELFTEST_START outside the drain, or while an engine's thread still holds an instance, does
  -- nothing.
  (∀ (s : State) (k : Fin 8), (s.dev.get F.GV_ROT_STAT_PHASE ≠ 1 ∨ (s.dev.thr (8 * s.dev.get
    F.GV_ROT_STAT_RESTING + k)).inst.isSome = true) → exec (.selftestStart) s = .next (s.ends (s.dev)))

/-- What a CAN channel does with a frame that it received (R129, R131, R133, R135, R137, R139, R141, R145,
R225, R370).
A controller that is in service, error active or passive, in a group that drives its buses, receives
frames. A ring message of its channel is first handed to the Clearing assist, any other frame counts as
activity; d0 is the device after that. A tap of the channel captures every frame received, with what
became of it.
Log entries that say where the model chose on these rules: 44, 48, 49, 53, 54, 56, 61, 235, 236, 278,
279, 280. -/
def Obligations.CanReception : Prop :=
  -- (1) A frame that a filter accepts, with no authentication entry, is stored in the FIFO that the
  -- action names where there is room.
  (∀ (s : State) (n : Fin 64) (f : CanFrame) (ago : Nat) (d0 e d1 : Dev) (rs : List TapRes) (act flt :
    Nat) (q : Fin 3), s.dev.canHears n = true → s.dev.fmtEnabled n f.fmt = true → (s.dev.ringNode n
    f).elim (s.dev.chanActivity n) (fun r => s.dev.ringRx r f.data) = d0 → d0.canHears n = true →
    d0.fmtEnabled n f.fmt = true → d0.recReceived n = e → e.tapHead (32 + n) false 2048 = (d1, rs) →
    d1.canFilter n f = (act, flt) → act ≠ 3 → q = (if act = 1 then 0 else 1) → d1.rxRoom n q (elemBlocks
    (storedData f).length) = true → d1.authVerify n f (storedData f) = .plain → exec (.canFrameRx n f
    ago) s = .next (s.ends ((d1.rxStore n q f none flt (e.canRxStamp n ago) (e.canInstant ago /
    64).toNat).tapTail rs (e.canRxRecord n f ago 0 false)))) ∧
  -- (2) One that is rejected is counted in FILTER_REJECT.
  (∀ (s : State) (n : Fin 64) (f : CanFrame) (ago : Nat) (d0 e d1 : Dev) (rs : List TapRes) (flt : Nat),
    s.dev.canHears n = true → s.dev.fmtEnabled n f.fmt = true → (s.dev.ringNode n f).elim
    (s.dev.chanActivity n) (fun r => s.dev.ringRx r f.data) = d0 → d0.canHears n = true → d0.fmtEnabled
    n f.fmt = true → d0.recReceived n = e → e.tapHead (32 + n) false 2048 = (d1, rs) → d1.canFilter n f
    = (3, flt) → exec (.canFrameRx n f ago) s = .next (s.ends ((d1.bump (F.CAN_CNT_COUNT n 4)).tapTail
    rs (e.canRxRecord n f ago 1 false)))) ∧
  -- (3) One that finds no room is an overrun of that FIFO.
  (∀ (s : State) (n : Fin 64) (f : CanFrame) (ago : Nat) (d0 e d1 : Dev) (rs : List TapRes) (act flt :
    Nat) (q : Fin 3), s.dev.canHears n = true → s.dev.fmtEnabled n f.fmt = true → (s.dev.ringNode n
    f).elim (s.dev.chanActivity n) (fun r => s.dev.ringRx r f.data) = d0 → d0.canHears n = true →
    d0.fmtEnabled n f.fmt = true → d0.recReceived n = e → e.tapHead (32 + n) false 2048 = (d1, rs) →
    d1.canFilter n f = (act, flt) → act ≠ 3 → q = (if act = 1 then 0 else 1) → d1.rxRoom n q (elemBlocks
    (storedData f).length) = false → exec (.canFrameRx n f ago) s = .next (s.ends ((d1.fsOverrunAt (canC
    n) q).tapTail rs (e.canRxRecord n f ago 3 false)))) ∧
  -- (4) One that verifies at an authentication entry is stored with that entry, whose freshness becomes
  -- that of the frame.
  (∀ (s : State) (n : Fin 64) (f : CanFrame) (ago : Nat) (d0 e d1 : Dev) (rs : List TapRes) (act flt k
    fresh : Nat) (q : Fin 3), s.dev.canHears n = true → s.dev.fmtEnabled n f.fmt = true →
    (s.dev.ringNode n f).elim (s.dev.chanActivity n) (fun r => s.dev.ringRx r f.data) = d0 → d0.canHears
    n = true → d0.fmtEnabled n f.fmt = true → d0.recReceived n = e → e.tapHead (32 + n) false 2048 =
    (d1, rs) → d1.canFilter n f = (act, flt) → act ≠ 3 → q = (if act = 1 then 0 else 1) → d1.rxRoom n q
    (elemBlocks (storedData f).length) = true → d1.authVerify n f (storedData f) = .pass k fresh → exec
    (.canFrameRx n f ago) s = .next (s.ends (((d1.ramWrite n (d1.authAddr n k + 8) (leBytes 8
    fresh)).rxStore n q f (some k) flt (e.canRxStamp n ago) (e.canInstant ago / 64).toNat).tapTail rs
    (e.canRxRecord n f ago 0 true)))) ∧
  -- (5) One that fails there is counted at the entry and in AUTH_FAIL, which is raised.
  (∀ (s : State) (n : Fin 64) (f : CanFrame) (ago : Nat) (d0 e d1 : Dev) (rs : List TapRes) (act flt k :
    Nat) (q : Fin 3), s.dev.canHears n = true → s.dev.fmtEnabled n f.fmt = true → (s.dev.ringNode n
    f).elim (s.dev.chanActivity n) (fun r => s.dev.ringRx r f.data) = d0 → d0.canHears n = true →
    d0.fmtEnabled n f.fmt = true → d0.recReceived n = e → e.tapHead (32 + n) false 2048 = (d1, rs) →
    d1.canFilter n f = (act, flt) → act ≠ 3 → q = (if act = 1 then 0 else 1) → d1.rxRoom n q (elemBlocks
    (storedData f).length) = true → d1.authVerify n f (storedData f) = .fail k → exec (.canFrameRx n f
    ago) s = .next (s.ends ((((d1.ramWrite n (d1.authAddr n k + 16) (leBytes 4 (satAdd 32 (d1.ramNat n
    (d1.authAddr n k + 16) 4) 1))).bump (F.CAN_CNT_COUNT n 5)).raise (.can n) 6).tapTail rs
    (e.canRxRecord n f ago 2 false)))) ∧
  -- (6) One whose entry has no key is counted in AUTH_NOKEY.
  (∀ (s : State) (n : Fin 64) (f : CanFrame) (ago : Nat) (d0 e d1 : Dev) (rs : List TapRes) (act flt :
    Nat) (q : Fin 3), s.dev.canHears n = true → s.dev.fmtEnabled n f.fmt = true → (s.dev.ringNode n
    f).elim (s.dev.chanActivity n) (fun r => s.dev.ringRx r f.data) = d0 → d0.canHears n = true →
    d0.fmtEnabled n f.fmt = true → d0.recReceived n = e → e.tapHead (32 + n) false 2048 = (d1, rs) →
    d1.canFilter n f = (act, flt) → act ≠ 3 → q = (if act = 1 then 0 else 1) → d1.rxRoom n q (elemBlocks
    (storedData f).length) = true → d1.authVerify n f (storedData f) = .noKey → exec (.canFrameRx n f
    ago) s = .next (s.ends ((d1.bump (F.CAN_CNT_COUNT n 6)).tapTail rs (e.canRxRecord n f ago 2
    false)))) ∧
  -- (7) A frame of a format not enabled sends the controller into integration with PXE = 1.
  (∀ (s : State) (n : Fin 64) (f : CanFrame) (ago : Nat), s.dev.canHears n = true → s.dev.fmtEnabled n
    f.fmt = false → s.dev.flag (F.CAN_MODE_PXE n) = true → exec (.canFrameRx n f ago) s = .next (s.ends
    ((s.dev.canSetState n 3).dropFlushed n))) ∧
  -- (8) With PXE = 0 it is a form error.
  (∀ (s : State) (n : Fin 64) (f : CanFrame) (ago : Nat), s.dev.canHears n = true → s.dev.fmtEnabled n
    f.fmt = false → s.dev.flag (F.CAN_MODE_PXE n) = false → exec (.canFrameRx n f ago) s = .next (s.ends
    (s.dev.canBusError n 2 .rx1 false))) ∧
  -- (9) A controller that takes no part, or is in loopback, receives nothing from the bus.
  (∀ (s : State) (n : Fin 64) (f : CanFrame) (ago : Nat), s.dev.canHears n = false → exec (.canFrameRx n
    f ago) s = .next (s.ends (s.dev))) ∧
  -- (10) CAN_INTEGRATION_DONE of an integrating controller in service makes it error active or passive
  -- by its counters.
  (∀ (s : State) (n : Fin 64), s.dev.enabled (.can n) = true → s.dev.get (F.CAN_ERR_STATE n) = 3 → exec
    (.canIntegrationDone n) s = .next (s.ends (s.dev.canSetState n (s.dev.canErrState n)))) ∧
  -- (11) Of any other it does nothing.
  (∀ (s : State) (n : Fin 64), (s.dev.enabled (.can n) = false ∨ s.dev.get (F.CAN_ERR_STATE n) ≠ 3) →
    exec (.canIntegrationDone n) s = .next (s.ends (s.dev)))

/-- The end of a CAN transmission attempt, a MAC that is ready, a timed frame that waits too long (R130,
R131, R142, R143, R146, R246, R251, R326).
CAN_TX_DONE ends an attempt of a frame that may be on the bus: of a ring message in the reserved buffer
that was there when it started, or else of the frame at the head of the transmit FIFO.
Log entries that say where the model chose on these rules: 46, 50, 51, 52, 54, 61, 124, 139, 182, 183,
189, 235, 236, 237, 239, 255, 256, 265, 283, 303, 304. -/
def Obligations.CanTransmission : Prop :=
  -- (1) Outside loopback a frame sent, the only item, leaves the FIFO: TXC shows its slot, tag and
  -- stamp, TX_FRAMES counts it and TEC falls by 1; the memory and the other channels stay.
  (∀ (s : State) (n : Fin 64) (ago : Nat) (it : FsItem), s.dev.ringSending n ago = none →
    s.dev.txEligible n = true → (s.dev.chanSt n).tx = [it] → it.block < 32 → s.dev.canLoops n = false →
    s.dev.get (F.CAN_CNT_COUNT n 1) < 2 ^ 32 - 1 → ∃ d' : Dev, exec (.canTxDone n .sent ago) s = .next
    (s.ends d') ∧ (d'.chanSt n).tx = [] ∧ (d'.chanSt n).head = none ∧ (d'.chanSt n).ram = (s.dev.chanSt
    n).ram ∧ d'.flag (F.CAN_TXC_INFO_VALID n) = true ∧ d'.get (F.CAN_TXC_INFO_SLOT n) = it.block ∧
    d'.get (F.CAN_TXC_INFO_TAG n) = s.dev.ramNat n (s.dev.slotAddr n it.block + 14) 2 ∧ d'.get
    (F.CAN_TXC_NS_NS n) = s.dev.stampAt (24 + n) ((s.dev.canEdge64 : Int) - ago * 800) res12ns5 / 8 % 2
    ^ 32 ∧ d'.get (F.CAN_TXC_FRAC_FRAC n) = s.dev.stampAt (24 + n) ((s.dev.canEdge64 : Int) - ago * 800)
    res12ns5 % 8 ∧ d'.get (F.CAN_CNT_COUNT n 1) = s.dev.get (F.CAN_CNT_COUNT n 1) + 1 ∧ d'.get
    (F.CAN_ERR_TEC n) = s.dev.get (F.CAN_ERR_TEC n) - 1 ∧ ∀ k, k ≠ n.val → d'.chanSt k = s.dev.chanSt k)
    ∧
  -- (2) In loopback the controller then receives the frame.
  (∀ (s : State) (n : Fin 64) (ago : Nat) (it : FsItem) (t : List FsItem), s.dev.ringSending n ago =
    none → s.dev.txEligible n = true → (s.dev.chanSt n).tx = it :: t → 2 ≤ s.dev.get (F.CAN_MODE_TEST n)
    → exec (.canTxDone n .sent ago) s = .next (s.ends ((s.dev.canLeft n it ago).canStore n
    (s.dev.slotFrame n (s.dev.slotAddr (canC n) it.block)) ago))) ∧
  -- (3) An attempt lost or ended by an error leaves the frame at the head without DAR.
  (∀ (s : State) (n : Fin 64) (ago : Nat) (how : CanEnd) (h : TxHead), s.dev.ringSending n ago = none →
    s.dev.txEligible n = true → (s.dev.chanSt n).head = some h → how ≠ .sent → h.flushed = false →
    s.dev.flag (F.CAN_MODE_DAR n) = false → exec (.canTxDone n how ago) s = .next (s.ends (s.dev))) ∧
  -- (4) With DAR it leaves the FIFO.
  (∀ (s : State) (n : Fin 64) (ago : Nat) (how : CanEnd) (h : TxHead), s.dev.ringSending n ago = none →
    s.dev.txEligible n = true → (s.dev.chanSt n).head = some h → how ≠ .sent → h.flushed = false →
    s.dev.flag (F.CAN_MODE_DAR n) = true → exec (.canTxDone n how ago) s = .next (s.ends ((s.dev.txFree
    (canC n)).txNext (canC n)))) ∧
  -- (5) A flushed frame leaves it and is counted in TX_FLUSHED.
  (∀ (s : State) (n : Fin 64) (ago : Nat) (how : CanEnd) (h : TxHead), s.dev.ringSending n ago = none →
    s.dev.txEligible n = true → (s.dev.chanSt n).head = some h → how ≠ .sent → h.flushed = true → exec
    (.canTxDone n how ago) s = .next (s.ends (((s.dev.txFree (canC n)).bump (F.CAN_CNT_COUNT n
    10)).txNext (canC n)))) ∧
  -- (6) Where no frame may be on the bus nothing happens.
  (∀ (s : State) (n : Fin 64) (ago : Nat) (how : CanEnd), s.dev.ringSending n ago = none →
    s.dev.txEligible n = false → exec (.canTxDone n how ago) s = .next (s.ends (s.dev))) ∧
  -- (7) A ring message sent leaves the reserved buffer and is counted as a frame sent.
  (∀ (s : State) (n : Fin 64) (ago : Nat) (m : RingMsg), s.dev.ringSending n ago = some m → exec
    (.canTxDone n .sent ago) s = .next (s.ends (s.dev.ringLeft n m ago))) ∧
  -- (8) One not sent stays in the buffer without DAR and leaves it with DAR.
  (∀ (s : State) (n : Fin 64) (ago : Nat) (how : CanEnd) (m : RingMsg), s.dev.ringSending n ago = some m
    → how ≠ .sent → exec (.canTxDone n how ago) s = .next (s.ends (if s.dev.flag (F.CAN_MODE_DAR n) then
    s.dev.modClr (fun c => { c with buf := c.buf.drop 1 }) else s.dev))) ∧
  -- (9) CAN_MAC_READY at its time lets the head start.
  (∀ (s : State) (n : Fin 64) (h : TxHead) (t : Nat), (s.dev.chanSt n).head = some h → h.macAt = some t
    → t ≤ s.dev.baseNs → (h.timed = false ∨ h.released = false) → exec (.canMacReady n) s = .next
    (s.ends (s.dev.modChan n (fun c => { c with head := some { h with
                                                  macAt := none } })))) ∧
  -- (10) A timed head that was released before it is counted in TX_LATE.
  (∀ (s : State) (n : Fin 64) (h : TxHead) (t : Nat), (s.dev.chanSt n).head = some h → h.macAt = some t
    → t ≤ s.dev.baseNs → h.timed = true → h.released = true → exec (.canMacReady n) s = .next (s.ends
    ((s.dev.modChan n (fun c => { c with head := some { h with
                                           macAt := none } })).bump (F.CAN_CNT_COUNT n 8)))) ∧
  -- (11) Without a MAC in computation, or before its time, nothing happens.
  (∀ (s : State) (n : Fin 64), ((s.dev.chanSt n).head.bind TxHead.macAt).all (fun t => decide
    (s.dev.baseNs < t)) = true → exec (.canMacReady n) s = .next (s.ends (s.dev))) ∧
  -- (12) CAN_TIMED_EXPIRE WAIT_US after a timed head landed frees it, counts TX_EXPIRED and raises event
  -- 7.
  (∀ (s : State) (n : Fin 64) (h : TxHead), (s.dev.chanSt n).head = some h → h.timed = true → s.dev.get
    (F.CAN_TIMED_WAIT_US n) ≠ 0 → s.dev.chanDrives n = true → h.landed + s.dev.get (F.CAN_TIMED_WAIT_US
    n) * 1000 ≤ s.dev.baseNs → exec (.canTimedExpire n) s = .next (s.ends ((((s.dev.txFree (canC
    n)).bump (F.CAN_CNT_COUNT n 7)).raise (.can n) 7).txNext (canC n)))) ∧
  -- (13) Before that time, without a limit, in a sleeping group or with an untimed head it does nothing.
  (∀ (s : State) (n : Fin 64), (s.dev.chanSt n).head.all (fun h => !h.timed || s.dev.get
    (F.CAN_TIMED_WAIT_US n) == 0 || !s.dev.chanDrives n || decide (s.dev.baseNs < h.landed + s.dev.get
    (F.CAN_TIMED_WAIT_US n) * 1000)) = true → exec (.canTimedExpire n) s = .next (s.ends (s.dev)))

/-- CAN error confinement, bus-off recovery and the message RAM window (R131, R133, R142, R367, R370).
CAN_BUS_ERROR at a controller that takes part on its bus records the error and moves TEC or REC as ISO
11898-1 has it, where error signalling is on.
Log entries that say where the model chose on these rules: 25, 46, 49, 50, 53, 54, 61, 235, 236, 279. -/
def Obligations.CanErrorsAndRecovery : Prop :=
  -- (1) An error of a transmitter sets LEC, counts it and adds 8 to TEC; above 127 the controller is
  -- error passive; the channels stay.
  (∀ (s : State) (n : Fin 64) (code : Fin 6), s.dev.canActive n = true → s.dev.get (F.CAN_MODE_TEST n) ≠
    1 → s.dev.flag (F.CAN_MODE_RESTRICTED n) = false → s.dev.get (F.CAN_ERR_TEC n) + 8 ≤ 255 → s.dev.get
    (F.CAN_CNT_COUNT n 2) < 2 ^ 32 - 1 → ∃ d' : Dev, exec (.canBusError n code .tx8 false) s = .next
    (s.ends d') ∧ d'.get (F.CAN_ERR_LEC n) = code + 1 ∧ d'.get (F.CAN_ERR_TEC n) = s.dev.get
    (F.CAN_ERR_TEC n) + 8 ∧ d'.get (F.CAN_ERR_REC n) = s.dev.get (F.CAN_ERR_REC n) ∧ d'.get
    (F.CAN_CNT_COUNT n 2) = s.dev.get (F.CAN_CNT_COUNT n 2) + 1 ∧ d'.get (F.CAN_ERR_STATE n) = (if 127 <
    s.dev.get (F.CAN_ERR_TEC n) + 8 ∨ 127 < s.dev.get (F.CAN_ERR_REC n) then 1 else 0) ∧ d'.chan =
    s.dev.chan) ∧
  -- (2) An error of a receiver adds 1 or 8 to REC, which saturates at 255.
  (∀ (s : State) (n : Fin 64) (code : Fin 6) (kind : CanErrKind), s.dev.canActive n = true → s.dev.get
    (F.CAN_MODE_TEST n) ≠ 1 → s.dev.flag (F.CAN_MODE_RESTRICTED n) = false → s.dev.get (F.CAN_ERR_TEC n)
    ≤ 255 → (kind = .rx1 ∨ kind = .rx8) → ∃ d' : Dev, exec (.canBusError n code kind false) s = .next
    (s.ends d') ∧ d'.get (F.CAN_ERR_LEC n) = code + 1 ∧ d'.get (F.CAN_ERR_TEC n) = s.dev.get
    (F.CAN_ERR_TEC n) ∧ d'.get (F.CAN_ERR_REC n) = min 255 (s.dev.get (F.CAN_ERR_REC n) + (if kind =
    .rx1 then 1 else 8)) ∧ d'.get (F.CAN_ERR_STATE n) = (if 127 < s.dev.get (F.CAN_ERR_TEC n) ∨ 127 <
    min 255 (s.dev.get (F.CAN_ERR_REC n) + (if kind = .rx1 then 1 else 8)) then 1 else 0) ∧ d'.chan =
    s.dev.chan) ∧
  -- (3) A TEC above 255 enters bus-off and counts it; the FIFO keeps its items without DAR, and recovery
  -- begins with AUTO_RECOVER.
  (∀ (s : State) (n : Fin 64) (code : Fin 6), s.dev.canActive n = true → s.dev.get (F.CAN_MODE_TEST n) ≠
    1 → s.dev.flag (F.CAN_MODE_RESTRICTED n) = false → 255 < s.dev.get (F.CAN_ERR_TEC n) + 8 →
    s.dev.flag (F.CAN_MODE_DAR n) = false → (s.dev.chanSt n).head.all (fun h => !h.flushed) = true →
    s.dev.get (F.CAN_CNT_COUNT n 3) < 2 ^ 32 - 1 → ∃ d' : Dev, exec (.canBusError n code .tx8 false) s =
    .next (s.ends d') ∧ d'.get (F.CAN_ERR_STATE n) = 2 ∧ d'.get (F.CAN_ERR_LEC n) = code + 1 ∧ d'.get
    (F.CAN_ERR_TEC n) = min 511 (s.dev.get (F.CAN_ERR_TEC n) + 8) ∧ d'.get (F.CAN_CNT_COUNT n 3) =
    s.dev.get (F.CAN_CNT_COUNT n 3) + 1 ∧ (d'.chanSt n).recovering = (s.dev.flag
    (F.CAN_MODE_AUTO_RECOVER n) || (s.dev.chanSt n).recovering) ∧ (d'.chanSt n).tx = (s.dev.chanSt
    n).tx) ∧
  -- (4) With DAR the frame at the head, the only item, is discarded and counted in TX_BAD.
  (∀ (s : State) (n : Fin 64) (code : Fin 6) (it : FsItem), s.dev.canActive n = true → s.dev.get
    (F.CAN_MODE_TEST n) ≠ 1 → s.dev.flag (F.CAN_MODE_RESTRICTED n) = false → 255 < s.dev.get
    (F.CAN_ERR_TEC n) + 8 → s.dev.flag (F.CAN_MODE_DAR n) = true → (s.dev.chanSt n).head.any (fun h =>
    !h.flushed) = true → (s.dev.chanSt n).tx = [it] → s.dev.get (F.CAN_CNT_COUNT n 9) < 2 ^ 32 - 1 → ∃
    d' : Dev, exec (.canBusError n code .tx8 false) s = .next (s.ends d') ∧ d'.get (F.CAN_ERR_STATE n) =
    2 ∧ (d'.chanSt n).tx = [] ∧ (d'.chanSt n).head = none ∧ d'.get (F.CAN_CNT_COUNT n 9) = s.dev.get
    (F.CAN_CNT_COUNT n 9) + 1) ∧
  -- (5) In restricted operation, or in an XL data phase with TMS_EN, the counters stay and the
  -- controller integrates anew; without DAR its channel keeps everything but a flushed head.
  (∀ (s : State) (n : Fin 64) (code : Fin 6) (kind : CanErrKind) (xl : Bool), s.dev.canActive n = true →
    s.dev.get (F.CAN_MODE_TEST n) ≠ 1 → (s.dev.flag (F.CAN_MODE_RESTRICTED n) = true ∨ (xl = true ∧
    s.dev.flag (F.CAN_MODE_TMS_EN n) = true)) → s.dev.flag (F.CAN_MODE_DAR n) = false → (s.dev.chanSt
    n).head.all (fun h => !h.flushed) = true → ∃ d' : Dev, exec (.canBusError n code kind xl) s = .next
    (s.ends d') ∧ d'.get (F.CAN_ERR_STATE n) = 3 ∧ d'.get (F.CAN_ERR_LEC n) = code + 1 ∧ d'.get
    (F.CAN_ERR_TEC n) = s.dev.get (F.CAN_ERR_TEC n) ∧ d'.get (F.CAN_ERR_REC n) = s.dev.get
    (F.CAN_ERR_REC n) ∧ d'.chan = s.dev.chan) ∧
  -- (6) With DAR a frame that it was transmitting, the only item, leaves the FIFO.
  (∀ (s : State) (n : Fin 64) (code : Fin 6) (kind : CanErrKind) (xl : Bool) (it : FsItem),
    s.dev.txEligible n = true → s.dev.get (F.CAN_MODE_TEST n) ≠ 1 → (s.dev.flag (F.CAN_MODE_RESTRICTED
    n) = true ∨ (xl = true ∧ s.dev.flag (F.CAN_MODE_TMS_EN n) = true)) → s.dev.flag (F.CAN_MODE_DAR n) =
    true → (kind = .tx8 ∨ kind = .txNone) → (s.dev.chanSt n).tx = [it] → ∃ d' : Dev, exec (.canBusError
    n code kind xl) s = .next (s.ends d') ∧ d'.get (F.CAN_ERR_STATE n) = 3 ∧ (d'.chanSt n).tx = [] ∧
    (d'.chanSt n).head = none ∧ d'.get (F.CAN_ERR_TEC n) = s.dev.get (F.CAN_ERR_TEC n)) ∧
  -- (7) In bus monitoring it is only recorded and counted.
  (∀ (s : State) (n : Fin 64) (code : Fin 6) (kind : CanErrKind) (xl : Bool), s.dev.canActive n = true →
    s.dev.get (F.CAN_MODE_TEST n) = 1 → exec (.canBusError n code kind xl) s = .next (s.ends ((s.dev.put
    (F.CAN_ERR_LEC n) (code + 1)).bump (F.CAN_CNT_COUNT n 2)))) ∧
  -- (8) A controller that takes no part sees no error.
  (∀ (s : State) (n : Fin 64) (code : Fin 6) (kind : CanErrKind) (xl : Bool), s.dev.canActive n = false
    → exec (.canBusError n code kind xl) s = .next (s.ends (s.dev))) ∧
  -- (9) CAN_RECOVER in bus-off without AUTO_RECOVER starts a recovery.
  (∀ (s : State) (i : Init) (n : Fin 64) (d : Dev), s.dev.reaches i (R.CAN_CMD n) = some d →
    d.lockedWrite (R.CAN_CMD n) (1) = false → d.get (F.CAN_ERR_STATE n) = 2 → d.flag
    (F.CAN_MODE_AUTO_RECOVER n) = false → exec (.canRecover i n) s = .next (s.ends ((d.put
    (F.CAN_CMD_RECOVER n) 1).modChan n (fun c => { c with
      recovering := true })))) ∧
  -- (10) Otherwise it is ignored.
  (∀ (s : State) (i : Init) (n : Fin 64) (d : Dev), s.dev.reaches i (R.CAN_CMD n) = some d →
    d.lockedWrite (R.CAN_CMD n) (1) = false → (d.get (F.CAN_ERR_STATE n) ≠ 2 ∨ d.flag
    (F.CAN_MODE_AUTO_RECOVER n) = true) → exec (.canRecover i n) s = .next (s.ends (d))) ∧
  -- (11) CAN_RECOVERY_DONE of a recovery leaves error active with both counters 0; nothing else of the
  -- channels changes.
  (∀ (s : State) (n : Fin 64), s.dev.get (F.CAN_ERR_STATE n) = 2 → (s.dev.chanSt n).recovering = true →
    ∃ d' : Dev, exec (.canRecoveryDone n) s = .next (s.ends d') ∧ d'.get (F.CAN_ERR_STATE n) = 0 ∧
    d'.get (F.CAN_ERR_TEC n) = 0 ∧ d'.get (F.CAN_ERR_REC n) = 0 ∧ d'.get (F.CAN_CMD_RECOVER n) = 0 ∧
    d'.chanSt n = { s.dev.chanSt n with recovering := false } ∧ ∀ k, k ≠ n.val → d'.chanSt k =
    s.dev.chanSt k) ∧
  -- (12) Without one it does nothing.
  (∀ (s : State) (n : Fin 64), (s.dev.get (F.CAN_ERR_STATE n) ≠ 2 ∨ (s.dev.chanSt n).recovering = false)
    → exec (.canRecoveryDone n) s = .next (s.ends (s.dev))) ∧
  -- (13) CAN_WINDOW_WRITE stores a word in message RAM at the selected bank.
  (∀ (s : State) (i : Init) (n : Fin 64) (w : Fin 512) (v : Word) (d : Dev), s.dev.reaches i (pageBase
    (.can n) + 0x800 + 4 * w) = some d → d.lockedWrite (pageBase (.can n) + 0x800 + 4 * w) (v) = false →
    d.windowClosed n (d.get (F.CAN_MR_BANK_BANK n) * 2048 + 4 * w) = false → exec (.canWindowWrite i n w
    v) s = .next (s.ends (d.ramWrite n (d.get (F.CAN_MR_BANK_BANK n) * 2048 + 4 * w) (leBytes 4
    v.toNat)))) ∧
  -- (14) Where R133 closes the window it is refused with CAN_CONFIG.
  (∀ (s : State) (i : Init) (n : Fin 64) (w : Fin 512) (v : Word) (d : Dev), s.dev.reaches i (pageBase
    (.can n) + 0x800 + 4 * w) = some d → d.lockedWrite (pageBase (.can n) + 0x800 + 4 * w) (v) = false →
    d.windowClosed n (d.get (F.CAN_MR_BANK_BANK n) * 2048 + 4 * w) = true → exec (.canWindowWrite i n w
    v) s = .next (s.ends (d.failWrite i (pageBase (.can n) + 0x800 + 4 * w) v 0x0112)))

/-- What FLOWSTONE_LAND and the FS_CMD operations of a FIFO do, and when they are refused (R137, R138, R139,
R140, R141, R142, R148, R197).
A row that writes FS_CMD acts on the device d that its write reaches. FIFO 2 of a channel is its
transmit FIFO.
Log entries that say where the model chose on these rules: 44, 45, 46, 47, 48, 50, 56, 57, 59, 115, 236. -/
def Obligations.FlowstoneCommands : Prop :=
  -- (1) A receive FIFO: the oldest falling item lands; FILL rises by 1; in notice mode PENDING rises, to
  -- at most 32, and RX f is raised, otherwise it is raised where FILL reaches WATERMARK.
  (∀ (s : State) (c : Fin 80) (f : Fin 3), f ≠ 2 → s.dev.get (F.FS_STAT_FILL c f) < (s.dev.fsItems c
    f).length → (s.dev.fsItems c f).length ≤ 32 → exec (.flowstoneLand (.chan c f)) s = .next (s.ends
    (if s.dev.flag (F.FS_CFG_NOTICE c f) then ((s.dev.fsSetFill (.chan c f) (s.dev.get (F.FS_STAT_FILL c
    f) + 1)).put (F.FS_NOTICE_PENDING c f) (min 32 (s.dev.get (F.FS_NOTICE_PENDING c f) + 1))).raise
    (chanPage c) (1 + f) else if s.dev.get (F.FS_CFG_WATERMARK c f) = s.dev.get (F.FS_STAT_FILL c f) + 1
    then (s.dev.fsSetFill (.chan c f) (s.dev.get (F.FS_STAT_FILL c f) + 1)).raise (chanPage c) (1 + f)
    else (s.dev.fsSetFill (.chan c f) (s.dev.get (F.FS_STAT_FILL c f) + 1))))) ∧
  -- (2) A transmit FIFO: its item notes when it landed, and of a CAN channel it may become the head.
  (∀ (s : State) (c : Fin 80) (t : List FsItem), s.dev.get (F.FS_STAT_FILL c 2) < (s.dev.fsItems c
    2).length → (s.dev.chanSt c).tx.modify (s.dev.get (F.FS_STAT_FILL c 2)) (fun it => { it with
      landed := s.dev.baseNs }) = t → exec (.flowstoneLand (.chan c 2)) s = .next (s.ends (if c.val < 64
    then ((s.dev.fsSetFill (.chan c 2) (s.dev.get (F.FS_STAT_FILL c 2) + 1)).modChan c (fun x => { x
    with tx := t })).txNext c else (s.dev.fsSetFill (.chan c 2) (s.dev.get (F.FS_STAT_FILL c 2) +
    1)).modChan c (fun x => { x with tx := t })))) ∧
  -- (3) A LEARNQ: event 1 of its page is raised where FILL reaches WATERMARK.
  (∀ (s : State) (k : Fin 2), s.dev.get (F.LQ_STAT_FILL k) < (tget s.dev.learnq k).length → (tget
    s.dev.learnq k).length ≤ 32 → exec (.flowstoneLand (.learn k)) s = .next (s.ends (if s.dev.get
    (F.LQ_CFG_WATERMARK k) = s.dev.get (F.LQ_STAT_FILL k) + 1 then (s.dev.fsSetFill (.learn k)
    (s.dev.get (F.LQ_STAT_FILL k) + 1)).raise (.lk k 2) 1 else s.dev.fsSetFill (.learn k) (s.dev.get
    (F.LQ_STAT_FILL k) + 1)))) ∧
  -- (4) Where no item is falling nothing lands.
  (∀ (s : State) (q : FifoId), s.dev.fsCount q ≤ s.dev.get (fsFill q) → exec (.flowstoneLand q) s =
    .next (s.ends (s.dev))) ∧
  -- (5) By the owner of a receive FIFO FS_ADVANCE moves RPOS up to FILL.
  (∀ (s : State) (i : Init) (c : Fin 80) (f : Fin 3) (d : Dev), s.dev.reaches i (R.FS_CMD c f) = some d
    → fifoReserved c f = false → f ≠ 2 → fsOwnerIs (d.get (F.FS_CFG_OWNER c f)) i = true → exec
    (.fsAdvance i c f) s = .next (s.ends (if d.get (F.FS_STAT_RPOS c f) < d.get (F.FS_STAT_FILL c f)
    then d.put (F.FS_STAT_RPOS c f) (d.get (F.FS_STAT_RPOS c f) + 1) else d))) ∧
  -- (6) FS_MARK marks RPOS.
  (∀ (s : State) (i : Init) (c : Fin 80) (f : Fin 3) (d : Dev), s.dev.reaches i (R.FS_CMD c f) = some d
    → fifoReserved c f = false → f ≠ 2 → fsOwnerIs (d.get (F.FS_CFG_OWNER c f)) i = true → exec (.fsMark
    i c f) s = .next (s.ends ((d.put (F.FS_STAT_MARK c f) (d.get (F.FS_STAT_RPOS c f))).put
    (F.FS_STAT_MARK_VALID c f) 1))) ∧
  -- (7) FS_REWIND returns to the mark, and is refused with FIFO_STATE without one.
  (∀ (s : State) (i : Init) (c : Fin 80) (f : Fin 3) (d : Dev), s.dev.reaches i (R.FS_CMD c f) = some d
    → fifoReserved c f = false → f ≠ 2 → fsOwnerIs (d.get (F.FS_CFG_OWNER c f)) i = true → exec
    (.fsRewind i c f) s = .next (s.ends (if d.flag (F.FS_STAT_MARK_VALID c f) then d.put (F.FS_STAT_RPOS
    c f) (d.get (F.FS_STAT_MARK c f)) else d.failWrite i (R.FS_CMD c f) (fsCmdWord 3 0) 0x0114))) ∧
  -- (8) FS_RELEASE frees COUNT items; RPOS, FILL and the mark shift down, and a mark among them is lost;
  -- memory, the other channels and every other register stay.
  (∀ (s : State) (i : Init) (c : Fin 80) (f : Fin 3) (count : Fin 64) (d : Dev), s.dev.reaches i
    (R.FS_CMD c f) = some d → fifoReserved c f = false → f ≠ 2 → fsOwnerIs (d.get (F.FS_CFG_OWNER c f))
    i = true → count ≠ 0 → count ≤ 32 → count ≤ d.get (F.FS_STAT_RPOS c f) → ∃ d' : Dev, exec
    (.fsRelease i c f count) s = .next (s.ends d') ∧ d'.fsItems c f = (d.fsItems c f).drop count ∧
    d'.get (F.FS_STAT_RPOS c f) = d.get (F.FS_STAT_RPOS c f) - count ∧ d'.get (F.FS_STAT_FILL c f) =
    d.get (F.FS_STAT_FILL c f) - count ∧ d'.flag (F.FS_STAT_MARK_VALID c f) = (d.flag
    (F.FS_STAT_MARK_VALID c f) && decide (count ≤ d.get (F.FS_STAT_MARK c f))) ∧ (d.flag
    (F.FS_STAT_MARK_VALID c f) = true → d'.get (F.FS_STAT_MARK c f) = d.get (F.FS_STAT_MARK c f) -
    count) ∧ (d'.chanSt c).ram = (d.chanSt c).ram ∧ (∀ k, k ≠ c.val → d'.chanSt k = d.chanSt k) ∧ ∀ a, a
    ≠ R.FS_STAT c f → d'.word a = d.word a) ∧
  -- (9) It is refused with FIFO_STATE where COUNT is 0, above 32 or above RPOS.
  (∀ (s : State) (i : Init) (c : Fin 80) (f : Fin 3) (count : Fin 64) (d : Dev), s.dev.reaches i
    (R.FS_CMD c f) = some d → fifoReserved c f = false → f ≠ 2 → fsOwnerIs (d.get (F.FS_CFG_OWNER c f))
    i = true → (count = 0 ∨ 32 < count.val ∨ d.get (F.FS_STAT_RPOS c f) < count) → exec (.fsRelease i c
    f count) s = .next (s.ends (d.failWrite i (R.FS_CMD c f) (fsCmdWord 4 count) 0x0114))) ∧
  -- (10) FS_NOTICE_ACK lowers PENDING in notice mode, and is refused with FIFO_STATE outside it.
  (∀ (s : State) (i : Init) (c : Fin 80) (f : Fin 3) (d : Dev), s.dev.reaches i (R.FS_CMD c f) = some d
    → fifoReserved c f = false → f ≠ 2 → fsOwnerIs (d.get (F.FS_CFG_OWNER c f)) i = true → exec
    (.fsNoticeAck i c f) s = .next (s.ends (if d.flag (F.FS_CFG_NOTICE c f) then d.put
    (F.FS_NOTICE_PENDING c f) (d.get (F.FS_NOTICE_PENDING c f) - 1) else d.failWrite i (R.FS_CMD c f)
    (fsCmdWord 5 0) 0x0114))) ∧
  -- (11) By the owner FS_PUSH of a free slot appends it, falling; memory of other channels and other
  -- registers stay.
  (∀ (s : State) (i : Init) (c : Fin 80) (slot : Fin 64) (d : Dev), s.dev.reaches i (R.FS_CMD c 2) =
    some d → fsOwnerIs (d.get (F.FS_CFG_OWNER c 2)) i = true → d.flag (F.FS_CFG_EN c 2) = true →
    d.anySlotFree c (slot % 32) = true → (d.chanSt c).tx.length < 32 → ∃ d' : Dev, exec (.fsPush i c 2
    slot) s = .next (s.ends d') ∧ d'.fsItems c 2 = d.fsItems c 2 ++ [{
      block := slot % 32, blocks := d.slotBlocks c (slot % 32), ns := d.baseNs, seq := (d.chanSt c).seq
        }] ∧ d'.get (F.FS_STAT_FILL c 2) = d.get (F.FS_STAT_FILL c 2) ∧ d'.flag (F.FS_STAT_FALLING c 2)
    = decide (d.get (F.FS_STAT_FILL c 2) < (d.chanSt c).tx.length + 1) ∧ (∀ k, k ≠ c.val → d'.chanSt k =
    d.chanSt k) ∧ ∀ a, a ≠ R.FS_STAT c 2 → d'.word a = d.word a) ∧
  -- (12) Into a full FIFO it is an overrun.
  (∀ (s : State) (i : Init) (c : Fin 80) (slot : Fin 64) (d : Dev), s.dev.reaches i (R.FS_CMD c 2) =
    some d → fsOwnerIs (d.get (F.FS_CFG_OWNER c 2)) i = true → d.flag (F.FS_CFG_EN c 2) = true → 32 ≤
    (d.chanSt c).tx.length → exec (.fsPush i c 2 slot) s = .next (s.ends (d.fsOverrunAt c 2))) ∧
  -- (13) A slot not free while the FIFO is not full, or EN = 0, is refused with FIFO_STATE.
  (∀ (s : State) (i : Init) (c : Fin 80) (slot : Fin 64) (d : Dev), s.dev.reaches i (R.FS_CMD c 2) =
    some d → fsOwnerIs (d.get (F.FS_CFG_OWNER c 2)) i = true → ((d.anySlotFree c (slot % 32) = false ∧
    (d.chanSt c).tx.length < 32) ∨ d.flag (F.FS_CFG_EN c 2) = false) → exec (.fsPush i c 2 slot) s =
    .next (s.ends (d.failWrite i (R.FS_CMD c 2) (fsCmdWord 8 slot) 0x0114))) ∧
  -- (14) FS_FLUSH of a CAN channel with no frame in transmission empties the FIFO and counts its items
  -- in TX_FLUSHED.
  (∀ (s : State) (i : Init) (c : Fin 80) (d : Dev), s.dev.reaches i (R.FS_CMD c 2) = some d → fsOwnerIs
    (d.get (F.FS_CFG_OWNER c 2)) i = true → c.val < 64 → ∃ d' : Dev, exec (.fsFlush i c 2 false) s =
    .next (s.ends d') ∧ d'.fsItems c 2 = [] ∧ (d'.chanSt c).head = none ∧ d'.get (F.FS_STAT_FILL c 2) =
    0 ∧ d'.get (F.CAN_CNT_COUNT c 10) = satAdd 32 (d.get (F.CAN_CNT_COUNT c 10)) (d.chanSt c).tx.length
    ∧ (d'.chanSt c).ram = (d.chanSt c).ram ∧ ∀ k, k ≠ c.val → d'.chanSt k = d.chanSt k) ∧
  -- (15) A frame in transmission stays at the head, marked to go.
  (∀ (s : State) (i : Init) (c : Fin 80) (h : TxHead) (d : Dev), s.dev.reaches i (R.FS_CMD c 2) = some d
    → fsOwnerIs (d.get (F.FS_CFG_OWNER c 2)) i = true → c.val < 64 → (d.chanSt c).head = some h →
    d.txEligible c = true → ∃ d' : Dev, exec (.fsFlush i c 2 true) s = .next (s.ends d') ∧ d'.fsItems c
    2 = (d.fsItems c 2).take 1 ∧ (d'.chanSt c).head = some { h with
      flushed := true } ∧ d'.get (F.FS_STAT_FILL c 2) = 1 ∧ d'.get (F.CAN_CNT_COUNT c 10) = satAdd 32
    (d.get (F.CAN_CNT_COUNT c 10)) ((d.chanSt c).tx.length - 1)) ∧
  -- (16) Of a LIN channel it keeps only the item whose frame is in progress.
  (∀ (s : State) (i : Init) (c : Fin 80) (b : Bool) (d : Dev), s.dev.reaches i (R.FS_CMD c 2) = some d →
    fsOwnerIs (d.get (F.FS_CFG_OWNER c 2)) i = true → 64 ≤ c.val → ∃ d' : Dev, exec (.fsFlush i c 2 b) s
    = .next (s.ends d') ∧ d'.fsItems c 2 = (if (d.chanSt c).lin.any (fun x => x.item) then (d.fsItems c
    2).take 1 else []) ∧ (d'.chanSt c).ram = (d.chanSt c).ram ∧ ∀ k, k ≠ c.val → d'.chanSt k = d.chanSt
    k) ∧
  -- (17) An initiator that is not the OWNER of a receive FIFO is refused with FIFO_OWNER.
  (∀ (s : State) (i : Init) (c : Fin 80) (f : Fin 3) (count : Fin 64) (d : Dev), s.dev.reaches i
    (R.FS_CMD c f) = some d → fifoReserved c f = false → f ≠ 2 → fsOwnerIs (d.get (F.FS_CFG_OWNER c f))
    i = false → exec (.fsAdvance i c f) s = .next (s.ends (d.failWrite i (R.FS_CMD c f) (fsCmdWord 1 0)
    0x0113)) ∧ exec (.fsMark i c f) s = .next (s.ends (d.failWrite i (R.FS_CMD c f) (fsCmdWord 2 0)
    0x0113)) ∧ exec (.fsRewind i c f) s = .next (s.ends (d.failWrite i (R.FS_CMD c f) (fsCmdWord 3 0)
    0x0113)) ∧ exec (.fsRelease i c f count) s = .next (s.ends (d.failWrite i (R.FS_CMD c f) (fsCmdWord
    4 count) 0x0113)) ∧ exec (.fsNoticeAck i c f) s = .next (s.ends (d.failWrite i (R.FS_CMD c f)
    (fsCmdWord 5 0) 0x0113))) ∧
  -- (18) At a transmit FIFO FS_PUSH by another gets NOT_OWNER, FS_FLUSH FIFO_OWNER.
  (∀ (s : State) (i : Init) (c : Fin 80) (slot : Fin 64) (b : Bool) (d : Dev), s.dev.reaches i (R.FS_CMD
    c 2) = some d → fsOwnerIs (d.get (F.FS_CFG_OWNER c 2)) i = false → exec (.fsPush i c 2 slot) s =
    .next (s.ends (d.failWrite i (R.FS_CMD c 2) (fsCmdWord 8 slot) 0x0008)) ∧ exec (.fsFlush i c 2 b) s
    = .next (s.ends (d.failWrite i (R.FS_CMD c 2) (fsCmdWord 9 0) 0x0113))) ∧
  -- (19) The operations of receive FIFOs at a transmit FIFO get FIFO_STATE.
  (∀ (s : State) (i : Init) (c : Fin 80) (count : Fin 64) (d : Dev), s.dev.reaches i (R.FS_CMD c 2) =
    some d → exec (.fsAdvance i c 2) s = .next (s.ends (d.failWrite i (R.FS_CMD c 2) (fsCmdWord 1 0)
    0x0114)) ∧ exec (.fsMark i c 2) s = .next (s.ends (d.failWrite i (R.FS_CMD c 2) (fsCmdWord 2 0)
    0x0114)) ∧ exec (.fsRewind i c 2) s = .next (s.ends (d.failWrite i (R.FS_CMD c 2) (fsCmdWord 3 0)
    0x0114)) ∧ exec (.fsRelease i c 2 count) s = .next (s.ends (d.failWrite i (R.FS_CMD c 2) (fsCmdWord
    4 count) 0x0114)) ∧ exec (.fsNoticeAck i c 2) s = .next (s.ends (d.failWrite i (R.FS_CMD c 2)
    (fsCmdWord 5 0) 0x0114))) ∧
  -- (20) FS_PUSH and FS_FLUSH by the owner of a receive FIFO too.
  (∀ (s : State) (i : Init) (c : Fin 80) (f : Fin 3) (slot : Fin 64) (b : Bool) (d : Dev), s.dev.reaches
    i (R.FS_CMD c f) = some d → fifoReserved c f = false → f ≠ 2 → fsOwnerIs (d.get (F.FS_CFG_OWNER c
    f)) i = true → exec (.fsPush i c f slot) s = .next (s.ends (d.failWrite i (R.FS_CMD c f) (fsCmdWord
    8 slot) 0x0114)) ∧ exec (.fsFlush i c f b) s = .next (s.ends (d.failWrite i (R.FS_CMD c f)
    (fsCmdWord 9 0) 0x0114))) ∧
  -- (21) FIFO 1 of a LIN channel does not exist: nothing happens.
  (∀ (s : State) (i : Init) (c : Fin 80) (count slot : Fin 64) (b : Bool) (d : Dev), s.dev.reaches i
    (R.FS_CMD c 1) = some d → 64 ≤ c.val → exec (.fsAdvance i c 1) s = .next (s.ends (d)) ∧ exec
    (.fsMark i c 1) s = .next (s.ends (d)) ∧ exec (.fsRewind i c 1) s = .next (s.ends (d)) ∧ exec
    (.fsRelease i c 1 count) s = .next (s.ends (d)) ∧ exec (.fsNoticeAck i c 1) s = .next (s.ends (d)) ∧
    exec (.fsPush i c 1 slot) s = .next (s.ends (d)) ∧ exec (.fsFlush i c 1 b) s = .next (s.ends (d)))

/-- What a LIN channel does with its items, headers, responses, timeouts and wake-up pulses (R148, R149,
R150, R151, R246, R253).
LIN_MASTER_ITEM takes the landed item at the head of an enabled FIFO of a channel in service, awake and
with no frame in progress; ctrl is its control word and e its address. A channel is served while its
group is AWAKE or going to sleep.
Log entries that say where the model chose on these rules: 57, 58, 59, 60, 139, 150, 154, 155, 189, 237,
280. -/
def Obligations.LinCommands : Prop :=
  -- (1) A master starts the frame of a kind 0 item with its data.
  (∀ (s : State) (n : Fin 16) (it : FsItem) (t : List FsItem) (ctrl : Nat), (s.dev.chanSt (64 + n)).tx =
    it :: t → s.dev.linFrame n = none → s.dev.get (F.FS_STAT_FILL (64 + n) 2) ≠ 0 → s.dev.enabled (.lin
    n) = true → s.dev.flag (F.FS_CFG_EN (64 + n) 2) = true → s.dev.chanAwake (64 + n) = true →
    s.dev.ramNat (64 + n) (0x800 + 32 * it.block) 4 = ctrl → bitsOf ctrl 12 2 = 0 → s.dev.flag
    (F.LIN_MODE_MASTER n) = true → exec (.linMasterItem n) s = .next (s.ends (s.dev.linStart n (bitsOf
    ctrl 0 6) (some (s.dev.ramBytes (64 + n) (0x800 + 32 * it.block + 16) (min 8 (bitsOf ctrl 8 4))))
    0))) ∧
  -- (2) Of kind 1 with what it publishes for that identifier, if anything.
  (∀ (s : State) (n : Fin 16) (it : FsItem) (t : List FsItem) (ctrl : Nat), (s.dev.chanSt (64 + n)).tx =
    it :: t → s.dev.linFrame n = none → s.dev.get (F.FS_STAT_FILL (64 + n) 2) ≠ 0 → s.dev.enabled (.lin
    n) = true → s.dev.flag (F.FS_CFG_EN (64 + n) 2) = true → s.dev.chanAwake (64 + n) = true →
    s.dev.ramNat (64 + n) (0x800 + 32 * it.block) 4 = ctrl → bitsOf ctrl 12 2 = 1 → s.dev.flag
    (F.LIN_MODE_MASTER n) = true → exec (.linMasterItem n) s = .next (s.ends (s.dev.linStart n (bitsOf
    ctrl 0 6) (s.dev.linPublished n (bitsOf ctrl 0 6)) 1))) ∧
  -- (3) Of kind 3, function 0, 2 or 3, as the go-to-sleep command.
  (∀ (s : State) (n : Fin 16) (it : FsItem) (t : List FsItem) (ctrl : Nat), (s.dev.chanSt (64 + n)).tx =
    it :: t → s.dev.linFrame n = none → s.dev.get (F.FS_STAT_FILL (64 + n) 2) ≠ 0 → s.dev.enabled (.lin
    n) = true → s.dev.flag (F.FS_CFG_EN (64 + n) 2) = true → s.dev.chanAwake (64 + n) = true →
    s.dev.ramNat (64 + n) (0x800 + 32 * it.block) 4 = ctrl → bitsOf ctrl 12 2 = 3 → bitsOf ctrl 14 2 ≠ 1
    → s.dev.flag (F.LIN_MODE_MASTER n) = true → exec (.linMasterItem n) s = .next (s.ends
    (s.dev.linStart n 0x3C (some [0x00, 0xFF, 0xFF, 0xFF, 0xFF, 0xFF, 0xFF, 0xFF]) 3))) ∧
  -- (4) A slave frees items of every kind but SLAVE_UPDATE without effect.
  (∀ (s : State) (n : Fin 16) (it : FsItem) (t : List FsItem) (ctrl : Nat), (s.dev.chanSt (64 + n)).tx =
    it :: t → s.dev.linFrame n = none → s.dev.get (F.FS_STAT_FILL (64 + n) 2) ≠ 0 → s.dev.enabled (.lin
    n) = true → s.dev.flag (F.FS_CFG_EN (64 + n) 2) = true → s.dev.chanAwake (64 + n) = true →
    s.dev.ramNat (64 + n) (0x800 + 32 * it.block) 4 = ctrl → bitsOf ctrl 12 2 ≠ 2 → s.dev.flag
    (F.LIN_MODE_MASTER n) = false → exec (.linMasterItem n) s = .next (s.ends (s.dev.linItemFree n))) ∧
  -- (5) Kind 2 updates a publish entry.
  (∀ (s : State) (n : Fin 16) (it : FsItem) (t : List FsItem) (ctrl : Nat), (s.dev.chanSt (64 + n)).tx =
    it :: t → s.dev.linFrame n = none → s.dev.get (F.FS_STAT_FILL (64 + n) 2) ≠ 0 → s.dev.enabled (.lin
    n) = true → s.dev.flag (F.FS_CFG_EN (64 + n) 2) = true → s.dev.chanAwake (64 + n) = true →
    s.dev.ramNat (64 + n) (0x800 + 32 * it.block) 4 = ctrl → bitsOf ctrl 12 2 = 2 → exec (.linMasterItem
    n) s = .next (s.ends ((s.dev.linUpdate n (bitsOf ctrl 0 6) (min 8 (bitsOf ctrl 8 4)) (s.dev.ramBytes
    (64 + n) (0x800 + 32 * it.block + 16) (min 8 (bitsOf ctrl 8 4)))).linItemFree n))) ∧
  -- (6) Kind 3, function 1 of a master sends a wake-up pulse.
  (∀ (s : State) (n : Fin 16) (it : FsItem) (t : List FsItem) (ctrl : Nat), (s.dev.chanSt (64 + n)).tx =
    it :: t → s.dev.linFrame n = none → s.dev.get (F.FS_STAT_FILL (64 + n) 2) ≠ 0 → s.dev.enabled (.lin
    n) = true → s.dev.flag (F.FS_CFG_EN (64 + n) 2) = true → s.dev.chanAwake (64 + n) = true →
    s.dev.ramNat (64 + n) (0x800 + 32 * it.block) 4 = ctrl → bitsOf ctrl 12 2 = 3 → bitsOf ctrl 14 2 = 1
    → s.dev.flag (F.LIN_MODE_MASTER n) = true → exec (.linMasterItem n) s = .next (s.ends ((s.dev.emit
    (.linWake n)).linItemFree n))) ∧
  -- (7) Where one of these conditions fails no item is taken.
  (∀ (s : State) (n : Fin 16), ((s.dev.chanSt (64 + n)).tx = [] ∨ s.dev.linFrame n ≠ none ∨ s.dev.get
    (F.FS_STAT_FILL (64 + n) 2) = 0 ∨ s.dev.enabled (.lin n) = false ∨ s.dev.flag (F.FS_CFG_EN (64 + n)
    2) = false ∨ s.dev.chanAwake (64 + n) = false) → exec (.linMasterItem n) s = .next (s.ends (s.dev)))
    ∧
  -- (8) A slave begins to listen after a header whose identifier it does not publish.
  (∀ (s : State) (n : Fin 16) (pid : Byte) (ago : Nat), s.dev.linServed n = true → s.dev.enabled (.lin
    n) = true → s.dev.flag (F.LIN_MODE_MASTER n) = false → pid.toNat = linPid (pid.toNat % 64) →
    s.dev.linPublished n (pid.toNat % 64) = none → exec (.linHeaderRx n pid true ago) s = .next (s.ends
    (s.dev.setLinFrame n (some { id := pid.toNat % 64, own := false, data := [], item := false, stamp :=
                                   (s.dev.linStamp n false ago).1, tb := (s.dev.linStamp n false
                                   ago).2.1, ns := (s.dev.linStamp n false ago).2.2 })))) ∧
  -- (9) It answers, and captures, one that it publishes.
  (∀ (s : State) (n : Fin 16) (pid : Byte) (ago : Nat) (bs : List Byte), s.dev.linServed n = true →
    s.dev.enabled (.lin n) = true → s.dev.flag (F.LIN_MODE_MASTER n) = false → pid.toNat = linPid
    (pid.toNat % 64) → s.dev.linPublished n (pid.toNat % 64) = some bs → exec (.linHeaderRx n pid true
    ago) s = .next (s.ends (((s.dev.setLinFrame n (some {
      id := pid.toNat % 64, own := true, data := bs, item := false, stamp := (s.dev.linStamp n false
        ago).1, tb := (s.dev.linStamp n false ago).2.1, ns := (s.dev.linStamp n false ago).2.2
        })).linTap n true (pid.toNat % 64 + bs.length * 2 ^ 8) (s.dev.linStamp n false ago).1
    (s.dev.linStamp n false ago).2.1 bs).emit (.linFrame n (pid.toNat % 64) (some bs))))) ∧
  -- (10) A wrong parity is error 5.
  (∀ (s : State) (n : Fin 16) (pid : Byte) (ago : Nat), s.dev.linServed n = true → s.dev.enabled (.lin
    n) = true → s.dev.flag (F.LIN_MODE_MASTER n) = false → pid.toNat ≠ linPid (pid.toNat % 64) → exec
    (.linHeaderRx n pid true ago) s = .next (s.ends (s.dev.linError n 5 pid.toNat 0))) ∧
  -- (11) A wrong sync byte is error 6.
  (∀ (s : State) (n : Fin 16) (pid : Byte) (ago : Nat), s.dev.linServed n = true → s.dev.enabled (.lin
    n) = true → s.dev.flag (F.LIN_MODE_MASTER n) = false→ exec (.linHeaderRx n pid false ago) s = .next
    (s.ends (s.dev.linError n 6 pid.toNat 0))) ∧
  -- (12) A master, a channel out of service and one not served take no header.
  (∀ (s : State) (n : Fin 16) (pid : Byte) (ago : Nat) (b : Bool), (s.dev.linServed n = false ∨
    s.dev.enabled (.lin n) = false ∨ s.dev.flag (F.LIN_MODE_MASTER n) = true) → exec (.linHeaderRx n pid
    b ago) s = .next (s.ends (s.dev))) ∧
  -- (13) The own response read back unchanged ends the frame, is captured and counted.
  (∀ (s : State) (n : Fin 16) (r : LinResponse) (f : LinFrame), s.dev.linServed n = true →
    s.dev.linFrame n = some f → f.own = true → r.bitErr = false → r.data = f.data → exec (.linResponseRx
    n r) s = .next (s.ends (((s.dev.linEnd n f).linTap n false (f.id + (r.data.take 8).length * 2 ^ 8 +
    boolNat (s.dev.linEnhanced n f.id) * 2 ^ 16) f.stamp f.tb (r.data.take 8)).bump (F.LIN_CNT_COUNT n
    1)))) ∧
  -- (14) A difference is error 1; what was seen is captured too.
  (∀ (s : State) (n : Fin 16) (r : LinResponse) (f : LinFrame), s.dev.linServed n = true →
    s.dev.linFrame n = some f → f.own = true → (r.bitErr = true ∨ r.data ≠ f.data) → exec
    (.linResponseRx n r) s = .next (s.ends (((s.dev.linEnd n f).linTap n false (f.id + (r.data.take
    8).length * 2 ^ 8 + boolNat (s.dev.linEnhanced n f.id) * 2 ^ 16) f.stamp f.tb (r.data.take
    8)).linError n 1 (linPid f.id) r.data.length))) ∧
  -- (15) Another node's response that is correct counts as activity, is captured and stored.
  (∀ (s : State) (n : Fin 16) (r : LinResponse) (f : LinFrame), s.dev.linServed n = true →
    s.dev.linFrame n = some f → f.own = false → s.dev.linGood n f r = true → exec (.linResponseRx n r) s
    = .next (s.ends ((((s.dev.chanActivity (64 + n)).linEnd n f).linTap n false (f.id + (r.data.take
    8).length * 2 ^ 8 + boolNat (s.dev.linEnhanced n f.id) * 2 ^ 16) f.stamp f.tb (r.data.take
    8)).linStore n f (f.id + (r.data.take 8).length * 2 ^ 8 + boolNat (s.dev.linEnhanced n f.id) * 2 ^
    16) r.data))) ∧
  -- (16) One with a framing error is captured and is error 7.
  (∀ (s : State) (n : Fin 16) (r : LinResponse) (f : LinFrame), s.dev.linServed n = true →
    s.dev.linFrame n = some f → f.own = false → r.framing = true → exec (.linResponseRx n r) s = .next
    (s.ends (((s.dev.linEnd n f).linTap n false (f.id + (r.data.take 8).length * 2 ^ 8 + boolNat
    (s.dev.linEnhanced n f.id) * 2 ^ 16) f.stamp f.tb (r.data.take 8)).linError n 7 (linPid f.id)
    r.data.length))) ∧
  -- (17) With a wrong checksum or length it is captured and is error 2.
  (∀ (s : State) (n : Fin 16) (r : LinResponse) (f : LinFrame), s.dev.linServed n = true →
    s.dev.linFrame n = some f → f.own = false → r.framing = false → s.dev.linGood n f r = false → exec
    (.linResponseRx n r) s = .next (s.ends (((s.dev.linEnd n f).linTap n false (f.id + (r.data.take
    8).length * 2 ^ 8 + boolNat (s.dev.linEnhanced n f.id) * 2 ^ 16) f.stamp f.tb (r.data.take
    8)).linError n 2 (linPid f.id) r.data.length))) ∧
  -- (18) Without a frame in progress, or not served, nothing happens.
  (∀ (s : State) (n : Fin 16) (r : LinResponse), (s.dev.linServed n = false ∨ s.dev.linFrame n = none) →
    exec (.linResponseRx n r) s = .next (s.ends (s.dev))) ∧
  -- (19) LIN_RESPONSE_TIMEOUT ends the frame: for a master, the publisher or where bytes came it is
  -- error 3 or 4.
  (∀ (s : State) (n : Fin 16) (bytes : Nat) (f : LinFrame), s.dev.linFrame n = some f → (s.dev.flag
    (F.LIN_MODE_MASTER n) = true ∨ f.own = true ∨ bytes ≠ 0) → exec (.linResponseTimeout n bytes) s =
    .next (s.ends ((s.dev.linEnd n f).linError n (if bytes = 0 then 3 else 4) (linPid f.id) bytes))) ∧
  -- (20) For a listening slave and no byte it raises nothing.
  (∀ (s : State) (n : Fin 16) (f : LinFrame), s.dev.linFrame n = some f → s.dev.flag (F.LIN_MODE_MASTER
    n) = false → f.own = false → exec (.linResponseTimeout n 0) s = .next (s.ends (s.dev.linEnd n f))) ∧
  -- (21) Without a frame it does nothing.
  (∀ (s : State) (n : Fin 16) (bytes : Nat), s.dev.linFrame n = none → exec (.linResponseTimeout n
    bytes) s = .next (s.ends (s.dev))) ∧
  -- (22) LIN_WAKE_PULSE on an idle bus in service raises event 6.
  (∀ (s : State) (n : Fin 16), s.dev.linServed n = true → s.dev.enabled (.lin n) = true → s.dev.linFrame
    n = none → exec (.linWakePulse n) s = .next (s.ends (s.dev.raise (.lin n) 6))) ∧
  -- (23) Otherwise it does nothing.
  (∀ (s : State) (n : Fin 16), (s.dev.linServed n = false ∨ s.dev.enabled (.lin n) = false ∨
    s.dev.linFrame n ≠ none) → exec (.linWakePulse n) s = .next (s.ends (s.dev)))

/-- What the link, pause and low-power-idle commands of an EP port do (R154, R156, R163, R164, R166, R167,
R169).
A port in service is released, enabled and not in M11; a port is up while its link is up too.
Log entries that say where the model chose on these rules: 105, 106, 107, 108, 119, 218, 219, 220, 222,
233. -/
def Obligations.PortLinkAndIdle : Prop :=
  -- (1) EP_LINK_CHANGE at a port in service shows the speed, the in-band word and the faults of its
  -- mode; the link comes up with code-group lock, an accepted word that names a supported speed where
  -- the word decides, and no fault.
  (∀ (s : State) (n : Fin 16) (lock an phy : Bool) (speed : Fin 5) (lf rf : Bool), s.dev.released (.ep n
    0) = true → s.dev.enabled (.ep n 0) = true → s.dev.mode ≠ 11 → s.dev.flag (F.EP_LINK_LINK_UP n) =
    false → (lock && (!s.dev.inBand n || (phy && s.dev.wordTaken n an speed)) && !(decide (2 ≤ s.dev.get
    (F.EP_MODE_PCS n)) && (lf || rf))) = true → ∃ d' : Dev, exec (.epLinkChange n lock an phy speed lf
    rf) s = .next (s.ends d') ∧ d'.flag (F.EP_LINK_LINK_UP n) = true ∧ (d'.port n).data = some
    s.dev.plat.aon ∧ d'.get (F.EP_LINK_SPEED n) = s.dev.speedFor n an speed % 8 ∧ d'.flag
    (F.EP_LINK_AN_DONE n) = (s.dev.inBand n && an) ∧ d'.flag (F.EP_LINK_LOCAL_FAULT n) = (decide (2 ≤
    s.dev.get (F.EP_MODE_PCS n)) && lf) ∧ d'.flag (F.EP_LINK_REMOTE_FAULT n) = (decide (2 ≤ s.dev.get
    (F.EP_MODE_PCS n)) && rf) ∧ d'.chan = s.dev.chan) ∧
  -- (2) A link that falls drops STAMP_READY and low-power idle, and asks for a table flush where
  -- LINKDOWN_FLUSH is 1.
  (∀ (s : State) (n : Fin 16) (lock an phy : Bool) (speed : Fin 5) (lf rf : Bool), s.dev.released (.ep n
    0) = true → s.dev.enabled (.ep n 0) = true → s.dev.mode ≠ 11 → s.dev.flag (F.EP_LINK_LINK_UP n) =
    true → (lock && (!s.dev.inBand n || (phy && s.dev.wordTaken n an speed)) && !(decide (2 ≤ s.dev.get
    (F.EP_MODE_PCS n)) && (lf || rf))) = false → (s.dev.port n).rx = [] → (s.dev.port n).tx = none → ∃
    d' : Dev, exec (.epLinkChange n lock an phy speed lf rf) s = .next (s.ends d') ∧ d'.flag
    (F.EP_LINK_LINK_UP n) = false ∧ d'.flag (F.EP_LINK_STAMP_READY n) = false ∧ d'.flag
    (F.EP_LINK_TX_LPI n) = false ∧ d'.flag (F.EP_LINK_RX_LPI n) = false ∧ (d'.port n).data = none ∧
    (s.dev.flag (F.SW_PORT_CFG_LINKDOWN_FLUSH n) = true → d'.sw.flush.contains n.val = true) ∧ d'.get
    (F.EP_LINK_SPEED n) = s.dev.speedFor n an speed % 8 ∧ d'.flag (F.EP_LINK_AN_DONE n) = (s.dev.inBand
    n && an) ∧ d'.flag (F.EP_LINK_LOCAL_FAULT n) = (decide (2 ≤ s.dev.get (F.EP_MODE_PCS n)) && lf) ∧
    d'.flag (F.EP_LINK_REMOTE_FAULT n) = (decide (2 ≤ s.dev.get (F.EP_MODE_PCS n)) && rf) ∧ d'.chan =
    s.dev.chan) ∧
  -- (3) A link that stays as it was only shows them.
  (∀ (s : State) (n : Fin 16) (lock an phy : Bool) (speed : Fin 5) (lf rf : Bool), s.dev.released (.ep n
    0) = true → s.dev.enabled (.ep n 0) = true → s.dev.mode ≠ 11 → s.dev.flag (F.EP_LINK_LINK_UP n) =
    (lock && (!s.dev.inBand n || (phy && s.dev.wordTaken n an speed)) && !(decide (2 ≤ s.dev.get
    (F.EP_MODE_PCS n)) && (lf || rf))) → ∃ d' : Dev, exec (.epLinkChange n lock an phy speed lf rf) s =
    .next (s.ends d') ∧ d'.flag (F.EP_LINK_LINK_UP n) = s.dev.flag (F.EP_LINK_LINK_UP n) ∧ d'.sw =
    s.dev.sw ∧ d'.get (F.EP_LINK_SPEED n) = s.dev.speedFor n an speed % 8 ∧ d'.flag (F.EP_LINK_AN_DONE
    n) = (s.dev.inBand n && an) ∧ d'.flag (F.EP_LINK_LOCAL_FAULT n) = (decide (2 ≤ s.dev.get
    (F.EP_MODE_PCS n)) && lf) ∧ d'.flag (F.EP_LINK_REMOTE_FAULT n) = (decide (2 ≤ s.dev.get
    (F.EP_MODE_PCS n)) && rf) ∧ d'.chan = s.dev.chan) ∧
  -- (4) At a port out of service it does nothing.
  (∀ (s : State) (n : Fin 16) (lock an phy : Bool) (speed : Fin 5) (lf rf : Bool), (s.dev.released (.ep
    n 0) = false ∨ s.dev.enabled (.ep n 0) = false ∨ s.dev.mode = 11) → exec (.epLinkChange n lock an
    phy speed lf rf) s = .next (s.ends (s.dev))) ∧
  -- (5) STAMP_READY_RISE sets STAMP_READY 400 ns after data resumed with the link up.
  (∀ (s : State) (n : Fin 16) (t : Nat), (s.dev.port n).data = some t → t + 400 ≤ s.dev.plat.aon →
    s.dev.flag (F.EP_LINK_LINK_UP n) = true → exec (.stampReadyRise n) s = .next (s.ends (s.dev.put
    (F.EP_LINK_STAMP_READY n) 1))) ∧
  -- (6) Before that it does nothing.
  (∀ (s : State) (n : Fin 16), ((s.dev.port n).data.all (fun t => decide (s.dev.plat.aon < t + 400)) =
    true ∨ s.dev.flag (F.EP_LINK_LINK_UP n) = false) → exec (.stampReadyRise n) s = .next (s.ends
    (s.dev))) ∧
  -- (7) RX_LPI_CHANGE on a port that is up: low-power idle of the partner ends its data and drops
  -- STAMP_READY.
  (∀ (s : State) (n : Fin 16), s.dev.portUp n = true → exec (.rxLpiChange n true) s = .next (s.ends
    (((s.dev.put (F.EP_LINK_RX_LPI n) 1).put (F.EP_LINK_STAMP_READY n) 0).modPort n (fun x => { x with
      data := none })))) ∧
  -- (8) Its end lets data resume.
  (∀ (s : State) (n : Fin 16), s.dev.portUp n = true → exec (.rxLpiChange n false) s = .next (s.ends (if
    (s.dev.port n).data = none then (s.dev.put (F.EP_LINK_RX_LPI n) 0).modPort n (fun x => { x with
      data := some s.dev.plat.aon }) else s.dev.put (F.EP_LINK_RX_LPI n) 0))) ∧
  -- (9) On another port it does nothing.
  (∀ (s : State) (n : Fin 16) (on : Bool), s.dev.portUp n = false → exec (.rxLpiChange n on) s = .next
    (s.ends (s.dev))) ∧
  -- (10) EEE_LPI_ENTER enters low-power idle, counted, after IDLE_US with nothing to send.
  (∀ (s : State) (n : Fin 16), s.dev.portUp n = true → s.dev.flag (F.EEE_CTRL_EN n) = true → s.dev.get
    (F.EP_LINK_SPEED n) < 4 → s.dev.portIdle n = true → s.dev.flag (F.EP_LINK_TX_LPI n) = false →
    (s.dev.port n).wake = none → (s.dev.port n).idle + s.dev.get (F.EEE_CTRL_IDLE_US n) * 1000 ≤
    s.dev.plat.aon → exec (.eeeLpiEnter n) s = .next (s.ends ((s.dev.put (F.EP_LINK_TX_LPI n) 1).count n
    cLpiEntries))) ∧
  -- (11) Where one of these conditions fails it does nothing.
  (∀ (s : State) (n : Fin 16), (s.dev.portUp n = false ∨ s.dev.flag (F.EEE_CTRL_EN n) = false ∨ 4 ≤
    s.dev.get (F.EP_LINK_SPEED n) ∨ s.dev.portIdle n = false ∨ s.dev.flag (F.EP_LINK_TX_LPI n) = true ∨
    (s.dev.port n).wake ≠ none ∨ s.dev.plat.aon < (s.dev.port n).idle + s.dev.get (F.EEE_CTRL_IDLE_US n)
    * 1000) → exec (.eeeLpiEnter n) s = .next (s.ends (s.dev))) ∧
  -- (12) EEE_WAKE_DONE at its time lets what is due start.
  (∀ (s : State) (n : Fin 16) (frac : Fin 8) (u : Nat), (s.dev.port n).wake = some u → u ≤
    s.dev.plat.aon → exec (.eeeWakeDone n frac) s = .next (s.ends (((s.dev.modPort n (fun x => { x with
      wake := none })).sendCtl n).egressStart n false frac))) ∧
  -- (13) Before it nothing.
  (∀ (s : State) (n : Fin 16) (frac : Fin 8), (s.dev.port n).wake.all (fun u => decide (s.dev.plat.aon <
    u)) = true → exec (.eeeWakeDone n frac) s = .next (s.ends (s.dev))) ∧
  -- (14) PAUSE_END ends a pause that has run out, and no other.
  (∀ (s : State) (p : Fin 16) (c : Fin 9), exec (.pauseEnd p c) s = .next (s.ends (if s.dev.pauseOn p c
    = true ∧ tget (s.dev.port p).pause c ≤ s.dev.plat.aon * 10 then s.dev.setPause p c false else
    s.dev))) ∧
  -- (15) PAUSE_REPEAT half a PAUSE_TIME after the last XOFF sends it again: under PFC for a class that
  -- holds it.
  (∀ (s : State) (p : Fin 16) (c : Fin 9), s.dev.signals p = true → tget (s.dev.port p).xoffAt c * 10 +
    s.dev.get (F.FC_CTRL_PAUSE_TIME p) * quantum (s.dev.get (F.EP_LINK_SPEED p)) / 2 ≤ s.dev.plat.aon *
    10 → s.dev.get (F.FC_CTRL_MODE p) ≠ 1 → bitOf (s.dev.get (F.SW_IFC_STAT_XOFF p)) c = true → exec
    (.pauseRepeat p c) s = .next (s.ends (s.dev.sendXoff p c))) ∧
  -- (16) Under PAUSE for the port while a class holds it.
  (∀ (s : State) (p : Fin 16), s.dev.signals p = true → tget (s.dev.port p).xoffAt 8 * 10 + s.dev.get
    (F.FC_CTRL_PAUSE_TIME p) * quantum (s.dev.get (F.EP_LINK_SPEED p)) / 2 ≤ s.dev.plat.aon * 10 →
    s.dev.get (F.FC_CTRL_MODE p) = 1 → s.dev.get (F.SW_IFC_STAT_XOFF p) ≠ 0 → exec (.pauseRepeat p 8) s
    = .next (s.ends (s.dev.sendXoff p ((findBelow 8 (bitOf (s.dev.get (F.SW_IFC_STAT_XOFF p)))).getD
    0)))) ∧
  -- (17) Otherwise it sends nothing.
  (∀ (s : State) (p : Fin 16) (c : Fin 9), (s.dev.signals p = false ∨ s.dev.plat.aon * 10 < tget
    (s.dev.port p).xoffAt c * 10 + s.dev.get (F.FC_CTRL_PAUSE_TIME p) * quantum (s.dev.get
    (F.EP_LINK_SPEED p)) / 2 ∨ (s.dev.get (F.FC_CTRL_MODE p) = 1 ∧ c ≠ 8) ∨ (s.dev.get (F.FC_CTRL_MODE
    p) ≠ 1 ∧ bitOf (s.dev.get (F.SW_IFC_STAT_XOFF p)) c = false)) → exec (.pauseRepeat p c) s = .next
    (s.ends (s.dev)))

/-- What the head, the tail and the ICV check of a received Ethernet frame do (R157, R158, R159, R160, R161,
R169, R171, R172, R176, R253).
EP_FRAME_HEAD acts on a port that is up with no frame arriving and 64 bytes; d0 is the device with a
coarse stamp counted where STAMP_READY was 0 at the SFD. EP_FRAME_TAIL ends the frame that is arriving,
its bytes cut at MAX_LEN, with its cause c: 0 good. The end of a frame is activity of its port.
Log entries that say where the model chose on these rules: 100, 101, 103, 108, 120, 150, 154, 155, 200,
233. -/
def Obligations.FrameReception : Prop :=
  -- (1) An express frame with room takes its place in the receive buffer with its stamp, is handed to
  -- the parser and tapped.
  (∀ (s : State) (p : Fin 24) (bytes : List Byte) (ago : Nat) (d0 d1 : Dev) (stamp tb : Nat) (t : Int)
    (b : Bool), s.dev.portUp p = true → s.dev.arriving p = none → bytes.length = 64 → s.dev.coarseCount
    p (s.dev.readyAt p ago) = d0 → d0.rxReserved p + d0.maxLen p ≤ rxBuffer p → isControl bytes = false
    → d0.macsecHolds p bytes = false → d0.rxStamp p ago = (d1, stamp, tb, t, b) → exec (.epFrameHead p
    bytes ago true) s = .next (s.ends ((d1.tapHead p false (d1.maxLen p)).1.pushRx p {
      bytes, stamp, tb, base := t, coarse := b, reserve := d1.maxLen p, pos := .lookup, taps :=
        (d1.tapHead p false (d1.maxLen p)).2 }))) ∧
  -- (2) A MAC control frame is kept for its tail.
  (∀ (s : State) (p : Fin 24) (bytes : List Byte) (ago : Nat) (d0 d1 : Dev) (stamp tb : Nat) (t : Int)
    (b : Bool), s.dev.portUp p = true → s.dev.arriving p = none → bytes.length = 64 → s.dev.coarseCount
    p (s.dev.readyAt p ago) = d0 → d0.rxReserved p + d0.maxLen p ≤ rxBuffer p → isControl bytes = true →
    d0.rxStamp p ago = (d1, stamp, tb, t, b) → exec (.epFrameHead p bytes ago true) s = .next (s.ends
    (d1.pushRx p { bytes, stamp, tb, base := t, coarse := b, reserve := d1.maxLen p, pos := .control
                     }))) ∧
  -- (3) One that MACsec validates is held whole.
  (∀ (s : State) (p : Fin 24) (bytes : List Byte) (ago : Nat) (d0 d1 : Dev) (stamp tb : Nat) (t : Int)
    (b : Bool), s.dev.portUp p = true → s.dev.arriving p = none → bytes.length = 64 → s.dev.coarseCount
    p (s.dev.readyAt p ago) = d0 → d0.rxReserved p + d0.maxLen p ≤ rxBuffer p → isControl bytes = false
    → d0.macsecHolds p bytes = true → d0.rxStamp p ago = (d1, stamp, tb, t, b) → exec (.epFrameHead p
    bytes ago true) s = .next (s.ends (d1.pushRx p {
      bytes, stamp, tb, base := t, coarse := b, reserve := d1.maxLen p, pos := .held }))) ∧
  -- (4) Without room it is ignored, counted and raised as an overflow.
  (∀ (s : State) (p : Fin 24) (bytes : List Byte) (ago : Nat) (d0 : Dev), s.dev.portUp p = true →
    s.dev.arriving p = none → bytes.length = 64 → s.dev.coarseCount p (s.dev.readyAt p ago) = d0 →
    rxBuffer p < d0.rxReserved p + d0.maxLen p → exec (.epFrameHead p bytes ago true) s = .next (s.ends
    (((d0.count p cRxOverflow).raise (portPage p) 2).pushRx p {
      bytes, pos := .ignored }))) ∧
  -- (5) A preemptable frame is counted and ignored.
  (∀ (s : State) (p : Fin 24) (bytes : List Byte) (ago : Nat), s.dev.portUp p = true → s.dev.arriving p
    = none → bytes.length = 64 → exec (.epFrameHead p bytes ago false) s = .next (s.ends ((s.dev.count p
    cRxPreempt).pushRx p { bytes, pos := .ignored }))) ∧
  -- (6) At another port, during another frame or with other than 64 bytes EP_FRAME_HEAD does nothing.
  (∀ (s : State) (p : Fin 24) (bytes : List Byte) (ago : Nat) (e : Bool), (s.dev.portUp p = false ∨
    s.dev.arriving p ≠ none ∨ bytes.length ≠ 64) → exec (.epFrameHead p bytes ago e) s = .next (s.ends
    (s.dev))) ∧
  -- (7) EP_FRAME_TAIL of a fragment under 64 bytes counts a runt; with no frame arriving it does no
  -- more.
  (∀ (s : State) (p : Fin 24) (rest : List Byte) (symbol : Bool), s.dev.portUp p = true → s.dev.arriving
    p = none → exec (.epFrameTail p rest symbol) s = .next (s.ends (if rest.length < 64 then
    (s.dev.coarseCount p (s.dev.readyAt p (rest.length * 64000 / s.dev.portRate p))).count p cRxRunt
    else s.dev))) ∧
  -- (8) At a port that is not up it does nothing.
  (∀ (s : State) (p : Fin 24) (rest : List Byte) (symbol : Bool), s.dev.portUp p = false → exec
    (.epFrameTail p rest symbol) s = .next (s.ends (s.dev))) ∧
  -- (9) An ignored frame leaves.
  (∀ (s : State) (p : Fin 24) (rest : List Byte) (symbol : Bool) (k : Nat) (f : RxFrame), s.dev.portUp p
    = true → s.dev.arriving p = some (k, f) → f.pos = .ignored → exec (.epFrameTail p rest symbol) s =
    .next (s.ends ((s.dev.dropRx p k).portActivity p))) ∧
  -- (10) A good frame is counted and, still without its lookup, complete.
  (∀ (s : State) (p : Fin 24) (rest : List Byte) (symbol : Bool) (k : Nat) (f : RxFrame), s.dev.portUp p
    = true → s.dev.arriving p = some (k, f) → f.pos = .lookup → tailCause (s.dev.maxLen p) (f.bytes ++
    rest) symbol = 0 → exec (.epFrameTail p rest symbol) s = .next (s.ends ((((s.dev.count p
    cRxFrames).octets p cRxOctets (f.bytes ++ rest).length).setRx p k { f with
      bytes := (f.bytes ++ rest).take (s.dev.maxLen p), whole := true, bad := 0 }).portActivity p))) ∧
  -- (11) A bad one is counted by its cause, dropped and recorded.
  (∀ (s : State) (p : Fin 24) (rest : List Byte) (symbol : Bool) (k : Nat) (f : RxFrame) (c : Nat),
    s.dev.portUp p = true → s.dev.arriving p = some (k, f) → f.pos = .lookup → tailCause (s.dev.maxLen
    p) (f.bytes ++ rest) symbol = c → c ≠ 0 → exec (.epFrameTail p rest symbol) s = .next (s.ends
    ((((s.dev.count p (causeCount c)).dropRx p k).ingressRecord p { f with
      bytes := (f.bytes ++ rest).take (s.dev.maxLen p), whole := true, bad := c } 5 c
    false).portActivity p))) ∧
  -- (12) One stored or gone finishes with its cause.
  (∀ (s : State) (p : Fin 24) (rest : List Byte) (symbol : Bool) (k id : Nat) (f : RxFrame) (c : Nat),
    s.dev.portUp p = true → s.dev.arriving p = some (k, f) → (f.pos = .stored id ∨ f.pos = .gone id) →
    tailCause (s.dev.maxLen p) (f.bytes ++ rest) symbol = c → exec (.epFrameTail p rest symbol) s =
    .next (s.ends ((((if c = 0 then ((s.dev.count p cRxFrames).octets p cRxOctets (f.bytes ++
    rest).length) else s.dev.count p (causeCount c)).dropRx p k).finishFrame p { f with
      bytes := (f.bytes ++ rest).take (s.dev.maxLen p), whole := true, bad := c }).portActivity p))) ∧
  -- (13) A held frame that is good goes to its check with the key it takes at that instant.
  (∀ (s : State) (p : Fin 24) (rest : List Byte) (symbol : Bool) (k : Nat) (f : RxFrame), s.dev.portUp p
    = true → s.dev.arriving p = some (k, f) → f.pos = .held → tailCause (s.dev.maxLen p) (f.bytes ++
    rest) symbol = 0 → exec (.epFrameTail p rest symbol) s = .next (s.ends ((((s.dev.count p
    cRxFrames).octets p cRxOctets (f.bytes ++ rest).length).setRx p k { f with
      bytes := (f.bytes ++ rest).take (s.dev.maxLen p), whole := true, bad := 0, pos := .icv, sec :=
        s.dev.frameKey p (((f.bytes ++ rest).take (s.dev.maxLen p)).take (((f.bytes ++ rest).take
        (s.dev.maxLen p)).length - 4)) }).portActivity p))) ∧
  -- (14) A MAC control frame that is good takes effect.
  (∀ (s : State) (p : Fin 24) (rest : List Byte) (symbol : Bool) (k : Nat) (f : RxFrame), s.dev.portUp p
    = true → s.dev.arriving p = some (k, f) → f.pos = .control → tailCause (s.dev.maxLen p) (f.bytes ++
    rest) symbol = 0 → exec (.epFrameTail p rest symbol) s = .next (s.ends (((s.dev.macControl p
    (f.bytes ++ rest)).dropRx p k).portActivity p))) ∧
  -- (15) Bad ones of both are counted and dropped.
  (∀ (s : State) (p : Fin 24) (rest : List Byte) (symbol : Bool) (k : Nat) (f : RxFrame) (c : Nat),
    s.dev.portUp p = true → s.dev.arriving p = some (k, f) → (f.pos = .held ∨ f.pos = .control) →
    tailCause (s.dev.maxLen p) (f.bytes ++ rest) symbol = c → c ≠ 0 → exec (.epFrameTail p rest symbol)
    s = .next (s.ends (((s.dev.count p (causeCount c)).dropRx p k).portActivity p))) ∧
  -- (16) MACSEC_ICV_CHECKED hands the oldest checked frame, if it passes, to the parser with a new FCS.
  (∀ (s : State) (n : Fin 16) (k : Nat) (f : RxFrame) (d1 : Dev) (g : List Byte), (s.dev.port
    n).rx.findIdx? (fun x => x.pos == .icv) = some k → (s.dev.port n).rx[k]? = some f → (s.dev.macsecIn
    n (f.bytes.take (f.bytes.length - 4)) f.sec).dev = d1 → (s.dev.macsecIn n (f.bytes.take
    (f.bytes.length - 4)) f.sec).pass = some g → exec (.macsecIcvChecked n) s = .next (s.ends
    ((d1.handOver n { f with bytes := g ++ leBytes 4 (crc32 g) }).1.setRx n k (d1.handOver n { f with
      bytes := g ++ leBytes 4 (crc32 g) }).2))) ∧
  -- (17) One that fails is dropped with event 3.
  (∀ (s : State) (n : Fin 16) (k : Nat) (f : RxFrame) (d1 : Dev), (s.dev.port n).rx.findIdx? (fun x =>
    x.pos == .icv) = some k → (s.dev.port n).rx[k]? = some f → (s.dev.macsecIn n (f.bytes.take
    (f.bytes.length - 4)) f.sec).dev = d1 → (s.dev.macsecIn n (f.bytes.take (f.bytes.length - 4))
    f.sec).pass = none → exec (.macsecIcvChecked n) s = .next (s.ends ((d1.dropRx n k).raise (.ep n 2)
    3))) ∧
  -- (18) With none in check it does nothing.
  (∀ (s : State) (n : Fin 16), (s.dev.port n).rx.findIdx? (fun x => x.pos == .icv) = none → exec
    (.macsecIcvChecked n) s = .next (s.ends (s.dev)))

/-- What a lookup result does with a frame, and the start and end of a frame on an egress port (R162, R173,
R180, R184, R185, R186, R187, R189, R214, R275, R326, R331).
LOOKUP_RESULT acts on the next frame f of a port that its slice serves; w is what R180 to R186 make of
it. EGRESS_FRAME_START takes the copy c that R214 picks on a port that takes frames; EGRESS_FRAME_END
ends the whole frame g in transmission t.
Log entries that say where the model chose on these rules: 20, 39, 61, 70, 99, 103, 104, 109, 113, 120,
123, 124, 145, 147, 182, 183, 186, 194, 195, 213, 232, 255, 256, 265, 303, 304, 305. -/
def Obligations.ForwardingAndEgress : Prop :=
  -- (1) A producer's frame waits while its class has XOFF or no cell is free.
  (∀ (s : State) (p : Fin 28) (k : Nat) (f : RxFrame) (w : Fwd) (a : Dev), s.dev.enabled (.sw 0) = true
    → s.dev.enabled (.lk (portSlice p) 0) = true → s.dev.mode ≠ 11 → s.dev.startAdmits p = true →
    nextLookup (s.dev.port p).rx = some k → (s.dev.port p).rx[k]? = some f → s.dev.lookUp p f.bytes =
    (w, a) → s.dev.producerHolds p w.cls = true → exec (.lookupResult p) s = .next (s.ends (s.dev))) ∧
  -- (2) A frame that fails step 2 counts in SW_IN_DROP.
  (∀ (s : State) (p : Fin 28) (k : Nat) (f : RxFrame) (w : Fwd) (a a1 : Dev), s.dev.enabled (.sw 0) =
    true → s.dev.enabled (.lk (portSlice p) 0) = true → s.dev.mode ≠ 11 → s.dev.startAdmits p = true →
    nextLookup (s.dev.port p).rx = some k → (s.dev.port p).rx[k]? = some f → s.dev.lookUp p f.bytes =
    (w, a) → s.dev.producerHolds p w.cls = false → a.fabricBad = (false, a1) → w.bad = true → exec
    (.lookupResult p) s = .next (s.ends ((a1.bump F.SW_IN_DROP_COUNT).placed p k { f with
      pos := .gone 1, cls := w.cls }))) ∧
  -- (3) Any other with a VLAN is offered for learning, a flooded one is counted; with an empty set it
  -- counts in SW_EMPTY.
  (∀ (s : State) (p : Fin 28) (k : Nat) (f : RxFrame) (w : Fwd) (a a1 : Dev) (d0 d1 : Dev),
    s.dev.enabled (.sw 0) = true → s.dev.enabled (.lk (portSlice p) 0) = true → s.dev.mode ≠ 11 →
    s.dev.startAdmits p = true → nextLookup (s.dev.port p).rx = some k → (s.dev.port p).rx[k]? = some f
    → s.dev.lookUp p f.bytes = (w, a) → s.dev.producerHolds p w.cls = false → a.fabricBad = (false, a1)
    → w.bad = false → (if w.vid.isSome then a1.lkLearn p (headOf f.bytes).sa (a1.vidOf p (headOf
    f.bytes)) (f.stamp / 8 % 2 ^ 32) else a1) = d0 → (if w.flood then d0.bump (F.LK_FLOOD_COUNT
    (portSlice p)) else d0) = d1 → w.dest = 0 → exec (.lookupResult p) s = .next (s.ends ((d1.bump
    F.SW_EMPTY_COUNT).placed p k { f with pos := .gone 1, dest := 0, cls := w.cls }))) ∧
  -- (4) One that policing discards is gone with its fate.
  (∀ (s : State) (p : Fin 28) (k : Nat) (f : RxFrame) (w : Fwd) (a a1 : Dev) (d0 d1 d2 : Dev) (fate :
    Nat) (owed : List Charge) (flt : Option Nat) (mark : Bool), s.dev.enabled (.sw 0) = true →
    s.dev.enabled (.lk (portSlice p) 0) = true → s.dev.mode ≠ 11 → s.dev.startAdmits p = true →
    nextLookup (s.dev.port p).rx = some k → (s.dev.port p).rx[k]? = some f → s.dev.lookUp p f.bytes =
    (w, a) → s.dev.producerHolds p w.cls = false → a.fabricBad = (false, a1) → w.bad = false → (if
    w.vid.isSome then a1.lkLearn p (headOf f.bytes).sa (a1.vidOf p (headOf f.bytes)) (f.stamp / 8 % 2 ^
    32) else a1) = d0 → (if w.flood then d0.bump (F.LK_FLOOD_COUNT (portSlice p)) else d0) = d1 → w.dest
    ≠ 0 → d1.police p { f with dest := w.dest, cls := w.cls } w = (d2, fate, owed, flt, mark) → fate ≠ 0
    → exec (.lookupResult p) s = .next (s.ends (d2.placed p k { f with
      dest := w.dest, cls := w.cls, charges := owed, filter := flt, pos := .gone fate }))) ∧
  -- (5) One that is admitted is stored.
  (∀ (s : State) (p : Fin 28) (k : Nat) (f : RxFrame) (w : Fwd) (a a1 : Dev) (d0 d1 d2 : Dev) (fate :
    Nat) (owed : List Charge) (flt : Option Nat) (mark : Bool) (id : Nat) (d3 : Dev), s.dev.enabled (.sw
    0) = true → s.dev.enabled (.lk (portSlice p) 0) = true → s.dev.mode ≠ 11 → s.dev.startAdmits p =
    true → nextLookup (s.dev.port p).rx = some k → (s.dev.port p).rx[k]? = some f → s.dev.lookUp p
    f.bytes = (w, a) → s.dev.producerHolds p w.cls = false → a.fabricBad = (false, a1) → w.bad = false →
    (if w.vid.isSome then a1.lkLearn p (headOf f.bytes).sa (a1.vidOf p (headOf f.bytes)) (f.stamp / 8 %
    2 ^ 32) else a1) = d0 → (if w.flood then d0.bump (F.LK_FLOOD_COUNT (portSlice p)) else d0) = d1 →
    w.dest ≠ 0 → d1.police p { f with dest := w.dest, cls := w.cls } w = (d2, fate, owed, flt, mark) →
    fate = 0 → d2.admitFrame p { f with dest := w.dest, cls := w.cls, charges := owed, filter := flt } w
    mark = (d3, some id) → exec (.lookupResult p) s = .next (s.ends (d3.placed p k { f with
      dest := w.dest, cls := w.cls, charges := owed, filter := flt, pos := .stored id }))) ∧
  -- (6) One that finds no room is gone.
  (∀ (s : State) (p : Fin 28) (k : Nat) (f : RxFrame) (w : Fwd) (a a1 : Dev) (d0 d1 d2 : Dev) (fate :
    Nat) (owed : List Charge) (flt : Option Nat) (mark : Bool) (d3 : Dev), s.dev.enabled (.sw 0) = true
    → s.dev.enabled (.lk (portSlice p) 0) = true → s.dev.mode ≠ 11 → s.dev.startAdmits p = true →
    nextLookup (s.dev.port p).rx = some k → (s.dev.port p).rx[k]? = some f → s.dev.lookUp p f.bytes =
    (w, a) → s.dev.producerHolds p w.cls = false → a.fabricBad = (false, a1) → w.bad = false → (if
    w.vid.isSome then a1.lkLearn p (headOf f.bytes).sa (a1.vidOf p (headOf f.bytes)) (f.stamp / 8 % 2 ^
    32) else a1) = d0 → (if w.flood then d0.bump (F.LK_FLOOD_COUNT (portSlice p)) else d0) = d1 → w.dest
    ≠ 0 → d1.police p { f with dest := w.dest, cls := w.cls } w = (d2, fate, owed, flt, mark) → fate = 0
    → d2.admitFrame p { f with dest := w.dest, cls := w.cls, charges := owed, filter := flt } w mark =
    (d3, none) → exec (.lookupResult p) s = .next (s.ends (d3.placed p k { f with
      dest := w.dest, cls := w.cls, charges := owed, filter := flt, pos := .gone 4 }))) ∧
  -- (7) A bad word of fabric or buffer memory costs the frame that waits.
  (∀ (s : State) (p : Fin 28) (k : Nat) (f : RxFrame) (w : Fwd) (a a1 : Dev) (bad : Bool), s.dev.enabled
    (.sw 0) = true → s.dev.enabled (.lk (portSlice p) 0) = true → s.dev.mode ≠ 11 → s.dev.startAdmits p
    = true → nextLookup (s.dev.port p).rx = some k → (s.dev.port p).rx[k]? = some f → s.dev.lookUp p
    f.bytes = (w, a) → s.dev.producerHolds p w.cls = false → a.fabricBad = (bad, a1) → ∃ d' : Dev, exec
    (.lookupResult p) s = .next (s.ends d') ∧ bad = true → d' = a1.rxLost p k) ∧
  -- (8) A lookup that reads a bad word of its slice misses, and a free entry is removed.
  (∀ (d : Dev) (p : Fin 28) (f : List Byte) (o : Option WordErr) (a b : Dev), d.meets (3 + portSlice p)
    = (o, a) → (a.free 131072).2.lkSet (portSlice p) (a.free 131072).1 default = b → d.lookUp p f =
    (match o with | none => (a.startOnly (a.forward p f), a) | some e => ((b.wordsWritten (fun x => x ==
    e.word)).startOnly ({ b.wordsWritten (fun x => x == e.word) with
      lk := tset b.lk (portSlice p) default }.forward p f), b.wordsWritten (fun x => x == e.word)))) ∧
  -- (9) Without a frame, or where the port is not served, nothing happens.
  (∀ (s : State) (p : Fin 28), (s.dev.enabled (.sw 0) = false ∨ s.dev.enabled (.lk (portSlice p) 0) =
    false ∨ s.dev.mode = 11 ∨ s.dev.startAdmits p = false ∨ nextLookup (s.dev.port p).rx = none) → exec
    (.lookupResult p) s = .next (s.ends (s.dev))) ∧
  -- (10) A copy that MACsec does not protect begins.
  (∀ (s : State) (p : Fin 28) (dbe : Bool) (frac : Fin 8) (q tier : Nat) (c : QCopy) (t : List QCopy) (g
    : GFrame) (a : Dev), s.dev.takes p = true → s.dev.pick p = some (q, tier) → (s.dev.qs q).copies = c
    :: t → s.dev.frame? c.id = some g → s.dev.fabricBad = (false, a) → (p.val < 24 ∨ a.parityArmed p =
    false) → dbe = false → (p.val < 16 → a.flag (F.EP_LINK_LINK_UP p) = true) → a.protects p g = false →
    exec (.egressFrameStart p dbe frac) s = .next (s.ends (a.begin_ p q tier c g none frac))) ∧
  -- (11) One that it protects begins with the next packet number, counted.
  (∀ (s : State) (p : Fin 28) (dbe : Bool) (frac : Fin 8) (q tier : Nat) (c : QCopy) (t : List QCopy) (g
    : GFrame) (a : Dev) (d1 : Dev) (x : Protect), s.dev.takes p = true → s.dev.pick p = some (q, tier) →
    (s.dev.qs q).copies = c :: t → s.dev.frame? c.id = some g → s.dev.fabricBad = (false, a) → (p.val <
    24 ∨ a.parityArmed p = false) → dbe = false → (p.val < 16 → a.flag (F.EP_LINK_LINK_UP p) = true) →
    a.protects p g = true → a.protect p = (d1, some x) → exec (.egressFrameStart p dbe frac) s = .next
    (s.ends ((d1.begin_ p q tier c g (some x) frac).count p cMsProtected))) ∧
  -- (12) Without a usable key it is discarded, counted and raised.
  (∀ (s : State) (p : Fin 28) (dbe : Bool) (frac : Fin 8) (q tier : Nat) (c : QCopy) (t : List QCopy) (g
    : GFrame) (a : Dev) (d1 : Dev), s.dev.takes p = true → s.dev.pick p = some (q, tier) → (s.dev.qs
    q).copies = c :: t → s.dev.frame? c.id = some g → s.dev.fabricBad = (false, a) → (p.val < 24 ∨
    a.parityArmed p = false) → dbe = false → (p.val < 16 → a.flag (F.EP_LINK_LINK_UP p) = true) →
    a.protects p g = true → a.protect p = (d1, none) → exec (.egressFrameStart p dbe frac) s = .next
    (s.ends (((d1.discardHead q c.id).count p cMsDropped).raise (.ep p 2) 2))) ∧
  -- (13) One with an uncorrectable error in its cells is discarded and reported; on ports 24 to 27 as an
  -- ECC or a parity error (free).
  (∀ (s : State) (p : Fin 28) (dbe : Bool) (frac : Fin 8) (q tier : Nat) (c : QCopy) (t : List QCopy) (g
    : GFrame) (a : Dev), s.dev.takes p = true → s.dev.pick p = some (q, tier) → (s.dev.qs q).copies = c
    :: t → s.dev.frame? c.id = some g → s.dev.fabricBad = (false, a) → (p.val < 24 ∨ a.parityArmed p =
    false) → dbe = true → exec (.egressFrameStart p dbe frac) s = .next (s.ends (if p.val < 24 then
    ((a.bump F.SW_CT_DISCARD_COUNT).discardHead q c.id).dbe 1 else if (a.free 2).1 = 0 then (((a.free
    2).2.bump F.SW_ECC_DISCARD_COUNT).discardHead q c.id).dbe 1 else ((((a.free 2).2.discardHead q
    c.id).bump F.SW_CT_BAD_COUNT).raise (.sw 0) 2).report 3 p))) ∧
  -- (14) On ports 24 to 27 an armed parity error discards it.
  (∀ (s : State) (p : Fin 28) (dbe : Bool) (frac : Fin 8) (q tier : Nat) (c : QCopy) (t : List QCopy) (g
    : GFrame) (a : Dev), s.dev.takes p = true → s.dev.pick p = some (q, tier) → (s.dev.qs q).copies = c
    :: t → s.dev.frame? c.id = some g → s.dev.fabricBad = (false, a) → 24 ≤ p.val → a.parityArmed p =
    true → exec (.egressFrameStart p dbe frac) s = .next (s.ends (({ (((a.discardHead q c.id).bump
    F.SW_CT_BAD_COUNT).raise (.sw 0) 2) with inject := none }).report 3 (p + 2 ^ 16)))) ∧
  -- (15) While DOWN_FLUSH empties a port whose link is down it is discarded as TX_LINK_DOWN.
  (∀ (s : State) (p : Fin 28) (dbe : Bool) (frac : Fin 8) (q tier : Nat) (c : QCopy) (t : List QCopy) (g
    : GFrame) (a : Dev), s.dev.takes p = true → s.dev.pick p = some (q, tier) → (s.dev.qs q).copies = c
    :: t → s.dev.frame? c.id = some g → s.dev.fabricBad = (false, a) → dbe = false → p.val < 16 → a.flag
    (F.EP_LINK_LINK_UP p) = false → exec (.egressFrameStart p dbe frac) s = .next (s.ends
    ((a.discardHead q c.id).count p cTxLinkDown))) ∧
  -- (16) A bad word of fabric or buffer memory costs the picked copy.
  (∀ (s : State) (p : Fin 28) (dbe : Bool) (frac : Fin 8) (q tier : Nat) (c : QCopy) (t : List QCopy) (g
    : GFrame) (a : Dev) (bad : Bool), s.dev.takes p = true → s.dev.pick p = some (q, tier) → (s.dev.qs
    q).copies = c :: t → s.dev.frame? c.id = some g → s.dev.fabricBad = (bad, a) → ∃ d' : Dev, exec
    (.egressFrameStart p dbe frac) s = .next (s.ends d') ∧ bad = true → d' = (a.bump (F.SW_QDROP_COUNT
    q)).discardHead q c.id) ∧
  -- (17) Where the port takes no frame, or picks none, nothing happens.
  (∀ (s : State) (p : Fin 28) (dbe : Bool) (frac : Fin 8), (s.dev.takes p = false ∨ s.dev.pick p = none)
    → exec (.egressFrameStart p dbe frac) s = .next (s.ends (s.dev))) ∧
  -- (18) A frame that ends without an error is completed, charged to the shapers of its queue and
  -- released.
  (∀ (s : State) (p : Fin 28) (err : Fin 3) (t : TxSt) (g : GFrame) (d0 d1 d2 : Dev), (s.dev.port p).tx
    = some t → s.dev.frame? t.id = some g → g.whole = true → t.waiting = false → (24 ≤ p.val → p.val <
    26 → s.dev.inBack (p - 24) t.id = false) → s.dev.parityArmed p = false → (err = 0 ∨ 24 ≤ p.val) →
    s.dev = d0 → d0.finishCopy p t g g.bad = d1 → (d1.chargeShapers t.queue t.committed (d1.acctLen p
    g.bytes.length)).depthSub t.queue g.cells = d2 → exec (.egressFrameEnd p err) s = .next (s.ends (if
    p.val < 16 then ((d2.modPort p (fun x => { x with
      tx := none, attempts := 0, idle := d2.plat.aon, burstAt := d2.plat.aon })).releaseCopy
    t.id).sendCtl p else if p = 26 then (d2.modPort p (fun x => { x with
      tx := none, attempts := 0, idle := d2.plat.aon, burstAt := d2.plat.aon })) else (d2.modPort p (fun
    x => { x with tx := none, attempts := 0, idle := d2.plat.aon, burstAt := d2.plat.aon })).releaseCopy
    t.id))) ∧
  -- (19) With an uncorrectable error in its cells it ends bad and is reported.
  (∀ (s : State) (p : Fin 28) (err : Fin 3) (t : TxSt) (g : GFrame) (d0 d1 d2 : Dev), (s.dev.port p).tx
    = some t → s.dev.frame? t.id = some g → g.whole = true → t.waiting = false → (24 ≤ p.val → p.val <
    26 → s.dev.inBack (p - 24) t.id = false) → s.dev.parityArmed p = false → err = 1 → p.val < 24 →
    s.dev.dbe 1 = d0 → d0.finishCopy p t g true = d1 → (d1.chargeShapers t.queue t.committed (d1.acctLen
    p g.bytes.length)).depthSub t.queue g.cells = d2 → exec (.egressFrameEnd p err) s = .next (s.ends
    (if p.val < 16 then ((d2.modPort p (fun x => { x with
      tx := none, attempts := 0, idle := d2.plat.aon, burstAt := d2.plat.aon })).releaseCopy
    t.id).sendCtl p else if p = 26 then (d2.modPort p (fun x => { x with
      tx := none, attempts := 0, idle := d2.plat.aon, burstAt := d2.plat.aon })) else (d2.modPort p (fun
    x => { x with tx := none, attempts := 0, idle := d2.plat.aon, burstAt := d2.plat.aon })).releaseCopy
    t.id))) ∧
  -- (20) With a parity error, met or armed, it ends bad, counted, raised and reported.
  (∀ (s : State) (p : Fin 28) (err : Fin 3) (t : TxSt) (g : GFrame) (d0 d1 d2 : Dev), (s.dev.port p).tx
    = some t → s.dev.frame? t.id = some g → g.whole = true → t.waiting = false → (24 ≤ p.val → p.val <
    26 → s.dev.inBack (p - 24) t.id = false) → p.val < 24 → (if s.dev.parityArmed p then ({ ((s.dev.bump
    F.SW_CT_BAD_COUNT).raise (.sw 0) 2) with inject := none }).report 3 (p + 2 ^ 16) else (((s.dev.bump
    F.SW_CT_BAD_COUNT).raise (.sw 0) 2)).report 3 p) = d0 → (err = 2 ∨ s.dev.parityArmed p = true) →
    d0.finishCopy p t g true = d1 → (d1.chargeShapers t.queue t.committed (d1.acctLen p
    g.bytes.length)).depthSub t.queue g.cells = d2 → exec (.egressFrameEnd p err) s = .next (s.ends (if
    p.val < 16 then ((d2.modPort p (fun x => { x with
      tx := none, attempts := 0, idle := d2.plat.aon, burstAt := d2.plat.aon })).releaseCopy
    t.id).sendCtl p else if p = 26 then (d2.modPort p (fun x => { x with
      tx := none, attempts := 0, idle := d2.plat.aon, burstAt := d2.plat.aon })) else (d2.modPort p (fun
    x => { x with tx := none, attempts := 0, idle := d2.plat.aon, burstAt := d2.plat.aon })).releaseCopy
    t.id))) ∧
  -- (21) A frame not yet whole, in back-off, or still in a host ring does not end; without a frame
  -- nothing ends.
  (∀ (s : State) (p : Fin 28) (err : Fin 3), (s.dev.port p).tx.all (fun t => (s.dev.frame? t.id).any
    (fun g => !g.whole || t.waiting || (decide (24 ≤ p.val) && decide (p.val < 26) && s.dev.inBack (p -
    24) t.id))) = true → exec (.egressFrameEnd p err) s = .next (s.ends (s.dev)))

/-- The MACsec table commands and the snapshot of the counters (R91, R170, R176).
MS_READ and MS_WRITE are commands of the window MS_CMD, with their result in MS_RESULT; the write
reaches the device d.
Log entries that say where the model chose on these rules: 9, 20, 102, 120, 200, 282. -/
def Obligations.MacsecTablesAndCounters : Prop :=
  -- (1) MS_READ shows an association.
  (∀ (s : State) (i : Init) (n : Fin 16) (ix : Fin 128) (d : Dev), s.dev.reaches i (R.MS_CMD n) = some d
    → d.lockedWrite (R.MS_CMD n) (cmdWord [(F.MS_CMD_GO n, 1), (F.MS_CMD_OP n, 0), (F.MS_CMD_TABLE n,
    boolNat true), (F.MS_CMD_INDEX n, ix)]) = false → d.flag (F.MS_CMD_GO n) = false → ix.val < 68 →
    exec (.msRead i n true ix) s = .next (s.ends (((List.range 6).foldl (fun (a : Dev) k => a.put
    (F.MS_DATA_DATA n k) (([(d.saEntry n ix).w0, (d.saEntry n ix).ssci, (d.saEntry n ix).pn % 2 ^ 32,
    (d.saEntry n ix).pn / 2 ^ 32][k]?).getD 0)) (d.commanded (R.MS_CMD n) (cmdWord [(F.MS_CMD_GO n, 1),
    (F.MS_CMD_OP n, 0), (F.MS_CMD_TABLE n, boolNat true), (F.MS_CMD_INDEX n, ix)]) (F.MS_CMD_GO n))).put
    (F.MS_RESULT_CODE n) 0))) ∧
  -- (2) It shows a secure channel.
  (∀ (s : State) (i : Init) (n : Fin 16) (ix : Fin 128) (d : Dev), s.dev.reaches i (R.MS_CMD n) = some d
    → d.lockedWrite (R.MS_CMD n) (cmdWord [(F.MS_CMD_GO n, 1), (F.MS_CMD_OP n, 0), (F.MS_CMD_TABLE n,
    boolNat false), (F.MS_CMD_INDEX n, ix)]) = false → d.flag (F.MS_CMD_GO n) = false → ix.val < 17 →
    exec (.msRead i n false ix) s = .next (s.ends (((List.range 6).foldl (fun (a : Dev) k => a.put
    (F.MS_DATA_DATA n k) (([(d.scEntry n ix).w0, (d.scEntry n ix).w1, (d.scEntry n ix).w2][k]?).getD 0))
    (d.commanded (R.MS_CMD n) (cmdWord [(F.MS_CMD_GO n, 1), (F.MS_CMD_OP n, 0), (F.MS_CMD_TABLE n,
    boolNat false), (F.MS_CMD_INDEX n, ix)]) (F.MS_CMD_GO n))).put (F.MS_RESULT_CODE n) 0))) ∧
  -- (3) An entry that does not exist is refused with MS_CMD: code and error capture.
  (∀ (s : State) (i : Init) (n : Fin 16) (ix : Fin 128) (d : Dev) (sa : Bool), s.dev.reaches i (R.MS_CMD
    n) = some d → d.lockedWrite (R.MS_CMD n) (cmdWord [(F.MS_CMD_GO n, 1), (F.MS_CMD_OP n, 0),
    (F.MS_CMD_TABLE n, boolNat sa), (F.MS_CMD_INDEX n, ix)]) = false → d.flag (F.MS_CMD_GO n) = false →
    (if sa then 68 else 17) ≤ ix.val → exec (.msRead i n sa ix) s = .next (s.ends (((d.commanded
    (R.MS_CMD n) (cmdWord [(F.MS_CMD_GO n, 1), (F.MS_CMD_OP n, 0), (F.MS_CMD_TABLE n, boolNat sa),
    (F.MS_CMD_INDEX n, ix)]) (F.MS_CMD_GO n)).put (F.MS_RESULT_CODE n) 0x0116).recordErr (.ep n 2)
    (initCode i) (R.MS_CMD n) 0x0116))) ∧
  -- (4) MS_WRITE that R170 takes stores a secure channel.
  (∀ (s : State) (i : Init) (n : Fin 16) (ix : Fin 128) (d : Dev), s.dev.reaches i (R.MS_CMD n) = some d
    → d.lockedWrite (R.MS_CMD n) (cmdWord [(F.MS_CMD_GO n, 1), (F.MS_CMD_OP n, 1), (F.MS_CMD_TABLE n,
    boolNat false), (F.MS_CMD_INDEX n, ix)]) = false → d.flag (F.MS_CMD_GO n) = false → (d.commanded
    (R.MS_CMD n) (cmdWord [(F.MS_CMD_GO n, 1), (F.MS_CMD_OP n, 1), (F.MS_CMD_TABLE n, boolNat false),
    (F.MS_CMD_INDEX n, ix)]) (F.MS_CMD_GO n)).msCode n = 0 → exec (.msWrite i n false ix) s = .next
    (s.ends (({ (d.commanded (R.MS_CMD n) (cmdWord [(F.MS_CMD_GO n, 1), (F.MS_CMD_OP n, 1),
    (F.MS_CMD_TABLE n, boolNat false), (F.MS_CMD_INDEX n, ix)]) (F.MS_CMD_GO n)) with
      msc := tset d.msc (17 * n + ix) { w0 := d.get (F.MS_DATA_DATA n 0), w1 := d.get (F.MS_DATA_DATA n
                                          1), w2 := d.get (F.MS_DATA_DATA n 2) } }).put
    (F.MS_RESULT_CODE n) 0))) ∧
  -- (5) It stores an association.
  (∀ (s : State) (i : Init) (n : Fin 16) (ix : Fin 128) (d : Dev), s.dev.reaches i (R.MS_CMD n) = some d
    → d.lockedWrite (R.MS_CMD n) (cmdWord [(F.MS_CMD_GO n, 1), (F.MS_CMD_OP n, 1), (F.MS_CMD_TABLE n,
    boolNat true), (F.MS_CMD_INDEX n, ix)]) = false → d.flag (F.MS_CMD_GO n) = false → (d.commanded
    (R.MS_CMD n) (cmdWord [(F.MS_CMD_GO n, 1), (F.MS_CMD_OP n, 1), (F.MS_CMD_TABLE n, boolNat true),
    (F.MS_CMD_INDEX n, ix)]) (F.MS_CMD_GO n)).msCode n = 0 → exec (.msWrite i n true ix) s = .next
    (s.ends (((d.commanded (R.MS_CMD n) (cmdWord [(F.MS_CMD_GO n, 1), (F.MS_CMD_OP n, 1),
    (F.MS_CMD_TABLE n, boolNat true), (F.MS_CMD_INDEX n, ix)]) (F.MS_CMD_GO n)).modSa n ix (fun _ => {
      w0 := d.get (F.MS_DATA_DATA n 0), ssci := d.get (F.MS_DATA_DATA n 1), pn := d.get (F.MS_DATA_DATA
        n 3) * 2 ^ 32 + d.get (F.MS_DATA_DATA n 2), warned := false })).put (F.MS_RESULT_CODE n) 0))) ∧
  -- (6) One that R170 refuses changes no entry.
  (∀ (s : State) (i : Init) (n : Fin 16) (ix : Fin 128) (d : Dev) (sa : Bool), s.dev.reaches i (R.MS_CMD
    n) = some d → d.lockedWrite (R.MS_CMD n) (cmdWord [(F.MS_CMD_GO n, 1), (F.MS_CMD_OP n, 1),
    (F.MS_CMD_TABLE n, boolNat sa), (F.MS_CMD_INDEX n, ix)]) = false → d.flag (F.MS_CMD_GO n) = false →
    (d.commanded (R.MS_CMD n) (cmdWord [(F.MS_CMD_GO n, 1), (F.MS_CMD_OP n, 1), (F.MS_CMD_TABLE n,
    boolNat sa), (F.MS_CMD_INDEX n, ix)]) (F.MS_CMD_GO n)).msCode n = 0x0116 → exec (.msWrite i n sa ix)
    s = .next (s.ends (((d.commanded (R.MS_CMD n) (cmdWord [(F.MS_CMD_GO n, 1), (F.MS_CMD_OP n, 1),
    (F.MS_CMD_TABLE n, boolNat sa), (F.MS_CMD_INDEX n, ix)]) (F.MS_CMD_GO n)).put (F.MS_RESULT_CODE n)
    0x0116).recordErr (.ep n 2) (initCode i) (R.MS_CMD n) 0x0116))) ∧
  -- (7) CNT_SNAP copies every live counter of an EP port, the octet counters in two words; no other
  -- register and no port changes.
  (∀ (s : State) (i : Init) (p : Fin 24) (d : Dev), p.val < 16 → s.dev.reaches i (R.EP_CNT_CTRL p) =
    some d → d.lockedWrite (R.EP_CNT_CTRL p) (1) = false → ∃ d' : Dev, exec (.cntSnap i p) s = .next
    (s.ends d') ∧ (∀ k, k < 22 → d'.get (F.EP_CNT_COUNT p (4 + k)) = tget (d.port p).live (4 + k) % 2 ^
    32) ∧ d'.get (F.EP_CNT_COUNT p 0) = tget (d.port p).live 0 % 2 ^ 32 ∧ d'.get (F.EP_CNT_COUNT p 1) =
    tget (d.port p).live 0 / 2 ^ 32 % 2 ^ 32 ∧ d'.get (F.EP_CNT_COUNT p 2) = tget (d.port p).live 2 % 2
    ^ 32 ∧ d'.get (F.EP_CNT_COUNT p 3) = tget (d.port p).live 2 / 2 ^ 32 % 2 ^ 32 ∧ d'.ports = d.ports ∧
    ∀ a, (a < R.EP_CNT p 0 ∨ R.EP_CNT p 25 < a) → d'.word a = d.word a) ∧
  -- (8) It copies the counters that a T1S segment shows.
  (∀ (s : State) (i : Init) (p : Fin 24) (d : Dev), 16 ≤ p.val → s.dev.reaches i (R.TS_CNT_CTRL (p -
    16)) = some d → d.lockedWrite (R.TS_CNT_CTRL (p - 16)) (1) = false → ∃ d' : Dev, exec (.cntSnap i p)
    s = .next (s.ends d') ∧ (∀ k, k < 11 → d'.get (F.TS_CNT_COUNT (p - 16) k) = tget (d.port p).live
    (tsCounters.getD k 0) % 2 ^ 32) ∧ d'.ports = d.ports ∧ ∀ a, (a < R.TS_CNT (p - 16) 0 ∨ R.TS_CNT (p -
    16) 10 < a) → d'.word a = d.word a)

/-- What beacons, transmit opportunities, collisions and back-offs do to a T1S segment (R174, R175).
A segment is port 16 + n. Slots of a back-off are 51.2 us.
Log entries that say where the model chose on these rules: 122, 223, 224. -/
def Obligations.T1sSegments : Prop :=
  -- (1) TS_TX_OPPORTUNITY of a follower whose turn has come admits 1 + MAX_BURST frames and starts one.
  (∀ (s : State) (n : Fin 8), s.dev.portUp (16 + n) = true → s.dev.flag (F.TS_STAT_PLCA_ACTIVE n) = true
    → s.dev.flag (F.TS_STAT_COORD n) = false → (s.dev.port (16 + n)).tx = none → s.dev.arriving (16 + n)
    = none → (s.dev.port (16 + n)).beacon + s.dev.plcaWait n ≤ s.dev.plat.aon → exec (.tsTxOpportunity
    n) s = .next (s.ends ((s.dev.modPort (16 + n) (fun x => { x with
      credit := 1 + s.dev.get (F.TS_BURST_MAX_BURST n), burstAt := s.dev.plat.aon })).egressStart (16 +
    n) false 0))) ∧
  -- (2) Of the coordinator it first sends a beacon.
  (∀ (s : State) (n : Fin 8), s.dev.portUp (16 + n) = true → s.dev.flag (F.TS_STAT_PLCA_ACTIVE n) = true
    → s.dev.flag (F.TS_STAT_COORD n) = true → (s.dev.port (16 + n)).tx = none → s.dev.arriving (16 + n)
    = none → (s.dev.port (16 + n)).beacon + s.dev.plcaWait n ≤ s.dev.plat.aon → exec (.tsTxOpportunity
    n) s = .next (s.ends (((s.dev.emit (.beacon n)).modPort (16 + n) (fun x => { x with
      beacon := s.dev.plat.aon, credit := 1 + s.dev.get (F.TS_BURST_MAX_BURST n), burstAt :=
        s.dev.plat.aon })).egressStart (16 + n) false 0))) ∧
  -- (3) Otherwise it does nothing.
  (∀ (s : State) (n : Fin 8), (s.dev.portUp (16 + n) = false ∨ s.dev.flag (F.TS_STAT_PLCA_ACTIVE n) =
    false ∨ (s.dev.port (16 + n)).tx ≠ none ∨ s.dev.arriving (16 + n) ≠ none ∨ s.dev.plat.aon <
    (s.dev.port (16 + n)).beacon + s.dev.plcaWait n) → exec (.tsTxOpportunity n) s = .next (s.ends
    (s.dev))) ∧
  -- (4) TS_BEACON_RX makes a follower's PLCA active and ends CSMA/CD.
  (∀ (s : State) (n : Fin 8), s.dev.portUp (16 + n) = true → s.dev.flag (F.TS_PLCA_EN n) = true →
    s.dev.flag (F.TS_STAT_COORD n) = false → exec (.tsBeaconRx n) s = .next (s.ends (((s.dev.put
    (F.TS_STAT_PLCA_ACTIVE n) 1).put (F.TS_STAT_CSMA n) 0).modPort (16 + n) (fun x => { x with
      beacon := s.dev.plat.aon })))) ∧
  -- (5) At any other segment it does nothing.
  (∀ (s : State) (n : Fin 8), (s.dev.portUp (16 + n) = false ∨ s.dev.flag (F.TS_PLCA_EN n) = false ∨
    s.dev.flag (F.TS_STAT_COORD n) = true) → exec (.tsBeaconRx n) s = .next (s.ends (s.dev))) ∧
  -- (6) TS_BEACON_LOSS after 4,000 bit times reverses it, counts and raises BEACON_LOSS.
  (∀ (s : State) (n : Fin 8), s.dev.portUp (16 + n) = true → s.dev.flag (F.TS_STAT_PLCA_ACTIVE n) = true
    → s.dev.flag (F.TS_STAT_COORD n) = false → (s.dev.port (16 + n)).beacon + 400000 ≤ s.dev.plat.aon →
    exec (.tsBeaconLoss n) s = .next (s.ends ((((s.dev.put (F.TS_STAT_PLCA_ACTIVE n) 0).put
    (F.TS_STAT_CSMA n) 1).count (16 + n) cBeaconLoss).raise (.ts n) 1))) ∧
  -- (7) Before that, or elsewhere, it does nothing.
  (∀ (s : State) (n : Fin 8), (s.dev.portUp (16 + n) = false ∨ s.dev.flag (F.TS_STAT_PLCA_ACTIVE n) =
    false ∨ s.dev.flag (F.TS_STAT_COORD n) = true ∨ s.dev.plat.aon < (s.dev.port (16 + n)).beacon +
    400000) → exec (.tsBeaconLoss n) s = .next (s.ends (s.dev))) ∧
  -- (8) TS_COLLISION stops the frame in transmission for a back-off of a free number of slots, below 2
  -- to the attempts made, at most 2^10; no register and no other port changes.
  (∀ (s : State) (n : Fin 8) (t : TxSt), (s.dev.port (16 + n)).tx = some t → t.waiting = false →
    (s.dev.port (16 + n)).attempts < 16 → ∃ d' : Dev, exec (.tsCollision n) s = .next (s.ends d') ∧
    (d'.port (16 + n)).tx = some { t with waiting := true } ∧ (d'.port (16 + n)).attempts = (s.dev.port
    (16 + n)).attempts + 1 ∧ s.dev.plat.aon ≤ (d'.port (16 + n)).backoff.getD 0 ∧ ((d'.port (16 +
    n)).backoff.getD 0 - s.dev.plat.aon) % 51200 = 0 ∧ ((d'.port (16 + n)).backoff.getD 0 -
    s.dev.plat.aon) / 51200 < 2 ^ min (s.dev.port (16 + n)).attempts 10 ∧ tget (d'.port (16 + n)).live
    cCollisions = satAdd 32 (tget (s.dev.port (16 + n)).live cCollisions) 1 ∧ (∀ k, k ≠ 16 + n.val →
    d'.port k = s.dev.port k) ∧ d'.regs = s.dev.regs) ∧
  -- (9) After 16 attempts it drops the frame.
  (∀ (s : State) (n : Fin 8) (t : TxSt), (s.dev.port (16 + n)).tx = some t → t.waiting = false → 16 ≤
    (s.dev.port (16 + n)).attempts → exec (.tsCollision n) s = .next (s.ends (((s.dev.count (16 + n)
    cCollisions).count (16 + n) cCollDrop).dropTx (16 + n) t))) ∧
  -- (10) With no frame on the segment it does nothing.
  (∀ (s : State) (n : Fin 8), (s.dev.port (16 + n)).tx.all (fun t => t.waiting) = true → exec
    (.tsCollision n) s = .next (s.ends (s.dev))) ∧
  -- (11) TS_BACKOFF_EXPIRE at its time on an idle segment lets it be retried, with a new stamp.
  (∀ (s : State) (n : Fin 8) (t : TxSt) (u : Nat), (s.dev.port (16 + n)).tx = some t → (s.dev.port (16 +
    n)).backoff = some u → t.waiting = true → u ≤ s.dev.plat.aon → s.dev.arriving (16 + n) = none → exec
    (.tsBackoffExpire n) s = .next (s.ends (s.dev.modPort (16 + n) (fun x => { x with
      tx := some { t with waiting := false, base := s.dev.txBaseStamp (16 + n) 0, stamp := s.dev.txStamp
                            (16 + n) 0, fix := (s.dev.frame? t.id).bind (fun g => s.dev.ptpFix g
                            (s.dev.txBaseStamp (16 + n) 0)), tb := s.dev.tbSel (16 + n) }, backoff :=
        none })))) ∧
  -- (12) Otherwise it does nothing.
  (∀ (s : State) (n : Fin 8), ((s.dev.port (16 + n)).tx.all (fun t => !t.waiting) = true ∨ (s.dev.port
    (16 + n)).backoff.all (fun u => decide (s.dev.plat.aon < u)) = true ∨ s.dev.arriving (16 + n) ≠
    none) → exec (.tsBackoffExpire n) s = .next (s.ends (s.dev)))

/-- The VLAN window and the window of the Limp image (R91, R180, R205, R207).
These rows are commands of the windows SW_VCMD and SW_LIMP_CMD; the write reaches the device d, GO reads
0. A refusal carries SW_CONFIG in the result and in the error capture and changes no entry. The image
has a staging copy and two copies, one of them active.
Log entries that say where the model chose on these rules: 9, 109, 123, 195, 213, 231, 282. -/
def Obligations.VlanAndLimpWindows : Prop :=
  -- (1) SW_VLAN_READ shows an entry.
  (∀ (s : State) (i : Init) (vid : Fin 4096) (d : Dev), s.dev.reaches i (R.SW_VCMD) = some d →
    d.lockedWrite (R.SW_VCMD) (cmdWord [(F.SW_VCMD_GO, 1), (F.SW_VCMD_OP, 0), (F.SW_VCMD_VID, vid)]) =
    false → d.flag F.SW_VCMD_GO = false → exec (.swVlanRead i vid) s = .next (s.ends ((((d.commanded
    (R.SW_VCMD) (cmdWord [(F.SW_VCMD_GO, 1), (F.SW_VCMD_OP, 0), (F.SW_VCMD_VID, vid)])
    F.SW_VCMD_GO).setWord R.SW_VDATA0 (BitVec.ofNat 32 (tget d.sw.vlan vid).w0)).setWord R.SW_VDATA1
    (BitVec.ofNat 32 (tget d.sw.vlan vid).w1)).put F.SW_VRESULT_CODE 0))) ∧
  -- (2) SW_VLAN_WRITE stores one for VID 1 to 4094.
  (∀ (s : State) (i : Init) (vid : Fin 4096) (d : Dev), s.dev.reaches i (R.SW_VCMD) = some d →
    d.lockedWrite (R.SW_VCMD) (cmdWord [(F.SW_VCMD_GO, 1), (F.SW_VCMD_OP, 1), (F.SW_VCMD_VID, vid)]) =
    false → d.flag F.SW_VCMD_GO = false → vid ≠ 0 → vid ≠ 4095 → exec (.swVlanWrite i vid) s = .next
    (s.ends (({ (d.commanded (R.SW_VCMD) (cmdWord [(F.SW_VCMD_GO, 1), (F.SW_VCMD_OP, 1), (F.SW_VCMD_VID,
    vid)]) F.SW_VCMD_GO) with sw := { d.sw with vlan := tset d.sw.vlan vid {
                                                  w0 := (d.word R.SW_VDATA0).toNat, w1 := (d.word
                                                    R.SW_VDATA1).toNat } } }).put F.SW_VRESULT_CODE 0)))
    ∧
  -- (3) It is refused for VID 0 and 4095.
  (∀ (s : State) (i : Init) (vid : Fin 4096) (d : Dev), s.dev.reaches i (R.SW_VCMD) = some d →
    d.lockedWrite (R.SW_VCMD) (cmdWord [(F.SW_VCMD_GO, 1), (F.SW_VCMD_OP, 1), (F.SW_VCMD_VID, vid)]) =
    false → d.flag F.SW_VCMD_GO = false → (vid = 0 ∨ vid = 4095) → exec (.swVlanWrite i vid) s = .next
    (s.ends (((d.commanded (R.SW_VCMD) (cmdWord [(F.SW_VCMD_GO, 1), (F.SW_VCMD_OP, 1), (F.SW_VCMD_VID,
    vid)]) F.SW_VCMD_GO).put F.SW_VRESULT_CODE 0x0118).recordErr (.sw 0) (initCode i) R.SW_VCMD
    0x0118))) ∧
  -- (4) LIMP_READ shows a record of the staging copy.
  (∀ (s : State) (i : Init) (ix : Fin 512) (d : Dev), s.dev.reaches i (R.SW_LIMP_CMD) = some d →
    d.lockedWrite (R.SW_LIMP_CMD) (cmdWord [(F.SW_LIMP_CMD_GO, 1), (F.SW_LIMP_CMD_OP, 0),
    (F.SW_LIMP_CMD_INDEX, ix)]) = false → d.flag F.SW_LIMP_CMD_GO = false → ix.val < 320 → exec
    (.limpRead i ix) s = .next (s.ends (((List.range 5).foldl (fun (a : Dev) w => a.put
    (F.SW_LIMP_DATA_DATA w) (tget d.sw.stage (5 * ix + w))) (d.commanded (R.SW_LIMP_CMD) (cmdWord
    [(F.SW_LIMP_CMD_GO, 1), (F.SW_LIMP_CMD_OP, 0), (F.SW_LIMP_CMD_INDEX, ix)]) F.SW_LIMP_CMD_GO)).put
    F.SW_LIMP_RESULT_CODE 0))) ∧
  -- (5) LIMP_WRITE stores one.
  (∀ (s : State) (i : Init) (ix : Fin 512) (d : Dev), s.dev.reaches i (R.SW_LIMP_CMD) = some d →
    d.lockedWrite (R.SW_LIMP_CMD) (cmdWord [(F.SW_LIMP_CMD_GO, 1), (F.SW_LIMP_CMD_OP, 1),
    (F.SW_LIMP_CMD_INDEX, ix)]) = false → d.flag F.SW_LIMP_CMD_GO = false → ix.val < 320 → exec
    (.limpWrite i ix) s = .next (s.ends (({ (d.commanded (R.SW_LIMP_CMD) (cmdWord [(F.SW_LIMP_CMD_GO,
    1), (F.SW_LIMP_CMD_OP, 1), (F.SW_LIMP_CMD_INDEX, ix)]) F.SW_LIMP_CMD_GO) with
      sw := { d.sw with stage := (List.range 5).foldl (fun t w => tset t (5 * ix + w) (d.get
                          (F.SW_LIMP_DATA_DATA w))) d.sw.stage } }).put F.SW_LIMP_RESULT_CODE 0))) ∧
  -- (6) Beyond record 319 both are refused.
  (∀ (s : State) (i : Init) (ix : Fin 512) (d : Dev), 320 ≤ ix.val → s.dev.reaches i (R.SW_LIMP_CMD) =
    some d → d.lockedWrite (R.SW_LIMP_CMD) (cmdWord [(F.SW_LIMP_CMD_GO, 1), (F.SW_LIMP_CMD_OP, 0),
    (F.SW_LIMP_CMD_INDEX, ix)]) = false→ d.lockedWrite R.SW_LIMP_CMD (cmdWord [(F.SW_LIMP_CMD_GO, 1),
    (F.SW_LIMP_CMD_OP, 1), (F.SW_LIMP_CMD_INDEX, ix)]) = false → d.flag F.SW_LIMP_CMD_GO = false → exec
    (.limpRead i ix) s = .next (s.ends (((d.commanded R.SW_LIMP_CMD (cmdWord [(F.SW_LIMP_CMD_GO, 1),
    (F.SW_LIMP_CMD_OP, 0), (F.SW_LIMP_CMD_INDEX, ix)]) F.SW_LIMP_CMD_GO).put F.SW_LIMP_RESULT_CODE
    0x0118).recordErr (.sw 4) (initCode i) R.SW_LIMP_CMD 0x0118)) ∧ exec (.limpWrite i ix) s = .next
    (s.ends (((d.commanded R.SW_LIMP_CMD (cmdWord [(F.SW_LIMP_CMD_GO, 1), (F.SW_LIMP_CMD_OP, 1),
    (F.SW_LIMP_CMD_INDEX, ix)]) F.SW_LIMP_CMD_GO).put F.SW_LIMP_RESULT_CODE 0x0118).recordErr (.sw 4)
    (initCode i) R.SW_LIMP_CMD 0x0118))) ∧
  -- (7) LIMP_COMMIT writes the staging copy and its CRC to the inactive copy, which becomes active, and
  -- counts GEN; the other copies stay.
  (∀ (s : State) (i : Init) (d : Dev) (c : LimpCopy), s.dev.reaches i (R.SW_LIMP_CMD) = some d →
    d.lockedWrite (R.SW_LIMP_CMD) (cmdWord [(F.SW_LIMP_CMD_GO, 1), (F.SW_LIMP_CMD_OP, 2)]) = false →
    d.flag F.SW_LIMP_CMD_GO = false → { words := d.sw.stage, crc := crc32c (limpBytes d.sw.stage) } = c
    → ∃ d' : Dev, exec (.limpCommit i) s = .next (s.ends d') ∧ d'.limpActive = some c ∧ d'.sw.active =
    (!d.sw.active) ∧ d'.sw.stage = d.sw.stage ∧ (if d.sw.active then d'.sw.copy1 = d.sw.copy1 else
    d'.sw.copy0 = d.sw.copy0) ∧ d'.sw.limpGen = (d.sw.limpGen + 1) % 2 ^ 16 ∧ d'.get
    F.SW_LIMP_RESULT_CODE = 0) ∧
  -- (8) While GO reads 1 such a command is ignored.
  (∀ (s : State) (i : Init) (vid : Fin 4096) (d : Dev), s.dev.reaches i (R.SW_VCMD) = some d →
    d.lockedWrite (R.SW_VCMD) (cmdWord [(F.SW_VCMD_GO, 1), (F.SW_VCMD_OP, 1), (F.SW_VCMD_VID, vid)]) =
    false → d.flag F.SW_VCMD_GO = true → exec (.swVlanWrite i vid) s = .next (s.ends (d)))

/-- What the commands of a lookup slice do (R91, R191, R192, R193, R194, R195, R207).
The write of LK_CMD in the window of slice k reaches the device d, GO reads 0 and no command holds both
windows. e is the entry that the window describes. SEARCH and NEXT act in slice k; the others in the
slice t that SLICES names, or in both.
Log entries that say where the model chose on these rules: 9, 33, 114, 282. -/
def Obligations.LookupWindow : Prop :=
  -- (1) LK_SEARCH shows the entry with the key and its index.
  (∀ (s : State) (i : Init) (k : Fin 2) (j : Nat) (e : LkEntry) (d : Dev), s.dev.reaches i (R.LK_CMD k)
    = some d → d.lockedWrite (R.LK_CMD k) (cmdWord [(F.LK_CMD_GO k, 1), (F.LK_CMD_OP k, 0)]) = false →
    d.flag (F.LK_CMD_GO k) = false → d.sw.lkHeld = none → d.lkWindowEntry k = e → d.lkFind k e.mac e.vid
    = some j → exec (.lkSearch i k) s = .next (s.ends ((((d.commanded (R.LK_CMD k) (cmdWord
    [(F.LK_CMD_GO k, 1), (F.LK_CMD_OP k, 0)]) (F.LK_CMD_GO k)).setWord (R.LK_RESULT k) 0).lkShow k
    j).put (lkResultFld k k) 0))) ∧
  -- (2) Without one the result is NOT_FOUND.
  (∀ (s : State) (i : Init) (k : Fin 2) (e : LkEntry) (d : Dev), s.dev.reaches i (R.LK_CMD k) = some d →
    d.lockedWrite (R.LK_CMD k) (cmdWord [(F.LK_CMD_GO k, 1), (F.LK_CMD_OP k, 0)]) = false → d.flag
    (F.LK_CMD_GO k) = false → d.sw.lkHeld = none → d.lkWindowEntry k = e → d.lkFind k e.mac e.vid = none
    → exec (.lkSearch i k) s = .next (s.ends (((d.commanded (R.LK_CMD k) (cmdWord [(F.LK_CMD_GO k, 1),
    (F.LK_CMD_OP k, 0)]) (F.LK_CMD_GO k)).setWord (R.LK_RESULT k) 0).put (lkResultFld k k) 0x011D))) ∧
  -- (3) LK_NEXT shows the first entry from the cursor on that matches, and the cursor moves behind it.
  (∀ (s : State) (i : Init) (k : Fin 2) (kind : Fin 4) (port : Fin 32) (x : Nat × LkEntry) (d : Dev),
    s.dev.reaches i (R.LK_CMD k) = some d → d.lockedWrite (R.LK_CMD k) (cmdWord [(F.LK_CMD_GO k, 1),
    (F.LK_CMD_OP k, 1), (F.LK_CMD_KIND k, kind), (F.LK_CMD_PORT k, port)]) = false → d.flag (F.LK_CMD_GO
    k) = false → d.sw.lkHeld = none → (d.lkSlice k).tab.find? (fun y => decide (d.get (F.LK_CURSOR_INDEX
    k) ≤ y.1) && lkMatches port kind y.2) = some x → exec (.lkNext i k kind port) s = .next (s.ends
    (((((d.commanded (R.LK_CMD k) (cmdWord [(F.LK_CMD_GO k, 1), (F.LK_CMD_OP k, 1), (F.LK_CMD_KIND k,
    kind), (F.LK_CMD_PORT k, port)]) (F.LK_CMD_GO k)).setWord (R.LK_RESULT k) 0).lkShow k x.1).put
    (F.LK_CURSOR_INDEX k) (x.1 + 1)).put (lkResultFld k k) 0))) ∧
  -- (4) Without one the result is NOT_FOUND, and the cursor is 0x20000.
  (∀ (s : State) (i : Init) (k : Fin 2) (kind : Fin 4) (port : Fin 32) (d : Dev), s.dev.reaches i
    (R.LK_CMD k) = some d → d.lockedWrite (R.LK_CMD k) (cmdWord [(F.LK_CMD_GO k, 1), (F.LK_CMD_OP k, 1),
    (F.LK_CMD_KIND k, kind), (F.LK_CMD_PORT k, port)]) = false → d.flag (F.LK_CMD_GO k) = false →
    d.sw.lkHeld = none → (d.lkSlice k).tab.find? (fun y => decide (d.get (F.LK_CURSOR_INDEX k) ≤ y.1) &&
    lkMatches port kind y.2) = none → exec (.lkNext i k kind port) s = .next (s.ends ((((d.commanded
    (R.LK_CMD k) (cmdWord [(F.LK_CMD_GO k, 1), (F.LK_CMD_OP k, 1), (F.LK_CMD_KIND k, kind),
    (F.LK_CMD_PORT k, port)]) (F.LK_CMD_GO k)).setWord (R.LK_RESULT k) 0).put (F.LK_CURSOR_INDEX k)
    0x20000).put (lkResultFld k k) 0x011D))) ∧
  -- (5) LK_INSERT of a new key puts it into the lowest free slot of its first bucket, or else of its
  -- second; no other entry of the slice, and no other slice, changes.
  (∀ (s : State) (i : Init) (k : Fin 2) (j : Nat) (slices : Fin 4) (t : Nat) (e : LkEntry) (d : Dev),
    s.dev.reaches i (R.LK_CMD k) = some d → d.lockedWrite (R.LK_CMD k) (cmdWord [(F.LK_CMD_GO k, 1),
    (F.LK_CMD_OP k, 2), (F.LK_CMD_SLICES k, slices)]) = false → d.flag (F.LK_CMD_GO k) = false →
    d.sw.lkHeld = none → (if slices = 0 then k.val = t else slices.val = 2 ^ t ∧ t < 2) →
    d.lkWindowEntry k = e → lkEntryOk e = true → d.lkFind t e.mac e.vid = none → (d.lkFree t (lkHash0
    e.mac e.vid) = some j ∨ (d.lkFree t (lkHash0 e.mac e.vid) = none ∧ d.lkFree t (lkHash1 e.mac e.vid)
    = some j)) → ∃ d' : Dev, exec (.lkInsert i k slices) s = .next (s.ends d') ∧ tget (d'.lkSlice t).tab
    j = e ∧ (∀ m, m ≠ j → tget (d'.lkSlice t).tab m = tget (d.lkSlice t).tab m) ∧ (∀ m, m ≠ t →
    d'.lkSlice m = d.lkSlice m) ∧ d'.get (lkResultFld k t) = 0 ∧ d'.get (F.LK_STAT_ENTRIES t) = (d.get
    (F.LK_STAT_ENTRIES t) + 1) % 2 ^ 18) ∧
  -- (6) One with a key of the slice replaces its entry.
  (∀ (s : State) (i : Init) (k : Fin 2) (j : Nat) (slices : Fin 4) (t : Nat) (e : LkEntry) (d : Dev),
    s.dev.reaches i (R.LK_CMD k) = some d → d.lockedWrite (R.LK_CMD k) (cmdWord [(F.LK_CMD_GO k, 1),
    (F.LK_CMD_OP k, 2), (F.LK_CMD_SLICES k, slices)]) = false → d.flag (F.LK_CMD_GO k) = false →
    d.sw.lkHeld = none → (if slices = 0 then k.val = t else slices.val = 2 ^ t ∧ t < 2) →
    d.lkWindowEntry k = e → lkEntryOk e = true → d.lkFind t e.mac e.vid = some j → exec (.lkInsert i k
    slices) s = .next (s.ends ((((d.commanded (R.LK_CMD k) (cmdWord [(F.LK_CMD_GO k, 1), (F.LK_CMD_OP k,
    2), (F.LK_CMD_SLICES k, slices)]) (F.LK_CMD_GO k)).setWord (R.LK_RESULT k) 0).lkSet t j { e with
      visited := (tget (d.lkSlice t).tab j).visited }).put (lkResultFld k t) 0))) ∧
  -- (7) Where both buckets are full, the moves of the path found make room.
  (∀ (s : State) (i : Init) (k : Fin 2) (path : List (Nat × Nat)) (x : Nat × Nat) (slices : Fin 4) (t :
    Nat) (e : LkEntry) (d : Dev), s.dev.reaches i (R.LK_CMD k) = some d → d.lockedWrite (R.LK_CMD k)
    (cmdWord [(F.LK_CMD_GO k, 1), (F.LK_CMD_OP k, 2), (F.LK_CMD_SLICES k, slices)]) = false → d.flag
    (F.LK_CMD_GO k) = false → d.sw.lkHeld = none → (if slices = 0 then k.val = t else slices.val = 2 ^ t
    ∧ t < 2) → d.lkWindowEntry k = e → lkEntryOk e = true → d.lkFind t e.mac e.vid = none → d.lkFree t
    (lkHash0 e.mac e.vid) = none → d.lkFree t (lkHash1 e.mac e.vid) = none → d.lkPath t 16 (lkHash0
    e.mac e.vid) [] = some path → path.getLast? = some x → exec (.lkInsert i k slices) s = .next (s.ends
    (((path.foldl (fun (a : Dev) m => a.lkMove t m) ((d.commanded (R.LK_CMD k) (cmdWord [(F.LK_CMD_GO k,
    1), (F.LK_CMD_OP k, 2), (F.LK_CMD_SLICES k, slices)]) (F.LK_CMD_GO k)).setWord (R.LK_RESULT k)
    0)).lkSet t x.1 e).put (lkResultFld k t) 0))) ∧
  -- (8) Without a path the result is TABLE_FULL and no entry changes.
  (∀ (s : State) (i : Init) (k : Fin 2) (slices : Fin 4) (t : Nat) (e : LkEntry) (d : Dev),
    s.dev.reaches i (R.LK_CMD k) = some d → d.lockedWrite (R.LK_CMD k) (cmdWord [(F.LK_CMD_GO k, 1),
    (F.LK_CMD_OP k, 2), (F.LK_CMD_SLICES k, slices)]) = false → d.flag (F.LK_CMD_GO k) = false →
    d.sw.lkHeld = none → (if slices = 0 then k.val = t else slices.val = 2 ^ t ∧ t < 2) →
    d.lkWindowEntry k = e → lkEntryOk e = true → d.lkFind t e.mac e.vid = none → d.lkFree t (lkHash0
    e.mac e.vid) = none → d.lkFree t (lkHash1 e.mac e.vid) = none → d.lkPath t 16 (lkHash0 e.mac e.vid)
    [] = none → exec (.lkInsert i k slices) s = .next (s.ends (((d.commanded (R.LK_CMD k) (cmdWord
    [(F.LK_CMD_GO k, 1), (F.LK_CMD_OP k, 2), (F.LK_CMD_SLICES k, slices)]) (F.LK_CMD_GO k)).setWord
    (R.LK_RESULT k) 0).put (lkResultFld k t) 0x011C))) ∧
  -- (9) An entry that R192 forbids is refused with LK_INVALID.
  (∀ (s : State) (i : Init) (k : Fin 2) (slices : Fin 4) (t : Nat) (e : LkEntry) (d : Dev),
    s.dev.reaches i (R.LK_CMD k) = some d → d.lockedWrite (R.LK_CMD k) (cmdWord [(F.LK_CMD_GO k, 1),
    (F.LK_CMD_OP k, 2), (F.LK_CMD_SLICES k, slices)]) = false → d.flag (F.LK_CMD_GO k) = false →
    d.sw.lkHeld = none → (if slices = 0 then k.val = t else slices.val = 2 ^ t ∧ t < 2) →
    d.lkWindowEntry k = e → lkEntryOk e = false → exec (.lkInsert i k slices) s = .next (s.ends
    ((((d.commanded (R.LK_CMD k) (cmdWord [(F.LK_CMD_GO k, 1), (F.LK_CMD_OP k, 2), (F.LK_CMD_SLICES k,
    slices)]) (F.LK_CMD_GO k)).setWord (R.LK_RESULT k) 0).put (lkResultFld k t) 0x0119).recordErr (.lk k
    1) (initCode i) (R.LK_CMD k) 0x0119))) ∧
  -- (10) LK_DELETE removes the entry with the key, or results in NOT_FOUND.
  (∀ (s : State) (i : Init) (k : Fin 2) (slices : Fin 4) (t : Nat) (e : LkEntry) (d : Dev),
    s.dev.reaches i (R.LK_CMD k) = some d → d.lockedWrite (R.LK_CMD k) (cmdWord [(F.LK_CMD_GO k, 1),
    (F.LK_CMD_OP k, 3), (F.LK_CMD_SLICES k, slices)]) = false → d.flag (F.LK_CMD_GO k) = false →
    d.sw.lkHeld = none → (if slices = 0 then k.val = t else slices.val = 2 ^ t ∧ t < 2) →
    d.lkWindowEntry k = e → exec (.lkDelete i k slices) s = .next (s.ends ((d.lkFind t e.mac e.vid).elim
    (((d.commanded (R.LK_CMD k) (cmdWord [(F.LK_CMD_GO k, 1), (F.LK_CMD_OP k, 3), (F.LK_CMD_SLICES k,
    slices)]) (F.LK_CMD_GO k)).setWord (R.LK_RESULT k) 0).put (lkResultFld k t) 0x011D) (fun j =>
    (((d.commanded (R.LK_CMD k) (cmdWord [(F.LK_CMD_GO k, 1), (F.LK_CMD_OP k, 3), (F.LK_CMD_SLICES k,
    slices)]) (F.LK_CMD_GO k)).setWord (R.LK_RESULT k) 0).lkSet t j default).put (lkResultFld k t) 0))))
    ∧
  -- (11) LK_FLUSH_PORT removes the entries of a port of a KIND.
  (∀ (s : State) (i : Init) (k : Fin 2) (slices kind : Fin 4) (port : Fin 32) (t : Nat) (d : Dev),
    s.dev.reaches i (R.LK_CMD k) = some d → d.lockedWrite (R.LK_CMD k) (cmdWord [(F.LK_CMD_GO k, 1),
    (F.LK_CMD_OP k, 4), (F.LK_CMD_SLICES k, slices), (F.LK_CMD_KIND k, kind), (F.LK_CMD_PORT k, port)])
    = false → d.flag (F.LK_CMD_GO k) = false → d.sw.lkHeld = none → (if slices = 0 then k.val = t else
    slices.val = 2 ^ t ∧ t < 2) → kind ≠ 0 → exec (.lkFlushPort i k slices kind port) s = .next (s.ends
    ((((d.commanded (R.LK_CMD k) (cmdWord [(F.LK_CMD_GO k, 1), (F.LK_CMD_OP k, 4), (F.LK_CMD_SLICES k,
    slices), (F.LK_CMD_KIND k, kind), (F.LK_CMD_PORT k, port)]) (F.LK_CMD_GO k)).setWord (R.LK_RESULT k)
    0).lkFlush t port kind).put (lkResultFld k t) 0))) ∧
  -- (12) KIND 0 is refused.
  (∀ (s : State) (i : Init) (k : Fin 2) (slices kind : Fin 4) (port : Fin 32) (t : Nat) (d : Dev),
    s.dev.reaches i (R.LK_CMD k) = some d → d.lockedWrite (R.LK_CMD k) (cmdWord [(F.LK_CMD_GO k, 1),
    (F.LK_CMD_OP k, 4), (F.LK_CMD_SLICES k, slices), (F.LK_CMD_KIND k, kind), (F.LK_CMD_PORT k, port)])
    = false → d.flag (F.LK_CMD_GO k) = false → d.sw.lkHeld = none → (if slices = 0 then k.val = t else
    slices.val = 2 ^ t ∧ t < 2) → kind = 0 → exec (.lkFlushPort i k slices kind port) s = .next (s.ends
    ((((d.commanded (R.LK_CMD k) (cmdWord [(F.LK_CMD_GO k, 1), (F.LK_CMD_OP k, 4), (F.LK_CMD_SLICES k,
    slices), (F.LK_CMD_KIND k, kind), (F.LK_CMD_PORT k, port)]) (F.LK_CMD_GO k)).setWord (R.LK_RESULT k)
    0).put (lkResultFld k t) 0x0119).recordErr (.lk k 1) (initCode i) (R.LK_CMD k) 0x0119))) ∧
  -- (13) With both slices named a command acts in slice 0, then in slice 1, and holds both windows, GO
  -- 1, until it completes: LK_FLUSH_PORT.
  (∀ (s : State) (i : Init) (k : Fin 2) (slices kind : Fin 4) (port : Fin 32) (d : Dev), s.dev.reaches i
    (R.LK_CMD k) = some d → d.lockedWrite (R.LK_CMD k) (cmdWord [(F.LK_CMD_GO k, 1), (F.LK_CMD_OP k, 4),
    (F.LK_CMD_SLICES k, slices), (F.LK_CMD_KIND k, kind), (F.LK_CMD_PORT k, port)]) = false → d.flag
    (F.LK_CMD_GO k) = false → d.sw.lkHeld = none → slices = 3 → kind ≠ 0 → exec (.lkFlushPort i k slices
    kind port) s = .next (s.ends ((((((((d.commanded (R.LK_CMD k) (cmdWord [(F.LK_CMD_GO k, 1),
    (F.LK_CMD_OP k, 4), (F.LK_CMD_SLICES k, slices), (F.LK_CMD_KIND k, kind), (F.LK_CMD_PORT k, port)])
    (F.LK_CMD_GO k)).setWord (R.LK_RESULT k) 0).lkFlush 0 port kind).put (lkResultFld k 0) 0).lkFlush 1
    port kind).put (lkResultFld k 1) 0).put (F.LK_CMD_GO k) 1).lkHold k))) ∧
  -- (14) LK_INSERT.
  (∀ (s : State) (i : Init) (k : Fin 2) (slices : Fin 4) (e : LkEntry) (d x y : Dev) (p q : Bool),
    s.dev.reaches i (R.LK_CMD k) = some d → d.lockedWrite (R.LK_CMD k) (cmdWord [(F.LK_CMD_GO k, 1),
    (F.LK_CMD_OP k, 2), (F.LK_CMD_SLICES k, slices)]) = false → d.flag (F.LK_CMD_GO k) = false →
    d.sw.lkHeld = none → slices = 3 → d.lkWindowEntry k = e → lkEntryOk e = true → ((d.commanded
    (R.LK_CMD k) (cmdWord [(F.LK_CMD_GO k, 1), (F.LK_CMD_OP k, 2), (F.LK_CMD_SLICES k, slices)])
    (F.LK_CMD_GO k)).setWord (R.LK_RESULT k) 0).lkInsert 0 e = (x, p) → (x.put (lkResultFld k 0) (if p
    then 0 else 0x011C)).lkInsert 1 e = (y, q) → exec (.lkInsert i k slices) s = .next (s.ends (((y.put
    (lkResultFld k 1) (if q then 0 else 0x011C)).put (F.LK_CMD_GO k) 1).lkHold k))) ∧
  -- (15) LK_DELETE.
  (∀ (s : State) (i : Init) (k : Fin 2) (slices : Fin 4) (e : LkEntry) (a b : Option Nat) (d : Dev),
    s.dev.reaches i (R.LK_CMD k) = some d → d.lockedWrite (R.LK_CMD k) (cmdWord [(F.LK_CMD_GO k, 1),
    (F.LK_CMD_OP k, 3), (F.LK_CMD_SLICES k, slices)]) = false → d.flag (F.LK_CMD_GO k) = false →
    d.sw.lkHeld = none → slices = 3 → d.lkWindowEntry k = e → d.lkFind 0 e.mac e.vid = a → d.lkFind 1
    e.mac e.vid = b → exec (.lkDelete i k slices) s = .next (s.ends ((((b.elim ((a.elim ((d.commanded
    (R.LK_CMD k) (cmdWord [(F.LK_CMD_GO k, 1), (F.LK_CMD_OP k, 3), (F.LK_CMD_SLICES k, slices)])
    (F.LK_CMD_GO k)).setWord (R.LK_RESULT k) 0) (fun j => ((d.commanded (R.LK_CMD k) (cmdWord
    [(F.LK_CMD_GO k, 1), (F.LK_CMD_OP k, 3), (F.LK_CMD_SLICES k, slices)]) (F.LK_CMD_GO k)).setWord
    (R.LK_RESULT k) 0).lkSet 0 j default)).put (lkResultFld k 0) (if a.isSome then 0 else 0x011D)) (fun
    j => ((a.elim ((d.commanded (R.LK_CMD k) (cmdWord [(F.LK_CMD_GO k, 1), (F.LK_CMD_OP k, 3),
    (F.LK_CMD_SLICES k, slices)]) (F.LK_CMD_GO k)).setWord (R.LK_RESULT k) 0) (fun j => ((d.commanded
    (R.LK_CMD k) (cmdWord [(F.LK_CMD_GO k, 1), (F.LK_CMD_OP k, 3), (F.LK_CMD_SLICES k, slices)])
    (F.LK_CMD_GO k)).setWord (R.LK_RESULT k) 0).lkSet 0 j default)).put (lkResultFld k 0) (if a.isSome
    then 0 else 0x011D)).lkSet 1 j default)).put (lkResultFld k 1) (if b.isSome then 0 else 0x011D)).put
    (F.LK_CMD_GO k) 1).lkHold k))) ∧
  -- (16) While a command holds both windows each of them is refused with LK_BUSY in the other window.
  (∀ (s : State) (i : Init) (k : Fin 2) (slices kind : Fin 4) (port : Fin 32) (d : Dev), s.dev.reaches i
    (R.LK_CMD k) = some d → d.lockedWrite (R.LK_CMD k) (cmdWord [(F.LK_CMD_GO k, 1), (F.LK_CMD_OP k,
    0)]) = false → d.lockedWrite (R.LK_CMD k) (cmdWord [(F.LK_CMD_GO k, 1), (F.LK_CMD_OP k, 1),
    (F.LK_CMD_KIND k, kind), (F.LK_CMD_PORT k, port)]) = false → d.lockedWrite (R.LK_CMD k) (cmdWord
    [(F.LK_CMD_GO k, 1), (F.LK_CMD_OP k, 2), (F.LK_CMD_SLICES k, slices)]) = false → d.lockedWrite
    (R.LK_CMD k) (cmdWord [(F.LK_CMD_GO k, 1), (F.LK_CMD_OP k, 3), (F.LK_CMD_SLICES k, slices)]) = false
    → d.lockedWrite (R.LK_CMD k) (cmdWord [(F.LK_CMD_GO k, 1), (F.LK_CMD_OP k, 4), (F.LK_CMD_SLICES k,
    slices), (F.LK_CMD_KIND k, kind), (F.LK_CMD_PORT k, port)]) = false → d.sw.lkHeld ≠ none → d.flag
    (F.LK_CMD_GO k) = false → exec (.lkSearch i k) s = .next (s.ends (d.failWrite i (R.LK_CMD k)
    (cmdWord [(F.LK_CMD_GO k, 1), (F.LK_CMD_OP k, 0)]) 0x011A)) ∧ exec (.lkNext i k kind port) s = .next
    (s.ends (d.failWrite i (R.LK_CMD k) (cmdWord [(F.LK_CMD_GO k, 1), (F.LK_CMD_OP k, 1), (F.LK_CMD_KIND
    k, kind), (F.LK_CMD_PORT k, port)]) 0x011A)) ∧ exec (.lkInsert i k slices) s = .next (s.ends
    (d.failWrite i (R.LK_CMD k) (cmdWord [(F.LK_CMD_GO k, 1), (F.LK_CMD_OP k, 2), (F.LK_CMD_SLICES k,
    slices)]) 0x011A)) ∧ exec (.lkDelete i k slices) s = .next (s.ends (d.failWrite i (R.LK_CMD k)
    (cmdWord [(F.LK_CMD_GO k, 1), (F.LK_CMD_OP k, 3), (F.LK_CMD_SLICES k, slices)]) 0x011A)) ∧ exec
    (.lkFlushPort i k slices kind port) s = .next (s.ends (d.failWrite i (R.LK_CMD k) (cmdWord
    [(F.LK_CMD_GO k, 1), (F.LK_CMD_OP k, 4), (F.LK_CMD_SLICES k, slices), (F.LK_CMD_KIND k, kind),
    (F.LK_CMD_PORT k, port)]) 0x011A))) ∧
  -- (17) In a window whose GO reads 1 it is ignored.
  (∀ (s : State) (i : Init) (k : Fin 2) (slices kind : Fin 4) (port : Fin 32) (d : Dev), s.dev.reaches i
    (R.LK_CMD k) = some d → d.lockedWrite (R.LK_CMD k) (cmdWord [(F.LK_CMD_GO k, 1), (F.LK_CMD_OP k,
    0)]) = false → d.lockedWrite (R.LK_CMD k) (cmdWord [(F.LK_CMD_GO k, 1), (F.LK_CMD_OP k, 1),
    (F.LK_CMD_KIND k, kind), (F.LK_CMD_PORT k, port)]) = false → d.lockedWrite (R.LK_CMD k) (cmdWord
    [(F.LK_CMD_GO k, 1), (F.LK_CMD_OP k, 2), (F.LK_CMD_SLICES k, slices)]) = false → d.lockedWrite
    (R.LK_CMD k) (cmdWord [(F.LK_CMD_GO k, 1), (F.LK_CMD_OP k, 3), (F.LK_CMD_SLICES k, slices)]) = false
    → d.lockedWrite (R.LK_CMD k) (cmdWord [(F.LK_CMD_GO k, 1), (F.LK_CMD_OP k, 4), (F.LK_CMD_SLICES k,
    slices), (F.LK_CMD_KIND k, kind), (F.LK_CMD_PORT k, port)]) = false → d.flag (F.LK_CMD_GO k) = true
    → exec (.lkSearch i k) s = .next (s.ends (d)) ∧ exec (.lkNext i k kind port) s = .next (s.ends (d))
    ∧ exec (.lkInsert i k slices) s = .next (s.ends (d)) ∧ exec (.lkDelete i k slices) s = .next (s.ends
    (d)) ∧ exec (.lkFlushPort i k slices kind port) s = .next (s.ends (d)))

/-- The learning queue, aging, the flush after a link went down, and the stream filter window (R138, R194,
R197, R199, R203, R204, R207).
LQ_CMD of LEARNQ k reaches the device d. AGE_SWEEP_VISIT acts on a dynamic home entry e of an enabled
slice with AGE_EN whose last visit lies AGE_PERIOD_S back, and notes the visit.
Log entries that say where the model chose on these rules: 33, 45, 48, 115, 116, 230. -/
def Obligations.LearningAndFilters : Prop :=
  -- (1) By the owner LQ_ADVANCE moves RPOS up to FILL.
  (∀ (s : State) (i : Init) (k : Fin 2) (d : Dev), s.dev.reaches i (R.LQ_CMD k) = some d → d.lockedWrite
    (R.LQ_CMD k) (cmdWord [(F.LQ_CMD_OP k, 1)]) = false → ownerIs (d.get (F.LQ_CFG_OWNER k)) i = true →
    exec (.lqAdvance i k) s = .next (s.ends (if d.get (F.LQ_STAT_RPOS k) < d.get (F.LQ_STAT_FILL k) then
    d.put (F.LQ_STAT_RPOS k) (d.get (F.LQ_STAT_RPOS k) + 1) else d))) ∧
  -- (2) LQ_MARK marks it.
  (∀ (s : State) (i : Init) (k : Fin 2) (d : Dev), s.dev.reaches i (R.LQ_CMD k) = some d → d.lockedWrite
    (R.LQ_CMD k) (cmdWord [(F.LQ_CMD_OP k, 2)]) = false → ownerIs (d.get (F.LQ_CFG_OWNER k)) i = true →
    exec (.lqMark i k) s = .next (s.ends ((d.put (F.LQ_STAT_MARK k) (d.get (F.LQ_STAT_RPOS k))).put
    (F.LQ_STAT_MARK_VALID k) 1))) ∧
  -- (3) LQ_REWIND returns to the mark, and is refused with LK_INVALID without one.
  (∀ (s : State) (i : Init) (k : Fin 2) (d : Dev), s.dev.reaches i (R.LQ_CMD k) = some d → d.lockedWrite
    (R.LQ_CMD k) (cmdWord [(F.LQ_CMD_OP k, 3)]) = false → ownerIs (d.get (F.LQ_CFG_OWNER k)) i = true →
    exec (.lqRewind i k) s = .next (s.ends (if d.flag (F.LQ_STAT_MARK_VALID k) then d.put
    (F.LQ_STAT_RPOS k) (d.get (F.LQ_STAT_MARK k)) else d.failWrite i (R.LQ_CMD k) (cmdWord [(F.LQ_CMD_OP
    k, 3)]) 0x0119))) ∧
  -- (4) LQ_RELEASE frees COUNT notices; RPOS, FILL and the mark shift down; the other queue, both tables
  -- and every other register stay.
  (∀ (s : State) (i : Init) (k : Fin 2) (count : Fin 64) (d : Dev), s.dev.reaches i (R.LQ_CMD k) = some
    d → d.lockedWrite (R.LQ_CMD k) (cmdWord [(F.LQ_CMD_OP k, 4), (F.LQ_CMD_COUNT k, count)]) = false →
    ownerIs (d.get (F.LQ_CFG_OWNER k)) i = true → count ≠ 0 → count ≤ 32 → count ≤ d.get (F.LQ_STAT_RPOS
    k) → ∃ d' : Dev, exec (.lqRelease i k count) s = .next (s.ends d') ∧ tget d'.learnq k = (tget
    d.learnq k).drop count ∧ d'.get (F.LQ_STAT_RPOS k) = d.get (F.LQ_STAT_RPOS k) - count ∧ d'.get
    (F.LQ_STAT_FILL k) = d.get (F.LQ_STAT_FILL k) - count ∧ d'.flag (F.LQ_STAT_MARK_VALID k) = (d.flag
    (F.LQ_STAT_MARK_VALID k) && decide (count ≤ d.get (F.LQ_STAT_MARK k))) ∧ (d.flag
    (F.LQ_STAT_MARK_VALID k) = true → d'.get (F.LQ_STAT_MARK k) = d.get (F.LQ_STAT_MARK k) - count) ∧
    d'.lk = d.lk ∧ (∀ m, m ≠ k.val → tget d'.learnq m = tget d.learnq m) ∧ ∀ a, a ≠ R.LQ_STAT k →
    d'.word a = d.word a) ∧
  -- (5) It is refused with LK_INVALID where COUNT is 0, above 32 or above RPOS.
  (∀ (s : State) (i : Init) (k : Fin 2) (count : Fin 64) (d : Dev), s.dev.reaches i (R.LQ_CMD k) = some
    d → d.lockedWrite (R.LQ_CMD k) (cmdWord [(F.LQ_CMD_OP k, 4), (F.LQ_CMD_COUNT k, count)]) = false →
    ownerIs (d.get (F.LQ_CFG_OWNER k)) i = true → (count = 0 ∨ 32 < count.val ∨ d.get (F.LQ_STAT_RPOS k)
    < count) → exec (.lqRelease i k count) s = .next (s.ends (d.failWrite i (R.LQ_CMD k) (cmdWord
    [(F.LQ_CMD_OP k, 4), (F.LQ_CMD_COUNT k, count)]) 0x0119))) ∧
  -- (6) Another initiator is refused with LEARNQ_OWNER.
  (∀ (s : State) (i : Init) (k : Fin 2) (count : Fin 64) (d : Dev), s.dev.reaches i (R.LQ_CMD k) = some
    d → d.lockedWrite (R.LQ_CMD k) (cmdWord [(F.LQ_CMD_OP k, 1)]) = false → d.lockedWrite (R.LQ_CMD k)
    (cmdWord [(F.LQ_CMD_OP k, 2)]) = false → d.lockedWrite (R.LQ_CMD k) (cmdWord [(F.LQ_CMD_OP k, 3)]) =
    false → d.lockedWrite (R.LQ_CMD k) (cmdWord [(F.LQ_CMD_OP k, 4), (F.LQ_CMD_COUNT k, count)]) = false
    → ownerIs (d.get (F.LQ_CFG_OWNER k)) i = false → exec (.lqAdvance i k) s = .next (s.ends
    (d.failWrite i (R.LQ_CMD k) (cmdWord [(F.LQ_CMD_OP k, 1)]) 0x011B)) ∧ exec (.lqMark i k) s = .next
    (s.ends (d.failWrite i (R.LQ_CMD k) (cmdWord [(F.LQ_CMD_OP k, 2)]) 0x011B)) ∧ exec (.lqRewind i k) s
    = .next (s.ends (d.failWrite i (R.LQ_CMD k) (cmdWord [(F.LQ_CMD_OP k, 3)]) 0x011B)) ∧ exec
    (.lqRelease i k count) s = .next (s.ends (d.failWrite i (R.LQ_CMD k) (cmdWord [(F.LQ_CMD_OP k, 4),
    (F.LQ_CMD_COUNT k, count)]) 0x011B))) ∧
  -- (7) AGE_SWEEP_VISIT clears HIT and AGED of an entry that was hit before this clock; a source hit in
  -- the same clock leaves HIT.
  (∀ (s : State) (k : Fin 2) (ix : Fin 0x20000) (e : LkEntry), s.dev.enabled (.lk k 0) = true →
    s.dev.flag (F.LK_CFG_AGE_EN k) = true → tget (s.dev.lkSlice k).tab ix = e → lkDynamic e = true →
    lkRemote k e = false → s.dev.ageDue k e = true → e.hit = true → exec (.ageSweepVisit k ix) s = .next
    (s.ends (s.dev.lkSet k ix { e with hit := e.hitAt == some s.dev.plat.aon, aged := false, visited :=
                                         some s.dev.plat.aon }))) ∧
  -- (8) It marks an unused one AGED.
  (∀ (s : State) (k : Fin 2) (ix : Fin 0x20000) (e : LkEntry), s.dev.enabled (.lk k 0) = true →
    s.dev.flag (F.LK_CFG_AGE_EN k) = true → tget (s.dev.lkSlice k).tab ix = e → lkDynamic e = true →
    lkRemote k e = false → s.dev.ageDue k e = true → e.hit = false → e.aged = false → exec
    (.ageSweepVisit k ix) s = .next (s.ends (s.dev.lkSet k ix { e with
      aged := true, visited := some s.dev.plat.aon }))) ∧
  -- (9) It removes an aged one once its notice is queued, counted in AGED.
  (∀ (s : State) (k : Fin 2) (ix : Fin 0x20000) (e : LkEntry) (d1 : Dev), s.dev.enabled (.lk k 0) = true
    → s.dev.flag (F.LK_CFG_AGE_EN k) = true → tget (s.dev.lkSlice k).tab ix = e → lkDynamic e = true →
    lkRemote k e = false → s.dev.ageDue k e = true → e.hit = false → e.aged = true → s.dev.lkNotice k 3
    e.mac e.vid e.srcPort 0 (s.dev.baseNs % 2 ^ 32) = (d1, true) → exec (.ageSweepVisit k ix) s = .next
    (s.ends ((d1.lkSet k ix default).bump (F.LK_AGED_COUNT k)))) ∧
  -- (10) Without room for the notice it is kept and counted in AGE_DEFER.
  (∀ (s : State) (k : Fin 2) (ix : Fin 0x20000) (e : LkEntry) (d1 : Dev), s.dev.enabled (.lk k 0) = true
    → s.dev.flag (F.LK_CFG_AGE_EN k) = true → tget (s.dev.lkSlice k).tab ix = e → lkDynamic e = true →
    lkRemote k e = false → s.dev.ageDue k e = true → e.hit = false → e.aged = true → s.dev.lkNotice k 3
    e.mac e.vid e.srcPort 0 (s.dev.baseNs % 2 ^ 32) = (d1, false) → exec (.ageSweepVisit k ix) s = .next
    (s.ends ((d1.lkSet k ix { e with visited := some s.dev.plat.aon }).bump (F.LK_AGE_DEFER_COUNT k))))
    ∧
  -- (11) Of any other entry, or before its time, it does nothing.
  (∀ (s : State) (k : Fin 2) (ix : Fin 0x20000), (s.dev.enabled (.lk k 0) = false ∨ s.dev.flag
    (F.LK_CFG_AGE_EN k) = false ∨ lkDynamic (tget (s.dev.lkSlice k).tab ix) = false ∨ lkRemote k (tget
    (s.dev.lkSlice k).tab ix) = true ∨ s.dev.ageDue k (tget (s.dev.lkSlice k).tab ix) = false) → exec
    (.ageSweepVisit k ix) s = .next (s.ends (s.dev))) ∧
  -- (12) LINKDOWN_FLUSH of a port that asks for it removes its dynamic entries from both slices, as a
  -- command that holds both windows.
  (∀ (s : State) (p : Fin 24), p.val ∈ s.dev.sw.flush → s.dev.sw.lkHeld = none → exec (.linkdownFlush p)
    s = .next (s.ends (((({ s.dev with sw := { s.dev.sw with
                                         flush := s.dev.sw.flush.filter (· != p.val) } } : Dev).lkFlush
    0 p 1).lkFlush 1 p 1).lkHold (portSlice p)))) ∧
  -- (13) Otherwise it does nothing.
  (∀ (s : State) (p : Fin 24), (p.val ∉ s.dev.sw.flush ∨ s.dev.sw.lkHeld ≠ none) → exec (.linkdownFlush
    p) s = .next (s.ends (s.dev))) ∧
  -- (14) SF_READ shows a stream filter.
  (∀ (s : State) (i : Init) (k : Fin 2) (ix : Fin 8192) (d : Dev), s.dev.reaches i (R.SF_CMD k) = some d
    → d.lockedWrite (R.SF_CMD k) (cmdWord [(F.SF_CMD_GO k, 1), (F.SF_CMD_OP k, 0), (F.SF_CMD_INDEX k,
    ix)]) = false → d.flag (F.SF_CMD_GO k) = false → ix ≠ 0 → exec (.sfRead i k ix) s = .next (s.ends
    (((List.range 8).foldl (fun (a : Dev) w => a.put (F.SF_DATA_DATA k w) (sfWord (d.filter k ix) w))
    (d.commanded (R.SF_CMD k) (cmdWord [(F.SF_CMD_GO k, 1), (F.SF_CMD_OP k, 0), (F.SF_CMD_INDEX k, ix)])
    (F.SF_CMD_GO k))).put (F.SF_RESULT_CODE k) 0))) ∧
  -- (15) SF_WRITE replaces its two configuration words, BLOCKED cleared, and keeps its counters.
  (∀ (s : State) (i : Init) (k : Fin 2) (ix : Fin 8192) (d : Dev), s.dev.reaches i (R.SF_CMD k) = some d
    → d.lockedWrite (R.SF_CMD k) (cmdWord [(F.SF_CMD_GO k, 1), (F.SF_CMD_OP k, 1), (F.SF_CMD_INDEX k,
    ix)]) = false → d.flag (F.SF_CMD_GO k) = false → ix ≠ 0 → exec (.sfWrite i k ix) s = .next (s.ends
    (((d.commanded (R.SF_CMD k) (cmdWord [(F.SF_CMD_GO k, 1), (F.SF_CMD_OP k, 1), (F.SF_CMD_INDEX k,
    ix)]) (F.SF_CMD_GO k)).setFilter k ix { d.filter k ix with
      w0 := bitsOf (d.get (F.SF_DATA_DATA k 0)) 29 3 * 2 ^ 29 + bitsOf (d.get (F.SF_DATA_DATA k 0)) 27 1
        * 2 ^ 27 + bitsOf (d.get (F.SF_DATA_DATA k 0)) 0 13, w1 := bitsOf (d.get (F.SF_DATA_DATA k 1)) 0
        14 }).put (F.SF_RESULT_CODE k) 0))) ∧
  -- (16) Index 0 is refused for both.
  (∀ (s : State) (i : Init) (k : Fin 2) (ix : Fin 8192) (d : Dev), ix = 0 → s.dev.reaches i (R.SF_CMD k)
    = some d → d.lockedWrite (R.SF_CMD k) (cmdWord [(F.SF_CMD_GO k, 1), (F.SF_CMD_OP k, 1),
    (F.SF_CMD_INDEX k, ix)]) = false → d.flag (F.SF_CMD_GO k) = false → d.lockedWrite (R.SF_CMD k)
    (cmdWord [(F.SF_CMD_GO k, 1), (F.SF_CMD_OP k, 0), (F.SF_CMD_INDEX k, ix)]) = false → exec (.sfWrite
    i k ix) s = .next (s.ends (((d.commanded (R.SF_CMD k) (cmdWord [(F.SF_CMD_GO k, 1), (F.SF_CMD_OP k,
    1), (F.SF_CMD_INDEX k, ix)]) (F.SF_CMD_GO k)).put (F.SF_RESULT_CODE k) 0x0119).recordErr (.lk k 3)
    (initCode i) (R.SF_CMD k) 0x0119)) ∧ exec (.sfRead i k ix) s = .next (s.ends (((d.commanded
    (R.SF_CMD k) (cmdWord [(F.SF_CMD_GO k, 1), (F.SF_CMD_OP k, 0), (F.SF_CMD_INDEX k, ix)]) (F.SF_CMD_GO
    k)).put (F.SF_RESULT_CODE k) 0x0119).recordErr (.lk k 3) (initCode i) (R.SF_CMD k) 0x0119)))

/-- Flow meters, gate lists and histograms (R91, R212, R213, R217, R218, R219, R220).
The writes reach the device d; the GO bits read 0. A refusal of a window carries TM_CONFIG. TM_GCL_CTRL
is written with one of COMMIT, ABORT and STOP set and its DOMAIN as it is.
Log entries that say where the model chose on these rules: 9, 21, 34, 117, 118, 196, 282. -/
def Obligations.TrafficManagerCommands : Prop :=
  -- (1) FM_READ shows a flow meter.
  (∀ (s : State) (i : Init) (ix : Fin 8192) (d : Dev), s.dev.reaches i (R.TM_FM_CMD) = some d →
    d.lockedWrite (R.TM_FM_CMD) (cmdWord [(F.TM_FM_CMD_GO, 1), (F.TM_FM_CMD_OP, 0), (F.TM_FM_CMD_INDEX,
    ix)]) = false → d.flag F.TM_FM_CMD_GO = false → exec (.fmRead i ix) s = .next (s.ends (((List.range
    8).foldl (fun (a : Dev) w => a.put (F.TM_FM_DATA_DATA w) (fmWord (d.fm ix) w)) (d.commanded
    (R.TM_FM_CMD) (cmdWord [(F.TM_FM_CMD_GO, 1), (F.TM_FM_CMD_OP, 0), (F.TM_FM_CMD_INDEX, ix)])
    F.TM_FM_CMD_GO)).put F.TM_FM_RESULT_CODE 0))) ∧
  -- (2) FM_WRITE that enables one fills its buckets and clears its counters.
  (∀ (s : State) (i : Init) (ix : Fin 8192) (d : Dev), s.dev.reaches i (R.TM_FM_CMD) = some d →
    d.lockedWrite (R.TM_FM_CMD) (cmdWord [(F.TM_FM_CMD_GO, 1), (F.TM_FM_CMD_OP, 1), (F.TM_FM_CMD_INDEX,
    ix)]) = false → d.flag F.TM_FM_CMD_GO = false → bitsOf (d.get (F.TM_FM_DATA_DATA 1)) 0 28 ≤ 50000000
    → bitsOf (d.get (F.TM_FM_DATA_DATA 3)) 0 28 ≤ 50000000 → bitOf (d.get (F.TM_FM_DATA_DATA 0)) 31 =
    true → bitOf (d.fm ix).w0 31 = false → exec (.fmWrite i ix) s = .next (s.ends (((d.commanded
    (R.TM_FM_CMD) (cmdWord [(F.TM_FM_CMD_GO, 1), (F.TM_FM_CMD_OP, 1), (F.TM_FM_CMD_INDEX, ix)])
    F.TM_FM_CMD_GO).setFm ix { w0 := bitsOf (d.get (F.TM_FM_DATA_DATA 0)) 26 6 * 2 ^ 26, cir := bitsOf
                                 (d.get (F.TM_FM_DATA_DATA 1)) 0 28, cbs := bitsOf (d.get
                                 (F.TM_FM_DATA_DATA 2)) 0 24, eir := bitsOf (d.get (F.TM_FM_DATA_DATA
                                 3)) 0 28, ebs := bitsOf (d.get (F.TM_FM_DATA_DATA 4)) 0 24, green := 0,
                                 yellow := 0, red := 0, tc := bucketFull (bitsOf (d.get
                                 (F.TM_FM_DATA_DATA 2)) 0 24) d.plat.aon, te := bucketFull (bitsOf
                                 (d.get (F.TM_FM_DATA_DATA 4)) 0 24) d.plat.aon }).put
    F.TM_FM_RESULT_CODE 0))) ∧
  -- (3) Any other keeps its counters and cuts its buckets, as they stand now, to the new sizes.
  (∀ (s : State) (i : Init) (ix : Fin 8192) (d : Dev), s.dev.reaches i (R.TM_FM_CMD) = some d →
    d.lockedWrite (R.TM_FM_CMD) (cmdWord [(F.TM_FM_CMD_GO, 1), (F.TM_FM_CMD_OP, 1), (F.TM_FM_CMD_INDEX,
    ix)]) = false → d.flag F.TM_FM_CMD_GO = false → bitsOf (d.get (F.TM_FM_DATA_DATA 1)) 0 28 ≤ 50000000
    → bitsOf (d.get (F.TM_FM_DATA_DATA 3)) 0 28 ≤ 50000000 → (bitOf (d.get (F.TM_FM_DATA_DATA 0)) 31 =
    false ∨ bitOf (d.fm ix).w0 31 = true) → exec (.fmWrite i ix) s = .next (s.ends (((d.commanded
    (R.TM_FM_CMD) (cmdWord [(F.TM_FM_CMD_GO, 1), (F.TM_FM_CMD_OP, 1), (F.TM_FM_CMD_INDEX, ix)])
    F.TM_FM_CMD_GO).setFm ix { d.fm ix with w0 := bitsOf (d.get (F.TM_FM_DATA_DATA 0)) 26 6 * 2 ^ 26,
                                              cir := bitsOf (d.get (F.TM_FM_DATA_DATA 1)) 0 28, cbs :=
                                              bitsOf (d.get (F.TM_FM_DATA_DATA 2)) 0 24, eir := bitsOf
                                              (d.get (F.TM_FM_DATA_DATA 3)) 0 28, ebs := bitsOf (d.get
                                              (F.TM_FM_DATA_DATA 4)) 0 24, tc := bucketAt 0 (bitsOf
                                              (d.get (F.TM_FM_DATA_DATA 2)) 0 24) d.plat.aon (fmAt
                                              d.plat.aon (d.fm ix)).tc, te := bucketAt 0 (bitsOf (d.get
                                              (F.TM_FM_DATA_DATA 4)) 0 24) d.plat.aon (fmAt d.plat.aon
                                              (d.fm ix)).te }).put F.TM_FM_RESULT_CODE 0))) ∧
  -- (4) A rate above 50 Gb/s is refused.
  (∀ (s : State) (i : Init) (ix : Fin 8192) (d : Dev), s.dev.reaches i (R.TM_FM_CMD) = some d →
    d.lockedWrite (R.TM_FM_CMD) (cmdWord [(F.TM_FM_CMD_GO, 1), (F.TM_FM_CMD_OP, 1), (F.TM_FM_CMD_INDEX,
    ix)]) = false → d.flag F.TM_FM_CMD_GO = false → (50000000 < bitsOf (d.get (F.TM_FM_DATA_DATA 1)) 0
    28 ∨ 50000000 < bitsOf (d.get (F.TM_FM_DATA_DATA 3)) 0 28) → exec (.fmWrite i ix) s = .next (s.ends
    (((d.commanded (R.TM_FM_CMD) (cmdWord [(F.TM_FM_CMD_GO, 1), (F.TM_FM_CMD_OP, 1), (F.TM_FM_CMD_INDEX,
    ix)]) F.TM_FM_CMD_GO).put F.TM_FM_RESULT_CODE 0x011E).recordErr (.tm 1) (initCode i) R.TM_FM_CMD
    0x011E))) ∧
  -- (5) GCL_COMMIT of a list that R218 accepts shows the takeover instant t, the first start of a cycle
  -- at least 1 us ahead, sets PENDING and writes Canopy entry p; what runs goes on, other ports keep
  -- their lists and entries.
  (∀ (s : State) (i : Init) (p : Fin 28) (d : Dev) (t : Nat), s.dev.reaches i (R.TM_GCL_CTRL p) = some d
    → d.lockedWrite (R.TM_GCL_CTRL p) (d.wordWith (F.TM_GCL_CTRL_COMMIT p) 1) = false → d.flag
    (F.TM_GCL_CTRL_ABORT p) = false → d.flag (F.TM_GCL_CTRL_STOP p) = false → d.get
    (F.TM_GCL_CTRL_DOMAIN p) ≤ 4 → d.flag (F.TM_GCL_STAT_PENDING p) = false → d.gclBad p = false →
    d.takeInstant p = t → ∃ d' : Dev, exec (.gclCommit i p) s = .next (s.ends d') ∧ d'.flag
    (F.TM_GCL_STAT_PENDING p) = true ∧ (d'.gcl p).take = some t ∧ (d'.gcl p).newCycle = d.get
    (F.TM_GCL_CYCLE_NS p) ∧ (d'.gcl p).newLen = d.get (F.TM_GCL_LEN_LEN p) ∧ d'.get
    (F.TM_GCL_TAKE_SEC_LO_SEC p) = t / 1000000000 % 2 ^ 32 ∧ d'.get (F.TM_GCL_TAKE_SEC_HI_SEC p) = t /
    1000000000 / 2 ^ 32 % 2 ^ 16 ∧ d'.get (F.TM_GCL_TAKE_NS_NS p) = t % 1000000000 ∧ (d'.entry p).w3 = t
    % 1000000000 ∧ d'.flag (F.TM_GCL_STAT_RUNNING p) = d.flag (F.TM_GCL_STAT_RUNNING p) ∧ (∀ k, k ≠
    p.val → d'.gcl k = d.gcl k) ∧ (∀ k, k ≠ p.val → d'.entry k = d.entry k)) ∧
  -- (6) While one is pending it is refused with GCL_STATE.
  (∀ (s : State) (i : Init) (p : Fin 28) (d : Dev), s.dev.reaches i (R.TM_GCL_CTRL p) = some d →
    d.lockedWrite (R.TM_GCL_CTRL p) (d.wordWith (F.TM_GCL_CTRL_COMMIT p) 1) = false → d.flag
    (F.TM_GCL_CTRL_ABORT p) = false → d.flag (F.TM_GCL_CTRL_STOP p) = false → d.get
    (F.TM_GCL_CTRL_DOMAIN p) ≤ 4 → d.flag (F.TM_GCL_STAT_PENDING p) = true → exec (.gclCommit i p) s =
    .next (s.ends (d.failWrite i (R.TM_GCL_CTRL p) (d.wordWith (F.TM_GCL_CTRL_COMMIT p) 1) 0x011F))) ∧
  -- (7) A bad list is refused with TM_CONFIG.
  (∀ (s : State) (i : Init) (p : Fin 28) (d : Dev), s.dev.reaches i (R.TM_GCL_CTRL p) = some d →
    d.lockedWrite (R.TM_GCL_CTRL p) (d.wordWith (F.TM_GCL_CTRL_COMMIT p) 1) = false → d.flag
    (F.TM_GCL_CTRL_ABORT p) = false → d.flag (F.TM_GCL_CTRL_STOP p) = false → d.get
    (F.TM_GCL_CTRL_DOMAIN p) ≤ 4 → d.flag (F.TM_GCL_STAT_PENDING p) = false → d.gclBad p = true → exec
    (.gclCommit i p) s = .next (s.ends (d.failWrite i (R.TM_GCL_CTRL p) (d.wordWith
    (F.TM_GCL_CTRL_COMMIT p) 1) 0x011E))) ∧
  -- (8) GCL_ABORT before the release drops the takeover and clears its Canopy entry.
  (∀ (s : State) (i : Init) (p : Fin 28) (d : Dev), s.dev.reaches i (R.TM_GCL_CTRL p) = some d →
    d.lockedWrite (R.TM_GCL_CTRL p) (d.wordWith (F.TM_GCL_CTRL_ABORT p) 1) = false → d.flag
    (F.TM_GCL_CTRL_COMMIT p) = false → d.flag (F.TM_GCL_CTRL_STOP p) = false → d.get
    (F.TM_GCL_CTRL_DOMAIN p) ≤ 4 → d.flag (F.TM_GCL_STAT_PENDING p) = true → d.takeDue p = false → ∃ d'
    : Dev, exec (.gclAbort i p) s = .next (s.ends d') ∧ d'.flag (F.TM_GCL_STAT_PENDING p) = false ∧
    (d'.gcl p).take = none ∧ wheelValid (d'.entry p) = false ∧ d'.flag (F.TM_GCL_STAT_RUNNING p) =
    d.flag (F.TM_GCL_STAT_RUNNING p) ∧ (∀ k, k ≠ p.val → d'.gcl k = d.gcl k) ∧ (∀ k, k ≠ p.val →
    d'.entry k = d.entry k)) ∧
  -- (9) With none pending, or at its release, it is refused with GCL_STATE.
  (∀ (s : State) (i : Init) (p : Fin 28) (d : Dev), s.dev.reaches i (R.TM_GCL_CTRL p) = some d →
    d.lockedWrite (R.TM_GCL_CTRL p) (d.wordWith (F.TM_GCL_CTRL_ABORT p) 1) = false → d.flag
    (F.TM_GCL_CTRL_COMMIT p) = false → d.flag (F.TM_GCL_CTRL_STOP p) = false → d.get
    (F.TM_GCL_CTRL_DOMAIN p) ≤ 4 → (d.flag (F.TM_GCL_STAT_PENDING p) = false ∨ d.takeDue p = true) →
    exec (.gclAbort i p) s = .next (s.ends (d.failWrite i (R.TM_GCL_CTRL p) (d.wordWith
    (F.TM_GCL_CTRL_ABORT p) 1) 0x011F))) ∧
  -- (10) GCL_STOP opens every gate and drops a takeover; no list of another port changes.
  (∀ (s : State) (i : Init) (p : Fin 28) (d : Dev), s.dev.reaches i (R.TM_GCL_CTRL p) = some d →
    d.lockedWrite (R.TM_GCL_CTRL p) (d.wordWith (F.TM_GCL_CTRL_STOP p) 1) = false → d.flag
    (F.TM_GCL_CTRL_COMMIT p) = false → d.flag (F.TM_GCL_CTRL_ABORT p) = false → d.get
    (F.TM_GCL_CTRL_DOMAIN p) ≤ 4 → ∃ d' : Dev, exec (.gclStop i p) s = .next (s.ends d') ∧ d'.flag
    (F.TM_GCL_STAT_RUNNING p) = false ∧ d'.get (F.TM_GCL_STAT_GATES p) = 0xFF ∧ d'.get
    (F.TM_GCL_STAT_INDEX p) = 0 ∧ (d'.gcl p).take = none ∧ ((d.gcl p).take ≠ none → d'.flag
    (F.TM_GCL_STAT_PENDING p) = false ∧ wheelValid (d'.entry p) = false) ∧ (∀ k, k ≠ p.val → d'.gcl k =
    d.gcl k) ∧ (∀ a, a ≠ R.TM_GCL_CTRL p → a ≠ R.TM_GCL_STAT p → d'.word a = d.word a)) ∧
  -- (11) GATE_ENTRY_CHANGE of a running list shows the entry in force.
  (∀ (s : State) (p : Fin 28) (k g : Nat), s.dev.flag (F.TM_GCL_STAT_RUNNING p) = true → s.dev.gateNow p
    = (k, g) → exec (.gateEntryChange p) s = .next (s.ends ((s.dev.put (F.TM_GCL_STAT_INDEX p) k).put
    (F.TM_GCL_STAT_GATES p) g))) ∧
  -- (12) Without one it does nothing.
  (∀ (s : State) (p : Fin 28), s.dev.flag (F.TM_GCL_STAT_RUNNING p) = false → exec (.gateEntryChange p)
    s = .next (s.ends (s.dev))) ∧
  -- (13) TM_SAMPLE PERIOD_US after the last boundary adds a sample of each queue.
  (∀ (s : State), s.dev.flag F.TM_SAMPLE_EN = true → s.dev.tm.sampled + s.dev.get F.TM_SAMPLE_PERIOD_US
    * 1000 ≤ s.dev.plat.aon → s.dev.flag F.TM_HIST_CMD_GO = false → exec (.tmSample) s = .next (s.ends
    ((List.range 224).foldl (fun (a : Dev) q => a.sampleQueue q) { s.dev with
      tm := { s.dev.tm with sampled := s.dev.tm.sampled + s.dev.get F.TM_SAMPLE_PERIOD_US * 1000 } })))
    ∧
  -- (14) A histogram command that waits then shows the bins and completes.
  (∀ (s : State), s.dev.flag F.TM_SAMPLE_EN = true → s.dev.tm.sampled + s.dev.get F.TM_SAMPLE_PERIOD_US
    * 1000 ≤ s.dev.plat.aon → s.dev.flag F.TM_HIST_CMD_GO = true → exec (.tmSample) s = .next (s.ends
    (((List.range 224).foldl (fun (a : Dev) q => a.sampleQueue q) { s.dev with
      tm := { s.dev.tm with sampled := s.dev.tm.sampled + s.dev.get F.TM_SAMPLE_PERIOD_US * 1000 }
        }).histEffect.put F.TM_HIST_CMD_GO 0))) ∧
  -- (15) Before, or without sampling, it does nothing.
  (∀ (s : State), (s.dev.flag F.TM_SAMPLE_EN = false ∨ s.dev.plat.aon < s.dev.tm.sampled + s.dev.get
    F.TM_SAMPLE_PERIOD_US * 1000) → exec (.tmSample) s = .next (s.ends (s.dev))) ∧
  -- (16) TM_HIST_CMD waits for the next boundary, GO 1.
  (∀ (s : State) (i : Init) (q : Fin 256) (clear : Bool) (d : Dev), s.dev.reaches i (R.TM_HIST_CMD) =
    some d → d.lockedWrite (R.TM_HIST_CMD) (cmdWord [(F.TM_HIST_CMD_GO, 1), (F.TM_HIST_CMD_CLEAR,
    boolNat clear), (F.TM_HIST_CMD_QUEUE, q)]) = false → d.flag F.TM_HIST_CMD_GO = false → q.val < 224 →
    d.flag F.TM_SAMPLE_EN = true → exec (.tmHistCmd i q clear) s = .next (s.ends (((d.commanded
    (R.TM_HIST_CMD) (cmdWord [(F.TM_HIST_CMD_GO, 1), (F.TM_HIST_CMD_CLEAR, boolNat clear),
    (F.TM_HIST_CMD_QUEUE, q)]) F.TM_HIST_CMD_GO).put F.TM_HIST_RESULT_CODE 0).put F.TM_HIST_CMD_GO 1)))
    ∧
  -- (17) A command that waits is kept: a further write changes nothing.
  (∀ (s : State) (i : Init) (q : Fin 256) (clear : Bool) (d : Dev), s.dev.reaches i (R.TM_HIST_CMD) =
    some d → d.lockedWrite (R.TM_HIST_CMD) (cmdWord [(F.TM_HIST_CMD_GO, 1), (F.TM_HIST_CMD_CLEAR,
    boolNat clear), (F.TM_HIST_CMD_QUEUE, q)]) = false → d.flag F.TM_HIST_CMD_GO = true → exec
    (.tmHistCmd i q clear) s = .next (s.ends (d))) ∧
  -- (18) Without sampling it shows a queue's 16 bins at once and, with CLEAR, clears them.
  (∀ (s : State) (i : Init) (q : Fin 256) (clear : Bool) (d : Dev), s.dev.reaches i (R.TM_HIST_CMD) =
    some d → d.lockedWrite (R.TM_HIST_CMD) (cmdWord [(F.TM_HIST_CMD_GO, 1), (F.TM_HIST_CMD_CLEAR,
    boolNat clear), (F.TM_HIST_CMD_QUEUE, q)]) = false → d.flag F.TM_HIST_CMD_GO = false → q.val < 224 →
    d.flag F.TM_SAMPLE_EN = false → exec (.tmHistCmd i q clear) s = .next (s.ends (if clear then {
    (List.range 16).foldl (fun (a : Dev) w => a.put (F.TM_HIST_DATA_DATA w) (tget d.tm.hist (16 * q +
    w))) ((d.commanded (R.TM_HIST_CMD) (cmdWord [(F.TM_HIST_CMD_GO, 1), (F.TM_HIST_CMD_CLEAR, boolNat
    clear), (F.TM_HIST_CMD_QUEUE, q)]) F.TM_HIST_CMD_GO).put F.TM_HIST_RESULT_CODE 0) with
      tm := { d.tm with hist := tabDrop (fun j => j / 16 == q.val) d.tm.hist } } else (List.range
    16).foldl (fun (a : Dev) w => a.put (F.TM_HIST_DATA_DATA w) (tget d.tm.hist (16 * q + w)))
    ((d.commanded (R.TM_HIST_CMD) (cmdWord [(F.TM_HIST_CMD_GO, 1), (F.TM_HIST_CMD_CLEAR, boolNat clear),
    (F.TM_HIST_CMD_QUEUE, q)]) F.TM_HIST_CMD_GO).put F.TM_HIST_RESULT_CODE 0)))) ∧
  -- (19) A queue that does not exist is refused.
  (∀ (s : State) (i : Init) (q : Fin 256) (clear : Bool) (d : Dev), s.dev.reaches i (R.TM_HIST_CMD) =
    some d → d.lockedWrite (R.TM_HIST_CMD) (cmdWord [(F.TM_HIST_CMD_GO, 1), (F.TM_HIST_CMD_CLEAR,
    boolNat clear), (F.TM_HIST_CMD_QUEUE, q)]) = false → d.flag F.TM_HIST_CMD_GO = false → 224 ≤ q.val →
    exec (.tmHistCmd i q clear) s = .next (s.ends (((d.commanded (R.TM_HIST_CMD) (cmdWord
    [(F.TM_HIST_CMD_GO, 1), (F.TM_HIST_CMD_CLEAR, boolNat clear), (F.TM_HIST_CMD_QUEUE, q)])
    F.TM_HIST_CMD_GO).put F.TM_HIST_RESULT_CODE 0x011E).recordErr (.tm 5) (initCode i) R.TM_HIST_CMD
    0x011E)))

/-- What the commands of the capture memory do (R226, R229, R230, R231, R232, R234, R235, R236, R239).
CAPTURE_RECORD_COMMIT takes the oldest completed record x, returns its buffer bytes and offers it to its
ring r. RING_TRIGGER, RING_REARM and RING_RESET_PTR are writes of CP_RING_CMD that reach the device d. A
PDU is due by R235.
Log entries that say where the model chose on these rules: 62, 63, 64, 65, 66, 194, 207, 225, 226, 227,
228, 229, 261, 264, 281. -/
def Obligations.CaptureCommands : Prop :=
  -- (1) In a running ring or one in POST the record is written where it finds room.
  (∀ (s : State) (x : CapRec) (rest : List CapRec) (d0 d1 : Dev) (r : Nat), s.dev.cp.pend = x :: rest →
    s.dev.flag F.CP_MEM_STAT_SELF_REFRESH = false → ({ s.dev with
      cp := { s.dev.cp with pend := rest } }.put F.CP_BUF_STAT_USED (s.dev.get F.CP_BUF_STAT_USED -
    x.held)) = d0 → d0.get (F.CP_TAP_CFG_RING x.tap) = r → (d0.ringState r = 1 ∨ d0.ringState r = 2) →
    d0.ringRoom r (recLen x) = some d1 → d1.recTriggers r x = false → exec (.captureRecordCommit) s =
    .next (s.ends (d1.ringWrite r x false))) ∧
  -- (2) A record that triggers takes its ring into POST first.
  (∀ (s : State) (x : CapRec) (rest : List CapRec) (d0 d1 : Dev) (r : Nat), s.dev.cp.pend = x :: rest →
    s.dev.flag F.CP_MEM_STAT_SELF_REFRESH = false → ({ s.dev with
      cp := { s.dev.cp with pend := rest } }.put F.CP_BUF_STAT_USED (s.dev.get F.CP_BUF_STAT_USED -
    x.held)) = d0 → d0.get (F.CP_TAP_CFG_RING x.tap) = r → d0.ringState r = 1 → d0.ringRoom r (recLen x)
    = some d1 → d1.recTriggers r x = true → exec (.captureRecordCommit) s = .next (s.ends
    ((d1.ringTrigger r false).ringWrite r x true))) ∧
  -- (3) A written record stands in the ring behind the others with its bytes, WPTR passes them, and SEQ
  -- counts.
  (∀ (s : State) (x : CapRec) (rest : List CapRec) (d0 : Dev) (r : Nat) (b : List Byte), s.dev.cp.pend =
    x :: rest → s.dev.flag F.CP_MEM_STAT_SELF_REFRESH = false → ({ s.dev with
      cp := { s.dev.cp with pend := rest } }.put F.CP_BUF_STAT_USED (s.dev.get F.CP_BUF_STAT_USED -
    x.held)) = d0 → d0.get (F.CP_TAP_CFG_RING x.tap) = r → d0.ringState r = 1 → recLen x + 8 ≤
    d0.ringBytes r - d0.ringHeld r → d0.recTriggers r x = false → recBytes x (d0.ring r).seq (min
    (d0.ring r).lostRun 65535) (x.flags + boolNat (decide (x.data.length < x.orig)) + boolNat ((d0.ring
    r).lostRun != 0) * 2) = b → ∃ d' : Dev, exec (.captureRecordCommit) s = .next (s.ends d') ∧ (d'.ring
    r).recs = (d0.ring r).recs ++ [{ stamp := x.stamp, seen := d0.baseNs, bytes := b }] ∧ d'.get
    (F.CP_RING_WPTR_PTR r) = (d0.get (F.CP_RING_WPTR_PTR r) + b.length) % d0.ringBytes r % 2 ^ 32 ∧
    (d'.ring r).seq = ((d0.ring r).seq + 1) % 2 ^ 32 ∧ (d'.ring r).lostRun = 0 ∧ d'.cp.pend = rest) ∧
  -- (4) Frozen, or without room, the ring counts it lost.
  (∀ (s : State) (x : CapRec) (rest : List CapRec) (d0 : Dev) (r : Nat), s.dev.cp.pend = x :: rest →
    s.dev.flag F.CP_MEM_STAT_SELF_REFRESH = false → ({ s.dev with
      cp := { s.dev.cp with pend := rest } }.put F.CP_BUF_STAT_USED (s.dev.get F.CP_BUF_STAT_USED -
    x.held)) = d0 → d0.get (F.CP_TAP_CFG_RING x.tap) = r → (d0.ringState r = 3 ∨ ((d0.ringState r = 1 ∨
    d0.ringState r = 2) ∧ d0.ringRoom r (recLen x) = none)) → exec (.captureRecordCommit) s = .next
    (s.ends (d0.ringLoss r))) ∧
  -- (5) A ring that is off takes nothing.
  (∀ (s : State) (x : CapRec) (rest : List CapRec) (d0 : Dev) (r : Nat), s.dev.cp.pend = x :: rest →
    s.dev.flag F.CP_MEM_STAT_SELF_REFRESH = false → ({ s.dev with
      cp := { s.dev.cp with pend := rest } }.put F.CP_BUF_STAT_USED (s.dev.get F.CP_BUF_STAT_USED -
    x.held)) = d0 → d0.get (F.CP_TAP_CFG_RING x.tap) = r → d0.ringState r = 0 → exec
    (.captureRecordCommit) s = .next (s.ends (d0))) ∧
  -- (6) No record, or a memory in self-refresh: nothing.
  (∀ (s : State), s.dev.cp.pend = [] ∨ s.dev.flag F.CP_MEM_STAT_SELF_REFRESH = true → exec
    (.captureRecordCommit) s = .next (s.ends (s.dev))) ∧
  -- (7) RING_TRIGGER of a running ring notes time and pointer and enters POST.
  (∀ (s : State) (i : Init) (r : Fin 16) (d : Dev), s.dev.reaches i (R.CP_RING_CMD r) = some d →
    d.lockedWrite (R.CP_RING_CMD r) (cmdWord [(F.CP_RING_CMD_TRIGGER r, 1)]) = false → d.ringState r = 1
    → d.get (F.CP_RING_CFG_POST_KIB r) ≠ 0 → exec (.ringTrigger i r) s = .next (s.ends (((((d.put
    (F.CP_RING_TRIG_NS_NS r) d.baseNs).put (F.CP_RING_TRIG_PTR_PTR r) (d.get (F.CP_RING_WPTR_PTR
    r))).put (F.CP_RING_STAT_STATE r) 2).raise (.cp 2) 1).modRing r (fun g => { g with
      post := 0 })))) ∧
  -- (8) With POST_KIB 0 it freezes at once.
  (∀ (s : State) (i : Init) (r : Fin 16) (d : Dev), s.dev.reaches i (R.CP_RING_CMD r) = some d →
    d.lockedWrite (R.CP_RING_CMD r) (cmdWord [(F.CP_RING_CMD_TRIGGER r, 1)]) = false → d.ringState r = 1
    → d.get (F.CP_RING_CFG_POST_KIB r) = 0 → exec (.ringTrigger i r) s = .next (s.ends ((((((d.put
    (F.CP_RING_TRIG_NS_NS r) d.baseNs).put (F.CP_RING_TRIG_PTR_PTR r) (d.get (F.CP_RING_WPTR_PTR
    r))).put (F.CP_RING_STAT_STATE r) 2).raise (.cp 2) 1).modRing r (fun g => { g with
      post := 0 })).ringFreeze r))) ∧
  -- (9) Other rings ignore it.
  (∀ (s : State) (i : Init) (r : Fin 16) (d : Dev), s.dev.reaches i (R.CP_RING_CMD r) = some d →
    d.lockedWrite (R.CP_RING_CMD r) (cmdWord [(F.CP_RING_CMD_TRIGGER r, 1)]) = false → d.ringState r ≠ 1
    → exec (.ringTrigger i r) s = .next (s.ends (d))) ∧
  -- (10) RING_REARM lets a frozen ring run; others ignore it.
  (∀ (s : State) (i : Init) (r : Fin 16) (d : Dev), s.dev.reaches i (R.CP_RING_CMD r) = some d →
    d.lockedWrite (R.CP_RING_CMD r) (cmdWord [(F.CP_RING_CMD_REARM r, 1)]) = false → exec (.ringRearm i
    r) s = .next (s.ends (if d.ringState r = 3 then d.put (F.CP_RING_STAT_STATE r) 1 else d))) ∧
  -- (11) RING_RESET_PTR empties a disabled ring.
  (∀ (s : State) (i : Init) (r : Fin 16) (d : Dev), s.dev.reaches i (R.CP_RING_CMD r) = some d →
    d.lockedWrite (R.CP_RING_CMD r) (cmdWord [(F.CP_RING_CMD_RESET_PTR r, 1)]) = false → d.flag
    (F.CP_RING_CFG_EN r) = false → exec (.ringResetPtr i r) s = .next (s.ends (((d.put
    (F.CP_RING_WPTR_PTR r) 0).put (F.CP_RING_RPTR_PTR r) 0).modRing r (fun g => { g with
      seq := 0, recs := [], cut := 0 })))) ∧
  -- (12) Of an enabled ring it is refused with RING_STATE.
  (∀ (s : State) (i : Init) (r : Fin 16) (d : Dev), s.dev.reaches i (R.CP_RING_CMD r) = some d →
    d.lockedWrite (R.CP_RING_CMD r) (cmdWord [(F.CP_RING_CMD_RESET_PTR r, 1)]) = false → d.flag
    (F.CP_RING_CFG_EN r) = true → exec (.ringResetPtr i r) s = .next (s.ends (d.failWrite i
    (R.CP_RING_CMD r) (cmdWord [(F.CP_RING_CMD_RESET_PTR r, 1)]) 0x0121))) ∧
  -- (13) AVTP_PDU_SEND sends the due PDU of a stream that the pacer admitted.
  (∀ (s : State) (k : Fin 4) (ecc : Fin 3) (frame : List Byte) (d1 : Dev), (s.dev.port 27).admitted =
    true → s.dev.avtpTake k ecc = some (frame, d1) → exec (.avtpPduSend k ecc) s = .next (s.ends
    (d1.enterPaced 27 frame false))) ∧
  -- (14) So does DELIVERY_FLUSH_TIMEOUT of a stream.
  (∀ (s : State) (k : Fin 4) (p : Fin 2) (r : Fin 16) (x : Descriptor) (frame : List Byte) (d1 : Dev),
    (s.dev.port 27).admitted = true → s.dev.avtpTake k 0 = some (frame, d1) → exec
    (.deliveryFlushTimeout (some k) p r x) s = .next (s.ends (d1.enterPaced 27 frame false))) ∧
  -- (15) Not admitted, or nothing due: neither acts.
  (∀ (s : State) (k : Fin 4) (ecc : Fin 3) (p : Fin 2) (r : Fin 16) (x : Descriptor), (s.dev.port
    27).admitted = false ∨ s.dev.avtpDue k = false → exec (.avtpPduSend k ecc) s = .next (s.ends
    (s.dev)) ∧ exec (.deliveryFlushTimeout (some k) p r x) s = .next (s.ends (s.dev))) ∧
  -- (16) DELIVERY_FLUSH_TIMEOUT of a host ring of kind 2 hands over what there is.
  (∀ (s : State) (p : Fin 2) (r : Fin 16) (x : Descriptor), s.dev.ringBusy p r = true → s.dev.flag
    (F.RING_CFG_DIR p r) = true → s.dev.get (F.RING_CFG_KIND p r) = 2 → exec (.deliveryFlushTimeout none
    p r x) s = .next (s.ends (s.dev.descDrain p r x true))) ∧
  -- (17) Of another ring it does nothing.
  (∀ (s : State) (p : Fin 2) (r : Fin 16) (x : Descriptor), (s.dev.ringBusy p r = false ∨ s.dev.flag
    (F.RING_CFG_DIR p r) = false ∨ s.dev.get (F.RING_CFG_KIND p r) ≠ 2) → exec (.deliveryFlushTimeout
    none p r x) s = .next (s.ends (s.dev))) ∧
  -- (18) DDR_TRAINING_DONE sets TRAINED from release step 6 on, LPLL not bypassed, and shows the
  -- conservative settings.
  (∀ (s : State), 6 ≤ s.dev.plat.relStep → bitOf s.dev.bypassed 4 = false → exec (.ddrTrainingDone true)
    s = .next (s.ends ((s.dev.put F.CP_MEM_STAT_TRAINED 1).putFlag F.CP_MEM_STAT_CONSERVATIVE (bitOf
    s.dev.plat.boot.flags 1)))) ∧
  -- (19) A failed training, one before step 6 or one with LPLL bypassed changes nothing.
  (∀ (s : State) (ok : Bool), (ok = false ∨ s.dev.plat.relStep < 6 ∨ bitOf s.dev.bypassed 4 = true) →
    exec (.ddrTrainingDone ok) s = .next (s.ends (s.dev)))

/-- What the commands of the sleep groups do (R102, R243, R245, R246, R247, R248, R249, R254, R255, R257,
R276, R358).
GRP_SLEEP and GRP_WAKE write PC_GRP_CMD; the write reaches the device d. g is a group, w its wake. The
device is bound for a sleep mode while target is set.
Log entries that say where the model chose on these rules: 135, 136, 137, 139, 140, 141, 143, 151, 156,
189, 237, 238, 242, 258, 284, 288, 289. -/
def Obligations.SleepGroupCommands : Prop :=
  -- (1) GRP_SLEEP sends the AWAKE groups named to sleep.
  (∀ (s : State) (i : Init) (groups : Byte) (d : Dev), s.dev.reaches i (R.PC_GRP_CMD) = some d →
    d.lockedWrite (R.PC_GRP_CMD) ((cmdWord [(F.PC_GRP_CMD_GO, 1), (F.PC_GRP_CMD_OP, 0),
    (F.PC_GRP_CMD_GROUPS, groups.toNat)])) = false → (d.flag F.CLR_CFG_EN = false ∨ bitOf groups.toNat
    (d.get F.CLR_CFG_CHAN / 8) = false) → d.get F.CLR_STAT_STATE ≠ 3 → d.get F.CLR_STAT_STATE ≠ 4 → ∃ d'
    : Dev, exec (.grpSleep i groups) s = .next (s.ends d') ∧ (∀ g : Fin 8, d'.groupState g = if bitOf
    groups.toNat g && d.groupState g == 0 then 1 else d.groupState g) ∧ d'.flag F.PC_GRP_CMD_GO = true ∧
    d'.slp = { d.slp with live := true } ∧ d'.chan = d.chan ∧ (∀ a, a ≠ R.PC_GRP_CMD → a ≠ R.PC_GRP_STAT
    → d'.word a = d.word a)) ∧
  -- (2) It is refused with SLEEP_CONFIG for the group of the ring.
  (∀ (s : State) (i : Init) (groups : Byte) (d : Dev), s.dev.reaches i (R.PC_GRP_CMD) = some d →
    d.lockedWrite (R.PC_GRP_CMD) ((cmdWord [(F.PC_GRP_CMD_GO, 1), (F.PC_GRP_CMD_OP, 0),
    (F.PC_GRP_CMD_GROUPS, groups.toNat)])) = false → d.flag F.CLR_CFG_EN = true → bitOf groups.toNat
    (d.get F.CLR_CFG_CHAN / 8) = true → exec (.grpSleep i groups) s = .next (s.ends (d.failWrite i
    R.PC_GRP_CMD (cmdWord [(F.PC_GRP_CMD_GO, 1), (F.PC_GRP_CMD_OP, 0), (F.PC_GRP_CMD_GROUPS,
    groups.toNat)]) 0x0122))) ∧
  -- (3) It is refused with SLEEP_STATE in SETTLE and COMMITTED.
  (∀ (s : State) (i : Init) (groups : Byte) (d : Dev), s.dev.reaches i (R.PC_GRP_CMD) = some d →
    d.lockedWrite (R.PC_GRP_CMD) ((cmdWord [(F.PC_GRP_CMD_GO, 1), (F.PC_GRP_CMD_OP, 0),
    (F.PC_GRP_CMD_GROUPS, groups.toNat)])) = false → (d.flag F.CLR_CFG_EN = false ∨ bitOf groups.toNat
    (d.get F.CLR_CFG_CHAN / 8) = false) → (d.get F.CLR_STAT_STATE = 3 ∨ d.get F.CLR_STAT_STATE = 4) →
    exec (.grpSleep i groups) s = .next (s.ends (d.failWrite i R.PC_GRP_CMD (cmdWord [(F.PC_GRP_CMD_GO,
    1), (F.PC_GRP_CMD_OP, 0), (F.PC_GRP_CMD_GROUPS, groups.toNat)]) 0x0123))) ∧
  -- (4) GRP_WAKE begins a wake of kind 4 without a check of the groups named that are not AWAKE.
  (∀ (s : State) (i : Init) (groups : Byte) (d : Dev), s.dev.reaches i (R.PC_GRP_CMD) = some d →
    d.lockedWrite (R.PC_GRP_CMD) ((cmdWord [(F.PC_GRP_CMD_GO, 1), (F.PC_GRP_CMD_OP, 1),
    (F.PC_GRP_CMD_GROUPS, groups.toNat)])) = false → ∃ d' : Dev, exec (.grpWake i groups) s = .next
    (s.ends d') ∧ (∀ g : Fin 8, bitOf groups.toNat g = true → d.groupState g ≠ 0 → d.groupWake g = none
    → d'.groupWake g = some { kind := 4, source := 0, since := d.plat.aon, check := false, listen :=
                                false }) ∧ (∀ g : Fin 8, d'.groupState g = d.groupState g) ∧ d'.slp.live
    = true ∧ (∀ a, a ≠ R.PC_GRP_CMD → d'.word a = d.word a)) ∧
  -- (5) GROUP_ASLEEP: the LIN masters of the group send go-to-sleep with LIN_GTS, a frame only listened
  -- to is lost, the group is ASLEEP.
  (∀ (s : State) (g : Fin 8) (d0 d1 : Dev), s.dev.groupState g = 1 → s.dev.linSends g = false → (if
    s.dev.flag F.PC_GRP_CFG_LIN_GTS then [2 * g.val, 2 * g.val + 1].foldl (fun (a : Dev) n => if
    a.enabled (.lin n) && a.flag (F.LIN_MODE_MASTER n) then a.emit (.linFrame n 0x3C (some (0x00 ::
    List.replicate 7 0xFF))) else a) s.dev else s.dev) = d0 → (((([2 * g.val, 2 * g.val + 1].foldl (fun
    (a : Dev) n => a.modChan (64 + n) (fun x => { x with
      lin := none })) d0).setGroup g 2).bump F.SLEEPS_COUNT).raise (.pc 3) 1) = d1 → ((List.range 8).all
    (fun k => d1.groupState k == 2) = false ∨ d1.slp.target = none) → exec (.groupAsleep g) s = .next
    (s.ends (d1))) ∧
  -- (6) With the last group the device enters the mode it is bound for.
  (∀ (s : State) (g : Fin 8) (m : Nat) (d0 d1 : Dev), s.dev.groupState g = 1 → s.dev.linSends g = false
    → (if s.dev.flag F.PC_GRP_CFG_LIN_GTS then [2 * g.val, 2 * g.val + 1].foldl (fun (a : Dev) n => if
    a.enabled (.lin n) && a.flag (F.LIN_MODE_MASTER n) then a.emit (.linFrame n 0x3C (some (0x00 ::
    List.replicate 7 0xFF))) else a) s.dev else s.dev) = d0 → (((([2 * g.val, 2 * g.val + 1].foldl (fun
    (a : Dev) n => a.modChan (64 + n) (fun x => { x with
      lin := none })) d0).setGroup g 2).bump F.SLEEPS_COUNT).raise (.pc 3) 1) = d1 → (List.range 8).all
    (fun k => d1.groupState k == 2) = true → s.dev.slp.target = some m → m < 2 → s.dev.slp.latched = []
    → ∃ d' : Dev, exec (.groupAsleep g) s = .next (s.ends d') ∧ d'.mode = m ∧ d'.get F.PC_MODE_PREV =
    s.dev.mode ∧ d'.clrState = 0 ∧ d'.slp.target = none ∧ d'.slp.committed = 0 ∧ d'.clr.joined = false ∧
    d'.clr.buf = []) ∧
  -- (7) While a LIN channel of the group transmits, or the group is not GOING_TO_SLEEP, it waits.
  (∀ (s : State) (g : Fin 8), s.dev.groupState g ≠ 1 ∨ s.dev.linSends g = true → exec (.groupAsleep g) s
    = .next (s.ends (s.dev))) ∧
  -- (8) BUS_WAKE of a sleeping group begins its check.
  (∀ (s : State) (c : Fin 80), s.dev.slp.target = none → s.dev.groupState (chanGroup c) = 2 →
    s.dev.groupWake (chanGroup c) = none → s.dev.mode ≠ 0 → s.dev.clrState ≠ 3 → ∃ d' : Dev, exec
    (.busWake c) s = .next (s.ends d') ∧ d'.groupState (chanGroup c) = 3 ∧ d'.groupWake (chanGroup c) =
    some { kind := busKind c, source := busSource c, since := s.dev.plat.aon, check := true, listen :=
             false } ∧ (∀ g : Fin 8, g.val ≠ chanGroup c → d'.groupState g = s.dev.groupState g ∧
    d'.groupWake g = s.dev.groupWake g) ∧ d'.get F.BUS_WAKES_COUNT = satAdd F.BUS_WAKES_COUNT.width
    (s.dev.get F.BUS_WAKES_COUNT) 1) ∧
  -- (9) In SETTLE a late wake precedes.
  (∀ (s : State) (c : Fin 80) (d0 : Dev), s.dev.slp.target = none → s.dev.groupState (chanGroup c) = 2 →
    s.dev.groupWake (chanGroup c) = none → s.dev.mode ≠ 0 → s.dev.clrState = 3 → s.dev.bump
    F.BUS_WAKES_COUNT = d0 → exec (.busWake c) s = .next (s.ends ((d0.lateWake 3 c
    d0.holdReason).wakeGroups (2 ^ chanGroup c) (busKind c) (busSource c) true))) ∧
  -- (10) Bound for sleep it is latched.
  (∀ (s : State) (c : Fin 80), s.dev.slp.target ≠ none → exec (.busWake c) s = .next (s.ends
    ((s.dev.bump F.BUS_WAKES_COUNT).latchWake { kind := busKind c, source := busSource c, groups := 2 ^
                                                  chanGroup c, check := true }))) ∧
  -- (11) In M0, or of a group not ASLEEP, it has no effect.
  (∀ (s : State) (c : Fin 80), s.dev.slp.target = none → (s.dev.groupState (chanGroup c) ≠ 2 ∨
    s.dev.groupWake (chanGroup c) ≠ none ∨ s.dev.mode = 0) → exec (.busWake c) s = .next (s.ends
    (s.dev))) ∧
  -- (12) WAKE_PIN_EDGE of the edge configured wakes the groups of the pin.
  (∀ (s : State) (n : Fin 8) (rise : Bool), s.dev.flag (F.PC_WAKE_CFG_EN n) = true → (s.dev.get
    (F.PC_WAKE_CFG_EDGE n) = 2 ∨ s.dev.get (F.PC_WAKE_CFG_EDGE n) = if rise then 0 else 1) →
    s.dev.slp.target = none → s.dev.clrState ≠ 3 → exec (.wakePinEdge n rise) s = .next (s.ends
    ((s.dev.bump F.PIN_WAKES_COUNT).wakeGroups (s.dev.get (F.PC_WAKE_CFG_GROUPS n)) 3 n (s.dev.flag
    (F.PC_WAKE_CFG_CHECK n))))) ∧
  -- (13) In SETTLE a late wake precedes.
  (∀ (s : State) (n : Fin 8) (rise : Bool) (d0 : Dev), s.dev.flag (F.PC_WAKE_CFG_EN n) = true →
    (s.dev.get (F.PC_WAKE_CFG_EDGE n) = 2 ∨ s.dev.get (F.PC_WAKE_CFG_EDGE n) = if rise then 0 else 1) →
    s.dev.slp.target = none → s.dev.clrState = 3 → s.dev.bump F.PIN_WAKES_COUNT = d0 → exec
    (.wakePinEdge n rise) s = .next (s.ends ((d0.lateWake 2 n d0.holdReason).wakeGroups (s.dev.get
    (F.PC_WAKE_CFG_GROUPS n)) 3 n (s.dev.flag (F.PC_WAKE_CFG_CHECK n))))) ∧
  -- (14) Bound for sleep it is latched.
  (∀ (s : State) (n : Fin 8) (rise : Bool), s.dev.flag (F.PC_WAKE_CFG_EN n) = true → (s.dev.get
    (F.PC_WAKE_CFG_EDGE n) = 2 ∨ s.dev.get (F.PC_WAKE_CFG_EDGE n) = if rise then 0 else 1) →
    s.dev.slp.target ≠ none → exec (.wakePinEdge n rise) s = .next (s.ends ((s.dev.bump
    F.PIN_WAKES_COUNT).latchWake { kind := 3, source := n, groups := (s.dev.get (F.PC_WAKE_CFG_GROUPS
                                     n)), check := (s.dev.flag (F.PC_WAKE_CFG_CHECK n)) }))) ∧
  -- (15) Another edge, or one of a disabled pin, has no effect.
  (∀ (s : State) (n : Fin 8) (rise : Bool), (s.dev.flag (F.PC_WAKE_CFG_EN n) = false ∨ (s.dev.get
    (F.PC_WAKE_CFG_EDGE n) ≠ 2 ∧ s.dev.get (F.PC_WAKE_CFG_EDGE n) ≠ if rise then 0 else 1)) → exec
    (.wakePinEdge n rise) s = .next (s.ends (s.dev))) ∧
  -- (16) WAKE_CHECK_LISTEN after INH_LEAD_MS: the checked group listens.
  (∀ (s : State) (g : Fin 8) (w : GroupWake), s.dev.groupWake g = some w → w.check = true → w.since +
    msNs (s.dev.get F.PC_GRP_CFG_INH_LEAD_MS) ≤ s.dev.plat.aon → exec (.wakeCheckListen g) s = .next
    (s.ends (s.dev.setWake g (some { w with listen := true })))) ∧
  -- (17) WAKE_CHECK_PASS of a listening group: it is AWAKE.
  (∀ (s : State) (g : Fin 8) (w : GroupWake), s.dev.groupWake g = some w → w.check = true → w.listen =
    true → s.dev.flag F.PC_GRP_CFG_FULL_WAKE = false → s.dev.groupState g ≠ 0 → s.dev.sleeping = false →
    exec (.wakeCheckPass g) s = .next (s.ends ((((s.dev.setGroup g 0).setWake g none).raise (.pc 3)
    2).groupResume g))) ∧
  -- (18) In a sleep mode the device wakes.
  (∀ (s : State) (g : Fin 8) (w : GroupWake), s.dev.groupWake g = some w → w.check = true → w.listen =
    true → s.dev.flag F.PC_GRP_CFG_FULL_WAKE = false → s.dev.groupState g ≠ 0 → s.dev.sleeping = true →
    exec (.wakeCheckPass g) s = .next (s.ends (((s.dev.setGroup g 0).setWake g none).wakeDevice w (2 ^
    g.val)))) ∧
  -- (19) With FULL_WAKE every group is.
  (∀ (s : State) (g : Fin 8) (w : GroupWake) (woken : List Nat), s.dev.groupWake g = some w → w.check =
    true → w.listen = true → s.dev.flag F.PC_GRP_CFG_FULL_WAKE = true → s.dev.groupState g ≠ 0 →
    s.dev.sleeping = false → (List.range 8).filter (fun k => s.dev.groupState k != 0) = woken → exec
    (.wakeCheckPass g) s = .next (s.ends (woken.foldl Dev.groupResume ((woken.foldl (fun (a : Dev) k =>
    (a.setGroup k 0).setWake k none) s.dev).raise (.pc 3) 2)))) ∧
  -- (20) FALSE_WAKE after T_FALSEWAKE: the group sleeps on.
  (∀ (s : State) (g : Fin 8) (w : GroupWake) (d0 : Dev), s.dev.groupWake g = some w → w.check = true →
    w.since + msNs (s.dev.get F.CLR_TIMING2_T_FALSEWAKE_MS) ≤ s.dev.plat.aon → ((s.dev.setGroup g
    2).setWake g none).bump F.FALSE_WAKES_COUNT = d0 → exec (.falseWake g) s = .next (s.ends (if
    s.dev.sleeping then d0 else d0.raise (.pc 3) 3))) ∧
  -- (21) GROUP_AWAKE after INH_LEAD_MS: every group of a wake without a check is AWAKE.
  (∀ (s : State) (g : Fin 8) (w : GroupWake) (woken : List Nat), s.dev.groupWake g = some w → w.check =
    false → s.dev.slp.target = none → w.since + msNs (s.dev.get F.PC_GRP_CFG_INH_LEAD_MS) ≤
    s.dev.plat.aon → (List.range 8).filter (fun k => (k == g.val || s.dev.flag F.PC_GRP_CFG_FULL_WAKE ||
    s.dev.wakesWith w k) && s.dev.groupState k != 0) = woken → exec (.groupAwake g) s = .next (s.ends
    (if s.dev.sleeping then (woken.foldl (fun (a : Dev) k => (a.setGroup k 0).setWake k none)
    s.dev).wakeDevice w (woken.foldl (fun n k => n + 2 ^ k) 0) else woken.foldl Dev.groupResume
    ((woken.foldl (fun (a : Dev) k => (a.setGroup k 0).setWake k none) s.dev).raise (.pc 3) 2)))) ∧
  -- (22) A wake not there, not so checked, or not so far, is left as it is by the four.
  (∀ (s : State) (g : Fin 8), (s.dev.groupWake g = none → exec (.wakeCheckListen g) s = .next (s.ends
    (s.dev)) ∧ exec (.wakeCheckPass g) s = .next (s.ends (s.dev)) ∧ exec (.falseWake g) s = .next
    (s.ends (s.dev)) ∧ exec (.groupAwake g) s = .next (s.ends (s.dev))) ∧ ∀ w : GroupWake,
    s.dev.groupWake g = some w → ((w.check = false ∨ s.dev.plat.aon < w.since + msNs (s.dev.get
    F.PC_GRP_CFG_INH_LEAD_MS)) → exec (.wakeCheckListen g) s = .next (s.ends (s.dev))) ∧ ((w.check =
    false ∨ w.listen = false) → exec (.wakeCheckPass g) s = .next (s.ends (s.dev))) ∧ ((w.check = false
    ∨ s.dev.plat.aon < w.since + msNs (s.dev.get F.CLR_TIMING2_T_FALSEWAKE_MS)) → exec (.falseWake g) s
    = .next (s.ends (s.dev))) ∧ ((w.check = true ∨ s.dev.slp.target ≠ none ∨ s.dev.plat.aon < w.since +
    msNs (s.dev.get F.PC_GRP_CFG_INH_LEAD_MS)) → exec (.groupAwake g) s = .next (s.ends (s.dev))))

/-- What the Clearing assist does on its ring (R250, R251, R252, R254, R255, R256).
A message of the assist enters the reserved buffer of its channel; the next node of an ALIVE or
WAKE_HOLD is free. own is CLR_CFG.NODE. CLR_RING_MSG_RX brings the classical frame f of node n to the
channel c of the ring.
Log entries that say where the model chose on these rules: 140, 148, 149, 151, 152, 156, 239, 241, 242,
283, 284. -/
def Obligations.ClearingRing : Prop :=
  -- (1) CLR_JOIN, where R251 allows it: the device is the only present member, in RING, and calls with
  -- ALIVE.
  (∀ (s : State), s.dev.clrMay = true → s.dev.clr.joined = false → s.dev.clrNode < 64 → ∃ d' : Dev, exec
    (.clrJoin) s = .next (s.ends d') ∧ d'.clrState = 1 ∧ d'.clrPresent = 2 ^ s.dev.clrNode ∧ { d'.clr
    with buf := [] } = { s.dev.clr with joined := true, turn := none, sent := none, heard :=
                                          s.dev.plat.aon, lapSeen := 0, lapInd := true, acked := 0, buf
                                          := [] } ∧ d'.clr.buf.map (fun x : RingMsg × Nat => (x.1.kind,
    x.1.ind, x.1.ack, x.1.reason, x.1.lap, x.2)) = (s.dev.clr.buf.take 1).map (fun x : RingMsg × Nat =>
    (x.1.kind, x.1.ind, x.1.ack, x.1.reason, x.1.lap, x.2)) ++ [(1, s.dev.holdReason == 0, false,
    s.dev.holdReason, s.dev.get F.CLR_LAP_LAP, s.dev.canEdge64)]) ∧
  -- (2) Otherwise it changes nothing.
  (∀ (s : State), s.dev.clrMay = false ∨ s.dev.clr.joined = true → exec (.clrJoin) s = .next (s.ends
    (s.dev))) ∧
  -- (3) A message of a member keeps it present; a RING message that names the device gives it the token.
  (∀ (s : State) (n c : Fin 64) (data : List Byte) (f : CanFrame) (d0 : Dev) (m : RingMsg) (e : Dev),
    (s.dev.free (2 ^ 20)).2 = d0 → Fin.ofNat 64 (d0.get F.CLR_CFG_CHAN) = c → {
      fmt := 0, ide := d0.flag F.CLR_ID_IDE, rtr := false, id := BitVec.ofNat 29 (d0.get
        F.CLR_ID_ID_BASE + n), data := data, af := 0, sdt := 0, vcid := 0, sec := false, brs := false,
        esi := false } = f → d0.canHears c = true → d0.ringNode c f = some n.val → ringRead (d0.flag
    F.CLR_CFG_COMPAT) data = some m → (d0.clrState = 1 ∨ d0.clrState = 2) → d0.clr.joined = true →
    d0.clrMember n = true → n.val ≠ d0.clrNode → m.kind = 0 → m.next = d0.clrNode → d0.ringRx n data = e
    → ∃ d' : Dev, exec (.clrRingMsgRx n data) s = .next (s.ends d') ∧ d' = e.canFrameRx c f (s.dev.free
    (2 ^ 20)).1 ∧ e.clr.turn = some s.dev.plat.aon ∧ e.clr.heard = s.dev.plat.aon ∧ bitOf e.clrPresent n
    = true ∧ e.clr.joined = true) ∧
  -- (4) One of limp home shows its SLEEP_IND, which ends a keeper episode if it is 1 and an agreement if
  -- it is 0, and marks it absent.
  (∀ (s : State) (n c : Fin 64) (data : List Byte) (f : CanFrame) (d0 : Dev) (m : RingMsg), (s.dev.free
    (2 ^ 20)).2 = d0 → Fin.ofNat 64 (d0.get F.CLR_CFG_CHAN) = c → {
      fmt := 0, ide := d0.flag F.CLR_ID_IDE, rtr := false, id := BitVec.ofNat 29 (d0.get
        F.CLR_ID_ID_BASE + n), data := data, af := 0, sdt := 0, vcid := 0, sec := false, brs := false,
        esi := false } = f → d0.canHears c = true → d0.ringNode c f = some n.val → ringRead (d0.flag
    F.CLR_CFG_COMPAT) data = some m → (d0.clrState = 1 ∨ d0.clrState = 2) → d0.clr.joined = true →
    d0.clrMember n = true → n.val ≠ d0.clrNode → m.kind = 3 → exec (.clrRingMsgRx n data) s = .next
    (s.ends (((((d0.modClr (fun x => { x with heard := d0.plat.aon, sent := x.sent.filter (fun y => y.1
                                                != n.val) })).put (if n.val < 32 then F.CLR_IND_LO_MASK
    else F.CLR_IND_HI_MASK) (putBits (d0.get (if n.val < 32 then F.CLR_IND_LO_MASK else
    F.CLR_IND_HI_MASK)) (n % 32) 1 (boolNat m.ind))).keeperLap n m).limpHome n m.ind).canFrameRx c f
    (s.dev.free (2 ^ 20)).1))) ∧
  -- (5) In SETTLE it is a late wake first.
  (∀ (s : State) (n c : Fin 64) (data : List Byte) (f : CanFrame) (d0 : Dev) (m : RingMsg), (s.dev.free
    (2 ^ 20)).2 = d0 → Fin.ofNat 64 (d0.get F.CLR_CFG_CHAN) = c → {
      fmt := 0, ide := d0.flag F.CLR_ID_IDE, rtr := false, id := BitVec.ofNat 29 (d0.get
        F.CLR_ID_ID_BASE + n), data := data, af := 0, sdt := 0, vcid := 0, sec := false, brs := false,
        esi := false } = f → d0.canHears c = true → d0.ringNode c f = some n.val → ringRead (d0.flag
    F.CLR_CFG_COMPAT) data = some m → d0.clrState = 3 → d0.clr.joined = true → d0.clrMember n = true →
    n.val ≠ d0.clrNode → exec (.clrRingMsgRx n data) s = .next (s.ends (((d0.lateWake 4 n 0).ringHear n
    m).canFrameRx c f (s.dev.free (2 ^ 20)).1))) ∧
  -- (6) In COMMITTED it is a late request.
  (∀ (s : State) (n c : Fin 64) (data : List Byte) (f : CanFrame) (d0 : Dev) (m : RingMsg), (s.dev.free
    (2 ^ 20)).2 = d0 → Fin.ofNat 64 (d0.get F.CLR_CFG_CHAN) = c → {
      fmt := 0, ide := d0.flag F.CLR_ID_IDE, rtr := false, id := BitVec.ofNat 29 (d0.get
        F.CLR_ID_ID_BASE + n), data := data, af := 0, sdt := 0, vcid := 0, sec := false, brs := false,
        esi := false } = f → d0.canHears c = true → d0.ringNode c f = some n.val → ringRead (d0.flag
    F.CLR_CFG_COMPAT) data = some m → d0.clrState = 4 → d0.clrMember n = true → n.val ≠ d0.clrNode →
    exec (.clrRingMsgRx n data) s = .next (s.ends ((d0.lateRequest 4).canFrameRx c f (s.dev.free (2 ^
    20)).1))) ∧
  -- (7) From no member, from the own node, before joining or without a layout of R250 it does nothing to
  -- the ring.
  (∀ (s : State) (n c : Fin 64) (data : List Byte) (f : CanFrame) (d0 : Dev), (s.dev.free (2 ^ 20)).2 =
    d0 → Fin.ofNat 64 (d0.get F.CLR_CFG_CHAN) = c → {
      fmt := 0, ide := d0.flag F.CLR_ID_IDE, rtr := false, id := BitVec.ofNat 29 (d0.get
        F.CLR_ID_ID_BASE + n), data := data, af := 0, sdt := 0, vcid := 0, sec := false, brs := false,
        esi := false } = f → d0.canHears c = true → d0.ringNode c f = some n.val → (ringRead (d0.flag
    F.CLR_CFG_COMPAT) data = none ∨ d0.clrMember n = false ∨ n.val = d0.clrNode ∨ (d0.clr.joined = false
    ∧ d0.clrState ≠ 4)) → exec (.clrRingMsgRx n data) s = .next (s.ends (d0.canFrameRx c f (s.dev.free
    (2 ^ 20)).1))) ∧
  -- (8) On a channel that receives nothing neither ring nor filter sees it.
  (∀ (s : State) (n c : Fin 64) (data : List Byte) (f : CanFrame) (d0 : Dev), (s.dev.free (2 ^ 20)).2 =
    d0 → Fin.ofNat 64 (d0.get F.CLR_CFG_CHAN) = c → {
      fmt := 0, ide := d0.flag F.CLR_ID_IDE, rtr := false, id := BitVec.ofNat 29 (d0.get
        F.CLR_ID_ID_BASE + n), data := data, af := 0, sdt := 0, vcid := 0, sec := false, brs := false,
        esi := false } = f → d0.canHears c = false → exec (.clrRingMsgRx n data) s = .next (s.ends
    (d0.canFrameRx c f (s.dev.free (2 ^ 20)).1))) ∧
  -- (9) CLR_TOKEN_SEND, RING_PERIOD after the token came: the RING message to the next present member,
  -- with CONSENT, and its acknowledgement in ACK.
  (∀ (s : State) (t : Nat), s.dev.ringing = true → s.dev.clr.turn = some t → t + s.dev.clrPeriod ≤
    s.dev.plat.aon → (nodesOf s.dev.clrPresent).head? ≠ some s.dev.clrNode → exec (.clrTokenSend) s =
    .next (s.ends (s.dev.modClr (fun c => { c with
      buf := c.buf.take 1 ++ [({ kind := 0, next := nextNode s.dev.clrPresent s.dev.clrNode, ind :=
                                   s.dev.flag F.CLR_STAT_CONSENT, ack := s.dev.clrState == 2 &&
                                   s.dev.flag F.CLR_STAT_CONSENT, reason := s.dev.get F.CLR_STAT_REASON,
                                   lap := s.dev.get F.CLR_LAP_LAP }, s.dev.canEdge64)], sent := none,
        turn := none })))) ∧
  -- (10) The lowest present member begins a lap.
  (∀ (s : State) (t : Nat), s.dev.ringing = true → s.dev.clr.turn = some t → t + s.dev.clrPeriod ≤
    s.dev.plat.aon → (nodesOf s.dev.clrPresent).head? = some s.dev.clrNode → exec (.clrTokenSend) s =
    .next (s.ends ((s.dev.put F.CLR_LAP_LAP (s.dev.get F.CLR_LAP_LAP + 1)).modClr (fun c => { c with
      buf := c.buf.take 1 ++ [({ kind := 0, next := nextNode s.dev.clrPresent s.dev.clrNode, ind :=
                                   s.dev.flag F.CLR_STAT_CONSENT, ack := s.dev.clrState == 2 &&
                                   s.dev.flag F.CLR_STAT_CONSENT, reason := s.dev.get F.CLR_STAT_REASON,
                                   lap := (s.dev.get F.CLR_LAP_LAP + 1) % 2 ^ 16 }, s.dev.canEdge64)],
        sent := none, turn := none, lapSeen := 0, lapInd := true })))) ∧
  -- (11) Without a due token nothing is sent.
  (∀ (s : State), s.dev.ringing = false ∨ s.dev.clr.turn.any (fun t => decide (t + s.dev.clrPeriod ≤
    s.dev.plat.aon)) = false → exec (.clrTokenSend) s = .next (s.ends (s.dev))) ∧
  -- (12) CLR_SKIP, two periods after a RING message without answer: the node is absent, and the next
  -- takes its turn.
  (∀ (s : State) (n t : Nat) (d1 : Dev), s.dev.ringing = true → s.dev.clr.sent = some (n, t) → t + 2 *
    s.dev.clrPeriod ≤ s.dev.plat.aon → (((s.dev.bump F.RING_SKIPS_COUNT).raise (.pc 4) 5).keeperEnd
    n).markAbsent n = d1 → exec (.clrSkip) s = .next (s.ends (if d1.ringing then d1.ringTurn else d1)))
    ∧
  -- (13) Otherwise it does nothing.
  (∀ (s : State), s.dev.ringing = false ∨ s.dev.clr.sent.any (fun x => decide (x.2 + 2 * s.dev.clrPeriod
    ≤ s.dev.plat.aon)) = false → exec (.clrSkip) s = .next (s.ends (s.dev))) ∧
  -- (14) CLR_LOST_TOKEN, after a silence of present members + 1 periods: ALIVE, and the device takes the
  -- token.
  (∀ (s : State), s.dev.clr.joined = true → s.dev.clrState = 1 → s.dev.clr.heard + ((nodesOf
    s.dev.clrPresent).length + 1) * s.dev.clrPeriod ≤ s.dev.plat.aon → exec (.clrLostToken) s = .next
    (s.ends ((s.dev.ringCall 1 (s.dev.get F.CLR_STAT_REASON)).modClr (fun c => { c with
      heard := s.dev.plat.aon, turn := some s.dev.plat.aon })))) ∧
  -- (15) In ACK it returns to RING as well.
  (∀ (s : State), s.dev.clr.joined = true → s.dev.clrState = 2 → s.dev.clr.heard + ((nodesOf
    s.dev.clrPresent).length + 1) * s.dev.clrPeriod ≤ s.dev.plat.aon → exec (.clrLostToken) s = .next
    (s.ends (((s.dev.ringCall 1 (s.dev.get F.CLR_STAT_REASON)).toRing).modClr (fun c => { c with
      heard := s.dev.plat.aon, turn := some s.dev.plat.aon })))) ∧
  -- (16) Otherwise it does nothing.
  (∀ (s : State), s.dev.ringing = false ∨ ¬ s.dev.clr.heard + ((nodesOf s.dev.clrPresent).length + 1) *
    s.dev.clrPeriod ≤ s.dev.plat.aon → exec (.clrLostToken) s = .next (s.ends (s.dev))) ∧
  -- (17) CLR_COMMIT after T_SETTLE in SETTLE: COMMITTED, and the device is bound for M0 or M1 by TARGET.
  (∀ (s : State), s.dev.clr.joined = true → s.dev.clrState = 3 → s.dev.clr.settle + msNs (s.dev.get
    F.CLR_TIMING_T_SETTLE_MS) ≤ s.dev.plat.aon → exec (.clrCommit) s = .next (s.ends (((s.dev.put
    F.CLR_STAT_STATE 4).modClr (fun c => { c with joined := false, buf := [] })).beginSleep (if
    s.dev.flag F.CLR_CFG_TARGET then 0 else 1) none))) ∧
  -- (18) Before it, or in another state, nothing.
  (∀ (s : State), s.dev.clr.joined = false ∨ s.dev.clrState ≠ 3 ∨ ¬ s.dev.clr.settle + msNs (s.dev.get
    F.CLR_TIMING_T_SETTLE_MS) ≤ s.dev.plat.aon → exec (.clrCommit) s = .next (s.ends (s.dev)))

/-- Holds of the Clearing assist (R253, R255).
CLR_WAKE_HOLD, CLR_GV_HOLD_SET and CLR_GV_HOLD_RELEASE are writes that reach the device d.
Log entries that say where the model chose on these rules: 150, 151, 154, 155, 156, 242. -/
def Obligations.ClearingHolds : Prop :=
  -- (1) CLR_WAKE_HOLD in RING sends a WAKE_HOLD message.
  (∀ (s : State) (i : Init) (d : Dev), s.dev.reaches i (R.CLR_CMD) = some d → d.lockedWrite (R.CLR_CMD)
    (1) = false → d.clr.joined = true → d.clrState = 1 → exec (.clrWakeHold i) s = .next (s.ends
    (d.ringCall 2 (d.get F.CLR_STAT_REASON)))) ∧
  -- (2) In ACK it returns to RING as well.
  (∀ (s : State) (i : Init) (d : Dev), s.dev.reaches i (R.CLR_CMD) = some d → d.lockedWrite (R.CLR_CMD)
    (1) = false → d.clr.joined = true → d.clrState = 2 → exec (.clrWakeHold i) s = .next (s.ends
    ((d.ringCall 2 (d.get F.CLR_STAT_REASON)).toRing))) ∧
  -- (3) In SETTLE it is a late wake with cause 1.
  (∀ (s : State) (i : Init) (d : Dev), s.dev.reaches i (R.CLR_CMD) = some d → d.lockedWrite (R.CLR_CMD)
    (1) = false → d.clr.joined = true → d.clrState = 3 → exec (.clrWakeHold i) s = .next (s.ends
    (d.lateWake 1 1 1))) ∧
  -- (4) In COMMITTED it is a late request.
  (∀ (s : State) (i : Init) (d : Dev), s.dev.reaches i (R.CLR_CMD) = some d → d.lockedWrite (R.CLR_CMD)
    (1) = false → d.clr.joined = false → d.clrState = 4 → exec (.clrWakeHold i) s = .next (s.ends
    (d.lateRequest 1))) ∧
  -- (5) Outside the ring it has no effect.
  (∀ (s : State) (i : Init) (d : Dev), s.dev.reaches i (R.CLR_CMD) = some d → d.lockedWrite (R.CLR_CMD)
    (1) = false → d.clr.joined = false → d.clrState ≠ 4 → exec (.clrWakeHold i) s = .next (s.ends (d)))
    ∧
  -- (6) CLR_GV_HOLD_SET sets the bits written 1 and restarts their timers: bits 0 to 31.
  (∀ (s : State) (i : Init) (v : Word) (d : Dev), s.dev.reaches i (R.CLR_GV_HOLD_LO) = some d →
    d.lockedWrite (R.CLR_GV_HOLD_LO) (v) = false → ∃ d' : Dev, exec (.clrGvHoldSet i false v) s = .next
    (s.ends d') ∧ d'.get F.CLR_GV_HOLD_LO_MASK = Nat.lor (d.get F.CLR_GV_HOLD_LO_MASK) v.toNat ∧ (∀ k :
    Fin 32, tget d'.clr.holds k = if bitOf v.toNat k then d.plat.aon else tget d.clr.holds k) ∧ ∀ a, a ≠
    R.CLR_GV_HOLD_LO → d'.word a = d.word a) ∧
  -- (7) Bits 32 to 63.
  (∀ (s : State) (i : Init) (v : Word) (d : Dev), s.dev.reaches i (R.CLR_GV_HOLD_HI) = some d →
    d.lockedWrite (R.CLR_GV_HOLD_HI) (v) = false → ∃ d' : Dev, exec (.clrGvHoldSet i true v) s = .next
    (s.ends d') ∧ d'.get F.CLR_GV_HOLD_HI_MASK = Nat.lor (d.get F.CLR_GV_HOLD_HI_MASK) v.toNat ∧ (∀ k :
    Fin 32, tget d'.clr.holds (32 + k) = if bitOf v.toNat k then d.plat.aon else tget d.clr.holds (32 +
    k)) ∧ ∀ a, a ≠ R.CLR_GV_HOLD_HI → d'.word a = d.word a) ∧
  -- (8) CLR_GV_HOLD_RELEASE clears them: bits 0 to 31.
  (∀ (s : State) (i : Init) (v : Word) (d : Dev), s.dev.reaches i (R.CLR_GV_REL_LO) = some d →
    d.lockedWrite (R.CLR_GV_REL_LO) (v) = false → ∃ d' : Dev, exec (.clrGvHoldRelease i false v) s =
    .next (s.ends d') ∧ (∀ k : Fin 32, bitOf (d'.get F.CLR_GV_HOLD_LO_MASK) k = (bitOf (d.get
    F.CLR_GV_HOLD_LO_MASK) k && !bitOf v.toNat k)) ∧ d'.clr = d.clr ∧ ∀ a, a ≠ R.CLR_GV_HOLD_LO →
    d'.word a = d.word a) ∧
  -- (9) Bits 32 to 63.
  (∀ (s : State) (i : Init) (v : Word) (d : Dev), s.dev.reaches i (R.CLR_GV_REL_HI) = some d →
    d.lockedWrite (R.CLR_GV_REL_HI) (v) = false → ∃ d' : Dev, exec (.clrGvHoldRelease i true v) s =
    .next (s.ends d') ∧ (∀ k : Fin 32, bitOf (d'.get F.CLR_GV_HOLD_HI_MASK) k = (bitOf (d.get
    F.CLR_GV_HOLD_HI_MASK) k && !bitOf v.toNat k)) ∧ d'.clr = d.clr ∧ ∀ a, a ≠ R.CLR_GV_HOLD_HI →
    d'.word a = d.word a) ∧
  -- (10) CLR_GV_HOLD_LAPSE clears a bit that has not been set for NM_TIMEOUT: bits 0 to 31.
  (∀ (s : State) (b : Fin 64), b.val < 32 → bitOf (s.dev.get F.CLR_GV_HOLD_LO_MASK) b = true → tget
    s.dev.clr.holds b + msNs (s.dev.get F.CLR_NM_TIMEOUT_MS) ≤ s.dev.plat.aon → exec (.clrGvHoldLapse b)
    s = .next (s.ends (s.dev.put F.CLR_GV_HOLD_LO_MASK (clrBit (s.dev.get F.CLR_GV_HOLD_LO_MASK) b)))) ∧
  -- (11) Bits 32 to 63.
  (∀ (s : State) (b : Fin 64), 32 ≤ b.val → bitOf (s.dev.get F.CLR_GV_HOLD_HI_MASK) (b - 32) = true →
    tget s.dev.clr.holds b + msNs (s.dev.get F.CLR_NM_TIMEOUT_MS) ≤ s.dev.plat.aon → exec
    (.clrGvHoldLapse b) s = .next (s.ends (s.dev.put F.CLR_GV_HOLD_HI_MASK (clrBit (s.dev.get
    F.CLR_GV_HOLD_HI_MASK) (b - 32))))) ∧
  -- (12) Before it nothing lapses.
  (∀ (s : State) (b : Fin 64), ¬ tget s.dev.clr.holds b + msNs (s.dev.get F.CLR_NM_TIMEOUT_MS) ≤
    s.dev.plat.aon → exec (.clrGvHoldLapse b) s = .next (s.ends (s.dev)))

/-- What the reset sources and the releases of held resets do (R261, R262, R263, R266, R267, R268, R348,
R356, R357, R358).
POR_ASSERT and SUPPLY_FAULT say whether a pulse of the Chamber writer is cut. SW_RESET_COLD and
SW_RESET_WARM are writes of PC_RST_CMD that reach the device d, with no OTP command in progress.
Log entries that say where the model chose on these rules: 18, 126, 127, 140, 176, 177, 179, 180, 191,
192, 244, 245, 258, 285, 286, 306. -/
def Obligations.ResetCommands : Prop :=
  -- (1) POR_ASSERT empties all but what MRAM and OTP keep, and holds the device.
  (∀ (s : State) (cut : Bool), s.dev.sc.run = none → ∃ d' : Dev, exec (.porAssert cut) s = .next (s.ends
    d') ∧ d'.plat.porLow = true ∧ d'.plat.relStep = 0 ∧ d'.mode = 3 ∧ d'.chan = [] ∧ d'.gv = {} ∧
    d'.sc.otp = s.dev.sc.otp ∧ d'.sc.ids = s.dev.sc.ids ∧ d'.sc.vault = s.dev.sc.vault ∧ d'.plat.boot =
    s.dev.plat.boot ∧ d'.get F.CH_HEAD_SEQ = s.dev.get F.CH_HEAD_SEQ ∧ d'.get F.PC_BOOT_REC_FLAGS =
    s.dev.plat.boot.flags % 16) ∧
  -- (2) POR_RELEASE samples the straps; a supply out of range, or not yet in range for 1 ms, holds the
  -- device with its source.
  (∀ (s : State) (straps : Fin 16) (testen : Bool), s.dev.plat.porLow = true → exec (.porRelease straps
    testen) s = .next (s.ends ((if s.dev.plat.inRange = 0x1FF ∧ s.dev.plat.fresh = [] then ((s.dev.put
    F.PC_STRAP_CLKSEL (straps / 4)).put F.PC_STRAP_BOOTSEL straps) else ((s.dev.put F.PC_STRAP_CLKSEL
    (straps / 4)).put F.PC_STRAP_BOOTSEL straps).rstSources 0x080).modPlat (fun p => { p with
      porLow := false, testen, supply := p.inRange != 0x1FF || !p.fresh.isEmpty })))) ∧
  -- (3) With PORn high it does nothing.
  (∀ (s : State) (straps : Fin 16) (testen : Bool), s.dev.plat.porLow = false → exec (.porRelease straps
    testen) s = .next (s.ends (s.dev))) ∧
  -- (4) RSTN_ASSERT holds the device and resets it, cold or warm by RSTN_WARM.
  (∀ (s : State), s.dev.plat.rstLow = false → exec (.rstnAssert) s = .next (s.ends ((s.dev.resetReq
    (s.dev.flag F.PC_RST_CFG_RSTN_WARM) 0x002).modPlat (fun p => { p with
      rstLow := true })))) ∧
  -- (5) Asserted again it does nothing.
  (∀ (s : State), s.dev.plat.rstLow = true → exec (.rstnAssert) s = .next (s.ends (s.dev))) ∧
  -- (6) RSTN_RELEASE ends the hold.
  (∀ (s : State), exec (.rstnRelease) s = .next (s.ends (s.dev.modPlat (fun p => { p with
      rstLow := false })))) ∧
  -- (7) SW_RESET_COLD with the key starts a cold reset with its source.
  (∀ (s : State) (i : Init) (key : BitVec 16) (d : Dev), s.dev.reaches i (R.PC_RST_CMD) = some d →
    d.lockedWrite (R.PC_RST_CMD) ((cmdWord [(F.PC_RST_CMD_KEY, key.toNat), (F.PC_RST_CMD_COLD, 1)])) =
    false → key = 0x5AC3 → d.plat.porLow = false → d.sc.run = none → d.powering = false → ∃ d' : Dev,
    exec (.swResetCold i key) s = .next (s.ends d') ∧ d'.plat.relStep = 0 ∧ d'.get F.PC_RST_CAUSE_KIND =
    2 ∧ bitOf (d'.get F.PC_RST_CAUSE_SOURCES) 3 = true ∧ d'.mode = 3 ∧ d'.chan = [] ∧ d'.gv = {} ∧
    d'.slp.live = false ∧ d'.slp.inhLive = 0 ∧ d'.sc.otp = d.sc.otp ∧ d'.plat.boot = d.plat.boot ∧
    d'.plat.aon = d.plat.aon) ∧
  -- (8) During the release of a power-on reset the heavier KIND 1 stands.
  (∀ (s : State) (i : Init) (key : BitVec 16) (d : Dev), s.dev.reaches i (R.PC_RST_CMD) = some d →
    d.lockedWrite (R.PC_RST_CMD) ((cmdWord [(F.PC_RST_CMD_KEY, key.toNat), (F.PC_RST_CMD_COLD, 1)])) =
    false → key = 0x5AC3 → d.plat.porLow = false → d.sc.run = none → d.powering = true → ∃ d' : Dev,
    exec (.swResetCold i key) s = .next (s.ends d') ∧ d'.plat.relStep = 0 ∧ d'.get F.PC_RST_CAUSE_KIND =
    1 ∧ bitOf (d'.get F.PC_RST_CAUSE_SOURCES) 3 = true ∧ d'.mode = 3) ∧
  -- (9) SW_RESET_WARM with the key starts a warm one where boot step 15 has been reached.
  (∀ (s : State) (i : Init) (key : BitVec 16) (d : Dev), s.dev.reaches i (R.PC_RST_CMD) = some d →
    d.lockedWrite (R.PC_RST_CMD) ((cmdWord [(F.PC_RST_CMD_KEY, key.toNat), (F.PC_RST_CMD_WARM, 1)])) =
    false → key = 0x5AC3 → d.plat.porLow = false → d.sc.run = none → d.sleeping = false → d.flag
    F.BOOT_STEP_DONE = true → d.clrState < 3 → ∃ d' : Dev, exec (.swResetWarm i key) s = .next (s.ends
    d') ∧ d'.plat.warmStep = 0 ∧ d'.plat.warm = true ∧ d'.plat.relStep = d.plat.relStep ∧ d'.get
    F.PC_RST_CAUSE_KIND = 3 ∧ bitOf (d'.get F.PC_RST_CAUSE_SOURCES) 4 = true ∧ d'.mode = 3 ∧ d'.bootStep
    = 5 ∧ d'.chan = [] ∧ d'.plat.aon = d.plat.aon ∧ d'.tl.ns = d.tl.ns) ∧
  -- (10) Before it, or in a sleep mode, it is promoted to a cold one.
  (∀ (s : State) (i : Init) (key : BitVec 16) (d : Dev), s.dev.reaches i (R.PC_RST_CMD) = some d →
    d.lockedWrite (R.PC_RST_CMD) ((cmdWord [(F.PC_RST_CMD_KEY, key.toNat), (F.PC_RST_CMD_WARM, 1)])) =
    false → key = 0x5AC3 → d.plat.porLow = false → d.sc.run = none → (d.sleeping = true ∨ d.flag
    F.BOOT_STEP_DONE = false) → d.powering = false → ∃ d' : Dev, exec (.swResetWarm i key) s = .next
    (s.ends d') ∧ d'.plat.relStep = 0 ∧ d'.get F.PC_RST_CAUSE_KIND = 2 ∧ d'.flag F.PC_RST_CAUSE_PROMOTED
    = true ∧ d'.mode = 3 ∧ d'.chan = []) ∧
  -- (11) After the commit of a sleep it is a late request.
  (∀ (s : State) (i : Init) (key : BitVec 16) (d : Dev) (e : Dev), s.dev.reaches i (R.PC_RST_CMD) = some
    d → d.lockedWrite (R.PC_RST_CMD) ((cmdWord [(F.PC_RST_CMD_KEY, key.toNat), (F.PC_RST_CMD_WARM, 1)]))
    = false → key = 0x5AC3 → d.plat.porLow = false → d.sc.run = none → d.sleeping = false → d.flag
    F.BOOT_STEP_DONE = true → d.clrState = 4 → (d.otpCut).chPulseEnds = e → exec (.swResetWarm i key) s
    = .next (s.ends ((e.rstSources 0x010).lateRequest 5))) ∧
  -- (12) Without the key both are refused with RESET_KEY.
  (∀ (s : State) (i : Init) (key : BitVec 16) (d : Dev), s.dev.reaches i R.PC_RST_CMD = some d →
    d.lockedWrite R.PC_RST_CMD (cmdWord [(F.PC_RST_CMD_KEY, key.toNat), (F.PC_RST_CMD_COLD, 1)]) = false
    → d.lockedWrite R.PC_RST_CMD (cmdWord [(F.PC_RST_CMD_KEY, key.toNat), (F.PC_RST_CMD_WARM, 1)]) =
    false → key ≠ 0x5AC3 → exec (.swResetCold i key) s = .next (s.ends (d.failWrite i R.PC_RST_CMD
    (cmdWord [(F.PC_RST_CMD_KEY, key.toNat), (F.PC_RST_CMD_COLD, 1)]) 0x0126)) ∧ exec (.swResetWarm i
    key) s = .next (s.ends (d.failWrite i R.PC_RST_CMD (cmdWord [(F.PC_RST_CMD_KEY, key.toNat),
    (F.PC_RST_CMD_WARM, 1)]) 0x0126))) ∧
  -- (13) LOCKSTEP_MISMATCH of released cores in lockstep is reported.
  (∀ (s : State), s.dev.released (.mc 0) = true → s.dev.flag F.MC_CORE_LOCKSTEP = true → exec
    (.lockstepMismatch) s = .next (s.ends (s.dev.report 0 0))) ∧
  -- (14) Otherwise it is not seen.
  (∀ (s : State), s.dev.released (.mc 0) = false ∨ s.dev.flag F.MC_CORE_LOCKSTEP = false → exec
    (.lockstepMismatch) s = .next (s.ends (s.dev))) ∧
  -- (15) THERMAL_RESET holds the device and starts a cold reset; while it holds, another does nothing.
  (∀ (s : State), exec (.thermalReset) s = .next (s.ends (if s.dev.plat.thermal then s.dev else
    (s.dev.resetReq false 0x040).modPlat (fun p => { p with
      thermal := true, hot := true })))) ∧
  -- (16) SUPPLY_FAULT of a watched supply starts a cold reset and holds the device.
  (∀ (s : State) (k : Fin 9) (cut : Bool) (e : Dev), k ≠ 1 → k ≠ 8 → s.dev.plat.porLow = false →
    s.dev.unwatched k = false → (if cut then s.dev.chPulseCut else s.dev).otpCut = e → exec
    (.supplyFault k cut) s = .next (s.ends ((e.coldNow 0x080).modPlat (fun p => { p with
      supply := true, inRange := clrBit p.inRange k, fresh := p.fresh.filter (fun x => x.1 != k.val)
        })))) ∧
  -- (17) That of the internal always-on regulator is a power-on reset.
  (∀ (s : State) (cut : Bool), s.dev.plat.porLow = false → exec (.supplyFault 8 cut) s = .next (s.ends
    ((s.dev.powerOn cut).modPlat (fun p => { p with
      porLow := true, inRange := clrBit p.inRange 8, fresh := p.fresh.filter (fun x => x.1 != 8) })))) ∧
  -- (18) Under PORn, or of a supply that the board may remove in M0 and M1, it is only noted; supply 1
  -- resets nothing.
  (∀ (s : State) (k : Fin 9) (cut : Bool), k = 1 ∨ s.dev.plat.porLow = true ∨ s.dev.unwatched k = true →
    exec (.supplyFault k cut) s = .next (s.ends (if k = 1 then s.dev else s.dev.modPlat (fun p => { p
    with inRange := clrBit p.inRange k, fresh := p.fresh.filter (fun x => x.1 != k.val) })))) ∧
  -- (19) HELD_RESET_RELEASE ends the thermal hold.
  (∀ (s : State), exec (.heldResetRelease true) s = .next (s.ends (s.dev.modPlat (fun p => { p with
      thermal := false, hot := p.hot && !p.thermal })))) ∧
  -- (20) It ends the hold of the supplies, the removed ones included.
  (∀ (s : State), exec (.heldResetRelease false) s = .next (s.ends (if s.dev.plat.supply ||
    s.dev.plat.removed then s.dev.modPlat (fun p => { p with
      supply := false, removed := false, inRange := 0x1FF, fresh := [] }) else s.dev)))

/-- What the release steps and the boot steps do (R41, R56, R264, R265, R268, R269, R270, R271, R272, R282,
R285, R290).
A step acts on a device that nothing holds and that does not sleep; a boot step before DONE. id is the
identity block; BOOT_STEP_PASS brings what the model does not know of flash. BOOT_CLR and HBOOT_START
are writes that reach the device d.
Log entries that say where the model chose on these rules: 18, 29, 128, 158, 161, 174, 175, 185, 214,
245, 246, 290, 300. -/
def Obligations.ReleaseAndBoot : Prop :=
  -- (1) RELEASE_STEP 1 shows the monitors and the last failure.
  (∀ (s : State), s.dev.held = false → s.dev.sleeping = false → s.dev.plat.relStep = 0 → ∃ d' : Dev,
    exec (.releaseStep) s = .next (s.ends d') ∧ d'.plat.relStep = 1 ∧ d'.get F.PC_MON_STAT_SUPPLY_OK =
    s.dev.plat.inRange % 512 ∧ d'.flag F.PC_MON_STAT_THERM_WARN = s.dev.plat.hot ∧ d'.get
    F.BOOT_STEP_FAIL_STEP = s.dev.plat.boot.lastFail % 16 ∧ d'.plat.rstRecord = false ∧ d'.plat.rstOlder
    = []) ∧
  -- (2) 2 locks the PLLs but those bypassed.
  (∀ (s : State) (b : Nat), s.dev.held = false → s.dev.sleeping = false → s.dev.plat.relStep = 1 →
    s.dev.plat.removed = false → s.dev.stuck = false → (if bitOf s.dev.plat.boot.flags 0 then
    s.dev.plat.boot.plls else 0) = b → ∃ d' : Dev, exec (.releaseStep) s = .next (s.ends d') ∧
    d'.plat.relStep = 2 ∧ d'.plat.bypass = b ∧ d'.get F.PC_PLL_STAT_LOCK = 31 - Nat.land b 31 ∧ d'.get
    F.PC_PLL_STAT_SDS_LOCK = 15 - Nat.land (b / 256) 15 ∧ d'.get F.PC_PLL_STAT_BYPASS = b % 32 ∧ d'.flag
    F.TL_BASE_STAT_TPLL_LOCK = !bitOf b 2) ∧
  -- (3) 3 loads options and calibration page.
  (∀ (s : State) (d0 : Dev), s.dev.held = false → s.dev.sleeping = false → s.dev.plat.relStep = 2 →
    (s.dev.modPlat (fun p => { p with relStep := 3 })).copyHeal = d0 → ∃ d' : Dev, exec (.releaseStep) s
    = .next (s.ends d') ∧ d'.plat.relStep = 3 ∧ (d0.optInUse = none → d'.get F.PC_OPT_STAT_COPY = 3) ∧
    (d0.calInUse = none → d'.flag F.TL_BASE_STAT_CAL_BAD = true ∧ d'.tl.dlyCal = []) ∧ ∀ (k : Nat) (c :
    MramCopy), (d0.optInUse = some (k, c) → k < 2 ∧ d'.get F.PC_OPT_STAT_COPY = k ∧ d'.flag
    F.PC_OPT_STAT_DONE = true ∧ d'.plat.options = c.words) ∧ (d0.calInUse = some (k, c) → d'.flag
    F.TL_BASE_STAT_CAL_BAD = false ∧ d'.tl.dlyCal = calDelays c.words)) ∧
  -- (4) 4 decodes OTP.
  (∀ (s : State), s.dev.held = false → s.dev.sleeping = false → s.dev.plat.relStep = 3 → s.dev.flag
    F.PC_OPT_STAT_DONE = true → s.dev.otpValid = true → exec (.releaseStep) s = .next (s.ends
    ((s.dev.modPlat (fun p => { p with relStep := 4 })).otpDecode (idBlock s.id)))) ∧
  -- (5) A fuse pattern of no state is not decoded.
  (∀ (s : State), s.dev.held = false → s.dev.sleeping = false → s.dev.plat.relStep = 3 → s.dev.flag
    F.PC_OPT_STAT_DONE = true → s.dev.otpValid = false → exec (.releaseStep) s = .next (s.ends
    ((s.dev.modPlat (fun p => { p with relStep := 4 }))))) ∧
  -- (6) 5 releases the management cores.
  (∀ (s : State), s.dev.held = false → s.dev.sleeping = false → s.dev.plat.relStep = 4 → s.dev.otpValid
    = true → exec (.releaseStep) s = .next (s.ends ((((s.dev.modPlat (fun p => { p with
      relStep := 5 })).put F.MC_CORE_LOCKSTEP 1).put F.MC_CORE_TCM_READY 1).put F.MC_CORE_FW_STATE 1)))
    ∧
  -- (7) 7 starts Base time at 0.
  (∀ (s : State), s.dev.held = false → s.dev.sleeping = false → s.dev.plat.relStep = 6 → ∃ d' : Dev,
    exec (.releaseStep) s = .next (s.ends d') ∧ d'.plat.relStep = 7 ∧ d'.tl.running = true ∧ d'.tl.ns =
    0 ∧ d'.tl.ticks = 0 ∧ d'.flag F.TL_BASE_STAT_RUNNING = true ∧ ∀ a, a ≠ R.TL_BASE_STAT → d'.word a =
    s.dev.word a) ∧
  -- (8) 11 releases Grove; a mode left other than M3 gets its MODE record.
  (∀ (s : State), s.dev.held = false → s.dev.sleeping = false → s.dev.plat.relStep = 10 → exec
    (.releaseStep) s = .next (s.ends (if s.dev.plat.modeLeft = 3 then (s.dev.modPlat (fun p => { p with
      relStep := 11 })).releaseGrove else ((s.dev.modPlat (fun p => { p with
      relStep := 11 })).releaseGrove.modPlat (fun p => { p with
      modeLeft := 3 })).modeRecord s.dev.plat.modeLeft 3 1 15))) ∧
  -- (9) 6, 8, 9 and 10 only count.
  (∀ (s : State) (k : Nat), s.dev.held = false → s.dev.sleeping = false → s.dev.plat.relStep + 1 = k →
    (k = 6 ∨ k = 8 ∨ k = 9 ∨ k = 10) → exec (.releaseStep) s = .next (s.ends (s.dev.modPlat (fun p => {
    p with relStep := k })))) ∧
  -- (10) Held, asleep or complete no step is taken; step 2 waits for supplies removed and stays out with
  -- CLKSEL 3 or TESTEN, 4 for options, 5 for a lifecycle.
  (∀ (s : State), (s.dev.held = true ∨ s.dev.sleeping = true ∨ 11 ≤ s.dev.plat.relStep ∨
    (s.dev.plat.relStep = 1 ∧ (s.dev.plat.removed = true ∨ s.dev.get F.PC_STRAP_CLKSEL = 3 ∨
    s.dev.plat.testen = true)) ∨ (s.dev.plat.relStep = 3 ∧ s.dev.flag F.PC_OPT_STAT_DONE = false) ∨
    (s.dev.plat.relStep = 4 ∧ s.dev.otpValid = false)) → exec (.releaseStep) s = .next (s.ends (s.dev)))
    ∧
  -- (11) WARM_RELEASE_STEP 1 shows what MRAM holds.
  (∀ (s : State), s.dev.held = false → 11 ≤ s.dev.plat.relStep → s.dev.plat.warmStep = 0 → exec
    (.warmReleaseStep) s = .next (s.ends (((s.dev.modPlat (fun p => { p with
      warmStep := 1 })).copyHeal).mramShow))) ∧
  -- (12) 3, 4 and 5 count.
  (∀ (s : State) (k : Nat), s.dev.held = false → 11 ≤ s.dev.plat.relStep → s.dev.plat.warmStep + 1 = k →
    (k = 3 ∨ k = 4 ∨ k = 5) → exec (.warmReleaseStep) s = .next (s.ends (s.dev.modPlat (fun p => { p
    with warmStep := k })))) ∧
  -- (13) 2 releases the management cores.
  (∀ (s : State) (k : Nat), s.dev.held = false → 11 ≤ s.dev.plat.relStep → s.dev.plat.warmStep + 1 = k →
    k = 2 → exec (.warmReleaseStep) s = .next (s.ends ((((s.dev.modPlat (fun p => { p with
      warmStep := 2 })).put F.MC_CORE_LOCKSTEP 1).put F.MC_CORE_TCM_READY 1).put F.MC_CORE_FW_STATE 1)))
    ∧
  -- (14) 6 releases Grove.
  (∀ (s : State) (k : Nat), s.dev.held = false → 11 ≤ s.dev.plat.relStep → s.dev.plat.warmStep + 1 = k →
    k = 6 → exec (.warmReleaseStep) s = .next (s.ends ((s.dev.modPlat (fun p => { p with
      warmStep := 6, gvAt := some p.aon })).put F.PC_MODE_BUSY 0))) ∧
  -- (15) Otherwise nothing.
  (∀ (s : State), (s.dev.held = true ∨ s.dev.plat.relStep < 11 ∨ 6 ≤ s.dev.plat.warmStep) → exec
    (.warmReleaseStep) s = .next (s.ends (s.dev))) ∧
  -- (16) BOOT_STEP_PASS of a step before 10 whose condition holds; a warm start goes from 5 to 10. At 10
  -- of a start from a Sapling EP0 is enabled.
  (∀ (s : State) (read : List Byte) (k : Nat), s.dev.held = false → s.dev.sleeping = false → s.dev.flag
    F.BOOT_STEP_DONE = false → s.dev.bootStep = k → k < 10 → s.dev.bootReady k = true → exec
    (.bootStepPass read) s = .next (s.ends ((s.dev.put F.BOOT_STEP_STEP (if s.dev.plat.warm && k == 5
    then 10 else k + 1)).romPort))) ∧
  -- (17) 10 takes the image.
  (∀ (s : State) (read : List Byte) (x : List Byte) (path : Nat), s.dev.held = false → s.dev.sleeping =
    false → s.dev.flag F.BOOT_STEP_DONE = false → s.dev.bootStep = 10 → s.dev.bootFetch read = some (x,
    path) → exec (.bootStepPass read) s = .next (s.ends (((s.dev.put F.PC_BOOT_PATH_IMAGE path).put
    F.BOOT_STEP_STEP 11).modPlat (fun p => { p with
      image := some x })))) ∧
  -- (18) 11 passes a verified image and shows its key and header.
  (∀ (s : State) (read : List Byte) (x : List Byte) (key : Nat), s.dev.held = false → s.dev.sleeping =
    false → s.dev.flag F.BOOT_STEP_DONE = false → s.dev.bootStep = 11 → s.dev.plat.image = some x →
    s.dev.imageVerified x s.dev.bootKind = some key → exec (.bootStepPass read) s = .next (s.ends
    (((((s.dev.put F.SC_BOOT_IMG_KEY_SLOT key).put F.SC_BOOT_IMG_KIND (hdrKind x)).put
    F.SC_BOOT_IMG_RB_INDEX (hdrRbIndex x)).put F.SC_BOOT_IMG_SVN (hdrSvn x)).put F.BOOT_STEP_STEP 12)))
    ∧
  -- (19) 12 measures boot state, header and options, arms the watchdog, shows FW_STATE 3 in recovery and
  -- leaves Secure Start for M11 (recovery), M7 (a PLL bypassed) or M2; Fault Hold stays.
  (∀ (s : State) (read : List Byte) (x : List Byte) (d1 : Dev), s.dev.held = false → s.dev.sleeping =
    false → s.dev.flag F.BOOT_STEP_DONE = false → s.dev.bootStep = 12 → s.dev.plat.image = some x →
    s.dev.svnOk x = true → (((((s.dev.extend 0 (sha256 s.dev.bootState)).extend 1 (sha256 (x.take
    448))).extend 2 (sha256 (wordBytes s.dev.plat.options 2048))).armWdog).put F.BOOT_STEP_STEP 13) = d1
    → exec (.bootStepPass read) s = .next (s.ends (if s.dev.mode ≠ 3 then (if s.dev.recovery then d1.put
    F.MC_CORE_FW_STATE 3 else d1) else if s.dev.recovery then (d1.put F.MC_CORE_FW_STATE 3).changeMode
    11 1 15 else if bitOf s.dev.plat.boot.flags 0 then d1.changeMode 7 1 15 else d1.changeMode 2 1 15)))
    ∧
  -- (20) 13 runs the firmware of a free build; in Limp the start is done.
  (∀ (s : State) (read : List Byte), s.dev.held = false → s.dev.sleeping = false → s.dev.flag
    F.BOOT_STEP_DONE = false → s.dev.bootStep = 13 → s.dev.mode ≠ 11 → s.dev.flag F.MC_CORE_LOCKSTEP =
    true → s.dev.flag F.MC_CORE_TCM_READY = true → exec (.bootStepPass read) s = .next (s.ends (if
    ((((s.dev.free (2 ^ 16)).2.put F.MC_CORE_FW_STATE 2).put F.MC_CORE_FW_BUILD (s.dev.free (2 ^
    16)).1).sapStart).mode = 7 then ((((s.dev.free (2 ^ 16)).2.put F.MC_CORE_FW_STATE 2).put
    F.MC_CORE_FW_BUILD (s.dev.free (2 ^ 16)).1).sapStart).stepRun else ((((s.dev.free (2 ^ 16)).2.put
    F.MC_CORE_FW_STATE 2).put F.MC_CORE_FW_BUILD (s.dev.free (2 ^ 16)).1).sapStart).put F.BOOT_STEP_STEP
    14))) ∧
  -- (21) 14 waits for the initial tests and the database.
  (∀ (s : State) (read : List Byte), s.dev.held = false → s.dev.sleeping = false → s.dev.flag
    F.BOOT_STEP_DONE = false → s.dev.bootStep = 14 → s.dev.flag F.GV_ROT_STAT_INIT_DONE = true →
    s.dev.get F.GV_LOAD_CTRL_STATE = 2 → exec (.bootStepPass read) s = .next (s.ends (s.dev.put
    F.BOOT_STEP_STEP 15))) ∧
  -- (22) Without its condition no step passes.
  (∀ (s : State) (read : List Byte), (s.dev.held = true ∨ s.dev.sleeping = true ∨ s.dev.flag
    F.BOOT_STEP_DONE = true ∨ (s.dev.bootStep < 10 ∧ s.dev.bootReady s.dev.bootStep = false) ∨
    (s.dev.bootStep = 10 ∧ s.dev.bootFetch read = none) ∨ (s.dev.bootStep = 11 ∧ s.dev.bootVerify =
    none) ∨ (s.dev.bootStep = 12 ∧ s.dev.plat.image.all (fun x => !s.dev.svnOk x) = true) ∨
    (s.dev.bootStep = 13 ∧ (s.dev.mode = 11 ∨ s.dev.flag F.MC_CORE_LOCKSTEP = false ∨ s.dev.flag
    F.MC_CORE_TCM_READY = false)) ∨ (s.dev.bootStep = 14 ∧ (s.dev.flag F.GV_ROT_STAT_INIT_DONE = false ∨
    s.dev.get F.GV_LOAD_CTRL_STATE ≠ 2)) ∨ s.dev.bootStep = 15) → exec (.bootStepPass read) s = .next
    (s.ends (s.dev))) ∧
  -- (23) BOOT_STEP_FAIL writes the boot record and starts a cold reset.
  (∀ (s : State) (plls : Fin 4096), s.dev.held = false → s.dev.sleeping = false → s.dev.flag
    F.BOOT_STEP_DONE = false → s.dev.bootStep ≤ 14 → s.dev.stuck = false → s.dev.sc.run = none →
    s.dev.powering = false → ∃ d' : Dev, exec (.bootStepFail plls) s = .next (s.ends d') ∧ d'.plat.boot
    = recFail s.dev.plat.boot s.dev.bootStep plls (s.dev.get F.PC_STRAP_BOOTSEL == 0 && !s.dev.recovery)
    ∧ d'.plat.relStep = 0 ∧ d'.get F.PC_RST_CAUSE_KIND = 2 ∧ bitOf (d'.get F.PC_RST_CAUSE_SOURCES) 9 =
    true ∧ d'.mode = 3) ∧
  -- (24) Held, asleep, done, at step 15 or kept at release step 1 nothing fails.
  (∀ (s : State) (plls : Fin 4096), (s.dev.held = true ∨ s.dev.sleeping = true ∨ s.dev.flag
    F.BOOT_STEP_DONE = true ∨ 14 < s.dev.bootStep ∨ s.dev.stuck = true) → exec (.bootStepFail plls) s =
    .next (s.ends (s.dev))) ∧
  -- (25) BOOT_CLR by the management cores clears CONSEC and flags.
  (∀ (s : State) (i : Init) (consec : Bool) (flags : Fin 16) (d : Dev), i = .mc → s.dev.reaches i
    (R.PC_BOOT_CLR) = some d → d.lockedWrite (R.PC_BOOT_CLR) ((cmdWord [(F.PC_BOOT_CLR_CONSEC, boolNat
    consec), (F.PC_BOOT_CLR_FLAGS, flags)])) = false → ∃ d' : Dev, exec (.bootClr i consec flags) s =
    .next (s.ends d') ∧ d'.plat.boot.consec = (if consec then 0 else d.plat.boot.consec) ∧ (∀ k : Fin 4,
    bitOf d'.plat.boot.flags k = (bitOf d.plat.boot.flags k && !bitOf flags k)) ∧ d'.plat.boot.lastFail
    = d.plat.boot.lastFail ∧ d'.mode = d.mode ∧ d'.sc = d.sc) ∧
  -- (26) Others are refused with BOOT_REFUSED.
  (∀ (s : State) (i : Init) (consec : Bool) (flags : Fin 16) (d : Dev), i ≠ .mc → s.dev.reaches i
    (R.PC_BOOT_CLR) = some d → d.lockedWrite (R.PC_BOOT_CLR) ((cmdWord [(F.PC_BOOT_CLR_CONSEC, boolNat
    consec), (F.PC_BOOT_CLR_FLAGS, flags)])) = false → exec (.bootClr i consec flags) s = .next (s.ends
    (d.failWrite i R.PC_BOOT_CLR (cmdWord [(F.PC_BOOT_CLR_CONSEC, boolNat consec), (F.PC_BOOT_CLR_FLAGS,
    flags)]) 0x0125))) ∧
  -- (27) HBOOT_START is taken at step 10 with BOOTSEL 1.
  (∀ (s : State) (i : Init) (d : Dev), s.dev.reaches i (R.PC_HBOOT_CTRL) = some d → d.lockedWrite
    (R.PC_HBOOT_CTRL) ((cmdWord [(F.PC_HBOOT_CTRL_GO, 1)])) = false → d.get F.PC_STRAP_BOOTSEL = 1 →
    d.bootStep = 10 → exec (.hbootStart i) s = .next (s.ends ((d.put F.PC_HBOOT_CTRL_GO 1).put
    F.PC_HBOOT_CTRL_STATE 1))) ∧
  -- (28) Otherwise it is refused with BOOT_REFUSED.
  (∀ (s : State) (i : Init) (d : Dev), s.dev.reaches i (R.PC_HBOOT_CTRL) = some d → d.lockedWrite
    (R.PC_HBOOT_CTRL) ((cmdWord [(F.PC_HBOOT_CTRL_GO, 1)])) = false → (d.get F.PC_STRAP_BOOTSEL ≠ 1 ∨
    d.bootStep ≠ 10) → exec (.hbootStart i) s = .next (s.ends (d.failWrite i R.PC_HBOOT_CTRL (cmdWord
    [(F.PC_HBOOT_CTRL_GO, 1)]) 0x0125))) ∧
  -- (29) HBOOT_DONE delivers the image.
  (∀ (s : State) (image : List Byte), s.dev.get F.PC_HBOOT_CTRL_STATE = 1 → ∃ d' : Dev, exec (.hbootDone
    true image) s = .next (s.ends d') ∧ d'.get F.PC_HBOOT_CTRL_STATE = 2 ∧ d'.flag F.PC_HBOOT_CTRL_GO =
    false ∧ d'.plat = { s.dev.plat with delivered := some (Sys2Proof.Machine.slice image 0 (s.dev.get
                                          F.PC_HBOOT_LEN_BYTES)) } ∧ ∀ a, a ≠ R.PC_HBOOT_CTRL → d'.word
    a = s.dev.word a) ∧
  -- (30) A failed read shows STATE 3.
  (∀ (s : State) (image : List Byte), s.dev.get F.PC_HBOOT_CTRL_STATE = 1 → ∃ d' : Dev, exec (.hbootDone
    false image) s = .next (s.ends d') ∧ d'.get F.PC_HBOOT_CTRL_STATE = 3 ∧ d'.flag F.PC_HBOOT_CTRL_GO =
    false ∧ d'.plat = s.dev.plat ∧ ∀ a, a ≠ R.PC_HBOOT_CTRL → d'.word a = s.dev.word a) ∧
  -- (31) Without a read in progress nothing.
  (∀ (s : State) (image : List Byte) (ok : Bool), s.dev.get F.PC_HBOOT_CTRL_STATE ≠ 1 → exec (.hbootDone
    ok image) s = .next (s.ends (s.dev)))

/-- The watchdog, mode requests, the Activation limit and the monitors (R273, R274, R276, R277, R278, R356,
R358).
WDOG_KICK and MODE_REQUEST are writes that reach the device d; a request stores its register with GO 0.
Log entries that say where the model chose on these rules: 68, 140, 141, 143, 144, 178, 179, 192, 243,
258, 288, 289. -/
def Obligations.WatchdogModesAndMonitors : Prop :=
  -- (1) WDOG_KICK with the key reloads the watchdog.
  (∀ (s : State) (i : Init) (v : BitVec 16) (d : Dev), s.dev.reaches i (R.PC_WDOG_KICK) = some d →
    d.lockedWrite (R.PC_WDOG_KICK) (v.setWidth 32) = false → v = 0x5AC3 → d.flag F.PC_WDOG_CFG_EN = true
    → exec (.wdogKick i v) s = .next (s.ends (d.modPlat (fun p => { p with
      wdog := some (p.aon + d.get F.PC_WDOG_CFG_TIMEOUT_MS * 1000000) })))) ∧
  -- (2) Another value acts as its expiry.
  (∀ (s : State) (i : Init) (v : BitVec 16) (d : Dev), s.dev.reaches i (R.PC_WDOG_KICK) = some d →
    d.lockedWrite (R.PC_WDOG_KICK) (v.setWidth 32) = false → v ≠ 0x5AC3 → d.flag F.PC_WDOG_CFG_EN = true
    → exec (.wdogKick i v) s = .next (s.ends (if d.flag F.BOOT_STEP_DONE then (d.modPlat (fun p => { p
    with wdog := none })).resetReq true 0x004 else (d.modPlat (fun p => { p with
      wdog := none })).bootFail 0 0x004))) ∧
  -- (3) A disabled watchdog takes neither.
  (∀ (s : State) (i : Init) (v : BitVec 16) (d : Dev), s.dev.reaches i (R.PC_WDOG_KICK) = some d →
    d.lockedWrite (R.PC_WDOG_KICK) (v.setWidth 32) = false → d.flag F.PC_WDOG_CFG_EN = false → exec
    (.wdogKick i v) s = .next (s.ends (d))) ∧
  -- (4) WDOG_EXPIRE, due, resets the device after step 15.
  (∀ (s : State) (t : Nat), s.dev.sleeping = false → s.dev.plat.wdog = some t → t ≤ s.dev.plat.aon →
    s.dev.flag F.BOOT_STEP_DONE = true → exec (.wdogExpire) s = .next (s.ends ((s.dev.modPlat (fun p =>
    { p with wdog := none })).resetReq true 0x004))) ∧
  -- (5) Before, the boot step fails.
  (∀ (s : State) (t : Nat), s.dev.sleeping = false → s.dev.plat.wdog = some t → t ≤ s.dev.plat.aon →
    s.dev.flag F.BOOT_STEP_DONE = false → exec (.wdogExpire) s = .next (s.ends ((s.dev.modPlat (fun p =>
    { p with wdog := none })).bootFail 0 0x004))) ∧
  -- (6) Not due, or asleep, nothing.
  (∀ (s : State), s.dev.sleeping = true ∨ s.dev.plat.wdog.any (fun t => decide (t ≤ s.dev.plat.aon)) =
    false → exec (.wdogExpire) s = .next (s.ends (s.dev))) ∧
  -- (7) MODE_REQUEST: to M11 from M2 to M6, M8 and M9; from M2 to the service mode after step 14 and, in
  -- Blank and Manufacturing, to M10; from service to M7 and, but for lifecycle 3 locked, to M9; from M9
  -- back to service.
  (∀ (s : State) (i : Init) (m : Fin 16) (x : Nat) (d : Dev), s.dev.reaches i (R.PC_MODE_REQ) = some d →
    d.lockedWrite (R.PC_MODE_REQ) ((cmdWord [(F.PC_MODE_REQ_GO, 1), (F.PC_MODE_REQ_MODE, m)])) = false →
    6 ≤ d.plat.warmStep → ((m = 11 ∧ x = 11 ∧ 2 ≤ d.mode ∧ d.mode ≠ 7 ∧ d.mode ≠ 10 ∧ d.mode ≠ 11) ∨
    (d.mode = 2 ∧ m = 4 ∧ d.mayRun = true ∧ x = d.serviceMode) ∨ (d.mode = 2 ∧ m = 10 ∧ (d.sc.lc = 0 ∨
    d.sc.lc = 1) ∧ x = 10) ∨ ((d.mode = 4 ∨ d.mode = 5 ∨ d.mode = 6) ∧ m = 7 ∧ x = 7) ∨ ((d.mode = 4 ∨
    d.mode = 5 ∨ d.mode = 6) ∧ m = 9 ∧ d.slp.target = none ∧ ¬(d.sc.lc = 3 ∧ d.sc.level = 0) ∧ x = 9) ∨
    (d.mode = 9 ∧ m = 4 ∧ x = if d.healthyCount = 16 then 4 else 6)) → exec (.modeRequest i m) s = .next
    (s.ends (((d.store R.PC_MODE_REQ (cmdWord [(F.PC_MODE_REQ_GO, 1), (F.PC_MODE_REQ_MODE, m)])).put
    F.PC_MODE_REQ_GO 0).changeMode x 0 (initCode i)))) ∧
  -- (8) M9 keeps signals, channels and time.
  (∀ (s : State) (i : Init) (m : Fin 16) (d : Dev), s.dev.reaches i (R.PC_MODE_REQ) = some d →
    d.lockedWrite (R.PC_MODE_REQ) ((cmdWord [(F.PC_MODE_REQ_GO, 1), (F.PC_MODE_REQ_MODE, m)])) = false →
    6 ≤ d.plat.warmStep → (d.mode = 4 ∨ d.mode = 5 ∨ d.mode = 6) → d.slp.target = none → m = 9 →
    ¬(d.sc.lc = 3 ∧ d.sc.level = 0) → ∃ d' : Dev, exec (.modeRequest i m) s = .next (s.ends d') ∧
    d'.mode = 9 ∧ d'.get F.PC_MODE_PREV = d.mode ∧ d'.flag F.PC_MODE_REQ_GO = false ∧ d'.gv = d.gv ∧
    d'.chan = d.chan ∧ d'.tl = d.tl) ∧
  -- (9) M4 completes the start.
  (∀ (s : State) (i : Init) (m : Fin 16) (d : Dev), s.dev.reaches i (R.PC_MODE_REQ) = some d →
    d.lockedWrite (R.PC_MODE_REQ) ((cmdWord [(F.PC_MODE_REQ_GO, 1), (F.PC_MODE_REQ_MODE, m)])) = false →
    6 ≤ d.plat.warmStep → d.mode = 2 → m = 4 → d.mayRun = true → d.slp.target = none → 14 ≤ d.bootStep →
    d.flag F.BOOT_STEP_DONE = false → d.healthyCount = 16 → ∃ d' : Dev, exec (.modeRequest i m) s =
    .next (s.ends d') ∧ d'.mode = 4 ∧ d'.get F.PC_MODE_PREV = 2 ∧ d'.bootStep = 15 ∧ d'.flag
    F.BOOT_STEP_DONE = true ∧ d'.plat.boot.consec = 0) ∧
  -- (10) From service M0 and M1 send every group to sleep first.
  (∀ (s : State) (i : Init) (m : Fin 16) (d : Dev), s.dev.reaches i (R.PC_MODE_REQ) = some d →
    d.lockedWrite (R.PC_MODE_REQ) ((cmdWord [(F.PC_MODE_REQ_GO, 1), (F.PC_MODE_REQ_MODE, m)])) = false →
    6 ≤ d.plat.warmStep → (d.mode = 4 ∨ d.mode = 5 ∨ d.mode = 6) → d.slp.target = none → m.val < 2 →
    (List.range 8).all (fun g => d.groupState g == 0) = true → ∃ d' : Dev, exec (.modeRequest i m) s =
    .next (s.ends d') ∧ d'.slp.target = some m.val ∧ d'.slp.byRequest = some (initCode i) ∧
    d'.slp.committed = 255 ∧ d'.flag F.PC_MODE_BUSY = true ∧ d'.mode = d.mode ∧ ∀ g : Fin 8,
    d'.groupState g = 1) ∧
  -- (11) From M8 the relay returns to the mode before, once Grove runs what the switchover loads.
  (∀ (s : State) (i : Init) (m : Fin 16) (d : Dev) (e : Dev), s.dev.reaches i (R.PC_MODE_REQ) = some d →
    d.lockedWrite (R.PC_MODE_REQ) ((cmdWord [(F.PC_MODE_REQ_GO, 1), (F.PC_MODE_REQ_MODE, m)])) = false →
    6 ≤ d.plat.warmStep → d.mode = 8 → m ≠ 11 → m.val = d.get F.PC_MODE_RETURN → i = .mc → (d.store
    R.PC_MODE_REQ (cmdWord [(F.PC_MODE_REQ_GO, 1), (F.PC_MODE_REQ_MODE, m)])).put F.PC_MODE_REQ_GO 0 = e
    → e.sapReady = true → exec (.modeRequest i m) s = .next (s.ends ((e.changeMode m 0 2).sapReturn))) ∧
  -- (12) Every other request, and any during a warm release, is refused with MODE_REFUSED.
  (∀ (s : State) (i : Init) (m : Fin 16) (d : Dev), s.dev.reaches i (R.PC_MODE_REQ) = some d →
    d.lockedWrite (R.PC_MODE_REQ) ((cmdWord [(F.PC_MODE_REQ_GO, 1), (F.PC_MODE_REQ_MODE, m)])) = false →
    (d.plat.warmStep < 6 ∨ d.mode < 2 ∨ d.mode = 7 ∨ d.mode = 10 ∨ d.mode = 11 ∨ (d.mode = 3 ∧ m ≠ 11) ∨
    (d.mode = 2 ∧ m ≠ 11 ∧ ¬(m = 4 ∧ d.mayRun = true) ∧ ¬(m = 10 ∧ (d.sc.lc = 0 ∨ d.sc.lc = 1))) ∨
    ((d.mode = 4 ∨ d.mode = 5 ∨ d.mode = 6) ∧ m ≠ 11 ∧ m ≠ 7 ∧ (d.slp.target ≠ none ∨ (1 < m.val ∧ m ≠
    9) ∨ (m = 9 ∧ d.sc.lc = 3 ∧ d.sc.level = 0))) ∨ (d.mode = 9 ∧ m ≠ 4 ∧ m ≠ 11) ∨ (d.mode = 8 ∧ m ≠ 11
    ∧ (m.val ≠ d.get F.PC_MODE_RETURN ∨ i ≠ .mc ∨ ((d.store R.PC_MODE_REQ (cmdWord [(F.PC_MODE_REQ_GO,
    1), (F.PC_MODE_REQ_MODE, m)])).put F.PC_MODE_REQ_GO 0).sapReady = false))) → exec (.modeRequest i m)
    s = .next (s.ends (d.failWrite i R.PC_MODE_REQ (cmdWord [(F.PC_MODE_REQ_GO, 1), (F.PC_MODE_REQ_MODE,
    m)]) 0x0124))) ∧
  -- (13) ACTIVATION_LIMIT, 40 ms after the entry to M8, returns and reverts the switchover.
  (∀ (s : State), s.dev.mode = 8 → s.dev.plat.m8At + 40000000 ≤ s.dev.plat.aon → exec (.activationLimit)
    s = .next (s.ends ((s.dev.changeMode (s.dev.get F.PC_MODE_RETURN) 2 15).sapRevert 3))) ∧
  -- (14) Earlier, or in another mode, nothing.
  (∀ (s : State), s.dev.mode ≠ 8 ∨ s.dev.plat.aon < s.dev.plat.m8At + 40000000 → exec (.activationLimit)
    s = .next (s.ends (s.dev))) ∧
  -- (15) MONITOR_WARN of a supply: SUPPLY_OK, the warning and its report.
  (∀ (s : State) (which : Fin 10) (tj : Byte), which.val < 9 → 1 ≤ s.dev.plat.relStep → s.dev.unwatched
    which = false → exec (.monitorWarn which tj) s = .next (s.ends ((((s.dev.modPlat (fun p => { p with
      inRange := clrBit p.inRange which, fresh := p.fresh.filter (fun x => x.1 != which.val) })).put
    F.PC_MON_STAT_SUPPLY_OK (clrBit s.dev.plat.inRange which)).raise (.pc 2) 2).report 8 which))) ∧
  -- (16) Of the temperature.
  (∀ (s : State) (tj : Byte), 1 ≤ s.dev.plat.relStep → exec (.monitorWarn 9 tj) s = .next (s.ends
    (((((s.dev.modPlat (fun p => { p with hot := true })).put F.PC_MON_STAT_TJ tj.toNat).put
    F.PC_MON_STAT_THERM_WARN 1).raise (.pc 2) 1).report 9 0))) ∧
  -- (17) Of a supply not watched, or before the monitors run, it is only noted.
  (∀ (s : State) (which : Fin 10) (tj : Byte), (s.dev.plat.relStep = 0 ∨ (which.val < 9 ∧
    s.dev.unwatched which = true)) → exec (.monitorWarn which tj) s = .next (s.ends (s.dev.modPlat (fun
    p => if which.val < 9 then { p with inRange := clrBit p.inRange which, fresh := p.fresh.filter (fun
                                          x => x.1 != which.val) } else { p with
      hot := true })))) ∧
  -- (18) MONITOR_CLEAR of a supply.
  (∀ (s : State) (which : Fin 10) (tj : Byte), which.val < 9 → 1 ≤ s.dev.plat.relStep → exec
    (.monitorClear which tj) s = .next (s.ends ((s.dev.modPlat (fun p => { p with
      inRange := setBit p.inRange which, fresh := if bitOf p.inRange which then p.fresh else tset
        p.fresh which 1000000 })).put F.PC_MON_STAT_SUPPLY_OK (setBit s.dev.plat.inRange which)))) ∧
  -- (19) Of the temperature.
  (∀ (s : State) (tj : Byte), 1 ≤ s.dev.plat.relStep → exec (.monitorClear 9 tj) s = .next (s.ends
    (((s.dev.modPlat (fun p => { p with hot := false })).put F.PC_MON_STAT_TJ tj.toNat).put
    F.PC_MON_STAT_THERM_WARN 0))) ∧
  -- (20) Before the monitors run it is only noted.
  (∀ (s : State) (which : Fin 10) (tj : Byte), s.dev.plat.relStep = 0 → exec (.monitorClear which tj) s
    = .next (s.ends (s.dev.modPlat (fun p => if which.val < 9 then { p with
      inRange := setBit p.inRange which, fresh := if bitOf p.inRange which then p.fresh else tset
        p.fresh which 1000000 } else { p with hot := false }))))

/-- What the OTP commands do (R282, R283, R287, R288, R289, R291).
A command is a write of SC_OTP_CMD with the word w that reaches the device d; r is the command in
progress. OTP_PROG_KEY_HASH, OTP_REVOKE, OTP_RB_ADVANCE, OTP_PROG_DBG_HASH and OTP_LC_ADVANCE by the
management cores, with the key, are in progress where the lifecycle admits them.
Log entries that say where the model chose on these rules: 30, 146, 157, 158, 159, 160, 246, 247, 248,
290, 291. -/
def Obligations.OtpCommands : Prop :=
  -- (1) OTP_PROG_KEY_HASH in lifecycle 1 of a slot below 4 that is empty, or whose programming with the
  -- same hash was cut.
  (∀ (s : State) (i : Init) (slot : Fin 8) (key : BitVec 16) (d : Dev), s.dev.reaches i (R.SC_OTP_CMD) =
    some d → d.lockedWrite (R.SC_OTP_CMD) (cmdWord [(F.SC_OTP_CMD_GO, 1), (F.SC_OTP_CMD_OP, 1),
    (F.SC_OTP_CMD_ARG, slot), (F.SC_OTP_CMD_KEY, key.toNat)]) = false → d.sc.run = none → i = .mc → key
    = 0x5AC3 → d.sc.lc = 1 → slot.val < 4 → ((d.otpSlot slot).empty = true ∨ ((d.otpSlot slot).done =
    false ∧ (d.otpSlot slot).want = d.regBytes (R.SC_OTP_DATA 0) 8)) → exec (.otpProgKeyHash i slot key)
    s = .next (s.ends ((d.store R.SC_OTP_CMD (cmdWord [(F.SC_OTP_CMD_GO, 1), (F.SC_OTP_CMD_OP, 1),
    (F.SC_OTP_CMD_ARG, slot), (F.SC_OTP_CMD_KEY, key.toNat)])).modSc (fun x => { x with
      run := some { op := 1, arg := slot, value := d.get F.SC_OTP_VALUE_VALUE, hash := d.regBytes
                      (R.SC_OTP_DATA 0) 8 } })))) ∧
  -- (2) Of another initiator, without the key or elsewhere it is refused with OTP_REFUSED.
  (∀ (s : State) (i : Init) (slot : Fin 8) (key : BitVec 16) (d : Dev), s.dev.reaches i (R.SC_OTP_CMD) =
    some d → d.lockedWrite (R.SC_OTP_CMD) (cmdWord [(F.SC_OTP_CMD_GO, 1), (F.SC_OTP_CMD_OP, 1),
    (F.SC_OTP_CMD_ARG, slot), (F.SC_OTP_CMD_KEY, key.toNat)]) = false → d.sc.run = none → (i ≠ .mc ∨ key
    ≠ 0x5AC3 ∨ d.sc.lc ≠ 1 ∨ 4 ≤ slot.val ∨ ((d.otpSlot slot).empty = false ∧ ((d.otpSlot slot).done =
    true ∨ (d.otpSlot slot).want ≠ d.regBytes (R.SC_OTP_DATA 0) 8))) → exec (.otpProgKeyHash i slot key)
    s = .next (s.ends ((((d.store R.SC_OTP_CMD (cmdWord [(F.SC_OTP_CMD_GO, 1), (F.SC_OTP_CMD_OP, 1),
    (F.SC_OTP_CMD_ARG, slot), (F.SC_OTP_CMD_KEY, key.toNat)])).put F.SC_OTP_CMD_GO 0).put
    F.SC_OTP_RESULT_CODE 0x0128).windowErr i R.SC_OTP_CMD 0x0128))) ∧
  -- (3) OTP_REVOKE outside Blank of a slot that the running image does not use, while another is usable.
  (∀ (s : State) (i : Init) (slot : Fin 8) (key : BitVec 16) (d : Dev), s.dev.reaches i (R.SC_OTP_CMD) =
    some d → d.lockedWrite (R.SC_OTP_CMD) (cmdWord [(F.SC_OTP_CMD_GO, 1), (F.SC_OTP_CMD_OP, 2),
    (F.SC_OTP_CMD_ARG, slot), (F.SC_OTP_CMD_KEY, key.toNat)]) = false → d.sc.run = none → i = .mc → key
    = 0x5AC3 → d.sc.lc ≠ 0 → slot.val < 4 → (d.get F.SC_BOOT_IMG_KIND = 0 ∨ d.get F.SC_BOOT_IMG_KEY_SLOT
    ≠ slot) → (List.range 4).any (fun x => x != slot.val && d.otpUsable x) = true → exec (.otpRevoke i
    slot key) s = .next (s.ends ((d.store R.SC_OTP_CMD (cmdWord [(F.SC_OTP_CMD_GO, 1), (F.SC_OTP_CMD_OP,
    2), (F.SC_OTP_CMD_ARG, slot), (F.SC_OTP_CMD_KEY, key.toNat)])).modSc (fun x => { x with
      run := some { op := 2, arg := slot, value := d.get F.SC_OTP_VALUE_VALUE, hash := d.regBytes
                      (R.SC_OTP_DATA 0) 8 } })))) ∧
  -- (4) Refused with OTP_REFUSED.
  (∀ (s : State) (i : Init) (slot : Fin 8) (key : BitVec 16) (d : Dev), s.dev.reaches i (R.SC_OTP_CMD) =
    some d → d.lockedWrite (R.SC_OTP_CMD) (cmdWord [(F.SC_OTP_CMD_GO, 1), (F.SC_OTP_CMD_OP, 2),
    (F.SC_OTP_CMD_ARG, slot), (F.SC_OTP_CMD_KEY, key.toNat)]) = false → d.sc.run = none → (i ≠ .mc ∨ key
    ≠ 0x5AC3 ∨ d.sc.lc = 0 ∨ 4 ≤ slot.val ∨ (d.get F.SC_BOOT_IMG_KIND ≠ 0 ∧ d.get F.SC_BOOT_IMG_KEY_SLOT
    = slot) ∨ (List.range 4).any (fun x => x != slot.val && d.otpUsable x) = false) → exec (.otpRevoke i
    slot key) s = .next (s.ends ((((d.store R.SC_OTP_CMD (cmdWord [(F.SC_OTP_CMD_GO, 1),
    (F.SC_OTP_CMD_OP, 2), (F.SC_OTP_CMD_ARG, slot), (F.SC_OTP_CMD_KEY, key.toNat)])).put F.SC_OTP_CMD_GO
    0).put F.SC_OTP_RESULT_CODE 0x0128).windowErr i R.SC_OTP_CMD 0x0128))) ∧
  -- (5) OTP_RB_ADVANCE in lifecycles 1 to 3 to a higher value up to 64, at most the SVN of the running
  -- image for its own counter.
  (∀ (s : State) (i : Init) (ix : Fin 8) (key : BitVec 16) (d : Dev), s.dev.reaches i (R.SC_OTP_CMD) =
    some d → d.lockedWrite (R.SC_OTP_CMD) (cmdWord [(F.SC_OTP_CMD_GO, 1), (F.SC_OTP_CMD_OP, 3),
    (F.SC_OTP_CMD_ARG, ix), (F.SC_OTP_CMD_KEY, key.toNat)]) = false → d.sc.run = none → i = .mc → key =
    0x5AC3 → (d.sc.lc = 1 ∨ d.sc.lc = 2 ∨ d.sc.lc = 3) → ix.val < 4 → tget d.sc.otp.rb ix < d.get
    F.SC_OTP_VALUE_VALUE → d.get F.SC_OTP_VALUE_VALUE ≤ 64 → (d.get F.SC_BOOT_IMG_RB_INDEX ≠ ix ∨ d.get
    F.SC_OTP_VALUE_VALUE ≤ d.get F.SC_BOOT_IMG_SVN) → exec (.otpRbAdvance i ix key) s = .next (s.ends
    ((d.store R.SC_OTP_CMD (cmdWord [(F.SC_OTP_CMD_GO, 1), (F.SC_OTP_CMD_OP, 3), (F.SC_OTP_CMD_ARG, ix),
    (F.SC_OTP_CMD_KEY, key.toNat)])).modSc (fun x => { x with
      run := some { op := 3, arg := ix, value := d.get F.SC_OTP_VALUE_VALUE, hash := d.regBytes
                      (R.SC_OTP_DATA 0) 8 } })))) ∧
  -- (6) Refused with OTP_REFUSED.
  (∀ (s : State) (i : Init) (ix : Fin 8) (key : BitVec 16) (d : Dev), s.dev.reaches i (R.SC_OTP_CMD) =
    some d → d.lockedWrite (R.SC_OTP_CMD) (cmdWord [(F.SC_OTP_CMD_GO, 1), (F.SC_OTP_CMD_OP, 3),
    (F.SC_OTP_CMD_ARG, ix), (F.SC_OTP_CMD_KEY, key.toNat)]) = false → d.sc.run = none → (i ≠ .mc ∨ key ≠
    0x5AC3 ∨ (d.sc.lc ≠ 1 ∧ d.sc.lc ≠ 2 ∧ d.sc.lc ≠ 3) ∨ 4 ≤ ix.val ∨ d.get F.SC_OTP_VALUE_VALUE ≤ tget
    d.sc.otp.rb ix ∨ 64 < d.get F.SC_OTP_VALUE_VALUE ∨ (d.get F.SC_BOOT_IMG_RB_INDEX = ix ∧ d.get
    F.SC_BOOT_IMG_SVN < d.get F.SC_OTP_VALUE_VALUE)) → exec (.otpRbAdvance i ix key) s = .next (s.ends
    ((((d.store R.SC_OTP_CMD (cmdWord [(F.SC_OTP_CMD_GO, 1), (F.SC_OTP_CMD_OP, 3), (F.SC_OTP_CMD_ARG,
    ix), (F.SC_OTP_CMD_KEY, key.toNat)])).put F.SC_OTP_CMD_GO 0).put F.SC_OTP_RESULT_CODE
    0x0128).windowErr i R.SC_OTP_CMD 0x0128))) ∧
  -- (7) OTP_PROG_DBG_HASH in lifecycle 1.
  (∀ (s : State) (i : Init) (key : BitVec 16) (d : Dev), s.dev.reaches i (R.SC_OTP_CMD) = some d →
    d.lockedWrite (R.SC_OTP_CMD) (cmdWord [(F.SC_OTP_CMD_GO, 1), (F.SC_OTP_CMD_OP, 4),
    (F.SC_OTP_CMD_ARG, 0), (F.SC_OTP_CMD_KEY, key.toNat)]) = false → d.sc.run = none → i = .mc → key =
    0x5AC3 → d.sc.lc = 1 → ((d.sc.otp.dbg).empty = true ∨ ((d.sc.otp.dbg).done = false ∧
    (d.sc.otp.dbg).want = d.regBytes (R.SC_OTP_DATA 0) 8)) → exec (.otpProgDbgHash i key) s = .next
    (s.ends ((d.store R.SC_OTP_CMD (cmdWord [(F.SC_OTP_CMD_GO, 1), (F.SC_OTP_CMD_OP, 4),
    (F.SC_OTP_CMD_ARG, 0), (F.SC_OTP_CMD_KEY, key.toNat)])).modSc (fun x => { x with
      run := some { op := 4, arg := 0, value := d.get F.SC_OTP_VALUE_VALUE, hash := d.regBytes
                      (R.SC_OTP_DATA 0) 8 } })))) ∧
  -- (8) Refused with OTP_REFUSED.
  (∀ (s : State) (i : Init) (key : BitVec 16) (d : Dev), s.dev.reaches i (R.SC_OTP_CMD) = some d →
    d.lockedWrite (R.SC_OTP_CMD) (cmdWord [(F.SC_OTP_CMD_GO, 1), (F.SC_OTP_CMD_OP, 4),
    (F.SC_OTP_CMD_ARG, 0), (F.SC_OTP_CMD_KEY, key.toNat)]) = false → d.sc.run = none → (i ≠ .mc ∨ key ≠
    0x5AC3 ∨ d.sc.lc ≠ 1 ∨ ((d.sc.otp.dbg).empty = false ∧ ((d.sc.otp.dbg).done = true ∨
    (d.sc.otp.dbg).want ≠ d.regBytes (R.SC_OTP_DATA 0) 8))) → exec (.otpProgDbgHash i key) s = .next
    (s.ends ((((d.store R.SC_OTP_CMD (cmdWord [(F.SC_OTP_CMD_GO, 1), (F.SC_OTP_CMD_OP, 4),
    (F.SC_OTP_CMD_ARG, 0), (F.SC_OTP_CMD_KEY, key.toNat)])).put F.SC_OTP_CMD_GO 0).put
    F.SC_OTP_RESULT_CODE 0x0128).windowErr i R.SC_OTP_CMD 0x0128))) ∧
  -- (9) OTP_LC_ADVANCE along R283, to 2 with a usable slot alone.
  (∀ (s : State) (i : Init) (target : Fin 8) (key : BitVec 16) (d : Dev), s.dev.reaches i (R.SC_OTP_CMD)
    = some d → d.lockedWrite (R.SC_OTP_CMD) (cmdWord [(F.SC_OTP_CMD_GO, 1), (F.SC_OTP_CMD_OP, 5),
    (F.SC_OTP_CMD_ARG, target), (F.SC_OTP_CMD_KEY, key.toNat)]) = false → d.sc.run = none → i = .mc →
    key = 0x5AC3 → lcMay d.sc.lc target = true → d.sc.otp.stage ≤ target → (target ≠ 2 ∨ (List.range
    4).any (fun x => d.otpUsable x) = true) → exec (.otpLcAdvance i target key) s = .next (s.ends
    ((d.store R.SC_OTP_CMD (cmdWord [(F.SC_OTP_CMD_GO, 1), (F.SC_OTP_CMD_OP, 5), (F.SC_OTP_CMD_ARG,
    target), (F.SC_OTP_CMD_KEY, key.toNat)])).modSc (fun x => { x with
      run := some { op := 5, arg := target, value := d.get F.SC_OTP_VALUE_VALUE, hash := d.regBytes
                      (R.SC_OTP_DATA 0) 8 } })))) ∧
  -- (10) Refused with OTP_REFUSED.
  (∀ (s : State) (i : Init) (target : Fin 8) (key : BitVec 16) (d : Dev), s.dev.reaches i (R.SC_OTP_CMD)
    = some d → d.lockedWrite (R.SC_OTP_CMD) (cmdWord [(F.SC_OTP_CMD_GO, 1), (F.SC_OTP_CMD_OP, 5),
    (F.SC_OTP_CMD_ARG, target), (F.SC_OTP_CMD_KEY, key.toNat)]) = false → d.sc.run = none → (i ≠ .mc ∨
    key ≠ 0x5AC3 ∨ lcMay d.sc.lc target = false ∨ target.val < d.sc.otp.stage ∨ (target = 2 ∧
    (List.range 4).any (fun x => d.otpUsable x) = false)) → exec (.otpLcAdvance i target key) s = .next
    (s.ends ((((d.store R.SC_OTP_CMD (cmdWord [(F.SC_OTP_CMD_GO, 1), (F.SC_OTP_CMD_OP, 5),
    (F.SC_OTP_CMD_ARG, target), (F.SC_OTP_CMD_KEY, key.toNat)])).put F.SC_OTP_CMD_GO 0).put
    F.SC_OTP_RESULT_CODE 0x0128).windowErr i R.SC_OTP_CMD 0x0128))) ∧
  -- (11) During another command each is refused with SC_BUSY.
  (∀ (s : State) (i : Init) (slot ix target : Fin 8) (key : BitVec 16) (d : Dev), s.dev.reaches i
    R.SC_OTP_CMD = some d → d.lockedWrite R.SC_OTP_CMD (cmdWord [(F.SC_OTP_CMD_GO, 1), (F.SC_OTP_CMD_OP,
    1), (F.SC_OTP_CMD_ARG, slot), (F.SC_OTP_CMD_KEY, key.toNat)]) = false → d.lockedWrite R.SC_OTP_CMD
    (cmdWord [(F.SC_OTP_CMD_GO, 1), (F.SC_OTP_CMD_OP, 2), (F.SC_OTP_CMD_ARG, slot), (F.SC_OTP_CMD_KEY,
    key.toNat)]) = false → d.lockedWrite R.SC_OTP_CMD (cmdWord [(F.SC_OTP_CMD_GO, 1), (F.SC_OTP_CMD_OP,
    3), (F.SC_OTP_CMD_ARG, ix), (F.SC_OTP_CMD_KEY, key.toNat)]) = false → d.lockedWrite R.SC_OTP_CMD
    (cmdWord [(F.SC_OTP_CMD_GO, 1), (F.SC_OTP_CMD_OP, 4), (F.SC_OTP_CMD_ARG, 0), (F.SC_OTP_CMD_KEY,
    key.toNat)]) = false → d.lockedWrite R.SC_OTP_CMD (cmdWord [(F.SC_OTP_CMD_GO, 1), (F.SC_OTP_CMD_OP,
    5), (F.SC_OTP_CMD_ARG, target), (F.SC_OTP_CMD_KEY, key.toNat)]) = false → d.sc.run.isSome = true →
    exec (.otpProgKeyHash i slot key) s = .next (s.ends (d.failWrite i R.SC_OTP_CMD (cmdWord
    [(F.SC_OTP_CMD_GO, 1), (F.SC_OTP_CMD_OP, 1), (F.SC_OTP_CMD_ARG, slot), (F.SC_OTP_CMD_KEY,
    key.toNat)]) 0x0127)) ∧ exec (.otpRevoke i slot key) s = .next (s.ends (d.failWrite i R.SC_OTP_CMD
    (cmdWord [(F.SC_OTP_CMD_GO, 1), (F.SC_OTP_CMD_OP, 2), (F.SC_OTP_CMD_ARG, slot), (F.SC_OTP_CMD_KEY,
    key.toNat)]) 0x0127)) ∧ exec (.otpRbAdvance i ix key) s = .next (s.ends (d.failWrite i R.SC_OTP_CMD
    (cmdWord [(F.SC_OTP_CMD_GO, 1), (F.SC_OTP_CMD_OP, 3), (F.SC_OTP_CMD_ARG, ix), (F.SC_OTP_CMD_KEY,
    key.toNat)]) 0x0127)) ∧ exec (.otpProgDbgHash i key) s = .next (s.ends (d.failWrite i R.SC_OTP_CMD
    (cmdWord [(F.SC_OTP_CMD_GO, 1), (F.SC_OTP_CMD_OP, 4), (F.SC_OTP_CMD_ARG, 0), (F.SC_OTP_CMD_KEY,
    key.toNat)]) 0x0127)) ∧ exec (.otpLcAdvance i target key) s = .next (s.ends (d.failWrite i
    R.SC_OTP_CMD (cmdWord [(F.SC_OTP_CMD_GO, 1), (F.SC_OTP_CMD_OP, 5), (F.SC_OTP_CMD_ARG, target),
    (F.SC_OTP_CMD_KEY, key.toNat)]) 0x0127))) ∧
  -- (12) OTP_DONE completes it, with RESULT 0 and its interrupt: a key hash, its cells written.
  (∀ (s : State) (r : OtpRun), s.dev.sc.run = some r → r.op = 1 → ∃ d' : Dev, exec (.otpDone) s = .next
    (s.ends d') ∧ d'.sc.otp = { s.dev.sc.otp with slots := tset s.dev.sc.otp.slots r.arg {
                                                    cells := hashCells r.hash, want := r.hash, good :=
                                                      true, done := true } } ∧ d'.sc.run = none ∧
    d'.flag F.SC_OTP_CMD_GO = false ∧ d'.get F.SC_OTP_RESULT_CODE = 0 ∧ bitOf (d'.get (F.IRQ_RAW_BITS
    (pageBase (.sc 0)))) 1 = true) ∧
  -- (13) A revocation.
  (∀ (s : State) (r : OtpRun), s.dev.sc.run = some r → r.op = 2 → ∃ d' : Dev, exec (.otpDone) s = .next
    (s.ends d') ∧ d'.sc.otp = { s.dev.sc.otp with revoked := setBit s.dev.sc.otp.revoked r.arg } ∧
    d'.sc.run = none ∧ d'.flag F.SC_OTP_CMD_GO = false ∧ d'.get F.SC_OTP_RESULT_CODE = 0 ∧ bitOf (d'.get
    (F.IRQ_RAW_BITS (pageBase (.sc 0)))) 1 = true) ∧
  -- (14) A counter.
  (∀ (s : State) (r : OtpRun), s.dev.sc.run = some r → r.op = 3 → ∃ d' : Dev, exec (.otpDone) s = .next
    (s.ends d') ∧ d'.sc.otp = { s.dev.sc.otp with rb := tset s.dev.sc.otp.rb r.arg r.value } ∧ d'.sc.run
    = none ∧ d'.flag F.SC_OTP_CMD_GO = false ∧ d'.get F.SC_OTP_RESULT_CODE = 0 ∧ bitOf (d'.get
    (F.IRQ_RAW_BITS (pageBase (.sc 0)))) 1 = true) ∧
  -- (15) The debug hash.
  (∀ (s : State) (r : OtpRun), s.dev.sc.run = some r → r.op = 4 → ∃ d' : Dev, exec (.otpDone) s = .next
    (s.ends d') ∧ d'.sc.otp = { s.dev.sc.otp with dbg := {
                                                    cells := hashCells r.hash, want := r.hash, good :=
                                                      true, done := true } } ∧ d'.sc.run = none ∧
    d'.flag F.SC_OTP_CMD_GO = false ∧ d'.get F.SC_OTP_RESULT_CODE = 0 ∧ bitOf (d'.get (F.IRQ_RAW_BITS
    (pageBase (.sc 0)))) 1 = true) ∧
  -- (16) A lifecycle, which pends until the next release.
  (∀ (s : State) (r : OtpRun), s.dev.sc.run = some r → r.op = 5 → r.arg < 8 → s.dev.sc.otp.stage ≠ 0 → ∃
    d' : Dev, exec (.otpDone) s = .next (s.ends d') ∧ d'.sc.otp = { s.dev.sc.otp with
      stage := r.arg, kill := s.dev.sc.otp.kill || r.arg == 4 } ∧ d'.sc.run = none ∧ d'.flag
    F.SC_OTP_CMD_GO = false ∧ d'.get F.SC_OTP_RESULT_CODE = 0 ∧ bitOf (d'.get (F.IRQ_RAW_BITS (pageBase
    (.sc 0)))) 1 = true ∧ d'.flag F.SC_LC_PENDING_VALID = true ∧ d'.get F.SC_LC_PENDING = r.arg ∧
    d'.sc.lc = s.dev.sc.lc ∧ d'.sc.ids = s.dev.sc.ids) ∧
  -- (17) From Blank the root keys and the identity key are generated, each free.
  (∀ (s : State) (r : OtpRun), s.dev.sc.run = some r → r.op = 5 → r.arg < 8 → s.dev.sc.otp.stage = 0 → ∃
    d' : Dev, exec (.otpDone) s = .next (s.ends d') ∧ d'.sc.otp = { s.dev.sc.otp with
      stage := r.arg, kill := s.dev.sc.otp.kill || r.arg == 4 } ∧ d'.sc.run = none ∧ d'.flag
    F.SC_OTP_CMD_GO = false ∧ d'.get F.SC_OTP_RESULT_CODE = 0 ∧ bitOf (d'.get (F.IRQ_RAW_BITS (pageBase
    (.sc 0)))) 1 = true ∧ d'.flag F.SC_LC_PENDING_VALID = true ∧ d'.get F.SC_LC_PENDING = r.arg ∧
    d'.sc.lc = s.dev.sc.lc ∧ d'.sc.ids.idRoot.length = 32 ∧ d'.sc.ids.vaultRoot.length = 32 ∧ d'.freeIx
    = s.dev.freeIx + 4) ∧
  -- (18) Without a command nothing.
  (∀ (s : State), s.dev.sc.run = none → exec (.otpDone) s = .next (s.ends (s.dev)))

/-- What MEAS_EXTEND, QUOTE_START and QUOTE_DONE do (R285, R290, R291, R292).
MEAS_EXTEND and QUOTE_START are writes that reach the device d. The quote is 384 bytes over the nonce,
the measurements and the status; its signature is RSASSA-PSS under the identity key, with a free salt.
Log entries that say where the model chose on these rules: 30, 160, 161. -/
def Obligations.MeasurementsAndQuotes : Prop :=
  -- (1) MEAS_EXTEND of an index from 3 on extends that measurement alone with MEAS_IN, by SHA-256.
  (∀ (s : State) (i : Init) (ix : Fin 8) (d : Dev), s.dev.reaches i (R.MEAS_EXT) = some d →
    d.lockedWrite (R.MEAS_EXT) (cmdWord [(F.MEAS_EXT_GO, 1), (F.MEAS_EXT_INDEX, ix)]) = false → 3 ≤
    ix.val → exec (.measExtend i ix) s = .next (s.ends ((d.commanded R.MEAS_EXT (cmdWord
    [(F.MEAS_EXT_GO, 1), (F.MEAS_EXT_INDEX, ix)]) F.MEAS_EXT_GO).putBytes (R.MEAS (8 * ix)) (sha256
    (d.regBytes (R.MEAS (8 * ix)) 8 ++ d.regBytes (R.MEAS_IN 0) 8))))) ∧
  -- (2) Of one below 3 it is refused with OTP_REFUSED.
  (∀ (s : State) (i : Init) (ix : Fin 8) (d : Dev), s.dev.reaches i (R.MEAS_EXT) = some d →
    d.lockedWrite (R.MEAS_EXT) (cmdWord [(F.MEAS_EXT_GO, 1), (F.MEAS_EXT_INDEX, ix)]) = false → ix.val <
    3 → exec (.measExtend i ix) s = .next (s.ends (d.failWrite i R.MEAS_EXT (cmdWord [(F.MEAS_EXT_GO,
    1), (F.MEAS_EXT_INDEX, ix)]) 0x0128))) ∧
  -- (3) QUOTE_START takes the quote.
  (∀ (s : State) (i : Init) (d : Dev), s.dev.reaches i (R.QUOTE_CMD) = some d → d.lockedWrite
    (R.QUOTE_CMD) (cmdWord [(F.QUOTE_CMD_GO, 1)]) = false → d.get F.QUOTE_CMD_STATE ≠ 1 → exec
    (.quoteStart i) s = .next (s.ends (((d.put F.QUOTE_CMD_GO 1).put F.QUOTE_CMD_STATE 1).modSc (fun x
    => { x with quote := d.quoteBytes (idBlock s.id) })))) ∧
  -- (4) During another it is refused with SC_BUSY.
  (∀ (s : State) (i : Init) (d : Dev), s.dev.reaches i (R.QUOTE_CMD) = some d → d.lockedWrite
    (R.QUOTE_CMD) (cmdWord [(F.QUOTE_CMD_GO, 1)]) = false → d.get F.QUOTE_CMD_STATE = 1 → exec
    (.quoteStart i) s = .next (s.ends (d.failWrite i R.QUOTE_CMD (cmdWord [(F.QUOTE_CMD_GO, 1)])
    0x0127))) ∧
  -- (5) QUOTE_DONE shows it in QUOTE_DATA with STATE DONE.
  (∀ (s : State), s.dev.get F.QUOTE_CMD_STATE = 1 → s.dev.flag F.SC_KEYS_ID_OK = true →
    s.dev.sc.quote.length = 384 → ∃ d' : Dev, exec (.quoteDone) s = .next (s.ends d') ∧ d'.get
    F.QUOTE_CMD_STATE = 2 ∧ d'.flag F.QUOTE_CMD_GO = false ∧ bitOf (d'.get (F.IRQ_RAW_BITS (pageBase
    (.sc 1)))) 1 = true ∧ (∀ k : Fin 96, d'.word (R.QUOTE_DATA k) = BitVec.ofNat 32 (leNat
    (Sys2Proof.Machine.slice s.dev.sc.quote (4 * k) 4))) ∧ d'.sc = { s.dev.sc with
      quote := [] }) ∧
  -- (6) Its signature follows.
  (∀ (s : State), s.dev.get F.QUOTE_CMD_STATE = 1 → s.dev.flag F.SC_KEYS_ID_OK = true → exec
    (.quoteDone) s = .next (s.ends ((((((s.dev.put F.QUOTE_CMD_GO 0).modSc (fun x => { x with
      quote := [] })).freeBytes 32).2.putBytes (R.QUOTE_DATA 0) (s.dev.sc.quote ++ pssSign
    s.dev.sc.ids.p s.dev.sc.ids.q s.dev.sc.quote (s.dev.freeBytes 32).1)).put F.QUOTE_CMD_STATE 2).raise
    (.sc 1) 1))) ∧
  -- (7) Without an identity key it ends FAILED.
  (∀ (s : State), s.dev.get F.QUOTE_CMD_STATE = 1 → s.dev.flag F.SC_KEYS_ID_OK = false → exec
    (.quoteDone) s = .next (s.ends (((s.dev.put F.QUOTE_CMD_GO 0).modSc (fun x => { x with
      quote := [] })).put F.QUOTE_CMD_STATE 3))) ∧
  -- (8) Without a quote in progress nothing.
  (∀ (s : State), s.dev.get F.QUOTE_CMD_STATE ≠ 1 → exec (.quoteDone) s = .next (s.ends (s.dev)))

/-- What the key vault and traffic key commands do (R293, R294, R295, R299).
A command is a write of VAULT_CMD or TK_CMD that reaches the device d; GO reads 0. A refusal shows
KEY_REFUSED in the window and in the error capture.
Log entries that say where the model chose on these rules: 31, 162, 163. -/
def Obligations.VaultAndTrafficKeys : Prop :=
  -- (1) VAULT_SEAL stores KEY_IN, 16 or 32 bytes, in an empty slot.
  (∀ (s : State) (i : Init) (slot : Fin 32) (long : Bool) (d : Dev), s.dev.reaches i (R.VAULT_CMD) =
    some d → d.lockedWrite (R.VAULT_CMD) (cmdWord [(F.VAULT_CMD_GO, 1), (F.VAULT_CMD_OP, 0),
    (F.VAULT_CMD_LEN, boolNat long), (F.VAULT_CMD_SLOT, slot)]) = false → tget d.sc.vault slot = [] →
    exec (.vaultSeal i slot long) s = .next (s.ends ((((d.commanded R.VAULT_CMD (cmdWord
    [(F.VAULT_CMD_GO, 1), (F.VAULT_CMD_OP, 0), (F.VAULT_CMD_LEN, boolNat long), (F.VAULT_CMD_SLOT,
    slot)]) F.VAULT_CMD_GO).modSc (fun x => { x with
      vault := tset x.vault slot (Sys2Proof.Machine.slice x.keyIn 0 (if long then 32 else 16))
        })).vaultShow).put F.VAULT_RESULT_CODE 0))) ∧
  -- (2) A slot that holds a key refuses it.
  (∀ (s : State) (i : Init) (slot : Fin 32) (long : Bool) (d : Dev), s.dev.reaches i (R.VAULT_CMD) =
    some d → d.lockedWrite (R.VAULT_CMD) (cmdWord [(F.VAULT_CMD_GO, 1), (F.VAULT_CMD_OP, 0),
    (F.VAULT_CMD_LEN, boolNat long), (F.VAULT_CMD_SLOT, slot)]) = false → tget d.sc.vault slot ≠ [] →
    exec (.vaultSeal i slot long) s = .next (s.ends (((d.commanded R.VAULT_CMD (cmdWord
    [(F.VAULT_CMD_GO, 1), (F.VAULT_CMD_OP, 0), (F.VAULT_CMD_LEN, boolNat long), (F.VAULT_CMD_SLOT,
    slot)]) F.VAULT_CMD_GO).put F.VAULT_RESULT_CODE 0x012A).windowErr i R.VAULT_CMD 0x012A))) ∧
  -- (3) VAULT_ERASE empties a slot.
  (∀ (s : State) (i : Init) (slot : Fin 32) (d : Dev), s.dev.reaches i (R.VAULT_CMD) = some d →
    d.lockedWrite (R.VAULT_CMD) (cmdWord [(F.VAULT_CMD_GO, 1), (F.VAULT_CMD_OP, 1), (F.VAULT_CMD_SLOT,
    slot)]) = false → exec (.vaultErase i slot) s = .next (s.ends ((((d.commanded R.VAULT_CMD (cmdWord
    [(F.VAULT_CMD_GO, 1), (F.VAULT_CMD_OP, 1), (F.VAULT_CMD_SLOT, slot)]) F.VAULT_CMD_GO).modSc (fun x
    => { x with vault := tset x.vault slot [] })).vaultShow).put F.VAULT_RESULT_CODE 0))) ∧
  -- (4) VAULT_LOAD fills the working key from a slot.
  (∀ (s : State) (i : Init) (slot : Fin 32) (d : Dev), s.dev.reaches i (R.VAULT_CMD) = some d →
    d.lockedWrite (R.VAULT_CMD) (cmdWord [(F.VAULT_CMD_GO, 1), (F.VAULT_CMD_OP, 2), (F.VAULT_CMD_SLOT,
    slot)]) = false → tget d.sc.vault slot ≠ [] → d.flag F.SC_KEYS_VAULT_KILL = false → d.sc.withheld =
    false → exec (.vaultLoad i slot) s = .next (s.ends (((d.commanded R.VAULT_CMD (cmdWord
    [(F.VAULT_CMD_GO, 1), (F.VAULT_CMD_OP, 2), (F.VAULT_CMD_SLOT, slot)]) F.VAULT_CMD_GO).setWkr (tget
    d.sc.vault slot) slot).put F.VAULT_RESULT_CODE 0))) ∧
  -- (5) It is refused for an empty slot, after VAULT_KILL or with keys withheld.
  (∀ (s : State) (i : Init) (slot : Fin 32) (d : Dev), s.dev.reaches i (R.VAULT_CMD) = some d →
    d.lockedWrite (R.VAULT_CMD) (cmdWord [(F.VAULT_CMD_GO, 1), (F.VAULT_CMD_OP, 2), (F.VAULT_CMD_SLOT,
    slot)]) = false → (tget d.sc.vault slot = [] ∨ d.flag F.SC_KEYS_VAULT_KILL = true ∨ d.sc.withheld =
    true) → exec (.vaultLoad i slot) s = .next (s.ends (((d.commanded R.VAULT_CMD (cmdWord
    [(F.VAULT_CMD_GO, 1), (F.VAULT_CMD_OP, 2), (F.VAULT_CMD_SLOT, slot)]) F.VAULT_CMD_GO).put
    F.VAULT_RESULT_CODE 0x012A).windowErr i R.VAULT_CMD 0x012A))) ∧
  -- (6) VAULT_DERIVE fills it with a key derived from the slot and KEY_IN.
  (∀ (s : State) (i : Init) (slot : Fin 32) (d : Dev), s.dev.reaches i (R.VAULT_CMD) = some d →
    d.lockedWrite (R.VAULT_CMD) (cmdWord [(F.VAULT_CMD_GO, 1), (F.VAULT_CMD_OP, 3), (F.VAULT_CMD_SLOT,
    slot)]) = false → tget d.sc.vault slot ≠ [] → d.flag F.SC_KEYS_VAULT_KILL = false → d.sc.withheld =
    false → exec (.vaultDerive i slot) s = .next (s.ends (((d.commanded R.VAULT_CMD (cmdWord
    [(F.VAULT_CMD_GO, 1), (F.VAULT_CMD_OP, 3), (F.VAULT_CMD_SLOT, slot)]) F.VAULT_CMD_GO).setWkr (kdf
    (tget d.sc.vault slot) (Sys2Proof.Machine.slice d.sc.keyIn 0 32)) slot).put F.VAULT_RESULT_CODE 0)))
    ∧
  -- (7) It is refused in the same cases.
  (∀ (s : State) (i : Init) (slot : Fin 32) (d : Dev), s.dev.reaches i (R.VAULT_CMD) = some d →
    d.lockedWrite (R.VAULT_CMD) (cmdWord [(F.VAULT_CMD_GO, 1), (F.VAULT_CMD_OP, 3), (F.VAULT_CMD_SLOT,
    slot)]) = false → (tget d.sc.vault slot = [] ∨ d.flag F.SC_KEYS_VAULT_KILL = true ∨ d.sc.withheld =
    true) → exec (.vaultDerive i slot) s = .next (s.ends (((d.commanded R.VAULT_CMD (cmdWord
    [(F.VAULT_CMD_GO, 1), (F.VAULT_CMD_OP, 3), (F.VAULT_CMD_SLOT, slot)]) F.VAULT_CMD_GO).put
    F.VAULT_RESULT_CODE 0x012A).windowErr i R.VAULT_CMD 0x012A))) ∧
  -- (8) VAULT_UNWRAP stages the key of a wrapped blob of 24 or 40 bytes.
  (∀ (s : State) (i : Init) (key : List Byte) (d : Dev), s.dev.reaches i (R.VAULT_CMD) = some d →
    d.lockedWrite (R.VAULT_CMD) (cmdWord [(F.VAULT_CMD_GO, 1), (F.VAULT_CMD_OP, 4)]) = false → d.sc.wkr
    ≠ [] → d.flag F.TK_STG_CFG_STG_VALID = false → (d.get F.CMAC_LEN_BYTES = 24 ∨ d.get F.CMAC_LEN_BYTES
    = 40) → keyUnwrap d.sc.wkr ((d.regBytes (R.VDATA 0) 64).take (d.get F.CMAC_LEN_BYTES)) = some key →
    exec (.vaultUnwrap i) s = .next (s.ends (((d.commanded R.VAULT_CMD (cmdWord [(F.VAULT_CMD_GO, 1),
    (F.VAULT_CMD_OP, 4)]) F.VAULT_CMD_GO).stageKey key).put F.VAULT_RESULT_CODE 0))) ∧
  -- (9) It is refused without a working key, with a staged key, for another length or where the blob
  -- fails.
  (∀ (s : State) (i : Init) (d : Dev), s.dev.reaches i (R.VAULT_CMD) = some d → d.lockedWrite
    (R.VAULT_CMD) (cmdWord [(F.VAULT_CMD_GO, 1), (F.VAULT_CMD_OP, 4)]) = false → (d.sc.wkr = [] ∨ d.flag
    F.TK_STG_CFG_STG_VALID = true ∨ (d.get F.CMAC_LEN_BYTES ≠ 24 ∧ d.get F.CMAC_LEN_BYTES ≠ 40) ∨
    keyUnwrap d.sc.wkr ((d.regBytes (R.VDATA 0) 64).take (d.get F.CMAC_LEN_BYTES)) = none) → exec
    (.vaultUnwrap i) s = .next (s.ends (((d.commanded R.VAULT_CMD (cmdWord [(F.VAULT_CMD_GO, 1),
    (F.VAULT_CMD_OP, 4)]) F.VAULT_CMD_GO).put F.VAULT_RESULT_CODE 0x012A).windowErr i R.VAULT_CMD
    0x012A))) ∧
  -- (10) VAULT_CMAC computes over VDATA.
  (∀ (s : State) (i : Init) (d : Dev), s.dev.reaches i (R.VAULT_CMD) = some d → d.lockedWrite
    (R.VAULT_CMD) (cmdWord [(F.VAULT_CMD_GO, 1), (F.VAULT_CMD_OP, 5)]) = false → d.sc.wkr ≠ [] → d.get
    F.CMAC_LEN_BYTES ≤ 256 → exec (.vaultCmac i) s = .next (s.ends (((d.commanded R.VAULT_CMD (cmdWord
    [(F.VAULT_CMD_GO, 1), (F.VAULT_CMD_OP, 5)]) F.VAULT_CMD_GO).putBytes (R.CMAC_OUT 0) (cmac d.sc.wkr
    ((d.regBytes (R.VDATA 0) 64).take (d.get F.CMAC_LEN_BYTES)))).put F.VAULT_RESULT_CODE 0))) ∧
  -- (11) It is refused without a working key, or over 256 bytes.
  (∀ (s : State) (i : Init) (d : Dev), s.dev.reaches i (R.VAULT_CMD) = some d → d.lockedWrite
    (R.VAULT_CMD) (cmdWord [(F.VAULT_CMD_GO, 1), (F.VAULT_CMD_OP, 5)]) = false → (d.sc.wkr = [] ∨ 256 <
    d.get F.CMAC_LEN_BYTES) → exec (.vaultCmac i) s = .next (s.ends (((d.commanded R.VAULT_CMD (cmdWord
    [(F.VAULT_CMD_GO, 1), (F.VAULT_CMD_OP, 5)]) F.VAULT_CMD_GO).put F.VAULT_RESULT_CODE
    0x012A).windowErr i R.VAULT_CMD 0x012A))) ∧
  -- (12) VAULT_CLEAR empties the working key.
  (∀ (s : State) (i : Init) (d : Dev), s.dev.reaches i (R.VAULT_CMD) = some d → d.lockedWrite
    (R.VAULT_CMD) (cmdWord [(F.VAULT_CMD_GO, 1), (F.VAULT_CMD_OP, 6)]) = false →   exec (.vaultClear i)
    s = .next (s.ends ((((d.commanded R.VAULT_CMD (cmdWord [(F.VAULT_CMD_GO, 1), (F.VAULT_CMD_OP, 6)])
    F.VAULT_CMD_GO).modSc (fun x => { x with wkr := [] })).setWord R.WK_STAT 0).put F.VAULT_RESULT_CODE
    0))) ∧
  -- (13) TK_STAGE_WRITE stages a word of a key.
  (∀ (s : State) (i : Init) (w : Fin 8) (v : Word) (d : Dev), s.dev.reaches i (R.TK_STG_KEY w) = some d
    → d.lockedWrite (R.TK_STG_KEY w) (v) = false → exec (.tkStageWrite i false w v) s = .next (s.ends
    (((d.modSc (fun x => { x with stgKey := overlay (Sys2Proof.Machine.slice x.stgKey 0 32) (4 * w)
                                    (leBytes 4 v.toNat) })).put F.TK_STG_CFG_STG_VALID 1).put
    F.TK_STG_CFG_SRC 0))) ∧
  -- (14) Of a salt.
  (∀ (s : State) (i : Init) (w : Fin 8) (v : Word) (d : Dev), s.dev.reaches i (R.TK_STG_SALT (w % 3)) =
    some d → d.lockedWrite (R.TK_STG_SALT (w % 3)) (v) = false → exec (.tkStageWrite i true w v) s =
    .next (s.ends (d.modSc (fun x => { x with stgSalt := overlay (Sys2Proof.Machine.slice x.stgSalt 0
                                                12) (4 * (w % 3)) (leBytes 4 v.toNat) })))) ∧
  -- (15) TK_READ shows an entry, not its key.
  (∀ (s : State) (i : Init) (ix : Fin 4096) (e : TkEntry) (d : Dev), s.dev.reaches i (R.TK_CMD) = some d
    → d.lockedWrite (R.TK_CMD) (cmdWord [(F.TK_CMD_GO, 1), (F.TK_CMD_OP, 0), (F.TK_CMD_INDEX, ix)]) =
    false → tget d.sc.tk ix = e → exec (.tkRead i ix) s = .next (s.ends ((((((d.commanded R.TK_CMD
    (cmdWord [(F.TK_CMD_GO, 1), (F.TK_CMD_OP, 0), (F.TK_CMD_INDEX, ix)]) F.TK_CMD_GO).putFlag
    F.TK_ENTRY_VALID e.valid).putFlag F.TK_ENTRY_LEN e.long).putFlag F.TK_ENTRY_SALT_VALID
    e.salt.isSome).put F.TK_ENTRY_CHECK e.check).put F.TK_RESULT_CODE 0))) ∧
  -- (16) TK_COMMIT takes the staged key where its check value agrees, and empties the staging.
  (∀ (s : State) (i : Init) (ix : Fin 4096) (key : List Byte) (d : Dev), s.dev.reaches i (R.TK_CMD) =
    some d → d.lockedWrite (R.TK_CMD) (cmdWord [(F.TK_CMD_GO, 1), (F.TK_CMD_OP, 1), (F.TK_CMD_INDEX,
    ix)]) = false → d.sc.withheld = false → d.flag F.TK_STG_CFG_STG_VALID = true →
    Sys2Proof.Machine.slice d.sc.stgKey 0 (if d.flag F.TK_STG_CFG_LEN then 32 else 16) = key → keyCheck
    key = d.get F.TK_STG_CFG_EXP_CHECK → exec (.tkCommit i ix) s = .next (s.ends ((((((d.commanded
    R.TK_CMD (cmdWord [(F.TK_CMD_GO, 1), (F.TK_CMD_OP, 1), (F.TK_CMD_INDEX, ix)]) F.TK_CMD_GO).modSc
    (fun x => { x with tk := tset x.tk ix { valid := true, long := d.flag F.TK_STG_CFG_LEN, key, check
                                              := keyCheck key, salt := if d.flag F.TK_STG_CFG_SALT_EN
                                              then some (Sys2Proof.Machine.slice x.stgSalt 0 12) else
                                              none } })).bump F.TK_SWAPS_COUNT)).unstage).put
    F.TK_RESULT_CODE 0))) ∧
  -- (17) Where it does not, it counts and raises KEY_CHECK, and empties the staging.
  (∀ (s : State) (i : Init) (ix : Fin 4096) (key : List Byte) (d : Dev), s.dev.reaches i (R.TK_CMD) =
    some d → d.lockedWrite (R.TK_CMD) (cmdWord [(F.TK_CMD_GO, 1), (F.TK_CMD_OP, 1), (F.TK_CMD_INDEX,
    ix)]) = false → d.sc.withheld = false → d.flag F.TK_STG_CFG_STG_VALID = true →
    Sys2Proof.Machine.slice d.sc.stgKey 0 (if d.flag F.TK_STG_CFG_LEN then 32 else 16) = key → keyCheck
    key ≠ d.get F.TK_STG_CFG_EXP_CHECK → exec (.tkCommit i ix) s = .next (s.ends ((((((d.commanded
    R.TK_CMD (cmdWord [(F.TK_CMD_GO, 1), (F.TK_CMD_OP, 1), (F.TK_CMD_INDEX, ix)]) F.TK_CMD_GO).bump
    F.TK_CHECK_FAIL_COUNT).raise (.sc 3) 1).unstage).put F.TK_RESULT_CODE 0x0129).windowErr i R.TK_CMD
    0x0129))) ∧
  -- (18) It is refused with keys withheld or nothing staged.
  (∀ (s : State) (i : Init) (ix : Fin 4096) (d : Dev), s.dev.reaches i (R.TK_CMD) = some d →
    d.lockedWrite (R.TK_CMD) (cmdWord [(F.TK_CMD_GO, 1), (F.TK_CMD_OP, 1), (F.TK_CMD_INDEX, ix)]) =
    false → (d.sc.withheld = true ∨ d.flag F.TK_STG_CFG_STG_VALID = false) → exec (.tkCommit i ix) s =
    .next (s.ends (((d.commanded R.TK_CMD (cmdWord [(F.TK_CMD_GO, 1), (F.TK_CMD_OP, 1), (F.TK_CMD_INDEX,
    ix)]) F.TK_CMD_GO).put F.TK_RESULT_CODE 0x012A).windowErr i R.TK_CMD 0x012A))) ∧
  -- (19) TK_DELETE invalidates an entry.
  (∀ (s : State) (i : Init) (ix : Fin 4096) (e : TkEntry) (d : Dev), s.dev.reaches i (R.TK_CMD) = some d
    → d.lockedWrite (R.TK_CMD) (cmdWord [(F.TK_CMD_GO, 1), (F.TK_CMD_OP, 2), (F.TK_CMD_INDEX, ix)]) =
    false → tget d.sc.tk ix = e → exec (.tkDelete i ix) s = .next (s.ends (((d.commanded R.TK_CMD
    (cmdWord [(F.TK_CMD_GO, 1), (F.TK_CMD_OP, 2), (F.TK_CMD_INDEX, ix)]) F.TK_CMD_GO).modSc (fun x => {
    x with tk := tset x.tk ix { e with valid := false } })).put F.TK_RESULT_CODE 0))) ∧
  -- (20) TK_CLEAR_STAGE empties the staging.
  (∀ (s : State) (i : Init) (d : Dev), s.dev.reaches i (R.TK_CMD) = some d → d.lockedWrite (R.TK_CMD)
    (cmdWord [(F.TK_CMD_GO, 1), (F.TK_CMD_OP, 3)]) = false →   exec (.tkClearStage i) s = .next (s.ends
    ((d.commanded R.TK_CMD (cmdWord [(F.TK_CMD_GO, 1), (F.TK_CMD_OP, 3)]) F.TK_CMD_GO).unstage.put
    F.TK_RESULT_CODE 0)))

/-- What the debug authentication commands and debug resets do (R261, R297, R298, R299, R300, R301).
DBG_CHALLENGE, DBG_RESPOND and DBG_DROP are writes of DBG_CMD that reach the device d; GO reads 0.
Log entries that say where the model chose on these rules: 30, 165, 166, 167, 176, 244, 249, 286, 307. -/
def Obligations.DebugAccess : Prop :=
  -- (1) DBG_CHALLENGE gives a fresh challenge, of free bytes.
  (∀ (s : State) (i : Init) (d : Dev), s.dev.reaches i (R.DBG_CMD) = some d → d.lockedWrite (R.DBG_CMD)
    (cmdWord [(F.DBG_CMD_GO, 1), (F.DBG_CMD_OP, 0)]) = false → d.flag F.DBG_STAT_LOCKOUT = false → ∃ d'
    : Dev, exec (.dbgChallenge i) s = .next (s.ends d') ∧ d'.sc = { d.sc with
      challenge := true } ∧ d'.get F.DBG_RESULT_CODE = 0 ∧ ∀ a, a ≠ R.DBG_CMD → a ≠ R.DBG_RESULT → (a <
    R.DBG_CHAL 0 ∨ R.DBG_CHAL 8 ≤ a) → d'.word a = d.word a) ∧
  -- (2) Locked out it is refused with DBG_REFUSED.
  (∀ (s : State) (i : Init) (d : Dev), s.dev.reaches i (R.DBG_CMD) = some d → d.lockedWrite (R.DBG_CMD)
    (cmdWord [(F.DBG_CMD_GO, 1), (F.DBG_CMD_OP, 0)]) = false → d.flag F.DBG_STAT_LOCKOUT = true → exec
    (.dbgChallenge i) s = .next (s.ends (((d.commanded R.DBG_CMD (cmdWord [(F.DBG_CMD_GO, 1),
    (F.DBG_CMD_OP, 0)]) F.DBG_CMD_GO).put F.DBG_RESULT_CODE 0x012B).windowErr i R.DBG_CMD 0x012B))) ∧
  -- (3) DBG_RESPOND that holds grants the level and clears FAILS; Full in lifecycles 2 and 4 withholds
  -- the keys.
  (∀ (s : State) (i : Init) (level : Fin 4) (raneltik : Bool) (d : Dev), s.dev.reaches i (R.DBG_CMD) =
    some d → d.lockedWrite (R.DBG_CMD) (cmdWord [(F.DBG_CMD_GO, 1), (F.DBG_CMD_OP, 1), (F.DBG_CMD_LEVEL,
    level), (F.DBG_CMD_KEYSEL, boolNat raneltik)]) = false → d.respondOk (idBlock s.id) level raneltik =
    true → ∃ d' : Dev, exec (.dbgRespond i level raneltik) s = .next (s.ends d') ∧ d'.sc.level = level ∧
    d'.get F.DBG_STAT_LEVEL = level ∧ d'.get F.DBG_STAT_FAILS = 0 ∧ d'.sc.challenge = false ∧ d'.get
    F.DBG_RESULT_CODE = 0 ∧ d'.sc.vault = d.sc.vault ∧ d'.sc.otp = d.sc.otp ∧ d'.sc.lc = d.sc.lc ∧
    (¬(level = 2 ∧ (d.sc.lc = 2 ∨ d.sc.lc = 4)) → d'.sc.withheld = d.sc.withheld ∧ d'.sc.wkr = d.sc.wkr
    ∧ d'.sc.tk = d.sc.tk) ∧ (level = 2 ∧ (d.sc.lc = 2 ∨ d.sc.lc = 4) → d'.sc.withheld = true ∧ d'.sc.wkr
    = []) ∧ ∀ k, level = 2 ∧ (d.sc.lc = 2 ∨ d.sc.lc = 4) → (tget d'.sc.tk k).valid = false) ∧
  -- (4) Another consumes the challenge and counts; the third locks out.
  (∀ (s : State) (i : Init) (level : Fin 4) (raneltik : Bool) (d : Dev), s.dev.reaches i (R.DBG_CMD) =
    some d → d.lockedWrite (R.DBG_CMD) (cmdWord [(F.DBG_CMD_GO, 1), (F.DBG_CMD_OP, 1), (F.DBG_CMD_LEVEL,
    level), (F.DBG_CMD_KEYSEL, boolNat raneltik)]) = false → d.respondOk (idBlock s.id) level raneltik =
    false → ∃ d' : Dev, exec (.dbgRespond i level raneltik) s = .next (s.ends d') ∧ d'.get
    F.DBG_STAT_FAILS = min 3 (d.get F.DBG_STAT_FAILS + 1) ∧ d'.flag F.DBG_STAT_LOCKOUT = (d.flag
    F.DBG_STAT_LOCKOUT || 2 ≤ d.get F.DBG_STAT_FAILS) ∧ d'.sc = { d.sc with
      challenge := false } ∧ d'.get F.DBG_RESULT_CODE = 0x012B) ∧
  -- (5) DBG_DROP lowers the level.
  (∀ (s : State) (i : Init) (level : Fin 4) (d : Dev), s.dev.reaches i (R.DBG_CMD) = some d →
    d.lockedWrite (R.DBG_CMD) (cmdWord [(F.DBG_CMD_GO, 1), (F.DBG_CMD_OP, 2), (F.DBG_CMD_LEVEL, level)])
    = false → level.val < d.sc.level → d.mode ≠ 9 → exec (.dbgDrop i level) s = .next (s.ends
    ((((d.commanded R.DBG_CMD (cmdWord [(F.DBG_CMD_GO, 1), (F.DBG_CMD_OP, 2), (F.DBG_CMD_LEVEL, level)])
    F.DBG_CMD_GO).modSc (fun x => { x with level := level })).put F.DBG_STAT_LEVEL level).put
    F.DBG_RESULT_CODE 0))) ∧
  -- (6) To no lower level it does nothing.
  (∀ (s : State) (i : Init) (level : Fin 4) (d : Dev), s.dev.reaches i (R.DBG_CMD) = some d →
    d.lockedWrite (R.DBG_CMD) (cmdWord [(F.DBG_CMD_GO, 1), (F.DBG_CMD_OP, 2), (F.DBG_CMD_LEVEL, level)])
    = false → d.sc.level ≤ level.val → exec (.dbgDrop i level) s = .next (s.ends ((d.commanded R.DBG_CMD
    (cmdWord [(F.DBG_CMD_GO, 1), (F.DBG_CMD_OP, 2), (F.DBG_CMD_LEVEL, level)]) F.DBG_CMD_GO).put
    F.DBG_RESULT_CODE 0))) ∧
  -- (7) In M9 of lifecycle 3 a drop to 0 returns to service as a request of M4 would; in other cases of
  -- M9 it only drops.
  (∀ (s : State) (i : Init) (level : Fin 4) (d e : Dev), s.dev.reaches i (R.DBG_CMD) = some d →
    d.lockedWrite (R.DBG_CMD) ((cmdWord [(F.DBG_CMD_GO, 1), (F.DBG_CMD_OP, 2), (F.DBG_CMD_LEVEL,
    level)])) = false → level.val < d.sc.level → d.mode = 9 → ((d.commanded R.DBG_CMD (cmdWord
    [(F.DBG_CMD_GO, 1), (F.DBG_CMD_OP, 2), (F.DBG_CMD_LEVEL, level)]) F.DBG_CMD_GO).modSc (fun x => { x
    with level := level })).put F.DBG_STAT_LEVEL level = e → exec (.dbgDrop i level) s = .next (s.ends
    ((if d.sc.lc = 3 ∧ level = 0 then e.changeMode (if e.healthyCount = 16 then 4 else 6) 0 (initCode i)
    else e).put F.DBG_RESULT_CODE 0))) ∧
  -- (8) DEBUG_RESET from a debug port that reaches writes of every page resets the device.
  (∀ (s : State) (warm : Bool), debugReach s.dev.sc.lc s.dev.sc.level s.dev.mode = 3 → exec (.debugReset
    warm) s = .next (s.ends (s.dev.resetReq warm 0x100))) ∧
  -- (9) Elsewhere it does nothing.
  (∀ (s : State) (warm : Bool), debugReach s.dev.sc.lc s.dev.sc.level s.dev.mode ≠ 3 → exec (.debugReset
    warm) s = .next (s.ends (s.dev)))

/-- What Sapling DATA, QUERY, ABORT and ARP messages and the end of the erase do (R306, R307, R308, R310,
R311, R312, R317).
The relay, or the boot ROM in its place, is on; a datagram comes to its UDP port and m is its message. A
session is known by its number. The slot is the session's; a new session takes the inactive one, in the
boot ROM LPDDR5. Whether the flash returns a programmed block is a free value.
Log entries that say where the model chose on these rules: 30, 169, 170, 171, 172, 250, 292, 293, 294,
295, 301. -/
def Obligations.SaplingReception : Prop :=
  -- (1) A message that is none is counted.
  (∀ (s : State) (src : Word) (port : BitVec 16) (msg : List Byte), port.toNat = s.dev.sapPort →
    s.dev.sapOn = true → sapRead msg = none → exec (.sapDataRx src port msg) s = .next (s.ends
    (s.dev.bump F.SAP_CRC_BAD_COUNT))) ∧
  -- (2) Block 0 of an unknown session, with none in progress and no hold, erases the slot and starts it.
  (∀ (s : State) (src : Word) (port : BitVec 16) (msg : List Byte) (m : SapMsg), port.toNat =
    s.dev.sapPort → s.dev.sapOn = true → s.dev.sapBoot = false → sapRead msg = some m → m.typ = 1 →
    m.data.length = 4096 → m.seq = 0 → (s.dev.sapState = 0 ∨ ((s.dev.sapState = 4 ∨ s.dev.sapState = 7 ∨
    s.dev.sapState = 8) ∧ m.session ≠ s.dev.sapSession)) → holdCode s.dev.sapHolds 0x1E = 0 → ∃ d' :
    Dev, exec (.sapDataRx src port msg) s = .next (s.ends d') ∧ d'.sapState = 1 ∧ d'.sapSession =
    m.session % 2 ^ 32 ∧ d'.sapTotal = 0 ∧ d'.sapAck = 0 ∧ d'.sap.first = m.data ∧ d'.sap.upstream =
    src.toNat ∧ d'.out = s.dev.out ∧ d'.sapSlot = s.dev.get F.SAP_STAT_SLOT ∧ ∀ n, n < 8192 →
    d'.sapBlock d'.sapSlot n = [] ∧ d'.sapBlock (1 - d'.sapSlot) n = s.dev.sapBlock (1 - d'.sapSlot) n)
    ∧
  -- (3) The boot ROM asks no hold.
  (∀ (s : State) (src : Word) (port : BitVec 16) (msg : List Byte) (m : SapMsg), port.toNat =
    s.dev.sapPort → s.dev.sapOn = true → s.dev.sapBoot = true → sapRead msg = some m → m.typ = 1 →
    m.data.length = 4096 → m.seq = 0 → (s.dev.sapState = 0 ∨ ((s.dev.sapState = 4 ∨ s.dev.sapState = 7 ∨
    s.dev.sapState = 8) ∧ m.session ≠ s.dev.sapSession)) → ∃ d' : Dev, exec (.sapDataRx src port msg) s
    = .next (s.ends d') ∧ d'.sapState = 1 ∧ d'.sapSession = m.session % 2 ^ 32 ∧ d'.sapTotal = 0 ∧
    d'.sapAck = 0 ∧ d'.sap.first = m.data ∧ d'.sap.upstream = src.toNat ∧ d'.out = s.dev.out ∧
    d'.sapSlot = 2 ∧ ∀ n, n < 8192 → d'.sapBlock 2 n = []) ∧
  -- (4) With a hold it is answered with a STATUS of the lowest.
  (∀ (s : State) (src : Word) (port : BitVec 16) (msg : List Byte) (m : SapMsg) (code : Nat), port.toNat
    = s.dev.sapPort → s.dev.sapOn = true → s.dev.sapBoot = false → sapRead msg = some m → m.typ = 1 →
    m.data.length = 4096 → m.seq = 0 → (s.dev.sapState = 0 ∨ ((s.dev.sapState = 4 ∨ s.dev.sapState = 7 ∨
    s.dev.sapState = 8) ∧ m.session ≠ s.dev.sapSession)) → holdCode s.dev.sapHolds 0x1E = code → code ≠
    0 → exec (.sapDataRx src port msg) s = .next (s.ends (s.dev.sapEmit src.toNat ⟨4, code, m.session,
    0, 0, 0, []⟩))) ∧
  -- (5) During another session it is answered with STATUS 1.
  (∀ (s : State) (src : Word) (port : BitVec 16) (msg : List Byte) (m : SapMsg), port.toNat =
    s.dev.sapPort → s.dev.sapOn = true → sapRead msg = some m → m.typ = 1 → m.data.length = 4096 → m.seq
    = 0 → m.session ≠ s.dev.sapSession → (s.dev.sapState = 1 ∨ s.dev.sapState = 2 ∨ s.dev.sapState = 3 ∨
    s.dev.sapState = 5 ∨ s.dev.sapState = 6) → exec (.sapDataRx src port msg) s = .next (s.ends
    (s.dev.sapEmit src.toNat ⟨4, 1, m.session, 0, 0, 0, []⟩))) ∧
  -- (6) A known block during the erase or beyond the window is dropped.
  (∀ (s : State) (src : Word) (port : BitVec 16) (msg : List Byte) (m : SapMsg), port.toNat =
    s.dev.sapPort → s.dev.sapOn = true → sapRead msg = some m → m.typ = 1 → m.data.length = 4096 →
    s.dev.sapState ≠ 0 → m.session = s.dev.sapSession → (s.dev.sapState = 1 ∨ s.dev.sapAck + 16 ≤ m.seq)
    → exec (.sapDataRx src port msg) s = .next (s.ends (s.dev))) ∧
  -- (7) A stored one is counted and, but in a HELD session, acknowledged again.
  (∀ (s : State) (src : Word) (port : BitVec 16) (msg : List Byte) (m : SapMsg), port.toNat =
    s.dev.sapPort → s.dev.sapOn = true → sapRead msg = some m → m.typ = 1 → m.data.length = 4096 →
    s.dev.sapState ≠ 0 → m.session = s.dev.sapSession → s.dev.sapState ≠ 1 → m.seq < s.dev.sapAck + 16 →
    s.dev.sapStored m.seq = true → exec (.sapDataRx src port msg) s = .next (s.ends (if s.dev.sapState =
    3 then s.dev.bump F.SAP_DUP_COUNT else (s.dev.bump F.SAP_DUP_COUNT).sapSend src.toNat 2 0 m.session
    s.dev.sapAck s.dev.sapSack []))) ∧
  -- (8) Another is stored and acknowledged, unless its read-back fails; with the last one the digests
  -- decide READY or REFUSED.
  (∀ (s : State) (src : Word) (port : BitVec 16) (msg : List Byte) (m : SapMsg), port.toNat =
    s.dev.sapPort → s.dev.sapOn = true → sapRead msg = some m → m.typ = 1 → m.data.length = 4096 →
    s.dev.sapState = 2 → m.session = s.dev.sapSession → m.seq < s.dev.sapAck + 16 → m.seq <
    s.dev.sapTotal → s.dev.sapStored m.seq = false → m.seq ≠ 0 → ∃ d' : Dev, exec (.sapDataRx src port
    msg) s = .next (s.ends d') ∧ d'.sap.upstream = src.toNat ∧ ((s.dev.free 2).1 ≠ 0 → d'.out =
    s.dev.out ∧ d'.sap.flash = s.dev.sap.flash ∧ d'.sapState = 2) ∧ ((s.dev.free 2).1 = 0 → d'.out =
    .sapling src.toNat s.dev.sapPort (s.dev.sapPacket src.toNat (sapBytes ⟨2, 0, m.session, d'.sapAck,
    d'.sapSack, s.dev.sapTotal, []⟩)) :: s.dev.out ∧ (d'.sapAck ≠ s.dev.sapTotal → d'.sapState = 2) ∧
    (d'.sapAck = s.dev.sapTotal → d'.sapState = (if d'.sapDigests s.dev.sapSlot then 4 else 8)) ∧
    d'.sapBlock s.dev.sapSlot m.seq = m.data) ∧ ∀ n, n ≠ m.seq → d'.sapBlock s.dev.sapSlot n =
    s.dev.sapBlock s.dev.sapSlot n) ∧
  -- (9) A block 0 that was not stored and comes again is verified again; a refused one leaves the slot
  -- erased.
  (∀ (s : State) (src : Word) (port : BitVec 16) (msg : List Byte) (m : SapMsg) (code : Nat), port.toNat
    = s.dev.sapPort → s.dev.sapOn = true → sapRead msg = some m → m.typ = 1 → m.data.length = 4096 →
    s.dev.sapState = 2 → m.session = s.dev.sapSession → m.seq = 0 → s.dev.sapTotal ≠ 0 → s.dev.sapStored
    0 = false → (if manSession m.data = m.session then s.dev.manifestCode m.data else 7) = code → ∃ d' :
    Dev, exec (.sapDataRx src port msg) s = .next (s.ends d') ∧ d'.sap.upstream = src.toNat ∧ (code = 0
    → (s.dev.free 2).1 = 0 → d'.sapBlock s.dev.sapSlot 0 = m.data) ∧ (code = 0 → (s.dev.free 2).1 ≠ 0 →
    d'.sap.flash = s.dev.sap.flash ∧ d'.out = s.dev.out) ∧ (code ≠ 0 → d'.sapState = 8 ∧ d'.get
    F.SAP_RESULT_CODE = code) ∧ ∀ n, n < 8192 → code ≠ 0 → d'.sapBlock s.dev.sapSlot n = []) ∧
  -- (10) Other DATA changes nothing.
  (∀ (s : State) (src : Word) (port : BitVec 16) (msg : List Byte) (m : SapMsg), port.toNat =
    s.dev.sapPort → sapRead msg = some m → (s.dev.sapOn = false ∨ m.typ ≠ 1 ∨ m.data.length ≠ 4096 ∨
    ((s.dev.sapState = 0 ∨ m.session ≠ s.dev.sapSession) ∧ m.seq ≠ 0) ∨ (s.dev.sapState ≠ 0 ∧ m.session
    = s.dev.sapSession ∧ s.dev.sapStored m.seq = false ∧ (s.dev.sapState ≠ 2 ∨ s.dev.sapTotal ≤ m.seq)))
    → exec (.sapDataRx src port msg) s = .next (s.ends (s.dev))) ∧
  -- (11) SAP_ERASE_DONE stores a verified block 0 and acknowledges it, but not under a hold of SUPPLY or
  -- BATTERY, nor when its read-back fails.
  (∀ (s : State) (b : List Byte), s.dev.sapOn = true → s.dev.sapState = 1 → s.dev.sap.first = b →
    manSession b = s.dev.sapSession → s.dev.manifestCode b = 0 → ∃ d' : Dev, exec (.sapEraseDone) s =
    .next (s.ends d') ∧ d'.sapTotal = manTotal b ∧ d'.sap.first = [] ∧ (d'.sapAck ≠ d'.sapTotal →
    d'.sapState = 2) ∧ ((s.dev.free 2).1 ≠ 0 → d'.out = s.dev.out ∧ d'.sap.flash = s.dev.sap.flash ∧
    d'.sapState = 2) ∧ ((s.dev.free 2).1 = 0 → d'.sapBlock s.dev.sapSlot 0 = b ∧ d'.out = if
    s.dev.sapBoot = false ∧ bitsOf s.dev.sapHolds 1 2 ≠ 0 then s.dev.out else .sapling
    s.dev.sap.upstream s.dev.sapPort (s.dev.sapPacket s.dev.sap.upstream (sapBytes ⟨2, 0,
    s.dev.sapSession, d'.sapAck, d'.sapSack, manTotal b, []⟩)) :: s.dev.out)) ∧
  -- (12) Another is refused with its code, and the slot is left erased.
  (∀ (s : State) (b : List Byte) (code : Nat), s.dev.sapOn = true → s.dev.sapState = 1 → s.dev.sap.first
    = b → (if manSession b = s.dev.sapSession then s.dev.manifestCode b else 7) = code → code ≠ 0 → ∃ d'
    : Dev, exec (.sapEraseDone) s = .next (s.ends d') ∧ d'.sapState = 8 ∧ d'.get F.SAP_RESULT_CODE =
    code ∧ d'.sap.first = [] ∧ (∀ n, n < 8192 → d'.sapBlock s.dev.sapSlot n = []) ∧ d'.out = .sapling
    s.dev.sap.upstream s.dev.sapPort (s.dev.sapPacket s.dev.sap.upstream (sapBytes ⟨4, code,
    s.dev.sapSession, s.dev.sapAck, d'.sapSack, s.dev.sapTotal, []⟩)) :: s.dev.out) ∧
  -- (13) Without an erase in progress nothing.
  (∀ (s : State), s.dev.sapOn = false ∨ s.dev.sapState ≠ 1 → exec (.sapEraseDone) s = .next (s.ends
    (s.dev))) ∧
  -- (14) QUERY of the session is answered with STATUS, its result and progress.
  (∀ (s : State) (src : Word) (port : BitVec 16) (msg : List Byte) (m : SapMsg), port.toNat =
    s.dev.sapPort → s.dev.sapOn = true → sapRead msg = some m → m.typ = 3 → s.dev.sapState ≠ 0 →
    s.dev.sapState ≠ 1 → m.session = s.dev.sapSession → exec (.sapQueryRx src port msg) s = .next
    (s.ends (s.dev.sapSend src.toNat 4 (if s.dev.sapState = 8 then s.dev.get F.SAP_RESULT_CODE else 0)
    m.session s.dev.sapAck s.dev.sapSack []))) ∧
  -- (15) During the erase without progress.
  (∀ (s : State) (src : Word) (port : BitVec 16) (msg : List Byte) (m : SapMsg), port.toNat =
    s.dev.sapPort → s.dev.sapOn = true → sapRead msg = some m → m.typ = 3 → s.dev.sapState = 1 →
    m.session = s.dev.sapSession → exec (.sapQueryRx src port msg) s = .next (s.ends (s.dev.sapSend
    src.toNat 4 0 m.session 0 0 []))) ∧
  -- (16) Another QUERY is not answered.
  (∀ (s : State) (src : Word) (port : BitVec 16) (msg : List Byte), port.toNat = s.dev.sapPort →
    (sapRead msg).all (fun m => !s.dev.sapOn || m.typ != 3 || s.dev.sapState == 0 || m.session !=
    s.dev.sapSession) = true → exec (.sapQueryRx src port msg) s = .next (s.ends (s.dev))) ∧
  -- (17) ABORT from upstream ends the session, erases the slot and goes to every peer in use.
  (∀ (s : State) (src : Word) (port : BitVec 16) (msg : List Byte) (m : SapMsg), port.toNat =
    s.dev.sapPort → s.dev.sapOn = true → sapRead msg = some m → m.typ = 5 → m.session = s.dev.sapSession
    → s.dev.sapAbortable = true → s.dev.peerAt src.toNat = none → ∃ d' : Dev, exec (.sapAbortRx src port
    msg) s = .next (s.ends d') ∧ d'.sapState = 0 ∧ d'.sapTotal = 0 ∧ d'.sapAck = 0 ∧ d'.sap.first = [] ∧
    d'.sap.peers = [] ∧ d'.out = (((List.range 4).filter (fun k => s.dev.peerOn k)).map (fun k =>
    Out.sapling (s.dev.peerIp k) s.dev.sapPort (s.dev.sapPacket (s.dev.peerIp k) (sapBytes ⟨5, 0,
    s.dev.sapSession, 0, 0, s.dev.sapTotal, []⟩)))).reverse ++ s.dev.out ∧ ∀ n, n < 8192 → d'.sapBlock
    s.dev.sapSlot n = []) ∧
  -- (18) Another has no effect.
  (∀ (s : State) (src : Word) (port : BitVec 16) (msg : List Byte), port.toNat = s.dev.sapPort →
    (sapRead msg).all (fun m => !s.dev.sapOn || m.typ != 5 || m.session != s.dev.sapSession ||
    !s.dev.sapAbortable || (s.dev.peerAt src.toNat).isSome) = true → exec (.sapAbortRx src port msg) s =
    .next (s.ends (s.dev))) ∧
  -- (19) No datagram to another port is a Sapling message.
  (∀ (s : State) (src : Word) (port : BitVec 16) (msg : List Byte), port.toNat ≠ s.dev.sapPort → exec
    (.sapDataRx src port msg) s = .next (s.ends (s.dev)) ∧ exec (.sapAckRx src port msg) s = .next
    (s.ends (s.dev)) ∧ exec (.sapStatusRx src port msg) s = .next (s.ends (s.dev)) ∧ exec (.sapQueryRx
    src port msg) s = .next (s.ends (s.dev)) ∧ exec (.sapAbortRx src port msg) s = .next (s.ends
    (s.dev))) ∧
  -- (20) An ARP request for its address is answered, another is not.
  (∀ (s : State) (src target : Word), exec (.sapArpRx src target) s = .next (s.ends (if s.dev.sapOn =
    true ∧ target.toNat = s.dev.sapIp then s.dev.emit (.arp src.toNat s.dev.sapIp (Config.ownMac % 2 ^
    48)) else s.dev)))

/-- Downstream progress, retransmission, and the ACTIVATE and ABORT commands (R307, R309, R311, R312, R313,
R314, R316).
k is the downstream peer in use at the source address; messages are of the session. SAP_ACTIVATE and
SAP_ABORT are writes of SAP_CMD that reach the device d.
Log entries that say where the model chose on these rules: 168, 169, 170, 171, 172, 173, 293, 294, 295,
296, 297, 298, 300. -/
def Obligations.SaplingForwardingAndActivation : Prop :=
  -- (1) An ACK advances the progress of the peer; one that has every block is COMPLETE.
  (∀ (s : State) (src : Word) (port : BitVec 16) (msg : List Byte) (m : SapMsg) (k : Nat), port.toNat =
    s.dev.sapPort → s.dev.sapOn = true → s.dev.sapBoot = false → sapRead msg = some m → s.dev.peerAt
    src.toNat = some k → s.dev.sapState ≠ 0 → m.session = s.dev.sapSession → m.typ = 2 → s.dev.peerState
    k < 2 → ∃ d' : Dev, exec (.sapAckRx src port msg) s = .next (s.ends d') ∧ d'.peerAck k = max
    (s.dev.peerAck k) (min m.seq s.dev.sapTotal) ∧ (s.dev.sapTotal ≠ 0 → s.dev.sapTotal ≤ d'.peerAck k →
    d'.peerState k = 2) ∧ d'.sap.flash = s.dev.sap.flash ∧ d'.sapState = s.dev.sapState) ∧
  -- (2) A STATUS with a code makes it REFUSED.
  (∀ (s : State) (src : Word) (port : BitVec 16) (msg : List Byte) (m : SapMsg) (k : Nat), port.toNat =
    s.dev.sapPort → s.dev.sapOn = true → s.dev.sapBoot = false → sapRead msg = some m → s.dev.peerAt
    src.toNat = some k → s.dev.sapState ≠ 0 → m.session = s.dev.sapSession → m.typ = 4 → m.code ≠ 0 →
    s.dev.peerState k ≠ 4 → exec (.sapStatusRx src port msg) s = .next (s.ends ((s.dev.put
    (F.SAP_DOWN_STAT_STATE k) 4).modPeer k (fun q => { q with
      sent := [] })))) ∧
  -- (3) One without advances it, and a STALLED peer goes on.
  (∀ (s : State) (src : Word) (port : BitVec 16) (msg : List Byte) (m : SapMsg) (k : Nat), port.toNat =
    s.dev.sapPort → s.dev.sapOn = true → s.dev.sapBoot = false → sapRead msg = some m → s.dev.peerAt
    src.toNat = some k → s.dev.sapState ≠ 0 → m.session = s.dev.sapSession → m.typ = 4 → m.code = 0 →
    s.dev.peerState k ≠ 4 → ∃ d' : Dev, exec (.sapStatusRx src port msg) s = .next (s.ends d') ∧
    d'.peerAck k = max (s.dev.peerAck k) (min m.seq s.dev.sapTotal) ∧ (s.dev.sapTotal ≠ 0 →
    s.dev.sapTotal ≤ d'.peerAck k → d'.peerState k = 2) ∧ d'.sap.flash = s.dev.sap.flash ∧ d'.sapState =
    s.dev.sapState ∧ (s.dev.peerState k = 3 → d'.peerAck k < s.dev.sapTotal → d'.peerState k = 1)) ∧
  -- (4) Other ACKs have no effect.
  (∀ (s : State) (src : Word) (port : BitVec 16) (msg : List Byte), port.toNat = s.dev.sapPort →
    (s.dev.peerAt src.toNat = none ∨ (sapRead msg).all (fun m => !s.dev.sapOn || s.dev.sapBoot || m.typ
    != 2 || s.dev.sapState == 0 || m.session != s.dev.sapSession || (s.dev.peerAt src.toNat).all (fun k
    => !decide (s.dev.peerState k < 2))) = true) → exec (.sapAckRx src port msg) s = .next (s.ends
    (s.dev))) ∧
  -- (5) Nor have other STATUS messages.
  (∀ (s : State) (src : Word) (port : BitVec 16) (msg : List Byte), port.toNat = s.dev.sapPort →
    (s.dev.peerAt src.toNat = none ∨ (sapRead msg).all (fun m => !s.dev.sapOn || s.dev.sapBoot || m.typ
    != 4 || s.dev.sapState == 0 || m.session != s.dev.sapSession || (s.dev.peerAt src.toNat).all (fun k
    => s.dev.peerState k == 4)) = true) → exec (.sapStatusRx src port msg) s = .next (s.ends (s.dev))) ∧
  -- (6) SAP_RETX_TIMEOUT sends a block unanswered for 20 ms again.
  (∀ (s : State) (k : Fin 4) (n : Fin 8192) (sends t : Nat), s.dev.sapOn = true → s.dev.peerOn k = true
    → s.dev.peerState k = 1 → (s.dev.sapPeer k).sent.find? (fun x => x.1 == n.val) = some (n.val, sends,
    t) → t + 20000000 ≤ s.dev.plat.aon → sends < 8 → exec (.sapRetxTimeout k n) s = .next (s.ends
    (((s.dev.sapSend (s.dev.peerIp k) 1 0 s.dev.sapSession n 0 (s.dev.sapBlock s.dev.sapSlot n)).bump
    F.SAP_RETX_COUNT).modPeer k (fun q => { q with
      sent := q.sent.map (fun x => if x.1 = n.val then (n.val, x.2.1 + 1, s.dev.plat.aon) else x) }))))
    ∧
  -- (7) After eight sends the peer is STALLED.
  (∀ (s : State) (k : Fin 4) (n : Fin 8192) (sends t : Nat), s.dev.sapOn = true → s.dev.peerOn k = true
    → s.dev.peerState k = 1 → (s.dev.sapPeer k).sent.find? (fun x => x.1 == n.val) = some (n.val, sends,
    t) → t + 20000000 ≤ s.dev.plat.aon → 8 ≤ sends → exec (.sapRetxTimeout k n) s = .next (s.ends
    ((s.dev.put (F.SAP_DOWN_STAT_STATE k) 3).modPeer k (fun q => { q with
      query := s.dev.plat.aon })))) ∧
  -- (8) Of no such block nothing.
  (∀ (s : State) (k : Fin 4) (n : Fin 8192), (s.dev.sapOn = false ∨ s.dev.peerOn k = false ∨
    s.dev.peerState k ≠ 1 ∨ ((s.dev.sapPeer k).sent.find? (fun x => x.1 == n.val)).all (fun x => decide
    (s.dev.plat.aon < x.2.2 + 20000000)) = true) → exec (.sapRetxTimeout k n) s = .next (s.ends
    (s.dev))) ∧
  -- (9) SAP_QUERY_TIMER queries a STALLED peer every second.
  (∀ (s : State) (k : Fin 4), s.dev.sapOn = true → s.dev.peerOn k = true → s.dev.peerState k = 3 →
    (s.dev.sapPeer k).query + 1000000000 ≤ s.dev.plat.aon → exec (.sapQueryTimer k) s = .next (s.ends
    ((s.dev.sapSend (s.dev.peerIp k) 3 0 s.dev.sapSession 0 0 []).modPeer k (fun q => { q with
      query := s.dev.plat.aon })))) ∧
  -- (10) Otherwise nothing.
  (∀ (s : State) (k : Fin 4), (s.dev.sapOn = false ∨ s.dev.peerOn k = false ∨ s.dev.peerState k ≠ 3 ∨
    s.dev.plat.aon < (s.dev.sapPeer k).query + 1000000000) → exec (.sapQueryTimer k) s = .next (s.ends
    (s.dev))) ∧
  -- (11) SAP_ACTIVATE of a READY session without a DELTA changes the boot record.
  (∀ (s : State) (i : Init) (d : Dev), s.dev.reaches i (R.SAP_CMD) = some d → d.lockedWrite (R.SAP_CMD)
    (cmdWord [(F.SAP_CMD_GO, 1), (F.SAP_CMD_OP, 1)]) = false → d.sapState = 4 → d.sapHolds = 0 →
    d.slp.target = none → (manEntries d.sapManifest).find? (fun e => e.kind == 4) = none → ∃ d' : Dev,
    exec (.sapActivate i) s = .next (s.ends d') ∧ d'.sapState = 6 ∧ d'.get F.SAP_RESULT_CODE = 0 ∧
    d'.sap.unconfirmed = some d.sapSlot ∧ bitOf d'.plat.boot.flags 2 = (d.sapSlot == 1) ∧
    d'.plat.boot.consec = 0 ∧ d'.gv = d.gv ∧ d'.mode = d.mode ∧ d'.flag F.SAP_CMD_GO = false) ∧
  -- (12) With a DELTA for the database in force, due within 30 ms, it enters Activation.
  (∀ (s : State) (i : Init) (d : Dev) (e : SapEntry), s.dev.reaches i (R.SAP_CMD) = some d →
    d.lockedWrite (R.SAP_CMD) (cmdWord [(F.SAP_CMD_GO, 1), (F.SAP_CMD_OP, 1)]) = false → d.sapState = 4
    → d.sapHolds = 0 → d.slp.target = none → (manEntries d.sapManifest).find? (fun e => e.kind == 4) =
    some e → d.runningDb = some (manBase d.sapManifest) → e.apply ≤ 30000 → ∃ d' : Dev, exec
    (.sapActivate i) s = .next (s.ends d') ∧ d'.sapState = 5 ∧ d'.sap.saved = some d.gv ∧ d'.sap.loaded
    = false ∧ d'.sap.touched = [] ∧ bitOf d'.plat.boot.flags 2 = (d.sapSlot == 1) ∧ d'.mode = 8 ∧ d'.get
    F.PC_MODE_RETURN = d.mode ∧ d'.flag F.SAP_CMD_GO = false) ∧
  -- (13) Otherwise it is refused with its code, and SAP_REFUSED.
  (∀ (s : State) (i : Init) (d : Dev) (c : Nat), s.dev.reaches i (R.SAP_CMD) = some d → d.lockedWrite
    (R.SAP_CMD) (cmdWord [(F.SAP_CMD_GO, 1), (F.SAP_CMD_OP, 1)]) = false → d.activateCode = c → c ≠ 0 →
    exec (.sapActivate i) s = .next (s.ends (((d.commanded R.SAP_CMD (cmdWord [(F.SAP_CMD_GO, 1),
    (F.SAP_CMD_OP, 1)]) F.SAP_CMD_GO).put F.SAP_RESULT_CODE c).windowErr i R.SAP_CMD 0x012C))) ∧
  -- (14) SAP_ABORT ends a session that may be aborted.
  (∀ (s : State) (i : Init) (d : Dev), s.dev.reaches i (R.SAP_CMD) = some d → d.lockedWrite (R.SAP_CMD)
    (cmdWord [(F.SAP_CMD_GO, 1), (F.SAP_CMD_OP, 2)]) = false → d.sapAbortable = true → ∃ d' : Dev, exec
    (.sapAbort i) s = .next (s.ends d') ∧ d'.get F.SAP_RESULT_CODE = 0 ∧ d'.flag F.SAP_CMD_GO = false ∧
    d'.sapState = 0 ∧ d'.sapTotal = 0 ∧ d'.sapAck = 0 ∧ d'.sap.first = [] ∧ d'.sap.peers = [] ∧ ∀ n, n <
    8192 → d'.sapBlock d.sapSlot n = []) ∧
  -- (15) Otherwise it is refused with code 1, and SAP_REFUSED.
  (∀ (s : State) (i : Init) (d : Dev), s.dev.reaches i (R.SAP_CMD) = some d → d.lockedWrite (R.SAP_CMD)
    (cmdWord [(F.SAP_CMD_GO, 1), (F.SAP_CMD_OP, 2)]) = false → d.sapAbortable = false → exec (.sapAbort
    i) s = .next (s.ends (((d.commanded R.SAP_CMD (cmdWord [(F.SAP_CMD_GO, 1), (F.SAP_CMD_OP, 2)])
    F.SAP_CMD_GO).put F.SAP_RESULT_CODE 1).windowErr i R.SAP_CMD 0x012C)))

/-- What scrub visits, clock faults and fault injection do (R322, R323, R324, R326, R328, R331).
A visit finds failing bits of its own or those of an error that stands in the word; scrubbing is on, SD
page 2 released, and the word exists and is its bank's next.
Log entries that say where the model chose on these rules: 61, 90, 124, 147, 182, 183, 185, 186, 255,
256, 265, 302, 303, 304. -/
def Obligations.ScrubbingAndInjection : Prop :=
  -- (1) No failing bit: the word is not stuck, nothing is owed.
  (∀ (s : State) (mem : Fin 16) (inst : Fin 256) (addr : Word) (bits : Fin 3), s.dev.flag
    F.SD_SCRUB_CTRL_EN = true → s.dev.released (.sd 2) = true → s.dev.scrubNext mem inst addr.toNat =
    true → inst.val < (scrubSize mem).1 → addr.toNat < (scrubSize mem).2 → s.dev.standing (mem.val,
    inst.val, addr.toNat) = 0 → bits = 0 → (mem ≠ 6 ∨ inst ≠ 0 ∨ (addr ≠ 0 ∧ addr ≠ 8191)) → ∃ d' : Dev,
    exec (.scrubVisit mem inst addr bits) s = .next (s.ends d') ∧ d'.scrub = { (s.dev.scrubStep mem inst
    addr.toNat).scrub with fixed := s.dev.scrub.fixed.filter (fun x => x != (mem.val, inst.val,
                             addr.toNat)) } ∧ d'.todo = s.dev.todo) ∧
  -- (2) One: it is corrected and counted.
  (∀ (s : State) (mem : Fin 16) (inst : Fin 256) (addr : Word) (bits : Fin 3), s.dev.flag
    F.SD_SCRUB_CTRL_EN = true → s.dev.released (.sd 2) = true → s.dev.scrubNext mem inst addr.toNat =
    true → inst.val < (scrubSize mem).1 → addr.toNat < (scrubSize mem).2 → max bits.val (s.dev.standing
    (mem.val, inst.val, addr.toNat)) = 1 → s.dev.scrub.fixed.contains (mem.val, inst.val, addr.toNat) =
    false → ∃ d' : Dev, exec (.scrubVisit mem inst addr bits) s = .next (s.ends d') ∧ d'.scrub.fixed =
    (mem.val, inst.val, addr.toNat) :: s.dev.scrub.fixed ∧ d'.scrub.errs = s.dev.scrub.errs.filter (fun
    e => e.word != (mem.val, inst.val, addr.toNat)) ∧ d'.scrub.dbe = s.dev.scrub.dbe ∧ d'.todo =
    s.dev.todo ∧ ∀ k, tget d'.scrub.sbe k = (if k = mem.val then satAdd 32 (tget s.dev.scrub.sbe k) 1
    else tget s.dev.scrub.sbe k)) ∧
  -- (3) At the second pass in succession the word is stuck: report 2.
  (∀ (s : State) (mem : Fin 16) (inst : Fin 256) (addr : Word) (bits : Fin 3), s.dev.flag
    F.SD_SCRUB_CTRL_EN = true → s.dev.released (.sd 2) = true → s.dev.scrubNext mem inst addr.toNat =
    true → inst.val < (scrubSize mem).1 → addr.toNat < (scrubSize mem).2 → max bits.val (s.dev.standing
    (mem.val, inst.val, addr.toNat)) = 1 → s.dev.scrub.fixed.contains (mem.val, inst.val, addr.toNat) =
    true → ∃ d' : Dev, exec (.scrubVisit mem inst addr bits) s = .next (s.ends d') ∧ d'.scrub.fixed =
    s.dev.scrub.fixed ∧ d'.scrub.errs = s.dev.scrub.errs.filter (fun e => e.word != (mem.val, inst.val,
    addr.toNat)) ∧ d'.todo.length = s.dev.todo.length + 1 ∧ (reportsOf 2 d'.todo).length = (reportsOf 2
    s.dev.todo).length + 1) ∧
  -- (4) Two: counted and report 1; the error stays until the word is written, a lookup entry is removed,
  -- an engine retired.
  (∀ (s : State) (mem : Fin 16) (inst : Fin 256) (addr : Word) (bits : Fin 3), s.dev.flag
    F.SD_SCRUB_CTRL_EN = true → s.dev.released (.sd 2) = true → s.dev.scrubNext mem inst addr.toNat =
    true → inst.val < (scrubSize mem).1 → addr.toNat < (scrubSize mem).2 → 2 ≤ max bits.val
    (s.dev.standing (mem.val, inst.val, addr.toNat)) → ∃ d' : Dev, exec (.scrubVisit mem inst addr bits)
    s = .next (s.ends d') ∧ d'.scrub.sbe = s.dev.scrub.sbe ∧ (reportsOf 1 d'.todo).length = (reportsOf 1
    s.dev.todo).length + 1 ∧ (mem = 5 → d'.healthy inst = false) ∧ d'.standing (mem.val, inst.val,
    addr.toNat) = (if mem = 3 ∨ mem = 4 then 0 else 2) ∧ ∀ k, tget d'.scrub.dbe k = (if k = mem.val then
    satAdd 32 (tget s.dev.scrub.dbe k) 1 else tget s.dev.scrub.dbe k)) ∧
  -- (5) Channel 0’s last message RAM word ends the pass of the slowest bank (log entry 184).
  (∀ (s : State) (addr : Word) (bits : Fin 3), s.dev.flag F.SD_SCRUB_CTRL_EN = true → s.dev.released
    (.sd 2) = true → s.dev.scrubNext 6 0 addr.toNat = true → addr = 8191 → ∃ d' : Dev, exec (.scrubVisit
    6 0 addr bits) s = .next (s.ends d') ∧ d'.get F.SD_SCRUB_STAT_PASSES = (s.dev.get
    F.SD_SCRUB_STAT_PASSES + 1) % 65536 ∧ d'.get F.SD_SCRUB_STAT_LAST_US = min 65535 ((s.dev.plat.aon -
    s.dev.scrub.passAt) / 1000)) ∧
  -- (6) After a visit the next word of the bank is due, after its last one the first.
  (∀ (s : State) (mem : Fin 16) (inst : Fin 256) (addr : Word) (bits : Fin 3), s.dev.flag
    F.SD_SCRUB_CTRL_EN = true → s.dev.released (.sd 2) = true → s.dev.scrubNext mem inst addr.toNat =
    true → inst.val < (scrubSize mem).1 → addr.toNat < (scrubSize mem).2 → mem ≠ 9 → mem ≠ 10 → ∃ d' :
    Dev, exec (.scrubVisit mem inst addr bits) s = .next (s.ends d') ∧ d'.scrubNext mem inst (if
    (addr.toNat + 1) % (if mem = 5 then 16384 else (scrubSize mem).2) = 0 then addr.toNat + 1 - (if mem
    = 5 then 16384 else (scrubSize mem).2) else addr.toNat + 1) = true) ∧
  -- (7) In memories 9 and 10 the bank's size is open.
  (∀ (s : State) (mem : Fin 16) (inst : Fin 256) (addr : Word) (bits : Fin 3), s.dev.flag
    F.SD_SCRUB_CTRL_EN = true → s.dev.released (.sd 2) = true → s.dev.scrubNext mem inst addr.toNat =
    true → addr.toNat < (scrubSize mem).2 → (mem = 9 ∨ mem = 10) → ∃ d' : Dev, exec (.scrubVisit mem
    inst addr bits) s = .next (s.ends d') ∧ d'.scrubNext mem inst (if addr.toNat + 1 < min (scrubSize
    mem).2 (max 1 (Config.bankWords mem inst)) then addr.toNat + 1 else 0) = true) ∧
  -- (8) Otherwise a visit does nothing.
  (∀ (s : State) (mem : Fin 16) (inst : Fin 256) (addr : Word) (bits : Fin 3), (s.dev.flag
    F.SD_SCRUB_CTRL_EN = false ∨ s.dev.released (.sd 2) = false ∨ (scrubSize mem).1 ≤ inst.val ∨
    (scrubSize mem).2 ≤ addr.toNat ∨ s.dev.scrubNext mem inst addr.toNat = false) → exec (.scrubVisit
    mem inst addr bits) s = .next (s.ends (s.dev))) ∧
  -- (9) Failing bits of the armed kind found in the armed word, in a memory whose words the spec does
  -- not place, are the injected fault (log entry 147).
  (∀ (s : State) (x : Injection) (inst : Fin 256) (addr : Word), s.dev.flag F.SD_SCRUB_CTRL_EN = true →
    s.dev.released (.sd 2) = true → s.dev.scrubNext 1 inst addr.toNat = true → inst.val < 32 →
    addr.toNat < 8192 → s.dev.inject = some x → x.kind = 1 → x.mem = 1 → x.inst = inst.val → x.addr =
    addr.toNat → s.dev.standing (1, inst.val, addr.toNat) = 0 → ∃ d' : Dev, exec (.scrubVisit 1 inst
    addr 2) s = .next (s.ends d') ∧ d'.inject = none ∧ d'.standing (1, inst.val, addr.toNat) = 2 ∧
    (reportsOf 1 d'.todo).any (fun r => bitOf r.2 16) = true) ∧
  -- (10) CLOCK_FAULT reports the reference.
  (∀ (s : State) (khz : Nat), exec (.clockFault none khz) s = .next (s.ends (s.dev.report 6 0))) ∧
  -- (11) Or a PLL.
  (∀ (s : State) (p : Fin 12) (khz : Nat), p ≠ 2 → exec (.clockFault (some p) khz) s = .next (s.ends
    (s.dev.report 7 (p.val + khz * 2 ^ 64)))) ∧
  -- (12) The Timeline PLL loses its lock.
  (∀ (s : State) (khz : Nat), exec (.clockFault (some 2) khz) s = .next (s.ends (((s.dev.put
    F.TL_BASE_STAT_TPLL_LOCK 0).put F.PC_PLL_STAT_LOCK (clrBit (s.dev.get F.PC_PLL_STAT_LOCK) 2)).report
    7 (2 + khz * 2 ^ 64)))) ∧
  -- (13) SD_INJECT arms a fault where R331 admits it.
  (∀ (s : State) (i : Init) (kind : Fin 4) (mem : Fin 16) (inst : Fin 256) (d : Dev), s.dev.reaches i
    (R.SD_INJECT) = some d → d.lockedWrite (R.SD_INJECT) (cmdWord [(F.SD_INJECT_GO, 1),
    (F.SD_INJECT_KIND, kind), (F.SD_INJECT_MEM, mem), (F.SD_INJECT_INSTANCE, inst)]) = false → (kind = 0
    ∨ d.mode = 9 ∨ d.mode = 10 ∨ d.sc.level = 2) → kind.val < 3 → (kind.val < 2 → 1 ≤ mem.val ∧ mem.val
    ≤ 10) → (kind = 2 → inst.val ≤ 27) → ∃ d' : Dev, exec (.sdInject i kind mem inst) s = .next (s.ends
    d') ∧ d' = { d.store R.SD_INJECT (cmdWord [(F.SD_INJECT_GO, 1), (F.SD_INJECT_KIND, kind),
    (F.SD_INJECT_MEM, mem), (F.SD_INJECT_INSTANCE, inst)]) with
      inject := some ⟨kind, mem, inst, d.get F.SD_INJECT_ADDR_ADDR⟩ }) ∧
  -- (14) It forces a mismatch at once.
  (∀ (s : State) (i : Init) (kind : Fin 4) (mem : Fin 16) (inst : Fin 256) (d : Dev), s.dev.reaches i
    (R.SD_INJECT) = some d → d.lockedWrite (R.SD_INJECT) (cmdWord [(F.SD_INJECT_GO, 1),
    (F.SD_INJECT_KIND, kind), (F.SD_INJECT_MEM, mem), (F.SD_INJECT_INSTANCE, inst)]) = false → kind = 3
    → (d.mode = 9 ∨ d.mode = 10 ∨ d.sc.level = 2) → exec (.sdInject i kind mem inst) s = .next (s.ends
    ({ (d.store R.SD_INJECT (cmdWord [(F.SD_INJECT_GO, 1), (F.SD_INJECT_KIND, kind), (F.SD_INJECT_MEM,
    mem), (F.SD_INJECT_INSTANCE, inst)])).put F.SD_INJECT_GO 0 with
      inject := none }.report 0 0x10000))) ∧
  -- (15) Elsewhere it is refused.
  (∀ (s : State) (i : Init) (kind : Fin 4) (mem : Fin 16) (inst : Fin 256) (d : Dev), s.dev.reaches i
    (R.SD_INJECT) = some d → d.lockedWrite (R.SD_INJECT) (cmdWord [(F.SD_INJECT_GO, 1),
    (F.SD_INJECT_KIND, kind), (F.SD_INJECT_MEM, mem), (F.SD_INJECT_INSTANCE, inst)]) = false → ((kind ≠
    0 ∧ d.mode ≠ 9 ∧ d.mode ≠ 10 ∧ d.sc.level ≠ 2) ∨ (kind.val < 2 ∧ (mem = 0 ∨ 10 < mem.val)) ∨ (kind =
    2 ∧ 27 < inst.val)) → exec (.sdInject i kind mem inst) s = .next (s.ends (d.failWrite i R.SD_INJECT
    (cmdWord [(F.SD_INJECT_GO, 1), (F.SD_INJECT_KIND, kind), (F.SD_INJECT_MEM, mem),
    (F.SD_INJECT_INSTANCE, inst)]) 0x012F))) ∧
  -- (16) Words written lose their errors; the armed single or double error is applied to its word if
  -- that is among them.
  (∀ (d : Dev) (p : Nat × Nat × Nat → Bool) (x : Injection) (w : Nat × Nat × Nat), d.inject = some x →
    x.kind < 2 → p (x.mem, x.inst, x.addr) = true → (d.wordsWritten p).inject = none ∧ (d.wordsWritten
    p).standing (x.mem, x.inst, x.addr) = x.kind + 1 ∧ (w ≠ (x.mem, x.inst, x.addr) → (d.wordsWritten
    p).standing w = if p w then 0 else d.standing w)) ∧
  -- (17) A write into message RAM is one of its words, whatever its value.
  (∀ (d : Dev) (c : Fin 64) (a : Nat) (bs : List Byte) (x : Injection), d.inject = some x → x.kind < 2 →
    x.mem = 6 → x.inst = c.val → a < 4 * x.addr + 4 → 4 * x.addr < a + bs.length → (d.ramWrite c a
    bs).inject = none ∧ (d.ramWrite c a bs).standing (6, c.val, x.addr) = x.kind + 1) ∧
  -- (18) At the end of a command the wheel entries that it changed were written; GO shows the arming.
  (∀ (old d : Dev) (x : Injection) (w : Nat × Nat × Nat), d.inject = some x → x.kind < 2 → x.mem = 8 →
    old.wheelWritten d (x.mem, x.inst, x.addr) = true → (d.injectSync old).inject = none ∧ (d.injectSync
    old).standing (x.mem, x.inst, x.addr) = x.kind + 1 ∧ (d.injectSync old).flag F.SD_INJECT_GO = false
    ∧ (w ≠ (x.mem, x.inst, x.addr) → old.wheelWritten d w = true → (d.injectSync old).standing w = 0))

/-- What the Chamber commands do (R333, R334, R335, R336, R337).
The scan is done, r is the record in front of the queue, not suppressed, and the writer may store again.
Log entries that say where the model chose on these rules: 36, 126, 130, 253, 254. -/
def Obligations.ChamberCommands : Prop :=
  -- (1) CHAMBER_WRITE stores it in the next slot with the next number; the next write is due 6 µs later.
  (∀ (s : State) (r : ChRec) (rest : List ChRec), s.dev.flag F.CH_STAT_SCAN_DONE = true → s.dev.ch.queue
    = r :: rest → s.dev.chSuppressed r = false → s.dev.ch.nextAt ≤ s.dev.plat.aon → ∃ d' : Dev, exec
    (.chamberWrite true) s = .next (s.ends d') ∧ d'.slot ((s.dev.get F.CH_HEAD_SEQ + 1) % 2 ^ 32 %
    16384) = Sys2Proof.Machine.slice (chBytes r ((s.dev.get F.CH_HEAD_SEQ + 1) % 2 ^ 32)
    ((s.dev.ch.supp.find? (fun x => sameRec x.1 r)).elim 0 (fun x => x.2)) s.dev.ch.gap s.dev.ch.torn) 0
    64 ∧ d'.get F.CH_HEAD_SEQ = (s.dev.get F.CH_HEAD_SEQ + 1) % 2 ^ 32 ∧ d'.ch.queue = rest ∧ d'.ch.last
    = some r ∧ d'.ch.gap = false ∧ d'.ch.torn = false ∧ d'.ch.nextAt = s.dev.plat.aon + 6000 ∧ bitOf
    (d'.get (F.IRQ_RAW_BITS (pageBase (.pc 5)))) 1 = true ∧ ∀ k, k ≠ (s.dev.get F.CH_HEAD_SEQ + 1) % 2 ^
    32 % 16384 → d'.slot k = s.dev.slot k) ∧
  -- (2) A failed read-back leaves open bytes and is tried once more.
  (∀ (s : State) (r : ChRec) (rest : List ChRec), s.dev.flag F.CH_STAT_SCAN_DONE = true → s.dev.ch.queue
    = r :: rest → s.dev.chSuppressed r = false → s.dev.ch.nextAt ≤ s.dev.plat.aon → s.dev.ch.again =
    false → ∃ d' : Dev, exec (.chamberWrite false) s = .next (s.ends d') ∧ d'.ch.queue = r :: rest ∧
    d'.ch.again = true ∧ d'.get F.CH_HEAD_SEQ = s.dev.get F.CH_HEAD_SEQ ∧ d'.todo = s.dev.todo ∧ ∀ k, k
    ≠ (s.dev.get F.CH_HEAD_SEQ + 1) % 2 ^ 32 % 16384 → d'.slot k = s.dev.slot k) ∧
  -- (3) The second failure is reported, and the record counts as stored.
  (∀ (s : State) (r : ChRec) (rest : List ChRec), s.dev.flag F.CH_STAT_SCAN_DONE = true → s.dev.ch.queue
    = r :: rest → s.dev.chSuppressed r = false → s.dev.ch.nextAt ≤ s.dev.plat.aon → s.dev.ch.again =
    true → ∃ d' : Dev, exec (.chamberWrite false) s = .next (s.ends d') ∧ d'.ch.queue = rest ∧
    d'.ch.again = false ∧ d'.get F.CH_HEAD_SEQ = (s.dev.get F.CH_HEAD_SEQ + 1) % 2 ^ 32 ∧ (reportsOf 12
    d'.todo).length = (reportsOf 12 s.dev.todo).length + 1 ∧ ∀ k, k ≠ (s.dev.get F.CH_HEAD_SEQ + 1) % 2
    ^ 32 % 16384 → d'.slot k = s.dev.slot k) ∧
  -- (4) A record that is now suppressed is counted and leaves the queue.
  (∀ (s : State) (ok : Bool) (r : ChRec), s.dev.flag F.CH_STAT_SCAN_DONE = true → s.dev.ch.nextAt ≤
    s.dev.plat.aon → s.dev.ch.queue = [r] → s.dev.chSuppressed r = true → exec (.chamberWrite ok) s =
    .next (s.ends ((s.dev.chSuppress r).setQueueCh []))) ∧
  -- (5) With none queued, before its time or before the scan it stores nothing.
  (∀ (s : State) (ok : Bool), ((s.dev.ch.queue = [] ∧ s.dev.get F.CH_STAT_QUEUED = 0) ∨ s.dev.plat.aon <
    s.dev.ch.nextAt ∨ s.dev.flag F.CH_STAT_SCAN_DONE = false) → ∃ d' : Dev, exec (.chamberWrite ok) s =
    .next (s.ends d') ∧ d'.ch = s.dev.ch ∧ d'.todo = s.dev.todo ∧ ∀ a, d'.word a = s.dev.word a) ∧
  -- (6) CHAMBER_SCAN_DONE shows the highest number among the valid slots.
  (∀ (s : State) (seqs : List Nat), s.dev.released (.pc 5) = true → s.dev.flag F.CH_STAT_SCAN_DONE =
    false → (s.dev.ch.slots.filter (fun e => slotValid (Sys2Proof.Machine.slice e.2 0 64))).map (fun e
    => slotSeq e.2) = seqs → ∃ d' : Dev, exec (.chamberScanDone) s = .next (s.ends d') ∧ d'.flag
    F.CH_STAT_SCAN_DONE = true ∧ d'.get F.CH_HEAD_SEQ = (seqs.tail.foldl later (seqs.headD (2 ^ 32 -
    1))) % 2 ^ 32 ∧ d'.flag F.CH_STAT_TORN = d'.ch.torn ∧ d'.ch.slots = s.dev.ch.slots ∧ d'.ch.queue =
    s.dev.ch.queue) ∧
  -- (7) It has no effect twice, or before release.
  (∀ (s : State), (s.dev.released (.pc 5) = false ∨ s.dev.flag F.CH_STAT_SCAN_DONE = true) → exec
    (.chamberScanDone) s = .next (s.ends (s.dev))) ∧
  -- (8) CH_SEL shows a slot and whether it is valid.
  (∀ (s : State) (i : Init) (slot : Fin 16384) (d : Dev), s.dev.reaches i (R.CH_SEL) = some d →
    d.lockedWrite (R.CH_SEL) (cmdWord [(F.CH_SEL_SLOT, slot)]) = false → (∀ t : Fin 128, i ≠ .gv t) → ∃
    d' : Dev, exec (.chSel i slot) s = .next (s.ends d') ∧ d'.get F.CH_SEL_SLOT = slot ∧ d'.flag
    F.CH_SEL_VALID = slotValid (d.slot slot) ∧ (∀ w : Fin 16, d'.get (F.CH_DATA_DATA w) = leNat
    (Sys2Proof.Machine.slice (d.slot slot) (4 * w) 4)) ∧ d'.ch = d.ch) ∧
  -- (9) To Grove the window is closed.
  (∀ (s : State) (t : Fin 128) (i : Init) (slot : Fin 16384), i = .gv t → s.dev.released (.pc 5) = true
    → exec (.chSel i slot) s = .next (s.ends (s.dev.failWrite i R.CH_SEL (cmdWord [(F.CH_SEL_SLOT,
    slot)]) 0x0009))) ∧
  -- (10) CH_WCMD of the management cores raises a record of a software cause.
  (∀ (s : State) (i : Init) (cause : BitVec 16) (d : Dev), i = .mc → s.dev.reaches i (R.CH_WCMD) = some
    d → d.lockedWrite (R.CH_WCMD) (cmdWord [(F.CH_WCMD_GO, 1), (F.CH_WCMD_CAUSE, cause.toNat)]) = false
    → 0x8000 ≤ cause.toNat → exec (.chWcmd i cause) s = .next (s.ends ((d.put F.CH_WCMD_CAUSE
    cause.toNat).chRaise cause.toNat 1 ((List.range 10).map (fun w => leBytes 4 (d.get (F.CH_WDATA_DATA
    w)))).flatten))) ∧
  -- (11) It is refused else.
  (∀ (s : State) (i : Init) (cause : BitVec 16) (d : Dev), s.dev.reaches i (R.CH_WCMD) = some d →
    d.lockedWrite (R.CH_WCMD) (cmdWord [(F.CH_WCMD_GO, 1), (F.CH_WCMD_CAUSE, cause.toNat)]) = false → (i
    ≠ .mc ∨ cause.toNat < 0x8000) → exec (.chWcmd i cause) s = .next (s.ends (d.failWrite i R.CH_WCMD
    (cmdWord [(F.CH_WCMD_GO, 1), (F.CH_WCMD_CAUSE, cause.toNat)]) 0x012D)))

/-- What LOAD and COMMIT of the calibration page and the options do (R338, R340, R341).
A command is a write of CAL_CMD or OPT_CMD that reaches the device d, with no COMMIT of its table in
progress unless said. The instants mid and fin of a COMMIT are free (log entry 252).
Log entries that say where the model chose on these rules: 132, 133, 134, 252. -/
def Obligations.CalibrationAndOptionCommands : Prop :=
  -- (1) LOAD fills the staging copy from the valid copy of the higher GEN.
  (∀ (s : State) (i : Init) (d : Dev), s.dev.reaches i (R.CAL_CMD) = some d → d.lockedWrite (R.CAL_CMD)
    (cmdWord [(F.CAL_CMD_GO, 1), (F.CAL_CMD_OP, 0)]) = false → d.mram.calRun = none → exec (.calLoad i)
    s = .next (s.ends ({ d.commanded R.CAL_CMD (cmdWord [(F.CAL_CMD_GO, 1), (F.CAL_CMD_OP, 0)])
    F.CAL_CMD_GO with mram := { d.mram with calStage := d.calInUse.elim [] (fun x => x.2.words) } }))) ∧
  -- (2) COMMIT by the management cores with the key, in the modes of R340, begins to write the staging
  -- copy with GEN + 1 and a new CRC; it ends within 20 ms, BUSY reads 1.
  (∀ (s : State) (i : Init) (key : BitVec 16) (d : Dev), s.dev.reaches i (R.CAL_CMD) = some d →
    d.lockedWrite (R.CAL_CMD) (cmdWord [(F.CAL_CMD_GO, 1), (F.CAL_CMD_OP, 1), (F.CAL_CMD_KEY,
    key.toNat)]) = false → i = .mc → key = 0x5AC3 → commitMode d.mode = true → d.mram.calRun = none → ∃
    d' : Dev, exec (.calCommit i key) s = .next (s.ends d') ∧ d'.mram.calRun.map (fun r => (r.copy,
    r.first, r.was, r.half)) = some ({ words := tset (tset (tset (tset d.mram.calStage 0 0x4C410001) 1
                                         ((d.calInUse.elim 0 (fun x => x.2.gen) + 1) % 2 ^ 32)) 511 0)
                                         511 (crc32c (wordBytes (tset (tset (tset d.mram.calStage 0
                                         0x4C410001) 1 ((d.calInUse.elim 0 (fun x => x.2.gen) + 1) % 2 ^
                                         32)) 511 0) 511)), gen := ((d.calInUse.elim 0 (fun x =>
                                         x.2.gen) + 1) % 2 ^ 32), crc := (crc32c (wordBytes (tset (tset
                                         (tset d.mram.calStage 0 0x4C410001) 1 ((d.calInUse.elim 0 (fun
                                         x => x.2.gen) + 1) % 2 ^ 32)) 511 0) 511)) }, d.calInUse.elim 0
    (fun x => 1 - x.1), d.calInUse.elim 0 (fun x => x.2.crc), false) ∧ d'.mram.calRun.all (fun r =>
    decide (d.plat.aon ≤ r.mid) && decide (r.mid ≤ r.fin) && decide (r.fin < d.plat.aon + 20000000)) =
    true ∧ d'.mram.cal0 = d.mram.cal0 ∧ d'.mram.cal1 = d.mram.cal1 ∧ d'.mram.opt0 = d.mram.opt0 ∧
    d'.mram.opt1 = d.mram.opt1 ∧ d'.mram.calStage = d.mram.calStage ∧ d'.flag F.CAL_STAT_BUSY = true ∧
    d'.flag F.CAL_CMD_GO = false ∧ d'.sc = d.sc ∧ d'.gv = d.gv) ∧
  -- (3) Otherwise it is refused and nothing is written.
  (∀ (s : State) (i : Init) (key : BitVec 16) (d : Dev), s.dev.reaches i (R.CAL_CMD) = some d →
    d.lockedWrite (R.CAL_CMD) (cmdWord [(F.CAL_CMD_GO, 1), (F.CAL_CMD_OP, 1), (F.CAL_CMD_KEY,
    key.toNat)]) = false → (i ≠ .mc ∨ key ≠ 0x5AC3 ∨ commitMode d.mode = false) → d.mram.calRun = none →
    exec (.calCommit i key) s = .next (s.ends (d.failWrite i R.CAL_CMD (cmdWord [(F.CAL_CMD_GO, 1),
    (F.CAL_CMD_OP, 1), (F.CAL_CMD_KEY, key.toNat)]) 0x012E))) ∧
  -- (4) While one is in progress both are ignored.
  (∀ (s : State) (i : Init) (key : BitVec 16) (d : Dev), s.dev.reaches i (R.CAL_CMD) = some d →
    d.lockedWrite (R.CAL_CMD) (cmdWord [(F.CAL_CMD_GO, 1), (F.CAL_CMD_OP, 0)]) = false → d.lockedWrite
    (R.CAL_CMD) (cmdWord [(F.CAL_CMD_GO, 1), (F.CAL_CMD_OP, 1), (F.CAL_CMD_KEY, key.toNat)]) = false →
    d.mram.calRun.isSome = true → exec (.calLoad i) s = .next (s.ends (d)) ∧ exec (.calCommit i key) s =
    .next (s.ends (d))) ∧
  -- (5) A tick writes the copy not in use first, at mid.
  (∀ (d : Dev) (r : CopyRun), d.mram.calRun = some r → r.first < 2 → r.mid ≤ d.plat.aon → d.plat.aon <
    r.fin → r.half = false → d.calDone.mram.calRun = some { r with
      half := true } ∧ d.calDone.mram.cal0 = (if r.first = 0 then r.copy else d.mram.cal0) ∧
    d.calDone.mram.cal1 = (if r.first = 1 then r.copy else d.mram.cal1) ∧ d.calDone.ch = d.ch) ∧
  -- (6) It writes the other one at fin; then a record says so and BUSY reads 0.
  (∀ (d : Dev) (r : CopyRun), d.mram.calRun = some r → r.first < 2 → r.fin ≤ d.plat.aon → (r.half = true
    ∨ r.mid ≤ d.plat.aon) → d.mram.optRun = none → (r.half = true → (if r.first = 0 then d.mram.cal0
    else d.mram.cal1) = r.copy) → d.calDone.mram.calRun = none ∧ d.calDone.mram.cal0 = r.copy ∧
    d.calDone.mram.cal1 = r.copy ∧ d.calDone.flag F.CAL_STAT_BUSY = false ∧ (d.chSuppressed {
      cause := 0x1101, source := 2, data := Sys2Proof.Machine.slice (leBytes 4 r.was ++ leBytes 4
        r.copy.crc ++ leBytes 4 r.copy.gen) 0 40, sec := d.baseNs / 1000000000 % 2 ^ 32, ns := d.baseNs
        % 1000000000, mode := d.mode, raised := d.plat.aon } = false → d.ch.queue.length < 64 →
    d.calDone.ch.queue.length = d.ch.queue.length + 1)) ∧
  -- (7) The options follow: LOAD.
  (∀ (s : State) (i : Init) (d : Dev), s.dev.reaches i (R.OPT_CMD) = some d → d.lockedWrite (R.OPT_CMD)
    (cmdWord [(F.OPT_CMD_GO, 1), (F.OPT_CMD_OP, 0)]) = false → d.mram.optRun = none → exec (.optLoad i)
    s = .next (s.ends ({ d.commanded R.OPT_CMD (cmdWord [(F.OPT_CMD_GO, 1), (F.OPT_CMD_OP, 0)])
    F.OPT_CMD_GO with mram := { d.mram with optStage := d.optInUse.elim [] (fun x => x.2.words) } }))) ∧
  -- (8) COMMIT.
  (∀ (s : State) (i : Init) (key : BitVec 16) (d : Dev), s.dev.reaches i (R.OPT_CMD) = some d →
    d.lockedWrite (R.OPT_CMD) (cmdWord [(F.OPT_CMD_GO, 1), (F.OPT_CMD_OP, 1), (F.OPT_CMD_KEY,
    key.toNat)]) = false → i = .mc → key = 0x5AC3 → commitMode d.mode = true → d.mram.optRun = none → ∃
    d' : Dev, exec (.optCommit i key) s = .next (s.ends d') ∧ d'.mram.optRun.map (fun r => (r.copy,
    r.first, r.was, r.half)) = some ({ words := d.mram.optStage, gen := ((d.optInUse.elim 0 (fun x =>
                                         x.2.gen) + 1) % 2 ^ 32), crc := (crc32c (wordBytes
                                         d.mram.optStage 2048)) }, d.optInUse.elim 0 (fun x => 1 - x.1),
    d.optInUse.elim 0 (fun x => x.2.crc), false) ∧ d'.mram.optRun.all (fun r => decide (d.plat.aon ≤
    r.mid) && decide (r.mid ≤ r.fin) && decide (r.fin < d.plat.aon + 20000000)) = true ∧ d'.mram.cal0 =
    d.mram.cal0 ∧ d'.mram.cal1 = d.mram.cal1 ∧ d'.mram.opt0 = d.mram.opt0 ∧ d'.mram.opt1 = d.mram.opt1 ∧
    d'.mram.optStage = d.mram.optStage ∧ d'.flag F.CAL_STAT_BUSY = true ∧ d'.flag F.OPT_CMD_GO = false ∧
    d'.sc = d.sc ∧ d'.gv = d.gv) ∧
  -- (9) Its refusal.
  (∀ (s : State) (i : Init) (key : BitVec 16) (d : Dev), s.dev.reaches i (R.OPT_CMD) = some d →
    d.lockedWrite (R.OPT_CMD) (cmdWord [(F.OPT_CMD_GO, 1), (F.OPT_CMD_OP, 1), (F.OPT_CMD_KEY,
    key.toNat)]) = false → (i ≠ .mc ∨ key ≠ 0x5AC3 ∨ commitMode d.mode = false) → d.mram.optRun = none →
    exec (.optCommit i key) s = .next (s.ends (d.failWrite i R.OPT_CMD (cmdWord [(F.OPT_CMD_GO, 1),
    (F.OPT_CMD_OP, 1), (F.OPT_CMD_KEY, key.toNat)]) 0x012E))) ∧
  -- (10) Both ignored in progress.
  (∀ (s : State) (i : Init) (key : BitVec 16) (d : Dev), s.dev.reaches i (R.OPT_CMD) = some d →
    d.lockedWrite (R.OPT_CMD) (cmdWord [(F.OPT_CMD_GO, 1), (F.OPT_CMD_OP, 0)]) = false → d.lockedWrite
    (R.OPT_CMD) (cmdWord [(F.OPT_CMD_GO, 1), (F.OPT_CMD_OP, 1), (F.OPT_CMD_KEY, key.toNat)]) = false →
    d.mram.optRun.isSome = true → exec (.optLoad i) s = .next (s.ends (d)) ∧ exec (.optCommit i key) s =
    .next (s.ends (d))) ∧
  -- (11) The end of it.
  (∀ (d : Dev) (r : CopyRun), d.mram.optRun = some r → r.first < 2 → r.fin ≤ d.plat.aon → r.mid ≤
    d.plat.aon → r.half = false → d.mram.calRun = none → d.optDone.mram.optRun = none ∧
    d.optDone.mram.opt0 = r.copy ∧ d.optDone.mram.opt1 = r.copy ∧ d.optDone.flag F.CAL_STAT_BUSY =
    false)

/-- A step runs the command in front of the queue, which ends in a next state (R34, R24).
The queue is the model’s own (log entry 2).
Log entries that say where the model chose on these rules: 9, 10, 201, 202. -/
def Obligations.StepRunsTheFront : Prop :=
  -- (1) A step with a command in front of the queue is that command on the state with the rest of the
  -- queue.
  (∀ (c : Instr) (s : State), step { s with pending := c :: s.pending } = exec c s) ∧
  -- (2) The same by the queue.
  (∀ (s : State) (c : Instr) (q : List Instr), s.pending = c :: q → step s = exec c { s with
      pending := q }) ∧
  -- (3) Every command ends in a next state; the queue and the identity stand as before.
  (∀ (c : Instr) (s : State), ∃ d' : Dev, exec c s = .next (s.ends d'))

/-- On an empty queue a tick passes and each engine issues one instruction (R41, R44, R46, R109, R110, R114,
R115, R116, R194, R272, R340).
That an empty queue lets one tick of the TPLL pass is the model’s choice (log entry 2), and that each
engine issues once at it (log entry 35). Where no table command and no COMMIT is in progress no register
changes of itself.
Log entries that say where the model chose on these rules: 17, 29, 33, 35, 72, 74, 83, 84, 85, 86, 93,
133, 175, 185, 212, 252, 266, 276, 277. -/
def Obligations.TickOnEmptyQueue : Prop :=
  -- (1) With Timeline and TPLL running, Base time and the always-on clock gain 1 ns, each enabled domain
  -- 1 ns and its rate.
  (∀ (s : State), s.pending = [] → s.dev.sw.lkHeld = none → s.dev.mram.calRun = none → s.dev.mram.optRun
    = none → s.dev.plat.porLow = false → s.dev.tl.running = true → bitOf s.dev.bypassed 2 = false →
    s.dev.tl.fifth = 0 → ∃ d' : Dev, step s = .next (s.ends (d'.engines s.id)) ∧ d'.tl.ns = s.dev.tl.ns
    + 1 ∧ d'.tl.fifth = 0 ∧ d'.tl.ticks = s.dev.tl.ticks + 1 ∧ d'.plat.aon = s.dev.plat.aon + 1 ∧
    d'.regs = s.dev.regs ∧ d'.gv = s.dev.gv ∧ d'.canopy = s.dev.canopy ∧ d'.chan = s.dev.chan ∧ d'.sc =
    s.dev.sc ∧ d'.out = s.dev.out ∧ ∀ i : Fin 4, tget d'.tl.dom i = (if s.dev.domEn i then { tget
    s.dev.tl.dom i with val := ((tget s.dev.tl.dom i).val + (2 ^ 40 + (tget s.dev.tl.dom i).rate)).toNat
                          } else tget s.dev.tl.dom i)) ∧
  -- (2) In bypass a tick is 40 ns, or 6.4 ns with CLKSEL 0b10.
  (∀ (s : State), s.pending = [] → s.dev.sw.lkHeld = none → s.dev.mram.calRun = none → s.dev.mram.optRun
    = none → s.dev.tl.running = true → bitOf s.dev.bypassed 2 = true → ∃ d' : Dev, step s = .next
    (s.ends (d'.engines s.id)) ∧ 5 * d'.tl.ns + d'.tl.fifth = 5 * s.dev.tl.ns + s.dev.tl.fifth + (if
    s.dev.get F.PC_STRAP_CLKSEL = 2 then 32 else 200) ∧ d'.tl.fifth < 5 ∧ d'.tl.ticks = s.dev.tl.ticks +
    1 ∧ d'.regs = s.dev.regs ∧ d'.gv = s.dev.gv ∧ d'.canopy = s.dev.canopy ∧ d'.chan = s.dev.chan ∧
    d'.sc = s.dev.sc ∧ d'.out = s.dev.out) ∧
  -- (3) Without a running Timeline only the always-on clock goes on, with PORn low not even that; the 1
  -- ms of a supply that has come into range goes on in both.
  (∀ (s : State), s.pending = [] → s.dev.sw.lkHeld = none → s.dev.mram.calRun = none → s.dev.mram.optRun
    = none → s.dev.tl.running = false → ∃ d' : Dev, step s = .next (s.ends (d'.engines s.id)) ∧ d'.tl =
    s.dev.tl ∧ (s.dev.plat.porLow = true → d' = { s.dev with
      plat := { s.dev.plat with fresh := d'.plat.fresh } }) ∧ d'.plat.fresh = tmap s.dev.plat.fresh (fun
    n => n - (s.dev.tl.fifth + s.dev.tickFifths) / 5) ∧ s.dev.plat.aon ≤ d'.plat.aon ∧ d'.regs =
    s.dev.regs ∧ d'.gv = s.dev.gv ∧ d'.canopy = s.dev.canopy ∧ d'.chan = s.dev.chan ∧ d'.sc = s.dev.sc ∧
    d'.out = s.dev.out) ∧
  -- (4) A table command that held both windows completes.
  (∀ (s : State) (k : Fin 2), s.pending = [] → s.dev.sw.lkHeld = some k.val → s.dev.mram.calRun = none →
    s.dev.mram.optRun = none → ∃ d' : Dev, step s = .next (s.ends (d'.engines s.id)) ∧ d'.sw = {
    s.dev.sw with lkHeld := none } ∧ d'.flag (F.LK_CMD_GO k) = false ∧ ∀ a, a ≠ R.LK_CMD k → d'.word a =
    s.dev.word a) ∧
  -- (5) Engines that do not run issue nothing.
  (∀ (d : Dev) (x : Identity), d.gvRuns = false → d.engines x = d) ∧
  -- (6) An engine whose threads are not ready issues nothing; else the first ready one behind the last
  -- that issued does.
  (∀ (d : Dev) (x : Identity) (e : Fin 16), ((∀ k : Fin 8, (d.gxReady (8 * e + k) && decide ((d.thr (8 *
    e + k)).busy ≤ d.baseNs)) = false) → d.issue x e = d) ∧ ∀ j : Fin 8, (d.gxReady (8 * e + (tget
    d.gv.issued e + 1 + j) % 8) && decide ((d.thr (8 * e + (tget d.gv.issued e + 1 + j) % 8)).busy ≤
    d.baseNs)) = true → (∀ k : Fin 8, k < j → (d.gxReady (8 * e + (tget d.gv.issued e + 1 + k) % 8) &&
    decide ((d.thr (8 * e + (tget d.gv.issued e + 1 + k) % 8)).busy ≤ d.baseNs)) = false) → d.issue x e
    = { d with gv := { d.gv with issued := tset d.gv.issued e ((tget d.gv.issued e + 1 + j) % 8) }
                 }.issueThread x (8 * e + (tget d.gv.issued e + 1 + j) % 8)) ∧
  -- (7) An Xgrove word with the fields of R115 decodes to its instruction.
  (∀ (k v w : Fin 4) (rd a b : Fin 32) (sel : Fin 7) (how : Put) (blk : Bool), ∀ i ∈ [Rv.gxExt rd k v,
    .gxIns rd k v, .gxXfm rd k v w, .gxSigld rd a k, .gxSigst rd a k, .gxTs rd sel, .gxPduget rd blk,
    .gxPduput how rd (if how = .send then a else 0), .gxWait rd, .gxEvt rd a b, .gxCmp rd a],
    (xgroveWord i).bind decode32 = some i) ∧
  -- (8) No other word of its opcodes does.
  (∀ (w : Nat) (i : Rv), w < 2 ^ 32 → (bitsOf w 0 7 = 0x0B ∨ bitsOf w 0 7 = 0x2B) → decode32 w = some i
    → xgroveWord i = some w) ∧
  -- (9) An illegal instruction is fault 0x02.
  (∀ (d : Dev) (x : Identity) (t : Fin 128) (n : Nat), d.fetch t (d.thr t).pc = some (none, n) →
    d.issueThread x t = d.threadFault t 0x02 (d.thr t).pc) ∧
  -- (10) A register operation writes rd alone; x0 stays 0.
  (∀ (d : Dev) (x : Identity) (t : Fin 128) (pc next : Nat) (op : Alu) (rd a b r : Fin 32) (u : Nat) (d'
    : Dev), d.rvExec x t pc next (.op op rd a b) = d' → xReg (d'.thr t) r = (if r = rd ∧ r ≠ 0 then
    aluOf op (xReg (d.thr t) a) (xReg (d.thr t) b) % 2 ^ 32 else xReg (d.thr t) r) ∧ (d'.thr t).pc =
    next % 2 ^ 32 ∧ d'.gv.lm = d.gv.lm ∧ d'.regs = d.regs ∧ (u ≠ t.val → d'.thr u = d.thr u)) ∧
  -- (11) A store of a word to thread data changes that word; a load then reads it, unless a double error
  -- was armed for it.
  (∀ (d : Dev) (x : Identity) (t : Fin 128) (pc next a v i j : Nat) (rd : Fin 32) (d' : Dev), a % 4 = 0
    → inData a = true → v < 2 ^ 32 → lmIndex t a = some i → d.rvStore x t pc next 4 a v = d' →
    d.inject.all (fun y => !(y.kind == 1 && y.mem == 5 && 65536 * y.inst + y.addr == i)) = true → (tget
    d'.gv.lm i).toNat = v ∧ (j ≠ i → tget d'.gv.lm j = tget d.gv.lm j) ∧ d'.rvLoad x t next (next + 4) 4
    false rd a = d'.rvDone t rd v (next + 4)) ∧
  -- (12) A misaligned access, a store to the code image and an access outside the map are faults.
  (∀ (d : Dev) (x : Identity) (t : Fin 128) (pc next n a v rd : Nat) (sg : Bool), (a % n ≠ 0 → d.rvLoad
    x t pc next n sg rd a = d.threadFault t 0x04 pc ∧ d.rvStore x t pc next n a v = d.threadFault t 0x06
    pc) ∧ (a % n = 0 → a < 0x30000 → d.rvStore x t pc next n a v = d.threadFault t 0x07 pc) ∧ (a % n = 0
    → (0x32000 ≤ a ∧ a < 0x40000) ∨ (0x40800 ≤ a ∧ a < 0x40000000) ∨ 0x44000000 ≤ a → d.rvLoad x t pc
    next n sg rd a = d.threadFault t 0x05 pc ∧ d.rvStore x t pc next n a v = d.threadFault t 0x07 pc)) ∧
  -- (13) mhartid reads the thread number.
  (∀ (d : Dev) (x : Identity) (t : Fin 128) (pc next : Nat) (rd : Fin 32), d.rvExec x t pc next (.csr
    .rs rd 0xF14 (.reg 0)) = d.rvDone t rd t next)

/-- What the state after power-on holds (R6, R41, R243, R244, R270, R321).
The state after power-on.
Log entries that say where the model chose on these rules: 132, 138, 191. -/
def Obligations.ResetState : Prop :=
  -- Nothing waits, the Timeline stands at 0, the lifecycle is Manufacturing, the Chamber is empty, XCVM
  -- pins carry standby, every INH stays asserted by KEEP; SD_SAFE_STAT and the pins stand as the
  -- invariants say, nothing is owed.
  State.reset.pending = [] ∧ State.reset.dev.tl.running = false ∧ State.reset.dev.tl.ns = 0 ∧
    State.reset.dev.sc.lc = 1 ∧ State.reset.dev.sc.level = 0 ∧ State.reset.dev.ch.slots = [] ∧
    State.reset.dev.ch.queue = [] ∧ State.reset.dev.get F.PC_XCVM_CODES = 0x5555 ∧ (∀ k : Fin 4,
    State.reset.dev.flag (F.PC_INH_CFG_KEEP k) = true ∧ State.reset.dev.flag (F.PC_INH_CFG_LEVEL k) =
    true) ∧ State.reset.dev.flag F.SD_SAFE_STAT_SAFE = State.reset.dev.guaranteed ∧
    State.reset.dev.pinsFollow ∧ State.reset.dev.todo = []

/-- Commands that wait have no effect on what runs before them (R34, R24).
The queue is the model’s own (log entry 2).
Log entries that say where the model chose on these rules: 9, 10, 201, 202. -/
def Obligations.WaitingCommandsHaveNoEffect : Prop :=
  -- The commands in front run one after the other, none of them stops the machine, and what they leave
  -- in the device depends neither on the commands that wait behind them nor on how many there are; those
  -- still wait afterwards, in their order.
  ∀ (l : List Instr) (s : State), ∃ d : Dev, ∀ q : List Instr, steps l.length { s with
      pending := l ++ q } = .next { s with dev := d, pending := q }

/-- In a device at rest a command leaves its own effect and the shown followers alone (R243, R244, R245,
R251, R321, R331).
Every command ends by bringing up to date what follows other parts of the device.
Log entries that say where the model chose on these rules: 137, 138, 147, 186, 239, 283. -/
def Obligations.CommandEndsFrame : Prop :=
  -- Where its own effect leaves a device with nothing of its own to do, the next state is that effect
  -- with at most the registers CLR_STAT, PC_GRP_CMD, SD_INJECT, PC_XCVM_CODES, PC_INH_CFG and
  -- SD_SAFE_STAT and the pins changed: every other register and every other part is as the effect leaves
  -- it.
  ∀ (s : State) (d : Dev), d.atRest = true → ∃ (regs : Tab Word) (out : List Out), (s.ends d).dev = { d
    with regs, out } ∧ ∀ a, a ≠ R.CLR_STAT → a ≠ R.PC_GRP_CMD → a ≠ R.SD_INJECT → a ≠ R.PC_XCVM → a ≠
    R.SD_SAFE_STAT → (∀ k, k < 4 → a ≠ R.PC_INH_CFG k) → (s.ends d).dev.word a = d.word a

/-- How a register write fails on its way, and what the posted-error log keeps (R22, R30, R34, R35, R36,
R326, R367).
A delta of Sapling is not being applied, where the initiator is the management cores.
Log entries that say where the model chose on these rules: 8, 9, 10, 13, 25, 61, 124, 144, 182, 183,
201, 202, 204, 206, 211, 255, 256, 265, 282, 303, 304. -/
def Obligations.RegisterWriteTransport : Prop :=
  -- (1) An internal write that meets a common error fails with its code.
  (∀ (s : State) (i : Init) (addr : Nat) (v : Word) (full : Bool) (code : Nat), addr < 0x4000000 →
    portOf i = none → s.dev.accessCode i addr full = some code → (i ≠ .mc ∨ s.dev.sapState ≠ 5) → exec
    (.registerWrite i addr v full false) s = .next (s.ends (s.dev.failWrite i addr v code))) ∧
  -- (2) A PCIe write does nothing while the link is down.
  (∀ (s : State) (i : Init) (addr : Nat) (v : Word) (p : Nat), addr < 0x4000000 → portOf i = some p →
    s.dev.linkUp p = false → exec (.registerWrite i addr v true false) s = .next (s.ends (s.dev))) ∧
  -- (3) While the log is full or names the page it takes its number and is discarded and counted.
  (∀ (s : State) (i : Init) (addr : Nat) (v : Word) (full : Bool) (p : Nat), addr < 0x4000000 → portOf i
    = some p → s.dev.linkUp p = true → pageOf addr ≠ some (.hb (p + 1)) → (s.dev.pelFree p = none ∨
    s.dev.pelNames p addr = true) → exec (.registerWrite i addr v full false) s = .next (s.ends
    ((s.dev.put (F.HB_WSEQ_SEQ p) (nextSeq (s.dev.get (F.HB_WSEQ_SEQ p)))).bump (F.HB_PEL_DISCARD_COUNT
    p)))) ∧
  -- (4) A write under LOCK that would change an RWL field fails with LOCKED.
  (∀ (s : State) (i : Init) (addr : Nat) (v : Word) (d : Dev), addr < 0x4000000 → s.dev.reaches i addr =
    some d → d.lockedWrite addr v = true → (i ≠ .mc ∨ s.dev.sapState ≠ 5) → exec (.registerWrite i addr
    v true false) s = .next (s.ends (d.failWrite i addr v 0x0002))) ∧
  -- (5) One that meets a parity error on its path fails with TIMEOUT, and the error is reported.
  (∀ (s : State) (i : Init) (addr : Nat) (v : Word), addr < 0x4000000 → portOf i = none →
    s.dev.accessCode i addr true = none → exec (.registerWrite i addr v true true) s = .next (s.ends
    ((s.dev.failWrite i addr v 0x0007).report 3 0))) ∧
  -- (6) A failed posted write fills the lowest free entry with address, number, code and data, and
  -- raises PEL.
  (∀ (d : Dev) (i : Init) (addr : Nat) (v : Word) (code p e : Nat), portOf i = some p → d.pelFree p =
    some e → addr < 2 ^ 26 → code < 2 ^ 16 → (d.failWrite i addr v code).flag (F.PEL_ADDR_VALID p e) =
    true ∧ (d.failWrite i addr v code).get (F.PEL_ADDR_ADDR p e) = addr ∧ (d.failWrite i addr v
    code).get (F.PEL_SEQ_SEQ p e) = d.get (F.HB_WSEQ_SEQ p) ∧ (d.failWrite i addr v code).get
    (F.PEL_INFO_CODE p e) = code ∧ (d.failWrite i addr v code).get (F.PEL_DATA_DATA p e) = v.toNat ∧
    (d.failWrite i addr v code).get (F.PEL_TIME_STAMP_NS p e) = d.baseNs % 2 ^ 32 ∧ bitOf ((d.failWrite
    i addr v code).get (F.IRQ_RAW_BITS (pageBase (.hb (p + 1))))) 1 = true)

/-- What a page keeps of an error (R29).
A page that exists records an error.
Log entries that say where the model chose on these rules: 9. -/
def Obligations.ErrorCapture : Prop :=
  -- (1) The first error in a page is captured with its code, address, initiator and time, sets VALID and
  -- raises ERR.
  (∀ (d : Dev) (pg : Page) (who addr code : Nat), pageExists pg = true → who < 16 → addr < 2 ^ 26 → code
    < 2 ^ 16 → d.flag (F.ERR_INFO_VALID (pageBase pg)) = false → (d.recordErr pg who addr code).get
    (F.ERR_INFO_CODE (pageBase pg)) = code ∧ (d.recordErr pg who addr code).get (F.ERR_ADDR_INITIATOR
    (pageBase pg)) = who ∧ (d.recordErr pg who addr code).get (F.ERR_ADDR_ADDR (pageBase pg)) = addr ∧
    (d.recordErr pg who addr code).get (F.ERR_TIME_STAMP_NS (pageBase pg)) = d.baseNs % 2 ^ 32 ∧
    (d.recordErr pg who addr code).flag (F.ERR_INFO_VALID (pageBase pg)) = true ∧ bitOf ((d.recordErr pg
    who addr code).get (F.IRQ_RAW_BITS (pageBase pg))) 0 = true ∧ (d.recordErr pg who addr code).flag
    (F.ERR_INFO_OVERFLOW (pageBase pg)) = d.flag (F.ERR_INFO_OVERFLOW (pageBase pg))) ∧
  -- (2) While VALID is 1 the captured fields stay and OVERFLOW is set.
  (∀ (d : Dev) (pg : Page) (who addr code : Nat), pageExists pg = true → who < 16 → addr < 2 ^ 26 → code
    < 2 ^ 16 → d.flag (F.ERR_INFO_VALID (pageBase pg)) = true → (d.recordErr pg who addr code).get
    (F.ERR_INFO_CODE (pageBase pg)) = d.get (F.ERR_INFO_CODE (pageBase pg)) ∧ (d.recordErr pg who addr
    code).word ((pageBase pg) + 0x024) = d.word ((pageBase pg) + 0x024) ∧ (d.recordErr pg who addr
    code).word ((pageBase pg) + 0x028) = d.word ((pageBase pg) + 0x028) ∧ (d.recordErr pg who addr
    code).flag (F.ERR_INFO_VALID (pageBase pg)) = true ∧ (d.recordErr pg who addr code).flag
    (F.ERR_INFO_OVERFLOW (pageBase pg)) = true) ∧
  -- (3) ERR_COUNT goes up in both cases, up to its limit.
  (∀ (d : Dev) (pg : Page) (who addr code : Nat), pageExists pg = true → (d.recordErr pg who addr
    code).get (F.ERR_COUNT_COUNT (pageBase pg)) = min (2 ^ 32 - 1) (d.get (F.ERR_COUNT_COUNT (pageBase
    pg)) + 1))

/-- The bit patterns that codes name, where they apply, and the WRITE that is refused (R86).
Code 0 names no pattern; 1 all ones, 2 all ones but bit 0, 3 the highest bit alone, of a field of its
own length.
Log entries that say where the model chose on these rules: 71. -/
def Obligations.TransformPatterns : Prop :=
  -- (1) Code 0.
  (∀ (len : Nat), pattern 0 len = none) ∧
  -- (2) Codes 1 to 3.
  (∀ (code len i : Nat), 1 ≤ code → code ≤ 3 → i < len → ∃ x, pattern code len = some x ∧ x < 2 ^ len ∧
    bitOf x i = (if code = 1 then true else if code = 2 then i != 0 else i == len - 1)) ∧
  -- (3) A source value that equals its first input pattern is written as the first output pattern of
  -- each sink’s length.
  (∀ (d : Dev) (k raw lsrc w : Nat) (val : Int) (sgn : Bool), pattern (bitsOf (d.xfmWord k 3) 8 2) lsrc
    = some raw → d.transform k 0 raw lsrc val w sgn = (pattern (bitsOf (d.xfmWord k 3) 12 2) w).map (fun
    p => (p, false))) ∧
  -- (4) The same with the second.
  (∀ (d : Dev) (k raw lsrc w : Nat) (val : Int) (sgn : Bool), pattern (bitsOf (d.xfmWord k 3) 8 2) lsrc
    ≠ some raw → pattern (bitsOf (d.xfmWord k 3) 10 2) lsrc = some raw → d.transform k 0 raw lsrc val w
    sgn = (pattern (bitsOf (d.xfmWord k 3) 14 2) w).map (fun p => (p, false))) ∧
  -- (5) A transform WRITE whose two input or two output codes are the same and not 0 is refused with
  -- TABLE_INVALID and changes nothing in the tables.
  (∀ (s : State) (i : Init) (ix : BitVec 16) (d : Dev) (c : Nat), s.dev.reaches i (R.GV_TCMD) = some d →
    d.lockedWrite (R.GV_TCMD) (tcmdWord 1 1 ix.toNat) = false → d.flag F.GV_TCMD_GO = false → isEngine i
    = false → d.tdata 3 = c → ((bitsOf c 8 2 ≠ 0 ∧ bitsOf c 8 2 = bitsOf c 10 2) ∨ (bitsOf c 12 2 ≠ 0 ∧
    bitsOf c 12 2 = bitsOf c 14 2)) → (i ≠ .mc ∨ s.dev.sapState ≠ 5) → exec (.gvXfmWrite i ix) s = .next
    (s.ends (((d.commanded (R.GV_TCMD) (tcmdWord 1 1 ix.toNat) F.GV_TCMD_GO).put F.GV_TRESULT_CODE
    0x010D).recordErr (.gv 1) (initCode i) R.GV_TCMD 0x010D)))

/-- When REVOKE is refused, and that it takes effect at once (R288).
REVOKE is a write of SC_OTP_CMD that reaches its register.
Log entries that say where the model chose on these rules: 159. -/
def Obligations.RevocationRule : Prop :=
  -- (1) REVOKE of the slot that started the running image is refused with OTP_REFUSED.
  (∀ (s : State) (i : Init) (slot : Fin 8) (key : BitVec 16) (d : Dev), s.dev.reaches i (R.SC_OTP_CMD) =
    some d → d.lockedWrite (R.SC_OTP_CMD) (cmdWord [(F.SC_OTP_CMD_GO, 1), (F.SC_OTP_CMD_OP, 2),
    (F.SC_OTP_CMD_ARG, slot), (F.SC_OTP_CMD_KEY, key.toNat)]) = false → d.sc.run = none → d.get
    F.SC_BOOT_IMG_KIND ≠ 0 → d.get F.SC_BOOT_IMG_KEY_SLOT = slot → exec (.otpRevoke i slot key) s =
    .next (s.ends ((((d.store R.SC_OTP_CMD (cmdWord [(F.SC_OTP_CMD_GO, 1), (F.SC_OTP_CMD_OP, 2),
    (F.SC_OTP_CMD_ARG, slot), (F.SC_OTP_CMD_KEY, key.toNat)])).put F.SC_OTP_CMD_GO 0).put
    F.SC_OTP_RESULT_CODE 0x0128).windowErr i R.SC_OTP_CMD 0x0128))) ∧
  -- (2) So is one that would leave no slot programmed and not revoked.
  (∀ (s : State) (i : Init) (slot : Fin 8) (key : BitVec 16) (d : Dev), s.dev.reaches i (R.SC_OTP_CMD) =
    some d → d.lockedWrite (R.SC_OTP_CMD) (cmdWord [(F.SC_OTP_CMD_GO, 1), (F.SC_OTP_CMD_OP, 2),
    (F.SC_OTP_CMD_ARG, slot), (F.SC_OTP_CMD_KEY, key.toNat)]) = false → d.sc.run = none → (∀ k : Fin 4,
    k.val ≠ slot.val → d.otpUsable k = false) → exec (.otpRevoke i slot key) s = .next (s.ends
    ((((d.store R.SC_OTP_CMD (cmdWord [(F.SC_OTP_CMD_GO, 1), (F.SC_OTP_CMD_OP, 2), (F.SC_OTP_CMD_ARG,
    slot), (F.SC_OTP_CMD_KEY, key.toNat)])).put F.SC_OTP_CMD_GO 0).put F.SC_OTP_RESULT_CODE
    0x0128).windowErr i R.SC_OTP_CMD 0x0128))) ∧
  -- (3) Once a revocation is done, no image check of any kind accepts a key by that slot.
  (∀ (s : State) (r : OtpRun), s.dev.sc.run = some r → r.op = 2 → r.arg < 4 → ∃ d' : Dev, exec
    (.otpDone) s = .next (s.ends d') ∧ d'.otpRevoked r.arg = true ∧ ∀ (img : List Byte) (kind : Nat),
    d'.imageVerified img kind ≠ some r.arg)

/-- What GX.EXT puts into a value register in a timeout instance (R117).
In a timeout instance GX.EXT of a source descriptor gives what its TO_POL requires.
Log entries that say where the model chose on these rules: 75. -/
def Obligations.TimeoutExtraction : Prop :=
  -- (1) HOLD gives CLASS 3.
  (∀ (s : State) (t : Fin 128) (pc : Word) (rd : Fin 32) (k v : Fin 4) (x : Instance) (w0 w1 : Nat),
    s.dev.gxReady t = true → (s.dev.thr t).inst = some x → x.aborted = false → x.timeout = true → dreg
    (s.dev.thr t) k 0 = w0 → dreg (s.dev.thr t) k 1 = w1 → sigSink w0 = false → fieldFits (sigBig w0)
    (sigStart w0) (sigLen w0) x.fits = true → sigPol w0 = 0 → ∃ d' : Dev, exec (.gxExt t pc rd k v) s =
    .next (s.ends d') ∧ (tget (d'.thr t).v v).cls = 3 ∧ (d'.thr t).pc = (pc.toNat + 4) % 2 ^ 32 ∧
    (d'.thr t).st = .ready) ∧
  -- (2) SUBST gives SUBST sign-extended or truncated to the field.
  (∀ (s : State) (t : Fin 128) (pc : Word) (rd : Fin 32) (k v : Fin 4) (x : Instance) (w0 w1 : Nat),
    s.dev.gxReady t = true → (s.dev.thr t).inst = some x → x.aborted = false → x.timeout = true → dreg
    (s.dev.thr t) k 0 = w0 → dreg (s.dev.thr t) k 1 = w1 → sigSink w0 = false → fieldFits (sigBig w0)
    (sigStart w0) (sigLen w0) x.fits = true → sigPol w0 = 1 → ∃ d' : Dev, exec (.gxExt t pc rd k v) s =
    .next (s.ends d') ∧ (tget (d'.thr t).v v).cls = 0 ∧ (tget (d'.thr t).v v).val = extended (sigSigned
    w0) (sigLen w0) (unsignedOf (sigLen w0) (signedOf 16 (bitsOf w1 16 16))) ∧ (d'.thr t).pc = (pc.toNat
    + 4) % 2 ^ 32 ∧ (d'.thr t).st = .ready) ∧
  -- (3) NA gives CLASS 2.
  (∀ (s : State) (t : Fin 128) (pc : Word) (rd : Fin 32) (k v : Fin 4) (x : Instance) (w0 w1 : Nat),
    s.dev.gxReady t = true → (s.dev.thr t).inst = some x → x.aborted = false → x.timeout = true → dreg
    (s.dev.thr t) k 0 = w0 → dreg (s.dev.thr t) k 1 = w1 → sigSink w0 = false → fieldFits (sigBig w0)
    (sigStart w0) (sigLen w0) x.fits = true → sigPol w0 = 2 → ∃ d' : Dev, exec (.gxExt t pc rd k v) s =
    .next (s.ends d') ∧ (tget (d'.thr t).v v).cls = 2 ∧ (d'.thr t).pc = (pc.toNat + 4) % 2 ^ 32 ∧
    (d'.thr t).st = .ready) ∧
  -- (4) INV gives CLASS 1.
  (∀ (s : State) (t : Fin 128) (pc : Word) (rd : Fin 32) (k v : Fin 4) (x : Instance) (w0 w1 : Nat),
    s.dev.gxReady t = true → (s.dev.thr t).inst = some x → x.aborted = false → x.timeout = true → dreg
    (s.dev.thr t) k 0 = w0 → dreg (s.dev.thr t) k 1 = w1 → sigSink w0 = false → fieldFits (sigBig w0)
    (sigStart w0) (sigLen w0) x.fits = true → sigPol w0 = 3 → ∃ d' : Dev, exec (.gxExt t pc rd k v) s =
    .next (s.ends d') ∧ (tget (d'.thr t).v v).cls = 1 ∧ (d'.thr t).pc = (pc.toNat + 4) % 2 ^ 32 ∧
    (d'.thr t).st = .ready) ∧
  -- (5) Two input windows give the same result, so the window is not read.
  (∀ (c : ThreadCtx) (x : Instance) (input t rd k v : Nat) (d : Dev), x.timeout = true → d.extSource t
    rd k v c { x with input } = d.extSource t rd k v c x)

/-- After every step SD_SAFE_STAT shows exactly whether the guarantee holds (R321).
From every state, whatever it is. -/
def Obligations.SafeStatInvariant : Prop :=
  -- Every step leaves SD_SAFE_STAT.SAFE equal to the conditions of R321 on the state it leaves, each
  -- condition flag equal to its own condition (SUPPLY_OK: every supply in range and SUPPLY_WARN of PC
  -- page 2 clear), HEALTHY the number of healthy engines, and nothing owed to another block.
  ∀ (s : State), ∃ t : State, step s = .next t ∧ t.dev.flag F.SD_SAFE_STAT_SAFE = t.dev.guaranteed ∧
    t.dev.flag F.SD_SAFE_STAT_SCRUB_OK = t.dev.flag F.SD_SCRUB_CTRL_EN ∧ t.dev.flag
    F.SD_SAFE_STAT_PAIR_OK = t.dev.flag F.GV_CFG_PAIR_EN ∧ t.dev.flag F.SD_SAFE_STAT_SUPPLY_OK =
    (t.dev.get F.PC_MON_STAT_SUPPLY_OK == 0x1FF && !bitOf (t.dev.get (F.IRQ_RAW_BITS (pageBase (.pc
    2)))) 2) ∧ t.dev.flag F.SD_SAFE_STAT_TEMP_OK = !t.dev.flag F.PC_MON_STAT_THERM_WARN ∧ t.dev.get
    F.SD_SAFE_STAT_HEALTHY = t.dev.healthyCount ∧ t.dev.todo = []

/-- After every step the XCVM and INH pins stand as the sleep groups ask (R243, R244).
From every state.
Log entries that say where the model chose on these rules: 138. -/
def Obligations.PinsInvariant : Prop :=
  -- Every step leaves each transceiver group’s pins at the code that R243 gives for the state of its
  -- group, and each INH output at the level that R244 gives, on the state it leaves; Dev.pinsFollow
  -- spells the tables out: 11 awake or going to sleep, 10 with LISTEN; 10 in a listening wake check; 00
  -- asleep, 01 with STBY; 01 in M11 and before the first write of the page; INH by KEEP, SELF and
  -- GROUPS.
  ∀ (s : State), ∃ t : State, step s = .next t ∧ t.dev.pinsFollow
end

