-- ==== Sys2Proof/Laws/Bits.lean ====
section
/-! SUPPORT. The laws of bit fields: a field reads as written, and a write leaves the other fields. -/

namespace Sys2Proof.Machine
open Sys2Proof

/-- A number by the bits below, in and above a field. -/
theorem split_bits (v lo w : Nat) :
    v = v / 2 ^ (lo + w) * 2 ^ (lo + w) + bitsOf v lo w * 2 ^ lo + v % 2 ^ lo := by
  have h1 : v = v / 2 ^ lo * 2 ^ lo + v % 2 ^ lo := by rw [Nat.div_add_mod']
  have h2 : v / 2 ^ lo = v / 2 ^ lo / 2 ^ w * 2 ^ w + v / 2 ^ lo % 2 ^ w := by rw [Nat.div_add_mod']
  have h3 : v / 2 ^ lo / 2 ^ w = v / 2 ^ (lo + w) := by rw [Nat.div_div_eq_div_mul, pow_add]
  have h4 : 2 ^ (lo + w) = 2 ^ w * 2 ^ lo := by rw [pow_add, mul_comm]
  conv_lhs => rw [h1, h2, h3]
  rw [bitsOf, h4]
  ring

/-- A field written, by the bits below, in and above it. -/
theorem putBits_eq (v lo w x : Nat) :
    putBits v lo w x = v / 2 ^ (lo + w) * 2 ^ (lo + w) + x % 2 ^ w * 2 ^ lo + v % 2 ^ lo := by
  have h := split_bits v lo w
  unfold putBits
  omega

theorem bitsOf_split (h x l lo w : Nat) (hx : x < 2 ^ w) (hl : l < 2 ^ lo) :
    bitsOf (h * 2 ^ (lo + w) + x * 2 ^ lo + l) lo w = x := by
  have h4 : 2 ^ (lo + w) = 2 ^ w * 2 ^ lo := by rw [pow_add, mul_comm]
  have : h * 2 ^ (lo + w) + x * 2 ^ lo + l = l + (x + h * 2 ^ w) * 2 ^ lo := by rw [h4]; ring
  rw [bitsOf, this, Nat.add_mul_div_right _ _ (Nat.two_pow_pos lo), Nat.div_eq_of_lt hl, Nat.zero_add,
    Nat.add_mul_mod_self_right, Nat.mod_eq_of_lt hx]

/-- A field reads as what was written into it. -/
@[simp] theorem bitsOf_putBits (v lo w x : Nat) : bitsOf (putBits v lo w x) lo w = x % 2 ^ w := by
  rw [putBits_eq]
  exact bitsOf_split _ _ _ lo w (Nat.mod_lt _ (Nat.two_pow_pos w)) (Nat.mod_lt _ (Nat.two_pow_pos lo))

theorem putBits_mod_low (v lo w x k : Nat) (h : k ≤ lo) : putBits v lo w x % 2 ^ k = v % 2 ^ k := by
  obtain ⟨m, rfl⟩ := Nat.exists_eq_add_of_le h
  have e : putBits v (k + m) w x =
      v % 2 ^ (k + m) + (v / 2 ^ (k + m + w) * 2 ^ (m + w) + x % 2 ^ w * 2 ^ m) * 2 ^ k := by
    rw [putBits_eq, show k + m + w = k + (m + w) by ring, pow_add 2 k (m + w), pow_add 2 k m]
    ring
  rw [e, Nat.add_mul_mod_self_right, Nat.mod_mod_of_dvd]
  exact Nat.pow_dvd_pow 2 (Nat.le_add_right k m)

theorem putBits_div_high (v lo w x k : Nat) (h : lo + w ≤ k) : putBits v lo w x / 2 ^ k = v / 2 ^ k := by
  obtain ⟨m, rfl⟩ := Nat.exists_eq_add_of_le h
  have hx : x % 2 ^ w * 2 ^ lo + v % 2 ^ lo < 2 ^ (lo + w) := by
    have h1 : x % 2 ^ w < 2 ^ w := Nat.mod_lt _ (Nat.two_pow_pos w)
    have h2 : v % 2 ^ lo < 2 ^ lo := Nat.mod_lt _ (Nat.two_pow_pos lo)
    have h3 : (x % 2 ^ w + 1) * 2 ^ lo ≤ 2 ^ w * 2 ^ lo := Nat.mul_le_mul_right _ h1
    have h4 : 2 ^ (lo + w) = 2 ^ w * 2 ^ lo := by rw [pow_add, mul_comm]
    rw [h4]
    calc _ < x % 2 ^ w * 2 ^ lo + 2 ^ lo := by omega
      _ = (x % 2 ^ w + 1) * 2 ^ lo := by ring
      _ ≤ _ := h3
  rw [pow_add 2 (lo + w) m, ← Nat.div_div_eq_div_mul, ← Nat.div_div_eq_div_mul, putBits_eq]
  congr 1
  rw [show v / 2 ^ (lo + w) * 2 ^ (lo + w) + x % 2 ^ w * 2 ^ lo + v % 2 ^ lo =
    x % 2 ^ w * 2 ^ lo + v % 2 ^ lo + v / 2 ^ (lo + w) * 2 ^ (lo + w) by ring,
    Nat.add_mul_div_right _ _ (Nat.two_pow_pos _), Nat.div_eq_of_lt hx, Nat.zero_add]

/-- A write leaves a field that lies beside it. -/
theorem bitsOf_putBits_other (v lo w x lo' w' : Nat) (h : lo' + w' ≤ lo ∨ lo + w ≤ lo') :
    bitsOf (putBits v lo w x) lo' w' = bitsOf v lo' w' := by
  rcases h with h | h
  · have key : ∀ u : Nat, bitsOf u lo' w' = u % 2 ^ (lo' + w') / 2 ^ lo' := by
      intro u
      rw [bitsOf, pow_add, Nat.mod_mul_right_div_self]
    rw [key, key, putBits_mod_low v lo w x _ h]
  · rw [bitsOf, bitsOf, putBits_div_high v lo w x _ h]

theorem putBits_lt (v lo w x n : Nat) (hv : v < 2 ^ n) (h : lo + w ≤ n) : putBits v lo w x < 2 ^ n := by
  have := putBits_div_high v lo w x n h
  rw [Nat.div_eq_of_lt hv] at this
  exact (Nat.div_eq_zero_iff_lt (Nat.two_pow_pos n)).mp this

theorem wordPut_toNat (v : Word) (lo w x : Nat) (h : lo + w ≤ 32) :
    (wordPut v lo w x).toNat = putBits v.toNat lo w x := by
  rw [wordPut, BitVec.toNat_ofNat, Nat.mod_eq_of_lt (putBits_lt _ lo w x 32 v.isLt h)]

/-- A field of a word reads as what was written into it. -/
theorem wordBits_wordPut (v : Word) (lo w x : Nat) (h : lo + w ≤ 32) :
    wordBits (wordPut v lo w x) lo w = x % 2 ^ w := by
  rw [wordBits, wordPut_toNat v lo w x h, bitsOf_putBits]

/-- A write of a field of a word leaves a field beside it. -/
theorem wordBits_wordPut_other (v : Word) (lo w x lo' w' : Nat) (h : lo + w ≤ 32)
    (h' : lo' + w' ≤ lo ∨ lo + w ≤ lo') : wordBits (wordPut v lo w x) lo' w' = wordBits v lo' w' := by
  rw [wordBits, wordPut_toNat v lo w x h, bitsOf_putBits_other _ _ _ _ _ _ h', wordBits]

theorem bitsOf_lt (v lo w : Nat) : bitsOf v lo w < 2 ^ w := Nat.mod_lt _ (Nat.two_pow_pos w)

theorem bitOf_eq_bitsOf (v i : Nat) : bitOf v i = (bitsOf v i 1 == 1) := by simp [bitOf, bitsOf]

theorem bitOf_setBit (v i : Nat) : bitOf (setBit v i) i = true := by simp [bitOf_eq_bitsOf, setBit]

theorem bitOf_setBit_other (v i k : Nat) (h : k ≠ i) : bitOf (setBit v i) k = bitOf v k := by
  simp only [bitOf_eq_bitsOf, setBit]
  rw [bitsOf_putBits_other _ _ _ _ _ _ (by omega)]

theorem bitOf_clrBit (v i : Nat) : bitOf (clrBit v i) i = false := by simp [bitOf_eq_bitsOf, clrBit]

end Sys2Proof.Machine
end

