-- ==== Sys2Proof/Laws/Tab.lean ====
section
/-! SUPPORT. The laws of sparse tables: reading after writing, and the canonical form that every operation
keeps. -/

namespace Sys2Proof.Machine
open Sys2Proof

variable {α : Type}

theorem tabGet_tabIns_same (dflt : Nat → α) (t : Tab α) (i : Nat) (v : α) (h : ∀ e ∈ t, e.1 ≠ i) :
    tabGet dflt (tabIns t i v) i = v := by
  induction t with
  | nil => simp [tabIns, tabGet]
  | cons e t ih =>
    obtain ⟨j, w⟩ := e
    have hj : j ≠ i := h (j, w) (by simp)
    by_cases hij : i < j
    · simp [tabIns, hij, tabGet]
    · simp only [tabIns, hij, if_false, tabGet]
      rw [if_neg (fun e => hj e.symm)]
      exact ih (fun e he => h e (by simp [he]))

theorem tabGet_tabIns_other (dflt : Nat → α) (t : Tab α) (i k : Nat) (v : α) (h : k ≠ i) :
    tabGet dflt (tabIns t i v) k = tabGet dflt t k := by
  induction t with
  | nil => simp [tabIns, tabGet, h]
  | cons e t ih =>
    obtain ⟨j, w⟩ := e
    by_cases hij : i < j
    · simp [tabIns, hij, tabGet, h]
    · simp only [tabIns, hij, if_false, tabGet, ih]

theorem tabGet_filter_other (dflt : Nat → α) (t : Tab α) (i k : Nat) (h : k ≠ i) :
    tabGet dflt (t.filter (fun e => e.1 != i)) k = tabGet dflt t k := by
  induction t with
  | nil => rfl
  | cons e t ih =>
    obtain ⟨j, w⟩ := e
    by_cases hj : j = i
    · subst hj
      simp [List.filter, tabGet, h, ih]
    · have : (j != i) = true := by simpa using hj
      simp only [List.filter, this, tabGet, ih]

theorem tabGet_absent (dflt : Nat → α) (t : Tab α) (i : Nat) (h : ∀ e ∈ t, e.1 ≠ i) :
    tabGet dflt t i = dflt i := by
  induction t with
  | nil => rfl
  | cons e t ih =>
    obtain ⟨j, w⟩ := e
    have hj : j ≠ i := h (j, w) (by simp)
    simp only [tabGet]
    rw [if_neg (fun e => hj e.symm)]
    exact ih (fun e he => h e (by simp [he]))

theorem mem_filter_ne (t : Tab α) (i : Nat) : ∀ e ∈ t.filter (fun e => e.1 != i), e.1 ≠ i := by
  intro e he
  simpa using (List.mem_filter.mp he).2

variable [DecidableEq α]

/-- An entry reads as what was written last. -/
@[simp] theorem tabGet_tabSet_same (dflt : Nat → α) (t : Tab α) (i : Nat) (v : α) :
    tabGet dflt (tabSet dflt t i v) i = v := by
  unfold tabSet
  by_cases h : v = dflt i
  · simp only [h, if_true]
    exact tabGet_absent dflt _ i (mem_filter_ne t i)
  · simp only [h, if_false]
    exact tabGet_tabIns_same dflt _ i v (mem_filter_ne t i)

/-- A write leaves every other entry as it was. -/
theorem tabGet_tabSet_other (dflt : Nat → α) (t : Tab α) (i k : Nat) (v : α) (h : k ≠ i) :
    tabGet dflt (tabSet dflt t i v) k = tabGet dflt t k := by
  unfold tabSet
  by_cases hv : v = dflt i
  · simp only [hv, if_true]
    exact tabGet_filter_other dflt t i k h
  · simp only [hv, if_false]
    rw [tabGet_tabIns_other dflt _ i k v h, tabGet_filter_other dflt t i k h]

theorem tabGet_tabSet (dflt : Nat → α) (t : Tab α) (i k : Nat) (v : α) :
    tabGet dflt (tabSet dflt t i v) k = if k = i then v else tabGet dflt t k := by
  by_cases h : k = i
  · subst h; simp
  · simp [h, tabGet_tabSet_other dflt t i k v h]

section Inhabited
variable [Inhabited α]

@[simp] theorem tget_tset_same (t : Tab α) (i : Nat) (v : α) : tget (tset t i v) i = v := by
  simp [tget, tset]

theorem tget_tset_other (t : Tab α) (i k : Nat) (v : α) (h : k ≠ i) : tget (tset t i v) k = tget t k := by
  simp [tget, tset, tabGet_tabSet_other _ t i k v h]

theorem tget_tset (t : Tab α) (i k : Nat) (v : α) : tget (tset t i v) k = if k = i then v else tget t k := by
  simp [tget, tset, tabGet_tabSet]

omit [DecidableEq α] in
@[simp] theorem tget_nil (i : Nat) : tget ([] : Tab α) i = default := rfl

@[simp] theorem tget_tmod_same (t : Tab α) (i : Nat) (f : α → α) : tget (tmod t i f) i = f (tget t i) := by
  simp [tmod]

theorem tget_tmod_other (t : Tab α) (i k : Nat) (f : α → α) (h : k ≠ i) : tget (tmod t i f) k = tget t k := by
  simp [tmod, tget_tset_other _ _ _ _ h]

end Inhabited

/-! ## The canonical form -/

/-- What the canonical form says of a list, entry by entry. -/
theorem tabWfFrom_iff (dflt : Nat → α) (lo : Nat) (t : Tab α) :
    tabWfFrom dflt lo t = true ↔
      t.Pairwise (fun a b => a.1 < b.1) ∧ (∀ e ∈ t, lo ≤ e.1) ∧ ∀ e ∈ t, e.2 ≠ dflt e.1 := by
  induction t generalizing lo with
  | nil => simp [tabWfFrom]
  | cons e t ih =>
    obtain ⟨i, v⟩ := e
    simp only [tabWfFrom, Bool.and_eq_true, decide_eq_true_eq, ih, List.pairwise_cons, List.mem_cons,
      forall_eq_or_imp]
    constructor
    · rintro ⟨⟨h1, h2⟩, h3, h4, h5⟩
      exact ⟨⟨fun e he => h4 e he, h3⟩, ⟨h1, fun e he => by have := h4 e he; omega⟩, h2, h5⟩
    · rintro ⟨⟨h1, h2⟩, ⟨h3, h4⟩, h5, h6⟩
      exact ⟨⟨h3, h5⟩, h2, fun e he => h1 e he, h6⟩

theorem tabWf_iff (dflt : Nat → α) (t : Tab α) :
    tabWf dflt t = true ↔ t.Pairwise (fun a b => a.1 < b.1) ∧ ∀ e ∈ t, e.2 ≠ dflt e.1 := by
  simp [tabWf, tabWfFrom_iff]

@[simp] theorem tabWf_nil (dflt : Nat → α) : tabWf dflt ([] : Tab α) = true := rfl

/-- Dropping entries keeps the canonical form. -/
theorem tabWf_filter (dflt : Nat → α) (t : Tab α) (p : Nat × α → Bool) (h : tabWf dflt t = true) :
    tabWf dflt (t.filter p) = true := by
  rw [tabWf_iff] at *
  exact ⟨h.1.filter p, fun e he => h.2 e (List.mem_filter.mp he).1⟩

theorem tabWf_tabDrop (dflt : Nat → α) (t : Tab α) (p : Nat → Bool) (h : tabWf dflt t = true) :
    tabWf dflt (tabDrop p t) = true := tabWf_filter dflt t _ h

omit [DecidableEq α] in
theorem mem_tabIns (t : Tab α) (i : Nat) (v : α) (e : Nat × α) : e ∈ tabIns t i v ↔ e = (i, v) ∨ e ∈ t := by
  induction t with
  | nil => simp [tabIns]
  | cons x t ih =>
    obtain ⟨j, w⟩ := x
    by_cases h : i < j
    · simp [tabIns, h]
    · simp only [tabIns, h, if_false, List.mem_cons, ih]
      tauto

omit [DecidableEq α] in
theorem pairwise_tabIns (t : Tab α) (i : Nat) (v : α) (h : t.Pairwise (fun a b => a.1 < b.1))
    (hi : ∀ e ∈ t, e.1 ≠ i) : (tabIns t i v).Pairwise (fun a b => a.1 < b.1) := by
  induction t with
  | nil => simp [tabIns]
  | cons x t ih =>
    obtain ⟨j, w⟩ := x
    rw [List.pairwise_cons] at h
    have hj : j ≠ i := hi (j, w) (by simp)
    by_cases hij : i < j
    · simp only [tabIns, hij, if_true, List.pairwise_cons]
      refine ⟨?_, h.1, h.2⟩
      intro e he
      rcases List.mem_cons.mp he with rfl | he
      · exact hij
      · have := h.1 e he; simp at this ⊢; omega
    · simp only [tabIns, hij, if_false, List.pairwise_cons]
      refine ⟨?_, ih h.2 (fun e he => hi e (by simp [he]))⟩
      intro e he
      rcases (mem_tabIns t i v e).mp he with rfl | he
      · simp; omega
      · exact h.1 e he

/-- A write keeps the canonical form. -/
theorem tabWf_tabSet (dflt : Nat → α) (t : Tab α) (i : Nat) (v : α) (h : tabWf dflt t = true) :
    tabWf dflt (tabSet dflt t i v) = true := by
  have hf := tabWf_filter dflt t (fun e => e.1 != i) h
  unfold tabSet
  by_cases hv : v = dflt i
  · simpa only [hv, if_true] using hf
  · simp only [hv, if_false]
    rw [tabWf_iff] at *
    refine ⟨pairwise_tabIns _ i v hf.1 (mem_filter_ne t i), ?_⟩
    intro e he
    rcases (mem_tabIns _ i v e).mp he with rfl | he
    · exact hv
    · exact hf.2 e he

theorem tabWf_tset [Inhabited α] (t : Tab α) (i : Nat) (v : α) (h : tabWf (fun _ => default) t = true) :
    tabWf (fun _ => default) (tset t i v) = true := tabWf_tabSet _ t i v h

theorem tabWf_tmod [Inhabited α] (t : Tab α) (i : Nat) (f : α → α) (h : tabWf (fun _ => default) t = true) :
    tabWf (fun _ => default) (tmod t i f) = true := tabWf_tabSet _ t i _ h

theorem tabWf_foldl_tset [Inhabited α] {β : Type} (l : List β) (g : Tab α → β → Tab α)
    (hg : ∀ t b, tabWf (fun _ => default) t = true → tabWf (fun _ => default) (g t b) = true) (t : Tab α)
    (h : tabWf (fun _ => default) t = true) : tabWf (fun _ => default) (l.foldl g t) = true := by
  induction l generalizing t with
  | nil => exact h
  | cons b l ih => exact ih _ (hg t b h)

/-- A map over the entries keeps the canonical form. -/
theorem tabWf_tmap [Inhabited α] (t : Tab α) (f : α → α) : tabWf (fun _ => default) (tmap t f) = true :=
  tabWf_foldl_tset t _ (fun t b h => tabWf_tset t b.1 (f b.2) h) [] rfl

end Sys2Proof.Machine
end

