-- ==== Sys2Proof/Laws/State.lean ====
section
/-! SUPPORT. What each basic update of the device leaves and changes, field by field, and the laws of the
register file. -/

namespace Sys2Proof.Machine
open Sys2Proof

variable (d : Dev)

/-! ### Dev.setWord -/

@[simp] theorem Dev.setWord_out (a : Nat) (v : Word) : (d.setWord a v).out = d.out := rfl
@[simp] theorem Dev.setWord_freeIx (a : Nat) (v : Word) : (d.setWord a v).freeIx = d.freeIx := rfl
@[simp] theorem Dev.setWord_hb (a : Nat) (v : Word) : (d.setWord a v).hb = d.hb := rfl
@[simp] theorem Dev.setWord_tl (a : Nat) (v : Word) : (d.setWord a v).tl = d.tl := rfl
@[simp] theorem Dev.setWord_canopy (a : Nat) (v : Word) : (d.setWord a v).canopy = d.canopy := rfl
@[simp] theorem Dev.setWord_plat (a : Nat) (v : Word) : (d.setWord a v).plat = d.plat := rfl
@[simp] theorem Dev.setWord_gv (a : Nat) (v : Word) : (d.setWord a v).gv = d.gv := rfl
@[simp] theorem Dev.setWord_todo (a : Nat) (v : Word) : (d.setWord a v).todo = d.todo := rfl
@[simp] theorem Dev.setWord_chan (a : Nat) (v : Word) : (d.setWord a v).chan = d.chan := rfl
@[simp] theorem Dev.setWord_ports (a : Nat) (v : Word) : (d.setWord a v).ports = d.ports := rfl
@[simp] theorem Dev.setWord_msc (a : Nat) (v : Word) : (d.setWord a v).msc = d.msc := rfl
@[simp] theorem Dev.setWord_msa (a : Nat) (v : Word) : (d.setWord a v).msa = d.msa := rfl
@[simp] theorem Dev.setWord_learnq (a : Nat) (v : Word) : (d.setWord a v).learnq = d.learnq := rfl
@[simp] theorem Dev.setWord_lk (a : Nat) (v : Word) : (d.setWord a v).lk = d.lk := rfl
@[simp] theorem Dev.setWord_sw (a : Nat) (v : Word) : (d.setWord a v).sw = d.sw := rfl
@[simp] theorem Dev.setWord_tm (a : Nat) (v : Word) : (d.setWord a v).tm = d.tm := rfl
@[simp] theorem Dev.setWord_cp (a : Nat) (v : Word) : (d.setWord a v).cp = d.cp := rfl
@[simp] theorem Dev.setWord_slp (a : Nat) (v : Word) : (d.setWord a v).slp = d.slp := rfl
@[simp] theorem Dev.setWord_clr (a : Nat) (v : Word) : (d.setWord a v).clr = d.clr := rfl
@[simp] theorem Dev.setWord_sc (a : Nat) (v : Word) : (d.setWord a v).sc = d.sc := rfl
@[simp] theorem Dev.setWord_sap (a : Nat) (v : Word) : (d.setWord a v).sap = d.sap := rfl
@[simp] theorem Dev.setWord_inject (a : Nat) (v : Word) : (d.setWord a v).inject = d.inject := rfl
@[simp] theorem Dev.setWord_ch (a : Nat) (v : Word) : (d.setWord a v).ch = d.ch := rfl
@[simp] theorem Dev.setWord_mram (a : Nat) (v : Word) : (d.setWord a v).mram = d.mram := rfl
@[simp] theorem Dev.setWord_scrub (a : Nat) (v : Word) : (d.setWord a v).scrub = d.scrub := rfl

/-! ### Dev.put -/

@[simp] theorem Dev.put_out (f : Fld) (v : Nat) : (d.put f v).out = d.out := rfl
@[simp] theorem Dev.put_freeIx (f : Fld) (v : Nat) : (d.put f v).freeIx = d.freeIx := rfl
@[simp] theorem Dev.put_hb (f : Fld) (v : Nat) : (d.put f v).hb = d.hb := rfl
@[simp] theorem Dev.put_tl (f : Fld) (v : Nat) : (d.put f v).tl = d.tl := rfl
@[simp] theorem Dev.put_canopy (f : Fld) (v : Nat) : (d.put f v).canopy = d.canopy := rfl
@[simp] theorem Dev.put_plat (f : Fld) (v : Nat) : (d.put f v).plat = d.plat := rfl
@[simp] theorem Dev.put_gv (f : Fld) (v : Nat) : (d.put f v).gv = d.gv := rfl
@[simp] theorem Dev.put_todo (f : Fld) (v : Nat) : (d.put f v).todo = d.todo := rfl
@[simp] theorem Dev.put_chan (f : Fld) (v : Nat) : (d.put f v).chan = d.chan := rfl
@[simp] theorem Dev.put_ports (f : Fld) (v : Nat) : (d.put f v).ports = d.ports := rfl
@[simp] theorem Dev.put_msc (f : Fld) (v : Nat) : (d.put f v).msc = d.msc := rfl
@[simp] theorem Dev.put_msa (f : Fld) (v : Nat) : (d.put f v).msa = d.msa := rfl
@[simp] theorem Dev.put_learnq (f : Fld) (v : Nat) : (d.put f v).learnq = d.learnq := rfl
@[simp] theorem Dev.put_lk (f : Fld) (v : Nat) : (d.put f v).lk = d.lk := rfl
@[simp] theorem Dev.put_sw (f : Fld) (v : Nat) : (d.put f v).sw = d.sw := rfl
@[simp] theorem Dev.put_tm (f : Fld) (v : Nat) : (d.put f v).tm = d.tm := rfl
@[simp] theorem Dev.put_cp (f : Fld) (v : Nat) : (d.put f v).cp = d.cp := rfl
@[simp] theorem Dev.put_slp (f : Fld) (v : Nat) : (d.put f v).slp = d.slp := rfl
@[simp] theorem Dev.put_clr (f : Fld) (v : Nat) : (d.put f v).clr = d.clr := rfl
@[simp] theorem Dev.put_sc (f : Fld) (v : Nat) : (d.put f v).sc = d.sc := rfl
@[simp] theorem Dev.put_sap (f : Fld) (v : Nat) : (d.put f v).sap = d.sap := rfl
@[simp] theorem Dev.put_inject (f : Fld) (v : Nat) : (d.put f v).inject = d.inject := rfl
@[simp] theorem Dev.put_ch (f : Fld) (v : Nat) : (d.put f v).ch = d.ch := rfl
@[simp] theorem Dev.put_mram (f : Fld) (v : Nat) : (d.put f v).mram = d.mram := rfl
@[simp] theorem Dev.put_scrub (f : Fld) (v : Nat) : (d.put f v).scrub = d.scrub := rfl

/-! ### Dev.putFlag -/

@[simp] theorem Dev.putFlag_out (f : Fld) (b : Bool) : (d.putFlag f b).out = d.out := rfl
@[simp] theorem Dev.putFlag_freeIx (f : Fld) (b : Bool) : (d.putFlag f b).freeIx = d.freeIx := rfl
@[simp] theorem Dev.putFlag_hb (f : Fld) (b : Bool) : (d.putFlag f b).hb = d.hb := rfl
@[simp] theorem Dev.putFlag_tl (f : Fld) (b : Bool) : (d.putFlag f b).tl = d.tl := rfl
@[simp] theorem Dev.putFlag_canopy (f : Fld) (b : Bool) : (d.putFlag f b).canopy = d.canopy := rfl
@[simp] theorem Dev.putFlag_plat (f : Fld) (b : Bool) : (d.putFlag f b).plat = d.plat := rfl
@[simp] theorem Dev.putFlag_gv (f : Fld) (b : Bool) : (d.putFlag f b).gv = d.gv := rfl
@[simp] theorem Dev.putFlag_todo (f : Fld) (b : Bool) : (d.putFlag f b).todo = d.todo := rfl
@[simp] theorem Dev.putFlag_chan (f : Fld) (b : Bool) : (d.putFlag f b).chan = d.chan := rfl
@[simp] theorem Dev.putFlag_ports (f : Fld) (b : Bool) : (d.putFlag f b).ports = d.ports := rfl
@[simp] theorem Dev.putFlag_msc (f : Fld) (b : Bool) : (d.putFlag f b).msc = d.msc := rfl
@[simp] theorem Dev.putFlag_msa (f : Fld) (b : Bool) : (d.putFlag f b).msa = d.msa := rfl
@[simp] theorem Dev.putFlag_learnq (f : Fld) (b : Bool) : (d.putFlag f b).learnq = d.learnq := rfl
@[simp] theorem Dev.putFlag_lk (f : Fld) (b : Bool) : (d.putFlag f b).lk = d.lk := rfl
@[simp] theorem Dev.putFlag_sw (f : Fld) (b : Bool) : (d.putFlag f b).sw = d.sw := rfl
@[simp] theorem Dev.putFlag_tm (f : Fld) (b : Bool) : (d.putFlag f b).tm = d.tm := rfl
@[simp] theorem Dev.putFlag_cp (f : Fld) (b : Bool) : (d.putFlag f b).cp = d.cp := rfl
@[simp] theorem Dev.putFlag_slp (f : Fld) (b : Bool) : (d.putFlag f b).slp = d.slp := rfl
@[simp] theorem Dev.putFlag_clr (f : Fld) (b : Bool) : (d.putFlag f b).clr = d.clr := rfl
@[simp] theorem Dev.putFlag_sc (f : Fld) (b : Bool) : (d.putFlag f b).sc = d.sc := rfl
@[simp] theorem Dev.putFlag_sap (f : Fld) (b : Bool) : (d.putFlag f b).sap = d.sap := rfl
@[simp] theorem Dev.putFlag_inject (f : Fld) (b : Bool) : (d.putFlag f b).inject = d.inject := rfl
@[simp] theorem Dev.putFlag_ch (f : Fld) (b : Bool) : (d.putFlag f b).ch = d.ch := rfl
@[simp] theorem Dev.putFlag_mram (f : Fld) (b : Bool) : (d.putFlag f b).mram = d.mram := rfl
@[simp] theorem Dev.putFlag_scrub (f : Fld) (b : Bool) : (d.putFlag f b).scrub = d.scrub := rfl

/-! ### Dev.bumpBy -/

@[simp] theorem Dev.bumpBy_out (f : Fld) (n : Nat) : (d.bumpBy f n).out = d.out := rfl
@[simp] theorem Dev.bumpBy_freeIx (f : Fld) (n : Nat) : (d.bumpBy f n).freeIx = d.freeIx := rfl
@[simp] theorem Dev.bumpBy_hb (f : Fld) (n : Nat) : (d.bumpBy f n).hb = d.hb := rfl
@[simp] theorem Dev.bumpBy_tl (f : Fld) (n : Nat) : (d.bumpBy f n).tl = d.tl := rfl
@[simp] theorem Dev.bumpBy_canopy (f : Fld) (n : Nat) : (d.bumpBy f n).canopy = d.canopy := rfl
@[simp] theorem Dev.bumpBy_plat (f : Fld) (n : Nat) : (d.bumpBy f n).plat = d.plat := rfl
@[simp] theorem Dev.bumpBy_gv (f : Fld) (n : Nat) : (d.bumpBy f n).gv = d.gv := rfl
@[simp] theorem Dev.bumpBy_todo (f : Fld) (n : Nat) : (d.bumpBy f n).todo = d.todo := rfl
@[simp] theorem Dev.bumpBy_chan (f : Fld) (n : Nat) : (d.bumpBy f n).chan = d.chan := rfl
@[simp] theorem Dev.bumpBy_ports (f : Fld) (n : Nat) : (d.bumpBy f n).ports = d.ports := rfl
@[simp] theorem Dev.bumpBy_msc (f : Fld) (n : Nat) : (d.bumpBy f n).msc = d.msc := rfl
@[simp] theorem Dev.bumpBy_msa (f : Fld) (n : Nat) : (d.bumpBy f n).msa = d.msa := rfl
@[simp] theorem Dev.bumpBy_learnq (f : Fld) (n : Nat) : (d.bumpBy f n).learnq = d.learnq := rfl
@[simp] theorem Dev.bumpBy_lk (f : Fld) (n : Nat) : (d.bumpBy f n).lk = d.lk := rfl
@[simp] theorem Dev.bumpBy_sw (f : Fld) (n : Nat) : (d.bumpBy f n).sw = d.sw := rfl
@[simp] theorem Dev.bumpBy_tm (f : Fld) (n : Nat) : (d.bumpBy f n).tm = d.tm := rfl
@[simp] theorem Dev.bumpBy_cp (f : Fld) (n : Nat) : (d.bumpBy f n).cp = d.cp := rfl
@[simp] theorem Dev.bumpBy_slp (f : Fld) (n : Nat) : (d.bumpBy f n).slp = d.slp := rfl
@[simp] theorem Dev.bumpBy_clr (f : Fld) (n : Nat) : (d.bumpBy f n).clr = d.clr := rfl
@[simp] theorem Dev.bumpBy_sc (f : Fld) (n : Nat) : (d.bumpBy f n).sc = d.sc := rfl
@[simp] theorem Dev.bumpBy_sap (f : Fld) (n : Nat) : (d.bumpBy f n).sap = d.sap := rfl
@[simp] theorem Dev.bumpBy_inject (f : Fld) (n : Nat) : (d.bumpBy f n).inject = d.inject := rfl
@[simp] theorem Dev.bumpBy_ch (f : Fld) (n : Nat) : (d.bumpBy f n).ch = d.ch := rfl
@[simp] theorem Dev.bumpBy_mram (f : Fld) (n : Nat) : (d.bumpBy f n).mram = d.mram := rfl
@[simp] theorem Dev.bumpBy_scrub (f : Fld) (n : Nat) : (d.bumpBy f n).scrub = d.scrub := rfl

/-! ### Dev.bump -/

@[simp] theorem Dev.bump_out (f : Fld) : (d.bump f).out = d.out := rfl
@[simp] theorem Dev.bump_freeIx (f : Fld) : (d.bump f).freeIx = d.freeIx := rfl
@[simp] theorem Dev.bump_hb (f : Fld) : (d.bump f).hb = d.hb := rfl
@[simp] theorem Dev.bump_tl (f : Fld) : (d.bump f).tl = d.tl := rfl
@[simp] theorem Dev.bump_canopy (f : Fld) : (d.bump f).canopy = d.canopy := rfl
@[simp] theorem Dev.bump_plat (f : Fld) : (d.bump f).plat = d.plat := rfl
@[simp] theorem Dev.bump_gv (f : Fld) : (d.bump f).gv = d.gv := rfl
@[simp] theorem Dev.bump_todo (f : Fld) : (d.bump f).todo = d.todo := rfl
@[simp] theorem Dev.bump_chan (f : Fld) : (d.bump f).chan = d.chan := rfl
@[simp] theorem Dev.bump_ports (f : Fld) : (d.bump f).ports = d.ports := rfl
@[simp] theorem Dev.bump_msc (f : Fld) : (d.bump f).msc = d.msc := rfl
@[simp] theorem Dev.bump_msa (f : Fld) : (d.bump f).msa = d.msa := rfl
@[simp] theorem Dev.bump_learnq (f : Fld) : (d.bump f).learnq = d.learnq := rfl
@[simp] theorem Dev.bump_lk (f : Fld) : (d.bump f).lk = d.lk := rfl
@[simp] theorem Dev.bump_sw (f : Fld) : (d.bump f).sw = d.sw := rfl
@[simp] theorem Dev.bump_tm (f : Fld) : (d.bump f).tm = d.tm := rfl
@[simp] theorem Dev.bump_cp (f : Fld) : (d.bump f).cp = d.cp := rfl
@[simp] theorem Dev.bump_slp (f : Fld) : (d.bump f).slp = d.slp := rfl
@[simp] theorem Dev.bump_clr (f : Fld) : (d.bump f).clr = d.clr := rfl
@[simp] theorem Dev.bump_sc (f : Fld) : (d.bump f).sc = d.sc := rfl
@[simp] theorem Dev.bump_sap (f : Fld) : (d.bump f).sap = d.sap := rfl
@[simp] theorem Dev.bump_inject (f : Fld) : (d.bump f).inject = d.inject := rfl
@[simp] theorem Dev.bump_ch (f : Fld) : (d.bump f).ch = d.ch := rfl
@[simp] theorem Dev.bump_mram (f : Fld) : (d.bump f).mram = d.mram := rfl
@[simp] theorem Dev.bump_scrub (f : Fld) : (d.bump f).scrub = d.scrub := rfl

/-! ### Dev.bumpWrap -/

@[simp] theorem Dev.bumpWrap_out (f : Fld) : (d.bumpWrap f).out = d.out := rfl
@[simp] theorem Dev.bumpWrap_freeIx (f : Fld) : (d.bumpWrap f).freeIx = d.freeIx := rfl
@[simp] theorem Dev.bumpWrap_hb (f : Fld) : (d.bumpWrap f).hb = d.hb := rfl
@[simp] theorem Dev.bumpWrap_tl (f : Fld) : (d.bumpWrap f).tl = d.tl := rfl
@[simp] theorem Dev.bumpWrap_canopy (f : Fld) : (d.bumpWrap f).canopy = d.canopy := rfl
@[simp] theorem Dev.bumpWrap_plat (f : Fld) : (d.bumpWrap f).plat = d.plat := rfl
@[simp] theorem Dev.bumpWrap_gv (f : Fld) : (d.bumpWrap f).gv = d.gv := rfl
@[simp] theorem Dev.bumpWrap_todo (f : Fld) : (d.bumpWrap f).todo = d.todo := rfl
@[simp] theorem Dev.bumpWrap_chan (f : Fld) : (d.bumpWrap f).chan = d.chan := rfl
@[simp] theorem Dev.bumpWrap_ports (f : Fld) : (d.bumpWrap f).ports = d.ports := rfl
@[simp] theorem Dev.bumpWrap_msc (f : Fld) : (d.bumpWrap f).msc = d.msc := rfl
@[simp] theorem Dev.bumpWrap_msa (f : Fld) : (d.bumpWrap f).msa = d.msa := rfl
@[simp] theorem Dev.bumpWrap_learnq (f : Fld) : (d.bumpWrap f).learnq = d.learnq := rfl
@[simp] theorem Dev.bumpWrap_lk (f : Fld) : (d.bumpWrap f).lk = d.lk := rfl
@[simp] theorem Dev.bumpWrap_sw (f : Fld) : (d.bumpWrap f).sw = d.sw := rfl
@[simp] theorem Dev.bumpWrap_tm (f : Fld) : (d.bumpWrap f).tm = d.tm := rfl
@[simp] theorem Dev.bumpWrap_cp (f : Fld) : (d.bumpWrap f).cp = d.cp := rfl
@[simp] theorem Dev.bumpWrap_slp (f : Fld) : (d.bumpWrap f).slp = d.slp := rfl
@[simp] theorem Dev.bumpWrap_clr (f : Fld) : (d.bumpWrap f).clr = d.clr := rfl
@[simp] theorem Dev.bumpWrap_sc (f : Fld) : (d.bumpWrap f).sc = d.sc := rfl
@[simp] theorem Dev.bumpWrap_sap (f : Fld) : (d.bumpWrap f).sap = d.sap := rfl
@[simp] theorem Dev.bumpWrap_inject (f : Fld) : (d.bumpWrap f).inject = d.inject := rfl
@[simp] theorem Dev.bumpWrap_ch (f : Fld) : (d.bumpWrap f).ch = d.ch := rfl
@[simp] theorem Dev.bumpWrap_mram (f : Fld) : (d.bumpWrap f).mram = d.mram := rfl
@[simp] theorem Dev.bumpWrap_scrub (f : Fld) : (d.bumpWrap f).scrub = d.scrub := rfl

/-! ### Dev.emit -/

@[simp] theorem Dev.emit_regs (o : Out) : (d.emit o).regs = d.regs := rfl
@[simp] theorem Dev.emit_out (o : Out) : (d.emit o).out = o :: d.out := rfl
@[simp] theorem Dev.emit_freeIx (o : Out) : (d.emit o).freeIx = d.freeIx := rfl
@[simp] theorem Dev.emit_hb (o : Out) : (d.emit o).hb = d.hb := rfl
@[simp] theorem Dev.emit_tl (o : Out) : (d.emit o).tl = d.tl := rfl
@[simp] theorem Dev.emit_canopy (o : Out) : (d.emit o).canopy = d.canopy := rfl
@[simp] theorem Dev.emit_plat (o : Out) : (d.emit o).plat = d.plat := rfl
@[simp] theorem Dev.emit_gv (o : Out) : (d.emit o).gv = d.gv := rfl
@[simp] theorem Dev.emit_todo (o : Out) : (d.emit o).todo = d.todo := rfl
@[simp] theorem Dev.emit_chan (o : Out) : (d.emit o).chan = d.chan := rfl
@[simp] theorem Dev.emit_ports (o : Out) : (d.emit o).ports = d.ports := rfl
@[simp] theorem Dev.emit_msc (o : Out) : (d.emit o).msc = d.msc := rfl
@[simp] theorem Dev.emit_msa (o : Out) : (d.emit o).msa = d.msa := rfl
@[simp] theorem Dev.emit_learnq (o : Out) : (d.emit o).learnq = d.learnq := rfl
@[simp] theorem Dev.emit_lk (o : Out) : (d.emit o).lk = d.lk := rfl
@[simp] theorem Dev.emit_sw (o : Out) : (d.emit o).sw = d.sw := rfl
@[simp] theorem Dev.emit_tm (o : Out) : (d.emit o).tm = d.tm := rfl
@[simp] theorem Dev.emit_cp (o : Out) : (d.emit o).cp = d.cp := rfl
@[simp] theorem Dev.emit_slp (o : Out) : (d.emit o).slp = d.slp := rfl
@[simp] theorem Dev.emit_clr (o : Out) : (d.emit o).clr = d.clr := rfl
@[simp] theorem Dev.emit_sc (o : Out) : (d.emit o).sc = d.sc := rfl
@[simp] theorem Dev.emit_sap (o : Out) : (d.emit o).sap = d.sap := rfl
@[simp] theorem Dev.emit_inject (o : Out) : (d.emit o).inject = d.inject := rfl
@[simp] theorem Dev.emit_ch (o : Out) : (d.emit o).ch = d.ch := rfl
@[simp] theorem Dev.emit_mram (o : Out) : (d.emit o).mram = d.mram := rfl
@[simp] theorem Dev.emit_scrub (o : Out) : (d.emit o).scrub = d.scrub := rfl
@[simp] theorem Dev.emit_word (o : Out) (x : Nat) : (d.emit o).word x = d.word x := rfl
@[simp] theorem Dev.emit_get (o : Out) (x : Fld) : (d.emit o).get x = d.get x := rfl
@[simp] theorem Dev.emit_flag (o : Out) (x : Fld) : (d.emit o).flag x = d.flag x := rfl

/-! ### Dev.owe -/

@[simp] theorem Dev.owe_regs (r : Req) : (d.owe r).regs = d.regs := rfl
@[simp] theorem Dev.owe_out (r : Req) : (d.owe r).out = d.out := rfl
@[simp] theorem Dev.owe_freeIx (r : Req) : (d.owe r).freeIx = d.freeIx := rfl
@[simp] theorem Dev.owe_hb (r : Req) : (d.owe r).hb = d.hb := rfl
@[simp] theorem Dev.owe_tl (r : Req) : (d.owe r).tl = d.tl := rfl
@[simp] theorem Dev.owe_canopy (r : Req) : (d.owe r).canopy = d.canopy := rfl
@[simp] theorem Dev.owe_plat (r : Req) : (d.owe r).plat = d.plat := rfl
@[simp] theorem Dev.owe_gv (r : Req) : (d.owe r).gv = d.gv := rfl
@[simp] theorem Dev.owe_todo (r : Req) : (d.owe r).todo = d.todo ++ [r] := rfl
@[simp] theorem Dev.owe_chan (r : Req) : (d.owe r).chan = d.chan := rfl
@[simp] theorem Dev.owe_ports (r : Req) : (d.owe r).ports = d.ports := rfl
@[simp] theorem Dev.owe_msc (r : Req) : (d.owe r).msc = d.msc := rfl
@[simp] theorem Dev.owe_msa (r : Req) : (d.owe r).msa = d.msa := rfl
@[simp] theorem Dev.owe_learnq (r : Req) : (d.owe r).learnq = d.learnq := rfl
@[simp] theorem Dev.owe_lk (r : Req) : (d.owe r).lk = d.lk := rfl
@[simp] theorem Dev.owe_sw (r : Req) : (d.owe r).sw = d.sw := rfl
@[simp] theorem Dev.owe_tm (r : Req) : (d.owe r).tm = d.tm := rfl
@[simp] theorem Dev.owe_cp (r : Req) : (d.owe r).cp = d.cp := rfl
@[simp] theorem Dev.owe_slp (r : Req) : (d.owe r).slp = d.slp := rfl
@[simp] theorem Dev.owe_clr (r : Req) : (d.owe r).clr = d.clr := rfl
@[simp] theorem Dev.owe_sc (r : Req) : (d.owe r).sc = d.sc := rfl
@[simp] theorem Dev.owe_sap (r : Req) : (d.owe r).sap = d.sap := rfl
@[simp] theorem Dev.owe_inject (r : Req) : (d.owe r).inject = d.inject := rfl
@[simp] theorem Dev.owe_ch (r : Req) : (d.owe r).ch = d.ch := rfl
@[simp] theorem Dev.owe_mram (r : Req) : (d.owe r).mram = d.mram := rfl
@[simp] theorem Dev.owe_scrub (r : Req) : (d.owe r).scrub = d.scrub := rfl
@[simp] theorem Dev.owe_word (r : Req) (x : Nat) : (d.owe r).word x = d.word x := rfl
@[simp] theorem Dev.owe_get (r : Req) (x : Fld) : (d.owe r).get x = d.get x := rfl
@[simp] theorem Dev.owe_flag (r : Req) (x : Fld) : (d.owe r).flag x = d.flag x := rfl

/-! ### Dev.report -/

@[simp] theorem Dev.report_regs (source data : Nat) : (d.report source data).regs = d.regs := rfl
@[simp] theorem Dev.report_out (source data : Nat) : (d.report source data).out = d.out := rfl
@[simp] theorem Dev.report_freeIx (source data : Nat) : (d.report source data).freeIx = d.freeIx := rfl
@[simp] theorem Dev.report_hb (source data : Nat) : (d.report source data).hb = d.hb := rfl
@[simp] theorem Dev.report_tl (source data : Nat) : (d.report source data).tl = d.tl := rfl
@[simp] theorem Dev.report_canopy (source data : Nat) : (d.report source data).canopy = d.canopy := rfl
@[simp] theorem Dev.report_plat (source data : Nat) : (d.report source data).plat = d.plat := rfl
@[simp] theorem Dev.report_gv (source data : Nat) : (d.report source data).gv = d.gv := rfl
@[simp] theorem Dev.report_todo (source data : Nat) : (d.report source data).todo = d.todo ++ [.fault source data] := rfl
@[simp] theorem Dev.report_chan (source data : Nat) : (d.report source data).chan = d.chan := rfl
@[simp] theorem Dev.report_ports (source data : Nat) : (d.report source data).ports = d.ports := rfl
@[simp] theorem Dev.report_msc (source data : Nat) : (d.report source data).msc = d.msc := rfl
@[simp] theorem Dev.report_msa (source data : Nat) : (d.report source data).msa = d.msa := rfl
@[simp] theorem Dev.report_learnq (source data : Nat) : (d.report source data).learnq = d.learnq := rfl
@[simp] theorem Dev.report_lk (source data : Nat) : (d.report source data).lk = d.lk := rfl
@[simp] theorem Dev.report_sw (source data : Nat) : (d.report source data).sw = d.sw := rfl
@[simp] theorem Dev.report_tm (source data : Nat) : (d.report source data).tm = d.tm := rfl
@[simp] theorem Dev.report_cp (source data : Nat) : (d.report source data).cp = d.cp := rfl
@[simp] theorem Dev.report_slp (source data : Nat) : (d.report source data).slp = d.slp := rfl
@[simp] theorem Dev.report_clr (source data : Nat) : (d.report source data).clr = d.clr := rfl
@[simp] theorem Dev.report_sc (source data : Nat) : (d.report source data).sc = d.sc := rfl
@[simp] theorem Dev.report_sap (source data : Nat) : (d.report source data).sap = d.sap := rfl
@[simp] theorem Dev.report_inject (source data : Nat) : (d.report source data).inject = d.inject := rfl
@[simp] theorem Dev.report_ch (source data : Nat) : (d.report source data).ch = d.ch := rfl
@[simp] theorem Dev.report_mram (source data : Nat) : (d.report source data).mram = d.mram := rfl
@[simp] theorem Dev.report_scrub (source data : Nat) : (d.report source data).scrub = d.scrub := rfl
@[simp] theorem Dev.report_word (source data : Nat) (x : Nat) : (d.report source data).word x = d.word x := rfl
@[simp] theorem Dev.report_get (source data : Nat) (x : Fld) : (d.report source data).get x = d.get x := rfl
@[simp] theorem Dev.report_flag (source data : Nat) (x : Fld) : (d.report source data).flag x = d.flag x := rfl

/-! ### Dev.modPlat -/

@[simp] theorem Dev.modPlat_regs (f : PlatSt → PlatSt) : (d.modPlat f).regs = d.regs := rfl
@[simp] theorem Dev.modPlat_out (f : PlatSt → PlatSt) : (d.modPlat f).out = d.out := rfl
@[simp] theorem Dev.modPlat_freeIx (f : PlatSt → PlatSt) : (d.modPlat f).freeIx = d.freeIx := rfl
@[simp] theorem Dev.modPlat_hb (f : PlatSt → PlatSt) : (d.modPlat f).hb = d.hb := rfl
@[simp] theorem Dev.modPlat_tl (f : PlatSt → PlatSt) : (d.modPlat f).tl = d.tl := rfl
@[simp] theorem Dev.modPlat_canopy (f : PlatSt → PlatSt) : (d.modPlat f).canopy = d.canopy := rfl
@[simp] theorem Dev.modPlat_plat (f : PlatSt → PlatSt) : (d.modPlat f).plat = f d.plat := rfl
@[simp] theorem Dev.modPlat_gv (f : PlatSt → PlatSt) : (d.modPlat f).gv = d.gv := rfl
@[simp] theorem Dev.modPlat_todo (f : PlatSt → PlatSt) : (d.modPlat f).todo = d.todo := rfl
@[simp] theorem Dev.modPlat_chan (f : PlatSt → PlatSt) : (d.modPlat f).chan = d.chan := rfl
@[simp] theorem Dev.modPlat_ports (f : PlatSt → PlatSt) : (d.modPlat f).ports = d.ports := rfl
@[simp] theorem Dev.modPlat_msc (f : PlatSt → PlatSt) : (d.modPlat f).msc = d.msc := rfl
@[simp] theorem Dev.modPlat_msa (f : PlatSt → PlatSt) : (d.modPlat f).msa = d.msa := rfl
@[simp] theorem Dev.modPlat_learnq (f : PlatSt → PlatSt) : (d.modPlat f).learnq = d.learnq := rfl
@[simp] theorem Dev.modPlat_lk (f : PlatSt → PlatSt) : (d.modPlat f).lk = d.lk := rfl
@[simp] theorem Dev.modPlat_sw (f : PlatSt → PlatSt) : (d.modPlat f).sw = d.sw := rfl
@[simp] theorem Dev.modPlat_tm (f : PlatSt → PlatSt) : (d.modPlat f).tm = d.tm := rfl
@[simp] theorem Dev.modPlat_cp (f : PlatSt → PlatSt) : (d.modPlat f).cp = d.cp := rfl
@[simp] theorem Dev.modPlat_slp (f : PlatSt → PlatSt) : (d.modPlat f).slp = d.slp := rfl
@[simp] theorem Dev.modPlat_clr (f : PlatSt → PlatSt) : (d.modPlat f).clr = d.clr := rfl
@[simp] theorem Dev.modPlat_sc (f : PlatSt → PlatSt) : (d.modPlat f).sc = d.sc := rfl
@[simp] theorem Dev.modPlat_sap (f : PlatSt → PlatSt) : (d.modPlat f).sap = d.sap := rfl
@[simp] theorem Dev.modPlat_inject (f : PlatSt → PlatSt) : (d.modPlat f).inject = d.inject := rfl
@[simp] theorem Dev.modPlat_ch (f : PlatSt → PlatSt) : (d.modPlat f).ch = d.ch := rfl
@[simp] theorem Dev.modPlat_mram (f : PlatSt → PlatSt) : (d.modPlat f).mram = d.mram := rfl
@[simp] theorem Dev.modPlat_scrub (f : PlatSt → PlatSt) : (d.modPlat f).scrub = d.scrub := rfl
@[simp] theorem Dev.modPlat_word (f : PlatSt → PlatSt) (x : Nat) : (d.modPlat f).word x = d.word x := rfl
@[simp] theorem Dev.modPlat_get (f : PlatSt → PlatSt) (x : Fld) : (d.modPlat f).get x = d.get x := rfl
@[simp] theorem Dev.modPlat_flag (f : PlatSt → PlatSt) (x : Fld) : (d.modPlat f).flag x = d.flag x := rfl

/-! ### Dev.modSc -/

@[simp] theorem Dev.modSc_regs (f : ScSt → ScSt) : (d.modSc f).regs = d.regs := rfl
@[simp] theorem Dev.modSc_out (f : ScSt → ScSt) : (d.modSc f).out = d.out := rfl
@[simp] theorem Dev.modSc_freeIx (f : ScSt → ScSt) : (d.modSc f).freeIx = d.freeIx := rfl
@[simp] theorem Dev.modSc_hb (f : ScSt → ScSt) : (d.modSc f).hb = d.hb := rfl
@[simp] theorem Dev.modSc_tl (f : ScSt → ScSt) : (d.modSc f).tl = d.tl := rfl
@[simp] theorem Dev.modSc_canopy (f : ScSt → ScSt) : (d.modSc f).canopy = d.canopy := rfl
@[simp] theorem Dev.modSc_plat (f : ScSt → ScSt) : (d.modSc f).plat = d.plat := rfl
@[simp] theorem Dev.modSc_gv (f : ScSt → ScSt) : (d.modSc f).gv = d.gv := rfl
@[simp] theorem Dev.modSc_todo (f : ScSt → ScSt) : (d.modSc f).todo = d.todo := rfl
@[simp] theorem Dev.modSc_chan (f : ScSt → ScSt) : (d.modSc f).chan = d.chan := rfl
@[simp] theorem Dev.modSc_ports (f : ScSt → ScSt) : (d.modSc f).ports = d.ports := rfl
@[simp] theorem Dev.modSc_msc (f : ScSt → ScSt) : (d.modSc f).msc = d.msc := rfl
@[simp] theorem Dev.modSc_msa (f : ScSt → ScSt) : (d.modSc f).msa = d.msa := rfl
@[simp] theorem Dev.modSc_learnq (f : ScSt → ScSt) : (d.modSc f).learnq = d.learnq := rfl
@[simp] theorem Dev.modSc_lk (f : ScSt → ScSt) : (d.modSc f).lk = d.lk := rfl
@[simp] theorem Dev.modSc_sw (f : ScSt → ScSt) : (d.modSc f).sw = d.sw := rfl
@[simp] theorem Dev.modSc_tm (f : ScSt → ScSt) : (d.modSc f).tm = d.tm := rfl
@[simp] theorem Dev.modSc_cp (f : ScSt → ScSt) : (d.modSc f).cp = d.cp := rfl
@[simp] theorem Dev.modSc_slp (f : ScSt → ScSt) : (d.modSc f).slp = d.slp := rfl
@[simp] theorem Dev.modSc_clr (f : ScSt → ScSt) : (d.modSc f).clr = d.clr := rfl
@[simp] theorem Dev.modSc_sc (f : ScSt → ScSt) : (d.modSc f).sc = f d.sc := rfl
@[simp] theorem Dev.modSc_sap (f : ScSt → ScSt) : (d.modSc f).sap = d.sap := rfl
@[simp] theorem Dev.modSc_inject (f : ScSt → ScSt) : (d.modSc f).inject = d.inject := rfl
@[simp] theorem Dev.modSc_ch (f : ScSt → ScSt) : (d.modSc f).ch = d.ch := rfl
@[simp] theorem Dev.modSc_mram (f : ScSt → ScSt) : (d.modSc f).mram = d.mram := rfl
@[simp] theorem Dev.modSc_scrub (f : ScSt → ScSt) : (d.modSc f).scrub = d.scrub := rfl
@[simp] theorem Dev.modSc_word (f : ScSt → ScSt) (x : Nat) : (d.modSc f).word x = d.word x := rfl
@[simp] theorem Dev.modSc_get (f : ScSt → ScSt) (x : Fld) : (d.modSc f).get x = d.get x := rfl
@[simp] theorem Dev.modSc_flag (f : ScSt → ScSt) (x : Fld) : (d.modSc f).flag x = d.flag x := rfl

/-! ### Dev.modSap -/

@[simp] theorem Dev.modSap_regs (f : SapSt → SapSt) : (d.modSap f).regs = d.regs := rfl
@[simp] theorem Dev.modSap_out (f : SapSt → SapSt) : (d.modSap f).out = d.out := rfl
@[simp] theorem Dev.modSap_freeIx (f : SapSt → SapSt) : (d.modSap f).freeIx = d.freeIx := rfl
@[simp] theorem Dev.modSap_hb (f : SapSt → SapSt) : (d.modSap f).hb = d.hb := rfl
@[simp] theorem Dev.modSap_tl (f : SapSt → SapSt) : (d.modSap f).tl = d.tl := rfl
@[simp] theorem Dev.modSap_canopy (f : SapSt → SapSt) : (d.modSap f).canopy = d.canopy := rfl
@[simp] theorem Dev.modSap_plat (f : SapSt → SapSt) : (d.modSap f).plat = d.plat := rfl
@[simp] theorem Dev.modSap_gv (f : SapSt → SapSt) : (d.modSap f).gv = d.gv := rfl
@[simp] theorem Dev.modSap_todo (f : SapSt → SapSt) : (d.modSap f).todo = d.todo := rfl
@[simp] theorem Dev.modSap_chan (f : SapSt → SapSt) : (d.modSap f).chan = d.chan := rfl
@[simp] theorem Dev.modSap_ports (f : SapSt → SapSt) : (d.modSap f).ports = d.ports := rfl
@[simp] theorem Dev.modSap_msc (f : SapSt → SapSt) : (d.modSap f).msc = d.msc := rfl
@[simp] theorem Dev.modSap_msa (f : SapSt → SapSt) : (d.modSap f).msa = d.msa := rfl
@[simp] theorem Dev.modSap_learnq (f : SapSt → SapSt) : (d.modSap f).learnq = d.learnq := rfl
@[simp] theorem Dev.modSap_lk (f : SapSt → SapSt) : (d.modSap f).lk = d.lk := rfl
@[simp] theorem Dev.modSap_sw (f : SapSt → SapSt) : (d.modSap f).sw = d.sw := rfl
@[simp] theorem Dev.modSap_tm (f : SapSt → SapSt) : (d.modSap f).tm = d.tm := rfl
@[simp] theorem Dev.modSap_cp (f : SapSt → SapSt) : (d.modSap f).cp = d.cp := rfl
@[simp] theorem Dev.modSap_slp (f : SapSt → SapSt) : (d.modSap f).slp = d.slp := rfl
@[simp] theorem Dev.modSap_clr (f : SapSt → SapSt) : (d.modSap f).clr = d.clr := rfl
@[simp] theorem Dev.modSap_sc (f : SapSt → SapSt) : (d.modSap f).sc = d.sc := rfl
@[simp] theorem Dev.modSap_sap (f : SapSt → SapSt) : (d.modSap f).sap = f d.sap := rfl
@[simp] theorem Dev.modSap_inject (f : SapSt → SapSt) : (d.modSap f).inject = d.inject := rfl
@[simp] theorem Dev.modSap_ch (f : SapSt → SapSt) : (d.modSap f).ch = d.ch := rfl
@[simp] theorem Dev.modSap_mram (f : SapSt → SapSt) : (d.modSap f).mram = d.mram := rfl
@[simp] theorem Dev.modSap_scrub (f : SapSt → SapSt) : (d.modSap f).scrub = d.scrub := rfl
@[simp] theorem Dev.modSap_word (f : SapSt → SapSt) (x : Nat) : (d.modSap f).word x = d.word x := rfl
@[simp] theorem Dev.modSap_get (f : SapSt → SapSt) (x : Fld) : (d.modSap f).get x = d.get x := rfl
@[simp] theorem Dev.modSap_flag (f : SapSt → SapSt) (x : Fld) : (d.modSap f).flag x = d.flag x := rfl

/-! ### Dev.modClr -/

@[simp] theorem Dev.modClr_regs (f : ClrSt → ClrSt) : (d.modClr f).regs = d.regs := rfl
@[simp] theorem Dev.modClr_out (f : ClrSt → ClrSt) : (d.modClr f).out = d.out := rfl
@[simp] theorem Dev.modClr_freeIx (f : ClrSt → ClrSt) : (d.modClr f).freeIx = d.freeIx := rfl
@[simp] theorem Dev.modClr_hb (f : ClrSt → ClrSt) : (d.modClr f).hb = d.hb := rfl
@[simp] theorem Dev.modClr_tl (f : ClrSt → ClrSt) : (d.modClr f).tl = d.tl := rfl
@[simp] theorem Dev.modClr_canopy (f : ClrSt → ClrSt) : (d.modClr f).canopy = d.canopy := rfl
@[simp] theorem Dev.modClr_plat (f : ClrSt → ClrSt) : (d.modClr f).plat = d.plat := rfl
@[simp] theorem Dev.modClr_gv (f : ClrSt → ClrSt) : (d.modClr f).gv = d.gv := rfl
@[simp] theorem Dev.modClr_todo (f : ClrSt → ClrSt) : (d.modClr f).todo = d.todo := rfl
@[simp] theorem Dev.modClr_chan (f : ClrSt → ClrSt) : (d.modClr f).chan = d.chan := rfl
@[simp] theorem Dev.modClr_ports (f : ClrSt → ClrSt) : (d.modClr f).ports = d.ports := rfl
@[simp] theorem Dev.modClr_msc (f : ClrSt → ClrSt) : (d.modClr f).msc = d.msc := rfl
@[simp] theorem Dev.modClr_msa (f : ClrSt → ClrSt) : (d.modClr f).msa = d.msa := rfl
@[simp] theorem Dev.modClr_learnq (f : ClrSt → ClrSt) : (d.modClr f).learnq = d.learnq := rfl
@[simp] theorem Dev.modClr_lk (f : ClrSt → ClrSt) : (d.modClr f).lk = d.lk := rfl
@[simp] theorem Dev.modClr_sw (f : ClrSt → ClrSt) : (d.modClr f).sw = d.sw := rfl
@[simp] theorem Dev.modClr_tm (f : ClrSt → ClrSt) : (d.modClr f).tm = d.tm := rfl
@[simp] theorem Dev.modClr_cp (f : ClrSt → ClrSt) : (d.modClr f).cp = d.cp := rfl
@[simp] theorem Dev.modClr_slp (f : ClrSt → ClrSt) : (d.modClr f).slp = d.slp := rfl
@[simp] theorem Dev.modClr_clr (f : ClrSt → ClrSt) : (d.modClr f).clr = f d.clr := rfl
@[simp] theorem Dev.modClr_sc (f : ClrSt → ClrSt) : (d.modClr f).sc = d.sc := rfl
@[simp] theorem Dev.modClr_sap (f : ClrSt → ClrSt) : (d.modClr f).sap = d.sap := rfl
@[simp] theorem Dev.modClr_inject (f : ClrSt → ClrSt) : (d.modClr f).inject = d.inject := rfl
@[simp] theorem Dev.modClr_ch (f : ClrSt → ClrSt) : (d.modClr f).ch = d.ch := rfl
@[simp] theorem Dev.modClr_mram (f : ClrSt → ClrSt) : (d.modClr f).mram = d.mram := rfl
@[simp] theorem Dev.modClr_scrub (f : ClrSt → ClrSt) : (d.modClr f).scrub = d.scrub := rfl
@[simp] theorem Dev.modClr_word (f : ClrSt → ClrSt) (x : Nat) : (d.modClr f).word x = d.word x := rfl
@[simp] theorem Dev.modClr_get (f : ClrSt → ClrSt) (x : Fld) : (d.modClr f).get x = d.get x := rfl
@[simp] theorem Dev.modClr_flag (f : ClrSt → ClrSt) (x : Fld) : (d.modClr f).flag x = d.flag x := rfl

/-! ### Dev.setThr -/

@[simp] theorem Dev.setThr_regs (t : Nat) (c : ThreadCtx) : (d.setThr t c).regs = d.regs := rfl
@[simp] theorem Dev.setThr_out (t : Nat) (c : ThreadCtx) : (d.setThr t c).out = d.out := rfl
@[simp] theorem Dev.setThr_freeIx (t : Nat) (c : ThreadCtx) : (d.setThr t c).freeIx = d.freeIx := rfl
@[simp] theorem Dev.setThr_hb (t : Nat) (c : ThreadCtx) : (d.setThr t c).hb = d.hb := rfl
@[simp] theorem Dev.setThr_tl (t : Nat) (c : ThreadCtx) : (d.setThr t c).tl = d.tl := rfl
@[simp] theorem Dev.setThr_canopy (t : Nat) (c : ThreadCtx) : (d.setThr t c).canopy = d.canopy := rfl
@[simp] theorem Dev.setThr_plat (t : Nat) (c : ThreadCtx) : (d.setThr t c).plat = d.plat := rfl
@[simp] theorem Dev.setThr_todo (t : Nat) (c : ThreadCtx) : (d.setThr t c).todo = d.todo := rfl
@[simp] theorem Dev.setThr_chan (t : Nat) (c : ThreadCtx) : (d.setThr t c).chan = d.chan := rfl
@[simp] theorem Dev.setThr_ports (t : Nat) (c : ThreadCtx) : (d.setThr t c).ports = d.ports := rfl
@[simp] theorem Dev.setThr_msc (t : Nat) (c : ThreadCtx) : (d.setThr t c).msc = d.msc := rfl
@[simp] theorem Dev.setThr_msa (t : Nat) (c : ThreadCtx) : (d.setThr t c).msa = d.msa := rfl
@[simp] theorem Dev.setThr_learnq (t : Nat) (c : ThreadCtx) : (d.setThr t c).learnq = d.learnq := rfl
@[simp] theorem Dev.setThr_lk (t : Nat) (c : ThreadCtx) : (d.setThr t c).lk = d.lk := rfl
@[simp] theorem Dev.setThr_sw (t : Nat) (c : ThreadCtx) : (d.setThr t c).sw = d.sw := rfl
@[simp] theorem Dev.setThr_tm (t : Nat) (c : ThreadCtx) : (d.setThr t c).tm = d.tm := rfl
@[simp] theorem Dev.setThr_cp (t : Nat) (c : ThreadCtx) : (d.setThr t c).cp = d.cp := rfl
@[simp] theorem Dev.setThr_slp (t : Nat) (c : ThreadCtx) : (d.setThr t c).slp = d.slp := rfl
@[simp] theorem Dev.setThr_clr (t : Nat) (c : ThreadCtx) : (d.setThr t c).clr = d.clr := rfl
@[simp] theorem Dev.setThr_sc (t : Nat) (c : ThreadCtx) : (d.setThr t c).sc = d.sc := rfl
@[simp] theorem Dev.setThr_sap (t : Nat) (c : ThreadCtx) : (d.setThr t c).sap = d.sap := rfl
@[simp] theorem Dev.setThr_inject (t : Nat) (c : ThreadCtx) : (d.setThr t c).inject = d.inject := rfl
@[simp] theorem Dev.setThr_ch (t : Nat) (c : ThreadCtx) : (d.setThr t c).ch = d.ch := rfl
@[simp] theorem Dev.setThr_mram (t : Nat) (c : ThreadCtx) : (d.setThr t c).mram = d.mram := rfl
@[simp] theorem Dev.setThr_scrub (t : Nat) (c : ThreadCtx) : (d.setThr t c).scrub = d.scrub := rfl
@[simp] theorem Dev.setThr_word (t : Nat) (c : ThreadCtx) (x : Nat) : (d.setThr t c).word x = d.word x := rfl
@[simp] theorem Dev.setThr_get (t : Nat) (c : ThreadCtx) (x : Fld) : (d.setThr t c).get x = d.get x := rfl
@[simp] theorem Dev.setThr_flag (t : Nat) (c : ThreadCtx) (x : Fld) : (d.setThr t c).flag x = d.flag x := rfl

/-! ### Dev.modThr -/

@[simp] theorem Dev.modThr_regs (t : Nat) (f : ThreadCtx → ThreadCtx) : (d.modThr t f).regs = d.regs := rfl
@[simp] theorem Dev.modThr_out (t : Nat) (f : ThreadCtx → ThreadCtx) : (d.modThr t f).out = d.out := rfl
@[simp] theorem Dev.modThr_freeIx (t : Nat) (f : ThreadCtx → ThreadCtx) : (d.modThr t f).freeIx = d.freeIx := rfl
@[simp] theorem Dev.modThr_hb (t : Nat) (f : ThreadCtx → ThreadCtx) : (d.modThr t f).hb = d.hb := rfl
@[simp] theorem Dev.modThr_tl (t : Nat) (f : ThreadCtx → ThreadCtx) : (d.modThr t f).tl = d.tl := rfl
@[simp] theorem Dev.modThr_canopy (t : Nat) (f : ThreadCtx → ThreadCtx) : (d.modThr t f).canopy = d.canopy := rfl
@[simp] theorem Dev.modThr_plat (t : Nat) (f : ThreadCtx → ThreadCtx) : (d.modThr t f).plat = d.plat := rfl
@[simp] theorem Dev.modThr_todo (t : Nat) (f : ThreadCtx → ThreadCtx) : (d.modThr t f).todo = d.todo := rfl
@[simp] theorem Dev.modThr_chan (t : Nat) (f : ThreadCtx → ThreadCtx) : (d.modThr t f).chan = d.chan := rfl
@[simp] theorem Dev.modThr_ports (t : Nat) (f : ThreadCtx → ThreadCtx) : (d.modThr t f).ports = d.ports := rfl
@[simp] theorem Dev.modThr_msc (t : Nat) (f : ThreadCtx → ThreadCtx) : (d.modThr t f).msc = d.msc := rfl
@[simp] theorem Dev.modThr_msa (t : Nat) (f : ThreadCtx → ThreadCtx) : (d.modThr t f).msa = d.msa := rfl
@[simp] theorem Dev.modThr_learnq (t : Nat) (f : ThreadCtx → ThreadCtx) : (d.modThr t f).learnq = d.learnq := rfl
@[simp] theorem Dev.modThr_lk (t : Nat) (f : ThreadCtx → ThreadCtx) : (d.modThr t f).lk = d.lk := rfl
@[simp] theorem Dev.modThr_sw (t : Nat) (f : ThreadCtx → ThreadCtx) : (d.modThr t f).sw = d.sw := rfl
@[simp] theorem Dev.modThr_tm (t : Nat) (f : ThreadCtx → ThreadCtx) : (d.modThr t f).tm = d.tm := rfl
@[simp] theorem Dev.modThr_cp (t : Nat) (f : ThreadCtx → ThreadCtx) : (d.modThr t f).cp = d.cp := rfl
@[simp] theorem Dev.modThr_slp (t : Nat) (f : ThreadCtx → ThreadCtx) : (d.modThr t f).slp = d.slp := rfl
@[simp] theorem Dev.modThr_clr (t : Nat) (f : ThreadCtx → ThreadCtx) : (d.modThr t f).clr = d.clr := rfl
@[simp] theorem Dev.modThr_sc (t : Nat) (f : ThreadCtx → ThreadCtx) : (d.modThr t f).sc = d.sc := rfl
@[simp] theorem Dev.modThr_sap (t : Nat) (f : ThreadCtx → ThreadCtx) : (d.modThr t f).sap = d.sap := rfl
@[simp] theorem Dev.modThr_inject (t : Nat) (f : ThreadCtx → ThreadCtx) : (d.modThr t f).inject = d.inject := rfl
@[simp] theorem Dev.modThr_ch (t : Nat) (f : ThreadCtx → ThreadCtx) : (d.modThr t f).ch = d.ch := rfl
@[simp] theorem Dev.modThr_mram (t : Nat) (f : ThreadCtx → ThreadCtx) : (d.modThr t f).mram = d.mram := rfl
@[simp] theorem Dev.modThr_scrub (t : Nat) (f : ThreadCtx → ThreadCtx) : (d.modThr t f).scrub = d.scrub := rfl
@[simp] theorem Dev.modThr_word (t : Nat) (f : ThreadCtx → ThreadCtx) (x : Nat) : (d.modThr t f).word x = d.word x := rfl
@[simp] theorem Dev.modThr_get (t : Nat) (f : ThreadCtx → ThreadCtx) (x : Fld) : (d.modThr t f).get x = d.get x := rfl
@[simp] theorem Dev.modThr_flag (t : Nat) (f : ThreadCtx → ThreadCtx) (x : Fld) : (d.modThr t f).flag x = d.flag x := rfl

/-! ### Dev.setPdu -/

@[simp] theorem Dev.setPdu_regs (i : Nat) (e : PduEntry) : (d.setPdu i e).regs = d.regs := rfl
@[simp] theorem Dev.setPdu_out (i : Nat) (e : PduEntry) : (d.setPdu i e).out = d.out := rfl
@[simp] theorem Dev.setPdu_freeIx (i : Nat) (e : PduEntry) : (d.setPdu i e).freeIx = d.freeIx := rfl
@[simp] theorem Dev.setPdu_hb (i : Nat) (e : PduEntry) : (d.setPdu i e).hb = d.hb := rfl
@[simp] theorem Dev.setPdu_tl (i : Nat) (e : PduEntry) : (d.setPdu i e).tl = d.tl := rfl
@[simp] theorem Dev.setPdu_canopy (i : Nat) (e : PduEntry) : (d.setPdu i e).canopy = d.canopy := rfl
@[simp] theorem Dev.setPdu_plat (i : Nat) (e : PduEntry) : (d.setPdu i e).plat = d.plat := rfl
@[simp] theorem Dev.setPdu_todo (i : Nat) (e : PduEntry) : (d.setPdu i e).todo = d.todo := rfl
@[simp] theorem Dev.setPdu_chan (i : Nat) (e : PduEntry) : (d.setPdu i e).chan = d.chan := rfl
@[simp] theorem Dev.setPdu_ports (i : Nat) (e : PduEntry) : (d.setPdu i e).ports = d.ports := rfl
@[simp] theorem Dev.setPdu_msc (i : Nat) (e : PduEntry) : (d.setPdu i e).msc = d.msc := rfl
@[simp] theorem Dev.setPdu_msa (i : Nat) (e : PduEntry) : (d.setPdu i e).msa = d.msa := rfl
@[simp] theorem Dev.setPdu_learnq (i : Nat) (e : PduEntry) : (d.setPdu i e).learnq = d.learnq := rfl
@[simp] theorem Dev.setPdu_lk (i : Nat) (e : PduEntry) : (d.setPdu i e).lk = d.lk := rfl
@[simp] theorem Dev.setPdu_sw (i : Nat) (e : PduEntry) : (d.setPdu i e).sw = d.sw := rfl
@[simp] theorem Dev.setPdu_tm (i : Nat) (e : PduEntry) : (d.setPdu i e).tm = d.tm := rfl
@[simp] theorem Dev.setPdu_cp (i : Nat) (e : PduEntry) : (d.setPdu i e).cp = d.cp := rfl
@[simp] theorem Dev.setPdu_slp (i : Nat) (e : PduEntry) : (d.setPdu i e).slp = d.slp := rfl
@[simp] theorem Dev.setPdu_clr (i : Nat) (e : PduEntry) : (d.setPdu i e).clr = d.clr := rfl
@[simp] theorem Dev.setPdu_sc (i : Nat) (e : PduEntry) : (d.setPdu i e).sc = d.sc := rfl
@[simp] theorem Dev.setPdu_sap (i : Nat) (e : PduEntry) : (d.setPdu i e).sap = d.sap := rfl
@[simp] theorem Dev.setPdu_inject (i : Nat) (e : PduEntry) : (d.setPdu i e).inject = d.inject := rfl
@[simp] theorem Dev.setPdu_ch (i : Nat) (e : PduEntry) : (d.setPdu i e).ch = d.ch := rfl
@[simp] theorem Dev.setPdu_mram (i : Nat) (e : PduEntry) : (d.setPdu i e).mram = d.mram := rfl
@[simp] theorem Dev.setPdu_scrub (i : Nat) (e : PduEntry) : (d.setPdu i e).scrub = d.scrub := rfl
@[simp] theorem Dev.setPdu_word (i : Nat) (e : PduEntry) (x : Nat) : (d.setPdu i e).word x = d.word x := rfl
@[simp] theorem Dev.setPdu_get (i : Nat) (e : PduEntry) (x : Fld) : (d.setPdu i e).get x = d.get x := rfl
@[simp] theorem Dev.setPdu_flag (i : Nat) (e : PduEntry) (x : Fld) : (d.setPdu i e).flag x = d.flag x := rfl

/-! ### Dev.modPdu -/

@[simp] theorem Dev.modPdu_regs (i : Nat) (f : PduEntry → PduEntry) : (d.modPdu i f).regs = d.regs := rfl
@[simp] theorem Dev.modPdu_out (i : Nat) (f : PduEntry → PduEntry) : (d.modPdu i f).out = d.out := rfl
@[simp] theorem Dev.modPdu_freeIx (i : Nat) (f : PduEntry → PduEntry) : (d.modPdu i f).freeIx = d.freeIx := rfl
@[simp] theorem Dev.modPdu_hb (i : Nat) (f : PduEntry → PduEntry) : (d.modPdu i f).hb = d.hb := rfl
@[simp] theorem Dev.modPdu_tl (i : Nat) (f : PduEntry → PduEntry) : (d.modPdu i f).tl = d.tl := rfl
@[simp] theorem Dev.modPdu_canopy (i : Nat) (f : PduEntry → PduEntry) : (d.modPdu i f).canopy = d.canopy := rfl
@[simp] theorem Dev.modPdu_plat (i : Nat) (f : PduEntry → PduEntry) : (d.modPdu i f).plat = d.plat := rfl
@[simp] theorem Dev.modPdu_todo (i : Nat) (f : PduEntry → PduEntry) : (d.modPdu i f).todo = d.todo := rfl
@[simp] theorem Dev.modPdu_chan (i : Nat) (f : PduEntry → PduEntry) : (d.modPdu i f).chan = d.chan := rfl
@[simp] theorem Dev.modPdu_ports (i : Nat) (f : PduEntry → PduEntry) : (d.modPdu i f).ports = d.ports := rfl
@[simp] theorem Dev.modPdu_msc (i : Nat) (f : PduEntry → PduEntry) : (d.modPdu i f).msc = d.msc := rfl
@[simp] theorem Dev.modPdu_msa (i : Nat) (f : PduEntry → PduEntry) : (d.modPdu i f).msa = d.msa := rfl
@[simp] theorem Dev.modPdu_learnq (i : Nat) (f : PduEntry → PduEntry) : (d.modPdu i f).learnq = d.learnq := rfl
@[simp] theorem Dev.modPdu_lk (i : Nat) (f : PduEntry → PduEntry) : (d.modPdu i f).lk = d.lk := rfl
@[simp] theorem Dev.modPdu_sw (i : Nat) (f : PduEntry → PduEntry) : (d.modPdu i f).sw = d.sw := rfl
@[simp] theorem Dev.modPdu_tm (i : Nat) (f : PduEntry → PduEntry) : (d.modPdu i f).tm = d.tm := rfl
@[simp] theorem Dev.modPdu_cp (i : Nat) (f : PduEntry → PduEntry) : (d.modPdu i f).cp = d.cp := rfl
@[simp] theorem Dev.modPdu_slp (i : Nat) (f : PduEntry → PduEntry) : (d.modPdu i f).slp = d.slp := rfl
@[simp] theorem Dev.modPdu_clr (i : Nat) (f : PduEntry → PduEntry) : (d.modPdu i f).clr = d.clr := rfl
@[simp] theorem Dev.modPdu_sc (i : Nat) (f : PduEntry → PduEntry) : (d.modPdu i f).sc = d.sc := rfl
@[simp] theorem Dev.modPdu_sap (i : Nat) (f : PduEntry → PduEntry) : (d.modPdu i f).sap = d.sap := rfl
@[simp] theorem Dev.modPdu_inject (i : Nat) (f : PduEntry → PduEntry) : (d.modPdu i f).inject = d.inject := rfl
@[simp] theorem Dev.modPdu_ch (i : Nat) (f : PduEntry → PduEntry) : (d.modPdu i f).ch = d.ch := rfl
@[simp] theorem Dev.modPdu_mram (i : Nat) (f : PduEntry → PduEntry) : (d.modPdu i f).mram = d.mram := rfl
@[simp] theorem Dev.modPdu_scrub (i : Nat) (f : PduEntry → PduEntry) : (d.modPdu i f).scrub = d.scrub := rfl
@[simp] theorem Dev.modPdu_word (i : Nat) (f : PduEntry → PduEntry) (x : Nat) : (d.modPdu i f).word x = d.word x := rfl
@[simp] theorem Dev.modPdu_get (i : Nat) (f : PduEntry → PduEntry) (x : Fld) : (d.modPdu i f).get x = d.get x := rfl
@[simp] theorem Dev.modPdu_flag (i : Nat) (f : PduEntry → PduEntry) (x : Fld) : (d.modPdu i f).flag x = d.flag x := rfl

/-! ### Dev.setSig -/

@[simp] theorem Dev.setSig_regs (k v : Nat) : (d.setSig k v).regs = d.regs := rfl
@[simp] theorem Dev.setSig_out (k v : Nat) : (d.setSig k v).out = d.out := rfl
@[simp] theorem Dev.setSig_freeIx (k v : Nat) : (d.setSig k v).freeIx = d.freeIx := rfl
@[simp] theorem Dev.setSig_hb (k v : Nat) : (d.setSig k v).hb = d.hb := rfl
@[simp] theorem Dev.setSig_tl (k v : Nat) : (d.setSig k v).tl = d.tl := rfl
@[simp] theorem Dev.setSig_canopy (k v : Nat) : (d.setSig k v).canopy = d.canopy := rfl
@[simp] theorem Dev.setSig_plat (k v : Nat) : (d.setSig k v).plat = d.plat := rfl
@[simp] theorem Dev.setSig_todo (k v : Nat) : (d.setSig k v).todo = d.todo := rfl
@[simp] theorem Dev.setSig_chan (k v : Nat) : (d.setSig k v).chan = d.chan := rfl
@[simp] theorem Dev.setSig_ports (k v : Nat) : (d.setSig k v).ports = d.ports := rfl
@[simp] theorem Dev.setSig_msc (k v : Nat) : (d.setSig k v).msc = d.msc := rfl
@[simp] theorem Dev.setSig_msa (k v : Nat) : (d.setSig k v).msa = d.msa := rfl
@[simp] theorem Dev.setSig_learnq (k v : Nat) : (d.setSig k v).learnq = d.learnq := rfl
@[simp] theorem Dev.setSig_lk (k v : Nat) : (d.setSig k v).lk = d.lk := rfl
@[simp] theorem Dev.setSig_sw (k v : Nat) : (d.setSig k v).sw = d.sw := rfl
@[simp] theorem Dev.setSig_tm (k v : Nat) : (d.setSig k v).tm = d.tm := rfl
@[simp] theorem Dev.setSig_cp (k v : Nat) : (d.setSig k v).cp = d.cp := rfl
@[simp] theorem Dev.setSig_slp (k v : Nat) : (d.setSig k v).slp = d.slp := rfl
@[simp] theorem Dev.setSig_clr (k v : Nat) : (d.setSig k v).clr = d.clr := rfl
@[simp] theorem Dev.setSig_sc (k v : Nat) : (d.setSig k v).sc = d.sc := rfl
@[simp] theorem Dev.setSig_sap (k v : Nat) : (d.setSig k v).sap = d.sap := rfl
@[simp] theorem Dev.setSig_inject (k v : Nat) : (d.setSig k v).inject = d.inject := rfl
@[simp] theorem Dev.setSig_ch (k v : Nat) : (d.setSig k v).ch = d.ch := rfl
@[simp] theorem Dev.setSig_mram (k v : Nat) : (d.setSig k v).mram = d.mram := rfl
@[simp] theorem Dev.setSig_scrub (k v : Nat) : (d.setSig k v).scrub = d.scrub := rfl
@[simp] theorem Dev.setSig_word (k v : Nat) (x : Nat) : (d.setSig k v).word x = d.word x := rfl
@[simp] theorem Dev.setSig_get (k v : Nat) (x : Fld) : (d.setSig k v).get x = d.get x := rfl
@[simp] theorem Dev.setSig_flag (k v : Nat) (x : Fld) : (d.setSig k v).flag x = d.flag x := rfl

/-! ### Dev.setQueue -/

@[simp] theorem Dev.setQueue_regs (k : Nat) (q : List GvItem) : (d.setQueue k q).regs = d.regs := rfl
@[simp] theorem Dev.setQueue_out (k : Nat) (q : List GvItem) : (d.setQueue k q).out = d.out := rfl
@[simp] theorem Dev.setQueue_freeIx (k : Nat) (q : List GvItem) : (d.setQueue k q).freeIx = d.freeIx := rfl
@[simp] theorem Dev.setQueue_hb (k : Nat) (q : List GvItem) : (d.setQueue k q).hb = d.hb := rfl
@[simp] theorem Dev.setQueue_tl (k : Nat) (q : List GvItem) : (d.setQueue k q).tl = d.tl := rfl
@[simp] theorem Dev.setQueue_canopy (k : Nat) (q : List GvItem) : (d.setQueue k q).canopy = d.canopy := rfl
@[simp] theorem Dev.setQueue_plat (k : Nat) (q : List GvItem) : (d.setQueue k q).plat = d.plat := rfl
@[simp] theorem Dev.setQueue_todo (k : Nat) (q : List GvItem) : (d.setQueue k q).todo = d.todo := rfl
@[simp] theorem Dev.setQueue_chan (k : Nat) (q : List GvItem) : (d.setQueue k q).chan = d.chan := rfl
@[simp] theorem Dev.setQueue_ports (k : Nat) (q : List GvItem) : (d.setQueue k q).ports = d.ports := rfl
@[simp] theorem Dev.setQueue_msc (k : Nat) (q : List GvItem) : (d.setQueue k q).msc = d.msc := rfl
@[simp] theorem Dev.setQueue_msa (k : Nat) (q : List GvItem) : (d.setQueue k q).msa = d.msa := rfl
@[simp] theorem Dev.setQueue_learnq (k : Nat) (q : List GvItem) : (d.setQueue k q).learnq = d.learnq := rfl
@[simp] theorem Dev.setQueue_lk (k : Nat) (q : List GvItem) : (d.setQueue k q).lk = d.lk := rfl
@[simp] theorem Dev.setQueue_sw (k : Nat) (q : List GvItem) : (d.setQueue k q).sw = d.sw := rfl
@[simp] theorem Dev.setQueue_tm (k : Nat) (q : List GvItem) : (d.setQueue k q).tm = d.tm := rfl
@[simp] theorem Dev.setQueue_cp (k : Nat) (q : List GvItem) : (d.setQueue k q).cp = d.cp := rfl
@[simp] theorem Dev.setQueue_slp (k : Nat) (q : List GvItem) : (d.setQueue k q).slp = d.slp := rfl
@[simp] theorem Dev.setQueue_clr (k : Nat) (q : List GvItem) : (d.setQueue k q).clr = d.clr := rfl
@[simp] theorem Dev.setQueue_sc (k : Nat) (q : List GvItem) : (d.setQueue k q).sc = d.sc := rfl
@[simp] theorem Dev.setQueue_sap (k : Nat) (q : List GvItem) : (d.setQueue k q).sap = d.sap := rfl
@[simp] theorem Dev.setQueue_inject (k : Nat) (q : List GvItem) : (d.setQueue k q).inject = d.inject := rfl
@[simp] theorem Dev.setQueue_ch (k : Nat) (q : List GvItem) : (d.setQueue k q).ch = d.ch := rfl
@[simp] theorem Dev.setQueue_mram (k : Nat) (q : List GvItem) : (d.setQueue k q).mram = d.mram := rfl
@[simp] theorem Dev.setQueue_scrub (k : Nat) (q : List GvItem) : (d.setQueue k q).scrub = d.scrub := rfl
@[simp] theorem Dev.setQueue_word (k : Nat) (q : List GvItem) (x : Nat) : (d.setQueue k q).word x = d.word x := rfl
@[simp] theorem Dev.setQueue_get (k : Nat) (q : List GvItem) (x : Fld) : (d.setQueue k q).get x = d.get x := rfl
@[simp] theorem Dev.setQueue_flag (k : Nat) (q : List GvItem) (x : Fld) : (d.setQueue k q).flag x = d.flag x := rfl

/-! ### Dev.modInst -/

@[simp] theorem Dev.modInst_regs (t : Nat) (f : Instance → Instance) : (d.modInst t f).regs = d.regs := rfl
@[simp] theorem Dev.modInst_out (t : Nat) (f : Instance → Instance) : (d.modInst t f).out = d.out := rfl
@[simp] theorem Dev.modInst_freeIx (t : Nat) (f : Instance → Instance) : (d.modInst t f).freeIx = d.freeIx := rfl
@[simp] theorem Dev.modInst_hb (t : Nat) (f : Instance → Instance) : (d.modInst t f).hb = d.hb := rfl
@[simp] theorem Dev.modInst_tl (t : Nat) (f : Instance → Instance) : (d.modInst t f).tl = d.tl := rfl
@[simp] theorem Dev.modInst_canopy (t : Nat) (f : Instance → Instance) : (d.modInst t f).canopy = d.canopy := rfl
@[simp] theorem Dev.modInst_plat (t : Nat) (f : Instance → Instance) : (d.modInst t f).plat = d.plat := rfl
@[simp] theorem Dev.modInst_todo (t : Nat) (f : Instance → Instance) : (d.modInst t f).todo = d.todo := rfl
@[simp] theorem Dev.modInst_chan (t : Nat) (f : Instance → Instance) : (d.modInst t f).chan = d.chan := rfl
@[simp] theorem Dev.modInst_ports (t : Nat) (f : Instance → Instance) : (d.modInst t f).ports = d.ports := rfl
@[simp] theorem Dev.modInst_msc (t : Nat) (f : Instance → Instance) : (d.modInst t f).msc = d.msc := rfl
@[simp] theorem Dev.modInst_msa (t : Nat) (f : Instance → Instance) : (d.modInst t f).msa = d.msa := rfl
@[simp] theorem Dev.modInst_learnq (t : Nat) (f : Instance → Instance) : (d.modInst t f).learnq = d.learnq := rfl
@[simp] theorem Dev.modInst_lk (t : Nat) (f : Instance → Instance) : (d.modInst t f).lk = d.lk := rfl
@[simp] theorem Dev.modInst_sw (t : Nat) (f : Instance → Instance) : (d.modInst t f).sw = d.sw := rfl
@[simp] theorem Dev.modInst_tm (t : Nat) (f : Instance → Instance) : (d.modInst t f).tm = d.tm := rfl
@[simp] theorem Dev.modInst_cp (t : Nat) (f : Instance → Instance) : (d.modInst t f).cp = d.cp := rfl
@[simp] theorem Dev.modInst_slp (t : Nat) (f : Instance → Instance) : (d.modInst t f).slp = d.slp := rfl
@[simp] theorem Dev.modInst_clr (t : Nat) (f : Instance → Instance) : (d.modInst t f).clr = d.clr := rfl
@[simp] theorem Dev.modInst_sc (t : Nat) (f : Instance → Instance) : (d.modInst t f).sc = d.sc := rfl
@[simp] theorem Dev.modInst_sap (t : Nat) (f : Instance → Instance) : (d.modInst t f).sap = d.sap := rfl
@[simp] theorem Dev.modInst_inject (t : Nat) (f : Instance → Instance) : (d.modInst t f).inject = d.inject := rfl
@[simp] theorem Dev.modInst_ch (t : Nat) (f : Instance → Instance) : (d.modInst t f).ch = d.ch := rfl
@[simp] theorem Dev.modInst_mram (t : Nat) (f : Instance → Instance) : (d.modInst t f).mram = d.mram := rfl
@[simp] theorem Dev.modInst_scrub (t : Nat) (f : Instance → Instance) : (d.modInst t f).scrub = d.scrub := rfl
@[simp] theorem Dev.modInst_word (t : Nat) (f : Instance → Instance) (x : Nat) : (d.modInst t f).word x = d.word x := rfl
@[simp] theorem Dev.modInst_get (t : Nat) (f : Instance → Instance) (x : Fld) : (d.modInst t f).get x = d.get x := rfl
@[simp] theorem Dev.modInst_flag (t : Nat) (f : Instance → Instance) (x : Fld) : (d.modInst t f).flag x = d.flag x := rfl

/-! ### Dev.modChan -/

@[simp] theorem Dev.modChan_regs (c : Nat) (f : ChanSt → ChanSt) : (d.modChan c f).regs = d.regs := rfl
@[simp] theorem Dev.modChan_out (c : Nat) (f : ChanSt → ChanSt) : (d.modChan c f).out = d.out := rfl
@[simp] theorem Dev.modChan_freeIx (c : Nat) (f : ChanSt → ChanSt) : (d.modChan c f).freeIx = d.freeIx := rfl
@[simp] theorem Dev.modChan_hb (c : Nat) (f : ChanSt → ChanSt) : (d.modChan c f).hb = d.hb := rfl
@[simp] theorem Dev.modChan_tl (c : Nat) (f : ChanSt → ChanSt) : (d.modChan c f).tl = d.tl := rfl
@[simp] theorem Dev.modChan_canopy (c : Nat) (f : ChanSt → ChanSt) : (d.modChan c f).canopy = d.canopy := rfl
@[simp] theorem Dev.modChan_plat (c : Nat) (f : ChanSt → ChanSt) : (d.modChan c f).plat = d.plat := rfl
@[simp] theorem Dev.modChan_gv (c : Nat) (f : ChanSt → ChanSt) : (d.modChan c f).gv = d.gv := rfl
@[simp] theorem Dev.modChan_todo (c : Nat) (f : ChanSt → ChanSt) : (d.modChan c f).todo = d.todo := rfl
@[simp] theorem Dev.modChan_chan (c : Nat) (f : ChanSt → ChanSt) : (d.modChan c f).chan = tmod d.chan c f := rfl
@[simp] theorem Dev.modChan_ports (c : Nat) (f : ChanSt → ChanSt) : (d.modChan c f).ports = d.ports := rfl
@[simp] theorem Dev.modChan_msc (c : Nat) (f : ChanSt → ChanSt) : (d.modChan c f).msc = d.msc := rfl
@[simp] theorem Dev.modChan_msa (c : Nat) (f : ChanSt → ChanSt) : (d.modChan c f).msa = d.msa := rfl
@[simp] theorem Dev.modChan_learnq (c : Nat) (f : ChanSt → ChanSt) : (d.modChan c f).learnq = d.learnq := rfl
@[simp] theorem Dev.modChan_lk (c : Nat) (f : ChanSt → ChanSt) : (d.modChan c f).lk = d.lk := rfl
@[simp] theorem Dev.modChan_sw (c : Nat) (f : ChanSt → ChanSt) : (d.modChan c f).sw = d.sw := rfl
@[simp] theorem Dev.modChan_tm (c : Nat) (f : ChanSt → ChanSt) : (d.modChan c f).tm = d.tm := rfl
@[simp] theorem Dev.modChan_cp (c : Nat) (f : ChanSt → ChanSt) : (d.modChan c f).cp = d.cp := rfl
@[simp] theorem Dev.modChan_slp (c : Nat) (f : ChanSt → ChanSt) : (d.modChan c f).slp = d.slp := rfl
@[simp] theorem Dev.modChan_clr (c : Nat) (f : ChanSt → ChanSt) : (d.modChan c f).clr = d.clr := rfl
@[simp] theorem Dev.modChan_sc (c : Nat) (f : ChanSt → ChanSt) : (d.modChan c f).sc = d.sc := rfl
@[simp] theorem Dev.modChan_sap (c : Nat) (f : ChanSt → ChanSt) : (d.modChan c f).sap = d.sap := rfl
@[simp] theorem Dev.modChan_inject (c : Nat) (f : ChanSt → ChanSt) : (d.modChan c f).inject = d.inject := rfl
@[simp] theorem Dev.modChan_ch (c : Nat) (f : ChanSt → ChanSt) : (d.modChan c f).ch = d.ch := rfl
@[simp] theorem Dev.modChan_mram (c : Nat) (f : ChanSt → ChanSt) : (d.modChan c f).mram = d.mram := rfl
@[simp] theorem Dev.modChan_scrub (c : Nat) (f : ChanSt → ChanSt) : (d.modChan c f).scrub = d.scrub := rfl
@[simp] theorem Dev.modChan_word (c : Nat) (f : ChanSt → ChanSt) (x : Nat) : (d.modChan c f).word x = d.word x := rfl
@[simp] theorem Dev.modChan_get (c : Nat) (f : ChanSt → ChanSt) (x : Fld) : (d.modChan c f).get x = d.get x := rfl
@[simp] theorem Dev.modChan_flag (c : Nat) (f : ChanSt → ChanSt) (x : Fld) : (d.modChan c f).flag x = d.flag x := rfl

/-! ### Dev.modPort -/

@[simp] theorem Dev.modPort_regs (p : Nat) (f : PortSt → PortSt) : (d.modPort p f).regs = d.regs := rfl
@[simp] theorem Dev.modPort_out (p : Nat) (f : PortSt → PortSt) : (d.modPort p f).out = d.out := rfl
@[simp] theorem Dev.modPort_freeIx (p : Nat) (f : PortSt → PortSt) : (d.modPort p f).freeIx = d.freeIx := rfl
@[simp] theorem Dev.modPort_hb (p : Nat) (f : PortSt → PortSt) : (d.modPort p f).hb = d.hb := rfl
@[simp] theorem Dev.modPort_tl (p : Nat) (f : PortSt → PortSt) : (d.modPort p f).tl = d.tl := rfl
@[simp] theorem Dev.modPort_canopy (p : Nat) (f : PortSt → PortSt) : (d.modPort p f).canopy = d.canopy := rfl
@[simp] theorem Dev.modPort_plat (p : Nat) (f : PortSt → PortSt) : (d.modPort p f).plat = d.plat := rfl
@[simp] theorem Dev.modPort_gv (p : Nat) (f : PortSt → PortSt) : (d.modPort p f).gv = d.gv := rfl
@[simp] theorem Dev.modPort_todo (p : Nat) (f : PortSt → PortSt) : (d.modPort p f).todo = d.todo := rfl
@[simp] theorem Dev.modPort_chan (p : Nat) (f : PortSt → PortSt) : (d.modPort p f).chan = d.chan := rfl
@[simp] theorem Dev.modPort_ports (p : Nat) (f : PortSt → PortSt) : (d.modPort p f).ports = tmod d.ports p f := rfl
@[simp] theorem Dev.modPort_msc (p : Nat) (f : PortSt → PortSt) : (d.modPort p f).msc = d.msc := rfl
@[simp] theorem Dev.modPort_msa (p : Nat) (f : PortSt → PortSt) : (d.modPort p f).msa = d.msa := rfl
@[simp] theorem Dev.modPort_learnq (p : Nat) (f : PortSt → PortSt) : (d.modPort p f).learnq = d.learnq := rfl
@[simp] theorem Dev.modPort_lk (p : Nat) (f : PortSt → PortSt) : (d.modPort p f).lk = d.lk := rfl
@[simp] theorem Dev.modPort_sw (p : Nat) (f : PortSt → PortSt) : (d.modPort p f).sw = d.sw := rfl
@[simp] theorem Dev.modPort_tm (p : Nat) (f : PortSt → PortSt) : (d.modPort p f).tm = d.tm := rfl
@[simp] theorem Dev.modPort_cp (p : Nat) (f : PortSt → PortSt) : (d.modPort p f).cp = d.cp := rfl
@[simp] theorem Dev.modPort_slp (p : Nat) (f : PortSt → PortSt) : (d.modPort p f).slp = d.slp := rfl
@[simp] theorem Dev.modPort_clr (p : Nat) (f : PortSt → PortSt) : (d.modPort p f).clr = d.clr := rfl
@[simp] theorem Dev.modPort_sc (p : Nat) (f : PortSt → PortSt) : (d.modPort p f).sc = d.sc := rfl
@[simp] theorem Dev.modPort_sap (p : Nat) (f : PortSt → PortSt) : (d.modPort p f).sap = d.sap := rfl
@[simp] theorem Dev.modPort_inject (p : Nat) (f : PortSt → PortSt) : (d.modPort p f).inject = d.inject := rfl
@[simp] theorem Dev.modPort_ch (p : Nat) (f : PortSt → PortSt) : (d.modPort p f).ch = d.ch := rfl
@[simp] theorem Dev.modPort_mram (p : Nat) (f : PortSt → PortSt) : (d.modPort p f).mram = d.mram := rfl
@[simp] theorem Dev.modPort_scrub (p : Nat) (f : PortSt → PortSt) : (d.modPort p f).scrub = d.scrub := rfl
@[simp] theorem Dev.modPort_word (p : Nat) (f : PortSt → PortSt) (x : Nat) : (d.modPort p f).word x = d.word x := rfl
@[simp] theorem Dev.modPort_get (p : Nat) (f : PortSt → PortSt) (x : Fld) : (d.modPort p f).get x = d.get x := rfl
@[simp] theorem Dev.modPort_flag (p : Nat) (f : PortSt → PortSt) (x : Fld) : (d.modPort p f).flag x = d.flag x := rfl

/-! ### Dev.modHb -/

@[simp] theorem Dev.modHb_regs (p : Nat) (f : HbPort → HbPort) : (d.modHb p f).regs = d.regs := rfl
@[simp] theorem Dev.modHb_out (p : Nat) (f : HbPort → HbPort) : (d.modHb p f).out = d.out := rfl
@[simp] theorem Dev.modHb_freeIx (p : Nat) (f : HbPort → HbPort) : (d.modHb p f).freeIx = d.freeIx := rfl
@[simp] theorem Dev.modHb_hb (p : Nat) (f : HbPort → HbPort) : (d.modHb p f).hb = tmod d.hb p f := rfl
@[simp] theorem Dev.modHb_tl (p : Nat) (f : HbPort → HbPort) : (d.modHb p f).tl = d.tl := rfl
@[simp] theorem Dev.modHb_canopy (p : Nat) (f : HbPort → HbPort) : (d.modHb p f).canopy = d.canopy := rfl
@[simp] theorem Dev.modHb_plat (p : Nat) (f : HbPort → HbPort) : (d.modHb p f).plat = d.plat := rfl
@[simp] theorem Dev.modHb_gv (p : Nat) (f : HbPort → HbPort) : (d.modHb p f).gv = d.gv := rfl
@[simp] theorem Dev.modHb_todo (p : Nat) (f : HbPort → HbPort) : (d.modHb p f).todo = d.todo := rfl
@[simp] theorem Dev.modHb_chan (p : Nat) (f : HbPort → HbPort) : (d.modHb p f).chan = d.chan := rfl
@[simp] theorem Dev.modHb_ports (p : Nat) (f : HbPort → HbPort) : (d.modHb p f).ports = d.ports := rfl
@[simp] theorem Dev.modHb_msc (p : Nat) (f : HbPort → HbPort) : (d.modHb p f).msc = d.msc := rfl
@[simp] theorem Dev.modHb_msa (p : Nat) (f : HbPort → HbPort) : (d.modHb p f).msa = d.msa := rfl
@[simp] theorem Dev.modHb_learnq (p : Nat) (f : HbPort → HbPort) : (d.modHb p f).learnq = d.learnq := rfl
@[simp] theorem Dev.modHb_lk (p : Nat) (f : HbPort → HbPort) : (d.modHb p f).lk = d.lk := rfl
@[simp] theorem Dev.modHb_sw (p : Nat) (f : HbPort → HbPort) : (d.modHb p f).sw = d.sw := rfl
@[simp] theorem Dev.modHb_tm (p : Nat) (f : HbPort → HbPort) : (d.modHb p f).tm = d.tm := rfl
@[simp] theorem Dev.modHb_cp (p : Nat) (f : HbPort → HbPort) : (d.modHb p f).cp = d.cp := rfl
@[simp] theorem Dev.modHb_slp (p : Nat) (f : HbPort → HbPort) : (d.modHb p f).slp = d.slp := rfl
@[simp] theorem Dev.modHb_clr (p : Nat) (f : HbPort → HbPort) : (d.modHb p f).clr = d.clr := rfl
@[simp] theorem Dev.modHb_sc (p : Nat) (f : HbPort → HbPort) : (d.modHb p f).sc = d.sc := rfl
@[simp] theorem Dev.modHb_sap (p : Nat) (f : HbPort → HbPort) : (d.modHb p f).sap = d.sap := rfl
@[simp] theorem Dev.modHb_inject (p : Nat) (f : HbPort → HbPort) : (d.modHb p f).inject = d.inject := rfl
@[simp] theorem Dev.modHb_ch (p : Nat) (f : HbPort → HbPort) : (d.modHb p f).ch = d.ch := rfl
@[simp] theorem Dev.modHb_mram (p : Nat) (f : HbPort → HbPort) : (d.modHb p f).mram = d.mram := rfl
@[simp] theorem Dev.modHb_scrub (p : Nat) (f : HbPort → HbPort) : (d.modHb p f).scrub = d.scrub := rfl
@[simp] theorem Dev.modHb_word (p : Nat) (f : HbPort → HbPort) (x : Nat) : (d.modHb p f).word x = d.word x := rfl
@[simp] theorem Dev.modHb_get (p : Nat) (f : HbPort → HbPort) (x : Fld) : (d.modHb p f).get x = d.get x := rfl
@[simp] theorem Dev.modHb_flag (p : Nat) (f : HbPort → HbPort) (x : Fld) : (d.modHb p f).flag x = d.flag x := rfl

/-! ### Dev.modDom -/

@[simp] theorem Dev.modDom_regs (i : Nat) (f : DomainSt → DomainSt) : (d.modDom i f).regs = d.regs := rfl
@[simp] theorem Dev.modDom_out (i : Nat) (f : DomainSt → DomainSt) : (d.modDom i f).out = d.out := rfl
@[simp] theorem Dev.modDom_freeIx (i : Nat) (f : DomainSt → DomainSt) : (d.modDom i f).freeIx = d.freeIx := rfl
@[simp] theorem Dev.modDom_hb (i : Nat) (f : DomainSt → DomainSt) : (d.modDom i f).hb = d.hb := rfl
@[simp] theorem Dev.modDom_canopy (i : Nat) (f : DomainSt → DomainSt) : (d.modDom i f).canopy = d.canopy := rfl
@[simp] theorem Dev.modDom_plat (i : Nat) (f : DomainSt → DomainSt) : (d.modDom i f).plat = d.plat := rfl
@[simp] theorem Dev.modDom_gv (i : Nat) (f : DomainSt → DomainSt) : (d.modDom i f).gv = d.gv := rfl
@[simp] theorem Dev.modDom_todo (i : Nat) (f : DomainSt → DomainSt) : (d.modDom i f).todo = d.todo := rfl
@[simp] theorem Dev.modDom_chan (i : Nat) (f : DomainSt → DomainSt) : (d.modDom i f).chan = d.chan := rfl
@[simp] theorem Dev.modDom_ports (i : Nat) (f : DomainSt → DomainSt) : (d.modDom i f).ports = d.ports := rfl
@[simp] theorem Dev.modDom_msc (i : Nat) (f : DomainSt → DomainSt) : (d.modDom i f).msc = d.msc := rfl
@[simp] theorem Dev.modDom_msa (i : Nat) (f : DomainSt → DomainSt) : (d.modDom i f).msa = d.msa := rfl
@[simp] theorem Dev.modDom_learnq (i : Nat) (f : DomainSt → DomainSt) : (d.modDom i f).learnq = d.learnq := rfl
@[simp] theorem Dev.modDom_lk (i : Nat) (f : DomainSt → DomainSt) : (d.modDom i f).lk = d.lk := rfl
@[simp] theorem Dev.modDom_sw (i : Nat) (f : DomainSt → DomainSt) : (d.modDom i f).sw = d.sw := rfl
@[simp] theorem Dev.modDom_tm (i : Nat) (f : DomainSt → DomainSt) : (d.modDom i f).tm = d.tm := rfl
@[simp] theorem Dev.modDom_cp (i : Nat) (f : DomainSt → DomainSt) : (d.modDom i f).cp = d.cp := rfl
@[simp] theorem Dev.modDom_slp (i : Nat) (f : DomainSt → DomainSt) : (d.modDom i f).slp = d.slp := rfl
@[simp] theorem Dev.modDom_clr (i : Nat) (f : DomainSt → DomainSt) : (d.modDom i f).clr = d.clr := rfl
@[simp] theorem Dev.modDom_sc (i : Nat) (f : DomainSt → DomainSt) : (d.modDom i f).sc = d.sc := rfl
@[simp] theorem Dev.modDom_sap (i : Nat) (f : DomainSt → DomainSt) : (d.modDom i f).sap = d.sap := rfl
@[simp] theorem Dev.modDom_inject (i : Nat) (f : DomainSt → DomainSt) : (d.modDom i f).inject = d.inject := rfl
@[simp] theorem Dev.modDom_ch (i : Nat) (f : DomainSt → DomainSt) : (d.modDom i f).ch = d.ch := rfl
@[simp] theorem Dev.modDom_mram (i : Nat) (f : DomainSt → DomainSt) : (d.modDom i f).mram = d.mram := rfl
@[simp] theorem Dev.modDom_scrub (i : Nat) (f : DomainSt → DomainSt) : (d.modDom i f).scrub = d.scrub := rfl
@[simp] theorem Dev.modDom_word (i : Nat) (f : DomainSt → DomainSt) (x : Nat) : (d.modDom i f).word x = d.word x := rfl
@[simp] theorem Dev.modDom_get (i : Nat) (f : DomainSt → DomainSt) (x : Fld) : (d.modDom i f).get x = d.get x := rfl
@[simp] theorem Dev.modDom_flag (i : Nat) (f : DomainSt → DomainSt) (x : Fld) : (d.modDom i f).flag x = d.flag x := rfl

/-! ### Dev.modEcho -/

@[simp] theorem Dev.modEcho_regs (p : Nat) (f : EchoQueue → EchoQueue) : (d.modEcho p f).regs = d.regs := rfl
@[simp] theorem Dev.modEcho_out (p : Nat) (f : EchoQueue → EchoQueue) : (d.modEcho p f).out = d.out := rfl
@[simp] theorem Dev.modEcho_freeIx (p : Nat) (f : EchoQueue → EchoQueue) : (d.modEcho p f).freeIx = d.freeIx := rfl
@[simp] theorem Dev.modEcho_hb (p : Nat) (f : EchoQueue → EchoQueue) : (d.modEcho p f).hb = d.hb := rfl
@[simp] theorem Dev.modEcho_canopy (p : Nat) (f : EchoQueue → EchoQueue) : (d.modEcho p f).canopy = d.canopy := rfl
@[simp] theorem Dev.modEcho_plat (p : Nat) (f : EchoQueue → EchoQueue) : (d.modEcho p f).plat = d.plat := rfl
@[simp] theorem Dev.modEcho_gv (p : Nat) (f : EchoQueue → EchoQueue) : (d.modEcho p f).gv = d.gv := rfl
@[simp] theorem Dev.modEcho_todo (p : Nat) (f : EchoQueue → EchoQueue) : (d.modEcho p f).todo = d.todo := rfl
@[simp] theorem Dev.modEcho_chan (p : Nat) (f : EchoQueue → EchoQueue) : (d.modEcho p f).chan = d.chan := rfl
@[simp] theorem Dev.modEcho_ports (p : Nat) (f : EchoQueue → EchoQueue) : (d.modEcho p f).ports = d.ports := rfl
@[simp] theorem Dev.modEcho_msc (p : Nat) (f : EchoQueue → EchoQueue) : (d.modEcho p f).msc = d.msc := rfl
@[simp] theorem Dev.modEcho_msa (p : Nat) (f : EchoQueue → EchoQueue) : (d.modEcho p f).msa = d.msa := rfl
@[simp] theorem Dev.modEcho_learnq (p : Nat) (f : EchoQueue → EchoQueue) : (d.modEcho p f).learnq = d.learnq := rfl
@[simp] theorem Dev.modEcho_lk (p : Nat) (f : EchoQueue → EchoQueue) : (d.modEcho p f).lk = d.lk := rfl
@[simp] theorem Dev.modEcho_sw (p : Nat) (f : EchoQueue → EchoQueue) : (d.modEcho p f).sw = d.sw := rfl
@[simp] theorem Dev.modEcho_tm (p : Nat) (f : EchoQueue → EchoQueue) : (d.modEcho p f).tm = d.tm := rfl
@[simp] theorem Dev.modEcho_cp (p : Nat) (f : EchoQueue → EchoQueue) : (d.modEcho p f).cp = d.cp := rfl
@[simp] theorem Dev.modEcho_slp (p : Nat) (f : EchoQueue → EchoQueue) : (d.modEcho p f).slp = d.slp := rfl
@[simp] theorem Dev.modEcho_clr (p : Nat) (f : EchoQueue → EchoQueue) : (d.modEcho p f).clr = d.clr := rfl
@[simp] theorem Dev.modEcho_sc (p : Nat) (f : EchoQueue → EchoQueue) : (d.modEcho p f).sc = d.sc := rfl
@[simp] theorem Dev.modEcho_sap (p : Nat) (f : EchoQueue → EchoQueue) : (d.modEcho p f).sap = d.sap := rfl
@[simp] theorem Dev.modEcho_inject (p : Nat) (f : EchoQueue → EchoQueue) : (d.modEcho p f).inject = d.inject := rfl
@[simp] theorem Dev.modEcho_ch (p : Nat) (f : EchoQueue → EchoQueue) : (d.modEcho p f).ch = d.ch := rfl
@[simp] theorem Dev.modEcho_mram (p : Nat) (f : EchoQueue → EchoQueue) : (d.modEcho p f).mram = d.mram := rfl
@[simp] theorem Dev.modEcho_scrub (p : Nat) (f : EchoQueue → EchoQueue) : (d.modEcho p f).scrub = d.scrub := rfl
@[simp] theorem Dev.modEcho_word (p : Nat) (f : EchoQueue → EchoQueue) (x : Nat) : (d.modEcho p f).word x = d.word x := rfl
@[simp] theorem Dev.modEcho_get (p : Nat) (f : EchoQueue → EchoQueue) (x : Fld) : (d.modEcho p f).get x = d.get x := rfl
@[simp] theorem Dev.modEcho_flag (p : Nat) (f : EchoQueue → EchoQueue) (x : Fld) : (d.modEcho p f).flag x = d.flag x := rfl

/-! ### Dev.setEntry -/

@[simp] theorem Dev.setEntry_regs (i : Nat) (e : WheelEntry) : (d.setEntry i e).regs = d.regs := rfl
@[simp] theorem Dev.setEntry_out (i : Nat) (e : WheelEntry) : (d.setEntry i e).out = d.out := rfl
@[simp] theorem Dev.setEntry_freeIx (i : Nat) (e : WheelEntry) : (d.setEntry i e).freeIx = d.freeIx := rfl
@[simp] theorem Dev.setEntry_hb (i : Nat) (e : WheelEntry) : (d.setEntry i e).hb = d.hb := rfl
@[simp] theorem Dev.setEntry_tl (i : Nat) (e : WheelEntry) : (d.setEntry i e).tl = d.tl := rfl
@[simp] theorem Dev.setEntry_plat (i : Nat) (e : WheelEntry) : (d.setEntry i e).plat = d.plat := rfl
@[simp] theorem Dev.setEntry_gv (i : Nat) (e : WheelEntry) : (d.setEntry i e).gv = d.gv := rfl
@[simp] theorem Dev.setEntry_todo (i : Nat) (e : WheelEntry) : (d.setEntry i e).todo = d.todo := rfl
@[simp] theorem Dev.setEntry_chan (i : Nat) (e : WheelEntry) : (d.setEntry i e).chan = d.chan := rfl
@[simp] theorem Dev.setEntry_ports (i : Nat) (e : WheelEntry) : (d.setEntry i e).ports = d.ports := rfl
@[simp] theorem Dev.setEntry_msc (i : Nat) (e : WheelEntry) : (d.setEntry i e).msc = d.msc := rfl
@[simp] theorem Dev.setEntry_msa (i : Nat) (e : WheelEntry) : (d.setEntry i e).msa = d.msa := rfl
@[simp] theorem Dev.setEntry_learnq (i : Nat) (e : WheelEntry) : (d.setEntry i e).learnq = d.learnq := rfl
@[simp] theorem Dev.setEntry_lk (i : Nat) (e : WheelEntry) : (d.setEntry i e).lk = d.lk := rfl
@[simp] theorem Dev.setEntry_sw (i : Nat) (e : WheelEntry) : (d.setEntry i e).sw = d.sw := rfl
@[simp] theorem Dev.setEntry_tm (i : Nat) (e : WheelEntry) : (d.setEntry i e).tm = d.tm := rfl
@[simp] theorem Dev.setEntry_cp (i : Nat) (e : WheelEntry) : (d.setEntry i e).cp = d.cp := rfl
@[simp] theorem Dev.setEntry_slp (i : Nat) (e : WheelEntry) : (d.setEntry i e).slp = d.slp := rfl
@[simp] theorem Dev.setEntry_clr (i : Nat) (e : WheelEntry) : (d.setEntry i e).clr = d.clr := rfl
@[simp] theorem Dev.setEntry_sc (i : Nat) (e : WheelEntry) : (d.setEntry i e).sc = d.sc := rfl
@[simp] theorem Dev.setEntry_sap (i : Nat) (e : WheelEntry) : (d.setEntry i e).sap = d.sap := rfl
@[simp] theorem Dev.setEntry_inject (i : Nat) (e : WheelEntry) : (d.setEntry i e).inject = d.inject := rfl
@[simp] theorem Dev.setEntry_ch (i : Nat) (e : WheelEntry) : (d.setEntry i e).ch = d.ch := rfl
@[simp] theorem Dev.setEntry_mram (i : Nat) (e : WheelEntry) : (d.setEntry i e).mram = d.mram := rfl
@[simp] theorem Dev.setEntry_scrub (i : Nat) (e : WheelEntry) : (d.setEntry i e).scrub = d.scrub := rfl
@[simp] theorem Dev.setEntry_word (i : Nat) (e : WheelEntry) (x : Nat) : (d.setEntry i e).word x = d.word x := rfl
@[simp] theorem Dev.setEntry_get (i : Nat) (e : WheelEntry) (x : Fld) : (d.setEntry i e).get x = d.get x := rfl
@[simp] theorem Dev.setEntry_flag (i : Nat) (e : WheelEntry) (x : Fld) : (d.setEntry i e).flag x = d.flag x := rfl

/-! ### Dev.modEntry -/

@[simp] theorem Dev.modEntry_regs (i : Nat) (f : WheelEntry → WheelEntry) : (d.modEntry i f).regs = d.regs := rfl
@[simp] theorem Dev.modEntry_out (i : Nat) (f : WheelEntry → WheelEntry) : (d.modEntry i f).out = d.out := rfl
@[simp] theorem Dev.modEntry_freeIx (i : Nat) (f : WheelEntry → WheelEntry) : (d.modEntry i f).freeIx = d.freeIx := rfl
@[simp] theorem Dev.modEntry_hb (i : Nat) (f : WheelEntry → WheelEntry) : (d.modEntry i f).hb = d.hb := rfl
@[simp] theorem Dev.modEntry_tl (i : Nat) (f : WheelEntry → WheelEntry) : (d.modEntry i f).tl = d.tl := rfl
@[simp] theorem Dev.modEntry_plat (i : Nat) (f : WheelEntry → WheelEntry) : (d.modEntry i f).plat = d.plat := rfl
@[simp] theorem Dev.modEntry_gv (i : Nat) (f : WheelEntry → WheelEntry) : (d.modEntry i f).gv = d.gv := rfl
@[simp] theorem Dev.modEntry_todo (i : Nat) (f : WheelEntry → WheelEntry) : (d.modEntry i f).todo = d.todo := rfl
@[simp] theorem Dev.modEntry_chan (i : Nat) (f : WheelEntry → WheelEntry) : (d.modEntry i f).chan = d.chan := rfl
@[simp] theorem Dev.modEntry_ports (i : Nat) (f : WheelEntry → WheelEntry) : (d.modEntry i f).ports = d.ports := rfl
@[simp] theorem Dev.modEntry_msc (i : Nat) (f : WheelEntry → WheelEntry) : (d.modEntry i f).msc = d.msc := rfl
@[simp] theorem Dev.modEntry_msa (i : Nat) (f : WheelEntry → WheelEntry) : (d.modEntry i f).msa = d.msa := rfl
@[simp] theorem Dev.modEntry_learnq (i : Nat) (f : WheelEntry → WheelEntry) : (d.modEntry i f).learnq = d.learnq := rfl
@[simp] theorem Dev.modEntry_lk (i : Nat) (f : WheelEntry → WheelEntry) : (d.modEntry i f).lk = d.lk := rfl
@[simp] theorem Dev.modEntry_sw (i : Nat) (f : WheelEntry → WheelEntry) : (d.modEntry i f).sw = d.sw := rfl
@[simp] theorem Dev.modEntry_tm (i : Nat) (f : WheelEntry → WheelEntry) : (d.modEntry i f).tm = d.tm := rfl
@[simp] theorem Dev.modEntry_cp (i : Nat) (f : WheelEntry → WheelEntry) : (d.modEntry i f).cp = d.cp := rfl
@[simp] theorem Dev.modEntry_slp (i : Nat) (f : WheelEntry → WheelEntry) : (d.modEntry i f).slp = d.slp := rfl
@[simp] theorem Dev.modEntry_clr (i : Nat) (f : WheelEntry → WheelEntry) : (d.modEntry i f).clr = d.clr := rfl
@[simp] theorem Dev.modEntry_sc (i : Nat) (f : WheelEntry → WheelEntry) : (d.modEntry i f).sc = d.sc := rfl
@[simp] theorem Dev.modEntry_sap (i : Nat) (f : WheelEntry → WheelEntry) : (d.modEntry i f).sap = d.sap := rfl
@[simp] theorem Dev.modEntry_inject (i : Nat) (f : WheelEntry → WheelEntry) : (d.modEntry i f).inject = d.inject := rfl
@[simp] theorem Dev.modEntry_ch (i : Nat) (f : WheelEntry → WheelEntry) : (d.modEntry i f).ch = d.ch := rfl
@[simp] theorem Dev.modEntry_mram (i : Nat) (f : WheelEntry → WheelEntry) : (d.modEntry i f).mram = d.mram := rfl
@[simp] theorem Dev.modEntry_scrub (i : Nat) (f : WheelEntry → WheelEntry) : (d.modEntry i f).scrub = d.scrub := rfl
@[simp] theorem Dev.modEntry_word (i : Nat) (f : WheelEntry → WheelEntry) (x : Nat) : (d.modEntry i f).word x = d.word x := rfl
@[simp] theorem Dev.modEntry_get (i : Nat) (f : WheelEntry → WheelEntry) (x : Fld) : (d.modEntry i f).get x = d.get x := rfl
@[simp] theorem Dev.modEntry_flag (i : Nat) (f : WheelEntry → WheelEntry) (x : Fld) : (d.modEntry i f).flag x = d.flag x := rfl

/-! ### Dev.modTrig -/

@[simp] theorem Dev.modTrig_regs (k : Nat) (f : TrigSt → TrigSt) : (d.modTrig k f).regs = d.regs := rfl
@[simp] theorem Dev.modTrig_out (k : Nat) (f : TrigSt → TrigSt) : (d.modTrig k f).out = d.out := rfl
@[simp] theorem Dev.modTrig_freeIx (k : Nat) (f : TrigSt → TrigSt) : (d.modTrig k f).freeIx = d.freeIx := rfl
@[simp] theorem Dev.modTrig_hb (k : Nat) (f : TrigSt → TrigSt) : (d.modTrig k f).hb = d.hb := rfl
@[simp] theorem Dev.modTrig_tl (k : Nat) (f : TrigSt → TrigSt) : (d.modTrig k f).tl = d.tl := rfl
@[simp] theorem Dev.modTrig_plat (k : Nat) (f : TrigSt → TrigSt) : (d.modTrig k f).plat = d.plat := rfl
@[simp] theorem Dev.modTrig_gv (k : Nat) (f : TrigSt → TrigSt) : (d.modTrig k f).gv = d.gv := rfl
@[simp] theorem Dev.modTrig_todo (k : Nat) (f : TrigSt → TrigSt) : (d.modTrig k f).todo = d.todo := rfl
@[simp] theorem Dev.modTrig_chan (k : Nat) (f : TrigSt → TrigSt) : (d.modTrig k f).chan = d.chan := rfl
@[simp] theorem Dev.modTrig_ports (k : Nat) (f : TrigSt → TrigSt) : (d.modTrig k f).ports = d.ports := rfl
@[simp] theorem Dev.modTrig_msc (k : Nat) (f : TrigSt → TrigSt) : (d.modTrig k f).msc = d.msc := rfl
@[simp] theorem Dev.modTrig_msa (k : Nat) (f : TrigSt → TrigSt) : (d.modTrig k f).msa = d.msa := rfl
@[simp] theorem Dev.modTrig_learnq (k : Nat) (f : TrigSt → TrigSt) : (d.modTrig k f).learnq = d.learnq := rfl
@[simp] theorem Dev.modTrig_lk (k : Nat) (f : TrigSt → TrigSt) : (d.modTrig k f).lk = d.lk := rfl
@[simp] theorem Dev.modTrig_sw (k : Nat) (f : TrigSt → TrigSt) : (d.modTrig k f).sw = d.sw := rfl
@[simp] theorem Dev.modTrig_tm (k : Nat) (f : TrigSt → TrigSt) : (d.modTrig k f).tm = d.tm := rfl
@[simp] theorem Dev.modTrig_cp (k : Nat) (f : TrigSt → TrigSt) : (d.modTrig k f).cp = d.cp := rfl
@[simp] theorem Dev.modTrig_slp (k : Nat) (f : TrigSt → TrigSt) : (d.modTrig k f).slp = d.slp := rfl
@[simp] theorem Dev.modTrig_clr (k : Nat) (f : TrigSt → TrigSt) : (d.modTrig k f).clr = d.clr := rfl
@[simp] theorem Dev.modTrig_sc (k : Nat) (f : TrigSt → TrigSt) : (d.modTrig k f).sc = d.sc := rfl
@[simp] theorem Dev.modTrig_sap (k : Nat) (f : TrigSt → TrigSt) : (d.modTrig k f).sap = d.sap := rfl
@[simp] theorem Dev.modTrig_inject (k : Nat) (f : TrigSt → TrigSt) : (d.modTrig k f).inject = d.inject := rfl
@[simp] theorem Dev.modTrig_ch (k : Nat) (f : TrigSt → TrigSt) : (d.modTrig k f).ch = d.ch := rfl
@[simp] theorem Dev.modTrig_mram (k : Nat) (f : TrigSt → TrigSt) : (d.modTrig k f).mram = d.mram := rfl
@[simp] theorem Dev.modTrig_scrub (k : Nat) (f : TrigSt → TrigSt) : (d.modTrig k f).scrub = d.scrub := rfl
@[simp] theorem Dev.modTrig_word (k : Nat) (f : TrigSt → TrigSt) (x : Nat) : (d.modTrig k f).word x = d.word x := rfl
@[simp] theorem Dev.modTrig_get (k : Nat) (f : TrigSt → TrigSt) (x : Fld) : (d.modTrig k f).get x = d.get x := rfl
@[simp] theorem Dev.modTrig_flag (k : Nat) (f : TrigSt → TrigSt) (x : Fld) : (d.modTrig k f).flag x = d.flag x := rfl

/-! ### Dev.modCap -/

@[simp] theorem Dev.modCap_regs (c : Nat) (f : CaptureSt → CaptureSt) : (d.modCap c f).regs = d.regs := rfl
@[simp] theorem Dev.modCap_out (c : Nat) (f : CaptureSt → CaptureSt) : (d.modCap c f).out = d.out := rfl
@[simp] theorem Dev.modCap_freeIx (c : Nat) (f : CaptureSt → CaptureSt) : (d.modCap c f).freeIx = d.freeIx := rfl
@[simp] theorem Dev.modCap_hb (c : Nat) (f : CaptureSt → CaptureSt) : (d.modCap c f).hb = d.hb := rfl
@[simp] theorem Dev.modCap_tl (c : Nat) (f : CaptureSt → CaptureSt) : (d.modCap c f).tl = d.tl := rfl
@[simp] theorem Dev.modCap_plat (c : Nat) (f : CaptureSt → CaptureSt) : (d.modCap c f).plat = d.plat := rfl
@[simp] theorem Dev.modCap_gv (c : Nat) (f : CaptureSt → CaptureSt) : (d.modCap c f).gv = d.gv := rfl
@[simp] theorem Dev.modCap_todo (c : Nat) (f : CaptureSt → CaptureSt) : (d.modCap c f).todo = d.todo := rfl
@[simp] theorem Dev.modCap_chan (c : Nat) (f : CaptureSt → CaptureSt) : (d.modCap c f).chan = d.chan := rfl
@[simp] theorem Dev.modCap_ports (c : Nat) (f : CaptureSt → CaptureSt) : (d.modCap c f).ports = d.ports := rfl
@[simp] theorem Dev.modCap_msc (c : Nat) (f : CaptureSt → CaptureSt) : (d.modCap c f).msc = d.msc := rfl
@[simp] theorem Dev.modCap_msa (c : Nat) (f : CaptureSt → CaptureSt) : (d.modCap c f).msa = d.msa := rfl
@[simp] theorem Dev.modCap_learnq (c : Nat) (f : CaptureSt → CaptureSt) : (d.modCap c f).learnq = d.learnq := rfl
@[simp] theorem Dev.modCap_lk (c : Nat) (f : CaptureSt → CaptureSt) : (d.modCap c f).lk = d.lk := rfl
@[simp] theorem Dev.modCap_sw (c : Nat) (f : CaptureSt → CaptureSt) : (d.modCap c f).sw = d.sw := rfl
@[simp] theorem Dev.modCap_tm (c : Nat) (f : CaptureSt → CaptureSt) : (d.modCap c f).tm = d.tm := rfl
@[simp] theorem Dev.modCap_cp (c : Nat) (f : CaptureSt → CaptureSt) : (d.modCap c f).cp = d.cp := rfl
@[simp] theorem Dev.modCap_slp (c : Nat) (f : CaptureSt → CaptureSt) : (d.modCap c f).slp = d.slp := rfl
@[simp] theorem Dev.modCap_clr (c : Nat) (f : CaptureSt → CaptureSt) : (d.modCap c f).clr = d.clr := rfl
@[simp] theorem Dev.modCap_sc (c : Nat) (f : CaptureSt → CaptureSt) : (d.modCap c f).sc = d.sc := rfl
@[simp] theorem Dev.modCap_sap (c : Nat) (f : CaptureSt → CaptureSt) : (d.modCap c f).sap = d.sap := rfl
@[simp] theorem Dev.modCap_inject (c : Nat) (f : CaptureSt → CaptureSt) : (d.modCap c f).inject = d.inject := rfl
@[simp] theorem Dev.modCap_ch (c : Nat) (f : CaptureSt → CaptureSt) : (d.modCap c f).ch = d.ch := rfl
@[simp] theorem Dev.modCap_mram (c : Nat) (f : CaptureSt → CaptureSt) : (d.modCap c f).mram = d.mram := rfl
@[simp] theorem Dev.modCap_scrub (c : Nat) (f : CaptureSt → CaptureSt) : (d.modCap c f).scrub = d.scrub := rfl
@[simp] theorem Dev.modCap_word (c : Nat) (f : CaptureSt → CaptureSt) (x : Nat) : (d.modCap c f).word x = d.word x := rfl
@[simp] theorem Dev.modCap_get (c : Nat) (f : CaptureSt → CaptureSt) (x : Fld) : (d.modCap c f).get x = d.get x := rfl
@[simp] theorem Dev.modCap_flag (c : Nat) (f : CaptureSt → CaptureSt) (x : Fld) : (d.modCap c f).flag x = d.flag x := rfl

/-! ### Dev.modPhase -/

@[simp] theorem Dev.modPhase_regs (p : Nat) (f : PhaseSt → PhaseSt) : (d.modPhase p f).regs = d.regs := rfl
@[simp] theorem Dev.modPhase_out (p : Nat) (f : PhaseSt → PhaseSt) : (d.modPhase p f).out = d.out := rfl
@[simp] theorem Dev.modPhase_freeIx (p : Nat) (f : PhaseSt → PhaseSt) : (d.modPhase p f).freeIx = d.freeIx := rfl
@[simp] theorem Dev.modPhase_hb (p : Nat) (f : PhaseSt → PhaseSt) : (d.modPhase p f).hb = d.hb := rfl
@[simp] theorem Dev.modPhase_tl (p : Nat) (f : PhaseSt → PhaseSt) : (d.modPhase p f).tl = d.tl := rfl
@[simp] theorem Dev.modPhase_plat (p : Nat) (f : PhaseSt → PhaseSt) : (d.modPhase p f).plat = d.plat := rfl
@[simp] theorem Dev.modPhase_gv (p : Nat) (f : PhaseSt → PhaseSt) : (d.modPhase p f).gv = d.gv := rfl
@[simp] theorem Dev.modPhase_todo (p : Nat) (f : PhaseSt → PhaseSt) : (d.modPhase p f).todo = d.todo := rfl
@[simp] theorem Dev.modPhase_chan (p : Nat) (f : PhaseSt → PhaseSt) : (d.modPhase p f).chan = d.chan := rfl
@[simp] theorem Dev.modPhase_ports (p : Nat) (f : PhaseSt → PhaseSt) : (d.modPhase p f).ports = d.ports := rfl
@[simp] theorem Dev.modPhase_msc (p : Nat) (f : PhaseSt → PhaseSt) : (d.modPhase p f).msc = d.msc := rfl
@[simp] theorem Dev.modPhase_msa (p : Nat) (f : PhaseSt → PhaseSt) : (d.modPhase p f).msa = d.msa := rfl
@[simp] theorem Dev.modPhase_learnq (p : Nat) (f : PhaseSt → PhaseSt) : (d.modPhase p f).learnq = d.learnq := rfl
@[simp] theorem Dev.modPhase_lk (p : Nat) (f : PhaseSt → PhaseSt) : (d.modPhase p f).lk = d.lk := rfl
@[simp] theorem Dev.modPhase_sw (p : Nat) (f : PhaseSt → PhaseSt) : (d.modPhase p f).sw = d.sw := rfl
@[simp] theorem Dev.modPhase_tm (p : Nat) (f : PhaseSt → PhaseSt) : (d.modPhase p f).tm = d.tm := rfl
@[simp] theorem Dev.modPhase_cp (p : Nat) (f : PhaseSt → PhaseSt) : (d.modPhase p f).cp = d.cp := rfl
@[simp] theorem Dev.modPhase_slp (p : Nat) (f : PhaseSt → PhaseSt) : (d.modPhase p f).slp = d.slp := rfl
@[simp] theorem Dev.modPhase_clr (p : Nat) (f : PhaseSt → PhaseSt) : (d.modPhase p f).clr = d.clr := rfl
@[simp] theorem Dev.modPhase_sc (p : Nat) (f : PhaseSt → PhaseSt) : (d.modPhase p f).sc = d.sc := rfl
@[simp] theorem Dev.modPhase_sap (p : Nat) (f : PhaseSt → PhaseSt) : (d.modPhase p f).sap = d.sap := rfl
@[simp] theorem Dev.modPhase_inject (p : Nat) (f : PhaseSt → PhaseSt) : (d.modPhase p f).inject = d.inject := rfl
@[simp] theorem Dev.modPhase_ch (p : Nat) (f : PhaseSt → PhaseSt) : (d.modPhase p f).ch = d.ch := rfl
@[simp] theorem Dev.modPhase_mram (p : Nat) (f : PhaseSt → PhaseSt) : (d.modPhase p f).mram = d.mram := rfl
@[simp] theorem Dev.modPhase_scrub (p : Nat) (f : PhaseSt → PhaseSt) : (d.modPhase p f).scrub = d.scrub := rfl
@[simp] theorem Dev.modPhase_word (p : Nat) (f : PhaseSt → PhaseSt) (x : Nat) : (d.modPhase p f).word x = d.word x := rfl
@[simp] theorem Dev.modPhase_get (p : Nat) (f : PhaseSt → PhaseSt) (x : Fld) : (d.modPhase p f).get x = d.get x := rfl
@[simp] theorem Dev.modPhase_flag (p : Nat) (f : PhaseSt → PhaseSt) (x : Fld) : (d.modPhase p f).flag x = d.flag x := rfl

/-! ### Dev.modQ -/

@[simp] theorem Dev.modQ_regs (q : Nat) (f : QueueSt → QueueSt) : (d.modQ q f).regs = d.regs := rfl
@[simp] theorem Dev.modQ_out (q : Nat) (f : QueueSt → QueueSt) : (d.modQ q f).out = d.out := rfl
@[simp] theorem Dev.modQ_freeIx (q : Nat) (f : QueueSt → QueueSt) : (d.modQ q f).freeIx = d.freeIx := rfl
@[simp] theorem Dev.modQ_hb (q : Nat) (f : QueueSt → QueueSt) : (d.modQ q f).hb = d.hb := rfl
@[simp] theorem Dev.modQ_tl (q : Nat) (f : QueueSt → QueueSt) : (d.modQ q f).tl = d.tl := rfl
@[simp] theorem Dev.modQ_canopy (q : Nat) (f : QueueSt → QueueSt) : (d.modQ q f).canopy = d.canopy := rfl
@[simp] theorem Dev.modQ_plat (q : Nat) (f : QueueSt → QueueSt) : (d.modQ q f).plat = d.plat := rfl
@[simp] theorem Dev.modQ_gv (q : Nat) (f : QueueSt → QueueSt) : (d.modQ q f).gv = d.gv := rfl
@[simp] theorem Dev.modQ_todo (q : Nat) (f : QueueSt → QueueSt) : (d.modQ q f).todo = d.todo := rfl
@[simp] theorem Dev.modQ_chan (q : Nat) (f : QueueSt → QueueSt) : (d.modQ q f).chan = d.chan := rfl
@[simp] theorem Dev.modQ_ports (q : Nat) (f : QueueSt → QueueSt) : (d.modQ q f).ports = d.ports := rfl
@[simp] theorem Dev.modQ_msc (q : Nat) (f : QueueSt → QueueSt) : (d.modQ q f).msc = d.msc := rfl
@[simp] theorem Dev.modQ_msa (q : Nat) (f : QueueSt → QueueSt) : (d.modQ q f).msa = d.msa := rfl
@[simp] theorem Dev.modQ_learnq (q : Nat) (f : QueueSt → QueueSt) : (d.modQ q f).learnq = d.learnq := rfl
@[simp] theorem Dev.modQ_lk (q : Nat) (f : QueueSt → QueueSt) : (d.modQ q f).lk = d.lk := rfl
@[simp] theorem Dev.modQ_sw (q : Nat) (f : QueueSt → QueueSt) : (d.modQ q f).sw = d.sw := rfl
@[simp] theorem Dev.modQ_cp (q : Nat) (f : QueueSt → QueueSt) : (d.modQ q f).cp = d.cp := rfl
@[simp] theorem Dev.modQ_slp (q : Nat) (f : QueueSt → QueueSt) : (d.modQ q f).slp = d.slp := rfl
@[simp] theorem Dev.modQ_clr (q : Nat) (f : QueueSt → QueueSt) : (d.modQ q f).clr = d.clr := rfl
@[simp] theorem Dev.modQ_sc (q : Nat) (f : QueueSt → QueueSt) : (d.modQ q f).sc = d.sc := rfl
@[simp] theorem Dev.modQ_sap (q : Nat) (f : QueueSt → QueueSt) : (d.modQ q f).sap = d.sap := rfl
@[simp] theorem Dev.modQ_inject (q : Nat) (f : QueueSt → QueueSt) : (d.modQ q f).inject = d.inject := rfl
@[simp] theorem Dev.modQ_ch (q : Nat) (f : QueueSt → QueueSt) : (d.modQ q f).ch = d.ch := rfl
@[simp] theorem Dev.modQ_mram (q : Nat) (f : QueueSt → QueueSt) : (d.modQ q f).mram = d.mram := rfl
@[simp] theorem Dev.modQ_scrub (q : Nat) (f : QueueSt → QueueSt) : (d.modQ q f).scrub = d.scrub := rfl
@[simp] theorem Dev.modQ_word (q : Nat) (f : QueueSt → QueueSt) (x : Nat) : (d.modQ q f).word x = d.word x := rfl
@[simp] theorem Dev.modQ_get (q : Nat) (f : QueueSt → QueueSt) (x : Fld) : (d.modQ q f).get x = d.get x := rfl
@[simp] theorem Dev.modQ_flag (q : Nat) (f : QueueSt → QueueSt) (x : Fld) : (d.modQ q f).flag x = d.flag x := rfl

/-! ### Dev.modGcl -/

@[simp] theorem Dev.modGcl_regs (p : Nat) (f : GateSt → GateSt) : (d.modGcl p f).regs = d.regs := rfl
@[simp] theorem Dev.modGcl_out (p : Nat) (f : GateSt → GateSt) : (d.modGcl p f).out = d.out := rfl
@[simp] theorem Dev.modGcl_freeIx (p : Nat) (f : GateSt → GateSt) : (d.modGcl p f).freeIx = d.freeIx := rfl
@[simp] theorem Dev.modGcl_hb (p : Nat) (f : GateSt → GateSt) : (d.modGcl p f).hb = d.hb := rfl
@[simp] theorem Dev.modGcl_tl (p : Nat) (f : GateSt → GateSt) : (d.modGcl p f).tl = d.tl := rfl
@[simp] theorem Dev.modGcl_canopy (p : Nat) (f : GateSt → GateSt) : (d.modGcl p f).canopy = d.canopy := rfl
@[simp] theorem Dev.modGcl_plat (p : Nat) (f : GateSt → GateSt) : (d.modGcl p f).plat = d.plat := rfl
@[simp] theorem Dev.modGcl_gv (p : Nat) (f : GateSt → GateSt) : (d.modGcl p f).gv = d.gv := rfl
@[simp] theorem Dev.modGcl_todo (p : Nat) (f : GateSt → GateSt) : (d.modGcl p f).todo = d.todo := rfl
@[simp] theorem Dev.modGcl_chan (p : Nat) (f : GateSt → GateSt) : (d.modGcl p f).chan = d.chan := rfl
@[simp] theorem Dev.modGcl_ports (p : Nat) (f : GateSt → GateSt) : (d.modGcl p f).ports = d.ports := rfl
@[simp] theorem Dev.modGcl_msc (p : Nat) (f : GateSt → GateSt) : (d.modGcl p f).msc = d.msc := rfl
@[simp] theorem Dev.modGcl_msa (p : Nat) (f : GateSt → GateSt) : (d.modGcl p f).msa = d.msa := rfl
@[simp] theorem Dev.modGcl_learnq (p : Nat) (f : GateSt → GateSt) : (d.modGcl p f).learnq = d.learnq := rfl
@[simp] theorem Dev.modGcl_lk (p : Nat) (f : GateSt → GateSt) : (d.modGcl p f).lk = d.lk := rfl
@[simp] theorem Dev.modGcl_sw (p : Nat) (f : GateSt → GateSt) : (d.modGcl p f).sw = d.sw := rfl
@[simp] theorem Dev.modGcl_cp (p : Nat) (f : GateSt → GateSt) : (d.modGcl p f).cp = d.cp := rfl
@[simp] theorem Dev.modGcl_slp (p : Nat) (f : GateSt → GateSt) : (d.modGcl p f).slp = d.slp := rfl
@[simp] theorem Dev.modGcl_clr (p : Nat) (f : GateSt → GateSt) : (d.modGcl p f).clr = d.clr := rfl
@[simp] theorem Dev.modGcl_sc (p : Nat) (f : GateSt → GateSt) : (d.modGcl p f).sc = d.sc := rfl
@[simp] theorem Dev.modGcl_sap (p : Nat) (f : GateSt → GateSt) : (d.modGcl p f).sap = d.sap := rfl
@[simp] theorem Dev.modGcl_inject (p : Nat) (f : GateSt → GateSt) : (d.modGcl p f).inject = d.inject := rfl
@[simp] theorem Dev.modGcl_ch (p : Nat) (f : GateSt → GateSt) : (d.modGcl p f).ch = d.ch := rfl
@[simp] theorem Dev.modGcl_mram (p : Nat) (f : GateSt → GateSt) : (d.modGcl p f).mram = d.mram := rfl
@[simp] theorem Dev.modGcl_scrub (p : Nat) (f : GateSt → GateSt) : (d.modGcl p f).scrub = d.scrub := rfl
@[simp] theorem Dev.modGcl_word (p : Nat) (f : GateSt → GateSt) (x : Nat) : (d.modGcl p f).word x = d.word x := rfl
@[simp] theorem Dev.modGcl_get (p : Nat) (f : GateSt → GateSt) (x : Fld) : (d.modGcl p f).get x = d.get x := rfl
@[simp] theorem Dev.modGcl_flag (p : Nat) (f : GateSt → GateSt) (x : Fld) : (d.modGcl p f).flag x = d.flag x := rfl

/-! ### Dev.modRing -/

@[simp] theorem Dev.modRing_regs (r : Nat) (f : LogRing → LogRing) : (d.modRing r f).regs = d.regs := rfl
@[simp] theorem Dev.modRing_out (r : Nat) (f : LogRing → LogRing) : (d.modRing r f).out = d.out := rfl
@[simp] theorem Dev.modRing_freeIx (r : Nat) (f : LogRing → LogRing) : (d.modRing r f).freeIx = d.freeIx := rfl
@[simp] theorem Dev.modRing_hb (r : Nat) (f : LogRing → LogRing) : (d.modRing r f).hb = d.hb := rfl
@[simp] theorem Dev.modRing_tl (r : Nat) (f : LogRing → LogRing) : (d.modRing r f).tl = d.tl := rfl
@[simp] theorem Dev.modRing_canopy (r : Nat) (f : LogRing → LogRing) : (d.modRing r f).canopy = d.canopy := rfl
@[simp] theorem Dev.modRing_plat (r : Nat) (f : LogRing → LogRing) : (d.modRing r f).plat = d.plat := rfl
@[simp] theorem Dev.modRing_gv (r : Nat) (f : LogRing → LogRing) : (d.modRing r f).gv = d.gv := rfl
@[simp] theorem Dev.modRing_todo (r : Nat) (f : LogRing → LogRing) : (d.modRing r f).todo = d.todo := rfl
@[simp] theorem Dev.modRing_chan (r : Nat) (f : LogRing → LogRing) : (d.modRing r f).chan = d.chan := rfl
@[simp] theorem Dev.modRing_ports (r : Nat) (f : LogRing → LogRing) : (d.modRing r f).ports = d.ports := rfl
@[simp] theorem Dev.modRing_msc (r : Nat) (f : LogRing → LogRing) : (d.modRing r f).msc = d.msc := rfl
@[simp] theorem Dev.modRing_msa (r : Nat) (f : LogRing → LogRing) : (d.modRing r f).msa = d.msa := rfl
@[simp] theorem Dev.modRing_learnq (r : Nat) (f : LogRing → LogRing) : (d.modRing r f).learnq = d.learnq := rfl
@[simp] theorem Dev.modRing_lk (r : Nat) (f : LogRing → LogRing) : (d.modRing r f).lk = d.lk := rfl
@[simp] theorem Dev.modRing_sw (r : Nat) (f : LogRing → LogRing) : (d.modRing r f).sw = d.sw := rfl
@[simp] theorem Dev.modRing_tm (r : Nat) (f : LogRing → LogRing) : (d.modRing r f).tm = d.tm := rfl
@[simp] theorem Dev.modRing_slp (r : Nat) (f : LogRing → LogRing) : (d.modRing r f).slp = d.slp := rfl
@[simp] theorem Dev.modRing_clr (r : Nat) (f : LogRing → LogRing) : (d.modRing r f).clr = d.clr := rfl
@[simp] theorem Dev.modRing_sc (r : Nat) (f : LogRing → LogRing) : (d.modRing r f).sc = d.sc := rfl
@[simp] theorem Dev.modRing_sap (r : Nat) (f : LogRing → LogRing) : (d.modRing r f).sap = d.sap := rfl
@[simp] theorem Dev.modRing_inject (r : Nat) (f : LogRing → LogRing) : (d.modRing r f).inject = d.inject := rfl
@[simp] theorem Dev.modRing_ch (r : Nat) (f : LogRing → LogRing) : (d.modRing r f).ch = d.ch := rfl
@[simp] theorem Dev.modRing_mram (r : Nat) (f : LogRing → LogRing) : (d.modRing r f).mram = d.mram := rfl
@[simp] theorem Dev.modRing_scrub (r : Nat) (f : LogRing → LogRing) : (d.modRing r f).scrub = d.scrub := rfl
@[simp] theorem Dev.modRing_word (r : Nat) (f : LogRing → LogRing) (x : Nat) : (d.modRing r f).word x = d.word x := rfl
@[simp] theorem Dev.modRing_get (r : Nat) (f : LogRing → LogRing) (x : Fld) : (d.modRing r f).get x = d.get x := rfl
@[simp] theorem Dev.modRing_flag (r : Nat) (f : LogRing → LogRing) (x : Fld) : (d.modRing r f).flag x = d.flag x := rfl

/-! ### Dev.setWake -/

@[simp] theorem Dev.setWake_regs (g : Nat) (w : Option GroupWake) : (d.setWake g w).regs = d.regs := rfl
@[simp] theorem Dev.setWake_out (g : Nat) (w : Option GroupWake) : (d.setWake g w).out = d.out := rfl
@[simp] theorem Dev.setWake_freeIx (g : Nat) (w : Option GroupWake) : (d.setWake g w).freeIx = d.freeIx := rfl
@[simp] theorem Dev.setWake_hb (g : Nat) (w : Option GroupWake) : (d.setWake g w).hb = d.hb := rfl
@[simp] theorem Dev.setWake_tl (g : Nat) (w : Option GroupWake) : (d.setWake g w).tl = d.tl := rfl
@[simp] theorem Dev.setWake_canopy (g : Nat) (w : Option GroupWake) : (d.setWake g w).canopy = d.canopy := rfl
@[simp] theorem Dev.setWake_plat (g : Nat) (w : Option GroupWake) : (d.setWake g w).plat = d.plat := rfl
@[simp] theorem Dev.setWake_gv (g : Nat) (w : Option GroupWake) : (d.setWake g w).gv = d.gv := rfl
@[simp] theorem Dev.setWake_todo (g : Nat) (w : Option GroupWake) : (d.setWake g w).todo = d.todo := rfl
@[simp] theorem Dev.setWake_chan (g : Nat) (w : Option GroupWake) : (d.setWake g w).chan = d.chan := rfl
@[simp] theorem Dev.setWake_ports (g : Nat) (w : Option GroupWake) : (d.setWake g w).ports = d.ports := rfl
@[simp] theorem Dev.setWake_msc (g : Nat) (w : Option GroupWake) : (d.setWake g w).msc = d.msc := rfl
@[simp] theorem Dev.setWake_msa (g : Nat) (w : Option GroupWake) : (d.setWake g w).msa = d.msa := rfl
@[simp] theorem Dev.setWake_learnq (g : Nat) (w : Option GroupWake) : (d.setWake g w).learnq = d.learnq := rfl
@[simp] theorem Dev.setWake_lk (g : Nat) (w : Option GroupWake) : (d.setWake g w).lk = d.lk := rfl
@[simp] theorem Dev.setWake_sw (g : Nat) (w : Option GroupWake) : (d.setWake g w).sw = d.sw := rfl
@[simp] theorem Dev.setWake_tm (g : Nat) (w : Option GroupWake) : (d.setWake g w).tm = d.tm := rfl
@[simp] theorem Dev.setWake_cp (g : Nat) (w : Option GroupWake) : (d.setWake g w).cp = d.cp := rfl
@[simp] theorem Dev.setWake_clr (g : Nat) (w : Option GroupWake) : (d.setWake g w).clr = d.clr := rfl
@[simp] theorem Dev.setWake_sc (g : Nat) (w : Option GroupWake) : (d.setWake g w).sc = d.sc := rfl
@[simp] theorem Dev.setWake_sap (g : Nat) (w : Option GroupWake) : (d.setWake g w).sap = d.sap := rfl
@[simp] theorem Dev.setWake_inject (g : Nat) (w : Option GroupWake) : (d.setWake g w).inject = d.inject := rfl
@[simp] theorem Dev.setWake_ch (g : Nat) (w : Option GroupWake) : (d.setWake g w).ch = d.ch := rfl
@[simp] theorem Dev.setWake_mram (g : Nat) (w : Option GroupWake) : (d.setWake g w).mram = d.mram := rfl
@[simp] theorem Dev.setWake_scrub (g : Nat) (w : Option GroupWake) : (d.setWake g w).scrub = d.scrub := rfl
@[simp] theorem Dev.setWake_word (g : Nat) (w : Option GroupWake) (x : Nat) : (d.setWake g w).word x = d.word x := rfl
@[simp] theorem Dev.setWake_get (g : Nat) (w : Option GroupWake) (x : Fld) : (d.setWake g w).get x = d.get x := rfl
@[simp] theorem Dev.setWake_flag (g : Nat) (w : Option GroupWake) (x : Fld) : (d.setWake g w).flag x = d.flag x := rfl

/-! ### Dev.setGroup -/

@[simp] theorem Dev.setGroup_out (g st : Nat) : (d.setGroup g st).out = d.out := rfl
@[simp] theorem Dev.setGroup_freeIx (g st : Nat) : (d.setGroup g st).freeIx = d.freeIx := rfl
@[simp] theorem Dev.setGroup_hb (g st : Nat) : (d.setGroup g st).hb = d.hb := rfl
@[simp] theorem Dev.setGroup_tl (g st : Nat) : (d.setGroup g st).tl = d.tl := rfl
@[simp] theorem Dev.setGroup_canopy (g st : Nat) : (d.setGroup g st).canopy = d.canopy := rfl
@[simp] theorem Dev.setGroup_plat (g st : Nat) : (d.setGroup g st).plat = d.plat := rfl
@[simp] theorem Dev.setGroup_gv (g st : Nat) : (d.setGroup g st).gv = d.gv := rfl
@[simp] theorem Dev.setGroup_todo (g st : Nat) : (d.setGroup g st).todo = d.todo := rfl
@[simp] theorem Dev.setGroup_chan (g st : Nat) : (d.setGroup g st).chan = d.chan := rfl
@[simp] theorem Dev.setGroup_ports (g st : Nat) : (d.setGroup g st).ports = d.ports := rfl
@[simp] theorem Dev.setGroup_msc (g st : Nat) : (d.setGroup g st).msc = d.msc := rfl
@[simp] theorem Dev.setGroup_msa (g st : Nat) : (d.setGroup g st).msa = d.msa := rfl
@[simp] theorem Dev.setGroup_learnq (g st : Nat) : (d.setGroup g st).learnq = d.learnq := rfl
@[simp] theorem Dev.setGroup_lk (g st : Nat) : (d.setGroup g st).lk = d.lk := rfl
@[simp] theorem Dev.setGroup_sw (g st : Nat) : (d.setGroup g st).sw = d.sw := rfl
@[simp] theorem Dev.setGroup_tm (g st : Nat) : (d.setGroup g st).tm = d.tm := rfl
@[simp] theorem Dev.setGroup_cp (g st : Nat) : (d.setGroup g st).cp = d.cp := rfl
@[simp] theorem Dev.setGroup_slp (g st : Nat) : (d.setGroup g st).slp = d.slp := rfl
@[simp] theorem Dev.setGroup_clr (g st : Nat) : (d.setGroup g st).clr = d.clr := rfl
@[simp] theorem Dev.setGroup_sc (g st : Nat) : (d.setGroup g st).sc = d.sc := rfl
@[simp] theorem Dev.setGroup_sap (g st : Nat) : (d.setGroup g st).sap = d.sap := rfl
@[simp] theorem Dev.setGroup_inject (g st : Nat) : (d.setGroup g st).inject = d.inject := rfl
@[simp] theorem Dev.setGroup_ch (g st : Nat) : (d.setGroup g st).ch = d.ch := rfl
@[simp] theorem Dev.setGroup_mram (g st : Nat) : (d.setGroup g st).mram = d.mram := rfl
@[simp] theorem Dev.setGroup_scrub (g st : Nat) : (d.setGroup g st).scrub = d.scrub := rfl

/-! ### Dev.wordsWritten -/

@[simp] theorem Dev.wordsWritten_regs (p : Nat × Nat × Nat → Bool) : (d.wordsWritten p).regs = d.regs := rfl
@[simp] theorem Dev.wordsWritten_out (p : Nat × Nat × Nat → Bool) : (d.wordsWritten p).out = d.out := rfl
@[simp] theorem Dev.wordsWritten_freeIx (p : Nat × Nat × Nat → Bool) : (d.wordsWritten p).freeIx = d.freeIx := rfl
@[simp] theorem Dev.wordsWritten_hb (p : Nat × Nat × Nat → Bool) : (d.wordsWritten p).hb = d.hb := rfl
@[simp] theorem Dev.wordsWritten_tl (p : Nat × Nat × Nat → Bool) : (d.wordsWritten p).tl = d.tl := rfl
@[simp] theorem Dev.wordsWritten_canopy (p : Nat × Nat × Nat → Bool) : (d.wordsWritten p).canopy = d.canopy := rfl
@[simp] theorem Dev.wordsWritten_plat (p : Nat × Nat × Nat → Bool) : (d.wordsWritten p).plat = d.plat := rfl
@[simp] theorem Dev.wordsWritten_gv (p : Nat × Nat × Nat → Bool) : (d.wordsWritten p).gv = d.gv := rfl
@[simp] theorem Dev.wordsWritten_todo (p : Nat × Nat × Nat → Bool) : (d.wordsWritten p).todo = d.todo := rfl
@[simp] theorem Dev.wordsWritten_ports (p : Nat × Nat × Nat → Bool) : (d.wordsWritten p).ports = d.ports := rfl
@[simp] theorem Dev.wordsWritten_msc (p : Nat × Nat × Nat → Bool) : (d.wordsWritten p).msc = d.msc := rfl
@[simp] theorem Dev.wordsWritten_msa (p : Nat × Nat × Nat → Bool) : (d.wordsWritten p).msa = d.msa := rfl
@[simp] theorem Dev.wordsWritten_learnq (p : Nat × Nat × Nat → Bool) : (d.wordsWritten p).learnq = d.learnq := rfl
@[simp] theorem Dev.wordsWritten_lk (p : Nat × Nat × Nat → Bool) : (d.wordsWritten p).lk = d.lk := rfl
@[simp] theorem Dev.wordsWritten_sw (p : Nat × Nat × Nat → Bool) : (d.wordsWritten p).sw = d.sw := rfl
@[simp] theorem Dev.wordsWritten_tm (p : Nat × Nat × Nat → Bool) : (d.wordsWritten p).tm = d.tm := rfl
@[simp] theorem Dev.wordsWritten_cp (p : Nat × Nat × Nat → Bool) : (d.wordsWritten p).cp = d.cp := rfl
@[simp] theorem Dev.wordsWritten_slp (p : Nat × Nat × Nat → Bool) : (d.wordsWritten p).slp = d.slp := rfl
@[simp] theorem Dev.wordsWritten_clr (p : Nat × Nat × Nat → Bool) : (d.wordsWritten p).clr = d.clr := rfl
@[simp] theorem Dev.wordsWritten_sc (p : Nat × Nat × Nat → Bool) : (d.wordsWritten p).sc = d.sc := rfl
@[simp] theorem Dev.wordsWritten_sap (p : Nat × Nat × Nat → Bool) : (d.wordsWritten p).sap = d.sap := rfl
@[simp] theorem Dev.wordsWritten_ch (p : Nat × Nat × Nat → Bool) : (d.wordsWritten p).ch = d.ch := rfl
@[simp] theorem Dev.wordsWritten_mram (p : Nat × Nat × Nat → Bool) : (d.wordsWritten p).mram = d.mram := rfl
@[simp] theorem Dev.wordsWritten_chan (p : Nat × Nat × Nat → Bool) : (d.wordsWritten p).chan = d.chan := rfl
@[simp] theorem Dev.wordsWritten_word (p : Nat × Nat × Nat → Bool) (x : Nat) : (d.wordsWritten p).word x = d.word x := rfl
@[simp] theorem Dev.wordsWritten_get (p : Nat × Nat × Nat → Bool) (x : Fld) : (d.wordsWritten p).get x = d.get x := rfl
@[simp] theorem Dev.wordsWritten_flag (p : Nat × Nat × Nat → Bool) (x : Fld) : (d.wordsWritten p).flag x = d.flag x := rfl

/-! ### Dev.ramWrite -/

@[simp] theorem Dev.ramWrite_regs (c a : Nat) (bs : List Byte) : (d.ramWrite c a bs).regs = d.regs := rfl
@[simp] theorem Dev.ramWrite_out (c a : Nat) (bs : List Byte) : (d.ramWrite c a bs).out = d.out := rfl
@[simp] theorem Dev.ramWrite_freeIx (c a : Nat) (bs : List Byte) : (d.ramWrite c a bs).freeIx = d.freeIx := rfl
@[simp] theorem Dev.ramWrite_hb (c a : Nat) (bs : List Byte) : (d.ramWrite c a bs).hb = d.hb := rfl
@[simp] theorem Dev.ramWrite_tl (c a : Nat) (bs : List Byte) : (d.ramWrite c a bs).tl = d.tl := rfl
@[simp] theorem Dev.ramWrite_canopy (c a : Nat) (bs : List Byte) : (d.ramWrite c a bs).canopy = d.canopy := rfl
@[simp] theorem Dev.ramWrite_plat (c a : Nat) (bs : List Byte) : (d.ramWrite c a bs).plat = d.plat := rfl
@[simp] theorem Dev.ramWrite_gv (c a : Nat) (bs : List Byte) : (d.ramWrite c a bs).gv = d.gv := rfl
@[simp] theorem Dev.ramWrite_todo (c a : Nat) (bs : List Byte) : (d.ramWrite c a bs).todo = d.todo := rfl
@[simp] theorem Dev.ramWrite_ports (c a : Nat) (bs : List Byte) : (d.ramWrite c a bs).ports = d.ports := rfl
@[simp] theorem Dev.ramWrite_msc (c a : Nat) (bs : List Byte) : (d.ramWrite c a bs).msc = d.msc := rfl
@[simp] theorem Dev.ramWrite_msa (c a : Nat) (bs : List Byte) : (d.ramWrite c a bs).msa = d.msa := rfl
@[simp] theorem Dev.ramWrite_learnq (c a : Nat) (bs : List Byte) : (d.ramWrite c a bs).learnq = d.learnq := rfl
@[simp] theorem Dev.ramWrite_lk (c a : Nat) (bs : List Byte) : (d.ramWrite c a bs).lk = d.lk := rfl
@[simp] theorem Dev.ramWrite_sw (c a : Nat) (bs : List Byte) : (d.ramWrite c a bs).sw = d.sw := rfl
@[simp] theorem Dev.ramWrite_tm (c a : Nat) (bs : List Byte) : (d.ramWrite c a bs).tm = d.tm := rfl
@[simp] theorem Dev.ramWrite_cp (c a : Nat) (bs : List Byte) : (d.ramWrite c a bs).cp = d.cp := rfl
@[simp] theorem Dev.ramWrite_slp (c a : Nat) (bs : List Byte) : (d.ramWrite c a bs).slp = d.slp := rfl
@[simp] theorem Dev.ramWrite_clr (c a : Nat) (bs : List Byte) : (d.ramWrite c a bs).clr = d.clr := rfl
@[simp] theorem Dev.ramWrite_sc (c a : Nat) (bs : List Byte) : (d.ramWrite c a bs).sc = d.sc := rfl
@[simp] theorem Dev.ramWrite_sap (c a : Nat) (bs : List Byte) : (d.ramWrite c a bs).sap = d.sap := rfl
@[simp] theorem Dev.ramWrite_ch (c a : Nat) (bs : List Byte) : (d.ramWrite c a bs).ch = d.ch := rfl
@[simp] theorem Dev.ramWrite_mram (c a : Nat) (bs : List Byte) : (d.ramWrite c a bs).mram = d.mram := rfl
@[simp] theorem Dev.ramWrite_word (c a : Nat) (bs : List Byte) (x : Nat) : (d.ramWrite c a bs).word x = d.word x := rfl
@[simp] theorem Dev.ramWrite_get (c a : Nat) (bs : List Byte) (x : Fld) : (d.ramWrite c a bs).get x = d.get x := rfl
@[simp] theorem Dev.ramWrite_flag (c a : Nat) (bs : List Byte) (x : Fld) : (d.ramWrite c a bs).flag x = d.flag x := rfl

/-! ### Dev.setFilter -/

@[simp] theorem Dev.setFilter_regs (s h : Nat) (f : SfEntry) : (d.setFilter s h f).regs = d.regs := rfl
@[simp] theorem Dev.setFilter_out (s h : Nat) (f : SfEntry) : (d.setFilter s h f).out = d.out := rfl
@[simp] theorem Dev.setFilter_freeIx (s h : Nat) (f : SfEntry) : (d.setFilter s h f).freeIx = d.freeIx := rfl
@[simp] theorem Dev.setFilter_hb (s h : Nat) (f : SfEntry) : (d.setFilter s h f).hb = d.hb := rfl
@[simp] theorem Dev.setFilter_tl (s h : Nat) (f : SfEntry) : (d.setFilter s h f).tl = d.tl := rfl
@[simp] theorem Dev.setFilter_canopy (s h : Nat) (f : SfEntry) : (d.setFilter s h f).canopy = d.canopy := rfl
@[simp] theorem Dev.setFilter_plat (s h : Nat) (f : SfEntry) : (d.setFilter s h f).plat = d.plat := rfl
@[simp] theorem Dev.setFilter_gv (s h : Nat) (f : SfEntry) : (d.setFilter s h f).gv = d.gv := rfl
@[simp] theorem Dev.setFilter_todo (s h : Nat) (f : SfEntry) : (d.setFilter s h f).todo = d.todo := rfl
@[simp] theorem Dev.setFilter_chan (s h : Nat) (f : SfEntry) : (d.setFilter s h f).chan = d.chan := rfl
@[simp] theorem Dev.setFilter_ports (s h : Nat) (f : SfEntry) : (d.setFilter s h f).ports = d.ports := rfl
@[simp] theorem Dev.setFilter_msc (s h : Nat) (f : SfEntry) : (d.setFilter s h f).msc = d.msc := rfl
@[simp] theorem Dev.setFilter_msa (s h : Nat) (f : SfEntry) : (d.setFilter s h f).msa = d.msa := rfl
@[simp] theorem Dev.setFilter_learnq (s h : Nat) (f : SfEntry) : (d.setFilter s h f).learnq = d.learnq := rfl
@[simp] theorem Dev.setFilter_sw (s h : Nat) (f : SfEntry) : (d.setFilter s h f).sw = d.sw := rfl
@[simp] theorem Dev.setFilter_tm (s h : Nat) (f : SfEntry) : (d.setFilter s h f).tm = d.tm := rfl
@[simp] theorem Dev.setFilter_cp (s h : Nat) (f : SfEntry) : (d.setFilter s h f).cp = d.cp := rfl
@[simp] theorem Dev.setFilter_slp (s h : Nat) (f : SfEntry) : (d.setFilter s h f).slp = d.slp := rfl
@[simp] theorem Dev.setFilter_clr (s h : Nat) (f : SfEntry) : (d.setFilter s h f).clr = d.clr := rfl
@[simp] theorem Dev.setFilter_sc (s h : Nat) (f : SfEntry) : (d.setFilter s h f).sc = d.sc := rfl
@[simp] theorem Dev.setFilter_sap (s h : Nat) (f : SfEntry) : (d.setFilter s h f).sap = d.sap := rfl
@[simp] theorem Dev.setFilter_inject (s h : Nat) (f : SfEntry) : (d.setFilter s h f).inject = d.inject := rfl
@[simp] theorem Dev.setFilter_ch (s h : Nat) (f : SfEntry) : (d.setFilter s h f).ch = d.ch := rfl
@[simp] theorem Dev.setFilter_mram (s h : Nat) (f : SfEntry) : (d.setFilter s h f).mram = d.mram := rfl
@[simp] theorem Dev.setFilter_scrub (s h : Nat) (f : SfEntry) : (d.setFilter s h f).scrub = d.scrub := rfl
@[simp] theorem Dev.setFilter_word (s h : Nat) (f : SfEntry) (x : Nat) : (d.setFilter s h f).word x = d.word x := rfl
@[simp] theorem Dev.setFilter_get (s h : Nat) (f : SfEntry) (x : Fld) : (d.setFilter s h f).get x = d.get x := rfl
@[simp] theorem Dev.setFilter_flag (s h : Nat) (f : SfEntry) (x : Fld) : (d.setFilter s h f).flag x = d.flag x := rfl

/-! ### Dev.setSlot -/

@[simp] theorem Dev.setSlot_regs (i : Nat) (b : List Byte) : (d.setSlot i b).regs = d.regs := rfl
@[simp] theorem Dev.setSlot_out (i : Nat) (b : List Byte) : (d.setSlot i b).out = d.out := rfl
@[simp] theorem Dev.setSlot_freeIx (i : Nat) (b : List Byte) : (d.setSlot i b).freeIx = d.freeIx := rfl
@[simp] theorem Dev.setSlot_hb (i : Nat) (b : List Byte) : (d.setSlot i b).hb = d.hb := rfl
@[simp] theorem Dev.setSlot_tl (i : Nat) (b : List Byte) : (d.setSlot i b).tl = d.tl := rfl
@[simp] theorem Dev.setSlot_canopy (i : Nat) (b : List Byte) : (d.setSlot i b).canopy = d.canopy := rfl
@[simp] theorem Dev.setSlot_plat (i : Nat) (b : List Byte) : (d.setSlot i b).plat = d.plat := rfl
@[simp] theorem Dev.setSlot_gv (i : Nat) (b : List Byte) : (d.setSlot i b).gv = d.gv := rfl
@[simp] theorem Dev.setSlot_todo (i : Nat) (b : List Byte) : (d.setSlot i b).todo = d.todo := rfl
@[simp] theorem Dev.setSlot_chan (i : Nat) (b : List Byte) : (d.setSlot i b).chan = d.chan := rfl
@[simp] theorem Dev.setSlot_ports (i : Nat) (b : List Byte) : (d.setSlot i b).ports = d.ports := rfl
@[simp] theorem Dev.setSlot_msc (i : Nat) (b : List Byte) : (d.setSlot i b).msc = d.msc := rfl
@[simp] theorem Dev.setSlot_msa (i : Nat) (b : List Byte) : (d.setSlot i b).msa = d.msa := rfl
@[simp] theorem Dev.setSlot_learnq (i : Nat) (b : List Byte) : (d.setSlot i b).learnq = d.learnq := rfl
@[simp] theorem Dev.setSlot_lk (i : Nat) (b : List Byte) : (d.setSlot i b).lk = d.lk := rfl
@[simp] theorem Dev.setSlot_sw (i : Nat) (b : List Byte) : (d.setSlot i b).sw = d.sw := rfl
@[simp] theorem Dev.setSlot_tm (i : Nat) (b : List Byte) : (d.setSlot i b).tm = d.tm := rfl
@[simp] theorem Dev.setSlot_cp (i : Nat) (b : List Byte) : (d.setSlot i b).cp = d.cp := rfl
@[simp] theorem Dev.setSlot_slp (i : Nat) (b : List Byte) : (d.setSlot i b).slp = d.slp := rfl
@[simp] theorem Dev.setSlot_clr (i : Nat) (b : List Byte) : (d.setSlot i b).clr = d.clr := rfl
@[simp] theorem Dev.setSlot_sc (i : Nat) (b : List Byte) : (d.setSlot i b).sc = d.sc := rfl
@[simp] theorem Dev.setSlot_sap (i : Nat) (b : List Byte) : (d.setSlot i b).sap = d.sap := rfl
@[simp] theorem Dev.setSlot_inject (i : Nat) (b : List Byte) : (d.setSlot i b).inject = d.inject := rfl
@[simp] theorem Dev.setSlot_mram (i : Nat) (b : List Byte) : (d.setSlot i b).mram = d.mram := rfl
@[simp] theorem Dev.setSlot_scrub (i : Nat) (b : List Byte) : (d.setSlot i b).scrub = d.scrub := rfl
@[simp] theorem Dev.setSlot_word (i : Nat) (b : List Byte) (x : Nat) : (d.setSlot i b).word x = d.word x := rfl
@[simp] theorem Dev.setSlot_get (i : Nat) (b : List Byte) (x : Fld) : (d.setSlot i b).get x = d.get x := rfl
@[simp] theorem Dev.setSlot_flag (i : Nat) (b : List Byte) (x : Fld) : (d.setSlot i b).flag x = d.flag x := rfl

/-! ### Dev.modFrame -/

@[simp] theorem Dev.modFrame_regs (id : Nat) (f : GFrame → GFrame) : (d.modFrame id f).regs = d.regs := rfl
@[simp] theorem Dev.modFrame_out (id : Nat) (f : GFrame → GFrame) : (d.modFrame id f).out = d.out := rfl
@[simp] theorem Dev.modFrame_freeIx (id : Nat) (f : GFrame → GFrame) : (d.modFrame id f).freeIx = d.freeIx := rfl
@[simp] theorem Dev.modFrame_hb (id : Nat) (f : GFrame → GFrame) : (d.modFrame id f).hb = d.hb := rfl
@[simp] theorem Dev.modFrame_tl (id : Nat) (f : GFrame → GFrame) : (d.modFrame id f).tl = d.tl := rfl
@[simp] theorem Dev.modFrame_canopy (id : Nat) (f : GFrame → GFrame) : (d.modFrame id f).canopy = d.canopy := rfl
@[simp] theorem Dev.modFrame_plat (id : Nat) (f : GFrame → GFrame) : (d.modFrame id f).plat = d.plat := rfl
@[simp] theorem Dev.modFrame_gv (id : Nat) (f : GFrame → GFrame) : (d.modFrame id f).gv = d.gv := rfl
@[simp] theorem Dev.modFrame_todo (id : Nat) (f : GFrame → GFrame) : (d.modFrame id f).todo = d.todo := rfl
@[simp] theorem Dev.modFrame_chan (id : Nat) (f : GFrame → GFrame) : (d.modFrame id f).chan = d.chan := rfl
@[simp] theorem Dev.modFrame_ports (id : Nat) (f : GFrame → GFrame) : (d.modFrame id f).ports = d.ports := rfl
@[simp] theorem Dev.modFrame_msc (id : Nat) (f : GFrame → GFrame) : (d.modFrame id f).msc = d.msc := rfl
@[simp] theorem Dev.modFrame_msa (id : Nat) (f : GFrame → GFrame) : (d.modFrame id f).msa = d.msa := rfl
@[simp] theorem Dev.modFrame_learnq (id : Nat) (f : GFrame → GFrame) : (d.modFrame id f).learnq = d.learnq := rfl
@[simp] theorem Dev.modFrame_lk (id : Nat) (f : GFrame → GFrame) : (d.modFrame id f).lk = d.lk := rfl
@[simp] theorem Dev.modFrame_tm (id : Nat) (f : GFrame → GFrame) : (d.modFrame id f).tm = d.tm := rfl
@[simp] theorem Dev.modFrame_cp (id : Nat) (f : GFrame → GFrame) : (d.modFrame id f).cp = d.cp := rfl
@[simp] theorem Dev.modFrame_slp (id : Nat) (f : GFrame → GFrame) : (d.modFrame id f).slp = d.slp := rfl
@[simp] theorem Dev.modFrame_clr (id : Nat) (f : GFrame → GFrame) : (d.modFrame id f).clr = d.clr := rfl
@[simp] theorem Dev.modFrame_sc (id : Nat) (f : GFrame → GFrame) : (d.modFrame id f).sc = d.sc := rfl
@[simp] theorem Dev.modFrame_sap (id : Nat) (f : GFrame → GFrame) : (d.modFrame id f).sap = d.sap := rfl
@[simp] theorem Dev.modFrame_inject (id : Nat) (f : GFrame → GFrame) : (d.modFrame id f).inject = d.inject := rfl
@[simp] theorem Dev.modFrame_ch (id : Nat) (f : GFrame → GFrame) : (d.modFrame id f).ch = d.ch := rfl
@[simp] theorem Dev.modFrame_mram (id : Nat) (f : GFrame → GFrame) : (d.modFrame id f).mram = d.mram := rfl
@[simp] theorem Dev.modFrame_scrub (id : Nat) (f : GFrame → GFrame) : (d.modFrame id f).scrub = d.scrub := rfl
@[simp] theorem Dev.modFrame_word (id : Nat) (f : GFrame → GFrame) (x : Nat) : (d.modFrame id f).word x = d.word x := rfl
@[simp] theorem Dev.modFrame_get (id : Nat) (f : GFrame → GFrame) (x : Fld) : (d.modFrame id f).get x = d.get x := rfl
@[simp] theorem Dev.modFrame_flag (id : Nat) (f : GFrame → GFrame) (x : Fld) : (d.modFrame id f).flag x = d.flag x := rfl

/-! ### The register file -/

@[simp] theorem Dev.word_setWord_same (a : Nat) (v : Word) : (d.setWord a v).word a = v := by
  simp [Dev.word, Dev.setWord]

theorem Dev.word_setWord_other (a b : Nat) (v : Word) (h : b ≠ a) : (d.setWord a v).word b = d.word b := by
  simp [Dev.word, Dev.setWord, tabGet_tabSet_other _ _ _ _ _ h]

theorem Dev.word_put_other (f : Fld) (v b : Nat) (h : b ≠ f.addr) : (d.put f v).word b = d.word b :=
  d.word_setWord_other _ _ _ h

/-- A field reads as the device wrote it. -/
theorem Dev.get_put (f : Fld) (v : Nat) (h : f.lo + f.width ≤ 32) : (d.put f v).get f = v % 2 ^ f.width := by
  simp [Dev.get, Dev.put, wordBits_wordPut _ _ _ _ h]

/-- A field of another register stays. -/
theorem Dev.get_put_other (f g : Fld) (v : Nat) (h : g.addr ≠ f.addr) : (d.put f v).get g = d.get g := by
  simp [Dev.get, d.word_put_other f v g.addr h]

/-- A field beside the one written stays. -/
theorem Dev.get_put_beside (f g : Fld) (v : Nat) (hw : f.lo + f.width ≤ 32)
    (h : g.lo + g.width ≤ f.lo ∨ f.lo + f.width ≤ g.lo) : (d.put f v).get g = d.get g := by
  by_cases ha : g.addr = f.addr
  · simp [Dev.get, Dev.put, ha, wordBits_wordPut_other _ _ _ _ _ _ hw h]
  · exact d.get_put_other f g v ha

/-- Two fields of the register map that do not overlap. -/
def Fld.apart (f g : Fld) : Prop := g.addr ≠ f.addr ∨ g.lo + g.width ≤ f.lo ∨ f.lo + f.width ≤ g.lo

theorem Dev.get_put_apart (f g : Fld) (v : Nat) (hw : f.lo + f.width ≤ 32) (h : f.apart g) :
    (d.put f v).get g = d.get g := by
  rcases h with h | h
  · exact d.get_put_other f g v h
  · exact d.get_put_beside f g v hw h

theorem Dev.flag_putFlag (f : Fld) (b : Bool) (h : f.lo + f.width ≤ 32) (hw : 1 ≤ f.width) :
    (d.putFlag f b).flag f = b := by
  have h2 : 1 < 2 ^ f.width := Nat.one_lt_two_pow (by omega)
  rw [Dev.flag, Dev.putFlag, d.get_put f _ h]
  cases b
  · simp [boolNat]
  · simp [boolNat, Nat.mod_eq_of_lt h2]

theorem Dev.flag_put_apart (f g : Fld) (v : Nat) (hw : f.lo + f.width ≤ 32) (h : f.apart g) :
    (d.put f v).flag g = d.flag g := by
  rw [Dev.flag, Dev.flag, d.get_put_apart f g v hw h]

theorem Dev.flag_putFlag_apart (f g : Fld) (b : Bool) (hw : f.lo + f.width ≤ 32) (h : f.apart g) :
    (d.putFlag f b).flag g = d.flag g := d.flag_put_apart f g _ hw h

theorem Dev.get_putFlag_apart (f g : Fld) (b : Bool) (hw : f.lo + f.width ≤ 32) (h : f.apart g) :
    (d.putFlag f b).get g = d.get g := d.get_put_apart f g _ hw h

theorem Dev.get_lt (f : Fld) : d.get f < 2 ^ f.width := bitsOf_lt _ _ _

/-- The register file keeps its canonical form. -/
theorem Dev.setWord_wf (a : Nat) (v : Word) (h : tabWf resetWord d.regs = true) :
    tabWf resetWord (d.setWord a v).regs = true := tabWf_tabSet _ _ _ _ h

theorem Dev.put_wf (f : Fld) (v : Nat) (h : tabWf resetWord d.regs = true) :
    tabWf resetWord (d.put f v).regs = true := d.setWord_wf _ _ h

end Sys2Proof.Machine
end

