-- ==== Sys2Proof/Laws/Bus.lean ====
section
/-! SUPPORT. What a register write does once it reaches its register, and how a command ends. -/

namespace Sys2Proof.Machine
open Sys2Proof

/-- A write that reaches its register is judged there, and otherwise refused. -/
theorem Dev.busWrite_reaches (d d' : Dev) (i : Init) (addr : Nat) (v : Word) (judge : Dev → Wr)
    (h : d.reaches i addr = some d') :
    d.busWrite i addr v true judge =
      match judge d' with
      | .ok x => x
      | .no code => d'.failWrite i addr v code := by
  unfold Dev.reaches at h
  unfold Dev.busWrite
  cases hp : portOf i with
  | none =>
    simp only [hp] at h ⊢
    split at h
    · next hc =>
      obtain rfl := Option.some.inj h
      cases hj : judge d <;> simp [Dev.attempt, hc, hj]
    · cases h
  | some p =>
    simp only [hp] at h ⊢
    split at h
    · next hc =>
      obtain ⟨hl, hc, hq⟩ := hc
      obtain rfl := Option.some.inj h
      simp only [hl, if_true]
      by_cases hown : pageOf addr = some (.hb (p + 1))
      · cases hj : judge (d.put (F.HB_WSEQ_SEQ p) (nextSeq (d.get (F.HB_WSEQ_SEQ p)))) <;>
          simp [hown, Dev.attempt, hc, hj]
      · have hq := hq.resolve_left hown
        have h1 : ((d.put (F.HB_WSEQ_SEQ p) (nextSeq (d.get (F.HB_WSEQ_SEQ p)))).pelFree p).isNone = false := by
          have := hq.1
          revert this
          cases (d.put (F.HB_WSEQ_SEQ p) (nextSeq (d.get (F.HB_WSEQ_SEQ p)))).pelFree p <;> simp
        cases hj : judge (d.put (F.HB_WSEQ_SEQ p) (nextSeq (d.get (F.HB_WSEQ_SEQ p)))) <;>
          simp [hown, h1, hq.2, Bool.or_self, Dev.attempt, hc, hj]
    · cases h

/-- A write that reaches its register and that the register takes. -/
theorem Dev.busWrite_taken (d d' d'' : Dev) (i : Init) (addr : Nat) (v : Word) (judge : Dev → Wr)
    (h : d.reaches i addr = some d') (hl : d'.lockedWrite addr v = false) (hj : judge d' = .ok d'') :
    d.busWrite i addr v true (judged addr v judge) = d'' := by
  rw [d.busWrite_reaches d' i addr v _ h]
  simp [judged, hl, hj]

/-- A write that reaches its register and that the register refuses. -/
theorem Dev.busWrite_refused (d d' : Dev) (i : Init) (addr : Nat) (v : Word) (judge : Dev → Wr) (code : Nat)
    (h : d.reaches i addr = some d') (hl : d'.lockedWrite addr v = false) (hj : judge d' = .no code) :
    d.busWrite i addr v true (judged addr v judge) = d'.failWrite i addr v code := by
  rw [d.busWrite_reaches d' i addr v _ h]
  simp [judged, hl, hj]

/-- R22, R367: under the lock a write that would change an RWL field is refused. -/
theorem Dev.busWrite_locked (d d' : Dev) (i : Init) (addr : Nat) (v : Word) (judge : Dev → Wr)
    (h : d.reaches i addr = some d') (hl : d'.lockedWrite addr v = true) :
    d.busWrite i addr v true (judged addr v judge) = d'.failWrite i addr v 0x0002 := by
  rw [d.busWrite_reaches d' i addr v _ h]
  simp [judged, hl]

/-- An initiator that is no PCIe port finds the device as it stands. -/
theorem Dev.reaches_internal (d : Dev) (i : Init) (addr : Nat) (hp : portOf i = none)
    (h : d.accessCode i addr true = none) : d.reaches i addr = some d := by
  simp [Dev.reaches, hp, h]

/-- A write outside Grove's tables and its signal store window has no part in a Sapling delta (R315). -/
theorem Dev.deltaCheck_other (d old : Dev) (who : Init) (addr : Nat) (h1 : inSignalWindow addr = false)
    (h2 : addr ≠ R.GV_TCMD) : d.deltaCheck old who addr = d := by
  unfold Dev.deltaCheck
  rw [if_neg]
  rintro ⟨-, -, h⟩
  rcases h with h | h
  · simp [h1] at h
  · exact h2 h

/-- A whole-word row as the register write it is. -/
theorem Dev.anyRow_taken (d d' d'' : Dev) (ident : List Byte) (who : Init) (addr : Nat) (v : Word)
    (ha : addr < 0x3000000) (h2 : addr ≠ R.GV_TCMD) (h : d.reaches who addr = some d')
    (hl : d'.lockedWrite addr v = false) (hj : d'.regWrite ident who addr v = .ok d'') :
    d.anyRow ident who addr v = d'' := by
  have hw : inSignalWindow addr = false := by
    simp only [inSignalWindow, Bool.and_eq_false_iff, decide_eq_false_iff_not]
    omega
  unfold Dev.anyRow Dev.registerWrite
  rw [if_neg (by omega), Dev.deltaCheck_other _ _ _ _ hw h2]
  exact d.busWrite_taken d' d'' who addr v _ h hl hj

theorem act_eq_ends (s : State) (f : Dev → Dev) : act s f = .next (s.ends (f s.dev)) := by
  rw [act, State.ends]

@[simp] theorem State.ends_id (s : State) (d : Dev) : (s.ends d).id = s.id := by rw [State.ends]
@[simp] theorem State.ends_pending (s : State) (d : Dev) : (s.ends d).pending = s.pending := by rw [State.ends]
@[simp] theorem State.ends_dev (s : State) (d : Dev) : (s.ends d).dev = d.settle s.dev := by rw [State.ends]

/-- Nothing is owed after a command. -/
@[simp] theorem Dev.settle_todo (d old : Dev) : (d.settle old).todo = [] := by
  unfold Dev.settle; rfl

end Sys2Proof.Machine
end

