-- ==== Sys2Proof/Laws/Crypto.lean ====
section
/-! SUPPORT. The laws of RSA keys: what modular power computes, and that every key of the model is an RSA-3072
key. -/

namespace Sys2Proof.Machine
open Sys2Proof

/-- Square and multiply computes the power. -/
theorem modPow_eq (n : Nat) : ∀ bits m e : Nat, e < 2 ^ bits → modPow n bits m e = m ^ e % n
  | 0, m, e, h => by
    have : e = 0 := by omega
    simp [modPow, this]
  | bits + 1, m, e, h => by
    have ih := modPow_eq n bits (m * m % n) (e / 2) (by omega)
    have hp : (m * m % n) ^ (e / 2) % n = m ^ (e / 2 + e / 2) % n := by
      rw [← Nat.pow_mod, ← pow_two, ← pow_mul, two_mul]
    simp only [modPow, ih, hp]
    split
    · have he : e = e / 2 + e / 2 + 1 := by omega
      conv_rhs => rw [he, pow_succ]
      rw [Nat.mod_mul_mod]
    · have he : e = e / 2 + e / 2 := by omega
      conv_rhs => rw [he]

/-- A prime factor of a product of powers of 2, 3 and 5. -/
theorem smooth_prime {a b c r : Nat} (hr : r.Prime) (h : r ∣ 2 ^ a * 3 ^ b * 5 ^ c) : r = 2 ∨ r = 3 ∨ r = 5 := by
  rcases (Nat.Prime.dvd_mul hr).1 h with h | h
  · rcases (Nat.Prime.dvd_mul hr).1 h with h | h
    · exact .inl ((Nat.prime_dvd_prime_iff_eq hr Nat.prime_two).1 (hr.dvd_of_dvd_pow h))
    · exact .inr (.inl ((Nat.prime_dvd_prime_iff_eq hr Nat.prime_three).1 (hr.dvd_of_dvd_pow h)))
  · exact .inr (.inr ((Nat.prime_dvd_prime_iff_eq hr Nat.prime_five).1 (hr.dvd_of_dvd_pow h)))

/-- Lucas' test for a number that is one more than a product of powers of 2, 3 and 5. -/
theorem lucas_smooth (p w a b c bits : Nat) (hp : p = 2 ^ a * 3 ^ b * 5 ^ c + 1) (hb : p - 1 < 2 ^ bits)
    (h1 : modPow p bits w (p - 1) = 1 % p) (h : ∀ r ∈ [2, 3, 5], modPow p bits w ((p - 1) / r) ≠ 1 % p) :
    p.Prime := by
  have e (n : Nat) (hn : n < 2 ^ bits) : ((w : ZMod p)) ^ n = 1 ↔ modPow p bits w n = 1 % p := by
    have := ZMod.natCast_eq_natCast_iff (w ^ n) 1 p
    simpa [Nat.ModEq, modPow_eq _ _ _ _ hn] using this
  refine lucas_primality p (w : ZMod p) ((e _ hb).2 h1) fun r hr hd hc => ?_
  have hs : r ∣ 2 ^ a * 3 ^ b * 5 ^ c := by simpa [hp] using hd
  exact h r (by rcases smooth_prime hr hs with h | h | h <;> simp [h])
    ((e _ (lt_of_le_of_lt (Nat.div_le_self _ _) hb)).1 hc)

set_option exponentiation.threshold 4096

theorem keyP_prime : (2 ^ 614 * 3 ^ 580 * 5 + 1).Prime :=
  lucas_smooth _ 23 614 580 1 1536 (by rw [pow_one]) (by decide +kernel) (by decide +kernel) (by decide +kernel)

theorem keyQ_prime : (2 ^ 1059 * 3 ^ 298 * 5 ^ 2 + 1).Prime :=
  lucas_smooth _ 14 1059 298 2 1536 rfl (by decide +kernel) (by decide +kernel) (by decide +kernel)

/-- R285, R291: whatever the free numbers are, the key of them is an RSA-3072 key. -/
theorem rsaKey_pair (p q : Nat) : rsaPair (rsaKey p q).1 (rsaKey p q).2 = true := by
  unfold rsaKey
  split
  · assumption
  · have h : ∀ x y : Nat, x.Prime → y.Prime → (x != y && decide (2 ^ 3071 ≤ x * y) && decide (x * y < 2 ^ 3072) &&
        Nat.gcd 65537 ((x - 1) * (y - 1)) == 1) = true → rsaPair x y = true := by
      intro x y hx hy hn
      simp only [rsaPair, hn, hx, hy, decide_true, Bool.and_self]
    exact h _ _ keyP_prime keyQ_prime (by decide +kernel)

end Sys2Proof.Machine
end

