-- ==== Sys2Proof/Laws/Memory.lean ====
section
/-! SUPPORT. The addressed memories of the device (message RAM, LIN element memory, engine local memory, signal
store): every write keeps their canonical form. -/

namespace Sys2Proof.Machine
open Sys2Proof

/-- A write of bytes keeps the canonical form of a channel's memory. -/
theorem writeBytes_wf (ram : Tab Byte) (a : Nat) (bs : List Byte)
    (h : tabWf (fun _ => default) ram = true) : tabWf (fun _ => default) (writeBytes ram a bs) = true := by
  induction bs generalizing ram a with
  | nil => exact h
  | cons b bs ih => exact ih _ _ (tabWf_tset ram a b h)

/-- Bytes beside a write stay. -/
theorem writeBytes_other (ram : Tab Byte) (a : Nat) (bs : List Byte) (k : Nat)
    (h : k < a ∨ a + bs.length ≤ k) : tget (writeBytes ram a bs) k = tget ram k := by
  induction bs generalizing ram a with
  | nil => rfl
  | cons b bs ih =>
    simp only [List.length_cons] at h
    rw [writeBytes, ih _ _ (by omega), tget_tset_other _ _ _ _ (by omega)]

/-- A byte written reads as it was written. -/
theorem writeBytes_in (ram : Tab Byte) (a : Nat) (bs : List Byte) (k : Nat) (h : k < bs.length) :
    tget (writeBytes ram a bs) (a + k) = bs[k] := by
  induction bs generalizing ram a k with
  | nil => simp at h
  | cons b bs ih =>
    cases k with
    | zero => rw [writeBytes, writeBytes_other _ _ _ _ (by omega)]; simp
    | succ k =>
      have hk : k < bs.length := by simpa using h
      rw [writeBytes, show a + (k + 1) = a + 1 + k by omega, ih _ _ k hk]
      simp

/-- The local memory keeps its canonical form when an image is loaded. -/
theorem writeWords_wf (lm : Tab Word) (a : Nat) (bs : List Byte) (n : Nat)
    (h : tabWf (fun _ => default) lm = true) : tabWf (fun _ => default) (writeWords lm a bs n) = true := by
  induction n generalizing lm a bs with
  | zero => exact h
  | succ n ih =>
    unfold writeWords
    split
    · exact h
    · exact ih _ _ _ (tabWf_tset lm a _ h)

/-- A write of a signal store word keeps the store's canonical form, and leaves every other word. -/
theorem setSig_wf (d : Dev) (k v : Nat) (h : tabWf (fun _ => default) d.gv.sig = true) :
    tabWf (fun _ => default) (d.setSig k v).gv.sig = true := tabWf_tset _ _ _ h

end Sys2Proof.Machine
end

