-- ==== Sys2Proof/Laws/Pages.lean ====
section
/-! SUPPORT. Which page an address lies in, and what a row that writes a register of a page comes to. -/

namespace Sys2Proof.Machine
open Sys2Proof

/-- The page that a page number names. -/
theorem pageOf_number (addr q : Nat) (pg : Page) (hq : addr / 0x1000 = q)
    (hc : (if q < 0x100 then Page.mc q
      else if q < 0x200 then .pc (q - 0x100)
      else if q < 0x300 then .sd (q - 0x200)
      else if q < 0x400 then .sc (q - 0x300)
      else if q < 0x800 then .tl (q - 0x400)
      else if q < 0x1000 then .gv (q - 0x800)
      else if q < 0x1040 then .can (q - 0x1000)
      else if q < 0x1800 then .lin (q - 0x1040)
      else if q < 0x1900 then .ep ((q - 0x1800) / 4) (q % 4)
      else if q < 0x2000 then .ts (q - 0x1900)
      else if q < 0x2200 then .sw (q - 0x2000)
      else if q < 0x2300 then .lk 0 (q - 0x2200)
      else if q < 0x2400 then .lk 1 (q - 0x2300)
      else if q < 0x2800 then .tm (q - 0x2400)
      else if q < 0x2C00 then .cp (q - 0x2800)
      else .hb (q - 0x2C00)) = pg) (he : pageExists pg = true) : pageOf addr = some pg := by
  subst hq
  subst hc
  unfold pageOf
  exact if_pos he

/-- An address within an implemented page. -/
theorem pageOf_page (pg : Page) (off addr : Nat) (h : pageExists pg = true) (ho : off < 0x1000)
    (ha : addr = pageBase pg + off) : pageOf addr = some pg := by
  have hk := h
  cases pg <;> simp only [pageExists, decide_eq_true_eq, Bool.and_eq_true] at hk <;>
    simp only [pageBase] at ha
  case mc k =>
    refine pageOf_number addr k _ (by omega) ?_ h
    repeat (first | rw [if_neg (by omega)] | rw [if_pos (by omega)])
  case pc k =>
    refine pageOf_number addr (0x100 + k) _ (by omega) ?_ h
    repeat (first | rw [if_neg (by omega)] | rw [if_pos (by omega)])
    simp
  case sd k =>
    refine pageOf_number addr (0x200 + k) _ (by omega) ?_ h
    repeat (first | rw [if_neg (by omega)] | rw [if_pos (by omega)])
    simp
  case sc k =>
    refine pageOf_number addr (0x300 + k) _ (by omega) ?_ h
    repeat (first | rw [if_neg (by omega)] | rw [if_pos (by omega)])
    simp
  case tl k =>
    refine pageOf_number addr (0x400 + k) _ (by omega) ?_ h
    repeat (first | rw [if_neg (by omega)] | rw [if_pos (by omega)])
    simp
  case gv k =>
    refine pageOf_number addr (0x800 + k) _ (by omega) ?_ h
    repeat (first | rw [if_neg (by omega)] | rw [if_pos (by omega)])
    simp
  case can k =>
    refine pageOf_number addr (0x1000 + k) _ (by omega) ?_ h
    repeat (first | rw [if_neg (by omega)] | rw [if_pos (by omega)])
    simp
  case lin k =>
    refine pageOf_number addr (0x1040 + k) _ (by omega) ?_ h
    repeat (first | rw [if_neg (by omega)] | rw [if_pos (by omega)])
    simp
  case ts k =>
    refine pageOf_number addr (0x1900 + k) _ (by omega) ?_ h
    repeat (first | rw [if_neg (by omega)] | rw [if_pos (by omega)])
    simp
  case sw k =>
    refine pageOf_number addr (0x2000 + k) _ (by omega) ?_ h
    repeat (first | rw [if_neg (by omega)] | rw [if_pos (by omega)])
    simp
  case tm k =>
    refine pageOf_number addr (0x2400 + k) _ (by omega) ?_ h
    repeat (first | rw [if_neg (by omega)] | rw [if_pos (by omega)])
    simp
  case cp k =>
    refine pageOf_number addr (0x2800 + k) _ (by omega) ?_ h
    repeat (first | rw [if_neg (by omega)] | rw [if_pos (by omega)])
    simp
  case hb k =>
    refine pageOf_number addr (0x2c00 + k) _ (by omega) ?_ h
    repeat rw [if_neg (by omega)]
    simp
  case ep n k =>
    refine pageOf_number addr (0x1800 + n * 4 + k) _ (by omega) ?_ h
    repeat (first | rw [if_neg (by omega)] | rw [if_pos (by omega)])
    rw [show (0x1800 + n * 4 + k - 0x1800) / 4 = n by omega, show (0x1800 + n * 4 + k) % 4 = k by omega]
  case lk s k =>
    obtain rfl | rfl : s = 0 ∨ s = 1 := by omega
    · refine pageOf_number addr (0x2200 + k) _ (by omega) ?_ h
      repeat (first | rw [if_neg (by omega)] | rw [if_pos (by omega)])
      simp
    · refine pageOf_number addr (0x2300 + k) _ (by omega) ?_ h
      repeat (first | rw [if_neg (by omega)] | rw [if_pos (by omega)])
      simp

/-- A row that writes a register of a page, and that the register takes. -/
theorem Dev.anyRow_page (d d' d'' : Dev) (ident : List Byte) (who : Init) (addr : Nat) (v : Word) (pg : Page)
    (off : Nat) (hx : pageExists pg = true) (ho : off < 0x1000) (ha : addr = pageBase pg + off)
    (h2 : addr ≠ R.GV_TCMD) (h : d.reaches who addr = some d') (hl : d'.lockedWrite addr v = false)
    (hj : d'.pageWrite ident who pg addr v = .ok d'') : d.anyRow ident who addr v = d'' := by
  have hp := pageOf_page pg off addr hx ho ha
  have hb : addr < 0x3000000 := by
    subst ha
    cases pg <;> simp only [pageExists, decide_eq_true_eq, Bool.and_eq_true] at hx <;> simp only [pageBase] <;> omega
  exact d.anyRow_taken d' d'' ident who addr v hb h2 h hl (by simp only [Dev.regWrite, hp, hj])

/-- A row that writes a register of a page, and that the register refuses. -/
theorem Dev.anyRow_page_refused (d d' : Dev) (ident : List Byte) (who : Init) (addr : Nat) (v : Word) (pg : Page)
    (off code : Nat) (hx : pageExists pg = true) (ho : off < 0x1000) (ha : addr = pageBase pg + off)
    (h2 : addr ≠ R.GV_TCMD) (h : d.reaches who addr = some d') (hl : d'.lockedWrite addr v = false)
    (hj : d'.pageWrite ident who pg addr v = .no code) :
    d.anyRow ident who addr v = d'.failWrite who addr v code := by
  have hp := pageOf_page pg off addr hx ho ha
  have hb : addr < 0x3000000 := by
    subst ha
    cases pg <;> simp only [pageExists, decide_eq_true_eq, Bool.and_eq_true] at hx <;> simp only [pageBase] <;> omega
  have hw : inSignalWindow addr = false := by
    simp only [inSignalWindow, Bool.and_eq_false_iff, decide_eq_false_iff_not]
    omega
  unfold Dev.anyRow Dev.registerWrite
  rw [if_neg (by omega), Dev.deltaCheck_other _ _ _ _ hw h2]
  exact d.busWrite_refused d' who addr v _ code h hl (by simp only [Dev.regWrite, hp, hj])

end Sys2Proof.Machine
end

