-- ==== Sys2Proof/Laws/Sapling.lean ====
section
/-! SUPPORT. A Sapling message is read back from the bytes that carry it (R306). -/

namespace Sys2Proof.Machine
open Sys2Proof

theorem leBytes_length (n v : Nat) : (leBytes n v).length = n := by
  induction n generalizing v with
  | zero => rfl
  | succ n ih => simp [leBytes, ih]

theorem beBytes_length (n v : Nat) : (beBytes n v).length = n := by
  simp [beBytes, leBytes_length]

theorem beNat_append (a : List Byte) (b : Byte) : beNat (a ++ [b]) = beNat a * 256 + b.toNat := by
  simp [beNat]

/-- A number that fits is read back. -/
theorem beNat_beBytes (n v : Nat) (h : v < 256 ^ n) : beNat (beBytes n v) = v := by
  induction n generalizing v with
  | zero => simp [beBytes, leBytes, beNat] at h ⊢; omega
  | succ n ih =>
    have hb : beBytes (n + 1) v = beBytes n (v / 256) ++ [BitVec.ofNat 8 v] := by
      simp [beBytes, leBytes]
    rw [hb, beNat_append, ih _ (by rw [Nat.pow_succ] at h; omega)]
    simp
    omega

/-- A slice that lies within the string. -/
theorem slice_append (a b c : List Byte) (off n : Nat) (ha : a.length = off) (hb : b.length = n) :
    Sys2Proof.Machine.slice (a ++ (b ++ c)) off n = b := by
  subst ha hb
  simp [Sys2Proof.Machine.slice]

theorem crcByte_lt (c : Nat) (b : Byte) (h : c < 2 ^ 32) : crcByte 0x82F63B78 c b < 2 ^ 32 := by
  unfold crcByte
  have step : ∀ x, x < 2 ^ 32 → crcBit 0x82F63B78 x < 2 ^ 32 := by
    intro x hx
    unfold crcBit
    split
    · exact Nat.xor_lt_two_pow (by omega) (by omega)
    · omega
  have run : ∀ (l : List Nat) x, x < 2 ^ 32 → l.foldl (fun a _ => crcBit 0x82F63B78 a) x < 2 ^ 32 := by
    intro l
    induction l with
    | nil => exact fun x hx => hx
    | cons y t ih => exact fun x hx => ih _ (step x hx)
  exact run _ _ (Nat.xor_lt_two_pow h (Nat.lt_of_lt_of_le b.isLt (by omega)))

theorem crc32c_lt (bs : List Byte) : crc32c bs < 2 ^ 32 := by
  unfold crc32c crcOf
  have run : ∀ (l : List Byte) x, x < 2 ^ 32 → l.foldl (crcByte 0x82F63B78) x < 2 ^ 32 := by
    intro l
    induction l with
    | nil => exact fun x hx => hx
    | cons y t ih => exact fun x hx => ih _ (crcByte_lt x y hx)
  exact Nat.xor_lt_two_pow (run _ _ (by omega)) (by omega)

/-- R306: the bytes of a message whose fields fit give the message. -/
theorem sapRead_sapBytes (m : SapMsg) (h1 : m.typ < 256) (h2 : m.code < 256) (h3 : m.session < 2 ^ 32)
    (h4 : m.seq < 2 ^ 32) (h5 : m.data.length < 2 ^ 16) (h6 : m.sack < 2 ^ 16) (h7 : m.total < 2 ^ 32) :
    sapRead (sapBytes m) = some m := by
  unfold sapBytes
  extract_lets h
  have hl : h.length = 20 := by simp [h, beBytes_length]
  have part : ∀ (a x c : List Byte) (off n : Nat), h ++ beBytes 4 (crc32c (h ++ m.data)) ++ List.replicate 8 0 ++ m.data =
      a ++ (x ++ c) → a.length = off → x.length = n →
      Sys2Proof.Machine.slice (h ++ beBytes 4 (crc32c (h ++ m.data)) ++ List.replicate 8 0 ++ m.data) off n = x := by
    intro a x c off n he ha hx
    rw [he]
    exact slice_append a x c off n ha hx
  have ed : (h ++ beBytes 4 (crc32c (h ++ m.data)) ++ List.replicate 8 0 ++ m.data).drop 32 = m.data := by
    rw [List.drop_append_of_le_length (by simp [hl, beBytes_length]), List.drop_of_length_le (by simp [hl, beBytes_length])]
    rfl
  have et : (h ++ beBytes 4 (crc32c (h ++ m.data)) ++ List.replicate 8 0 ++ m.data).take 20 = h := by
    simp only [List.append_assoc]
    rw [← hl, List.take_left']
    rfl
  have g0 := part [] (beBytes 2 0x5350) _ 0 2 (by simp only [h, List.append_assoc, List.nil_append]; rfl) rfl
    (beBytes_length _ _)
  have g2 := part (beBytes 2 0x5350) (beBytes 1 m.typ) _ 2 1 (by simp only [h, List.append_assoc]; rfl)
    (beBytes_length _ _) (beBytes_length _ _)
  have g3 := part (beBytes 2 0x5350 ++ beBytes 1 m.typ) (beBytes 1 m.code) _ 3 1
    (by simp only [h, List.append_assoc]; rfl) (by simp [beBytes_length]) (beBytes_length _ _)
  have g4 := part (beBytes 2 0x5350 ++ beBytes 1 m.typ ++ beBytes 1 m.code) (beBytes 4 m.session) _ 4 4
    (by simp only [h, List.append_assoc]; rfl) (by simp [beBytes_length]) (beBytes_length _ _)
  have g8 := part (beBytes 2 0x5350 ++ beBytes 1 m.typ ++ beBytes 1 m.code ++ beBytes 4 m.session) (beBytes 4 m.seq) _ 8 4
    (by simp only [h, List.append_assoc]; rfl) (by simp [beBytes_length]) (beBytes_length _ _)
  have g12 := part (beBytes 2 0x5350 ++ beBytes 1 m.typ ++ beBytes 1 m.code ++ beBytes 4 m.session ++ beBytes 4 m.seq)
    (beBytes 2 m.data.length) _ 12 2
    (by simp only [h, List.append_assoc]; rfl) (by simp [beBytes_length]) (beBytes_length _ _)
  have g14 := part (beBytes 2 0x5350 ++ beBytes 1 m.typ ++ beBytes 1 m.code ++ beBytes 4 m.session ++ beBytes 4 m.seq ++
      beBytes 2 m.data.length) (beBytes 2 m.sack) _ 14 2
    (by simp only [h, List.append_assoc]; rfl) (by simp [beBytes_length]) (beBytes_length _ _)
  have g16 := part (beBytes 2 0x5350 ++ beBytes 1 m.typ ++ beBytes 1 m.code ++ beBytes 4 m.session ++ beBytes 4 m.seq ++
      beBytes 2 m.data.length ++ beBytes 2 m.sack) (beBytes 4 m.total) _ 16 4
    (by simp only [h, List.append_assoc]; rfl) (by simp [beBytes_length]) (beBytes_length _ _)
  have g20 := part h (beBytes 4 (crc32c (h ++ m.data))) _ 20 4 (by simp only [List.append_assoc]; rfl) hl
    (beBytes_length _ _)
  have hlen : 32 ≤ (h ++ beBytes 4 (crc32c (h ++ m.data)) ++ List.replicate 8 0 ++ m.data).length := by
    simp [hl, beBytes_length]; omega
  generalize h ++ beBytes 4 (crc32c (h ++ m.data)) ++ List.replicate 8 0 ++ m.data = b at *
  unfold sapRead
  simp only [ed, et, g0, g2, g3, g4, g8, g12, g14, g16, g20,
    beNat_beBytes 2 0x5350 (by omega), beNat_beBytes 1 _ (show m.typ < 256 ^ 1 by omega),
    beNat_beBytes 1 _ (show m.code < 256 ^ 1 by omega), beNat_beBytes 4 _ (show m.session < 256 ^ 4 by omega),
    beNat_beBytes 4 _ (show m.seq < 256 ^ 4 by omega), beNat_beBytes 2 _ (show m.data.length < 256 ^ 2 by omega),
    beNat_beBytes 2 _ (show m.sack < 256 ^ 2 by omega), beNat_beBytes 4 _ (show m.total < 256 ^ 4 by omega),
    beNat_beBytes 4 _ (show crc32c (h ++ m.data) < 256 ^ 4 by have := crc32c_lt (h ++ m.data); omega)]
  simp [hlen]

end Sys2Proof.Machine
end

