-- ==== Sys2Proof/Laws/Settle.lean ====
section
/-! SUPPORT. What the parts of the end of a command leave alone: the followers of a device at rest write
their own registers and the pins, and nothing else. -/

namespace Sys2Proof.Machine
open Sys2Proof

/-- `e` is `d` but for registers at the addresses `A` and for messages on the pins. -/
def Dev.shows (A : Nat → Prop) (d e : Dev) : Prop :=
  (∃ (regs : Tab Word) (out : List Out), e = { d with regs, out }) ∧ ∀ a, ¬A a → e.word a = d.word a

theorem Dev.shows_refl (A : Nat → Prop) (d : Dev) : Dev.shows A d d :=
  ⟨⟨d.regs, d.out, rfl⟩, fun _ _ => rfl⟩

theorem Dev.shows_trans {A : Nat → Prop} {d e f : Dev} (h : Dev.shows A d e) (k : Dev.shows A e f) :
    Dev.shows A d f := by
  obtain ⟨⟨r, o, rfl⟩, h⟩ := h
  obtain ⟨⟨r', o', rfl⟩, k⟩ := k
  exact ⟨⟨r', o', rfl⟩, fun a ha => (k a ha).trans (h a ha)⟩

theorem Dev.shows_put {A : Nat → Prop} (d : Dev) (f : Fld) (v : Nat) (h : A f.addr) : Dev.shows A d (d.put f v) :=
  ⟨⟨_, _, rfl⟩, fun a ha => d.word_put_other f v a (fun e => ha (e ▸ h))⟩

theorem Dev.shows_emit (A : Nat → Prop) (d : Dev) (o : Out) : Dev.shows A d (d.emit o) :=
  ⟨⟨_, _, rfl⟩, fun _ _ => rfl⟩

theorem Dev.shows_foldl {A : Nat → Prop} {α : Type} (f : Dev → α → Dev) (l : List α)
    (h : ∀ d x, x ∈ l → Dev.shows A d (f d x)) (d : Dev) : Dev.shows A d (l.foldl f d) := by
  induction l generalizing d with
  | nil => exact Dev.shows_refl _ _
  | cons x t ih =>
    exact Dev.shows_trans (h d x (by simp)) (ih (fun d y hy => h d y (by simp [hy])) (f d x))

/-- R321: SD_SAFE_STAT follows; nothing else changes. -/
theorem Dev.safeSync_shows {A : Nat → Prop} (d : Dev) (h : A R.SD_SAFE_STAT) : Dev.shows A d d.safeSync := by
  unfold Dev.safeSync Dev.putFlag
  refine Dev.shows_trans ?_ (Dev.shows_put _ F.SD_SAFE_STAT_SAFE _ h)
  refine Dev.shows_trans ?_ (Dev.shows_put _ F.SD_SAFE_STAT_HEALTHY _ h)
  refine Dev.shows_trans ?_ (Dev.shows_put _ F.SD_SAFE_STAT_TEMP_OK _ h)
  refine Dev.shows_trans ?_ (Dev.shows_put _ F.SD_SAFE_STAT_SUPPLY_OK _ h)
  refine Dev.shows_trans ?_ (Dev.shows_put _ F.SD_SAFE_STAT_PAIR_OK _ h)
  exact Dev.shows_put _ F.SD_SAFE_STAT_SCRUB_OK _ h

/-- R243, R244: the pins follow; only their registers change. -/
theorem Dev.pinSync_shows {A : Nat → Prop} (d : Dev) (h : A R.PC_XCVM)
    (hk : ∀ k, k < 4 → A (R.PC_INH_CFG k)) : Dev.shows A d d.pinSync := by
  unfold Dev.pinSync
  refine Dev.shows_trans (Dev.shows_foldl _ _ ?_ d) (Dev.shows_foldl _ _ ?_ _)
  · intro d g _
    dsimp only
    split
    · exact Dev.shows_refl _ _
    · exact Dev.shows_trans (Dev.shows_put d F.PC_XCVM_CODES _ h) (Dev.shows_emit A _ _)
  · intro d k hm
    have hm : k < 4 := by simpa using hm
    dsimp only
    split
    · exact Dev.shows_refl _ _
    · exact Dev.shows_trans (Dev.shows_put d (F.PC_INH_CFG_LEVEL k) _ (hk k hm)) (Dev.shows_emit A _ _)

/-- GO of PC_GRP_CMD follows. -/
theorem Dev.goSync_shows {A : Nat → Prop} (d : Dev) (h : A R.PC_GRP_CMD) : Dev.shows A d d.goSync := by
  unfold Dev.goSync
  by_cases hc : d.get F.PC_GRP_CMD_OP == 0 <;> simp only [hc, if_true, Bool.false_eq_true, if_false] <;> split
  all_goals first
    | exact Dev.shows_put d F.PC_GRP_CMD_GO 0 h
    | exact Dev.shows_refl _ _

/-- R331: words without an error, and no armed fault: nothing becomes of a write. -/
theorem Dev.wordsWritten_quiet (d : Dev) (p : Nat × Nat × Nat → Bool) (hi : d.inject = none)
    (he : d.scrub.errs = []) : d.wordsWritten p = d := by
  simp only [Dev.wordsWritten, hi, he, Option.filter_none, Option.isSome_none, Option.toList_none, List.map_nil,
    List.filter_nil, List.append_nil, Bool.false_eq_true, if_false]
  rw [← hi, ← he]

/-- R324: where no error stands, an access meets none. -/
theorem Dev.meets_quiet (d : Dev) (mem : Nat) (he : d.scrub.errs = []) : d.meets mem = (none, d) := by
  simp [Dev.meets, Dev.errsIn, he]

/-- R326: where no error stands, fabric and buffer memory bring none to a frame. -/
theorem Dev.fabricBad_quiet (d : Dev) (he : d.scrub.errs = []) : d.fabricBad = (false, d) := by
  simp [Dev.fabricBad, d.meets_quiet _ he]

/-- R180: where no error stands, a lookup is what the slice holds. -/
theorem Dev.lookUp_quiet (d : Dev) (p : Nat) (f : List Byte) (he : d.scrub.errs = []) :
    d.lookUp p f = (d.startOnly (d.forward p f), d) := by
  simp [Dev.lookUp, d.meets_quiet _ he]

/-- R331: without an armed fault and without an error in a word, only GO of SD_INJECT follows. -/
theorem Dev.injectSync_shows {A : Nat → Prop} (d old : Dev) (h : A R.SD_INJECT) (hi : d.inject = none)
    (he : d.scrub.errs = []) : Dev.shows A d (d.injectSync old) := by
  have hf : ∀ l : List WordErr,
      l.foldl (fun a e => if a.scrub.errs.contains e then a.freeWritten e.word else a) d = d := by
    intro l
    induction l with
    | nil => rfl
    | cons e t ih => rw [List.foldl_cons, if_neg (by simp [he]), ih]
  unfold Dev.injectSync
  simp only [d.wordsWritten_quiet _ hi he, hf]
  cases old.inject with
  | none => exact Dev.shows_put d F.SD_INJECT_GO _ h
  | some x =>
    simp only [hi, reduceCtorEq, false_and, if_false]
    exact Dev.shows_put d F.SD_INJECT_GO _ h

/-- R251: an assist that is off stays off. -/
theorem Dev.clrSync_shows {A : Nat → Prop} (d : Dev) (h : A R.CLR_STAT) (hs : d.clrState = 0)
    (hj : d.clr.joined = false) (hc : d.flag F.CLR_STAT_CONSENT = false) : Dev.shows A d d.clrSync := by
  unfold Dev.clrSync
  simp only [hs, hj, hc, Bool.false_and, Bool.false_or, if_true, ite_self, bne_self_eq_false]
  exact Dev.shows_trans (Dev.shows_put d F.CLR_STAT_REASON 0 h) (Dev.shows_put _ F.CLR_STAT_CONSENT _ h)

/-- Nothing is owed: the drain does nothing. -/
theorem Dev.drain_nil (n : Nat) (d : Dev) (h : d.todo = []) : Dev.drain n d = d := by
  cases n <;> simp [Dev.drain, h]

end Sys2Proof.Machine
end

