-- ==== Sys2Proof/Machine/Pins.lean ====
section
/-! DEFINITION. The balls (R343 to R345), the state of the output pads (R346, R347, R349 to R351) as it follows
from the state of the device, and the supply thresholds (R356). -/

namespace Sys2Proof.Machine
open Sys2Proof

/-! ## Ball map (R343 to R345) -/

/-- A ball: its row's index, 1 to 34, and its column, 1 to 34. -/
structure Ball where
  row : Nat
  col : Nat
  deriving DecidableEq, Repr

/-- R343: the letters of the rows. -/
def rowNames : List String :=
  ["A", "B", "C", "D", "E", "F", "G", "H", "J", "K", "L", "M", "N", "P", "T", "U", "V", "W", "Y", "AA", "AB", "AC",
    "AD", "AE", "AF", "AG", "AH", "AJ", "AK", "AL", "AM", "AN", "AP", "AT"]

/-- The name of a ball. -/
def Ball.name (b : Ball) : String := ((rowNames[b.row - 1]?).getD "") ++ toString b.col

/-- R344: the signals with a formula; `n` picks the negative one of a pair. -/
inductive Signal where
  | epTx (p : Fin 16) (n : Bool)
  | epRx (p : Fin 16) (n : Bool)
  | sdsRext (q : Fin 4)
  | pcieTx (p : Fin 2) (lane : Fin 4) (n : Bool)
  | pcieRx (p : Fin 2) (lane : Fin 4) (n : Bool)
  | pcieRef (p : Fin 2) (n : Bool)
  | perst (p : Fin 2)
  | clkreq (p : Fin 2)
  | canTx (c : Fin 64)
  | canRx (c : Fin 64)
  | xcvmA (g : Fin 8)
  | xcvmB (g : Fin 8)
  | linTx (c : Fin 16)
  | linRx (c : Fin 16)
  | ts (s : Fin 8) (n : Bool)
  | trig (k : Fin 16)
  | tcap (c : Fin 8)
  | pha (p : Fin 4)
  | phb (p : Fin 4)
  | phz (p : Fin 4)
  | inh (k : Fin 4)
  | wake (k : Fin 8)
  | ospiData (k : Fin 8)
  | ddr (ch : Fin 2) (k : Fin 37)
  | fixed (k : Fin 26)
  deriving DecidableEq, Repr

/-- R344: the remaining signals, each with its ball. -/
def fixedBalls : List (String × Ball) :=
  [("OSPI_CLK", ⟨7, 6⟩), ("OSPI_DQS", ⟨7, 7⟩), ("OSPI_CS0n", ⟨7, 8⟩), ("OSPI_RESETn", ⟨10, 8⟩), ("XTAL_IN", ⟨13, 6⟩),
    ("XTAL_OUT", ⟨13, 7⟩), ("CLKIN_P", ⟨14, 6⟩), ("CLKIN_N", ⟨14, 7⟩), ("PORn", ⟨15, 6⟩), ("RSTn", ⟨15, 7⟩)] ++
  [("BOOTSEL0", ⟨16, 6⟩), ("BOOTSEL1", ⟨16, 7⟩), ("CLKSEL0", ⟨17, 6⟩), ("CLKSEL1", ⟨17, 7⟩), ("TESTEN", ⟨18, 6⟩),
    ("TCK", ⟨19, 6⟩), ("TMS", ⟨19, 7⟩), ("TDI", ⟨19, 8⟩), ("TDO", ⟨20, 6⟩), ("TRSTn", ⟨20, 7⟩)] ++
  [("MDC", ⟨21, 6⟩), ("MDIO", ⟨21, 7⟩), ("UART_TX", ⟨22, 6⟩), ("UART_RX", ⟨22, 7⟩), ("DDR_RESETn", ⟨29, 17⟩),
    ("DDR_ZQ", ⟨30, 17⟩)]

/-- R344: the LPDDR5 balls of channel A, rows AK to AT, columns 6 to 16; channel B lies 12 columns further. -/
def ddrRows : List (List String) :=
  [["VDD2H", "CA0", "CA1", "CA2", "CA3", "VSS", "CA4", "CA5", "CA6", "VDD2H", "VSS"],
    ["VDD2H", "CS0", "CS1", "CK_T", "CK_C", "VDD2H", "VDDQ", "VDDQ", "VSS", "VDD2H", "VDDQ"],
    ["DQ0", "DQ1", "DQ2", "DQ3", "VDDQ", "WCK0_T", "WCK0_C", "VDDQ", "DQ4", "DQ5", "VSS"]] ++
  [["DQ6", "DQ7", "DMI0", "RDQS0_T", "RDQS0_C", "VDDQ", "VDD2H", "VDDQ", "VSS", "VDDQ", "VDD2H"],
    ["DQ8", "DQ9", "DQ10", "DQ11", "VDDQ", "WCK1_T", "WCK1_C", "VDDQ", "DQ12", "DQ13", "VSS"],
    ["DQ14", "DQ15", "DMI1", "RDQS1_T", "RDQS1_C", "VDDQ", "VDD2H", "VDDQ", "VSS", "VSS", "VSS"]]

/-- R344: the LPDDR5 signals of a channel, which carry the prefix DDRA_ or DDRB_. -/
def ddrNames : List String :=
  (ddrRows.flatten.filter (fun s => s != "VSS" && s != "VDDQ" && s != "VDD2H"))

/-- R344: the name of LPDDR5 signal k of a channel. -/
def ddrName (ch : Fin 2) (k : Fin 37) : String :=
  (if ch = 0 then "DDRA_" else "DDRB_") ++ ((ddrNames[k.val]?).getD "")

/-- R344: the ball of LPDDR5 signal k of channel A. -/
def ddrPlace (k : Nat) : Ball :=
  (ddrRows.zipIdx.findSome? (fun x => ((ddrNames[k]?).bind (fun n => x.1.idxOf? n)).map (fun c =>
    (⟨29 + x.2, 6 + c⟩ : Ball)))).getD ⟨0, 0⟩

/-- R344: the ball of a signal. -/
def Signal.ball : Signal → Ball
  | .epTx p n => ⟨2 * p + 1 + boolNat n, 2⟩
  | .epRx p n => ⟨2 * p + 1 + boolNat n, 4⟩
  | .sdsRext q => ⟨33 + q % 2, 2 + 2 * (q / 2)⟩
  | .pcieTx p l n => ⟨2, 7 + 11 * p + 2 * l + boolNat n⟩
  | .pcieRx p l n => ⟨4, 7 + 11 * p + 2 * l + boolNat n⟩
  | .pcieRef p n => ⟨3, 7 + 11 * p + 8 + boolNat n⟩
  | .perst p => ⟨1, 7 + 11 * p + 8⟩
  | .clkreq p => ⟨1, 7 + 11 * p + 9⟩
  | .canTx c => ⟨4 * (c / 8) + 1 + c % 8 / 2, 31 + 2 * (c % 2)⟩
  | .canRx c => ⟨4 * (c / 8) + 1 + c % 8 / 2, 32 + 2 * (c % 2)⟩
  | .xcvmA g => ⟨4 * g + 1, 30⟩
  | .xcvmB g => ⟨4 * g + 2, 30⟩
  | .linTx c => ⟨2 * c + 1, 29⟩
  | .linRx c => ⟨2 * c + 2, 29⟩
  | .ts s n => ⟨7 + s, 27 + boolNat n⟩
  | .trig k => ⟨15 + k / 4, 25 + k % 4⟩
  | .tcap c => ⟨19 + c / 4, 25 + c % 4⟩
  | .pha p => ⟨21, 25 + p⟩
  | .phb p => ⟨22, 25 + p⟩
  | .phz p => ⟨23, 25 + p⟩
  | .inh k => if k.val < 2 then ⟨33 + k, 29⟩ else ⟨33, 28 + k⟩
  | .wake k => if k.val < 3 then ⟨33, 32 + k⟩ else ⟨34, 27 + k⟩
  | .ospiData k => if k.val < 3 then ⟨8, 6 + k⟩ else if k.val < 6 then ⟨9, 3 + k⟩ else ⟨10, k⟩
  | .ddr ch k => ⟨(ddrPlace k).row, (ddrPlace k).col + 12 * ch⟩
  | .fixed k => ((fixedBalls[k.val]?).map (·.2)).getD ⟨0, 0⟩

/-- R344: what the LPDDR5 table puts on a ball; nothing outside it. -/
def ddrBall (b : Ball) : Option String :=
  let col := if 18 ≤ b.col then b.col - 12 else b.col
  if 29 ≤ b.row ∧ 6 ≤ col then ((ddrRows[b.row - 29]?).getD [])[col - 6]? else none

/-- R345: the supply of a ball of the supply table. -/
def supplyBall (b : Ball) : Option String :=
  if 7 ≤ b.row ∧ b.row ≤ 26 ∧ 9 ≤ b.col ∧ b.col ≤ 24 then (if (b.row + b.col) % 2 = 0 then some "VCORE" else none)
  else if b.col = 5 ∨ (b.row = 3 ∧ [7, 9, 11, 18, 20, 22].contains b.col) then some "VSERDES"
  else if (b.col = 30 ∧ [3, 7, 11, 15, 19, 23, 27, 31].contains b.row) ∨
      ((b.row = 5 ∨ b.row = 28) ∧ 21 ≤ b.col ∧ b.col ≤ 28) then some "VIO33"
  else if (b.col = 6 ∨ b.col = 7 ∨ b.col = 8) ∧ [11, 12, 23, 24].contains b.row ∨ (b.row = 25 ∧ (b.col = 6 ∨ b.col = 7)) ∨
      (b.row = 24 ∧ 25 ≤ b.col ∧ b.col ≤ 28) ∨ (b.row = 26 ∧ (b.col = 25 ∨ b.col = 26)) then some "VIO18"
  else if b.col = 8 ∧ 15 ≤ b.row ∧ b.row ≤ 18 then some "VAON"
  else if b.col = 26 ∧ 7 ≤ b.row ∧ b.row ≤ 14 then some "VT1S"
  else (ddrBall b).bind (fun s => if s == "VDDQ" || s == "VDD2H" then some s else none)

/-- R344: every signal with a ball of its own. -/
def allSignals : List Signal :=
  let sixteen := List.finRange 16
  let signs := [false, true]
  let four := List.finRange 4
  let eight := List.finRange 8
  sixteen.flatMap (fun p => signs.flatMap (fun n => [.epTx p n, .epRx p n])) ++ four.map .sdsRext ++
    (List.finRange 2).flatMap (fun p =>
      [Signal.perst p, .clkreq p] ++ signs.map (.pcieRef p) ++
        four.flatMap (fun l => signs.flatMap (fun n => [.pcieTx p l n, .pcieRx p l n]))) ++
    (List.finRange 64).flatMap (fun c => [.canTx c, .canRx c]) ++
    eight.flatMap (fun g => [.xcvmA g, .xcvmB g]) ++
    sixteen.flatMap (fun c => [.linTx c, .linRx c]) ++
    eight.flatMap (fun t => signs.map (.ts t)) ++ sixteen.map .trig ++ eight.map .tcap ++
    four.flatMap (fun p => [.pha p, .phb p, .phz p]) ++ four.map .inh ++ eight.map .wake ++
    eight.map .ospiData ++ (List.finRange 2).flatMap (fun c => (List.finRange 37).map (.ddr c)) ++
    (List.finRange 26).map .fixed

/-- R345: a ball that neither R344 nor the supply table names is VSS. -/
def Ball.isVss (b : Ball) : Bool :=
  !(allSignals.any (fun s => s.ball == b) || (ddrBall b).any (fun s => s != "VSS") || (supplyBall b).isSome)

/-! ## Pad classes (R346) -/

/-- R346: the pull of a pad. -/
inductive Pull where
  | up | down | none
  deriving DecidableEq, Repr

/-- R346: the classes of pads. -/
inductive PadClass where
  | aon | oscillator | diffClock | busOut | busIn | control | wake | timingOut | timingIn | general | serdes | t1s
  | lpddr5
  deriving DecidableEq, Repr

/-- R346: the class of a signal's pad; the reference resistor balls of the SerDes quads are in none. -/
def Signal.padClass : Signal → Option PadClass
  | .epTx _ _ | .epRx _ _ | .pcieTx _ _ _ | .pcieRx _ _ _ => some .serdes
  | .sdsRext _ => none
  | .pcieRef _ _ => some .diffClock
  | .perst _ | .clkreq _ | .ospiData _ => some .general
  | .canTx _ | .linTx _ => some .busOut
  | .canRx _ | .linRx _ => some .busIn
  | .xcvmA _ | .xcvmB _ | .inh _ => some .control
  | .ts _ _ => some .t1s
  | .trig _ => some .timingOut
  | .tcap _ | .pha _ | .phb _ | .phz _ => some .timingIn
  | .wake _ => some .wake
  | .ddr _ _ => some .lpddr5
  | .fixed k => some (
      if k.val < 4 ∨ (15 ≤ k.val ∧ k.val < 24) then .general
      else if k.val < 6 then .oscillator
      else if k.val < 8 then .diffClock
      else if k.val < 15 then .aon
      else .lpddr5)

/-- R346: the supply of a class, by its bit of SUPPLY_OK. -/
def PadClass.supply : PadClass → Nat
  | .aon | .oscillator => 1
  | .diffClock | .serdes => 4
  | .busOut | .busIn | .control | .wake => 3
  | .timingOut | .timingIn | .general => 2
  | .t1s => 7
  | .lpddr5 => 5

/-- R346: the supply of a signal's pad: that of its class, but DDR_RESETn's. -/
def Signal.supply (s : Signal) : Option Nat :=
  if s = .fixed 24 then some 6 else s.padClass.map PadClass.supply

/-- R346: the internal pull of a signal's pad. -/
def Signal.pull : Signal → Pull
  | .canTx _ | .linTx _ | .canRx _ | .linRx _ | .xcvmB _ | .inh _ => .up
  | .xcvmA _ | .wake _ | .trig _ | .tcap _ | .pha _ | .phb _ | .phz _ => .down
  | .fixed k =>
    if [2, 9, 16, 17, 21].contains k.val then .up
    else if [3, 14, 15, 19, 24].contains k.val then .down
    else .none
  | .epTx _ _ | .epRx _ _ | .sdsRext _ | .pcieTx _ _ _ | .pcieRx _ _ _ | .pcieRef _ _ | .perst _ | .clkreq _ |
      .ts _ _ | .ospiData _ | .ddr _ _ => .none

/-! ## Output pads (R347, R349) -/

/-- What an output pad shows. -/
inductive PadState where
  /-- High-impedance, held by its pull alone. -/
  | held (p : Pull)
  /-- Driven to a level. -/
  | driven (high : Bool)
  /-- Driven by its controller, which the rows' frames, pulses and training stand for. -/
  | active
  /-- Electrical idle. -/
  | idle
  deriving DecidableEq, Repr

/-- R347: the supply of a pad class, by its bit of SUPPLY_OK, and VCORE are above the detector thresholds. -/
def Dev.padPowered (d : Dev) (supply : Nat) : Bool := bitOf d.plat.inRange supply && bitOf d.plat.inRange 0

/-- R274, R349: the always-on island runs: from release step 1 on, and in M0 and M1. -/
def Dev.aonReleased (d : Dev) : Bool := !d.plat.porLow && (decide (1 ≤ d.plat.relStep) || decide (d.mode < 2))

/-- R243: a bit of the XCVM code that is driven for group g. -/
def Dev.xcvmPad (d : Dev) (g bit : Nat) (pull : Pull) : PadState :=
  if d.padPowered 3 && d.aonReleased then .driven (bitOf (d.get F.PC_XCVM_CODES) (2 * g + bit)) else .held pull

/-- A pad that its controller drives while it is enabled. -/
def Dev.padOf (d : Dev) (supply : Nat) (on : Bool) (off : PadState) : PadState :=
  if d.padPowered supply && on then .active else off

/-- R349: a pad that stays at its pull until the firmware enables it; what it does then is the firmware's. -/
def Dev.padUnset (d : Dev) (p : Pull) : Option PadState :=
  if d.get F.MC_CORE_FW_STATE < 2 then some (.held p) else none

/-- R347, R129: CANTX; in bus monitoring and in internal loopback the controller drives it recessive. -/
def Dev.canPad (d : Dev) (c : Fin 64) : PadState :=
  match d.padOf 3 (d.released (.can c) && d.enabled (.can c)) (.held .up) with
  | .active => if d.get (F.CAN_MODE_TEST c) = 1 ∨ d.get (F.CAN_MODE_TEST c) = 2 then .driven true else .active
  | p => p

/-- R347, R349: the state of an output pad; none for an input and for a pad whose block the spec describes no
further. -/
def Dev.pad (d : Dev) : Signal → Option PadState
  | .canTx c => some (d.canPad c)
  | .linTx c => some (d.padOf 3 (d.released (.lin c) && d.enabled (.lin c)) (.held .up))
  | .xcvmA g => some (d.xcvmPad g 1 .down)
  | .xcvmB g => some (d.xcvmPad g 0 .up)
  | .inh k => some (
      if bitOf d.plat.inRange 3 && d.aonReleased then .driven (d.flag (F.PC_INH_CFG_LEVEL k)) else .held .up)
  | .trig k => some (
      if d.padPowered 2 && d.released (.tl 9) then .driven (tget d.canopy.trig k).level else .held .down)
  | .epTx p _ => some (d.padOf 4 (d.released (.ep p 0) && d.enabled (.ep p 0) && d.mode != 11) .idle)
  | .pcieTx _ _ _ => some (d.padOf 4 (decide (9 ≤ d.plat.relStep)) .idle)
  | .ts s _ => some (d.padOf 7 (d.released (.ts s) && d.enabled (.ts s)) (.held .none))
  | .ospiData _ => d.padUnset .none
  | .fixed k =>
    if k = 3 then some (d.padOf 2 (d.released (.mc 0)) (.held .down))
    else if k = 24 then some (d.padOf 6 (decide (6 ≤ d.plat.relStep)) (.held .down))
    else if k = 20 ∨ k = 21 ∨ k = 22 then d.padUnset (Signal.fixed k).pull
    else none
  | _ => none

/-! ## Supply thresholds (R356), in units of 0.1 mV -/

/-- R356: minimum, maximum, and the thresholds below and above which a reset begins (none where there is none). -/
structure SupplyLimits where
  low : Nat
  high : Nat
  resetLow : Nat
  resetHigh : Option Nat
  deriving DecidableEq, Repr

/-- The limits of a supply, in the bit order of SUPPLY_OK. -/
def supplyLimits : List SupplyLimits :=
  [⟨7275, 7725, 7000, some 8200⟩, ⟨31350, 34650, 27000, none⟩, ⟨17100, 18900, 16200, some 19800⟩,
    ⟨31350, 34650, 29700, some 36300⟩, ⟨8730, 9270, 8500, some 9500⟩, ⟨4700, 5700, 4500, some 6000⟩,
    ⟨10100, 11200, 9800, some 11500⟩, ⟨31350, 34650, 29700, some 36300⟩, ⟨7700, 8300, 7200, none⟩]

/-- R356: at a voltage the supply leaves its range: SUPPLY_WARN. -/
def supplyWarns (s v : Nat) : Bool := (supplyLimits[s]?).any (fun l => decide (v < l.low) || decide (l.high < v))

/-- R356: at a voltage the supply's reset begins. -/
def supplyResets (s v : Nat) : Bool :=
  (supplyLimits[s]?).any (fun l => decide (v < l.resetLow) || l.resetHigh.any (fun h => decide (h < v)))

end Sys2Proof.Machine
end

