-- ==== Sys2Proof/Tests/Slice0.lean ====
section
/-! SUPPORT. Tests: ill-formed commands, published and worked examples, and a witness for every statement
with hypotheses. -/

open Sys2Proof Sys2Proof.Machine

set_option linter.unusedVariables false
set_option Elab.async false

/-! ## States -/

/-- A device whose release is complete, in mode M4, a millisecond after the Timeline began. -/
def runDev : Dev :=
  { State.reset.dev with
    plat := { State.reset.dev.plat with relStep := 11, porLow := false, aon := 1000000 }
    tl := { State.reset.dev.tl with running := true, ns := 1000000, ticks := 1000000 } }.put F.PC_MODE_MODE 4

/-- A state on that device, changed by `f`, with no command waiting. -/
def st (f : Dev → Dev) : State := { State.reset with dev := f runDev }

def run0 : State := st (fun d => d)

/-- Domain i enabled in a state. -/
def domDev (d : Dev) (i x : Nat) : Dev := (d.put (F.DOM_CTRL_EN i) 1).put (F.DOM_STATE_STATE i) x

def domRun (i x : Nat) : State := st (fun d => domDev d i x)

/-- A snapshot in progress. -/
def sn0 : Snapshot := ⟨5, [(1, true, 2), (3, false, 4), (5, true, 6), (7, true, 8)]⟩

def snap0 : State := st (fun d =>
  { d with tl := { d.tl with snap := some sn0 } }.put F.TL_BASE_CTRL_SNAP 1)

/-- A one-shot time entry of action IRQ. -/
def timeEntry : WheelEntry := { w0 := 0x80500000, inst := 5 }

/-- Both PCIe links up. -/
def linkedDev (d : Dev) : Dev := (d.put (F.HB_PORT_STAT_LINK_UP 0) 1).put (F.HB_PORT_STAT_LINK_UP 1) 1

def linked : State := st linkedDev

def stl (f : Dev → Dev) : State := st (fun d => f (linkedDev d))

/-- Grove in service, its initial test passed. -/
def groveDev (d : Dev) : Dev :=
  ((d.put (F.CTRL_ENABLE (pageBase (.gv 0))) 1).put F.GV_ENG_CTRL_RUN 1).put F.GV_ROT_STAT_INIT_DONE 1

def stg (f : Dev → Dev) : State := st (fun d => f (groveDev d))

/-- An instance of PDU 7 from CAN channel 3. -/
def inst0 : Instance := { serial := 4, src := 3, pdu := 7, rxlen := 8, fits := 8, input := 0x55, gen := 0 }

/-- Thread 9 ready, holding an instance. -/
def thrDev (d : Dev) (x : Instance) : Dev := d.modThr 9 (fun c => { c with st := .ready, pc := 0x4000, inst := some x })

def stt (f : Dev → Dev) : State := stg (fun d => f (thrDev d inst0))

/-- The two halves of a paired instance on threads 9 and 20. -/
def pairA : Instance := { inst0 with paired := true, partner := 20 }
def pairB : Instance := { inst0 with paired := true, partner := 9 }


/-- CAN channel 3 in service and error active, with message RAM regions, its FIFOs enabled and owned by
management firmware. -/
def canDev (d : Dev) : Dev :=
  [(F.CTRL_ENABLE (pageBase (.can 3)), 1), (F.CAN_MR_FILT_NOMATCH 3, 1), (F.CAN_MR_RX0_BLOCKS 3, 64),
   (F.CAN_MR_TX_BASE 3, 100), (F.CAN_MR_TX_SLOTS 3, 4), (F.CAN_MR_TX_SLOT_BLOCKS 3, 2), (F.CAN_ERR_STATE 3, 0),
   (F.FS_CFG_EN 3 0, 1), (F.FS_CFG_OWNER 3 0, 1), (F.FS_CFG_EN 3 2, 1), (F.FS_CFG_OWNER 3 2, 1)].foldl
    (fun a x => a.put x.1 x.2) d

def stc (f : Dev → Dev) : State := st (fun d => f (canDev d))

/-- A classical frame of identifier 0x123 with two bytes. -/
def frame0 : CanFrame := ⟨0x123, false, false, 0, false, false, 0, false, 0, 0, [1, 2]⟩

/-- Two received items of channel 3, landed. -/
def rxItems (d : Dev) : Dev :=
  (d.modChan 3 (fun c => { c with rx0 := [{ block := 0, blocks := 1, ns := 5, seq := 0 }, { block := 1, blocks := 1, ns := 6, seq := 1 }] })).put (F.FS_STAT_FILL 3 0) 2

/-- A landed item of slot 1. -/
def item0 : FsItem := { block := 1, blocks := 1, ns := 5, seq := 0 }

/-- A landed item at the head of channel 3's transmit FIFO. -/
def txHead (d : Dev) (h : TxHead) : Dev :=
  (d.modChan 3 (fun c => { c with tx := [item0], head := some h })).put (F.FS_STAT_FILL 3 2) 1

def head0 : TxHead := ⟨5, false, false, none, false⟩

/-- Authentication entry 0 of channel 3, at block 200, for receiving identifier 0x123 with freshness 7 and a second
word; traffic key 0 holds a key. -/
def authDev (d : Dev) (w1 : Nat) : Dev :=
  (({ d with sc := { d.sc with tk := [(0, { valid := true, key := List.replicate 16 5 })] } }.put (F.CAN_MR_AUTH_BASE 3) 200).put
    (F.CAN_MR_AUTH_COUNT 3) 1).ramWrite 3 12800 (leBytes 4 0x80000123 ++ leBytes 4 w1 ++ leBytes 8 7)

/-- A ring message, and channel 3 with it in its reserved buffer since the start. -/
def ring0 : RingMsg := ⟨0, 9, false, false, 0, 1⟩

def ringBuf (d : Dev) : Dev :=
  (d.put F.CLR_CFG_CHAN 3).modClr (fun c => { c with buf := [(ring0, 0)] })

/-- LIN channel 2 in service, its FIFOs enabled. -/
def linDev (d : Dev) : Dev :=
  [(F.CTRL_ENABLE (pageBase (.lin 2)), 1), (F.FS_CFG_EN 66 0, 1), (F.FS_CFG_EN 66 2, 1),
   (F.FS_CFG_OWNER 66 2, 1)].foldl (fun a x => a.put x.1 x.2) d

def stln (f : Dev → Dev) : State := st (fun d => f (linDev d))

/-- A LIN frame of identifier 5 in progress. -/
def linF (own item : Bool) : LinFrame := { id := 5, own := own, data := [1, 2], item := item, stamp := 7, tb := 0, ns := 7 }

/-- An item with a control word landed in LIN channel 2's transmit FIFO. -/
def linTx (d : Dev) (ctrl : Nat) : Dev :=
  ((d.modChan 66 (fun c => { c with tx := [item0] })).ramWrite 66 0x820 (leBytes 4 ctrl)).put
    (F.FS_STAT_FILL 66 2) 1

/-- EP port 2 in service with its link up at 1 Gb/s, port 17 (TS1) in service, and the switch. -/
def ethDev (d : Dev) : Dev :=
  [(F.CTRL_ENABLE (pageBase (.ep 2 0)), 1), (F.EP_LINK_LINK_UP 2, 1), (F.EP_LINK_SPEED 2, 2),
   (F.EP_LINK_STAMP_READY 2, 1), (F.CTRL_ENABLE (pageBase (.ts 1)), 1), (F.TS_STAT_CSMA 1, 1),
   (F.CTRL_ENABLE (pageBase (.sw 0)), 1), (F.CTRL_ENABLE (pageBase (.lk 0 0)), 1),
   (F.CTRL_ENABLE (pageBase (.lk 1 0)), 1)].foldl (fun a x => a.put x.1 x.2) d

def ste (f : Dev → Dev) : State := st (fun d => f (ethDev d))

/-- The first 64 bytes of an untagged frame from 0x020000000001 to 0x020000000002. -/
def headBytes : List Byte :=
  [2, 0, 0, 0, 0, 2, 2, 0, 0, 0, 0, 1, 0x12, 0x34] ++ List.replicate 50 7

/-- An uncorrectable error stands in a word of a memory. -/
def badWord (mem : Nat) (d : Dev) : Dev :=
  { d with scrub := { d.scrub with errs := [{ word := (mem, 3, 5), bits := 2, inj := false }] } }

/-- Scrubbing is on, and the scrubber of a bank stands at a word. -/
def scrubAt (mem inst addr : Nat) (d : Dev) : Dev :=
  { d.put F.SD_SCRUB_CTRL_EN 1 with
    scrub := { d.scrub with pos := [(bankKey mem inst addr, addr - (bankOf mem inst addr).2)] } }

/-- VLAN 1 holds every port. -/
def vlanDev (d : Dev) : Dev :=
  { d with sw := { d.sw with vlan := [(1, { w0 := 0x8FFFFFFF, w1 := 0 })] } }.put (F.SW_PORT_CFG_PVID 2) 1

/-- A whole frame of port 2 that waits for its lookup. -/
def rx0 : RxFrame := { bytes := headBytes, whole := true, reserve := 1536, stamp := 9, base := 9 }

/-- A stored frame from port 3, and its copy in queue 16 (port 2, class 0). -/
def gf0 : GFrame := { port := 3, bytes := headBytes, whole := true, cells := 1, copies := 1, stamp := 9 }

def storedDev (d : Dev) : Dev :=
  { d with
    sw := { d.sw with frames := [(5, gf0)], next := 6 }
    tm := { d.tm with q := [(16, { copies := [⟨5, 0, 0⟩] })] } }

/-- A frame for port 27 alone, waiting for its lookup on port 2. -/
def ctlBytes : List Byte := beBytes 6 0x0180C2000001 ++ headBytes.drop 6

def ctlRx : RxFrame := { rx0 with bytes := ctlBytes }

def ctlDev (d : Dev) : Dev := d.modPort 2 (fun x => { x with rx := [ctlRx] })

/-- EP port 2 protects what it sends, with traffic key 0 at packet number 9. -/
def macsecDev (d : Dev) : Dev :=
  (({ d with
      sc := { d.sc with tk := [(0, { valid := true, key := List.replicate 16 5 })] }
      msc := [(34, { w0 := 0x80000000, w1 := 0, w2 := 0 })] }.modSa 2 0 (fun _ => { w0 := 0x80000000, ssci := 0, pn := 9 })).put
    (F.MS_CTRL_EN 2) 1).put (F.MS_CTRL_PROTECT 2) 1

/-- A frame for management firmware, and a parity error armed for port 27. -/
def storedMc (d : Dev) : Dev :=
  { d with
    sw := { d.sw with frames := [(5, gf0)], next := 6 }
    tm := { d.tm with q := [(216, { copies := [⟨5, 0, 0⟩] })] } }

def parityDev (d : Dev) : Dev := { d with inject := some { kind := 2, inst := 27, mem := 0, addr := 0 } }

/-- That copy in transmission on port 2. -/
def tx0 : TxSt := { id := 5, queue := 16, committed := false, est := 0, weight := 1, base := 7, stamp := 7, tb := 0, protect := none, taps := [], waiting := false, fix := none }

def sendingDev (d : Dev) : Dev :=
  { d with sw := { d.sw with frames := [(5, { gf0 with started := true })], next := 6 } }.modPort 2 (fun x =>
    { x with tx := some tx0 })

/-- The entry of key (0x020000000001, 5) in slice 0, dynamic, of port 2. -/
def lkEntry0 : LkEntry := { mac := 0x020000000001, vid := 5, valid := true, dest := 4, srcPort := 2 }

/-- The window of slice 0 names that key. -/
def lkKey0 (d : Dev) : Dev :=
  ((d.put (F.LK_KEY0_MAC 0) 1).put (F.LK_KEY1_MAC 0) 0x200).put (F.LK_KEY1_VID 0) 5

/-- Slice 0 holds it in the first slot of its first bucket. -/
def lkIndex0 : Nat := 4 * lkHash0 0x020000000001 5

def lkDev (d : Dev) : Dev :=
  { (lkKey0 d).put (F.LK_STAT_ENTRIES 0) 1 with lk := [(0, { tab := [(lkIndex0, lkEntry0)] })] }

/-- Entries of other keys fill both buckets of that key, with homes elsewhere; or nowhere else. -/
def lkFiller (buckets : List Nat) (mac : Nat) : List (Nat × LkEntry) :=
  buckets.flatMap (fun b => (List.range 4).map (fun k => (4 * b + k, { lkEntry0 with mac })))

def lkTable (d : Dev) (l : List (Nat × LkEntry)) : Dev :=
  { d with lk := [(0, { tab := l.foldl (fun t x => tset t x.1 x.2) [] })] }

def lkBuckets : List Nat := [lkHash0 0x020000000001 5, lkHash1 0x020000000001 5]

def lkFull (d : Dev) : Dev := lkTable d (lkFiller lkBuckets 0x020000000009)

def lkStuck (d : Dev) : Dev :=
  lkTable d (lkFiller (lkBuckets ++ [lkHash0 0x020000000009 5, lkHash1 0x020000000009 5]) 0x020000000009)

/-- The window's entry inserted into slice 0, then into slice 1. -/
def lkBoth0 (d : Dev) : Dev × Bool :=
  ((d.commanded (R.LK_CMD 0) (cmdWord [(F.LK_CMD_GO 0, 1), (F.LK_CMD_OP 0, 2), (F.LK_CMD_SLICES 0, 3)]) (F.LK_CMD_GO 0)).setWord
    (R.LK_RESULT 0) 0).lkInsert 0 (d.lkWindowEntry 0)

def lkBoth1 (d : Dev) : Dev × Bool := ((lkBoth0 d).1.put (lkResultFld 0 0) 0).lkInsert 1 (d.lkWindowEntry 0)

/-- Two notices in slice 1's LEARNQ, landed. -/
def lqDev (d : Dev) : Dev :=
  { d.put (F.LQ_STAT_FILL 1) 2 with learnq := [(1, [⟨1, 2, 3, 4⟩, ⟨5, 6, 7, 8⟩])] }

/-- Log ring 2 running, one record waiting to be written. -/
def cap0 : CapRec := { tap := 5, source := 3, stamp := 9, orig := 2, data := [1, 2], held := 34 }

def capDev (d : Dev) : Dev :=
  { [(F.CP_RING_CFG_EN 2, 1), (F.CP_RING_SIZE_UNITS 2, 1), (F.CP_RING_STAT_STATE 2, 1), (F.CP_TAP_CFG_RING 5, 2),
     (F.CP_BUF_STAT_USED, 34)].foldl (fun (a : Dev) x => a.put x.1 x.2) d with
    cp := { d.cp with pend := [cap0] } }

/-- AVTP stream 1 takes from that ring, which holds two bytes; the pacer has admitted its PDU. -/
def avDev (d : Dev) : Dev :=
  (([(F.CP_AV_CFG_EN 1, 1), (F.CP_AV_CFG_RING 1, 2), (F.CP_AV_CFG_SEG 1, 1), (F.CP_RING_CFG_CONSUMER 2, 3),
     (F.CP_RING_SIZE_UNITS 2, 1), (F.CP_RING_WPTR_PTR 2, 2)].foldl (fun (a : Dev) x => a.put x.1 x.2) d).modRing 2
    (fun g => { g with recs := [⟨5, 0, [1, 2]⟩] })).modPort 27 (fun x => { x with admitted := true })

/-- A bus wake of group 3 without a check, begun at the start. -/
def wake0 : GroupWake := { kind := 1, source := 24, since := 0, check := false, listen := false }
def wake1 : GroupWake := { wake0 with check := true, listen := true }

/-- Group 3 asleep with a wake. -/
def wakeDev (d : Dev) (w : GroupWake) : Dev := (d.setGroup 3 3).setWake 3 (some w)

/-- A late instant of the always-on clock. -/
def late (d : Dev) : Dev := d.modPlat (fun p => { p with aon := 10 ^ 12 })

/-- The Clearing assist on CAN channel 3 as node 5, joined, with node 9 present, in a state. -/
def clrDev (d : Dev) (x : Nat) : Dev :=
  { ([(F.CTRL_ENABLE (pageBase (.can 3)), 1), (F.CLR_CFG_EN, 1), (F.CLR_CFG_CHAN, 3), (F.CLR_CFG_NODE, 5),
      (F.CLR_MEMBERS_LO_MASK, 0x220), (F.CLR_PRESENT_LO_MASK, 0x220), (F.CLR_STAT_STATE, x),
      (F.CLR_STAT_CONSENT, 1)].foldl (fun (a : Dev) x => a.put x.1 x.2) d) with
    clr := { d.clr with joined := true, heard := 0 } }

/-- The example of RFC 3394, section 4.1: the wrapped key stands in VDATA, its key in the working key. -/
def wrapKey : List Byte :=
  [0x00, 0x11, 0x22, 0x33, 0x44, 0x55, 0x66, 0x77, 0x88, 0x99, 0xAA, 0xBB, 0xCC, 0xDD, 0xEE, 0xFF]

def wrapped : State := st (fun d =>
  (d.putBytes (R.VDATA 0)
    [0x1F, 0xA6, 0x8B, 0x0A, 0x81, 0x12, 0xB4, 0x47, 0xAE, 0xF3, 0x4B, 0xD8, 0xFB, 0x5A, 0x7B, 0x82,
     0x9D, 0x3E, 0x86, 0x23, 0x71, 0xD2, 0xCF, 0xE5]).put F.CMAC_LEN_BYTES 24 |>.modSc (fun x =>
      { x with wkr := (List.range 16).map (BitVec.ofNat 8) }))

/-- A signed manifest of session 5 with 4 blocks and components of kinds 1 and 3. -/
def manKey : List Byte := beBytes 384 (2 ^ 3072 - 47)

def manSig : List Byte :=
  beBytes 48 0x04943CEF55DB1DD68C9E163827F99F191A8220394EA447AC7B416946D1B42E8174779D3271AA94D073AD7D7A86E18B9A ++
  beBytes 48 0x70D7C13CC649DD13D2663EA3D39FBFF3811376D52FD80477FEDEB7A0AD3C4044C2C1C63FE01DB25D529AE49F62332450 ++
  beBytes 48 0x7B2912CFBF740CA30115CE112E4CB4FFD80F437BAA696034981C0B113DDA6B6F6E19029FF174E8149CC803608B0B11D0 ++
  beBytes 48 0x132D1D5F3B661B68A6DC46AAFABDD1B4DD2D8DECB138E4A4D3EF171DEEB9F372CEF5DB06498E56B4F7AC49083335E7E7 ++
  beBytes 48 0x3D88C4AE977B9E7A56D6AD986926690095A3105015A0CCC539CDDAA60D68C0089DE06744D4C12B941184271422146CAF ++
  beBytes 48 0x879BFF335B05D48A6B5D533F710FF3F12A3D178E007D4170590C1A0E086B3A2D08CB59E23BACC7E69C58909A750773B4 ++
  beBytes 48 0xF977B0CB620C4A246489977A40138C0E76010705A080F0AFC87E03E95235C727EEE39FB8350BB72497F62D16C737B8C6 ++
  beBytes 48 0xEF78E7AA238B754752F79E9AA33A666993BDD44E7BAFEBDA6E0E27D8F72D029F2354CA015A9FF48C9FA701F90735CBEA

def manPayload : List Byte :=
  leBytes 4 5 ++ leBytes 4 4 ++ leBytes 4 2 ++ List.replicate 32 0 ++
    (leBytes 4 1 ++ leBytes 4 0x1000 ++ leBytes 4 4096 ++ leBytes 4 0 ++ List.replicate 32 0) ++
    (leBytes 4 3 ++ leBytes 4 0x2000 ++ leBytes 4 16 ++ leBytes 4 0 ++ List.replicate 32 0)

def manifest0 : List Byte :=
  leBytes 4 0x4E5A5641 ++ leBytes 2 1 ++ [0, 2] ++ leBytes 4 140 ++ leBytes 4 0 ++ leBytes 4 1 ++
    List.replicate 12 0 ++ beBytes 32 0xC4378AD857EA0414E137F10D172C9296516718C1B8523F5291EA023394961057 ++
    manKey ++ manSig ++ List.replicate 192 0 ++ manPayload

/-- A block 0 with a DELTA of 5 us that applies to manifest0's database. -/
def deltaMan : List Byte :=
  List.replicate 1024 0 ++ leBytes 4 5 ++ leBytes 4 4 ++ leBytes 4 1 ++ List.replicate 32 0 ++
    (leBytes 4 4 ++ leBytes 4 0x2000 ++ leBytes 4 16 ++ leBytes 4 5 ++ List.replicate 32 0)

/-- Motion and battery are read from sink 11, the byte 0x55 of transmit PDU 7, within both limits. -/
def battDev (d : Dev) : Dev :=
  [(F.SAP_MOTION_SINK, 11), (F.SAP_MOTION_MAX_MAX, 100), (F.SAP_BATT_SINK, 11), (F.SAP_BATT_MIN_MIN, 3),
   (F.PC_MON_STAT_SUPPLY_OK, 0x1FF)].foldl (fun (a : Dev) y => a.put y.1 y.2)
    { d with gv := { d.gv with sig := [(33, 0xC001C000), (34, 7 * 65536)], pdu := [(7, { w0 := 0xC0000000, w2 := 8, image := 0x55 })] } }

/-- The relay runs in session 5 of 4 blocks, in a state, peer 2 in use at address 0x0A000002. -/
def sapDev (d : Dev) (x : Nat) : Dev :=
  [(F.MC_CORE_FW_STATE, 2), (F.SAP_CFG_EN, 1), (F.SAP_CFG_DOWN_EN, 4), (F.SAP_DOWN_IP_ADDR 2, 0x0A000002),
   (F.SAP_IP_ADDR, 0x0A000001), (F.SAP_SESSION_ID, 5), (F.SAP_RX_TOTAL, 4), (F.SAP_STAT_STATE, x)].foldl
    (fun (a : Dev) y => a.put y.1 y.2) d

def sts (x : Nat) (f : Dev → Dev) : State := st (fun d => f (sapDev d x))

/-- A block of data. -/
def block0 : List Byte := List.replicate 4096 3

/-- Block n of the session. -/
def dataMsg (session n : Nat) : SapMsg := ⟨1, 0, session, n, 0, 4, block0⟩

theorem block0_length : block0.length = 4096 := List.length_replicate

theorem dataMsg_read (session n : Nat) (h : session < 2 ^ 32) (k : n < 2 ^ 32) :
    sapRead (sapBytes (dataMsg session n)) = some (dataMsg session n) :=
  sapRead_sapBytes _ (by simp [dataMsg]) (by simp [dataMsg]) h k (by simp [dataMsg, block0_length])
    (by simp [dataMsg]) (by simp [dataMsg])

/-- A record. -/
def chRec0 : ChRec := { cause := 0x1005, source := 3, data := [1, 2] ++ List.replicate 38 0, sec := 5, ns := 6, mode := 4, raised := 9 }

/-- A firmware image of one byte, signed with manKey. -/
def fwSig : List Byte :=
  beBytes 48 0x8E5319061DBDFA6606FF7527A0964882B3E3C0827BE8B14024CC23CBA40C68189EF17B8DB266DCB2EA4FA02950E9474C ++
  beBytes 48 0x52380D1B8744D0B2A846783D06F14616B2C87F9492294F925F1182F8A2CBF2BE80CA1446CDCBF722FBA51ADA2F847C89 ++
  beBytes 48 0x979559D41DD8AD239DA2AE361A0148DFF03FD1D0C0E14C6E315C13B2FBBC8175A11A13B422865C322A65BD06D997CA16 ++
  beBytes 48 0xD74323F5ECF1449EB785DD237C79832714C1C6F682D754B77EFFDC80BA36F09BCE907E609BE8E34439F391E2CE4B8F90 ++
  beBytes 48 0x6A74A4A7A9ED31D6B6D6E797CF3FBBE2F1DAB40DEEA8655A3E291B0754CB455E83E2340EE1224B587B8FEAE4323811D2 ++
  beBytes 48 0x8D85D96D2B8D1DC08AE8DEC68368C80461C6CD3BE6B134523B3EF0D556843069FAF7700899778AD71433231A24113A74 ++
  beBytes 48 0x5AF1ED8D3BDE795AA811DBE96FD90CB036B813F10069259C0382446D03AFE700BC3DDA764BFEA36FF55C839FEEDF6E9A ++
  beBytes 48 0x477730AB220D89F53E10B1B1417A5C05CE69D8351747B985BF2B623140343F8E3902DCC319E8D501985B19FDFF703B6C

def fw0 : List Byte :=
  leBytes 4 0x4E5A5641 ++ leBytes 2 1 ++ [0, 1] ++ leBytes 4 1 ++ leBytes 4 0 ++ leBytes 4 1 ++
    List.replicate 12 0 ++ beBytes 32 0x6922E93E3827642CE4B883C756B31ABF80036649D3614BF5FCB3ADDA43B8EA32 ++ manKey ++ fwSig ++ List.replicate 192 0 ++ [0xA5]

/-- A start that stands at a boot step. -/
def bootDev (d : Dev) (step : Nat) : Dev := d.put F.BOOT_STEP_STEP step

/-- A release that stands at a release step. -/
def relDev (d : Dev) (step : Nat) : Dev := d.modPlat (fun p => { p with relStep := step })

/-- A COMMIT in progress whose first copy is due. -/
def copyRun0 : CopyRun := { copy := { words := [], gen := 5, crc := 7 }, first := 1, mid := 1000000, fin := 2000000, was := 3, half := false }

/-! ## Ill-formed commands: one for each check -/

theorem test_ill_address : (Instr.registerWrite .mc 0x4001000 0 true false).wellFormed = false := by decide
theorem test_ill_page : (Instr.softReset .mc (.can 64)).wellFormed = false := by decide
theorem test_ill_page_end : (Instr.softResetComplete (.tl 99)).wellFormed = false := by decide
theorem test_ill_force : (Instr.irqForce .mc (.lin 16) 1).wellFormed = false := by decide
theorem test_ill_descriptor : (Instr.dmaDescriptorDone 0 0 ⟨1, false, true, [1, 2], 0⟩).wellFormed = false := by decide
theorem test_ill_delivery :
    (Instr.deliveryFlushTimeout none 0 0 ⟨1, false, true, [1, 2], 0⟩).wellFormed = false := by decide
theorem test_ill_pacer : (Instr.pacerAdmit false [1]).wellFormed = false := by decide
theorem test_ill_can_length :
    (Instr.canFrameRx 0 ⟨1, false, false, 0, false, false, 0, false, 0, 0, List.replicate 9 0⟩ 0).wellFormed = false := by
  decide
theorem test_ill_can_identifier :
    (Instr.canFrameRx 0 ⟨2048, false, false, 0, false, false, 0, false, 0, 0, []⟩ 0).wellFormed = false := by decide
theorem test_ill_can_xl :
    (Instr.canFrameRx 0 ⟨1, true, false, 2, false, false, 0, false, 0, 0, [1]⟩ 0).wellFormed = false := by decide
theorem test_ill_can_remote :
    (Instr.canFrameRx 0 ⟨1, false, true, 1, false, false, 0, false, 0, 0, []⟩ 0).wellFormed = false := by decide
theorem test_ill_lin_response : (Instr.linResponseRx 0 ⟨[], 0, false, false⟩).wellFormed = false := by decide
theorem test_ill_lin_bytes : (Instr.linResponseTimeout 0 9).wellFormed = false := by decide
theorem test_ill_head : (Instr.epFrameHead 0 [1] 0 true).wellFormed = false := by decide
theorem test_ill_ring_message : (Instr.clrRingMsgRx 0 (List.replicate 9 0)).wellFormed = false := by decide
theorem test_ill_pll : (Instr.clockFault (some 6) 0).wellFormed = false := by decide
theorem test_ill_visit : (Instr.scrubVisit 8 1 0 1).wellFormed = false := by decide
theorem test_ill_salt : (Instr.tkStageWrite .mc true 3 0).wellFormed = false := by decide

/-- The table gives no row any bits: no word spells a command. -/
theorem test_decode_none : decodeTableWord 32 0x4005B50B = none := by decide

/-- R115: GX.SIGLD x10, x11 into D1 is the word 0x4005_B50B. -/
theorem test_engine_sigld : decode32 0x4005B50B = some (.gxSigld 10 11 1) := by decide +kernel

/-- R115: funct7 3 of GX.PDUPUT, GX.TS 7 and a field marked 0 that is not 0 are illegal. -/
theorem test_engine_illegal :
    [0x0600102B, 0x0E00500B, 0x0010000B].map decode32 = [none, none, none] := by decide +kernel

/-- RV32IMC: ADDI x5, x6, -1; MUL x5, x6, x7; BEQ x1, x2, -8; C.ADDI x8, 1; C.LWSP x9, 4(x2). -/
theorem test_engine_base :
    [0xFFF30293, 0x027302B3, 0xFE208CE3].map decode32 =
      [some (.opImm .add 5 6 (-1)), some (.op .mul 5 6 7), some (.branch .eq 1 2 (-8))] ∧
    [0x0405, 0x4492].map decode16 = [some (.opImm .add 8 8 1), some (.load 4 true 9 2 4)] := by decide +kernel

/-! ## Balls and pads: the example of R345, and pulls of R346 -/

/-- CAN37 lies at Y33 and Y34, EP9_TXN at AA2, XCVM_A4 at V30. -/
theorem test_balls : [Signal.canTx 37, .canRx 37, .epTx 9 true, .xcvmA 4].map Signal.ball =
    [⟨19, 33⟩, ⟨19, 34⟩, ⟨20, 2⟩, ⟨17, 30⟩] ∧ rowNames[18]? = some "Y" ∧ rowNames[19]? = some "AA" := by decide

/-- VCORE lies where row index and column add up to an even number; the other core balls are VSS. -/
theorem test_core_balls : supplyBall ⟨10, 10⟩ = some "VCORE" ∧ Ball.isVss ⟨10, 11⟩ = true ∧ Ball.isVss ⟨10, 10⟩ = false := by
  decide +kernel

/-- XCVM_A is pulled down and XCVM_B up: 01, standby. -/
theorem test_pulls : (Signal.xcvmA 0).pull = .down ∧ (Signal.xcvmB 0).pull = .up ∧ (Signal.fixed 19).pull = .down := by
  decide

/-! ## Published examples of the algorithms that the spec names -/

/-- CRC-32 and CRC-32C of "123456789". -/
theorem test_crc : crc32 [0x31, 0x32, 0x33, 0x34, 0x35, 0x36, 0x37, 0x38, 0x39] = 0xCBF43926 ∧
    crc32c [0x31, 0x32, 0x33, 0x34, 0x35, 0x36, 0x37, 0x38, 0x39] = 0xE3069283 := by decide +kernel

/-- FIPS 180-4: "abc". -/
theorem test_sha256 : sha256 [0x61, 0x62, 0x63] =
    beBytes 32 0xBA7816BF8F01CFEA414140DE5DAE2223B00361A396177A9CB410FF61F20015AD := by decide +kernel

/-- FIPS 197, C.3: AES-256. -/
theorem test_aes : bytesOf (aesEncK (roundKeys (List.range 32)) ((List.range 16).map (fun i => 17 * i))) =
    beBytes 16 0x8EA2B7CA516745BFEAFC49904B496089 := by decide +kernel

/-- RFC 4493: the message of 16 bytes. -/
theorem test_cmac : cmac (beBytes 16 0x2B7E151628AED2A6ABF7158809CF4F3C) (beBytes 16 0x6BC1BEE22E409F96E93D7E117393172A) =
    beBytes 16 0x070A16B46B4D4144F79BDD9DD04A287C := by decide +kernel

/-- RFC 3394, 4.1. -/
theorem test_unwrap : keyUnwrap ((List.range 16).map (BitVec.ofNat 8))
    (beBytes 24 0x1FA68B0A8112B447AEF34BD8FB5A7B829D3E862371D2CFE5) = some wrapKey := by decide +kernel

/-! ## Worked examples of the spec -/

/-- R296: the check value of the all-zero AES-128 key. -/
theorem test_check_value : keyCheck (List.replicate 16 0) = 0x66E94B := by decide +kernel

/-- R82: START 24, 16 bits, most significant byte first: byte 3 holds bits 7:0, byte 2 bits 15:8. -/
theorem test_field_order : fieldGet true 24 16 0xABCD0000 = 0xCDAB ∧ fieldGet true 24 8 0xAB000000 = 0xAB := by
  decide +kernel

/-- R87: an 8-bit sink with patterns 1 and 2: a result of 0xFF is written as 0xFD. -/
theorem test_patterns_kept :
    ({ runDev with gv := { runDev.gv with xfm := [(28, 1), (31, 0x9000)] } } : Dev).transform 7 0 0xFF 8 0xFF 8 false =
      some (0xFD, false) := by decide +kernel

/-- The device that a command leaves. -/
def left (o : Host.Outcome State Fault Refusal) : Dev :=
  match o with
  | .next t => t.dev
  | _ => default

/-- R36: CAN5 is enabled when HA makes its write 1002, to CAN_DBT. -/
def busy5 : State := stl (fun d => (d.put (F.CTRL_ENABLE (pageBase (.can 5))) 1).put (F.HB_WSEQ_SEQ 0) 1001)

theorem test_posted_error : let d := left (exec (.registerWrite .ha 0x1005048 7 true false) busy5)
    d.get (F.PEL_ADDR_ADDR 0 0) = 0x1005048 ∧ d.get (F.PEL_SEQ_SEQ 0 0) = 1002 ∧ d.get (F.PEL_INFO_CODE 0 0) = 0x0112 := by
  decide +kernel

/-- R36: write 1003, to the same page, is discarded. -/
def busy5b : State := { busy5 with dev :=
  (((busy5.dev.put (F.HB_WSEQ_SEQ 0) 1002).put (F.PEL_ADDR_VALID 0 0) 1).put (F.PEL_ADDR_ADDR 0 0) 0x1005048) }

theorem test_posted_discard : let d := left (exec (.registerWrite .ha 0x100504C 7 true false) busy5b)
    d.get (F.HB_PEL_DISCARD_COUNT 0) = 1 ∧ d.get (F.HB_WSEQ_SEQ 0) = 1003 := by decide +kernel

/-- R336: after SEQ 40,999 the record with SEQ 41,000 goes into slot 8,232. -/
theorem test_chamber_slot : let d := left (exec (.chamberWrite true) (st (fun d =>
      { (d.put F.CH_STAT_SCAN_DONE 1).put F.CH_HEAD_SEQ 40999 with ch := { d.ch with queue := [chRec0] } })))
    slotSeq (d.slot 8232) = 41000 ∧ slotValid (d.slot 8232) = true := by decide +kernel

/-! ## Facts put in front of a conjunction -/

theorem fuse2 {a b r : Prop} (hd : a ∧ b) (tl : r) : a ∧ b ∧ r := ⟨hd.1, hd.2, tl⟩
theorem fuse3 {a b c z : Prop} (hd : a ∧ b ∧ c) (tl : z) :
    a ∧ b ∧ c ∧ z := And.imp_right (fuse2 · tl) hd
theorem fuse4 {a b c d z : Prop} (hd : a ∧ b ∧ c ∧ d) (tl : z) :
    a ∧ b ∧ c ∧ d ∧ z := And.imp_right (fuse3 · tl) hd
theorem fuse5 {a b c d e z : Prop} (hd : a ∧ b ∧ c ∧ d ∧ e) (tl : z) :
    a ∧ b ∧ c ∧ d ∧ e ∧ z := And.imp_right (fuse4 · tl) hd
theorem fuse6 {a b c d e f z : Prop} (hd : a ∧ b ∧ c ∧ d ∧ e ∧ f) (tl : z) :
    a ∧ b ∧ c ∧ d ∧ e ∧ f ∧ z := And.imp_right (fuse5 · tl) hd
theorem fuse7 {a b c d e f g z : Prop} (hd : a ∧ b ∧ c ∧ d ∧ e ∧ f ∧ g) (tl : z) :
    a ∧ b ∧ c ∧ d ∧ e ∧ f ∧ g ∧ z := And.imp_right (fuse6 · tl) hd
theorem fuse8 {a b c d e f g h z : Prop} (hd : a ∧ b ∧ c ∧ d ∧ e ∧ f ∧ g ∧ h) (tl : z) :
    a ∧ b ∧ c ∧ d ∧ e ∧ f ∧ g ∧ h ∧ z := And.imp_right (fuse7 · tl) hd
theorem fuse9 {a b c d e f g h i z : Prop} (hd : a ∧ b ∧ c ∧ d ∧ e ∧ f ∧ g ∧ h ∧ i) (tl : z) :
    a ∧ b ∧ c ∧ d ∧ e ∧ f ∧ g ∧ h ∧ i ∧ z := And.imp_right (fuse8 · tl) hd
theorem fuse10 {a b c d e f g h i j z : Prop} (hd : a ∧ b ∧ c ∧ d ∧ e ∧ f ∧ g ∧ h ∧ i ∧ j) (tl : z) :
    a ∧ b ∧ c ∧ d ∧ e ∧ f ∧ g ∧ h ∧ i ∧ j ∧ z := And.imp_right (fuse9 · tl) hd
theorem fuse11 {a b c d e f g h i j k z : Prop} (hd : a ∧ b ∧ c ∧ d ∧ e ∧ f ∧ g ∧ h ∧ i ∧ j ∧ k) (tl : z) :
    a ∧ b ∧ c ∧ d ∧ e ∧ f ∧ g ∧ h ∧ i ∧ j ∧ k ∧ z := And.imp_right (fuse10 · tl) hd
theorem fuse12 {a b c d e f g h i j k l z : Prop} (hd : a ∧ b ∧ c ∧ d ∧ e ∧ f ∧ g ∧ h ∧ i ∧ j ∧ k ∧ l) (tl : z) :
    a ∧ b ∧ c ∧ d ∧ e ∧ f ∧ g ∧ h ∧ i ∧ j ∧ k ∧ l ∧ z := And.imp_right (fuse11 · tl) hd
theorem fuse13 {a b c d e f g h i j k l m z : Prop} (hd : a ∧ b ∧ c ∧ d ∧ e ∧ f ∧ g ∧ h ∧ i ∧ j ∧ k ∧ l ∧ m) (tl : z) :
    a ∧ b ∧ c ∧ d ∧ e ∧ f ∧ g ∧ h ∧ i ∧ j ∧ k ∧ l ∧ m ∧ z := And.imp_right (fuse12 · tl) hd
theorem fuse14 {a b c d e f g h i j k l m n z : Prop} (hd : a ∧ b ∧ c ∧ d ∧ e ∧ f ∧ g ∧ h ∧ i ∧ j ∧ k ∧ l ∧ m ∧ n) (tl : z) :
    a ∧ b ∧ c ∧ d ∧ e ∧ f ∧ g ∧ h ∧ i ∧ j ∧ k ∧ l ∧ m ∧ n ∧ z := And.imp_right (fuse13 · tl) hd

/-! ## Results taken apart -/

theorem tuple2 {A B : Type} (p : A × B) : p = (p.1, p.2) := rfl
theorem tuple3 {A B C : Type} (p : A × B × C) : p = (p.1, p.2.1, p.2.2) := rfl
theorem tuple4 {A B C D : Type} (p : A × B × C × D) : p = (p.1, p.2.1, p.2.2.1, p.2.2.2) := rfl
theorem tuple5 {A B C D E : Type} (p : A × B × C × D × E) :
    p = (p.1, p.2.1, p.2.2.1, p.2.2.2.1, p.2.2.2.2) := rfl
theorem pairOf {A B : Type} (p : A × B) (b : B) (h : p.2 = b) : p = (p.1, b) := by rw [← h]
theorem pairFrom {A B : Type} (p : A × B) (a : A) (h : p.1 = a) : p = (a, p.2) := by rw [← h]
theorem someOf {A : Type} (o : Option A) (h : o.isSome = true) : o = some (o.get h) := (Option.some_get h).symm
theorem someTuple {A B : Type} (o : Option (A × B)) (h : o.isSome = true) : o = some ((o.get h).1, (o.get h).2) := by
  rw [tuple2 (o.get h) |>.symm, Option.some_get]

/-- The UDP port of the boot ROM is 16 bits wide. -/
theorem bootPort_toNat (d : Dev) (h : d.sapBoot = true) : (BitVec.ofNat 16 d.sapPort).toNat = d.sapPort := by
  rw [BitVec.toNat_ofNat]
  apply Nat.mod_eq_of_lt
  unfold Dev.sapPort
  rw [if_pos h]
  exact Nat.mod_lt _ (by decide)

/-! ## States and operands that meet the hypotheses of the statements, clause by clause -/

theorem witness_HeaderRegisterWrites :
    (∃ (s : State) (i : Init) (pg : Page) (v : Word) (d : Dev), pageExists pg = true ∧ s.dev.reaches i
      (pageBase pg + 0x014) = some d ∧ d.lockedWrite (pageBase pg + 0x014) (v) = false) ∧
    (∃ (s : State) (i : Init) (pg : Page) (v : Word) (d : Dev), pageExists pg = true ∧ (pageSource pg <
      96 ∨ 176 ≤ pageSource pg) ∧ s.dev.reaches i (pageBase pg + 0x010) = some d ∧ d.lockedWrite
      (pageBase pg + 0x010) (v) = false) ∧
    (∃ (s : State) (i : Init) (pg : Page) (v : Word) (d : Dev), pageExists pg = true ∧ s.dev.reaches i
      (pageBase pg + 0x01C) = some d ∧ d.lockedWrite (pageBase pg + 0x01C) (v) = false) ∧
    (∃ (s : State) (i : Init) (pg : Page) (d : Dev), pageExists pg = true ∧ s.dev.reaches i (pageBase pg
      + 0x008) = some d ∧ d.lockedWrite (pageBase pg + 0x008) (d.wordWith (F.CTRL_SOFT_RESET (pageBase
      pg)) 1) = false ∧ d.flag (F.CTRL_LOCK (pageBase pg)) = false ∧ d.softReset pg = false) ∧
    (∃ (s : State) (i : Init) (pg : Page) (d : Dev), pageExists pg = true ∧ s.dev.reaches i (pageBase pg
      + 0x008) = some d ∧ d.lockedWrite (pageBase pg + 0x008) (d.wordWith (F.CTRL_SOFT_RESET (pageBase
      pg)) 1) = false ∧ d.flag (F.CTRL_LOCK (pageBase pg)) = true) ∧
    (∃ (s : State) (pg : Page), pageExists pg = true ∧ s.dev.softReset pg = true) ∧
    (∃ (d : Dev) (x : Identity) (i : Init) (pg : Page), pageExists pg = true ∧ d.denied i pg 0x018 false
      = false ∧ d.released pg = true) :=
  ⟨⟨run0, .mc, .can 5, 7, (run0).dev, by decide +kernel, Dev.reaches_internal _ _ _ rfl (by
    decide +kernel), by decide +kernel⟩, ⟨run0, .mc, .tl 2, 7, (run0).dev, fuse2 (by decide +kernel)
    ⟨Dev.reaches_internal _ _ _ rfl (by decide +kernel), by decide +kernel⟩⟩, ⟨run0, .mc, .can 5, 7,
    (run0).dev, by decide +kernel, Dev.reaches_internal _ _ _ rfl (by decide +kernel), by
    decide +kernel⟩, ⟨st (fun d => d.put (F.CTRL_ENABLE (pageBase (.can 5))) 1), .mc, .can 5, (st (fun d
    => d.put (F.CTRL_ENABLE (pageBase (.can 5))) 1)).dev, by decide +kernel, Dev.reaches_internal _ _ _
    rfl (by decide +kernel), by decide +kernel⟩, ⟨st (fun d => d.put (F.CTRL_LOCK (pageBase (.can 5)))
    1), .mc, .can 5, (st (fun d => d.put (F.CTRL_LOCK (pageBase (.can 5))) 1)).dev, by decide +kernel,
    Dev.reaches_internal _ _ _ rfl (by decide +kernel), by decide +kernel⟩, ⟨st (fun d => d.put
    (F.CTRL_SOFT_RESET (pageBase (.can 5))) 1), .can 5, by decide +kernel⟩, ⟨run0.dev, Identity.example,
    .mc, .can 5, by decide +kernel⟩⟩

theorem witness_PortLinksAndTiming :
    (∃ (s : State) (p : Fin 2) (width speed : Fin 8) (ptm : Bool), s.dev.released (.hb 1) = true ∧
      s.dev.linkUp p = false) ∧
    (∃ (s : State) (p : Fin 2) (width speed : Fin 8) (ptm : Bool), s.dev.released (.hb 1) = true ∧
      s.dev.linkUp p = true ∧ (ptm = false ∨ s.dev.flag (F.HB_PORT_STAT_PTM_EN p) = true)) ∧
    (∃ (s : State) (p : Fin 2) (linkDown : Bool), s.dev.released (.hb 1) = true ∧ s.dev.linkUp p = true)
      ∧
    (∃ (s : State) (i : Init) (p : Fin 2) (d : Dev), s.dev.reaches i (R.HB_PTM_CTRL p) = some d ∧
      d.lockedWrite (R.HB_PTM_CTRL p) (d.wordWith (F.HB_PTM_CTRL_TRIGGER p) 1) = false ∧ (d.port'
      p).dialogue = false) ∧
    (∃ (s : State) (p : Fin 2), s.dev.linkUp p = true ∧ s.dev.flag (F.HB_PORT_STAT_PTM_EN p) = true ∧
      s.dev.flag (F.HB_PTM_CTRL_AUTO p) = true ∧ s.dev.get (F.HB_PTM_CTRL_PERIOD p) ≠ 0 ∧ (s.dev.port'
      p).ptmSince + s.dev.get (F.HB_PTM_CTRL_PERIOD p) * 1000000 ≤ s.dev.plat.aon ∧ (s.dev.port'
      p).dialogue = false) ∧
    (∃ (s : State) (p : Fin 2) (master : BitVec 64) (delay : Word), (s.dev.port' p).dialogue = true) :=
  ⟨⟨run0, 1, 4, 3, true, by decide +kernel⟩, ⟨linked, 1, 4, 3, false, by decide +kernel⟩, ⟨linked, 1,
    true, by decide +kernel⟩, ⟨linked, .mc, 1, (linked).dev, Dev.reaches_internal _ _ _ rfl (by
    decide +kernel), by decide +kernel⟩, ⟨stl (fun d => ((d.put (F.HB_PORT_STAT_PTM_EN 1) 1).put
    (F.HB_PTM_CTRL_AUTO 1) 1).put (F.HB_PTM_CTRL_PERIOD 1) 1), 1, by decide +kernel⟩, ⟨stl (fun d =>
    d.modHb 1 (fun h => { h with dialogue := true })), 1, 7, 9, by decide +kernel⟩⟩

theorem witness_DmaRingCommands :
    (∃ (s : State) (i : Init) (p : Fin 2) (r : Fin 16) (d : Dev), s.dev.reaches i (R.RING_CFG p r) =
      some d ∧ d.lockedWrite (R.RING_CFG p r) (d.wordWith (F.RING_CFG_ENABLE p r) 1) = false ∧ d.flag
      (F.RING_CFG_ENABLE p r) = false ∧ d.get (F.RING_CFG_SIZE p r) ≤ 12 ∧ d.get (F.RING_CFG_KIND p r) ≤
      1) ∧
    (∃ (s : State) (i : Init) (p : Fin 2) (r : Fin 16) (d : Dev), s.dev.reaches i (R.RING_CFG p r) =
      some d ∧ d.lockedWrite (R.RING_CFG p r) (d.wordWith (F.RING_CFG_ENABLE p r) 1) = false ∧ d.flag
      (F.RING_CFG_ENABLE p r) = false ∧ d.get (F.RING_CFG_SIZE p r) ≤ 12 ∧ d.get (F.RING_CFG_KIND p r) =
      2 ∧ d.get (F.RING_CFG_SOURCE p r) < 16 ∧ d.get (F.CP_RING_CFG_CONSUMER (d.get (F.RING_CFG_SOURCE p
      r))) = p + 1 ∧ d.ringShared p r 2 (d.get (F.RING_CFG_SOURCE p r)) = false) ∧
    (∃ (s : State) (i : Init) (p : Fin 2) (r : Fin 16) (d : Dev), s.dev.reaches i (R.RING_CFG p r) =
      some d ∧ d.lockedWrite (R.RING_CFG p r) (d.wordWith (F.RING_CFG_ENABLE p r) 1) = false ∧ d.flag
      (F.RING_CFG_ENABLE p r) = false ∧ d.get (F.RING_CFG_SIZE p r) ≤ 12 ∧ d.get (F.RING_CFG_KIND p r) =
      3 ∧ (d.flag (F.RING_CFG_DIR p r) = false ∨ (d.get (F.RING_CFG_SOURCE p r) < 16 ∧ d.ringShared p r
      3 (d.get (F.RING_CFG_SOURCE p r)) = false))) ∧
    (∃ (s : State) (i : Init) (p : Fin 2) (r : Fin 16) (d : Dev), s.dev.reaches i (R.RING_CFG p r) =
      some d ∧ d.lockedWrite (R.RING_CFG p r) (d.wordWith (F.RING_CFG_ENABLE p r) 1) = false ∧ d.flag
      (F.RING_CFG_ENABLE p r) = false ∧ (12 < d.get (F.RING_CFG_SIZE p r) ∨ (d.get (F.RING_CFG_KIND p r)
      = 2 ∧ d.get (F.CP_RING_CFG_CONSUMER (d.get (F.RING_CFG_SOURCE p r))) ≠ p + 1))) ∧
    (∃ (s : State) (i : Init) (p : Fin 2) (r : Fin 16) (d : Dev), s.dev.reaches i (R.RING_CFG p r) =
      some d ∧ d.lockedWrite (R.RING_CFG p r) (d.wordWith (F.RING_CFG_ENABLE p r) 0) = false ∧ d.flag
      (F.RING_CFG_ENABLE p r) = true) ∧
    (∃ (s : State) (i : Init) (p : Fin 2) (r : Fin 16) (tail : BitVec 16) (d : Dev), s.dev.reaches i
      (R.RING_TAIL p r) = some d ∧ d.lockedWrite (R.RING_TAIL p r) (tail.setWidth 32) = false) ∧
    (∃ (s : State) (p : Fin 2) (r : Fin 16) (x : Descriptor) (it : BackItem) (t : List BackItem),
      s.dev.ringBusy p r = true ∧ s.dev.flag (F.RING_CFG_DIR p r) = true ∧ (s.dev.get (F.RING_CFG_KIND p
      r) ≤ 1 ∨ (s.dev.get (F.RING_CFG_KIND p r) = 3 ∧ it.pdu = none)) ∧ s.dev.get (F.RING_CFG_SIZE p r)
      ≤ 12 ∧ tget (s.dev.port' p).back r = it :: t ∧ it.data.length ≤ x.len.toNat) ∧
    (∃ (s : State) (p : Fin 2) (r : Fin 16) (x : Descriptor) (it : BackItem) (t : List BackItem),
      s.dev.ringBusy p r = true ∧ s.dev.flag (F.RING_CFG_DIR p r) = true ∧ (s.dev.get (F.RING_CFG_KIND p
      r) ≤ 1 ∨ (s.dev.get (F.RING_CFG_KIND p r) = 3 ∧ it.pdu = none)) ∧ s.dev.get (F.RING_CFG_SIZE p r)
      ≤ 12 ∧ tget (s.dev.port' p).back r = it :: t ∧ x.len.toNat < it.data.length) ∧
    (∃ (s : State) (p : Fin 2) (r : Fin 16) (x : Descriptor) (it : BackItem) (t : List BackItem),
      s.dev.ringBusy p r = true ∧ s.dev.flag (F.RING_CFG_DIR p r) = true ∧ s.dev.get (F.RING_CFG_KIND p
      r) = 3 ∧ it.pdu.isSome = true ∧ s.dev.get (F.RING_CFG_SIZE p r) ≤ 12 ∧ tget (s.dev.port' p).back r
      = it :: t ∧ it.data.length ≤ x.len.toNat) ∧
    (∃ (s : State) (p : Fin 2) (r : Fin 16) (x : Descriptor) (n : Nat), s.dev.ringBusy p r = true ∧
      s.dev.flag (F.RING_CFG_DIR p r) = true ∧ s.dev.get (F.RING_CFG_KIND p r) = 2 ∧ s.dev.get
      (F.RING_CFG_SIZE p r) ≤ 12 ∧ s.dev.get (F.RING_CFG_SOURCE p r) < 16 ∧ s.dev.get
      (F.CP_RING_CFG_CONSUMER (s.dev.get (F.RING_CFG_SOURCE p r))) = p.val + 1 ∧ s.dev.flag
      F.CP_MEM_STAT_SELF_REFRESH = false ∧ fillRecs x.len.toNat 0 (s.dev.recLens (s.dev.get
      (F.RING_CFG_SOURCE p r))) = (n, true) ∧ n ≠ 0 ∧ x.ecc = 0 ∧ x.irq = false) ∧
    (∃ (s : State) (p : Fin 2) (r : Fin 16) (x : Descriptor), s.dev.ringBusy p r = true ∧ s.dev.flag
      (F.RING_CFG_DIR p r) = true ∧ s.dev.get (F.RING_CFG_KIND p r) = 1 ∧ s.dev.get (F.RING_CFG_SIZE p
      r) ≤ 12 ∧ tget (s.dev.port' p).back r = [] ∧ x.data ≠ [] ∧ x.data.length ≤ x.len.toNat) ∧
    (∃ (s : State) (p : Fin 2) (r : Fin 16) (x : Descriptor) (n : Nat) (b : Bool), s.dev.ringBusy p r =
      true ∧ s.dev.flag (F.RING_CFG_DIR p r) = true ∧ s.dev.get (F.RING_CFG_KIND p r) = 2 ∧ fillRecs
      x.len.toNat 0 (s.dev.recLens (s.dev.get (F.RING_CFG_SOURCE p r))) = (n, b) ∧ (b = false ∨
      s.dev.get (F.CP_RING_CFG_CONSUMER (s.dev.get (F.RING_CFG_SOURCE p r))) ≠ p.val + 1)) ∧
    (∃ (s : State) (p : Fin 2) (r : Fin 16) (x : Descriptor), s.dev.ringBusy p r = true ∧ s.dev.flag
      (F.RING_CFG_DIR p r) = false ∧ x.eop = false) ∧
    (∃ (s : State) (p : Fin 2) (r : Fin 16) (x : Descriptor), s.dev.ringBusy p r = true ∧ s.dev.flag
      (F.RING_CFG_DIR p r) = false ∧ s.dev.get (F.RING_CFG_KIND p r) = 1 ∧ x.eop = true) ∧
    (∃ (s : State) (p : Fin 2) (r : Fin 16) (x : Descriptor), s.dev.ringBusy p r = true ∧ s.dev.flag
      (F.RING_CFG_DIR p r) = false ∧ s.dev.get (F.RING_CFG_KIND p r) = 3 ∧ x.eop = true ∧ tget
      s.dev.gv.hostIn p = []) ∧
    (∃ (s : State) (p : Fin 2) (r : Fin 16) (x : Descriptor), s.dev.ringBusy p r = true ∧ s.dev.flag
      (F.RING_CFG_DIR p r) = false ∧ s.dev.get (F.RING_CFG_KIND p r) = 0 ∧ x.eop = true ∧ (s.dev.port
      (24 + p)).rx = []) ∧
    (∃ (s : State) (p : Fin 2) (r : Fin 16) (timeout : Bool), s.dev.ringBusy p r = true) ∧
    (∃ (s : State) (frame : List Byte), s.dev.paceOpen 26 = true) ∧
    (∃ (s : State) (frame : List Byte), s.dev.paceOpen 27 = true ∧ frame ≠ [] ∧ frame.length ≤ 9212) ∧
    (∃ (s : State), s.dev.paceOpen 27 = true) :=
  ⟨⟨linked, .mc, 1, 3, (linked).dev, Dev.reaches_internal _ _ _ rfl (by decide +kernel), by
    decide +kernel⟩, ⟨stl (fun d => ((d.put (F.RING_CFG_KIND 1 3) 2).put (F.RING_CFG_SOURCE 1 3) 15).put
    (F.CP_RING_CFG_CONSUMER 15) 2), .mc, 1, 3, (stl (fun d => ((d.put (F.RING_CFG_KIND 1 3) 2).put
    (F.RING_CFG_SOURCE 1 3) 15).put (F.CP_RING_CFG_CONSUMER 15) 2)).dev, Dev.reaches_internal _ _ _ rfl
    (by decide +kernel), by decide +kernel⟩, ⟨stl (fun d => ((d.put (F.RING_CFG_KIND 1 3) 3).put
    (F.RING_CFG_SOURCE 1 3) 15).put (F.RING_CFG_DIR 1 3) 1), .mc, 1, 3, (stl (fun d => ((d.put
    (F.RING_CFG_KIND 1 3) 3).put (F.RING_CFG_SOURCE 1 3) 15).put (F.RING_CFG_DIR 1 3) 1)).dev,
    Dev.reaches_internal _ _ _ rfl (by decide +kernel), by decide +kernel⟩, ⟨stl (fun d => d.put
    (F.RING_CFG_SIZE 1 3) 13), .mc, 1, 3, (stl (fun d => d.put (F.RING_CFG_SIZE 1 3) 13)).dev,
    Dev.reaches_internal _ _ _ rfl (by decide +kernel), by decide +kernel⟩, ⟨stl (fun d => (d.put
    (F.RING_CFG_ENABLE 1 3) 1).put (F.RING_TAIL_INDEX 1 3) 2), .mc, 1, 3, (stl (fun d => (d.put
    (F.RING_CFG_ENABLE 1 3) 1).put (F.RING_TAIL_INDEX 1 3) 2)).dev, Dev.reaches_internal _ _ _ rfl (by
    decide +kernel), by decide +kernel⟩, ⟨linked, .mc, 1, 3, 9, (linked).dev, Dev.reaches_internal _ _ _
    rfl (by decide +kernel), by decide +kernel⟩, ⟨stl (fun d => (((d.put (F.RING_CFG_ENABLE 1 3) 1).put
    (F.RING_CFG_DIR 1 3) 1).put (F.RING_TAIL_INDEX 1 3) 2).modHb 1 (fun h => { h with
      back := [(3, [⟨[1, 2], 5, false, none, none⟩])] })), 1, 3, ⟨64, false, false, [], 0⟩, ⟨[1, 2], 5,
    false, none, none⟩, [], by decide +kernel⟩, ⟨stl (fun d => (((d.put (F.RING_CFG_ENABLE 1 3) 1).put
    (F.RING_CFG_DIR 1 3) 1).put (F.RING_TAIL_INDEX 1 3) 2).modHb 1 (fun h => { h with
      back := [(3, [⟨[1, 2, 3], 5, true, none, none⟩])] })), 1, 3, ⟨2, false, false, [], 0⟩, ⟨[1, 2, 3],
    5, true, none, none⟩, [], by decide +kernel⟩, ⟨stl (fun d => ((((d.put (F.RING_CFG_ENABLE 1 3)
    1).put (F.RING_CFG_DIR 1 3) 1).put (F.RING_CFG_KIND 1 3) 3).put (F.RING_TAIL_INDEX 1 3) 2).modHb 1
    (fun h => { h with back := [(3, [⟨[1, 2], 5, false, none, some 7⟩])] })), 1, 3, ⟨64, false, false,
    [], 0⟩, ⟨[1, 2], 5, false, none, some 7⟩, [], by decide +kernel⟩, ⟨stl (fun d => ((((d.put
    (F.RING_CFG_ENABLE 1 3) 1).put (F.RING_CFG_DIR 1 3) 1).put (F.RING_CFG_KIND 1 3) 2).put
    (F.RING_TAIL_INDEX 1 3) 2).modRing 0 (fun g => { g with
      recs := [⟨5, 0, [1, 2, 3, 4]⟩, ⟨6, 0, [5, 6, 7, 8]⟩] }) |>.put (F.CP_RING_CFG_CONSUMER 0) 2), 1,
    3, ⟨6, false, false, [], 0⟩, 4, by decide +kernel⟩, ⟨stl (fun d => (((d.put (F.RING_CFG_ENABLE 1 3)
    1).put (F.RING_CFG_DIR 1 3) 1).put (F.RING_CFG_KIND 1 3) 1).put (F.RING_TAIL_INDEX 1 3) 2), 1, 3,
    ⟨64, false, true, [1, 2], 0⟩, by decide +kernel⟩, ⟨stl (fun d => (((d.put (F.RING_CFG_ENABLE 1 3)
    1).put (F.RING_CFG_DIR 1 3) 1).put (F.RING_CFG_KIND 1 3) 2).put (F.RING_TAIL_INDEX 1 3) 2), 1, 3,
    ⟨6, false, false, [], 0⟩, 0, false, by decide +kernel⟩, ⟨stl (fun d => ((d.put (F.RING_CFG_ENABLE 1
    3) 1).put (F.RING_CFG_KIND 1 3) 1).put (F.RING_TAIL_INDEX 1 3) 2), 1, 3, ⟨2, false, false, [1, 2],
    0⟩, by decide +kernel⟩, ⟨stl (fun d => ((d.put (F.RING_CFG_ENABLE 1 3) 1).put (F.RING_CFG_KIND 1 3)
    1).put (F.RING_TAIL_INDEX 1 3) 2), 1, 3, ⟨2, false, true, [1, 2], 0⟩, by decide +kernel⟩, ⟨stl (fun
    d => ((d.put (F.RING_CFG_ENABLE 1 3) 1).put (F.RING_CFG_KIND 1 3) 3).put (F.RING_TAIL_INDEX 1 3) 2),
    1, 3, ⟨2, false, true, [1, 2], 0⟩, by decide +kernel⟩, ⟨stl (fun d => (d.put (F.RING_CFG_ENABLE 1 3)
    1).put (F.RING_TAIL_INDEX 1 3) 2), 1, 3, ⟨60, false, true, List.replicate 60 7, 0⟩, by
    decide +kernel⟩, ⟨stl (fun d => (d.put (F.RING_CFG_ENABLE 1 3) 1).put (F.RING_TAIL_INDEX 1 3) 2), 1,
    3, true, by decide +kernel⟩, ⟨run0, [], by decide +kernel⟩, ⟨run0, List.replicate 60 7, by
    decide +kernel⟩, ⟨run0, by decide +kernel⟩⟩

theorem witness_SnapshotAndEchoCommands :
    (∃ (s : State) (i : Init) (d : Dev), s.dev.reaches i (R.TL_BASE_CTRL) = some d ∧ d.lockedWrite
      (R.TL_BASE_CTRL) (1) = false ∧ d.flag F.TL_BASE_CTRL_SNAP = false) ∧
    (∃ (s : State) (i : Init) (d : Dev), s.dev.reaches i (R.TL_BASE_CTRL) = some d ∧ d.lockedWrite
      (R.TL_BASE_CTRL) (1) = false ∧ d.flag F.TL_BASE_CTRL_SNAP = true) ∧
    (∃ (s : State) (sn : Snapshot), s.dev.tl.snap = some sn) ∧
    (∃ (s : State), s.dev.tl.snap = none) ∧
    (∃ (s : State) (i : Init) (p : Fin 24) (d : Dev), s.dev.reaches i (R.ECHO_POP p) = some d ∧
      d.lockedWrite (R.ECHO_POP p) (1) = false ∧ ownerIs (d.get (F.ECHO_CFG_OWNER p)) i = true ∧ (tget
      d.tl.echo p).late = none) ∧
    (∃ (s : State) (i : Init) (p : Fin 24) (d : Dev) (e : EchoEntry) (lost run : Nat), s.dev.reaches i
      (R.ECHO_POP p) = some d ∧ d.lockedWrite (R.ECHO_POP p) (1) = false ∧ ownerIs (d.get
      (F.ECHO_CFG_OWNER p)) i = true ∧ (tget d.tl.echo p).late = some (e, d.tl.ticks, lost, run) ∧ (tget
      d.tl.echo p).entries.length = 64) ∧
    (∃ (s : State) (i : Init) (p : Fin 24) (d : Dev), s.dev.reaches i (R.ECHO_POP p) = some d ∧
      d.lockedWrite (R.ECHO_POP p) (1) = false ∧ ownerIs (d.get (F.ECHO_CFG_OWNER p)) i = false) :=
  ⟨⟨run0, .mc, (run0).dev, Dev.reaches_internal _ _ _ rfl (by decide +kernel), by decide +kernel⟩,
    ⟨snap0, .mc, (snap0).dev, Dev.reaches_internal _ _ _ rfl (by decide +kernel), by decide +kernel⟩,
    ⟨snap0, sn0, by decide +kernel⟩, ⟨run0, by decide +kernel⟩, ⟨run0, .mc, 3, (run0).dev,
    Dev.reaches_internal _ _ _ rfl (by decide +kernel), by decide +kernel⟩, ⟨st (fun d => d.modEcho 3
    (fun q => { q with entries := List.replicate 64 default, late := some (default, d.tl.ticks, 4, 1)
                         })), .mc, 3, (st (fun d => d.modEcho 3 (fun q => { q with
      entries := List.replicate 64 default, late := some (default, d.tl.ticks, 4, 1) }))).dev, default,
    4, 1, Dev.reaches_internal _ _ _ rfl (by decide +kernel), by decide +kernel⟩, ⟨run0, .aon, 3,
    (run0).dev, Dev.reaches_internal _ _ _ rfl (by decide +kernel), by decide +kernel⟩⟩

theorem witness_DomainCommands :
    (∃ (s : State) (i : Init) (dm : Fin 4) (d : Dev), s.dev.reaches i (R.DOM_CTRL dm) = some d ∧
      d.lockedWrite (R.DOM_CTRL dm) (d.domWord dm (F.DOM_CTRL_EN dm) 1) = false ∧ d.domEn dm = false) ∧
    (∃ (s : State) (i : Init) (dm : Fin 4) (d : Dev), s.dev.reaches i (R.DOM_CTRL dm) = some d ∧
      d.lockedWrite (R.DOM_CTRL dm) (d.domWord dm (F.DOM_CTRL_EN dm) 1) = false ∧ d.domEn dm = true) ∧
    (∃ (s : State) (i : Init) (dm : Fin 4) (d : Dev), s.dev.reaches i (R.DOM_CTRL dm) = some d ∧
      d.lockedWrite (R.DOM_CTRL dm) (d.domWord dm (F.DOM_CTRL_EN dm) 0) = false ∧ d.domEn dm = true ∧
      d.domNamed dm = false) ∧
    (∃ (s : State) (i : Init) (dm : Fin 4) (d : Dev), s.dev.reaches i (R.DOM_CTRL dm) = some d ∧
      d.lockedWrite (R.DOM_CTRL dm) (d.domWord dm (F.DOM_CTRL_EN dm) 0) = false ∧ d.domEn dm = true ∧
      d.domNamed dm = true) ∧
    (∃ (s : State) (i : Init) (dm : Fin 4) (d : Dev), s.dev.reaches i (R.DOM_CTRL dm) = some d ∧
      d.lockedWrite (R.DOM_CTRL dm) (d.wordWith (F.DOM_CTRL_ARM dm) 1) = false ∧ d.domEn dm = true ∧
      (tget d.tl.dom dm).running = none) ∧
    (∃ (s : State) (i : Init) (dm : Fin 4) (d : Dev) (x : Handling × Nat × Nat), s.dev.reaches i
      (R.DOM_CTRL dm) = some d ∧ d.lockedWrite (R.DOM_CTRL dm) (d.wordWith (F.DOM_CTRL_ARM dm) 1) =
      false ∧ d.domEn dm = true ∧ (tget d.tl.dom dm).running = some x) ∧
    (∃ (s : State) (i : Init) (dm : Fin 4) (d : Dev), s.dev.reaches i (R.DOM_CTRL dm) = some d ∧
      d.lockedWrite (R.DOM_CTRL dm) (d.wordWith (F.DOM_CTRL_ARM dm) 1) = false ∧ d.domEn dm = false) ∧
    (∃ (s : State) (dm : Fin 4) (t x : Nat), (tget s.dev.tl.dom dm).running = some (.arm, t, x) ∧ t + 2
      ≤ s.dev.tl.ticks) ∧
    (∃ (s : State) (dm : Fin 4) (t x : Nat), (tget s.dev.tl.dom dm).running = some (.arm, t, x) ∧
      s.dev.tl.ticks < t + 2) ∧
    (∃ (s : State) (i : Init) (dm : Fin 4) (d : Dev), s.dev.reaches i (R.DOM_SAMPLE_GO dm) = some d ∧
      d.lockedWrite (R.DOM_SAMPLE_GO dm) (1) = false ∧ d.get (F.DOM_SAMPLE_NS_NS dm) < 1000000000 ∧
      d.domEn dm = true ∧ (tget d.tl.dom dm).running = none) ∧
    (∃ (s : State) (i : Init) (dm : Fin 4) (d : Dev) (x : Handling × Nat × Nat), s.dev.reaches i
      (R.DOM_SAMPLE_GO dm) = some d ∧ d.lockedWrite (R.DOM_SAMPLE_GO dm) (1) = false ∧ d.get
      (F.DOM_SAMPLE_NS_NS dm) < 1000000000 ∧ d.domEn dm = true ∧ (tget d.tl.dom dm).running = some x) ∧
    (∃ (s : State) (i : Init) (dm : Fin 4) (d : Dev), s.dev.reaches i (R.DOM_SAMPLE_GO dm) = some d ∧
      d.lockedWrite (R.DOM_SAMPLE_GO dm) (1) = false ∧ 1000000000 ≤ d.get (F.DOM_SAMPLE_NS_NS dm)) ∧
    (∃ (s : State) (i : Init) (dm : Fin 4) (d : Dev), s.dev.reaches i (R.DOM_SAMPLE_GO dm) = some d ∧
      d.lockedWrite (R.DOM_SAMPLE_GO dm) (1) = false ∧ d.get (F.DOM_SAMPLE_NS_NS dm) < 1000000000 ∧
      d.domEn dm = false) :=
  ⟨⟨run0, .mc, 1, (run0).dev, Dev.reaches_internal _ _ _ rfl (by decide +kernel), by decide +kernel⟩,
    ⟨domRun 1 3, .mc, 1, (domRun 1 3).dev, Dev.reaches_internal _ _ _ rfl (by decide +kernel), by
    decide +kernel⟩, ⟨domRun 1 3, .mc, 1, (domRun 1 3).dev, Dev.reaches_internal _ _ _ rfl (by
    decide +kernel), by decide +kernel⟩, ⟨st (fun d => (domDev d 1 3).put (F.PTP_DMAP_VALID 1) 1), .mc,
    1, (st (fun d => (domDev d 1 3).put (F.PTP_DMAP_VALID 1) 1)).dev, Dev.reaches_internal _ _ _ rfl (by
    decide +kernel), by decide +kernel⟩, ⟨domRun 1 3, .mc, 1, (domRun 1 3).dev, Dev.reaches_internal _ _
    _ rfl (by decide +kernel), by decide +kernel⟩, ⟨st (fun d => (domDev d 1 3).modDom 1 (fun x => { x
    with running := some (.sample 5 .mc, 7, 3) })), .mc, 1, (st (fun d => (domDev d 1 3).modDom 1 (fun x
    => { x with running := some (.sample 5 .mc, 7, 3) }))).dev, (.sample 5 .mc, 7, 3),
    Dev.reaches_internal _ _ _ rfl (by decide +kernel), by decide +kernel⟩, ⟨run0, .mc, 1, (run0).dev,
    Dev.reaches_internal _ _ _ rfl (by decide +kernel), by decide +kernel⟩, ⟨st (fun d => (domDev d 1
    3).modDom 1 (fun x => { x with running := some (.arm, 7, 3), held := [.sample 4 .mc] })), 1, 7, 3,
    by decide +kernel⟩, ⟨st (fun d => (domDev d 1 3).modDom 1 (fun x => { x with
      running := some (.arm, d.tl.ticks, 3) })), 1, 1000000, 3, by decide +kernel⟩, ⟨domRun 1 3, .mc, 1,
    (domRun 1 3).dev, Dev.reaches_internal _ _ _ rfl (by decide +kernel), by decide +kernel⟩, ⟨st (fun d
    => (domDev d 1 3).modDom 1 (fun x => { x with running := some (.arm, 7, 3), held := [.sample 4 .mc]
                                                    })), .mc, 1, (st (fun d => (domDev d 1 3).modDom 1
    (fun x => { x with running := some (.arm, 7, 3), held := [.sample 4 .mc] }))).dev, (.arm, 7, 3),
    Dev.reaches_internal _ _ _ rfl (by decide +kernel), by decide +kernel⟩, ⟨st (fun d => (domDev d 1
    3).put (F.DOM_SAMPLE_NS_NS 1) 1000000000), .mc, 1, (st (fun d => (domDev d 1 3).put
    (F.DOM_SAMPLE_NS_NS 1) 1000000000)).dev, Dev.reaches_internal _ _ _ rfl (by decide +kernel), by
    decide +kernel⟩, ⟨run0, .mc, 1, (run0).dev, Dev.reaches_internal _ _ _ rfl (by decide +kernel), by
    decide +kernel⟩⟩

theorem witness_DomainSamplesAndRate :
    (∃ (s : State) (dm : Fin 4) (x : Int) (who : Init) (t : Nat), (tget s.dev.tl.dom dm).running = some
      (.sample x who, t, 3) ∧ t + 16 ≤ s.dev.tl.ticks ∧ s.dev.flag (F.DOM_CTRL_SERVO dm) = true ∧
      x.natAbs ≤ s.dev.get (F.DOM_JUMP_LIMIT_NS dm) * 2 ^ 16) ∧
    (∃ (s : State) (dm : Fin 4) (x : Int) (who : Init) (t : Nat), (tget s.dev.tl.dom dm).running = some
      (.sample x who, t, 3) ∧ t + 16 ≤ s.dev.tl.ticks ∧ s.dev.flag (F.DOM_CTRL_SERVO dm) = false ∧
      x.natAbs ≤ s.dev.get (F.DOM_JUMP_LIMIT_NS dm) * 2 ^ 16) ∧
    (∃ (s : State) (dm : Fin 4) (x : Int) (who : Init) (t : Nat), (tget s.dev.tl.dom dm).running = some
      (.sample x who, t, 3) ∧ t + 16 ≤ s.dev.tl.ticks ∧ s.dev.get (F.DOM_JUMP_LIMIT_NS dm) * 2 ^ 16 <
      x.natAbs ∧ s.dev.get (F.DOM_STATE_REFUSE_RUN dm) < 7) ∧
    (∃ (s : State) (dm : Fin 4) (x : Int) (who : Init) (t : Nat), (tget s.dev.tl.dom dm).running = some
      (.sample x who, t, 3) ∧ t + 16 ≤ s.dev.tl.ticks ∧ s.dev.get (F.DOM_JUMP_LIMIT_NS dm) * 2 ^ 16 <
      x.natAbs ∧ s.dev.get (F.DOM_STATE_REFUSE_RUN dm) = 7 ∧ s.dev.domEn dm = true) ∧
    (∃ (s : State) (dm : Fin 4) (x : Int) (who : Init) (t run : Nat), (tget s.dev.tl.dom dm).running =
      some (.sample x who, t, 2) ∧ t + 16 ≤ s.dev.tl.ticks ∧ s.dev.flag (F.DOM_CTRL_SERVO dm) = true ∧
      run = (if x.natAbs ≤ s.dev.get (F.DOM_LOCK_LOCK_THRESH dm) * 2 ^ 16 then satAdd 4 (s.dev.get
      (F.DOM_STATE_LOCK_RUN dm)) 1 else 0) ∧ run < s.dev.get (F.DOM_LOCK_LOCK_SAMPLES dm)) ∧
    (∃ (s : State) (dm : Fin 4) (x : Int) (who : Init) (t run : Nat), (tget s.dev.tl.dom dm).running =
      some (.sample x who, t, 2) ∧ t + 16 ≤ s.dev.tl.ticks ∧ s.dev.flag (F.DOM_CTRL_SERVO dm) = true ∧
      s.dev.domEn dm = true ∧ run = (if x.natAbs ≤ s.dev.get (F.DOM_LOCK_LOCK_THRESH dm) * 2 ^ 16 then
      satAdd 4 (s.dev.get (F.DOM_STATE_LOCK_RUN dm)) 1 else 0) ∧ s.dev.get (F.DOM_LOCK_LOCK_SAMPLES dm)
      ≤ run) ∧
    (∃ (s : State) (dm : Fin 4) (x : Int) (who : Init) (t run : Nat), (tget s.dev.tl.dom dm).running =
      some (.sample x who, t, 2) ∧ t + 16 ≤ s.dev.tl.ticks ∧ s.dev.flag (F.DOM_CTRL_SERVO dm) = false ∧
      run = (if x.natAbs ≤ s.dev.get (F.DOM_LOCK_LOCK_THRESH dm) * 2 ^ 16 then satAdd 4 (s.dev.get
      (F.DOM_STATE_LOCK_RUN dm)) 1 else 0) ∧ run < s.dev.get (F.DOM_LOCK_LOCK_SAMPLES dm)) ∧
    (∃ (s : State) (dm : Fin 4) (x : Int) (who : Init) (t run : Nat), (tget s.dev.tl.dom dm).running =
      some (.sample x who, t, 2) ∧ t + 16 ≤ s.dev.tl.ticks ∧ s.dev.flag (F.DOM_CTRL_SERVO dm) = false ∧
      s.dev.domEn dm = true ∧ run = (if x.natAbs ≤ s.dev.get (F.DOM_LOCK_LOCK_THRESH dm) * 2 ^ 16 then
      satAdd 4 (s.dev.get (F.DOM_STATE_LOCK_RUN dm)) 1 else 0) ∧ s.dev.get (F.DOM_LOCK_LOCK_SAMPLES dm)
      ≤ run) ∧
    (∃ (s : State) (dm : Fin 4) (x : Int) (who : Init) (t : Nat), (tget s.dev.tl.dom dm).running = some
      (.sample x who, t, 1) ∧ t + 16 ≤ s.dev.tl.ticks ∧ s.dev.domEn dm = false ∧ 0 ≤ ((tget s.dev.tl.dom
      dm).val : Int) - x * 2 ^ 24 ∧ (∀ e ∈ s.dev.canopy.wheel, wheelValid e.2 = false ∨ wheelBase e.2 ≠
      dm + 1)) ∧
    (∃ (s : State) (dm : Fin 4) (x : Int) (who : Init) (t : Nat), (tget s.dev.tl.dom dm).running = some
      (.sample x who, t, 4) ∧ t + 16 ≤ s.dev.tl.ticks) ∧
    (∃ (s : State) (dm : Fin 4) (x : Int) (who : Init) (t : Nat), (tget s.dev.tl.dom dm).running = some
      (.sample x who, t, 1) ∧ t + 16 ≤ s.dev.tl.ticks ∧ s.dev.domEn dm = true ∧ 0 ≤ ((tget s.dev.tl.dom
      dm).val : Int) - x * 2 ^ 24 ∧ (∀ e ∈ s.dev.canopy.wheel, wheelValid e.2 = false ∨ wheelBase e.2 ≠
      dm + 1)) ∧
    (∃ (s : State) (dm : Fin 4) (x : Int) (who : Init) (t : Nat), (tget s.dev.tl.dom dm).running = some
      (.sample x who, t, 1) ∧ t + 16 ≤ s.dev.tl.ticks ∧ ((tget s.dev.tl.dom dm).val : Int) - x * 2 ^ 24
      < 0) ∧
    (∃ (s : State) (dm : Fin 4) (x : Int) (who : Init) (t y : Nat), (tget s.dev.tl.dom dm).running =
      some (.sample x who, t, y) ∧ s.dev.tl.ticks < t + 16) ∧
    (∃ (s : State) (i : Init) (dm : Fin 4) (v : Word) (d : Dev), s.dev.reaches i (R.DOM_RATE_LO dm) =
      some d ∧ d.lockedWrite (R.DOM_RATE_LO dm) (v) = false) ∧
    (∃ (s : State) (i : Init) (dm : Fin 4) (v : Word) (rate : Int) (d : Dev), s.dev.reaches i
      (R.DOM_RATE_HI dm) = some d ∧ d.lockedWrite (R.DOM_RATE_HI dm) (v) = false ∧ d.flag
      (F.DOM_CTRL_SERVO dm) = true ∧ rate = signedOf 48 (v.toNat % 2 ^ 16 * 2 ^ 32 + (tget d.tl.dom
      dm).latch.getD (unsignedOf 32 (tget d.tl.dom dm).rate)) ∧ rate.natAbs ≤ 0x40000000) ∧
    (∃ (s : State) (i : Init) (dm : Fin 4) (v : Word) (rate : Int) (d : Dev), s.dev.reaches i
      (R.DOM_RATE_HI dm) = some d ∧ d.lockedWrite (R.DOM_RATE_HI dm) (v) = false ∧ d.flag
      (F.DOM_CTRL_SERVO dm) = true ∧ rate = signedOf 48 (v.toNat % 2 ^ 16 * 2 ^ 32 + (tget d.tl.dom
      dm).latch.getD (unsignedOf 32 (tget d.tl.dom dm).rate)) ∧ 0x40000000 < rate.natAbs) ∧
    (∃ (s : State) (i : Init) (dm : Fin 4) (v : Word) (d : Dev), s.dev.reaches i (R.DOM_RATE_HI dm) =
      some d ∧ d.lockedWrite (R.DOM_RATE_HI dm) (v) = false ∧ d.flag (F.DOM_CTRL_SERVO dm) = false) ∧
    (∃ (s : State) (i : Init) (dm : Fin 4) (sw : Bool) (d : Dev), s.dev.reaches i (R.DOM_CTRL dm) = some
      d ∧ d.lockedWrite (R.DOM_CTRL dm) (d.domWord dm (F.DOM_CTRL_SERVO dm) (boolNat sw)) = false ∧ (sw
      = true ∨ d.flag (F.DOM_CTRL_SERVO dm) = false)) ∧
    (∃ (s : State) (i : Init) (dm : Fin 4) (d : Dev), s.dev.reaches i (R.DOM_CTRL dm) = some d ∧
      d.lockedWrite (R.DOM_CTRL dm) (d.domWord dm (F.DOM_CTRL_SERVO dm) 0) = false ∧ d.flag
      (F.DOM_CTRL_SERVO dm) = true) :=
  ⟨⟨st (fun d => ((domDev d 1 3).put (F.DOM_CTRL_SERVO 1) 1).modDom 1 (fun x => { x with
      running := some (.sample 0 .mc, 7, 3) })), 1, 0, .mc, 7, by decide +kernel⟩, ⟨st (fun d => (domDev
    d 1 3).modDom 1 (fun x => { x with running := some (.sample 0 .mc, 7, 3) })), 1, 0, .mc, 7, by
    decide +kernel⟩, ⟨st (fun d => (domDev d 1 3).modDom 1 (fun x => { x with
      running := some (.sample (2 ^ 60) .mc, 7, 3) })), 1, 2 ^ 60, .mc, 7, by decide +kernel⟩, ⟨st (fun
    d => ((domDev d 1 3).put (F.DOM_STATE_REFUSE_RUN 1) 7).modDom 1 (fun x => { x with
      running := some (.sample (2 ^ 60) .mc, 7, 3) })), 1, 2 ^ 60, .mc, 7, by decide +kernel⟩, ⟨st (fun
    d => (((domDev d 1 2).put (F.DOM_CTRL_SERVO 1) 1).put (F.DOM_LOCK_LOCK_SAMPLES 1) 8).modDom 1 (fun x
    => { x with running := some (.sample 0 .mc, 7, 2) })), 1, 0, .mc, 7, 1, by decide +kernel⟩, ⟨st (fun
    d => ((((domDev d 1 2).put (F.DOM_CTRL_SERVO 1) 1).put (F.DOM_LOCK_LOCK_SAMPLES 1) 8).put
    (F.DOM_STATE_LOCK_RUN 1) 7).modDom 1 (fun x => { x with
      running := some (.sample 0 .mc, 7, 2) })), 1, 0, .mc, 7, 8, by decide +kernel⟩, ⟨st (fun d =>
    ((domDev d 1 2).put (F.DOM_LOCK_LOCK_SAMPLES 1) 8).modDom 1 (fun x => { x with
      running := some (.sample 0 .mc, 7, 2) })), 1, 0, .mc, 7, 1, by decide +kernel⟩, ⟨st (fun d =>
    (((domDev d 1 2).put (F.DOM_LOCK_LOCK_SAMPLES 1) 8).put (F.DOM_STATE_LOCK_RUN 1) 7).modDom 1 (fun x
    => { x with running := some (.sample 0 .mc, 7, 2) })), 1, 0, .mc, 7, 8, by decide +kernel⟩, ⟨st (fun
    d => ((domDev d 1 1).put (F.DOM_CTRL_EN 1) 0).modDom 1 (fun x => { x with
      running := some (.sample (-5) .mc, 7, 1) })), 1, -5, .mc, 7, by decide +kernel⟩, ⟨st (fun d =>
    (domDev d 1 4).modDom 1 (fun x => { x with running := some (.sample 5 .mc, 7, 4) })), 1, 5, .mc, 7,
    by decide +kernel⟩, ⟨st (fun d => (domDev d 1 1).modDom 1 (fun x => { x with
      running := some (.sample (-5) .mc, 7, 1) })), 1, -5, .mc, 7, by decide +kernel⟩, ⟨st (fun d =>
    (domDev d 1 1).modDom 1 (fun x => { x with running := some (.sample (2 ^ 60) .mc, 7, 1) })), 1, 2 ^
    60, .mc, 7, by decide +kernel⟩, ⟨st (fun d => (domDev d 1 1).modDom 1 (fun x => { x with
      running := some (.sample 5 .mc, d.tl.ticks, 1) })), 1, 5, .mc, 1000000, 1, by decide +kernel⟩, ⟨st
    (fun d => (domDev d 1 3).put (F.DOM_CTRL_SERVO 1) 1), .mc, 1, 77, (st (fun d => (domDev d 1 3).put
    (F.DOM_CTRL_SERVO 1) 1)).dev, Dev.reaches_internal _ _ _ rfl (by decide +kernel), by
    decide +kernel⟩, ⟨st (fun d => ((domDev d 1 3).put (F.DOM_CTRL_SERVO 1) 1).modDom 1 (fun x => { x
    with latch := some 0xC0000000 })), .mc, 1, 0xFFFF, -0x40000000, (st (fun d => ((domDev d 1 3).put
    (F.DOM_CTRL_SERVO 1) 1).modDom 1 (fun x => { x with
      latch := some 0xC0000000 }))).dev, Dev.reaches_internal _ _ _ rfl (by decide +kernel), by
    decide +kernel⟩, ⟨st (fun d => ((domDev d 1 3).put (F.DOM_CTRL_SERVO 1) 1).modDom 1 (fun x => { x
    with latch := some 1 })), .mc, 1, 7, 7 * 2 ^ 32 + 1, (st (fun d => ((domDev d 1 3).put
    (F.DOM_CTRL_SERVO 1) 1).modDom 1 (fun x => { x with
      latch := some 1 }))).dev, Dev.reaches_internal _ _ _ rfl (by decide +kernel), by decide +kernel⟩,
    ⟨domRun 1 3, .mc, 1, 77, (domRun 1 3).dev, Dev.reaches_internal _ _ _ rfl (by decide +kernel), by
    decide +kernel⟩, ⟨domRun 1 3, .mc, 1, true, (domRun 1 3).dev, Dev.reaches_internal _ _ _ rfl (by
    decide +kernel), by decide +kernel⟩, ⟨st (fun d => (domDev d 1 3).put (F.DOM_CTRL_SERVO 1) 1), .mc,
    1, (st (fun d => (domDev d 1 3).put (F.DOM_CTRL_SERVO 1) 1)).dev, Dev.reaches_internal _ _ _ rfl (by
    decide +kernel), by decide +kernel⟩⟩

theorem witness_WheelWindowCommands :
    (∃ (s : State) (i : Init) (ix : Fin 4096) (d : Dev), s.dev.reaches i (R.CNP_CMD) = some d ∧
      d.lockedWrite (R.CNP_CMD) (cnpWord 0 ix) = false ∧ d.flag F.CNP_CMD_GO = false ∧ d.errIn 8 0 (· ==
      ix.val) = none) ∧
    (∃ (s : State) (i : Init) (ix : Fin 4096) (d : Dev), s.dev.reaches i (R.CNP_CMD) = some d ∧
      d.lockedWrite (R.CNP_CMD) (cnpWord 1 ix) = false ∧ d.flag F.CNP_CMD_GO = false ∧ 28 ≤ ix.val ∧
      d.errIn 8 0 (· == ix.val) = none ∧ d.commitDue (d.entry ix) = false ∧ d.entryDue (d.entry ix) =
      false ∧ wheelValid (d.windowEntry 0) = false) ∧
    (∃ (s : State) (i : Init) (ix : Fin 4096) (d : Dev), s.dev.reaches i (R.CNP_CMD) = some d ∧
      d.lockedWrite (R.CNP_CMD) (cnpWord 1 ix) = false ∧ d.flag F.CNP_CMD_GO = false ∧ 28 ≤ ix.val ∧
      d.errIn 8 0 (· == ix.val) = none ∧ d.commitDue (d.entry ix) = false ∧ d.entryDue (d.entry ix) =
      false ∧ wheelValid (d.windowEntry 0) = true ∧ wheelPhase (d.windowEntry 0) = false ∧ d.entryOk
      (d.windowEntry 0) = true ∧ d.pastCount (d.windowEntry ((d.entry ix).version + 1)) = 0) ∧
    (∃ (s : State) (i : Init) (ix : Fin 4096) (d : Dev), s.dev.reaches i (R.CNP_CMD) = some d ∧
      d.lockedWrite (R.CNP_CMD) (cnpWord 1 ix) = false ∧ d.flag F.CNP_CMD_GO = false ∧ ix.val < 28) ∧
    (∃ (s : State) (i : Init) (ix : Fin 4096) (d : Dev), s.dev.reaches i (R.CNP_CMD) = some d ∧
      d.lockedWrite (R.CNP_CMD) (cnpWord 1 ix) = false ∧ d.flag F.CNP_CMD_GO = false ∧ 28 ≤ ix.val ∧
      d.errIn 8 0 (· == ix.val) = none ∧ d.commitDue (d.entry ix) = false ∧ d.entryDue (d.entry ix) =
      false ∧ wheelValid (d.windowEntry 0) = true ∧ wheelPhase (d.windowEntry 0) = true ∧ d.entryOk
      (d.windowEntry 0) = true ∧ d.get (F.PH_STAT_STATE (wheelBase (d.windowEntry 0) - 8)) ≠ 2) ∧
    (∃ (s : State) (i : Init) (ix : Fin 4096) (d : Dev), s.dev.reaches i (R.CNP_CMD) = some d ∧
      d.lockedWrite (R.CNP_CMD) (cnpWord 1 ix) = false ∧ d.flag F.CNP_CMD_GO = false ∧ 28 ≤ ix.val ∧
      wheelValid (d.windowEntry 0) = true ∧ d.entryOk (d.windowEntry 0) = false) ∧
    (∃ (s : State) (i : Init) (ix : Fin 4096) (d : Dev), s.dev.reaches i (R.CNP_CMD) = some d ∧
      d.lockedWrite (R.CNP_CMD) (cnpWord 2 ix) = false ∧ d.flag F.CNP_CMD_GO = false ∧ 28 ≤ ix.val ∧
      d.errIn 8 0 (· == ix.val) = none ∧ d.commitDue (d.entry ix) = false ∧ d.entryDue (d.entry ix) =
      false) ∧
    (∃ (s : State) (i : Init) (ix : Fin 4096) (d : Dev), s.dev.reaches i (R.CNP_CMD) = some d ∧
      d.lockedWrite (R.CNP_CMD) (cnpWord 2 ix) = false ∧ d.flag F.CNP_CMD_GO = false ∧ 28 ≤ ix.val ∧
      d.errIn 8 0 (· == ix.val) = none ∧ d.entryDue (d.entry ix) = true) ∧
    (∃ (s : State) (i : Init) (ix : Fin 4096) (d : Dev), s.dev.reaches i (R.CNP_CMD) = some d ∧
      d.lockedWrite (R.CNP_CMD) (cnpWord 2 ix) = false ∧ d.flag F.CNP_CMD_GO = false ∧ ix.val < 28) :=
  ⟨⟨st (fun d => d.setEntry 100 timeEntry), .mc, 100, (st (fun d => d.setEntry 100 timeEntry)).dev,
    Dev.reaches_internal _ _ _ rfl (by decide +kernel), by decide +kernel⟩, ⟨run0, .mc, 100, (run0).dev,
    Dev.reaches_internal _ _ _ rfl (by decide +kernel), by decide +kernel⟩, ⟨st (fun d => (d.put
    (F.CNP_DATA_DATA 0) 0x80500000).put (F.CNP_DATA_DATA 1) 1), .mc, 100, (st (fun d => (d.put
    (F.CNP_DATA_DATA 0) 0x80500000).put (F.CNP_DATA_DATA 1) 1)).dev, Dev.reaches_internal _ _ _ rfl (by
    decide +kernel), by decide +kernel⟩, ⟨run0, .mc, 27, (run0).dev, Dev.reaches_internal _ _ _ rfl (by
    decide +kernel), by decide +kernel⟩, ⟨st (fun d => ((d.put (F.CNP_DATA_DATA 0) 0x89500000).put
    (F.PH_CTRL_EN 1) 1).put (F.PH_STAT_STATE 1) 1), .mc, 100, (st (fun d => ((d.put (F.CNP_DATA_DATA 0)
    0x89500000).put (F.PH_CTRL_EN 1) 1).put (F.PH_STAT_STATE 1) 1)).dev, Dev.reaches_internal _ _ _ rfl
    (by decide +kernel), by decide +kernel⟩, ⟨st (fun d => d.put (F.CNP_DATA_DATA 0) 0x86500000), .mc,
    100, (st (fun d => d.put (F.CNP_DATA_DATA 0) 0x86500000)).dev, Dev.reaches_internal _ _ _ rfl (by
    decide +kernel), by decide +kernel⟩, ⟨st (fun d => d.setEntry 100 { timeEntry with
      inst := 5000000 * 2 ^ 16 }), .mc, 100, (st (fun d => d.setEntry 100 { timeEntry with
      inst := 5000000 * 2 ^ 16 })).dev, Dev.reaches_internal _ _ _ rfl (by decide +kernel), by
    decide +kernel⟩, ⟨st (fun d => d.setEntry 100 timeEntry), .mc, 100, (st (fun d => d.setEntry 100
    timeEntry)).dev, Dev.reaches_internal _ _ _ rfl (by decide +kernel), by decide +kernel⟩, ⟨run0, .mc,
    27, (run0).dev, Dev.reaches_internal _ _ _ rfl (by decide +kernel), by decide +kernel⟩⟩

theorem witness_ReleasesAndPulses :
    (∃ (s : State) (n : Nat), s.dev.canopy.lastIssue ≠ some s.dev.tl.ticks ∧ s.dev.nextRelease = some
      (n, none) ∧ s.dev.errIn 8 0 (· == n) = none ∧ s.dev.quiet = false ∧ wheelAction (s.dev.entry n) =
      5 ∧ wheelPhase (s.dev.entry n) = false ∧ wheelPeriodic (s.dev.entry n) = false) ∧
    (∃ (s : State) (n : Nat), s.dev.canopy.lastIssue ≠ some s.dev.tl.ticks ∧ s.dev.nextRelease = some
      (n, none) ∧ s.dev.errIn 8 0 (· == n) = none ∧ s.dev.missesAction (wheelAction (s.dev.entry n)) =
      true ∧ wheelPhase (s.dev.entry n) = false ∧ wheelPeriodic (s.dev.entry n) = false) ∧
    (∃ (s : State), (s.dev.canopy.lastIssue = some s.dev.tl.ticks ∨ s.dev.nextRelease = none)) ∧
    (∃ (s : State) (n : Nat) (e : WheelEntry), s.dev.canopy.wheel.find? (fun x => s.dev.commitDue x.2) =
      some (n, e) ∧ s.dev.entry n = e ∧ s.dev.errIn 8 0 (· == n) = none ∧ wheelPhase e = false ∧
      wheelPeriodic e = false ∧ s.dev.quiet = false ∧ s.dev.flag (F.TRG_CFG_EN (wheelTarget e)) = true ∧
      (s.dev.trigSt (wheelTarget e)).pulses = [] ∧ (s.dev.trigSt (wheelTarget e)).lastEdge = none) ∧
    (∃ (s : State), s.dev.canopy.wheel.find? (fun x => s.dev.commitDue x.2) = none) ∧
    (∃ (s : State) (k : Fin 16) (p : Pulse) (rest : List Pulse), (s.dev.trigSt k).pulses = p :: rest ∧
      p.edge ≤ s.dev.now64) ∧
    (∃ (s : State) (k : Fin 16), (∀ p ∈ (s.dev.trigSt k).pulses, s.dev.now64 < p.edge)) ∧
    (∃ (s : State) (k : Fin 16) (t : Nat), (s.dev.trigSt k).ends = some t ∧ t ≤ s.dev.now64) ∧
    (∃ (s : State) (k : Fin 16), (s.dev.trigSt k).ends.all (fun t => decide (s.dev.now64 < t)) = true) ∧
    (∃ (s : State) (i : Init) (k : Fin 16) (d : Dev), s.dev.reaches i (R.TRG_CFG k) = some d ∧
      d.lockedWrite (R.TRG_CFG k) (d.wordWith (F.TRG_CFG_EN k) 0) = false ∧ d.flag (F.TRG_CFG_EN k) =
      true ∧ 4 ≤ d.get (F.TRG_CFG_WIDTH_NS k)) ∧
    (∃ (s : State) (i : Init) (k : Fin 16) (d : Dev), s.dev.reaches i (R.TRG_CFG k) = some d ∧
      d.lockedWrite (R.TRG_CFG k) (d.wordWith (F.TRG_CFG_EN k) 0) = false ∧ d.get (F.TRG_CFG_WIDTH_NS k)
      < 4) :=
  ⟨⟨st (fun d => d.setEntry 100 { timeEntry with inst := 5 * 2 ^ 16 }), 100, by decide +kernel⟩, ⟨st
    (fun d => (d.setEntry 100 { timeEntry with w0 := 0x80400003 }).put F.PC_MODE_MODE 8), 100, by
    decide +kernel⟩, ⟨run0, by decide +kernel⟩, ⟨st (fun d => (d.setEntry 100 { timeEntry with
      w0 := 0x80100003, inst := 1001000 * 2 ^ 16 }).put (F.TRG_CFG_EN 3) 1), 100, { timeEntry with
      w0 := 0x80100003, inst := 1001000 * 2 ^ 16 }, by decide +kernel⟩, ⟨run0, by decide +kernel⟩, ⟨st
    (fun d => d.modTrig 3 (fun t => { t with pulses := [⟨5, 100, 0, false, true⟩] })), 3, ⟨5, 100, 0,
    false, true⟩, [], by decide +kernel⟩, ⟨run0, 3, by decide +kernel⟩, ⟨st (fun d => d.modTrig 3 (fun t
    => { t with ends := some 5, level := true })), 3, 5, by decide +kernel⟩, ⟨st (fun d => d.modTrig 3
    (fun x => { x with ends := some (d.now64 + 1) })), 3, by decide +kernel⟩, ⟨st (fun d => ((d.put
    (F.TRG_CFG_EN 3) 1).put (F.TRG_CFG_WIDTH_NS 3) 100).modTrig 3 (fun t => { t with
      level := true, ends := some 5 })), .mc, 3, (st (fun d => ((d.put (F.TRG_CFG_EN 3) 1).put
    (F.TRG_CFG_WIDTH_NS 3) 100).modTrig 3 (fun t => { t with
      level := true, ends := some 5 }))).dev, Dev.reaches_internal _ _ _ rfl (by decide +kernel), by
    decide +kernel⟩, ⟨st (fun d => d.put (F.TRG_CFG_WIDTH_NS 3) 3), .mc, 3, (st (fun d => d.put
    (F.TRG_CFG_WIDTH_NS 3) 3)).dev, Dev.reaches_internal _ _ _ rfl (by decide +kernel), by
    decide +kernel⟩⟩

theorem witness_CaptureInputCommands :
    (∃ (s : State) (c : Fin 8) (rise : Bool) (frac : Fin 8), (s.dev.capSt c).level ≠ rise ∧ (s.dev.capSt
      c).pending = none) ∧
    (∃ (s : State) (c : Fin 8) (rise : Bool) (frac : Fin 8) (e : PendingEdge), (s.dev.capSt c).level ≠
      rise ∧ (s.dev.capSt c).pending = some e ∧ edgeHeld e (s.dev.base8 + frac) = false) ∧
    (∃ (s : State) (c : Fin 8) (rise : Bool) (frac : Fin 8), (s.dev.capSt c).level = rise) ∧
    (∃ (s : State) (c : Fin 8) (e : PendingEdge), (s.dev.capSt c).pending = some e ∧ edgeHeld e
      s.dev.base8 = true ∧ e.en = true ∧ edgeSelected e.edge e.rise = true ∧ (s.dev.capSt
      c).entries.length < 16) ∧
    (∃ (s : State) (c : Fin 8) (e : PendingEdge), (s.dev.capSt c).pending = some e ∧ edgeHeld e
      s.dev.base8 = true ∧ e.en = true ∧ edgeSelected e.edge e.rise = true ∧ 16 ≤ (s.dev.capSt
      c).entries.length) ∧
    (∃ (s : State) (c : Fin 8) (e : PendingEdge), (s.dev.capSt c).pending = some e ∧ edgeHeld e
      s.dev.base8 = true ∧ (e.en && edgeSelected e.edge e.rise) = false) ∧
    (∃ (s : State) (c : Fin 8), (s.dev.capSt c).pending.all (fun e => !edgeHeld e s.dev.base8) = true) ∧
    (∃ (s : State) (i : Init) (c : Fin 8) (d : Dev), s.dev.reaches i (R.TCP_POP c) = some d ∧
      d.lockedWrite (R.TCP_POP c) (1) = false ∧ ownerIs (d.get (F.TCP_CFG_OWNER c)) i = true ∧ (d.capSt
      c).late = none) ∧
    (∃ (s : State) (i : Init) (c : Fin 8) (d : Dev) (x : CaptureEntry) (lost : Nat) (was : Bool),
      s.dev.reaches i (R.TCP_POP c) = some d ∧ d.lockedWrite (R.TCP_POP c) (1) = false ∧ ownerIs (d.get
      (F.TCP_CFG_OWNER c)) i = true ∧ (d.capSt c).late = some (x, d.tl.ticks, lost, was) ∧ (d.capSt
      c).entries.length = 16) ∧
    (∃ (s : State) (i : Init) (c : Fin 8) (d : Dev), s.dev.reaches i (R.TCP_POP c) = some d ∧
      d.lockedWrite (R.TCP_POP c) (1) = false ∧ ownerIs (d.get (F.TCP_CFG_OWNER c)) i = false) :=
  ⟨⟨run0, 2, true, 3, by decide +kernel⟩, ⟨st (fun d => d.modCap 2 (fun x => { x with
      level := true, pending := some ⟨true, d.base8, 9, true, 3, 100⟩ })), 2, false, 3, ⟨true, 8000000,
    9, true, 3, 100⟩, by decide +kernel⟩, ⟨run0, 2, false, 3, by decide +kernel⟩, ⟨st (fun d => d.modCap
    2 (fun x => { x with pending := some ⟨true, 8, 9, true, 3, 8⟩ })), 2, ⟨true, 8, 9, true, 3, 8⟩, by
    decide +kernel⟩, ⟨st (fun d => d.modCap 2 (fun x => { x with
      pending := some ⟨true, 8, 9, true, 3, 8⟩, entries := List.replicate 16 default })), 2, ⟨true, 8,
    9, true, 3, 8⟩, by decide +kernel⟩, ⟨st (fun d => d.modCap 2 (fun x => { x with
      pending := some ⟨true, 8, 9, true, 2, 8⟩ })), 2, ⟨true, 8, 9, true, 2, 8⟩, by decide +kernel⟩, ⟨st
    (fun d => d.modCap 2 (fun x => { x with pending := some ⟨true, d.base8, 9, true, 3, 100⟩ })), 2, by
    decide +kernel⟩, ⟨run0, .mc, 2, (run0).dev, Dev.reaches_internal _ _ _ rfl (by decide +kernel), by
    decide +kernel⟩, ⟨st (fun d => d.modCap 2 (fun x => { x with
      entries := List.replicate 16 default, late := some (default, d.tl.ticks, 4, false) })), .mc, 2,
    (st (fun d => d.modCap 2 (fun x => { x with entries := List.replicate 16 default, late := some
                                                  (default, d.tl.ticks, 4, false) }))).dev, default, 4,
    false, Dev.reaches_internal _ _ _ rfl (by decide +kernel), by decide +kernel⟩, ⟨run0, .aon, 2,
    (run0).dev, Dev.reaches_internal _ _ _ rfl (by decide +kernel), by decide +kernel⟩⟩

theorem witness_PhaseDomainCommands :
    (∃ (s : State) (i : Init) (p : Fin 4) (d : Dev), s.dev.reaches i (R.PH_CTRL p) = some d ∧
      d.lockedWrite (R.PH_CTRL p) (d.wordWith (F.PH_CTRL_EN p) 1) = false ∧ d.flag (F.PH_CTRL_EN p) =
      false ∧ (d.flag (F.PH_CTRL_SRC p) = true ∨ d.get (F.PH_CTRL_CPR p) ≠ 0)) ∧
    (∃ (s : State) (i : Init) (p : Fin 4) (d : Dev), s.dev.reaches i (R.PH_CTRL p) = some d ∧
      d.lockedWrite (R.PH_CTRL p) (d.wordWith (F.PH_CTRL_EN p) 0) = false ∧ d.flag (F.PH_CTRL_EN p) =
      true ∧ d.phaseNamed p = false) ∧
    (∃ (s : State) (i : Init) (p : Fin 4) (d : Dev), s.dev.reaches i (R.PH_CTRL p) = some d ∧
      d.lockedWrite (R.PH_CTRL p) (d.wordWith (F.PH_CTRL_EN p) 0) = false ∧ d.flag (F.PH_CTRL_EN p) =
      true ∧ d.phaseNamed p = true) ∧
    (∃ (s : State) (i : Init) (p : Fin 4) (d : Dev), s.dev.reaches i (R.PH_CTRL p) = some d ∧
      d.lockedWrite (R.PH_CTRL p) (d.wordWith (F.PH_CTRL_EN p) 1) = false ∧ d.flag (F.PH_CTRL_EN p) =
      false ∧ d.flag (F.PH_CTRL_SRC p) = false ∧ d.get (F.PH_CTRL_CPR p) = 0) ∧
    (∃ (s : State) (p : Fin 4) (aLeads : Bool) (frac : Fin 8), s.dev.flag (F.PH_CTRL_EN p) = true ∧
      s.dev.flag (F.PH_CTRL_SRC p) = false ∧ aLeads ≠ s.dev.flag (F.PH_CTRL_DIR p)) ∧
    (∃ (s : State) (p : Fin 4) (aLeads : Bool) (frac : Fin 8), s.dev.flag (F.PH_CTRL_EN p) = true ∧
      s.dev.flag (F.PH_CTRL_SRC p) = false ∧ aLeads = s.dev.flag (F.PH_CTRL_DIR p) ∧ s.dev.get
      (F.PH_STAT_STATE p) = 1) ∧
    (∃ (s : State) (p : Fin 4) (frac : Fin 8), s.dev.flag (F.PH_CTRL_EN p) = true ∧ (s.dev.phaseSt
      p).lastIndex = none ∧ s.dev.flag (F.PH_CTRL_SRC p) = false ∧ s.dev.get (F.PH_STAT_STATE p) = 1) ∧
    (∃ (s : State) (p : Fin 4) (t : Nat), (s.dev.phaseSt p).lastIndex = some t ∧ s.dev.get
      (F.PH_STAT_STATE p) = 2 ∧ s.dev.get (F.PH_PERIOD_NS p) ≠ 0 ∧ 3 * s.dev.get (F.PH_PERIOD_NS p) * 8
      < 2 * (s.dev.base8 - t)) ∧
    (∃ (s : State) (p : Fin 4) (aLeads : Bool) (frac : Fin 8), (s.dev.flag (F.PH_CTRL_EN p) = false ∨
      s.dev.flag (F.PH_CTRL_SRC p) = true)) ∧
    (∃ (s : State) (p : Fin 4) (frac : Fin 8) (t0 n : Nat), s.dev.flag (F.PH_CTRL_EN p) = true ∧
      (s.dev.phaseSt p).lastIndex = some t0 ∧ s.dev.flag (F.PH_CTRL_SRC p) = false ∧ s.dev.get
      (F.PH_STAT_STATE p) = 1 ∧ s.dev.get (F.PH_STAT_FULL_PERIODS p) = 0 ∧ n = s.dev.base8 + frac - t0 ∧
      (s.dev.phaseSt p).counts = s.dev.get (F.PH_CTRL_CPR p) ∧ (s.dev.phaseSt p).reverse = false ∧
      (s.dev.phaseSt p).lastFull = none ∧ 5000000 * 8 ≤ n ∧ n ≤ 1000000000 * 8) ∧
    (∃ (s : State) (p : Fin 4) (frac : Fin 8), s.dev.flag (F.PH_CTRL_EN p) = false) ∧
    (∃ (s : State) (p : Fin 4), (s.dev.get (F.PH_STAT_STATE p) = 0 ∨ s.dev.get (F.PH_PERIOD_NS p) = 0))
      :=
  ⟨⟨st (fun d => d.put (F.PH_CTRL_CPR 1) 360), .mc, 1, (st (fun d => d.put (F.PH_CTRL_CPR 1) 360)).dev,
    Dev.reaches_internal _ _ _ rfl (by decide +kernel), by decide +kernel⟩, ⟨st (fun d => ((d.put
    (F.PH_CTRL_CPR 1) 360).put (F.PH_CTRL_EN 1) 1).put (F.PH_STAT_STATE 1) 1), .mc, 1, (st (fun d =>
    ((d.put (F.PH_CTRL_CPR 1) 360).put (F.PH_CTRL_EN 1) 1).put (F.PH_STAT_STATE 1) 1)).dev,
    Dev.reaches_internal _ _ _ rfl (by decide +kernel), by decide +kernel⟩, ⟨st (fun d => (((d.put
    (F.PH_CTRL_CPR 1) 360).put (F.PH_CTRL_EN 1) 1).put (F.PH_STAT_STATE 1) 1).setEntry 100 { timeEntry
    with w0 := 0x89500000 }), .mc, 1, (st (fun d => (((d.put (F.PH_CTRL_CPR 1) 360).put (F.PH_CTRL_EN 1)
    1).put (F.PH_STAT_STATE 1) 1).setEntry 100 { timeEntry with
      w0 := 0x89500000 })).dev, Dev.reaches_internal _ _ _ rfl (by decide +kernel), by decide +kernel⟩,
    ⟨st (fun d => d.put (F.PH_CTRL_CPR 1) 0), .mc, 1, (st (fun d => d.put (F.PH_CTRL_CPR 1) 0)).dev,
    Dev.reaches_internal _ _ _ rfl (by decide +kernel), by decide +kernel⟩, ⟨st (fun d => ((d.put
    (F.PH_CTRL_CPR 1) 360).put (F.PH_CTRL_EN 1) 1).put (F.PH_STAT_STATE 1) 1), 1, true, 5, by
    decide +kernel⟩, ⟨st (fun d => ((d.put (F.PH_CTRL_CPR 1) 360).put (F.PH_CTRL_EN 1) 1).put
    (F.PH_STAT_STATE 1) 1), 1, false, 5, by decide +kernel⟩, ⟨st (fun d => ((d.put (F.PH_CTRL_CPR 1)
    360).put (F.PH_CTRL_EN 1) 1).put (F.PH_STAT_STATE 1) 1), 1, 5, by decide +kernel⟩, ⟨st (fun d =>
    ((((d.put (F.PH_CTRL_CPR 1) 360).put (F.PH_CTRL_EN 1) 1).put (F.PH_STAT_STATE 1) 2).put
    (F.PH_PERIOD_NS 1) 5000).modPhase 1 (fun x => { x with
      lastIndex := some 7 })), 1, 7, by decide +kernel⟩, ⟨run0, 1, true, 3, by decide +kernel⟩, ⟨st (fun
    d => { (((d.put (F.PH_CTRL_CPR 1) 360).put (F.PH_CTRL_EN 1) 1).put (F.PH_STAT_STATE 1) 1).modPhase 1
    (fun x => { x with lastIndex := some 7, counts := 360 }) with
      tl := { d.tl with ns := 10000000, ticks := 10000000 } }), 1, 0, 7, 79999993, by decide +kernel⟩,
    ⟨run0, 1, 3, by decide +kernel⟩, ⟨run0, 1, by decide +kernel⟩⟩

theorem witness_SignalStoreAndTransforms :
    (∃ (s : State) (i : Init) (w : Fin 0x300000) (v : Word) (d : Dev), s.dev.reaches i (0x3000000 + 4 *
      w) = some d ∧ (w.val % 3 = 0 ∨ bitOf (tget d.gv.sig (w.val / 3 * 3)) 31 = false)) ∧
    (∃ (s : State) (i : Init) (w : Fin 0x300000) (v : Word) (d : Dev), s.dev.reaches i (0x3000000 + 4 *
      w) = some d ∧ w.val % 3 ≠ 0 ∧ bitOf (tget d.gv.sig (w.val / 3 * 3)) 31 = true ∧ (i ≠ .mc ∨
      s.dev.sapState ≠ 5)) ∧
    (∃ (s : State) (w : Fin 0x300000) (v : Word), s.dev.reaches .mc (0x3000000 + 4 * w) = some s.dev ∧
      w.val % 3 ≠ 0 ∧ bitOf (tget s.dev.gv.sig (w.val / 3 * 3)) 31 = true ∧ s.dev.sapState = 5) ∧
    (∃ (s : State) (i : Init) (ix : BitVec 16) (d : Dev), s.dev.reaches i (R.GV_TCMD) = some d ∧
      d.lockedWrite (R.GV_TCMD) (tcmdWord 0 1 ix.toNat) = false ∧ d.flag F.GV_TCMD_GO = false ∧ isEngine
      i = false) ∧
    (∃ (s : State) (i : Init) (ix : BitVec 16) (d : Dev), s.dev.reaches i (R.GV_TCMD) = some d ∧
      d.lockedWrite (R.GV_TCMD) (tcmdWord 1 1 ix.toNat) = false ∧ d.flag F.GV_TCMD_GO = false ∧ isEngine
      i = false ∧ ix.toNat ≠ 0 ∧ codesClash (bitsOf (d.tdata 3) 8 2) (bitsOf (d.tdata 3) 10 2) = false ∧
      codesClash (bitsOf (d.tdata 3) 12 2) (bitsOf (d.tdata 3) 14 2) = false) ∧
    (∃ (s : State) (i : Init) (ix : BitVec 16) (d : Dev), s.dev.reaches i (R.GV_TCMD) = some d ∧
      d.lockedWrite (R.GV_TCMD) (tcmdWord 1 1 ix.toNat) = false ∧ d.flag F.GV_TCMD_GO = false ∧ isEngine
      i = false ∧ (ix.toNat = 0 ∨ codesClash (bitsOf (d.tdata 3) 8 2) (bitsOf (d.tdata 3) 10 2) = true ∨
      codesClash (bitsOf (d.tdata 3) 12 2) (bitsOf (d.tdata 3) 14 2) = true) ∧ (i ≠ .mc ∨ s.dev.sapState
      ≠ 5)) ∧
    (∃ (s : State) (i : Init) (ix : BitVec 16) (d : Dev), s.dev.reaches i (R.GV_TCMD) = some d ∧
      d.lockedWrite (R.GV_TCMD) (tcmdWord 0 1 ix.toNat) = false ∧ isEngine i = true) ∧
    (∃ (s : State) (i : Init) (ix : BitVec 16) (d : Dev), s.dev.reaches i (R.GV_TCMD) = some d ∧
      d.lockedWrite (R.GV_TCMD) (tcmdWord 1 1 ix.toNat) = false ∧ isEngine i = true) :=
  ⟨⟨run0, .mc, 7, 0xFFFFFFFF, (run0).dev, Dev.reaches_internal _ _ _ rfl (by decide +kernel), by
    decide +kernel⟩, ⟨st (fun d => d.setSig 6 0x80000000), .mc, 7, 1, (st (fun d => d.setSig 6
    0x80000000)).dev, Dev.reaches_internal _ _ _ rfl (by decide +kernel), by decide +kernel⟩, ⟨st (fun d
    => (d.setSig 6 0x80000000).put F.SAP_STAT_STATE 5), 7, 1, Dev.reaches_internal _ _ _ rfl (by
    decide +kernel), by decide +kernel⟩, ⟨run0, .mc, 7, (run0).dev, Dev.reaches_internal _ _ _ rfl (by
    decide +kernel), by decide +kernel⟩, ⟨st (fun d => d.put (F.GV_TDATA_DATA 0) 5), .mc, 7, (st (fun d
    => d.put (F.GV_TDATA_DATA 0) 5)).dev, Dev.reaches_internal _ _ _ rfl (by decide +kernel), by
    decide +kernel⟩, ⟨st (fun d => d.put (F.GV_TDATA_DATA 3) 0x500), .mc, 7, (st (fun d => d.put
    (F.GV_TDATA_DATA 3) 0x500)).dev, Dev.reaches_internal _ _ _ rfl (by decide +kernel), by
    decide +kernel⟩, ⟨run0, .gv 3, 7, (run0).dev, Dev.reaches_internal _ _ _ rfl (by decide +kernel), by
    decide +kernel⟩, ⟨run0, .gv 3, 7, (run0).dev, Dev.reaches_internal _ _ _ rfl (by decide +kernel), by
    decide +kernel⟩⟩

theorem witness_PduDescriptorsAndImages :
    (∃ (s : State) (i : Init) (ix : BitVec 16) (d : Dev), s.dev.reaches i (R.GV_TCMD) = some d ∧
      d.lockedWrite (R.GV_TCMD) (tcmdWord 0 0 ix.toNat) = false ∧ d.flag F.GV_TCMD_GO = false) ∧
    (∃ (s : State) (i : Init) (ix : BitVec 16) (d : Dev) (e : PduEntry), s.dev.reaches i (R.GV_TCMD) =
      some d ∧ d.lockedWrite (R.GV_TCMD) (tcmdWord 1 0 ix.toNat) = false ∧ d.flag F.GV_TCMD_GO = false ∧
      bitOf (d.tdata 0) 31 = true ∧ bitOf (d.tdata 0) 30 = false ∧ e = { d.pdu ix.toNat with
        w0 := putBits (d.tdata 0) 28 1 0, w1 := d.tdata 1, w2 := d.tdata 2, w3 := bitsOf (d.tdata 3) 0
          15, w4 := putBits (d.tdata 4) 16 13 0, w5 := d.tdata 5, w6 := bitsOf (d.tdata 6) 0 26 } ∧
      pduInvalid e = false ∧ pduValid (d.pdu ix.toNat) = false ∧ d.pduDuplicate ix.toNat e = false ∧ (i
      ≠ .mc ∨ s.dev.sapState ≠ 5)) ∧
    (∃ (s : State) (i : Init) (ix : BitVec 16) (d : Dev) (e : PduEntry), s.dev.reaches i (R.GV_TCMD) =
      some d ∧ d.lockedWrite (R.GV_TCMD) (tcmdWord 1 0 ix.toNat) = false ∧ d.flag F.GV_TCMD_GO = false ∧
      bitOf (d.tdata 0) 31 = true ∧ bitOf (d.tdata 0) 30 = false ∧ e = { d.pdu ix.toNat with
        w0 := putBits (d.tdata 0) 28 1 0, w1 := d.tdata 1, w2 := d.tdata 2, w3 := bitsOf (d.tdata 3) 0
          15, w4 := putBits (d.tdata 4) 16 13 0, w5 := d.tdata 5, w6 := bitsOf (d.tdata 6) 0 26 } ∧
      pduInvalid e = false ∧ pduValid (d.pdu ix.toNat) = false ∧ d.pduDuplicate ix.toNat e = true ∧ (i ≠
      .mc ∨ s.dev.sapState ≠ 5)) ∧
    (∃ (s : State) (i : Init) (ix : BitVec 16) (d : Dev) (e : PduEntry), s.dev.reaches i (R.GV_TCMD) =
      some d ∧ d.lockedWrite (R.GV_TCMD) (tcmdWord 1 0 ix.toNat) = false ∧ d.flag F.GV_TCMD_GO = false ∧
      bitOf (d.tdata 0) 31 = true ∧ e = { d.pdu ix.toNat with
        w0 := putBits (d.tdata 0) 28 1 0, w1 := d.tdata 1, w2 := d.tdata 2, w3 := if bitOf (d.tdata 0)
          30 then d.tdata 3 else bitsOf (d.tdata 3) 0 15, w4 := putBits (d.tdata 4) 16 13 0, w5 :=
          d.tdata 5, w6 := bitsOf (d.tdata 6) 0 26 } ∧ pduInvalid e = true ∧ (i ≠ .mc ∨ s.dev.sapState ≠
      5)) ∧
    (∃ (s : State) (i : Init) (ix : BitVec 16) (d : Dev) (e : PduEntry), i = .mc ∧ s.dev.sapState = 5 ∧
      s.dev.reaches i (R.GV_TCMD) = some d ∧ d.lockedWrite (R.GV_TCMD) (tcmdWord 1 0 ix.toNat) = false ∧
      d.flag F.GV_TCMD_GO = false ∧ bitOf (d.tdata 0) 31 = true ∧ bitOf (d.tdata 0) 30 = false ∧ e = {
      d.pdu ix.toNat with w0 := putBits (d.tdata 0) 28 1 0, w1 := d.tdata 1, w2 := d.tdata 2, w3 :=
                            bitsOf (d.tdata 3) 0 15, w4 := putBits (d.tdata 4) 16 13 0, w5 := d.tdata 5,
                            w6 := bitsOf (d.tdata 6) 0 26 } ∧ pduInvalid e = false ∧ pduValid (d.pdu
      ix.toNat) = false ∧ d.pduDuplicate ix.toNat e = false) ∧
    (∃ (s : State) (i : Init) (ix : BitVec 16) (d : Dev) (e : PduEntry), s.dev.reaches i (R.GV_TCMD) =
      some d ∧ d.lockedWrite (R.GV_TCMD) (tcmdWord 1 0 ix.toNat) = false ∧ d.flag F.GV_TCMD_GO = false ∧
      bitOf (d.tdata 0) 31 = true ∧ e = { d.pdu ix.toNat with
        w0 := putBits (d.tdata 0) 28 1 0, w1 := d.tdata 1, w2 := d.tdata 2, w3 := if bitOf (d.tdata 0)
          30 then d.tdata 3 else bitsOf (d.tdata 3) 0 15, w4 := putBits (d.tdata 4) 16 13 0, w5 :=
          d.tdata 5, w6 := bitsOf (d.tdata 6) 0 26 } ∧ pduInvalid e = false ∧ pduValid (d.pdu ix.toNat)
      = true ∧ pduTx (d.pdu ix.toNat) = pduTx e ∧ pduBus (d.pdu ix.toNat) = pduBus e ∧ pduLen (d.pdu
      ix.toNat) = pduLen e ∧ (pduTx e = true ∨ d.pduDuplicate ix.toNat e = false) ∧ (i ≠ .mc ∨
      s.dev.sapState ≠ 5)) ∧
    (∃ (s : State) (i : Init) (ix : BitVec 16) (d : Dev) (e : PduEntry), s.dev.reaches i (R.GV_TCMD) =
      some d ∧ d.lockedWrite (R.GV_TCMD) (tcmdWord 1 0 ix.toNat) = false ∧ d.flag F.GV_TCMD_GO = false ∧
      bitOf (d.tdata 0) 31 = true ∧ e = { d.pdu ix.toNat with
        w0 := putBits (d.tdata 0) 28 1 0, w1 := d.tdata 1, w2 := d.tdata 2, w3 := if bitOf (d.tdata 0)
          30 then d.tdata 3 else bitsOf (d.tdata 3) 0 15, w4 := putBits (d.tdata 4) 16 13 0, w5 :=
          d.tdata 5, w6 := bitsOf (d.tdata 6) 0 26 } ∧ pduInvalid e = false ∧ pduValid (d.pdu ix.toNat)
      = true ∧ (pduTx (d.pdu ix.toNat) ≠ pduTx e ∨ pduBus (d.pdu ix.toNat) ≠ pduBus e ∨ pduLen (d.pdu
      ix.toNat) ≠ pduLen e) ∧ (i ≠ .mc ∨ s.dev.sapState ≠ 5)) ∧
    (∃ (s : State) (i : Init) (ix : BitVec 16) (d : Dev) (e : PduEntry), s.dev.reaches i (R.GV_TCMD) =
      some d ∧ d.lockedWrite (R.GV_TCMD) (tcmdWord 1 0 ix.toNat) = false ∧ d.flag F.GV_TCMD_GO = false ∧
      bitOf (d.tdata 0) 31 = true ∧ bitOf (d.tdata 0) 30 = true ∧ e = { d.pdu ix.toNat with
        w0 := putBits (d.tdata 0) 28 1 0, w1 := d.tdata 1, w2 := d.tdata 2, w3 := if bitOf (d.tdata 0)
          30 then d.tdata 3 else bitsOf (d.tdata 3) 0 15, w4 := putBits (d.tdata 4) 16 13 0, w5 :=
          d.tdata 5, w6 := bitsOf (d.tdata 6) 0 26 } ∧ pduInvalid e = false ∧ pduValid (d.pdu ix.toNat)
      = false ∧ d.get F.GV_IMG_CELLS_CELLS < d.get F.GV_IMG_CELLS_USED + imageCells (pduLen e) ∧ (i ≠
      .mc ∨ s.dev.sapState ≠ 5)) ∧
    (∃ (s : State) (i : Init) (ix : BitVec 16) (d : Dev) (e : PduEntry), s.dev.reaches i (R.GV_TCMD) =
      some d ∧ d.lockedWrite (R.GV_TCMD) (tcmdWord 1 0 ix.toNat) = false ∧ d.flag F.GV_TCMD_GO = false ∧
      bitOf (d.tdata 0) 31 = true ∧ bitOf (d.tdata 0) 30 = true ∧ e = { d.pdu ix.toNat with
        w0 := putBits (d.tdata 0) 28 1 0, w1 := d.tdata 1, w2 := d.tdata 2, w3 := d.tdata 3, w4 :=
          putBits (d.tdata 4) 16 13 0, w5 := d.tdata 5, w6 := bitsOf (d.tdata 6) 0 26 } ∧ pduInvalid e =
      false ∧ pduValid (d.pdu ix.toNat) = false ∧ d.get F.GV_IMG_CELLS_USED + imageCells (pduLen e) ≤
      d.get F.GV_IMG_CELLS_CELLS ∧ (i ≠ .mc ∨ s.dev.sapState ≠ 5)) ∧
    (∃ (s : State) (i : Init) (ix : BitVec 16) (d : Dev), s.dev.reaches i (R.GV_TCMD) = some d ∧
      d.lockedWrite (R.GV_TCMD) (tcmdWord 1 0 ix.toNat) = false ∧ d.flag F.GV_TCMD_GO = false ∧ bitOf
      (d.tdata 0) 31 = false) ∧
    (∃ (s : State) (i : Init) (ix : BitVec 16) (d : Dev), s.dev.reaches i (R.GV_TCMD) = some d ∧
      d.lockedWrite (R.GV_TCMD) (tcmdWord 0 2 ix.toNat) = false ∧ d.flag F.GV_TCMD_GO = false ∧ pduIsTx
      (d.pdu ix.toNat) = true ∧ 32 * d.get F.GV_TOFF_OFFSET < pduLen (d.pdu ix.toNat)) ∧
    (∃ (s : State) (i : Init) (ix : BitVec 16) (d : Dev), s.dev.reaches i (R.GV_TCMD) = some d ∧
      d.lockedWrite (R.GV_TCMD) (tcmdWord 1 2 ix.toNat) = false ∧ d.flag F.GV_TCMD_GO = false ∧ pduIsTx
      (d.pdu ix.toNat) = true ∧ 32 * d.get F.GV_TOFF_OFFSET < pduLen (d.pdu ix.toNat) ∧ (i ≠ .mc ∨
      s.dev.sapState ≠ 5)) ∧
    (∃ (s : State) (i : Init) (ix : BitVec 16) (d : Dev), s.dev.reaches i (R.GV_TCMD) = some d ∧
      d.lockedWrite (R.GV_TCMD) (tcmdWord 0 2 ix.toNat) = false ∧ d.flag F.GV_TCMD_GO = false ∧ (pduIsTx
      (d.pdu ix.toNat) = false ∨ pduLen (d.pdu ix.toNat) ≤ 32 * d.get F.GV_TOFF_OFFSET) ∧ (i ≠ .mc ∨
      s.dev.sapState ≠ 5)) ∧
    (∃ (s : State) (i : Init) (ix : BitVec 16) (d : Dev), s.dev.reaches i (R.GV_TCMD) = some d ∧
      d.lockedWrite (R.GV_TCMD) (tcmdWord 1 2 ix.toNat) = false ∧ d.flag F.GV_TCMD_GO = false ∧ (pduIsTx
      (d.pdu ix.toNat) = false ∨ pduLen (d.pdu ix.toNat) ≤ 32 * d.get F.GV_TOFF_OFFSET) ∧ (i ≠ .mc ∨
      s.dev.sapState ≠ 5)) :=
  ⟨⟨run0, .mc, 7, (run0).dev, Dev.reaches_internal _ _ _ rfl (by decide +kernel), by decide +kernel⟩,
    ⟨st (fun d => (d.put (F.GV_TDATA_DATA 0) 0x80000000).put (F.GV_TDATA_DATA 2) 8), .mc, 7, (st (fun d
    => (d.put (F.GV_TDATA_DATA 0) 0x80000000).put (F.GV_TDATA_DATA 2) 8)).dev, {
      w0 := 0x80000000, w2 := 8 }, Dev.reaches_internal _ _ _ rfl (by decide +kernel), by
    decide +kernel⟩, ⟨st (fun d => ((d.put (F.GV_TDATA_DATA 0) 0x80000000).put (F.GV_TDATA_DATA 2)
    8).setPdu 9 { w0 := 0x80000000, w2 := 8 }), .mc, 7, (st (fun d => ((d.put (F.GV_TDATA_DATA 0)
    0x80000000).put (F.GV_TDATA_DATA 2) 8).setPdu 9 {
      w0 := 0x80000000, w2 := 8 })).dev, { w0 := 0x80000000, w2 := 8 }, Dev.reaches_internal _ _ _ rfl
    (by decide +kernel), by decide +kernel⟩, ⟨st (fun d => d.put (F.GV_TDATA_DATA 0) 0x80000000), .mc,
    7, (st (fun d => d.put (F.GV_TDATA_DATA 0) 0x80000000)).dev, {
      w0 := 0x80000000 }, Dev.reaches_internal _ _ _ rfl (by decide +kernel), by decide +kernel⟩, ⟨st
    (fun d => (((d.put (F.GV_TDATA_DATA 0) 0x80000000).put (F.GV_TDATA_DATA 2) 8)).put F.SAP_STAT_STATE
    5), .mc, 7, (st (fun d => (((d.put (F.GV_TDATA_DATA 0) 0x80000000).put (F.GV_TDATA_DATA 2) 8)).put
    F.SAP_STAT_STATE 5)).dev, { w0 := 0x80000000, w2 := 8 }, fuse2 (by decide +kernel)
    ⟨Dev.reaches_internal _ _ _ rfl (by decide +kernel), by decide +kernel⟩⟩, ⟨st (fun d => ((d.put
    (F.GV_TDATA_DATA 0) 0x80000000).put (F.GV_TDATA_DATA 2) 8).setPdu 7 {
      w0 := 0x80000000, w1 := 3, w2 := 8, since := 9 }), .mc, 7, (st (fun d => ((d.put (F.GV_TDATA_DATA
    0) 0x80000000).put (F.GV_TDATA_DATA 2) 8).setPdu 7 {
      w0 := 0x80000000, w1 := 3, w2 := 8, since := 9 })).dev, {
      w0 := 0x80000000, w2 := 8, since := 9 }, Dev.reaches_internal _ _ _ rfl (by decide +kernel), by
    decide +kernel⟩, ⟨st (fun d => ((d.put (F.GV_TDATA_DATA 0) 0x80000000).put (F.GV_TDATA_DATA 2)
    8).setPdu 7 { w0 := 0x80000000, w2 := 7 }), .mc, 7, (st (fun d => ((d.put (F.GV_TDATA_DATA 0)
    0x80000000).put (F.GV_TDATA_DATA 2) 8).setPdu 7 {
      w0 := 0x80000000, w2 := 7 })).dev, { w0 := 0x80000000, w2 := 8 }, Dev.reaches_internal _ _ _ rfl
    (by decide +kernel), by decide +kernel⟩, ⟨st (fun d => ((d.put (F.GV_TDATA_DATA 0) 0xC0000000).put
    (F.GV_TDATA_DATA 2) 8).put F.GV_IMG_CELLS_CELLS 0), .mc, 7, (st (fun d => ((d.put (F.GV_TDATA_DATA
    0) 0xC0000000).put (F.GV_TDATA_DATA 2) 8).put F.GV_IMG_CELLS_CELLS 0)).dev, {
      w0 := 0xC0000000, w2 := 8 }, Dev.reaches_internal _ _ _ rfl (by decide +kernel), by
    decide +kernel⟩, ⟨st (fun d => ((d.put (F.GV_TDATA_DATA 0) 0xC0000000).put (F.GV_TDATA_DATA 2)
    8).put F.GV_IMG_CELLS_CELLS 64), .mc, 7, (st (fun d => ((d.put (F.GV_TDATA_DATA 0) 0xC0000000).put
    (F.GV_TDATA_DATA 2) 8).put F.GV_IMG_CELLS_CELLS 64)).dev, {
      w0 := 0xC0000000, w2 := 8 }, Dev.reaches_internal _ _ _ rfl (by decide +kernel), by
    decide +kernel⟩, ⟨st (fun d => d.setPdu 7 { w0 := 0xC0000000, w2 := 8, pending := true }), .mc, 7,
    (st (fun d => d.setPdu 7 { w0 := 0xC0000000, w2 := 8, pending := true })).dev, Dev.reaches_internal
    _ _ _ rfl (by decide +kernel), by decide +kernel⟩, ⟨st (fun d => d.setPdu 7 {
      w0 := 0xC0000000, w2 := 8, image := 0x1234 }), .mc, 7, (st (fun d => d.setPdu 7 {
      w0 := 0xC0000000, w2 := 8, image := 0x1234 })).dev, Dev.reaches_internal _ _ _ rfl (by
    decide +kernel), by decide +kernel⟩, ⟨st (fun d => (d.setPdu 7 {
      w0 := 0xC0000000, w2 := 8, image := 0x1234 }).put (F.GV_TDATA_DATA 0) 0x99), .mc, 7, (st (fun d =>
    (d.setPdu 7 { w0 := 0xC0000000, w2 := 8, image := 0x1234 }).put (F.GV_TDATA_DATA 0) 0x99)).dev,
    Dev.reaches_internal _ _ _ rfl (by decide +kernel), by decide +kernel⟩, ⟨run0, .mc, 7, (run0).dev,
    Dev.reaches_internal _ _ _ rfl (by decide +kernel), by decide +kernel⟩, ⟨run0, .mc, 7, (run0).dev,
    Dev.reaches_internal _ _ _ rfl (by decide +kernel), by decide +kernel⟩⟩

theorem witness_GroveFlowCommands :
    (∃ (s : State) (t t2 : Fin 128) (x : Instance) (rd : Nat), s.dev.waits t = true ∧ (s.dev.thr t).st =
      .awaitWork rd ∧ s.dev.gv.arb = some x ∧ x.timeout = false ∧ x.paired = false) ∧
    (∃ (s : State) (t t2 : Fin 128) (x : Instance) (rd rd2 : Nat), s.dev.waits t = true ∧ s.dev.waits t2
      = true ∧ t.val / 8 ≠ t2.val / 8 ∧ (s.dev.thr t).st = .awaitWork rd ∧ (s.dev.thr t2).st =
      .awaitWork rd2 ∧ s.dev.gv.arb = some x ∧ x.timeout = false ∧ x.paired = true) ∧
    (∃ (s : State) (t t2 : Fin 128), s.dev.waits t = false) ∧
    (∃ (s : State) (t : Fin 128) (rd : Nat) (x : Instance), (s.dev.thr t).st = .committing rd ∧
      (s.dev.thr t).inst = some x ∧ s.dev.isFront x = true ∧ x.paired = false) ∧
    (∃ (s : State) (t : Fin 128) (rd : Nat) (x : Instance), (s.dev.thr t).st = .committing rd ∧
      (s.dev.thr t).inst = some x ∧ s.dev.isFront x = false) ∧
    (∃ (s : State) (t : Fin 128) (rd : Nat) (x : Instance) (err : Fin 3), err ≠ 0 ∧ (s.dev.thr t).st =
      .committing rd ∧ (s.dev.thr t).inst = some x ∧ x.paired = false ∧ x.ended = false) ∧
    (∃ (s : State) (t : Fin 128) (x : Instance) (err : Fin 3), err ≠ 0 ∧ (s.dev.thr t).st = .ready ∧
      (s.dev.thr t).inst = some x ∧ x.ended = false) ∧
    (∃ (s : State) (n : Nat) (rest : List GvItem), s.dev.queue 80 = .pdu n :: rest ∧ s.dev.released (.gv
      0) = true ∧ s.dev.enabled (.gv 0) = true ∧ s.dev.mode ≠ 3 ∧ s.dev.gapOver (.pdu n) = true ∧
      (s.dev.port 26).admitted = true) ∧
    (∃ (s : State) (c : Fin 64) (n slot : Nat) (rest : List GvItem), s.dev.queue c = .pdu n :: rest ∧
      s.dev.released (.gv 0) = true ∧ s.dev.enabled (.gv 0) = true ∧ s.dev.mode ≠ 3 ∧ s.dev.gapOver
      (.pdu n) = true ∧ s.dev.sendSlot (canC c) = some slot) ∧
    (∃ (s : State) (c : Fin 16) (n slot : Nat) (rest : List GvItem), s.dev.queue (64 + c) = .pdu n ::
      rest ∧ s.dev.released (.gv 0) = true ∧ s.dev.enabled (.gv 0) = true ∧ s.dev.mode ≠ 3 ∧
      s.dev.gapOver (.pdu n) = true ∧ s.dev.sendSlot (linC c) = some slot) ∧
    (∃ (s : State) (q : Fin 16) (p r n : Nat) (rest : List GvItem), s.dev.queue (81 + q) = .pdu n ::
      rest ∧ s.dev.released (.gv 0) = true ∧ s.dev.enabled (.gv 0) = true ∧ s.dev.mode ≠ 3 ∧
      s.dev.gapOver (.pdu n) = true ∧ s.dev.queueRing q = some (p, r)) ∧
    (∃ (s : State) (q : Fin 16) (p r : Nat) (e : EventPdu) (rest : List GvItem), s.dev.queue (81 + q) =
      .event e :: rest ∧ s.dev.released (.gv 0) = true ∧ s.dev.enabled (.gv 0) = true ∧ s.dev.mode ≠ 3 ∧
      s.dev.queueRing q = some (p, r)) ∧
    (∃ (s : State) (x : GvDest) (n t : Nat) (rest : List GvItem), s.dev.queue (destIndex x) = .pdu n ::
      rest ∧ (s.dev.pdu n).lastSend = some t ∧ s.dev.baseNs < t + pduGapUs (s.dev.pdu n) * 1000) ∧
    (∃ (s : State) (pdu : BitVec 16) (e : PduEntry), s.dev.pdu pdu.toNat = e ∧ s.dev.released (.gv 0) =
      true ∧ s.dev.enabled (.gv 0) = true ∧ s.dev.mode ≠ 8 ∧ pduIsRx e = true ∧ e.timedOut = false ∧
      pduTimeoutMs e ≠ 0 ∧ s.dev.chanAsleep (pduBus e) (pduChan e) = false ∧ e.since + pduTimeoutMs e *
      1000000 ≤ s.dev.baseNs) :=
  ⟨⟨stg (fun d => { d.modThr 9 (fun c => { c with st := .awaitWork 5, pc := 0x4000 }) with
      gv := { (d.modThr 9 (fun c => { c with st := .awaitWork 5, pc := 0x4000 })).gv with
        arb := some inst0 } }), 9, 0, inst0, 5, by decide +kernel⟩, ⟨stg (fun d => (fun (e : Dev) => { e
    with gv := { e.gv with arb := some { inst0 with
                             paired := true } } }) ((d.modThr 9 (fun c => { c with
      st := .awaitWork 5, pc := 0x4000 })).modThr 20 (fun c => { c with
      st := .awaitWork 6, pc := 0x4000 }))), 9, 20, { inst0 with
      paired := true }, 5, 6, by decide +kernel⟩, ⟨run0, 9, 20, by decide +kernel⟩, ⟨stg (fun d =>
    d.modThr 9 (fun c => { c with st := .committing 5, inst := some inst0 })), 9, 5, inst0, by
    decide +kernel⟩, ⟨stg (fun d => { d.modThr 9 (fun c => { c with
      st := .committing 5, inst := some inst0 }) with
      gv := { (d.modThr 9 (fun c => { c with st := .committing 5, inst := some inst0 })).gv with
        srcs := [(3, [⟨0, false, none, none⟩])] } }), 9, 5, inst0, by decide +kernel⟩, ⟨stg (fun d =>
    d.modThr 9 (fun c => { c with st := .committing 5, inst := some inst0 })), 9, 5, inst0, 1, by
    decide +kernel⟩, ⟨stt (fun d => d), 9, inst0, 2, by decide +kernel⟩, ⟨stg (fun d => ((d.setQueue 80
    [.pdu 7]).setPdu 7 { w0 := 0xC2000000, w2 := 60, pending := true }).modPort 26 (fun x => { x with
      admitted := true })), 7, [], by decide +kernel⟩, ⟨stg (fun d => (((canDev d).put (F.FS_CFG_OWNER 3
    2) 0).setQueue 3 [.pdu 7]).setPdu 7 { w0 := 0xC0030000, w2 := 8, image := 0x1234, pending := true
                                            }), 3, 7, 0, [], by decide +kernel⟩, ⟨stg (fun d =>
    (((linDev d).put (F.FS_CFG_OWNER 66 2) 0).setQueue 66 [.pdu 7]).setPdu 7 {
      w0 := 0xC1020000, w2 := 8, image := 0x1234, pending := true }), 2, 7, 0, [], by decide +kernel⟩,
    ⟨stg (fun d => ((((linkedDev d).put (F.RING_CFG_ENABLE 1 3) 1).put (F.RING_CFG_KIND 1 3) 3 |>.put
    (F.RING_CFG_DIR 1 3) 1 |>.put (F.RING_TAIL_INDEX 1 3) 2).setQueue 81 [.pdu 7]).setPdu 7 {
      w0 := 0xC3000000, w2 := 8, pending := true }), 0, 1, 3, 7, [], by decide +kernel⟩, ⟨stg (fun d =>
    (((linkedDev d).put (F.RING_CFG_ENABLE 1 3) 1).put (F.RING_CFG_KIND 1 3) 3 |>.put (F.RING_CFG_DIR 1
    3) 1 |>.put (F.RING_TAIL_INDEX 1 3) 2).setQueue 81 [.event ⟨1, 2, 1, 0xFFFF, 0, 0, 0⟩]), 0, 1, 3,
    ⟨1, 2, 1, 0xFFFF, 0, 0, 0⟩, [], by decide +kernel⟩, ⟨stg (fun d => ((d.setQueue 80 [.pdu 7]).setPdu
    7 { w0 := 0xC2000000, w2 := 60, w4 := 100, pending := true, lastSend := some 999999 }).modPort 26
    (fun x => { x with admitted := true })), .port26, 7, 999999, [], by decide +kernel⟩, ⟨stg (fun d =>
    d.setPdu 7 { w0 := 0x80000000, w2 := 8, w4 := 1 }), 7, {
      w0 := 0x80000000, w2 := 8, w4 := 1 }, by decide +kernel⟩⟩

theorem witness_XgroveDataInstructions :
    (∃ (s : State) (t : Fin 128) (pc : Word) (rd : Fin 32) (k : Fin 4) (ix : Word), s.dev.gxReady t =
      true ∧ sigValid (s.dev.sigWord (ix.toNat % 2 ^ 20) 0) = true) ∧
    (∃ (s : State) (t : Fin 128) (pc : Word) (rd : Fin 32) (k : Fin 4) (ix : Word), s.dev.gxReady t =
      true ∧ sigValid (s.dev.sigWord (ix.toNat % 2 ^ 20) 0) = false) ∧
    (∃ (s : State) (t : Fin 128) (pc : Word) (rd : Fin 32) (k : Fin 4) (ix : Word), s.dev.gxReady t =
      true) ∧
    (∃ (s : State) (t : Fin 128) (pc : Word) (rd : Fin 32) (k : Fin 4) (ix : Word), s.dev.gxReady t =
      true) ∧
    (∃ (s : State) (t : Fin 128) (pc : Word) (rd : Fin 32) (k v : Fin 4) (x : Instance) (w0 : Nat),
      s.dev.gxReady t = true ∧ (s.dev.thr t).inst = some x ∧ x.aborted = false ∧ x.timeout = false ∧
      dreg (s.dev.thr t) k 0 = w0 ∧ sigSink w0 = false ∧ fieldFits (sigBig w0) (sigStart w0) (sigLen w0)
      x.fits = true) ∧
    (∃ (s : State) (t : Fin 128) (pc : Word) (rd : Fin 32) (k v : Fin 4) (x : Instance) (w0 : Nat),
      s.dev.gxReady t = true ∧ (s.dev.thr t).inst = some x ∧ x.aborted = false ∧ dreg (s.dev.thr t) k 0
      = w0 ∧ sigSink w0 = false ∧ fieldFits (sigBig w0) (sigStart w0) (sigLen w0) x.fits = false) ∧
    (∃ (s : State) (t : Fin 128) (pc : Word) (rd : Fin 32) (k v : Fin 4) (x : Instance) (w0 p : Nat),
      s.dev.gxReady t = true ∧ (s.dev.thr t).inst = some x ∧ x.aborted = false ∧ dreg (s.dev.thr t) k 0
      = w0 ∧ bitsOf (dreg (s.dev.thr t) k 1) 16 16 = p ∧ sigSink w0 = true ∧ pduIsTx (s.dev.pdu p) =
      true ∧ fieldFits (sigBig w0) (sigStart w0) (sigLen w0) (pduLen (s.dev.pdu p)) = true) ∧
    (∃ (s : State) (t : Fin 128) (pc : Word) (rd : Fin 32) (k v w : Fin 4) (x : Instance), s.dev.gxReady
      t = true ∧ (s.dev.thr t).inst = some x ∧ x.aborted = true) ∧
    (∃ (s : State) (t : Fin 128) (pc : Word) (rd : Fin 32) (k vd vs : Fin 4) (x : Instance) (w0 r :
      Nat), s.dev.gxReady t = true ∧ (s.dev.thr t).inst = some x ∧ x.aborted = false ∧ dreg (s.dev.thr
      t) k 0 = w0 ∧ s.dev.transform (tget (s.dev.thr t).v vs).xfm (tget (s.dev.thr t).v vs).cls ((tget
      (s.dev.thr t).v vs).val % 2 ^ ((tget (s.dev.thr t).v vs).lenM1 + 1)) ((tget (s.dev.thr t).v
      vs).lenM1 + 1) (vVal (tget (s.dev.thr t).v vs)) (sigLen w0) (sigSigned w0) = some (r, false)) ∧
    (∃ (s : State) (t : Fin 128) (pc : Word) (rd : Fin 32) (k vd vs : Fin 4) (x : Instance) (w0 r :
      Nat), s.dev.gxReady t = true ∧ (s.dev.thr t).inst = some x ∧ x.aborted = false ∧ dreg (s.dev.thr
      t) k 0 = w0 ∧ s.dev.transform (tget (s.dev.thr t).v vs).xfm (tget (s.dev.thr t).v vs).cls ((tget
      (s.dev.thr t).v vs).val % 2 ^ ((tget (s.dev.thr t).v vs).lenM1 + 1)) ((tget (s.dev.thr t).v
      vs).lenM1 + 1) (vVal (tget (s.dev.thr t).v vs)) (sigLen w0) (sigSigned w0) = some (r, true)) ∧
    (∃ (s : State) (t : Fin 128) (pc : Word) (rd : Fin 32) (k vd vs : Fin 4) (x : Instance) (w0 : Nat),
      s.dev.gxReady t = true ∧ (s.dev.thr t).inst = some x ∧ x.aborted = false ∧ dreg (s.dev.thr t) k 0
      = w0 ∧ s.dev.transform (tget (s.dev.thr t).v vs).xfm (tget (s.dev.thr t).v vs).cls ((tget
      (s.dev.thr t).v vs).val % 2 ^ ((tget (s.dev.thr t).v vs).lenM1 + 1)) ((tget (s.dev.thr t).v
      vs).lenM1 + 1) (vVal (tget (s.dev.thr t).v vs)) (sigLen w0) (sigSigned w0) = none) ∧
    (∃ (s : State) (t : Fin 128) (pc : Word) (rd : Fin 32) (sel : Fin 8), s.dev.gxReady t = true ∧ 3 ≤
      sel.val ∧ sel.val ≤ 6) ∧
    (∃ (s : State) (t : Fin 128) (pc : Word) (rd : Fin 32) (x : Instance), s.dev.gxReady t = true ∧
      (s.dev.thr t).inst = some x) ∧
    (∃ (s : State) (t : Fin 128) (pc : Word) (rd : Fin 32) (x : Instance), s.dev.gxReady t = true ∧
      (s.dev.thr t).inst = some x) ∧
    (∃ (s : State) (t : Fin 128) (pc : Word) (rd : Fin 32), s.dev.gxReady t = true) :=
  ⟨⟨stt (fun d => d.setSig 21 0x80000000), 9, 0x4000, 5, 1, 7, by decide +kernel⟩, ⟨stt (fun d => d), 9,
    0x4000, 5, 1, 7, by decide +kernel⟩, ⟨stt (fun d => d.setSig 21 0x80000000), 9, 0x4000, 5, 1, 7, by
    decide +kernel⟩, ⟨stt (fun d => d), 9, 0x4000, 5, 1, 7, by decide +kernel⟩, ⟨stt (fun d => d.modThr
    9 (fun c => { c with dw := [(3, 0x80008000)] })), 9, 0x4000, 5, 1, 2, inst0, 0x80008000, by
    decide +kernel⟩, ⟨stt (fun d => d.modThr 9 (fun c => { c with
      dw := [(3, 0x80008040)] })), 9, 0x4000, 5, 1, 2, inst0, 0x80008040, by decide +kernel⟩, ⟨stt (fun
    d => (d.setPdu 8 { w0 := 0xC0000000, w2 := 8, image := 0x9F }).modThr 9 (fun c => { c with
      dw := [(3, 0xC0008000), (4, 0x80000)] })), 9, 0x4000, 5, 1, 2, inst0, 0xC0008000, 8, by
    decide +kernel⟩, ⟨stt (fun d => d.modThr 9 (fun c => { c with
      inst := some { inst0 with aborted := true } })), 9, 0x4000, 5, 1, 2, 3, { inst0 with
      aborted := true }, by decide +kernel⟩, ⟨stt (fun d => d.modThr 9 (fun c => { c with
      dw := [(3, 0xC0008000)], v := [(2, { val := 5, lenM1 := 2 })] })), 9, 0x4000, 5, 1, 3, 2, inst0,
    0xC0008000, 5, by decide +kernel⟩, ⟨stt (fun d => d.modThr 9 (fun c => { c with
      dw := [(3, 0xC0008000)], v := [(2, { val := 50, lenM1 := 7 })] })), 9, 0x4000, 5, 1, 3, 2, inst0,
    0xC0008000, 7, by decide +kernel⟩, ⟨stt (fun d => d.modThr 9 (fun c => { c with
      dw := [(3, 0xC0008000)], v := [(2, { cls := 3 })] })), 9, 0x4000, 5, 1, 3, 2, inst0, 0xC0008000,
    by decide +kernel⟩, ⟨stt (fun d => d), 9, 0x4000, 5, 3, by decide +kernel⟩, ⟨stt (fun d => d), 9,
    0x4000, 5, inst0, by decide +kernel⟩, ⟨stt (fun d => d), 9, 0x4000, 5, inst0, by decide +kernel⟩,
    ⟨stt (fun d => d), 9, 0x4000, 5, by decide +kernel⟩⟩

theorem witness_XgroveStageAndInstances :
    (∃ (s : State) (t t2 : Fin 128) (pc : Word) (rd : Fin 32), s.dev.gxReady t = true ∧ (s.dev.thr
      t).inst = none) ∧
    (∃ (s : State) (t t2 : Fin 128) (pc : Word) (rd : Fin 32), s.dev.gxReady t = true ∧ (s.dev.thr
      t).inst = none ∧ s.dev.serving (t / 8) = false) ∧
    (∃ (s : State) (t t2 : Fin 128) (pc : Word) (rd : Fin 32) (x : Instance), s.dev.gxReady t = true ∧
      (s.dev.thr t).inst = none ∧ s.dev.serving (t / 8) = true ∧ s.dev.gv.arb = some x ∧ x.timeout =
      false ∧ x.paired = false) ∧
    (∃ (s : State) (t t2 : Fin 128) (pc : Word) (rd : Fin 32) (block : Bool) (x : Instance),
      s.dev.gxReady t = true ∧ (s.dev.thr t).inst = some x) ∧
    (∃ (s : State) (t : Fin 128) (pc : Word) (rd : Fin 32) (k v : Fin 4) (x : Instance) (w0 p : Nat),
      s.dev.gxReady t = true ∧ (s.dev.thr t).inst = some x ∧ x.aborted = false ∧ dreg (s.dev.thr t) k 0
      = w0 ∧ bitsOf (dreg (s.dev.thr t) k 1) 16 16 = p ∧ (tget (s.dev.thr t).v v).cls = 0 ∧ (tget
      (s.dev.thr t).v v).upd = 0 ∧ sigSink w0 = true ∧ pduIsTx (s.dev.pdu p) = true ∧ fieldFits (sigBig
      w0) (sigStart w0) (sigLen w0) (pduLen (s.dev.pdu p)) = true ∧ stageFull (stageField (s.dev.thr
      t).stage p (s.dev.pdu p).gen (sigBig w0) (sigStart w0) (sigLen w0) ((tget (s.dev.thr t).v v).val %
      2 ^ sigLen w0)) = false) ∧
    (∃ (s : State) (t : Fin 128) (pc : Word) (rd : Fin 32) (k v : Fin 4) (x : Instance), s.dev.gxReady t
      = true ∧ (s.dev.thr t).inst = some x ∧ x.aborted = false ∧ (tget (s.dev.thr t).v v).cls ≠ 0) ∧
    (∃ (s : State) (t : Fin 128) (pc : Word) (rd : Fin 32) (k v : Fin 4) (x : Instance) (w0 p : Nat),
      s.dev.gxReady t = true ∧ (s.dev.thr t).inst = some x ∧ x.aborted = false ∧ dreg (s.dev.thr t) k 0
      = w0 ∧ bitsOf (dreg (s.dev.thr t) k 1) 16 16 = p ∧ (tget (s.dev.thr t).v v).cls = 0 ∧ (sigSink w0
      = false ∨ pduIsTx (s.dev.pdu p) = false ∨ fieldFits (sigBig w0) (sigStart w0) (sigLen w0) (pduLen
      (s.dev.pdu p)) = false)) ∧
    (∃ (s : State) (t : Fin 128) (pc : Word) (rd : Fin 32) (k v : Fin 4) (x : Instance) (w0 p : Nat),
      s.dev.gxReady t = true ∧ (s.dev.thr t).inst = some x ∧ x.aborted = false ∧ dreg (s.dev.thr t) k 0
      = w0 ∧ bitsOf (dreg (s.dev.thr t) k 1) 16 16 = p ∧ (tget (s.dev.thr t).v v).cls = 0 ∧ sigSink w0 =
      true ∧ pduIsTx (s.dev.pdu p) = true ∧ fieldFits (sigBig w0) (sigStart w0) (sigLen w0) (pduLen
      (s.dev.pdu p)) = true ∧ ((tget (s.dev.thr t).v v).upd = 1 ∨ (tget (s.dev.thr t).v v).upd = 3) ∧
      fieldGet (sigBig w0) (sigStart w0) (sigLen w0) (s.dev.staged (s.dev.thr t).stage p) = (tget
      (s.dev.thr t).v v).val % 2 ^ sigLen w0) ∧
    (∃ (s : State) (t : Fin 128) (pc : Word) (rd : Fin 32) (k v : Fin 4) (x : Instance) (w0 p : Nat),
      s.dev.gxReady t = true ∧ (s.dev.thr t).inst = some x ∧ x.aborted = false ∧ dreg (s.dev.thr t) k 0
      = w0 ∧ bitsOf (dreg (s.dev.thr t) k 1) 16 16 = p ∧ (tget (s.dev.thr t).v v).cls = 0 ∧ sigSink w0 =
      true ∧ pduIsTx (s.dev.pdu p) = true ∧ fieldFits (sigBig w0) (sigStart w0) (sigLen w0) (pduLen
      (s.dev.pdu p)) = true ∧ (tget (s.dev.thr t).v v).upd = 2 ∧ stageFull (stageTrig (stageField
      (s.dev.thr t).stage p (s.dev.pdu p).gen (sigBig w0) (sigStart w0) (sigLen w0) ((tget (s.dev.thr
      t).v v).val % 2 ^ sigLen w0)) p (s.dev.pdu p).gen) = false) ∧
    (∃ (s : State) (t : Fin 128) (pc : Word) (rd : Fin 32) (k v : Fin 4) (x : Instance) (w0 p : Nat),
      s.dev.gxReady t = true ∧ (s.dev.thr t).inst = some x ∧ x.aborted = false ∧ dreg (s.dev.thr t) k 0
      = w0 ∧ bitsOf (dreg (s.dev.thr t) k 1) 16 16 = p ∧ (tget (s.dev.thr t).v v).cls = 0 ∧ sigSink w0 =
      true ∧ pduIsTx (s.dev.pdu p) = true ∧ fieldFits (sigBig w0) (sigStart w0) (sigLen w0) (pduLen
      (s.dev.pdu p)) = true ∧ (tget (s.dev.thr t).v v).upd = 0 ∧ stageFull (stageField (s.dev.thr
      t).stage p (s.dev.pdu p).gen (sigBig w0) (sigStart w0) (sigLen w0) ((tget (s.dev.thr t).v v).val %
      2 ^ sigLen w0)) = true) ∧
    (∃ (s : State) (t : Fin 128) (pc : Word) (rd : Fin 32) (x : Instance), s.dev.gxReady t = true ∧
      (s.dev.thr t).inst = some x ∧ x.paired = false ∧ x.aborted = false) ∧
    (∃ (s : State) (t : Fin 128) (pc : Word) (rd : Fin 32) (x : Instance), s.dev.gxReady t = true ∧
      (s.dev.thr t).inst = some x ∧ x.paired = false ∧ x.aborted = true) ∧
    (∃ (s : State) (t : Fin 128) (pc : Word) (rd : Fin 32) (x : Instance), s.dev.gxReady t = true ∧
      (s.dev.thr t).inst = some x ∧ x.paired = true ∧ x.ended = false) ∧
    (∃ (s : State) (t : Fin 128) (pc : Word) (rd : Fin 32) (p : Word) (x : Instance), s.dev.gxReady t =
      true ∧ (s.dev.thr t).inst = some x ∧ x.aborted = false ∧ pduIsTx (s.dev.pdu (p.toNat % 2 ^ 16)) =
      true ∧ stageFull (stageTrig (s.dev.thr t).stage (p.toNat % 2 ^ 16) (s.dev.pdu (p.toNat % 2 ^
      16)).gen) = false) ∧
    (∃ (s : State) (t : Fin 128) (pc : Word) (rd : Fin 32) (p : Word) (x : Instance), s.dev.gxReady t =
      true ∧ (s.dev.thr t).inst = some x ∧ pduIsTx (s.dev.pdu (p.toNat % 2 ^ 16)) = false) ∧
    (∃ (s : State) (t : Fin 128) (pc : Word) (rd : Fin 32) (x : Instance), s.dev.gxReady t = true ∧
      (s.dev.thr t).inst = some x ∧ x.paired = false ∧ x.timeout = false ∧ x.resume = false ∧ (∀ e ∈
      tget s.dev.gv.srcs x.src, e.fifo = none ∧ e.frame = none)) ∧
    (∃ (s : State) (t : Fin 128) (pc : Word) (rd : Fin 32) (x : Instance), s.dev.gxReady t = true ∧
      (s.dev.thr t).inst = some x ∧ x.paired = true) ∧
    (∃ (s : State) (t : Fin 128) (pc : Word) (rd : Fin 32) (p : Nat), s.dev.gxReady t = true ∧
      s.dev.resting (t / 8) = false ∧ (s.dev.thr t).wake = some p) ∧
    (∃ (s : State) (t : Fin 128) (pc : Word) (rd : Fin 32), s.dev.gxReady t = true ∧ ((s.dev.thr t).wake
      = none ∨ s.dev.resting (t / 8) = true)) ∧
    (∃ (s : State) (t : Fin 128) (pc : Word) (rd : Fin 32) (tq x : Word) (y : Instance), s.dev.gxReady t
      = true ∧ (s.dev.thr t).inst = some y ∧ 0x80 ≤ tq.toNat % 2 ^ 8 ∧ (s.dev.thr t).stage.events.length
      < 4) ∧
    (∃ (s : State) (t : Fin 128) (pc : Word) (rd : Fin 32) (tq x : Word) (y : Instance), s.dev.gxReady t
      = true ∧ (s.dev.thr t).inst = some y ∧ (tq.toNat % 2 ^ 8 < 0x80 ∨ 4 ≤ (s.dev.thr
      t).stage.events.length)) ∧
    (∃ (s : State) (t : Fin 128) (pc : Word) (rd : Fin 32) (x : Word) (y : Instance), s.dev.gxReady t =
      true ∧ (s.dev.thr t).inst = some y ∧ y.paired = false) ∧
    (∃ (s : State) (t : Fin 128) (pc : Word) (rd : Fin 32) (x : Word) (y z : Instance), s.dev.gxReady t
      = true ∧ (s.dev.thr t).inst = some y ∧ y.paired = true ∧ y.owed = false ∧ y.ended = false ∧
      y.aborted = false ∧ y.partner ≠ t.val ∧ (s.dev.thr y.partner).inst = some z ∧ z.serial = y.serial
      ∧ z.aborted = false ∧ (s.dev.thr y.partner).st = .ready) ∧
    (∃ (s : State) (t : Fin 128) (pc : Word) (rd : Fin 32) (x : Word) (y z : Instance) (rd2 word since :
      Nat), s.dev.gxReady t = true ∧ (s.dev.thr t).inst = some y ∧ y.paired = true ∧ y.owed = false ∧
      y.ended = false ∧ y.aborted = false ∧ y.partner ≠ t.val ∧ (s.dev.thr y.partner).inst = some z ∧
      z.serial = y.serial ∧ z.aborted = false ∧ (s.dev.thr y.partner).st = .awaitPartner rd2 word since
      ∧ s.dev.baseNs ≤ since + 20000) :=
  ⟨⟨stg (fun d => d.modThr 9 (fun c => { c with st := .ready })), 9, 0, 0x4000, 5, by decide +kernel⟩,
    ⟨stg (fun d => ((d.modThr 9 (fun c => { c with
      st := .ready })).put F.GV_ROT_STAT_PHASE 1).put F.GV_ROT_STAT_RESTING 1), 9, 0, 0x4000, 5, by
    decide +kernel⟩, ⟨stg (fun d => { d.modThr 9 (fun c => { c with
      st := .ready }) with gv := { (d.modThr 9 (fun c => { c with
                             st := .ready })).gv with
                             arb := some inst0 } }), 9, 0, 0x4000, 5, inst0, by decide +kernel⟩, ⟨stt
    (fun d => d), 9, 0, 0x4000, 5, true, inst0, by decide +kernel⟩, ⟨stt (fun d => (d.setPdu 8 {
      w0 := 0xC0000000, w2 := 8 }).modThr 9 (fun c => { c with
      dw := [(3, 0xC0008000), (4, 0x80000)], v := [(2, {
        val := 5, lenM1 := 2 })] })), 9, 0x4000, 5, 1, 2, inst0, 0xC0008000, 8, by decide +kernel⟩, ⟨stt
    (fun d => d.modThr 9 (fun c => { c with v := [(2, {
                                              cls := 1 })] })), 9, 0x4000, 5, 1, 2, inst0, by
    decide +kernel⟩, ⟨stt (fun d => d.modThr 9 (fun c => { c with
      dw := [(3, 0xC0008000), (4, 0x80000)], v := [(2, {
        val := 5, lenM1 := 2 })] })), 9, 0x4000, 5, 1, 2, inst0, 0xC0008000, 8, by decide +kernel⟩, ⟨stt
    (fun d => (d.setPdu 8 { w0 := 0xC0000000, w2 := 8, image := 5 }).modThr 9 (fun c => { c with
      dw := [(3, 0xC0008000), (4, 0x80000)], v := [(2, {
        val := 5, lenM1 := 2, upd := 1 })] })), 9, 0x4000, 5, 1, 2, inst0, 0xC0008000, 8, by
    decide +kernel⟩, ⟨stt (fun d => (d.setPdu 8 { w0 := 0xC0000000, w2 := 8 }).modThr 9 (fun c => { c
    with dw := [(3, 0xC0008000), (4, 0x80000)], v := [(2, {
           val := 5, lenM1 := 2, upd := 2 })] })), 9, 0x4000, 5, 1, 2, inst0, 0xC0008000, 8, by
    decide +kernel⟩, ⟨stt (fun d => (d.setPdu 8 { w0 := 0xC0000000, w2 := 8 }).modThr 9 (fun c => { c
    with stage := { granules := List.replicate 256 {
                      pdu := 1, gen := 0, off := 0, data := 0, mask := 0 } }, dw := [(3, 0xC0008000),
           (4, 0x80000)], v := [(2, { val := 5, lenM1 := 2 })] })), 9, 0x4000, 5, 1, 2, inst0,
    0xC0008000, 8, by decide +kernel⟩, ⟨stt (fun d => d), 9, 0x4000, 5, inst0, by decide +kernel⟩, ⟨stt
    (fun d => d.modThr 9 (fun c => { c with inst := some { inst0 with
                                              aborted := true } })), 9, 0x4000, 5, { inst0 with
      aborted := true }, by decide +kernel⟩, ⟨stg (fun d => (thrDev d pairA).modThr 20 (fun c => { c
    with st := .ready, inst := some pairB })), 9, 0x4000, 5, pairA, by decide +kernel⟩, ⟨stt (fun d =>
    d.setPdu 8 { w0 := 0xC0000000, w2 := 8 }), 9, 0x4000, 5, 8, inst0, by decide +kernel⟩, ⟨stt (fun d
    => d), 9, 0x4000, 5, 8, inst0, by decide +kernel⟩, ⟨stt (fun d => d), 9, 0x4000, 5, inst0, by
    decide +kernel⟩, ⟨stg (fun d => (thrDev d pairA).modThr 20 (fun c => { c with
      st := .ready, inst := some pairB })), 9, 0x4000, 5, pairA, by decide +kernel⟩, ⟨stt (fun d =>
    d.modThr 9 (fun c => { c with wake := some 3 })), 9, 0x4000, 5, 3, by decide +kernel⟩, ⟨stt (fun d
    => d), 9, 0x4000, 5, by decide +kernel⟩, ⟨stt (fun d => d), 9, 0x4000, 5, 0x380, 7, inst0, by
    decide +kernel⟩, ⟨stt (fun d => d), 9, 0x4000, 5, 0x37F, 7, inst0, by decide +kernel⟩, ⟨stt (fun d
    => d), 9, 0x4000, 5, 7, inst0, by decide +kernel⟩, ⟨stg (fun d => (thrDev d pairA).modThr 20 (fun c
    => { c with st := .ready, inst := some pairB })), 9, 0x4000, 5, 7, pairA, pairB, by decide +kernel⟩,
    ⟨stg (fun d => (thrDev d pairA).modThr 20 (fun c => { c with
      st := .awaitPartner 6 7 999000, inst := some pairB })), 9, 0x4000, 5, 7, pairA, pairB, 6, 7,
    999000, by decide +kernel⟩⟩

theorem witness_ThreadFaultsAndRestart :
    (∃ (s : State) (t : Fin 128) (cause : Fin 7) (pc : Word), s.dev.gxReady t = true ∧ s.dev.flag
      (F.ENG_FAULT_CAUSE_VALID (t / 8)) = false) ∧
    (∃ (s : State) (t : Fin 128) (pc : Word) (x : Instance), (s.dev.thr t).inst = some x ∧ (s.dev.thr
      t).st = .ready ∧ x.start + 100000 ≤ s.dev.baseNs ∧ s.dev.flag (F.ENG_FAULT_CAUSE_VALID (t / 8)) =
      false) ∧
    (∃ (s : State) (t : Fin 128) (cause : Fin 7) (pc : Word), s.dev.gxReady t = false) ∧
    (∃ (s : State) (t : Fin 128) (pc : Word), (s.dev.thr t).inst.all (fun x => decide (s.dev.baseNs <
      x.start + 100000)) = true) ∧
    (∃ (s : State) (t : Fin 128) (u : Nat), (s.dev.thr t).st = .restarting u ∧ s.dev.gvRuns = true ∧ u ≤
      s.dev.baseNs) ∧
    (∃ (s : State) (t : Fin 128) (rd word since : Nat) (x : Instance), (s.dev.thr t).st = .awaitPartner
      rd word since ∧ (s.dev.thr t).inst = some x ∧ since + 20000 ≤ s.dev.baseNs ∧ x.partner ≠ t.val) ∧
    (∃ (s : State) (t t2 : Fin 128) (pc v w : Word) (rd : Fin 32) (k a b : Fin 4) (sel : Fin 8) (block
      dbe : Bool), s.dev.gxReady t = false) ∧
    (∃ (s : State) (t : Fin 128) (pc v w : Word) (rd : Fin 32) (k a b : Fin 4) (sel : Fin 2),
      s.dev.gxReady t = true ∧ (s.dev.thr t).inst = none) :=
  ⟨⟨stt (fun d => d), 9, 2, 0x4000, by decide +kernel⟩, ⟨stt (fun d => d), 9, 0x4000, inst0, by
    decide +kernel⟩, ⟨run0, 9, 2, 0x4000, by decide +kernel⟩, ⟨stt (fun d => d.modThr 9 (fun c => { c
    with inst := some { inst0 with start := d.baseNs } })), 9, 0x4000, by decide +kernel⟩, ⟨stt (fun d
    => d.modThr 9 (fun c => { c with st := .restarting 5 })), 9, 5, by decide +kernel⟩, ⟨stg (fun d =>
    (thrDev d pairA).modThr 9 (fun c => { c with st := .awaitPartner 6 7 1000 })), 9, 6, 7, 1000, pairA,
    by decide +kernel⟩, ⟨run0, 9, 20, 0x4000, 7, 8, 5, 1, 2, 3, 0, true, false, by decide +kernel⟩, ⟨stg
    (fun d => d.modThr 9 (fun c => { c with st := .ready })), 9, 0x4000, 7, 8, 5, 1, 2, 3, 0, by
    decide +kernel⟩⟩

theorem witness_EngineRunAndLoad :
    (∃ (s : State) (i : Init) (d : Dev), s.dev.reaches i (R.GV_ENG_CTRL) = some d ∧ d.lockedWrite
      (R.GV_ENG_CTRL) (1) = false ∧ d.flag F.GV_ENG_CTRL_RUN = false) ∧
    (∃ (s : State) (i : Init) (d : Dev), s.dev.reaches i (R.GV_ENG_CTRL) = some d ∧ d.lockedWrite
      (R.GV_ENG_CTRL) (0) = false ∧ d.flag F.GV_ENG_CTRL_RUN = true ∧ (d.mode = 8 ∨ d.enabled (.gv 0) =
      false)) ∧
    (∃ (s : State) (i : Init) (d : Dev), s.dev.reaches i (R.GV_ENG_CTRL) = some d ∧ d.lockedWrite
      (R.GV_ENG_CTRL) (0) = false ∧ d.flag F.GV_ENG_CTRL_RUN = true ∧ d.mode ≠ 8 ∧ d.enabled (.gv 0) =
      true) ∧
    (∃ (s : State) (failed : BitVec 16), s.dev.gv.initTest = true ∧ s.dev.released (.gv 2) = true) ∧
    (∃ (s : State) (i : Init) (d : Dev), s.dev.reaches i (R.GV_LOAD_CTRL) = some d ∧ d.lockedWrite
      (R.GV_LOAD_CTRL) (cmdWord [(F.GV_LOAD_CTRL_GO, 1)]) = false ∧ d.get F.GV_LOAD_CTRL_STATE ≠ 1 ∧
      d.flag F.GV_ENG_CTRL_RUN = false ∧ d.get F.GV_LOAD_LEN_BYTES ≠ 0 ∧ d.get F.GV_LOAD_LEN_BYTES % 64
      = 0 ∧ d.get F.GV_LOAD_LEN_BYTES ≤ 196608) ∧
    (∃ (s : State) (bytes : List Byte) (code : Option (List Byte)), s.dev.get F.GV_LOAD_CTRL_STATE = 1 ∧
      s.dev.flag F.GV_ENG_CTRL_RUN = false ∧ crc32c (Sys2Proof.Machine.slice bytes 0 (s.dev.get
      F.GV_LOAD_LEN_BYTES)) = s.dev.get F.GV_LOAD_CRC_CRC ∧ s.dev.get F.GV_LOAD_LEN_BYTES ≤ 196608 ∧ (if
      s.dev.gv.loadFw then s.dev.slotCode else none) = code ∧ code.all (fun c =>
      (Sys2Proof.Machine.slice bytes 0 (s.dev.get F.GV_LOAD_LEN_BYTES)).take c.length == c) = true ∧
      s.dev.sapState ≠ 5) ∧
    (∃ (s : State) (bytes : List Byte) (code : Option (List Byte)), s.dev.get F.GV_LOAD_CTRL_STATE = 1 ∧
      (if s.dev.gv.loadFw then s.dev.slotCode else none) = code ∧ (crc32c (Sys2Proof.Machine.slice bytes
      0 (s.dev.get F.GV_LOAD_LEN_BYTES)) ≠ s.dev.get F.GV_LOAD_CRC_CRC ∨ code.all (fun c =>
      (Sys2Proof.Machine.slice bytes 0 (s.dev.get F.GV_LOAD_LEN_BYTES)).take c.length == c) = false) ∧
      s.dev.flag F.GV_ENG_CTRL_RUN = false ∧ s.dev.gv.loadRetry = true ∧ s.dev.sapState ≠ 5) ∧
    (∃ (s : State) (bytes : List Byte) (code : Option (List Byte)), s.dev.get F.GV_LOAD_CTRL_STATE = 1 ∧
      (if s.dev.gv.loadFw then s.dev.slotCode else none) = code ∧ (crc32c (Sys2Proof.Machine.slice bytes
      0 (s.dev.get F.GV_LOAD_LEN_BYTES)) ≠ s.dev.get F.GV_LOAD_CRC_CRC ∨ code.all (fun c =>
      (Sys2Proof.Machine.slice bytes 0 (s.dev.get F.GV_LOAD_LEN_BYTES)).take c.length == c) = false) ∧
      s.dev.flag F.GV_ENG_CTRL_RUN = false ∧ s.dev.gv.loadRetry = false) ∧
    (∃ (s : State) (bytes : List Byte), s.dev.get F.GV_LOAD_CTRL_STATE = 1 ∧ s.dev.flag
      F.GV_ENG_CTRL_RUN = true ∧ s.dev.sapState ≠ 5) ∧
    (∃ (s : State) (bytes : List Byte) (d1 : Dev), s.dev.get F.GV_LOAD_CTRL_STATE = 1 ∧ s.dev.sapState =
      5 ∧ s.dev.loadDone (if s.dev.gv.loadFw then s.dev.slotCode else none) bytes = d1) ∧
    (∃ (s : State) (bytes : List Byte), s.dev.get F.GV_LOAD_CTRL_STATE ≠ 1) ∧
    (∃ (s : State) (i : Init) (d : Dev), s.dev.reaches i (R.GV_LOAD_CTRL) = some d ∧ d.lockedWrite
      (R.GV_LOAD_CTRL) (cmdWord [(F.GV_LOAD_CTRL_GO, 1)]) = false ∧ d.get F.GV_LOAD_CTRL_STATE ≠ 1 ∧
      (d.flag F.GV_ENG_CTRL_RUN = true ∨ d.get F.GV_LOAD_LEN_BYTES = 0 ∨ d.get F.GV_LOAD_LEN_BYTES % 64
      ≠ 0 ∨ 196608 < d.get F.GV_LOAD_LEN_BYTES)) ∧
    (∃ (s : State) (i : Init) (v : Word) (d : Dev), s.dev.reaches i (R.GV_LM_DATA) = some d ∧
      d.lockedWrite (R.GV_LM_DATA) (v) = false ∧ d.flag F.GV_ENG_CTRL_RUN = true) ∧
    (∃ (s : State) (i : Init) (v : Word) (d : Dev), s.dev.reaches i (R.GV_LM_DATA) = some d ∧
      d.lockedWrite (R.GV_LM_DATA) (v) = false ∧ d.flag F.GV_ENG_CTRL_RUN = false) ∧
    (∃ (s : State) (failed : BitVec 16), s.dev.gv.initTest = false) :=
  ⟨⟨run0, .mc, (run0).dev, Dev.reaches_internal _ _ _ rfl (by decide +kernel), by decide +kernel⟩, ⟨st
    (fun d => d.put F.GV_ENG_CTRL_RUN 1), .mc, (st (fun d => d.put F.GV_ENG_CTRL_RUN 1)).dev,
    Dev.reaches_internal _ _ _ rfl (by decide +kernel), by decide +kernel⟩, ⟨stg (fun d => d), .mc, (stg
    (fun d => d)).dev, Dev.reaches_internal _ _ _ rfl (by decide +kernel), by decide +kernel⟩, ⟨st (fun
    d => { d with gv := { d.gv with initTest := true } }), 2, by decide +kernel⟩, ⟨st (fun d => d.put
    F.GV_LOAD_LEN_BYTES 64), .mc, (st (fun d => d.put F.GV_LOAD_LEN_BYTES 64)).dev, Dev.reaches_internal
    _ _ _ rfl (by decide +kernel), by decide +kernel⟩, ⟨st (fun d => ((d.put F.GV_LOAD_CTRL_STATE 1).put
    F.GV_LOAD_LEN_BYTES 4).put F.GV_LOAD_CRC_CRC (crc32c [1, 2, 3, 4])), [1, 2, 3, 4], none, by
    decide +kernel⟩, ⟨st (fun d => { (d.put F.GV_LOAD_CTRL_STATE 1).put F.GV_LOAD_CRC_CRC 7 with
      gv := { d.gv with loadRetry := true } }), [], none, by decide +kernel⟩, ⟨st (fun d => (d.put
    F.GV_LOAD_CTRL_STATE 1).put F.GV_LOAD_CRC_CRC 7), [], none, by decide +kernel⟩, ⟨st (fun d => (d.put
    F.GV_LOAD_CTRL_STATE 1).put F.GV_ENG_CTRL_RUN 1), [], by decide +kernel⟩, ⟨st (fun d => ((d.put
    F.GV_LOAD_CTRL_STATE 1).put F.GV_LOAD_CRC_CRC 7).put F.SAP_STAT_STATE 5), [], (st (fun d => ((d.put
    F.GV_LOAD_CTRL_STATE 1).put F.GV_LOAD_CRC_CRC 7).put F.SAP_STAT_STATE 5) : State).dev.loadDone (if
    (st (fun d => ((d.put F.GV_LOAD_CTRL_STATE 1).put F.GV_LOAD_CRC_CRC 7).put F.SAP_STAT_STATE 5) :
    State).dev.gv.loadFw then (st (fun d => ((d.put F.GV_LOAD_CTRL_STATE 1).put F.GV_LOAD_CRC_CRC 7).put
    F.SAP_STAT_STATE 5) : State).dev.slotCode else none) ([] : List Byte), fuse2 (by decide +kernel)
    (rfl)⟩, ⟨run0, [], by decide +kernel⟩, ⟨run0, .mc, (run0).dev, Dev.reaches_internal _ _ _ rfl (by
    decide +kernel), by decide +kernel⟩, ⟨stg (fun d => d), .mc, 7, (stg (fun d => d)).dev,
    Dev.reaches_internal _ _ _ rfl (by decide +kernel), by decide +kernel⟩, ⟨st (fun d => d.put
    F.GV_LM_SEL_MASK 3), .mc, 77, (st (fun d => d.put F.GV_LM_SEL_MASK 3)).dev, Dev.reaches_internal _ _
    _ rfl (by decide +kernel), by decide +kernel⟩, ⟨run0, 2, by decide +kernel⟩⟩

theorem witness_RotatingSelfTest :
    (∃ (s : State), s.dev.get F.GV_ROT_STAT_PHASE = 1 ∧ (∀ k : Fin 8, (s.dev.thr (8 * s.dev.get
      F.GV_ROT_STAT_RESTING + k)).inst = none)) ∧
    (∃ (s : State) (e : Nat), s.dev.get F.GV_ROT_STAT_PHASE = 2 ∧ s.dev.get F.GV_ROT_STAT_RESTING = e) ∧
    (∃ (s : State) (e : Fin 16), s.dev.get F.GV_ROT_STAT_PHASE = 2 ∧ s.dev.get F.GV_ROT_STAT_RESTING =
      e) ∧
    (∃ (s : State) (i : Init) (e : Fin 16) (d : Dev), s.dev.reaches i (R.GV_ROT_CMD) = some d ∧
      d.lockedWrite (R.GV_ROT_CMD) (cmdWord [(F.GV_ROT_CMD_GO, 1), (F.GV_ROT_CMD_ENGINE, e)]) = false ∧
      d.healthy e = true ∧ d.mode ≠ 8) ∧
    (∃ (s : State) (i : Init) (e : Fin 16) (d : Dev), s.dev.reaches i (R.GV_ROT_CMD) = some d ∧
      d.lockedWrite (R.GV_ROT_CMD) (cmdWord [(F.GV_ROT_CMD_GO, 1), (F.GV_ROT_CMD_ENGINE, e)]) = false ∧
      (d.healthy e = false ∨ d.mode = 8)) ∧
    (∃ (s : State) (pass : Bool), s.dev.get F.GV_ROT_STAT_PHASE ≠ 2) ∧
    (∃ (s : State) (k : Fin 8), (s.dev.get F.GV_ROT_STAT_PHASE ≠ 1 ∨ (s.dev.thr (8 * s.dev.get
      F.GV_ROT_STAT_RESTING + k)).inst.isSome = true)) :=
  ⟨⟨stg (fun d => d.put F.GV_ROT_STAT_PHASE 1), by decide +kernel⟩, ⟨stg (fun d => d.put
    F.GV_ROT_STAT_PHASE 2), 0, by decide +kernel⟩, ⟨stg (fun d => d.put F.GV_ROT_STAT_PHASE 2), 0, by
    decide +kernel⟩, ⟨run0, .mc, 3, (run0).dev, Dev.reaches_internal _ _ _ rfl (by decide +kernel), by
    decide +kernel⟩, ⟨st (fun d => d.put F.GV_ENG_STAT_RETIRED 8), .mc, 3, (st (fun d => d.put
    F.GV_ENG_STAT_RETIRED 8)).dev, Dev.reaches_internal _ _ _ rfl (by decide +kernel), by
    decide +kernel⟩, ⟨run0, true, by decide +kernel⟩, ⟨run0, 3, by decide +kernel⟩⟩

theorem witness_CanReception :
    (∃ (s : State) (n : Fin 64) (f : CanFrame) (ago : Nat) (d0 e d1 : Dev) (rs : List TapRes) (act flt :
      Nat) (q : Fin 3), s.dev.canHears n = true ∧ s.dev.fmtEnabled n f.fmt = true ∧ (s.dev.ringNode n
      f).elim (s.dev.chanActivity n) (fun r => s.dev.ringRx r f.data) = d0 ∧ d0.canHears n = true ∧
      d0.fmtEnabled n f.fmt = true ∧ d0.recReceived n = e ∧ e.tapHead (32 + n) false 2048 = (d1, rs) ∧
      d1.canFilter n f = (act, flt) ∧ act ≠ 3 ∧ q = (if act = 1 then 0 else 1) ∧ d1.rxRoom n q
      (elemBlocks (storedData f).length) = true ∧ d1.authVerify n f (storedData f) = .plain) ∧
    (∃ (s : State) (n : Fin 64) (f : CanFrame) (ago : Nat) (d0 e d1 : Dev) (rs : List TapRes) (flt :
      Nat), s.dev.canHears n = true ∧ s.dev.fmtEnabled n f.fmt = true ∧ (s.dev.ringNode n f).elim
      (s.dev.chanActivity n) (fun r => s.dev.ringRx r f.data) = d0 ∧ d0.canHears n = true ∧
      d0.fmtEnabled n f.fmt = true ∧ d0.recReceived n = e ∧ e.tapHead (32 + n) false 2048 = (d1, rs) ∧
      d1.canFilter n f = (3, flt)) ∧
    (∃ (s : State) (n : Fin 64) (f : CanFrame) (ago : Nat) (d0 e d1 : Dev) (rs : List TapRes) (act flt :
      Nat) (q : Fin 3), s.dev.canHears n = true ∧ s.dev.fmtEnabled n f.fmt = true ∧ (s.dev.ringNode n
      f).elim (s.dev.chanActivity n) (fun r => s.dev.ringRx r f.data) = d0 ∧ d0.canHears n = true ∧
      d0.fmtEnabled n f.fmt = true ∧ d0.recReceived n = e ∧ e.tapHead (32 + n) false 2048 = (d1, rs) ∧
      d1.canFilter n f = (act, flt) ∧ act ≠ 3 ∧ q = (if act = 1 then 0 else 1) ∧ d1.rxRoom n q
      (elemBlocks (storedData f).length) = false) ∧
    (∃ (s : State) (n : Fin 64) (f : CanFrame) (ago : Nat) (d0 e d1 : Dev) (rs : List TapRes) (act flt k
      fresh : Nat) (q : Fin 3), s.dev.canHears n = true ∧ s.dev.fmtEnabled n f.fmt = true ∧
      (s.dev.ringNode n f).elim (s.dev.chanActivity n) (fun r => s.dev.ringRx r f.data) = d0 ∧
      d0.canHears n = true ∧ d0.fmtEnabled n f.fmt = true ∧ d0.recReceived n = e ∧ e.tapHead (32 + n)
      false 2048 = (d1, rs) ∧ d1.canFilter n f = (act, flt) ∧ act ≠ 3 ∧ q = (if act = 1 then 0 else 1) ∧
      d1.rxRoom n q (elemBlocks (storedData f).length) = true ∧ d1.authVerify n f (storedData f) = .pass
      k fresh) ∧
    (∃ (s : State) (n : Fin 64) (f : CanFrame) (ago : Nat) (d0 e d1 : Dev) (rs : List TapRes) (act flt k
      : Nat) (q : Fin 3), s.dev.canHears n = true ∧ s.dev.fmtEnabled n f.fmt = true ∧ (s.dev.ringNode n
      f).elim (s.dev.chanActivity n) (fun r => s.dev.ringRx r f.data) = d0 ∧ d0.canHears n = true ∧
      d0.fmtEnabled n f.fmt = true ∧ d0.recReceived n = e ∧ e.tapHead (32 + n) false 2048 = (d1, rs) ∧
      d1.canFilter n f = (act, flt) ∧ act ≠ 3 ∧ q = (if act = 1 then 0 else 1) ∧ d1.rxRoom n q
      (elemBlocks (storedData f).length) = true ∧ d1.authVerify n f (storedData f) = .fail k) ∧
    (∃ (s : State) (n : Fin 64) (f : CanFrame) (ago : Nat) (d0 e d1 : Dev) (rs : List TapRes) (act flt :
      Nat) (q : Fin 3), s.dev.canHears n = true ∧ s.dev.fmtEnabled n f.fmt = true ∧ (s.dev.ringNode n
      f).elim (s.dev.chanActivity n) (fun r => s.dev.ringRx r f.data) = d0 ∧ d0.canHears n = true ∧
      d0.fmtEnabled n f.fmt = true ∧ d0.recReceived n = e ∧ e.tapHead (32 + n) false 2048 = (d1, rs) ∧
      d1.canFilter n f = (act, flt) ∧ act ≠ 3 ∧ q = (if act = 1 then 0 else 1) ∧ d1.rxRoom n q
      (elemBlocks (storedData f).length) = true ∧ d1.authVerify n f (storedData f) = .noKey) ∧
    (∃ (s : State) (n : Fin 64) (f : CanFrame) (ago : Nat), s.dev.canHears n = true ∧ s.dev.fmtEnabled n
      f.fmt = false ∧ s.dev.flag (F.CAN_MODE_PXE n) = true) ∧
    (∃ (s : State) (n : Fin 64) (f : CanFrame) (ago : Nat), s.dev.canHears n = true ∧ s.dev.fmtEnabled n
      f.fmt = false ∧ s.dev.flag (F.CAN_MODE_PXE n) = false) ∧
    (∃ (s : State) (n : Fin 64) (f : CanFrame) (ago : Nat), s.dev.canHears n = false) ∧
    (∃ (s : State) (n : Fin 64), s.dev.enabled (.can n) = true ∧ s.dev.get (F.CAN_ERR_STATE n) = 3) ∧
    (∃ (s : State) (n : Fin 64), (s.dev.enabled (.can n) = false ∨ s.dev.get (F.CAN_ERR_STATE n) ≠ 3))
      :=
  ⟨⟨stc (fun d => d), 3, frame0, 4, ((stc (fun d => d) : State).dev.ringNode (3 : Fin 64) (frame0 :
    CanFrame)).elim ((stc (fun d => d) : State).dev.chanActivity (3 : Fin 64)) (fun r => (stc (fun d =>
    d) : State).dev.ringRx r (frame0 : CanFrame).data), (((stc (fun d => d) : State).dev.ringNode (3 :
    Fin 64) (frame0 : CanFrame)).elim ((stc (fun d => d) : State).dev.chanActivity (3 : Fin 64)) (fun r
    => (stc (fun d => d) : State).dev.ringRx r (frame0 : CanFrame).data) : Dev).recReceived (3 : Fin
    64), _, _, 1, 0x7F, 0, fuse2 (by decide +kernel) ⟨rfl, fuse2 (by decide +kernel) ⟨rfl, tuple2 _, by
    decide +kernel⟩⟩⟩, ⟨stc (fun d => d.put (F.CAN_MR_FILT_NOMATCH 3) 3), 3, frame0, 4, ((stc (fun d =>
    d.put (F.CAN_MR_FILT_NOMATCH 3) 3) : State).dev.ringNode (3 : Fin 64) (frame0 : CanFrame)).elim
    ((stc (fun d => d.put (F.CAN_MR_FILT_NOMATCH 3) 3) : State).dev.chanActivity (3 : Fin 64)) (fun r =>
    (stc (fun d => d.put (F.CAN_MR_FILT_NOMATCH 3) 3) : State).dev.ringRx r (frame0 : CanFrame).data),
    (((stc (fun d => d.put (F.CAN_MR_FILT_NOMATCH 3) 3) : State).dev.ringNode (3 : Fin 64) (frame0 :
    CanFrame)).elim ((stc (fun d => d.put (F.CAN_MR_FILT_NOMATCH 3) 3) : State).dev.chanActivity (3 :
    Fin 64)) (fun r => (stc (fun d => d.put (F.CAN_MR_FILT_NOMATCH 3) 3) : State).dev.ringRx r (frame0 :
    CanFrame).data) : Dev).recReceived (3 : Fin 64), _, _, 0x7F, fuse2 (by decide +kernel) ⟨rfl, fuse2
    (by decide +kernel) ⟨rfl, tuple2 _, by decide +kernel⟩⟩⟩, ⟨stc (fun d => d.put (F.CAN_MR_RX0_BLOCKS
    3) 0), 3, frame0, 4, ((stc (fun d => d.put (F.CAN_MR_RX0_BLOCKS 3) 0) : State).dev.ringNode (3 : Fin
    64) (frame0 : CanFrame)).elim ((stc (fun d => d.put (F.CAN_MR_RX0_BLOCKS 3) 0) :
    State).dev.chanActivity (3 : Fin 64)) (fun r => (stc (fun d => d.put (F.CAN_MR_RX0_BLOCKS 3) 0) :
    State).dev.ringRx r (frame0 : CanFrame).data), (((stc (fun d => d.put (F.CAN_MR_RX0_BLOCKS 3) 0) :
    State).dev.ringNode (3 : Fin 64) (frame0 : CanFrame)).elim ((stc (fun d => d.put
    (F.CAN_MR_RX0_BLOCKS 3) 0) : State).dev.chanActivity (3 : Fin 64)) (fun r => (stc (fun d => d.put
    (F.CAN_MR_RX0_BLOCKS 3) 0) : State).dev.ringRx r (frame0 : CanFrame).data) : Dev).recReceived (3 :
    Fin 64), _, _, 1, 0x7F, 0, fuse2 (by decide +kernel) ⟨rfl, fuse2 (by decide +kernel) ⟨rfl, tuple2 _,
    by decide +kernel⟩⟩⟩, ⟨stc (fun d => authDev d 0x01000000), 3, frame0, 4, ((stc (fun d => authDev d
    0x01000000) : State).dev.ringNode (3 : Fin 64) (frame0 : CanFrame)).elim ((stc (fun d => authDev d
    0x01000000) : State).dev.chanActivity (3 : Fin 64)) (fun r => (stc (fun d => authDev d 0x01000000) :
    State).dev.ringRx r (frame0 : CanFrame).data), (((stc (fun d => authDev d 0x01000000) :
    State).dev.ringNode (3 : Fin 64) (frame0 : CanFrame)).elim ((stc (fun d => authDev d 0x01000000) :
    State).dev.chanActivity (3 : Fin 64)) (fun r => (stc (fun d => authDev d 0x01000000) :
    State).dev.ringRx r (frame0 : CanFrame).data) : Dev).recReceived (3 : Fin 64), _, _, 1, 0x7F, 0, 8,
    0, fuse2 (by decide +kernel) ⟨rfl, fuse2 (by decide +kernel) ⟨rfl, tuple2 _, by decide +kernel⟩⟩⟩,
    ⟨stc (fun d => authDev d 0x01080000), 3, frame0, 4, ((stc (fun d => authDev d 0x01080000) :
    State).dev.ringNode (3 : Fin 64) (frame0 : CanFrame)).elim ((stc (fun d => authDev d 0x01080000) :
    State).dev.chanActivity (3 : Fin 64)) (fun r => (stc (fun d => authDev d 0x01080000) :
    State).dev.ringRx r (frame0 : CanFrame).data), (((stc (fun d => authDev d 0x01080000) :
    State).dev.ringNode (3 : Fin 64) (frame0 : CanFrame)).elim ((stc (fun d => authDev d 0x01080000) :
    State).dev.chanActivity (3 : Fin 64)) (fun r => (stc (fun d => authDev d 0x01080000) :
    State).dev.ringRx r (frame0 : CanFrame).data) : Dev).recReceived (3 : Fin 64), _, _, 1, 0x7F, 0, 0,
    fuse2 (by decide +kernel) ⟨rfl, fuse2 (by decide +kernel) ⟨rfl, tuple2 _, by decide +kernel⟩⟩⟩, ⟨stc
    (fun d => authDev d 0x01000001), 3, frame0, 4, ((stc (fun d => authDev d 0x01000001) :
    State).dev.ringNode (3 : Fin 64) (frame0 : CanFrame)).elim ((stc (fun d => authDev d 0x01000001) :
    State).dev.chanActivity (3 : Fin 64)) (fun r => (stc (fun d => authDev d 0x01000001) :
    State).dev.ringRx r (frame0 : CanFrame).data), (((stc (fun d => authDev d 0x01000001) :
    State).dev.ringNode (3 : Fin 64) (frame0 : CanFrame)).elim ((stc (fun d => authDev d 0x01000001) :
    State).dev.chanActivity (3 : Fin 64)) (fun r => (stc (fun d => authDev d 0x01000001) :
    State).dev.ringRx r (frame0 : CanFrame).data) : Dev).recReceived (3 : Fin 64), _, _, 1, 0x7F, 0,
    fuse2 (by decide +kernel) ⟨rfl, fuse2 (by decide +kernel) ⟨rfl, tuple2 _, by decide +kernel⟩⟩⟩, ⟨stc
    (fun d => d), 3, { frame0 with fmt := 1 }, 4, by decide +kernel⟩, ⟨stc (fun d => d.put
    (F.CAN_MODE_PXE 3) 0), 3, { frame0 with fmt := 1 }, 4, by decide +kernel⟩, ⟨stc (fun d => d.setGroup
    0 2), 3, frame0, 4, by decide +kernel⟩, ⟨stc (fun d => d.put (F.CAN_ERR_STATE 3) 3), 3, by
    decide +kernel⟩, ⟨stc (fun d => d), 3, by decide +kernel⟩⟩

theorem witness_CanTransmission :
    (∃ (s : State) (n : Fin 64) (ago : Nat) (it : FsItem), s.dev.ringSending n ago = none ∧
      s.dev.txEligible n = true ∧ (s.dev.chanSt n).tx = [it] ∧ it.block < 32 ∧ s.dev.canLoops n = false
      ∧ s.dev.get (F.CAN_CNT_COUNT n 1) < 2 ^ 32 - 1) ∧
    (∃ (s : State) (n : Fin 64) (ago : Nat) (it : FsItem) (t : List FsItem), s.dev.ringSending n ago =
      none ∧ s.dev.txEligible n = true ∧ (s.dev.chanSt n).tx = it :: t ∧ 2 ≤ s.dev.get (F.CAN_MODE_TEST
      n)) ∧
    (∃ (s : State) (n : Fin 64) (ago : Nat) (how : CanEnd) (h : TxHead), s.dev.ringSending n ago = none
      ∧ s.dev.txEligible n = true ∧ (s.dev.chanSt n).head = some h ∧ how ≠ .sent ∧ h.flushed = false ∧
      s.dev.flag (F.CAN_MODE_DAR n) = false) ∧
    (∃ (s : State) (n : Fin 64) (ago : Nat) (how : CanEnd) (h : TxHead), s.dev.ringSending n ago = none
      ∧ s.dev.txEligible n = true ∧ (s.dev.chanSt n).head = some h ∧ how ≠ .sent ∧ h.flushed = false ∧
      s.dev.flag (F.CAN_MODE_DAR n) = true) ∧
    (∃ (s : State) (n : Fin 64) (ago : Nat) (how : CanEnd) (h : TxHead), s.dev.ringSending n ago = none
      ∧ s.dev.txEligible n = true ∧ (s.dev.chanSt n).head = some h ∧ how ≠ .sent ∧ h.flushed = true) ∧
    (∃ (s : State) (n : Fin 64) (ago : Nat) (how : CanEnd), s.dev.ringSending n ago = none ∧
      s.dev.txEligible n = false) ∧
    (∃ (s : State) (n : Fin 64) (ago : Nat) (m : RingMsg), s.dev.ringSending n ago = some m) ∧
    (∃ (s : State) (n : Fin 64) (ago : Nat) (how : CanEnd) (m : RingMsg), s.dev.ringSending n ago = some
      m ∧ how ≠ .sent) ∧
    (∃ (s : State) (n : Fin 64) (h : TxHead) (t : Nat), (s.dev.chanSt n).head = some h ∧ h.macAt = some
      t ∧ t ≤ s.dev.baseNs ∧ (h.timed = false ∨ h.released = false)) ∧
    (∃ (s : State) (n : Fin 64) (h : TxHead) (t : Nat), (s.dev.chanSt n).head = some h ∧ h.macAt = some
      t ∧ t ≤ s.dev.baseNs ∧ h.timed = true ∧ h.released = true) ∧
    (∃ (s : State) (n : Fin 64), ((s.dev.chanSt n).head.bind TxHead.macAt).all (fun t => decide
      (s.dev.baseNs < t)) = true) ∧
    (∃ (s : State) (n : Fin 64) (h : TxHead), (s.dev.chanSt n).head = some h ∧ h.timed = true ∧
      s.dev.get (F.CAN_TIMED_WAIT_US n) ≠ 0 ∧ s.dev.chanDrives n = true ∧ h.landed + s.dev.get
      (F.CAN_TIMED_WAIT_US n) * 1000 ≤ s.dev.baseNs) ∧
    (∃ (s : State) (n : Fin 64), (s.dev.chanSt n).head.all (fun h => !h.timed || s.dev.get
      (F.CAN_TIMED_WAIT_US n) == 0 || !s.dev.chanDrives n || decide (s.dev.baseNs < h.landed + s.dev.get
      (F.CAN_TIMED_WAIT_US n) * 1000)) = true) :=
  ⟨⟨stc (fun d => txHead d head0), 3, 4, item0, by decide +kernel⟩, ⟨stc (fun d => (txHead d head0).put
    (F.CAN_MODE_TEST 3) 2), 3, 4, item0, [], by decide +kernel⟩, ⟨stc (fun d => txHead d head0), 3, 4,
    .lost, head0, by decide +kernel⟩, ⟨stc (fun d => (txHead d head0).put (F.CAN_MODE_DAR 3) 1), 3, 4,
    .error, head0, by decide +kernel⟩, ⟨stc (fun d => txHead d { head0 with
      flushed := true }), 3, 4, .lost, { head0 with
      flushed := true }, by decide +kernel⟩, ⟨stc (fun d => d), 3, 4, .sent, by decide +kernel⟩, ⟨stc
    (fun d => ringBuf d), 3, 4, ring0, by decide +kernel⟩, ⟨stc (fun d => ringBuf d), 3, 4, .lost,
    ring0, by decide +kernel⟩, ⟨stc (fun d => txHead d { head0 with
      macAt := some 7 }), 3, { head0 with macAt := some 7 }, 7, by decide +kernel⟩, ⟨stc (fun d =>
    txHead d { head0 with macAt := some 7, timed := true, released := true }), 3, { head0 with
      macAt := some 7, timed := true, released := true }, 7, by decide +kernel⟩, ⟨stc (fun d => txHead d
    head0), 3, by decide +kernel⟩, ⟨stc (fun d => (txHead d { head0 with
      timed := true }).put (F.CAN_TIMED_WAIT_US 3) 1), 3, { head0 with
      timed := true }, by decide +kernel⟩, ⟨stc (fun d => txHead d { head0 with
      timed := true }), 3, by decide +kernel⟩⟩

theorem witness_CanErrorsAndRecovery :
    (∃ (s : State) (n : Fin 64) (code : Fin 6), s.dev.canActive n = true ∧ s.dev.get (F.CAN_MODE_TEST n)
      ≠ 1 ∧ s.dev.flag (F.CAN_MODE_RESTRICTED n) = false ∧ s.dev.get (F.CAN_ERR_TEC n) + 8 ≤ 255 ∧
      s.dev.get (F.CAN_CNT_COUNT n 2) < 2 ^ 32 - 1) ∧
    (∃ (s : State) (n : Fin 64) (code : Fin 6) (kind : CanErrKind), s.dev.canActive n = true ∧ s.dev.get
      (F.CAN_MODE_TEST n) ≠ 1 ∧ s.dev.flag (F.CAN_MODE_RESTRICTED n) = false ∧ s.dev.get (F.CAN_ERR_TEC
      n) ≤ 255 ∧ (kind = .rx1 ∨ kind = .rx8)) ∧
    (∃ (s : State) (n : Fin 64) (code : Fin 6), s.dev.canActive n = true ∧ s.dev.get (F.CAN_MODE_TEST n)
      ≠ 1 ∧ s.dev.flag (F.CAN_MODE_RESTRICTED n) = false ∧ 255 < s.dev.get (F.CAN_ERR_TEC n) + 8 ∧
      s.dev.flag (F.CAN_MODE_DAR n) = false ∧ (s.dev.chanSt n).head.all (fun h => !h.flushed) = true ∧
      s.dev.get (F.CAN_CNT_COUNT n 3) < 2 ^ 32 - 1) ∧
    (∃ (s : State) (n : Fin 64) (code : Fin 6) (it : FsItem), s.dev.canActive n = true ∧ s.dev.get
      (F.CAN_MODE_TEST n) ≠ 1 ∧ s.dev.flag (F.CAN_MODE_RESTRICTED n) = false ∧ 255 < s.dev.get
      (F.CAN_ERR_TEC n) + 8 ∧ s.dev.flag (F.CAN_MODE_DAR n) = true ∧ (s.dev.chanSt n).head.any (fun h =>
      !h.flushed) = true ∧ (s.dev.chanSt n).tx = [it] ∧ s.dev.get (F.CAN_CNT_COUNT n 9) < 2 ^ 32 - 1) ∧
    (∃ (s : State) (n : Fin 64) (code : Fin 6) (kind : CanErrKind) (xl : Bool), s.dev.canActive n = true
      ∧ s.dev.get (F.CAN_MODE_TEST n) ≠ 1 ∧ (s.dev.flag (F.CAN_MODE_RESTRICTED n) = true ∨ (xl = true ∧
      s.dev.flag (F.CAN_MODE_TMS_EN n) = true)) ∧ s.dev.flag (F.CAN_MODE_DAR n) = false ∧ (s.dev.chanSt
      n).head.all (fun h => !h.flushed) = true) ∧
    (∃ (s : State) (n : Fin 64) (code : Fin 6) (kind : CanErrKind) (xl : Bool) (it : FsItem),
      s.dev.txEligible n = true ∧ s.dev.get (F.CAN_MODE_TEST n) ≠ 1 ∧ (s.dev.flag (F.CAN_MODE_RESTRICTED
      n) = true ∨ (xl = true ∧ s.dev.flag (F.CAN_MODE_TMS_EN n) = true)) ∧ s.dev.flag (F.CAN_MODE_DAR n)
      = true ∧ (kind = .tx8 ∨ kind = .txNone) ∧ (s.dev.chanSt n).tx = [it]) ∧
    (∃ (s : State) (n : Fin 64) (code : Fin 6) (kind : CanErrKind) (xl : Bool), s.dev.canActive n = true
      ∧ s.dev.get (F.CAN_MODE_TEST n) = 1) ∧
    (∃ (s : State) (n : Fin 64) (code : Fin 6) (kind : CanErrKind) (xl : Bool), s.dev.canActive n =
      false) ∧
    (∃ (s : State) (i : Init) (n : Fin 64) (d : Dev), s.dev.reaches i (R.CAN_CMD n) = some d ∧
      d.lockedWrite (R.CAN_CMD n) (1) = false ∧ d.get (F.CAN_ERR_STATE n) = 2 ∧ d.flag
      (F.CAN_MODE_AUTO_RECOVER n) = false) ∧
    (∃ (s : State) (i : Init) (n : Fin 64) (d : Dev), s.dev.reaches i (R.CAN_CMD n) = some d ∧
      d.lockedWrite (R.CAN_CMD n) (1) = false ∧ (d.get (F.CAN_ERR_STATE n) ≠ 2 ∨ d.flag
      (F.CAN_MODE_AUTO_RECOVER n) = true)) ∧
    (∃ (s : State) (n : Fin 64), s.dev.get (F.CAN_ERR_STATE n) = 2 ∧ (s.dev.chanSt n).recovering = true)
      ∧
    (∃ (s : State) (n : Fin 64), (s.dev.get (F.CAN_ERR_STATE n) ≠ 2 ∨ (s.dev.chanSt n).recovering =
      false)) ∧
    (∃ (s : State) (i : Init) (n : Fin 64) (w : Fin 512) (v : Word) (d : Dev), s.dev.reaches i (pageBase
      (.can n) + 0x800 + 4 * w) = some d ∧ d.lockedWrite (pageBase (.can n) + 0x800 + 4 * w) (v) = false
      ∧ d.windowClosed n (d.get (F.CAN_MR_BANK_BANK n) * 2048 + 4 * w) = false) ∧
    (∃ (s : State) (i : Init) (n : Fin 64) (w : Fin 512) (v : Word) (d : Dev), s.dev.reaches i (pageBase
      (.can n) + 0x800 + 4 * w) = some d ∧ d.lockedWrite (pageBase (.can n) + 0x800 + 4 * w) (v) = false
      ∧ d.windowClosed n (d.get (F.CAN_MR_BANK_BANK n) * 2048 + 4 * w) = true) :=
  ⟨⟨stc (fun d => d.put (F.CAN_ERR_TEC 3) 125), 3, 2, by decide +kernel⟩, ⟨stc (fun d => d.put
    (F.CAN_ERR_REC 3) 125), 3, 2, .rx8, by decide +kernel⟩, ⟨stc (fun d => d.put (F.CAN_ERR_TEC 3) 250),
    3, 2, by decide +kernel⟩, ⟨stc (fun d => ((txHead d head0).put (F.CAN_MODE_DAR 3) 1).put
    (F.CAN_ERR_TEC 3) 250), 3, 2, item0, by decide +kernel⟩, ⟨stc (fun d => d.put (F.CAN_MODE_RESTRICTED
    3) 1), 3, 2, .rx1, false, by decide +kernel⟩, ⟨stc (fun d => ((txHead d head0).put (F.CAN_MODE_DAR
    3) 1).put (F.CAN_MODE_RESTRICTED 3) 1), 3, 2, .tx8, false, item0, by decide +kernel⟩, ⟨stc (fun d =>
    d.put (F.CAN_MODE_TEST 3) 1), 3, 2, .rx1, false, by decide +kernel⟩, ⟨stc (fun d => d.put
    (F.CAN_ERR_STATE 3) 2), 3, 2, .rx1, false, by decide +kernel⟩, ⟨stc (fun d => (d.put
    (F.CAN_ERR_STATE 3) 2).put (F.CAN_MODE_AUTO_RECOVER 3) 0), .mc, 3, (stc (fun d => (d.put
    (F.CAN_ERR_STATE 3) 2).put (F.CAN_MODE_AUTO_RECOVER 3) 0)).dev, Dev.reaches_internal _ _ _ rfl (by
    decide +kernel), by decide +kernel⟩, ⟨stc (fun d => d), .mc, 3, (stc (fun d => d)).dev,
    Dev.reaches_internal _ _ _ rfl (by decide +kernel), by decide +kernel⟩, ⟨stc (fun d => ((d.put
    (F.CAN_ERR_STATE 3) 2).put (F.CAN_ERR_TEC 3) 256).modChan 3 (fun c => { c with
      recovering := true })), 3, by decide +kernel⟩, ⟨stc (fun d => d), 3, by decide +kernel⟩, ⟨stc (fun
    d => d.put (F.CAN_MR_BANK_BANK 3) 3), .mc, 3, 500, 0x12345678, (stc (fun d => d.put
    (F.CAN_MR_BANK_BANK 3) 3)).dev, Dev.reaches_internal _ _ _ rfl (by decide +kernel), by
    decide +kernel⟩, ⟨stc (fun d => d), .mc, 3, 5, 0x12345678, (stc (fun d => d)).dev,
    Dev.reaches_internal _ _ _ rfl (by decide +kernel), by decide +kernel⟩⟩

theorem witness_FlowstoneCommands :
    (∃ (s : State) (c : Fin 80) (f : Fin 3), f ≠ 2 ∧ s.dev.get (F.FS_STAT_FILL c f) < (s.dev.fsItems c
      f).length ∧ (s.dev.fsItems c f).length ≤ 32) ∧
    (∃ (s : State) (c : Fin 80) (t : List FsItem), s.dev.get (F.FS_STAT_FILL c 2) < (s.dev.fsItems c
      2).length ∧ (s.dev.chanSt c).tx.modify (s.dev.get (F.FS_STAT_FILL c 2)) (fun it => { it with
        landed := s.dev.baseNs }) = t) ∧
    (∃ (s : State) (k : Fin 2), s.dev.get (F.LQ_STAT_FILL k) < (tget s.dev.learnq k).length ∧ (tget
      s.dev.learnq k).length ≤ 32) ∧
    (∃ (s : State) (q : FifoId), s.dev.fsCount q ≤ s.dev.get (fsFill q)) ∧
    (∃ (s : State) (i : Init) (c : Fin 80) (f : Fin 3) (d : Dev), s.dev.reaches i (R.FS_CMD c f) = some
      d ∧ fifoReserved c f = false ∧ f ≠ 2 ∧ fsOwnerIs (d.get (F.FS_CFG_OWNER c f)) i = true) ∧
    (∃ (s : State) (i : Init) (c : Fin 80) (f : Fin 3) (d : Dev), s.dev.reaches i (R.FS_CMD c f) = some
      d ∧ fifoReserved c f = false ∧ f ≠ 2 ∧ fsOwnerIs (d.get (F.FS_CFG_OWNER c f)) i = true) ∧
    (∃ (s : State) (i : Init) (c : Fin 80) (f : Fin 3) (d : Dev), s.dev.reaches i (R.FS_CMD c f) = some
      d ∧ fifoReserved c f = false ∧ f ≠ 2 ∧ fsOwnerIs (d.get (F.FS_CFG_OWNER c f)) i = true) ∧
    (∃ (s : State) (i : Init) (c : Fin 80) (f : Fin 3) (count : Fin 64) (d : Dev), s.dev.reaches i
      (R.FS_CMD c f) = some d ∧ fifoReserved c f = false ∧ f ≠ 2 ∧ fsOwnerIs (d.get (F.FS_CFG_OWNER c
      f)) i = true ∧ count ≠ 0 ∧ count ≤ 32 ∧ count ≤ d.get (F.FS_STAT_RPOS c f)) ∧
    (∃ (s : State) (i : Init) (c : Fin 80) (f : Fin 3) (count : Fin 64) (d : Dev), s.dev.reaches i
      (R.FS_CMD c f) = some d ∧ fifoReserved c f = false ∧ f ≠ 2 ∧ fsOwnerIs (d.get (F.FS_CFG_OWNER c
      f)) i = true ∧ (count = 0 ∨ 32 < count.val ∨ d.get (F.FS_STAT_RPOS c f) < count)) ∧
    (∃ (s : State) (i : Init) (c : Fin 80) (f : Fin 3) (d : Dev), s.dev.reaches i (R.FS_CMD c f) = some
      d ∧ fifoReserved c f = false ∧ f ≠ 2 ∧ fsOwnerIs (d.get (F.FS_CFG_OWNER c f)) i = true) ∧
    (∃ (s : State) (i : Init) (c : Fin 80) (slot : Fin 64) (d : Dev), s.dev.reaches i (R.FS_CMD c 2) =
      some d ∧ fsOwnerIs (d.get (F.FS_CFG_OWNER c 2)) i = true ∧ d.flag (F.FS_CFG_EN c 2) = true ∧
      d.anySlotFree c (slot % 32) = true ∧ (d.chanSt c).tx.length < 32) ∧
    (∃ (s : State) (i : Init) (c : Fin 80) (slot : Fin 64) (d : Dev), s.dev.reaches i (R.FS_CMD c 2) =
      some d ∧ fsOwnerIs (d.get (F.FS_CFG_OWNER c 2)) i = true ∧ d.flag (F.FS_CFG_EN c 2) = true ∧ 32 ≤
      (d.chanSt c).tx.length) ∧
    (∃ (s : State) (i : Init) (c : Fin 80) (slot : Fin 64) (d : Dev), s.dev.reaches i (R.FS_CMD c 2) =
      some d ∧ fsOwnerIs (d.get (F.FS_CFG_OWNER c 2)) i = true ∧ ((d.anySlotFree c (slot % 32) = false ∧
      (d.chanSt c).tx.length < 32) ∨ d.flag (F.FS_CFG_EN c 2) = false)) ∧
    (∃ (s : State) (i : Init) (c : Fin 80) (d : Dev), s.dev.reaches i (R.FS_CMD c 2) = some d ∧
      fsOwnerIs (d.get (F.FS_CFG_OWNER c 2)) i = true ∧ c.val < 64) ∧
    (∃ (s : State) (i : Init) (c : Fin 80) (h : TxHead) (d : Dev), s.dev.reaches i (R.FS_CMD c 2) = some
      d ∧ fsOwnerIs (d.get (F.FS_CFG_OWNER c 2)) i = true ∧ c.val < 64 ∧ (d.chanSt c).head = some h ∧
      d.txEligible c = true) ∧
    (∃ (s : State) (i : Init) (c : Fin 80) (b : Bool) (d : Dev), s.dev.reaches i (R.FS_CMD c 2) = some d
      ∧ fsOwnerIs (d.get (F.FS_CFG_OWNER c 2)) i = true ∧ 64 ≤ c.val) ∧
    (∃ (s : State) (i : Init) (c : Fin 80) (f : Fin 3) (count : Fin 64) (d : Dev), s.dev.reaches i
      (R.FS_CMD c f) = some d ∧ fifoReserved c f = false ∧ f ≠ 2 ∧ fsOwnerIs (d.get (F.FS_CFG_OWNER c
      f)) i = false) ∧
    (∃ (s : State) (i : Init) (c : Fin 80) (slot : Fin 64) (b : Bool) (d : Dev), s.dev.reaches i
      (R.FS_CMD c 2) = some d ∧ fsOwnerIs (d.get (F.FS_CFG_OWNER c 2)) i = false) ∧
    (∃ (s : State) (i : Init) (c : Fin 80) (count : Fin 64) (d : Dev), s.dev.reaches i (R.FS_CMD c 2) =
      some d) ∧
    (∃ (s : State) (i : Init) (c : Fin 80) (f : Fin 3) (slot : Fin 64) (b : Bool) (d : Dev),
      s.dev.reaches i (R.FS_CMD c f) = some d ∧ fifoReserved c f = false ∧ f ≠ 2 ∧ fsOwnerIs (d.get
      (F.FS_CFG_OWNER c f)) i = true) ∧
    (∃ (s : State) (i : Init) (c : Fin 80) (count slot : Fin 64) (b : Bool) (d : Dev), s.dev.reaches i
      (R.FS_CMD c 1) = some d ∧ 64 ≤ c.val) :=
  ⟨⟨stc (fun d => (rxItems d).put (F.FS_STAT_FILL 3 0) 1), 3, 0, by decide +kernel⟩, ⟨stc (fun d =>
    d.modChan 3 (fun c => { c with tx := [item0] })), 3, [{ item0 with
      landed := 1000000 }], by decide +kernel⟩, ⟨stc (fun d => { d with
      learnq := [(1, [⟨1, 2, 3, 4⟩])] }), 1, by decide +kernel⟩, ⟨stc rxItems, .chan 3 0, by
    decide +kernel⟩, ⟨stc rxItems, .mc, 3, 0, (stc rxItems).dev, Dev.reaches_internal _ _ _ rfl (by
    decide +kernel), by decide +kernel⟩, ⟨stc (fun d => (rxItems d).put (F.FS_STAT_RPOS 3 0) 1), .mc, 3,
    0, (stc (fun d => (rxItems d).put (F.FS_STAT_RPOS 3 0) 1)).dev, Dev.reaches_internal _ _ _ rfl (by
    decide +kernel), by decide +kernel⟩, ⟨stc (fun d => ((rxItems d).put (F.FS_STAT_RPOS 3 0) 1).put
    (F.FS_STAT_MARK_VALID 3 0) 1), .mc, 3, 0, (stc (fun d => ((rxItems d).put (F.FS_STAT_RPOS 3 0)
    1).put (F.FS_STAT_MARK_VALID 3 0) 1)).dev, Dev.reaches_internal _ _ _ rfl (by decide +kernel), by
    decide +kernel⟩, ⟨stc (fun d => (rxItems d).put (F.FS_STAT_RPOS 3 0) 2), .mc, 3, 0, 1, (stc (fun d
    => (rxItems d).put (F.FS_STAT_RPOS 3 0) 2)).dev, Dev.reaches_internal _ _ _ rfl (by decide +kernel),
    by decide +kernel⟩, ⟨stc rxItems, .mc, 3, 0, 1, (stc rxItems).dev, Dev.reaches_internal _ _ _ rfl
    (by decide +kernel), by decide +kernel⟩, ⟨stc (fun d => (d.put (F.FS_CFG_NOTICE 3 0) 1).put
    (F.FS_NOTICE_PENDING 3 0) 2), .mc, 3, 0, (stc (fun d => (d.put (F.FS_CFG_NOTICE 3 0) 1).put
    (F.FS_NOTICE_PENDING 3 0) 2)).dev, Dev.reaches_internal _ _ _ rfl (by decide +kernel), by
    decide +kernel⟩, ⟨stc (fun d => d), .mc, 3, 1, (stc (fun d => d)).dev, Dev.reaches_internal _ _ _
    rfl (by decide +kernel), by decide +kernel⟩, ⟨stc (fun d => d.modChan 3 (fun c => { c with
      tx := List.replicate 32 item0 })), .mc, 3, 2, (stc (fun d => d.modChan 3 (fun c => { c with
      tx := List.replicate 32 item0 }))).dev, Dev.reaches_internal _ _ _ rfl (by decide +kernel), by
    decide +kernel⟩, ⟨stc (fun d => txHead d head0), .mc, 3, 1, (stc (fun d => txHead d head0)).dev,
    Dev.reaches_internal _ _ _ rfl (by decide +kernel), by decide +kernel⟩, ⟨stc (fun d => txHead d
    head0), .mc, 3, (stc (fun d => txHead d head0)).dev, Dev.reaches_internal _ _ _ rfl (by
    decide +kernel), by decide +kernel⟩, ⟨stc (fun d => txHead d head0), .mc, 3, head0, (stc (fun d =>
    txHead d head0)).dev, Dev.reaches_internal _ _ _ rfl (by decide +kernel), by decide +kernel⟩, ⟨stln
    (fun d => linTx d 0x205), .mc, 66, true, (stln (fun d => linTx d 0x205)).dev, Dev.reaches_internal _
    _ _ rfl (by decide +kernel), by decide +kernel⟩, ⟨stc rxItems, .gv 5, 3, 0, 1, (stc rxItems).dev,
    Dev.reaches_internal _ _ _ rfl (by decide +kernel), by decide +kernel⟩, ⟨stc rxItems, .gv 5, 3, 1,
    false, (stc rxItems).dev, Dev.reaches_internal _ _ _ rfl (by decide +kernel), by decide +kernel⟩,
    ⟨stc rxItems, .mc, 3, 1, (stc rxItems).dev, Dev.reaches_internal _ _ _ rfl (by decide +kernel)⟩,
    ⟨stc rxItems, .mc, 3, 0, 1, false, (stc rxItems).dev, Dev.reaches_internal _ _ _ rfl (by
    decide +kernel), by decide +kernel⟩, ⟨stln (fun d => d), .mc, 66, 1, 1, false, (stln (fun d =>
    d)).dev, Dev.reaches_internal _ _ _ rfl (by decide +kernel), by decide +kernel⟩⟩

theorem witness_LinCommands :
    (∃ (s : State) (n : Fin 16) (it : FsItem) (t : List FsItem) (ctrl : Nat), (s.dev.chanSt (64 + n)).tx
      = it :: t ∧ s.dev.linFrame n = none ∧ s.dev.get (F.FS_STAT_FILL (64 + n) 2) ≠ 0 ∧ s.dev.enabled
      (.lin n) = true ∧ s.dev.flag (F.FS_CFG_EN (64 + n) 2) = true ∧ s.dev.chanAwake (64 + n) = true ∧
      s.dev.ramNat (64 + n) (0x800 + 32 * it.block) 4 = ctrl ∧ bitsOf ctrl 12 2 = 0 ∧ s.dev.flag
      (F.LIN_MODE_MASTER n) = true) ∧
    (∃ (s : State) (n : Fin 16) (it : FsItem) (t : List FsItem) (ctrl : Nat), (s.dev.chanSt (64 + n)).tx
      = it :: t ∧ s.dev.linFrame n = none ∧ s.dev.get (F.FS_STAT_FILL (64 + n) 2) ≠ 0 ∧ s.dev.enabled
      (.lin n) = true ∧ s.dev.flag (F.FS_CFG_EN (64 + n) 2) = true ∧ s.dev.chanAwake (64 + n) = true ∧
      s.dev.ramNat (64 + n) (0x800 + 32 * it.block) 4 = ctrl ∧ bitsOf ctrl 12 2 = 1 ∧ s.dev.flag
      (F.LIN_MODE_MASTER n) = true) ∧
    (∃ (s : State) (n : Fin 16) (it : FsItem) (t : List FsItem) (ctrl : Nat), (s.dev.chanSt (64 + n)).tx
      = it :: t ∧ s.dev.linFrame n = none ∧ s.dev.get (F.FS_STAT_FILL (64 + n) 2) ≠ 0 ∧ s.dev.enabled
      (.lin n) = true ∧ s.dev.flag (F.FS_CFG_EN (64 + n) 2) = true ∧ s.dev.chanAwake (64 + n) = true ∧
      s.dev.ramNat (64 + n) (0x800 + 32 * it.block) 4 = ctrl ∧ bitsOf ctrl 12 2 = 3 ∧ bitsOf ctrl 14 2 ≠
      1 ∧ s.dev.flag (F.LIN_MODE_MASTER n) = true) ∧
    (∃ (s : State) (n : Fin 16) (it : FsItem) (t : List FsItem) (ctrl : Nat), (s.dev.chanSt (64 + n)).tx
      = it :: t ∧ s.dev.linFrame n = none ∧ s.dev.get (F.FS_STAT_FILL (64 + n) 2) ≠ 0 ∧ s.dev.enabled
      (.lin n) = true ∧ s.dev.flag (F.FS_CFG_EN (64 + n) 2) = true ∧ s.dev.chanAwake (64 + n) = true ∧
      s.dev.ramNat (64 + n) (0x800 + 32 * it.block) 4 = ctrl ∧ bitsOf ctrl 12 2 ≠ 2 ∧ s.dev.flag
      (F.LIN_MODE_MASTER n) = false) ∧
    (∃ (s : State) (n : Fin 16) (it : FsItem) (t : List FsItem) (ctrl : Nat), (s.dev.chanSt (64 + n)).tx
      = it :: t ∧ s.dev.linFrame n = none ∧ s.dev.get (F.FS_STAT_FILL (64 + n) 2) ≠ 0 ∧ s.dev.enabled
      (.lin n) = true ∧ s.dev.flag (F.FS_CFG_EN (64 + n) 2) = true ∧ s.dev.chanAwake (64 + n) = true ∧
      s.dev.ramNat (64 + n) (0x800 + 32 * it.block) 4 = ctrl ∧ bitsOf ctrl 12 2 = 2) ∧
    (∃ (s : State) (n : Fin 16) (it : FsItem) (t : List FsItem) (ctrl : Nat), (s.dev.chanSt (64 + n)).tx
      = it :: t ∧ s.dev.linFrame n = none ∧ s.dev.get (F.FS_STAT_FILL (64 + n) 2) ≠ 0 ∧ s.dev.enabled
      (.lin n) = true ∧ s.dev.flag (F.FS_CFG_EN (64 + n) 2) = true ∧ s.dev.chanAwake (64 + n) = true ∧
      s.dev.ramNat (64 + n) (0x800 + 32 * it.block) 4 = ctrl ∧ bitsOf ctrl 12 2 = 3 ∧ bitsOf ctrl 14 2 =
      1 ∧ s.dev.flag (F.LIN_MODE_MASTER n) = true) ∧
    (∃ (s : State) (n : Fin 16), ((s.dev.chanSt (64 + n)).tx = [] ∨ s.dev.linFrame n ≠ none ∨ s.dev.get
      (F.FS_STAT_FILL (64 + n) 2) = 0 ∨ s.dev.enabled (.lin n) = false ∨ s.dev.flag (F.FS_CFG_EN (64 +
      n) 2) = false ∨ s.dev.chanAwake (64 + n) = false)) ∧
    (∃ (s : State) (n : Fin 16) (pid : Byte) (ago : Nat), s.dev.linServed n = true ∧ s.dev.enabled (.lin
      n) = true ∧ s.dev.flag (F.LIN_MODE_MASTER n) = false ∧ pid.toNat = linPid (pid.toNat % 64) ∧
      s.dev.linPublished n (pid.toNat % 64) = none) ∧
    (∃ (s : State) (n : Fin 16) (pid : Byte) (ago : Nat) (bs : List Byte), s.dev.linServed n = true ∧
      s.dev.enabled (.lin n) = true ∧ s.dev.flag (F.LIN_MODE_MASTER n) = false ∧ pid.toNat = linPid
      (pid.toNat % 64) ∧ s.dev.linPublished n (pid.toNat % 64) = some bs) ∧
    (∃ (s : State) (n : Fin 16) (pid : Byte) (ago : Nat), s.dev.linServed n = true ∧ s.dev.enabled (.lin
      n) = true ∧ s.dev.flag (F.LIN_MODE_MASTER n) = false ∧ pid.toNat ≠ linPid (pid.toNat % 64)) ∧
    (∃ (s : State) (n : Fin 16) (pid : Byte) (ago : Nat), s.dev.linServed n = true ∧ s.dev.enabled (.lin
      n) = true ∧ s.dev.flag (F.LIN_MODE_MASTER n) = false) ∧
    (∃ (s : State) (n : Fin 16) (pid : Byte) (ago : Nat) (b : Bool), (s.dev.linServed n = false ∨
      s.dev.enabled (.lin n) = false ∨ s.dev.flag (F.LIN_MODE_MASTER n) = true)) ∧
    (∃ (s : State) (n : Fin 16) (r : LinResponse) (f : LinFrame), s.dev.linServed n = true ∧
      s.dev.linFrame n = some f ∧ f.own = true ∧ r.bitErr = false ∧ r.data = f.data) ∧
    (∃ (s : State) (n : Fin 16) (r : LinResponse) (f : LinFrame), s.dev.linServed n = true ∧
      s.dev.linFrame n = some f ∧ f.own = true ∧ (r.bitErr = true ∨ r.data ≠ f.data)) ∧
    (∃ (s : State) (n : Fin 16) (r : LinResponse) (f : LinFrame), s.dev.linServed n = true ∧
      s.dev.linFrame n = some f ∧ f.own = false ∧ s.dev.linGood n f r = true) ∧
    (∃ (s : State) (n : Fin 16) (r : LinResponse) (f : LinFrame), s.dev.linServed n = true ∧
      s.dev.linFrame n = some f ∧ f.own = false ∧ r.framing = true) ∧
    (∃ (s : State) (n : Fin 16) (r : LinResponse) (f : LinFrame), s.dev.linServed n = true ∧
      s.dev.linFrame n = some f ∧ f.own = false ∧ r.framing = false ∧ s.dev.linGood n f r = false) ∧
    (∃ (s : State) (n : Fin 16) (r : LinResponse), (s.dev.linServed n = false ∨ s.dev.linFrame n =
      none)) ∧
    (∃ (s : State) (n : Fin 16) (bytes : Nat) (f : LinFrame), s.dev.linFrame n = some f ∧ (s.dev.flag
      (F.LIN_MODE_MASTER n) = true ∨ f.own = true ∨ bytes ≠ 0)) ∧
    (∃ (s : State) (n : Fin 16) (f : LinFrame), s.dev.linFrame n = some f ∧ s.dev.flag
      (F.LIN_MODE_MASTER n) = false ∧ f.own = false) ∧
    (∃ (s : State) (n : Fin 16) (bytes : Nat), s.dev.linFrame n = none) ∧
    (∃ (s : State) (n : Fin 16), s.dev.linServed n = true ∧ s.dev.enabled (.lin n) = true ∧
      s.dev.linFrame n = none) ∧
    (∃ (s : State) (n : Fin 16), (s.dev.linServed n = false ∨ s.dev.enabled (.lin n) = false ∨
      s.dev.linFrame n ≠ none)) :=
  ⟨⟨stln (fun d => (linTx d 0x205).put (F.LIN_MODE_MASTER 2) 1), 2, item0, [], 0x205, by
    decide +kernel⟩, ⟨stln (fun d => (linTx d 0x1005).put (F.LIN_MODE_MASTER 2) 1), 2, item0, [],
    0x1005, by decide +kernel⟩, ⟨stln (fun d => (linTx d 0x3000).put (F.LIN_MODE_MASTER 2) 1), 2, item0,
    [], 0x3000, by decide +kernel⟩, ⟨stln (fun d => linTx d 0x205), 2, item0, [], 0x205, by
    decide +kernel⟩, ⟨stln (fun d => linTx d 0x2205), 2, item0, [], 0x2205, by decide +kernel⟩, ⟨stln
    (fun d => (linTx d 0x7000).put (F.LIN_MODE_MASTER 2) 1), 2, item0, [], 0x7000, by decide +kernel⟩,
    ⟨stln (fun d => d), 2, by decide +kernel⟩, ⟨stln (fun d => d), 2, 0x85, 4, by decide +kernel⟩, ⟨stln
    (fun d => d.ramWrite 66 (0xC00 + 80) (leBytes 4 0x80000200 ++ [7, 8])), 2, 0x85, 4, [7, 8], by
    decide +kernel⟩, ⟨stln (fun d => d), 2, 0x05, 4, by decide +kernel⟩, ⟨stln (fun d => d), 2, 0x85, 4,
    by decide +kernel⟩, ⟨stln (fun d => d.put (F.LIN_MODE_MASTER 2) 1), 2, 0x85, 4, true, by
    decide +kernel⟩, ⟨stln (fun d => d.setLinFrame 2 (some (linF true false))), 2, ⟨[1, 2], 7, false,
    false⟩, linF true false, by decide +kernel⟩, ⟨stln (fun d => d.setLinFrame 2 (some (linF true
    false))), 2, ⟨[1, 3], 7, false, false⟩, linF true false, by decide +kernel⟩, ⟨stln (fun d =>
    d.setLinFrame 2 (some (linF false false))), 2, ⟨[1, 2], BitVec.ofNat 8 (linSum (if (stln (fun d =>
    d.setLinFrame 2 (some (linF false false)))).dev.linEnhanced 2 5 then linPid 5 else 0) [1, 2]),
    false, false⟩, linF false false, by decide +kernel⟩, ⟨stln (fun d => d.setLinFrame 2 (some (linF
    false false))), 2, { data := [1, 2], sum := 9, framing := true, bitErr := false }, linF false false,
    by decide +kernel⟩, ⟨stln (fun d => d.setLinFrame 2 (some (linF false false))), 2, ⟨[1, 2], 9,
    false, false⟩, linF false false, by decide +kernel⟩, ⟨stln (fun d => d), 2, ⟨[1, 2], 9, false,
    false⟩, by decide +kernel⟩, ⟨stln (fun d => d.setLinFrame 2 (some (linF true false))), 2, 0, linF
    true false, by decide +kernel⟩, ⟨stln (fun d => d.setLinFrame 2 (some (linF false false))), 2, linF
    false false, by decide +kernel⟩, ⟨stln (fun d => d), 2, 0, by decide +kernel⟩, ⟨stln (fun d => d),
    2, by decide +kernel⟩, ⟨stln (fun d => d.setLinFrame 2 (some (linF false false))), 2, by
    decide +kernel⟩⟩

theorem witness_PortLinkAndIdle :
    (∃ (s : State) (n : Fin 16) (lock an phy : Bool) (speed : Fin 5) (lf rf : Bool), s.dev.released (.ep
      n 0) = true ∧ s.dev.enabled (.ep n 0) = true ∧ s.dev.mode ≠ 11 ∧ s.dev.flag (F.EP_LINK_LINK_UP n)
      = false ∧ (lock && (!s.dev.inBand n || (phy && s.dev.wordTaken n an speed)) && !(decide (2 ≤
      s.dev.get (F.EP_MODE_PCS n)) && (lf || rf))) = true) ∧
    (∃ (s : State) (n : Fin 16) (lock an phy : Bool) (speed : Fin 5) (lf rf : Bool), s.dev.released (.ep
      n 0) = true ∧ s.dev.enabled (.ep n 0) = true ∧ s.dev.mode ≠ 11 ∧ s.dev.flag (F.EP_LINK_LINK_UP n)
      = true ∧ (lock && (!s.dev.inBand n || (phy && s.dev.wordTaken n an speed)) && !(decide (2 ≤
      s.dev.get (F.EP_MODE_PCS n)) && (lf || rf))) = false ∧ (s.dev.port n).rx = [] ∧ (s.dev.port n).tx
      = none) ∧
    (∃ (s : State) (n : Fin 16) (lock an phy : Bool) (speed : Fin 5) (lf rf : Bool), s.dev.released (.ep
      n 0) = true ∧ s.dev.enabled (.ep n 0) = true ∧ s.dev.mode ≠ 11 ∧ s.dev.flag (F.EP_LINK_LINK_UP n)
      = (lock && (!s.dev.inBand n || (phy && s.dev.wordTaken n an speed)) && !(decide (2 ≤ s.dev.get
      (F.EP_MODE_PCS n)) && (lf || rf)))) ∧
    (∃ (s : State) (n : Fin 16) (lock an phy : Bool) (speed : Fin 5) (lf rf : Bool), (s.dev.released
      (.ep n 0) = false ∨ s.dev.enabled (.ep n 0) = false ∨ s.dev.mode = 11)) ∧
    (∃ (s : State) (n : Fin 16) (t : Nat), (s.dev.port n).data = some t ∧ t + 400 ≤ s.dev.plat.aon ∧
      s.dev.flag (F.EP_LINK_LINK_UP n) = true) ∧
    (∃ (s : State) (n : Fin 16), ((s.dev.port n).data.all (fun t => decide (s.dev.plat.aon < t + 400)) =
      true ∨ s.dev.flag (F.EP_LINK_LINK_UP n) = false)) ∧
    (∃ (s : State) (n : Fin 16), s.dev.portUp n = true) ∧
    (∃ (s : State) (n : Fin 16), s.dev.portUp n = true) ∧
    (∃ (s : State) (n : Fin 16) (on : Bool), s.dev.portUp n = false) ∧
    (∃ (s : State) (n : Fin 16), s.dev.portUp n = true ∧ s.dev.flag (F.EEE_CTRL_EN n) = true ∧ s.dev.get
      (F.EP_LINK_SPEED n) < 4 ∧ s.dev.portIdle n = true ∧ s.dev.flag (F.EP_LINK_TX_LPI n) = false ∧
      (s.dev.port n).wake = none ∧ (s.dev.port n).idle + s.dev.get (F.EEE_CTRL_IDLE_US n) * 1000 ≤
      s.dev.plat.aon) ∧
    (∃ (s : State) (n : Fin 16), (s.dev.portUp n = false ∨ s.dev.flag (F.EEE_CTRL_EN n) = false ∨ 4 ≤
      s.dev.get (F.EP_LINK_SPEED n) ∨ s.dev.portIdle n = false ∨ s.dev.flag (F.EP_LINK_TX_LPI n) = true
      ∨ (s.dev.port n).wake ≠ none ∨ s.dev.plat.aon < (s.dev.port n).idle + s.dev.get
      (F.EEE_CTRL_IDLE_US n) * 1000)) ∧
    (∃ (s : State) (n : Fin 16) (frac : Fin 8) (u : Nat), (s.dev.port n).wake = some u ∧ u ≤
      s.dev.plat.aon) ∧
    (∃ (s : State) (n : Fin 16) (frac : Fin 8), (s.dev.port n).wake.all (fun u => decide (s.dev.plat.aon
      < u)) = true) ∧
    (∃ (s : State) (p : Fin 16) (c : Fin 9), s.dev.signals p = true ∧ tget (s.dev.port p).xoffAt c * 10
      + s.dev.get (F.FC_CTRL_PAUSE_TIME p) * quantum (s.dev.get (F.EP_LINK_SPEED p)) / 2 ≤
      s.dev.plat.aon * 10 ∧ s.dev.get (F.FC_CTRL_MODE p) ≠ 1 ∧ bitOf (s.dev.get (F.SW_IFC_STAT_XOFF p))
      c = true) ∧
    (∃ (s : State) (p : Fin 16), s.dev.signals p = true ∧ tget (s.dev.port p).xoffAt 8 * 10 + s.dev.get
      (F.FC_CTRL_PAUSE_TIME p) * quantum (s.dev.get (F.EP_LINK_SPEED p)) / 2 ≤ s.dev.plat.aon * 10 ∧
      s.dev.get (F.FC_CTRL_MODE p) = 1 ∧ s.dev.get (F.SW_IFC_STAT_XOFF p) ≠ 0) ∧
    (∃ (s : State) (p : Fin 16) (c : Fin 9), (s.dev.signals p = false ∨ s.dev.plat.aon * 10 < tget
      (s.dev.port p).xoffAt c * 10 + s.dev.get (F.FC_CTRL_PAUSE_TIME p) * quantum (s.dev.get
      (F.EP_LINK_SPEED p)) / 2 ∨ (s.dev.get (F.FC_CTRL_MODE p) = 1 ∧ c ≠ 8) ∨ (s.dev.get (F.FC_CTRL_MODE
      p) ≠ 1 ∧ bitOf (s.dev.get (F.SW_IFC_STAT_XOFF p)) c = false))) :=
  ⟨⟨ste (fun d => d.put (F.EP_LINK_LINK_UP 2) 0), 2, true, true, true, 2, false, false, by
    decide +kernel⟩, ⟨ste (fun d => d.put (F.SW_PORT_CFG_LINKDOWN_FLUSH 2) 1), 2, false, true, true, 2,
    false, false, by decide +kernel⟩, ⟨ste (fun d => d), 2, true, true, true, 2, false, false, by
    decide +kernel⟩, ⟨run0, 2, true, true, true, 2, false, false, by decide +kernel⟩, ⟨ste (fun d =>
    (d.put (F.EP_LINK_STAMP_READY 2) 0).modPort 2 (fun x => { x with
      data := some 7 })), 2, 7, by decide +kernel⟩, ⟨ste (fun d => d), 2, by decide +kernel⟩, ⟨ste (fun
    d => d), 2, by decide +kernel⟩, ⟨ste (fun d => d), 2, by decide +kernel⟩, ⟨run0, 2, true, by
    decide +kernel⟩, ⟨ste (fun d => (d.put (F.EEE_CTRL_EN 2) 1).put (F.EEE_CTRL_IDLE_US 2) 3), 2, by
    decide +kernel⟩, ⟨ste (fun d => d), 2, by decide +kernel⟩, ⟨ste (fun d => d.modPort 2 (fun x => { x
    with wake := some 7 })), 2, 3, 7, by decide +kernel⟩, ⟨ste (fun d => d), 2, 0, by decide +kernel⟩,
    ⟨ste (fun d => [(F.SW_IFC_STAT_XOFF 2, 8), (F.FC_CTRL_TX_EN 2, 1), (F.FC_CTRL_MODE 2, 2),
    (F.FC_CTRL_PAUSE_TIME 2, 2)].foldl (fun (a : Dev) x => a.put x.1 x.2) d), 2, 3, by decide +kernel⟩,
    ⟨ste (fun d => [(F.SW_IFC_STAT_XOFF 2, 8), (F.FC_CTRL_TX_EN 2, 1), (F.FC_CTRL_MODE 2, 1),
    (F.FC_CTRL_PAUSE_TIME 2, 2)].foldl (fun (a : Dev) x => a.put x.1 x.2) d), 2, by decide +kernel⟩,
    ⟨ste (fun d => d), 2, 8, by decide +kernel⟩⟩

theorem witness_FrameReception :
    (∃ (s : State) (p : Fin 24) (bytes : List Byte) (ago : Nat) (d0 d1 : Dev) (stamp tb : Nat) (t : Int)
      (b : Bool), s.dev.portUp p = true ∧ s.dev.arriving p = none ∧ bytes.length = 64 ∧
      s.dev.coarseCount p (s.dev.readyAt p ago) = d0 ∧ d0.rxReserved p + d0.maxLen p ≤ rxBuffer p ∧
      isControl bytes = false ∧ d0.macsecHolds p bytes = false ∧ d0.rxStamp p ago = (d1, stamp, tb, t,
      b)) ∧
    (∃ (s : State) (p : Fin 24) (bytes : List Byte) (ago : Nat) (d0 d1 : Dev) (stamp tb : Nat) (t : Int)
      (b : Bool), s.dev.portUp p = true ∧ s.dev.arriving p = none ∧ bytes.length = 64 ∧
      s.dev.coarseCount p (s.dev.readyAt p ago) = d0 ∧ d0.rxReserved p + d0.maxLen p ≤ rxBuffer p ∧
      isControl bytes = true ∧ d0.rxStamp p ago = (d1, stamp, tb, t, b)) ∧
    (∃ (s : State) (p : Fin 24) (bytes : List Byte) (ago : Nat) (d0 d1 : Dev) (stamp tb : Nat) (t : Int)
      (b : Bool), s.dev.portUp p = true ∧ s.dev.arriving p = none ∧ bytes.length = 64 ∧
      s.dev.coarseCount p (s.dev.readyAt p ago) = d0 ∧ d0.rxReserved p + d0.maxLen p ≤ rxBuffer p ∧
      isControl bytes = false ∧ d0.macsecHolds p bytes = true ∧ d0.rxStamp p ago = (d1, stamp, tb, t,
      b)) ∧
    (∃ (s : State) (p : Fin 24) (bytes : List Byte) (ago : Nat) (d0 : Dev), s.dev.portUp p = true ∧
      s.dev.arriving p = none ∧ bytes.length = 64 ∧ s.dev.coarseCount p (s.dev.readyAt p ago) = d0 ∧
      rxBuffer p < d0.rxReserved p + d0.maxLen p) ∧
    (∃ (s : State) (p : Fin 24) (bytes : List Byte) (ago : Nat), s.dev.portUp p = true ∧ s.dev.arriving
      p = none ∧ bytes.length = 64) ∧
    (∃ (s : State) (p : Fin 24) (bytes : List Byte) (ago : Nat) (e : Bool), (s.dev.portUp p = false ∨
      s.dev.arriving p ≠ none ∨ bytes.length ≠ 64)) ∧
    (∃ (s : State) (p : Fin 24) (rest : List Byte) (symbol : Bool), s.dev.portUp p = true ∧
      s.dev.arriving p = none) ∧
    (∃ (s : State) (p : Fin 24) (rest : List Byte) (symbol : Bool), s.dev.portUp p = false) ∧
    (∃ (s : State) (p : Fin 24) (rest : List Byte) (symbol : Bool) (k : Nat) (f : RxFrame), s.dev.portUp
      p = true ∧ s.dev.arriving p = some (k, f) ∧ f.pos = .ignored) ∧
    (∃ (s : State) (p : Fin 24) (rest : List Byte) (symbol : Bool) (k : Nat) (f : RxFrame), s.dev.portUp
      p = true ∧ s.dev.arriving p = some (k, f) ∧ f.pos = .lookup ∧ tailCause (s.dev.maxLen p) (f.bytes
      ++ rest) symbol = 0) ∧
    (∃ (s : State) (p : Fin 24) (rest : List Byte) (symbol : Bool) (k : Nat) (f : RxFrame) (c : Nat),
      s.dev.portUp p = true ∧ s.dev.arriving p = some (k, f) ∧ f.pos = .lookup ∧ tailCause (s.dev.maxLen
      p) (f.bytes ++ rest) symbol = c ∧ c ≠ 0) ∧
    (∃ (s : State) (p : Fin 24) (rest : List Byte) (symbol : Bool) (k id : Nat) (f : RxFrame) (c : Nat),
      s.dev.portUp p = true ∧ s.dev.arriving p = some (k, f) ∧ (f.pos = .stored id ∨ f.pos = .gone id) ∧
      tailCause (s.dev.maxLen p) (f.bytes ++ rest) symbol = c) ∧
    (∃ (s : State) (p : Fin 24) (rest : List Byte) (symbol : Bool) (k : Nat) (f : RxFrame), s.dev.portUp
      p = true ∧ s.dev.arriving p = some (k, f) ∧ f.pos = .held ∧ tailCause (s.dev.maxLen p) (f.bytes ++
      rest) symbol = 0) ∧
    (∃ (s : State) (p : Fin 24) (rest : List Byte) (symbol : Bool) (k : Nat) (f : RxFrame), s.dev.portUp
      p = true ∧ s.dev.arriving p = some (k, f) ∧ f.pos = .control ∧ tailCause (s.dev.maxLen p) (f.bytes
      ++ rest) symbol = 0) ∧
    (∃ (s : State) (p : Fin 24) (rest : List Byte) (symbol : Bool) (k : Nat) (f : RxFrame) (c : Nat),
      s.dev.portUp p = true ∧ s.dev.arriving p = some (k, f) ∧ (f.pos = .held ∨ f.pos = .control) ∧
      tailCause (s.dev.maxLen p) (f.bytes ++ rest) symbol = c ∧ c ≠ 0) ∧
    (∃ (s : State) (n : Fin 16) (k : Nat) (f : RxFrame) (d1 : Dev) (g : List Byte), (s.dev.port
      n).rx.findIdx? (fun x => x.pos == .icv) = some k ∧ (s.dev.port n).rx[k]? = some f ∧
      (s.dev.macsecIn n (f.bytes.take (f.bytes.length - 4)) f.sec).dev = d1 ∧ (s.dev.macsecIn n
      (f.bytes.take (f.bytes.length - 4)) f.sec).pass = some g) ∧
    (∃ (s : State) (n : Fin 16) (k : Nat) (f : RxFrame) (d1 : Dev), (s.dev.port n).rx.findIdx? (fun x =>
      x.pos == .icv) = some k ∧ (s.dev.port n).rx[k]? = some f ∧ (s.dev.macsecIn n (f.bytes.take
      (f.bytes.length - 4)) f.sec).dev = d1 ∧ (s.dev.macsecIn n (f.bytes.take (f.bytes.length - 4))
      f.sec).pass = none) ∧
    (∃ (s : State) (n : Fin 16), (s.dev.port n).rx.findIdx? (fun x => x.pos == .icv) = none) :=
  ⟨⟨ste (fun d => d), 2, headBytes, 4, (ste (fun d => d) : State).dev.coarseCount (2 : Fin 24) ((ste
    (fun d => d) : State).dev.readyAt (2 : Fin 24) (4 : Nat)), _, _, _, _, _, fuse3 (by decide +kernel)
    ⟨rfl, fuse3 (by decide +kernel) (tuple5 _)⟩⟩, ⟨ste (fun d => d), 2, beBytes 6 0x0180C2000001 ++
    List.replicate 6 0 ++ [0x88, 8] ++ List.replicate 50 0, 4, (ste (fun d => d) :
    State).dev.coarseCount (2 : Fin 24) ((ste (fun d => d) : State).dev.readyAt (2 : Fin 24) (4 : Nat)),
    _, _, _, _, _, fuse3 (by decide +kernel) ⟨rfl, fuse2 (by decide +kernel) (tuple5 _)⟩⟩, ⟨ste (fun d
    => (d.put (F.MS_CTRL_EN 2) 1).put (F.MS_CTRL_VALIDATE 2) 1), 2, headBytes, 4, (ste (fun d => (d.put
    (F.MS_CTRL_EN 2) 1).put (F.MS_CTRL_VALIDATE 2) 1) : State).dev.coarseCount (2 : Fin 24) ((ste (fun d
    => (d.put (F.MS_CTRL_EN 2) 1).put (F.MS_CTRL_VALIDATE 2) 1) : State).dev.readyAt (2 : Fin 24) (4 :
    Nat)), _, _, _, _, _, fuse3 (by decide +kernel) ⟨rfl, fuse3 (by decide +kernel) (tuple5 _)⟩⟩, ⟨ste
    (fun d => d.modPort 2 (fun x => { x with rx := List.replicate 22 rx0 })), 2, headBytes, 4, (ste (fun
    d => d.modPort 2 (fun x => { x with rx := List.replicate 22 rx0 })) : State).dev.coarseCount (2 :
    Fin 24) ((ste (fun d => d.modPort 2 (fun x => { x with
      rx := List.replicate 22 rx0 })) : State).dev.readyAt (2 : Fin 24) (4 : Nat)), fuse3 (by
    decide +kernel) ⟨rfl, by decide +kernel⟩⟩, ⟨ste (fun d => d), 17, headBytes, 4, by decide +kernel⟩,
    ⟨ste (fun d => d), 2, [1], 4, true, by decide +kernel⟩, ⟨ste (fun d => d), 2, [1, 2], false, by
    decide +kernel⟩, ⟨run0, 2, [1, 2], false, by decide +kernel⟩, ⟨ste (fun d => d.modPort 2 (fun x => {
    x with rx := [{ rx0 with whole := false, pos := .ignored }] })), 2, [1, 2], false, 0, { rx0 with
      whole := false, pos := .ignored }, by decide +kernel⟩, ⟨ste (fun d => d.modPort 2 (fun x => { x
    with rx := [{ rx0 with whole := false, pos := .lookup }] })), 2, leBytes 4 (crc32 headBytes), false,
    0, { rx0 with whole := false, pos := .lookup }, by decide +kernel⟩, ⟨ste (fun d => d.modPort 2 (fun
    x => { x with rx := [{ rx0 with whole := false, pos := .lookup }] })), 2, [1, 2, 3, 4], false, 0, {
    rx0 with whole := false, pos := .lookup }, 1, by decide +kernel⟩, ⟨ste (fun d => d.modPort 2 (fun x
    => { x with rx := [{ rx0 with whole := false, pos := .gone 1 }] })), 2, [1, 2, 3, 4], false, 0, 1, {
    rx0 with whole := false, pos := .gone 1 }, 1, by decide +kernel⟩, ⟨ste (fun d => d.modPort 2 (fun x
    => { x with rx := [{ rx0 with whole := false, pos := .held }] })), 2, leBytes 4 (crc32 headBytes),
    false, 0, { rx0 with whole := false, pos := .held }, by decide +kernel⟩, ⟨ste (fun d => d.modPort 2
    (fun x => { x with rx := [{ rx0 with whole := false, pos := .control }] })), 2, leBytes 4 (crc32
    headBytes), false, 0, { rx0 with whole := false, pos := .control }, by decide +kernel⟩, ⟨ste (fun d
    => d.modPort 2 (fun x => { x with rx := [{ rx0 with
                                        whole := false, pos := .control }] })), 2, [1, 2, 3, 4], false,
    0, { rx0 with whole := false, pos := .control }, 1, by decide +kernel⟩, ⟨ste (fun d => ((d.modPort 2
    (fun x => { x with rx := [{ rx0 with pos := .icv }] })).put (F.MS_CTRL_EN 2) 1).put
    (F.MS_CTRL_VALIDATE 2) 1), 2, 0, { rx0 with pos := .icv }, ((ste (fun d => ((d.modPort 2 (fun x => {
    x with rx := [{ rx0 with pos := .icv }] })).put (F.MS_CTRL_EN 2) 1).put (F.MS_CTRL_VALIDATE 2) 1) :
    State).dev.macsecIn (2 : Fin 16) (({ rx0 with pos := .icv } : RxFrame).bytes.take (({ rx0 with
      pos := .icv } : RxFrame).bytes.length - 4)) ({ rx0 with
      pos := .icv } : RxFrame).sec).dev, headBytes.take 60, fuse2 (by decide +kernel) ⟨rfl, by
    decide +kernel⟩⟩, ⟨ste (fun d => ((d.modPort 2 (fun x => { x with
      rx := [{ rx0 with pos := .icv }] })).put (F.MS_CTRL_EN 2) 1).put (F.MS_CTRL_VALIDATE 2) 2), 2, 0,
    { rx0 with pos := .icv }, ((ste (fun d => ((d.modPort 2 (fun x => { x with
      rx := [{ rx0 with pos := .icv }] })).put (F.MS_CTRL_EN 2) 1).put (F.MS_CTRL_VALIDATE 2) 2) :
    State).dev.macsecIn (2 : Fin 16) (({ rx0 with pos := .icv } : RxFrame).bytes.take (({ rx0 with
      pos := .icv } : RxFrame).bytes.length - 4)) ({ rx0 with
      pos := .icv } : RxFrame).sec).dev, fuse2 (by decide +kernel) ⟨rfl, by decide +kernel⟩⟩, ⟨ste (fun
    d => d), 2, by decide +kernel⟩⟩

theorem witness_ForwardingAndEgress :
    (∃ (s : State) (p : Fin 28) (k : Nat) (f : RxFrame) (w : Fwd) (a : Dev), s.dev.enabled (.sw 0) =
      true ∧ s.dev.enabled (.lk (portSlice p) 0) = true ∧ s.dev.mode ≠ 11 ∧ s.dev.startAdmits p = true ∧
      nextLookup (s.dev.port p).rx = some k ∧ (s.dev.port p).rx[k]? = some f ∧ s.dev.lookUp p f.bytes =
      (w, a) ∧ s.dev.producerHolds p w.cls = true) ∧
    (∃ (s : State) (p : Fin 28) (k : Nat) (f : RxFrame) (w : Fwd) (a a1 : Dev), s.dev.enabled (.sw 0) =
      true ∧ s.dev.enabled (.lk (portSlice p) 0) = true ∧ s.dev.mode ≠ 11 ∧ s.dev.startAdmits p = true ∧
      nextLookup (s.dev.port p).rx = some k ∧ (s.dev.port p).rx[k]? = some f ∧ s.dev.lookUp p f.bytes =
      (w, a) ∧ s.dev.producerHolds p w.cls = false ∧ a.fabricBad = (false, a1) ∧ w.bad = true) ∧
    (∃ (s : State) (p : Fin 28) (k : Nat) (f : RxFrame) (w : Fwd) (a a1 : Dev) (d0 d1 : Dev),
      s.dev.enabled (.sw 0) = true ∧ s.dev.enabled (.lk (portSlice p) 0) = true ∧ s.dev.mode ≠ 11 ∧
      s.dev.startAdmits p = true ∧ nextLookup (s.dev.port p).rx = some k ∧ (s.dev.port p).rx[k]? = some
      f ∧ s.dev.lookUp p f.bytes = (w, a) ∧ s.dev.producerHolds p w.cls = false ∧ a.fabricBad = (false,
      a1) ∧ w.bad = false ∧ (if w.vid.isSome then a1.lkLearn p (headOf f.bytes).sa (a1.vidOf p (headOf
      f.bytes)) (f.stamp / 8 % 2 ^ 32) else a1) = d0 ∧ (if w.flood then d0.bump (F.LK_FLOOD_COUNT
      (portSlice p)) else d0) = d1 ∧ w.dest = 0) ∧
    (∃ (s : State) (p : Fin 28) (k : Nat) (f : RxFrame) (w : Fwd) (a a1 : Dev) (d0 d1 d2 : Dev) (fate :
      Nat) (owed : List Charge) (flt : Option Nat) (mark : Bool), s.dev.enabled (.sw 0) = true ∧
      s.dev.enabled (.lk (portSlice p) 0) = true ∧ s.dev.mode ≠ 11 ∧ s.dev.startAdmits p = true ∧
      nextLookup (s.dev.port p).rx = some k ∧ (s.dev.port p).rx[k]? = some f ∧ s.dev.lookUp p f.bytes =
      (w, a) ∧ s.dev.producerHolds p w.cls = false ∧ a.fabricBad = (false, a1) ∧ w.bad = false ∧ (if
      w.vid.isSome then a1.lkLearn p (headOf f.bytes).sa (a1.vidOf p (headOf f.bytes)) (f.stamp / 8 % 2
      ^ 32) else a1) = d0 ∧ (if w.flood then d0.bump (F.LK_FLOOD_COUNT (portSlice p)) else d0) = d1 ∧
      w.dest ≠ 0 ∧ d1.police p { f with dest := w.dest, cls := w.cls } w = (d2, fate, owed, flt, mark) ∧
      fate ≠ 0) ∧
    (∃ (s : State) (p : Fin 28) (k : Nat) (f : RxFrame) (w : Fwd) (a a1 : Dev) (d0 d1 d2 : Dev) (fate :
      Nat) (owed : List Charge) (flt : Option Nat) (mark : Bool) (id : Nat) (d3 : Dev), s.dev.enabled
      (.sw 0) = true ∧ s.dev.enabled (.lk (portSlice p) 0) = true ∧ s.dev.mode ≠ 11 ∧ s.dev.startAdmits
      p = true ∧ nextLookup (s.dev.port p).rx = some k ∧ (s.dev.port p).rx[k]? = some f ∧ s.dev.lookUp p
      f.bytes = (w, a) ∧ s.dev.producerHolds p w.cls = false ∧ a.fabricBad = (false, a1) ∧ w.bad = false
      ∧ (if w.vid.isSome then a1.lkLearn p (headOf f.bytes).sa (a1.vidOf p (headOf f.bytes)) (f.stamp /
      8 % 2 ^ 32) else a1) = d0 ∧ (if w.flood then d0.bump (F.LK_FLOOD_COUNT (portSlice p)) else d0) =
      d1 ∧ w.dest ≠ 0 ∧ d1.police p { f with dest := w.dest, cls := w.cls } w = (d2, fate, owed, flt,
      mark) ∧ fate = 0 ∧ d2.admitFrame p { f with dest := w.dest, cls := w.cls, charges := owed, filter
                                                    := flt } w mark = (d3, some id)) ∧
    (∃ (s : State) (p : Fin 28) (k : Nat) (f : RxFrame) (w : Fwd) (a a1 : Dev) (d0 d1 d2 : Dev) (fate :
      Nat) (owed : List Charge) (flt : Option Nat) (mark : Bool) (d3 : Dev), s.dev.enabled (.sw 0) =
      true ∧ s.dev.enabled (.lk (portSlice p) 0) = true ∧ s.dev.mode ≠ 11 ∧ s.dev.startAdmits p = true ∧
      nextLookup (s.dev.port p).rx = some k ∧ (s.dev.port p).rx[k]? = some f ∧ s.dev.lookUp p f.bytes =
      (w, a) ∧ s.dev.producerHolds p w.cls = false ∧ a.fabricBad = (false, a1) ∧ w.bad = false ∧ (if
      w.vid.isSome then a1.lkLearn p (headOf f.bytes).sa (a1.vidOf p (headOf f.bytes)) (f.stamp / 8 % 2
      ^ 32) else a1) = d0 ∧ (if w.flood then d0.bump (F.LK_FLOOD_COUNT (portSlice p)) else d0) = d1 ∧
      w.dest ≠ 0 ∧ d1.police p { f with dest := w.dest, cls := w.cls } w = (d2, fate, owed, flt, mark) ∧
      fate = 0 ∧ d2.admitFrame p { f with dest := w.dest, cls := w.cls, charges := owed, filter := flt }
      w mark = (d3, none)) ∧
    (∃ (s : State) (p : Fin 28) (k : Nat) (f : RxFrame) (w : Fwd) (a a1 : Dev) (bad : Bool),
      s.dev.enabled (.sw 0) = true ∧ s.dev.enabled (.lk (portSlice p) 0) = true ∧ s.dev.mode ≠ 11 ∧
      s.dev.startAdmits p = true ∧ nextLookup (s.dev.port p).rx = some k ∧ (s.dev.port p).rx[k]? = some
      f ∧ s.dev.lookUp p f.bytes = (w, a) ∧ s.dev.producerHolds p w.cls = false ∧ a.fabricBad = (bad,
      a1)) ∧
    (∃ (d : Dev) (p : Fin 28) (f : List Byte) (o : Option WordErr) (a b : Dev), d.meets (3 + portSlice
      p) = (o, a) ∧ (a.free 131072).2.lkSet (portSlice p) (a.free 131072).1 default = b) ∧
    (∃ (s : State) (p : Fin 28), (s.dev.enabled (.sw 0) = false ∨ s.dev.enabled (.lk (portSlice p) 0) =
      false ∨ s.dev.mode = 11 ∨ s.dev.startAdmits p = false ∨ nextLookup (s.dev.port p).rx = none)) ∧
    (∃ (s : State) (p : Fin 28) (dbe : Bool) (frac : Fin 8) (q tier : Nat) (c : QCopy) (t : List QCopy)
      (g : GFrame) (a : Dev), s.dev.takes p = true ∧ s.dev.pick p = some (q, tier) ∧ (s.dev.qs q).copies
      = c :: t ∧ s.dev.frame? c.id = some g ∧ s.dev.fabricBad = (false, a) ∧ (p.val < 24 ∨ a.parityArmed
      p = false) ∧ dbe = false ∧ (p.val < 16 → a.flag (F.EP_LINK_LINK_UP p) = true) ∧ a.protects p g =
      false) ∧
    (∃ (s : State) (p : Fin 28) (dbe : Bool) (frac : Fin 8) (q tier : Nat) (c : QCopy) (t : List QCopy)
      (g : GFrame) (a : Dev) (d1 : Dev) (x : Protect), s.dev.takes p = true ∧ s.dev.pick p = some (q,
      tier) ∧ (s.dev.qs q).copies = c :: t ∧ s.dev.frame? c.id = some g ∧ s.dev.fabricBad = (false, a) ∧
      (p.val < 24 ∨ a.parityArmed p = false) ∧ dbe = false ∧ (p.val < 16 → a.flag (F.EP_LINK_LINK_UP p)
      = true) ∧ a.protects p g = true ∧ a.protect p = (d1, some x)) ∧
    (∃ (s : State) (p : Fin 28) (dbe : Bool) (frac : Fin 8) (q tier : Nat) (c : QCopy) (t : List QCopy)
      (g : GFrame) (a : Dev) (d1 : Dev), s.dev.takes p = true ∧ s.dev.pick p = some (q, tier) ∧
      (s.dev.qs q).copies = c :: t ∧ s.dev.frame? c.id = some g ∧ s.dev.fabricBad = (false, a) ∧ (p.val
      < 24 ∨ a.parityArmed p = false) ∧ dbe = false ∧ (p.val < 16 → a.flag (F.EP_LINK_LINK_UP p) = true)
      ∧ a.protects p g = true ∧ a.protect p = (d1, none)) ∧
    (∃ (s : State) (p : Fin 28) (dbe : Bool) (frac : Fin 8) (q tier : Nat) (c : QCopy) (t : List QCopy)
      (g : GFrame) (a : Dev), s.dev.takes p = true ∧ s.dev.pick p = some (q, tier) ∧ (s.dev.qs q).copies
      = c :: t ∧ s.dev.frame? c.id = some g ∧ s.dev.fabricBad = (false, a) ∧ (p.val < 24 ∨ a.parityArmed
      p = false) ∧ dbe = true) ∧
    (∃ (s : State) (p : Fin 28) (dbe : Bool) (frac : Fin 8) (q tier : Nat) (c : QCopy) (t : List QCopy)
      (g : GFrame) (a : Dev), s.dev.takes p = true ∧ s.dev.pick p = some (q, tier) ∧ (s.dev.qs q).copies
      = c :: t ∧ s.dev.frame? c.id = some g ∧ s.dev.fabricBad = (false, a) ∧ 24 ≤ p.val ∧ a.parityArmed
      p = true) ∧
    (∃ (s : State) (p : Fin 28) (dbe : Bool) (frac : Fin 8) (q tier : Nat) (c : QCopy) (t : List QCopy)
      (g : GFrame) (a : Dev), s.dev.takes p = true ∧ s.dev.pick p = some (q, tier) ∧ (s.dev.qs q).copies
      = c :: t ∧ s.dev.frame? c.id = some g ∧ s.dev.fabricBad = (false, a) ∧ dbe = false ∧ p.val < 16 ∧
      a.flag (F.EP_LINK_LINK_UP p) = false) ∧
    (∃ (s : State) (p : Fin 28) (dbe : Bool) (frac : Fin 8) (q tier : Nat) (c : QCopy) (t : List QCopy)
      (g : GFrame) (a : Dev) (bad : Bool), s.dev.takes p = true ∧ s.dev.pick p = some (q, tier) ∧
      (s.dev.qs q).copies = c :: t ∧ s.dev.frame? c.id = some g ∧ s.dev.fabricBad = (bad, a)) ∧
    (∃ (s : State) (p : Fin 28) (dbe : Bool) (frac : Fin 8), (s.dev.takes p = false ∨ s.dev.pick p =
      none)) ∧
    (∃ (s : State) (p : Fin 28) (err : Fin 3) (t : TxSt) (g : GFrame) (d0 d1 d2 : Dev), (s.dev.port
      p).tx = some t ∧ s.dev.frame? t.id = some g ∧ g.whole = true ∧ t.waiting = false ∧ (24 ≤ p.val →
      p.val < 26 → s.dev.inBack (p - 24) t.id = false) ∧ s.dev.parityArmed p = false ∧ (err = 0 ∨ 24 ≤
      p.val) ∧ s.dev = d0 ∧ d0.finishCopy p t g g.bad = d1 ∧ (d1.chargeShapers t.queue t.committed
      (d1.acctLen p g.bytes.length)).depthSub t.queue g.cells = d2) ∧
    (∃ (s : State) (p : Fin 28) (err : Fin 3) (t : TxSt) (g : GFrame) (d0 d1 d2 : Dev), (s.dev.port
      p).tx = some t ∧ s.dev.frame? t.id = some g ∧ g.whole = true ∧ t.waiting = false ∧ (24 ≤ p.val →
      p.val < 26 → s.dev.inBack (p - 24) t.id = false) ∧ s.dev.parityArmed p = false ∧ err = 1 ∧ p.val <
      24 ∧ s.dev.dbe 1 = d0 ∧ d0.finishCopy p t g true = d1 ∧ (d1.chargeShapers t.queue t.committed
      (d1.acctLen p g.bytes.length)).depthSub t.queue g.cells = d2) ∧
    (∃ (s : State) (p : Fin 28) (err : Fin 3) (t : TxSt) (g : GFrame) (d0 d1 d2 : Dev), (s.dev.port
      p).tx = some t ∧ s.dev.frame? t.id = some g ∧ g.whole = true ∧ t.waiting = false ∧ (24 ≤ p.val →
      p.val < 26 → s.dev.inBack (p - 24) t.id = false) ∧ p.val < 24 ∧ (if s.dev.parityArmed p then ({
      ((s.dev.bump F.SW_CT_BAD_COUNT).raise (.sw 0) 2) with
        inject := none }).report 3 (p + 2 ^ 16) else (((s.dev.bump F.SW_CT_BAD_COUNT).raise (.sw 0)
      2)).report 3 p) = d0 ∧ (err = 2 ∨ s.dev.parityArmed p = true) ∧ d0.finishCopy p t g true = d1 ∧
      (d1.chargeShapers t.queue t.committed (d1.acctLen p g.bytes.length)).depthSub t.queue g.cells =
      d2) ∧
    (∃ (s : State) (p : Fin 28) (err : Fin 3), (s.dev.port p).tx.all (fun t => (s.dev.frame? t.id).any
      (fun g => !g.whole || t.waiting || (decide (24 ≤ p.val) && decide (p.val < 26) && s.dev.inBack (p
      - 24) t.id))) = true) :=
  ⟨⟨ste (fun d => (((vlanDev d).modPort 26 (fun x => { x with
      rx := [rx0] })).put (F.SW_PORT_CFG_PVID 26) 1).put (F.SW_IFC_STAT_XOFF 26) 255 |>.put
    (F.SW_PORT_CFG_UUC_FLOOD 26) 1), 26, 0, rx0, _, _, fuse6 (by decide +kernel) ⟨tuple2 _, by
    decide +kernel⟩⟩, ⟨ste (fun d => d.modPort 2 (fun x => { x with
      rx := [rx0] })), 2, 0, rx0, _, _, _, fuse6 (by decide +kernel) ⟨tuple2 _, by decide +kernel,
    pairFrom _ _ (by decide +kernel), by decide +kernel⟩⟩, ⟨ste (fun d => ((vlanDev d).modPort 2 (fun x
    => { x with rx := [rx0] })).put (F.SW_PORT_CFG_UUC_FLOOD 2) 0), 2, 0, rx0, _, _, _, (if (((ste (fun
    d => ((vlanDev d).modPort 2 (fun x => { x with
      rx := [rx0] })).put (F.SW_PORT_CFG_UUC_FLOOD 2) 0) : State).dev.lookUp (2 : Fin 28) (rx0 :
    RxFrame).bytes).1 : Fwd).vid.isSome then (((((ste (fun d => ((vlanDev d).modPort 2 (fun x => { x
    with rx := [rx0] })).put (F.SW_PORT_CFG_UUC_FLOOD 2) 0) : State).dev.lookUp (2 : Fin 28) (rx0 :
    RxFrame).bytes).2 : Dev).fabricBad).2 : Dev).lkLearn (2 : Fin 28) (headOf (rx0 : RxFrame).bytes).sa
    ((((((ste (fun d => ((vlanDev d).modPort 2 (fun x => { x with
      rx := [rx0] })).put (F.SW_PORT_CFG_UUC_FLOOD 2) 0) : State).dev.lookUp (2 : Fin 28) (rx0 :
    RxFrame).bytes).2 : Dev).fabricBad).2 : Dev).vidOf (2 : Fin 28) (headOf (rx0 : RxFrame).bytes))
    ((rx0 : RxFrame).stamp / 8 % 2 ^ 32) else (((((ste (fun d => ((vlanDev d).modPort 2 (fun x => { x
    with rx := [rx0] })).put (F.SW_PORT_CFG_UUC_FLOOD 2) 0) : State).dev.lookUp (2 : Fin 28) (rx0 :
    RxFrame).bytes).2 : Dev).fabricBad).2 : Dev)), (if (((ste (fun d => ((vlanDev d).modPort 2 (fun x =>
    { x with rx := [rx0] })).put (F.SW_PORT_CFG_UUC_FLOOD 2) 0) : State).dev.lookUp (2 : Fin 28) (rx0 :
    RxFrame).bytes).1 : Fwd).flood then ((if (((ste (fun d => ((vlanDev d).modPort 2 (fun x => { x with
      rx := [rx0] })).put (F.SW_PORT_CFG_UUC_FLOOD 2) 0) : State).dev.lookUp (2 : Fin 28) (rx0 :
    RxFrame).bytes).1 : Fwd).vid.isSome then (((((ste (fun d => ((vlanDev d).modPort 2 (fun x => { x
    with rx := [rx0] })).put (F.SW_PORT_CFG_UUC_FLOOD 2) 0) : State).dev.lookUp (2 : Fin 28) (rx0 :
    RxFrame).bytes).2 : Dev).fabricBad).2 : Dev).lkLearn (2 : Fin 28) (headOf (rx0 : RxFrame).bytes).sa
    ((((((ste (fun d => ((vlanDev d).modPort 2 (fun x => { x with
      rx := [rx0] })).put (F.SW_PORT_CFG_UUC_FLOOD 2) 0) : State).dev.lookUp (2 : Fin 28) (rx0 :
    RxFrame).bytes).2 : Dev).fabricBad).2 : Dev).vidOf (2 : Fin 28) (headOf (rx0 : RxFrame).bytes))
    ((rx0 : RxFrame).stamp / 8 % 2 ^ 32) else (((((ste (fun d => ((vlanDev d).modPort 2 (fun x => { x
    with rx := [rx0] })).put (F.SW_PORT_CFG_UUC_FLOOD 2) 0) : State).dev.lookUp (2 : Fin 28) (rx0 :
    RxFrame).bytes).2 : Dev).fabricBad).2 : Dev)) : Dev).bump (F.LK_FLOOD_COUNT (portSlice (2 : Fin
    28))) else ((if (((ste (fun d => ((vlanDev d).modPort 2 (fun x => { x with
      rx := [rx0] })).put (F.SW_PORT_CFG_UUC_FLOOD 2) 0) : State).dev.lookUp (2 : Fin 28) (rx0 :
    RxFrame).bytes).1 : Fwd).vid.isSome then (((((ste (fun d => ((vlanDev d).modPort 2 (fun x => { x
    with rx := [rx0] })).put (F.SW_PORT_CFG_UUC_FLOOD 2) 0) : State).dev.lookUp (2 : Fin 28) (rx0 :
    RxFrame).bytes).2 : Dev).fabricBad).2 : Dev).lkLearn (2 : Fin 28) (headOf (rx0 : RxFrame).bytes).sa
    ((((((ste (fun d => ((vlanDev d).modPort 2 (fun x => { x with
      rx := [rx0] })).put (F.SW_PORT_CFG_UUC_FLOOD 2) 0) : State).dev.lookUp (2 : Fin 28) (rx0 :
    RxFrame).bytes).2 : Dev).fabricBad).2 : Dev).vidOf (2 : Fin 28) (headOf (rx0 : RxFrame).bytes))
    ((rx0 : RxFrame).stamp / 8 % 2 ^ 32) else (((((ste (fun d => ((vlanDev d).modPort 2 (fun x => { x
    with rx := [rx0] })).put (F.SW_PORT_CFG_UUC_FLOOD 2) 0) : State).dev.lookUp (2 : Fin 28) (rx0 :
    RxFrame).bytes).2 : Dev).fabricBad).2 : Dev)) : Dev)), fuse6 (by decide +kernel) ⟨tuple2 _, by
    decide +kernel, pairFrom _ _ (by decide +kernel), by decide +kernel, rfl, rfl, by decide +kernel⟩⟩,
    ⟨ste (fun d => ctlDev ((d.put (F.TM_PM_CFG_EN 0) 1).put ⟨R.TM_PM_MAP 5, 31, 1⟩ 1)), 2, 0, ctlRx, _,
    _, _, (if (((ste (fun d => ctlDev ((d.put (F.TM_PM_CFG_EN 0) 1).put ⟨R.TM_PM_MAP 5, 31, 1⟩ 1)) :
    State).dev.lookUp (2 : Fin 28) (ctlRx : RxFrame).bytes).1 : Fwd).vid.isSome then (((((ste (fun d =>
    ctlDev ((d.put (F.TM_PM_CFG_EN 0) 1).put ⟨R.TM_PM_MAP 5, 31, 1⟩ 1)) : State).dev.lookUp (2 : Fin 28)
    (ctlRx : RxFrame).bytes).2 : Dev).fabricBad).2 : Dev).lkLearn (2 : Fin 28) (headOf (ctlRx :
    RxFrame).bytes).sa ((((((ste (fun d => ctlDev ((d.put (F.TM_PM_CFG_EN 0) 1).put ⟨R.TM_PM_MAP 5, 31,
    1⟩ 1)) : State).dev.lookUp (2 : Fin 28) (ctlRx : RxFrame).bytes).2 : Dev).fabricBad).2 : Dev).vidOf
    (2 : Fin 28) (headOf (ctlRx : RxFrame).bytes)) ((ctlRx : RxFrame).stamp / 8 % 2 ^ 32) else (((((ste
    (fun d => ctlDev ((d.put (F.TM_PM_CFG_EN 0) 1).put ⟨R.TM_PM_MAP 5, 31, 1⟩ 1)) : State).dev.lookUp (2
    : Fin 28) (ctlRx : RxFrame).bytes).2 : Dev).fabricBad).2 : Dev)), (if (((ste (fun d => ctlDev
    ((d.put (F.TM_PM_CFG_EN 0) 1).put ⟨R.TM_PM_MAP 5, 31, 1⟩ 1)) : State).dev.lookUp (2 : Fin 28) (ctlRx
    : RxFrame).bytes).1 : Fwd).flood then ((if (((ste (fun d => ctlDev ((d.put (F.TM_PM_CFG_EN 0) 1).put
    ⟨R.TM_PM_MAP 5, 31, 1⟩ 1)) : State).dev.lookUp (2 : Fin 28) (ctlRx : RxFrame).bytes).1 :
    Fwd).vid.isSome then (((((ste (fun d => ctlDev ((d.put (F.TM_PM_CFG_EN 0) 1).put ⟨R.TM_PM_MAP 5, 31,
    1⟩ 1)) : State).dev.lookUp (2 : Fin 28) (ctlRx : RxFrame).bytes).2 : Dev).fabricBad).2 :
    Dev).lkLearn (2 : Fin 28) (headOf (ctlRx : RxFrame).bytes).sa ((((((ste (fun d => ctlDev ((d.put
    (F.TM_PM_CFG_EN 0) 1).put ⟨R.TM_PM_MAP 5, 31, 1⟩ 1)) : State).dev.lookUp (2 : Fin 28) (ctlRx :
    RxFrame).bytes).2 : Dev).fabricBad).2 : Dev).vidOf (2 : Fin 28) (headOf (ctlRx : RxFrame).bytes))
    ((ctlRx : RxFrame).stamp / 8 % 2 ^ 32) else (((((ste (fun d => ctlDev ((d.put (F.TM_PM_CFG_EN 0)
    1).put ⟨R.TM_PM_MAP 5, 31, 1⟩ 1)) : State).dev.lookUp (2 : Fin 28) (ctlRx : RxFrame).bytes).2 :
    Dev).fabricBad).2 : Dev)) : Dev).bump (F.LK_FLOOD_COUNT (portSlice (2 : Fin 28))) else ((if (((ste
    (fun d => ctlDev ((d.put (F.TM_PM_CFG_EN 0) 1).put ⟨R.TM_PM_MAP 5, 31, 1⟩ 1)) : State).dev.lookUp (2
    : Fin 28) (ctlRx : RxFrame).bytes).1 : Fwd).vid.isSome then (((((ste (fun d => ctlDev ((d.put
    (F.TM_PM_CFG_EN 0) 1).put ⟨R.TM_PM_MAP 5, 31, 1⟩ 1)) : State).dev.lookUp (2 : Fin 28) (ctlRx :
    RxFrame).bytes).2 : Dev).fabricBad).2 : Dev).lkLearn (2 : Fin 28) (headOf (ctlRx :
    RxFrame).bytes).sa ((((((ste (fun d => ctlDev ((d.put (F.TM_PM_CFG_EN 0) 1).put ⟨R.TM_PM_MAP 5, 31,
    1⟩ 1)) : State).dev.lookUp (2 : Fin 28) (ctlRx : RxFrame).bytes).2 : Dev).fabricBad).2 : Dev).vidOf
    (2 : Fin 28) (headOf (ctlRx : RxFrame).bytes)) ((ctlRx : RxFrame).stamp / 8 % 2 ^ 32) else (((((ste
    (fun d => ctlDev ((d.put (F.TM_PM_CFG_EN 0) 1).put ⟨R.TM_PM_MAP 5, 31, 1⟩ 1)) : State).dev.lookUp (2
    : Fin 28) (ctlRx : RxFrame).bytes).2 : Dev).fabricBad).2 : Dev)) : Dev)), _, _, _, _, _, fuse6 (by
    decide +kernel) ⟨tuple2 _, by decide +kernel, pairFrom _ _ (by decide +kernel), by decide +kernel,
    rfl, rfl, by decide +kernel, tuple5 _, by decide +kernel⟩⟩, ⟨ste ctlDev, 2, 0, ctlRx, _, _, _, (if
    (((ste ctlDev : State).dev.lookUp (2 : Fin 28) (ctlRx : RxFrame).bytes).1 : Fwd).vid.isSome then
    (((((ste ctlDev : State).dev.lookUp (2 : Fin 28) (ctlRx : RxFrame).bytes).2 : Dev).fabricBad).2 :
    Dev).lkLearn (2 : Fin 28) (headOf (ctlRx : RxFrame).bytes).sa ((((((ste ctlDev : State).dev.lookUp
    (2 : Fin 28) (ctlRx : RxFrame).bytes).2 : Dev).fabricBad).2 : Dev).vidOf (2 : Fin 28) (headOf (ctlRx
    : RxFrame).bytes)) ((ctlRx : RxFrame).stamp / 8 % 2 ^ 32) else (((((ste ctlDev : State).dev.lookUp
    (2 : Fin 28) (ctlRx : RxFrame).bytes).2 : Dev).fabricBad).2 : Dev)), (if (((ste ctlDev :
    State).dev.lookUp (2 : Fin 28) (ctlRx : RxFrame).bytes).1 : Fwd).flood then ((if (((ste ctlDev :
    State).dev.lookUp (2 : Fin 28) (ctlRx : RxFrame).bytes).1 : Fwd).vid.isSome then (((((ste ctlDev :
    State).dev.lookUp (2 : Fin 28) (ctlRx : RxFrame).bytes).2 : Dev).fabricBad).2 : Dev).lkLearn (2 :
    Fin 28) (headOf (ctlRx : RxFrame).bytes).sa ((((((ste ctlDev : State).dev.lookUp (2 : Fin 28) (ctlRx
    : RxFrame).bytes).2 : Dev).fabricBad).2 : Dev).vidOf (2 : Fin 28) (headOf (ctlRx : RxFrame).bytes))
    ((ctlRx : RxFrame).stamp / 8 % 2 ^ 32) else (((((ste ctlDev : State).dev.lookUp (2 : Fin 28) (ctlRx
    : RxFrame).bytes).2 : Dev).fabricBad).2 : Dev)) : Dev).bump (F.LK_FLOOD_COUNT (portSlice (2 : Fin
    28))) else ((if (((ste ctlDev : State).dev.lookUp (2 : Fin 28) (ctlRx : RxFrame).bytes).1 :
    Fwd).vid.isSome then (((((ste ctlDev : State).dev.lookUp (2 : Fin 28) (ctlRx : RxFrame).bytes).2 :
    Dev).fabricBad).2 : Dev).lkLearn (2 : Fin 28) (headOf (ctlRx : RxFrame).bytes).sa ((((((ste ctlDev :
    State).dev.lookUp (2 : Fin 28) (ctlRx : RxFrame).bytes).2 : Dev).fabricBad).2 : Dev).vidOf (2 : Fin
    28) (headOf (ctlRx : RxFrame).bytes)) ((ctlRx : RxFrame).stamp / 8 % 2 ^ 32) else (((((ste ctlDev :
    State).dev.lookUp (2 : Fin 28) (ctlRx : RxFrame).bytes).2 : Dev).fabricBad).2 : Dev)) : Dev)), _, _,
    _, _, _, 0, _, fuse6 (by decide +kernel) ⟨tuple2 _, by decide +kernel, pairFrom _ _ (by
    decide +kernel), by decide +kernel, rfl, rfl, by decide +kernel, tuple5 _, by decide +kernel, pairOf
    _ _ (by decide +kernel)⟩⟩, ⟨ste (fun d => ctlDev (d.put F.SW_GAL_STAT_FREE 0)), 2, 0, ctlRx, _, _,
    _, (if (((ste (fun d => ctlDev (d.put F.SW_GAL_STAT_FREE 0)) : State).dev.lookUp (2 : Fin 28) (ctlRx
    : RxFrame).bytes).1 : Fwd).vid.isSome then (((((ste (fun d => ctlDev (d.put F.SW_GAL_STAT_FREE 0)) :
    State).dev.lookUp (2 : Fin 28) (ctlRx : RxFrame).bytes).2 : Dev).fabricBad).2 : Dev).lkLearn (2 :
    Fin 28) (headOf (ctlRx : RxFrame).bytes).sa ((((((ste (fun d => ctlDev (d.put F.SW_GAL_STAT_FREE 0))
    : State).dev.lookUp (2 : Fin 28) (ctlRx : RxFrame).bytes).2 : Dev).fabricBad).2 : Dev).vidOf (2 :
    Fin 28) (headOf (ctlRx : RxFrame).bytes)) ((ctlRx : RxFrame).stamp / 8 % 2 ^ 32) else (((((ste (fun
    d => ctlDev (d.put F.SW_GAL_STAT_FREE 0)) : State).dev.lookUp (2 : Fin 28) (ctlRx :
    RxFrame).bytes).2 : Dev).fabricBad).2 : Dev)), (if (((ste (fun d => ctlDev (d.put F.SW_GAL_STAT_FREE
    0)) : State).dev.lookUp (2 : Fin 28) (ctlRx : RxFrame).bytes).1 : Fwd).flood then ((if (((ste (fun d
    => ctlDev (d.put F.SW_GAL_STAT_FREE 0)) : State).dev.lookUp (2 : Fin 28) (ctlRx : RxFrame).bytes).1
    : Fwd).vid.isSome then (((((ste (fun d => ctlDev (d.put F.SW_GAL_STAT_FREE 0)) : State).dev.lookUp
    (2 : Fin 28) (ctlRx : RxFrame).bytes).2 : Dev).fabricBad).2 : Dev).lkLearn (2 : Fin 28) (headOf
    (ctlRx : RxFrame).bytes).sa ((((((ste (fun d => ctlDev (d.put F.SW_GAL_STAT_FREE 0)) :
    State).dev.lookUp (2 : Fin 28) (ctlRx : RxFrame).bytes).2 : Dev).fabricBad).2 : Dev).vidOf (2 : Fin
    28) (headOf (ctlRx : RxFrame).bytes)) ((ctlRx : RxFrame).stamp / 8 % 2 ^ 32) else (((((ste (fun d =>
    ctlDev (d.put F.SW_GAL_STAT_FREE 0)) : State).dev.lookUp (2 : Fin 28) (ctlRx : RxFrame).bytes).2 :
    Dev).fabricBad).2 : Dev)) : Dev).bump (F.LK_FLOOD_COUNT (portSlice (2 : Fin 28))) else ((if (((ste
    (fun d => ctlDev (d.put F.SW_GAL_STAT_FREE 0)) : State).dev.lookUp (2 : Fin 28) (ctlRx :
    RxFrame).bytes).1 : Fwd).vid.isSome then (((((ste (fun d => ctlDev (d.put F.SW_GAL_STAT_FREE 0)) :
    State).dev.lookUp (2 : Fin 28) (ctlRx : RxFrame).bytes).2 : Dev).fabricBad).2 : Dev).lkLearn (2 :
    Fin 28) (headOf (ctlRx : RxFrame).bytes).sa ((((((ste (fun d => ctlDev (d.put F.SW_GAL_STAT_FREE 0))
    : State).dev.lookUp (2 : Fin 28) (ctlRx : RxFrame).bytes).2 : Dev).fabricBad).2 : Dev).vidOf (2 :
    Fin 28) (headOf (ctlRx : RxFrame).bytes)) ((ctlRx : RxFrame).stamp / 8 % 2 ^ 32) else (((((ste (fun
    d => ctlDev (d.put F.SW_GAL_STAT_FREE 0)) : State).dev.lookUp (2 : Fin 28) (ctlRx :
    RxFrame).bytes).2 : Dev).fabricBad).2 : Dev)) : Dev)), _, _, _, _, _, _, fuse6 (by decide +kernel)
    ⟨tuple2 _, by decide +kernel, pairFrom _ _ (by decide +kernel), by decide +kernel, rfl, rfl, by
    decide +kernel, tuple5 _, by decide +kernel, pairOf _ _ (by decide +kernel)⟩⟩, ⟨ste (fun d =>
    badWord 9 ((vlanDev d).modPort 2 (fun x => { x with
      rx := [rx0] }))), 2, 0, rx0, _, _, _, _, fuse6 (by decide +kernel) ⟨tuple2 _, by decide +kernel,
    tuple2 _⟩⟩, ⟨badWord 3 runDev, 2, headBytes, _, _, ((((badWord 3 runDev : Dev).meets (3 + portSlice
    (2 : Fin 28))).2 : Dev).free 131072).2.lkSet (portSlice (2 : Fin 28)) ((((badWord 3 runDev :
    Dev).meets (3 + portSlice (2 : Fin 28))).2 : Dev).free 131072).1 default, tuple2 _, rfl⟩, ⟨ste (fun
    d => d), 2, by decide +kernel⟩, ⟨ste storedDev, 2, false, 5, 16, 1, ⟨5, 0, 0⟩, [], gf0, _, fuse4 (by
    decide +kernel) ⟨pairFrom _ _ (by decide +kernel), by decide +kernel⟩⟩, ⟨ste (fun d => macsecDev
    (storedDev d)), 2, false, 5, 16, 1, ⟨5, 0, 0⟩, [], gf0, _, _, ⟨0, 9, 0x80000000, 0, 0,
    List.replicate 16 5, []⟩, fuse4 (by decide +kernel) ⟨pairFrom _ _ (by decide +kernel), fuse4 (by
    decide +kernel) (pairOf _ _ (by decide +kernel))⟩⟩, ⟨ste (fun d => ((storedDev d).put (F.MS_CTRL_EN
    2) 1).put (F.MS_CTRL_PROTECT 2) 1), 2, false, 5, 16, 1, ⟨5, 0, 0⟩, [], gf0, _, _, fuse4 (by
    decide +kernel) ⟨pairFrom _ _ (by decide +kernel), fuse4 (by decide +kernel) (pairOf _ _ (by
    decide +kernel))⟩⟩, ⟨ste storedDev, 2, true, 5, 16, 1, ⟨5, 0, 0⟩, [], gf0, _, fuse4 (by
    decide +kernel) ⟨pairFrom _ _ (by decide +kernel), by decide +kernel⟩⟩, ⟨ste (fun d => parityDev
    (storedMc d)), 27, false, 0, 216, 1, ⟨5, 0, 0⟩, [], gf0, _, fuse4 (by decide +kernel) ⟨pairFrom _ _
    (by decide +kernel), by decide +kernel⟩⟩, ⟨ste (fun d => ((storedDev d).put (F.EP_LINK_LINK_UP 2)
    0).put (F.EP_MAC_DOWN_FLUSH 2) 1), 2, false, 5, 16, 1, ⟨5, 0, 0⟩, [], gf0, _, fuse4 (by
    decide +kernel) ⟨pairFrom _ _ (by decide +kernel), by decide +kernel⟩⟩, ⟨ste (fun d => badWord 10
    (storedDev d)), 2, false, 5, 16, 1, ⟨5, 0, 0⟩, [], gf0, _, _, fuse4 (by decide +kernel) (tuple2 _)⟩,
    ⟨ste (fun d => d), 2, false, 0, by decide +kernel⟩, ⟨ste sendingDev, 2, 0, tx0, { gf0 with
      started := true }, (ste sendingDev : State).dev, ((ste sendingDev : State).dev : Dev).finishCopy
    (2 : Fin 28) (tx0 : TxSt) ({ gf0 with started := true } : GFrame) ({ gf0 with
      started := true } : GFrame).bad, ((((ste sendingDev : State).dev : Dev).finishCopy (2 : Fin 28)
    (tx0 : TxSt) ({ gf0 with started := true } : GFrame) ({ gf0 with
      started := true } : GFrame).bad : Dev).chargeShapers (tx0 : TxSt).queue (tx0 : TxSt).committed
    ((((ste sendingDev : State).dev : Dev).finishCopy (2 : Fin 28) (tx0 : TxSt) ({ gf0 with
      started := true } : GFrame) ({ gf0 with started := true } : GFrame).bad : Dev).acctLen (2 : Fin
    28) ({ gf0 with started := true } : GFrame).bytes.length)).depthSub (tx0 : TxSt).queue ({ gf0 with
      started := true } : GFrame).cells, fuse7 (by decide +kernel) ⟨rfl, rfl, rfl⟩⟩, ⟨ste sendingDev, 2,
    1, tx0, { gf0 with started := true }, (ste sendingDev : State).dev.dbe 1, ((ste sendingDev :
    State).dev.dbe 1 : Dev).finishCopy (2 : Fin 28) (tx0 : TxSt) ({ gf0 with
      started := true } : GFrame) true, ((((ste sendingDev : State).dev.dbe 1 : Dev).finishCopy (2 : Fin
    28) (tx0 : TxSt) ({ gf0 with started := true } : GFrame) true : Dev).chargeShapers (tx0 :
    TxSt).queue (tx0 : TxSt).committed ((((ste sendingDev : State).dev.dbe 1 : Dev).finishCopy (2 : Fin
    28) (tx0 : TxSt) ({ gf0 with started := true } : GFrame) true : Dev).acctLen (2 : Fin 28) ({ gf0
    with started := true } : GFrame).bytes.length)).depthSub (tx0 : TxSt).queue ({ gf0 with
      started := true } : GFrame).cells, fuse8 (by decide +kernel) ⟨rfl, rfl, rfl⟩⟩, ⟨ste sendingDev, 2,
    2, tx0, { gf0 with started := true }, (if (ste sendingDev : State).dev.parityArmed (2 : Fin 28) then
    ({ (((ste sendingDev : State).dev.bump F.SW_CT_BAD_COUNT).raise (.sw 0) 2) with
      inject := none }).report 3 ((2 : Fin 28) + 2 ^ 16) else ((((ste sendingDev : State).dev.bump
    F.SW_CT_BAD_COUNT).raise (.sw 0) 2)).report 3 (2 : Fin 28)), ((if (ste sendingDev :
    State).dev.parityArmed (2 : Fin 28) then ({ (((ste sendingDev : State).dev.bump
    F.SW_CT_BAD_COUNT).raise (.sw 0) 2) with inject := none }).report 3 ((2 : Fin 28) + 2 ^ 16) else
    ((((ste sendingDev : State).dev.bump F.SW_CT_BAD_COUNT).raise (.sw 0) 2)).report 3 (2 : Fin 28)) :
    Dev).finishCopy (2 : Fin 28) (tx0 : TxSt) ({ gf0 with
      started := true } : GFrame) true, ((((if (ste sendingDev : State).dev.parityArmed (2 : Fin 28)
    then ({ (((ste sendingDev : State).dev.bump F.SW_CT_BAD_COUNT).raise (.sw 0) 2) with
      inject := none }).report 3 ((2 : Fin 28) + 2 ^ 16) else ((((ste sendingDev : State).dev.bump
    F.SW_CT_BAD_COUNT).raise (.sw 0) 2)).report 3 (2 : Fin 28)) : Dev).finishCopy (2 : Fin 28) (tx0 :
    TxSt) ({ gf0 with started := true } : GFrame) true : Dev).chargeShapers (tx0 : TxSt).queue (tx0 :
    TxSt).committed ((((if (ste sendingDev : State).dev.parityArmed (2 : Fin 28) then ({ (((ste
    sendingDev : State).dev.bump F.SW_CT_BAD_COUNT).raise (.sw 0) 2) with
      inject := none }).report 3 ((2 : Fin 28) + 2 ^ 16) else ((((ste sendingDev : State).dev.bump
    F.SW_CT_BAD_COUNT).raise (.sw 0) 2)).report 3 (2 : Fin 28)) : Dev).finishCopy (2 : Fin 28) (tx0 :
    TxSt) ({ gf0 with started := true } : GFrame) true : Dev).acctLen (2 : Fin 28) ({ gf0 with
      started := true } : GFrame).bytes.length)).depthSub (tx0 : TxSt).queue ({ gf0 with
      started := true } : GFrame).cells, fuse6 (by decide +kernel) ⟨rfl, by decide +kernel, rfl, rfl⟩⟩,
    ⟨ste (fun d => d), 2, 0, by decide +kernel⟩⟩

theorem witness_MacsecTablesAndCounters :
    (∃ (s : State) (i : Init) (n : Fin 16) (ix : Fin 128) (d : Dev), s.dev.reaches i (R.MS_CMD n) = some
      d ∧ d.lockedWrite (R.MS_CMD n) (cmdWord [(F.MS_CMD_GO n, 1), (F.MS_CMD_OP n, 0), (F.MS_CMD_TABLE
      n, boolNat true), (F.MS_CMD_INDEX n, ix)]) = false ∧ d.flag (F.MS_CMD_GO n) = false ∧ ix.val < 68)
      ∧
    (∃ (s : State) (i : Init) (n : Fin 16) (ix : Fin 128) (d : Dev), s.dev.reaches i (R.MS_CMD n) = some
      d ∧ d.lockedWrite (R.MS_CMD n) (cmdWord [(F.MS_CMD_GO n, 1), (F.MS_CMD_OP n, 0), (F.MS_CMD_TABLE
      n, boolNat false), (F.MS_CMD_INDEX n, ix)]) = false ∧ d.flag (F.MS_CMD_GO n) = false ∧ ix.val <
      17) ∧
    (∃ (s : State) (i : Init) (n : Fin 16) (ix : Fin 128) (d : Dev) (sa : Bool), s.dev.reaches i
      (R.MS_CMD n) = some d ∧ d.lockedWrite (R.MS_CMD n) (cmdWord [(F.MS_CMD_GO n, 1), (F.MS_CMD_OP n,
      0), (F.MS_CMD_TABLE n, boolNat sa), (F.MS_CMD_INDEX n, ix)]) = false ∧ d.flag (F.MS_CMD_GO n) =
      false ∧ (if sa then 68 else 17) ≤ ix.val) ∧
    (∃ (s : State) (i : Init) (n : Fin 16) (ix : Fin 128) (d : Dev), s.dev.reaches i (R.MS_CMD n) = some
      d ∧ d.lockedWrite (R.MS_CMD n) (cmdWord [(F.MS_CMD_GO n, 1), (F.MS_CMD_OP n, 1), (F.MS_CMD_TABLE
      n, boolNat false), (F.MS_CMD_INDEX n, ix)]) = false ∧ d.flag (F.MS_CMD_GO n) = false ∧
      (d.commanded (R.MS_CMD n) (cmdWord [(F.MS_CMD_GO n, 1), (F.MS_CMD_OP n, 1), (F.MS_CMD_TABLE n,
      boolNat false), (F.MS_CMD_INDEX n, ix)]) (F.MS_CMD_GO n)).msCode n = 0) ∧
    (∃ (s : State) (i : Init) (n : Fin 16) (ix : Fin 128) (d : Dev), s.dev.reaches i (R.MS_CMD n) = some
      d ∧ d.lockedWrite (R.MS_CMD n) (cmdWord [(F.MS_CMD_GO n, 1), (F.MS_CMD_OP n, 1), (F.MS_CMD_TABLE
      n, boolNat true), (F.MS_CMD_INDEX n, ix)]) = false ∧ d.flag (F.MS_CMD_GO n) = false ∧ (d.commanded
      (R.MS_CMD n) (cmdWord [(F.MS_CMD_GO n, 1), (F.MS_CMD_OP n, 1), (F.MS_CMD_TABLE n, boolNat true),
      (F.MS_CMD_INDEX n, ix)]) (F.MS_CMD_GO n)).msCode n = 0) ∧
    (∃ (s : State) (i : Init) (n : Fin 16) (ix : Fin 128) (d : Dev) (sa : Bool), s.dev.reaches i
      (R.MS_CMD n) = some d ∧ d.lockedWrite (R.MS_CMD n) (cmdWord [(F.MS_CMD_GO n, 1), (F.MS_CMD_OP n,
      1), (F.MS_CMD_TABLE n, boolNat sa), (F.MS_CMD_INDEX n, ix)]) = false ∧ d.flag (F.MS_CMD_GO n) =
      false ∧ (d.commanded (R.MS_CMD n) (cmdWord [(F.MS_CMD_GO n, 1), (F.MS_CMD_OP n, 1),
      (F.MS_CMD_TABLE n, boolNat sa), (F.MS_CMD_INDEX n, ix)]) (F.MS_CMD_GO n)).msCode n = 0x0116) ∧
    (∃ (s : State) (i : Init) (p : Fin 24) (d : Dev), p.val < 16 ∧ s.dev.reaches i (R.EP_CNT_CTRL p) =
      some d ∧ d.lockedWrite (R.EP_CNT_CTRL p) (1) = false) ∧
    (∃ (s : State) (i : Init) (p : Fin 24) (d : Dev), 16 ≤ p.val ∧ s.dev.reaches i (R.TS_CNT_CTRL (p -
      16)) = some d ∧ d.lockedWrite (R.TS_CNT_CTRL (p - 16)) (1) = false) :=
  ⟨⟨st (fun d => d.modSa 2 5 (fun _ => { w0 := 7, ssci := 8, pn := 9 })), .mc, 2, 5, (st (fun d =>
    d.modSa 2 5 (fun _ => { w0 := 7, ssci := 8, pn := 9 }))).dev, Dev.reaches_internal _ _ _ rfl (by
    decide +kernel), by decide +kernel⟩, ⟨run0, .mc, 2, 5, (run0).dev, Dev.reaches_internal _ _ _ rfl
    (by decide +kernel), by decide +kernel⟩, ⟨run0, .mc, 2, 68, (run0).dev, true, Dev.reaches_internal _
    _ _ rfl (by decide +kernel), by decide +kernel⟩, ⟨run0, .mc, 2, 5, (run0).dev, Dev.reaches_internal
    _ _ _ rfl (by decide +kernel), by decide +kernel⟩, ⟨run0, .mc, 2, 5, (run0).dev,
    Dev.reaches_internal _ _ _ rfl (by decide +kernel), by decide +kernel⟩, ⟨run0, .mc, 2, 68,
    (run0).dev, true, Dev.reaches_internal _ _ _ rfl (by decide +kernel), by decide +kernel⟩, ⟨st (fun d
    => d.count 2 cRxFcs), .mc, 2, (st (fun d => d.count 2 cRxFcs)).dev, by decide +kernel,
    Dev.reaches_internal _ _ _ rfl (by decide +kernel), by decide +kernel⟩, ⟨st (fun d => d.count 17
    cRxFcs), .mc, 17, (st (fun d => d.count 17 cRxFcs)).dev, by decide +kernel, Dev.reaches_internal _ _
    _ rfl (by decide +kernel), by decide +kernel⟩⟩

theorem witness_T1sSegments :
    (∃ (s : State) (n : Fin 8), s.dev.portUp (16 + n) = true ∧ s.dev.flag (F.TS_STAT_PLCA_ACTIVE n) =
      true ∧ s.dev.flag (F.TS_STAT_COORD n) = false ∧ (s.dev.port (16 + n)).tx = none ∧ s.dev.arriving
      (16 + n) = none ∧ (s.dev.port (16 + n)).beacon + s.dev.plcaWait n ≤ s.dev.plat.aon) ∧
    (∃ (s : State) (n : Fin 8), s.dev.portUp (16 + n) = true ∧ s.dev.flag (F.TS_STAT_PLCA_ACTIVE n) =
      true ∧ s.dev.flag (F.TS_STAT_COORD n) = true ∧ (s.dev.port (16 + n)).tx = none ∧ s.dev.arriving
      (16 + n) = none ∧ (s.dev.port (16 + n)).beacon + s.dev.plcaWait n ≤ s.dev.plat.aon) ∧
    (∃ (s : State) (n : Fin 8), (s.dev.portUp (16 + n) = false ∨ s.dev.flag (F.TS_STAT_PLCA_ACTIVE n) =
      false ∨ (s.dev.port (16 + n)).tx ≠ none ∨ s.dev.arriving (16 + n) ≠ none ∨ s.dev.plat.aon <
      (s.dev.port (16 + n)).beacon + s.dev.plcaWait n)) ∧
    (∃ (s : State) (n : Fin 8), s.dev.portUp (16 + n) = true ∧ s.dev.flag (F.TS_PLCA_EN n) = true ∧
      s.dev.flag (F.TS_STAT_COORD n) = false) ∧
    (∃ (s : State) (n : Fin 8), (s.dev.portUp (16 + n) = false ∨ s.dev.flag (F.TS_PLCA_EN n) = false ∨
      s.dev.flag (F.TS_STAT_COORD n) = true)) ∧
    (∃ (s : State) (n : Fin 8), s.dev.portUp (16 + n) = true ∧ s.dev.flag (F.TS_STAT_PLCA_ACTIVE n) =
      true ∧ s.dev.flag (F.TS_STAT_COORD n) = false ∧ (s.dev.port (16 + n)).beacon + 400000 ≤
      s.dev.plat.aon) ∧
    (∃ (s : State) (n : Fin 8), (s.dev.portUp (16 + n) = false ∨ s.dev.flag (F.TS_STAT_PLCA_ACTIVE n) =
      false ∨ s.dev.flag (F.TS_STAT_COORD n) = true ∨ s.dev.plat.aon < (s.dev.port (16 + n)).beacon +
      400000)) ∧
    (∃ (s : State) (n : Fin 8) (t : TxSt), (s.dev.port (16 + n)).tx = some t ∧ t.waiting = false ∧
      (s.dev.port (16 + n)).attempts < 16) ∧
    (∃ (s : State) (n : Fin 8) (t : TxSt), (s.dev.port (16 + n)).tx = some t ∧ t.waiting = false ∧ 16 ≤
      (s.dev.port (16 + n)).attempts) ∧
    (∃ (s : State) (n : Fin 8), (s.dev.port (16 + n)).tx.all (fun t => t.waiting) = true) ∧
    (∃ (s : State) (n : Fin 8) (t : TxSt) (u : Nat), (s.dev.port (16 + n)).tx = some t ∧ (s.dev.port (16
      + n)).backoff = some u ∧ t.waiting = true ∧ u ≤ s.dev.plat.aon ∧ s.dev.arriving (16 + n) = none) ∧
    (∃ (s : State) (n : Fin 8), ((s.dev.port (16 + n)).tx.all (fun t => !t.waiting) = true ∨ (s.dev.port
      (16 + n)).backoff.all (fun u => decide (s.dev.plat.aon < u)) = true ∨ s.dev.arriving (16 + n) ≠
      none)) :=
  ⟨⟨ste (fun d => (d.put (F.TS_STAT_PLCA_ACTIVE 1) 1).put (F.TS_PLCA_NODE_ID 1) 2), 1, by
    decide +kernel⟩, ⟨ste (fun d => (d.put (F.TS_STAT_PLCA_ACTIVE 1) 1).put (F.TS_STAT_COORD 1) 1), 1,
    by decide +kernel⟩, ⟨ste (fun d => d), 1, by decide +kernel⟩, ⟨ste (fun d => d.put (F.TS_PLCA_EN 1)
    1), 1, by decide +kernel⟩, ⟨ste (fun d => d), 1, by decide +kernel⟩, ⟨ste (fun d => d.put
    (F.TS_STAT_PLCA_ACTIVE 1) 1), 1, by decide +kernel⟩, ⟨ste (fun d => d), 1, by decide +kernel⟩, ⟨ste
    (fun d => d.modPort 17 (fun x => { x with tx := some tx0, attempts := 3 })), 1, tx0, by
    decide +kernel⟩, ⟨ste (fun d => d.modPort 17 (fun x => { x with
      tx := some tx0, attempts := 16 })), 1, tx0, by decide +kernel⟩, ⟨ste (fun d => d), 1, by
    decide +kernel⟩, ⟨ste (fun d => d.modPort 17 (fun x => { x with
      tx := some { tx0 with waiting := true }, backoff := some 7 })), 1, { tx0 with
      waiting := true }, 7, by decide +kernel⟩, ⟨ste (fun d => d), 1, by decide +kernel⟩⟩

theorem witness_VlanAndLimpWindows_1 :
    ∃ (s : State) (i : Init) (vid : Fin 4096) (d : Dev), s.dev.reaches i (R.SW_VCMD) = some d ∧
      d.lockedWrite (R.SW_VCMD) (cmdWord [(F.SW_VCMD_GO, 1), (F.SW_VCMD_OP, 0), (F.SW_VCMD_VID, vid)]) =
      false ∧ d.flag F.SW_VCMD_GO = false :=
  ⟨st vlanDev, .mc, 1, (st vlanDev).dev, Dev.reaches_internal _ _ _ rfl (by decide +kernel), by
    decide +kernel⟩

theorem witness_VlanAndLimpWindows_2 :
    ∃ (s : State) (i : Init) (vid : Fin 4096) (d : Dev), s.dev.reaches i (R.SW_VCMD) = some d ∧
      d.lockedWrite (R.SW_VCMD) (cmdWord [(F.SW_VCMD_GO, 1), (F.SW_VCMD_OP, 1), (F.SW_VCMD_VID, vid)]) =
      false ∧ d.flag F.SW_VCMD_GO = false ∧ vid ≠ 0 ∧ vid ≠ 4095 :=
  ⟨st (fun d => d.put F.SW_VDATA0_MEMBER 5), .mc, 7, (st (fun d => d.put F.SW_VDATA0_MEMBER 5)).dev,
    Dev.reaches_internal _ _ _ rfl (by decide +kernel), by decide +kernel⟩

theorem witness_VlanAndLimpWindows_3 :
    ∃ (s : State) (i : Init) (vid : Fin 4096) (d : Dev), s.dev.reaches i (R.SW_VCMD) = some d ∧
      d.lockedWrite (R.SW_VCMD) (cmdWord [(F.SW_VCMD_GO, 1), (F.SW_VCMD_OP, 1), (F.SW_VCMD_VID, vid)]) =
      false ∧ d.flag F.SW_VCMD_GO = false ∧ (vid = 0 ∨ vid = 4095) :=
  ⟨run0, .mc, 4095, (run0).dev, Dev.reaches_internal _ _ _ rfl (by decide +kernel), by decide +kernel⟩

theorem witness_VlanAndLimpWindows_4 :
    ∃ (s : State) (i : Init) (ix : Fin 512) (d : Dev), s.dev.reaches i (R.SW_LIMP_CMD) = some d ∧
      d.lockedWrite (R.SW_LIMP_CMD) (cmdWord [(F.SW_LIMP_CMD_GO, 1), (F.SW_LIMP_CMD_OP, 0),
      (F.SW_LIMP_CMD_INDEX, ix)]) = false ∧ d.flag F.SW_LIMP_CMD_GO = false ∧ ix.val < 320 :=
  ⟨st (fun d => { d with sw := { d.sw with stage := [(36, 9)] } }), .mc, 7, (st (fun d => { d with
      sw := { d.sw with stage := [(36, 9)] } })).dev, Dev.reaches_internal _ _ _ rfl (by
    decide +kernel), by decide +kernel⟩

theorem witness_VlanAndLimpWindows_5 :
    ∃ (s : State) (i : Init) (ix : Fin 512) (d : Dev), s.dev.reaches i (R.SW_LIMP_CMD) = some d ∧
      d.lockedWrite (R.SW_LIMP_CMD) (cmdWord [(F.SW_LIMP_CMD_GO, 1), (F.SW_LIMP_CMD_OP, 1),
      (F.SW_LIMP_CMD_INDEX, ix)]) = false ∧ d.flag F.SW_LIMP_CMD_GO = false ∧ ix.val < 320 :=
  ⟨st (fun d => d.put (F.SW_LIMP_DATA_DATA 2) 9), .mc, 319, (st (fun d => d.put (F.SW_LIMP_DATA_DATA 2)
    9)).dev, Dev.reaches_internal _ _ _ rfl (by decide +kernel), by decide +kernel⟩

theorem witness_VlanAndLimpWindows_6 :
    ∃ (s : State) (i : Init) (ix : Fin 512) (d : Dev), 320 ≤ ix.val ∧ s.dev.reaches i (R.SW_LIMP_CMD) =
      some d ∧ d.lockedWrite (R.SW_LIMP_CMD) (cmdWord [(F.SW_LIMP_CMD_GO, 1), (F.SW_LIMP_CMD_OP, 0),
      (F.SW_LIMP_CMD_INDEX, ix)]) = false ∧ d.lockedWrite R.SW_LIMP_CMD (cmdWord [(F.SW_LIMP_CMD_GO, 1),
      (F.SW_LIMP_CMD_OP, 1), (F.SW_LIMP_CMD_INDEX, ix)]) = false ∧ d.flag F.SW_LIMP_CMD_GO = false :=
  ⟨run0, .mc, 320, (run0).dev, by decide +kernel, Dev.reaches_internal _ _ _ rfl (by decide +kernel), by
    decide +kernel⟩

theorem witness_VlanAndLimpWindows_7 :
    ∃ (s : State) (i : Init) (d : Dev) (c : LimpCopy), s.dev.reaches i (R.SW_LIMP_CMD) = some d ∧
      d.lockedWrite (R.SW_LIMP_CMD) (cmdWord [(F.SW_LIMP_CMD_GO, 1), (F.SW_LIMP_CMD_OP, 2)]) = false ∧
      d.flag F.SW_LIMP_CMD_GO = false ∧ { words := d.sw.stage, crc := crc32c (limpBytes d.sw.stage) } =
      c :=
  ⟨run0, .mc, (run0).dev, { words := [], crc := crc32c (limpBytes []) }, Dev.reaches_internal _ _ _ rfl
    (by decide +kernel), by decide +kernel, by decide +kernel, rfl⟩

theorem witness_VlanAndLimpWindows_8 :
    ∃ (s : State) (i : Init) (vid : Fin 4096) (d : Dev), s.dev.reaches i (R.SW_VCMD) = some d ∧
      d.lockedWrite (R.SW_VCMD) (cmdWord [(F.SW_VCMD_GO, 1), (F.SW_VCMD_OP, 1), (F.SW_VCMD_VID, vid)]) =
      false ∧ d.flag F.SW_VCMD_GO = true :=
  ⟨st (fun d => d.put F.SW_VCMD_GO 1), .mc, 7, (st (fun d => d.put F.SW_VCMD_GO 1)).dev,
    Dev.reaches_internal _ _ _ rfl (by decide +kernel), by decide +kernel⟩

theorem witness_LookupWindow :
    (∃ (s : State) (i : Init) (k : Fin 2) (j : Nat) (e : LkEntry) (d : Dev), s.dev.reaches i (R.LK_CMD
      k) = some d ∧ d.lockedWrite (R.LK_CMD k) (cmdWord [(F.LK_CMD_GO k, 1), (F.LK_CMD_OP k, 0)]) =
      false ∧ d.flag (F.LK_CMD_GO k) = false ∧ d.sw.lkHeld = none ∧ d.lkWindowEntry k = e ∧ d.lkFind k
      e.mac e.vid = some j) ∧
    (∃ (s : State) (i : Init) (k : Fin 2) (e : LkEntry) (d : Dev), s.dev.reaches i (R.LK_CMD k) = some d
      ∧ d.lockedWrite (R.LK_CMD k) (cmdWord [(F.LK_CMD_GO k, 1), (F.LK_CMD_OP k, 0)]) = false ∧ d.flag
      (F.LK_CMD_GO k) = false ∧ d.sw.lkHeld = none ∧ d.lkWindowEntry k = e ∧ d.lkFind k e.mac e.vid =
      none) ∧
    (∃ (s : State) (i : Init) (k : Fin 2) (kind : Fin 4) (port : Fin 32) (x : Nat × LkEntry) (d : Dev),
      s.dev.reaches i (R.LK_CMD k) = some d ∧ d.lockedWrite (R.LK_CMD k) (cmdWord [(F.LK_CMD_GO k, 1),
      (F.LK_CMD_OP k, 1), (F.LK_CMD_KIND k, kind), (F.LK_CMD_PORT k, port)]) = false ∧ d.flag
      (F.LK_CMD_GO k) = false ∧ d.sw.lkHeld = none ∧ (d.lkSlice k).tab.find? (fun y => decide (d.get
      (F.LK_CURSOR_INDEX k) ≤ y.1) && lkMatches port kind y.2) = some x) ∧
    (∃ (s : State) (i : Init) (k : Fin 2) (kind : Fin 4) (port : Fin 32) (d : Dev), s.dev.reaches i
      (R.LK_CMD k) = some d ∧ d.lockedWrite (R.LK_CMD k) (cmdWord [(F.LK_CMD_GO k, 1), (F.LK_CMD_OP k,
      1), (F.LK_CMD_KIND k, kind), (F.LK_CMD_PORT k, port)]) = false ∧ d.flag (F.LK_CMD_GO k) = false ∧
      d.sw.lkHeld = none ∧ (d.lkSlice k).tab.find? (fun y => decide (d.get (F.LK_CURSOR_INDEX k) ≤ y.1)
      && lkMatches port kind y.2) = none) ∧
    (∃ (s : State) (i : Init) (k : Fin 2) (j : Nat) (slices : Fin 4) (t : Nat) (e : LkEntry) (d : Dev),
      s.dev.reaches i (R.LK_CMD k) = some d ∧ d.lockedWrite (R.LK_CMD k) (cmdWord [(F.LK_CMD_GO k, 1),
      (F.LK_CMD_OP k, 2), (F.LK_CMD_SLICES k, slices)]) = false ∧ d.flag (F.LK_CMD_GO k) = false ∧
      d.sw.lkHeld = none ∧ (if slices = 0 then k.val = t else slices.val = 2 ^ t ∧ t < 2) ∧
      d.lkWindowEntry k = e ∧ lkEntryOk e = true ∧ d.lkFind t e.mac e.vid = none ∧ (d.lkFree t (lkHash0
      e.mac e.vid) = some j ∨ (d.lkFree t (lkHash0 e.mac e.vid) = none ∧ d.lkFree t (lkHash1 e.mac
      e.vid) = some j))) ∧
    (∃ (s : State) (i : Init) (k : Fin 2) (j : Nat) (slices : Fin 4) (t : Nat) (e : LkEntry) (d : Dev),
      s.dev.reaches i (R.LK_CMD k) = some d ∧ d.lockedWrite (R.LK_CMD k) (cmdWord [(F.LK_CMD_GO k, 1),
      (F.LK_CMD_OP k, 2), (F.LK_CMD_SLICES k, slices)]) = false ∧ d.flag (F.LK_CMD_GO k) = false ∧
      d.sw.lkHeld = none ∧ (if slices = 0 then k.val = t else slices.val = 2 ^ t ∧ t < 2) ∧
      d.lkWindowEntry k = e ∧ lkEntryOk e = true ∧ d.lkFind t e.mac e.vid = some j) ∧
    (∃ (s : State) (i : Init) (k : Fin 2) (path : List (Nat × Nat)) (x : Nat × Nat) (slices : Fin 4) (t
      : Nat) (e : LkEntry) (d : Dev), s.dev.reaches i (R.LK_CMD k) = some d ∧ d.lockedWrite (R.LK_CMD k)
      (cmdWord [(F.LK_CMD_GO k, 1), (F.LK_CMD_OP k, 2), (F.LK_CMD_SLICES k, slices)]) = false ∧ d.flag
      (F.LK_CMD_GO k) = false ∧ d.sw.lkHeld = none ∧ (if slices = 0 then k.val = t else slices.val = 2 ^
      t ∧ t < 2) ∧ d.lkWindowEntry k = e ∧ lkEntryOk e = true ∧ d.lkFind t e.mac e.vid = none ∧ d.lkFree
      t (lkHash0 e.mac e.vid) = none ∧ d.lkFree t (lkHash1 e.mac e.vid) = none ∧ d.lkPath t 16 (lkHash0
      e.mac e.vid) [] = some path ∧ path.getLast? = some x) ∧
    (∃ (s : State) (i : Init) (k : Fin 2) (slices : Fin 4) (t : Nat) (e : LkEntry) (d : Dev),
      s.dev.reaches i (R.LK_CMD k) = some d ∧ d.lockedWrite (R.LK_CMD k) (cmdWord [(F.LK_CMD_GO k, 1),
      (F.LK_CMD_OP k, 2), (F.LK_CMD_SLICES k, slices)]) = false ∧ d.flag (F.LK_CMD_GO k) = false ∧
      d.sw.lkHeld = none ∧ (if slices = 0 then k.val = t else slices.val = 2 ^ t ∧ t < 2) ∧
      d.lkWindowEntry k = e ∧ lkEntryOk e = true ∧ d.lkFind t e.mac e.vid = none ∧ d.lkFree t (lkHash0
      e.mac e.vid) = none ∧ d.lkFree t (lkHash1 e.mac e.vid) = none ∧ d.lkPath t 16 (lkHash0 e.mac
      e.vid) [] = none) ∧
    (∃ (s : State) (i : Init) (k : Fin 2) (slices : Fin 4) (t : Nat) (e : LkEntry) (d : Dev),
      s.dev.reaches i (R.LK_CMD k) = some d ∧ d.lockedWrite (R.LK_CMD k) (cmdWord [(F.LK_CMD_GO k, 1),
      (F.LK_CMD_OP k, 2), (F.LK_CMD_SLICES k, slices)]) = false ∧ d.flag (F.LK_CMD_GO k) = false ∧
      d.sw.lkHeld = none ∧ (if slices = 0 then k.val = t else slices.val = 2 ^ t ∧ t < 2) ∧
      d.lkWindowEntry k = e ∧ lkEntryOk e = false) ∧
    (∃ (s : State) (i : Init) (k : Fin 2) (slices : Fin 4) (t : Nat) (e : LkEntry) (d : Dev),
      s.dev.reaches i (R.LK_CMD k) = some d ∧ d.lockedWrite (R.LK_CMD k) (cmdWord [(F.LK_CMD_GO k, 1),
      (F.LK_CMD_OP k, 3), (F.LK_CMD_SLICES k, slices)]) = false ∧ d.flag (F.LK_CMD_GO k) = false ∧
      d.sw.lkHeld = none ∧ (if slices = 0 then k.val = t else slices.val = 2 ^ t ∧ t < 2) ∧
      d.lkWindowEntry k = e) ∧
    (∃ (s : State) (i : Init) (k : Fin 2) (slices kind : Fin 4) (port : Fin 32) (t : Nat) (d : Dev),
      s.dev.reaches i (R.LK_CMD k) = some d ∧ d.lockedWrite (R.LK_CMD k) (cmdWord [(F.LK_CMD_GO k, 1),
      (F.LK_CMD_OP k, 4), (F.LK_CMD_SLICES k, slices), (F.LK_CMD_KIND k, kind), (F.LK_CMD_PORT k,
      port)]) = false ∧ d.flag (F.LK_CMD_GO k) = false ∧ d.sw.lkHeld = none ∧ (if slices = 0 then k.val
      = t else slices.val = 2 ^ t ∧ t < 2) ∧ kind ≠ 0) ∧
    (∃ (s : State) (i : Init) (k : Fin 2) (slices kind : Fin 4) (port : Fin 32) (t : Nat) (d : Dev),
      s.dev.reaches i (R.LK_CMD k) = some d ∧ d.lockedWrite (R.LK_CMD k) (cmdWord [(F.LK_CMD_GO k, 1),
      (F.LK_CMD_OP k, 4), (F.LK_CMD_SLICES k, slices), (F.LK_CMD_KIND k, kind), (F.LK_CMD_PORT k,
      port)]) = false ∧ d.flag (F.LK_CMD_GO k) = false ∧ d.sw.lkHeld = none ∧ (if slices = 0 then k.val
      = t else slices.val = 2 ^ t ∧ t < 2) ∧ kind = 0) ∧
    (∃ (s : State) (i : Init) (k : Fin 2) (slices kind : Fin 4) (port : Fin 32) (d : Dev), s.dev.reaches
      i (R.LK_CMD k) = some d ∧ d.lockedWrite (R.LK_CMD k) (cmdWord [(F.LK_CMD_GO k, 1), (F.LK_CMD_OP k,
      4), (F.LK_CMD_SLICES k, slices), (F.LK_CMD_KIND k, kind), (F.LK_CMD_PORT k, port)]) = false ∧
      d.flag (F.LK_CMD_GO k) = false ∧ d.sw.lkHeld = none ∧ slices = 3 ∧ kind ≠ 0) ∧
    (∃ (s : State) (i : Init) (k : Fin 2) (slices : Fin 4) (e : LkEntry) (d x y : Dev) (p q : Bool),
      s.dev.reaches i (R.LK_CMD k) = some d ∧ d.lockedWrite (R.LK_CMD k) (cmdWord [(F.LK_CMD_GO k, 1),
      (F.LK_CMD_OP k, 2), (F.LK_CMD_SLICES k, slices)]) = false ∧ d.flag (F.LK_CMD_GO k) = false ∧
      d.sw.lkHeld = none ∧ slices = 3 ∧ d.lkWindowEntry k = e ∧ lkEntryOk e = true ∧ ((d.commanded
      (R.LK_CMD k) (cmdWord [(F.LK_CMD_GO k, 1), (F.LK_CMD_OP k, 2), (F.LK_CMD_SLICES k, slices)])
      (F.LK_CMD_GO k)).setWord (R.LK_RESULT k) 0).lkInsert 0 e = (x, p) ∧ (x.put (lkResultFld k 0) (if p
      then 0 else 0x011C)).lkInsert 1 e = (y, q)) ∧
    (∃ (s : State) (i : Init) (k : Fin 2) (slices : Fin 4) (e : LkEntry) (a b : Option Nat) (d : Dev),
      s.dev.reaches i (R.LK_CMD k) = some d ∧ d.lockedWrite (R.LK_CMD k) (cmdWord [(F.LK_CMD_GO k, 1),
      (F.LK_CMD_OP k, 3), (F.LK_CMD_SLICES k, slices)]) = false ∧ d.flag (F.LK_CMD_GO k) = false ∧
      d.sw.lkHeld = none ∧ slices = 3 ∧ d.lkWindowEntry k = e ∧ d.lkFind 0 e.mac e.vid = a ∧ d.lkFind 1
      e.mac e.vid = b) ∧
    (∃ (s : State) (i : Init) (k : Fin 2) (slices kind : Fin 4) (port : Fin 32) (d : Dev), s.dev.reaches
      i (R.LK_CMD k) = some d ∧ d.lockedWrite (R.LK_CMD k) (cmdWord [(F.LK_CMD_GO k, 1), (F.LK_CMD_OP k,
      0)]) = false ∧ d.lockedWrite (R.LK_CMD k) (cmdWord [(F.LK_CMD_GO k, 1), (F.LK_CMD_OP k, 1),
      (F.LK_CMD_KIND k, kind), (F.LK_CMD_PORT k, port)]) = false ∧ d.lockedWrite (R.LK_CMD k) (cmdWord
      [(F.LK_CMD_GO k, 1), (F.LK_CMD_OP k, 2), (F.LK_CMD_SLICES k, slices)]) = false ∧ d.lockedWrite
      (R.LK_CMD k) (cmdWord [(F.LK_CMD_GO k, 1), (F.LK_CMD_OP k, 3), (F.LK_CMD_SLICES k, slices)]) =
      false ∧ d.lockedWrite (R.LK_CMD k) (cmdWord [(F.LK_CMD_GO k, 1), (F.LK_CMD_OP k, 4),
      (F.LK_CMD_SLICES k, slices), (F.LK_CMD_KIND k, kind), (F.LK_CMD_PORT k, port)]) = false ∧
      d.sw.lkHeld ≠ none ∧ d.flag (F.LK_CMD_GO k) = false) ∧
    (∃ (s : State) (i : Init) (k : Fin 2) (slices kind : Fin 4) (port : Fin 32) (d : Dev), s.dev.reaches
      i (R.LK_CMD k) = some d ∧ d.lockedWrite (R.LK_CMD k) (cmdWord [(F.LK_CMD_GO k, 1), (F.LK_CMD_OP k,
      0)]) = false ∧ d.lockedWrite (R.LK_CMD k) (cmdWord [(F.LK_CMD_GO k, 1), (F.LK_CMD_OP k, 1),
      (F.LK_CMD_KIND k, kind), (F.LK_CMD_PORT k, port)]) = false ∧ d.lockedWrite (R.LK_CMD k) (cmdWord
      [(F.LK_CMD_GO k, 1), (F.LK_CMD_OP k, 2), (F.LK_CMD_SLICES k, slices)]) = false ∧ d.lockedWrite
      (R.LK_CMD k) (cmdWord [(F.LK_CMD_GO k, 1), (F.LK_CMD_OP k, 3), (F.LK_CMD_SLICES k, slices)]) =
      false ∧ d.lockedWrite (R.LK_CMD k) (cmdWord [(F.LK_CMD_GO k, 1), (F.LK_CMD_OP k, 4),
      (F.LK_CMD_SLICES k, slices), (F.LK_CMD_KIND k, kind), (F.LK_CMD_PORT k, port)]) = false ∧ d.flag
      (F.LK_CMD_GO k) = true) :=
  ⟨⟨st lkDev, .mc, 0, lkIndex0, (st lkDev).dev.lkWindowEntry 0, (st lkDev).dev, Dev.reaches_internal _ _
    _ rfl (by decide +kernel), by decide +kernel⟩, ⟨run0, .mc, 0, (run0).dev.lkWindowEntry 0,
    (run0).dev, Dev.reaches_internal _ _ _ rfl (by decide +kernel), by decide +kernel⟩, ⟨st lkDev, .mc,
    0, 1, 2, (lkIndex0, lkEntry0), (st lkDev).dev, Dev.reaches_internal _ _ _ rfl (by decide +kernel),
    by decide +kernel⟩, ⟨st lkDev, .mc, 0, 2, 2, (st lkDev).dev, Dev.reaches_internal _ _ _ rfl (by
    decide +kernel), by decide +kernel⟩, ⟨st (fun d => ((lkKey0 d).put (F.LK_DATA_DATA 0 2) 4).put
    (F.LK_DATA_DATA 0 4) 2), .mc, 0, lkIndex0, 0, 0, (st (fun d => ((lkKey0 d).put (F.LK_DATA_DATA 0 2)
    4).put (F.LK_DATA_DATA 0 4) 2)).dev.lkWindowEntry 0, (st (fun d => ((lkKey0 d).put (F.LK_DATA_DATA 0
    2) 4).put (F.LK_DATA_DATA 0 4) 2)).dev, Dev.reaches_internal _ _ _ rfl (by decide +kernel), by
    decide +kernel⟩, ⟨st (fun d => ((lkDev d).put (F.LK_DATA_DATA 0 2) 8).put (F.LK_DATA_DATA 0 4) 3),
    .mc, 0, lkIndex0, 1, 0, (st (fun d => ((lkDev d).put (F.LK_DATA_DATA 0 2) 8).put (F.LK_DATA_DATA 0
    4) 3)).dev.lkWindowEntry 0, (st (fun d => ((lkDev d).put (F.LK_DATA_DATA 0 2) 8).put (F.LK_DATA_DATA
    0 4) 3)).dev, Dev.reaches_internal _ _ _ rfl (by decide +kernel), by decide +kernel⟩, ⟨st (fun d =>
    lkFull (((lkKey0 d).put (F.LK_DATA_DATA 0 2) 4).put (F.LK_DATA_DATA 0 4) 2)), .mc, 0, (((st (fun d
    => lkFull (((lkKey0 d).put (F.LK_DATA_DATA 0 2) 4).put (F.LK_DATA_DATA 0 4) 2))).dev.lkPath 0 16
    (lkHash0 0x020000000001 5) []).getD []), (((st (fun d => lkFull (((lkKey0 d).put (F.LK_DATA_DATA 0
    2) 4).put (F.LK_DATA_DATA 0 4) 2))).dev.lkPath 0 16 (lkHash0 0x020000000001 5) []).getD
    []).getLast?.getD (0, 0), 0, 0, (st (fun d => lkFull (((lkKey0 d).put (F.LK_DATA_DATA 0 2) 4).put
    (F.LK_DATA_DATA 0 4) 2))).dev.lkWindowEntry 0, (st (fun d => lkFull (((lkKey0 d).put (F.LK_DATA_DATA
    0 2) 4).put (F.LK_DATA_DATA 0 4) 2))).dev, Dev.reaches_internal _ _ _ rfl (by decide +kernel), by
    decide +kernel⟩, ⟨st (fun d => lkStuck (((lkKey0 d).put (F.LK_DATA_DATA 0 2) 4).put (F.LK_DATA_DATA
    0 4) 2)), .mc, 0, 0, 0, (st (fun d => lkStuck (((lkKey0 d).put (F.LK_DATA_DATA 0 2) 4).put
    (F.LK_DATA_DATA 0 4) 2))).dev.lkWindowEntry 0, (st (fun d => lkStuck (((lkKey0 d).put
    (F.LK_DATA_DATA 0 2) 4).put (F.LK_DATA_DATA 0 4) 2))).dev, Dev.reaches_internal _ _ _ rfl (by
    decide +kernel), by decide +kernel⟩, ⟨run0, .mc, 0, 0, 0, (run0).dev.lkWindowEntry 0, (run0).dev,
    Dev.reaches_internal _ _ _ rfl (by decide +kernel), by decide +kernel⟩, ⟨st lkDev, .mc, 0, 0, 0, (st
    lkDev).dev.lkWindowEntry 0, (st lkDev).dev, Dev.reaches_internal _ _ _ rfl (by decide +kernel), by
    decide +kernel⟩, ⟨st lkDev, .mc, 1, 1, 1, 2, 0, (st lkDev).dev, Dev.reaches_internal _ _ _ rfl (by
    decide +kernel), by decide +kernel⟩, ⟨run0, .mc, 1, 0, 0, 2, 1, (run0).dev, Dev.reaches_internal _ _
    _ rfl (by decide +kernel), by decide +kernel⟩, ⟨st lkDev, .mc, 1, 3, 1, 2, (st lkDev).dev,
    Dev.reaches_internal _ _ _ rfl (by decide +kernel), by decide +kernel⟩, ⟨st (fun d => ((lkDev d).put
    (F.LK_DATA_DATA 0 2) 8).put (F.LK_DATA_DATA 0 4) 3), .mc, 0, 3, (st (fun d => ((lkDev d).put
    (F.LK_DATA_DATA 0 2) 8).put (F.LK_DATA_DATA 0 4) 3)).dev.lkWindowEntry 0, (st (fun d => ((lkDev
    d).put (F.LK_DATA_DATA 0 2) 8).put (F.LK_DATA_DATA 0 4) 3)).dev, _, _, _, _, Dev.reaches_internal _
    _ _ rfl (by decide +kernel), fuse6 (by decide +kernel) ⟨tuple2 _, tuple2 _⟩⟩, ⟨st lkDev, .mc, 0, 3,
    (st lkDev).dev.lkWindowEntry 0, some lkIndex0, none, (st lkDev).dev, Dev.reaches_internal _ _ _ rfl
    (by decide +kernel), by decide +kernel⟩, ⟨st (fun d => { lkDev d with
      sw := { d.sw with lkHeld := some 1 } }), .mc, 0, 1, 1, 2, (st (fun d => { lkDev d with
      sw := { d.sw with lkHeld := some 1 } })).dev, Dev.reaches_internal _ _ _ rfl (by decide +kernel),
    by decide +kernel⟩, ⟨st (fun d => (lkDev d).put (F.LK_CMD_GO 0) 1), .mc, 0, 1, 1, 2, (st (fun d =>
    (lkDev d).put (F.LK_CMD_GO 0) 1)).dev, Dev.reaches_internal _ _ _ rfl (by decide +kernel), by
    decide +kernel⟩⟩

theorem witness_LearningAndFilters :
    (∃ (s : State) (i : Init) (k : Fin 2) (d : Dev), s.dev.reaches i (R.LQ_CMD k) = some d ∧
      d.lockedWrite (R.LQ_CMD k) (cmdWord [(F.LQ_CMD_OP k, 1)]) = false ∧ ownerIs (d.get (F.LQ_CFG_OWNER
      k)) i = true) ∧
    (∃ (s : State) (i : Init) (k : Fin 2) (d : Dev), s.dev.reaches i (R.LQ_CMD k) = some d ∧
      d.lockedWrite (R.LQ_CMD k) (cmdWord [(F.LQ_CMD_OP k, 2)]) = false ∧ ownerIs (d.get (F.LQ_CFG_OWNER
      k)) i = true) ∧
    (∃ (s : State) (i : Init) (k : Fin 2) (d : Dev), s.dev.reaches i (R.LQ_CMD k) = some d ∧
      d.lockedWrite (R.LQ_CMD k) (cmdWord [(F.LQ_CMD_OP k, 3)]) = false ∧ ownerIs (d.get (F.LQ_CFG_OWNER
      k)) i = true) ∧
    (∃ (s : State) (i : Init) (k : Fin 2) (count : Fin 64) (d : Dev), s.dev.reaches i (R.LQ_CMD k) =
      some d ∧ d.lockedWrite (R.LQ_CMD k) (cmdWord [(F.LQ_CMD_OP k, 4), (F.LQ_CMD_COUNT k, count)]) =
      false ∧ ownerIs (d.get (F.LQ_CFG_OWNER k)) i = true ∧ count ≠ 0 ∧ count ≤ 32 ∧ count ≤ d.get
      (F.LQ_STAT_RPOS k)) ∧
    (∃ (s : State) (i : Init) (k : Fin 2) (count : Fin 64) (d : Dev), s.dev.reaches i (R.LQ_CMD k) =
      some d ∧ d.lockedWrite (R.LQ_CMD k) (cmdWord [(F.LQ_CMD_OP k, 4), (F.LQ_CMD_COUNT k, count)]) =
      false ∧ ownerIs (d.get (F.LQ_CFG_OWNER k)) i = true ∧ (count = 0 ∨ 32 < count.val ∨ d.get
      (F.LQ_STAT_RPOS k) < count)) ∧
    (∃ (s : State) (i : Init) (k : Fin 2) (count : Fin 64) (d : Dev), s.dev.reaches i (R.LQ_CMD k) =
      some d ∧ d.lockedWrite (R.LQ_CMD k) (cmdWord [(F.LQ_CMD_OP k, 1)]) = false ∧ d.lockedWrite
      (R.LQ_CMD k) (cmdWord [(F.LQ_CMD_OP k, 2)]) = false ∧ d.lockedWrite (R.LQ_CMD k) (cmdWord
      [(F.LQ_CMD_OP k, 3)]) = false ∧ d.lockedWrite (R.LQ_CMD k) (cmdWord [(F.LQ_CMD_OP k, 4),
      (F.LQ_CMD_COUNT k, count)]) = false ∧ ownerIs (d.get (F.LQ_CFG_OWNER k)) i = false) ∧
    (∃ (s : State) (k : Fin 2) (ix : Fin 0x20000) (e : LkEntry), s.dev.enabled (.lk k 0) = true ∧
      s.dev.flag (F.LK_CFG_AGE_EN k) = true ∧ tget (s.dev.lkSlice k).tab ix = e ∧ lkDynamic e = true ∧
      lkRemote k e = false ∧ s.dev.ageDue k e = true ∧ e.hit = true) ∧
    (∃ (s : State) (k : Fin 2) (ix : Fin 0x20000) (e : LkEntry), s.dev.enabled (.lk k 0) = true ∧
      s.dev.flag (F.LK_CFG_AGE_EN k) = true ∧ tget (s.dev.lkSlice k).tab ix = e ∧ lkDynamic e = true ∧
      lkRemote k e = false ∧ s.dev.ageDue k e = true ∧ e.hit = false ∧ e.aged = false) ∧
    (∃ (s : State) (k : Fin 2) (ix : Fin 0x20000) (e : LkEntry) (d1 : Dev), s.dev.enabled (.lk k 0) =
      true ∧ s.dev.flag (F.LK_CFG_AGE_EN k) = true ∧ tget (s.dev.lkSlice k).tab ix = e ∧ lkDynamic e =
      true ∧ lkRemote k e = false ∧ s.dev.ageDue k e = true ∧ e.hit = false ∧ e.aged = true ∧
      s.dev.lkNotice k 3 e.mac e.vid e.srcPort 0 (s.dev.baseNs % 2 ^ 32) = (d1, true)) ∧
    (∃ (s : State) (k : Fin 2) (ix : Fin 0x20000) (e : LkEntry) (d1 : Dev), s.dev.enabled (.lk k 0) =
      true ∧ s.dev.flag (F.LK_CFG_AGE_EN k) = true ∧ tget (s.dev.lkSlice k).tab ix = e ∧ lkDynamic e =
      true ∧ lkRemote k e = false ∧ s.dev.ageDue k e = true ∧ e.hit = false ∧ e.aged = true ∧
      s.dev.lkNotice k 3 e.mac e.vid e.srcPort 0 (s.dev.baseNs % 2 ^ 32) = (d1, false)) ∧
    (∃ (s : State) (k : Fin 2) (ix : Fin 0x20000), (s.dev.enabled (.lk k 0) = false ∨ s.dev.flag
      (F.LK_CFG_AGE_EN k) = false ∨ lkDynamic (tget (s.dev.lkSlice k).tab ix) = false ∨ lkRemote k (tget
      (s.dev.lkSlice k).tab ix) = true ∨ s.dev.ageDue k (tget (s.dev.lkSlice k).tab ix) = false)) ∧
    (∃ (s : State) (p : Fin 24), p.val ∈ s.dev.sw.flush ∧ s.dev.sw.lkHeld = none) ∧
    (∃ (s : State) (p : Fin 24), (p.val ∉ s.dev.sw.flush ∨ s.dev.sw.lkHeld ≠ none)) ∧
    (∃ (s : State) (i : Init) (k : Fin 2) (ix : Fin 8192) (d : Dev), s.dev.reaches i (R.SF_CMD k) = some
      d ∧ d.lockedWrite (R.SF_CMD k) (cmdWord [(F.SF_CMD_GO k, 1), (F.SF_CMD_OP k, 0), (F.SF_CMD_INDEX
      k, ix)]) = false ∧ d.flag (F.SF_CMD_GO k) = false ∧ ix ≠ 0) ∧
    (∃ (s : State) (i : Init) (k : Fin 2) (ix : Fin 8192) (d : Dev), s.dev.reaches i (R.SF_CMD k) = some
      d ∧ d.lockedWrite (R.SF_CMD k) (cmdWord [(F.SF_CMD_GO k, 1), (F.SF_CMD_OP k, 1), (F.SF_CMD_INDEX
      k, ix)]) = false ∧ d.flag (F.SF_CMD_GO k) = false ∧ ix ≠ 0) ∧
    (∃ (s : State) (i : Init) (k : Fin 2) (ix : Fin 8192) (d : Dev), ix = 0 ∧ s.dev.reaches i (R.SF_CMD
      k) = some d ∧ d.lockedWrite (R.SF_CMD k) (cmdWord [(F.SF_CMD_GO k, 1), (F.SF_CMD_OP k, 1),
      (F.SF_CMD_INDEX k, ix)]) = false ∧ d.flag (F.SF_CMD_GO k) = false ∧ d.lockedWrite (R.SF_CMD k)
      (cmdWord [(F.SF_CMD_GO k, 1), (F.SF_CMD_OP k, 0), (F.SF_CMD_INDEX k, ix)]) = false) :=
  ⟨⟨st lqDev, .mc, 1, (st lqDev).dev, Dev.reaches_internal _ _ _ rfl (by decide +kernel), by
    decide +kernel⟩, ⟨st lqDev, .mc, 1, (st lqDev).dev, Dev.reaches_internal _ _ _ rfl (by
    decide +kernel), by decide +kernel⟩, ⟨st (fun d => ((lqDev d).put (F.LQ_STAT_MARK_VALID 1) 1).put
    (F.LQ_STAT_RPOS 1) 2), .mc, 1, (st (fun d => ((lqDev d).put (F.LQ_STAT_MARK_VALID 1) 1).put
    (F.LQ_STAT_RPOS 1) 2)).dev, Dev.reaches_internal _ _ _ rfl (by decide +kernel), by decide +kernel⟩,
    ⟨st (fun d => (lqDev d).put (F.LQ_STAT_RPOS 1) 2), .mc, 1, 1, (st (fun d => (lqDev d).put
    (F.LQ_STAT_RPOS 1) 2)).dev, Dev.reaches_internal _ _ _ rfl (by decide +kernel), by decide +kernel⟩,
    ⟨st lqDev, .mc, 1, 1, (st lqDev).dev, Dev.reaches_internal _ _ _ rfl (by decide +kernel), by
    decide +kernel⟩, ⟨st lqDev, .gv 3, 1, 1, (st lqDev).dev, Dev.reaches_internal _ _ _ rfl (by
    decide +kernel), by decide +kernel⟩, ⟨st (fun d => { ((lkDev d).put (F.CTRL_ENABLE (pageBase (.lk 0
    0))) 1).put (F.LK_CFG_AGE_EN 0) 1 with lk := [(0, {
                                             tab := [(7, { lkEntry0 with
                                               hit := true })] })] }), 0, 7, { lkEntry0 with
      hit := true }, by decide +kernel⟩, ⟨st (fun d => { ((lkDev d).put (F.CTRL_ENABLE (pageBase (.lk 0
    0))) 1).put (F.LK_CFG_AGE_EN 0) 1 with lk := [(0, {
                                             tab := [(7, lkEntry0)] })] }), 0, 7, lkEntry0, by
    decide +kernel⟩, ⟨st (fun d => { ((lkDev d).put (F.CTRL_ENABLE (pageBase (.lk 0 0))) 1).put
    (F.LK_CFG_AGE_EN 0) 1 |>.put (F.LQ_CFG_EN 0) 1 with
      lk := [(0, { tab := [(7, { lkEntry0 with aged := true })] })] }), 0, 7, { lkEntry0 with
      aged := true }, _, fuse8 (by decide +kernel) (tuple2 _)⟩, ⟨st (fun d => { ((lkDev d).put
    (F.CTRL_ENABLE (pageBase (.lk 0 0))) 1).put (F.LK_CFG_AGE_EN 0) 1 |>.put (F.LQ_CFG_EN 0) 0 with
      lk := [(0, { tab := [(7, { lkEntry0 with aged := true })] })] }), 0, 7, { lkEntry0 with
      aged := true }, _, fuse8 (by decide +kernel) (tuple2 _)⟩, ⟨st lkDev, 0, 7, by decide +kernel⟩, ⟨st
    (fun d => { lkDev d with sw := { d.sw with flush := [2] } }), 2, by decide +kernel⟩, ⟨run0, 2, by
    decide +kernel⟩, ⟨st (fun d => d.setFilter 1 7 {
      w0 := 9, passed := 3 }), .mc, 1, 7, (st (fun d => d.setFilter 1 7 {
      w0 := 9, passed := 3 })).dev, Dev.reaches_internal _ _ _ rfl (by decide +kernel), by
    decide +kernel⟩, ⟨st (fun d => (d.setFilter 1 7 {
      w0 := 9, passed := 3 }).put (F.SF_DATA_DATA 1 0) 0xF8000005), .mc, 1, 7, (st (fun d =>
    (d.setFilter 1 7 { w0 := 9, passed := 3 }).put (F.SF_DATA_DATA 1 0) 0xF8000005)).dev,
    Dev.reaches_internal _ _ _ rfl (by decide +kernel), by decide +kernel⟩, ⟨run0, .mc, 1, 0,
    (run0).dev, by decide +kernel, Dev.reaches_internal _ _ _ rfl (by decide +kernel), by
    decide +kernel⟩⟩

theorem witness_TrafficManagerCommands :
    (∃ (s : State) (i : Init) (ix : Fin 8192) (d : Dev), s.dev.reaches i (R.TM_FM_CMD) = some d ∧
      d.lockedWrite (R.TM_FM_CMD) (cmdWord [(F.TM_FM_CMD_GO, 1), (F.TM_FM_CMD_OP, 0),
      (F.TM_FM_CMD_INDEX, ix)]) = false ∧ d.flag F.TM_FM_CMD_GO = false) ∧
    (∃ (s : State) (i : Init) (ix : Fin 8192) (d : Dev), s.dev.reaches i (R.TM_FM_CMD) = some d ∧
      d.lockedWrite (R.TM_FM_CMD) (cmdWord [(F.TM_FM_CMD_GO, 1), (F.TM_FM_CMD_OP, 1),
      (F.TM_FM_CMD_INDEX, ix)]) = false ∧ d.flag F.TM_FM_CMD_GO = false ∧ bitsOf (d.get
      (F.TM_FM_DATA_DATA 1)) 0 28 ≤ 50000000 ∧ bitsOf (d.get (F.TM_FM_DATA_DATA 3)) 0 28 ≤ 50000000 ∧
      bitOf (d.get (F.TM_FM_DATA_DATA 0)) 31 = true ∧ bitOf (d.fm ix).w0 31 = false) ∧
    (∃ (s : State) (i : Init) (ix : Fin 8192) (d : Dev), s.dev.reaches i (R.TM_FM_CMD) = some d ∧
      d.lockedWrite (R.TM_FM_CMD) (cmdWord [(F.TM_FM_CMD_GO, 1), (F.TM_FM_CMD_OP, 1),
      (F.TM_FM_CMD_INDEX, ix)]) = false ∧ d.flag F.TM_FM_CMD_GO = false ∧ bitsOf (d.get
      (F.TM_FM_DATA_DATA 1)) 0 28 ≤ 50000000 ∧ bitsOf (d.get (F.TM_FM_DATA_DATA 3)) 0 28 ≤ 50000000 ∧
      (bitOf (d.get (F.TM_FM_DATA_DATA 0)) 31 = false ∨ bitOf (d.fm ix).w0 31 = true)) ∧
    (∃ (s : State) (i : Init) (ix : Fin 8192) (d : Dev), s.dev.reaches i (R.TM_FM_CMD) = some d ∧
      d.lockedWrite (R.TM_FM_CMD) (cmdWord [(F.TM_FM_CMD_GO, 1), (F.TM_FM_CMD_OP, 1),
      (F.TM_FM_CMD_INDEX, ix)]) = false ∧ d.flag F.TM_FM_CMD_GO = false ∧ (50000000 < bitsOf (d.get
      (F.TM_FM_DATA_DATA 1)) 0 28 ∨ 50000000 < bitsOf (d.get (F.TM_FM_DATA_DATA 3)) 0 28)) ∧
    (∃ (s : State) (i : Init) (p : Fin 28) (d : Dev) (t : Nat), s.dev.reaches i (R.TM_GCL_CTRL p) = some
      d ∧ d.lockedWrite (R.TM_GCL_CTRL p) (d.wordWith (F.TM_GCL_CTRL_COMMIT p) 1) = false ∧ d.flag
      (F.TM_GCL_CTRL_ABORT p) = false ∧ d.flag (F.TM_GCL_CTRL_STOP p) = false ∧ d.get
      (F.TM_GCL_CTRL_DOMAIN p) ≤ 4 ∧ d.flag (F.TM_GCL_STAT_PENDING p) = false ∧ d.gclBad p = false ∧
      d.takeInstant p = t) ∧
    (∃ (s : State) (i : Init) (p : Fin 28) (d : Dev), s.dev.reaches i (R.TM_GCL_CTRL p) = some d ∧
      d.lockedWrite (R.TM_GCL_CTRL p) (d.wordWith (F.TM_GCL_CTRL_COMMIT p) 1) = false ∧ d.flag
      (F.TM_GCL_CTRL_ABORT p) = false ∧ d.flag (F.TM_GCL_CTRL_STOP p) = false ∧ d.get
      (F.TM_GCL_CTRL_DOMAIN p) ≤ 4 ∧ d.flag (F.TM_GCL_STAT_PENDING p) = true) ∧
    (∃ (s : State) (i : Init) (p : Fin 28) (d : Dev), s.dev.reaches i (R.TM_GCL_CTRL p) = some d ∧
      d.lockedWrite (R.TM_GCL_CTRL p) (d.wordWith (F.TM_GCL_CTRL_COMMIT p) 1) = false ∧ d.flag
      (F.TM_GCL_CTRL_ABORT p) = false ∧ d.flag (F.TM_GCL_CTRL_STOP p) = false ∧ d.get
      (F.TM_GCL_CTRL_DOMAIN p) ≤ 4 ∧ d.flag (F.TM_GCL_STAT_PENDING p) = false ∧ d.gclBad p = true) ∧
    (∃ (s : State) (i : Init) (p : Fin 28) (d : Dev), s.dev.reaches i (R.TM_GCL_CTRL p) = some d ∧
      d.lockedWrite (R.TM_GCL_CTRL p) (d.wordWith (F.TM_GCL_CTRL_ABORT p) 1) = false ∧ d.flag
      (F.TM_GCL_CTRL_COMMIT p) = false ∧ d.flag (F.TM_GCL_CTRL_STOP p) = false ∧ d.get
      (F.TM_GCL_CTRL_DOMAIN p) ≤ 4 ∧ d.flag (F.TM_GCL_STAT_PENDING p) = true ∧ d.takeDue p = false) ∧
    (∃ (s : State) (i : Init) (p : Fin 28) (d : Dev), s.dev.reaches i (R.TM_GCL_CTRL p) = some d ∧
      d.lockedWrite (R.TM_GCL_CTRL p) (d.wordWith (F.TM_GCL_CTRL_ABORT p) 1) = false ∧ d.flag
      (F.TM_GCL_CTRL_COMMIT p) = false ∧ d.flag (F.TM_GCL_CTRL_STOP p) = false ∧ d.get
      (F.TM_GCL_CTRL_DOMAIN p) ≤ 4 ∧ (d.flag (F.TM_GCL_STAT_PENDING p) = false ∨ d.takeDue p = true)) ∧
    (∃ (s : State) (i : Init) (p : Fin 28) (d : Dev), s.dev.reaches i (R.TM_GCL_CTRL p) = some d ∧
      d.lockedWrite (R.TM_GCL_CTRL p) (d.wordWith (F.TM_GCL_CTRL_STOP p) 1) = false ∧ d.flag
      (F.TM_GCL_CTRL_COMMIT p) = false ∧ d.flag (F.TM_GCL_CTRL_ABORT p) = false ∧ d.get
      (F.TM_GCL_CTRL_DOMAIN p) ≤ 4) ∧
    (∃ (s : State) (p : Fin 28) (k g : Nat), s.dev.flag (F.TM_GCL_STAT_RUNNING p) = true ∧ s.dev.gateNow
      p = (k, g)) ∧
    (∃ (s : State) (p : Fin 28), s.dev.flag (F.TM_GCL_STAT_RUNNING p) = false) ∧
    (∃ (s : State), s.dev.flag F.TM_SAMPLE_EN = true ∧ s.dev.tm.sampled + s.dev.get
      F.TM_SAMPLE_PERIOD_US * 1000 ≤ s.dev.plat.aon ∧ s.dev.flag F.TM_HIST_CMD_GO = false) ∧
    (∃ (s : State), s.dev.flag F.TM_SAMPLE_EN = true ∧ s.dev.tm.sampled + s.dev.get
      F.TM_SAMPLE_PERIOD_US * 1000 ≤ s.dev.plat.aon ∧ s.dev.flag F.TM_HIST_CMD_GO = true) ∧
    (∃ (s : State), (s.dev.flag F.TM_SAMPLE_EN = false ∨ s.dev.plat.aon < s.dev.tm.sampled + s.dev.get
      F.TM_SAMPLE_PERIOD_US * 1000)) ∧
    (∃ (s : State) (i : Init) (q : Fin 256) (clear : Bool) (d : Dev), s.dev.reaches i (R.TM_HIST_CMD) =
      some d ∧ d.lockedWrite (R.TM_HIST_CMD) (cmdWord [(F.TM_HIST_CMD_GO, 1), (F.TM_HIST_CMD_CLEAR,
      boolNat clear), (F.TM_HIST_CMD_QUEUE, q)]) = false ∧ d.flag F.TM_HIST_CMD_GO = false ∧ q.val < 224
      ∧ d.flag F.TM_SAMPLE_EN = true) ∧
    (∃ (s : State) (i : Init) (q : Fin 256) (clear : Bool) (d : Dev), s.dev.reaches i (R.TM_HIST_CMD) =
      some d ∧ d.lockedWrite (R.TM_HIST_CMD) (cmdWord [(F.TM_HIST_CMD_GO, 1), (F.TM_HIST_CMD_CLEAR,
      boolNat clear), (F.TM_HIST_CMD_QUEUE, q)]) = false ∧ d.flag F.TM_HIST_CMD_GO = true) ∧
    (∃ (s : State) (i : Init) (q : Fin 256) (clear : Bool) (d : Dev), s.dev.reaches i (R.TM_HIST_CMD) =
      some d ∧ d.lockedWrite (R.TM_HIST_CMD) (cmdWord [(F.TM_HIST_CMD_GO, 1), (F.TM_HIST_CMD_CLEAR,
      boolNat clear), (F.TM_HIST_CMD_QUEUE, q)]) = false ∧ d.flag F.TM_HIST_CMD_GO = false ∧ q.val < 224
      ∧ d.flag F.TM_SAMPLE_EN = false) ∧
    (∃ (s : State) (i : Init) (q : Fin 256) (clear : Bool) (d : Dev), s.dev.reaches i (R.TM_HIST_CMD) =
      some d ∧ d.lockedWrite (R.TM_HIST_CMD) (cmdWord [(F.TM_HIST_CMD_GO, 1), (F.TM_HIST_CMD_CLEAR,
      boolNat clear), (F.TM_HIST_CMD_QUEUE, q)]) = false ∧ d.flag F.TM_HIST_CMD_GO = false ∧ 224 ≤
      q.val) :=
  ⟨⟨st (fun d => d.setFm 7 { w0 := 9, red := 3 }), .mc, 7, (st (fun d => d.setFm 7 {
      w0 := 9, red := 3 })).dev, Dev.reaches_internal _ _ _ rfl (by decide +kernel), by decide +kernel⟩,
    ⟨st (fun d => (d.put (F.TM_FM_DATA_DATA 0) 0x80000000).put (F.TM_FM_DATA_DATA 1) 1000), .mc, 7, (st
    (fun d => (d.put (F.TM_FM_DATA_DATA 0) 0x80000000).put (F.TM_FM_DATA_DATA 1) 1000)).dev,
    Dev.reaches_internal _ _ _ rfl (by decide +kernel), by decide +kernel⟩, ⟨st (fun d => (d.put
    (F.TM_FM_DATA_DATA 0) 0x40000000).put (F.TM_FM_DATA_DATA 1) 1000), .mc, 7, (st (fun d => (d.put
    (F.TM_FM_DATA_DATA 0) 0x40000000).put (F.TM_FM_DATA_DATA 1) 1000)).dev, Dev.reaches_internal _ _ _
    rfl (by decide +kernel), by decide +kernel⟩, ⟨st (fun d => d.put (F.TM_FM_DATA_DATA 1) 50000001),
    .mc, 7, (st (fun d => d.put (F.TM_FM_DATA_DATA 1) 50000001)).dev, Dev.reaches_internal _ _ _ rfl (by
    decide +kernel), by decide +kernel⟩, ⟨st (fun d => { ((d.put (F.TM_GCL_LEN_LEN 3) 1).put
    (F.TM_GCL_CYCLE_NS 3) 1000000).put (F.TM_GCL_CTRL_DOMAIN 3) 0 with
      tm := { d.tm with gates := [(1792, ⟨0xFF, 1000000⟩)] } }), .mc, 3, (st (fun d => { ((d.put
    (F.TM_GCL_LEN_LEN 3) 1).put (F.TM_GCL_CYCLE_NS 3) 1000000).put (F.TM_GCL_CTRL_DOMAIN 3) 0 with
      tm := { d.tm with gates := [(1792, ⟨0xFF, 1000000⟩)] } })).dev, 2000000, Dev.reaches_internal _ _
    _ rfl (by decide +kernel), by decide +kernel⟩, ⟨st (fun d => d.put (F.TM_GCL_STAT_PENDING 3) 1),
    .mc, 3, (st (fun d => d.put (F.TM_GCL_STAT_PENDING 3) 1)).dev, Dev.reaches_internal _ _ _ rfl (by
    decide +kernel), by decide +kernel⟩, ⟨run0, .mc, 3, (run0).dev, Dev.reaches_internal _ _ _ rfl (by
    decide +kernel), by decide +kernel⟩, ⟨st (fun d => (d.put (F.TM_GCL_STAT_PENDING 3) 1).modGcl 3 (fun
    g => { g with take := some 9 })), .mc, 3, (st (fun d => (d.put (F.TM_GCL_STAT_PENDING 3) 1).modGcl 3
    (fun g => { g with take := some 9 }))).dev, Dev.reaches_internal _ _ _ rfl (by decide +kernel), by
    decide +kernel⟩, ⟨run0, .mc, 3, (run0).dev, Dev.reaches_internal _ _ _ rfl (by decide +kernel), by
    decide +kernel⟩, ⟨st (fun d => d.put (F.TM_GCL_STAT_RUNNING 3) 1), .mc, 3, (st (fun d => d.put
    (F.TM_GCL_STAT_RUNNING 3) 1)).dev, Dev.reaches_internal _ _ _ rfl (by decide +kernel), by
    decide +kernel⟩, ⟨st (fun d => (d.put (F.TM_GCL_STAT_RUNNING 3) 1).modGcl 3 (fun g => { g with
      cycle := 1000, len := 1 })), 3, 0, 0xFF, by decide +kernel⟩, ⟨run0, 3, by decide +kernel⟩, ⟨st
    (fun d => (d.put F.TM_SAMPLE_EN 1).put F.TM_SAMPLE_PERIOD_US 10), by decide +kernel⟩, ⟨st (fun d =>
    ((d.put F.TM_SAMPLE_EN 1).put F.TM_SAMPLE_PERIOD_US 10).put F.TM_HIST_CMD_GO 1), by decide +kernel⟩,
    ⟨run0, by decide +kernel⟩, ⟨st (fun d => d.put F.TM_SAMPLE_EN 1), .mc, 2, true, (st (fun d => d.put
    F.TM_SAMPLE_EN 1)).dev, Dev.reaches_internal _ _ _ rfl (by decide +kernel), by decide +kernel⟩, ⟨st
    (fun d => d.put F.TM_HIST_CMD_GO 1), .mc, 7, true, (st (fun d => d.put F.TM_HIST_CMD_GO 1)).dev,
    Dev.reaches_internal _ _ _ rfl (by decide +kernel), by decide +kernel⟩, ⟨st (fun d => d.binUp 33),
    .mc, 2, true, (st (fun d => d.binUp 33)).dev, Dev.reaches_internal _ _ _ rfl (by decide +kernel), by
    decide +kernel⟩, ⟨run0, .mc, 224, false, (run0).dev, Dev.reaches_internal _ _ _ rfl (by
    decide +kernel), by decide +kernel⟩⟩

theorem witness_CaptureCommands :
    (∃ (s : State) (x : CapRec) (rest : List CapRec) (d0 d1 : Dev) (r : Nat), s.dev.cp.pend = x :: rest
      ∧ s.dev.flag F.CP_MEM_STAT_SELF_REFRESH = false ∧ ({ s.dev with
        cp := { s.dev.cp with pend := rest } }.put F.CP_BUF_STAT_USED (s.dev.get F.CP_BUF_STAT_USED -
      x.held)) = d0 ∧ d0.get (F.CP_TAP_CFG_RING x.tap) = r ∧ (d0.ringState r = 1 ∨ d0.ringState r = 2) ∧
      d0.ringRoom r (recLen x) = some d1 ∧ d1.recTriggers r x = false) ∧
    (∃ (s : State) (x : CapRec) (rest : List CapRec) (d0 d1 : Dev) (r : Nat), s.dev.cp.pend = x :: rest
      ∧ s.dev.flag F.CP_MEM_STAT_SELF_REFRESH = false ∧ ({ s.dev with
        cp := { s.dev.cp with pend := rest } }.put F.CP_BUF_STAT_USED (s.dev.get F.CP_BUF_STAT_USED -
      x.held)) = d0 ∧ d0.get (F.CP_TAP_CFG_RING x.tap) = r ∧ d0.ringState r = 1 ∧ d0.ringRoom r (recLen
      x) = some d1 ∧ d1.recTriggers r x = true) ∧
    (∃ (s : State) (x : CapRec) (rest : List CapRec) (d0 : Dev) (r : Nat) (b : List Byte), s.dev.cp.pend
      = x :: rest ∧ s.dev.flag F.CP_MEM_STAT_SELF_REFRESH = false ∧ ({ s.dev with
        cp := { s.dev.cp with pend := rest } }.put F.CP_BUF_STAT_USED (s.dev.get F.CP_BUF_STAT_USED -
      x.held)) = d0 ∧ d0.get (F.CP_TAP_CFG_RING x.tap) = r ∧ d0.ringState r = 1 ∧ recLen x + 8 ≤
      d0.ringBytes r - d0.ringHeld r ∧ d0.recTriggers r x = false ∧ recBytes x (d0.ring r).seq (min
      (d0.ring r).lostRun 65535) (x.flags + boolNat (decide (x.data.length < x.orig)) + boolNat
      ((d0.ring r).lostRun != 0) * 2) = b) ∧
    (∃ (s : State) (x : CapRec) (rest : List CapRec) (d0 : Dev) (r : Nat), s.dev.cp.pend = x :: rest ∧
      s.dev.flag F.CP_MEM_STAT_SELF_REFRESH = false ∧ ({ s.dev with
        cp := { s.dev.cp with pend := rest } }.put F.CP_BUF_STAT_USED (s.dev.get F.CP_BUF_STAT_USED -
      x.held)) = d0 ∧ d0.get (F.CP_TAP_CFG_RING x.tap) = r ∧ (d0.ringState r = 3 ∨ ((d0.ringState r = 1
      ∨ d0.ringState r = 2) ∧ d0.ringRoom r (recLen x) = none))) ∧
    (∃ (s : State) (x : CapRec) (rest : List CapRec) (d0 : Dev) (r : Nat), s.dev.cp.pend = x :: rest ∧
      s.dev.flag F.CP_MEM_STAT_SELF_REFRESH = false ∧ ({ s.dev with
        cp := { s.dev.cp with pend := rest } }.put F.CP_BUF_STAT_USED (s.dev.get F.CP_BUF_STAT_USED -
      x.held)) = d0 ∧ d0.get (F.CP_TAP_CFG_RING x.tap) = r ∧ d0.ringState r = 0) ∧
    (∃ (s : State), s.dev.cp.pend = [] ∨ s.dev.flag F.CP_MEM_STAT_SELF_REFRESH = true) ∧
    (∃ (s : State) (i : Init) (r : Fin 16) (d : Dev), s.dev.reaches i (R.CP_RING_CMD r) = some d ∧
      d.lockedWrite (R.CP_RING_CMD r) (cmdWord [(F.CP_RING_CMD_TRIGGER r, 1)]) = false ∧ d.ringState r =
      1 ∧ d.get (F.CP_RING_CFG_POST_KIB r) ≠ 0) ∧
    (∃ (s : State) (i : Init) (r : Fin 16) (d : Dev), s.dev.reaches i (R.CP_RING_CMD r) = some d ∧
      d.lockedWrite (R.CP_RING_CMD r) (cmdWord [(F.CP_RING_CMD_TRIGGER r, 1)]) = false ∧ d.ringState r =
      1 ∧ d.get (F.CP_RING_CFG_POST_KIB r) = 0) ∧
    (∃ (s : State) (i : Init) (r : Fin 16) (d : Dev), s.dev.reaches i (R.CP_RING_CMD r) = some d ∧
      d.lockedWrite (R.CP_RING_CMD r) (cmdWord [(F.CP_RING_CMD_TRIGGER r, 1)]) = false ∧ d.ringState r ≠
      1) ∧
    (∃ (s : State) (i : Init) (r : Fin 16) (d : Dev), s.dev.reaches i (R.CP_RING_CMD r) = some d ∧
      d.lockedWrite (R.CP_RING_CMD r) (cmdWord [(F.CP_RING_CMD_REARM r, 1)]) = false) ∧
    (∃ (s : State) (i : Init) (r : Fin 16) (d : Dev), s.dev.reaches i (R.CP_RING_CMD r) = some d ∧
      d.lockedWrite (R.CP_RING_CMD r) (cmdWord [(F.CP_RING_CMD_RESET_PTR r, 1)]) = false ∧ d.flag
      (F.CP_RING_CFG_EN r) = false) ∧
    (∃ (s : State) (i : Init) (r : Fin 16) (d : Dev), s.dev.reaches i (R.CP_RING_CMD r) = some d ∧
      d.lockedWrite (R.CP_RING_CMD r) (cmdWord [(F.CP_RING_CMD_RESET_PTR r, 1)]) = false ∧ d.flag
      (F.CP_RING_CFG_EN r) = true) ∧
    (∃ (s : State) (k : Fin 4) (ecc : Fin 3) (frame : List Byte) (d1 : Dev), (s.dev.port 27).admitted =
      true ∧ s.dev.avtpTake k ecc = some (frame, d1)) ∧
    (∃ (s : State) (k : Fin 4) (p : Fin 2) (r : Fin 16) (x : Descriptor) (frame : List Byte) (d1 : Dev),
      (s.dev.port 27).admitted = true ∧ s.dev.avtpTake k 0 = some (frame, d1)) ∧
    (∃ (s : State) (k : Fin 4) (ecc : Fin 3) (p : Fin 2) (r : Fin 16) (x : Descriptor), (s.dev.port
      27).admitted = false ∨ s.dev.avtpDue k = false) ∧
    (∃ (s : State) (p : Fin 2) (r : Fin 16) (x : Descriptor), s.dev.ringBusy p r = true ∧ s.dev.flag
      (F.RING_CFG_DIR p r) = true ∧ s.dev.get (F.RING_CFG_KIND p r) = 2) ∧
    (∃ (s : State) (p : Fin 2) (r : Fin 16) (x : Descriptor), (s.dev.ringBusy p r = false ∨ s.dev.flag
      (F.RING_CFG_DIR p r) = false ∨ s.dev.get (F.RING_CFG_KIND p r) ≠ 2)) ∧
    (∃ (s : State), 6 ≤ s.dev.plat.relStep ∧ bitOf s.dev.bypassed 4 = false) ∧
    (∃ (s : State) (ok : Bool), (ok = false ∨ s.dev.plat.relStep < 6 ∨ bitOf s.dev.bypassed 4 = true))
      :=
  ⟨⟨st capDev, cap0, [], ({ (st capDev : State).dev with
      cp := { (st capDev : State).dev.cp with pend := ([] : List CapRec) } }.put F.CP_BUF_STAT_USED ((st
    capDev : State).dev.get F.CP_BUF_STAT_USED - (cap0 : CapRec).held)), _, 2, fuse2 (by decide +kernel)
    ⟨rfl, fuse2 (by decide +kernel) ⟨someOf _ (by decide +kernel), by decide +kernel⟩⟩⟩, ⟨st (fun d =>
    ((capDev d).put (F.CP_RING_CFG_TRIG_SRC 2) 1).put (F.CP_TAP_CFG_TRIG_ON 5) 1), cap0, [], ({ (st (fun
    d => ((capDev d).put (F.CP_RING_CFG_TRIG_SRC 2) 1).put (F.CP_TAP_CFG_TRIG_ON 5) 1) : State).dev with
      cp := { (st (fun d => ((capDev d).put (F.CP_RING_CFG_TRIG_SRC 2) 1).put (F.CP_TAP_CFG_TRIG_ON 5)
        1) : State).dev.cp with pend := ([] : List CapRec) } }.put F.CP_BUF_STAT_USED ((st (fun d =>
    ((capDev d).put (F.CP_RING_CFG_TRIG_SRC 2) 1).put (F.CP_TAP_CFG_TRIG_ON 5) 1) : State).dev.get
    F.CP_BUF_STAT_USED - (cap0 : CapRec).held)), _, 2, fuse2 (by decide +kernel) ⟨rfl, fuse2 (by
    decide +kernel) ⟨someOf _ (by decide +kernel), by decide +kernel⟩⟩⟩, ⟨st capDev, cap0, [], ({ (st
    capDev : State).dev with cp := { (st capDev : State).dev.cp with
                               pend := ([] : List CapRec) } }.put F.CP_BUF_STAT_USED ((st capDev :
    State).dev.get F.CP_BUF_STAT_USED - (cap0 : CapRec).held)), 2, recBytes cap0 0 0 0, fuse2 (by
    decide +kernel) ⟨rfl, by decide +kernel⟩⟩, ⟨st (fun d => (capDev d).put (F.CP_RING_STAT_STATE 2) 3),
    cap0, [], ({ (st (fun d => (capDev d).put (F.CP_RING_STAT_STATE 2) 3) : State).dev with
      cp := { (st (fun d => (capDev d).put (F.CP_RING_STAT_STATE 2) 3) : State).dev.cp with
        pend := ([] : List CapRec) } }.put F.CP_BUF_STAT_USED ((st (fun d => (capDev d).put
    (F.CP_RING_STAT_STATE 2) 3) : State).dev.get F.CP_BUF_STAT_USED - (cap0 : CapRec).held)), 2, fuse2
    (by decide +kernel) ⟨rfl, by decide +kernel⟩⟩, ⟨st (fun d => (capDev d).put (F.CP_RING_STAT_STATE 2)
    0), cap0, [], ({ (st (fun d => (capDev d).put (F.CP_RING_STAT_STATE 2) 0) : State).dev with
      cp := { (st (fun d => (capDev d).put (F.CP_RING_STAT_STATE 2) 0) : State).dev.cp with
        pend := ([] : List CapRec) } }.put F.CP_BUF_STAT_USED ((st (fun d => (capDev d).put
    (F.CP_RING_STAT_STATE 2) 0) : State).dev.get F.CP_BUF_STAT_USED - (cap0 : CapRec).held)), 2, fuse2
    (by decide +kernel) ⟨rfl, by decide +kernel⟩⟩, ⟨st (fun d => (capDev d).put
    F.CP_MEM_STAT_SELF_REFRESH 1), by decide +kernel⟩, ⟨st (fun d => (capDev d).put
    (F.CP_RING_CFG_POST_KIB 2) 1), .mc, 2, (st (fun d => (capDev d).put (F.CP_RING_CFG_POST_KIB 2)
    1)).dev, Dev.reaches_internal _ _ _ rfl (by decide +kernel), by decide +kernel⟩, ⟨st capDev, .mc, 2,
    (st capDev).dev, Dev.reaches_internal _ _ _ rfl (by decide +kernel), by decide +kernel⟩, ⟨run0, .mc,
    2, (run0).dev, Dev.reaches_internal _ _ _ rfl (by decide +kernel), by decide +kernel⟩, ⟨st (fun d =>
    d.put (F.CP_RING_STAT_STATE 2) 3), .mc, 2, (st (fun d => d.put (F.CP_RING_STAT_STATE 2) 3)).dev,
    Dev.reaches_internal _ _ _ rfl (by decide +kernel), by decide +kernel⟩, ⟨st (fun d => d.put
    (F.CP_RING_WPTR_PTR 2) 64), .mc, 2, (st (fun d => d.put (F.CP_RING_WPTR_PTR 2) 64)).dev,
    Dev.reaches_internal _ _ _ rfl (by decide +kernel), by decide +kernel⟩, ⟨st capDev, .mc, 2, (st
    capDev).dev, Dev.reaches_internal _ _ _ rfl (by decide +kernel), by decide +kernel⟩, ⟨st avDev, 1,
    0, _, _, by decide +kernel, someTuple _ (by decide +kernel)⟩, ⟨st avDev, 1, 0, 0, ⟨0, false, false,
    [], 0⟩, _, _, by decide +kernel, someTuple _ (by decide +kernel)⟩, ⟨run0, 1, 0, 0, 0, ⟨0, false,
    false, [], 0⟩, by decide +kernel⟩, ⟨stl (fun d => (((d.put (F.RING_CFG_ENABLE 1 3) 1).put
    (F.RING_CFG_DIR 1 3) 1).put (F.RING_CFG_KIND 1 3) 2).put (F.RING_TAIL_INDEX 1 3) 2), 1, 3, ⟨64,
    false, false, [], 0⟩, by decide +kernel⟩, ⟨run0, 1, 3, ⟨64, false, false, [], 0⟩, by
    decide +kernel⟩, ⟨run0, by decide +kernel⟩, ⟨run0, false, by decide +kernel⟩⟩

theorem witness_SleepGroupCommands :
    (∃ (s : State) (i : Init) (groups : Byte) (d : Dev), s.dev.reaches i (R.PC_GRP_CMD) = some d ∧
      d.lockedWrite (R.PC_GRP_CMD) ((cmdWord [(F.PC_GRP_CMD_GO, 1), (F.PC_GRP_CMD_OP, 0),
      (F.PC_GRP_CMD_GROUPS, groups.toNat)])) = false ∧ (d.flag F.CLR_CFG_EN = false ∨ bitOf groups.toNat
      (d.get F.CLR_CFG_CHAN / 8) = false) ∧ d.get F.CLR_STAT_STATE ≠ 3 ∧ d.get F.CLR_STAT_STATE ≠ 4) ∧
    (∃ (s : State) (i : Init) (groups : Byte) (d : Dev), s.dev.reaches i (R.PC_GRP_CMD) = some d ∧
      d.lockedWrite (R.PC_GRP_CMD) ((cmdWord [(F.PC_GRP_CMD_GO, 1), (F.PC_GRP_CMD_OP, 0),
      (F.PC_GRP_CMD_GROUPS, groups.toNat)])) = false ∧ d.flag F.CLR_CFG_EN = true ∧ bitOf groups.toNat
      (d.get F.CLR_CFG_CHAN / 8) = true) ∧
    (∃ (s : State) (i : Init) (groups : Byte) (d : Dev), s.dev.reaches i (R.PC_GRP_CMD) = some d ∧
      d.lockedWrite (R.PC_GRP_CMD) ((cmdWord [(F.PC_GRP_CMD_GO, 1), (F.PC_GRP_CMD_OP, 0),
      (F.PC_GRP_CMD_GROUPS, groups.toNat)])) = false ∧ (d.flag F.CLR_CFG_EN = false ∨ bitOf groups.toNat
      (d.get F.CLR_CFG_CHAN / 8) = false) ∧ (d.get F.CLR_STAT_STATE = 3 ∨ d.get F.CLR_STAT_STATE = 4)) ∧
    (∃ (s : State) (i : Init) (groups : Byte) (d : Dev), s.dev.reaches i (R.PC_GRP_CMD) = some d ∧
      d.lockedWrite (R.PC_GRP_CMD) ((cmdWord [(F.PC_GRP_CMD_GO, 1), (F.PC_GRP_CMD_OP, 1),
      (F.PC_GRP_CMD_GROUPS, groups.toNat)])) = false) ∧
    (∃ (s : State) (g : Fin 8) (d0 d1 : Dev), s.dev.groupState g = 1 ∧ s.dev.linSends g = false ∧ (if
      s.dev.flag F.PC_GRP_CFG_LIN_GTS then [2 * g.val, 2 * g.val + 1].foldl (fun (a : Dev) n => if
      a.enabled (.lin n) && a.flag (F.LIN_MODE_MASTER n) then a.emit (.linFrame n 0x3C (some (0x00 ::
      List.replicate 7 0xFF))) else a) s.dev else s.dev) = d0 ∧ (((([2 * g.val, 2 * g.val + 1].foldl
      (fun (a : Dev) n => a.modChan (64 + n) (fun x => { x with
        lin := none })) d0).setGroup g 2).bump F.SLEEPS_COUNT).raise (.pc 3) 1) = d1 ∧ ((List.range
      8).all (fun k => d1.groupState k == 2) = false ∨ d1.slp.target = none)) ∧
    (∃ (s : State) (g : Fin 8) (m : Nat) (d0 d1 : Dev), s.dev.groupState g = 1 ∧ s.dev.linSends g =
      false ∧ (if s.dev.flag F.PC_GRP_CFG_LIN_GTS then [2 * g.val, 2 * g.val + 1].foldl (fun (a : Dev) n
      => if a.enabled (.lin n) && a.flag (F.LIN_MODE_MASTER n) then a.emit (.linFrame n 0x3C (some (0x00
      :: List.replicate 7 0xFF))) else a) s.dev else s.dev) = d0 ∧ (((([2 * g.val, 2 * g.val + 1].foldl
      (fun (a : Dev) n => a.modChan (64 + n) (fun x => { x with
        lin := none })) d0).setGroup g 2).bump F.SLEEPS_COUNT).raise (.pc 3) 1) = d1 ∧ (List.range
      8).all (fun k => d1.groupState k == 2) = true ∧ s.dev.slp.target = some m ∧ m < 2 ∧
      s.dev.slp.latched = []) ∧
    (∃ (s : State) (g : Fin 8), s.dev.groupState g ≠ 1 ∨ s.dev.linSends g = true) ∧
    (∃ (s : State) (c : Fin 80), s.dev.slp.target = none ∧ s.dev.groupState (chanGroup c) = 2 ∧
      s.dev.groupWake (chanGroup c) = none ∧ s.dev.mode ≠ 0 ∧ s.dev.clrState ≠ 3) ∧
    (∃ (s : State) (c : Fin 80) (d0 : Dev), s.dev.slp.target = none ∧ s.dev.groupState (chanGroup c) = 2
      ∧ s.dev.groupWake (chanGroup c) = none ∧ s.dev.mode ≠ 0 ∧ s.dev.clrState = 3 ∧ s.dev.bump
      F.BUS_WAKES_COUNT = d0) ∧
    (∃ (s : State) (c : Fin 80), s.dev.slp.target ≠ none) ∧
    (∃ (s : State) (c : Fin 80), s.dev.slp.target = none ∧ (s.dev.groupState (chanGroup c) ≠ 2 ∨
      s.dev.groupWake (chanGroup c) ≠ none ∨ s.dev.mode = 0)) ∧
    (∃ (s : State) (n : Fin 8) (rise : Bool), s.dev.flag (F.PC_WAKE_CFG_EN n) = true ∧ (s.dev.get
      (F.PC_WAKE_CFG_EDGE n) = 2 ∨ s.dev.get (F.PC_WAKE_CFG_EDGE n) = if rise then 0 else 1) ∧
      s.dev.slp.target = none ∧ s.dev.clrState ≠ 3) ∧
    (∃ (s : State) (n : Fin 8) (rise : Bool) (d0 : Dev), s.dev.flag (F.PC_WAKE_CFG_EN n) = true ∧
      (s.dev.get (F.PC_WAKE_CFG_EDGE n) = 2 ∨ s.dev.get (F.PC_WAKE_CFG_EDGE n) = if rise then 0 else 1)
      ∧ s.dev.slp.target = none ∧ s.dev.clrState = 3 ∧ s.dev.bump F.PIN_WAKES_COUNT = d0) ∧
    (∃ (s : State) (n : Fin 8) (rise : Bool), s.dev.flag (F.PC_WAKE_CFG_EN n) = true ∧ (s.dev.get
      (F.PC_WAKE_CFG_EDGE n) = 2 ∨ s.dev.get (F.PC_WAKE_CFG_EDGE n) = if rise then 0 else 1) ∧
      s.dev.slp.target ≠ none) ∧
    (∃ (s : State) (n : Fin 8) (rise : Bool), (s.dev.flag (F.PC_WAKE_CFG_EN n) = false ∨ (s.dev.get
      (F.PC_WAKE_CFG_EDGE n) ≠ 2 ∧ s.dev.get (F.PC_WAKE_CFG_EDGE n) ≠ if rise then 0 else 1))) ∧
    (∃ (s : State) (g : Fin 8) (w : GroupWake), s.dev.groupWake g = some w ∧ w.check = true ∧ w.since +
      msNs (s.dev.get F.PC_GRP_CFG_INH_LEAD_MS) ≤ s.dev.plat.aon) ∧
    (∃ (s : State) (g : Fin 8) (w : GroupWake), s.dev.groupWake g = some w ∧ w.check = true ∧ w.listen =
      true ∧ s.dev.flag F.PC_GRP_CFG_FULL_WAKE = false ∧ s.dev.groupState g ≠ 0 ∧ s.dev.sleeping =
      false) ∧
    (∃ (s : State) (g : Fin 8) (w : GroupWake), s.dev.groupWake g = some w ∧ w.check = true ∧ w.listen =
      true ∧ s.dev.flag F.PC_GRP_CFG_FULL_WAKE = false ∧ s.dev.groupState g ≠ 0 ∧ s.dev.sleeping = true)
      ∧
    (∃ (s : State) (g : Fin 8) (w : GroupWake) (woken : List Nat), s.dev.groupWake g = some w ∧ w.check
      = true ∧ w.listen = true ∧ s.dev.flag F.PC_GRP_CFG_FULL_WAKE = true ∧ s.dev.groupState g ≠ 0 ∧
      s.dev.sleeping = false ∧ (List.range 8).filter (fun k => s.dev.groupState k != 0) = woken) ∧
    (∃ (s : State) (g : Fin 8) (w : GroupWake) (d0 : Dev), s.dev.groupWake g = some w ∧ w.check = true ∧
      w.since + msNs (s.dev.get F.CLR_TIMING2_T_FALSEWAKE_MS) ≤ s.dev.plat.aon ∧ ((s.dev.setGroup g
      2).setWake g none).bump F.FALSE_WAKES_COUNT = d0) ∧
    (∃ (s : State) (g : Fin 8) (w : GroupWake) (woken : List Nat), s.dev.groupWake g = some w ∧ w.check
      = false ∧ s.dev.slp.target = none ∧ w.since + msNs (s.dev.get F.PC_GRP_CFG_INH_LEAD_MS) ≤
      s.dev.plat.aon ∧ (List.range 8).filter (fun k => (k == g.val || s.dev.flag F.PC_GRP_CFG_FULL_WAKE
      || s.dev.wakesWith w k) && s.dev.groupState k != 0) = woken) :=
  ⟨⟨st (fun d => d.setGroup 2 2), .mc, 0x0C, (st (fun d => d.setGroup 2 2)).dev, Dev.reaches_internal _
    _ _ rfl (by decide +kernel), by decide +kernel⟩, ⟨st (fun d => clrDev d 1), .mc, 1, (st (fun d =>
    clrDev d 1)).dev, Dev.reaches_internal _ _ _ rfl (by decide +kernel), by decide +kernel⟩, ⟨st (fun d
    => d.put F.CLR_STAT_STATE 4), .mc, 1, (st (fun d => d.put F.CLR_STAT_STATE 4)).dev,
    Dev.reaches_internal _ _ _ rfl (by decide +kernel), by decide +kernel⟩, ⟨st (fun d => d.setGroup 2
    2), .mc, 0x0C, (st (fun d => d.setGroup 2 2)).dev, Dev.reaches_internal _ _ _ rfl (by
    decide +kernel), by decide +kernel⟩, ⟨st (fun d => (d.put F.PC_GRP_CFG_LIN_GTS 0).setGroup 3 1), 3,
    (if (st (fun d => (d.put F.PC_GRP_CFG_LIN_GTS 0).setGroup 3 1) : State).dev.flag
    F.PC_GRP_CFG_LIN_GTS then [2 * (3 : Fin 8).val, 2 * (3 : Fin 8).val + 1].foldl (fun (a : Dev) n =>
    if a.enabled (.lin n) && a.flag (F.LIN_MODE_MASTER n) then a.emit (.linFrame n 0x3C (some (0x00 ::
    List.replicate 7 0xFF))) else a) (st (fun d => (d.put F.PC_GRP_CFG_LIN_GTS 0).setGroup 3 1) :
    State).dev else (st (fun d => (d.put F.PC_GRP_CFG_LIN_GTS 0).setGroup 3 1) : State).dev), (((([2 *
    (3 : Fin 8).val, 2 * (3 : Fin 8).val + 1].foldl (fun (a : Dev) n => a.modChan (64 + n) (fun x => { x
    with lin := none })) ((if (st (fun d => (d.put F.PC_GRP_CFG_LIN_GTS 0).setGroup 3 1) :
    State).dev.flag F.PC_GRP_CFG_LIN_GTS then [2 * (3 : Fin 8).val, 2 * (3 : Fin 8).val + 1].foldl (fun
    (a : Dev) n => if a.enabled (.lin n) && a.flag (F.LIN_MODE_MASTER n) then a.emit (.linFrame n 0x3C
    (some (0x00 :: List.replicate 7 0xFF))) else a) (st (fun d => (d.put F.PC_GRP_CFG_LIN_GTS
    0).setGroup 3 1) : State).dev else (st (fun d => (d.put F.PC_GRP_CFG_LIN_GTS 0).setGroup 3 1) :
    State).dev) : Dev)).setGroup (3 : Fin 8) 2).bump F.SLEEPS_COUNT).raise (.pc 3) 1), fuse2 (by
    decide +kernel) ⟨rfl, rfl, by decide +kernel⟩⟩, ⟨st (fun d => { ((d.put F.PC_GRP_CFG_LIN_GTS 0).put
    F.PC_GRP_STAT_STATES 0xAAAA).setGroup 3 1 with
      slp := { d.slp with target := some 1 } }), 3, 1, (if (st (fun d => { ((d.put F.PC_GRP_CFG_LIN_GTS
    0).put F.PC_GRP_STAT_STATES 0xAAAA).setGroup 3 1 with
      slp := { d.slp with target := some 1 } }) : State).dev.flag F.PC_GRP_CFG_LIN_GTS then [2 * (3 :
    Fin 8).val, 2 * (3 : Fin 8).val + 1].foldl (fun (a : Dev) n => if a.enabled (.lin n) && a.flag
    (F.LIN_MODE_MASTER n) then a.emit (.linFrame n 0x3C (some (0x00 :: List.replicate 7 0xFF))) else a)
    (st (fun d => { ((d.put F.PC_GRP_CFG_LIN_GTS 0).put F.PC_GRP_STAT_STATES 0xAAAA).setGroup 3 1 with
      slp := { d.slp with target := some 1 } }) : State).dev else (st (fun d => { ((d.put
    F.PC_GRP_CFG_LIN_GTS 0).put F.PC_GRP_STAT_STATES 0xAAAA).setGroup 3 1 with
      slp := { d.slp with target := some 1 } }) : State).dev), (((([2 * (3 : Fin 8).val, 2 * (3 : Fin
    8).val + 1].foldl (fun (a : Dev) n => a.modChan (64 + n) (fun x => { x with
      lin := none })) ((if (st (fun d => { ((d.put F.PC_GRP_CFG_LIN_GTS 0).put F.PC_GRP_STAT_STATES
    0xAAAA).setGroup 3 1 with slp := { d.slp with target := some 1 } }) : State).dev.flag
    F.PC_GRP_CFG_LIN_GTS then [2 * (3 : Fin 8).val, 2 * (3 : Fin 8).val + 1].foldl (fun (a : Dev) n =>
    if a.enabled (.lin n) && a.flag (F.LIN_MODE_MASTER n) then a.emit (.linFrame n 0x3C (some (0x00 ::
    List.replicate 7 0xFF))) else a) (st (fun d => { ((d.put F.PC_GRP_CFG_LIN_GTS 0).put
    F.PC_GRP_STAT_STATES 0xAAAA).setGroup 3 1 with
      slp := { d.slp with target := some 1 } }) : State).dev else (st (fun d => { ((d.put
    F.PC_GRP_CFG_LIN_GTS 0).put F.PC_GRP_STAT_STATES 0xAAAA).setGroup 3 1 with
      slp := { d.slp with target := some 1 } }) : State).dev) : Dev)).setGroup (3 : Fin 8) 2).bump
    F.SLEEPS_COUNT).raise (.pc 3) 1), fuse2 (by decide +kernel) ⟨rfl, rfl, by decide +kernel⟩⟩, ⟨run0,
    3, by decide +kernel⟩, ⟨st (fun d => d.setGroup 3 2), 70, by decide +kernel⟩, ⟨st (fun d => (clrDev
    d 3).setGroup 3 2), 70, (st (fun d => (clrDev d 3).setGroup 3 2) : State).dev.bump
    F.BUS_WAKES_COUNT, fuse5 (by decide +kernel) (rfl)⟩, ⟨st (fun d => { d with
      slp := { d.slp with target := some 1 } }), 70, by decide +kernel⟩, ⟨run0, 70, by decide +kernel⟩,
    ⟨st (fun d => ((d.setGroup 3 2).put (F.PC_WAKE_CFG_EN 2) 1).put (F.PC_WAKE_CFG_GROUPS 2) 8), 2,
    true, by decide +kernel⟩, ⟨st (fun d => ((clrDev d 3).put (F.PC_WAKE_CFG_EN 2) 1).put
    (F.PC_WAKE_CFG_GROUPS 2) 8), 2, true, (st (fun d => ((clrDev d 3).put (F.PC_WAKE_CFG_EN 2) 1).put
    (F.PC_WAKE_CFG_GROUPS 2) 8) : State).dev.bump F.PIN_WAKES_COUNT, fuse4 (by decide +kernel) (rfl)⟩,
    ⟨st (fun d => { (d.put (F.PC_WAKE_CFG_EN 2) 1).put (F.PC_WAKE_CFG_GROUPS 2) 8 with
      slp := { d.slp with target := some 1 } }), 2, true, by decide +kernel⟩, ⟨run0, 2, true, by
    decide +kernel⟩, ⟨st (fun d => wakeDev (late d) { wake0 with
      check := true }), 3, { wake0 with check := true }, by decide +kernel⟩, ⟨st (fun d => wakeDev
    (d.put F.PC_GRP_CFG_FULL_WAKE 0) wake1), 3, wake1, by decide +kernel⟩, ⟨st (fun d => wakeDev ((d.put
    F.PC_GRP_CFG_FULL_WAKE 0).put F.PC_MODE_MODE 1) wake1), 3, wake1, by decide +kernel⟩, ⟨st (fun d =>
    wakeDev ((d.setGroup 5 2).put F.PC_GRP_CFG_FULL_WAKE 1) wake1), 3, wake1, [3, 5], by
    decide +kernel⟩, ⟨st (fun d => wakeDev (late d) wake1), 3, wake1, (((st (fun d => wakeDev (late d)
    wake1) : State).dev.setGroup (3 : Fin 8) 2).setWake (3 : Fin 8) none).bump F.FALSE_WAKES_COUNT,
    fuse3 (by decide +kernel) (rfl)⟩, ⟨st (fun d => wakeDev (((late (d.put F.PC_GRP_CFG_FULL_WAKE
    0)).setGroup 5 2).setWake 5 (some wake0)) wake0), 3, wake0, [3, 5], by decide +kernel⟩⟩

theorem witness_ClearingRing :
    (∃ (s : State), s.dev.clrMay = true ∧ s.dev.clr.joined = false ∧ s.dev.clrNode < 64) ∧
    (∃ (s : State), s.dev.clrMay = false ∨ s.dev.clr.joined = true) ∧
    (∃ (s : State) (n c : Fin 64) (data : List Byte) (f : CanFrame) (d0 : Dev) (m : RingMsg) (e : Dev),
      (s.dev.free (2 ^ 20)).2 = d0 ∧ Fin.ofNat 64 (d0.get F.CLR_CFG_CHAN) = c ∧ {
        fmt := 0, ide := d0.flag F.CLR_ID_IDE, rtr := false, id := BitVec.ofNat 29 (d0.get
          F.CLR_ID_ID_BASE + n), data := data, af := 0, sdt := 0, vcid := 0, sec := false, brs := false,
          esi := false } = f ∧ d0.canHears c = true ∧ d0.ringNode c f = some n.val ∧ ringRead (d0.flag
      F.CLR_CFG_COMPAT) data = some m ∧ (d0.clrState = 1 ∨ d0.clrState = 2) ∧ d0.clr.joined = true ∧
      d0.clrMember n = true ∧ n.val ≠ d0.clrNode ∧ m.kind = 0 ∧ m.next = d0.clrNode ∧ d0.ringRx n data =
      e) ∧
    (∃ (s : State) (n c : Fin 64) (data : List Byte) (f : CanFrame) (d0 : Dev) (m : RingMsg),
      (s.dev.free (2 ^ 20)).2 = d0 ∧ Fin.ofNat 64 (d0.get F.CLR_CFG_CHAN) = c ∧ {
        fmt := 0, ide := d0.flag F.CLR_ID_IDE, rtr := false, id := BitVec.ofNat 29 (d0.get
          F.CLR_ID_ID_BASE + n), data := data, af := 0, sdt := 0, vcid := 0, sec := false, brs := false,
          esi := false } = f ∧ d0.canHears c = true ∧ d0.ringNode c f = some n.val ∧ ringRead (d0.flag
      F.CLR_CFG_COMPAT) data = some m ∧ (d0.clrState = 1 ∨ d0.clrState = 2) ∧ d0.clr.joined = true ∧
      d0.clrMember n = true ∧ n.val ≠ d0.clrNode ∧ m.kind = 3) ∧
    (∃ (s : State) (n c : Fin 64) (data : List Byte) (f : CanFrame) (d0 : Dev) (m : RingMsg),
      (s.dev.free (2 ^ 20)).2 = d0 ∧ Fin.ofNat 64 (d0.get F.CLR_CFG_CHAN) = c ∧ {
        fmt := 0, ide := d0.flag F.CLR_ID_IDE, rtr := false, id := BitVec.ofNat 29 (d0.get
          F.CLR_ID_ID_BASE + n), data := data, af := 0, sdt := 0, vcid := 0, sec := false, brs := false,
          esi := false } = f ∧ d0.canHears c = true ∧ d0.ringNode c f = some n.val ∧ ringRead (d0.flag
      F.CLR_CFG_COMPAT) data = some m ∧ d0.clrState = 3 ∧ d0.clr.joined = true ∧ d0.clrMember n = true ∧
      n.val ≠ d0.clrNode) ∧
    (∃ (s : State) (n c : Fin 64) (data : List Byte) (f : CanFrame) (d0 : Dev) (m : RingMsg),
      (s.dev.free (2 ^ 20)).2 = d0 ∧ Fin.ofNat 64 (d0.get F.CLR_CFG_CHAN) = c ∧ {
        fmt := 0, ide := d0.flag F.CLR_ID_IDE, rtr := false, id := BitVec.ofNat 29 (d0.get
          F.CLR_ID_ID_BASE + n), data := data, af := 0, sdt := 0, vcid := 0, sec := false, brs := false,
          esi := false } = f ∧ d0.canHears c = true ∧ d0.ringNode c f = some n.val ∧ ringRead (d0.flag
      F.CLR_CFG_COMPAT) data = some m ∧ d0.clrState = 4 ∧ d0.clrMember n = true ∧ n.val ≠ d0.clrNode) ∧
    (∃ (s : State) (n c : Fin 64) (data : List Byte) (f : CanFrame) (d0 : Dev), (s.dev.free (2 ^ 20)).2
      = d0 ∧ Fin.ofNat 64 (d0.get F.CLR_CFG_CHAN) = c ∧ {
        fmt := 0, ide := d0.flag F.CLR_ID_IDE, rtr := false, id := BitVec.ofNat 29 (d0.get
          F.CLR_ID_ID_BASE + n), data := data, af := 0, sdt := 0, vcid := 0, sec := false, brs := false,
          esi := false } = f ∧ d0.canHears c = true ∧ d0.ringNode c f = some n.val ∧ (ringRead (d0.flag
      F.CLR_CFG_COMPAT) data = none ∨ d0.clrMember n = false ∨ n.val = d0.clrNode ∨ (d0.clr.joined =
      false ∧ d0.clrState ≠ 4))) ∧
    (∃ (s : State) (n c : Fin 64) (data : List Byte) (f : CanFrame) (d0 : Dev), (s.dev.free (2 ^ 20)).2
      = d0 ∧ Fin.ofNat 64 (d0.get F.CLR_CFG_CHAN) = c ∧ {
        fmt := 0, ide := d0.flag F.CLR_ID_IDE, rtr := false, id := BitVec.ofNat 29 (d0.get
          F.CLR_ID_ID_BASE + n), data := data, af := 0, sdt := 0, vcid := 0, sec := false, brs := false,
          esi := false } = f ∧ d0.canHears c = false) ∧
    (∃ (s : State) (t : Nat), s.dev.ringing = true ∧ s.dev.clr.turn = some t ∧ t + s.dev.clrPeriod ≤
      s.dev.plat.aon ∧ (nodesOf s.dev.clrPresent).head? ≠ some s.dev.clrNode) ∧
    (∃ (s : State) (t : Nat), s.dev.ringing = true ∧ s.dev.clr.turn = some t ∧ t + s.dev.clrPeriod ≤
      s.dev.plat.aon ∧ (nodesOf s.dev.clrPresent).head? = some s.dev.clrNode) ∧
    (∃ (s : State), s.dev.ringing = false ∨ s.dev.clr.turn.any (fun t => decide (t + s.dev.clrPeriod ≤
      s.dev.plat.aon)) = false) ∧
    (∃ (s : State) (n t : Nat) (d1 : Dev), s.dev.ringing = true ∧ s.dev.clr.sent = some (n, t) ∧ t + 2 *
      s.dev.clrPeriod ≤ s.dev.plat.aon ∧ (((s.dev.bump F.RING_SKIPS_COUNT).raise (.pc 4) 5).keeperEnd
      n).markAbsent n = d1) ∧
    (∃ (s : State), s.dev.ringing = false ∨ s.dev.clr.sent.any (fun x => decide (x.2 + 2 *
      s.dev.clrPeriod ≤ s.dev.plat.aon)) = false) ∧
    (∃ (s : State), s.dev.clr.joined = true ∧ s.dev.clrState = 1 ∧ s.dev.clr.heard + ((nodesOf
      s.dev.clrPresent).length + 1) * s.dev.clrPeriod ≤ s.dev.plat.aon) ∧
    (∃ (s : State), s.dev.clr.joined = true ∧ s.dev.clrState = 2 ∧ s.dev.clr.heard + ((nodesOf
      s.dev.clrPresent).length + 1) * s.dev.clrPeriod ≤ s.dev.plat.aon) ∧
    (∃ (s : State), s.dev.ringing = false ∨ ¬ s.dev.clr.heard + ((nodesOf s.dev.clrPresent).length + 1)
      * s.dev.clrPeriod ≤ s.dev.plat.aon) ∧
    (∃ (s : State), s.dev.clr.joined = true ∧ s.dev.clrState = 3 ∧ s.dev.clr.settle + msNs (s.dev.get
      F.CLR_TIMING_T_SETTLE_MS) ≤ s.dev.plat.aon) ∧
    (∃ (s : State), s.dev.clr.joined = false ∨ s.dev.clrState ≠ 3 ∨ ¬ s.dev.clr.settle + msNs (s.dev.get
      F.CLR_TIMING_T_SETTLE_MS) ≤ s.dev.plat.aon) :=
  ⟨⟨st (fun d => { clrDev d 0 with clr := d.clr }), by decide +kernel⟩, ⟨st (fun d => clrDev d 1), by
    decide +kernel⟩, ⟨st (fun d => (fun d => clrDev d 1) (canDev d)), 9, 3, [9, 5, 1, 0, 0, 0, 0, 0], {
      fmt := 0, ide := false, rtr := false, id := 0x409, data := [9, 5, 1, 0, 0, 0, 0, 0], af := 0, sdt
        := 0, vcid := 0, sec := false, brs := false, esi := false }, ((st (fun d => (fun d => clrDev d
    1) (canDev d)) : State).dev.free (2 ^ 20)).2, ⟨0, 5, true, false, 0, 0⟩, (((st (fun d => (fun d =>
    clrDev d 1) (canDev d)) : State).dev.free (2 ^ 20)).2 : Dev).ringRx (9 : Fin 64) ([9, 5, 1, 0, 0, 0,
    0, 0] : List Byte), rfl, fuse11 (by decide +kernel) (rfl)⟩, ⟨st (fun d => (fun d => (clrDev d 1).put
    F.CLR_CFG_COMPAT 1) (canDev d)), 9, 3, [5, 4, 0, 0, 0, 0, 0, 0], {
      fmt := 0, ide := false, rtr := false, id := 0x409, data := [5, 4, 0, 0, 0, 0, 0, 0], af := 0, sdt
        := 0, vcid := 0, sec := false, brs := false, esi := false }, ((st (fun d => (fun d => (clrDev d
    1).put F.CLR_CFG_COMPAT 1) (canDev d)) : State).dev.free (2 ^ 20)).2, ⟨3, 5, false, false, 0, 0⟩,
    rfl, by decide +kernel⟩, ⟨st (fun d => (fun d => clrDev d 3) (canDev d)), 9, 3, [9, 5, 1, 0, 0, 0,
    0, 0], { fmt := 0, ide := false, rtr := false, id := 0x409, data := [9, 5, 1, 0, 0, 0, 0, 0], af :=
               0, sdt := 0, vcid := 0, sec := false, brs := false, esi := false }, ((st (fun d => (fun d
    => clrDev d 3) (canDev d)) : State).dev.free (2 ^ 20)).2, ⟨0, 5, true, false, 0, 0⟩, rfl, by
    decide +kernel⟩, ⟨st (fun d => (fun d => clrDev d 4) (canDev d)), 9, 3, [9, 5, 1, 0, 0, 0, 0, 0], {
      fmt := 0, ide := false, rtr := false, id := 0x409, data := [9, 5, 1, 0, 0, 0, 0, 0], af := 0, sdt
        := 0, vcid := 0, sec := false, brs := false, esi := false }, ((st (fun d => (fun d => clrDev d
    4) (canDev d)) : State).dev.free (2 ^ 20)).2, ⟨0, 5, true, false, 0, 0⟩, rfl, by decide +kernel⟩,
    ⟨st (fun d => (fun d => clrDev d 1) (canDev d)), 9, 3, [9, 5, 0x30, 0, 0, 0, 0, 0], {
      fmt := 0, ide := false, rtr := false, id := 0x409, data := [9, 5, 0x30, 0, 0, 0, 0, 0], af := 0,
        sdt := 0, vcid := 0, sec := false, brs := false, esi := false }, ((st (fun d => (fun d => clrDev
    d 1) (canDev d)) : State).dev.free (2 ^ 20)).2, rfl, by decide +kernel⟩, ⟨st (fun d => (fun d =>
    (clrDev d 1).put (F.CTRL_ENABLE (pageBase (.can 3))) 0) (canDev d)), 9, 3, [9, 5, 1, 0, 0, 0, 0, 0],
    { fmt := 0, ide := false, rtr := false, id := 0x409, data := [9, 5, 1, 0, 0, 0, 0, 0], af := 0, sdt
        := 0, vcid := 0, sec := false, brs := false, esi := false }, ((st (fun d => (fun d => (clrDev d
    1).put (F.CTRL_ENABLE (pageBase (.can 3))) 0) (canDev d)) : State).dev.free (2 ^ 20)).2, rfl, by
    decide +kernel⟩, ⟨st (fun d => late (({ clrDev d 1 with
      clr := { (clrDev d 1).clr with turn := some 5 } } : Dev).put F.CLR_PRESENT_LO_MASK 0x24)), 5, by
    decide +kernel⟩, ⟨st (fun d => late { clrDev d 1 with
      clr := { (clrDev d 1).clr with turn := some 5 } }), 5, by decide +kernel⟩, ⟨st (fun d => clrDev d
    1), by decide +kernel⟩, ⟨st (fun d => late { clrDev d 1 with
      clr := { (clrDev d 1).clr with sent := some (9, 5) } }), 9, 5, ((((st (fun d => late { clrDev d 1
    with clr := { (clrDev d 1).clr with sent := some (9, 5) } }) : State).dev.bump
    F.RING_SKIPS_COUNT).raise (.pc 4) 5).keeperEnd (9 : Nat)).markAbsent (9 : Nat), fuse3 (by
    decide +kernel) (rfl)⟩, ⟨st (fun d => clrDev d 1), by decide +kernel⟩, ⟨st (fun d => late (clrDev d
    1)), by decide +kernel⟩, ⟨st (fun d => late (clrDev d 2)), by decide +kernel⟩, ⟨st (fun d => clrDev
    d 3), by decide +kernel⟩, ⟨st (fun d => late (clrDev d 3)), by decide +kernel⟩, ⟨st (fun d => clrDev
    d 3), by decide +kernel⟩⟩

theorem witness_ClearingHolds :
    (∃ (s : State) (i : Init) (d : Dev), s.dev.reaches i (R.CLR_CMD) = some d ∧ d.lockedWrite
      (R.CLR_CMD) (1) = false ∧ d.clr.joined = true ∧ d.clrState = 1) ∧
    (∃ (s : State) (i : Init) (d : Dev), s.dev.reaches i (R.CLR_CMD) = some d ∧ d.lockedWrite
      (R.CLR_CMD) (1) = false ∧ d.clr.joined = true ∧ d.clrState = 2) ∧
    (∃ (s : State) (i : Init) (d : Dev), s.dev.reaches i (R.CLR_CMD) = some d ∧ d.lockedWrite
      (R.CLR_CMD) (1) = false ∧ d.clr.joined = true ∧ d.clrState = 3) ∧
    (∃ (s : State) (i : Init) (d : Dev), s.dev.reaches i (R.CLR_CMD) = some d ∧ d.lockedWrite
      (R.CLR_CMD) (1) = false ∧ d.clr.joined = false ∧ d.clrState = 4) ∧
    (∃ (s : State) (i : Init) (d : Dev), s.dev.reaches i (R.CLR_CMD) = some d ∧ d.lockedWrite
      (R.CLR_CMD) (1) = false ∧ d.clr.joined = false ∧ d.clrState ≠ 4) ∧
    (∃ (s : State) (i : Init) (v : Word) (d : Dev), s.dev.reaches i (R.CLR_GV_HOLD_LO) = some d ∧
      d.lockedWrite (R.CLR_GV_HOLD_LO) (v) = false) ∧
    (∃ (s : State) (i : Init) (v : Word) (d : Dev), s.dev.reaches i (R.CLR_GV_HOLD_HI) = some d ∧
      d.lockedWrite (R.CLR_GV_HOLD_HI) (v) = false) ∧
    (∃ (s : State) (i : Init) (v : Word) (d : Dev), s.dev.reaches i (R.CLR_GV_REL_LO) = some d ∧
      d.lockedWrite (R.CLR_GV_REL_LO) (v) = false) ∧
    (∃ (s : State) (i : Init) (v : Word) (d : Dev), s.dev.reaches i (R.CLR_GV_REL_HI) = some d ∧
      d.lockedWrite (R.CLR_GV_REL_HI) (v) = false) ∧
    (∃ (s : State) (b : Fin 64), b.val < 32 ∧ bitOf (s.dev.get F.CLR_GV_HOLD_LO_MASK) b = true ∧ tget
      s.dev.clr.holds b + msNs (s.dev.get F.CLR_NM_TIMEOUT_MS) ≤ s.dev.plat.aon) ∧
    (∃ (s : State) (b : Fin 64), 32 ≤ b.val ∧ bitOf (s.dev.get F.CLR_GV_HOLD_HI_MASK) (b - 32) = true ∧
      tget s.dev.clr.holds b + msNs (s.dev.get F.CLR_NM_TIMEOUT_MS) ≤ s.dev.plat.aon) ∧
    (∃ (s : State) (b : Fin 64), ¬ tget s.dev.clr.holds b + msNs (s.dev.get F.CLR_NM_TIMEOUT_MS) ≤
      s.dev.plat.aon) :=
  ⟨⟨st (fun d => clrDev d 1), .mc, (st (fun d => clrDev d 1)).dev, Dev.reaches_internal _ _ _ rfl (by
    decide +kernel), by decide +kernel⟩, ⟨st (fun d => clrDev d 2), .mc, (st (fun d => clrDev d 2)).dev,
    Dev.reaches_internal _ _ _ rfl (by decide +kernel), by decide +kernel⟩, ⟨st (fun d => clrDev d 3),
    .mc, (st (fun d => clrDev d 3)).dev, Dev.reaches_internal _ _ _ rfl (by decide +kernel), by
    decide +kernel⟩, ⟨st (fun d => { clrDev d 4 with
      clr := d.clr }), .mc, (st (fun d => { clrDev d 4 with
      clr := d.clr })).dev, Dev.reaches_internal _ _ _ rfl (by decide +kernel), by decide +kernel⟩,
    ⟨run0, .mc, (run0).dev, Dev.reaches_internal _ _ _ rfl (by decide +kernel), by decide +kernel⟩,
    ⟨run0, .mc, 0x11, (run0).dev, Dev.reaches_internal _ _ _ rfl (by decide +kernel), by
    decide +kernel⟩, ⟨run0, .mc, 0x11, (run0).dev, Dev.reaches_internal _ _ _ rfl (by decide +kernel),
    by decide +kernel⟩, ⟨st (fun d => d.put F.CLR_GV_HOLD_LO_MASK 0x33), .mc, 0x11, (st (fun d => d.put
    F.CLR_GV_HOLD_LO_MASK 0x33)).dev, Dev.reaches_internal _ _ _ rfl (by decide +kernel), by
    decide +kernel⟩, ⟨st (fun d => d.put F.CLR_GV_HOLD_HI_MASK 0x33), .mc, 0x11, (st (fun d => d.put
    F.CLR_GV_HOLD_HI_MASK 0x33)).dev, Dev.reaches_internal _ _ _ rfl (by decide +kernel), by
    decide +kernel⟩, ⟨st (fun d => late (d.put F.CLR_GV_HOLD_LO_MASK 0x33)), 4, by decide +kernel⟩, ⟨st
    (fun d => late (d.put F.CLR_GV_HOLD_HI_MASK 0x33)), 36, by decide +kernel⟩, ⟨run0, 36, by
    decide +kernel⟩⟩

theorem witness_ResetCommands :
    (∃ (s : State) (cut : Bool), s.dev.sc.run = none) ∧
    (∃ (s : State) (straps : Fin 16) (testen : Bool), s.dev.plat.porLow = true) ∧
    (∃ (s : State) (straps : Fin 16) (testen : Bool), s.dev.plat.porLow = false) ∧
    (∃ (s : State), s.dev.plat.rstLow = false) ∧
    (∃ (s : State), s.dev.plat.rstLow = true) ∧
    (∃ (s : State) (i : Init) (key : BitVec 16) (d : Dev), s.dev.reaches i (R.PC_RST_CMD) = some d ∧
      d.lockedWrite (R.PC_RST_CMD) ((cmdWord [(F.PC_RST_CMD_KEY, key.toNat), (F.PC_RST_CMD_COLD, 1)])) =
      false ∧ key = 0x5AC3 ∧ d.plat.porLow = false ∧ d.sc.run = none ∧ d.powering = false) ∧
    (∃ (s : State) (i : Init) (key : BitVec 16) (d : Dev), s.dev.reaches i (R.PC_RST_CMD) = some d ∧
      d.lockedWrite (R.PC_RST_CMD) ((cmdWord [(F.PC_RST_CMD_KEY, key.toNat), (F.PC_RST_CMD_COLD, 1)])) =
      false ∧ key = 0x5AC3 ∧ d.plat.porLow = false ∧ d.sc.run = none ∧ d.powering = true) ∧
    (∃ (s : State) (i : Init) (key : BitVec 16) (d : Dev), s.dev.reaches i (R.PC_RST_CMD) = some d ∧
      d.lockedWrite (R.PC_RST_CMD) ((cmdWord [(F.PC_RST_CMD_KEY, key.toNat), (F.PC_RST_CMD_WARM, 1)])) =
      false ∧ key = 0x5AC3 ∧ d.plat.porLow = false ∧ d.sc.run = none ∧ d.sleeping = false ∧ d.flag
      F.BOOT_STEP_DONE = true ∧ d.clrState < 3) ∧
    (∃ (s : State) (i : Init) (key : BitVec 16) (d : Dev), s.dev.reaches i (R.PC_RST_CMD) = some d ∧
      d.lockedWrite (R.PC_RST_CMD) ((cmdWord [(F.PC_RST_CMD_KEY, key.toNat), (F.PC_RST_CMD_WARM, 1)])) =
      false ∧ key = 0x5AC3 ∧ d.plat.porLow = false ∧ d.sc.run = none ∧ (d.sleeping = true ∨ d.flag
      F.BOOT_STEP_DONE = false) ∧ d.powering = false) ∧
    (∃ (s : State) (i : Init) (key : BitVec 16) (d : Dev) (e : Dev), s.dev.reaches i (R.PC_RST_CMD) =
      some d ∧ d.lockedWrite (R.PC_RST_CMD) ((cmdWord [(F.PC_RST_CMD_KEY, key.toNat),
      (F.PC_RST_CMD_WARM, 1)])) = false ∧ key = 0x5AC3 ∧ d.plat.porLow = false ∧ d.sc.run = none ∧
      d.sleeping = false ∧ d.flag F.BOOT_STEP_DONE = true ∧ d.clrState = 4 ∧ (d.otpCut).chPulseEnds = e)
      ∧
    (∃ (s : State) (i : Init) (key : BitVec 16) (d : Dev), s.dev.reaches i R.PC_RST_CMD = some d ∧
      d.lockedWrite R.PC_RST_CMD (cmdWord [(F.PC_RST_CMD_KEY, key.toNat), (F.PC_RST_CMD_COLD, 1)]) =
      false ∧ d.lockedWrite R.PC_RST_CMD (cmdWord [(F.PC_RST_CMD_KEY, key.toNat), (F.PC_RST_CMD_WARM,
      1)]) = false ∧ key ≠ 0x5AC3) ∧
    (∃ (s : State), s.dev.released (.mc 0) = true ∧ s.dev.flag F.MC_CORE_LOCKSTEP = true) ∧
    (∃ (s : State), s.dev.released (.mc 0) = false ∨ s.dev.flag F.MC_CORE_LOCKSTEP = false) ∧
    (∃ (s : State) (k : Fin 9) (cut : Bool) (e : Dev), k ≠ 1 ∧ k ≠ 8 ∧ s.dev.plat.porLow = false ∧
      s.dev.unwatched k = false ∧ (if cut then s.dev.chPulseCut else s.dev).otpCut = e) ∧
    (∃ (s : State) (cut : Bool), s.dev.plat.porLow = false) ∧
    (∃ (s : State) (k : Fin 9) (cut : Bool), k = 1 ∨ s.dev.plat.porLow = true ∨ s.dev.unwatched k =
      true) :=
  ⟨⟨run0, false, by decide +kernel⟩, ⟨State.reset, 5, false, by decide +kernel⟩, ⟨run0, 5, false, by
    decide +kernel⟩, ⟨run0, by decide +kernel⟩, ⟨st (fun d => d.modPlat (fun p => { p with
      rstLow := true })), by decide +kernel⟩, ⟨run0, .mc, 0x5AC3, (run0).dev, Dev.reaches_internal _ _ _
    rfl (by decide +kernel), by decide +kernel⟩, ⟨st (fun d => (relDev d 8).put F.PC_RST_CAUSE_KIND 1),
    .mc, 0x5AC3, (st (fun d => (relDev d 8).put F.PC_RST_CAUSE_KIND 1)).dev, Dev.reaches_internal _ _ _
    rfl (by decide +kernel), by decide +kernel⟩, ⟨st (fun d => d.put F.BOOT_STEP_DONE 1), .mc, 0x5AC3,
    (st (fun d => d.put F.BOOT_STEP_DONE 1)).dev, Dev.reaches_internal _ _ _ rfl (by decide +kernel), by
    decide +kernel⟩, ⟨run0, .mc, 0x5AC3, (run0).dev, Dev.reaches_internal _ _ _ rfl (by decide +kernel),
    by decide +kernel⟩, ⟨st (fun d => (d.put F.BOOT_STEP_DONE 1).put F.CLR_STAT_STATE 4), .mc, 0x5AC3,
    (st (fun d => (d.put F.BOOT_STEP_DONE 1).put F.CLR_STAT_STATE 4)).dev, (((st (fun d => (d.put
    F.BOOT_STEP_DONE 1).put F.CLR_STAT_STATE 4)).dev : Dev).otpCut).chPulseEnds, Dev.reaches_internal _
    _ _ rfl (by decide +kernel), fuse7 (by decide +kernel) (rfl)⟩, ⟨run0, .mc, 5, (run0).dev,
    Dev.reaches_internal _ _ _ rfl (by decide +kernel), by decide +kernel⟩, ⟨st (fun d => d.put
    F.MC_CORE_LOCKSTEP 1), by decide +kernel⟩, ⟨run0, by decide +kernel⟩, ⟨run0, 3, false, (if (false :
    Bool) then (run0 : State).dev.chPulseCut else (run0 : State).dev).otpCut, fuse4 (by decide +kernel)
    (rfl)⟩, ⟨run0, false, by decide +kernel⟩, ⟨State.reset, 3, false, by decide +kernel⟩⟩

theorem witness_ReleaseAndBoot :
    (∃ (s : State), s.dev.held = false ∧ s.dev.sleeping = false ∧ s.dev.plat.relStep = 0) ∧
    (∃ (s : State) (b : Nat), s.dev.held = false ∧ s.dev.sleeping = false ∧ s.dev.plat.relStep = 1 ∧
      s.dev.plat.removed = false ∧ s.dev.stuck = false ∧ (if bitOf s.dev.plat.boot.flags 0 then
      s.dev.plat.boot.plls else 0) = b) ∧
    (∃ (s : State) (d0 : Dev), s.dev.held = false ∧ s.dev.sleeping = false ∧ s.dev.plat.relStep = 2 ∧
      (s.dev.modPlat (fun p => { p with relStep := 3 })).copyHeal = d0) ∧
    (∃ (s : State), s.dev.held = false ∧ s.dev.sleeping = false ∧ s.dev.plat.relStep = 3 ∧ s.dev.flag
      F.PC_OPT_STAT_DONE = true ∧ s.dev.otpValid = true) ∧
    (∃ (s : State), s.dev.held = false ∧ s.dev.sleeping = false ∧ s.dev.plat.relStep = 3 ∧ s.dev.flag
      F.PC_OPT_STAT_DONE = true ∧ s.dev.otpValid = false) ∧
    (∃ (s : State), s.dev.held = false ∧ s.dev.sleeping = false ∧ s.dev.plat.relStep = 4 ∧
      s.dev.otpValid = true) ∧
    (∃ (s : State), s.dev.held = false ∧ s.dev.sleeping = false ∧ s.dev.plat.relStep = 6) ∧
    (∃ (s : State), s.dev.held = false ∧ s.dev.sleeping = false ∧ s.dev.plat.relStep = 10) ∧
    (∃ (s : State) (k : Nat), s.dev.held = false ∧ s.dev.sleeping = false ∧ s.dev.plat.relStep + 1 = k ∧
      (k = 6 ∨ k = 8 ∨ k = 9 ∨ k = 10)) ∧
    (∃ (s : State), (s.dev.held = true ∨ s.dev.sleeping = true ∨ 11 ≤ s.dev.plat.relStep ∨
      (s.dev.plat.relStep = 1 ∧ (s.dev.plat.removed = true ∨ s.dev.get F.PC_STRAP_CLKSEL = 3 ∨
      s.dev.plat.testen = true)) ∨ (s.dev.plat.relStep = 3 ∧ s.dev.flag F.PC_OPT_STAT_DONE = false) ∨
      (s.dev.plat.relStep = 4 ∧ s.dev.otpValid = false))) ∧
    (∃ (s : State), s.dev.held = false ∧ 11 ≤ s.dev.plat.relStep ∧ s.dev.plat.warmStep = 0) ∧
    (∃ (s : State) (k : Nat), s.dev.held = false ∧ 11 ≤ s.dev.plat.relStep ∧ s.dev.plat.warmStep + 1 = k
      ∧ (k = 3 ∨ k = 4 ∨ k = 5)) ∧
    (∃ (s : State) (k : Nat), s.dev.held = false ∧ 11 ≤ s.dev.plat.relStep ∧ s.dev.plat.warmStep + 1 = k
      ∧ k = 2) ∧
    (∃ (s : State) (k : Nat), s.dev.held = false ∧ 11 ≤ s.dev.plat.relStep ∧ s.dev.plat.warmStep + 1 = k
      ∧ k = 6) ∧
    (∃ (s : State), (s.dev.held = true ∨ s.dev.plat.relStep < 11 ∨ 6 ≤ s.dev.plat.warmStep)) ∧
    (∃ (s : State) (read : List Byte) (k : Nat), s.dev.held = false ∧ s.dev.sleeping = false ∧
      s.dev.flag F.BOOT_STEP_DONE = false ∧ s.dev.bootStep = k ∧ k < 10 ∧ s.dev.bootReady k = true) ∧
    (∃ (s : State) (read : List Byte) (x : List Byte) (path : Nat), s.dev.held = false ∧ s.dev.sleeping
      = false ∧ s.dev.flag F.BOOT_STEP_DONE = false ∧ s.dev.bootStep = 10 ∧ s.dev.bootFetch read = some
      (x, path)) ∧
    (∃ (s : State) (read : List Byte) (x : List Byte) (key : Nat), s.dev.held = false ∧ s.dev.sleeping =
      false ∧ s.dev.flag F.BOOT_STEP_DONE = false ∧ s.dev.bootStep = 11 ∧ s.dev.plat.image = some x ∧
      s.dev.imageVerified x s.dev.bootKind = some key) ∧
    (∃ (s : State) (read : List Byte) (x : List Byte) (d1 : Dev), s.dev.held = false ∧ s.dev.sleeping =
      false ∧ s.dev.flag F.BOOT_STEP_DONE = false ∧ s.dev.bootStep = 12 ∧ s.dev.plat.image = some x ∧
      s.dev.svnOk x = true ∧ (((((s.dev.extend 0 (sha256 s.dev.bootState)).extend 1 (sha256 (x.take
      448))).extend 2 (sha256 (wordBytes s.dev.plat.options 2048))).armWdog).put F.BOOT_STEP_STEP 13) =
      d1) ∧
    (∃ (s : State) (read : List Byte), s.dev.held = false ∧ s.dev.sleeping = false ∧ s.dev.flag
      F.BOOT_STEP_DONE = false ∧ s.dev.bootStep = 13 ∧ s.dev.mode ≠ 11 ∧ s.dev.flag F.MC_CORE_LOCKSTEP =
      true ∧ s.dev.flag F.MC_CORE_TCM_READY = true) ∧
    (∃ (s : State) (read : List Byte), s.dev.held = false ∧ s.dev.sleeping = false ∧ s.dev.flag
      F.BOOT_STEP_DONE = false ∧ s.dev.bootStep = 14 ∧ s.dev.flag F.GV_ROT_STAT_INIT_DONE = true ∧
      s.dev.get F.GV_LOAD_CTRL_STATE = 2) ∧
    (∃ (s : State) (read : List Byte), (s.dev.held = true ∨ s.dev.sleeping = true ∨ s.dev.flag
      F.BOOT_STEP_DONE = true ∨ (s.dev.bootStep < 10 ∧ s.dev.bootReady s.dev.bootStep = false) ∨
      (s.dev.bootStep = 10 ∧ s.dev.bootFetch read = none) ∨ (s.dev.bootStep = 11 ∧ s.dev.bootVerify =
      none) ∨ (s.dev.bootStep = 12 ∧ s.dev.plat.image.all (fun x => !s.dev.svnOk x) = true) ∨
      (s.dev.bootStep = 13 ∧ (s.dev.mode = 11 ∨ s.dev.flag F.MC_CORE_LOCKSTEP = false ∨ s.dev.flag
      F.MC_CORE_TCM_READY = false)) ∨ (s.dev.bootStep = 14 ∧ (s.dev.flag F.GV_ROT_STAT_INIT_DONE = false
      ∨ s.dev.get F.GV_LOAD_CTRL_STATE ≠ 2)) ∨ s.dev.bootStep = 15)) ∧
    (∃ (s : State) (plls : Fin 4096), s.dev.held = false ∧ s.dev.sleeping = false ∧ s.dev.flag
      F.BOOT_STEP_DONE = false ∧ s.dev.bootStep ≤ 14 ∧ s.dev.stuck = false ∧ s.dev.sc.run = none ∧
      s.dev.powering = false) ∧
    (∃ (s : State) (plls : Fin 4096), (s.dev.held = true ∨ s.dev.sleeping = true ∨ s.dev.flag
      F.BOOT_STEP_DONE = true ∨ 14 < s.dev.bootStep ∨ s.dev.stuck = true)) ∧
    (∃ (s : State) (i : Init) (consec : Bool) (flags : Fin 16) (d : Dev), i = .mc ∧ s.dev.reaches i
      (R.PC_BOOT_CLR) = some d ∧ d.lockedWrite (R.PC_BOOT_CLR) ((cmdWord [(F.PC_BOOT_CLR_CONSEC, boolNat
      consec), (F.PC_BOOT_CLR_FLAGS, flags)])) = false) ∧
    (∃ (s : State) (i : Init) (consec : Bool) (flags : Fin 16) (d : Dev), i ≠ .mc ∧ s.dev.reaches i
      (R.PC_BOOT_CLR) = some d ∧ d.lockedWrite (R.PC_BOOT_CLR) ((cmdWord [(F.PC_BOOT_CLR_CONSEC, boolNat
      consec), (F.PC_BOOT_CLR_FLAGS, flags)])) = false) ∧
    (∃ (s : State) (i : Init) (d : Dev), s.dev.reaches i (R.PC_HBOOT_CTRL) = some d ∧ d.lockedWrite
      (R.PC_HBOOT_CTRL) ((cmdWord [(F.PC_HBOOT_CTRL_GO, 1)])) = false ∧ d.get F.PC_STRAP_BOOTSEL = 1 ∧
      d.bootStep = 10) ∧
    (∃ (s : State) (i : Init) (d : Dev), s.dev.reaches i (R.PC_HBOOT_CTRL) = some d ∧ d.lockedWrite
      (R.PC_HBOOT_CTRL) ((cmdWord [(F.PC_HBOOT_CTRL_GO, 1)])) = false ∧ (d.get F.PC_STRAP_BOOTSEL ≠ 1 ∨
      d.bootStep ≠ 10)) ∧
    (∃ (s : State) (image : List Byte), s.dev.get F.PC_HBOOT_CTRL_STATE = 1) ∧
    (∃ (s : State) (image : List Byte), s.dev.get F.PC_HBOOT_CTRL_STATE = 1) ∧
    (∃ (s : State) (image : List Byte) (ok : Bool), s.dev.get F.PC_HBOOT_CTRL_STATE ≠ 1) :=
  ⟨⟨st (fun d => relDev d 0), by decide +kernel⟩, ⟨st (fun d => relDev d 1), 0, by decide +kernel⟩, ⟨st
    (fun d => relDev d 2), ((st (fun d => relDev d 2) : State).dev.modPlat (fun p => { p with
      relStep := 3 })).copyHeal, fuse3 (by decide +kernel) (rfl)⟩, ⟨st (fun d => ((relDev d 3).put
    F.PC_OPT_STAT_DONE 1).modSc (fun x => { x with
      otp := { x.otp with stage := 0 } })), by decide +kernel⟩, ⟨st (fun d => ((relDev d 3).put
    F.PC_OPT_STAT_DONE 1).modSc (fun x => { x with
      otp := { x.otp with stage := 9 } })), by decide +kernel⟩, ⟨st (fun d => relDev d 4), by
    decide +kernel⟩, ⟨st (fun d => relDev d 6), by decide +kernel⟩, ⟨st (fun d => relDev d 10), by
    decide +kernel⟩, ⟨st (fun d => relDev d 8), 9, by decide +kernel⟩, ⟨State.reset, by decide +kernel⟩,
    ⟨st (fun d => d.modPlat (fun p => { p with warmStep := 0 })), by decide +kernel⟩, ⟨st (fun d =>
    d.modPlat (fun p => { p with warmStep := 2 })), 3, by decide +kernel⟩, ⟨st (fun d => d.modPlat (fun
    p => { p with warmStep := 1 })), 2, by decide +kernel⟩, ⟨st (fun d => d.modPlat (fun p => { p with
      warmStep := 5 })), 6, by decide +kernel⟩, ⟨run0, by decide +kernel⟩, ⟨st (fun d => bootDev d 4),
    [], 4, by decide +kernel⟩, ⟨st (fun d => (bootDev d 10).put F.PC_STRAP_BOOTSEL 0), [1, 2], [1, 2],
    0, by decide +kernel⟩, ⟨st (fun d => ((bootDev d 11).modPlat (fun p => { p with
      image := some fw0 })).modSc (fun x => { x with
      lc := 0 })), [], fw0, 6, by decide +kernel⟩, ⟨st (fun d => ((bootDev d 12).put F.PC_MODE_MODE
    3).modPlat (fun p => { p with image := some fw0 })), [], fw0, ((((((st (fun d => ((bootDev d 12).put
    F.PC_MODE_MODE 3).modPlat (fun p => { p with image := some fw0 })) : State).dev.extend 0 (sha256 (st
    (fun d => ((bootDev d 12).put F.PC_MODE_MODE 3).modPlat (fun p => { p with
      image := some fw0 })) : State).dev.bootState)).extend 1 (sha256 ((fw0 : List Byte).take
    448))).extend 2 (sha256 (wordBytes (st (fun d => ((bootDev d 12).put F.PC_MODE_MODE 3).modPlat (fun
    p => { p with image := some fw0 })) : State).dev.plat.options 2048))).armWdog).put F.BOOT_STEP_STEP
    13), fuse6 (by decide +kernel) (rfl)⟩, ⟨st (fun d => ((bootDev d 13).put F.MC_CORE_LOCKSTEP 1).put
    F.MC_CORE_TCM_READY 1), [], by decide +kernel⟩, ⟨st (fun d => ((bootDev d 14).put
    F.GV_ROT_STAT_INIT_DONE 1).put F.GV_LOAD_CTRL_STATE 2), [], by decide +kernel⟩, ⟨st (fun d =>
    bootDev d 11), [], by decide +kernel⟩, ⟨st (fun d => bootDev d 6), 3, by decide +kernel⟩,
    ⟨State.reset, 3, by decide +kernel⟩, ⟨st (fun d => d.modPlat (fun p => { p with
      boot := { p.boot with consec := 2, flags := 7 } })), .mc, true, 3, (st (fun d => d.modPlat (fun p
    => { p with boot := { p.boot with consec := 2, flags := 7 } }))).dev, by decide +kernel,
    Dev.reaches_internal _ _ _ rfl (by decide +kernel), by decide +kernel⟩, ⟨run0, .gv 3, true, 3,
    (run0).dev, by decide +kernel, Dev.reaches_internal _ _ _ rfl (by decide +kernel), by
    decide +kernel⟩, ⟨st (fun d => (d.put F.PC_STRAP_BOOTSEL 1).put F.BOOT_STEP_STEP 10), .mc, (st (fun
    d => (d.put F.PC_STRAP_BOOTSEL 1).put F.BOOT_STEP_STEP 10)).dev, Dev.reaches_internal _ _ _ rfl (by
    decide +kernel), by decide +kernel⟩, ⟨run0, .mc, (run0).dev, Dev.reaches_internal _ _ _ rfl (by
    decide +kernel), by decide +kernel⟩, ⟨st (fun d => (d.put F.PC_HBOOT_CTRL_STATE 1).put
    F.PC_HBOOT_LEN_BYTES 3), [1, 2], by decide +kernel⟩, ⟨st (fun d => (d.put F.PC_HBOOT_CTRL_STATE
    1).put F.PC_HBOOT_LEN_BYTES 3), [1, 2], by decide +kernel⟩, ⟨run0, [1], true, by decide +kernel⟩⟩

theorem witness_WatchdogModesAndMonitors :
    (∃ (s : State) (i : Init) (v : BitVec 16) (d : Dev), s.dev.reaches i (R.PC_WDOG_KICK) = some d ∧
      d.lockedWrite (R.PC_WDOG_KICK) (v.setWidth 32) = false ∧ v = 0x5AC3 ∧ d.flag F.PC_WDOG_CFG_EN =
      true) ∧
    (∃ (s : State) (i : Init) (v : BitVec 16) (d : Dev), s.dev.reaches i (R.PC_WDOG_KICK) = some d ∧
      d.lockedWrite (R.PC_WDOG_KICK) (v.setWidth 32) = false ∧ v ≠ 0x5AC3 ∧ d.flag F.PC_WDOG_CFG_EN =
      true) ∧
    (∃ (s : State) (i : Init) (v : BitVec 16) (d : Dev), s.dev.reaches i (R.PC_WDOG_KICK) = some d ∧
      d.lockedWrite (R.PC_WDOG_KICK) (v.setWidth 32) = false ∧ d.flag F.PC_WDOG_CFG_EN = false) ∧
    (∃ (s : State) (t : Nat), s.dev.sleeping = false ∧ s.dev.plat.wdog = some t ∧ t ≤ s.dev.plat.aon ∧
      s.dev.flag F.BOOT_STEP_DONE = true) ∧
    (∃ (s : State) (t : Nat), s.dev.sleeping = false ∧ s.dev.plat.wdog = some t ∧ t ≤ s.dev.plat.aon ∧
      s.dev.flag F.BOOT_STEP_DONE = false) ∧
    (∃ (s : State), s.dev.sleeping = true ∨ s.dev.plat.wdog.any (fun t => decide (t ≤ s.dev.plat.aon)) =
      false) ∧
    (∃ (s : State) (i : Init) (m : Fin 16) (x : Nat) (d : Dev), s.dev.reaches i (R.PC_MODE_REQ) = some d
      ∧ d.lockedWrite (R.PC_MODE_REQ) ((cmdWord [(F.PC_MODE_REQ_GO, 1), (F.PC_MODE_REQ_MODE, m)])) =
      false ∧ 6 ≤ d.plat.warmStep ∧ ((m = 11 ∧ x = 11 ∧ 2 ≤ d.mode ∧ d.mode ≠ 7 ∧ d.mode ≠ 10 ∧ d.mode ≠
      11) ∨ (d.mode = 2 ∧ m = 4 ∧ d.mayRun = true ∧ x = d.serviceMode) ∨ (d.mode = 2 ∧ m = 10 ∧ (d.sc.lc
      = 0 ∨ d.sc.lc = 1) ∧ x = 10) ∨ ((d.mode = 4 ∨ d.mode = 5 ∨ d.mode = 6) ∧ m = 7 ∧ x = 7) ∨ ((d.mode
      = 4 ∨ d.mode = 5 ∨ d.mode = 6) ∧ m = 9 ∧ d.slp.target = none ∧ ¬(d.sc.lc = 3 ∧ d.sc.level = 0) ∧ x
      = 9) ∨ (d.mode = 9 ∧ m = 4 ∧ x = if d.healthyCount = 16 then 4 else 6))) ∧
    (∃ (s : State) (i : Init) (m : Fin 16) (d : Dev), s.dev.reaches i (R.PC_MODE_REQ) = some d ∧
      d.lockedWrite (R.PC_MODE_REQ) ((cmdWord [(F.PC_MODE_REQ_GO, 1), (F.PC_MODE_REQ_MODE, m)])) = false
      ∧ 6 ≤ d.plat.warmStep ∧ (d.mode = 4 ∨ d.mode = 5 ∨ d.mode = 6) ∧ d.slp.target = none ∧ m = 9 ∧
      ¬(d.sc.lc = 3 ∧ d.sc.level = 0)) ∧
    (∃ (s : State) (i : Init) (m : Fin 16) (d : Dev), s.dev.reaches i (R.PC_MODE_REQ) = some d ∧
      d.lockedWrite (R.PC_MODE_REQ) ((cmdWord [(F.PC_MODE_REQ_GO, 1), (F.PC_MODE_REQ_MODE, m)])) = false
      ∧ 6 ≤ d.plat.warmStep ∧ d.mode = 2 ∧ m = 4 ∧ d.mayRun = true ∧ d.slp.target = none ∧ 14 ≤
      d.bootStep ∧ d.flag F.BOOT_STEP_DONE = false ∧ d.healthyCount = 16) ∧
    (∃ (s : State) (i : Init) (m : Fin 16) (d : Dev), s.dev.reaches i (R.PC_MODE_REQ) = some d ∧
      d.lockedWrite (R.PC_MODE_REQ) ((cmdWord [(F.PC_MODE_REQ_GO, 1), (F.PC_MODE_REQ_MODE, m)])) = false
      ∧ 6 ≤ d.plat.warmStep ∧ (d.mode = 4 ∨ d.mode = 5 ∨ d.mode = 6) ∧ d.slp.target = none ∧ m.val < 2 ∧
      (List.range 8).all (fun g => d.groupState g == 0) = true) ∧
    (∃ (s : State) (i : Init) (m : Fin 16) (d : Dev) (e : Dev), s.dev.reaches i (R.PC_MODE_REQ) = some d
      ∧ d.lockedWrite (R.PC_MODE_REQ) ((cmdWord [(F.PC_MODE_REQ_GO, 1), (F.PC_MODE_REQ_MODE, m)])) =
      false ∧ 6 ≤ d.plat.warmStep ∧ d.mode = 8 ∧ m ≠ 11 ∧ m.val = d.get F.PC_MODE_RETURN ∧ i = .mc ∧
      (d.store R.PC_MODE_REQ (cmdWord [(F.PC_MODE_REQ_GO, 1), (F.PC_MODE_REQ_MODE, m)])).put
      F.PC_MODE_REQ_GO 0 = e ∧ e.sapReady = true) ∧
    (∃ (s : State) (i : Init) (m : Fin 16) (d : Dev), s.dev.reaches i (R.PC_MODE_REQ) = some d ∧
      d.lockedWrite (R.PC_MODE_REQ) ((cmdWord [(F.PC_MODE_REQ_GO, 1), (F.PC_MODE_REQ_MODE, m)])) = false
      ∧ (d.plat.warmStep < 6 ∨ d.mode < 2 ∨ d.mode = 7 ∨ d.mode = 10 ∨ d.mode = 11 ∨ (d.mode = 3 ∧ m ≠
      11) ∨ (d.mode = 2 ∧ m ≠ 11 ∧ ¬(m = 4 ∧ d.mayRun = true) ∧ ¬(m = 10 ∧ (d.sc.lc = 0 ∨ d.sc.lc = 1)))
      ∨ ((d.mode = 4 ∨ d.mode = 5 ∨ d.mode = 6) ∧ m ≠ 11 ∧ m ≠ 7 ∧ (d.slp.target ≠ none ∨ (1 < m.val ∧ m
      ≠ 9) ∨ (m = 9 ∧ d.sc.lc = 3 ∧ d.sc.level = 0))) ∨ (d.mode = 9 ∧ m ≠ 4 ∧ m ≠ 11) ∨ (d.mode = 8 ∧ m
      ≠ 11 ∧ (m.val ≠ d.get F.PC_MODE_RETURN ∨ i ≠ .mc ∨ ((d.store R.PC_MODE_REQ (cmdWord
      [(F.PC_MODE_REQ_GO, 1), (F.PC_MODE_REQ_MODE, m)])).put F.PC_MODE_REQ_GO 0).sapReady = false)))) ∧
    (∃ (s : State), s.dev.mode = 8 ∧ s.dev.plat.m8At + 40000000 ≤ s.dev.plat.aon) ∧
    (∃ (s : State), s.dev.mode ≠ 8 ∨ s.dev.plat.aon < s.dev.plat.m8At + 40000000) ∧
    (∃ (s : State) (which : Fin 10) (tj : Byte), which.val < 9 ∧ 1 ≤ s.dev.plat.relStep ∧
      s.dev.unwatched which = false) ∧
    (∃ (s : State) (tj : Byte), 1 ≤ s.dev.plat.relStep) ∧
    (∃ (s : State) (which : Fin 10) (tj : Byte), (s.dev.plat.relStep = 0 ∨ (which.val < 9 ∧
      s.dev.unwatched which = true))) ∧
    (∃ (s : State) (which : Fin 10) (tj : Byte), which.val < 9 ∧ 1 ≤ s.dev.plat.relStep) ∧
    (∃ (s : State) (tj : Byte), 1 ≤ s.dev.plat.relStep) ∧
    (∃ (s : State) (which : Fin 10) (tj : Byte), s.dev.plat.relStep = 0) :=
  ⟨⟨st (fun d => (d.put F.PC_WDOG_CFG_EN 1).put F.PC_WDOG_CFG_TIMEOUT_MS 5), .mc, 0x5AC3, (st (fun d =>
    (d.put F.PC_WDOG_CFG_EN 1).put F.PC_WDOG_CFG_TIMEOUT_MS 5)).dev, Dev.reaches_internal _ _ _ rfl (by
    decide +kernel), by decide +kernel⟩, ⟨st (fun d => (d.put F.PC_WDOG_CFG_EN 1).put F.BOOT_STEP_DONE
    1), .mc, 7, (st (fun d => (d.put F.PC_WDOG_CFG_EN 1).put F.BOOT_STEP_DONE 1)).dev,
    Dev.reaches_internal _ _ _ rfl (by decide +kernel), by decide +kernel⟩, ⟨run0, .mc, 7, (run0).dev,
    Dev.reaches_internal _ _ _ rfl (by decide +kernel), by decide +kernel⟩, ⟨st (fun d => (d.put
    F.BOOT_STEP_DONE 1).modPlat (fun p => { p with
      wdog := some 7 })), 7, by decide +kernel⟩, ⟨st (fun d => d.modPlat (fun p => { p with
      wdog := some 7 })), 7, by decide +kernel⟩, ⟨run0, by decide +kernel⟩, ⟨run0, .mc, 7, 7,
    (run0).dev, Dev.reaches_internal _ _ _ rfl (by decide +kernel), by decide +kernel⟩, ⟨run0, .mc, 9,
    (run0).dev, Dev.reaches_internal _ _ _ rfl (by decide +kernel), by decide +kernel⟩, ⟨st (fun d =>
    (d.put F.PC_MODE_MODE 2).put F.BOOT_STEP_STEP 15), .mc, 4, (st (fun d => (d.put F.PC_MODE_MODE
    2).put F.BOOT_STEP_STEP 15)).dev, Dev.reaches_internal _ _ _ rfl (by decide +kernel), by
    decide +kernel⟩, ⟨run0, .mc, 1, (run0).dev, Dev.reaches_internal _ _ _ rfl (by decide +kernel), by
    decide +kernel⟩, ⟨st (fun d => (d.put F.PC_MODE_MODE 8).put F.PC_MODE_RETURN 4), .mc, 4, (st (fun d
    => (d.put F.PC_MODE_MODE 8).put F.PC_MODE_RETURN 4)).dev, (((st (fun d => (d.put F.PC_MODE_MODE
    8).put F.PC_MODE_RETURN 4)).dev : Dev).store R.PC_MODE_REQ (cmdWord [(F.PC_MODE_REQ_GO, 1),
    (F.PC_MODE_REQ_MODE, (4 : Fin 16))])).put F.PC_MODE_REQ_GO 0, Dev.reaches_internal _ _ _ rfl (by
    decide +kernel), fuse6 (by decide +kernel) ⟨rfl, by decide +kernel⟩⟩, ⟨st (fun d => d.put
    F.PC_MODE_MODE 7), .mc, 4, (st (fun d => d.put F.PC_MODE_MODE 7)).dev, Dev.reaches_internal _ _ _
    rfl (by decide +kernel), by decide +kernel⟩, ⟨st (fun d => late ((d.put F.PC_MODE_MODE 8).put
    F.PC_MODE_RETURN 4)), by decide +kernel⟩, ⟨run0, by decide +kernel⟩, ⟨run0, 3, 0, by
    decide +kernel⟩, ⟨run0, 125, by decide +kernel⟩, ⟨State.reset, 3, 0, by decide +kernel⟩, ⟨run0, 3,
    0, by decide +kernel⟩, ⟨run0, 100, by decide +kernel⟩, ⟨State.reset, 3, 0, by decide +kernel⟩⟩

theorem witness_OtpCommands :
    (∃ (s : State) (i : Init) (slot : Fin 8) (key : BitVec 16) (d : Dev), s.dev.reaches i (R.SC_OTP_CMD)
      = some d ∧ d.lockedWrite (R.SC_OTP_CMD) (cmdWord [(F.SC_OTP_CMD_GO, 1), (F.SC_OTP_CMD_OP, 1),
      (F.SC_OTP_CMD_ARG, slot), (F.SC_OTP_CMD_KEY, key.toNat)]) = false ∧ d.sc.run = none ∧ i = .mc ∧
      key = 0x5AC3 ∧ d.sc.lc = 1 ∧ slot.val < 4 ∧ ((d.otpSlot slot).empty = true ∨ ((d.otpSlot
      slot).done = false ∧ (d.otpSlot slot).want = d.regBytes (R.SC_OTP_DATA 0) 8))) ∧
    (∃ (s : State) (i : Init) (slot : Fin 8) (key : BitVec 16) (d : Dev), s.dev.reaches i (R.SC_OTP_CMD)
      = some d ∧ d.lockedWrite (R.SC_OTP_CMD) (cmdWord [(F.SC_OTP_CMD_GO, 1), (F.SC_OTP_CMD_OP, 1),
      (F.SC_OTP_CMD_ARG, slot), (F.SC_OTP_CMD_KEY, key.toNat)]) = false ∧ d.sc.run = none ∧ (i ≠ .mc ∨
      key ≠ 0x5AC3 ∨ d.sc.lc ≠ 1 ∨ 4 ≤ slot.val ∨ ((d.otpSlot slot).empty = false ∧ ((d.otpSlot
      slot).done = true ∨ (d.otpSlot slot).want ≠ d.regBytes (R.SC_OTP_DATA 0) 8)))) ∧
    (∃ (s : State) (i : Init) (slot : Fin 8) (key : BitVec 16) (d : Dev), s.dev.reaches i (R.SC_OTP_CMD)
      = some d ∧ d.lockedWrite (R.SC_OTP_CMD) (cmdWord [(F.SC_OTP_CMD_GO, 1), (F.SC_OTP_CMD_OP, 2),
      (F.SC_OTP_CMD_ARG, slot), (F.SC_OTP_CMD_KEY, key.toNat)]) = false ∧ d.sc.run = none ∧ i = .mc ∧
      key = 0x5AC3 ∧ d.sc.lc ≠ 0 ∧ slot.val < 4 ∧ (d.get F.SC_BOOT_IMG_KIND = 0 ∨ d.get
      F.SC_BOOT_IMG_KEY_SLOT ≠ slot) ∧ (List.range 4).any (fun x => x != slot.val && d.otpUsable x) =
      true) ∧
    (∃ (s : State) (i : Init) (slot : Fin 8) (key : BitVec 16) (d : Dev), s.dev.reaches i (R.SC_OTP_CMD)
      = some d ∧ d.lockedWrite (R.SC_OTP_CMD) (cmdWord [(F.SC_OTP_CMD_GO, 1), (F.SC_OTP_CMD_OP, 2),
      (F.SC_OTP_CMD_ARG, slot), (F.SC_OTP_CMD_KEY, key.toNat)]) = false ∧ d.sc.run = none ∧ (i ≠ .mc ∨
      key ≠ 0x5AC3 ∨ d.sc.lc = 0 ∨ 4 ≤ slot.val ∨ (d.get F.SC_BOOT_IMG_KIND ≠ 0 ∧ d.get
      F.SC_BOOT_IMG_KEY_SLOT = slot) ∨ (List.range 4).any (fun x => x != slot.val && d.otpUsable x) =
      false)) ∧
    (∃ (s : State) (i : Init) (ix : Fin 8) (key : BitVec 16) (d : Dev), s.dev.reaches i (R.SC_OTP_CMD) =
      some d ∧ d.lockedWrite (R.SC_OTP_CMD) (cmdWord [(F.SC_OTP_CMD_GO, 1), (F.SC_OTP_CMD_OP, 3),
      (F.SC_OTP_CMD_ARG, ix), (F.SC_OTP_CMD_KEY, key.toNat)]) = false ∧ d.sc.run = none ∧ i = .mc ∧ key
      = 0x5AC3 ∧ (d.sc.lc = 1 ∨ d.sc.lc = 2 ∨ d.sc.lc = 3) ∧ ix.val < 4 ∧ tget d.sc.otp.rb ix < d.get
      F.SC_OTP_VALUE_VALUE ∧ d.get F.SC_OTP_VALUE_VALUE ≤ 64 ∧ (d.get F.SC_BOOT_IMG_RB_INDEX ≠ ix ∨
      d.get F.SC_OTP_VALUE_VALUE ≤ d.get F.SC_BOOT_IMG_SVN)) ∧
    (∃ (s : State) (i : Init) (ix : Fin 8) (key : BitVec 16) (d : Dev), s.dev.reaches i (R.SC_OTP_CMD) =
      some d ∧ d.lockedWrite (R.SC_OTP_CMD) (cmdWord [(F.SC_OTP_CMD_GO, 1), (F.SC_OTP_CMD_OP, 3),
      (F.SC_OTP_CMD_ARG, ix), (F.SC_OTP_CMD_KEY, key.toNat)]) = false ∧ d.sc.run = none ∧ (i ≠ .mc ∨ key
      ≠ 0x5AC3 ∨ (d.sc.lc ≠ 1 ∧ d.sc.lc ≠ 2 ∧ d.sc.lc ≠ 3) ∨ 4 ≤ ix.val ∨ d.get F.SC_OTP_VALUE_VALUE ≤
      tget d.sc.otp.rb ix ∨ 64 < d.get F.SC_OTP_VALUE_VALUE ∨ (d.get F.SC_BOOT_IMG_RB_INDEX = ix ∧ d.get
      F.SC_BOOT_IMG_SVN < d.get F.SC_OTP_VALUE_VALUE))) ∧
    (∃ (s : State) (i : Init) (key : BitVec 16) (d : Dev), s.dev.reaches i (R.SC_OTP_CMD) = some d ∧
      d.lockedWrite (R.SC_OTP_CMD) (cmdWord [(F.SC_OTP_CMD_GO, 1), (F.SC_OTP_CMD_OP, 4),
      (F.SC_OTP_CMD_ARG, 0), (F.SC_OTP_CMD_KEY, key.toNat)]) = false ∧ d.sc.run = none ∧ i = .mc ∧ key =
      0x5AC3 ∧ d.sc.lc = 1 ∧ ((d.sc.otp.dbg).empty = true ∨ ((d.sc.otp.dbg).done = false ∧
      (d.sc.otp.dbg).want = d.regBytes (R.SC_OTP_DATA 0) 8))) ∧
    (∃ (s : State) (i : Init) (key : BitVec 16) (d : Dev), s.dev.reaches i (R.SC_OTP_CMD) = some d ∧
      d.lockedWrite (R.SC_OTP_CMD) (cmdWord [(F.SC_OTP_CMD_GO, 1), (F.SC_OTP_CMD_OP, 4),
      (F.SC_OTP_CMD_ARG, 0), (F.SC_OTP_CMD_KEY, key.toNat)]) = false ∧ d.sc.run = none ∧ (i ≠ .mc ∨ key
      ≠ 0x5AC3 ∨ d.sc.lc ≠ 1 ∨ ((d.sc.otp.dbg).empty = false ∧ ((d.sc.otp.dbg).done = true ∨
      (d.sc.otp.dbg).want ≠ d.regBytes (R.SC_OTP_DATA 0) 8)))) ∧
    (∃ (s : State) (i : Init) (target : Fin 8) (key : BitVec 16) (d : Dev), s.dev.reaches i
      (R.SC_OTP_CMD) = some d ∧ d.lockedWrite (R.SC_OTP_CMD) (cmdWord [(F.SC_OTP_CMD_GO, 1),
      (F.SC_OTP_CMD_OP, 5), (F.SC_OTP_CMD_ARG, target), (F.SC_OTP_CMD_KEY, key.toNat)]) = false ∧
      d.sc.run = none ∧ i = .mc ∧ key = 0x5AC3 ∧ lcMay d.sc.lc target = true ∧ d.sc.otp.stage ≤ target ∧
      (target ≠ 2 ∨ (List.range 4).any (fun x => d.otpUsable x) = true)) ∧
    (∃ (s : State) (i : Init) (target : Fin 8) (key : BitVec 16) (d : Dev), s.dev.reaches i
      (R.SC_OTP_CMD) = some d ∧ d.lockedWrite (R.SC_OTP_CMD) (cmdWord [(F.SC_OTP_CMD_GO, 1),
      (F.SC_OTP_CMD_OP, 5), (F.SC_OTP_CMD_ARG, target), (F.SC_OTP_CMD_KEY, key.toNat)]) = false ∧
      d.sc.run = none ∧ (i ≠ .mc ∨ key ≠ 0x5AC3 ∨ lcMay d.sc.lc target = false ∨ target.val <
      d.sc.otp.stage ∨ (target = 2 ∧ (List.range 4).any (fun x => d.otpUsable x) = false))) ∧
    (∃ (s : State) (i : Init) (slot ix target : Fin 8) (key : BitVec 16) (d : Dev), s.dev.reaches i
      R.SC_OTP_CMD = some d ∧ d.lockedWrite R.SC_OTP_CMD (cmdWord [(F.SC_OTP_CMD_GO, 1),
      (F.SC_OTP_CMD_OP, 1), (F.SC_OTP_CMD_ARG, slot), (F.SC_OTP_CMD_KEY, key.toNat)]) = false ∧
      d.lockedWrite R.SC_OTP_CMD (cmdWord [(F.SC_OTP_CMD_GO, 1), (F.SC_OTP_CMD_OP, 2),
      (F.SC_OTP_CMD_ARG, slot), (F.SC_OTP_CMD_KEY, key.toNat)]) = false ∧ d.lockedWrite R.SC_OTP_CMD
      (cmdWord [(F.SC_OTP_CMD_GO, 1), (F.SC_OTP_CMD_OP, 3), (F.SC_OTP_CMD_ARG, ix), (F.SC_OTP_CMD_KEY,
      key.toNat)]) = false ∧ d.lockedWrite R.SC_OTP_CMD (cmdWord [(F.SC_OTP_CMD_GO, 1),
      (F.SC_OTP_CMD_OP, 4), (F.SC_OTP_CMD_ARG, 0), (F.SC_OTP_CMD_KEY, key.toNat)]) = false ∧
      d.lockedWrite R.SC_OTP_CMD (cmdWord [(F.SC_OTP_CMD_GO, 1), (F.SC_OTP_CMD_OP, 5),
      (F.SC_OTP_CMD_ARG, target), (F.SC_OTP_CMD_KEY, key.toNat)]) = false ∧ d.sc.run.isSome = true) ∧
    (∃ (s : State) (r : OtpRun), s.dev.sc.run = some r ∧ r.op = 1) ∧
    (∃ (s : State) (r : OtpRun), s.dev.sc.run = some r ∧ r.op = 2) ∧
    (∃ (s : State) (r : OtpRun), s.dev.sc.run = some r ∧ r.op = 3) ∧
    (∃ (s : State) (r : OtpRun), s.dev.sc.run = some r ∧ r.op = 4) ∧
    (∃ (s : State) (r : OtpRun), s.dev.sc.run = some r ∧ r.op = 5 ∧ r.arg < 8 ∧ s.dev.sc.otp.stage ≠ 0)
      ∧
    (∃ (s : State) (r : OtpRun), s.dev.sc.run = some r ∧ r.op = 5 ∧ r.arg < 8 ∧ s.dev.sc.otp.stage = 0)
      ∧
    (∃ (s : State), s.dev.sc.run = none) :=
  ⟨⟨st (fun d => d.modSc (fun x => { x with lc := 1 })), .mc, 2, 0x5AC3, (st (fun d => d.modSc (fun x =>
    { x with lc := 1 }))).dev, Dev.reaches_internal _ _ _ rfl (by decide +kernel), by decide +kernel⟩,
    ⟨run0, .mc, 2, 5, (run0).dev, Dev.reaches_internal _ _ _ rfl (by decide +kernel), by
    decide +kernel⟩, ⟨st (fun d => d.modSc (fun x => { x with
      lc := 3, otp := { x.otp with slots := [(1, {
                                     cells := [7], good := true })] } })), .mc, 2, 0x5AC3, (st (fun d =>
    d.modSc (fun x => { x with lc := 3, otp := { x.otp with
                                 slots := [(1, { cells := [7], good := true })] } }))).dev,
    Dev.reaches_internal _ _ _ rfl (by decide +kernel), by decide +kernel⟩, ⟨run0, .mc, 2, 5,
    (run0).dev, Dev.reaches_internal _ _ _ rfl (by decide +kernel), by decide +kernel⟩, ⟨st (fun d =>
    (d.put F.SC_OTP_VALUE_VALUE 5).modSc (fun x => { x with
      lc := 2 })), .mc, 2, 0x5AC3, (st (fun d => (d.put F.SC_OTP_VALUE_VALUE 5).modSc (fun x => { x with
      lc := 2 }))).dev, Dev.reaches_internal _ _ _ rfl (by decide +kernel), by decide +kernel⟩, ⟨run0,
    .mc, 2, 5, (run0).dev, Dev.reaches_internal _ _ _ rfl (by decide +kernel), by decide +kernel⟩, ⟨st
    (fun d => d.modSc (fun x => { x with lc := 1 })), .mc, 0x5AC3, (st (fun d => d.modSc (fun x => { x
    with lc := 1 }))).dev, Dev.reaches_internal _ _ _ rfl (by decide +kernel), by decide +kernel⟩,
    ⟨run0, .mc, 5, (run0).dev, Dev.reaches_internal _ _ _ rfl (by decide +kernel), by decide +kernel⟩,
    ⟨st (fun d => d.modSc (fun x => { x with lc := 0, otp := { x.otp with
                                               stage := 0 } })), .mc, 1, 0x5AC3, (st (fun d => d.modSc
    (fun x => { x with lc := 0, otp := { x.otp with
                         stage := 0 } }))).dev, Dev.reaches_internal _ _ _ rfl (by decide +kernel), by
    decide +kernel⟩, ⟨run0, .mc, 2, 5, (run0).dev, Dev.reaches_internal _ _ _ rfl (by decide +kernel),
    by decide +kernel⟩, ⟨st (fun d => d.modSc (fun x => { x with
      run := some { op := 2, arg := 1, value := 0, hash := [] } })), .mc, 2, 2, 2, 5, (st (fun d =>
    d.modSc (fun x => { x with run := some { op := 2, arg := 1, value := 0, hash := [] } }))).dev,
    Dev.reaches_internal _ _ _ rfl (by decide +kernel), by decide +kernel⟩, ⟨st (fun d => d.modSc (fun x
    => { x with run := some { op := 1, arg := 2, value := 5, hash := [7, 8] }, otp := { x.otp with
                  stage := 1 } })), { op := 1, arg := 2, value := 5, hash := [7, 8] }, by
    decide +kernel⟩, ⟨st (fun d => d.modSc (fun x => { x with
      run := some { op := 2, arg := 2, value := 5, hash := [7, 8] }, otp := { x.otp with
        stage := 1 } })), { op := 2, arg := 2, value := 5, hash := [7, 8] }, by decide +kernel⟩, ⟨st
    (fun d => d.modSc (fun x => { x with run := some {
                                           op := 3, arg := 2, value := 5, hash := [7, 8] }, otp := {
                                           x.otp with
                                           stage := 1 } })), {
      op := 3, arg := 2, value := 5, hash := [7, 8] }, by decide +kernel⟩, ⟨st (fun d => d.modSc (fun x
    => { x with run := some { op := 4, arg := 2, value := 5, hash := [7, 8] }, otp := { x.otp with
                  stage := 1 } })), { op := 4, arg := 2, value := 5, hash := [7, 8] }, by
    decide +kernel⟩, ⟨st (fun d => d.modSc (fun x => { x with
      run := some { op := 5, arg := 2, value := 5, hash := [7, 8] }, otp := { x.otp with
        stage := 1 } })), { op := 5, arg := 2, value := 5, hash := [7, 8] }, by decide +kernel⟩, ⟨st
    (fun d => d.modSc (fun x => { x with run := some {
                                           op := 5, arg := 2, value := 5, hash := [7, 8] }, otp := {
                                           x.otp with
                                           stage := 0 } })), {
      op := 5, arg := 2, value := 5, hash := [7, 8] }, by decide +kernel⟩, ⟨run0, by decide +kernel⟩⟩

theorem witness_MeasurementsAndQuotes :
    (∃ (s : State) (i : Init) (ix : Fin 8) (d : Dev), s.dev.reaches i (R.MEAS_EXT) = some d ∧
      d.lockedWrite (R.MEAS_EXT) (cmdWord [(F.MEAS_EXT_GO, 1), (F.MEAS_EXT_INDEX, ix)]) = false ∧ 3 ≤
      ix.val) ∧
    (∃ (s : State) (i : Init) (ix : Fin 8) (d : Dev), s.dev.reaches i (R.MEAS_EXT) = some d ∧
      d.lockedWrite (R.MEAS_EXT) (cmdWord [(F.MEAS_EXT_GO, 1), (F.MEAS_EXT_INDEX, ix)]) = false ∧ ix.val
      < 3) ∧
    (∃ (s : State) (i : Init) (d : Dev), s.dev.reaches i (R.QUOTE_CMD) = some d ∧ d.lockedWrite
      (R.QUOTE_CMD) (cmdWord [(F.QUOTE_CMD_GO, 1)]) = false ∧ d.get F.QUOTE_CMD_STATE ≠ 1) ∧
    (∃ (s : State) (i : Init) (d : Dev), s.dev.reaches i (R.QUOTE_CMD) = some d ∧ d.lockedWrite
      (R.QUOTE_CMD) (cmdWord [(F.QUOTE_CMD_GO, 1)]) = false ∧ d.get F.QUOTE_CMD_STATE = 1) ∧
    (∃ (s : State), s.dev.get F.QUOTE_CMD_STATE = 1 ∧ s.dev.flag F.SC_KEYS_ID_OK = true ∧
      s.dev.sc.quote.length = 384) ∧
    (∃ (s : State), s.dev.get F.QUOTE_CMD_STATE = 1 ∧ s.dev.flag F.SC_KEYS_ID_OK = true) ∧
    (∃ (s : State), s.dev.get F.QUOTE_CMD_STATE = 1 ∧ s.dev.flag F.SC_KEYS_ID_OK = false) ∧
    (∃ (s : State), s.dev.get F.QUOTE_CMD_STATE ≠ 1) :=
  ⟨⟨run0, .mc, 5, (run0).dev, Dev.reaches_internal _ _ _ rfl (by decide +kernel), by decide +kernel⟩,
    ⟨run0, .mc, 2, (run0).dev, Dev.reaches_internal _ _ _ rfl (by decide +kernel), by decide +kernel⟩,
    ⟨run0, .mc, (run0).dev, Dev.reaches_internal _ _ _ rfl (by decide +kernel), by decide +kernel⟩, ⟨st
    (fun d => d.put F.QUOTE_CMD_STATE 1), .mc, (st (fun d => d.put F.QUOTE_CMD_STATE 1)).dev,
    Dev.reaches_internal _ _ _ rfl (by decide +kernel), by decide +kernel⟩, ⟨st (fun d => ((d.put
    F.QUOTE_CMD_STATE 1).put F.SC_KEYS_ID_OK 1).modSc (fun x => { x with
      ids := { x.ids with p := 11, q := 7 }, quote := (List.range 384).map (BitVec.ofNat 8) })), by
    decide +kernel⟩, ⟨st (fun d => ((d.put F.QUOTE_CMD_STATE 1).put F.SC_KEYS_ID_OK 1).modSc (fun x => {
    x with ids := { x.ids with p := 11, q := 7 }, quote := (List.range 384).map (BitVec.ofNat 8) })), by
    decide +kernel⟩, ⟨st (fun d => d.put F.QUOTE_CMD_STATE 1), by decide +kernel⟩, ⟨run0, by
    decide +kernel⟩⟩

theorem witness_VaultAndTrafficKeys_1 :
    ∃ (s : State) (i : Init) (slot : Fin 32) (long : Bool) (d : Dev), s.dev.reaches i (R.VAULT_CMD) =
      some d ∧ d.lockedWrite (R.VAULT_CMD) (cmdWord [(F.VAULT_CMD_GO, 1), (F.VAULT_CMD_OP, 0),
      (F.VAULT_CMD_LEN, boolNat long), (F.VAULT_CMD_SLOT, slot)]) = false ∧ tget d.sc.vault slot = [] :=
  ⟨st (fun d => d.modSc (fun x => { x with keyIn := [1, 2, 3] })), .mc, 7, true, (st (fun d => d.modSc
    (fun x => { x with keyIn := [1, 2, 3] }))).dev, Dev.reaches_internal _ _ _ rfl (by decide +kernel),
    by decide +kernel⟩

theorem witness_VaultAndTrafficKeys_2 :
    ∃ (s : State) (i : Init) (slot : Fin 32) (long : Bool) (d : Dev), s.dev.reaches i (R.VAULT_CMD) =
      some d ∧ d.lockedWrite (R.VAULT_CMD) (cmdWord [(F.VAULT_CMD_GO, 1), (F.VAULT_CMD_OP, 0),
      (F.VAULT_CMD_LEN, boolNat long), (F.VAULT_CMD_SLOT, slot)]) = false ∧ tget d.sc.vault slot ≠ [] :=
  ⟨st (fun d => d.modSc (fun x => { x with vault := [(7, List.replicate 16 9)] })), .mc, 7, true, (st
    (fun d => d.modSc (fun x => { x with vault := [(7, List.replicate 16 9)] }))).dev,
    Dev.reaches_internal _ _ _ rfl (by decide +kernel), by decide +kernel⟩

theorem witness_VaultAndTrafficKeys_3 :
    ∃ (s : State) (i : Init) (slot : Fin 32) (d : Dev), s.dev.reaches i (R.VAULT_CMD) = some d ∧
      d.lockedWrite (R.VAULT_CMD) (cmdWord [(F.VAULT_CMD_GO, 1), (F.VAULT_CMD_OP, 1), (F.VAULT_CMD_SLOT,
      slot)]) = false :=
  ⟨st (fun d => d.modSc (fun x => { x with vault := [(7, List.replicate 16 9)] })), .mc, 7, (st (fun d
    => d.modSc (fun x => { x with vault := [(7, List.replicate 16 9)] }))).dev, Dev.reaches_internal _ _
    _ rfl (by decide +kernel), by decide +kernel⟩

theorem witness_VaultAndTrafficKeys_4 :
    ∃ (s : State) (i : Init) (slot : Fin 32) (d : Dev), s.dev.reaches i (R.VAULT_CMD) = some d ∧
      d.lockedWrite (R.VAULT_CMD) (cmdWord [(F.VAULT_CMD_GO, 1), (F.VAULT_CMD_OP, 2), (F.VAULT_CMD_SLOT,
      slot)]) = false ∧ tget d.sc.vault slot ≠ [] ∧ d.flag F.SC_KEYS_VAULT_KILL = false ∧ d.sc.withheld
      = false :=
  ⟨st (fun d => d.modSc (fun x => { x with vault := [(7, List.replicate 16 9)] })), .mc, 7, (st (fun d
    => d.modSc (fun x => { x with vault := [(7, List.replicate 16 9)] }))).dev, Dev.reaches_internal _ _
    _ rfl (by decide +kernel), by decide +kernel⟩

theorem witness_VaultAndTrafficKeys_5 :
    ∃ (s : State) (i : Init) (slot : Fin 32) (d : Dev), s.dev.reaches i (R.VAULT_CMD) = some d ∧
      d.lockedWrite (R.VAULT_CMD) (cmdWord [(F.VAULT_CMD_GO, 1), (F.VAULT_CMD_OP, 2), (F.VAULT_CMD_SLOT,
      slot)]) = false ∧ (tget d.sc.vault slot = [] ∨ d.flag F.SC_KEYS_VAULT_KILL = true ∨ d.sc.withheld
      = true) :=
  ⟨run0, .mc, 7, (run0).dev, Dev.reaches_internal _ _ _ rfl (by decide +kernel), by decide +kernel⟩

theorem witness_VaultAndTrafficKeys_6 :
    ∃ (s : State) (i : Init) (slot : Fin 32) (d : Dev), s.dev.reaches i (R.VAULT_CMD) = some d ∧
      d.lockedWrite (R.VAULT_CMD) (cmdWord [(F.VAULT_CMD_GO, 1), (F.VAULT_CMD_OP, 3), (F.VAULT_CMD_SLOT,
      slot)]) = false ∧ tget d.sc.vault slot ≠ [] ∧ d.flag F.SC_KEYS_VAULT_KILL = false ∧ d.sc.withheld
      = false :=
  ⟨st (fun d => d.modSc (fun x => { x with vault := [(7, List.replicate 16 9)] })), .mc, 7, (st (fun d
    => d.modSc (fun x => { x with vault := [(7, List.replicate 16 9)] }))).dev, Dev.reaches_internal _ _
    _ rfl (by decide +kernel), by decide +kernel⟩

theorem witness_VaultAndTrafficKeys_7 :
    ∃ (s : State) (i : Init) (slot : Fin 32) (d : Dev), s.dev.reaches i (R.VAULT_CMD) = some d ∧
      d.lockedWrite (R.VAULT_CMD) (cmdWord [(F.VAULT_CMD_GO, 1), (F.VAULT_CMD_OP, 3), (F.VAULT_CMD_SLOT,
      slot)]) = false ∧ (tget d.sc.vault slot = [] ∨ d.flag F.SC_KEYS_VAULT_KILL = true ∨ d.sc.withheld
      = true) :=
  ⟨run0, .mc, 7, (run0).dev, Dev.reaches_internal _ _ _ rfl (by decide +kernel), by decide +kernel⟩

theorem witness_VaultAndTrafficKeys_8 :
    ∃ (s : State) (i : Init) (key : List Byte) (d : Dev), s.dev.reaches i (R.VAULT_CMD) = some d ∧
      d.lockedWrite (R.VAULT_CMD) (cmdWord [(F.VAULT_CMD_GO, 1), (F.VAULT_CMD_OP, 4)]) = false ∧
      d.sc.wkr ≠ [] ∧ d.flag F.TK_STG_CFG_STG_VALID = false ∧ (d.get F.CMAC_LEN_BYTES = 24 ∨ d.get
      F.CMAC_LEN_BYTES = 40) ∧ keyUnwrap d.sc.wkr ((d.regBytes (R.VDATA 0) 64).take (d.get
      F.CMAC_LEN_BYTES)) = some key :=
  ⟨wrapped, .mc, wrapKey, (wrapped).dev, Dev.reaches_internal _ _ _ rfl (by decide +kernel), by
    decide +kernel⟩

theorem witness_VaultAndTrafficKeys_9 :
    ∃ (s : State) (i : Init) (d : Dev), s.dev.reaches i (R.VAULT_CMD) = some d ∧ d.lockedWrite
      (R.VAULT_CMD) (cmdWord [(F.VAULT_CMD_GO, 1), (F.VAULT_CMD_OP, 4)]) = false ∧ (d.sc.wkr = [] ∨
      d.flag F.TK_STG_CFG_STG_VALID = true ∨ (d.get F.CMAC_LEN_BYTES ≠ 24 ∧ d.get F.CMAC_LEN_BYTES ≠ 40)
      ∨ keyUnwrap d.sc.wkr ((d.regBytes (R.VDATA 0) 64).take (d.get F.CMAC_LEN_BYTES)) = none) :=
  ⟨run0, .mc, (run0).dev, Dev.reaches_internal _ _ _ rfl (by decide +kernel), by decide +kernel⟩

theorem witness_VaultAndTrafficKeys_10 :
    ∃ (s : State) (i : Init) (d : Dev), s.dev.reaches i (R.VAULT_CMD) = some d ∧ d.lockedWrite
      (R.VAULT_CMD) (cmdWord [(F.VAULT_CMD_GO, 1), (F.VAULT_CMD_OP, 5)]) = false ∧ d.sc.wkr ≠ [] ∧ d.get
      F.CMAC_LEN_BYTES ≤ 256 :=
  ⟨st (fun d => d.modSc (fun x => { x with wkr := List.replicate 16 9 })), .mc, (st (fun d => d.modSc
    (fun x => { x with wkr := List.replicate 16 9 }))).dev, Dev.reaches_internal _ _ _ rfl (by
    decide +kernel), by decide +kernel⟩

theorem witness_VaultAndTrafficKeys_11 :
    ∃ (s : State) (i : Init) (d : Dev), s.dev.reaches i (R.VAULT_CMD) = some d ∧ d.lockedWrite
      (R.VAULT_CMD) (cmdWord [(F.VAULT_CMD_GO, 1), (F.VAULT_CMD_OP, 5)]) = false ∧ (d.sc.wkr = [] ∨ 256
      < d.get F.CMAC_LEN_BYTES) :=
  ⟨run0, .mc, (run0).dev, Dev.reaches_internal _ _ _ rfl (by decide +kernel), by decide +kernel⟩

theorem witness_VaultAndTrafficKeys_12 :
    ∃ (s : State) (i : Init) (d : Dev), s.dev.reaches i (R.VAULT_CMD) = some d ∧ d.lockedWrite
      (R.VAULT_CMD) (cmdWord [(F.VAULT_CMD_GO, 1), (F.VAULT_CMD_OP, 6)]) = false :=
  ⟨st (fun d => d.modSc (fun x => { x with wkr := List.replicate 16 9 })), .mc, (st (fun d => d.modSc
    (fun x => { x with wkr := List.replicate 16 9 }))).dev, Dev.reaches_internal _ _ _ rfl (by
    decide +kernel), by decide +kernel⟩

theorem witness_VaultAndTrafficKeys_13 :
    ∃ (s : State) (i : Init) (w : Fin 8) (v : Word) (d : Dev), s.dev.reaches i (R.TK_STG_KEY w) = some d
      ∧ d.lockedWrite (R.TK_STG_KEY w) (v) = false :=
  ⟨run0, .mc, 3, 0x01020304, (run0).dev, Dev.reaches_internal _ _ _ rfl (by decide +kernel), by
    decide +kernel⟩

theorem witness_VaultAndTrafficKeys_14 :
    ∃ (s : State) (i : Init) (w : Fin 8) (v : Word) (d : Dev), s.dev.reaches i (R.TK_STG_SALT (w % 3)) =
      some d ∧ d.lockedWrite (R.TK_STG_SALT (w % 3)) (v) = false :=
  ⟨run0, .mc, 2, 0x01020304, (run0).dev, Dev.reaches_internal _ _ _ rfl (by decide +kernel), by
    decide +kernel⟩

theorem witness_VaultAndTrafficKeys_15 :
    ∃ (s : State) (i : Init) (ix : Fin 4096) (e : TkEntry) (d : Dev), s.dev.reaches i (R.TK_CMD) = some
      d ∧ d.lockedWrite (R.TK_CMD) (cmdWord [(F.TK_CMD_GO, 1), (F.TK_CMD_OP, 0), (F.TK_CMD_INDEX, ix)])
      = false ∧ tget d.sc.tk ix = e :=
  ⟨st (fun d => d.modSc (fun x => { x with tk := [(9, {
                                             valid := true, long := true, check := 77 })] })), .mc, 9, {
      valid := true, long := true, check := 77 }, (st (fun d => d.modSc (fun x => { x with
      tk := [(9, { valid := true, long := true, check := 77 })] }))).dev, Dev.reaches_internal _ _ _ rfl
    (by decide +kernel), by decide +kernel⟩

theorem witness_VaultAndTrafficKeys_16 :
    ∃ (s : State) (i : Init) (ix : Fin 4096) (key : List Byte) (d : Dev), s.dev.reaches i (R.TK_CMD) =
      some d ∧ d.lockedWrite (R.TK_CMD) (cmdWord [(F.TK_CMD_GO, 1), (F.TK_CMD_OP, 1), (F.TK_CMD_INDEX,
      ix)]) = false ∧ d.sc.withheld = false ∧ d.flag F.TK_STG_CFG_STG_VALID = true ∧
      Sys2Proof.Machine.slice d.sc.stgKey 0 (if d.flag F.TK_STG_CFG_LEN then 32 else 16) = key ∧
      keyCheck key = d.get F.TK_STG_CFG_EXP_CHECK :=
  ⟨st (fun d => ((d.put F.TK_STG_CFG_STG_VALID 1).put F.TK_STG_CFG_EXP_CHECK (keyCheck (List.replicate
    16 9))).modSc (fun x => { x with stgKey := List.replicate 16 9 })), .mc, 9, List.replicate 16 9, (st
    (fun d => ((d.put F.TK_STG_CFG_STG_VALID 1).put F.TK_STG_CFG_EXP_CHECK (keyCheck (List.replicate 16
    9))).modSc (fun x => { x with stgKey := List.replicate 16 9 }))).dev, Dev.reaches_internal _ _ _ rfl
    (by decide +kernel), by decide +kernel⟩

theorem witness_VaultAndTrafficKeys_17 :
    ∃ (s : State) (i : Init) (ix : Fin 4096) (key : List Byte) (d : Dev), s.dev.reaches i (R.TK_CMD) =
      some d ∧ d.lockedWrite (R.TK_CMD) (cmdWord [(F.TK_CMD_GO, 1), (F.TK_CMD_OP, 1), (F.TK_CMD_INDEX,
      ix)]) = false ∧ d.sc.withheld = false ∧ d.flag F.TK_STG_CFG_STG_VALID = true ∧
      Sys2Proof.Machine.slice d.sc.stgKey 0 (if d.flag F.TK_STG_CFG_LEN then 32 else 16) = key ∧
      keyCheck key ≠ d.get F.TK_STG_CFG_EXP_CHECK :=
  ⟨st (fun d => ((d.put F.TK_STG_CFG_STG_VALID 1).put F.TK_STG_CFG_EXP_CHECK (5)).modSc (fun x => { x
    with stgKey := List.replicate 16 9 })), .mc, 9, List.replicate 16 9, (st (fun d => ((d.put
    F.TK_STG_CFG_STG_VALID 1).put F.TK_STG_CFG_EXP_CHECK (5)).modSc (fun x => { x with
      stgKey := List.replicate 16 9 }))).dev, Dev.reaches_internal _ _ _ rfl (by decide +kernel), by
    decide +kernel⟩

theorem witness_VaultAndTrafficKeys_18 :
    ∃ (s : State) (i : Init) (ix : Fin 4096) (d : Dev), s.dev.reaches i (R.TK_CMD) = some d ∧
      d.lockedWrite (R.TK_CMD) (cmdWord [(F.TK_CMD_GO, 1), (F.TK_CMD_OP, 1), (F.TK_CMD_INDEX, ix)]) =
      false ∧ (d.sc.withheld = true ∨ d.flag F.TK_STG_CFG_STG_VALID = false) :=
  ⟨run0, .mc, 9, (run0).dev, Dev.reaches_internal _ _ _ rfl (by decide +kernel), by decide +kernel⟩

theorem witness_VaultAndTrafficKeys_19 :
    ∃ (s : State) (i : Init) (ix : Fin 4096) (e : TkEntry) (d : Dev), s.dev.reaches i (R.TK_CMD) = some
      d ∧ d.lockedWrite (R.TK_CMD) (cmdWord [(F.TK_CMD_GO, 1), (F.TK_CMD_OP, 2), (F.TK_CMD_INDEX, ix)])
      = false ∧ tget d.sc.tk ix = e :=
  ⟨st (fun d => d.modSc (fun x => { x with tk := [(9, {
                                             valid := true, long := true, check := 77 })] })), .mc, 9, {
      valid := true, long := true, check := 77 }, (st (fun d => d.modSc (fun x => { x with
      tk := [(9, { valid := true, long := true, check := 77 })] }))).dev, Dev.reaches_internal _ _ _ rfl
    (by decide +kernel), by decide +kernel⟩

theorem witness_VaultAndTrafficKeys_20 :
    ∃ (s : State) (i : Init) (d : Dev), s.dev.reaches i (R.TK_CMD) = some d ∧ d.lockedWrite (R.TK_CMD)
      (cmdWord [(F.TK_CMD_GO, 1), (F.TK_CMD_OP, 3)]) = false :=
  ⟨st (fun d => ((d.put F.TK_STG_CFG_STG_VALID 1).put F.TK_STG_CFG_EXP_CHECK (5)).modSc (fun x => { x
    with stgKey := List.replicate 16 9 })), .mc, (st (fun d => ((d.put F.TK_STG_CFG_STG_VALID 1).put
    F.TK_STG_CFG_EXP_CHECK (5)).modSc (fun x => { x with
      stgKey := List.replicate 16 9 }))).dev, Dev.reaches_internal _ _ _ rfl (by decide +kernel), by
    decide +kernel⟩

theorem witness_DebugAccess :
    (∃ (s : State) (i : Init) (d : Dev), s.dev.reaches i (R.DBG_CMD) = some d ∧ d.lockedWrite
      (R.DBG_CMD) (cmdWord [(F.DBG_CMD_GO, 1), (F.DBG_CMD_OP, 0)]) = false ∧ d.flag F.DBG_STAT_LOCKOUT =
      false) ∧
    (∃ (s : State) (i : Init) (d : Dev), s.dev.reaches i (R.DBG_CMD) = some d ∧ d.lockedWrite
      (R.DBG_CMD) (cmdWord [(F.DBG_CMD_GO, 1), (F.DBG_CMD_OP, 0)]) = false ∧ d.flag F.DBG_STAT_LOCKOUT =
      true) ∧
    (∃ (s : State) (i : Init) (level : Fin 4) (raneltik : Bool) (d : Dev), s.dev.reaches i (R.DBG_CMD) =
      some d ∧ d.lockedWrite (R.DBG_CMD) (cmdWord [(F.DBG_CMD_GO, 1), (F.DBG_CMD_OP, 1),
      (F.DBG_CMD_LEVEL, level), (F.DBG_CMD_KEYSEL, boolNat raneltik)]) = false ∧ d.respondOk (idBlock
      s.id) level raneltik = true) ∧
    (∃ (s : State) (i : Init) (level : Fin 4) (raneltik : Bool) (d : Dev), s.dev.reaches i (R.DBG_CMD) =
      some d ∧ d.lockedWrite (R.DBG_CMD) (cmdWord [(F.DBG_CMD_GO, 1), (F.DBG_CMD_OP, 1),
      (F.DBG_CMD_LEVEL, level), (F.DBG_CMD_KEYSEL, boolNat raneltik)]) = false ∧ d.respondOk (idBlock
      s.id) level raneltik = false) ∧
    (∃ (s : State) (i : Init) (level : Fin 4) (d : Dev), s.dev.reaches i (R.DBG_CMD) = some d ∧
      d.lockedWrite (R.DBG_CMD) (cmdWord [(F.DBG_CMD_GO, 1), (F.DBG_CMD_OP, 2), (F.DBG_CMD_LEVEL,
      level)]) = false ∧ level.val < d.sc.level ∧ d.mode ≠ 9) ∧
    (∃ (s : State) (i : Init) (level : Fin 4) (d : Dev), s.dev.reaches i (R.DBG_CMD) = some d ∧
      d.lockedWrite (R.DBG_CMD) (cmdWord [(F.DBG_CMD_GO, 1), (F.DBG_CMD_OP, 2), (F.DBG_CMD_LEVEL,
      level)]) = false ∧ d.sc.level ≤ level.val) ∧
    (∃ (s : State) (i : Init) (level : Fin 4) (d e : Dev), s.dev.reaches i (R.DBG_CMD) = some d ∧
      d.lockedWrite (R.DBG_CMD) ((cmdWord [(F.DBG_CMD_GO, 1), (F.DBG_CMD_OP, 2), (F.DBG_CMD_LEVEL,
      level)])) = false ∧ level.val < d.sc.level ∧ d.mode = 9 ∧ ((d.commanded R.DBG_CMD (cmdWord
      [(F.DBG_CMD_GO, 1), (F.DBG_CMD_OP, 2), (F.DBG_CMD_LEVEL, level)]) F.DBG_CMD_GO).modSc (fun x => {
      x with level := level })).put F.DBG_STAT_LEVEL level = e) ∧
    (∃ (s : State) (warm : Bool), debugReach s.dev.sc.lc s.dev.sc.level s.dev.mode = 3) ∧
    (∃ (s : State) (warm : Bool), debugReach s.dev.sc.lc s.dev.sc.level s.dev.mode ≠ 3) :=
  ⟨⟨run0, .mc, (run0).dev, Dev.reaches_internal _ _ _ rfl (by decide +kernel), by decide +kernel⟩, ⟨st
    (fun d => d.put F.DBG_STAT_LOCKOUT 1), .dbg, (st (fun d => d.put F.DBG_STAT_LOCKOUT 1)).dev,
    Dev.reaches_internal _ _ _ rfl (by decide +kernel), by decide +kernel⟩, ⟨st (fun d => d.modSc (fun x
    => { x with lc := 0 })), .dbg, 2, false, (st (fun d => d.modSc (fun x => { x with
      lc := 0 }))).dev, Dev.reaches_internal _ _ _ rfl (by decide +kernel), by decide +kernel⟩, ⟨st (fun
    d => (d.put F.DBG_STAT_FAILS 2).modSc (fun x => { x with
      lc := 2 })), .dbg, 2, false, (st (fun d => (d.put F.DBG_STAT_FAILS 2).modSc (fun x => { x with
      lc := 2 }))).dev, Dev.reaches_internal _ _ _ rfl (by decide +kernel), by decide +kernel⟩, ⟨st (fun
    d => d.setLevel 2), .dbg, 1, (st (fun d => d.setLevel 2)).dev, Dev.reaches_internal _ _ _ rfl (by
    decide +kernel), by decide +kernel⟩, ⟨run0, .mc, 2, (run0).dev, Dev.reaches_internal _ _ _ rfl (by
    decide +kernel), by decide +kernel⟩, ⟨st (fun d => ((d.setLevel 2).put F.PC_MODE_MODE 9).modSc (fun
    x => { x with lc := 3 })), .mc, 0, (st (fun d => ((d.setLevel 2).put F.PC_MODE_MODE 9).modSc (fun x
    => { x with lc := 3 }))).dev, ((((st (fun d => ((d.setLevel 2).put F.PC_MODE_MODE 9).modSc (fun x =>
    { x with lc := 3 }))).dev : Dev).commanded R.DBG_CMD (cmdWord [(F.DBG_CMD_GO, 1), (F.DBG_CMD_OP, 2),
    (F.DBG_CMD_LEVEL, (0 : Fin 4))]) F.DBG_CMD_GO).modSc (fun x => { x with
      level := (0 : Fin 4) })).put F.DBG_STAT_LEVEL (0 : Fin 4), Dev.reaches_internal _ _ _ rfl (by
    decide +kernel), fuse3 (by decide +kernel) (rfl)⟩, ⟨st (fun d => d.setLevel 2), false, by
    decide +kernel⟩, ⟨st (fun d => d.setLevel 1), true, by decide +kernel⟩⟩

theorem witness_SaplingReception_1 :
    ∃ (s : State) (src : Word) (port : BitVec 16) (msg : List Byte), port.toNat = s.dev.sapPort ∧
      s.dev.sapOn = true ∧ sapRead msg = none :=
  ⟨sts 0 (fun d => d), 7, 0x5350, [1, 2], by decide +kernel⟩

theorem witness_SaplingReception_2 :
    ∃ (s : State) (src : Word) (port : BitVec 16) (msg : List Byte) (m : SapMsg), port.toNat =
      s.dev.sapPort ∧ s.dev.sapOn = true ∧ s.dev.sapBoot = false ∧ sapRead msg = some m ∧ m.typ = 1 ∧
      m.data.length = 4096 ∧ m.seq = 0 ∧ (s.dev.sapState = 0 ∨ ((s.dev.sapState = 4 ∨ s.dev.sapState = 7
      ∨ s.dev.sapState = 8) ∧ m.session ≠ s.dev.sapSession)) ∧ holdCode s.dev.sapHolds 0x1E = 0 :=
  ⟨sts 0 (fun d => (battDev d)), 7, 0x5350, sapBytes (dataMsg 5 0), dataMsg 5 0, fuse3 (by
    decide +kernel) ⟨dataMsg_read _ _ (by decide) (by decide), by decide +kernel, block0_length, by
    decide +kernel⟩⟩

theorem witness_SaplingReception_3 :
    ∃ (s : State) (src : Word) (port : BitVec 16) (msg : List Byte) (m : SapMsg), port.toNat =
      s.dev.sapPort ∧ s.dev.sapOn = true ∧ s.dev.sapBoot = true ∧ sapRead msg = some m ∧ m.typ = 1 ∧
      m.data.length = 4096 ∧ m.seq = 0 ∧ (s.dev.sapState = 0 ∨ ((s.dev.sapState = 4 ∨ s.dev.sapState = 7
      ∨ s.dev.sapState = 8) ∧ m.session ≠ s.dev.sapSession)) :=
  ⟨sts 0 (fun d => (((d.put F.PC_MODE_MODE 3).put F.PC_STRAP_BOOTSEL 2).put F.BOOT_STEP_STEP 10)), 7,
    (BitVec.ofNat 16 ((sts 0 (fun d => (((d.put F.PC_MODE_MODE 3).put F.PC_STRAP_BOOTSEL 2).put
    F.BOOT_STEP_STEP 10))).dev.sapPort)), sapBytes (dataMsg 5 0), dataMsg 5 0, bootPort_toNat _ (by
    decide +kernel), by decide +kernel, by decide +kernel, dataMsg_read _ _ (by decide) (by decide), by
    decide +kernel, block0_length, by decide +kernel, by decide +kernel⟩

theorem witness_SaplingReception_4 :
    ∃ (s : State) (src : Word) (port : BitVec 16) (msg : List Byte) (m : SapMsg) (code : Nat),
      port.toNat = s.dev.sapPort ∧ s.dev.sapOn = true ∧ s.dev.sapBoot = false ∧ sapRead msg = some m ∧
      m.typ = 1 ∧ m.data.length = 4096 ∧ m.seq = 0 ∧ (s.dev.sapState = 0 ∨ ((s.dev.sapState = 4 ∨
      s.dev.sapState = 7 ∨ s.dev.sapState = 8) ∧ m.session ≠ s.dev.sapSession)) ∧ holdCode
      s.dev.sapHolds 0x1E = code ∧ code ≠ 0 :=
  ⟨sts 0 (fun d => (battDev d).modSc (fun x => { x with
      lc := 3 })), 7, 0x5350, sapBytes (dataMsg 5 0), dataMsg 5 0, 5, fuse3 (by decide +kernel)
    ⟨dataMsg_read _ _ (by decide) (by decide), by decide +kernel, block0_length, by decide +kernel⟩⟩

theorem witness_SaplingReception_5 :
    ∃ (s : State) (src : Word) (port : BitVec 16) (msg : List Byte) (m : SapMsg), port.toNat =
      s.dev.sapPort ∧ s.dev.sapOn = true ∧ sapRead msg = some m ∧ m.typ = 1 ∧ m.data.length = 4096 ∧
      m.seq = 0 ∧ m.session ≠ s.dev.sapSession ∧ (s.dev.sapState = 1 ∨ s.dev.sapState = 2 ∨
      s.dev.sapState = 3 ∨ s.dev.sapState = 5 ∨ s.dev.sapState = 6) :=
  ⟨sts 2 (fun d => d), 7, 0x5350, sapBytes (dataMsg 6 0), dataMsg 6 0, fuse2 (by decide +kernel)
    ⟨dataMsg_read _ _ (by decide) (by decide), by decide +kernel, block0_length, by decide +kernel⟩⟩

theorem witness_SaplingReception_6 :
    ∃ (s : State) (src : Word) (port : BitVec 16) (msg : List Byte) (m : SapMsg), port.toNat =
      s.dev.sapPort ∧ s.dev.sapOn = true ∧ sapRead msg = some m ∧ m.typ = 1 ∧ m.data.length = 4096 ∧
      s.dev.sapState ≠ 0 ∧ m.session = s.dev.sapSession ∧ (s.dev.sapState = 1 ∨ s.dev.sapAck + 16 ≤
      m.seq) :=
  ⟨sts 2 (fun d => d), 7, 0x5350, sapBytes (dataMsg 5 16), dataMsg 5 16, fuse2 (by decide +kernel)
    ⟨dataMsg_read _ _ (by decide) (by decide), by decide +kernel, block0_length, by decide +kernel⟩⟩

theorem witness_SaplingReception_7 :
    ∃ (s : State) (src : Word) (port : BitVec 16) (msg : List Byte) (m : SapMsg), port.toNat =
      s.dev.sapPort ∧ s.dev.sapOn = true ∧ sapRead msg = some m ∧ m.typ = 1 ∧ m.data.length = 4096 ∧
      s.dev.sapState ≠ 0 ∧ m.session = s.dev.sapSession ∧ s.dev.sapState ≠ 1 ∧ m.seq < s.dev.sapAck + 16
      ∧ s.dev.sapStored m.seq = true :=
  ⟨sts 2 (fun d => (d.sapStore 1 [7])), 7, 0x5350, sapBytes (dataMsg 5 1), dataMsg 5 1, fuse2 (by
    decide +kernel) ⟨dataMsg_read _ _ (by decide) (by decide), by decide +kernel, block0_length, by
    decide +kernel⟩⟩

theorem witness_SaplingReception_8 :
    ∃ (s : State) (src : Word) (port : BitVec 16) (msg : List Byte) (m : SapMsg), port.toNat =
      s.dev.sapPort ∧ s.dev.sapOn = true ∧ sapRead msg = some m ∧ m.typ = 1 ∧ m.data.length = 4096 ∧
      s.dev.sapState = 2 ∧ m.session = s.dev.sapSession ∧ m.seq < s.dev.sapAck + 16 ∧ m.seq <
      s.dev.sapTotal ∧ s.dev.sapStored m.seq = false ∧ m.seq ≠ 0 :=
  ⟨sts 2 (fun d => ((d.sapStore 0 manifest0).sapStore 1 [7]).sapStore 3 [7]), 7, 0x5350, sapBytes
    (dataMsg 5 2), dataMsg 5 2, fuse2 (by decide +kernel) ⟨dataMsg_read _ _ (by decide) (by decide), by
    decide +kernel, block0_length, by decide +kernel⟩⟩

theorem witness_SaplingReception_9 :
    ∃ (s : State) (src : Word) (port : BitVec 16) (msg : List Byte) (m : SapMsg) (code : Nat),
      port.toNat = s.dev.sapPort ∧ s.dev.sapOn = true ∧ sapRead msg = some m ∧ m.typ = 1 ∧ m.data.length
      = 4096 ∧ s.dev.sapState = 2 ∧ m.session = s.dev.sapSession ∧ m.seq = 0 ∧ s.dev.sapTotal ≠ 0 ∧
      s.dev.sapStored 0 = false ∧ (if manSession m.data = m.session then s.dev.manifestCode m.data else
      7) = code :=
  ⟨sts 2 (fun d => d), 7, 0x5350, sapBytes (dataMsg 5 0), dataMsg 5 0, 7, fuse2 (by decide +kernel)
    ⟨dataMsg_read _ _ (by decide) (by decide), by decide +kernel, block0_length, by decide +kernel⟩⟩

theorem witness_SaplingReception_10 :
    ∃ (s : State) (src : Word) (port : BitVec 16) (msg : List Byte) (m : SapMsg), port.toNat =
      s.dev.sapPort ∧ sapRead msg = some m ∧ (s.dev.sapOn = false ∨ m.typ ≠ 1 ∨ m.data.length ≠ 4096 ∨
      ((s.dev.sapState = 0 ∨ m.session ≠ s.dev.sapSession) ∧ m.seq ≠ 0) ∨ (s.dev.sapState ≠ 0 ∧
      m.session = s.dev.sapSession ∧ s.dev.sapStored m.seq = false ∧ (s.dev.sapState ≠ 2 ∨
      s.dev.sapTotal ≤ m.seq))) :=
  ⟨sts 4 (fun d => d), 7, 0x5350, sapBytes (dataMsg 5 1), dataMsg 5 1, by decide +kernel, dataMsg_read _
    _ (by decide) (by decide), by decide +kernel⟩

theorem witness_SaplingReception_11 :
    ∃ (s : State) (b : List Byte), s.dev.sapOn = true ∧ s.dev.sapState = 1 ∧ s.dev.sap.first = b ∧
      manSession b = s.dev.sapSession ∧ s.dev.manifestCode b = 0 :=
  ⟨sts 1 (fun d => (d.modSap (fun x => { x with first := manifest0, upstream := 7 })).modSc (fun x => {
    x with lc := 0 })), manifest0, by decide +kernel⟩

theorem witness_SaplingReception_12 :
    ∃ (s : State) (b : List Byte) (code : Nat), s.dev.sapOn = true ∧ s.dev.sapState = 1 ∧
      s.dev.sap.first = b ∧ (if manSession b = s.dev.sapSession then s.dev.manifestCode b else 7) = code
      ∧ code ≠ 0 :=
  ⟨sts 1 (fun d => d.modSap (fun x => { x with first := [1], upstream := 7 })), [1], 7, by
    decide +kernel⟩

theorem witness_SaplingReception_13 :
    ∃ (s : State), s.dev.sapOn = false ∨ s.dev.sapState ≠ 1 :=
  ⟨run0, by decide +kernel⟩

theorem witness_SaplingReception_14 :
    ∃ (s : State) (src : Word) (port : BitVec 16) (msg : List Byte) (m : SapMsg), port.toNat =
      s.dev.sapPort ∧ s.dev.sapOn = true ∧ sapRead msg = some m ∧ m.typ = 3 ∧ s.dev.sapState ≠ 0 ∧
      s.dev.sapState ≠ 1 ∧ m.session = s.dev.sapSession :=
  ⟨sts 8 (fun d => d.put F.SAP_RESULT_CODE 7), 7, 0x5350, sapBytes (⟨3, 0, 5, 0, 0, 4, []⟩), ⟨3, 0, 5,
    0, 0, 4, []⟩, by decide +kernel⟩

theorem witness_SaplingReception_15 :
    ∃ (s : State) (src : Word) (port : BitVec 16) (msg : List Byte) (m : SapMsg), port.toNat =
      s.dev.sapPort ∧ s.dev.sapOn = true ∧ sapRead msg = some m ∧ m.typ = 3 ∧ s.dev.sapState = 1 ∧
      m.session = s.dev.sapSession :=
  ⟨sts 1 (fun d => d), 7, 0x5350, sapBytes (⟨3, 0, 5, 0, 0, 4, []⟩), ⟨3, 0, 5, 0, 0, 4, []⟩, by
    decide +kernel⟩

theorem witness_SaplingReception_16 :
    ∃ (s : State) (src : Word) (port : BitVec 16) (msg : List Byte), port.toNat = s.dev.sapPort ∧
      (sapRead msg).all (fun m => !s.dev.sapOn || m.typ != 3 || s.dev.sapState == 0 || m.session !=
      s.dev.sapSession) = true :=
  ⟨sts 2 (fun d => d), 7, 0x5350, [1], by decide +kernel⟩

theorem witness_SaplingReception_17 :
    ∃ (s : State) (src : Word) (port : BitVec 16) (msg : List Byte) (m : SapMsg), port.toNat =
      s.dev.sapPort ∧ s.dev.sapOn = true ∧ sapRead msg = some m ∧ m.typ = 5 ∧ m.session =
      s.dev.sapSession ∧ s.dev.sapAbortable = true ∧ s.dev.peerAt src.toNat = none :=
  ⟨sts 2 (fun d => d.sapStore 0 [7]), 7, 0x5350, sapBytes (⟨5, 0, 5, 0, 0, 4, []⟩), ⟨5, 0, 5, 0, 0, 4,
    []⟩, by decide +kernel⟩

theorem witness_SaplingReception_18 :
    ∃ (s : State) (src : Word) (port : BitVec 16) (msg : List Byte), port.toNat = s.dev.sapPort ∧
      (sapRead msg).all (fun m => !s.dev.sapOn || m.typ != 5 || m.session != s.dev.sapSession ||
      !s.dev.sapAbortable || (s.dev.peerAt src.toNat).isSome) = true :=
  ⟨sts 2 (fun d => d), 0x0A000002, 0x5350, sapBytes (⟨5, 0, 5, 0, 0, 4, []⟩), by decide +kernel⟩

theorem witness_SaplingReception_19 :
    ∃ (s : State) (src : Word) (port : BitVec 16) (msg : List Byte), port.toNat ≠ s.dev.sapPort :=
  ⟨sts 2 (fun d => d), 7, 9, [1], by decide +kernel⟩

theorem witness_SaplingForwardingAndActivation :
    (∃ (s : State) (src : Word) (port : BitVec 16) (msg : List Byte) (m : SapMsg) (k : Nat), port.toNat
      = s.dev.sapPort ∧ s.dev.sapOn = true ∧ s.dev.sapBoot = false ∧ sapRead msg = some m ∧ s.dev.peerAt
      src.toNat = some k ∧ s.dev.sapState ≠ 0 ∧ m.session = s.dev.sapSession ∧ m.typ = 2 ∧
      s.dev.peerState k < 2) ∧
    (∃ (s : State) (src : Word) (port : BitVec 16) (msg : List Byte) (m : SapMsg) (k : Nat), port.toNat
      = s.dev.sapPort ∧ s.dev.sapOn = true ∧ s.dev.sapBoot = false ∧ sapRead msg = some m ∧ s.dev.peerAt
      src.toNat = some k ∧ s.dev.sapState ≠ 0 ∧ m.session = s.dev.sapSession ∧ m.typ = 4 ∧ m.code ≠ 0 ∧
      s.dev.peerState k ≠ 4) ∧
    (∃ (s : State) (src : Word) (port : BitVec 16) (msg : List Byte) (m : SapMsg) (k : Nat), port.toNat
      = s.dev.sapPort ∧ s.dev.sapOn = true ∧ s.dev.sapBoot = false ∧ sapRead msg = some m ∧ s.dev.peerAt
      src.toNat = some k ∧ s.dev.sapState ≠ 0 ∧ m.session = s.dev.sapSession ∧ m.typ = 4 ∧ m.code = 0 ∧
      s.dev.peerState k ≠ 4) ∧
    (∃ (s : State) (src : Word) (port : BitVec 16) (msg : List Byte), port.toNat = s.dev.sapPort ∧
      (s.dev.peerAt src.toNat = none ∨ (sapRead msg).all (fun m => !s.dev.sapOn || s.dev.sapBoot ||
      m.typ != 2 || s.dev.sapState == 0 || m.session != s.dev.sapSession || (s.dev.peerAt src.toNat).all
      (fun k => !decide (s.dev.peerState k < 2))) = true)) ∧
    (∃ (s : State) (src : Word) (port : BitVec 16) (msg : List Byte), port.toNat = s.dev.sapPort ∧
      (s.dev.peerAt src.toNat = none ∨ (sapRead msg).all (fun m => !s.dev.sapOn || s.dev.sapBoot ||
      m.typ != 4 || s.dev.sapState == 0 || m.session != s.dev.sapSession || (s.dev.peerAt src.toNat).all
      (fun k => s.dev.peerState k == 4)) = true)) ∧
    (∃ (s : State) (k : Fin 4) (n : Fin 8192) (sends t : Nat), s.dev.sapOn = true ∧ s.dev.peerOn k =
      true ∧ s.dev.peerState k = 1 ∧ (s.dev.sapPeer k).sent.find? (fun x => x.1 == n.val) = some (n.val,
      sends, t) ∧ t + 20000000 ≤ s.dev.plat.aon ∧ sends < 8) ∧
    (∃ (s : State) (k : Fin 4) (n : Fin 8192) (sends t : Nat), s.dev.sapOn = true ∧ s.dev.peerOn k =
      true ∧ s.dev.peerState k = 1 ∧ (s.dev.sapPeer k).sent.find? (fun x => x.1 == n.val) = some (n.val,
      sends, t) ∧ t + 20000000 ≤ s.dev.plat.aon ∧ 8 ≤ sends) ∧
    (∃ (s : State) (k : Fin 4) (n : Fin 8192), (s.dev.sapOn = false ∨ s.dev.peerOn k = false ∨
      s.dev.peerState k ≠ 1 ∨ ((s.dev.sapPeer k).sent.find? (fun x => x.1 == n.val)).all (fun x =>
      decide (s.dev.plat.aon < x.2.2 + 20000000)) = true)) ∧
    (∃ (s : State) (k : Fin 4), s.dev.sapOn = true ∧ s.dev.peerOn k = true ∧ s.dev.peerState k = 3 ∧
      (s.dev.sapPeer k).query + 1000000000 ≤ s.dev.plat.aon) ∧
    (∃ (s : State) (k : Fin 4), (s.dev.sapOn = false ∨ s.dev.peerOn k = false ∨ s.dev.peerState k ≠ 3 ∨
      s.dev.plat.aon < (s.dev.sapPeer k).query + 1000000000)) ∧
    (∃ (s : State) (i : Init) (d : Dev), s.dev.reaches i (R.SAP_CMD) = some d ∧ d.lockedWrite
      (R.SAP_CMD) (cmdWord [(F.SAP_CMD_GO, 1), (F.SAP_CMD_OP, 1)]) = false ∧ d.sapState = 4 ∧ d.sapHolds
      = 0 ∧ d.slp.target = none ∧ (manEntries d.sapManifest).find? (fun e => e.kind == 4) = none) ∧
    (∃ (s : State) (i : Init) (d : Dev) (e : SapEntry), s.dev.reaches i (R.SAP_CMD) = some d ∧
      d.lockedWrite (R.SAP_CMD) (cmdWord [(F.SAP_CMD_GO, 1), (F.SAP_CMD_OP, 1)]) = false ∧ d.sapState =
      4 ∧ d.sapHolds = 0 ∧ d.slp.target = none ∧ (manEntries d.sapManifest).find? (fun e => e.kind == 4)
      = some e ∧ d.runningDb = some (manBase d.sapManifest) ∧ e.apply ≤ 30000) ∧
    (∃ (s : State) (i : Init) (d : Dev) (c : Nat), s.dev.reaches i (R.SAP_CMD) = some d ∧ d.lockedWrite
      (R.SAP_CMD) (cmdWord [(F.SAP_CMD_GO, 1), (F.SAP_CMD_OP, 1)]) = false ∧ d.activateCode = c ∧ c ≠ 0)
      ∧
    (∃ (s : State) (i : Init) (d : Dev), s.dev.reaches i (R.SAP_CMD) = some d ∧ d.lockedWrite
      (R.SAP_CMD) (cmdWord [(F.SAP_CMD_GO, 1), (F.SAP_CMD_OP, 2)]) = false ∧ d.sapAbortable = true) ∧
    (∃ (s : State) (i : Init) (d : Dev), s.dev.reaches i (R.SAP_CMD) = some d ∧ d.lockedWrite
      (R.SAP_CMD) (cmdWord [(F.SAP_CMD_GO, 1), (F.SAP_CMD_OP, 2)]) = false ∧ d.sapAbortable = false) :=
  ⟨⟨sts 2 (fun d => d.sapStore 0 [7]), 0x0A000002, 0x5350, sapBytes (⟨2, 0, 5, 4, 0, 4, []⟩), ⟨2, 0, 5,
    4, 0, 4, []⟩, 2, by decide +kernel⟩, ⟨sts 2 (fun d => d.sapStore 0 [7]), 0x0A000002, 0x5350,
    sapBytes (⟨4, 7, 5, 1, 0, 4, []⟩), ⟨4, 7, 5, 1, 0, 4, []⟩, 2, by decide +kernel⟩, ⟨sts 2 (fun d =>
    (d.sapStore 0 [7]).put (F.SAP_DOWN_STAT_STATE 2) 3), 0x0A000002, 0x5350, sapBytes (⟨4, 0, 5, 1, 0,
    4, []⟩), ⟨4, 0, 5, 1, 0, 4, []⟩, 2, by decide +kernel⟩, ⟨sts 2 (fun d => d), 7, 0x5350, [1], by
    decide +kernel⟩, ⟨sts 2 (fun d => d), 7, 0x5350, [1], by decide +kernel⟩, ⟨sts 2 (fun d => late
    (((d.sapStore 0 [7]).put (F.SAP_DOWN_STAT_STATE 2) 1).modPeer 2 (fun q => { q with
      sent := [(0, 3, 5)] }))), 2, 0, 3, 5, by decide +kernel⟩, ⟨sts 2 (fun d => late (((d.sapStore 0
    [7]).put (F.SAP_DOWN_STAT_STATE 2) 1).modPeer 2 (fun q => { q with
      sent := [(0, 8, 5)] }))), 2, 0, 8, 5, by decide +kernel⟩, ⟨run0, 2, 7, by decide +kernel⟩, ⟨sts 2
    (fun d => late (d.put (F.SAP_DOWN_STAT_STATE 2) 3)), 2, by decide +kernel⟩, ⟨run0, 2, by
    decide +kernel⟩, ⟨sts 4 (fun d => (battDev d).sapStore 0 manifest0), .mc, (sts 4 (fun d => (battDev
    d).sapStore 0 manifest0)).dev, Dev.reaches_internal _ _ _ rfl (by decide +kernel), by
    decide +kernel⟩, ⟨sts 4 (fun d => (((battDev d).sapStore 0 deltaMan).modPlat (fun p => { p with
      boot := { p.boot with flags := 4 } })).modSap (fun x => { x with
      flash := tset x.flash (8192 * (1 - d.sapSlot)) manifest0 })), .mc, (sts 4 (fun d => (((battDev
    d).sapStore 0 deltaMan).modPlat (fun p => { p with
      boot := { p.boot with flags := 4 } })).modSap (fun x => { x with
      flash := tset x.flash (8192 * (1 - d.sapSlot)) manifest0 }))).dev, ⟨4, 0x2000, 16, 5,
    List.replicate 32 0⟩, Dev.reaches_internal _ _ _ rfl (by decide +kernel), by decide +kernel⟩, ⟨sts 2
    (fun d => d), .mc, (sts 2 (fun d => d)).dev, 1, Dev.reaches_internal _ _ _ rfl (by decide +kernel),
    by decide +kernel⟩, ⟨sts 2 (fun d => d.sapStore 0 [7]), .mc, (sts 2 (fun d => d.sapStore 0
    [7])).dev, Dev.reaches_internal _ _ _ rfl (by decide +kernel), by decide +kernel⟩, ⟨run0, .mc,
    (run0).dev, Dev.reaches_internal _ _ _ rfl (by decide +kernel), by decide +kernel⟩⟩

theorem witness_ScrubbingAndInjection :
    (∃ (s : State) (mem : Fin 16) (inst : Fin 256) (addr : Word) (bits : Fin 3), s.dev.flag
      F.SD_SCRUB_CTRL_EN = true ∧ s.dev.released (.sd 2) = true ∧ s.dev.scrubNext mem inst addr.toNat =
      true ∧ inst.val < (scrubSize mem).1 ∧ addr.toNat < (scrubSize mem).2 ∧ s.dev.standing (mem.val,
      inst.val, addr.toNat) = 0 ∧ bits = 0 ∧ (mem ≠ 6 ∨ inst ≠ 0 ∨ (addr ≠ 0 ∧ addr ≠ 8191))) ∧
    (∃ (s : State) (mem : Fin 16) (inst : Fin 256) (addr : Word) (bits : Fin 3), s.dev.flag
      F.SD_SCRUB_CTRL_EN = true ∧ s.dev.released (.sd 2) = true ∧ s.dev.scrubNext mem inst addr.toNat =
      true ∧ inst.val < (scrubSize mem).1 ∧ addr.toNat < (scrubSize mem).2 ∧ max bits.val
      (s.dev.standing (mem.val, inst.val, addr.toNat)) = 1 ∧ s.dev.scrub.fixed.contains (mem.val,
      inst.val, addr.toNat) = false) ∧
    (∃ (s : State) (mem : Fin 16) (inst : Fin 256) (addr : Word) (bits : Fin 3), s.dev.flag
      F.SD_SCRUB_CTRL_EN = true ∧ s.dev.released (.sd 2) = true ∧ s.dev.scrubNext mem inst addr.toNat =
      true ∧ inst.val < (scrubSize mem).1 ∧ addr.toNat < (scrubSize mem).2 ∧ max bits.val
      (s.dev.standing (mem.val, inst.val, addr.toNat)) = 1 ∧ s.dev.scrub.fixed.contains (mem.val,
      inst.val, addr.toNat) = true) ∧
    (∃ (s : State) (mem : Fin 16) (inst : Fin 256) (addr : Word) (bits : Fin 3), s.dev.flag
      F.SD_SCRUB_CTRL_EN = true ∧ s.dev.released (.sd 2) = true ∧ s.dev.scrubNext mem inst addr.toNat =
      true ∧ inst.val < (scrubSize mem).1 ∧ addr.toNat < (scrubSize mem).2 ∧ 2 ≤ max bits.val
      (s.dev.standing (mem.val, inst.val, addr.toNat))) ∧
    (∃ (s : State) (addr : Word) (bits : Fin 3), s.dev.flag F.SD_SCRUB_CTRL_EN = true ∧ s.dev.released
      (.sd 2) = true ∧ s.dev.scrubNext 6 0 addr.toNat = true ∧ addr = 8191) ∧
    (∃ (s : State) (mem : Fin 16) (inst : Fin 256) (addr : Word) (bits : Fin 3), s.dev.flag
      F.SD_SCRUB_CTRL_EN = true ∧ s.dev.released (.sd 2) = true ∧ s.dev.scrubNext mem inst addr.toNat =
      true ∧ inst.val < (scrubSize mem).1 ∧ addr.toNat < (scrubSize mem).2 ∧ mem ≠ 9 ∧ mem ≠ 10) ∧
    (∃ (s : State) (mem : Fin 16) (inst : Fin 256) (addr : Word) (bits : Fin 3), s.dev.flag
      F.SD_SCRUB_CTRL_EN = true ∧ s.dev.released (.sd 2) = true ∧ s.dev.scrubNext mem inst addr.toNat =
      true ∧ addr.toNat < (scrubSize mem).2 ∧ (mem = 9 ∨ mem = 10)) ∧
    (∃ (s : State) (mem : Fin 16) (inst : Fin 256) (addr : Word) (bits : Fin 3), (s.dev.flag
      F.SD_SCRUB_CTRL_EN = false ∨ s.dev.released (.sd 2) = false ∨ (scrubSize mem).1 ≤ inst.val ∨
      (scrubSize mem).2 ≤ addr.toNat ∨ s.dev.scrubNext mem inst addr.toNat = false)) ∧
    (∃ (s : State) (x : Injection) (inst : Fin 256) (addr : Word), s.dev.flag F.SD_SCRUB_CTRL_EN = true
      ∧ s.dev.released (.sd 2) = true ∧ s.dev.scrubNext 1 inst addr.toNat = true ∧ inst.val < 32 ∧
      addr.toNat < 8192 ∧ s.dev.inject = some x ∧ x.kind = 1 ∧ x.mem = 1 ∧ x.inst = inst.val ∧ x.addr =
      addr.toNat ∧ s.dev.standing (1, inst.val, addr.toNat) = 0) ∧
    (∃ (s : State) (p : Fin 12) (khz : Nat), p ≠ 2) ∧
    (∃ (s : State) (i : Init) (kind : Fin 4) (mem : Fin 16) (inst : Fin 256) (d : Dev), s.dev.reaches i
      (R.SD_INJECT) = some d ∧ d.lockedWrite (R.SD_INJECT) (cmdWord [(F.SD_INJECT_GO, 1),
      (F.SD_INJECT_KIND, kind), (F.SD_INJECT_MEM, mem), (F.SD_INJECT_INSTANCE, inst)]) = false ∧ (kind =
      0 ∨ d.mode = 9 ∨ d.mode = 10 ∨ d.sc.level = 2) ∧ kind.val < 3 ∧ (kind.val < 2 → 1 ≤ mem.val ∧
      mem.val ≤ 10) ∧ (kind = 2 → inst.val ≤ 27)) ∧
    (∃ (s : State) (i : Init) (kind : Fin 4) (mem : Fin 16) (inst : Fin 256) (d : Dev), s.dev.reaches i
      (R.SD_INJECT) = some d ∧ d.lockedWrite (R.SD_INJECT) (cmdWord [(F.SD_INJECT_GO, 1),
      (F.SD_INJECT_KIND, kind), (F.SD_INJECT_MEM, mem), (F.SD_INJECT_INSTANCE, inst)]) = false ∧ kind =
      3 ∧ (d.mode = 9 ∨ d.mode = 10 ∨ d.sc.level = 2)) ∧
    (∃ (s : State) (i : Init) (kind : Fin 4) (mem : Fin 16) (inst : Fin 256) (d : Dev), s.dev.reaches i
      (R.SD_INJECT) = some d ∧ d.lockedWrite (R.SD_INJECT) (cmdWord [(F.SD_INJECT_GO, 1),
      (F.SD_INJECT_KIND, kind), (F.SD_INJECT_MEM, mem), (F.SD_INJECT_INSTANCE, inst)]) = false ∧ ((kind
      ≠ 0 ∧ d.mode ≠ 9 ∧ d.mode ≠ 10 ∧ d.sc.level ≠ 2) ∨ (kind.val < 2 ∧ (mem = 0 ∨ 10 < mem.val)) ∨
      (kind = 2 ∧ 27 < inst.val))) ∧
    (∃ (d : Dev) (p : Nat × Nat × Nat → Bool) (x : Injection) (w : Nat × Nat × Nat), d.inject = some x ∧
      x.kind < 2 ∧ p (x.mem, x.inst, x.addr) = true) ∧
    (∃ (d : Dev) (c : Fin 64) (a : Nat) (bs : List Byte) (x : Injection), d.inject = some x ∧ x.kind < 2
      ∧ x.mem = 6 ∧ x.inst = c.val ∧ a < 4 * x.addr + 4 ∧ 4 * x.addr < a + bs.length) ∧
    (∃ (old d : Dev) (x : Injection) (w : Nat × Nat × Nat), d.inject = some x ∧ x.kind < 2 ∧ x.mem = 8 ∧
      old.wheelWritten d (x.mem, x.inst, x.addr) = true) :=
  ⟨⟨st (fun d => scrubAt 1 3 5 d), 1, 3, 5, 0, by decide +kernel⟩, ⟨st (fun d => scrubAt 1 3 5 { d with
      scrub := { d.scrub with errs := [{ word := (1, 3, 5), bits := 1, inj := false }] } }), 1, 3, 5, 0,
    by decide +kernel⟩, ⟨st (fun d => scrubAt 1 3 5 { d with
      scrub := { d.scrub with fixed := [(1, 3, 5)] } }), 1, 3, 5, 1, by decide +kernel⟩, ⟨st (fun d =>
    scrubAt 5 3 5 d), 5, 3, 5, 2, by decide +kernel⟩, ⟨st (fun d => scrubAt 6 0 8191 d), 8191, 0, by
    decide +kernel⟩, ⟨st (fun d => scrubAt 5 3 32767 d), 5, 3, 32767, 0, by decide +kernel⟩, ⟨st (fun d
    => { d.put F.SD_SCRUB_CTRL_EN 1 with scrub := { d.scrub with
                                           pos := [(bankKey 9 3 5, 5)] } }), 9, 3, 5, 0, by
    decide +kernel⟩, ⟨st (fun d => d.put F.SD_SCRUB_CTRL_EN 0), 1, 3, 5, 2, by decide +kernel⟩, ⟨st (fun
    d => scrubAt 1 3 5 { d with inject := some { kind := 1, mem := 1, inst := 3, addr := 5 } }), {
      kind := 1, mem := 1, inst := 3, addr := 5 }, 3, 5, by decide +kernel⟩, ⟨run0, 3, 7, by
    decide +kernel⟩, ⟨run0, .mc, 0, 5, 3, (run0).dev, Dev.reaches_internal _ _ _ rfl (by
    decide +kernel), by decide +kernel⟩, ⟨st (fun d => d.setLevel 2), .mc, 3, 0, 0, (st (fun d =>
    d.setLevel 2)).dev, Dev.reaches_internal _ _ _ rfl (by decide +kernel), by decide +kernel⟩, ⟨run0,
    .mc, 1, 5, 3, (run0).dev, Dev.reaches_internal _ _ _ rfl (by decide +kernel), by decide +kernel⟩, ⟨{
    runDev with inject := some { kind := 1, mem := 5, inst := 3, addr := 5 } }, (fun w => w == (5, 3,
    5)), { kind := 1, mem := 5, inst := 3, addr := 5 }, (8, 0, 6), by decide +kernel⟩, ⟨{ runDev with
      inject := some { kind := 0, mem := 6, inst := 3, addr := 5 } }, 3, 20, [0, 0, 0, 0], {
      kind := 0, mem := 6, inst := 3, addr := 5 }, by decide +kernel⟩, ⟨{ runDev with
      inject := some { kind := 1, mem := 8, inst := 0, addr := 5 } }, { runDev with
      inject := some { kind := 1, mem := 8, inst := 0, addr := 5 } }.setEntry 5 { runDev.entry 5 with
      version := 9 }, { kind := 1, mem := 8, inst := 0, addr := 5 }, (8, 0, 6), by decide +kernel⟩⟩

theorem witness_ChamberCommands :
    (∃ (s : State) (r : ChRec) (rest : List ChRec), s.dev.flag F.CH_STAT_SCAN_DONE = true ∧
      s.dev.ch.queue = r :: rest ∧ s.dev.chSuppressed r = false ∧ s.dev.ch.nextAt ≤ s.dev.plat.aon) ∧
    (∃ (s : State) (r : ChRec) (rest : List ChRec), s.dev.flag F.CH_STAT_SCAN_DONE = true ∧
      s.dev.ch.queue = r :: rest ∧ s.dev.chSuppressed r = false ∧ s.dev.ch.nextAt ≤ s.dev.plat.aon ∧
      s.dev.ch.again = false) ∧
    (∃ (s : State) (r : ChRec) (rest : List ChRec), s.dev.flag F.CH_STAT_SCAN_DONE = true ∧
      s.dev.ch.queue = r :: rest ∧ s.dev.chSuppressed r = false ∧ s.dev.ch.nextAt ≤ s.dev.plat.aon ∧
      s.dev.ch.again = true) ∧
    (∃ (s : State) (ok : Bool) (r : ChRec), s.dev.flag F.CH_STAT_SCAN_DONE = true ∧ s.dev.ch.nextAt ≤
      s.dev.plat.aon ∧ s.dev.ch.queue = [r] ∧ s.dev.chSuppressed r = true) ∧
    (∃ (s : State) (ok : Bool), ((s.dev.ch.queue = [] ∧ s.dev.get F.CH_STAT_QUEUED = 0) ∨ s.dev.plat.aon
      < s.dev.ch.nextAt ∨ s.dev.flag F.CH_STAT_SCAN_DONE = false)) ∧
    (∃ (s : State) (seqs : List Nat), s.dev.released (.pc 5) = true ∧ s.dev.flag F.CH_STAT_SCAN_DONE =
      false ∧ (s.dev.ch.slots.filter (fun e => slotValid (Sys2Proof.Machine.slice e.2 0 64))).map (fun e
      => slotSeq e.2) = seqs) ∧
    (∃ (s : State), (s.dev.released (.pc 5) = false ∨ s.dev.flag F.CH_STAT_SCAN_DONE = true)) ∧
    (∃ (s : State) (i : Init) (slot : Fin 16384) (d : Dev), s.dev.reaches i (R.CH_SEL) = some d ∧
      d.lockedWrite (R.CH_SEL) (cmdWord [(F.CH_SEL_SLOT, slot)]) = false ∧ (∀ t : Fin 128, i ≠ .gv t)) ∧
    (∃ (s : State) (t : Fin 128) (i : Init) (slot : Fin 16384), i = .gv t ∧ s.dev.released (.pc 5) =
      true) ∧
    (∃ (s : State) (i : Init) (cause : BitVec 16) (d : Dev), i = .mc ∧ s.dev.reaches i (R.CH_WCMD) =
      some d ∧ d.lockedWrite (R.CH_WCMD) (cmdWord [(F.CH_WCMD_GO, 1), (F.CH_WCMD_CAUSE, cause.toNat)]) =
      false ∧ 0x8000 ≤ cause.toNat) ∧
    (∃ (s : State) (i : Init) (cause : BitVec 16) (d : Dev), s.dev.reaches i (R.CH_WCMD) = some d ∧
      d.lockedWrite (R.CH_WCMD) (cmdWord [(F.CH_WCMD_GO, 1), (F.CH_WCMD_CAUSE, cause.toNat)]) = false ∧
      (i ≠ .mc ∨ cause.toNat < 0x8000)) :=
  ⟨⟨st (fun d => { d.put F.CH_STAT_SCAN_DONE 1 with
      ch := { d.ch with queue := [chRec0], again := false } }), chRec0, [], by decide +kernel⟩, ⟨st (fun
    d => { d.put F.CH_STAT_SCAN_DONE 1 with ch := { d.ch with
                                              queue := [chRec0], again := false } }), chRec0, [], by
    decide +kernel⟩, ⟨st (fun d => { d.put F.CH_STAT_SCAN_DONE 1 with
      ch := { d.ch with queue := [chRec0], again := true } }), chRec0, [], by decide +kernel⟩, ⟨st (fun
    d => { (d.put F.CH_STAT_SCAN_DONE 1).put F.CH_SUPPRESS_SUPPRESS_MS 100 with
      ch := { d.ch with queue := [chRec0], again := false, last := some chRec0 } }), true, chRec0, by
    decide +kernel⟩, ⟨run0, true, by decide +kernel⟩, ⟨st (fun d => { d with
      ch := { d.ch with slots := [(6, chBytes chRec0 6 0 false false)] } }), [6], by decide +kernel⟩,
    ⟨st (fun d => d.put F.CH_STAT_SCAN_DONE 1), by decide +kernel⟩, ⟨st (fun d => { d with
      ch := { d.ch with slots := [(6, chBytes chRec0 6 0 false false)] } }), .mc, 6, (st (fun d => { d
    with ch := { d.ch with slots := [(6, chBytes chRec0 6 0 false false)] } })).dev,
    Dev.reaches_internal _ _ _ rfl (by decide +kernel), by decide +kernel⟩, ⟨run0, 5, .gv 5, 6, by
    decide +kernel⟩, ⟨run0, .mc, 0x8001, (run0).dev, by decide +kernel, Dev.reaches_internal _ _ _ rfl
    (by decide +kernel), by decide +kernel⟩, ⟨run0, .mc, 7, (run0).dev, Dev.reaches_internal _ _ _ rfl
    (by decide +kernel), by decide +kernel⟩⟩

theorem witness_CalibrationAndOptionCommands :
    (∃ (s : State) (i : Init) (d : Dev), s.dev.reaches i (R.CAL_CMD) = some d ∧ d.lockedWrite
      (R.CAL_CMD) (cmdWord [(F.CAL_CMD_GO, 1), (F.CAL_CMD_OP, 0)]) = false ∧ d.mram.calRun = none) ∧
    (∃ (s : State) (i : Init) (key : BitVec 16) (d : Dev), s.dev.reaches i (R.CAL_CMD) = some d ∧
      d.lockedWrite (R.CAL_CMD) (cmdWord [(F.CAL_CMD_GO, 1), (F.CAL_CMD_OP, 1), (F.CAL_CMD_KEY,
      key.toNat)]) = false ∧ i = .mc ∧ key = 0x5AC3 ∧ commitMode d.mode = true ∧ d.mram.calRun = none) ∧
    (∃ (s : State) (i : Init) (key : BitVec 16) (d : Dev), s.dev.reaches i (R.CAL_CMD) = some d ∧
      d.lockedWrite (R.CAL_CMD) (cmdWord [(F.CAL_CMD_GO, 1), (F.CAL_CMD_OP, 1), (F.CAL_CMD_KEY,
      key.toNat)]) = false ∧ (i ≠ .mc ∨ key ≠ 0x5AC3 ∨ commitMode d.mode = false) ∧ d.mram.calRun =
      none) ∧
    (∃ (s : State) (i : Init) (key : BitVec 16) (d : Dev), s.dev.reaches i (R.CAL_CMD) = some d ∧
      d.lockedWrite (R.CAL_CMD) (cmdWord [(F.CAL_CMD_GO, 1), (F.CAL_CMD_OP, 0)]) = false ∧ d.lockedWrite
      (R.CAL_CMD) (cmdWord [(F.CAL_CMD_GO, 1), (F.CAL_CMD_OP, 1), (F.CAL_CMD_KEY, key.toNat)]) = false ∧
      d.mram.calRun.isSome = true) ∧
    (∃ (d : Dev) (r : CopyRun), d.mram.calRun = some r ∧ r.first < 2 ∧ r.mid ≤ d.plat.aon ∧ d.plat.aon <
      r.fin ∧ r.half = false) ∧
    (∃ (d : Dev) (r : CopyRun), d.mram.calRun = some r ∧ r.first < 2 ∧ r.fin ≤ d.plat.aon ∧ (r.half =
      true ∨ r.mid ≤ d.plat.aon) ∧ d.mram.optRun = none ∧ (r.half = true → (if r.first = 0 then
      d.mram.cal0 else d.mram.cal1) = r.copy)) ∧
    (∃ (s : State) (i : Init) (d : Dev), s.dev.reaches i (R.OPT_CMD) = some d ∧ d.lockedWrite
      (R.OPT_CMD) (cmdWord [(F.OPT_CMD_GO, 1), (F.OPT_CMD_OP, 0)]) = false ∧ d.mram.optRun = none) ∧
    (∃ (s : State) (i : Init) (key : BitVec 16) (d : Dev), s.dev.reaches i (R.OPT_CMD) = some d ∧
      d.lockedWrite (R.OPT_CMD) (cmdWord [(F.OPT_CMD_GO, 1), (F.OPT_CMD_OP, 1), (F.OPT_CMD_KEY,
      key.toNat)]) = false ∧ i = .mc ∧ key = 0x5AC3 ∧ commitMode d.mode = true ∧ d.mram.optRun = none) ∧
    (∃ (s : State) (i : Init) (key : BitVec 16) (d : Dev), s.dev.reaches i (R.OPT_CMD) = some d ∧
      d.lockedWrite (R.OPT_CMD) (cmdWord [(F.OPT_CMD_GO, 1), (F.OPT_CMD_OP, 1), (F.OPT_CMD_KEY,
      key.toNat)]) = false ∧ (i ≠ .mc ∨ key ≠ 0x5AC3 ∨ commitMode d.mode = false) ∧ d.mram.optRun =
      none) ∧
    (∃ (s : State) (i : Init) (key : BitVec 16) (d : Dev), s.dev.reaches i (R.OPT_CMD) = some d ∧
      d.lockedWrite (R.OPT_CMD) (cmdWord [(F.OPT_CMD_GO, 1), (F.OPT_CMD_OP, 0)]) = false ∧ d.lockedWrite
      (R.OPT_CMD) (cmdWord [(F.OPT_CMD_GO, 1), (F.OPT_CMD_OP, 1), (F.OPT_CMD_KEY, key.toNat)]) = false ∧
      d.mram.optRun.isSome = true) ∧
    (∃ (d : Dev) (r : CopyRun), d.mram.optRun = some r ∧ r.first < 2 ∧ r.fin ≤ d.plat.aon ∧ r.mid ≤
      d.plat.aon ∧ r.half = false ∧ d.mram.calRun = none) :=
  ⟨⟨run0, .mc, (run0).dev, Dev.reaches_internal _ _ _ rfl (by decide +kernel), by decide +kernel⟩,
    ⟨run0, .mc, 0x5AC3, (run0).dev, Dev.reaches_internal _ _ _ rfl (by decide +kernel), by
    decide +kernel⟩, ⟨run0, .mc, 7, (run0).dev, Dev.reaches_internal _ _ _ rfl (by decide +kernel), by
    decide +kernel⟩, ⟨st (fun d => { d with mram := { d.mram with
                                              calRun := some copyRun0 } }), .mc, 0x5AC3, (st (fun d => {
    d with mram := { d.mram with calRun := some copyRun0 } })).dev, Dev.reaches_internal _ _ _ rfl (by
    decide +kernel), by decide +kernel⟩, ⟨{ runDev with
      mram := { runDev.mram with calRun := some copyRun0 } }, copyRun0, by decide +kernel⟩, ⟨{ runDev
    with mram := { runDev.mram with calRun := some { copyRun0 with
                                      fin := 1000000 } } }, { copyRun0 with
      fin := 1000000 }, by decide +kernel⟩, ⟨run0, .mc, (run0).dev, Dev.reaches_internal _ _ _ rfl (by
    decide +kernel), by decide +kernel⟩, ⟨run0, .mc, 0x5AC3, (run0).dev, Dev.reaches_internal _ _ _ rfl
    (by decide +kernel), by decide +kernel⟩, ⟨run0, .mc, 7, (run0).dev, Dev.reaches_internal _ _ _ rfl
    (by decide +kernel), by decide +kernel⟩, ⟨st (fun d => { d with
      mram := { d.mram with optRun := some copyRun0 } }), .mc, 0x5AC3, (st (fun d => { d with
      mram := { d.mram with optRun := some copyRun0 } })).dev, Dev.reaches_internal _ _ _ rfl (by
    decide +kernel), by decide +kernel⟩, ⟨{ runDev with
      mram := { runDev.mram with optRun := some { copyRun0 with
                                   fin := 1000000 } } }, { copyRun0 with
      fin := 1000000 }, by decide +kernel⟩⟩

theorem witness_StepRunsTheFront :
    ∃ (s : State) (c : Instr) (q : List Instr), s.pending = c :: q :=
  ⟨{ State.reset with pending := [.porAssert true] }, .porAssert true, [], by decide +kernel⟩

theorem witness_TickOnEmptyQueue :
    (∃ (s : State), s.pending = [] ∧ s.dev.sw.lkHeld = none ∧ s.dev.mram.calRun = none ∧
      s.dev.mram.optRun = none ∧ s.dev.plat.porLow = false ∧ s.dev.tl.running = true ∧ bitOf
      s.dev.bypassed 2 = false ∧ s.dev.tl.fifth = 0) ∧
    (∃ (s : State), s.pending = [] ∧ s.dev.sw.lkHeld = none ∧ s.dev.mram.calRun = none ∧
      s.dev.mram.optRun = none ∧ s.dev.tl.running = true ∧ bitOf s.dev.bypassed 2 = true) ∧
    (∃ (s : State), s.pending = [] ∧ s.dev.sw.lkHeld = none ∧ s.dev.mram.calRun = none ∧
      s.dev.mram.optRun = none ∧ s.dev.tl.running = false) ∧
    (∃ (s : State) (k : Fin 2), s.pending = [] ∧ s.dev.sw.lkHeld = some k.val ∧ s.dev.mram.calRun = none
      ∧ s.dev.mram.optRun = none) ∧
    (∃ (d : Dev) (x : Identity), d.gvRuns = false) ∧
    (∃ (w : Nat) (i : Rv), w < 2 ^ 32 ∧ (bitsOf w 0 7 = 0x0B ∨ bitsOf w 0 7 = 0x2B) ∧ decode32 w = some
      i) ∧
    (∃ (d : Dev) (x : Identity) (t : Fin 128) (n : Nat), d.fetch t (d.thr t).pc = some (none, n)) ∧
    (∃ (d : Dev) (x : Identity) (t : Fin 128) (pc next : Nat) (op : Alu) (rd a b r : Fin 32) (u : Nat)
      (d' : Dev), d.rvExec x t pc next (.op op rd a b) = d') ∧
    (∃ (d : Dev) (x : Identity) (t : Fin 128) (pc next a v i j : Nat) (rd : Fin 32) (d' : Dev), a % 4 =
      0 ∧ inData a = true ∧ v < 2 ^ 32 ∧ lmIndex t a = some i ∧ d.rvStore x t pc next 4 a v = d' ∧
      d.inject.all (fun y => !(y.kind == 1 && y.mem == 5 && 65536 * y.inst + y.addr == i)) = true) :=
  ⟨⟨domRun 2 3, by decide +kernel⟩, ⟨st (fun d => d.modPlat (fun p => { p with
      bypass := 4 })), by decide +kernel⟩, ⟨State.reset, by decide +kernel⟩, ⟨st (fun d => (d.lkHold
    1).put (F.LK_CMD_GO 1) 1), 1, by decide +kernel⟩, ⟨runDev, State.reset.id, by decide +kernel⟩,
    ⟨0x4005B50B, .gxSigld 10 11 1, by decide +kernel⟩, ⟨runDev.modThr 9 (fun c => { c with
      pc := 0x4000 }), State.reset.id, 9, 2, by decide +kernel⟩, ⟨runDev, State.reset.id, 9, 0x4000,
    0x4004, .add, 5, 6, 7, 5, 8, (runDev : Dev).rvExec (State.reset.id : Identity) (9 : Fin 128) (0x4000
    : Nat) (0x4004 : Nat) (.op (.add : Alu) (5 : Fin 32) (6 : Fin 32) (7 : Fin 32)), rfl⟩, ⟨runDev,
    State.reset.id, 9, 0x4000, 0x4004, 0x30010, 7, 0x1C804, 3, 5, (runDev : Dev).rvStore (State.reset.id
    : Identity) (9 : Fin 128) (0x4000 : Nat) (0x4004 : Nat) 4 (0x30010 : Nat) (7 : Nat), fuse4 (by
    decide +kernel) ⟨rfl, by decide +kernel⟩⟩⟩

theorem witness_CommandEndsFrame :
    ∃ (s : State) (d : Dev), d.atRest = true :=
  ⟨run0, groveDev (runDev.put F.GV_ROT_STAT_PHASE 1 |> fun d => { d with
      gv := { d.gv with idleSince := none } }), by decide +kernel⟩

theorem witness_RegisterWriteTransport :
    (∃ (s : State) (i : Init) (addr : Nat) (v : Word) (full : Bool) (code : Nat), addr < 0x4000000 ∧
      portOf i = none ∧ s.dev.accessCode i addr full = some code ∧ (i ≠ .mc ∨ s.dev.sapState ≠ 5)) ∧
    (∃ (s : State) (i : Init) (addr : Nat) (v : Word) (p : Nat), addr < 0x4000000 ∧ portOf i = some p ∧
      s.dev.linkUp p = false) ∧
    (∃ (s : State) (i : Init) (addr : Nat) (v : Word) (full : Bool) (p : Nat), addr < 0x4000000 ∧ portOf
      i = some p ∧ s.dev.linkUp p = true ∧ pageOf addr ≠ some (.hb (p + 1)) ∧ (s.dev.pelFree p = none ∨
      s.dev.pelNames p addr = true)) ∧
    (∃ (s : State) (i : Init) (addr : Nat) (v : Word) (d : Dev), addr < 0x4000000 ∧ s.dev.reaches i addr
      = some d ∧ d.lockedWrite addr v = true ∧ (i ≠ .mc ∨ s.dev.sapState ≠ 5)) ∧
    (∃ (s : State) (i : Init) (addr : Nat) (v : Word), addr < 0x4000000 ∧ portOf i = none ∧
      s.dev.accessCode i addr true = none) ∧
    (∃ (d : Dev) (i : Init) (addr : Nat) (v : Word) (code p e : Nat), portOf i = some p ∧ d.pelFree p =
      some e ∧ addr < 2 ^ 26 ∧ code < 2 ^ 16) :=
  ⟨⟨run0, .mc, 0x123, 7, false, 1, by decide +kernel⟩, ⟨run0, .hb, 0x1234, 7, 1, by decide +kernel⟩,
    ⟨stl (fun d => (d.put (F.PEL_ADDR_VALID 1 3) 1).put (F.PEL_ADDR_ADDR 1 3) 0x1234), .hb, 0x1230, 7,
    true, 1, by decide +kernel⟩, ⟨st (fun d => d.put (F.CTRL_LOCK (pageBase (.can 5))) 1), .mc, pageBase
    (.can 5) + 8, 1, (st (fun d => d.put (F.CTRL_LOCK (pageBase (.can 5))) 1)).dev, by decide +kernel,
    Dev.reaches_internal _ _ _ rfl (by decide +kernel), by decide +kernel⟩, ⟨run0, .mc, pageBase (.can
    5) + 0x14, 1, by decide +kernel⟩, ⟨runDev, .hb, 0x1230, 7, 0x112, 1, 0, by decide +kernel⟩⟩

theorem witness_ErrorCapture :
    (∃ (d : Dev) (pg : Page) (who addr code : Nat), pageExists pg = true ∧ who < 16 ∧ addr < 2 ^ 26 ∧
      code < 2 ^ 16 ∧ d.flag (F.ERR_INFO_VALID (pageBase pg)) = false) ∧
    (∃ (d : Dev) (pg : Page) (who addr code : Nat), pageExists pg = true ∧ who < 16 ∧ addr < 2 ^ 26 ∧
      code < 2 ^ 16 ∧ d.flag (F.ERR_INFO_VALID (pageBase pg)) = true) ∧
    (∃ (d : Dev) (pg : Page) (who addr code : Nat), pageExists pg = true) :=
  ⟨⟨runDev, .can 5, 4, 0x1005048, 0x112, by decide +kernel⟩, ⟨runDev.put (F.ERR_INFO_VALID (pageBase
    (.can 5))) 1, .can 5, 4, 0x1005048, 0x112, by decide +kernel⟩, ⟨runDev, .can 5, 4, 0x1005048, 0x112,
    by decide +kernel⟩⟩

theorem witness_TransformPatterns :
    (∃ (code len i : Nat), 1 ≤ code ∧ code ≤ 3 ∧ i < len) ∧
    (∃ (d : Dev) (k raw lsrc w : Nat) (val : Int) (sgn : Bool), pattern (bitsOf (d.xfmWord k 3) 8 2)
      lsrc = some raw) ∧
    (∃ (d : Dev) (k raw lsrc w : Nat) (val : Int) (sgn : Bool), pattern (bitsOf (d.xfmWord k 3) 8 2)
      lsrc ≠ some raw ∧ pattern (bitsOf (d.xfmWord k 3) 10 2) lsrc = some raw) ∧
    (∃ (s : State) (i : Init) (ix : BitVec 16) (d : Dev) (c : Nat), s.dev.reaches i (R.GV_TCMD) = some d
      ∧ d.lockedWrite (R.GV_TCMD) (tcmdWord 1 1 ix.toNat) = false ∧ d.flag F.GV_TCMD_GO = false ∧
      isEngine i = false ∧ d.tdata 3 = c ∧ ((bitsOf c 8 2 ≠ 0 ∧ bitsOf c 8 2 = bitsOf c 10 2) ∨ (bitsOf
      c 12 2 ≠ 0 ∧ bitsOf c 12 2 = bitsOf c 14 2)) ∧ (i ≠ .mc ∨ s.dev.sapState ≠ 5)) :=
  ⟨⟨2, 8, 3, by decide +kernel⟩, ⟨{ runDev with gv := { runDev.gv with
                                                  xfm := [(31, 0x4900)] } }, 7, 255, 8, 4, 255, false,
    by decide +kernel⟩, ⟨{ runDev with gv := { runDev.gv with
                                         xfm := [(31, 0x4900)] } }, 7, 254, 8, 4, 254, false, by
    decide +kernel⟩, ⟨st (fun d => d.put (F.GV_TDATA_DATA 3) 0x500), .mc, 7, (st (fun d => d.put
    (F.GV_TDATA_DATA 3) 0x500)).dev, 0x500, Dev.reaches_internal _ _ _ rfl (by decide +kernel), by
    decide +kernel⟩⟩

theorem witness_RevocationRule :
    (∃ (s : State) (i : Init) (slot : Fin 8) (key : BitVec 16) (d : Dev), s.dev.reaches i (R.SC_OTP_CMD)
      = some d ∧ d.lockedWrite (R.SC_OTP_CMD) (cmdWord [(F.SC_OTP_CMD_GO, 1), (F.SC_OTP_CMD_OP, 2),
      (F.SC_OTP_CMD_ARG, slot), (F.SC_OTP_CMD_KEY, key.toNat)]) = false ∧ d.sc.run = none ∧ d.get
      F.SC_BOOT_IMG_KIND ≠ 0 ∧ d.get F.SC_BOOT_IMG_KEY_SLOT = slot) ∧
    (∃ (s : State) (i : Init) (slot : Fin 8) (key : BitVec 16) (d : Dev), s.dev.reaches i (R.SC_OTP_CMD)
      = some d ∧ d.lockedWrite (R.SC_OTP_CMD) (cmdWord [(F.SC_OTP_CMD_GO, 1), (F.SC_OTP_CMD_OP, 2),
      (F.SC_OTP_CMD_ARG, slot), (F.SC_OTP_CMD_KEY, key.toNat)]) = false ∧ d.sc.run = none ∧ (∀ k : Fin
      4, k.val ≠ slot.val → d.otpUsable k = false)) ∧
    (∃ (s : State) (r : OtpRun), s.dev.sc.run = some r ∧ r.op = 2 ∧ r.arg < 4) :=
  ⟨⟨st (fun d => (d.put F.SC_BOOT_IMG_KIND 1).put F.SC_BOOT_IMG_KEY_SLOT 2), .mc, 2, 0x5AC3, (st (fun d
    => (d.put F.SC_BOOT_IMG_KIND 1).put F.SC_BOOT_IMG_KEY_SLOT 2)).dev, Dev.reaches_internal _ _ _ rfl
    (by decide +kernel), by decide +kernel⟩, ⟨run0, .mc, 2, 0x5AC3, (run0).dev, Dev.reaches_internal _ _
    _ rfl (by decide +kernel), by decide +kernel⟩, ⟨st (fun d => d.modSc (fun x => { x with
      run := some { op := 2, arg := 2, value := 5, hash := [7, 8] } })), {
      op := 2, arg := 2, value := 5, hash := [7, 8] }, by decide +kernel⟩⟩

theorem witness_TimeoutExtraction :
    (∃ (s : State) (t : Fin 128) (pc : Word) (rd : Fin 32) (k v : Fin 4) (x : Instance) (w0 w1 : Nat),
      s.dev.gxReady t = true ∧ (s.dev.thr t).inst = some x ∧ x.aborted = false ∧ x.timeout = true ∧ dreg
      (s.dev.thr t) k 0 = w0 ∧ dreg (s.dev.thr t) k 1 = w1 ∧ sigSink w0 = false ∧ fieldFits (sigBig w0)
      (sigStart w0) (sigLen w0) x.fits = true ∧ sigPol w0 = 0) ∧
    (∃ (s : State) (t : Fin 128) (pc : Word) (rd : Fin 32) (k v : Fin 4) (x : Instance) (w0 w1 : Nat),
      s.dev.gxReady t = true ∧ (s.dev.thr t).inst = some x ∧ x.aborted = false ∧ x.timeout = true ∧ dreg
      (s.dev.thr t) k 0 = w0 ∧ dreg (s.dev.thr t) k 1 = w1 ∧ sigSink w0 = false ∧ fieldFits (sigBig w0)
      (sigStart w0) (sigLen w0) x.fits = true ∧ sigPol w0 = 1) ∧
    (∃ (s : State) (t : Fin 128) (pc : Word) (rd : Fin 32) (k v : Fin 4) (x : Instance) (w0 w1 : Nat),
      s.dev.gxReady t = true ∧ (s.dev.thr t).inst = some x ∧ x.aborted = false ∧ x.timeout = true ∧ dreg
      (s.dev.thr t) k 0 = w0 ∧ dreg (s.dev.thr t) k 1 = w1 ∧ sigSink w0 = false ∧ fieldFits (sigBig w0)
      (sigStart w0) (sigLen w0) x.fits = true ∧ sigPol w0 = 2) ∧
    (∃ (s : State) (t : Fin 128) (pc : Word) (rd : Fin 32) (k v : Fin 4) (x : Instance) (w0 w1 : Nat),
      s.dev.gxReady t = true ∧ (s.dev.thr t).inst = some x ∧ x.aborted = false ∧ x.timeout = true ∧ dreg
      (s.dev.thr t) k 0 = w0 ∧ dreg (s.dev.thr t) k 1 = w1 ∧ sigSink w0 = false ∧ fieldFits (sigBig w0)
      (sigStart w0) (sigLen w0) x.fits = true ∧ sigPol w0 = 3) ∧
    (∃ (c : ThreadCtx) (x : Instance) (input t rd k v : Nat) (d : Dev), x.timeout = true) :=
  ⟨⟨stt (fun d => d.modThr 9 (fun c => { c with inst := some { inst0 with
                                                  timeout := true }, dw := [(3, 0x80008000), (4,
                                                  0xFFF00000)] })), 9, 0x4000, 5, 1, 2, { inst0 with
      timeout := true }, 0x80008000, 0xFFF00000, by decide +kernel⟩, ⟨stt (fun d => d.modThr 9 (fun c =>
    { c with inst := some { inst0 with timeout := true }, dw := [(3, 0x81008000), (4, 0xFFF00000)] })),
    9, 0x4000, 5, 1, 2, { inst0 with timeout := true }, 0x81008000, 0xFFF00000, by decide +kernel⟩, ⟨stt
    (fun d => d.modThr 9 (fun c => { c with inst := some { inst0 with
                                              timeout := true }, dw := [(3, 0x82008000), (4,
                                              0xFFF00000)] })), 9, 0x4000, 5, 1, 2, { inst0 with
      timeout := true }, 0x82008000, 0xFFF00000, by decide +kernel⟩, ⟨stt (fun d => d.modThr 9 (fun c =>
    { c with inst := some { inst0 with timeout := true }, dw := [(3, 0x83008000), (4, 0xFFF00000)] })),
    9, 0x4000, 5, 1, 2, { inst0 with timeout := true }, 0x83008000, 0xFFF00000, by decide +kernel⟩, ⟨{},
    { inst0 with timeout := true }, 7, 9, 5, 1, 2, runDev, by decide +kernel⟩⟩
end

section
/-! The state after power-on (R6, R41, R243, R244, R270, R321): what its registers hold, and why the pins and
SD_SAFE_STAT stand there as the invariants say. -/

namespace Sys2Proof.Machine
open Sys2Proof

section
variable {d : Dev}

/-! ### The guarantee and the pins of a device that nothing has configured -/

/-- R321: a supply out of its range ends the guarantee. -/
theorem Dev.guaranteed_eq_false_of_supply (h : d.get F.PC_MON_STAT_SUPPLY_OK ≠ 0x1FF) : d.guaranteed = false := by
  simp [Dev.guaranteed, h]

/-- R243, R349: until PC page 3 is written every transceiver carries standby. -/
theorem Dev.xcvmFollows_iff_of_not_live {g code : Nat} (h : d.slp.live = false) : d.xcvmFollows g code ↔ code = 1 := by
  simp [Dev.xcvmFollows, h]

/-- R349: until its PC_INH_CFG register is written an INH output is asserted. -/
theorem Dev.inhFollows_true_of_unwritten {k : Nat} (h : bitOf d.slp.inhLive k = false) : d.inhFollows k true := by
  simp [Dev.inhFollows, h]

end

/-! ### The registers after power-on -/

/-- R6, R23: no register has been written, so a field holds its reset value. -/
theorem reset_get (f : Fld) : State.reset.dev.get f = wordBits (resetWord f.addr) f.lo f.width := rfl

theorem reset_flag (f : Fld) : State.reset.dev.flag f = (wordBits (resetWord f.addr) f.lo f.width == 1) := rfl

/-- R243: two bits of code 1 for each of the eight groups. -/
theorem reset_xcvmCodes : State.reset.dev.get F.PC_XCVM_CODES = 0x5555 := by
  rw [reset_get]
  decide

theorem bitsOf_standbyCodes : ∀ g < 8, bitsOf 0x5555 (2 * g) 2 = 1 := by decide

/-- R244: KEEP and LEVEL of every INH output are 1. -/
theorem reset_inh : ∀ k < 4, State.reset.dev.flag (F.PC_INH_CFG_KEEP k) = true ∧
    State.reset.dev.flag (F.PC_INH_CFG_LEVEL k) = true := by
  simp only [reset_flag]
  decide

theorem reset_supplyOk : State.reset.dev.get F.PC_MON_STAT_SUPPLY_OK = 0 := by
  rw [reset_get]
  decide

theorem reset_safe : State.reset.dev.flag F.SD_SAFE_STAT_SAFE = false := by
  rw [reset_flag]
  decide

/-! ### The invariants hold there -/

/-- R321: SAFE reads 0, as it must while SUPPLY_OK does. -/
theorem reset_safe_eq_guaranteed : State.reset.dev.flag F.SD_SAFE_STAT_SAFE = State.reset.dev.guaranteed := by
  rw [reset_safe, Dev.guaranteed_eq_false_of_supply (by simp [reset_supplyOk])]

/-- R243, R244: standby for every group and every INH asserted, as R349 has it before the first write. -/
theorem reset_pinsFollow : State.reset.dev.pinsFollow := by
  refine ⟨fun g hg => ?_, fun k hk => ?_⟩
  · rw [Dev.xcvmFollows_iff_of_not_live rfl, reset_xcvmCodes]
    exact bitsOf_standbyCodes g hg
  · rw [(reset_inh k hk).2]
    exact Dev.inhFollows_true_of_unwritten (by simp [bitOf, State.reset])

/-- Settles O51: the queue and the blocks stand at their initial values, the registers at their reset values, and
the two invariants of R321 and of R243 and R244 hold. -/
theorem resetState : Obligations.ResetState :=
  ⟨rfl, rfl, rfl, rfl, rfl, rfl, rfl, reset_xcvmCodes, fun k => reset_inh k k.isLt, reset_safe_eq_guaranteed,
    reset_pinsFollow, rfl⟩

end Sys2Proof.Machine
end

section
/-! The DMA rings of the two PCIe ports and the pacer (R13, R34, R37 to R39, R234): how a write of RING_CFG and of
RING_TAIL is judged and what it leaves, what the end of a descriptor moves, and what taps and messages leave alone
meanwhile. -/

namespace Sys2Proof.Machine
open Sys2Proof

section
variable {d : Dev} {p : Fin 2} {r : Fin 16}

/-! ### Words and fields that a row writes -/

theorem wordBits_lt (v : Word) (lo w : Nat) : wordBits v lo w < 2 ^ w := bitsOf_lt _ _ _

theorem newField_wordWith (f : Fld) (x : Nat) (h : f.lo + f.width ≤ 32) :
    newField (d.wordWith f x) f = x % 2 ^ f.width := wordBits_wordPut _ _ _ _ h

theorem newField_wordWith_beside {f g : Fld} (x : Nat) (hf : f.lo + f.width ≤ 32) (ha : g.addr = f.addr)
    (h : g.lo + g.width ≤ f.lo ∨ f.lo + f.width ≤ g.lo) : newField (d.wordWith f x) g = d.get g := by
  rw [newField, Dev.wordWith, wordBits_wordPut_other _ _ _ _ _ _ hf h, Dev.get, ha]

theorem Dev.word_store_other (d : Dev) {addr a : Nat} (v : Word) (h : a ≠ addr) :
    (d.store addr v).word a = d.word a := by
  unfold Dev.store
  split
  · rfl
  · exact d.word_setWord_other _ _ _ h

/-- R22: a plain write changes the register file alone. -/
theorem Dev.store_eq (d : Dev) (addr : Nat) (v : Word) : ∃ regs, d.store addr v = { d with regs } := by
  unfold Dev.store
  split
  · exact ⟨d.regs, rfl⟩
  · exact ⟨_, rfl⟩

@[simp] theorem Dev.store_hb (d : Dev) (addr : Nat) (v : Word) : (d.store addr v).hb = d.hb := by
  obtain ⟨regs, e⟩ := d.store_eq addr v
  rw [e]

@[simp] theorem Dev.store_tl (d : Dev) (addr : Nat) (v : Word) : (d.store addr v).tl = d.tl := by
  obtain ⟨regs, e⟩ := d.store_eq addr v
  rw [e]

theorem regAt_ringCfg (p : Fin 2) (r : Fin 16) : regAt (R.RING_CFG p r) = some ⟨0x208, 16, 0x20,
    [⟨31, 1, .rw, 0x0, .b⟩, ⟨30, 1, .rw, 0x0, .b⟩, ⟨28, 2, .rw, 0x0, .b⟩, ⟨16, 12, .rw, 0x0, .b⟩, ⟨0, 4, .rw, 0x0, .b⟩]⟩ := by
  revert p r
  decide +kernel

theorem regAt_ringTail (p : Fin 2) (r : Fin 16) :
    regAt (R.RING_TAIL p r) = some ⟨0x210, 16, 0x20, [⟨0, 16, .rw, 0x0, .b⟩]⟩ := by
  revert p r
  decide +kernel

/-- R37: ENABLE reads as it was written. -/
theorem Dev.flag_enable_store (d : Dev) (p : Fin 2) (r : Fin 16) (v : Word) :
    (d.store (R.RING_CFG p r) v).flag (F.RING_CFG_ENABLE p r) = (newField v (F.RING_CFG_ENABLE p r) == 1) := by
  simp only [Dev.store, regAt_ringCfg, Dev.flag, Dev.get, F.RING_CFG_ENABLE, Dev.word_setWord_same, fieldsNext,
    List.foldl_cons, List.foldl_nil, fieldNext, newField]
  iterate 4 rw [wordBits_wordPut_other _ _ _ _ _ _ (by decide) (by decide)]
  rw [wordBits_wordPut _ _ _ _ (by decide), Nat.mod_eq_of_lt (wordBits_lt _ _ _)]

theorem Dev.get_tail_store (d : Dev) (p : Fin 2) (r : Fin 16) (v : Word) :
    (d.store (R.RING_TAIL p r) v).get (F.RING_TAIL_INDEX p r) = newField v (F.RING_TAIL_INDEX p r) := by
  simp only [Dev.store, regAt_ringTail, Dev.get, F.RING_TAIL_INDEX, Dev.word_setWord_same, fieldsNext,
    List.foldl_cons, List.foldl_nil, fieldNext, newField]
  rw [wordBits_wordPut _ _ _ _ (by decide), Nat.mod_eq_of_lt (wordBits_lt _ _ _)]

/-! ### Writes of RING_CFG and RING_TAIL (R37) -/

theorem Dev.hbWrite_ringCfg (d : Dev) (p : Fin 2) (r : Fin 16) (v : Word) :
    d.hbWrite p (R.RING_CFG p r) v = d.ringCfgHost p r v := by
  have hp := p.isLt
  have hr := r.isLt
  have hoff : R.RING_CFG p r % 0x1000 = 0x208 + r * 0x20 := by unfold R.RING_CFG; omega
  have hring : (0x208 + r.val * 0x20 - 0x200) / 0x20 = r := by omega
  unfold Dev.hbWrite
  simp only [hoff, hring]
  rw [if_neg (by unfold R.RING_CFG R.HB_IRQ_SEL; omega), if_neg (by unfold R.RING_CFG R.HB_IRQ_VEC; omega),
    if_neg (by unfold R.RING_CFG R.HB_PTM_CTRL; omega), if_neg (by omega), if_pos (by omega)]

theorem Dev.hbWrite_ringTail (d : Dev) (p : Fin 2) (r : Fin 16) (v : Word) :
    d.hbWrite p (R.RING_TAIL p r) v =
      .ok (if d.get (F.RING_HEAD_INDEX p r) = d.get (F.RING_TAIL_INDEX p r) then (d.store (R.RING_TAIL p r) v).bufNext p r
        else d.store (R.RING_TAIL p r) v) := by
  have hp := p.isLt
  have hr := r.isLt
  have hoff : R.RING_TAIL p r % 0x1000 = 0x210 + r * 0x20 := by unfold R.RING_TAIL; omega
  have hring : (0x210 + r.val * 0x20 - 0x200) / 0x20 = r := by omega
  unfold Dev.hbWrite
  simp only [hoff, hring]
  rw [if_neg (by unfold R.RING_TAIL R.HB_IRQ_SEL; omega), if_neg (by unfold R.RING_TAIL R.HB_IRQ_VEC; omega),
    if_neg (by unfold R.RING_TAIL R.HB_PTM_CTRL; omega), if_pos (by omega)]

/-- R37: a ring that stands is enabled; its next buffer may take bytes from now on. -/
theorem Dev.ringCfgHost_starts {v : Word} (hon : newField v (F.RING_CFG_ENABLE p r) = 1)
    (hoff : d.flag (F.RING_CFG_ENABLE p r) = false) (hc : d.ringCode p r v = 0) :
    d.ringCfgHost p r v = .ok (((d.store (R.RING_CFG p r) v).modHb p (fun h => { h with
      finishing := h.finishing.filter (fun x => x != r.val) })).bufNext p r) := by
  simp [Dev.ringCfgHost, refuseIf, hon, hoff, hc]

theorem Dev.ringCfgHost_refused {v : Word} (hon : newField v (F.RING_CFG_ENABLE p r) = 1)
    (hc : d.ringCode p r v ≠ 0) : d.ringCfgHost p r v = .no (d.ringCode p r v) := by
  simp [Dev.ringCfgHost, refuseIf, hon, hc]

/-- R37: a ring that runs is stopped; while it is busy the descriptor in progress goes on. -/
theorem Dev.ringCfgHost_stops {v : Word} (hon : newField v (F.RING_CFG_ENABLE p r) = 0)
    (hoff : d.flag (F.RING_CFG_ENABLE p r) = true) :
    d.ringCfgHost p r v = .ok (if d.ringBusy p r then
      (d.store (R.RING_CFG p r) v).modHb p (fun h => { h with finishing := r.val :: h.finishing })
      else d.store (R.RING_CFG p r) v) := by
  simp [Dev.ringCfgHost, refuseIf, hon, hoff]

/-- R37, R234, R11: how a write that sets ENABLE of a ring that stands is judged. -/
theorem Dev.ringCode_enable (hoff : d.flag (F.RING_CFG_ENABLE p r) = false) :
    d.ringCode p r (d.wordWith (F.RING_CFG_ENABLE p r) 1) =
      if 13 ≤ d.get (F.RING_CFG_SIZE p r) then 0x0100
      else if d.get (F.RING_CFG_KIND p r) = 2 then
        (if 16 ≤ d.get (F.RING_CFG_SOURCE p r) ∨
            d.get (F.CP_RING_CFG_CONSUMER (d.get (F.RING_CFG_SOURCE p r))) ≠ p + 1 ∨
            d.ringShared p r 2 (d.get (F.RING_CFG_SOURCE p r)) = true then 0x0100 else 0)
      else if d.get (F.RING_CFG_KIND p r) = 3 ∧ d.flag (F.RING_CFG_DIR p r) = true then
        (if 16 ≤ d.get (F.RING_CFG_SOURCE p r) ∨ d.ringShared p r 3 (d.get (F.RING_CFG_SOURCE p r)) = true
          then 0x0100 else 0)
      else 0 := by
  have beside : ∀ g : Fld, g.addr = R.RING_CFG p r → g.lo + g.width ≤ 31 →
      newField (d.wordWith (F.RING_CFG_ENABLE p r) 1) g = d.get g := fun g ha h =>
    newField_wordWith_beside (f := F.RING_CFG_ENABLE p r) 1 (Nat.le_refl 32) ha (Or.inl h)
  have hsize := beside (F.RING_CFG_SIZE p r) rfl (by simp [F.RING_CFG_SIZE])
  have hkind := beside (F.RING_CFG_KIND p r) rfl (by simp [F.RING_CFG_KIND])
  have hsource := beside (F.RING_CFG_SOURCE p r) rfl (by simp [F.RING_CFG_SOURCE])
  have hdir : (newField (d.wordWith (F.RING_CFG_ENABLE p r) 1) (F.RING_CFG_DIR p r) == 1) =
      d.flag (F.RING_CFG_DIR p r) := by
    rw [beside (F.RING_CFG_DIR p r) rfl (by simp [F.RING_CFG_DIR]), Dev.flag]
  simp only [Dev.ringCode, hsize, hkind, hsource, hdir, hoff, Bool.false_eq_true, if_false]

theorem newField_enable (x : Nat) : newField (d.wordWith (F.RING_CFG_ENABLE p r) x) (F.RING_CFG_ENABLE p r) = x % 2 :=
  newField_wordWith _ x (Nat.le_refl 32)

/-! ### The port's state behind its registers -/

@[simp] theorem Dev.port'_modHb (d : Dev) (p : Nat) (f : HbPort → HbPort) : (d.modHb p f).port' p = f (d.port' p) := by
  simp [Dev.port']

@[simp] theorem Dev.port'_store (d : Dev) (addr q : Nat) (v : Word) : (d.store addr v).port' q = d.port' q := by
  simp [Dev.port']

@[simp] theorem Dev.port'_put (d : Dev) (f : Fld) (v q : Nat) : (d.put f v).port' q = d.port' q := rfl

@[simp] theorem Dev.port'_emit (d : Dev) (o : Out) (q : Nat) : (d.emit o).port' q = d.port' q := rfl

/-! ### DMA_RING_ENABLE, DMA_RING_STOP and DMA_RING_TAIL (R37) -/

section
variable {s : State} {i : Init}

theorem exec_dmaRingEnable : exec (.dmaRingEnable i p r) s =
    .next (s.ends (s.dev.hbRow i p (R.RING_CFG p r) (s.dev.wordWith (F.RING_CFG_ENABLE p r) 1))) :=
  act_eq_ends s (fun d => d.hbRow i p (R.RING_CFG p r) (d.wordWith (F.RING_CFG_ENABLE p r) 1))

theorem exec_dmaRingStop : exec (.dmaRingStop i p r) s =
    .next (s.ends (s.dev.hbRow i p (R.RING_CFG p r) (s.dev.wordWith (F.RING_CFG_ENABLE p r) 0))) :=
  act_eq_ends s (fun d => d.hbRow i p (R.RING_CFG p r) (d.wordWith (F.RING_CFG_ENABLE p r) 0))

theorem exec_dmaRingTail {tail : BitVec 16} : exec (.dmaRingTail i p r tail) s =
    .next (s.ends (s.dev.hbRow i p (R.RING_TAIL p r) (tail.setWidth 32))) :=
  act_eq_ends s (fun d => d.hbRow i p (R.RING_TAIL p r) (tail.setWidth 32))

/-- R34: on its way to a register a write through a PCIe port changes the port's write number alone. -/
theorem Dev.word_reaches {d₀ : Dev} {addr a : Nat} (hr : d₀.reaches i addr = some d)
    (ha : ∀ q, a ≠ R.HB_WSEQ q) : d.word a = d₀.word a := by
  unfold Dev.reaches at hr
  split at hr
  · split at hr
    · exact congrArg (Dev.word · a) (Option.some.inj hr).symm
    · cases hr
  · next q _ =>
    dsimp only at hr
    split at hr
    · rw [← Option.some.inj hr]
      exact d₀.word_put_other _ _ _ (ha q)
    · cases hr

/-- The word that a row writes is the one that its write finds at the register. -/
theorem Dev.wordWith_reaches {d₀ : Dev} (f : Fld) (x : Nat) (hr : d₀.reaches i (R.RING_CFG p r) = some d)
    (hf : f.addr = R.RING_CFG p r) : d₀.wordWith f x = d.wordWith f x := by
  have hp := p.isLt
  have hr' := r.isLt
  rw [Dev.wordWith, Dev.wordWith, Dev.word_reaches hr (fun q => by
    rw [hf]
    unfold R.RING_CFG R.HB_WSEQ
    omega)]

/-- A row that writes a register of a port's page, and that the register takes. -/
theorem Dev.hbRow_taken {q addr : Nat} {v : Word} {d₀ d' : Dev} (hr : d₀.reaches i addr = some d)
    (hl : d.lockedWrite addr v = false) (hj : d.hbWrite q addr v = .ok d') : d₀.hbRow i q addr v = d' :=
  d₀.busWrite_taken d d' i addr v (fun e => e.hbWrite q addr v) hr hl hj

/-- A row that writes a register of a port's page, and that the register refuses. -/
theorem Dev.hbRow_refused {q addr code : Nat} {v : Word} {d₀ : Dev} (hr : d₀.reaches i addr = some d)
    (hl : d.lockedWrite addr v = false) (hj : d.hbWrite q addr v = .no code) :
    d₀.hbRow i q addr v = d.failWrite i addr v code :=
  d₀.busWrite_refused d i addr v (fun e => e.hbWrite q addr v) code hr hl hj

/-- R37: DMA_RING_ENABLE of a ring that stands, where nothing is wrong with it. -/
theorem dmaRingEnable_taken (hr : s.dev.reaches i (R.RING_CFG p r) = some d)
    (hl : d.lockedWrite (R.RING_CFG p r) (d.wordWith (F.RING_CFG_ENABLE p r) 1) = false)
    (hoff : d.flag (F.RING_CFG_ENABLE p r) = false)
    (hc : d.ringCode p r (d.wordWith (F.RING_CFG_ENABLE p r) 1) = 0) :
    ∃ d' : Dev, exec (.dmaRingEnable i p r) s = .next (s.ends d') ∧ d'.flag (F.RING_CFG_ENABLE p r) = true ∧
      (∀ a, a ≠ R.RING_CFG p r → d'.word a = d.word a) ∧ d'.port' p = { d.port' p with
        finishing := (d.port' p).finishing.filter (fun x => x != r.val)
        bufAt := tset (d.port' p).bufAt r d.baseNs } := by
  have hw := Dev.hbRow_taken hr hl ((d.hbWrite_ringCfg p r _).trans
    (Dev.ringCfgHost_starts (newField_enable 1) hoff hc))
  rw [exec_dmaRingEnable, Dev.wordWith_reaches _ _ hr rfl, hw]
  refine ⟨_, rfl, ?_, fun a ha => ?_, ?_⟩
  · simp [Dev.bufNext, d.flag_enable_store, newField_enable]
  · simp [Dev.bufNext, d.word_store_other _ ha]
  · simp [Dev.bufNext, Dev.baseNs]

theorem dmaRingEnable_refused {code : Nat} (hr : s.dev.reaches i (R.RING_CFG p r) = some d)
    (hl : d.lockedWrite (R.RING_CFG p r) (d.wordWith (F.RING_CFG_ENABLE p r) 1) = false) (h0 : code ≠ 0)
    (hc : d.ringCode p r (d.wordWith (F.RING_CFG_ENABLE p r) 1) = code) :
    exec (.dmaRingEnable i p r) s = .next (s.ends (d.failWrite i (R.RING_CFG p r)
      (d.wordWith (F.RING_CFG_ENABLE p r) 1) code)) := by
  subst hc
  rw [exec_dmaRingEnable, Dev.wordWith_reaches _ _ hr rfl, Dev.hbRow_refused hr hl ((d.hbWrite_ringCfg p r _).trans
    (Dev.ringCfgHost_refused (newField_enable 1) h0))]

/-- R37: DMA_RING_STOP of a ring that runs. -/
theorem dmaRingStop_taken (hr : s.dev.reaches i (R.RING_CFG p r) = some d)
    (hl : d.lockedWrite (R.RING_CFG p r) (d.wordWith (F.RING_CFG_ENABLE p r) 0) = false)
    (hon : d.flag (F.RING_CFG_ENABLE p r) = true) :
    ∃ d' : Dev, exec (.dmaRingStop i p r) s = .next (s.ends d') ∧ d'.flag (F.RING_CFG_ENABLE p r) = false ∧
      (∀ a, a ≠ R.RING_CFG p r → d'.word a = d.word a) ∧
      (d'.port' p).finishing = if d.ringBusy p r then r.val :: (d.port' p).finishing else (d.port' p).finishing := by
  have hw := Dev.hbRow_taken hr hl ((d.hbWrite_ringCfg p r _).trans
    (Dev.ringCfgHost_stops (newField_enable 0) hon))
  rw [exec_dmaRingStop, Dev.wordWith_reaches _ _ hr rfl, hw]
  refine ⟨_, rfl, ?_, fun a ha => ?_, ?_⟩ <;> cases d.ringBusy p r
  all_goals simp [d.flag_enable_store, newField_enable, d.word_store_other, *]

/-- R37: DMA_RING_TAIL. -/
theorem dmaRingTail_taken {tail : BitVec 16} (hr : s.dev.reaches i (R.RING_TAIL p r) = some d)
    (hl : d.lockedWrite (R.RING_TAIL p r) (tail.setWidth 32) = false) :
    ∃ d' : Dev, exec (.dmaRingTail i p r tail) s = .next (s.ends d') ∧ d'.get (F.RING_TAIL_INDEX p r) = tail.toNat ∧
      (∀ a, a ≠ R.RING_TAIL p r → d'.word a = d.word a) ∧ d'.port' p = { d.port' p with
        bufAt := if d.get (F.RING_HEAD_INDEX p r) = d.get (F.RING_TAIL_INDEX p r)
          then tset (d.port' p).bufAt r d.baseNs else (d.port' p).bufAt } := by
  have htail : newField (tail.setWidth 32) (F.RING_TAIL_INDEX p r) = tail.toNat := by
    have := tail.isLt
    simp only [newField, F.RING_TAIL_INDEX, wordBits, bitsOf, BitVec.toNat_setWidth]
    omega
  rw [exec_dmaRingTail, Dev.hbRow_taken hr hl (d.hbWrite_ringTail p r _)]
  refine ⟨_, rfl, ?_, fun a ha => ?_, ?_⟩ <;> split
  all_goals simp [Dev.bufNext, Dev.baseNs, d.get_tail_store, d.word_store_other, *]

end

/-! ### Messages: what they leave (R31) -/

/-- R31: a message of a vector leaves, or its bit becomes pending at the port. -/
theorem Dev.notifyPort_eq (d : Dev) (q src : Nat) : ∃ hb out, d.notifyPort q src = { d with hb, out } ∧
    ∀ k, ∃ pending, tget hb k = { tget d.hb k with pending } := by
  have same : ∀ k, ∃ pending, tget d.hb k = { tget d.hb k with pending } := fun k => ⟨_, rfl⟩
  unfold Dev.notifyPort Dev.sendMsix
  dsimp only
  split
  · split
    · exact ⟨_, _, rfl, same⟩
    · split
      · exact ⟨_, _, rfl, same⟩
      · refine ⟨_, _, rfl, fun k => ?_⟩
        rw [tget_tset]
        split
        · next hk => exact ⟨_, by rw [hk]⟩
        · exact same k
  · exact ⟨_, _, rfl, same⟩

section
variable (d) (q src : Nat)

@[simp] theorem Dev.notifyPort_regs : (d.notifyPort q src).regs = d.regs := by
  obtain ⟨hb, out, e, -⟩ := d.notifyPort_eq q src
  rw [e]

@[simp] theorem Dev.notifyPort_gv : (d.notifyPort q src).gv = d.gv := by
  obtain ⟨hb, out, e, -⟩ := d.notifyPort_eq q src
  rw [e]

@[simp] theorem Dev.notifyPort_ports : (d.notifyPort q src).ports = d.ports := by
  obtain ⟨hb, out, e, -⟩ := d.notifyPort_eq q src
  rw [e]

@[simp] theorem Dev.notifyPort_tl : (d.notifyPort q src).tl = d.tl := by
  obtain ⟨hb, out, e, -⟩ := d.notifyPort_eq q src
  rw [e]

@[simp] theorem Dev.notifyPort_cp : (d.notifyPort q src).cp = d.cp := by
  obtain ⟨hb, out, e, -⟩ := d.notifyPort_eq q src
  rw [e]

@[simp] theorem Dev.notifyPort_back (j : Nat) : ((d.notifyPort q src).port' j).back = (d.port' j).back := by
  obtain ⟨hb, out, e, hp⟩ := d.notifyPort_eq q src
  obtain ⟨pending, hj⟩ := hp j
  simp only [e, Dev.port', hj]

@[simp] theorem Dev.notifyPort_part (j : Nat) : ((d.notifyPort q src).port' j).part = (d.port' j).part := by
  obtain ⟨hb, out, e, hp⟩ := d.notifyPort_eq q src
  obtain ⟨pending, hj⟩ := hp j
  simp only [e, Dev.port', hj]

end

/-! ### A descriptor is written back (R38) -/

section
variable {x : Descriptor} {len : Option Nat} {flags stamp : Nat}

/-- R38: HEAD is the one register that the end of a descriptor changes. -/
theorem Dev.descDone_regs : (d.descDone p r x len flags stamp).regs = (d.put (F.RING_HEAD_INDEX p r)
    ((d.get (F.RING_HEAD_INDEX p r) + 1) % 2 ^ (d.get (F.RING_CFG_SIZE p r) + 4))).regs := by
  unfold Dev.descDone
  dsimp only
  split
  · rw [Dev.notifyPort_regs]
    rfl
  · rfl

theorem Dev.word_descDone {a : Nat} (h : a ≠ R.RING_HEAD p r) :
    (d.descDone p r x len flags stamp).word a = d.word a := by
  rw [Dev.word, Dev.descDone_regs]
  exact d.word_put_other _ _ _ h

theorem Dev.get_head_descDone : (d.descDone p r x len flags stamp).get (F.RING_HEAD_INDEX p r) =
    (d.get (F.RING_HEAD_INDEX p r) + 1) % 2 ^ (d.get (F.RING_CFG_SIZE p r) + 4) % 2 ^ 16 := by
  rw [Dev.get, Dev.word, Dev.descDone_regs]
  exact d.get_put _ _ (by simp [F.RING_HEAD_INDEX])

/-- R37: a ring has 2 ^ 16 descriptors at most, so HEAD holds their number. -/
theorem Dev.get_head_descDone_of_size (h : d.get (F.RING_CFG_SIZE p r) ≤ 12) :
    (d.descDone p r x len flags stamp).get (F.RING_HEAD_INDEX p r) =
      (d.get (F.RING_HEAD_INDEX p r) + 1) % 2 ^ (d.get (F.RING_CFG_SIZE p r) + 4) := by
  rw [Dev.get_head_descDone, Nat.mod_mod_of_dvd']
  exact Nat.pow_dvd_pow 2 (by omega)

@[simp] theorem Dev.descDone_gv : (d.descDone p r x len flags stamp).gv = d.gv := by
  unfold Dev.descDone
  dsimp only
  split <;> simp [Dev.bufNext]

@[simp] theorem Dev.descDone_ports : (d.descDone p r x len flags stamp).ports = d.ports := by
  unfold Dev.descDone
  dsimp only
  split <;> simp [Dev.bufNext]

@[simp] theorem Dev.descDone_tl : (d.descDone p r x len flags stamp).tl = d.tl := by
  unfold Dev.descDone
  dsimp only
  split <;> simp [Dev.bufNext]

@[simp] theorem Dev.descDone_cp : (d.descDone p r x len flags stamp).cp = d.cp := by
  unfold Dev.descDone
  dsimp only
  split <;> simp [Dev.bufNext]

@[simp] theorem Dev.descDone_back : ((d.descDone p r x len flags stamp).port' p).back = (d.port' p).back := by
  unfold Dev.descDone
  dsimp only
  split <;> simp [Dev.bufNext]

@[simp] theorem Dev.descDone_part : ((d.descDone p r x len flags stamp).port' p).part = (d.port' p).part := by
  unfold Dev.descDone
  dsimp only
  split <;> simp [Dev.bufNext]

theorem Dev.descDone_out (h : x.irq = false) : (d.descDone p r x len flags stamp).out =
    .descriptor p r (d.get (F.RING_HEAD_INDEX p r)) len (1 + flags) stamp :: d.out := by
  simp [Dev.descDone, h, Dev.bufNext]

end

/-! ### Taps leave the rings alone (R225, R232) -/

/-- From `d` to `e` nothing becomes of the host bridge's registers, of what its rings hold, or of the switch ports. -/
structure Dev.sparesRings (d e : Dev) : Prop where
  word : ∀ a, 0x2C00000 ≤ a → e.word a = d.word a
  back : ∀ q, (e.port' q).back = (d.port' q).back
  part : ∀ q, (e.port' q).part = (d.port' q).part
  ports : e.ports = d.ports

namespace Dev.sparesRings
variable {e f : Dev}

theorem refl (d : Dev) : d.sparesRings d := ⟨fun _ _ => rfl, fun _ => rfl, fun _ => rfl, rfl⟩

theorem trans (h : d.sparesRings e) (k : e.sparesRings f) : d.sparesRings f :=
  ⟨fun a ha => (k.word a ha).trans (h.word a ha), fun q => (k.back q).trans (h.back q),
    fun q => (k.part q).trans (h.part q), k.ports.trans h.ports⟩

theorem get (h : d.sparesRings e) {g : Fld} (hg : 0x2C00000 ≤ g.addr) : e.get g = d.get g := by
  rw [Dev.get, Dev.get, h.word _ hg]

/-- A change beside the registers, the host bridge and the ports. -/
theorem of_eq (hr : e.regs = d.regs) (hh : e.hb = d.hb) (hp : e.ports = d.ports) : d.sparesRings e :=
  ⟨fun a _ => by rw [Dev.word, Dev.word, hr], fun q => by rw [Dev.port', Dev.port', hh],
    fun q => by rw [Dev.port', Dev.port', hh], hp⟩

theorem put (d : Dev) (g : Fld) (v : Nat) (hg : g.addr < 0x2C00000) : d.sparesRings (d.put g v) :=
  ⟨fun a ha => d.word_put_other g v a (by omega), fun _ => rfl, fun _ => rfl, rfl⟩

theorem notifyPort (d : Dev) (q src : Nat) : d.sparesRings (d.notifyPort q src) :=
  ⟨fun a _ => by rw [Dev.word, Dev.word, Dev.notifyPort_regs], fun _ => by simp, fun _ => by simp, by simp⟩

theorem raise (d : Dev) (pg : Page) (bit : Nat) (h : pageBase pg + 0x10 < 0x2C00000) : d.sparesRings (d.raise pg bit) := by
  unfold Dev.raise
  dsimp only
  split
  · exact ((put d _ _ h).trans (notifyPort _ 0 _)).trans (notifyPort _ 1 _)
  · exact put d _ _ h

theorem modRing (d : Dev) (k : Nat) (g : LogRing → LogRing) : d.sparesRings (d.modRing k g) := of_eq rfl rfl rfl

theorem ringLoss (d : Dev) (k : Nat) (hk : k < 16) : d.sparesRings (d.ringLoss k) := by
  have ha : (F.CP_RING_LOST_COUNT k).addr < 0x2C00000 := by
    change R.CP_RING_LOST k < 0x2C00000
    unfold R.CP_RING_LOST
    omega
  exact ((put d _ _ ha).trans (modRing _ _ _)).trans (raise _ _ _ (by decide))

theorem tapHead (d : Dev) (src : Nat) (dir : Bool) (most : Nat) : d.sparesRings (d.tapHead src dir most).1 := by
  unfold Dev.tapHead
  split
  · exact refl d
  · refine List.foldlRecOn (motive := fun acc : Dev × List TapRes => d.sparesRings acc.1) _ _ (refl d) fun acc h t _ => ?_
    dsimp only
    split
    · split
      · exact h.trans (ringLoss _ _ (Dev.get_lt _ _))
      · exact h.trans (put _ F.CP_BUF_STAT_USED _ (by decide))
    · exact h

theorem tapTail (d : Dev) (rs : List TapRes) (x : CapRec) : d.sparesRings (d.tapTail rs x) := by
  unfold Dev.tapTail
  refine List.foldlRecOn (motive := fun e => d.sparesRings e) _ _ (refl d) fun e h y _ => ?_
  exact (h.trans (put e F.CP_BUF_STAT_USED _ (by decide))).trans (of_eq rfl rfl rfl)

theorem hqTap (d : Dev) (q : Nat) (it : BackItem) : d.sparesRings (d.hqTap q it) := by
  unfold Dev.hqTap
  split
  · exact refl d
  · exact ((of_eq rfl rfl rfl : d.sparesRings (d.free 5).2).trans (tapHead _ _ _ _)).trans (tapTail _ _ _)

end Dev.sparesRings

theorem Dev.hqTap_none (d : Dev) (q : Nat) {it : BackItem} (h : it.pdu = none) : d.hqTap q it = d := by
  simp [Dev.hqTap, h]

theorem hostBridge_le_ring (p r : Nat) : 0x2C00000 ≤ R.RING_CFG p r ∧ 0x2C00000 ≤ R.RING_HEAD p r := by
  unfold R.RING_CFG R.RING_HEAD
  omega

/-! ### DMA_DESCRIPTOR_DONE, device to host (R37 to R39, R234) -/

section
variable {s : State} {x : Descriptor}

theorem exec_dmaDescriptorDone : exec (.dmaDescriptorDone p r x) s = .next (s.ends (s.dev.dmaDone p r x)) :=
  act_eq_ends s (fun d => d.dmaDone p r x)

theorem Dev.dmaDone_fill (hb : d.ringBusy p r = true) (hd : d.flag (F.RING_CFG_DIR p r) = true)
    (hk : d.get (F.RING_CFG_KIND p r) ≠ 2) : d.dmaDone p r x = d.descFill p r x := by
  simp [Dev.dmaDone, hb, hd, hk]

theorem Dev.dmaDone_drain (hb : d.ringBusy p r = true) (hd : d.flag (F.RING_CFG_DIR p r) = true)
    (hk : d.get (F.RING_CFG_KIND p r) = 2) : d.dmaDone p r x = d.descDrain p r x false := by
  simp [Dev.dmaDone, hb, hd, hk]

theorem Dev.dmaDone_send (hb : d.ringBusy p r = true) (hd : d.flag (F.RING_CFG_DIR p r) = false) :
    d.dmaDone p r x = d.descSend p r x := by
  simp [Dev.dmaDone, hb, hd]

/-- R38: what a buffer of n bytes leaves of the items that wait, the first of which it takes. -/
def backRest (n : Nat) (it : BackItem) (t : List BackItem) : List BackItem :=
  if it.data.drop n = [] then t else { it with data := it.data.drop n, pdu := none } :: t

/-- R38: FLAGS but for DONE with which a buffer of n bytes is written back: EOP where it takes the item's rest. -/
def fillFlags (n : Nat) (it : BackItem) : Nat := backFlags (it.data.drop n == []) it.event 0

section
variable {n : Nat} {it : BackItem} {t : List BackItem}

theorem backRest_of_fits (h : it.data.length ≤ n) : backRest n it t = t := by
  simp [backRest, h]

theorem backRest_of_exceeds (h : n < it.data.length) :
    backRest n it t = { it with data := it.data.drop n, pdu := none } :: t := by
  simp [backRest, h]

theorem fillFlags_of_fits (h : it.data.length ≤ n) : 1 + fillFlags n it = 1 + 8 + 16 * boolNat it.event := by
  simp only [fillFlags, backFlags, List.drop_of_length_le h, beq_self_eq_true, boolNat, if_true]
  omega

theorem fillFlags_of_exceeds (h : n < it.data.length) : 1 + fillFlags n it = 1 + 16 * boolNat it.event := by
  simp [fillFlags, backFlags, h, boolNat]

end

theorem Dev.descFill_cons {it : BackItem} {t : List BackItem} (hb : tget (d.port' p).back r = it :: t) :
    d.descFill p r x =
      (((if d.get (F.RING_CFG_KIND p r) = 3 then d.hqTap (d.get (F.RING_CFG_SOURCE p r)) it else d).emit
        (.hostData p r (it.data.take x.len.toNat))).modHb p (fun h => { h with
          back := tset h.back r (backRest x.len.toNat it t) })).descDone p r x
        (some (min x.len.toNat it.data.length)) (fillFlags x.len.toNat it) it.stamp := by
  simp only [Dev.descFill, hb, backRest, fillFlags]

/-- R38: a buffer takes the next bytes of an item that no tap copies. -/
theorem Dev.descFill_untapped {it : BackItem} {t : List BackItem} (hb : tget (d.port' p).back r = it :: t)
    (hk : d.get (F.RING_CFG_KIND p r) ≤ 1 ∨ d.get (F.RING_CFG_KIND p r) = 3 ∧ it.pdu = none) :
    d.descFill p r x = ((d.emit (.hostData p r (it.data.take x.len.toNat))).modHb p (fun h => { h with
        back := tset h.back r (backRest x.len.toNat it t) })).descDone p r x
      (some (min x.len.toNat it.data.length)) (fillFlags x.len.toNat it) it.stamp := by
  have hd : (if d.get (F.RING_CFG_KIND p r) = 3 then d.hqTap (d.get (F.RING_CFG_SOURCE p r)) it else d) = d := by
    rcases hk with hk | ⟨hk, hn⟩
    · rw [if_neg (by omega)]
    · rw [if_pos hk, d.hqTap_none _ hn]
  rw [d.descFill_cons hb, hd]

/-- R37, R38: what a buffer takes of an item that no tap copies. -/
theorem dmaDescriptorDone_fill {it : BackItem} {t : List BackItem} (hb : s.dev.ringBusy p r = true)
    (hd : s.dev.flag (F.RING_CFG_DIR p r) = true)
    (hk : s.dev.get (F.RING_CFG_KIND p r) ≤ 1 ∨ s.dev.get (F.RING_CFG_KIND p r) = 3 ∧ it.pdu = none)
    (hs : s.dev.get (F.RING_CFG_SIZE p r) ≤ 12) (ht : tget (s.dev.port' p).back r = it :: t) :
    ∃ d' : Dev, exec (.dmaDescriptorDone p r x) s = .next (s.ends d') ∧
      (x.irq = false → d'.out = .descriptor p r (s.dev.get (F.RING_HEAD_INDEX p r))
        (some (min x.len.toNat it.data.length)) (1 + fillFlags x.len.toNat it) it.stamp ::
          .hostData p r (it.data.take x.len.toNat) :: s.dev.out) ∧
      d'.get (F.RING_HEAD_INDEX p r) =
        (s.dev.get (F.RING_HEAD_INDEX p r) + 1) % 2 ^ (s.dev.get (F.RING_CFG_SIZE p r) + 4) ∧
      tget (d'.port' p).back r = backRest x.len.toNat it t ∧ ∀ a, a ≠ R.RING_HEAD p r → d'.word a = s.dev.word a := by
  rw [exec_dmaDescriptorDone, Dev.dmaDone_fill hb hd (by omega), Dev.descFill_untapped ht hk]
  refine ⟨_, rfl, fun hi => ?_, ?_, ?_, fun a ha => ?_⟩
  · rw [Dev.descDone_out hi]
    simp
  · rw [Dev.get_head_descDone_of_size] <;> simp [hs]
  · simp
  · rw [Dev.word_descDone ha]
    simp

/-- R37, R225: what a buffer takes of an item from Grove, whose taps may copy it. -/
theorem dmaDescriptorDone_pdu {it : BackItem} {t : List BackItem} (hb : s.dev.ringBusy p r = true)
    (hd : s.dev.flag (F.RING_CFG_DIR p r) = true) (hk : s.dev.get (F.RING_CFG_KIND p r) = 3)
    (hs : s.dev.get (F.RING_CFG_SIZE p r) ≤ 12) (ht : tget (s.dev.port' p).back r = it :: t) :
    ∃ d' : Dev, exec (.dmaDescriptorDone p r x) s = .next (s.ends d') ∧
      d'.get (F.RING_HEAD_INDEX p r) =
        (s.dev.get (F.RING_HEAD_INDEX p r) + 1) % 2 ^ (s.dev.get (F.RING_CFG_SIZE p r) + 4) ∧
      tget (d'.port' p).back r = backRest x.len.toNat it t := by
  have hq := Dev.sparesRings.hqTap s.dev (s.dev.get (F.RING_CFG_SOURCE p r)) it
  have hhead := hq.get (g := F.RING_HEAD_INDEX p r) (hostBridge_le_ring p r).2
  have hsize := hq.get (g := F.RING_CFG_SIZE p r) (hostBridge_le_ring p r).1
  rw [exec_dmaDescriptorDone, Dev.dmaDone_fill hb hd (by omega), Dev.descFill_cons ht, if_pos hk]
  refine ⟨_, rfl, ?_, ?_⟩
  · rw [Dev.get_head_descDone_of_size] <;> simp [hhead, hsize, hs]
  · simp

/-- R37: the management firmware answers into a buffer of a ring of KIND 1. -/
theorem dmaDescriptorDone_answer (hb : s.dev.ringBusy p r = true) (hd : s.dev.flag (F.RING_CFG_DIR p r) = true)
    (hk : s.dev.get (F.RING_CFG_KIND p r) = 1) (hs : s.dev.get (F.RING_CFG_SIZE p r) ≤ 12)
    (ht : tget (s.dev.port' p).back r = []) (hx : x.data ≠ []) (hl : x.data.length ≤ x.len.toNat) :
    ∃ d' : Dev, exec (.dmaDescriptorDone p r x) s = .next (s.ends d') ∧
      (x.irq = false → d'.out.tail = .hostData p r x.data :: s.dev.out) ∧
      d'.get (F.RING_HEAD_INDEX p r) =
        (s.dev.get (F.RING_HEAD_INDEX p r) + 1) % 2 ^ (s.dev.get (F.RING_CFG_SIZE p r) + 4) ∧
      ∀ a, a ≠ R.RING_HEAD p r → d'.word a = s.dev.word a := by
  have hf : s.dev.descFill p r x = ((s.dev.free (2 ^ 35)).2.emit (.hostData p r x.data)).descDone p r x
      (some x.data.length) (backFlags x.eop false 0) (s.dev.free (2 ^ 35)).1 := by
    simp [Dev.descFill, ht, Dev.mailboxFill, hk, List.take_of_length_le hl, hx]
  rw [exec_dmaDescriptorDone, Dev.dmaDone_fill hb hd (by omega), hf]
  refine ⟨_, rfl, fun hi => ?_, ?_, fun a ha => ?_⟩
  · rw [Dev.descDone_out hi]
    rfl
  · exact Dev.get_head_descDone_of_size hs
  · exact Dev.word_descDone ha

theorem Dev.word_ringAdvance (d : Dev) {k n a : Nat} (h : a ≠ R.CP_RING_RPTR k) : (d.ringAdvance k n).word a = d.word a :=
  d.word_put_other (F.CP_RING_RPTR_PTR k) _ a h

theorem Dev.get_ringAdvance (d : Dev) {k n : Nat} {g : Fld} (h : g.addr ≠ R.CP_RING_RPTR k) :
    (d.ringAdvance k n).get g = d.get g := by
  rw [Dev.get, Dev.get, d.word_ringAdvance h]

theorem Dev.ringAdvance_recs (d : Dev) (k n : Nat) :
    ((d.ringAdvance k n).ring k).recs = (cutBytes n (d.ring k).cut (d.ring k).recs).1 := by
  simp [Dev.ringAdvance, Dev.ring, Dev.modRing]

/-- R234: the bytes with which a buffer is full leave it, where no error of log memory is met. -/
theorem Dev.descDrain_full {n : Nat} {src : Nat} (hsrc : d.get (F.RING_CFG_SOURCE p r) = src)
    (hc : d.get (F.CP_RING_CFG_CONSUMER src) = p.val + 1) (hm : d.flag F.CP_MEM_STAT_SELF_REFRESH = false)
    (hf : fillRecs x.len.toNat 0 (d.recLens src) = (n, true)) (hn : n ≠ 0) (he : x.ecc = 0) :
    d.descDrain p r x false =
      ((d.ringAdvance src n).emit (.hostData p r (takeBytes n (d.ring src).cut 0 (d.ring src).recs).1)).descDone p r x
        (some n) (backFlags ((cutBytes n (d.ring src).cut (d.ring src).recs).2 == 0) false 0)
        (((d.ring src).recs.head?.map (fun y => y.stamp)).getD 0) := by
  simp [Dev.descDrain, hsrc, hc, hm, hf, hn, he, Dev.ddrError]

/-- R234: the records that fill a buffer leave. -/
theorem dmaDescriptorDone_drain {n : Nat} (hb : s.dev.ringBusy p r = true)
    (hd : s.dev.flag (F.RING_CFG_DIR p r) = true) (hk : s.dev.get (F.RING_CFG_KIND p r) = 2)
    (hs : s.dev.get (F.RING_CFG_SIZE p r) ≤ 12) {src : Nat} (hsrc : s.dev.get (F.RING_CFG_SOURCE p r) = src)
    (h16 : src < 16) (hc : s.dev.get (F.CP_RING_CFG_CONSUMER src) = p.val + 1)
    (hm : s.dev.flag F.CP_MEM_STAT_SELF_REFRESH = false)
    (hf : fillRecs x.len.toNat 0 (s.dev.recLens src) = (n, true)) (hn : n ≠ 0) (he : x.ecc = 0) (hi : x.irq = false) :
    ∃ d' : Dev, exec (.dmaDescriptorDone p r x) s = .next (s.ends d') ∧
      d'.out.tail = .hostData p r (takeBytes n (s.dev.ring src).cut 0 (s.dev.ring src).recs).1 :: s.dev.out ∧
      d'.get (F.RING_HEAD_INDEX p r) =
        (s.dev.get (F.RING_HEAD_INDEX p r) + 1) % 2 ^ (s.dev.get (F.RING_CFG_SIZE p r) + 4) ∧
      (d'.ring src).recs = (cutBytes n (s.dev.ring src).cut (s.dev.ring src).recs).1 ∧
      ∀ a, a ≠ R.RING_HEAD p r → a ≠ R.CP_RING_RPTR src → d'.word a = s.dev.word a := by
  have hring := hostBridge_le_ring p r
  have hrptr : R.CP_RING_RPTR src < 0x2C00000 := by
    unfold R.CP_RING_RPTR
    omega
  have hhead : (s.dev.ringAdvance src n).get (F.RING_HEAD_INDEX p r) = s.dev.get (F.RING_HEAD_INDEX p r) :=
    s.dev.get_ringAdvance (show R.RING_HEAD p r ≠ _ by omega)
  have hsize : (s.dev.ringAdvance src n).get (F.RING_CFG_SIZE p r) = s.dev.get (F.RING_CFG_SIZE p r) :=
    s.dev.get_ringAdvance (show R.RING_CFG p r ≠ _ by omega)
  rw [exec_dmaDescriptorDone, Dev.dmaDone_drain hb hd hk, Dev.descDrain_full hsrc hc hm hf hn he]
  refine ⟨_, rfl, ?_, ?_, ?_, fun a ha hr => ?_⟩
  · rw [Dev.descDone_out hi]
    rfl
  · rw [Dev.get_head_descDone_of_size] <;> simp [hhead, hsize, hs]
  · rw [Dev.ring, Dev.descDone_cp]
    exact s.dev.ringAdvance_recs src n
  · rw [Dev.word_descDone ha]
    exact s.dev.word_ringAdvance hr

theorem dmaDescriptorDone_waits {n : Nat} {b : Bool} (hb : s.dev.ringBusy p r = true)
    (hd : s.dev.flag (F.RING_CFG_DIR p r) = true) (hk : s.dev.get (F.RING_CFG_KIND p r) = 2)
    (hf : fillRecs x.len.toNat 0 (s.dev.recLens (s.dev.get (F.RING_CFG_SOURCE p r))) = (n, b))
    (hw : b = false ∨ s.dev.get (F.CP_RING_CFG_CONSUMER (s.dev.get (F.RING_CFG_SOURCE p r))) ≠ p.val + 1) :
    exec (.dmaDescriptorDone p r x) s = .next (s.ends s.dev) := by
  have hsame : s.dev.descDrain p r x false = s.dev := by
    rcases hw with rfl | hc
    · simp [Dev.descDrain, hf]
    · simp [Dev.descDrain, hc]
  rw [exec_dmaDescriptorDone, Dev.dmaDone_drain hb hd hk, hsame]

/-! ### DMA_DESCRIPTOR_DONE, host to device (R37, R38) -/

/-- R37: the bytes of a frame or request that a descriptor completes: what is gathered, and its buffer. -/
def Dev.gathered (d : Dev) (p r : Nat) (x : Descriptor) : List Byte :=
  tget (d.port' p).part r ++ Sys2Proof.Machine.slice x.data 0 x.len.toNat

/-- R38: a host-to-device descriptor is written back, and `part` is what its ring has gathered. -/
def Dev.takenIn (d : Dev) (p r : Nat) (x : Descriptor) (part : List Byte) : Dev :=
  ((d.free (2 ^ 35)).2.modHb p (fun h => { h with part := tset h.part r part })).descDone p r x none 0
    (d.free (2 ^ 35)).1

section
variable {part : List Byte}

theorem Dev.word_takenIn {a : Nat} (h : a ≠ R.RING_HEAD p r) : (d.takenIn p r x part).word a = d.word a :=
  Dev.word_descDone h

theorem Dev.get_head_takenIn : (d.takenIn p r x part).get (F.RING_HEAD_INDEX p r) =
    (d.get (F.RING_HEAD_INDEX p r) + 1) % 2 ^ (d.get (F.RING_CFG_SIZE p r) + 4) % 2 ^ 16 :=
  Dev.get_head_descDone

@[simp] theorem Dev.takenIn_part : tget ((d.takenIn p r x part).port' p).part r = part := by
  simp [Dev.takenIn]

@[simp] theorem Dev.takenIn_gv : (d.takenIn p r x part).gv = d.gv := by
  simp [Dev.takenIn, Dev.free]

@[simp] theorem Dev.takenIn_tl : (d.takenIn p r x part).tl = d.tl := by
  simp [Dev.takenIn, Dev.free]

@[simp] theorem Dev.takenIn_port (q : Nat) : (d.takenIn p r x part).port q = d.port q := by
  simp [Dev.takenIn, Dev.free, Dev.port]

end

/-- R37: without EOP the bytes are gathered. -/
theorem Dev.descSend_part (he : x.eop = false) : d.descSend p r x = d.takenIn p r x (d.gathered p r x) := by
  simp [Dev.descSend, he, Dev.takenIn, Dev.gathered]

theorem Dev.descSend_request (he : x.eop = true) (hk : d.get (F.RING_CFG_KIND p r) = 1) :
    d.descSend p r x = (d.takenIn p r x []).emit (.mailbox p r (d.gathered p r x)) := by
  simp [Dev.descSend, he, hk, Dev.takenIn, Dev.gathered]

theorem Dev.descSend_pdu (he : x.eop = true) (hk : d.get (F.RING_CFG_KIND p r) = 3)
    (hq : tget d.gv.hostIn p = []) : d.descSend p r x = { d.takenIn p r x [] with
      gv := { (d.takenIn p r x []).gv with hostIn := tmod (d.takenIn p r x []).gv.hostIn p (fun l =>
        l ++ [{ data := d.gathered p r x, ns := (d.takenIn p r x []).baseNs }]) } } := by
  simp [Dev.descSend, he, hk, hq, Dev.takenIn, Dev.gathered]

theorem Dev.descSend_frame (he : x.eop = true) (hk : d.get (F.RING_CFG_KIND p r) = 0)
    (hq : (d.port (24 + p)).rx = []) :
    d.descSend p r x = (d.takenIn p r x []).enterPort (24 + p) (d.gathered p r x) true := by
  simp [Dev.descSend, he, hk, hq, Dev.takenIn, Dev.gathered]

theorem Dev.enterPort_eq (d : Dev) (q : Nat) (bytes : List Byte) : ∃ (e : Dev) (f : RxFrame), d.sparesRings e ∧
    f.bytes = bytes ++ List.replicate 4 0 ∧ d.enterPort q bytes true = e.pushRx q f :=
  ⟨_, _, (Dev.sparesRings.of_eq rfl rfl rfl : d.sparesRings (d.free (2 ^ 35)).2).trans
    (Dev.sparesRings.tapHead _ q false _), rfl, rfl⟩

theorem Dev.enterPort_rx (d : Dev) (q : Nat) (bytes : List Byte) : ((d.enterPort q bytes true).port q).rx.map (·.bytes) =
    (d.port q).rx.map (·.bytes) ++ [bytes ++ List.replicate 4 0] := by
  obtain ⟨e, f, h, hf, he⟩ := d.enterPort_eq q bytes
  simp [he, Dev.pushRx, Dev.port, hf, h.ports]

theorem Dev.enterPort_part (d : Dev) (q k : Nat) (bytes : List Byte) :
    ((d.enterPort q bytes true).port' k).part = (d.port' k).part := by
  obtain ⟨e, f, h, -, he⟩ := d.enterPort_eq q bytes
  rw [he]
  exact h.part k

end

/-! ### DMA_FAULT and the pacer (R39, R13) -/

section
variable {s : State}

theorem exec_dmaFault {timeout : Bool} : exec (.dmaFault p r timeout) s = .next (s.ends (s.dev.dmaFault p r timeout)) :=
  act_eq_ends s (fun d => d.dmaFault p r timeout)

theorem exec_pacerAdmit {management : Bool} {frame : List Byte} :
    exec (.pacerAdmit management frame) s = .next (s.ends (s.dev.pacerAdmit management frame)) :=
  act_eq_ends s (fun d => d.pacerAdmit management frame)

theorem Dev.dmaFault_busy (hb : d.ringBusy p r = true) (timeout : Bool) : d.dmaFault p r timeout =
    ((((d.emit (.descriptor p r (d.get (F.RING_HEAD_INDEX p r)) none (if timeout then 0x204 else 0x104) 0)).put
      (F.RING_CFG_ENABLE p r) 0).modHb p (fun h => { h with
        finishing := h.finishing.filter (fun y => y != r.val), part := tset h.part r [] })).recordErr
      (.hb (p + 1)) 15 (R.RING_CFG p r) 0x0100) := by
  rw [Dev.dmaFault, if_pos hb]
  cases timeout <;> rfl

/-- R13, R99: for port 26 the next frame of Grove's output queue is admitted. -/
theorem Dev.pacerAdmit_grove (h : d.paceOpen 26 = true) (frame : List Byte) :
    d.pacerAdmit false frame = d.modPort 26 (fun x => { x with admitted := true }) := if_pos h

/-- R13, R235: for port 27, without a management frame, the next PDU of a 1722 stream is admitted. -/
theorem Dev.pacerAdmit_stream (h : d.paceOpen 27 = true) :
    d.pacerAdmit true [] = d.modPort 27 (fun x => { x with admitted := true }) := if_pos h

/-- R13: a management frame enters, and the next waits for its time at 10 Gb/s. -/
theorem Dev.pacerAdmit_frame {frame : List Byte} (h : d.paceOpen 27 = true) (hne : frame ≠ [])
    (hl : frame.length ≤ 9212) : d.pacerAdmit true frame = (d.modPort 27 (fun x => { x with
      admitted := false, pace := d.plat.aon * 10 + max 1000 ((frame.length + 4) * 8) })).enterPort 27 frame true := by
  simp [Dev.pacerAdmit, hne, h, hl, Dev.enterPaced, paceTime]

end

/-- Settles O3: the writes of RING_CFG and RING_TAIL, what the end of a descriptor moves in either direction, a
fault of host memory, and the pacer. -/
theorem dmaRingCommands : Obligations.DmaRingCommands := by
  refine ⟨?enable, ?enableDrain, ?enableGrove, ?enableRefused, ?stop, ?tail, ?fits, ?exceeds, ?pdu, ?drain,
    ?answer, ?waits, ?gather, ?request, ?toGrove, ?frame, ?fault, ?admitGrove, ?admitFrame, ?admitStream⟩
  case enable =>
    intro s i p r d hr hl hoff hs hk
    refine dmaRingEnable_taken hr hl hoff ?_
    rw [Dev.ringCode_enable hoff, if_neg (by omega), if_neg (by omega), if_neg (by omega)]
  case enableDrain =>
    intro s i p r d hr hl hoff hs hk h16 hc hsh
    obtain ⟨d', he, hon, hw, -⟩ := dmaRingEnable_taken hr hl hoff (by
      rw [Dev.ringCode_enable hoff, if_neg (by omega), if_pos hk, if_neg (by simp [hc, hsh]; omega)])
    exact ⟨d', he, hon, hw⟩
  case enableGrove =>
    intro s i p r d hr hl hoff hs hk hq
    obtain ⟨d', he, hon, hw, -⟩ := dmaRingEnable_taken hr hl hoff (by
      rw [Dev.ringCode_enable hoff, if_neg (by omega), if_neg (by omega)]
      rcases hq with hd | ⟨h16, hsh⟩
      · rw [if_neg (by simp [hd])]
      · rw [if_neg (c := 16 ≤ _ ∨ _) (by simp [hsh]; omega), ite_self])
    exact ⟨d', he, hon, hw⟩
  case enableRefused =>
    intro s i p r d hr hl hoff hbad
    refine dmaRingEnable_refused hr hl (by decide) ?_
    rw [Dev.ringCode_enable hoff]
    rcases hbad with hs | ⟨hk, hc⟩
    · rw [if_pos (by omega)]
    · rw [if_pos hk, if_pos (Or.inr (Or.inl hc)), ite_self]
  case stop => exact fun _ _ _ _ _ hr hl hon => dmaRingStop_taken hr hl hon
  case tail => exact fun _ _ _ _ _ _ hr hl => dmaRingTail_taken hr hl
  case fits =>
    intro s p r x it t hb hd hk hs ht hl
    have h := dmaDescriptorDone_fill hb hd hk hs ht (x := x)
    rwa [fillFlags_of_fits hl, backRest_of_fits hl, Nat.min_eq_right hl, List.take_of_length_le hl] at h
  case exceeds =>
    intro s p r x it t hb hd hk hs ht hl
    have h := dmaDescriptorDone_fill hb hd hk hs ht (x := x)
    rwa [fillFlags_of_exceeds hl, backRest_of_exceeds hl, Nat.min_eq_left hl.le] at h
  case pdu =>
    intro s p r x it t hb hd hk _ hs ht hl
    have h := dmaDescriptorDone_pdu hb hd hk hs ht (x := x)
    rwa [backRest_of_fits hl] at h
  case drain =>
    intro s p r x n hb hd hk hs h16 hc hm hf hn he hi
    exact dmaDescriptorDone_drain hb hd hk hs rfl h16 hc hm hf hn he hi
  case answer => exact fun s p r x hb hd hk hs ht hx hl => dmaDescriptorDone_answer hb hd hk hs ht hx hl
  case waits => exact fun s p r x n b hb hd hk hf hw => dmaDescriptorDone_waits hb hd hk hf hw
  case gather =>
    intro s p r x hb hd he
    rw [exec_dmaDescriptorDone, Dev.dmaDone_send hb hd, Dev.descSend_part he]
    exact ⟨_, rfl, Dev.takenIn_part, Dev.get_head_takenIn, fun _ ha => Dev.word_takenIn ha⟩
  case request =>
    intro s p r x hb hd hk he
    rw [exec_dmaDescriptorDone, Dev.dmaDone_send hb hd, Dev.descSend_request he hk]
    exact ⟨_, rfl, rfl, Dev.get_head_takenIn, Dev.takenIn_part, fun _ ha => Dev.word_takenIn ha⟩
  case toGrove =>
    intro s p r x hb hd hk he hq
    rw [exec_dmaDescriptorDone, Dev.dmaDone_send hb hd, Dev.descSend_pdu he hk hq]
    refine ⟨_, rfl, ?_, Dev.get_head_takenIn, Dev.takenIn_part, fun _ ha => Dev.word_takenIn ha⟩
    simp [hq, Dev.gathered, Dev.baseNs]
  case frame =>
    intro s p r x hb hd hk he hq
    rw [exec_dmaDescriptorDone, Dev.dmaDone_send hb hd, Dev.descSend_frame he hk hq]
    refine ⟨_, rfl, ?_, ?_⟩
    · rw [Dev.enterPort_rx, Dev.takenIn_port, hq]
      rfl
    · rw [Dev.enterPort_part, Dev.takenIn_part]
  case fault =>
    intro s p r timeout hb
    rw [exec_dmaFault, Dev.dmaFault_busy hb]
  case admitGrove =>
    intro s frame h
    rw [exec_pacerAdmit, Dev.pacerAdmit_grove h]
  case admitFrame =>
    intro s frame h hne hl
    rw [exec_pacerAdmit, Dev.pacerAdmit_frame h hne hl]
  case admitStream =>
    intro s h
    rw [exec_pacerAdmit, Dev.pacerAdmit_stream h]

end
end Sys2Proof.Machine
end

section
/-! The queue (R24, R34): every command ends in a next state, and neither its effect nor its end looks at what
waits behind it. -/

namespace Sys2Proof.Machine
open Sys2Proof

/-- Every row of the command table is an effect on the device, after which the command ends. -/
theorem exec_ends (c : Instr) (s : State) : ∃ d : Dev, exec c s = .next (s.ends d) := by
  cases c <;> exact ⟨_, rfl⟩

/-- An outcome with other commands waiting. -/
def waiting (q : List Instr) : Host.Outcome State Fault Refusal → Host.Outcome State Fault Refusal
  | .next s => .next { s with pending := q }
  | .fault r => .fault r
  | .refused r => .refused r

/-- No row looks at the queue: with other commands waiting its outcome is the same but for them. -/
theorem exec_waiting (c : Instr) (s : State) (q : List Instr) :
    exec c { s with pending := q } = waiting q (exec c s) := by
  cases c <;> rfl

/-- A command leaves one device, whatever waits. -/
theorem exec_any_queue (c : Instr) (s : State) :
    ∃ d : Dev, ∀ q : List Instr, exec c { s with pending := q } = .next { s with dev := d, pending := q } := by
  obtain ⟨d, hd⟩ := exec_ends c s
  exact ⟨d.settle s.dev, fun q => by
    rw [exec_waiting, hd, waiting, State.ends_dev, State.ends_id]⟩

theorem step_cons (s : State) (c : Instr) (q : List Instr) :
    step { s with pending := c :: q } = exec c { s with pending := q } := by
  simp only [step]

/-- Settles O49: a step takes the front of the queue, and each command is an effect that ends in a next state. -/
theorem stepRunsTheFront : Obligations.StepRunsTheFront := by
  refine ⟨fun c s => step_cons s c s.pending, fun s c q h => ?_, exec_ends⟩
  unfold step
  rw [h]

/-- Settles O52, by induction on the commands in front: each leaves a device that does not depend on what waits. -/
theorem waitingCommandsHaveNoEffect : Obligations.WaitingCommandsHaveNoEffect := by
  intro l
  induction l with
  | nil => exact fun s => ⟨s.dev, fun q => rfl⟩
  | cons c l ih =>
    intro s
    obtain ⟨d₁, h₁⟩ := exec_any_queue c s
    obtain ⟨d, h⟩ := ih { s with dev := d₁ }
    refine ⟨d, fun q => ?_⟩
    rw [List.length_cons, List.cons_append, steps, step_cons, h₁]
    exact h q

end Sys2Proof.Machine
end

section
/-! The header of PC page 3 (R28, R243): a write of it is a write of that page, after which the transceiver pins
follow the sleep groups. -/

namespace Sys2Proof.Machine
open Sys2Proof

/-- R264: power-on reset with platform control released. -/
def platformReleased : State :=
  { State.reset with dev := { State.reset.dev with plat := { State.reset.dev.plat with relStep := 1 } } }

/-- R243: whether PC page 3 has been written when a command has ended. -/
def liveAfter : Host.Outcome State Fault Refusal → Bool
  | .next s => s.dev.slp.live
  | .fault _ => false
  | .refused _ => false

/-- Refutes O1: (1) fails at PC page 3. Its first write, here one of IRQ_MASK that leaves every register as it was,
makes the transceiver pins follow the sleep groups (R243), so it changes more than IRQ_MASK. -/
theorem not_headerRegisterWrites : ¬ Obligations.HeaderRegisterWrites := by
  rintro ⟨hmask, -⟩
  have hr : platformReleased.dev.reaches .mc (pageBase (.pc 3) + 0x014) = some platformReleased.dev :=
    Dev.reaches_internal _ _ _ rfl (by decide +kernel)
  have h := congrArg liveAfter (hmask platformReleased .mc (.pc 3) 0 _ rfl hr (by decide +kernel))
  have written : liveAfter (exec (.registerWrite .mc (pageBase (.pc 3) + 0x014) 0 true false) platformReleased) = true := by
    decide +kernel
  have stated : liveAfter (.next (platformReleased.ends ((platformReleased.dev.setWord (pageBase (.pc 3) + 0x014)
      (irqGiven (.pc 3) 0)).renotify (.pc 3)))) = false := by
    decide +kernel
  rw [written, stated] at h
  exact Bool.noConfusion h

end Sys2Proof.Machine
end

section
/-! Events, counters and errors in the register file (R28, R29, R31): which words an event, a count and a recorded
error change, and what their fields read afterwards. -/

namespace Sys2Proof.Machine
open Sys2Proof

/-! ### Pages -/

/-- R19: pages begin at multiples of 4 KiB. -/
theorem pageBase_mod (pg : Page) : pageBase pg % 0x1000 = 0 := by
  cases pg <;> simp only [pageBase] <;> omega

section
variable (d : Dev)

/-! ### Counters -/

theorem satAdd_eq_min {w v : Nat} (x : Nat) : satAdd w v x = min (2 ^ w - 1) (v + x) := by
  unfold satAdd
  split <;> omega

/-- A counter goes up to its limit. -/
theorem Dev.get_bumpBy (f : Fld) (n : Nat) (h : f.lo + f.width ≤ 32) :
    (d.bumpBy f n).get f = min (2 ^ f.width - 1) (d.get f + n) := by
  have := Nat.two_pow_pos f.width
  rw [Dev.bumpBy, d.get_put f _ h, satAdd_eq_min, Nat.mod_eq_of_lt (by omega)]

theorem Dev.get_bump (f : Fld) (h : f.lo + f.width ≤ 32) : (d.bump f).get f = min (2 ^ f.width - 1) (d.get f + 1) :=
  d.get_bumpBy f 1 h

theorem Dev.get_bumpBy_other (f g : Fld) (n : Nat) (h : g.addr ≠ f.addr) : (d.bumpBy f n).get g = d.get g :=
  d.get_put_other f g _ h

theorem Dev.get_bump_other (f g : Fld) (h : g.addr ≠ f.addr) : (d.bump f).get g = d.get g :=
  d.get_bumpBy_other f g 1 h

theorem Dev.word_bump_other (f : Fld) (a : Nat) (h : a ≠ f.addr) : (d.bump f).word a = d.word a :=
  d.word_put_other f _ a h

theorem Dev.get_of_word {d e : Dev} {g : Fld} (h : e.word g.addr = d.word g.addr) : e.get g = d.get g := by
  rw [Dev.get, Dev.get, h]

theorem Dev.flag_of_word {d e : Dev} {g : Fld} (h : e.word g.addr = d.word g.addr) : e.flag g = d.flag g := by
  rw [Dev.flag, Dev.flag, Dev.get_of_word h]

@[simp] theorem Dev.baseNs_put (f : Fld) (v : Nat) : (d.put f v).baseNs = d.baseNs := by
  rw [Dev.baseNs, Dev.put_tl, Dev.baseNs]

@[simp] theorem Dev.baseNs_bump (f : Fld) : (d.bump f).baseNs = d.baseNs := by
  rw [Dev.baseNs, Dev.bump_tl, Dev.baseNs]

/-! ### Events (R28, R31) -/

/-- R31: a message changes what waits at the ports and what leaves the device, and nothing else. -/
theorem Dev.notify_eq (src : Nat) : ∃ hb out, d.notify src = { d with hb, out } := by
  obtain ⟨_, _, e₀, -⟩ := d.notifyPort_eq 0 src
  obtain ⟨_, _, e₁, -⟩ := (d.notifyPort 0 src).notifyPort_eq 1 src
  exact ⟨_, _, by rw [Dev.notify, e₁, e₀]⟩

/-- R28, R31: an event sets its bit, and may send a message. -/
theorem Dev.raise_eq (pg : Page) (bit : Nat) : ∃ hb out, d.raise pg bit =
    { d.put (F.IRQ_RAW_BITS (pageBase pg)) (setBit (d.get (F.IRQ_RAW_BITS (pageBase pg))) bit) with hb, out } := by
  unfold Dev.raise
  dsimp only
  split
  · exact Dev.notify_eq _ _
  · exact ⟨_, _, rfl⟩

section
variable (pg : Page) (bit : Nat)

@[simp] theorem Dev.raise_chan : (d.raise pg bit).chan = d.chan := by
  obtain ⟨_, _, e⟩ := d.raise_eq pg bit
  rw [e, Dev.put_chan]

@[simp] theorem Dev.raise_tl : (d.raise pg bit).tl = d.tl := by
  obtain ⟨_, _, e⟩ := d.raise_eq pg bit
  rw [e, Dev.put_tl]

@[simp] theorem Dev.baseNs_raise : (d.raise pg bit).baseNs = d.baseNs := by
  rw [Dev.baseNs, Dev.raise_tl, Dev.baseNs]

@[simp] theorem Dev.raise_gv : (d.raise pg bit).gv = d.gv := by
  obtain ⟨_, _, e⟩ := d.raise_eq pg bit
  rw [e, Dev.put_gv]

theorem Dev.word_raise (a : Nat) : (d.raise pg bit).word a =
    (d.put (F.IRQ_RAW_BITS (pageBase pg)) (setBit (d.get (F.IRQ_RAW_BITS (pageBase pg))) bit)).word a := by
  obtain ⟨_, _, e⟩ := d.raise_eq pg bit
  rw [e]
  rfl

theorem Dev.word_raise_other {a : Nat} (h : a ≠ pageBase pg + 0x10) : (d.raise pg bit).word a = d.word a := by
  rw [d.word_raise, d.word_put_other _ _ _ h]

theorem Dev.get_raise_other {g : Fld} (h : g.addr ≠ pageBase pg + 0x10) : (d.raise pg bit).get g = d.get g :=
  Dev.get_of_word (d.word_raise_other pg bit h)

theorem Dev.flag_raise_other {g : Fld} (h : g.addr ≠ pageBase pg + 0x10) : (d.raise pg bit).flag g = d.flag g :=
  Dev.flag_of_word (d.word_raise_other pg bit h)

/-- R28: an event is kept in the header of its page: no register at an offset of 0x040 or above changes. -/
theorem Dev.word_raise_of_body {a : Nat} (h : 0x40 ≤ a % 0x1000) : (d.raise pg bit).word a = d.word a := by
  have hb := pageBase_mod pg
  exact d.word_raise_other pg bit (by omega)

variable {bit} in
theorem Dev.get_irqRaw_raise (h : bit < 32) : (d.raise pg bit).get (F.IRQ_RAW_BITS (pageBase pg)) =
    setBit (d.get (F.IRQ_RAW_BITS (pageBase pg))) bit := by
  rw [Dev.get_of_word (d.word_raise pg bit _), d.get_put (F.IRQ_RAW_BITS (pageBase pg)) _ (Nat.le_refl 32)]
  exact Nat.mod_eq_of_lt (putBits_lt _ _ _ _ _ (d.get_lt _) h)

end

/-! ### Recorded errors (R29) -/

section
variable (pg : Page) (who addr code : Nat)

/-- R29: the device with an error captured in a page whose VALID is 0. -/
def Dev.errCaptured : Dev :=
  let b := pageBase pg
  let d := ((d.bump (F.ERR_COUNT_COUNT b)).put (F.ERR_INFO_CODE b) code).put (F.ERR_INFO_VALID b) 1
  let d := (d.put (F.ERR_ADDR_INITIATOR b) who).put (F.ERR_ADDR_ADDR b) addr
  d.put (F.ERR_TIME_STAMP_NS b) d.baseNs

variable {pg} in
theorem Dev.recordErr_first (h : d.flag (F.ERR_INFO_VALID (pageBase pg)) = false) :
    d.recordErr pg who addr code = (d.errCaptured pg who addr code).raise pg 0 := by
  have hv : (d.bump (F.ERR_COUNT_COUNT (pageBase pg))).flag (F.ERR_INFO_VALID (pageBase pg)) = false := by
    rw [Dev.flag_of_word (d.word_bump_other _ _ (by simp [F.ERR_INFO_VALID, F.ERR_COUNT_COUNT, R.ERR_INFO, R.ERR_COUNT])), h]
  unfold Dev.recordErr
  dsimp only
  rw [if_neg (by simp [hv])]
  rfl

/-- R29: what the captured error reads as. -/
theorem Dev.errCaptured_reads :
    (d.errCaptured pg who addr code).get (F.ERR_INFO_CODE (pageBase pg)) = code % 2 ^ 16 ∧
    (d.errCaptured pg who addr code).get (F.ERR_ADDR_INITIATOR (pageBase pg)) = who % 2 ^ 4 ∧
    (d.errCaptured pg who addr code).get (F.ERR_ADDR_ADDR (pageBase pg)) = addr % 2 ^ 26 ∧
    (d.errCaptured pg who addr code).get (F.ERR_TIME_STAMP_NS (pageBase pg)) = d.baseNs % 2 ^ 32 ∧
    (d.errCaptured pg who addr code).flag (F.ERR_INFO_VALID (pageBase pg)) = true ∧
    (d.errCaptured pg who addr code).flag (F.ERR_INFO_OVERFLOW (pageBase pg)) =
      d.flag (F.ERR_INFO_OVERFLOW (pageBase pg)) ∧
    (d.errCaptured pg who addr code).get (F.ERR_COUNT_COUNT (pageBase pg)) =
      min (2 ^ 32 - 1) (d.get (F.ERR_COUNT_COUNT (pageBase pg)) + 1) := by
  simp [Dev.errCaptured, Dev.flag, Dev.get_put, Dev.get_put_other, Dev.get_put_beside, Dev.get_bump,
    Dev.get_bump_other, F.ERR_INFO_CODE, F.ERR_INFO_VALID, F.ERR_INFO_OVERFLOW, F.ERR_ADDR_INITIATOR, F.ERR_ADDR_ADDR,
    F.ERR_TIME_STAMP_NS, F.ERR_COUNT_COUNT, R.ERR_INFO, R.ERR_ADDR, R.ERR_TIME, R.ERR_COUNT]

/-- R29: the device with an error counted in a page whose VALID is 1. -/
def Dev.errAgain : Dev := (d.bump (F.ERR_COUNT_COUNT (pageBase pg))).put (F.ERR_INFO_OVERFLOW (pageBase pg)) 1

variable {pg} in
theorem Dev.recordErr_again (h : d.flag (F.ERR_INFO_VALID (pageBase pg)) = true) :
    d.recordErr pg who addr code = d.errAgain pg := by
  have hv : (d.bump (F.ERR_COUNT_COUNT (pageBase pg))).flag (F.ERR_INFO_VALID (pageBase pg)) = true := by
    rw [Dev.flag_of_word (d.word_bump_other _ _ (by simp [F.ERR_INFO_VALID, F.ERR_COUNT_COUNT, R.ERR_INFO, R.ERR_COUNT])), h]
  unfold Dev.recordErr
  dsimp only
  exact if_pos hv

/-- R29: a later error leaves what the first one captured. -/
theorem Dev.errAgain_reads :
    (∀ off, off ≠ 0x20 → off ≠ 0x2C → (d.errAgain pg).word (pageBase pg + off) = d.word (pageBase pg + off)) ∧
    (d.errAgain pg).get (F.ERR_INFO_CODE (pageBase pg)) = d.get (F.ERR_INFO_CODE (pageBase pg)) ∧
    (d.errAgain pg).flag (F.ERR_INFO_VALID (pageBase pg)) = d.flag (F.ERR_INFO_VALID (pageBase pg)) ∧
    (d.errAgain pg).flag (F.ERR_INFO_OVERFLOW (pageBase pg)) = true ∧
    (d.errAgain pg).get (F.ERR_COUNT_COUNT (pageBase pg)) = min (2 ^ 32 - 1) (d.get (F.ERR_COUNT_COUNT (pageBase pg)) + 1) := by
  refine ⟨fun off h1 h2 => ?_, ?_⟩
  · rw [Dev.errAgain, Dev.word_put_other _ _ _ _ (by simp [F.ERR_INFO_OVERFLOW, R.ERR_INFO, h1]),
      Dev.word_bump_other _ _ _ (by simp [F.ERR_COUNT_COUNT, R.ERR_COUNT, h2])]
  · simp [Dev.errAgain, Dev.flag, Dev.get_put, Dev.get_put_other, Dev.get_put_beside, Dev.get_bump, Dev.get_bump_other,
      F.ERR_INFO_CODE, F.ERR_INFO_VALID, F.ERR_INFO_OVERFLOW, F.ERR_COUNT_COUNT, R.ERR_INFO, R.ERR_COUNT]

/-- R29: an error is recorded in the header of its page: no register at an offset of 0x040 or above changes. -/
theorem Dev.word_recordErr_of_body {a : Nat} (h : 0x40 ≤ a % 0x1000) : (d.recordErr pg who addr code).word a = d.word a := by
  have hb := pageBase_mod pg
  have hne : ∀ off < 0x40, a ≠ pageBase pg + off := fun off ho e => by omega
  cases hv : d.flag (F.ERR_INFO_VALID (pageBase pg)) with
  | false =>
    rw [d.recordErr_first _ _ _ hv, Dev.word_raise_other _ _ _ (hne 0x10 (by omega)), Dev.errCaptured]
    simp only [Dev.bump, Dev.bumpBy]
    iterate 6 rw [Dev.word_put_other]
    all_goals exact hne _ (by omega)
  | true =>
    rw [d.recordErr_again _ _ _ hv, Dev.errAgain, Dev.word_put_other _ _ _ _ (hne 0x20 (by omega)),
      Dev.word_bump_other _ _ _ (hne 0x2C (by omega))]

@[simp] theorem Dev.baseNs_recordErr : (d.recordErr pg who addr code).baseNs = d.baseNs := by
  cases hv : d.flag (F.ERR_INFO_VALID (pageBase pg)) with
  | false => rw [d.recordErr_first _ _ _ hv]; simp [Dev.errCaptured]
  | true => rw [d.recordErr_again _ _ _ hv]; simp [Dev.errAgain]

end

end

/-- Settles O55: what the first error of a page captures, and what a later one leaves. -/
theorem errorCapture : Obligations.ErrorCapture := by
  refine ⟨?first, ?again, ?count⟩
  case first =>
    intro d pg who addr code _ hwho haddr hcode hv
    obtain ⟨hc, hi, ha, ht, hvalid, ho, -⟩ := d.errCaptured_reads pg who addr code
    rw [d.recordErr_first _ _ _ hv]
    refine ⟨?_, ?_, ?_, ?_, ?_, ?_, ?_⟩
    · rw [Dev.get_raise_other _ _ _ (by simp [F.ERR_INFO_CODE, R.ERR_INFO]), hc, Nat.mod_eq_of_lt hcode]
    · rw [Dev.get_raise_other _ _ _ (by simp [F.ERR_ADDR_INITIATOR, R.ERR_ADDR]), hi]
      exact Nat.mod_eq_of_lt hwho
    · rw [Dev.get_raise_other _ _ _ (by simp [F.ERR_ADDR_ADDR, R.ERR_ADDR]), ha, Nat.mod_eq_of_lt haddr]
    · rw [Dev.get_raise_other _ _ _ (by simp [F.ERR_TIME_STAMP_NS, R.ERR_TIME]), ht]
    · rw [Dev.flag_raise_other _ _ _ (by simp [F.ERR_INFO_VALID, R.ERR_INFO]), hvalid]
    · rw [Dev.get_irqRaw_raise _ _ (by decide), bitOf_setBit]
    · rw [Dev.flag_raise_other _ _ _ (by simp [F.ERR_INFO_OVERFLOW, R.ERR_INFO]), ho]
  case again =>
    intro d pg who addr code _ _ _ _ hv
    obtain ⟨hw, hc, hvalid, ho, -⟩ := d.errAgain_reads pg
    rw [d.recordErr_again _ _ _ hv]
    exact ⟨hc, hw _ (by decide) (by decide), hw _ (by decide) (by decide), hvalid.trans hv, ho⟩
  case count =>
    intro d pg who addr code _
    cases hv : d.flag (F.ERR_INFO_VALID (pageBase pg)) with
    | false =>
      obtain ⟨-, -, -, -, -, -, hn⟩ := d.errCaptured_reads pg who addr code
      rw [d.recordErr_first _ _ _ hv, Dev.get_raise_other _ _ _ (by simp [F.ERR_COUNT_COUNT, R.ERR_COUNT]), hn]
    | true =>
      obtain ⟨-, -, -, -, hn⟩ := d.errAgain_reads pg
      rw [d.recordErr_again _ _ _ hv, hn]

end Sys2Proof.Machine
end

section
/-! A register write on its way to its register (R22, R30, R34 to R36, R326, R367): where it stops, and what the
posted-error log keeps of it. -/

namespace Sys2Proof.Machine
open Sys2Proof

section
variable {s : State} {i : Init} {addr : Nat} {v : Word} {d : Dev}

/-! ### REGISTER_WRITE below BAR2 -/

/-- R315: outside a Sapling delta, or by another initiator than the management cores, a write is not the relay's. -/
theorem Dev.deltaCheck_idle {d old : Dev} (h : i ≠ .mc ∨ old.sapState ≠ 5) : d.deltaCheck old i addr = d := by
  unfold Dev.deltaCheck
  dsimp only
  rw [if_neg]
  rintro ⟨hm, hs, -⟩
  exact h.elim (· hm) (· hs)

theorem exec_registerWrite {full : Bool} (ha : addr < 0x4000000) (h : i ≠ .mc ∨ s.dev.sapState ≠ 5) :
    exec (.registerWrite i addr v full false) s = .next (s.ends (s.dev.busWrite i addr v full
      (judged addr v (fun d => d.regWrite (idBlock s.id) i addr v)))) := by
  have he : exec (.registerWrite i addr v full false) s =
      .next (s.ends (s.dev.registerWrite (idBlock s.id) i addr v full)) :=
    act_eq_ends s (fun d => d.registerWrite (idBlock s.id) i addr v full)
  rw [he, Dev.registerWrite, if_neg (by omega), Dev.deltaCheck_idle h]

theorem exec_registerWrite_parity {full : Bool} (ha : addr < 0x4000000) : exec (.registerWrite i addr v full true) s =
    .next (s.ends ((s.dev.busWrite i addr v full (fun _ => .no 0x0007)).report 3 0)) := by
  have he : exec (.registerWrite i addr v full true) s = .next (s.ends (s.dev.parityWrite i addr v full)) :=
    act_eq_ends s (fun d => d.parityWrite i addr v full)
  rw [he, Dev.parityWrite, if_neg (by omega)]

/-- Only the two hosts write through a PCIe port. -/
theorem ne_mc_of_portOf {p : Nat} (h : portOf i = some p) : i ≠ .mc := by
  rintro rfl
  cases h

/-! ### Where a write stops (R30, R34, R35) -/

section
variable {full : Bool} {judge : Dev → Wr} {p : Nat}

/-- R30: an internal write that meets a common error fails with its code. -/
theorem Dev.busWrite_meets {code : Nat} (hp : portOf i = none) (hc : d.accessCode i addr full = some code) :
    d.busWrite i addr v full judge = d.failWrite i addr v code := by
  simp only [Dev.busWrite, hp, Dev.attempt, hc]

/-- R34: without a link nothing arrives. -/
theorem Dev.busWrite_down (hp : portOf i = some p) (hl : d.linkUp p = false) : d.busWrite i addr v full judge = d := by
  simp [Dev.busWrite, hp, hl]

/-- R34: a posted write takes its number. -/
def Dev.numbered (d : Dev) (p : Nat) : Dev := d.put (F.HB_WSEQ_SEQ p) (nextSeq (d.get (F.HB_WSEQ_SEQ p)))

/-- R35: while the log is full or names its page a posted write is discarded and counted. -/
theorem Dev.busWrite_discarded (hp : portOf i = some p) (hl : d.linkUp p = true)
    (ho : pageOf addr ≠ some (.hb (p + 1)))
    (h : (d.numbered p).pelFree p = none ∨ (d.numbered p).pelNames p addr = true) :
    d.busWrite i addr v full judge = (d.numbered p).bump (F.HB_PEL_DISCARD_COUNT p) := by
  unfold Dev.busWrite
  simp only [hp, hl, if_true]
  rw [if_neg ho, if_pos]
  · rfl
  · simpa [Dev.numbered] using h

end

/-! ### The posted-error log (R35, R36) -/

/-- R35: an entry of the log lies in its port's page, above the header and the numbers of the port. -/
theorem pelAddr_body {p e : Nat} (he : e < 8) : 0x40 ≤ R.PEL_ADDR p e % 0x1000 := by
  unfold R.PEL_ADDR
  omega

theorem pelFree_congr {d d' : Dev} {p : Nat} (h : ∀ e < 8, d'.word (R.PEL_ADDR p e) = d.word (R.PEL_ADDR p e)) :
    d'.pelFree p = d.pelFree p := by
  unfold Dev.pelFree findBelow
  refine List.find?_congr fun e he => ?_
  rw [Dev.flag_of_word (g := F.PEL_ADDR_VALID p e) (h e (List.mem_range.1 he))]

theorem pelNames_congr {d d' : Dev} {p : Nat} (h : ∀ e < 8, d'.word (R.PEL_ADDR p e) = d.word (R.PEL_ADDR p e)) :
    d'.pelNames p addr = d.pelNames p addr := by
  unfold Dev.pelNames
  rw [Bool.eq_iff_iff, List.any_eq_true, List.any_eq_true]
  refine exists_congr fun e => and_congr_right fun he => ?_
  have hw := h e (List.mem_range.1 he)
  rw [Dev.flag_of_word (g := F.PEL_ADDR_VALID p e) hw, Dev.get_of_word (g := F.PEL_ADDR_ADDR p e) hw]

theorem Dev.word_numbered {p a : Nat} (h : a ≠ R.HB_WSEQ p) : (d.numbered p).word a = d.word a :=
  d.word_put_other _ _ _ h

theorem pelAddr_ne_wseq {p e : Nat} : R.PEL_ADDR p e ≠ R.HB_WSEQ p := by
  unfold R.PEL_ADDR R.HB_WSEQ
  omega

theorem Dev.pelFree_lt {p e : Nat} (h : d.pelFree p = some e) : e < 8 := by
  unfold Dev.pelFree findBelow at h
  exact List.mem_range.1 (List.mem_of_find?_eq_some h)

/-- R35: the device with entry e of port p's log filled. -/
def Dev.pelFilled (d : Dev) (p e addr : Nat) (v : Word) (code : Nat) : Dev :=
  let d := (d.put (F.PEL_ADDR_ADDR p e) addr).put (F.PEL_ADDR_VALID p e) 1
  let d := d.put (F.PEL_SEQ_SEQ p e) (d.get (F.HB_WSEQ_SEQ p))
  let d := d.put (F.PEL_TIME_STAMP_NS p e) d.baseNs
  (d.put (F.PEL_INFO_CODE p e) code).put (F.PEL_DATA_DATA p e) v.toNat

/-- R35, R36: a logged write fills the lowest free entry and raises PEL, and PEL_FULL where it was the last. -/
theorem Dev.pelLog_free {p e code : Nat} (h : d.pelFree p = some e) : d.pelLog p addr v code =
    (d.pelFilled p e addr v code).raise (.hb (p + 1)) 1 ∨ d.pelLog p addr v code =
    ((d.pelFilled p e addr v code).raise (.hb (p + 1)) 1).raise (.hb (p + 1)) 2 := by
  unfold Dev.pelLog
  rw [h]
  dsimp only
  split
  · exact .inr rfl
  · exact .inl rfl

/-- R35: what a filled entry reads as. -/
theorem Dev.pelFilled_reads (d : Dev) (p e addr : Nat) (v : Word) (code : Nat) :
    (d.pelFilled p e addr v code).flag (F.PEL_ADDR_VALID p e) = true ∧
    (d.pelFilled p e addr v code).get (F.PEL_ADDR_ADDR p e) = addr % 2 ^ 26 ∧
    (d.pelFilled p e addr v code).get (F.PEL_SEQ_SEQ p e) = d.get (F.HB_WSEQ_SEQ p) % 2 ^ 32 ∧
    (d.pelFilled p e addr v code).get (F.PEL_INFO_CODE p e) = code % 2 ^ 16 ∧
    (d.pelFilled p e addr v code).get (F.PEL_DATA_DATA p e) = v.toNat % 2 ^ 32 ∧
    (d.pelFilled p e addr v code).get (F.PEL_TIME_STAMP_NS p e) = d.baseNs % 2 ^ 32 := by
  have hw : 0x2C01044 + p * 0x1000 ≠ 0x2C01080 + p * 0x1000 + e * 0x20 := by omega
  simp [Dev.pelFilled, Dev.flag, Dev.get_put, Dev.get_put_other, Dev.get_put_beside, F.PEL_ADDR_VALID, F.PEL_ADDR_ADDR,
    F.PEL_SEQ_SEQ, F.PEL_INFO_CODE, F.PEL_DATA_DATA, F.PEL_TIME_STAMP_NS, F.HB_WSEQ_SEQ, R.PEL_ADDR, R.PEL_SEQ,
    R.PEL_INFO, R.PEL_DATA, R.PEL_TIME, R.HB_WSEQ, hw]

/-- R35: the entry reads as it was filled, and PEL is raised. -/
theorem Dev.pelLog_leaves {p e code : Nat} (h : d.pelFree p = some e) :
    (∀ a, 0x40 ≤ a % 0x1000 → (d.pelLog p addr v code).word a = (d.pelFilled p e addr v code).word a) ∧
    bitOf ((d.pelLog p addr v code).get (F.IRQ_RAW_BITS (pageBase (.hb (p + 1))))) 1 = true := by
  rcases d.pelLog_free (addr := addr) (v := v) (code := code) h with hl | hl <;> rw [hl]
  · refine ⟨fun a ha => Dev.word_raise_of_body _ _ _ ha, ?_⟩
    rw [Dev.get_irqRaw_raise _ _ (by decide), bitOf_setBit]
  · refine ⟨fun a ha => ?_, ?_⟩
    · rw [Dev.word_raise_of_body _ _ _ ha, Dev.word_raise_of_body _ _ _ ha]
    · rw [Dev.get_irqRaw_raise _ _ (by decide), bitOf_setBit_other _ _ _ (by decide),
        Dev.get_irqRaw_raise _ _ (by decide), bitOf_setBit]

/-- R30, R35: a failed posted write is recorded in a page, which leaves the log, and logged. -/
theorem Dev.failWrite_posted {p : Nat} (hp : portOf i = some p) (code : Nat) : d.failWrite i addr v code =
    (d.recordErr (d.errorPage i addr) (initCode i) addr code).pelLog p addr v code := by
  simp only [Dev.failWrite, hp]

end

/-- Settles O54: where a write stops on its way, and the entry that a failed posted write fills. -/
theorem registerWriteTransport : Obligations.RegisterWriteTransport := by
  refine ⟨?common, ?down, ?discarded, ?locked, ?parity, ?logged⟩
  case common =>
    intro s i addr v full code ha hp hc hm
    rw [exec_registerWrite ha hm, Dev.busWrite_meets hp hc]
  case down =>
    intro s i addr v p ha hp hl
    rw [exec_registerWrite ha (.inl (ne_mc_of_portOf hp)), Dev.busWrite_down hp hl]
  case discarded =>
    intro s i addr v full p ha hp hl ho h
    have hpel : ∀ e < 8, (s.dev.numbered p).word (R.PEL_ADDR p e) = s.dev.word (R.PEL_ADDR p e) := fun e _ =>
      Dev.word_numbered pelAddr_ne_wseq
    rw [exec_registerWrite ha (.inl (ne_mc_of_portOf hp)), Dev.busWrite_discarded hp hl ho
      (by rwa [pelFree_congr hpel, pelNames_congr hpel])]
    rfl
  case locked =>
    intro s i addr v d ha hr hl hm
    rw [exec_registerWrite ha hm, Dev.busWrite_locked _ _ _ _ _ _ hr hl]
  case parity =>
    intro s i addr v ha hp hc
    rw [exec_registerWrite_parity ha, Dev.busWrite, hp]
    simp only [Dev.attempt, hc]
  case logged =>
    intro d i addr v code p e hp he ha hcode
    have he8 := Dev.pelFree_lt he
    have hs : (d.recordErr (d.errorPage i addr) (initCode i) addr code).get (F.HB_WSEQ_SEQ p) = d.get (F.HB_WSEQ_SEQ p) :=
      Dev.get_of_word (d.word_recordErr_of_body _ _ _ _ (by simp only [F.HB_WSEQ_SEQ, R.HB_WSEQ]; omega))
    have hfree : (d.recordErr (d.errorPage i addr) (initCode i) addr code).pelFree p = some e := by
      rw [pelFree_congr fun e he => d.word_recordErr_of_body _ _ _ _ (pelAddr_body he), he]
    obtain ⟨hword, hirq⟩ := Dev.pelLog_leaves (addr := addr) (v := v) (code := code) hfree
    obtain ⟨hvalid, haddr, hseq, hinfo, hdata, htime⟩ :=
      (d.recordErr (d.errorPage i addr) (initCode i) addr code).pelFilled_reads p e addr v code
    rw [d.failWrite_posted hp]
    refine ⟨?_, ?_, ?_, ?_, ?_, ?_, hirq⟩
    · rw [Dev.flag_of_word (hword _ (by simp only [F.PEL_ADDR_VALID, R.PEL_ADDR]; omega)), hvalid]
    · rw [Dev.get_of_word (hword _ (by simp only [F.PEL_ADDR_ADDR, R.PEL_ADDR]; omega)), haddr, Nat.mod_eq_of_lt ha]
    · rw [Dev.get_of_word (hword _ (by simp only [F.PEL_SEQ_SEQ, R.PEL_SEQ]; omega)), hseq, hs]
      exact Nat.mod_eq_of_lt (d.get_lt _)
    · rw [Dev.get_of_word (hword _ (by simp only [F.PEL_INFO_CODE, R.PEL_INFO]; omega)), hinfo, Nat.mod_eq_of_lt hcode]
    · rw [Dev.get_of_word (hword _ (by simp only [F.PEL_DATA_DATA, R.PEL_DATA]; omega)), hdata]
      exact Nat.mod_eq_of_lt v.isLt
    · rw [Dev.get_of_word (hword _ (by simp only [F.PEL_TIME_STAMP_NS, R.PEL_TIME]; omega)), htime, Dev.baseNs_recordErr]

end Sys2Proof.Machine
end

section
/-! PCIe links, port resets and Precision Time Measurement (R32, R34, R40): what a link that comes up shows, what a
port reset clears and leaves, and the steps of a PTM dialogue. -/

namespace Sys2Proof.Machine
open Sys2Proof

section
variable {d : Dev} {p : Fin 2}

/-! ### PCIE_LINK_UP (R34) -/

/-- R34: a link that comes up. -/
theorem Dev.portLinkUp_down (p width speed : Nat) (ptm : Bool) (hr : d.released (.hb 1) = true) (hl : d.linkUp p = false) :
    d.portLinkUp p width speed ptm = ((((((d.modHb p (fun h => { h with ptmSince := d.plat.aon })).put
      (F.HB_PORT_STAT_LINK_UP p) 1).put (F.HB_PORT_STAT_WIDTH p) width).put (F.HB_PORT_STAT_SPEED p) speed).putFlag
      (F.HB_PORT_STAT_PTM_EN p) ptm).put (F.HB_WSEQ_SEQ p) 0).raise (.hb (p + 1)) 3 := by
  unfold Dev.portLinkUp
  simp only [hr, hl, if_true, Bool.not_false, Bool.true_or, Bool.false_eq_true, if_false]

/-- R34: on a link that is up only PTM Enable is shown, and where it does not rise no PTM period begins. -/
theorem Dev.portLinkUp_up (p width speed : Nat) {ptm : Bool} (hr : d.released (.hb 1) = true) (hl : d.linkUp p = true)
    (h : ptm = false ∨ d.flag (F.HB_PORT_STAT_PTM_EN p) = true) :
    d.portLinkUp p width speed ptm = d.putFlag (F.HB_PORT_STAT_PTM_EN p) ptm := by
  have hf : (ptm && !d.flag (F.HB_PORT_STAT_PTM_EN p)) = false := by
    rcases h with rfl | h
    · rfl
    · rw [h, Bool.not_true, Bool.and_false]
  unfold Dev.portLinkUp
  simp only [hr, hl, hf, if_true, Bool.not_true, Bool.or_self, Bool.false_eq_true, if_false]

/-! ### What a port reset clears (R32) -/

/-- Dropped entries of a sparse table read as their default again. -/
theorem tabGet_tabDrop {α : Type} (dflt : Nat → α) (q : Nat → Bool) (t : Tab α) (i : Nat) :
    tabGet dflt (tabDrop q t) i = if q i then dflt i else tabGet dflt t i := by
  induction t with
  | nil => simp [tabDrop, tabGet]
  | cons e t ih =>
    obtain ⟨j, w⟩ := e
    simp only [tabDrop, List.filter_cons] at ih ⊢
    by_cases hj : q j = true <;> by_cases hi : i = j
    · subst hi
      simp [hj, ih]
    · simp [hj, ih, tabGet, hi]
    · subst hi
      simp [hj, tabGet]
    · simp [hj, ih, tabGet, hi]

/-- `e` is `d` but for the log rings and the registers of their page. -/
def Dev.besideRings (d e : Dev) : Prop :=
  (∃ regs cp, e = { d with regs, cp }) ∧ ∀ a, pageOf a ≠ some (.cp 2) → e.word a = d.word a

theorem Dev.besideRings_refl (d : Dev) : d.besideRings d := ⟨⟨_, _, rfl⟩, fun _ _ => rfl⟩

theorem Dev.besideRings_trans {d e f : Dev} (h : d.besideRings e) (k : e.besideRings f) : d.besideRings f := by
  obtain ⟨⟨_, _, rfl⟩, h⟩ := h
  obtain ⟨⟨_, _, rfl⟩, k⟩ := k
  exact ⟨⟨_, _, rfl⟩, fun a ha => (k a ha).trans (h a ha)⟩

theorem pageOf_ringRptr {r : Nat} (h : r < 16) : pageOf (R.CP_RING_RPTR r) = some (.cp 2) :=
  pageOf_page (.cp 2) (0x54 + r * 0x40) _ rfl (by omega) (by simp only [R.CP_RING_RPTR, pageBase]; omega)

/-- R234: an aborted delivery moves the read pointer of its log ring. -/
theorem Dev.ringBack_besideRings (d : Dev) {r : Nat} (h : r < 16) : d.besideRings (d.ringBack r) := by
  unfold Dev.ringBack
  dsimp only
  split
  · exact d.besideRings_refl
  · refine ⟨⟨_, _, rfl⟩, fun a ha => d.word_put_other (F.CP_RING_RPTR_PTR r) _ a ?_⟩
    rintro rfl
    exact ha (pageOf_ringRptr h)

/-- R32: port p's DMA of log rings is aborted. -/
def Dev.dmaAborted (d : Dev) (p : Nat) : Dev :=
  (List.range 16).foldl (fun (a : Dev) r => if d.get (F.CP_RING_CFG_CONSUMER r) = p + 1 then a.ringBack r else a) d

theorem Dev.dmaAborted_besideRings (d : Dev) (p : Nat) : d.besideRings (d.dmaAborted p) := by
  have steps : ∀ l : List Nat, (∀ r ∈ l, r < 16) → ∀ e : Dev, d.besideRings e → d.besideRings (l.foldl (fun (a : Dev) r =>
      if d.get (F.CP_RING_CFG_CONSUMER r) = p + 1 then a.ringBack r else a) e) := by
    intro l
    induction l with
    | nil => exact fun _ _ h => h
    | cons r l ih =>
      intro hl e h
      rw [List.forall_mem_cons] at hl
      refine ih hl.2 _ ?_
      dsimp only
      split
      · exact Dev.besideRings_trans h (e.ringBack_besideRings hl.1)
      · exact h
  exact steps _ (fun r hr => List.mem_range.1 hr) d d.besideRings_refl

/-- R32: a register that a port reset clears. -/
def clearedAt (p a : Nat) : Bool := pageOf a == some (.hb (p + 1)) && portCleared (a % 0x1000)

theorem Dev.portClear_eq (d : Dev) (p : Nat) : d.portClear p = { d.dmaAborted p with
    regs := tabDrop (clearedAt p) (d.dmaAborted p).regs, hb := tset (d.dmaAborted p).hb p {} }.put
      (F.HB_PTM_CTRL_TRIGGER p) 0 := rfl

/-- R32: a cleared register reads as after reset. -/
theorem Dev.word_portClear_cleared (d : Dev) {p a : Nat} (h : clearedAt p a = true) (ha : a ≠ R.HB_PTM_CTRL p) :
    (d.portClear p).word a = resetWord a := by
  rw [d.portClear_eq, Dev.word_put_other _ _ _ _ ha, Dev.word, tabGet_tabDrop, if_pos h]

/-- R32: other registers stay, but for TRIGGER and the read pointers of log rings. -/
theorem Dev.word_portClear_other (d : Dev) {p a : Nat} (h : clearedAt p a = false) (ha : a ≠ R.HB_PTM_CTRL p)
    (hr : pageOf a ≠ some (.cp 2)) : (d.portClear p).word a = d.word a := by
  rw [d.portClear_eq, Dev.word_put_other _ _ _ _ ha, Dev.word, tabGet_tabDrop, if_neg (by simp [h])]
  exact (d.dmaAborted_besideRings p).2 a hr

@[simp] theorem Dev.port'_portClear (d : Dev) (p : Nat) : (d.portClear p).port' p = {} := by
  rw [d.portClear_eq, Dev.port'_put]
  simp [Dev.port']

@[simp] theorem Dev.portClear_tl (d : Dev) (p : Nat) : (d.portClear p).tl = d.tl := by
  obtain ⟨⟨_, _, e⟩, -⟩ := d.dmaAborted_besideRings p
  rw [d.portClear_eq, Dev.put_tl, e]

@[simp] theorem Dev.portClear_gv (d : Dev) (p : Nat) : (d.portClear p).gv = d.gv := by
  obtain ⟨⟨_, _, e⟩, -⟩ := d.dmaAborted_besideRings p
  rw [d.portClear_eq, Dev.put_gv, e]

/-! ### PCIE_PORT_RESET (R32) -/

/-- R31: a message leaves a port without a link as it is. -/
theorem Dev.port'_notifyPort {d : Dev} {k : Nat} (q src : Nat) (h : d.linkUp k = false) :
    (d.notifyPort q src).port' k = d.port' k := by
  unfold Dev.notifyPort
  dsimp only
  split
  · next hc =>
    have hne : k ≠ q := by
      rintro rfl
      simp [h] at hc
    unfold Dev.sendMsix
    dsimp only
    split
    · rfl
    · split
      · rfl
      · exact tget_tset_other _ _ _ _ hne
  · rfl

theorem Dev.linkUp_of_regs {d e : Dev} (h : e.regs = d.regs) (k : Nat) : e.linkUp k = d.linkUp k := by
  rw [Dev.linkUp, Dev.linkUp, Dev.flag_of_word]
  rw [Dev.word, Dev.word, h]

theorem Dev.port'_raise {d : Dev} {k : Nat} (pg : Page) (bit : Nat) (h : d.linkUp k = false) :
    (d.raise pg bit).port' k = d.port' k := by
  have hp : (d.put (F.IRQ_RAW_BITS (pageBase pg)) (setBit (d.get (F.IRQ_RAW_BITS (pageBase pg))) bit)).linkUp k = false := by
    have hb := pageBase_mod pg
    rw [← h, Dev.linkUp, Dev.linkUp, Dev.flag_of_word (d.word_put_other _ _ _ _)]
    simp only [F.HB_PORT_STAT_LINK_UP, R.HB_PORT_STAT, F.IRQ_RAW_BITS, R.IRQ_RAW]
    omega
  unfold Dev.raise
  dsimp only
  split
  · rw [Dev.notify, Dev.port'_notifyPort, Dev.port'_notifyPort _ _ hp, Dev.port'_put]
    rw [Dev.linkUp_of_regs (Dev.notifyPort_regs _ _ _), hp]
  · rfl

/-- R32: what a port reset leaves of a port whose link was up, before it shows that the link is down. -/
def Dev.portAfterReset (d : Dev) (p : Nat) : Dev := (d.portClear p).put (F.HB_PORT_STAT_PTM_EN p) 0

/-- R32: the data link goes down. -/
def Dev.linkDown (d : Dev) (p : Nat) : Dev :=
  (((d.put (F.HB_PORT_STAT_LINK_UP p) 0).put (F.HB_PORT_STAT_WIDTH p) 0).put (F.HB_PORT_STAT_SPEED p) 0).raise
    (.hb (p + 1)) 3

theorem Dev.portReset_up {d : Dev} {p : Nat} (b : Bool) (hr : d.released (.hb 1) = true) (hl : d.linkUp p = true) :
    d.portReset p b = if b then (d.portAfterReset p).linkDown p else d.portAfterReset p := by
  unfold Dev.portReset
  rw [if_pos (by rw [hr, hl]; rfl)]
  rfl

section
variable {d : Dev} {p : Nat}

theorem Dev.word_portAfterReset {a : Nat} (h : a ≠ R.HB_PORT_STAT p) :
    (d.portAfterReset p).word a = (d.portClear p).word a := Dev.word_put_other _ _ _ _ h

theorem Dev.word_linkDown {a : Nat} (h : a ≠ R.HB_PORT_STAT p) (hi : a ≠ pageBase (.hb (p + 1)) + 0x10) :
    (d.linkDown p).word a = d.word a := by
  rw [Dev.linkDown, Dev.word_raise_other _ _ _ hi]
  iterate 3 rw [Dev.word_put_other]
  all_goals exact h

theorem Dev.port'_linkDown : (d.linkDown p).port' p = d.port' p := by
  rw [Dev.linkDown, Dev.port'_raise]
  · rfl
  · simp [Dev.linkUp, Dev.flag, Dev.get_put_beside, Dev.get_put, F.HB_PORT_STAT_LINK_UP, F.HB_PORT_STAT_WIDTH,
      F.HB_PORT_STAT_SPEED, R.HB_PORT_STAT]

/-- R32: the link's fields after it went down. -/
theorem Dev.linkDown_shows : (d.linkDown p).linkUp p = false ∧
    (d.linkDown p).flag (F.HB_PORT_STAT_PTM_EN p) = d.flag (F.HB_PORT_STAT_PTM_EN p) := by
  have hne : R.HB_PORT_STAT p ≠ pageBase (.hb (p + 1)) + 0x10 := by
    simp only [R.HB_PORT_STAT, pageBase]
    omega
  rw [Dev.linkDown, Dev.linkUp, Dev.flag_raise_other _ _ _ hne, Dev.flag_raise_other _ _ _ hne]
  simp [Dev.flag, Dev.get_put_beside, Dev.get_put, F.HB_PORT_STAT_LINK_UP, F.HB_PORT_STAT_WIDTH,
    F.HB_PORT_STAT_SPEED, F.HB_PORT_STAT_PTM_EN, R.HB_PORT_STAT]

/-- An address of port p's page. -/
theorem pageOf_port (hp : p < 2) {off : Nat} (h : off < 0x1000) :
    pageOf (pageBase (.hb (p + 1)) + off) = some (.hb (p + 1)) :=
  pageOf_page (.hb (p + 1)) off _ (by simp only [pageExists, decide_eq_true_eq]; omega) h rfl

theorem clearedAt_port (hp : p < 2) {off : Nat} (h : off < 0x1000) :
    clearedAt p (pageBase (.hb (p + 1)) + off) = portCleared off := by
  rw [clearedAt, pageOf_port hp h, Nat.add_mod, pageBase_mod, Nat.zero_add, Nat.mod_mod, Nat.mod_eq_of_lt h]
  simp

/-- R32: a register of the port's page that a reset does not clear. -/
theorem Dev.word_portClear_kept (hp : p < 2) {off : Nat} (h : off < 0x1000) (hc : portCleared off = false)
    (ho : off ≠ 0x60) : (d.portClear p).word (pageBase (.hb (p + 1)) + off) = d.word (pageBase (.hb (p + 1)) + off) := by
  refine d.word_portClear_other (by rw [clearedAt_port hp h, hc]) ?_ (by rw [pageOf_port hp h]; simp)
  simp only [R.HB_PTM_CTRL, pageBase]
  omega

theorem portStat_eq (p : Nat) : R.HB_PORT_STAT p = pageBase (.hb (p + 1)) + 0x40 := by
  simp only [R.HB_PORT_STAT, pageBase]
  omega

theorem wseq_eq (p : Nat) : R.HB_WSEQ p = pageBase (.hb (p + 1)) + 0x44 := by
  simp only [R.HB_WSEQ, pageBase]
  omega

theorem ptmCtrl_eq (p : Nat) : R.HB_PTM_CTRL p = pageBase (.hb (p + 1)) + 0x60 := by
  simp only [R.HB_PTM_CTRL, pageBase]
  omega

/-- R32: the link's fields after a reset that keeps it. -/
theorem Dev.portAfterReset_shows (hp : p < 2) : (d.portAfterReset p).linkUp p = d.linkUp p ∧
    (d.portAfterReset p).flag (F.HB_PORT_STAT_PTM_EN p) = false := by
  have hstat : (d.portClear p).word (R.HB_PORT_STAT p) = d.word (R.HB_PORT_STAT p) := by
    rw [portStat_eq]
    exact Dev.word_portClear_kept hp (by decide) (by decide) (by decide)
  constructor
  · rw [Dev.linkUp, Dev.portAfterReset, Dev.flag, Dev.get_put_beside _ _ _ _ (by simp [F.HB_PORT_STAT_PTM_EN])
      (by simp [F.HB_PORT_STAT_PTM_EN, F.HB_PORT_STAT_LINK_UP]), ← Dev.flag]
    exact Dev.flag_of_word hstat
  · rw [Dev.portAfterReset, Dev.flag, Dev.get_put _ _ _ (by simp [F.HB_PORT_STAT_PTM_EN])]
    simp [F.HB_PORT_STAT_PTM_EN]

/-- An offset that R32 clears is none that it keeps. -/
theorem portCleared_ne {off k : Nat} (h : portCleared off = true) (hk : portCleared k = false) : off ≠ k := by
  rintro rfl
  rw [h] at hk
  cases hk

/-- R32: what a port reset leaves, whether or not the link goes down. -/
theorem Dev.portReset_leaves {p : Fin 2} (b : Bool) (hr : d.released (.hb 1) = true) (hl : d.linkUp p = true) :
    (d.portReset p b).linkUp p = !b ∧ (d.portReset p b).port' p = {} ∧
    (d.portReset p b).flag (F.HB_PORT_STAT_PTM_EN p) = false ∧ (d.portReset p b).tl = d.tl ∧
    (d.portReset p b).gv = d.gv ∧ ∀ a, a ≠ R.HB_PORT_STAT p → a ≠ pageBase (.hb (p + 1)) + 0x10 →
      (d.portReset p b).word a = (d.portClear p).word a := by
  obtain ⟨hup, hen⟩ := d.portAfterReset_shows p.isLt
  obtain ⟨hdown, hen'⟩ := (d.portAfterReset p).linkDown_shows (p := p)
  have hport : (d.portAfterReset p).port' p = {} := by rw [Dev.portAfterReset, Dev.port'_put, Dev.port'_portClear]
  rw [Dev.portReset_up b hr hl]
  cases b with
  | false =>
    refine ⟨by simpa [hl] using hup, hport, hen, ?_, ?_, fun a ha _ => Dev.word_portAfterReset ha⟩
    · simp [Dev.portAfterReset]
    · simp [Dev.portAfterReset]
  | true =>
    refine ⟨hdown, Dev.port'_linkDown.trans hport, hen'.trans hen, ?_, ?_, fun a ha hi =>
      (Dev.word_linkDown ha hi).trans (Dev.word_portAfterReset ha)⟩
    · simp [Dev.linkDown, Dev.portAfterReset]
    · simp [Dev.linkDown, Dev.portAfterReset]

end

/-! ### Precision Time Measurement (R40) -/

section
variable {s : State} {i : Init}

/-- R40: a dialogue starts where none runs. -/
theorem Dev.ptmStart_idle {p : Nat} (h : (d.port' p).dialogue = false) : d.ptmStart p =
    (d.modHb p (fun h => { h with dialogue := true, ptmT1 := d.baseNs })).emit (.ptmRequest p) := by
  unfold Dev.ptmStart
  rw [if_neg (by simp [h])]

theorem regAt_ptmCtrl (p : Fin 2) : regAt (R.HB_PTM_CTRL p) =
    some ⟨0x060, 1, 0x4, [⟨8, 8, .rw, 0xA, .b⟩, ⟨1, 1, .w1s, 0x0, .b⟩, ⟨0, 1, .rw, 0x0, .b⟩]⟩ := by
  revert p
  decide +kernel

theorem Dev.hbWrite_ptmCtrl (d : Dev) (p : Fin 2) (v : Word) :
    d.hbWrite p (R.HB_PTM_CTRL p) v = .ok (d.ptmCtrlWrite p v) := by
  unfold Dev.hbWrite
  dsimp only
  rw [if_neg (by unfold R.HB_PTM_CTRL R.HB_IRQ_SEL; omega), if_neg (by unfold R.HB_PTM_CTRL R.HB_IRQ_VEC; omega),
    if_pos rfl]

/-- R40: TRIGGER reads 1 once it is written 1. -/
theorem Dev.flag_trigger_store (d : Dev) (p : Fin 2) {v : Word} (h : newField v (F.HB_PTM_CTRL_TRIGGER p) = 1) :
    (d.store (R.HB_PTM_CTRL p) v).flag (F.HB_PTM_CTRL_TRIGGER p) = true := by
  have hv : wordBits v 1 1 = 1 := h
  have hor : ∀ x < 2, Nat.lor x 1 % 2 ^ 1 = 1 := by decide
  simp only [Dev.store, regAt_ptmCtrl, Dev.flag, Dev.get, F.HB_PTM_CTRL_TRIGGER, Dev.word_setWord_same, fieldsNext,
    List.foldl_cons, List.foldl_nil, fieldNext, hv]
  rw [wordBits_wordPut_other _ _ _ _ _ _ (by decide) (by decide), wordBits_wordPut _ _ _ _ (by decide),
    hor _ (wordBits_lt _ _ _)]
  rfl

/-- R367: a row that writes one field changes no field beside it. -/
theorem Dev.changes_wordWith_beside (d : Dev) {f g : Fld} (x : Nat) (hf : f.lo + f.width ≤ 32) (ha : g.addr = f.addr)
    (h : g.lo + g.width ≤ f.lo ∨ f.lo + f.width ≤ g.lo) : d.changes (d.wordWith f x) g = false := by
  rw [Dev.changes, newField_wordWith_beside x hf ha h, bne_self_eq_false]

/-- R40: a write that sets TRIGGER and leaves the other fields starts a dialogue. -/
theorem Dev.ptmCtrlWrite_trigger (d : Dev) (p : Fin 2) (h : (d.port' p).dialogue = false) :
    d.ptmCtrlWrite p (d.wordWith (F.HB_PTM_CTRL_TRIGGER p) 1) =
      ((d.store (R.HB_PTM_CTRL p) (d.wordWith (F.HB_PTM_CTRL_TRIGGER p) 1)).modHb p (fun h => { h with
        dialogue := true, ptmT1 := d.baseNs })).emit (.ptmRequest p) := by
  have beside := fun g ha h => d.changes_wordWith_beside (f := F.HB_PTM_CTRL_TRIGGER p) (g := g) 1 (by decide : 1 + 1 ≤ 32) ha h
  have hauto := beside (F.HB_PTM_CTRL_AUTO p) rfl (.inl (Nat.le_refl 1))
  have hperiod := beside (F.HB_PTM_CTRL_PERIOD p) rfl (.inr (by decide : 2 ≤ 8))
  have htrigger : newField (d.wordWith (F.HB_PTM_CTRL_TRIGGER p) 1) (F.HB_PTM_CTRL_TRIGGER p) = 1 :=
    newField_wordWith _ 1 (by simp [F.HB_PTM_CTRL_TRIGGER])
  unfold Dev.ptmCtrlWrite
  simp only [hauto, hperiod, htrigger, Bool.or_self, Bool.false_eq_true, if_false, if_true]
  rw [Dev.ptmStart_idle (by rw [Dev.port'_store, h]), Dev.baseNs, Dev.store_tl, Dev.baseNs]

/-- The word that a row writes is the one that its write finds at the register, unless that is HB_WSEQ. -/
theorem Dev.wordWith_arrived {d₀ : Dev} {addr : Nat} (f : Fld) (x : Nat) (hr : d₀.reaches i addr = some d)
    (hf : ∀ q, f.addr ≠ R.HB_WSEQ q) : d₀.wordWith f x = d.wordWith f x := by
  rw [Dev.wordWith, Dev.wordWith, Dev.word_reaches hr hf]

theorem Dev.store_out (d : Dev) (addr : Nat) (v : Word) : (d.store addr v).out = d.out := by
  obtain ⟨regs, e⟩ := d.store_eq addr v
  rw [e]

theorem exec_pcieLinkUp {width speed : Fin 8} {ptm : Bool} : exec (.pcieLinkUp p width speed ptm) s =
    .next (s.ends (s.dev.portLinkUp p width speed ptm)) := act_eq_ends s (fun d => d.portLinkUp p width speed ptm)

theorem exec_pciePortReset {b : Bool} : exec (.pciePortReset p b) s = .next (s.ends (s.dev.portReset p b)) :=
  act_eq_ends s (fun d => d.portReset p b)

theorem exec_ptmTrigger : exec (.ptmTrigger i p) s =
    .next (s.ends (s.dev.hbRow i p (R.HB_PTM_CTRL p) (s.dev.wordWith (F.HB_PTM_CTRL_TRIGGER p) 1))) :=
  act_eq_ends s (fun d => d.hbRow i p (R.HB_PTM_CTRL p) (d.wordWith (F.HB_PTM_CTRL_TRIGGER p) 1))

theorem exec_ptmPeriodExpire : exec (.ptmPeriodExpire p) s = .next (s.ends (s.dev.ptmPeriod p)) :=
  act_eq_ends s (fun d => d.ptmPeriod p)

theorem exec_ptmDialogueComplete {master : BitVec 64} {delay : Word} : exec (.ptmDialogueComplete p master delay) s =
    .next (s.ends (s.dev.ptmDone p master.toNat delay.toNat)) :=
  act_eq_ends s (fun d => d.ptmDone p master.toNat delay.toNat)

/-- R40: PTM_PERIOD_EXPIRE of a period that has passed. -/
theorem Dev.ptmPeriod_passed {p : Nat} (hl : d.linkUp p = true) (he : d.flag (F.HB_PORT_STAT_PTM_EN p) = true)
    (ha : d.flag (F.HB_PTM_CTRL_AUTO p) = true) (h0 : d.get (F.HB_PTM_CTRL_PERIOD p) ≠ 0)
    (ht : (d.port' p).ptmSince + d.get (F.HB_PTM_CTRL_PERIOD p) * 1000000 ≤ d.plat.aon) : d.ptmPeriod p =
    (d.modHb p (fun h => { h with ptmSince := h.ptmSince + d.get (F.HB_PTM_CTRL_PERIOD p) * 1000000 })).ptmStart p := by
  unfold Dev.ptmPeriod
  dsimp only
  rw [if_pos (by simp [hl, he, ha, h0, ht])]

/-- R40: PTM_TRIGGER, taken with no dialogue running. -/
theorem ptmTrigger_taken (hr : s.dev.reaches i (R.HB_PTM_CTRL p) = some d)
    (hl : d.lockedWrite (R.HB_PTM_CTRL p) (d.wordWith (F.HB_PTM_CTRL_TRIGGER p) 1) = false)
    (h : (d.port' p).dialogue = false) : exec (.ptmTrigger i p) s = .next (s.ends (((d.store (R.HB_PTM_CTRL p)
      (d.wordWith (F.HB_PTM_CTRL_TRIGGER p) 1)).modHb p (fun h => { h with
        dialogue := true, ptmT1 := d.baseNs })).emit (.ptmRequest p))) := by
  have hw := Dev.hbRow_taken hr hl (d.hbWrite_ptmCtrl p _)
  rw [exec_ptmTrigger, Dev.wordWith_arrived _ _ hr, hw, d.ptmCtrlWrite_trigger p h]
  intro q
  simp only [F.HB_PTM_CTRL_TRIGGER, R.HB_PTM_CTRL, R.HB_WSEQ]
  omega

/-- R40: the registers that the end of a dialogue writes. -/
def Dev.ptmWritten (d : Dev) (p master delay : Nat) : Dev :=
  let d := (d.put (F.PTM_T1_NS p) (d.port' p).ptmT1).put (F.PTM_T4_NS p) d.baseNs
  let d := (d.put (F.PTM_MT_LO_NS p) master).put (F.PTM_MT_HI_NS p) (master / 2 ^ 32)
  ((d.put (F.PTM_PDELAY_NS p) delay).bumpWrap (F.PTM_SEQ_COUNT p)).put (F.HB_PTM_CTRL_TRIGGER p) 0

theorem Dev.ptmDone_running {p : Nat} (master delay : Nat) (h : (d.port' p).dialogue = true) :
    d.ptmDone p master delay = (d.ptmWritten p master delay).modHb p (fun h => { h with dialogue := false }) := by
  unfold Dev.ptmDone
  dsimp only
  rw [if_pos h]
  rfl

theorem Dev.ptmWritten_reads (d : Dev) (p master delay : Nat) :
    (d.ptmWritten p master delay).get (F.PTM_T1_NS p) = (d.port' p).ptmT1 % 2 ^ 32 ∧
    (d.ptmWritten p master delay).get (F.PTM_T4_NS p) = d.baseNs % 2 ^ 32 ∧
    (d.ptmWritten p master delay).get (F.PTM_MT_LO_NS p) = master % 2 ^ 32 ∧
    (d.ptmWritten p master delay).get (F.PTM_MT_HI_NS p) = master / 2 ^ 32 % 2 ^ 32 ∧
    (d.ptmWritten p master delay).get (F.PTM_PDELAY_NS p) = delay % 2 ^ 32 ∧
    (d.ptmWritten p master delay).get (F.PTM_SEQ_COUNT p) = (d.get (F.PTM_SEQ_COUNT p) + 1) % 2 ^ 32 ∧
    (d.ptmWritten p master delay).flag (F.HB_PTM_CTRL_TRIGGER p) = false := by
  simp [Dev.ptmWritten, Dev.bumpWrap, Dev.flag, Dev.get_put, Dev.get_put_other, F.PTM_T1_NS, F.PTM_T4_NS,
    F.PTM_MT_LO_NS, F.PTM_MT_HI_NS, F.PTM_PDELAY_NS, F.PTM_SEQ_COUNT, F.HB_PTM_CTRL_TRIGGER, R.PTM_T1, R.PTM_T4,
    R.PTM_MT_LO, R.PTM_MT_HI, R.PTM_PDELAY, R.PTM_SEQ, R.HB_PTM_CTRL]

theorem Dev.word_ptmWritten (d : Dev) {p master delay a : Nat} (h1 : a ≠ R.PTM_T1 p) (h2 : a ≠ R.PTM_T4 p)
    (h3 : a ≠ R.PTM_MT_LO p) (h4 : a ≠ R.PTM_MT_HI p) (h5 : a ≠ R.PTM_PDELAY p) (h6 : a ≠ R.PTM_SEQ p)
    (h7 : a ≠ R.HB_PTM_CTRL p) : (d.ptmWritten p master delay).word a = d.word a := by
  simp only [Dev.ptmWritten, Dev.bumpWrap]
  iterate 7 rw [Dev.word_put_other]
  all_goals assumption

end

end

/-- Settles O2: links that come up, port resets, and the steps of a PTM dialogue. -/
theorem portLinksAndTiming : Obligations.PortLinksAndTiming := by
  refine ⟨?up, ?shown, ?reset, ?trigger, ?period, ?complete⟩
  case up =>
    intro s p width speed ptm hr hl
    rw [exec_pcieLinkUp, Dev.portLinkUp_down _ _ _ _ hr hl]
  case shown =>
    intro s p width speed ptm hr hl h
    rw [exec_pcieLinkUp, Dev.portLinkUp_up _ _ _ hr hl h]
  case reset =>
    intro s p b hr hl
    obtain ⟨hup, hport, hen, htl, hgv, hword⟩ := Dev.portReset_leaves b hr hl
    have hp := p.isLt
    refine ⟨_, exec_pciePortReset, hup, hport, hen, fun off hc => ?_, htl, hgv, ?_, fun a ha hr => ?_⟩
    · have hne := fun k hk => portCleared_ne (k := k) hc hk
      rw [hword _ (by rw [portStat_eq]; have := hne 0x40 rfl; omega) (by have := hne 0x10 rfl; omega),
        Dev.word_portClear_cleared _ (by rw [clearedAt_port hp off.isLt, hc])
          (by rw [ptmCtrl_eq]; have := hne 0x60 rfl; omega)]
    · refine Dev.get_of_word ?_
      rw [show (F.HB_WSEQ_SEQ p).addr = _ from wseq_eq p, hword _ (by rw [portStat_eq]; omega) (by omega),
        Dev.word_portClear_kept hp (by decide) rfl (by decide)]
    · have hne : ∀ off < 0x1000, a ≠ pageBase (.hb (p + 1)) + off := by
        rintro off ho rfl
        exact ha (pageOf_port hp ho)
      rw [hword a (by rw [portStat_eq]; exact hne _ (by decide)) (hne _ (by decide)),
        s.dev.word_portClear_other (by simp [clearedAt, ha]) (by rw [ptmCtrl_eq]; exact hne _ (by decide)) hr]
  case trigger =>
    intro s i p d hr hl h
    refine ⟨_, ptmTrigger_taken hr hl h, ?_, ?_, ?_, fun a ha => ?_⟩
    · simp
    · simp [Dev.store_out]
    · exact d.flag_trigger_store p (newField_wordWith _ 1 (by decide : 1 + 1 ≤ 32))
    · exact d.word_store_other _ ha
  case period =>
    intro s p hl he ha h0 ht h
    rw [exec_ptmPeriodExpire, Dev.ptmPeriod_passed hl he ha h0 ht, Dev.ptmStart_idle (by simpa using h)]
    exact ⟨_, rfl, by simp [Dev.baseNs], rfl, rfl⟩
  case complete =>
    intro s p master delay h
    obtain ⟨h1, h2, h3, h4, h5, h6, h7⟩ := s.dev.ptmWritten_reads p master.toNat delay.toNat
    rw [exec_ptmDialogueComplete, Dev.ptmDone_running _ _ h]
    refine ⟨_, rfl, ?_⟩
    simp only [Dev.modHb_get, Dev.modHb_flag, Dev.modHb_word, Dev.modHb_out, Dev.port'_modHb]
    refine ⟨h1, h2, h3, h4.trans ?_, h5.trans ?_, h6, h7, ?_, ?_, fun a a1 a2 a3 a4 a5 a6 a7 =>
      s.dev.word_ptmWritten a1 a2 a3 a4 a5 a6 a7⟩
    · have := master.isLt
      omega
    · exact Nat.mod_eq_of_lt delay.isLt
    · simp [Dev.ptmWritten, Dev.bumpWrap]
    · simp [Dev.ptmWritten, Dev.bumpWrap]

end Sys2Proof.Machine
end

section
/-! CAN error confinement and recovery (R131, R370) and the message RAM window (R133): what an error writes in the
registers of its channel, what its entry to another state leaves, and when a head leaves its FIFO with it. -/

namespace Sys2Proof.Machine
open Sys2Proof

section
variable {d : Dev} {n : Fin 64}

/-! ### Channels -/

@[simp] theorem canC_val (n : Fin 64) : (canC n).val = n.val := rfl

@[simp] theorem Dev.chanSt_put (d : Dev) (f : Fld) (v c : Nat) : (d.put f v).chanSt c = d.chanSt c := by
  rw [Dev.chanSt, Dev.put_chan, Dev.chanSt]

@[simp] theorem Dev.chanSt_bump (d : Dev) (f : Fld) (c : Nat) : (d.bump f).chanSt c = d.chanSt c := by
  rw [Dev.chanSt, Dev.bump_chan, Dev.chanSt]

@[simp] theorem Dev.chanSt_modChan_same (d : Dev) (c : Nat) (f : ChanSt → ChanSt) :
    (d.modChan c f).chanSt c = f (d.chanSt c) := by
  simp [Dev.chanSt]

theorem Dev.chanSt_modChan_other (d : Dev) {c k : Nat} (f : ChanSt → ChanSt) (h : k ≠ c) :
    (d.modChan c f).chanSt k = d.chanSt k := by
  rw [Dev.chanSt, Dev.modChan_chan, tget_tmod_other _ _ _ _ h, Dev.chanSt]

theorem Dev.chanSt_of_chan {d e : Dev} (h : e.chan = d.chan) (c : Nat) : e.chanSt c = d.chanSt c := by
  rw [Dev.chanSt, Dev.chanSt, h]

/-! ### The state of error confinement (R131) -/

/-- R103: an event of Grove's changes Grove's queues, or counts one that merged with another. -/
theorem Dev.gvEvent_eq (d : Dev) (q type source data stamp announce : Nat) :
    ∃ e : Dev, e.regs = d.regs ∧ e.chan = d.chan ∧ (d.gvEvent q type source data stamp announce = e ∨
      d.gvEvent q type source data stamp announce = e.bump F.GV_EVT_COALESCED_COUNT) := by
  unfold Dev.gvEvent
  dsimp only
  split
  · exact ⟨d, rfl, rfl, .inl rfl⟩
  · split
    · exact ⟨d.setQueue _ _, rfl, rfl, .inr rfl⟩
    · exact ⟨d.setQueue _ _, rfl, rfl, .inl rfl⟩

theorem Dev.word_deviceEvent (d : Dev) (type source data stamp announce : Nat) {a : Nat} (h : a ≠ R.GV_EVT_COALESCED) :
    (d.deviceEvent type source data stamp announce).word a = d.word a := by
  obtain ⟨e, hr, -, he | he⟩ := d.gvEvent_eq (d.get F.GV_CFG_EVT_QUEUE) type source data stamp announce
  · rw [Dev.deviceEvent, he, Dev.word, hr, Dev.word]
  · rw [Dev.deviceEvent, he, Dev.word_bump_other _ _ _ h, Dev.word, hr, Dev.word]

@[simp] theorem Dev.deviceEvent_chan (d : Dev) (type source data stamp announce : Nat) :
    (d.deviceEvent type source data stamp announce).chan = d.chan := by
  obtain ⟨e, -, hc, he | he⟩ := d.gvEvent_eq (d.get F.GV_CFG_EVT_QUEUE) type source data stamp announce
  · rw [Dev.deviceEvent, he, hc]
  · rw [Dev.deviceEvent, he, Dev.bump_chan, hc]

/-- R131: a change of state changes STATE, raises event 5 of the channel and queues an event. -/
theorem Dev.word_canSetState (d : Dev) (n : Fin 64) (st : Nat) {a : Nat} (h : 0x1000000 ≤ a) (hb : 0x40 ≤ a % 0x1000) :
    (d.canSetState n st).word a = d.word a ∨ (d.canSetState n st).word a = (d.put (F.CAN_ERR_STATE n) st).word a := by
  unfold Dev.canSetState
  split
  · exact .inl rfl
  · refine .inr ?_
    dsimp only
    rw [Dev.word_deviceEvent, Dev.word_raise_of_body _ _ _ hb]
    unfold R.GV_EVT_COALESCED
    omega

@[simp] theorem Dev.canSetState_chan (d : Dev) (c st : Nat) : (d.canSetState c st).chan = d.chan := by
  unfold Dev.canSetState
  split
  · rfl
  · simp

theorem Dev.get_state_canSetState (d : Dev) (n : Fin 64) {st : Nat} (h : st < 4) :
    (d.canSetState n st).get (F.CAN_ERR_STATE n) = st := by
  by_cases hs : d.get (F.CAN_ERR_STATE n) = st
  · rw [Dev.canSetState, if_pos hs, hs]
  · rw [Dev.canSetState, if_neg hs]
    dsimp only
    rw [Dev.get_of_word (Dev.word_deviceEvent _ _ _ _ _ _ _), Dev.get_raise_other, d.get_put _ _ (by decide : 4 + 2 ≤ 32)]
    · exact Nat.mod_eq_of_lt h
    · simp only [F.CAN_ERR_STATE, R.CAN_ERR, pageBase]
      omega
    · simp only [F.CAN_ERR_STATE, R.CAN_ERR, R.GV_EVT_COALESCED]
      omega

/-- R131: a change of state leaves the other fields of the channel's page. -/
theorem Dev.get_canSetState_other (d : Dev) (n : Fin 64) (st : Nat) {g : Fld} (h : 0x1000000 ≤ g.addr)
    (hb : 0x40 ≤ g.addr % 0x1000) (hs : (F.CAN_ERR_STATE n).apart g) : (d.canSetState n st).get g = d.get g := by
  rcases d.word_canSetState n st h hb with hw | hw
  · exact Dev.get_of_word hw
  · rw [Dev.get_of_word hw, d.get_put_apart _ _ _ (by decide : 4 + 2 ≤ 32) hs]

/-- What a change of STATE keeps of channel n: the rest of CAN_ERR, the counters, CAN_MODE. -/
structure Dev.KeepsCounts (d e : Dev) (n : Nat) : Prop where
  err_lec : e.get (F.CAN_ERR_LEC n) = d.get (F.CAN_ERR_LEC n)
  err_tec : e.get (F.CAN_ERR_TEC n) = d.get (F.CAN_ERR_TEC n)
  err_rec : e.get (F.CAN_ERR_REC n) = d.get (F.CAN_ERR_REC n)
  count : ∀ k < 11, e.get (F.CAN_CNT_COUNT n k) = d.get (F.CAN_CNT_COUNT n k)
  mode : ∀ g : Fld, g.addr = R.CAN_MODE n → e.get g = d.get g

theorem Dev.canSetState_keeps (d : Dev) (n : Fin 64) (st : Nat) : d.KeepsCounts (d.canSetState n st) n := by
  have herr : 0x1000000 ≤ R.CAN_ERR n ∧ 0x40 ≤ R.CAN_ERR n % 0x1000 := by unfold R.CAN_ERR; omega
  have hcnt : ∀ k < 11, 0x1000000 ≤ R.CAN_CNT n k ∧ 0x40 ≤ R.CAN_CNT n k % 0x1000 ∧ R.CAN_CNT n k ≠ R.CAN_ERR n := by
    unfold R.CAN_CNT R.CAN_ERR
    omega
  have hmode : 0x1000000 ≤ R.CAN_MODE n ∧ 0x40 ≤ R.CAN_MODE n % 0x1000 ∧ R.CAN_MODE n ≠ R.CAN_ERR n := by
    unfold R.CAN_MODE R.CAN_ERR
    omega
  constructor
  case err_lec => exact d.get_canSetState_other n st herr.1 herr.2 (.inr (.inl (by decide : 0 + 3 ≤ 4)))
  case err_tec => exact d.get_canSetState_other n st herr.1 herr.2 (.inr (.inr (by decide : 4 + 2 ≤ 16)))
  case err_rec => exact d.get_canSetState_other n st herr.1 herr.2 (.inr (.inr (by decide : 4 + 2 ≤ 8)))
  case count => exact fun k hk => d.get_canSetState_other n st (hcnt k hk).1 (hcnt k hk).2.1 (.inl (hcnt k hk).2.2)
  case mode =>
    intro g hg
    exact d.get_canSetState_other n st (hg ▸ hmode.1) (hg ▸ hmode.2.1) (.inl (hg ▸ hmode.2.2))

/-! ### What an error writes (R131) -/

/-- R131: an error is recorded and counted. -/
def Dev.errLogged (d : Dev) (n code : Nat) : Dev := (d.put (F.CAN_ERR_LEC n) code).canCount n 2

/-- ISO 11898-1: TEC after an error. -/
def errTec (kind : CanErrKind) (tec : Nat) : Nat :=
  match kind with
  | .tx8 => min 511 (tec + 8)
  | .txNone | .rx1 | .rx8 => tec

/-- ISO 11898-1: REC after an error. -/
def errRec (kind : CanErrKind) (rec : Nat) : Nat :=
  match kind with
  | .tx8 | .txNone => rec
  | .rx1 => min 255 (rec + 1)
  | .rx8 => min 255 (rec + 8)

/-- R131: an error moves TEC or REC. -/
def Dev.errMoved (d : Dev) (n : Nat) (kind : CanErrKind) : Dev :=
  match kind with
  | .tx8 => d.put (F.CAN_ERR_TEC n) (min 511 (d.get (F.CAN_ERR_TEC n) + 8))
  | .txNone => d
  | .rx1 => d.bumpBy (F.CAN_ERR_REC n) 1
  | .rx8 => d.bumpBy (F.CAN_ERR_REC n) 8

theorem Dev.get_errLogged_other {d : Dev} {n code : Nat} {g : Fld} (hl : (F.CAN_ERR_LEC n).apart g)
    (hc : g.addr ≠ R.CAN_CNT n 2) : (d.errLogged n code).get g = d.get g := by
  rw [Dev.errLogged, Dev.canCount, Dev.get_bump_other _ _ _ hc, d.get_put_apart _ _ _ (by decide : 0 + 3 ≤ 32) hl]

theorem Dev.errLogged_reads (d : Dev) (n : Fin 64) {code : Nat} (h : code < 8) :
    (d.errLogged n code).get (F.CAN_ERR_LEC n) = code ∧
    (d.errLogged n code).get (F.CAN_CNT_COUNT n 2) = min (2 ^ 32 - 1) (d.get (F.CAN_CNT_COUNT n 2) + 1) ∧
    (d.errLogged n code).get (F.CAN_ERR_TEC n) = d.get (F.CAN_ERR_TEC n) ∧
    (d.errLogged n code).get (F.CAN_ERR_REC n) = d.get (F.CAN_ERR_REC n) ∧
    (∀ k, k ≠ 2 → (d.errLogged n code).get (F.CAN_CNT_COUNT n k) = d.get (F.CAN_CNT_COUNT n k)) ∧
    (∀ g : Fld, g.addr = R.CAN_MODE n → (d.errLogged n code).get g = d.get g) ∧
    (d.errLogged n code).chan = d.chan := by
  have hne : ∀ k, R.CAN_CNT n k ≠ R.CAN_ERR n := by
    unfold R.CAN_CNT R.CAN_ERR
    omega
  have hmode : R.CAN_MODE n ≠ R.CAN_ERR n ∧ R.CAN_MODE n ≠ R.CAN_CNT n 2 := by
    unfold R.CAN_MODE R.CAN_ERR R.CAN_CNT
    omega
  refine ⟨?_, ?_, ?_, ?_, fun k hk => ?_, fun g hg => ?_, ?_⟩
  · rw [Dev.errLogged, Dev.canCount, Dev.get_bump_other _ _ _ (hne 2).symm, d.get_put _ _ (by decide : 0 + 3 ≤ 32)]
    exact Nat.mod_eq_of_lt h
  · rw [Dev.errLogged, Dev.canCount, Dev.get_bump _ _ (by decide : 0 + 32 ≤ 32), d.get_put_other _ _ _ (hne 2)]
    rfl
  · exact Dev.get_errLogged_other (.inr (.inr (by decide : 0 + 3 ≤ 16))) (hne 2).symm
  · exact Dev.get_errLogged_other (.inr (.inr (by decide : 0 + 3 ≤ 8))) (hne 2).symm
  · refine Dev.get_errLogged_other (.inl (hne k)) ?_
    simp only [F.CAN_CNT_COUNT, R.CAN_CNT]
    omega
  · exact Dev.get_errLogged_other (.inl (hg ▸ hmode.1)) (hg ▸ hmode.2)
  · rw [Dev.errLogged, Dev.canCount, Dev.bump_chan, Dev.put_chan]

theorem Dev.get_errMoved_other (d : Dev) (n : Nat) (kind : CanErrKind) {g : Fld} (ht : (F.CAN_ERR_TEC n).apart g)
    (hr : (F.CAN_ERR_REC n).apart g) : (d.errMoved n kind).get g = d.get g := by
  have hrec : ∀ x, (d.put (F.CAN_ERR_REC n) x).get g = d.get g := fun x =>
    d.get_put_apart _ _ x (by decide : 8 + 8 ≤ 32) hr
  cases kind with
  | tx8 => exact d.get_put_apart _ _ _ (by decide : 16 + 9 ≤ 32) ht
  | txNone => rfl
  | rx1 => exact hrec _
  | rx8 => exact hrec _

/-- R131: TEC and REC after an error. -/
theorem Dev.errMoved_counters (d : Dev) (n : Nat) (kind : CanErrKind) :
    (d.errMoved n kind).get (F.CAN_ERR_TEC n) = errTec kind (d.get (F.CAN_ERR_TEC n)) ∧
    (d.errMoved n kind).get (F.CAN_ERR_REC n) = errRec kind (d.get (F.CAN_ERR_REC n)) := by
  have htec : ∀ x, (d.put (F.CAN_ERR_REC n) x).get (F.CAN_ERR_TEC n) = d.get (F.CAN_ERR_TEC n) := fun x =>
    d.get_put_beside _ _ x (by decide : 8 + 8 ≤ 32) (.inr (by decide : 8 + 8 ≤ 16))
  cases kind with
  | tx8 =>
    refine ⟨(d.get_put _ _ (by decide : 16 + 9 ≤ 32)).trans (Nat.mod_eq_of_lt (?_ : _ < 512)),
      d.get_put_beside _ _ _ (by decide : 16 + 9 ≤ 32) (.inl (by decide : 8 + 8 ≤ 16))⟩
    omega
  | txNone => exact ⟨rfl, rfl⟩
  | rx1 => exact ⟨htec _, d.get_bumpBy _ 1 (by decide : 8 + 8 ≤ 32)⟩
  | rx8 => exact ⟨htec _, d.get_bumpBy _ 8 (by decide : 8 + 8 ≤ 32)⟩

@[simp] theorem Dev.errMoved_chan (d : Dev) (n : Nat) (kind : CanErrKind) : (d.errMoved n kind).chan = d.chan := by
  cases kind with
  | tx8 => exact d.put_chan _ _
  | txNone => rfl
  | rx1 => exact d.bumpBy_chan _ _
  | rx8 => exact d.bumpBy_chan _ _

/-- R131: the device with an error recorded, counted, and moved into TEC or REC. -/
def Dev.errNoted (d : Dev) (n code : Nat) (kind : CanErrKind) : Dev := (d.errLogged n code).errMoved n kind

theorem Dev.errNoted_reads (d : Dev) (n : Fin 64) {code : Nat} (kind : CanErrKind) (h : code < 8) :
    (d.errNoted n code kind).get (F.CAN_ERR_LEC n) = code ∧
    (d.errNoted n code kind).get (F.CAN_CNT_COUNT n 2) = min (2 ^ 32 - 1) (d.get (F.CAN_CNT_COUNT n 2) + 1) ∧
    (d.errNoted n code kind).get (F.CAN_ERR_TEC n) = errTec kind (d.get (F.CAN_ERR_TEC n)) ∧
    (d.errNoted n code kind).get (F.CAN_ERR_REC n) = errRec kind (d.get (F.CAN_ERR_REC n)) ∧
    (∀ k, k ≠ 2 → (d.errNoted n code kind).get (F.CAN_CNT_COUNT n k) = d.get (F.CAN_CNT_COUNT n k)) ∧
    (∀ g : Fld, g.addr = R.CAN_MODE n → (d.errNoted n code kind).get g = d.get g) ∧
    (d.errNoted n code kind).chan = d.chan := by
  have hcnt : ∀ k, R.CAN_CNT n k ≠ R.CAN_ERR n := by
    unfold R.CAN_CNT R.CAN_ERR
    omega
  have hmode : R.CAN_MODE n ≠ R.CAN_ERR n := by
    unfold R.CAN_MODE R.CAN_ERR
    omega
  obtain ⟨hl, hc, ht, hr, ho, hm, hch⟩ := d.errLogged_reads n h
  obtain ⟨ht', hr'⟩ := (d.errLogged n code).errMoved_counters n kind
  have apart : ∀ g : Fld, g.addr ≠ R.CAN_ERR n → (d.errNoted n code kind).get g = (d.errLogged n code).get g :=
    fun g hg => Dev.get_errMoved_other _ _ _ (.inl hg) (.inl hg)
  refine ⟨?_, (apart _ (hcnt 2)).trans hc, ht'.trans (by rw [ht]), hr'.trans (by rw [hr]),
    fun k hk => (apart _ (hcnt k)).trans (ho k hk), fun g hg => (apart g (hg ▸ hmode)).trans (hm g hg), ?_⟩
  · exact (Dev.get_errMoved_other _ _ _ (.inr (.inl (by decide : 0 + 3 ≤ 16))) (.inr (.inl (by decide : 0 + 3 ≤ 8)))).trans hl
  · rw [Dev.errNoted, Dev.errMoved_chan, hch]

/-! ### CAN_BUS_ERROR (R131, R370) -/

section
variable {code : Nat} {kind : CanErrKind} {xl : Bool}

/-- R131: a controller that takes no part sees no error. -/
theorem Dev.canBusError_absent (h : d.canActive n = false) : d.canBusError n code kind xl = d := by
  unfold Dev.canBusError
  rw [if_pos (by rw [h]; rfl)]

theorem Dev.get_test_errLogged : (d.errLogged n code).get (F.CAN_MODE_TEST n) = d.get (F.CAN_MODE_TEST n) := by
  refine Dev.get_errLogged_other (.inl ?_) ?_ <;>
  · simp only [F.CAN_MODE_TEST, F.CAN_ERR_LEC, R.CAN_MODE, R.CAN_ERR, R.CAN_CNT]
    omega

/-- R129: in bus monitoring an error is recorded and counted, and nothing else. -/
theorem Dev.canBusError_monitors (h : d.canActive n = true) (ht : d.get (F.CAN_MODE_TEST n) = 1) :
    d.canBusError n code kind xl = d.errLogged n code := by
  unfold Dev.canBusError
  rw [if_neg (by simp [h])]
  exact if_pos (Dev.get_test_errLogged.trans ht)

/-- R131, R370: where an error moves no counter the controller integrates anew. -/
def Dev.errAbandons (d : Dev) (n : Nat) (xl : Bool) : Bool :=
  d.flag (F.CAN_MODE_RESTRICTED n) || (xl && d.flag (F.CAN_MODE_TMS_EN n))

theorem Dev.errAbandons_errLogged : (d.errLogged n code).errAbandons n xl = d.errAbandons n xl := by
  have hmode : ∀ g : Fld, g.addr = R.CAN_MODE n → (d.errLogged n code).flag g = d.flag g := fun g hg => by
    rw [Dev.flag, Dev.flag, Dev.get_errLogged_other (.inl ?_) ?_] <;>
    · simp only [hg, F.CAN_ERR_LEC, R.CAN_MODE, R.CAN_ERR, R.CAN_CNT]
      omega
  rw [Dev.errAbandons, Dev.errAbandons, hmode _ rfl, hmode _ rfl]

theorem Dev.canBusError_abandons (h : d.canActive n = true) (ht : d.get (F.CAN_MODE_TEST n) ≠ 1)
    (ho : d.errAbandons n xl = true) :
    d.canBusError n code kind xl = (d.errLogged n code).canAbandon n (errSending kind) := by
  unfold Dev.canBusError
  rw [if_neg (by simp [h])]
  dsimp only
  rw [← Dev.errLogged, if_neg (by rwa [Dev.get_test_errLogged]), ← Dev.errAbandons, Dev.errAbandons_errLogged, if_pos ho]

theorem Dev.canBusError_counts (h : d.canActive n = true) (ht : d.get (F.CAN_MODE_TEST n) ≠ 1)
    (ho : d.errAbandons n xl = false) : d.canBusError n code kind xl =
      if 255 < (d.errNoted n code kind).get (F.CAN_ERR_TEC n) then (d.errNoted n code kind).canBusOff n
      else (d.errNoted n code kind).canSetState n ((d.errNoted n code kind).canErrState n) := by
  unfold Dev.canBusError
  rw [if_neg (by simp [h])]
  dsimp only
  rw [← Dev.errLogged, if_neg (by rwa [Dev.get_test_errLogged]), ← Dev.errAbandons, Dev.errAbandons_errLogged,
    if_neg (by simp [ho])]
  cases kind <;> rfl

/-- R251: with DAR an error that ends a ring message's attempt takes it from the assist's buffer; nothing else. -/
theorem Dev.canErrs_eq (d : Dev) (n : Fin 64) (code : Nat) (kind : CanErrKind) (xl : Bool) :
    ∃ clr, d.canErrs n code kind xl = { d.canBusError n code kind xl with clr } := by
  unfold Dev.canErrs
  dsimp only
  split
  · exact ⟨_, rfl⟩
  · exact ⟨_, rfl⟩

@[simp] theorem Dev.canErrs_chan : (d.canErrs n code kind xl).chan = (d.canBusError n code kind xl).chan := by
  obtain ⟨_, e⟩ := d.canErrs_eq n code kind xl
  rw [e]

@[simp] theorem Dev.get_canErrs (g : Fld) : (d.canErrs n code kind xl).get g = (d.canBusError n code kind xl).get g := by
  obtain ⟨_, e⟩ := d.canErrs_eq n code kind xl
  rw [e]
  rfl

/-- A controller that still takes part is not interrupted: its ring message is repeated. -/
theorem Dev.canErrs_active (h : (d.canBusError n code kind xl).canActive n = true ∨ d.canActive n = false) :
    d.canErrs n code kind xl = d.canBusError n code kind xl := by
  unfold Dev.canErrs
  dsimp only
  rw [if_neg]
  rcases h with h | h <;> simp [h]

theorem exec_canBusError {s : State} {c : Fin 6} : exec (.canBusError n c kind xl) s =
    .next (s.ends (s.dev.canErrs n (c + 1) kind xl)) := act_eq_ends s (fun d => d.canErrs n (c + 1) kind xl)

end

/-! ### What a head that stays, and one that goes, leave (R142) -/

/-- R142: a head that is not flushed stays. -/
theorem Dev.dropFlushed_of_unflushed (h : (d.chanSt n).head.all (fun h => !h.flushed) = true) : d.dropFlushed n = d := by
  unfold Dev.dropFlushed
  cases hh : (d.chanSt n).head with
  | none => rfl
  | some x =>
    rw [hh, Option.all_some, Bool.not_eq_true'] at h
    exact if_neg (by simp [h])

theorem Dev.fsSetFill_chan (d : Dev) (q : FifoId) (k : Nat) : (d.fsSetFill q k).chan = d.chan := by
  unfold Dev.fsSetFill
  dsimp only
  rw [Dev.putFlag_chan, Dev.putFlag_chan, Dev.put_chan]

theorem Dev.word_fsSetFill (d : Dev) (q : FifoId) (k : Nat) {a : Nat} (h : a ≠ fifoStat q) :
    (d.fsSetFill q k).word a = d.word a := by
  simp only [Dev.fsSetFill, Dev.putFlag]
  iterate 3 rw [Dev.word_put_other]
  all_goals exact h

/-- R137: freed items leave their FIFO; of the registers FS_STAT or LQ_STAT alone changes. -/
theorem Dev.fsFree_chan (d : Dev) (q : FifoId) (k : Nat) : (d.fsFree q k).chan = (d.fsDrop q k).chan := by
  unfold Dev.fsFree
  dsimp only
  rw [Dev.fsSetFill_chan]
  split
  · split
    · rw [Dev.put_chan, Dev.put_chan, Dev.put_chan]
    · rw [Dev.put_chan, Dev.put_chan]
  · rw [Dev.put_chan]

theorem Dev.word_fsFree (d : Dev) (q : FifoId) (k : Nat) {a : Nat} (h : a ≠ fifoStat q) :
    (d.fsFree q k).word a = (d.fsDrop q k).word a := by
  have put := fun (e : Dev) (f : Fld) (v : Nat) (hf : f.addr = fifoStat q) => e.word_put_other f v a (hf ▸ h)
  unfold Dev.fsFree
  dsimp only
  rw [Dev.word_fsSetFill _ _ _ h]
  split
  · split
    · rw [put _ (fsMark q) _ rfl, put _ (fsMarkValid q) _ rfl, put _ (fsRpos q) _ rfl]
    · rw [put _ (fsMark q) _ rfl, put _ (fsRpos q) _ rfl]
  · rw [put _ (fsRpos q) _ rfl]

theorem Dev.fsDrop_tx (d : Dev) (c : Fin 80) (k : Nat) :
    d.fsDrop (.chan c 2) k = d.modChan c (fun s => { s with tx := s.tx.drop k }) := rfl

/-- R142: the only item of a transmit FIFO leaves it, and with it the head. -/
theorem Dev.txFree_only {c : Fin 80} {it : FsItem} (h : (d.chanSt c).tx = [it]) :
    ((d.txFree c).chanSt c).tx = [] ∧ ((d.txFree c).chanSt c).head = none ∧
    ∀ a, a ≠ R.FS_STAT c 2 → 0x40 ≤ a % 0x1000 → (d.txFree c).word a = d.word a := by
  have hst : (d.fsFree (.chan c 2) 1).chanSt c = { d.chanSt c with tx := [] } := by
    rw [Dev.chanSt_of_chan (d.fsFree_chan _ _), Dev.fsDrop_tx, Dev.chanSt_modChan_same, h, List.drop_one, List.tail_cons]
  have hhead : ((d.fsFree (.chan c 2) 1).modChan c (fun s => { s with head := none })).chanSt c =
      { d.chanSt c with tx := [], head := none } := by rw [Dev.chanSt_modChan_same, hst]
  unfold Dev.txFree
  dsimp only
  rw [if_pos (by rw [hhead]), Dev.chanSt_of_chan (Dev.raise_chan _ _ _), hhead]
  refine ⟨rfl, rfl, fun a ha hb => ?_⟩
  rw [Dev.word_raise_of_body _ _ _ hb, Dev.modChan_word, d.word_fsFree _ _ ha, Dev.fsDrop_tx, Dev.modChan_word]

/-- R142: where no item waits none becomes the head. -/
theorem Dev.txNext_empty {c : Fin 80} (h : (d.chanSt c).tx = []) : d.txNext c = d := by
  simp [Dev.txNext, Dev.txTake, h]

end

end Sys2Proof.Machine
end

section
/-! CAN bus errors that move the counters, lead to bus-off or abandon a frame; recovery; writes to a CAN page (R131, R133,
R142, R370). -/

namespace Sys2Proof.Machine
open Sys2Proof

section
variable {d : Dev} {n : Fin 64}

/-! ### Counted errors (R131) -/

theorem errTec_tx8 (tec : Nat) : errTec .tx8 tec = min 511 (tec + 8) := rfl

/-- R131: an error that does not lead to bus-off leaves error active or error passive by the counters. -/
theorem Dev.canBusError_confines {code : Nat} {kind : CanErrKind} {xl : Bool} (h : d.canActive n = true)
    (ht : d.get (F.CAN_MODE_TEST n) ≠ 1) (ho : d.errAbandons n xl = false) (hc : code < 8)
    (hoff : errTec kind (d.get (F.CAN_ERR_TEC n)) ≤ 255) :
    (d.canBusError n code kind xl).get (F.CAN_ERR_LEC n) = code ∧
    (d.canBusError n code kind xl).get (F.CAN_ERR_TEC n) = errTec kind (d.get (F.CAN_ERR_TEC n)) ∧
    (d.canBusError n code kind xl).get (F.CAN_ERR_REC n) = errRec kind (d.get (F.CAN_ERR_REC n)) ∧
    (d.canBusError n code kind xl).get (F.CAN_CNT_COUNT n 2) = min (2 ^ 32 - 1) (d.get (F.CAN_CNT_COUNT n 2) + 1) ∧
    (d.canBusError n code kind xl).get (F.CAN_ERR_STATE n) =
      (if 127 < errTec kind (d.get (F.CAN_ERR_TEC n)) ∨ 127 < errRec kind (d.get (F.CAN_ERR_REC n)) then 1 else 0) ∧
    (d.canBusError n code kind xl).chan = d.chan := by
  obtain ⟨hlec, hcnt, htec, hrec, -, -, hchan⟩ := d.errNoted_reads n kind hc
  have hst : (d.errNoted n code kind).canErrState n < 4 := by
    unfold Dev.canErrState
    split <;> decide
  have hk := (d.errNoted n code kind).canSetState_keeps n ((d.errNoted n code kind).canErrState n)
  rw [Dev.canBusError_counts h ht ho, if_neg (by rw [htec]; omega)]
  refine ⟨hk.err_lec.trans hlec, hk.err_tec.trans htec, hk.err_rec.trans hrec, (hk.count 2 (by decide)).trans hcnt, ?_,
    (Dev.canSetState_chan _ _ _).trans hchan⟩
  rw [Dev.get_state_canSetState _ _ hst, Dev.canErrState, htec, hrec]

theorem Dev.canBusError_leaves {code : Nat} {xl : Bool} (h : d.canActive n = true) (ht : d.get (F.CAN_MODE_TEST n) ≠ 1)
    (ho : d.errAbandons n xl = false) (hc : code < 8) (hoff : 255 < d.get (F.CAN_ERR_TEC n) + 8) :
    d.canBusError n code .tx8 xl = (d.errNoted n code .tx8).canBusOff n := by
  obtain ⟨-, -, htec, -⟩ := d.errNoted_reads n .tx8 hc
  rw [Dev.canBusError_counts h ht ho, if_pos]
  rw [htec, errTec_tx8]
  omega

/-! ### Bus-off (R131) -/

/-- R131: the entry to bus-off is counted and shown. -/
def Dev.busOffShown (d : Dev) (n : Nat) : Dev := (d.canCount n 3).canSetState n 2

theorem Dev.busOffShown_reads (d : Dev) (n : Fin 64) :
    (d.busOffShown n).get (F.CAN_ERR_STATE n) = 2 ∧
    (d.busOffShown n).get (F.CAN_ERR_LEC n) = d.get (F.CAN_ERR_LEC n) ∧
    (d.busOffShown n).get (F.CAN_ERR_TEC n) = d.get (F.CAN_ERR_TEC n) ∧
    (d.busOffShown n).get (F.CAN_CNT_COUNT n 3) = min (2 ^ 32 - 1) (d.get (F.CAN_CNT_COUNT n 3) + 1) ∧
    (d.busOffShown n).get (F.CAN_CNT_COUNT n 9) = d.get (F.CAN_CNT_COUNT n 9) ∧
    (∀ g : Fld, g.addr = R.CAN_MODE n → (d.busOffShown n).get g = d.get g) ∧
    (d.busOffShown n).chan = d.chan := by
  have hk := (d.canCount n 3).canSetState_keeps n 2
  have hne : R.CAN_ERR n ≠ R.CAN_CNT n 3 ∧ R.CAN_CNT n 9 ≠ R.CAN_CNT n 3 ∧ R.CAN_MODE n ≠ R.CAN_CNT n 3 := by
    unfold R.CAN_ERR R.CAN_CNT R.CAN_MODE
    omega
  obtain ⟨herr, hcnt, hmode⟩ := hne
  have hbump : ∀ g : Fld, g.addr ≠ R.CAN_CNT n 3 → (d.canCount n 3).get g = d.get g := fun g hg => d.get_bump_other _ g hg
  refine ⟨Dev.get_state_canSetState _ _ (by decide), hk.err_lec.trans (hbump _ herr), hk.err_tec.trans (hbump _ herr),
    (hk.count 3 (by decide)).trans (d.get_bump _ (by decide : 0 + 32 ≤ 32)), (hk.count 9 (by decide)).trans (hbump _ hcnt),
    fun g hg => (hk.mode g hg).trans (hbump g (hg ▸ hmode)), ?_⟩
  rw [Dev.busOffShown, Dev.canSetState_chan, Dev.canCount, Dev.bump_chan]

/-- R131: entry to bus-off with AUTO_RECOVER begins the recovery. -/
def Dev.busOffEntered (d : Dev) (n : Nat) : Dev :=
  if (d.busOffShown n).flag (F.CAN_MODE_AUTO_RECOVER n) then
    (d.busOffShown n).modChan n (fun s => { s with recovering := true })
  else d.busOffShown n

theorem Dev.busOffEntered_word (d : Dev) (n a : Nat) : (d.busOffEntered n).word a = (d.busOffShown n).word a := by
  unfold Dev.busOffEntered
  split
  · rw [Dev.modChan_word]
  · rfl

theorem Dev.busOffEntered_chanSt (d : Dev) (n : Fin 64) : (d.busOffEntered n).chanSt n =
    { d.chanSt n with recovering := d.flag (F.CAN_MODE_AUTO_RECOVER n) || (d.chanSt n).recovering } := by
  obtain ⟨-, -, -, -, -, hmode, hchan⟩ := d.busOffShown_reads n
  unfold Dev.busOffEntered
  rw [Dev.flag, hmode _ rfl, ← Dev.flag]
  cases d.flag (F.CAN_MODE_AUTO_RECOVER n) with
  | true => rw [if_pos rfl, Dev.chanSt_modChan_same, Dev.chanSt_of_chan hchan, Bool.true_or]
  | false => rw [if_neg Bool.false_ne_true, Dev.chanSt_of_chan hchan, Bool.false_or]

theorem Dev.canBusOff_eq (h : (d.chanSt n).head.all (fun h => !h.flushed) = true) : d.canBusOff n =
    if d.flag (F.CAN_MODE_DAR n) && (d.chanSt n).head.isSome then
      (((d.busOffEntered n).txFree (canC n)).canCount n 9).txNext (canC n)
    else d.busOffEntered n := by
  obtain ⟨-, -, -, -, -, hmode, hchan⟩ := d.busOffShown_reads n
  have hdar : (d.busOffEntered n).flag (F.CAN_MODE_DAR n) = d.flag (F.CAN_MODE_DAR n) := by
    rw [Dev.flag_of_word (d.busOffEntered_word n _), Dev.flag, hmode _ rfl, Dev.flag]
  unfold Dev.canBusOff
  dsimp only
  rw [← Dev.busOffShown, Dev.dropFlushed_of_unflushed (by rwa [Dev.chanSt_of_chan hchan]), ← Dev.busOffEntered, hdar,
    d.busOffEntered_chanSt n]

/-- R131, R142: with DAR the frame at the head, the only item, is discarded and counted. -/
theorem Dev.canBusOff_discards {it : FsItem} (hdar : d.flag (F.CAN_MODE_DAR n) = true)
    (hhead : (d.chanSt n).head.any (fun h => !h.flushed) = true) (htx : (d.chanSt n).tx = [it]) :
    (d.canBusOff n).get (F.CAN_ERR_STATE n) = 2 ∧ ((d.canBusOff n).chanSt n).tx = [] ∧
    ((d.canBusOff n).chanSt n).head = none ∧
    (d.canBusOff n).get (F.CAN_CNT_COUNT n 9) = min (2 ^ 32 - 1) (d.get (F.CAN_CNT_COUNT n 9) + 1) := by
  obtain ⟨x, hx⟩ : ∃ x, (d.chanSt n).head = some x := by
    cases h : (d.chanSt n).head with
    | none => simp [h] at hhead
    | some x => exact ⟨x, rfl⟩
  have hkept : (d.chanSt n).head.all (fun h => !h.flushed) = true := by simpa [hx] using hhead
  obtain ⟨hstate, -, -, -, hcnt, -, -⟩ := d.busOffShown_reads n
  obtain ⟨htx', hhead', hword⟩ := Dev.txFree_only (d := d.busOffEntered n) (c := canC n) (it := it) (by
    rw [canC_val, d.busOffEntered_chanSt n, htx])
  have haddr : R.CAN_ERR n ≠ R.FS_STAT n 2 ∧ 0x40 ≤ R.CAN_ERR n % 0x1000 ∧ R.CAN_CNT n 9 ≠ R.FS_STAT n 2 ∧
      0x40 ≤ R.CAN_CNT n 9 % 0x1000 ∧ R.CAN_ERR n ≠ R.CAN_CNT n 9 := by
    unfold R.CAN_ERR R.CAN_CNT R.FS_STAT
    omega
  obtain ⟨herr, herrBody, hcount, hcountBody, hne⟩ := haddr
  rw [Dev.canBusOff_eq hkept, hdar, hx, Option.isSome_some, Bool.and_self, if_pos rfl,
    Dev.txNext_empty (by rwa [Dev.canCount, Dev.chanSt_bump]), Dev.canCount,
    Dev.chanSt_bump]
  refine ⟨?_, htx', hhead', ?_⟩
  · rw [Dev.get_bump_other _ _ _ hne, Dev.get_of_word (hword _ herr herrBody), Dev.get_of_word (d.busOffEntered_word n _),
      hstate]
  · rw [Dev.get_bump _ _ (by decide : 0 + 32 ≤ 32), Dev.get_of_word (hword _ hcount hcountBody),
      Dev.get_of_word (d.busOffEntered_word n _), hcnt]
    rfl

/-! ### Abandoned frames (R129, R370) -/

theorem Dev.canActive_errLogged {code : Nat} : (d.errLogged n code).canActive n = d.canActive n := by
  have haddr : R.CTRL (pageBase (.can n)) ≠ R.CAN_ERR n ∧ R.CTRL (pageBase (.can n)) ≠ R.CAN_CNT n 2 ∧
      R.PC_GRP_STAT ≠ R.CAN_ERR n ∧ R.PC_GRP_STAT ≠ R.CAN_CNT n 2 ∧ R.CAN_ERR n ≠ R.CAN_CNT n 2 := by
    simp only [R.CTRL, R.CAN_ERR, R.CAN_CNT, R.PC_GRP_STAT, pageBase]
    omega
  obtain ⟨hctrl, hctrl', hgrp, hgrp', hcnt⟩ := haddr
  have hen : (d.errLogged n code).enabled (.can n) = d.enabled (.can n) := by
    rw [Dev.enabled, Dev.enabled, Dev.flag, Dev.flag, Dev.get_errLogged_other (.inl hctrl) hctrl']
  have hst : (d.errLogged n code).get (F.CAN_ERR_STATE n) = d.get (F.CAN_ERR_STATE n) :=
    Dev.get_errLogged_other (.inr (.inr (by decide : 0 + 3 ≤ 4))) hcnt
  have hdr : (d.errLogged n code).chanDrives n = d.chanDrives n := by
    rw [Dev.chanDrives, Dev.chanDrives, Dev.groupState, Dev.groupState, Dev.get_errLogged_other (.inl hgrp) hgrp']
  rw [Dev.canActive, Dev.canActive, hen, hst, hdr]

theorem Dev.chanSt_errLogged {code : Nat} (k : Nat) : (d.errLogged n code).chanSt k = d.chanSt k := by
  rw [Dev.errLogged, Dev.canCount, Dev.chanSt_bump, Dev.chanSt_put]

theorem Dev.txEligible_errLogged {code : Nat} : (d.errLogged n code).txEligible n = d.txEligible n := by
  rw [Dev.txEligible, Dev.txEligible, Dev.chanSt_errLogged, Dev.canActive_errLogged, Dev.get_test_errLogged]

/-- R142: a frame that may be on the bus is at the head of an active controller. -/
theorem Dev.head_active_of_txEligible (h : d.txEligible n = true) :
    (∃ x, (d.chanSt n).head = some x) ∧ d.canActive n = true := by
  unfold Dev.txEligible at h
  cases hh : (d.chanSt n).head with
  | none => simp [hh] at h
  | some x =>
    simp only [hh, Bool.and_eq_true] at h
    exact ⟨⟨x, rfl⟩, h.1.1.1⟩

theorem Dev.canNotSent_eq {x : TxHead} (h : (d.chanSt n).head = some x) : d.canNotSent n =
    if x.flushed then ((d.txFree (canC n)).canCount n 10).txNext (canC n)
    else if d.flag (F.CAN_MODE_DAR n) then (d.txFree (canC n)).txNext (canC n) else d := by
  unfold Dev.canNotSent
  dsimp only
  rw [canC_val, h]

theorem Dev.canNotSent_idle (h : (d.chanSt n).head = none) : d.canNotSent n = d := by
  unfold Dev.canNotSent
  dsimp only
  rw [canC_val, h]

theorem Dev.canNotSent_kept (hdar : d.flag (F.CAN_MODE_DAR n) = false)
    (h : (d.chanSt n).head.all (fun h => !h.flushed) = true) : d.canNotSent n = d := by
  cases hh : (d.chanSt n).head with
  | none => exact Dev.canNotSent_idle hh
  | some x =>
    rw [hh, Option.all_some, Bool.not_eq_true'] at h
    rw [Dev.canNotSent_eq hh, if_neg (by simp [h]), if_neg (by simp [hdar])]

/-- R142: with DAR an attempt without success takes the head, the only item, from the FIFO. -/
theorem Dev.canNotSent_only {x : TxHead} {it : FsItem} (hh : (d.chanSt n).head = some x)
    (hdar : d.flag (F.CAN_MODE_DAR n) = true) (htx : (d.chanSt n).tx = [it]) :
    ((d.canNotSent n).chanSt n).tx = [] ∧ ((d.canNotSent n).chanSt n).head = none ∧
    (d.canNotSent n).word (R.CAN_ERR n) = d.word (R.CAN_ERR n) := by
  obtain ⟨htx', hhead', hword⟩ := Dev.txFree_only (c := canC n) htx
  have haddr : R.CAN_ERR n ≠ R.FS_STAT n 2 ∧ 0x40 ≤ R.CAN_ERR n % 0x1000 ∧ R.CAN_ERR n ≠ R.CAN_CNT n 10 := by
    unfold R.CAN_ERR R.CAN_CNT R.FS_STAT
    omega
  obtain ⟨hfs, hbody, hcnt⟩ := haddr
  have herr := hword _ hfs hbody
  rw [Dev.canNotSent_eq hh]
  split
  · rw [Dev.txNext_empty (by rwa [Dev.canCount, Dev.chanSt_bump]), Dev.canCount, Dev.chanSt_bump,
      Dev.word_bump_other _ _ _ hcnt]
    exact ⟨htx', hhead', herr⟩
  · rw [Dev.txNext_empty htx']
    exact ⟨htx', hhead', herr⟩

/-- R131: of a controller without DAR whose head is not flushed the frame stays. -/
theorem Dev.canAbandon_kept {sending : Bool} (hdar : d.flag (F.CAN_MODE_DAR n) = false)
    (h : (d.chanSt n).head.all (fun h => !h.flushed) = true) : d.canAbandon n sending = d.canSetState n 3 := by
  have hsent : (if sending && d.txEligible n then d.canNotSent n else d) = d := by
    rw [Dev.canNotSent_kept hdar h, ite_self]
  unfold Dev.canAbandon
  dsimp only
  rw [hsent, Dev.dropFlushed_of_unflushed (by rwa [Dev.chanSt_of_chan (d.canSetState_chan _ _)])]

theorem Dev.canAbandon_only {it : FsItem} (he : d.txEligible n = true) (hdar : d.flag (F.CAN_MODE_DAR n) = true)
    (htx : (d.chanSt n).tx = [it]) :
    (d.canAbandon n true).get (F.CAN_ERR_STATE n) = 3 ∧ ((d.canAbandon n true).chanSt n).tx = [] ∧
    ((d.canAbandon n true).chanSt n).head = none ∧
    (d.canAbandon n true).get (F.CAN_ERR_TEC n) = d.get (F.CAN_ERR_TEC n) := by
  obtain ⟨⟨x, hx⟩, -⟩ := Dev.head_active_of_txEligible he
  obtain ⟨htx', hhead', herr⟩ := Dev.canNotSent_only hx hdar htx
  have hst : ((d.canNotSent n).canSetState n 3).chanSt n = (d.canNotSent n).chanSt n :=
    Dev.chanSt_of_chan (Dev.canSetState_chan _ _ _) _
  have heq : d.canAbandon n true = (d.canNotSent n).canSetState n 3 := by
    unfold Dev.canAbandon
    dsimp only
    rw [he, Bool.and_self, if_pos rfl, Dev.dropFlushed_of_unflushed (by rw [hst, hhead']; rfl)]
  rw [heq, hst]
  exact ⟨Dev.get_state_canSetState _ _ (by decide), htx', hhead',
    ((d.canNotSent n).canSetState_keeps n 3).err_tec.trans (Dev.get_of_word herr)⟩

/-! ### The end of a recovery (R131) -/

theorem Dev.canRecovered_none (h : d.get (F.CAN_ERR_STATE n) ≠ 2 ∨ (d.chanSt n).recovering = false) :
    d.canRecovered n = d := by
  unfold Dev.canRecovered
  rw [if_neg (by rcases h with h | h <;> simp [h])]

/-- R131: a completed recovery zeroes both counters and RECOVER. -/
def Dev.countersCleared (d : Dev) (n : Nat) : Dev :=
  ((d.put (F.CAN_ERR_TEC n) 0).put (F.CAN_ERR_REC n) 0).put (F.CAN_CMD_RECOVER n) 0

theorem Dev.countersCleared_reads (d : Dev) (n : Nat) :
    (d.countersCleared n).get (F.CAN_ERR_TEC n) = 0 ∧ (d.countersCleared n).get (F.CAN_ERR_REC n) = 0 ∧
    (d.countersCleared n).get (F.CAN_CMD_RECOVER n) = 0 ∧ (d.countersCleared n).chan = d.chan := by
  have hne : R.CAN_ERR n ≠ R.CAN_CMD n := by
    unfold R.CAN_ERR R.CAN_CMD
    omega
  refine ⟨?_, ?_, ?_, ?_⟩
  · rw [Dev.countersCleared, Dev.get_put_other _ _ _ _ hne,
      Dev.get_put_beside _ _ _ _ (by decide : 8 + 8 ≤ 32) (.inr (by decide : 8 + 8 ≤ 16)),
      Dev.get_put _ _ _ (by decide : 16 + 9 ≤ 32), Nat.zero_mod]
  · rw [Dev.countersCleared, Dev.get_put_other _ _ _ _ hne, Dev.get_put _ _ _ (by decide : 8 + 8 ≤ 32), Nat.zero_mod]
  · rw [Dev.countersCleared, Dev.get_put _ _ _ (by decide : 0 + 1 ≤ 32), Nat.zero_mod]
  · rw [Dev.countersCleared, Dev.put_chan, Dev.put_chan, Dev.put_chan]

theorem Dev.canRecovered_eq (h : d.get (F.CAN_ERR_STATE n) = 2) (hr : (d.chanSt n).recovering = true) :
    d.canRecovered n = ((d.countersCleared n).modChan n (fun s => { s with recovering := false })).canSetState n 0 := by
  unfold Dev.canRecovered
  exact if_pos ⟨h, hr⟩

theorem Dev.canRecovered_reads (h : d.get (F.CAN_ERR_STATE n) = 2) (hr : (d.chanSt n).recovering = true) :
    (d.canRecovered n).get (F.CAN_ERR_STATE n) = 0 ∧ (d.canRecovered n).get (F.CAN_ERR_TEC n) = 0 ∧
    (d.canRecovered n).get (F.CAN_ERR_REC n) = 0 ∧ (d.canRecovered n).get (F.CAN_CMD_RECOVER n) = 0 ∧
    (d.canRecovered n).chanSt n = { d.chanSt n with recovering := false } ∧
    ∀ k, k ≠ n.val → (d.canRecovered n).chanSt k = d.chanSt k := by
  have hcmdAddr : 0x1000000 ≤ R.CAN_CMD n ∧ 0x40 ≤ R.CAN_CMD n % 0x1000 ∧ R.CAN_CMD n ≠ R.CAN_ERR n := by
    unfold R.CAN_CMD R.CAN_ERR
    omega
  obtain ⟨hregs, hbody, hne⟩ := hcmdAddr
  obtain ⟨htec, hrec, hcmd, hchan⟩ := d.countersCleared_reads n
  have hk := ((d.countersCleared n).modChan n (fun s => { s with recovering := false })).canSetState_keeps n 0
  rw [Dev.canRecovered_eq h hr]
  refine ⟨Dev.get_state_canSetState _ _ (by decide), hk.err_tec.trans ?_, hk.err_rec.trans ?_, ?_, ?_, fun k hkn => ?_⟩
  · rw [Dev.modChan_get, htec]
  · rw [Dev.modChan_get, hrec]
  · rw [Dev.get_canSetState_other _ _ _ hregs hbody (.inl hne), Dev.modChan_get, hcmd]
  · rw [Dev.chanSt_of_chan (Dev.canSetState_chan _ _ _), Dev.chanSt_modChan_same, Dev.chanSt_of_chan hchan]
  · rw [Dev.chanSt_of_chan (Dev.canSetState_chan _ _ _), Dev.chanSt_modChan_other _ _ hkn, Dev.chanSt_of_chan hchan]

/-! ### Writes to a CAN page (R131, R133) -/

/-- R19: a write to the body of a CAN page goes to its registers. -/
theorem Dev.pageWrite_can (d : Dev) (ident : List Byte) (i : Init) (n : Fin 64) (v : Word) {off : Nat} (hl : 0x40 ≤ off)
    (hh : off < 0x1000) : d.pageWrite ident i (.can n) (pageBase (.can n) + off) v = d.canWrite n i off v := by
  have hoff : (pageBase (.can n) + off) % 0x1000 = off := by
    have := pageBase_mod (.can n)
    omega
  unfold Dev.pageWrite
  dsimp only
  rw [hoff, if_neg (by omega), dif_pos n.isLt]

theorem pageExists_can (n : Fin 64) : pageExists (.can n) = true := decide_eq_true n.isLt

theorem pageBase_can_ne_tcmd (n : Fin 64) {off : Nat} : pageBase (.can n) + off ≠ R.GV_TCMD := by
  simp only [pageBase, R.GV_TCMD]
  omega

/-- R131: RECOVER is taken in bus-off without AUTO_RECOVER. -/
theorem Dev.canWrite_recover (d : Dev) (n : Fin 64) (i : Init) : d.canWrite n i 0x5C 1 =
    .ok (if d.get (F.CAN_ERR_STATE n) = 2 ∧ !d.flag (F.CAN_MODE_AUTO_RECOVER n) then
      (d.put (F.CAN_CMD_RECOVER n) 1).modChan n (fun s => { s with recovering := true }) else d) := by
  have h1 : newField 1 (F.CAN_CMD_RECOVER n) = 1 := (by decide : wordBits 1 0 1 = 1)
  unfold Dev.canWrite
  dsimp only
  rw [if_neg (by decide), if_neg (by decide), if_neg (by decide), if_pos rfl]
  simp only [h1, true_and]

/-- R133: a word of the window is refused where the window is closed. -/
theorem Dev.canWrite_window (d : Dev) (n : Fin 64) (i : Init) (w : Fin 512) (v : Word) :
    d.canWrite n i (0x800 + 4 * w) v =
    refuseIf (d.windowClosed n (d.get (F.CAN_MR_BANK_BANK n) * 2048 + 4 * w)) 0x0112
      (.ok (d.ramWrite n (d.get (F.CAN_MR_BANK_BANK n) * 2048 + 4 * w) (leBytes 4 v.toNat))) := by
  unfold Dev.canWrite
  dsimp only
  rw [if_pos (by omega), Dev.canWindowWrite, Nat.add_sub_cancel_left]

section
variable {s : State} {i : Init}

theorem exec_canRecover : exec (.canRecover i n) s = .next (s.ends (s.dev.anyRow (idBlock s.id) i (R.CAN_CMD n) 1)) :=
  act_eq_ends s (fun d => d.anyRow (idBlock s.id) i (R.CAN_CMD n) 1)

theorem exec_canRecover_taken (hr : s.dev.reaches i (R.CAN_CMD n) = some d) (hl : d.lockedWrite (R.CAN_CMD n) 1 = false) :
    exec (.canRecover i n) s = .next (s.ends (if d.get (F.CAN_ERR_STATE n) = 2 ∧ !d.flag (F.CAN_MODE_AUTO_RECOVER n) then
      (d.put (F.CAN_CMD_RECOVER n) 1).modChan n (fun s => { s with recovering := true }) else d)) := by
  have ha : R.CAN_CMD n = pageBase (.can n) + 0x5C := by
    simp only [R.CAN_CMD, pageBase]
    omega
  rw [exec_canRecover, Dev.anyRow_page _ d _ _ i _ 1 (.can n) 0x5C (pageExists_can n) (by decide) ha
    (ha ▸ pageBase_can_ne_tcmd n) hr hl]
  rw [ha, Dev.pageWrite_can _ _ _ _ _ (by decide) (by decide), Dev.canWrite_recover]

theorem exec_canRecoveryDone : exec (.canRecoveryDone n) s = .next (s.ends (s.dev.canRecovered n)) :=
  act_eq_ends s (fun d => d.canRecovered n)

theorem exec_canWindowWrite {w : Fin 512} {v : Word} : exec (.canWindowWrite i n w v) s =
    .next (s.ends (s.dev.anyRow (idBlock s.id) i (pageBase (.can n) + 0x800 + 4 * w) v)) :=
  act_eq_ends s (fun d => d.anyRow (idBlock s.id) i (pageBase (.can n) + 0x800 + 4 * w) v)

end

end

theorem Dev.errAbandons_false {d : Dev} {n : Nat} (h : d.flag (F.CAN_MODE_RESTRICTED n) = false) :
    d.errAbandons n false = false := by
  rw [Dev.errAbandons, h, Bool.false_and, Bool.or_self]

theorem Dev.errAbandons_true {d : Dev} {n : Nat} {xl : Bool}
    (h : d.flag (F.CAN_MODE_RESTRICTED n) = true ∨ xl = true ∧ d.flag (F.CAN_MODE_TMS_EN n) = true) :
    d.errAbandons n xl = true := by
  rwa [Dev.errAbandons, Bool.or_eq_true, Bool.and_eq_true]

/-- Settles O21: each row by the lemmas above; an error that counts stays on the bus by `Dev.canBusError_confines` or
leaves it by `Dev.canBusOff_eq`, and one that does not count abandons its frame by `Dev.canBusError_abandons`. -/
theorem canErrorsAndRecovery : Obligations.CanErrorsAndRecovery := by
  unfold Obligations.CanErrorsAndRecovery
  have hcode : ∀ code : Fin 6, code.val + 1 < 8 := by omega
  refine ⟨?transmitter, ?receiver, ?busOff, ?busOffDar, ?abandoned, ?abandonedDar, ?monitoring, ?absent, ?recover,
    ?recoverIgnored, ?recovered, ?recoveredNone, ?window, ?windowClosed⟩
  case transmitter =>
    intro s n code ha ht hr htec hcnt
    have hmin : errTec .tx8 (s.dev.get (F.CAN_ERR_TEC n)) = s.dev.get (F.CAN_ERR_TEC n) + 8 := by
      rw [errTec_tx8]
      omega
    obtain ⟨hlec, htec', hrec, hcnt', hst, hchan⟩ := Dev.canBusError_confines (kind := .tx8) ha ht (Dev.errAbandons_false hr)
      (hcode code) (hmin.trans_le htec)
    refine ⟨_, exec_canBusError, (Dev.get_canErrs _).trans hlec, (Dev.get_canErrs _).trans (htec'.trans hmin),
      (Dev.get_canErrs _).trans hrec, (Dev.get_canErrs _).trans (hcnt'.trans (by omega)),
      (Dev.get_canErrs _).trans (hst.trans ?_), Dev.canErrs_chan.trans hchan⟩
    rw [hmin, errRec]
  case receiver =>
    intro s n code kind ha ht hr htec hk
    have hkind : errTec kind (s.dev.get (F.CAN_ERR_TEC n)) = s.dev.get (F.CAN_ERR_TEC n) ∧
        errRec kind (s.dev.get (F.CAN_ERR_REC n)) =
          min 255 (s.dev.get (F.CAN_ERR_REC n) + (if kind = .rx1 then 1 else 8)) := by
      rcases hk with rfl | rfl
      · exact ⟨rfl, by rw [if_pos rfl, errRec]⟩
      · exact ⟨rfl, by rw [if_neg (by decide), errRec]⟩
    obtain ⟨htecEq, hrecEq⟩ := hkind
    obtain ⟨hlec, htec', hrec, -, hst, hchan⟩ := Dev.canBusError_confines ha ht (Dev.errAbandons_false hr) (hcode code)
      (htecEq.trans_le htec)
    refine ⟨_, exec_canBusError, (Dev.get_canErrs _).trans hlec, (Dev.get_canErrs _).trans (htec'.trans htecEq),
      (Dev.get_canErrs _).trans (hrec.trans hrecEq), (Dev.get_canErrs _).trans (hst.trans ?_),
      Dev.canErrs_chan.trans hchan⟩
    rw [htecEq, hrecEq]
  case busOff =>
    intro s n code ha ht hr hoff hdar hhead hcnt
    obtain ⟨hlec, -, htec, -, hcount, hmode, hchan⟩ := s.dev.errNoted_reads n .tx8 (hcode code)
    obtain ⟨hst, hlec', htec', hcount', -⟩ := (s.dev.errNoted n (code + 1) .tx8).busOffShown_reads n
    have heq : s.dev.canBusError n (code + 1) .tx8 false = (s.dev.errNoted n (code + 1) .tx8).busOffEntered n := by
      rw [Dev.canBusError_leaves ha ht (Dev.errAbandons_false hr) (hcode code) hoff,
        Dev.canBusOff_eq (by rwa [Dev.chanSt_of_chan hchan]), if_neg]
      rw [Dev.flag, hmode _ rfl, ← Dev.flag, hdar, Bool.false_and]
      exact Bool.false_ne_true
    have hreg := fun g : Fld => Dev.get_of_word (g := g) ((s.dev.errNoted n (code + 1) .tx8).busOffEntered_word n g.addr)
    refine ⟨_, exec_canBusError, ?_⟩
    rw [Dev.get_canErrs, Dev.get_canErrs, Dev.get_canErrs, Dev.get_canErrs, Dev.chanSt_of_chan Dev.canErrs_chan, heq,
      Dev.busOffEntered_chanSt, Dev.chanSt_of_chan hchan, Dev.flag, hmode _ rfl, ← Dev.flag]
    refine ⟨(hreg _).trans hst, (hreg _).trans (hlec'.trans hlec), (hreg _).trans (htec'.trans htec),
      (hreg _).trans (hcount'.trans ?_), rfl, rfl⟩
    rw [hcount 3 (by decide)]
    omega
  case busOffDar =>
    intro s n code it ha ht hr hoff hdar hhead htx hcnt
    obtain ⟨-, -, -, -, hcount, hmode, hchan⟩ := s.dev.errNoted_reads n .tx8 (hcode code)
    have hst := Dev.chanSt_of_chan hchan n
    obtain ⟨hstate, htx', hhead', hcount'⟩ := Dev.canBusOff_discards (d := s.dev.errNoted n (code + 1) .tx8) (it := it)
      (by rwa [Dev.flag, hmode _ rfl, ← Dev.flag]) (by rwa [hst]) (by rwa [hst])
    refine ⟨_, exec_canBusError, ?_⟩
    rw [Dev.get_canErrs, Dev.get_canErrs, Dev.chanSt_of_chan Dev.canErrs_chan,
      Dev.canBusError_leaves ha ht (Dev.errAbandons_false hr) (hcode code) hoff]
    refine ⟨hstate, htx', hhead', hcount'.trans ?_⟩
    rw [hcount 9 (by decide)]
    omega
  case abandoned =>
    intro s n code kind xl ha ht ho hdar hhead
    obtain ⟨hlec, -, htec, hrec, -, hmode, hchan⟩ := s.dev.errLogged_reads n (hcode code)
    have hk := (s.dev.errLogged n (code + 1)).canSetState_keeps n 3
    refine ⟨_, exec_canBusError, ?_⟩
    rw [Dev.get_canErrs, Dev.get_canErrs, Dev.get_canErrs, Dev.get_canErrs, Dev.canErrs_chan,
      Dev.canBusError_abandons ha ht (Dev.errAbandons_true ho),
      Dev.canAbandon_kept (by rwa [Dev.flag, hmode _ rfl, ← Dev.flag]) (by rwa [Dev.chanSt_errLogged])]
    exact ⟨Dev.get_state_canSetState _ _ (by decide), hk.err_lec.trans hlec, hk.err_tec.trans htec, hk.err_rec.trans hrec,
      (Dev.canSetState_chan _ _ _).trans hchan⟩
  case abandonedDar =>
    intro s n code kind xl it he ht ho hdar hkind htx
    obtain ⟨-, ha⟩ := Dev.head_active_of_txEligible he
    obtain ⟨-, -, htec, -, -, hmode, -⟩ := s.dev.errLogged_reads n (hcode code)
    obtain ⟨hstate, htx', hhead', htec'⟩ := Dev.canAbandon_only (d := s.dev.errLogged n (code + 1)) (it := it)
      (by rwa [Dev.txEligible_errLogged]) (by rwa [Dev.flag, hmode _ rfl, ← Dev.flag]) (by rwa [Dev.chanSt_errLogged])
    have hsend : errSending kind = true := by rcases hkind with rfl | rfl <;> rfl
    refine ⟨_, exec_canBusError, ?_⟩
    rw [Dev.get_canErrs, Dev.get_canErrs, Dev.chanSt_of_chan Dev.canErrs_chan,
      Dev.canBusError_abandons ha ht (Dev.errAbandons_true ho), hsend]
    exact ⟨hstate, htx', hhead', htec'.trans htec⟩
  case monitoring =>
    intro s n code kind xl ha ht
    have he := Dev.canBusError_monitors (code := code + 1) (kind := kind) (xl := xl) ha ht
    rw [exec_canBusError, Dev.canErrs_active (.inl (by rwa [he, Dev.canActive_errLogged])), he, Dev.errLogged, Dev.canCount]
  case absent =>
    intro s n code kind xl ha
    rw [exec_canBusError, Dev.canErrs_active (.inr ha), Dev.canBusError_absent ha]
  case recover =>
    intro s i n d hr hl hs ha
    rw [exec_canRecover_taken hr hl, if_pos ⟨hs, by rw [ha]; rfl⟩]
  case recoverIgnored =>
    intro s i n d hr hl h
    rw [exec_canRecover_taken hr hl, if_neg (by rcases h with h | h <;> simp [h])]
  case recovered =>
    exact fun s n hs hr => ⟨_, exec_canRecoveryDone, Dev.canRecovered_reads hs hr⟩
  case recoveredNone =>
    intro s n h
    rw [exec_canRecoveryDone, Dev.canRecovered_none h]
  case window =>
    intro s i n w v d hr hl hw
    rw [Nat.add_assoc] at hr hl
    rw [exec_canWindowWrite, Nat.add_assoc, Dev.anyRow_page _ d _ _ i _ v (.can n) _ (pageExists_can n) (by omega) rfl
      (pageBase_can_ne_tcmd n) hr hl]
    rw [Dev.pageWrite_can _ _ _ _ _ (by omega) (by omega), Dev.canWrite_window, hw]
    rfl
  case windowClosed =>
    intro s i n w v d hr hl hw
    rw [Nat.add_assoc] at hr hl
    rw [exec_canWindowWrite, Nat.add_assoc, Dev.anyRow_page_refused _ d _ i _ v (.can n) _ 0x0112 (pageExists_can n)
      (by omega) rfl (pageBase_can_ne_tcmd n) hr hl]
    rw [Dev.pageWrite_can _ _ _ _ _ (by omega) (by omega), Dev.canWrite_window, hw]
    rfl

end Sys2Proof.Machine
end

section
/-! Rows of the Canopy (R62 to R77): a row that writes a register of its pages, and what its parts leave alone. -/

namespace Sys2Proof.Machine
open Sys2Proof

/-! ### Sparse tables -/

section
variable {α : Type}

theorem filter_tabIns (t : Tab α) (i : Nat) (v : α) (h : ∀ e ∈ t, e.1 ≠ i) :
    (tabIns t i v).filter (fun e => e.1 != i) = t := by
  induction t with
  | nil => simp [tabIns]
  | cons e t ih =>
    have he : (e.1 != i) = true := bne_iff_ne.mpr (h e List.mem_cons_self)
    have ht : ∀ x ∈ t, x.1 ≠ i := fun x hx => h x (List.mem_cons_of_mem _ hx)
    have hf : t.filter (fun e => e.1 != i) = t := List.filter_eq_self.mpr fun x hx => bne_iff_ne.mpr (ht x hx)
    unfold tabIns
    split
    · simp [he, hf]
    · rw [List.filter_cons, if_pos he, ih ht]

/-- Of two writes of an entry the last remains. -/
theorem tset_tset [Inhabited α] [DecidableEq α] (t : Tab α) (i : Nat) (v w : α) : tset (tset t i v) i w = tset t i w := by
  have hrest : (tset t i v).filter (fun e => e.1 != i) = t.filter (fun e => e.1 != i) := by
    rw [tset, tabSet]
    split
    · rw [List.filter_filter]
      simp only [Bool.and_self]
    · exact filter_tabIns _ i v (mem_filter_ne t i)
  rw [tset, tabSet, hrest, tset, tabSet]

end

/-! ### What a write and an event leave alone -/

section
variable (d : Dev)

@[simp] theorem Dev.store_canopy (addr : Nat) (v : Word) : (d.store addr v).canopy = d.canopy := by
  obtain ⟨regs, e⟩ := d.store_eq addr v
  rw [e]

@[simp] theorem Dev.store_scrub (addr : Nat) (v : Word) : (d.store addr v).scrub = d.scrub := by
  obtain ⟨regs, e⟩ := d.store_eq addr v
  rw [e]

@[simp] theorem Dev.raise_canopy (pg : Page) (bit : Nat) : (d.raise pg bit).canopy = d.canopy := by
  obtain ⟨_, _, e⟩ := d.raise_eq pg bit
  rw [e, Dev.put_canopy]

end

/-! ### Rows that write a register -/

section
variable {d₀ d d' : Dev} {i : Init} {k addr : Nat} {v : Word}

theorem Dev.cnpRow_taken (hr : d₀.reaches i addr = some d) (hl : d.lockedWrite addr v = false)
    (hj : d.canopyWrite k i addr v = .ok d') : d₀.cnpRow i k addr v = d' :=
  d₀.busWrite_taken d d' i addr v (fun e => e.canopyWrite k i addr v) hr hl hj

theorem Dev.cnpRow_refused {code : Nat} (hr : d₀.reaches i addr = some d) (hl : d.lockedWrite addr v = false)
    (hj : d.canopyWrite k i addr v = .no code) : d₀.cnpRow i k addr v = d.failWrite i addr v code :=
  d₀.busWrite_refused d i addr v (fun e => e.canopyWrite k i addr v) code hr hl hj

end

end Sys2Proof.Machine
end

section
/-! Capture inputs (R73): edges under qualification, accepted edges, and the pop of an entry. -/

namespace Sys2Proof.Machine
open Sys2Proof

section
variable (d : Dev) (c : Nat) (f g : CaptureSt → CaptureSt)

/-! ### The state of an input -/

@[simp] theorem Dev.capSt_modCap_same : (d.modCap c f).capSt c = f (d.capSt c) := tget_tmod_same _ _ _

theorem Dev.capSt_modCap_other {k : Nat} (h : k ≠ c) : (d.modCap c f).capSt k = d.capSt k :=
  tget_tmod_other _ _ _ _ h

theorem Dev.modCap_modCap : (d.modCap c f).modCap c g = d.modCap c (fun x => g (f x)) := by
  simp only [Dev.modCap, tmod, tget_tset_same, tset_tset]

variable {d c f g} in
/-- Only what the change makes of the input's present state counts. -/
theorem Dev.modCap_congr (h : f (d.capSt c) = g (d.capSt c)) : d.modCap c f = d.modCap c g := by
  simp only [Dev.modCap, tmod]
  rw [← Dev.capSt, h]

theorem Dev.capSt_of_canopy {d e : Dev} (h : e.canopy = d.canopy) (k : Nat) : e.capSt k = d.capSt k := by
  rw [Dev.capSt, h, Dev.capSt]

end

/-! ### Accepted edges -/

section
variable {d : Dev} {c : Nat} {e : PendingEdge}

theorem Dev.capAccept_queued (hen : e.en = true) (hs : edgeSelected e.edge e.rise = true)
    (hn : (d.capSt c).entries.length < 16) : d.capAccept c e =
    (d.modCap c (fun x => { x with
      pending := none, count := x.count + 1, lostRun := 0
      entries := x.entries ++ [⟨x.lostRun != 0, e.rise, min x.lostRun 31, (x.count + 1) % 2 ^ 16, e.stamp⟩] })).raise
      (.tl 10) (1 + c) := by
  unfold Dev.capAccept
  simp only [hen, hs, Bool.and_self, if_true, Dev.capSt_modCap_same, hn, Dev.modCap_modCap]
  exact congrArg (fun x : Dev => x.raise _ _) (Dev.modCap_congr rfl)

theorem Dev.capAccept_lost (hen : e.en = true) (hs : edgeSelected e.edge e.rise = true)
    (hn : 16 ≤ (d.capSt c).entries.length) : d.capAccept c e =
    ((d.modCap c (fun x => { x with
      pending := none, count := x.count + 1, lostRun := x.lostRun + 1
      late := some (⟨x.lostRun != 0, e.rise, min x.lostRun 31, (x.count + 1) % 2 ^ 16, e.stamp⟩, d.tl.ticks,
        d.get (F.TCP_LOST_COUNT c), bitOf (d.get (F.IRQ_RAW_BITS (pageBase (.tl 10)))) (9 + c)) })).bump
      (F.TCP_LOST_COUNT c)).raise (.tl 10) (9 + c) := by
  unfold Dev.capAccept
  simp only [hen, hs, Bool.and_self, if_true, Dev.capSt_modCap_same, Nat.not_lt.mpr hn, if_false, Dev.modCap_modCap,
    Dev.modCap_get, Dev.modCap_tl]
  exact congrArg (fun x : Dev => (x.bump _).raise _ _) (Dev.modCap_congr rfl)

theorem Dev.capAccept_dropped (h : (e.en && edgeSelected e.edge e.rise) = false) :
    d.capAccept c e = d.modCap c (fun x => { x with pending := none }) := by
  simp [Dev.capAccept, h]

theorem Dev.tcapQualify_held (hp : (d.capSt c).pending = some e) (hh : edgeHeld e d.base8 = true) :
    d.tcapQualify c = d.capAccept c e := by
  simp [Dev.tcapQualify, hp, hh]

theorem Dev.tcapQualify_waits (h : (d.capSt c).pending.all (fun e => !edgeHeld e d.base8) = true) :
    d.tcapQualify c = d := by
  unfold Dev.tcapQualify
  split
  · rfl
  · next e hp => rw [if_neg (by simpa [hp] using h)]

/-! ### Edges at the ball -/

variable {rise : Bool} {frac : Nat}

theorem Dev.tcapEdge_begins (hl : (d.capSt c).level ≠ rise) (hp : (d.capSt c).pending = none) :
    d.tcapEdge c rise frac = d.modCap c (fun x => { x with
      level := rise
      pending := some {
        rise, at_ := d.base8 + frac, stamp := d.stampAt (104 + c) ((d.base8 + frac : Nat) * 8) res125ps
        en := d.flag (F.TCP_CFG_EN c), edge := d.get (F.TCP_CFG_EDGE c), filter := d.get (F.TCP_CFG_FILTER_NS c) } }) := by
  unfold Dev.tcapEdge
  simp only [if_neg hl, hp]

theorem Dev.tcapEdge_cancels (hl : (d.capSt c).level ≠ rise) (hp : (d.capSt c).pending = some e)
    (hh : edgeHeld e (d.base8 + frac) = false) :
    d.tcapEdge c rise frac = d.modCap c (fun x => { x with level := rise, pending := none }) := by
  simp [Dev.tcapEdge, hl, hp, hh]

theorem Dev.tcapEdge_level (hl : (d.capSt c).level = rise) : d.tcapEdge c rise frac = d := if_pos hl

/-! ### The pop of an entry -/

theorem Dev.capPop_head (h : (d.capSt c).late = none) :
    d.capPop c = d.modCap c (fun x => { x with entries := x.entries.drop 1 }) := by
  simp [Dev.capPop, h]

/-- R73: what the pop of a full queue leaves, where the same tick found no room for an entry. -/
theorem Dev.capPop_late {x : CaptureEntry} {lost : Nat} {was : Bool}
    (hx : (d.capSt c).late = some (x, d.tl.ticks, lost, was)) (hn : (d.capSt c).entries.length = 16) :
    (d.capPop c).capSt c = { d.capSt c with entries := (d.capSt c).entries.drop 1 ++ [x], lostRun := 0, late := none } ∧
    (d.capPop c).get (F.TCP_LOST_COUNT c) = lost % 2 ^ (F.TCP_LOST_COUNT c).width ∧
    ∀ k, k ≠ c → (d.capPop c).capSt k = d.capSt k := by
  have hirq : R.TCP_LOST c ≠ pageBase (.tl 10) + 0x10 := by
    simp only [R.TCP_LOST, pageBase]
    omega
  unfold Dev.capPop
  simp only [hx, hn, and_self, if_true]
  refine ⟨?_, ?_, fun k hk => ?_⟩
  · rw [Dev.capSt_of_canopy (Dev.raise_canopy _ _ _), Dev.capSt_modCap_same]
    rfl
  · rw [Dev.get_raise_other _ _ _ hirq, Dev.modCap_get, Dev.get_put_other _ _ _ _ hirq]
    exact d.get_put _ _ (Nat.le_refl 32)
  · rw [Dev.capSt_of_canopy (Dev.raise_canopy _ _ _), Dev.capSt_modCap_other _ _ _ hk]
    rfl

/-- R73: the owner of an input pops its entry; another initiator is refused. -/
theorem Dev.canopyWrite_pop (d : Dev) (c : Nat) (i : Init) : d.canopyWrite 10 i (R.TCP_POP c) 1 =
    refuseIf (!ownerIs (d.get (F.TCP_CFG_OWNER c)) i) 0x010A (.ok (d.capPop c)) := by
  have hc : (R.TCP_POP c - 0x40A040) / 0x20 = c := by
    unfold R.TCP_POP
    omega
  have hcfg : R.TCP_POP c ≠ R.TCP_CFG c := by
    unfold R.TCP_POP R.TCP_CFG
    omega
  have hpop : newField 1 (F.TCP_POP_POP c) ≠ 0 := (by decide : wordBits 1 0 1 ≠ 0)
  unfold Dev.canopyWrite
  rw [if_neg (by decide), if_neg (by decide), if_pos rfl]
  unfold Dev.tl10Write
  simp only [hc, if_neg hcfg, if_true, if_neg hpop]

end

/-! ### The rows -/

section
variable {s : State} {i : Init} {c : Fin 8}

theorem exec_tcapEdge {rise : Bool} {frac : Fin 8} :
    exec (.tcapEdge c rise frac) s = .next (s.ends (s.dev.tcapEdge c rise frac)) :=
  act_eq_ends s (fun d => d.tcapEdge c rise frac)

theorem exec_tcapEdgeQualified : exec (.tcapEdgeQualified c) s = .next (s.ends (s.dev.tcapQualify c)) :=
  act_eq_ends s (fun d => d.tcapQualify c)

theorem exec_tcpPop : exec (.tcpPop i c) s = .next (s.ends (s.dev.cnpRow i 10 (R.TCP_POP c) 1)) :=
  act_eq_ends s (fun d => d.cnpRow i 10 (R.TCP_POP c) 1)

variable {d : Dev}

theorem exec_tcpPop_owner (hr : s.dev.reaches i (R.TCP_POP c) = some d) (hl : d.lockedWrite (R.TCP_POP c) 1 = false)
    (ho : ownerIs (d.get (F.TCP_CFG_OWNER c)) i = true) : exec (.tcpPop i c) s = .next (s.ends (d.capPop c)) := by
  have hj : d.canopyWrite 10 i (R.TCP_POP c) 1 = .ok (d.capPop c) := by
    rw [Dev.canopyWrite_pop, ho]
    rfl
  rw [exec_tcpPop, Dev.cnpRow_taken hr hl hj]

theorem exec_tcpPop_other (hr : s.dev.reaches i (R.TCP_POP c) = some d) (hl : d.lockedWrite (R.TCP_POP c) 1 = false)
    (ho : ownerIs (d.get (F.TCP_CFG_OWNER c)) i = false) :
    exec (.tcpPop i c) s = .next (s.ends (d.failWrite i (R.TCP_POP c) 1 0x010A)) := by
  have hj : d.canopyWrite 10 i (R.TCP_POP c) 1 = .no 0x010A := by
    rw [Dev.canopyWrite_pop, ho]
    rfl
  rw [exec_tcpPop, Dev.cnpRow_refused hr hl hj]

end

/-- Settles O9: an edge at the ball begins or cancels a qualification, one that has held is queued, lost or dropped,
and a pop is judged by the input's owner. -/
theorem captureInputCommands : Obligations.CaptureInputCommands := by
  unfold Obligations.CaptureInputCommands
  refine ⟨?begins, ?cancels, ?level, ?queued, ?lost, ?dropped, ?waits, ?pop, ?popLate, ?notOwner⟩
  case begins =>
    intro s c rise frac hl hp
    rw [exec_tcapEdge, Dev.tcapEdge_begins hl hp]
  case cancels =>
    intro s c rise frac e hl hp hh
    rw [exec_tcapEdge, Dev.tcapEdge_cancels hl hp hh]
  case level =>
    intro s c rise frac hl
    rw [exec_tcapEdge, Dev.tcapEdge_level hl]
  case queued =>
    intro s c e hp hh hen hs hn
    rw [exec_tcapEdgeQualified, Dev.tcapQualify_held hp hh, Dev.capAccept_queued hen hs hn]
  case lost =>
    intro s c e hp hh hen hs hn
    rw [exec_tcapEdgeQualified, Dev.tcapQualify_held hp hh, Dev.capAccept_lost hen hs hn]
  case dropped =>
    intro s c e hp hh h
    rw [exec_tcapEdgeQualified, Dev.tcapQualify_held hp hh, Dev.capAccept_dropped h]
  case waits =>
    intro s c h
    rw [exec_tcapEdgeQualified, Dev.tcapQualify_waits h]
  case pop =>
    intro s i c d hr hl ho h
    rw [exec_tcpPop_owner hr hl ho, Dev.capPop_head h]
  case popLate =>
    exact fun s i c d x lost was hr hl ho hx hn => ⟨_, exec_tcpPop_owner hr hl ho, Dev.capPop_late hx hn⟩
  case notOwner =>
    exact fun s i c d hr hl ho => exec_tcpPop_other hr hl ho

end Sys2Proof.Machine
end

section
/-! Phase domains (R74 to R77): what predictions leave alone, writes of PH_CTRL, and the edges of an encoder. -/

namespace Sys2Proof.Machine
open Sys2Proof

section
variable (d : Dev) (p : Nat)

/-! ### The state of a domain -/

@[simp] theorem Dev.phaseSt_modPhase_same (f : PhaseSt → PhaseSt) : (d.modPhase p f).phaseSt p = f (d.phaseSt p) :=
  tget_tmod_same _ _ _

theorem Dev.phaseSt_modPhase_other (f : PhaseSt → PhaseSt) {k : Nat} (h : k ≠ p) :
    (d.modPhase p f).phaseSt k = d.phaseSt k := tget_tmod_other _ _ _ _ h

theorem Dev.phaseSt_of_canopy {d e : Dev} (h : e.canopy = d.canopy) (k : Nat) : e.phaseSt k = d.phaseSt k := by
  rw [Dev.phaseSt, h, Dev.phaseSt]

@[simp] theorem Dev.phaseSt_put (f : Fld) (v k : Nat) : (d.put f v).phaseSt k = d.phaseSt k := rfl

@[simp] theorem Dev.phaseSt_bumpWrap (f : Fld) (k : Nat) : (d.bumpWrap f).phaseSt k = d.phaseSt k := rfl

/-! ### Predictions (R77) -/

/-- Predictions are kept in the wheel's entries. -/
theorem Dev.predictBy_eq (f : Dev → WheelEntry → Option (Nat × Nat)) :
    ∃ wheel, d.predictBy p f = { d with canopy := { d.canopy with wheel } } := by
  unfold Dev.predictBy Dev.phaseEntries
  induction d.canopy.wheel using List.reverseRecOn with
  | nil => exact ⟨_, rfl⟩
  | append_singleton l x ih =>
    obtain ⟨wheel, e⟩ := ih
    rw [List.foldl_append, List.foldl_cons, List.foldl_nil, e]
    split
    · exact ⟨_, rfl⟩
    · exact ⟨_, rfl⟩

@[simp] theorem Dev.repredict_word (a : Nat) : (d.repredict p).word a = d.word a := by
  obtain ⟨wheel, e⟩ := d.predictBy_eq p Dev.predAgain
  rw [Dev.repredict, e]
  rfl

@[simp] theorem Dev.repredict_get (g : Fld) : (d.repredict p).get g = d.get g :=
  Dev.get_of_word (d.repredict_word p _)

@[simp] theorem Dev.repredict_flag (g : Fld) : (d.repredict p).flag g = d.flag g :=
  Dev.flag_of_word (d.repredict_word p _)

@[simp] theorem Dev.repredict_phaseSt (k : Nat) : (d.repredict p).phaseSt k = d.phaseSt k := by
  obtain ⟨wheel, e⟩ := d.predictBy_eq p Dev.predAgain
  rw [Dev.repredict, e]
  rfl

end

/-! ### Writes of PH_CTRL (R75) -/

theorem regAt_phCtrl (p : Fin 4) : regAt (R.PH_CTRL p) = some ⟨0x040, 1, 0x4,
    [⟨31, 1, .rw, 0x0, .c⟩, ⟨30, 1, .rw, 0x0, .c⟩, ⟨29, 1, .rw, 0x0, .c⟩, ⟨24, 3, .rw, 0x0, .c⟩, ⟨16, 8, .rw, 0x0, .c⟩,
      ⟨0, 16, .rw, 0x1000, .c⟩]⟩ := by
  revert p
  decide +kernel

section
variable {d : Dev} {p : Fin 4}

/-- A field of a word given the value it has. -/
theorem wordPut_wordBits (v : Word) (lo w : Nat) (h : lo + w ≤ 32) : wordPut v lo w (wordBits v lo w) = v := by
  have hv := split_bits v.toNat lo w
  apply BitVec.eq_of_toNat_eq
  rw [wordPut_toNat _ _ _ _ h, putBits_eq, Nat.mod_eq_of_lt (wordBits_lt _ _ _), wordBits]
  exact hv.symm

theorem wordPut_mod (v : Word) (lo w x : Nat) : wordPut v lo w (x % 2 ^ w) = wordPut v lo w x := by
  rw [wordPut, putBits, Nat.mod_mod, wordPut, putBits]

/-- R22: every field of PH_CTRL is stored as it is written. -/
theorem Dev.word_phCtrl_store (x : Nat) : (d.store (R.PH_CTRL p) (d.wordWith (F.PH_CTRL_EN p) x)).word (R.PH_CTRL p) =
    d.wordWith (F.PH_CTRL_EN p) x := by
  simp only [Dev.store, regAt_phCtrl, Dev.word_setWord_same, Dev.wordWith, F.PH_CTRL_EN, fieldsNext, List.foldl_cons,
    List.foldl_nil, fieldNext]
  rw [wordBits_wordPut _ _ _ _ (by decide), wordPut_mod]
  iterate 5 rw [wordPut_wordBits _ _ _ (by decide)]

theorem newField_phaseEn (x : Nat) : newField (d.wordWith (F.PH_CTRL_EN p) x) (F.PH_CTRL_EN p) = x % 2 :=
  newField_wordWith _ x (Nat.le_refl 32)

theorem Dev.flag_phaseEn_store (x : Nat) :
    (d.store (R.PH_CTRL p) (d.wordWith (F.PH_CTRL_EN p) x)).flag (F.PH_CTRL_EN p) = (x % 2 == 1) := by
  have h : (d.store (R.PH_CTRL p) (d.wordWith (F.PH_CTRL_EN p) x)).get (F.PH_CTRL_EN p) = x % 2 :=
    (congrArg (fun w => wordBits w 31 1) (d.word_phCtrl_store x)).trans (newField_phaseEn x)
  rw [Dev.flag, h]

/-- R75: a row that writes EN leaves the other fields of PH_CTRL. -/
theorem newField_phCtrl_beside {g : Fld} (x : Nat) (ha : g.addr = R.PH_CTRL p) (h : g.lo + g.width ≤ 31) :
    newField (d.wordWith (F.PH_CTRL_EN p) x) g = d.get g :=
  newField_wordWith_beside (f := F.PH_CTRL_EN p) x (Nat.le_refl 32) ha (.inl h)

theorem Dev.canopyWrite_phCtrl (i : Init) (v : Word) : d.canopyWrite (11 + p) i (R.PH_CTRL p) v = d.phCtrlWrite p v := by
  unfold Dev.canopyWrite
  rw [if_neg (by omega), if_neg (by omega), if_neg (by omega), Nat.add_sub_cancel_left]
  exact if_pos rfl

/-- R75: the device with phase domain p taken from OFF to ACQ. -/
def Dev.phaseStarted (d : Dev) (p : Nat) : Dev :=
  ((((d.store (R.PH_CTRL p) (d.wordWith (F.PH_CTRL_EN p) 1)).put (F.PH_STAT_STATE p) 1).put
    (F.PH_STAT_FULL_PERIODS p) 0).put (F.PH_REV_COUNT p) 0).modPhase p (fun _ => {})

/-- R75: the device with phase domain p taken to OFF. -/
def Dev.phaseStopped (d : Dev) (p : Nat) : Dev :=
  (d.store (R.PH_CTRL p) (d.wordWith (F.PH_CTRL_EN p) 0)).put (F.PH_STAT_STATE p) 0

theorem Dev.phCtrlWrite_enable (hoff : d.flag (F.PH_CTRL_EN p) = false) :
    d.phCtrlWrite p (d.wordWith (F.PH_CTRL_EN p) 1) =
      if !d.flag (F.PH_CTRL_SRC p) && d.get (F.PH_CTRL_CPR p) == 0 then .no 0x0109 else .ok (d.phaseStarted p) := by
  have hsrc : (newField (d.wordWith (F.PH_CTRL_EN p) 1) (F.PH_CTRL_SRC p) == 0) = !d.flag (F.PH_CTRL_SRC p) := by
    have hlt : d.get (F.PH_CTRL_SRC p) < 2 := d.get_lt _
    rw [newField_phCtrl_beside 1 rfl (by decide : 30 + 1 ≤ 31), Dev.flag]
    obtain h | h : d.get (F.PH_CTRL_SRC p) = 0 ∨ d.get (F.PH_CTRL_SRC p) = 1 := by omega
    · rw [h]; rfl
    · rw [h]; rfl
  have hcpr := newField_phCtrl_beside (d := d) (p := p) (g := F.PH_CTRL_CPR p) 1 rfl (by decide : 0 + 16 ≤ 31)
  simp only [Dev.phCtrlWrite, hoff, newField_phaseEn, hsrc, hcpr, refuseIf]
  rfl

theorem Dev.phCtrlWrite_disable (hon : d.flag (F.PH_CTRL_EN p) = true) :
    d.phCtrlWrite p (d.wordWith (F.PH_CTRL_EN p) 0) = if d.phaseNamed p then .no 0x010B else .ok (d.phaseStopped p) := by
  have hrest : bitsOf (d.wordWith (F.PH_CTRL_EN p) 0).toNat 0 31 = bitsOf (d.word (R.PH_CTRL p)).toNat 0 31 :=
    wordBits_wordPut_other _ 31 1 0 0 31 (by decide) (by decide)
  simp only [Dev.phCtrlWrite, hon, newField_phaseEn, d.word_phCtrl_store, hrest, refuseIf, bne_self_eq_false]
  rfl

/-- R75: what a domain that starts shows. -/
theorem Dev.phaseStarted_reads (d : Dev) (p : Fin 4) :
    (d.phaseStarted p).flag (F.PH_CTRL_EN p) = true ∧ (d.phaseStarted p).get (F.PH_STAT_STATE p) = 1 ∧
    (d.phaseStarted p).get (F.PH_STAT_FULL_PERIODS p) = 0 ∧ (d.phaseStarted p).get (F.PH_REV_COUNT p) = 0 ∧
    (d.phaseStarted p).phaseSt p = {} ∧ (∀ k, k ≠ p.val → (d.phaseStarted p).phaseSt k = d.phaseSt k) ∧
    ∀ a, a ≠ R.PH_CTRL p → a ≠ R.PH_STAT p → a ≠ R.PH_REV p → (d.phaseStarted p).word a = d.word a := by
  have hne : R.PH_CTRL p ≠ R.PH_STAT p ∧ R.PH_CTRL p ≠ R.PH_REV p ∧ R.PH_STAT p ≠ R.PH_REV p := by
    unfold R.PH_CTRL R.PH_STAT R.PH_REV
    omega
  obtain ⟨hcs, hcr, hsr⟩ := hne
  unfold Dev.phaseStarted
  refine ⟨?en, ?state, ?full, ?rev, Dev.phaseSt_modPhase_same _ _ _, fun k hk => ?domain, fun a hc hs hr => ?word⟩
  case en =>
    refine (Dev.flag_of_word ?_).trans (d.flag_phaseEn_store 1)
    rw [Dev.modPhase_word, Dev.word_put_other _ _ _ _ hcr, Dev.word_put_other _ _ _ _ hcs, Dev.word_put_other _ _ _ _ hcs]
  case domain =>
    rw [Dev.phaseSt_modPhase_other _ _ _ hk]
    exact Dev.phaseSt_of_canopy (Dev.store_canopy _ _ _) k
  case word =>
    rw [Dev.modPhase_word, Dev.word_put_other _ _ _ _ hr, Dev.word_put_other _ _ _ _ hs, Dev.word_put_other _ _ _ _ hs,
      d.word_store_other _ hc]
  all_goals simp [Dev.get_put, Dev.get_put_other, Dev.get_put_beside, F.PH_STAT_STATE, F.PH_STAT_FULL_PERIODS,
    F.PH_REV_COUNT, hsr]

/-- R75: what a domain that stops shows. -/
theorem Dev.phaseStopped_reads (d : Dev) (p : Fin 4) :
    (d.phaseStopped p).flag (F.PH_CTRL_EN p) = false ∧ (d.phaseStopped p).get (F.PH_STAT_STATE p) = 0 ∧
    (d.phaseStopped p).canopy = d.canopy ∧
    ∀ a, a ≠ R.PH_CTRL p → a ≠ R.PH_STAT p → (d.phaseStopped p).word a = d.word a := by
  have hne : R.PH_CTRL p ≠ R.PH_STAT p := by
    unfold R.PH_CTRL R.PH_STAT
    omega
  unfold Dev.phaseStopped
  refine ⟨?_, ?_, Dev.store_canopy _ _ _, fun a hc hs => ?_⟩
  · exact (Dev.flag_of_word (Dev.word_put_other _ _ _ _ hne)).trans (d.flag_phaseEn_store 0)
  · rw [Dev.get_put _ _ _ (by decide : 0 + 2 ≤ 32)]
    rfl
  · rw [Dev.word_put_other _ _ _ _ hs, d.word_store_other _ hc]

end

/-! ### A loss, and the edges of an encoder (R74, R75) -/

section
variable {d : Dev} {p t : Nat}

theorem Dev.phaseLoss_acq (cause : Nat) (h : d.get (F.PH_STAT_STATE p) ≠ 2) :
    d.phaseLoss p cause = (d.put (F.PH_STAT_CAUSE p) cause).put (F.PH_STAT_FULL_PERIODS p) 0 := if_neg h

theorem Dev.phaseLoss_locked (cause : Nat) (h : d.get (F.PH_STAT_STATE p) = 2) : d.phaseLoss p cause =
    (((((d.put (F.PH_STAT_CAUSE p) cause).put (F.PH_STAT_FULL_PERIODS p) 0).put (F.PH_STAT_STATE p) 1).bump
      (F.PH_LOSS_COUNT p)).raise (.tl (11 + p)) 2).phaseHeld p := if_pos h

theorem Dev.countEdge_none {forward : Bool} (h : d.flag (F.PH_CTRL_EN p) = false ∨ d.flag (F.PH_CTRL_SRC p) = true) :
    d.countEdge p forward t = d := if_pos (by rcases h with h | h <;> simp [h])

section
variable (he : d.flag (F.PH_CTRL_EN p) = true) (hs : d.flag (F.PH_CTRL_SRC p) = false)
include he hs

/-- R74: an encoder has CPR counts in a revolution. -/
theorem Dev.countEdge_forward : d.countEdge p true t =
    ((d.repredict p).modPhase p (fun x => { x with
      edges := (t :: x.edges).take (d.get (F.PH_CTRL_CPR p) + 1), anchor := some t
      pos := (x.pos + 1) % d.get (F.PH_CTRL_CPR p), counts := x.counts + 1 })).repredict p := by
  simp [Dev.countEdge, Dev.phaseC, he, hs]

theorem Dev.countEdge_reverse (ha : d.get (F.PH_STAT_STATE p) ≠ 2) : d.countEdge p false t =
    (((d.repredict p).modPhase p (fun x => { x with
      edges := [], anchor := some t
      pos := (x.pos + d.get (F.PH_CTRL_CPR p) - 1) % d.get (F.PH_CTRL_CPR p), reverse := true })).put
      (F.PH_STAT_CAUSE p) 3).put (F.PH_STAT_FULL_PERIODS p) 0 := by
  unfold Dev.countEdge
  simp only [he, hs, Dev.phaseC, Bool.not_true, Bool.or_self, Bool.false_eq_true, if_false]
  exact Dev.phaseLoss_acq 3 (by simpa using ha)

end

/-- R74, R75: an index edge of an encoder is counted and begins a revolution. -/
def Dev.indexMarked (d : Dev) (p t : Nat) : Dev :=
  (d.bumpWrap (F.PH_REV_COUNT p)).modPhase p (fun x => { x with
    anchor := some t, pos := 0, counts := 0, reverse := false, lastIndex := some t })

theorem Dev.get_indexMarked_other {g : Fld} (h : g.addr ≠ R.PH_REV p) : (d.indexMarked p t).get g = d.get g :=
  d.get_put_other _ _ _ h

theorem Dev.indexEdge_off (he : d.flag (F.PH_CTRL_EN p) = false) : d.indexEdge p t = d := by
  simp [Dev.indexEdge, he]

theorem phCtrl_ne_phRev (p : Nat) : R.PH_CTRL p ≠ R.PH_REV p := by
  unfold R.PH_CTRL R.PH_REV
  omega

theorem phStat_ne_phRev (p : Nat) : R.PH_STAT p ≠ R.PH_REV p := by
  unfold R.PH_STAT R.PH_REV
  omega

/-- R74: an index edge leaves the count edges of an encoder. -/
theorem Dev.indexMarked_eq (hs : d.flag (F.PH_CTRL_SRC p) = false) :
    (d.bumpWrap (F.PH_REV_COUNT p)).modPhase p (fun x => { x with
      edges := if (d.bumpWrap (F.PH_REV_COUNT p)).flag (F.PH_CTRL_SRC p) then (t :: x.edges).take 2 else x.edges
      anchor := some t, pos := 0, counts := 0, reverse := false, lastIndex := some t }) = d.indexMarked p t := by
  have hsrc : (d.bumpWrap (F.PH_REV_COUNT p)).flag (F.PH_CTRL_SRC p) = false :=
    (Dev.flag_of_word (d.word_put_other _ _ _ (phCtrl_ne_phRev p))).trans hs
  simp only [hsrc, Bool.false_eq_true, if_false]
  rfl

section
variable (he : d.flag (F.PH_CTRL_EN p) = true)
include he

/-- R75: the first index edge of an encoder ends no period. -/
theorem Dev.indexEdge_first (hs : d.flag (F.PH_CTRL_SRC p) = false) (ha : d.get (F.PH_STAT_STATE p) ≠ 2)
    (hi : (d.phaseSt p).lastIndex = none) : d.indexEdge p t = ((d.repredict p).indexMarked p t).repredict p := by
  unfold Dev.indexEdge
  simp only [he, hi, Dev.repredict_phaseSt, Bool.not_true, Bool.false_eq_true,
    if_false, Dev.indexMarked_eq (d := d.repredict p) ((d.repredict_flag p _).trans hs)]
  rw [if_neg]
  rintro ⟨-, h⟩
  rw [Dev.get_indexMarked_other (phStat_ne_phRev p), Dev.repredict_get] at h
  exact ha h

/-- R75: a later one ends a period; here one that does not lock the domain. -/
theorem Dev.indexEdge_period {e : Dev} {t₀ : Nat} (hi : (d.phaseSt p).lastIndex = some t₀)
    (hj : (d.repredict p).judgePeriod p (t - t₀) = e) (hs : e.flag (F.PH_CTRL_SRC p) = false)
    (ha : e.get (F.PH_STAT_STATE p) ≠ 2) : d.indexEdge p t = (e.indexMarked p t).repredict p := by
  unfold Dev.indexEdge
  simp only [he, hi, hj, Dev.repredict_phaseSt, Bool.not_true, Bool.false_eq_true,
    if_false, Dev.indexMarked_eq hs]
  rw [if_neg]
  rintro ⟨-, h⟩
  rw [Dev.get_indexMarked_other (phStat_ne_phRev p)] at h
  exact ha h

end

/-- R75: a period of an encoder is full with CPR forward counts and a length from 5 ms to 1 s, where no full period
came before it. -/
theorem Dev.periodCause_full {len : Nat} (hc : (d.phaseSt p).counts = d.get (F.PH_CTRL_CPR p))
    (hr : (d.phaseSt p).reverse = false) (hl : (d.phaseSt p).lastFull = none) (h5 : 5000000 * 8 ≤ len)
    (h1 : len ≤ 1000000000 * 8) : d.periodCause p len = 0 := by
  unfold Dev.periodCause
  simp [hc, hr, hl, h5, h1]

/-- R75: the device with a first full period in ACQ counted. -/
def Dev.firstFull (d : Dev) (p len : Nat) : Dev :=
  ((d.put (F.PH_PERIOD_NS p) (len / 8)).modPhase p (fun x => { x with lastFull := some len })).put
    (F.PH_STAT_FULL_PERIODS p) 1

theorem Dev.judgePeriod_first {len : Nat} (hc : d.periodCause p len = 0) (ha : d.get (F.PH_STAT_STATE p) = 1)
    (hf : d.get (F.PH_STAT_FULL_PERIODS p) = 0) : d.judgePeriod p len = d.firstFull p len := by
  have hfull : (d.put (F.PH_PERIOD_NS p) (len / 8)).get (F.PH_STAT_FULL_PERIODS p) = 0 := by
    rw [d.get_put_other, hf]
    unfold F.PH_STAT_FULL_PERIODS F.PH_PERIOD_NS R.PH_STAT R.PH_PERIOD
    dsimp only
    omega
  unfold Dev.judgePeriod
  simp only [hc, ha, if_true, Dev.modPhase_get, hfull]
  rfl

theorem Dev.word_firstFull {len a : Nat} (hs : a ≠ R.PH_STAT p) (hp : a ≠ R.PH_PERIOD p) :
    (d.firstFull p len).word a = d.word a := by
  rw [Dev.firstFull, Dev.word_put_other _ _ _ _ hs, Dev.modPhase_word, Dev.word_put_other _ _ _ _ hp]

theorem phPeriod_ne (p : Nat) : R.PH_PERIOD p ≠ R.PH_STAT p ∧ R.PH_PERIOD p ≠ R.PH_REV p := by
  unfold R.PH_PERIOD R.PH_STAT R.PH_REV
  omega

theorem Dev.state_firstFull {len : Nat} : (d.firstFull p len).get (F.PH_STAT_STATE p) = d.get (F.PH_STAT_STATE p) := by
  obtain ⟨hps, -⟩ := phPeriod_ne p
  rw [Dev.firstFull, Dev.get_put_beside _ _ _ _ (by simp [F.PH_STAT_FULL_PERIODS])
    (.inl (by simp [F.PH_STAT_FULL_PERIODS, F.PH_STAT_STATE])), Dev.modPhase_get, Dev.get_put_other _ _ _ _ hps.symm]

/-- R75: what the index edge that ends a first full period in ACQ leaves, before predictions follow. -/
theorem Dev.firstFull_reads {len : Nat} (ha : d.get (F.PH_STAT_STATE p) = 1) (hlen : len ≤ 1000000000 * 8) :
    ((d.firstFull p len).indexMarked p t).get (F.PH_STAT_STATE p) = 1 ∧
    ((d.firstFull p len).indexMarked p t).get (F.PH_STAT_FULL_PERIODS p) = 1 ∧
    ((d.firstFull p len).indexMarked p t).get (F.PH_PERIOD_NS p) = len / 8 ∧
    ((d.firstFull p len).indexMarked p t).get (F.PH_REV_COUNT p) =
      (d.get (F.PH_REV_COUNT p) + 1) % 2 ^ (F.PH_REV_COUNT p).width ∧
    ((d.firstFull p len).indexMarked p t).phaseSt p = { d.phaseSt p with
      lastFull := some len, anchor := some t, pos := 0, counts := 0, reverse := false, lastIndex := some t } ∧
    ∀ a, a ≠ R.PH_STAT p → a ≠ R.PH_PERIOD p → a ≠ R.PH_REV p →
      ((d.firstFull p len).indexMarked p t).word a = d.word a := by
  have hsr := phStat_ne_phRev p
  obtain ⟨hps, hpr⟩ := phPeriod_ne p
  refine ⟨?state, ?full, ?period, ?rev, by simp [Dev.indexMarked, Dev.firstFull], fun a hs hp hr => ?word⟩
  case state => rw [Dev.get_indexMarked_other hsr, Dev.state_firstFull, ha]
  case full =>
    rw [Dev.get_indexMarked_other hsr, Dev.firstFull, Dev.get_put _ _ _ (by simp [F.PH_STAT_FULL_PERIODS])]
    rfl
  case period =>
    rw [Dev.get_indexMarked_other hpr, Dev.firstFull, Dev.get_put_other _ _ _ _ hps, Dev.modPhase_get,
      Dev.get_put _ _ _ (by simp [F.PH_PERIOD_NS])]
    exact Nat.mod_eq_of_lt (by simp only [F.PH_PERIOD_NS]; omega)
  case rev =>
    rw [Dev.indexMarked, Dev.modPhase_get, Dev.bumpWrap, Dev.get_put _ _ _ (by simp [F.PH_REV_COUNT]),
      Dev.get_of_word (Dev.word_firstFull hsr.symm hpr.symm)]
  case word =>
    rw [Dev.indexMarked, Dev.modPhase_word, Dev.bumpWrap, Dev.word_put_other _ _ _ _ hr, Dev.word_firstFull hs hp]

/-- R75: the index edge that ends a first full period in ACQ. -/
theorem Dev.indexEdge_firstFull {t₀ : Nat} (he : d.flag (F.PH_CTRL_EN p) = true) (hi : (d.phaseSt p).lastIndex = some t₀)
    (hs : d.flag (F.PH_CTRL_SRC p) = false) (ha : d.get (F.PH_STAT_STATE p) = 1)
    (hf : d.get (F.PH_STAT_FULL_PERIODS p) = 0) (hc : d.periodCause p (t - t₀) = 0) :
    d.indexEdge p t = (((d.repredict p).firstFull p (t - t₀)).indexMarked p t).repredict p := by
  have hcause : (d.repredict p).periodCause p (t - t₀) = 0 := by
    rw [← hc]
    simp only [Dev.periodCause, Dev.repredict_phaseSt, Dev.repredict_flag, Dev.repredict_get]
  have hctrl : R.PH_CTRL p ≠ R.PH_STAT p ∧ R.PH_CTRL p ≠ R.PH_PERIOD p := by
    unfold R.PH_CTRL R.PH_STAT R.PH_PERIOD
    omega
  refine Dev.indexEdge_period he hi (Dev.judgePeriod_first hcause (by rw [Dev.repredict_get, ha])
    (by rw [Dev.repredict_get, hf])) ?_ ?_
  · rw [Dev.flag_of_word (Dev.word_firstFull hctrl.1 hctrl.2), Dev.repredict_flag, hs]
  · rw [Dev.state_firstFull, Dev.repredict_get, ha]
    decide

theorem Dev.noIndex_lost {t₀ : Nat} (hi : (d.phaseSt p).lastIndex = some t₀) (hl : d.get (F.PH_STAT_STATE p) = 2)
    (hn : d.get (F.PH_PERIOD_NS p) ≠ 0) (ht : 3 * d.get (F.PH_PERIOD_NS p) * 8 < 2 * (d.base8 - t₀)) :
    d.noIndex p = (d.repredict p).phaseLoss p 1 := by
  simp [Dev.noIndex, hi, hl, hn, ht]

theorem Dev.noIndex_none (h : d.get (F.PH_STAT_STATE p) = 0 ∨ d.get (F.PH_PERIOD_NS p) = 0) : d.noIndex p = d := by
  unfold Dev.noIndex
  split
  · rfl
  · exact if_neg (by rcases h with h | h <;> simp [h])

end

/-! ### The rows -/

section
variable {s : State} {i : Init} {p : Fin 4} {d : Dev}

theorem exec_phaseEnable : exec (.phaseEnable i p) s =
    .next (s.ends (s.dev.cnpRow i (11 + p) (R.PH_CTRL p) (s.dev.wordWith (F.PH_CTRL_EN p) 1))) :=
  act_eq_ends s (fun d => d.cnpRow i (11 + p) (R.PH_CTRL p) (d.wordWith (F.PH_CTRL_EN p) 1))

theorem exec_phaseDisable : exec (.phaseDisable i p) s =
    .next (s.ends (s.dev.cnpRow i (11 + p) (R.PH_CTRL p) (s.dev.wordWith (F.PH_CTRL_EN p) 0))) :=
  act_eq_ends s (fun d => d.cnpRow i (11 + p) (R.PH_CTRL p) (d.wordWith (F.PH_CTRL_EN p) 0))

theorem phCtrl_ne_wseq (p : Fin 4) (q : Nat) : R.PH_CTRL p ≠ R.HB_WSEQ q := by
  unfold R.PH_CTRL R.HB_WSEQ
  omega

section
variable {d₀ d' : Dev} {x : Nat} (hr : d₀.reaches i (R.PH_CTRL p) = some d)
  (hl : d.lockedWrite (R.PH_CTRL p) (d.wordWith (F.PH_CTRL_EN p) x) = false)
include hr hl

/-- R75: a row that writes EN, and that PH_CTRL takes. -/
theorem Dev.phaseRow_taken (hj : d.phCtrlWrite p (d.wordWith (F.PH_CTRL_EN p) x) = .ok d') :
    d₀.cnpRow i (11 + p) (R.PH_CTRL p) (d₀.wordWith (F.PH_CTRL_EN p) x) = d' := by
  rw [Dev.wordWith_arrived _ _ hr (phCtrl_ne_wseq p),
    Dev.cnpRow_taken hr hl ((Dev.canopyWrite_phCtrl i _).trans hj)]

/-- R75: one that PH_CTRL refuses. -/
theorem Dev.phaseRow_refused {code : Nat} (hj : d.phCtrlWrite p (d.wordWith (F.PH_CTRL_EN p) x) = .no code) :
    d₀.cnpRow i (11 + p) (R.PH_CTRL p) (d₀.wordWith (F.PH_CTRL_EN p) x) =
      d.failWrite i (R.PH_CTRL p) (d.wordWith (F.PH_CTRL_EN p) x) code := by
  rw [Dev.wordWith_arrived _ _ hr (phCtrl_ne_wseq p),
    Dev.cnpRow_refused hr hl ((Dev.canopyWrite_phCtrl i _).trans hj)]

end

theorem exec_phaseCountEdge {aLeads : Bool} {frac : Fin 8} : exec (.phaseCountEdge p aLeads frac) s =
    .next (s.ends (s.dev.countEdge p (aLeads != s.dev.flag (F.PH_CTRL_DIR p)) (s.dev.base8 + frac))) :=
  act_eq_ends s (fun d => d.countEdge p (aLeads != d.flag (F.PH_CTRL_DIR p)) (d.base8 + frac))

theorem exec_phaseIndexEdge {frac : Fin 8} : exec (.phaseIndexEdge p frac) s =
    .next (s.ends (s.dev.indexEdge p (s.dev.base8 + frac))) := act_eq_ends s (fun d => d.indexEdge p (d.base8 + frac))

theorem exec_phaseNoIndex : exec (.phaseNoIndex p) s = .next (s.ends (s.dev.noIndex p)) :=
  act_eq_ends s (fun d => d.noIndex p)

end

/-- Settles O10: PH_CTRL judges a row that writes EN; a count edge moves the position between two rounds of
predictions; an index edge ends a period, where one began, and marks the revolution. -/
theorem phaseDomainCommands : Obligations.PhaseDomainCommands := by
  unfold Obligations.PhaseDomainCommands
  refine ⟨?enable, ?disable, ?named, ?noCpr, ?forward, ?reverse, ?firstIndex, ?lost, ?noEncoder, ?firstFull, ?off,
    ?notLost⟩
  case enable =>
    intro s i p d hr hl hoff hc
    have hj := Dev.phCtrlWrite_enable hoff
    rw [if_neg (by rcases hc with hc | hc <;> simp [hc])] at hj
    exact ⟨_, exec_phaseEnable.trans (by rw [Dev.phaseRow_taken hr hl hj]), d.phaseStarted_reads p⟩
  case disable =>
    intro s i p d hr hl hon hn
    have hj := Dev.phCtrlWrite_disable hon
    rw [if_neg (by simp [hn])] at hj
    exact ⟨_, exec_phaseDisable.trans (by rw [Dev.phaseRow_taken hr hl hj]), d.phaseStopped_reads p⟩
  case named =>
    intro s i p d hr hl hon hn
    rw [exec_phaseDisable, Dev.phaseRow_refused hr hl ((Dev.phCtrlWrite_disable hon).trans (if_pos hn))]
  case noCpr =>
    intro s i p d hr hl hoff hs hc
    rw [exec_phaseEnable, Dev.phaseRow_refused hr hl ((Dev.phCtrlWrite_enable hoff).trans (if_pos (by simp [hs, hc])))]
  case forward =>
    intro s p aLeads frac he hs hdir
    rw [exec_phaseCountEdge, bne_iff_ne.mpr hdir, Dev.countEdge_forward he hs]
  case reverse =>
    intro s p aLeads frac he hs hdir ha
    rw [exec_phaseCountEdge, hdir, bne_self_eq_false, Dev.countEdge_reverse he hs (by rw [ha]; decide)]
  case firstIndex =>
    intro s p frac he hi hs ha
    rw [exec_phaseIndexEdge, Dev.indexEdge_first he hs (by rw [ha]; decide) hi, Dev.indexMarked]
  case lost =>
    intro s p t hi hl hn ht
    rw [exec_phaseNoIndex, Dev.noIndex_lost hi hl hn ht, Dev.phaseLoss_locked 1 (by rw [Dev.repredict_get, hl])]
  case noEncoder =>
    intro s p aLeads frac h
    rw [exec_phaseCountEdge, Dev.countEdge_none h]
  case firstFull =>
    intro s p frac t₀ n he hi hs ha hf hn hc hr hl h5 h1
    subst hn
    refine ⟨_, exec_phaseIndexEdge.trans (by
      rw [Dev.indexEdge_firstFull he hi hs ha hf (Dev.periodCause_full hc hr hl h5 h1)]), ?_⟩
    simpa using Dev.firstFull_reads (d := s.dev.repredict p) (t := s.dev.base8 + frac) (by simpa using ha) h1
  case off =>
    intro s p frac he
    rw [exec_phaseIndexEdge, Dev.indexEdge_off he]
  case notLost =>
    intro s p h
    rw [exec_phaseNoIndex, Dev.noIndex_none h]

end Sys2Proof.Machine
end

section
/-! The wheel window (R62, R64 to R66): what a command reads once it stands in CNP_CMD, the code it ends with, and what
READ, WRITE and CLEAR do. -/

namespace Sys2Proof.Machine
open Sys2Proof

/-! ### The word of CNP_CMD -/

section
variable {op ix : Nat} (hop : op < 4) (hix : ix < 4096)
include hop hix

theorem cnpWord_toNat : (cnpWord op ix).toNat = 2 ^ 31 + op * 2 ^ 24 + ix := by
  rw [cnpWord, BitVec.toNat_ofNat]
  omega

theorem newField_cnpWord : newField (cnpWord op ix) F.CNP_CMD_GO = 1 ∧ newField (cnpWord op ix) F.CNP_CMD_OP = op ∧
    newField (cnpWord op ix) F.CNP_CMD_INDEX = ix := by
  simp only [newField, wordBits, cnpWord_toNat hop hix, bitsOf, F.CNP_CMD_GO, F.CNP_CMD_OP, F.CNP_CMD_INDEX]
  omega

end

/-! ### A device that differs in CNP_CMD alone -/

/-- Two devices that agree in what wheel commands look at: all but CNP_CMD of the register file, the Timeline, the
Canopy and the errors of memory words. -/
structure Dev.WheelAlike (d e : Dev) : Prop where
  word : ∀ a, a ≠ R.CNP_CMD → e.word a = d.word a
  tl : e.tl = d.tl
  canopy : e.canopy = d.canopy
  scrub : e.scrub = d.scrub

theorem Dev.commanded_wheelAlike (d : Dev) (v : Word) : d.WheelAlike (d.commanded R.CNP_CMD v F.CNP_CMD_GO) where
  word a h := by
    rw [Dev.commanded, Dev.word_put_other _ F.CNP_CMD_GO _ _ h, d.word_store_other _ h]
  tl := by rw [Dev.commanded, Dev.put_tl, Dev.store_tl]
  canopy := by rw [Dev.commanded, Dev.put_canopy, Dev.store_canopy]
  scrub := by rw [Dev.commanded, Dev.put_scrub, Dev.store_scrub]

theorem ne_cnpCmd {base k : Nat} (h : R.CNP_CMD < base) : base + k ≠ R.CNP_CMD := by omega

namespace Dev.WheelAlike

variable {d e : Dev} (h : d.WheelAlike e) (x : WheelEntry)
include h

theorem get {g : Fld} (hg : g.addr ≠ R.CNP_CMD) : e.get g = d.get g := Dev.get_of_word (h.word _ hg)

theorem flag {g : Fld} (hg : g.addr ≠ R.CNP_CMD) : e.flag g = d.flag g := Dev.flag_of_word (h.word _ hg)

theorem entry (k : Nat) : e.entry k = d.entry k := by rw [Dev.entry, h.canopy, Dev.entry]

theorem errIn (mem inst : Nat) (q : Nat → Bool) : e.errIn mem inst q = d.errIn mem inst q := by
  rw [Dev.errIn, h.scrub, Dev.errIn]

theorem base40 : e.base40 = d.base40 := by rw [Dev.base40, h.tl, Dev.base40]

theorem trigOffset (k : Nat) : e.trigOffset k = d.trigOffset k := by
  rw [Dev.trigOffset, h.get (ne_cnpCmd (by decide)), Dev.trigOffset]

theorem tbAhead40 (tb ahead : Nat) : e.tbAhead40 tb ahead = d.tbAhead40 tb ahead := by
  simp only [Dev.tbAhead40, Dev.domStep, h.tl, h.base40]

theorem release40 : e.release40 x = d.release40 x := by rw [Dev.release40, h.trigOffset, Dev.release40]

theorem pastCount : e.pastCount x = d.pastCount x := by simp only [Dev.pastCount, h.tbAhead40, h.release40]

theorem crossRelease (t : Nat) : e.crossRelease x t = d.crossRelease x t := by
  rw [Dev.crossRelease, h.trigOffset, Dev.crossRelease]

theorem phaseC (p : Nat) : e.phaseC p = d.phaseC p := by
  rw [Dev.phaseC, h.flag (ne_cnpCmd (by decide)), h.get (ne_cnpCmd (by decide)), Dev.phaseC]

theorem phaseSt (p : Nat) : e.phaseSt p = d.phaseSt p := Dev.phaseSt_of_canopy h.canopy p

theorem phaseRev (p : Nat) : e.phaseRev p = d.phaseRev p := by
  simp only [Dev.phaseRev, h.phaseC, h.phaseSt]

theorem crossing (p angle : Nat) : e.crossing p angle = d.crossing p angle := by
  simp only [Dev.crossing, h.phaseC, h.phaseSt, h.phaseRev, h.get (g := F.PH_ZERO_ZERO p) (ne_cnpCmd (by decide)),
    h.get (g := F.PH_REV_COUNT p) (ne_cnpCmd (by decide))]

theorem phaseState (p : Nat) : e.get (F.PH_STAT_STATE p) = d.get (F.PH_STAT_STATE p) := h.get (ne_cnpCmd (by decide))

theorem predict : e.predict x = d.predict x := by
  simp only [Dev.predict, h.phaseState, h.crossing, h.crossRelease, h.base40]

theorem predOf : e.predOf x = d.predOf x := by simp only [Dev.predOf, h.predict]

/-- R69: an entry is due in both or in neither. -/
theorem entryDue : e.entryDue x = d.entryDue x := by
  simp only [Dev.entryDue, h.predOf, h.release40, h.tbAhead40, h.base40]

theorem commitDue : e.commitDue x = d.commitDue x := by
  simp only [Dev.commitDue, h.predOf, h.release40, h.tbAhead40, h.base40, h.crossRelease]

theorem windowEntry (version : Nat) : e.windowEntry version = d.windowEntry version := by
  have hdata : ∀ k, e.get (F.CNP_DATA_DATA k) = d.get (F.CNP_DATA_DATA k) := fun k => h.get (ne_cnpCmd (by decide))
  simp only [Dev.windowEntry, hdata]

theorem entryOk : e.entryOk x = d.entryOk x := by
  have hdom : wheelBase x < 5 → e.domEn (wheelBase x - 1) = d.domEn (wheelBase x - 1) := fun hb => h.flag (by
    simp only [F.DOM_CTRL_EN, R.DOM_CTRL, R.CNP_CMD]
    omega)
  have hphase := h.flag (g := F.PH_CTRL_EN (wheelBase x - 8)) (ne_cnpCmd (by decide))
  unfold Dev.entryOk
  by_cases hb : wheelBase x < 5
  · simp only [hb, if_true, hdom hb]
  · simp only [hb, if_false, hphase]

/-- R66: a command ends with one code in both. -/
theorem cnpCode (op ix : Nat) : e.cnpCode op ix = d.cnpCode op ix := by
  simp only [Dev.cnpCode, h.windowEntry, h.entryOk]

end Dev.WheelAlike

/-! ### How a command ends (R66) -/

theorem pageOf_cnpCmd : pageOf R.CNP_CMD = some (.tl 8) := by decide

section
variable {d d₀ : Dev} {i : Init} {op ix : Nat} {v : Word}

/-- R66: how a command ends on the device that shows it. -/
def Dev.cnpEnd (d : Dev) (i : Init) (op ix : Nat) : Dev :=
  ((if d.cnpCode op ix = 0 then d.cnpEffect op ix else d).put F.CNP_RESULT_CODE (d.cnpCode op ix)).windowErr i R.CNP_CMD
    (d.cnpCode op ix)

theorem Dev.windowErr_none (addr : Nat) : d.windowErr i addr 0 = d := by
  unfold Dev.windowErr
  split
  · rfl
  · rfl

theorem Dev.windowErr_cnpCmd {code : Nat} (h : code ≠ 0) :
    d.windowErr i R.CNP_CMD code = d.recordErr (.tl 8) (initCode i) R.CNP_CMD code := by
  unfold Dev.windowErr
  rw [pageOf_cnpCmd]
  exact if_neg h

theorem Dev.canopyWrite_cnpCmd : d.canopyWrite 8 i R.CNP_CMD v = .ok (d.cnpCmd i v) := by
  unfold Dev.canopyWrite
  rw [if_pos rfl, if_pos rfl]

section
variable (hop : op < 4) (hix : ix < 4096) (hr : d₀.reaches i R.CNP_CMD = some d)
  (hl : d.lockedWrite R.CNP_CMD (cnpWord op ix) = false) (hgo : d.flag F.CNP_CMD_GO = false)
include hop hix hr hl hgo

theorem Dev.cnpRow_ends : d₀.cnpRow i 8 R.CNP_CMD (cnpWord op ix) =
    (d.commanded R.CNP_CMD (cnpWord op ix) F.CNP_CMD_GO).cnpEnd i op ix := by
  obtain ⟨h1, hop', hix'⟩ := newField_cnpWord hop hix
  rw [Dev.cnpRow_taken hr hl Dev.canopyWrite_cnpCmd, Dev.cnpCmd, hgo, Bool.false_and, if_neg Bool.false_ne_true]
  dsimp only
  rw [if_pos h1, hop', hix']
  rfl

/-- R66: a command that is not refused acts on the device that shows it. -/
theorem Dev.cnpRow_done (hc : d.cnpCode op ix = 0) : d₀.cnpRow i 8 R.CNP_CMD (cnpWord op ix) =
    ((d.commanded R.CNP_CMD (cnpWord op ix) F.CNP_CMD_GO).cnpEffect op ix).put F.CNP_RESULT_CODE 0 := by
  rw [Dev.cnpRow_ends hop hix hr hl hgo, Dev.cnpEnd, (d.commanded_wheelAlike _).cnpCode, hc, if_pos rfl,
    Dev.windowErr_none]

/-- R66: one that is refused shows its code, which is recorded in the page. -/
theorem Dev.cnpRow_coded {code : Nat} (hc : d.cnpCode op ix = code) (h0 : code ≠ 0) :
    d₀.cnpRow i 8 R.CNP_CMD (cnpWord op ix) = ((d.commanded R.CNP_CMD (cnpWord op ix) F.CNP_CMD_GO).put
      F.CNP_RESULT_CODE code).recordErr (.tl 8) (initCode i) R.CNP_CMD code := by
  rw [Dev.cnpRow_ends hop hix hr hl hgo, Dev.cnpEnd, (d.commanded_wheelAlike _).cnpCode, hc, if_neg h0,
    Dev.windowErr_cnpCmd h0]

end

/-! ### The codes (R64 to R66) -/

theorem Dev.cnpCode_read : d.cnpCode 0 ix = 0 := rfl

theorem Dev.cnpCode_reserved (hop : op = 1 ∨ op = 2) (h : ix < 28) : d.cnpCode op ix = 0x0107 := by
  rcases hop with rfl | rfl <;> exact if_pos h

theorem Dev.cnpCode_write (h : 28 ≤ ix) : d.cnpCode 1 ix =
    if wheelValid (d.windowEntry 0) && !d.entryOk (d.windowEntry 0) then 0x0108 else 0 := by
  unfold Dev.cnpCode
  rw [if_neg (by decide), if_neg (by decide), if_neg (Nat.not_lt.mpr h)]
  rfl

theorem Dev.cnpCode_clear (h : 28 ≤ ix) : d.cnpCode 2 ix = 0 := by
  unfold Dev.cnpCode
  rw [if_neg (by decide), if_neg (by decide), if_neg (Nat.not_lt.mpr h)]
  rfl

/-! ### The effects (R66) -/

theorem Dev.wheelRead_sound (h : d.errIn 8 0 (· == ix) = none) : d.wheelRead ix = (true, d) := by
  unfold Dev.wheelRead
  rw [h]

section
variable (herr : d.errIn 8 0 (· == ix) = none)
include herr

theorem Dev.cnpEffect_read : d.cnpEffect 0 ix = (List.range 8).foldl (fun a k => a.put (F.CNP_DATA_DATA k)
    (wheelWord (if d.entryDue (d.entry ix) then { d.entry ix with committed := (d.entry ix).committed + 1 }
      else d.entry ix) k)) d := by
  simp only [Dev.cnpEffect, Dev.wheelRead_sound herr, if_true]

theorem Dev.cnpEffect_write : d.cnpEffect 1 ix =
    (d.keepCommitted ix).writeEntry ix ((d.keepCommitted ix).windowEntry ((d.entry ix).version + 1)) := by
  simp only [Dev.cnpEffect, Dev.wheelRead_sound herr, Nat.one_ne_zero, if_false, if_true]

theorem Dev.cnpEffect_clear : d.cnpEffect 2 ix = (d.keepCommitted ix).setEntry ix
    { clearValid ((d.keepCommitted ix).entry ix) with version := (d.entry ix).version + 1, committed := 0 } := by
  simp only [Dev.cnpEffect, Dev.wheelRead_sound herr, OfNat.ofNat_ne_zero, OfNat.ofNat_ne_one, if_false]

end

/-- R66: an entry before its commit point has no release to keep. -/
theorem Dev.keepCommitted_early (hc : d.commitDue (d.entry ix) = false) (hd : d.entryDue (d.entry ix) = false) :
    d.keepCommitted ix = d := by
  simp [Dev.keepCommitted, hc, hd]

/-- R66, R69: the release of an entry that is due, with the contents it has now. -/
def Dev.dueRelease (d : Dev) (ix : Nat) : LateRelease where
  index := ix
  version := (d.entry ix).version
  action := wheelAction (d.entry ix)
  target := wheelTarget (d.entry ix)
  param := (d.entry ix).w6
  from_ := d.tl.ticks
  late := false
  final := true

/-- R66: a release that waits for its turn apart from its entry. -/
def Dev.setAside (d : Dev) (r : LateRelease) : Dev :=
  { d with canopy := { d.canopy with lateq := d.canopy.lateq ++ [r] } }

@[simp] theorem Dev.entry_setAside (r : LateRelease) (k : Nat) : (d.setAside r).entry k = d.entry k := rfl

theorem Dev.keepCommitted_due (hd : d.entryDue (d.entry ix) = true) : d.keepCommitted ix = d.setAside (d.dueRelease ix) := by
  have hc : d.commitDue (d.entry ix) = false := by
    have ha : (wheelAction (d.entry ix) == 1) = false := by
      simp only [Dev.entryDue, Bool.and_eq_true, bne_iff_ne] at hd
      obtain ⟨⟨-, ha⟩, -⟩ := hd
      simpa using ha
    rw [Dev.commitDue, ha, Bool.and_false, Bool.false_and]
  unfold Dev.keepCommitted
  dsimp only
  rw [hc, if_neg Bool.false_ne_true, if_pos hd]
  rfl

@[simp] theorem Dev.entry_setEntry_same (e : WheelEntry) : (d.setEntry ix e).entry ix = e := tget_tset_same _ _ _

theorem Dev.entry_setEntry_other {k : Nat} (e : WheelEntry) (h : k ≠ ix) : (d.setEntry ix e).entry k = d.entry k :=
  tget_tset_other _ _ _ _ h

theorem wheelValid_of_cleared {e : WheelEntry} {v : Nat} (h : e.w0 = clrBit v 31) : wheelValid e = false := by
  rw [wheelValid, h, bitOf_clrBit]

/-- R66: what CLEAR of an entry that is due leaves of the wheel. -/
theorem Dev.cnpEffect_clear_due (herr : d.errIn 8 0 (· == ix) = none) (hd : d.entryDue (d.entry ix) = true) :
    wheelValid ((d.cnpEffect 2 ix).entry ix) = false ∧
    (d.cnpEffect 2 ix).canopy.lateq = d.canopy.lateq ++ [d.dueRelease ix] ∧
    ∀ k, k ≠ ix → (d.cnpEffect 2 ix).entry k = d.entry k := by
  rw [Dev.cnpEffect_clear herr, Dev.keepCommitted_due hd]
  refine ⟨?_, rfl, fun k hk => ?_⟩
  · rw [Dev.entry_setEntry_same]
    exact wheelValid_of_cleared rfl
  · rw [Dev.entry_setEntry_other _ hk, Dev.entry_setAside]

/-! ### The entry that CNP_DATA holds (R62, R66) -/

theorem Dev.windowEntry_w0 (n : Nat) : (d.windowEntry n).w0 = d.get (F.CNP_DATA_DATA 0) := by
  unfold Dev.windowEntry
  dsimp only
  split
  · rfl
  · rfl

theorem Dev.windowEntry_last (n : Nat) : (d.windowEntry n).last = false := by
  unfold Dev.windowEntry
  dsimp only
  split
  · rfl
  · rfl

theorem Dev.wheelValid_windowEntry (n : Nat) : wheelValid (d.windowEntry n) = wheelValid (d.windowEntry 0) := by
  rw [wheelValid, Dev.windowEntry_w0, wheelValid, Dev.windowEntry_w0]

theorem Dev.wheelBase_windowEntry (n : Nat) : wheelBase (d.windowEntry n) = wheelBase (d.windowEntry 0) := by
  rw [wheelBase, Dev.windowEntry_w0, wheelBase, Dev.windowEntry_w0]

theorem Dev.wheelPhase_windowEntry (n : Nat) : wheelPhase (d.windowEntry n) = wheelPhase (d.windowEntry 0) := by
  rw [wheelPhase, Dev.wheelBase_windowEntry, wheelPhase]

/-! ### An entry is replaced (R66) -/

section
variable {e : WheelEntry}

theorem Dev.writeEntry_invalid (hv : wheelValid e = false) : d.writeEntry ix e = d.setEntry ix e := by
  simp [Dev.writeEntry, hv]

/-- R70: a time entry with no past instant stands as it is written. -/
theorem Dev.writeEntry_ahead (hv : wheelValid e = true) (hp : wheelPhase e = false) (hl : e.last = false)
    (hn : d.pastCount e = 0) : d.writeEntry ix e = d.setEntry ix e := by
  have hn' : (d.setEntry ix e).pastCount e = 0 := hn
  simp [Dev.writeEntry, Dev.armEntry, hv, hp, hl, hn']

/-- R76: a phase entry of a domain that is not LOCKED is held. -/
theorem Dev.writeEntry_held (hv : wheelValid e = true) (hp : wheelPhase e = true)
    (hs : d.get (F.PH_STAT_STATE (wheelBase e - 8)) ≠ 2) :
    d.writeEntry ix e = (d.setEntry ix { e with noLock := true }).raise (.tl 8) 4 := by
  simp [Dev.writeEntry, hv, hp, hs]

end

end

/-! ### The rows -/

section
variable {s : State} {i : Init} {ix : Fin 4096} {d : Dev}

theorem exec_cnpRead : exec (.cnpRead i ix) s = .next (s.ends (s.dev.cnpRow i 8 R.CNP_CMD (cnpWord 0 ix))) :=
  act_eq_ends s (fun d => d.cnpRow i 8 R.CNP_CMD (cnpWord 0 ix))

theorem exec_cnpWrite : exec (.cnpWrite i ix) s = .next (s.ends (s.dev.cnpRow i 8 R.CNP_CMD (cnpWord 1 ix))) :=
  act_eq_ends s (fun d => d.cnpRow i 8 R.CNP_CMD (cnpWord 1 ix))

theorem exec_cnpClear : exec (.cnpClear i ix) s = .next (s.ends (s.dev.cnpRow i 8 R.CNP_CMD (cnpWord 2 ix))) :=
  act_eq_ends s (fun d => d.cnpRow i 8 R.CNP_CMD (cnpWord 2 ix))

/-- R66: CNP_WRITE, not refused, of an entry before its commit point. -/
theorem exec_cnpWrite_early (hr : s.dev.reaches i R.CNP_CMD = some d)
    (hl : d.lockedWrite R.CNP_CMD (cnpWord 1 ix) = false) (hgo : d.flag F.CNP_CMD_GO = false) (h28 : 28 ≤ ix.val)
    (herr : d.errIn 8 0 (· == ix.val) = none) (hc : d.commitDue (d.entry ix) = false)
    (hd : d.entryDue (d.entry ix) = false)
    (hok : (wheelValid (d.windowEntry 0) && !d.entryOk (d.windowEntry 0)) = false) :
    exec (.cnpWrite i ix) s = .next (s.ends (((d.commanded R.CNP_CMD (cnpWord 1 ix) F.CNP_CMD_GO).writeEntry ix
      (d.windowEntry ((d.entry ix).version + 1))).put F.CNP_RESULT_CODE 0)) := by
  have h := d.commanded_wheelAlike (cnpWord 1 ix)
  have hcode : d.cnpCode 1 ix = 0 := by
    rw [Dev.cnpCode_write h28, hok, if_neg Bool.false_ne_true]
  rw [exec_cnpWrite, Dev.cnpRow_done (by decide) ix.isLt hr hl hgo hcode,
    Dev.cnpEffect_write (by rw [h.errIn, herr]),
    Dev.keepCommitted_early (by rw [h.entry, h.commitDue, hc]) (by rw [h.entry, h.entryDue, hd]), h.windowEntry, h.entry]

end

/-- Settles O7: a command is judged by its code; READ and CLEAR act on the entry as it stands, WRITE on the entry that
CNP_DATA holds. -/
theorem wheelWindowCommands : Obligations.WheelWindowCommands := by
  unfold Obligations.WheelWindowCommands
  refine ⟨?read, ?invalid, ?time, ?reserved, ?phase, ?refused, ?clear, ?clearDue, ?clearReserved⟩
  case read =>
    intro s i ix d hr hl hgo herr
    have h := d.commanded_wheelAlike (cnpWord 0 ix)
    rw [exec_cnpRead, Dev.cnpRow_done (by decide) ix.isLt hr hl hgo Dev.cnpCode_read,
      Dev.cnpEffect_read (by rw [h.errIn, herr]), h.entry, h.entryDue]
  case invalid =>
    intro s i ix d hr hl hgo h28 herr hc hd hv
    rw [exec_cnpWrite_early hr hl hgo h28 herr hc hd (by rw [hv, Bool.false_and]),
      Dev.writeEntry_invalid (by rw [Dev.wheelValid_windowEntry, hv])]
  case time =>
    intro s i ix d hr hl hgo h28 herr hc hd hv hp hok hn
    rw [exec_cnpWrite_early hr hl hgo h28 herr hc hd (by rw [hok, Bool.not_true, Bool.and_false]),
      Dev.writeEntry_ahead (by rw [Dev.wheelValid_windowEntry, hv]) (by rw [Dev.wheelPhase_windowEntry, hp])
        (Dev.windowEntry_last _) (by rw [(d.commanded_wheelAlike _).pastCount, hn])]
  case reserved =>
    intro s i ix d hr hl hgo h28
    rw [exec_cnpWrite, Dev.cnpRow_coded (by decide) ix.isLt hr hl hgo (Dev.cnpCode_reserved (.inl rfl) h28) (by decide)]
  case phase =>
    intro s i ix d hr hl hgo h28 herr hc hd hv hp hok hs
    rw [exec_cnpWrite_early hr hl hgo h28 herr hc hd (by rw [hok, Bool.not_true, Bool.and_false]),
      Dev.writeEntry_held (by rw [Dev.wheelValid_windowEntry, hv]) (by rw [Dev.wheelPhase_windowEntry, hp])
        (by rwa [Dev.wheelBase_windowEntry, (d.commanded_wheelAlike _).phaseState])]
  case refused =>
    intro s i ix d hr hl hgo h28 hv hok
    have hcode : d.cnpCode 1 ix = 0x0108 := by
      rw [Dev.cnpCode_write h28, hv, hok]
      rfl
    rw [exec_cnpWrite, Dev.cnpRow_coded (by decide) ix.isLt hr hl hgo hcode (by decide)]
  case clear =>
    intro s i ix d hr hl hgo h28 herr hc hd
    have h := d.commanded_wheelAlike (cnpWord 2 ix)
    rw [exec_cnpClear, Dev.cnpRow_done (by decide) ix.isLt hr hl hgo (Dev.cnpCode_clear h28),
      Dev.cnpEffect_clear (by rw [h.errIn, herr]),
      Dev.keepCommitted_early (by rw [h.entry, h.commitDue, hc]) (by rw [h.entry, h.entryDue, hd]), h.entry]
  case clearDue =>
    intro s i ix d hr hl hgo h28 herr hd
    have h := d.commanded_wheelAlike (cnpWord 2 ix)
    have hdue : (d.commanded R.CNP_CMD (cnpWord 2 ix) F.CNP_CMD_GO).dueRelease ix = d.dueRelease ix := by
      rw [Dev.dueRelease, h.entry, h.tl, Dev.dueRelease]
    obtain ⟨hvalid, hlate, hother⟩ := Dev.cnpEffect_clear_due (ix := ix) (by rw [h.errIn, herr])
      (by rw [h.entry, h.entryDue, hd])
    rw [hdue, h.canopy] at hlate
    refine ⟨((d.commanded R.CNP_CMD (cnpWord 2 ix) F.CNP_CMD_GO).cnpEffect 2 ix).put F.CNP_RESULT_CODE 0, ?_, hvalid,
      hlate, fun k hk => (hother k hk).trans (h.entry k), Dev.get_put _ F.CNP_RESULT_CODE 0 (by decide)⟩
    rw [exec_cnpClear, Dev.cnpRow_done (by decide) ix.isLt hr hl hgo (Dev.cnpCode_clear h28)]
  case clearReserved =>
    intro s i ix d hr hl hgo h28
    rw [exec_cnpClear, Dev.cnpRow_coded (by decide) ix.isLt hr hl hgo (Dev.cnpCode_reserved (.inr rfl) h28) (by decide)]

end Sys2Proof.Machine
end

section
/-! A write of the signal store that fails in an activation while the error counter stands at its end (R29, R81,
R315). -/

namespace Sys2Proof.Machine
open Sys2Proof

/-- R315: Full Run (M4) in an activation, with descriptor 2 of the signal store valid, and the error counter of the
management cores' own page at its end. -/
def errorsFull : State :=
  { State.reset with
    dev := (((({ State.reset.dev with plat := { State.reset.dev.plat with relStep := 11 } }.put F.PC_MODE_MODE 4).put
      F.SAP_STAT_STATE 5).put (F.ERR_COUNT_COUNT (pageBase (.mc 0))) 0xFFFFFFFF).setSig 6 0x80000000) }

/-- R276: the mode when a command has ended. -/
def modeAfter : Host.Outcome State Fault Refusal → Nat
  | .next s => s.dev.mode
  | .fault _ => 0
  | .refused _ => 0

/-- Refutes O11: (3) fails where ERR_COUNT of page 0 of the management cores has saturated (R29). The relay sees that a
write has failed by the counter, which then does not move: the activation goes on, and the mode stays M4. -/
theorem not_signalStoreAndTransforms : ¬ Obligations.SignalStoreAndTransforms := by
  rintro ⟨-, -, hreverts, -⟩
  have hr : errorsFull.dev.reaches .mc (0x3000000 + 4 * (7 : Fin 0x300000)) = some errorsFull.dev :=
    Dev.reaches_internal _ _ _ rfl (by decide +kernel)
  have h := congrArg modeAfter (hreverts errorsFull 7 1 hr (by decide) (by decide +kernel) (by decide +kernel))
  have written : modeAfter (exec (.sigStoreWrite .mc 7 1) errorsFull) = 4 := by decide +kernel
  have stated : modeAfter (.next (errorsFull.ends ((errorsFull.dev.failWrite .mc (0x3000000 + 4 * (7 : Fin 0x300000)) 1
      0x010C).sapRevert 2))) = 8 := by
    decide +kernel
  rw [written, stated] at h
  exact absurd h (by decide)

end Sys2Proof.Machine
end

section
/-! A field of a register as a write stores it, and the device once a command stands in its window (R22, R66, R91). -/

namespace Sys2Proof.Machine
open Sys2Proof

/-! ### Stored fields -/

/-- R22: among the fields `fs` a write stores bits lo to lo + w - 1 as they are: those bits are one field written so,
and the others lie beside it. -/
def storesBits (fs : List FieldDef) (lo w : Nat) : Bool :=
  fs.any (fun f => f.lo == lo && f.width == w) &&
    fs.all (fun f => decide (f.lo + f.width ≤ 32) &&
      (if f.lo = lo ∧ f.width = w then f.acc == .rw else decide (lo + w ≤ f.lo) || decide (f.lo + f.width ≤ lo)))

/-- R22: a write stores this field as it is. -/
def Fld.stored (g : Fld) : Bool :=
  match regAt g.addr with
  | some r => storesBits r.fields g.lo g.width
  | none => false

theorem wordBits_foldl_fields (old v : Word) (lo w : Nat) : ∀ (fs : List FieldDef) (a : Word),
    (fs.all (fun f => decide (f.lo + f.width ≤ 32) &&
      (if f.lo = lo ∧ f.width = w then f.acc == .rw else decide (lo + w ≤ f.lo) || decide (f.lo + f.width ≤ lo)))) = true →
    wordBits (fs.foldl (fun a f => wordPut a f.lo f.width
      (fieldNext f.acc f.width (wordBits old f.lo f.width) (wordBits v f.lo f.width))) a) lo w =
      if fs.any (fun f => f.lo == lo && f.width == w) then wordBits v lo w else wordBits a lo w
  | [], a, _ => rfl
  | f :: fs, a, h => by
    rw [List.all_cons, Bool.and_eq_true] at h
    obtain ⟨hf, hfs⟩ := h
    rw [Bool.and_eq_true, decide_eq_true_eq] at hf
    obtain ⟨h32, hf⟩ := hf
    rw [List.foldl_cons, wordBits_foldl_fields old v lo w fs _ hfs, List.any_cons]
    by_cases hm : f.lo = lo ∧ f.width = w
    · obtain ⟨rfl, rfl⟩ := hm
      have hacc : f.acc = .rw := by simpa using hf
      rw [wordBits_wordPut _ _ _ _ h32, hacc]
      simp only [fieldNext, beq_self_eq_true, Bool.and_self, Bool.true_or, if_true, ite_eq_left_iff]
      exact fun _ => Nat.mod_eq_of_lt (wordBits_lt v f.lo f.width)
    · rw [if_neg hm, Bool.or_eq_true, decide_eq_true_eq, decide_eq_true_eq] at hf
      have hne : (f.lo == lo && f.width == w) = false := by simpa using hm
      rw [wordBits_wordPut_other _ _ _ _ _ _ h32 hf, hne, Bool.false_or]

/-- R22: a stored field reads as it was written. -/
theorem Dev.get_store (d : Dev) (v : Word) {g : Fld} (h : g.stored = true) : (d.store g.addr v).get g = newField v g := by
  unfold Fld.stored at h
  unfold Dev.store Dev.get newField
  split at h
  next r hr =>
    obtain ⟨hany, hall⟩ := (Bool.and_eq_true _ _).mp h
    rw [hr]
    dsimp only
    rw [Dev.word_setWord_same, fieldsNext, wordBits_foldl_fields _ _ _ _ _ _ hall, if_pos hany]
  next => cases h

/-! ### The device that shows a command -/

section
variable (d : Dev) (addr : Nat) (v : Word) (go : Fld)

theorem Dev.commanded_eq : ∃ regs, d.commanded addr v go = { d with regs } := by
  obtain ⟨regs, h⟩ := d.store_eq addr v
  rw [Dev.commanded, h]
  exact ⟨_, rfl⟩

@[simp] theorem Dev.commanded_gv : (d.commanded addr v go).gv = d.gv := by
  obtain ⟨regs, h⟩ := d.commanded_eq addr v go
  rw [h]

@[simp] theorem Dev.commanded_tl : (d.commanded addr v go).tl = d.tl := by
  obtain ⟨regs, h⟩ := d.commanded_eq addr v go
  rw [h]

@[simp] theorem Dev.commanded_plat : (d.commanded addr v go).plat = d.plat := by
  obtain ⟨regs, h⟩ := d.commanded_eq addr v go
  rw [h]

@[simp] theorem Dev.commanded_msc : (d.commanded addr v go).msc = d.msc := by
  obtain ⟨regs, h⟩ := d.commanded_eq addr v go
  rw [h]

@[simp] theorem Dev.commanded_msa : (d.commanded addr v go).msa = d.msa := by
  obtain ⟨regs, h⟩ := d.commanded_eq addr v go
  rw [h]

@[simp] theorem Dev.commanded_lk : (d.commanded addr v go).lk = d.lk := by
  obtain ⟨regs, h⟩ := d.commanded_eq addr v go
  rw [h]

@[simp] theorem Dev.commanded_tm : (d.commanded addr v go).tm = d.tm := by
  obtain ⟨regs, h⟩ := d.commanded_eq addr v go
  rw [h]

end

section
variable {d : Dev} {addr : Nat} {v : Word} {go g : Fld}

theorem Dev.word_commanded {a : Nat} (hgo : go.addr = addr) (h : a ≠ addr) : (d.commanded addr v go).word a = d.word a := by
  rw [Dev.commanded, Dev.word_put_other _ go _ _ (hgo ▸ h), d.word_store_other _ h]

/-- A command leaves the registers outside its window's command register. -/
theorem Dev.get_commanded (hgo : go.addr = addr) (h : g.addr ≠ addr) : (d.commanded addr v go).get g = d.get g :=
  Dev.get_of_word (Dev.word_commanded hgo h)

theorem Dev.flag_commanded (hgo : go.addr = addr) (h : g.addr ≠ addr) : (d.commanded addr v go).flag g = d.flag g := by
  rw [Dev.flag, Dev.get_commanded hgo h, Dev.flag]

/-- R66, R91: a command shows its fields. -/
theorem Dev.get_commanded_field (ha : g.addr = addr) (hs : g.stored = true) (hw : go.lo + go.width ≤ 32)
    (hap : go.apart g) : (d.commanded addr v go).get g = newField v g := by
  rw [Dev.commanded, Dev.get_put_apart _ go g _ hw hap, ← ha, Dev.get_store d v hs]

end

end Sys2Proof.Machine
end

section
/-! The table command window of Grove (R91): how a command ends, and what a WRITE of a PDU descriptor, of a transform and
of an image makes of the tables. -/

namespace Sys2Proof.Machine
open Sys2Proof

/-! ### The word of GV_TCMD -/

section
variable {op table ix : Nat} (hop : op < 4) (ht : table < 4) (hix : ix < 65536)
include hop ht hix

theorem tcmdWord_toNat : (tcmdWord op table ix).toNat = 2 ^ 31 + op * 2 ^ 24 + table * 2 ^ 20 + ix := by
  rw [tcmdWord, BitVec.toNat_ofNat]
  omega

theorem newField_tcmdWord : newField (tcmdWord op table ix) F.GV_TCMD_GO = 1 ∧
    newField (tcmdWord op table ix) F.GV_TCMD_OP = op ∧ newField (tcmdWord op table ix) F.GV_TCMD_TABLE = table ∧
    newField (tcmdWord op table ix) F.GV_TCMD_INDEX = ix := by
  simp only [newField, wordBits, tcmdWord_toNat hop ht hix, bitsOf, F.GV_TCMD_GO, F.GV_TCMD_OP, F.GV_TCMD_TABLE,
    F.GV_TCMD_INDEX]
  omega

end

/-! ### The device that shows a table command -/

/-- R91: the device that shows a table command. -/
def Dev.tabled (d : Dev) (op table ix : Nat) : Dev := d.commanded R.GV_TCMD (tcmdWord op table ix) F.GV_TCMD_GO

section
variable {d : Dev} {op table ix : Nat}

@[simp] theorem Dev.tabled_gv : (d.tabled op table ix).gv = d.gv := Dev.commanded_gv _ _ _ _

theorem Dev.tabled_get {g : Fld} (h : g.addr ≠ R.GV_TCMD) : (d.tabled op table ix).get g = d.get g :=
  Dev.get_commanded rfl h

theorem tdata_ne_tcmd (k : Nat) : (F.GV_TDATA_DATA k).addr ≠ R.GV_TCMD := by
  simp only [F.GV_TDATA_DATA, R.GV_TDATA, R.GV_TCMD]
  omega

@[simp] theorem Dev.tabled_tdata : (d.tabled op table ix).tdata = d.tdata := by
  funext k
  rw [Dev.tdata, Dev.tabled_get (tdata_ne_tcmd k), Dev.tdata]

@[simp] theorem Dev.tabled_pdu (k : Nat) : (d.tabled op table ix).pdu k = d.pdu k := by
  rw [Dev.pdu, Dev.tabled_gv, Dev.pdu]

@[simp] theorem Dev.tabled_xfmWord (k w : Nat) : (d.tabled op table ix).xfmWord k w = d.xfmWord k w := by
  rw [Dev.xfmWord, Dev.tabled_gv, Dev.xfmWord]

@[simp] theorem Dev.tabled_baseNs : (d.tabled op table ix).baseNs = d.baseNs := by
  rw [Dev.baseNs, Dev.tabled, Dev.commanded_tl, Dev.baseNs]

theorem tcmd_stored : F.GV_TCMD_OP.stored = true ∧ F.GV_TCMD_TABLE.stored = true ∧ F.GV_TCMD_INDEX.stored = true := by
  decide +kernel

theorem Dev.tabled_fields (hop : op < 4) (ht : table < 4) (hix : ix < 65536) :
    (d.tabled op table ix).get F.GV_TCMD_OP = op ∧ (d.tabled op table ix).get F.GV_TCMD_TABLE = table ∧
      (d.tabled op table ix).get F.GV_TCMD_INDEX = ix := by
  obtain ⟨-, h1, h2, h3⟩ := newField_tcmdWord hop ht hix
  obtain ⟨s1, s2, s3⟩ := tcmd_stored
  refine ⟨Eq.trans ?_ h1, Eq.trans ?_ h2, Eq.trans ?_ h3⟩
  · exact Dev.get_commanded_field (g := F.GV_TCMD_OP) rfl s1 (Nat.le_refl 32) (.inr (.inl (by decide)))
  · exact Dev.get_commanded_field (g := F.GV_TCMD_TABLE) rfl s2 (Nat.le_refl 32) (.inr (.inl (by decide)))
  · exact Dev.get_commanded_field (g := F.GV_TCMD_INDEX) rfl s3 (Nat.le_refl 32) (.inr (.inl (by decide)))

end

/-! ### How a table command ends -/

section
variable {d d₀ : Dev} {i : Init} {op table ix : Nat}

/-- R91: a command that left `x` and the code. -/
def Dev.tableEnd (i : Init) (x : Dev × Nat) : Dev := (x.1.put F.GV_TRESULT_CODE x.2).windowErr i R.GV_TCMD x.2

theorem pageOf_tcmd : pageOf R.GV_TCMD = some (.gv 1) := by decide

theorem Dev.tableEnd_done (x : Dev) : Dev.tableEnd i (x, 0) = x.put F.GV_TRESULT_CODE 0 := Dev.windowErr_none _

theorem Dev.tableEnd_refused (x : Dev) {code : Nat} (h : code ≠ 0) : Dev.tableEnd i (x, code) =
    (x.put F.GV_TRESULT_CODE code).recordErr (.gv 1) (initCode i) R.GV_TCMD code := by
  unfold Dev.tableEnd Dev.windowErr
  rw [pageOf_tcmd]
  exact if_neg h

theorem Dev.regWrite_tcmd (ident : List Byte) (v : Word) : d.regWrite ident i R.GV_TCMD v =
    refuseIf (isEngine i && newField v F.GV_TCMD_GO == 1 && newField v F.GV_TCMD_TABLE == 1) 0x0009
      (.ok (d.tcmdWrite i v)) := by
  unfold Dev.regWrite Dev.pageWrite
  rw [pageOf_tcmd]
  rfl

/-- R91, R110: an initiator may start a command on a table; a thread none on transforms. -/
theorem Dev.regWrite_table (ident : List Byte) (hop : op < 4) (ht : table < 4) (hix : ix < 65536)
    (he : isEngine i = false ∨ table ≠ 1) : d.regWrite ident i R.GV_TCMD (tcmdWord op table ix) =
      .ok (d.tcmdWrite i (tcmdWord op table ix)) := by
  obtain ⟨h1, -, h3, -⟩ := newField_tcmdWord hop ht hix
  have hno : (isEngine i && newField (tcmdWord op table ix) F.GV_TCMD_GO == 1 &&
      newField (tcmdWord op table ix) F.GV_TCMD_TABLE == 1) = false := by
    rw [h1, h3]
    rcases he with he | he
    · rw [he, Bool.false_and, Bool.false_and]
    · rw [beq_eq_false_iff_ne.mpr he, Bool.and_false]
  rw [Dev.regWrite_tcmd, hno, refuseIf, if_neg Bool.false_ne_true]

theorem Dev.tcmdWrite_go {v : Word} {c : Dev} (hgo : d.flag F.GV_TCMD_GO = false) (h1 : newField v F.GV_TCMD_GO = 1)
    (hc : d.commanded R.GV_TCMD v F.GV_TCMD_GO = c) : d.tcmdWrite i v =
      Dev.tableEnd i (c.tableCommand (c.get F.GV_TCMD_OP) (c.get F.GV_TCMD_TABLE) (c.get F.GV_TCMD_INDEX)) := by
  unfold Dev.tcmdWrite Dev.tableEnd
  unfold Dev.commanded at hc
  rw [hgo, if_neg Bool.false_ne_true, hc]
  exact if_pos h1

theorem Dev.tcmdWrite_table (hop : op < 4) (ht : table < 4) (hix : ix < 65536) (hgo : d.flag F.GV_TCMD_GO = false) :
    d.tcmdWrite i (tcmdWord op table ix) = Dev.tableEnd i ((d.tabled op table ix).tableCommand op table ix) := by
  obtain ⟨h1, -, -, -⟩ := newField_tcmdWord hop ht hix
  obtain ⟨f1, f2, f3⟩ := Dev.tabled_fields (d := d) hop ht hix
  rw [Dev.tcmdWrite_go hgo h1 rfl, ← Dev.tabled, f1, f2, f3]

/-- R91, R110: a table command that its initiator may start, as the command it is. -/
theorem Dev.tableRow (ident : List Byte) (hop : op < 4) (ht : table < 4) (hix : ix < 65536)
    (hr : d₀.reaches i R.GV_TCMD = some d) (hl : d.lockedWrite R.GV_TCMD (tcmdWord op table ix) = false)
    (hgo : d.flag F.GV_TCMD_GO = false) (he : isEngine i = false ∨ table ≠ 1) :
    d₀.anyRow ident i R.GV_TCMD (tcmdWord op table ix) =
      (Dev.tableEnd i ((d.tabled op table ix).tableCommand op table ix)).deltaCheck d₀ i R.GV_TCMD := by
  have hlow : ¬ 0x4000000 ≤ R.GV_TCMD := by decide
  rw [Dev.anyRow, Dev.registerWrite, if_neg hlow,
    d₀.busWrite_taken d _ i _ _ _ hr hl (Dev.regWrite_table ident hop ht hix he), Dev.tcmdWrite_table hop ht hix hgo]

end

end Sys2Proof.Machine
end

section
/-! What the commands of the table window do (R85, R86, R88, R89, R91, R315). -/

namespace Sys2Proof.Machine
open Sys2Proof

/-! ### The relay beside a table command (R315) -/

section
variable {d d₀ x : Dev} {i : Init} {op table ix n code : Nat} {ident : List Byte}

theorem Dev.reaches_mc {addr : Nat} (hr : d₀.reaches .mc addr = some d) : d = d₀ := by
  have h : (if d₀.accessCode .mc addr true = none then some d₀ else none) = some d := hr
  split at h
  · exact (Option.some.inj h).symm
  · cases h

/-- R315: in an activation the relay keeps in mind what a table command has touched that has met no error. -/
theorem Dev.deltaCheck_table (hs : d₀.sapState = 5) (hx : x.sapState = 5)
    (hc : x.get (F.ERR_COUNT_COUNT (pageBase (.gv 1))) = d₀.get (F.ERR_COUNT_COUNT (pageBase (.gv 1)))) :
    x.deltaCheck d₀ .mc R.GV_TCMD = x.modSap (fun s => { s with touched := deltaTouch x R.GV_TCMD ++ s.touched }) := by
  have hw : inSignalWindow R.GV_TCMD = false := by decide
  unfold Dev.deltaCheck
  dsimp only
  rw [if_pos ⟨rfl, hs, .inr rfl⟩, hw, if_neg Bool.false_ne_true, if_neg (not_not_intro hc), if_pos hx]

theorem deltaTouch_table : deltaTouch x R.GV_TCMD =
    if x.get F.GV_TCMD_OP = 1 then [(1 + x.get F.GV_TCMD_TABLE, x.get F.GV_TCMD_INDEX)] else [] := rfl

/-! ### Rows -/

section
variable (hop : op < 4) (ht : table < 4) (hix : ix < 65536) (hr : d₀.reaches i R.GV_TCMD = some d)
  (hl : d.lockedWrite R.GV_TCMD (tcmdWord op table ix) = false) (hgo : d.flag F.GV_TCMD_GO = false)
  (he : isEngine i = false ∨ table ≠ 1)
include hop ht hix hr hl hgo he

/-- R91: a command that succeeds, where the relay applies no delta. -/
theorem Dev.tableRow_done (hm : i ≠ .mc ∨ d₀.sapState ≠ 5)
    (hx : (d.tabled op table ix).tableCommand op table ix = (x, 0)) :
    d₀.anyRow ident i R.GV_TCMD (tcmdWord op table ix) = x.put F.GV_TRESULT_CODE 0 := by
  rw [Dev.tableRow ident hop ht hix hr hl hgo he, hx, Dev.tableEnd_done, Dev.deltaCheck_idle hm]

/-- R91: a command that is refused, where the relay applies no delta. -/
theorem Dev.tableRow_refused (hm : i ≠ .mc ∨ d₀.sapState ≠ 5) (h0 : code ≠ 0)
    (hx : (d.tabled op table ix).tableCommand op table ix = (d.tabled op table ix, code)) :
    d₀.anyRow ident i R.GV_TCMD (tcmdWord op table ix) = ((d.tabled op table ix).put F.GV_TRESULT_CODE code).recordErr
      (.gv 1) (initCode i) R.GV_TCMD code := by
  rw [Dev.tableRow ident hop ht hix hr hl hgo he, hx, Dev.tableEnd_refused _ h0, Dev.deltaCheck_idle hm]

/-- R315: a WRITE that succeeds and that leaves the registers the relay looks at. -/
theorem Dev.tableRow_touches (hm : i = .mc) (hs : d₀.sapState = 5) (h1 : op = 1)
    (hx : (d.tabled op table ix).tableCommand op table ix = (x, 0))
    (hw : ∀ g : Fld, g.addr ≠ R.GV_IMG_CELLS → x.get g = (d.tabled op table ix).get g) :
    d₀.anyRow ident i R.GV_TCMD (tcmdWord op table ix) = (x.put F.GV_TRESULT_CODE 0).modSap (fun s =>
      { s with touched := (1 + table, ix) :: s.touched }) := by
  subst hm
  obtain rfl := Dev.reaches_mc hr
  obtain ⟨f1, f2, f3⟩ := Dev.tabled_fields (d := d) hop ht hix
  have hget : ∀ g : Fld, g.addr ≠ R.GV_IMG_CELLS → g.addr ≠ R.GV_TRESULT →
      (x.put F.GV_TRESULT_CODE 0).get g = (d.tabled op table ix).get g := fun g ha hb =>
    (Dev.get_put_other x F.GV_TRESULT_CODE g 0 hb).trans (hw g ha)
  have hstate : (x.put F.GV_TRESULT_CODE 0).sapState = 5 :=
    ((hget F.SAP_STAT_STATE (by decide) (by decide)).trans (Dev.tabled_get (by decide))).trans hs
  have hcount : (x.put F.GV_TRESULT_CODE 0).get (F.ERR_COUNT_COUNT (pageBase (.gv 1))) =
      d.get (F.ERR_COUNT_COUNT (pageBase (.gv 1))) :=
    (hget _ (by decide) (by decide)).trans (Dev.tabled_get (by decide))
  rw [Dev.tableRow ident hop ht hix hr hl hgo he, hx, Dev.tableEnd_done, Dev.deltaCheck_table hs hstate hcount,
    deltaTouch_table, hget F.GV_TCMD_OP (by decide) (by decide), hget F.GV_TCMD_TABLE (by decide) (by decide),
    hget F.GV_TCMD_INDEX (by decide) (by decide), f1, f2, f3, if_pos h1]
  rfl

end

/-! ### READ -/

theorem Dev.word_putTdata (w : Nat → Nat) {a : Nat} (h : ∀ k, a ≠ (F.GV_TDATA_DATA k).addr) :
    (d.putTdata n w).word a = d.word a := by
  unfold Dev.putTdata
  induction n with
  | zero => rfl
  | succ n ih =>
    rw [List.range_succ, List.foldl_append, List.foldl_cons, List.foldl_nil, Dev.word_put_other _ _ _ _ (h n), ih]

theorem Dev.get_putTdata (w : Nat → Nat) {g : Fld} (h : ∀ k, g.addr ≠ (F.GV_TDATA_DATA k).addr) :
    (d.putTdata n w).get g = d.get g := Dev.get_of_word (Dev.word_putTdata w h)

theorem ne_tdata {a : Nat} (h : a < 0x801060) (k : Nat) : a ≠ (F.GV_TDATA_DATA k).addr := by
  unfold F.GV_TDATA_DATA R.GV_TDATA
  dsimp only
  omega

/-- R91: a READ shows words in GV_TDATA; the relay keeps nothing of it in mind. -/
theorem Dev.tableRow_read (w : Nat → Nat) (ht : table < 4) (hix : ix < 65536) (hr : d₀.reaches i R.GV_TCMD = some d)
    (hl : d.lockedWrite R.GV_TCMD (tcmdWord 0 table ix) = false) (hgo : d.flag F.GV_TCMD_GO = false)
    (he : isEngine i = false ∨ table ≠ 1)
    (hx : (d.tabled 0 table ix).tableCommand 0 table ix = ((d.tabled 0 table ix).putTdata n w, 0)) :
    d₀.anyRow ident i R.GV_TCMD (tcmdWord 0 table ix) =
      ((d.tabled 0 table ix).putTdata n w).put F.GV_TRESULT_CODE 0 := by
  by_cases hidle : i ≠ .mc ∨ d₀.sapState ≠ 5
  · exact Dev.tableRow_done (by decide) ht hix hr hl hgo he hidle hx
  · obtain ⟨hmc, hs⟩ := not_or.mp hidle
    obtain rfl := not_not.mp hmc
    obtain rfl := Dev.reaches_mc hr
    have hget : ∀ g : Fld, g.addr < 0x801060 → g.addr ≠ R.GV_TRESULT →
        (((d.tabled 0 table ix).putTdata n w).put F.GV_TRESULT_CODE 0).get g = (d.tabled 0 table ix).get g :=
      fun g ha hb => (Dev.get_put_other _ F.GV_TRESULT_CODE g 0 hb).trans (Dev.get_putTdata w (ne_tdata ha))
    have hcount : (((d.tabled 0 table ix).putTdata n w).put F.GV_TRESULT_CODE 0).get
        (F.ERR_COUNT_COUNT (pageBase (.gv 1))) = d.get (F.ERR_COUNT_COUNT (pageBase (.gv 1))) :=
      (hget _ (by decide) (by decide)).trans (Dev.tabled_get (by decide))
    have hstate : (((d.tabled 0 table ix).putTdata n w).put F.GV_TRESULT_CODE 0).sapState = 5 :=
      ((hget F.SAP_STAT_STATE (by decide) (by decide)).trans (Dev.tabled_get (by decide))).trans (not_not.mp hs)
    rw [Dev.tableRow ident (by decide) ht hix hr hl hgo he, hx, Dev.tableEnd_done,
      Dev.deltaCheck_table (not_not.mp hs) hstate hcount, deltaTouch_table, hget F.GV_TCMD_OP (by decide) (by decide),
      (Dev.tabled_fields (by decide) ht hix).1, if_neg (by decide)]
    rfl

end

end Sys2Proof.Machine
end

section
/-! The patterns of transforms, and the READ and WRITE of transforms, PDU descriptors and images (R85 to R91). -/

namespace Sys2Proof.Machine
open Sys2Proof

/-! ### Rows -/

section
variable {s : State} {i : Init} {ix : BitVec 16}

theorem exec_gvPduRead : exec (.gvPduRead i ix) s =
    .next (s.ends (s.dev.anyRow (idBlock s.id) i R.GV_TCMD (tcmdWord 0 0 ix.toNat))) :=
  act_eq_ends s (fun d => d.anyRow (idBlock s.id) i R.GV_TCMD (tcmdWord 0 0 ix.toNat))

theorem exec_gvPduWrite : exec (.gvPduWrite i ix) s =
    .next (s.ends (s.dev.anyRow (idBlock s.id) i R.GV_TCMD (tcmdWord 1 0 ix.toNat))) :=
  act_eq_ends s (fun d => d.anyRow (idBlock s.id) i R.GV_TCMD (tcmdWord 1 0 ix.toNat))

theorem exec_gvXfmWrite : exec (.gvXfmWrite i ix) s =
    .next (s.ends (s.dev.anyRow (idBlock s.id) i R.GV_TCMD (tcmdWord 1 1 ix.toNat))) :=
  act_eq_ends s (fun d => d.anyRow (idBlock s.id) i R.GV_TCMD (tcmdWord 1 1 ix.toNat))

theorem exec_gvImageRead : exec (.gvImageRead i ix) s =
    .next (s.ends (s.dev.anyRow (idBlock s.id) i R.GV_TCMD (tcmdWord 0 2 ix.toNat))) :=
  act_eq_ends s (fun d => d.anyRow (idBlock s.id) i R.GV_TCMD (tcmdWord 0 2 ix.toNat))

theorem exec_gvImageWrite : exec (.gvImageWrite i ix) s =
    .next (s.ends (s.dev.anyRow (idBlock s.id) i R.GV_TCMD (tcmdWord 1 2 ix.toNat))) :=
  act_eq_ends s (fun d => d.anyRow (idBlock s.id) i R.GV_TCMD (tcmdWord 1 2 ix.toNat))

end

/-! ### The tables (R91) -/

section
variable {d : Dev} {k : Nat}

theorem Dev.tableCommand_pduRead : d.tableCommand 0 0 k = (d.putTdata 8 (pduWord (d.pdu k)), 0) := rfl

theorem Dev.tableCommand_pduWrite : d.tableCommand 1 0 k = d.pduWrite k d.tdata := by
  unfold Dev.tableCommand
  dsimp only
  rw [if_neg (by decide), if_pos rfl, if_pos rfl]

theorem Dev.tableCommand_xfmWrite : d.tableCommand 1 1 k = d.xfmWrite k d.tdata := by
  unfold Dev.tableCommand
  dsimp only
  rw [if_neg (by decide), if_pos rfl, if_neg (by decide), if_pos rfl]

theorem Dev.tableCommand_imageRead : d.tableCommand 0 2 k =
    if pduIsTx (d.pdu k) && decide (32 * d.get F.GV_TOFF_OFFSET < pduLen (d.pdu k)) then
      (d.putTdata 8 (fun w => bitsOf (d.pdu k).image (8 * (32 * d.get F.GV_TOFF_OFFSET) + 32 * w) 32), 0)
    else (d, 0x010D) := rfl

theorem Dev.tableCommand_imageWrite : d.tableCommand 1 2 k = d.imageWrite k (32 * d.get F.GV_TOFF_OFFSET) d.tdata := by
  unfold Dev.tableCommand
  dsimp only
  rw [if_neg (by decide), if_pos rfl, if_neg (by decide), if_neg (by decide), if_pos rfl]

end

/-! ### Transforms (R85, R86) -/

/-- R86: a code from 1 to 3 names a pattern of the field's length, bit by bit. -/
theorem pattern_bits {code len i : Nat} (h1 : 1 ≤ code) (h3 : code ≤ 3) (hi : i < len) :
    ∃ x, pattern code len = some x ∧ x < 2 ^ len ∧
      bitOf x i = (if code = 1 then true else if code = 2 then i != 0 else i == len - 1) := by
  have hlen := Nat.two_pow_pos len
  have bit_testBit : ∀ x : Nat, bitOf x i = x.testBit i := fun x => by
    rw [bitOf, Nat.testBit_eq_decide_div_mod_eq]
    rfl
  obtain rfl | rfl | rfl : code = 1 ∨ code = 2 ∨ code = 3 := by omega
  · refine ⟨2 ^ len - 1, rfl, by omega, ?_⟩
    rw [bit_testBit, Nat.testBit_two_pow_sub_one, if_pos rfl, decide_eq_true hi]
  · obtain ⟨m, rfl⟩ : ∃ m, len = m + 1 := ⟨len - 1, by omega⟩
    have hx : 2 ^ (m + 1) - 2 = 2 * (2 ^ m - 1) := by omega
    refine ⟨2 ^ (m + 1) - 2, rfl, by omega, ?_⟩
    rw [bit_testBit, hx, if_neg (by decide), if_pos rfl]
    cases i with
    | zero => rw [Nat.testBit_zero, Nat.mul_mod_right]; rfl
    | succ i =>
      rw [Nat.testBit_succ, Nat.mul_div_cancel_left _ (by decide), Nat.testBit_two_pow_sub_one,
        decide_eq_true (by omega)]
      rfl
  · refine ⟨2 ^ (len - 1), rfl, Nat.pow_lt_pow_right (by decide) (by omega), ?_⟩
    rw [bit_testBit, Nat.testBit_two_pow, if_neg (by decide), if_neg (by decide), Bool.beq_eq_decide_eq]
    exact decide_eq_decide.mpr eq_comm

section
variable {d : Dev} {k raw lsrc w : Nat} {val : Int} {sgn : Bool}

/-- R87: a value of class 0 that is the first input pattern. -/
theorem Dev.transform_first (h : pattern (bitsOf (d.xfmWord k 3) 8 2) lsrc = some raw) :
    d.transform k 0 raw lsrc val w sgn = (pattern (bitsOf (d.xfmWord k 3) 12 2) w).map (fun p => (p, false)) := by
  unfold Dev.transform
  dsimp only
  rw [if_neg (by decide), if_pos (.inr ⟨rfl, h⟩)]

/-- R87: a value of class 0 that is the second. -/
theorem Dev.transform_second (h1 : pattern (bitsOf (d.xfmWord k 3) 8 2) lsrc ≠ some raw)
    (h2 : pattern (bitsOf (d.xfmWord k 3) 10 2) lsrc = some raw) :
    d.transform k 0 raw lsrc val w sgn = (pattern (bitsOf (d.xfmWord k 3) 14 2) w).map (fun p => (p, false)) := by
  unfold Dev.transform
  dsimp only
  rw [if_neg (by decide), if_neg (by rintro (h | ⟨-, h⟩); exacts [absurd h (by decide), h1 h]),
    if_pos (.inr ⟨rfl, h2⟩)]

end

theorem codesClash_iff {a b : Nat} : codesClash a b = true ↔ a ≠ 0 ∧ a = b := by
  rw [codesClash, Bool.and_eq_true, bne_iff_ne, beq_iff_eq]

/-- R85: word 3 keeps its codes. -/
theorem bitsOf_land_codes (c : Nat) {lo : Nat} (h8 : 8 ≤ lo) (h14 : lo ≤ 14) : bitsOf (Nat.land c 0xFF7F) lo 2 = bitsOf c lo 2 := by
  have hmask : ∀ lo, 8 ≤ lo → lo ≤ 14 → 0xFF7F / 2 ^ lo % 2 ^ 2 = 2 ^ 2 - 1 := by decide
  change (c &&& 0xFF7F) / 2 ^ lo % 2 ^ 2 = c / 2 ^ lo % 2 ^ 2
  rw [Nat.and_div_two_pow, Nat.and_mod_two_pow, hmask lo h8 h14,
    Nat.and_two_pow_sub_one_eq_mod, Nat.mod_mod]

/-- R86: a WRITE of a transform whose codes clash. -/
theorem Dev.xfmWrite_clash {d : Dev} {k : Nat} {w : Nat → Nat}
    (h : (bitsOf (w 3) 8 2 ≠ 0 ∧ bitsOf (w 3) 8 2 = bitsOf (w 3) 10 2) ∨
      (bitsOf (w 3) 12 2 ≠ 0 ∧ bitsOf (w 3) 12 2 = bitsOf (w 3) 14 2)) : d.xfmWrite k w = (d, 0x010D) := by
  unfold Dev.xfmWrite
  dsimp only
  rw [bitsOf_land_codes _ (by decide) (by decide), bitsOf_land_codes _ (by decide) (by decide),
    bitsOf_land_codes _ (by decide) (by decide), bitsOf_land_codes _ (by decide) (by decide)]
  refine if_pos ?_
  rw [Bool.or_eq_true, Bool.or_eq_true, codesClash_iff, codesClash_iff]
  rcases h with h | h
  · exact .inl (.inr h)
  · exact .inr h

/-- Settles O56: the patterns by their bits, the classes in the order that `Dev.transform` looks at them, and a WRITE
with codes that clash leaves the tables. -/
theorem transformPatterns : Obligations.TransformPatterns := by
  unfold Obligations.TransformPatterns
  refine ⟨fun _ => rfl, fun _ _ _ h1 h3 hi => pattern_bits h1 h3 hi, fun _ _ _ _ _ _ _ h => Dev.transform_first h,
    fun _ _ _ _ _ _ _ h1 h2 => Dev.transform_second h1 h2, ?refused⟩
  case refused =>
    intro s i ix d c hr hl hgo he hc h hm
    subst hc
    have hx : (d.tabled 1 1 ix.toNat).tableCommand 1 1 ix.toNat = (d.tabled 1 1 ix.toNat, 0x010D) := by
      rw [Dev.tableCommand_xfmWrite, Dev.xfmWrite_clash (by rwa [Dev.tabled_tdata])]
    rw [exec_gvXfmWrite, Dev.tableRow_refused (by decide) (by decide) ix.isLt hr hl hgo (.inl he) hm (by decide) hx,
      Dev.tabled]

end Sys2Proof.Machine
end

section
/-! The READ and WRITE of PDU descriptors and of images (R88, R89, R91). -/

namespace Sys2Proof.Machine
open Sys2Proof

/-! ### The descriptor that GV_TDATA spells -/

/-- R88, R91: the descriptor that a WRITE of entry k takes from GV_TDATA; the rest of the entry stays. -/
def Dev.spelled (d : Dev) (k : Nat) : PduEntry :=
  { d.pdu k with
    w0 := putBits (d.tdata 0) 28 1 0, w1 := d.tdata 1, w2 := d.tdata 2
    w3 := if bitOf (d.tdata 0) 30 then d.tdata 3 else bitsOf (d.tdata 3) 0 15
    w4 := putBits (d.tdata 4) 16 13 0, w5 := d.tdata 5, w6 := bitsOf (d.tdata 6) 0 26 }

section
variable {d : Dev} {k : Nat} {e : PduEntry}

theorem bitOf_putBits_other (v lo w x i : Nat) (h : i < lo ∨ lo + w ≤ i) : bitOf (putBits v lo w x) i = bitOf v i := by
  rw [bitOf_eq_bitsOf, bitsOf_putBits_other _ _ _ _ _ _ (by omega), bitOf_eq_bitsOf]

theorem Dev.pduValid_spelled : pduValid (d.spelled k) = bitOf (d.tdata 0) 31 :=
  bitOf_putBits_other _ _ _ _ _ (.inr (by decide))

theorem Dev.pduTx_spelled : pduTx (d.spelled k) = bitOf (d.tdata 0) 30 :=
  bitOf_putBits_other _ _ _ _ _ (.inr (by decide))

theorem Dev.spelled_rx (h : bitOf (d.tdata 0) 30 = false) : d.spelled k = { d.pdu k with
    w0 := putBits (d.tdata 0) 28 1 0, w1 := d.tdata 1, w2 := d.tdata 2, w3 := bitsOf (d.tdata 3) 0 15
    w4 := putBits (d.tdata 4) 16 13 0, w5 := d.tdata 5, w6 := bitsOf (d.tdata 6) 0 26 } := by
  rw [Dev.spelled, h, if_neg Bool.false_ne_true]

theorem Dev.spelled_tx (h : bitOf (d.tdata 0) 30 = true) : d.spelled k = { d.pdu k with
    w0 := putBits (d.tdata 0) 28 1 0, w1 := d.tdata 1, w2 := d.tdata 2, w3 := d.tdata 3
    w4 := putBits (d.tdata 4) 16 13 0, w5 := d.tdata 5, w6 := bitsOf (d.tdata 6) 0 26 } := by
  rw [Dev.spelled, h, if_pos rfl]

@[simp] theorem Dev.tabled_spelled {op table ix : Nat} : (d.tabled op table ix).spelled k = d.spelled k := by
  simp only [Dev.spelled, Dev.tabled_tdata, Dev.tabled_pdu]

@[simp] theorem Dev.tabled_duplicate {op table ix : Nat} : (d.tabled op table ix).pduDuplicate k e = d.pduDuplicate k e := by
  rw [Dev.pduDuplicate, Dev.tabled_gv, Dev.pduDuplicate]

/-! ### WRITE of a descriptor with VALID 1 -/

/-- R91: what a WRITE of a valid descriptor `e` does. -/
def Dev.pduStore (d : Dev) (k : Nat) (e : PduEntry) : Dev × Nat :=
  if pduInvalid e then (d, 0x010D)
  else if pduValid (d.pdu k) && (pduTx (d.pdu k) != pduTx e || pduBus (d.pdu k) != pduBus e ||
      pduLen (d.pdu k) != pduLen e) then (d, 0x010D)
  else if !pduTx e && d.pduDuplicate k e then (d, 0x010E)
  else if pduValid (d.pdu k) then (d.setPdu k e, 0)
  else if pduTx e && decide (d.get F.GV_IMG_CELLS_CELLS < d.get F.GV_IMG_CELLS_USED + imageCells (pduLen e)) then
    (d, 0x010F)
  else
    ((if pduTx e then d.put F.GV_IMG_CELLS_USED (d.get F.GV_IMG_CELLS_USED + imageCells (pduLen e)) else d).setPdu k
      { e with since := (if pduTx e then d.put F.GV_IMG_CELLS_USED (d.get F.GV_IMG_CELLS_USED + imageCells (pduLen e))
        else d).baseNs }, 0)

theorem Dev.pduWrite_valid (h : bitOf (d.tdata 0) 31 = true) : d.pduWrite k d.tdata = d.pduStore k (d.spelled k) := by
  have hv := (d.pduValid_spelled (k := k)).trans h
  cases htx : bitOf (d.tdata 0) 30 with
  | false =>
    rw [Dev.spelled_rx htx] at hv ⊢
    unfold Dev.pduWrite
    rw [htx]
    exact if_pos hv
  | true =>
    rw [Dev.spelled_tx htx] at hv ⊢
    unfold Dev.pduWrite
    rw [htx]
    exact if_pos hv

theorem Dev.pduStore_invalid (h : pduInvalid e = true) : d.pduStore k e = (d, 0x010D) := if_pos h

/-- R91: over a valid descriptor of another direction, bus or length. -/
theorem Dev.pduStore_unlike (hi : pduInvalid e = false) (hv : pduValid (d.pdu k) = true)
    (h : pduTx (d.pdu k) ≠ pduTx e ∨ pduBus (d.pdu k) ≠ pduBus e ∨ pduLen (d.pdu k) ≠ pduLen e) :
    d.pduStore k e = (d, 0x010D) := by
  have hne : (pduValid (d.pdu k) && (pduTx (d.pdu k) != pduTx e || pduBus (d.pdu k) != pduBus e ||
      pduLen (d.pdu k) != pduLen e)) = true := by
    rw [hv, Bool.true_and, Bool.or_eq_true, Bool.or_eq_true, bne_iff_ne, bne_iff_ne, bne_iff_ne]
    exact or_assoc.mpr h
  unfold Dev.pduStore
  rw [hi, if_neg Bool.false_ne_true, if_pos hne]

/-- R91: over a valid descriptor of the same direction, bus and length. -/
theorem Dev.pduStore_over (hi : pduInvalid e = false) (hv : pduValid (d.pdu k) = true) (htx : pduTx (d.pdu k) = pduTx e)
    (hb : pduBus (d.pdu k) = pduBus e) (hl : pduLen (d.pdu k) = pduLen e)
    (hd : pduTx e = true ∨ d.pduDuplicate k e = false) : d.pduStore k e = (d.setPdu k e, 0) := by
  have hdup : (!pduTx e && d.pduDuplicate k e) = false := by
    rcases hd with hd | hd
    · rw [hd, Bool.not_true, Bool.false_and]
    · rw [hd, Bool.and_false]
  unfold Dev.pduStore
  rw [hi, if_neg Bool.false_ne_true, htx, hb, hl, bne_self_eq_false, bne_self_eq_false, bne_self_eq_false, Bool.or_self,
    Bool.or_self, Bool.and_false, if_neg Bool.false_ne_true, hdup, if_neg Bool.false_ne_true, if_pos hv]

section
variable (hi : pduInvalid e = false) (hv : pduValid (d.pdu k) = false)
include hi hv

/-- R89: where none was valid, a receive PDU with the triple of another. -/
theorem Dev.pduStore_duplicate (htx : pduTx e = false) (hd : d.pduDuplicate k e = true) :
    d.pduStore k e = (d, 0x010E) := by
  unfold Dev.pduStore
  rw [hi, hv, htx, hd, if_neg Bool.false_ne_true, Bool.false_and, if_neg Bool.false_ne_true, Bool.not_false, Bool.and_self,
    if_pos rfl]

/-- R88, R101: where none was valid, a receive PDU with a new triple. -/
theorem Dev.pduStore_rx (htx : pduTx e = false) (hd : d.pduDuplicate k e = false) :
    d.pduStore k e = (d.setPdu k { e with since := d.baseNs }, 0) := by
  unfold Dev.pduStore
  rw [hi, hv, htx, hd, if_neg Bool.false_ne_true, Bool.false_and, if_neg Bool.false_ne_true, Bool.and_false,
    if_neg Bool.false_ne_true, if_neg Bool.false_ne_true, Bool.false_and, if_neg Bool.false_ne_true,
    if_neg Bool.false_ne_true]

/-- R91: where none was valid, a transmit PDU that needs more cells than there are. -/
theorem Dev.pduStore_full (htx : pduTx e = true)
    (hc : d.get F.GV_IMG_CELLS_CELLS < d.get F.GV_IMG_CELLS_USED + imageCells (pduLen e)) :
    d.pduStore k e = (d, 0x010F) := by
  unfold Dev.pduStore
  rw [hi, hv, htx, if_neg Bool.false_ne_true, Bool.false_and, if_neg Bool.false_ne_true, Bool.not_true, Bool.false_and,
    if_neg Bool.false_ne_true, if_neg Bool.false_ne_true, decide_eq_true hc, Bool.and_self, if_pos rfl]

/-- R91: where none was valid, a transmit PDU takes its image cells. -/
theorem Dev.pduStore_tx (htx : pduTx e = true)
    (hc : d.get F.GV_IMG_CELLS_USED + imageCells (pduLen e) ≤ d.get F.GV_IMG_CELLS_CELLS) :
    d.pduStore k e = ((d.put F.GV_IMG_CELLS_USED (d.get F.GV_IMG_CELLS_USED + imageCells (pduLen e))).setPdu k
      { e with since := d.baseNs }, 0) := by
  unfold Dev.pduStore
  rw [hi, hv, htx, if_neg Bool.false_ne_true, Bool.false_and, if_neg Bool.false_ne_true, Bool.not_true, Bool.false_and,
    if_neg Bool.false_ne_true, if_neg Bool.false_ne_true, decide_eq_false (Nat.not_lt.mpr hc), Bool.and_false,
    if_neg Bool.false_ne_true, if_pos rfl]
  rfl

end

/-! ### WRITE with VALID 0 -/

/-- R91: what a WRITE with VALID = 0 leaves. -/
def Dev.pduRemoved (d : Dev) (k : Nat) : Dev :=
  (d.pduInvalidate k).modPdu k (fun o => o.setWords (d.spelled k))

theorem Dev.pduWrite_off (h : bitOf (d.tdata 0) 31 = false) : d.pduWrite k d.tdata = (d.pduRemoved k, 0) := by
  have hv := (d.pduValid_spelled (k := k)).trans h
  have hno : ¬ pduValid (d.spelled k) = true := by
    rw [hv]
    exact Bool.false_ne_true
  unfold Dev.pduRemoved
  cases htx : bitOf (d.tdata 0) 30 with
  | false =>
    rw [Dev.spelled_rx htx] at hno ⊢
    unfold Dev.pduWrite
    rw [htx]
    exact if_neg hno
  | true =>
    rw [Dev.spelled_tx htx] at hno ⊢
    unfold Dev.pduWrite
    rw [htx]
    exact if_neg hno

@[simp] theorem Dev.pdu_setPdu_same : (d.setPdu k e).pdu k = e := tget_tset_same _ _ _

theorem Dev.pdu_setPdu_other {j : Nat} (h : j ≠ k) : (d.setPdu k e).pdu j = d.pdu j := tget_tset_other _ _ _ _ h

@[simp] theorem Dev.pdu_modPdu_same {f : PduEntry → PduEntry} : (d.modPdu k f).pdu k = f (d.pdu k) := tget_tset_same _ _ _

theorem Dev.pdu_modPdu_other {f : PduEntry → PduEntry} {j : Nat} (h : j ≠ k) : (d.modPdu k f).pdu j = d.pdu j :=
  Dev.pdu_setPdu_other h

theorem pduStatus_zero (h1 : e.timedOut = false) (h2 : e.pending = false) (h3 : e.coalesced = 0) : pduStatus e = 0 := by
  rw [pduStatus, h1, h2, h3, boolNat, if_neg Bool.false_ne_true, Nat.zero_mul, Nat.zero_mul]

theorem pduStatus_setWords (o e : PduEntry) : pduStatus (o.setWords e) = pduStatus o := by
  rw [pduStatus, PduEntry.setWords, pduStatus]

theorem pduValid_setWords (o e : PduEntry) : pduValid (o.setWords e) = pduValid e := by
  rw [pduValid, PduEntry.setWords, pduValid]

/-- R91: an invalid descriptor has no status. -/
theorem Dev.pduInvalidate_status : pduStatus ((d.pduInvalidate k).pdu k) = 0 := by
  unfold Dev.pduInvalidate
  dsimp only
  split
  · rw [Dev.pdu_modPdu_same]
    exact pduStatus_zero rfl rfl rfl
  · rw [Dev.pdu_modPdu_same]
    exact pduStatus_zero rfl rfl rfl

theorem Dev.pduInvalidate_other {j : Nat} (h : j ≠ k) : (d.pduInvalidate k).pdu j = d.pdu j := by
  unfold Dev.pduInvalidate
  dsimp only
  split
  · rw [Dev.pdu_modPdu_other h]
    split
    · rfl
    · rfl
  · exact Dev.pdu_modPdu_other h

theorem Dev.pduInvalidate_get {g : Fld} (h : g.addr ≠ R.GV_IMG_CELLS) : (d.pduInvalidate k).get g = d.get g := by
  unfold Dev.pduInvalidate
  dsimp only
  split
  · split
    · exact Dev.get_put_other _ F.GV_IMG_CELLS_USED g _ h
    · rfl
  · rfl

@[simp] theorem Dev.pdu_put {f : Fld} {v : Nat} : (d.put f v).pdu k = d.pdu k := by
  rw [Dev.pdu, Dev.put_gv, Dev.pdu]

@[simp] theorem Dev.pdu_modSap {f : SapSt → SapSt} : (d.modSap f).pdu k = d.pdu k := by
  rw [Dev.pdu, Dev.modSap_gv, Dev.pdu]

theorem Dev.pduRemoved_get {g : Fld} (h : g.addr ≠ R.GV_IMG_CELLS) : (d.pduRemoved k).get g = d.get g := by
  rw [Dev.pduRemoved, Dev.modPdu_get, Dev.pduInvalidate_get h]

theorem Dev.pduRemoved_reads (h : bitOf (d.tdata 0) 31 = false) : pduValid ((d.pduRemoved k).pdu k) = false ∧
    pduStatus ((d.pduRemoved k).pdu k) = 0 ∧ ((d.pduRemoved k).pdu k).w1 = d.tdata 1 ∧
    ((d.pduRemoved k).pdu k).w2 = d.tdata 2 ∧ ∀ j, j ≠ k → (d.pduRemoved k).pdu j = d.pdu j := by
  have hw : (d.spelled k).w1 = d.tdata 1 ∧ (d.spelled k).w2 = d.tdata 2 := by
    rw [Dev.spelled]
    exact ⟨rfl, rfl⟩
  unfold Dev.pduRemoved
  rw [Dev.pdu_modPdu_same, pduValid_setWords, pduStatus_setWords, Dev.pduValid_spelled, Dev.pduInvalidate_status]
  exact ⟨h, rfl, hw.1, hw.2, fun j hj => (Dev.pdu_modPdu_other hj).trans (Dev.pduInvalidate_other hj)⟩

/-! ### Images -/

theorem Dev.imageWrite_within {off : Nat} (htx : pduIsTx (d.pdu k) = true) (ho : off < pduLen (d.pdu k)) :
    d.imageWrite k off d.tdata = (d.setPdu k { d.pdu k with image := cutImage (pduLen (d.pdu k)) (putBits
      (d.pdu k).image (8 * off) 256 ((List.range 8).foldl (fun a j => a + d.tdata j * 2 ^ (32 * j)) 0)) }, 0) := by
  unfold Dev.imageWrite
  dsimp only
  rw [htx, decide_eq_true ho, Bool.and_self, if_pos rfl, Dev.modPdu]

theorem Dev.imageWrite_elsewhere {off : Nat} (h : pduIsTx (d.pdu k) = false ∨ pduLen (d.pdu k) ≤ off) :
    d.imageWrite k off d.tdata = (d, 0x010D) := by
  have hno : (pduIsTx (d.pdu k) && decide (off < pduLen (d.pdu k))) = false := by
    rw [Bool.and_eq_false_iff, decide_eq_false_iff_not, Nat.not_lt]
    exact h
  unfold Dev.imageWrite
  dsimp only
  rw [hno, if_neg Bool.false_ne_true]

end

/-! ### Rows -/

theorem Dev.tabled_toff {d : Dev} {op table k : Nat} : (d.tabled op table k).get F.GV_TOFF_OFFSET = d.get F.GV_TOFF_OFFSET :=
  Dev.tabled_get (by decide)

theorem Dev.tresult_zero (x : Dev) : (x.put F.GV_TRESULT_CODE 0).get F.GV_TRESULT_CODE = 0 :=
  (x.get_put F.GV_TRESULT_CODE 0 (by decide)).trans (Nat.zero_mod _)

theorem Dev.tabled_cells {d : Dev} {op table k : Nat} :
    (d.tabled op table k).get F.GV_IMG_CELLS_CELLS = d.get F.GV_IMG_CELLS_CELLS ∧
      (d.tabled op table k).get F.GV_IMG_CELLS_USED = d.get F.GV_IMG_CELLS_USED :=
  ⟨Dev.tabled_get (by decide), Dev.tabled_get (by decide)⟩

section
variable {s : State} {i : Init} {ix : BitVec 16} {d : Dev}
variable (hr : s.dev.reaches i R.GV_TCMD = some d) (hgo : d.flag F.GV_TCMD_GO = false)
include hr hgo

section
variable (hl : d.lockedWrite R.GV_TCMD (tcmdWord 1 0 ix.toNat) = false) (hv : bitOf (d.tdata 0) 31 = true)
  (hm : i ≠ .mc ∨ s.dev.sapState ≠ 5)
include hl hv hm

/-- R91: GV_PDU_WRITE of a valid descriptor that is refused. -/
theorem gvPduWrite_refused {code : Nat} (h0 : code ≠ 0)
    (hx : (d.tabled 1 0 ix.toNat).pduStore ix.toNat (d.spelled ix.toNat) = (d.tabled 1 0 ix.toNat, code)) :
    exec (.gvPduWrite i ix) s = .next (s.ends (((d.commanded R.GV_TCMD (tcmdWord 1 0 ix.toNat) F.GV_TCMD_GO).put
      F.GV_TRESULT_CODE code).recordErr (.gv 1) (initCode i) R.GV_TCMD code)) := by
  have hc : (d.tabled 1 0 ix.toNat).tableCommand 1 0 ix.toNat = (d.tabled 1 0 ix.toNat, code) := by
    rw [Dev.tableCommand_pduWrite, Dev.pduWrite_valid (by rw [Dev.tabled_tdata, hv]), Dev.tabled_spelled, hx]
  rw [exec_gvPduWrite, Dev.tableRow_refused (by decide) (by decide) ix.isLt hr hl hgo (.inr (by decide)) hm h0 hc,
    Dev.tabled]

/-- R91: GV_PDU_WRITE of a valid descriptor that is taken. -/
theorem gvPduWrite_taken {x : Dev}
    (hx : (d.tabled 1 0 ix.toNat).pduStore ix.toNat (d.spelled ix.toNat) = (x, 0)) :
    exec (.gvPduWrite i ix) s = .next (s.ends (x.put F.GV_TRESULT_CODE 0)) := by
  have hc : (d.tabled 1 0 ix.toNat).tableCommand 1 0 ix.toNat = (x, 0) := by
    rw [Dev.tableCommand_pduWrite, Dev.pduWrite_valid (by rw [Dev.tabled_tdata, hv]), Dev.tabled_spelled, hx]
  rw [exec_gvPduWrite, Dev.tableRow_done (by decide) (by decide) ix.isLt hr hl hgo (.inr (by decide)) hm hc]

end

end

/-- Settles O12: a WRITE is judged by `Dev.pduStore` on the descriptor that GV_TDATA spells, or removes it; the relay
looks at a command only in an activation, and then a READ touches nothing. -/
theorem pduDescriptorsAndImages : Obligations.PduDescriptorsAndImages := by
  unfold Obligations.PduDescriptorsAndImages
  refine ⟨?read, ?rx, ?duplicate, ?invalid, ?delta, ?replaced, ?unlike, ?full, ?tx, ?off, ?imageRead, ?imageWrite,
    ?imageReadNo, ?imageWriteNo⟩
  case read =>
    intro s i ix d hr hl hgo
    rw [exec_gvPduRead, Dev.tableRow_read (pduWord (d.pdu ix.toNat)) (by decide) ix.isLt hr hl hgo (.inr (by decide))
      (by rw [Dev.tableCommand_pduRead, Dev.tabled_pdu]), Dev.tabled]
  case rx =>
    intro s i ix d e hr hl hgo hv htx he hi hnew hd hm
    obtain rfl : e = d.spelled ix.toNat := he.trans (Dev.spelled_rx htx).symm
    rw [gvPduWrite_taken hr hgo hl hv hm (Dev.pduStore_rx hi (by rw [Dev.tabled_pdu, hnew])
      (by rw [Dev.pduTx_spelled, htx]) (by rw [Dev.tabled_duplicate, hd])), Dev.tabled_baseNs, Dev.tabled]
  case duplicate =>
    intro s i ix d e hr hl hgo hv htx he hi hnew hd hm
    obtain rfl : e = d.spelled ix.toNat := he.trans (Dev.spelled_rx htx).symm
    exact gvPduWrite_refused hr hgo hl hv hm (by decide) (Dev.pduStore_duplicate hi (by rw [Dev.tabled_pdu, hnew])
      (by rw [Dev.pduTx_spelled, htx]) (by rw [Dev.tabled_duplicate, hd]))
  case invalid =>
    intro s i ix d e hr hl hgo hv he hi hm
    obtain rfl : e = d.spelled ix.toNat := he
    exact gvPduWrite_refused hr hgo hl hv hm (by decide) (Dev.pduStore_invalid hi)
  case delta =>
    intro s i ix d e himc hs hr hl hgo hv htx he hi hnew hd
    obtain rfl : e = d.spelled ix.toNat := he.trans (Dev.spelled_rx htx).symm
    have hc : (d.tabled 1 0 ix.toNat).tableCommand 1 0 ix.toNat = ((d.tabled 1 0 ix.toNat).setPdu ix.toNat
        { d.spelled ix.toNat with since := d.baseNs }, 0) := by
      rw [Dev.tableCommand_pduWrite, Dev.pduWrite_valid (by rw [Dev.tabled_tdata, hv]), Dev.tabled_spelled,
        Dev.pduStore_rx hi (by rw [Dev.tabled_pdu, hnew]) (by rw [Dev.pduTx_spelled, htx])
          (by rw [Dev.tabled_duplicate, hd]), Dev.tabled_baseNs]
    rw [exec_gvPduWrite, Dev.tableRow_touches (by decide) (by decide) ix.isLt hr hl hgo (.inr (by decide)) himc hs rfl hc
      (fun g _ => Dev.setPdu_get _ _ _ g), Dev.tabled]
  case replaced =>
    intro s i ix d e hr hl hgo hv he hi hold htx hb hlen hd hm
    obtain rfl : e = d.spelled ix.toNat := he
    rw [gvPduWrite_taken hr hgo hl hv hm (Dev.pduStore_over hi (by rw [Dev.tabled_pdu, hold])
      (by rw [Dev.tabled_pdu, htx]) (by rw [Dev.tabled_pdu, hb]) (by rw [Dev.tabled_pdu, hlen])
      (by rwa [Dev.tabled_duplicate])), Dev.tabled]
  case unlike =>
    intro s i ix d e hr hl hgo hv he hi hold hne hm
    obtain rfl : e = d.spelled ix.toNat := he
    exact gvPduWrite_refused hr hgo hl hv hm (by decide) (Dev.pduStore_unlike hi (by rw [Dev.tabled_pdu, hold])
      (by rwa [Dev.tabled_pdu]))
  case full =>
    intro s i ix d e hr hl hgo hv htx he hi hnew hc hm
    obtain rfl : e = d.spelled ix.toNat := he
    exact gvPduWrite_refused hr hgo hl hv hm (by decide) (Dev.pduStore_full hi (by rw [Dev.tabled_pdu, hnew])
      (by rw [Dev.pduTx_spelled, htx]) (by rwa [Dev.tabled_cells.1, Dev.tabled_cells.2]))
  case tx =>
    intro s i ix d e hr hl hgo hv htx he hi hnew hc hm
    obtain rfl : e = d.spelled ix.toNat := he.trans (Dev.spelled_tx htx).symm
    rw [gvPduWrite_taken hr hgo hl hv hm (Dev.pduStore_tx hi (by rw [Dev.tabled_pdu, hnew])
      (by rw [Dev.pduTx_spelled, htx]) (by rwa [Dev.tabled_cells.1, Dev.tabled_cells.2])), Dev.tabled_cells.2,
      Dev.tabled_baseNs, Dev.tabled]
  case off =>
    intro s i ix d hr hl hgo hv
    have hc : (d.tabled 1 0 ix.toNat).tableCommand 1 0 ix.toNat = ((d.tabled 1 0 ix.toNat).pduRemoved ix.toNat, 0) := by
      rw [Dev.tableCommand_pduWrite, Dev.pduWrite_off (by rw [Dev.tabled_tdata, hv])]
    obtain ⟨h1, h2, h3, h4, h5⟩ := Dev.pduRemoved_reads (d := d.tabled 1 0 ix.toNat) (k := ix.toNat)
      (by rw [Dev.tabled_tdata, hv])
    rw [Dev.tabled_tdata] at h3 h4
    have hcode : (((d.tabled 1 0 ix.toNat).pduRemoved ix.toNat).put F.GV_TRESULT_CODE 0).get F.GV_TRESULT_CODE = 0 :=
      Dev.tresult_zero _
    have hother : ∀ k, k ≠ ix.toNat → ((d.tabled 1 0 ix.toNat).pduRemoved ix.toNat).pdu k = d.pdu k := fun k hk =>
      (h5 k hk).trans (Dev.tabled_pdu k)
    by_cases hidle : i ≠ .mc ∨ s.dev.sapState ≠ 5
    · refine ⟨((d.tabled 1 0 ix.toNat).pduRemoved ix.toNat).put F.GV_TRESULT_CODE 0, ?_, ?_⟩
      · rw [exec_gvPduWrite, Dev.tableRow_done (by decide) (by decide) ix.isLt hr hl hgo (.inr (by decide)) hidle hc]
      · simp only [Dev.pdu_put]
        exact ⟨h1, h2, h3, h4, hother, hcode⟩
    · obtain ⟨hmc, hs⟩ := not_or.mp hidle
      refine ⟨(((d.tabled 1 0 ix.toNat).pduRemoved ix.toNat).put F.GV_TRESULT_CODE 0).modSap (fun x =>
        { x with touched := (1, ix.toNat) :: x.touched }), ?_, ?_⟩
      · rw [exec_gvPduWrite, Dev.tableRow_touches (by decide) (by decide) ix.isLt hr hl hgo (.inr (by decide))
          (not_not.mp hmc) (not_not.mp hs) rfl hc (fun g hg => Dev.pduRemoved_get hg)]
      · rw [Dev.modSap_get]
        simp only [Dev.pdu_modSap, Dev.pdu_put]
        exact ⟨h1, h2, h3, h4, hother, hcode⟩
  case imageRead =>
    intro s i ix d hr hl hgo htx ho
    rw [exec_gvImageRead, Dev.tableRow_read (fun k => bitsOf (d.pdu ix.toNat).image
      (8 * (32 * d.get F.GV_TOFF_OFFSET) + 32 * k) 32) (by decide) ix.isLt hr hl hgo (.inr (by decide))
      (by rw [Dev.tableCommand_imageRead, Dev.tabled_pdu, Dev.tabled_toff, htx, decide_eq_true ho, Bool.and_self, if_pos rfl]),
      Dev.tabled]
  case imageWrite =>
    intro s i ix d hr hl hgo htx ho hm
    have hc := Dev.imageWrite_within (d := d.tabled 1 2 ix.toNat) (by rwa [Dev.tabled_pdu]) (by rwa [Dev.tabled_pdu])
    rw [Dev.tabled_pdu, Dev.tabled_tdata, ← Dev.tabled_toff, ← Dev.tabled_tdata, ← Dev.tableCommand_imageWrite,
      Dev.tabled_toff, Dev.tabled_tdata] at hc
    rw [exec_gvImageWrite, Dev.tableRow_done (by decide) (by decide) ix.isLt hr hl hgo (.inr (by decide)) hm hc, Dev.tabled]
  case imageReadNo =>
    intro s i ix d hr hl hgo h hm
    have hno : (pduIsTx (d.pdu ix.toNat) && decide (32 * d.get F.GV_TOFF_OFFSET < pduLen (d.pdu ix.toNat))) = false := by
      rw [Bool.and_eq_false_iff, decide_eq_false_iff_not, Nat.not_lt]
      exact h
    rw [exec_gvImageRead, Dev.tableRow_refused (by decide) (by decide) ix.isLt hr hl hgo (.inr (by decide)) hm
      (code := 0x010D) (by decide) (by rw [Dev.tableCommand_imageRead, Dev.tabled_pdu, Dev.tabled_toff, hno, if_neg Bool.false_ne_true]), Dev.tabled]
  case imageWriteNo =>
    intro s i ix d hr hl hgo h hm
    rw [exec_gvImageWrite, Dev.tableRow_refused (by decide) (by decide) ix.isLt hr hl hgo (.inr (by decide)) hm
      (code := 0x010D) (by decide) (by rw [Dev.tableCommand_imageWrite, Dev.imageWrite_elsewhere (by rwa [Dev.tabled_pdu, Dev.tabled_toff])]), Dev.tabled]

end Sys2Proof.Machine
end

section
/-! Instances, destination queues and reception timeouts (R92, R93, R98, R99, R101, R112). -/

namespace Sys2Proof.Machine
open Sys2Proof

/-! ### Contexts of threads -/

section
variable {d : Dev} {t k : Nat} {c : ThreadCtx} {f : ThreadCtx → ThreadCtx}

@[simp] theorem Dev.thr_modThr_same : (d.modThr t f).thr t = f (d.thr t) := tget_tset_same _ _ _

theorem Dev.thr_modThr_other (h : k ≠ t) : (d.modThr t f).thr k = d.thr k := tget_tset_other _ _ _ _ h

@[simp] theorem Dev.baseNs_modThr : (d.modThr t f).baseNs = d.baseNs := by rw [Dev.baseNs, Dev.modThr_tl, Dev.baseNs]

theorem Dev.arb_modThr : (d.modThr t f).gv.arb = d.gv.arb := rfl

theorem setX_beside (c : ThreadCtx) (rd v : Nat) :
    (setX c rd v).inst = c.inst ∧ (setX c rd v).stage = c.stage ∧ (setX c rd v).pc = c.pc := by
  unfold setX
  split
  · exact ⟨rfl, rfl, rfl⟩
  · exact ⟨rfl, rfl, rfl⟩

/-- R116: a result goes to x[rd]. -/
theorem setX_result (c : ThreadCtx) {rd : Nat} (v : Nat) (h : rd ≠ 0) : tget (setX c rd v).x rd = BitVec.ofNat 32 v := by
  rw [setX, if_neg h]
  exact tget_tset_same _ _ _

end

/-! ### Hand-over (R112) -/

section
variable {d : Dev} {t t₂ partner rd k : Nat} {x : Instance}

/-- R112: what a thread finds once x is handed to it at `ns`. -/
def handed (c : ThreadCtx) (ns partner rd : Nat) (x : Instance) : ThreadCtx :=
  { setX { c with inst := some { x with partner, start := ns }, stage := {} } rd
      (x.pdu + boolNat x.timeout * 2 ^ 16 + boolNat x.paired * 2 ^ 17) with
    st := .ready, pc := (c.pc + 4) % 2 ^ 32, busy := ns + (40 + if x.timeout then 0 else (x.rxlen + 31) / 32) }

theorem Dev.thr_deliver_same : (d.deliver t partner rd x).thr t = handed (d.thr t) d.baseNs partner rd x := by
  unfold Dev.deliver Dev.busyFor Dev.gxDone
  rw [Dev.thr_modThr_same, Dev.thr_modThr_same, Dev.thr_modThr_same, Dev.baseNs_modThr, Dev.baseNs_modThr]
  rfl

theorem Dev.thr_deliver_other (h : k ≠ t) : (d.deliver t partner rd x).thr k = d.thr k := by
  unfold Dev.deliver Dev.busyFor Dev.gxDone
  rw [Dev.thr_modThr_other h, Dev.thr_modThr_other h, Dev.thr_modThr_other h]

theorem Dev.deliver_beside : (d.deliver t partner rd x).baseNs = d.baseNs ∧
    (d.deliver t partner rd x).gv.arb = d.gv.arb ∧ (d.deliver t partner rd x).regs = d.regs := by
  unfold Dev.deliver Dev.busyFor Dev.gxDone
  rw [Dev.baseNs_modThr, Dev.baseNs_modThr, Dev.baseNs_modThr, Dev.arb_modThr, Dev.arb_modThr, Dev.arb_modThr,
    Dev.modThr_regs, Dev.modThr_regs, Dev.modThr_regs]
  exact ⟨rfl, rfl, rfl⟩

theorem handed_reads (c : ThreadCtx) (ns partner rd : Nat) (x : Instance) :
    (handed c ns partner rd x).inst = some { x with partner, start := ns } ∧ (handed c ns partner rd x).stage = {} ∧
      (handed c ns partner rd x).st = .ready ∧ (handed c ns partner rd x).pc = (c.pc + 4) % 2 ^ 32 ∧
      (rd ≠ 0 → tget (handed c ns partner rd x).x rd =
        BitVec.ofNat 32 (x.pdu + boolNat x.timeout * 2 ^ 16 + boolNat x.paired * 2 ^ 17)) ∧
      (handed c ns partner rd x).busy = ns + (40 + if x.timeout then 0 else (x.rxlen + 31) / 32) := by
  obtain ⟨hi, hs, -⟩ := setX_beside { c with inst := some { x with partner, start := ns }, stage := {} } rd
    (x.pdu + boolNat x.timeout * 2 ^ 16 + boolNat x.paired * 2 ^ 17)
  exact ⟨hi, hs, rfl, rfl, setX_result _ _, rfl⟩

/-- R112: the device whose arbiter holds one fewer of its instances. -/
def Dev.arbTaken (d : Dev) : Dev := { d with gv := { d.gv with arb := none } }

theorem Dev.arbTaken_reads (d : Dev) : (∀ k, d.arbTaken.thr k = d.thr k) ∧ d.arbTaken.gv.arb = none ∧
    d.arbTaken.baseNs = d.baseNs ∧ d.arbTaken.regs = d.regs := ⟨fun _ => rfl, rfl, rfl, rfl⟩

/-- R112: what is no timeout is not dropped while the arbiter holds it. -/
theorem Dev.fillArb_holds (ha : d.gv.arb = some x) (ht : x.timeout = false) : d.fillArb = d := by
  have hs : d.dropStale = d := by
    unfold Dev.dropStale
    rw [ha]
    dsimp only
    rw [ht, Bool.false_and, if_neg Bool.false_ne_true]
  unfold Dev.fillArb
  dsimp only
  rw [hs, ha]
  exact if_pos rfl

theorem Dev.handover_idle (h : d.waits t = false) : d.handover t t₂ = d := by
  rw [Dev.handover, h, if_neg Bool.false_ne_true]

section
variable (hw : d.waits t = true) (hst : (d.thr t).st = .awaitWork rd) (ha : d.gv.arb = some x) (ht : x.timeout = false)
include hw hst ha ht

theorem Dev.handover_eq : d.handover t t₂ = d.handTo t t₂ rd := by
  rw [Dev.handover, hw, if_pos rfl, Dev.fillArb_holds ha ht, Dev.waitRd, hst]

theorem Dev.handover_single (hp : x.paired = false) : d.handover t t₂ = d.arbTaken.deliver t 0 rd x := by
  rw [Dev.handover_eq hw hst ha ht, Dev.handTo, ha]
  dsimp only
  rw [hp, if_neg Bool.false_ne_true, Dev.arbTaken]

theorem Dev.handover_pair (hp : x.paired = true) (hw₂ : d.waits t₂ = true) (hne : t / 8 ≠ t₂ / 8) :
    d.handover t t₂ = (d.arbTaken.deliver t t₂ rd x).deliver t₂ t (d.waitRd t₂) x := by
  have hok : (t₂ / 8 != t / 8 && d.waits t₂) = true := by
    rw [hw₂, Bool.and_true, bne_iff_ne]
    exact hne.symm
  rw [Dev.handover_eq hw hst ha ht, Dev.handTo, ha]
  dsimp only
  rw [hp, if_pos rfl, hok, if_pos rfl, Dev.arbTaken]

end

end

/-! ### Commit (R92, R93, R326) -/

section
variable {d : Dev} {t rd : Nat} {x : Instance}

theorem Dev.instanceCommit_single (hst : (d.thr t).st = .committing rd) (hi : (d.thr t).inst = some x)
    (hf : d.isFront x = true) (hp : x.paired = false) :
    d.instanceCommit t = ((d.commitStage x (d.thr t).stage).endItem x.src x.serial).leave t rd := by
  unfold Dev.instanceCommit
  dsimp only
  rw [hst, hi]
  dsimp only
  rw [hf, hp, Bool.not_true, if_neg Bool.false_ne_true, if_neg Bool.false_ne_true]

theorem Dev.instanceCommit_waits (hst : (d.thr t).st = .committing rd) (hi : (d.thr t).inst = some x)
    (hf : d.isFront x = false) : d.instanceCommit t = d := by
  unfold Dev.instanceCommit
  dsimp only
  rw [hst, hi]
  dsimp only
  rw [hf, Bool.not_false, if_pos rfl]

/-- R326: the error of what is read for a thread, reported and counted. -/
def Dev.instanceFault (d : Dev) (t : Nat) (err : Fin 3) : Dev :=
  (if err = 1 then (d.free 2).2.dbe (1 + (d.free 2).1) else d.report 3 0).bump (F.ENG_FAULTS_COUNT (t / 8))

/-- R326: the kind of error that a code names. -/
theorem Dev.instanceFault_eq (err : Fin 3) : (if (if err = 1 then 1 else 3) = 1 then (d.free 2).2.dbe (1 + (d.free 2).1)
    else d.report (if err = 1 then 1 else 3) 0).bump (F.ENG_FAULTS_COUNT (t / 8)) = d.instanceFault t err := by
  unfold Dev.instanceFault
  by_cases h1 : err = 1
  · rw [if_pos h1, if_pos h1, if_pos rfl]
  · rw [if_neg h1, if_neg h1, if_neg (by decide)]

theorem Dev.instanceErr_ends {err : Fin 3} (hst : (d.thr t).st = .committing rd) (hi : (d.thr t).inst = some x)
    (hp : x.paired = false) (he : x.ended = false) : d.instanceErr t (if err = 1 then 1 else 3) =
      (((d.instanceFault t err).rxEvents x []).endItem x.src x.serial).leave t rd := by
  unfold Dev.instanceErr
  dsimp only
  rw [hi]
  dsimp only
  rw [he, if_neg Bool.false_ne_true, hst]
  dsimp only
  rw [hp, if_neg Bool.false_ne_true, Dev.instanceFault_eq]

theorem Dev.instanceErr_aborts {err : Fin 3} (hst : (d.thr t).st = .ready) (hi : (d.thr t).inst = some x)
    (he : x.ended = false) : d.instanceErr t (if err = 1 then 1 else 3) = (d.instanceFault t err).abortStage t := by
  unfold Dev.instanceErr
  dsimp only
  rw [hi]
  dsimp only
  rw [he, if_neg Bool.false_ne_true, hst]
  dsimp only
  rw [Dev.instanceFault_eq]

end

/-! ### Destination queues (R98, R99, R104) -/

section
variable {d : Dev} {k n : Nat} {rest : List GvItem} {it : GvItem}

@[simp] theorem Dev.queue_setQueue_same (q : List GvItem) : (d.setQueue k q).queue k = q := tget_tset_same _ _ _

theorem Dev.popQueue_queue (h : d.queue k = it :: rest) : (d.popQueue k it).queue k = rest := by
  have hq : (d.setQueue k ((d.queue k).drop 1)).queue k = rest := by rw [Dev.queue_setQueue_same, h, List.drop_one, List.tail_cons]
  unfold Dev.popQueue
  cases it with
  | pdu n => exact hq
  | event e => exact hq

theorem Dev.popQueue_pdu : ((d.popQueue k (.pdu n)).pdu n).pending = false ∧
    ((d.popQueue k (.pdu n)).pdu n).lastSend = some d.baseNs := by
  unfold Dev.popQueue
  dsimp only
  rw [Dev.pdu_modPdu_same]
  exact ⟨rfl, rfl⟩

/-- R99: Grove is on, and the mode is not M3. -/
def Dev.sends (d : Dev) : Prop := d.released (.gv 0) = true ∧ d.enabled (.gv 0) = true ∧ d.mode ≠ 3

theorem Dev.sends.open (hs : d.sends) (hg : d.gapOver it = true) :
    (!d.released (.gv 0) || !d.enabled (.gv 0) || d.mode == 3 || !d.gapOver it) = false := by
  obtain ⟨hr, he, hm⟩ := hs
  rw [hr, he, beq_eq_false_iff_ne.mpr hm, hg, Bool.not_true, Bool.or_self, Bool.or_self, Bool.or_self]

section
variable (hs : d.sends)
include hs

/-- R99: the head of a CAN channel's queue goes into a free slot. -/
theorem Dev.destAccept_can {c : Fin 64} {slot : Nat} (hq : d.queue c = .pdu n :: rest) (hg : d.gapOver (.pdu n) = true)
    (hslot : d.sendSlot (canC c) = some slot) :
    d.destAccept (.can c) = (d.popQueue c (.pdu n)).sendElement (canC c) slot (d.pdu n) := by
  unfold Dev.destAccept destIndex
  dsimp only
  rw [hq]
  dsimp only
  rw [hs.open hg, if_neg Bool.false_ne_true, hslot]

theorem Dev.destAccept_lin {c : Fin 16} {slot : Nat} (hq : d.queue (64 + c) = .pdu n :: rest)
    (hg : d.gapOver (.pdu n) = true) (hslot : d.sendSlot (linC c) = some slot) :
    d.destAccept (.lin c) = (d.popQueue (64 + c) (.pdu n)).sendElement (linC c) slot (d.pdu n) := by
  unfold Dev.destAccept destIndex
  dsimp only
  rw [hq]
  dsimp only
  rw [hs.open hg, if_neg Bool.false_ne_true, hslot]

theorem Dev.destAccept_port26 (hq : d.queue 80 = .pdu n :: rest) (hg : d.gapOver (.pdu n) = true)
    (ha : (d.port 26).admitted = true) : d.destAccept .port26 = (d.popQueue 80 (.pdu n)).sendFrame n := by
  unfold Dev.destAccept destIndex
  dsimp only
  rw [hq]
  dsimp only
  rw [hs.open hg, if_neg Bool.false_ne_true, if_pos ha]

theorem Dev.destAccept_host {q : Fin 16} {p r : Nat} (hq : d.queue (81 + q) = it :: rest) (hg : d.gapOver it = true)
    (hring : d.queueRing q = some (p, r)) : d.destAccept (.host q) = (d.popQueue (81 + q) it).sendHost p r it := by
  unfold Dev.destAccept destIndex
  dsimp only
  rw [hq]
  dsimp only
  rw [hs.open hg, if_neg Bool.false_ne_true, hring]

end

theorem Dev.destAccept_gap {x : GvDest} (hq : d.queue (destIndex x) = it :: rest) (hg : d.gapOver it = false) :
    d.destAccept x = d := by
  unfold Dev.destAccept
  dsimp only
  rw [hq]
  dsimp only
  rw [hg, Bool.not_false, Bool.or_true, if_pos rfl]

theorem Dev.gapOver_early {t : Nat} (hl : (d.pdu n).lastSend = some t) (hb : d.baseNs < t + pduGapUs (d.pdu n) * 1000) :
    d.gapOver (.pdu n) = false := by
  unfold Dev.gapOver
  dsimp only
  rw [hl]
  exact decide_eq_false (Nat.not_le.mpr hb)

/-- R99: a frame of Grove leaves the tables and the queues, and takes the admission of port 26. -/
theorem Dev.tapHead_gv (src : Nat) (dir : Bool) (most : Nat) : (d.tapHead src dir most).1.gv = d.gv := by
  unfold Dev.tapHead
  split
  · rfl
  · refine List.foldlRecOn (motive := fun acc : Dev × List TapRes => acc.1.gv = d.gv) _ _ rfl fun acc h t _ => ?_
    dsimp only
    split
    · split
      · rw [Dev.ringLoss, Dev.raise_gv]
        exact h
      · exact h
    · exact h

theorem Dev.enterPort_beside (p : Nat) (bytes : List Byte) : (d.enterPort p bytes true).gv = d.gv ∧
    ((d.enterPort p bytes true).port p).admitted = (d.port p).admitted := by
  have hs : d.sparesRings (Dev.tapHead (d.free (2 ^ 35)).2 p false (Dev.maxLen (d.free (2 ^ 35)).2 p)).1 :=
    (Dev.sparesRings.of_eq rfl rfl rfl : d.sparesRings (d.free (2 ^ 35)).2).trans (Dev.sparesRings.tapHead _ p false _)
  refine ⟨Dev.tapHead_gv p false _, ?_⟩
  unfold Dev.enterPort Dev.pushRx Dev.handOver
  dsimp only
  rw [if_pos rfl, Dev.port, Dev.modPort, tget_tmod_same]
  dsimp only
  rw [hs.ports, Dev.port]

theorem Dev.sendFrame_beside : (d.sendFrame n).gv = d.gv ∧ ((d.sendFrame n).port 26).admitted = false := by
  unfold Dev.sendFrame Dev.enterPaced
  dsimp only
  obtain ⟨hg, hp⟩ := Dev.enterPort_beside (d := (if (checksums (d.pdu n).w6 (imageBytes (d.pdu n))).2 then
    d.bump F.GV_CSUM_SKIP_COUNT else d).modPort 26 (fun s => { s with
      admitted := false, pace := (if (checksums (d.pdu n).w6 (imageBytes (d.pdu n))).2 then
        d.bump F.GV_CSUM_SKIP_COUNT else d).plat.aon * 10 + paceTime (checksums (d.pdu n).w6 (imageBytes (d.pdu n))).1.length }))
    26 (checksums (d.pdu n).w6 (imageBytes (d.pdu n))).1
  rw [hg, hp, Dev.modPort_gv, Dev.port, Dev.modPort, tget_tmod_same]
  refine ⟨?_, rfl⟩
  split
  · rfl
  · rfl

end

/-! ### Reception timeouts (R101) -/

section
variable {d : Dev} {n : Nat} {e : PduEntry} {asleep : Nat → Nat → Bool}

/-- R101: a reception timeout declared. -/
def Dev.declares (d : Dev) (x : Declared) : Dev := { d with gv := { d.gv with declared := d.gv.declared ++ [x] } }

theorem Dev.declares_beside (d : Dev) (x : Declared) : (∀ k, (d.declares x).pdu k = d.pdu k) ∧
    (∀ g, (d.declares x).get g = d.get g) ∧ (d.declares x).gv.declared = d.gv.declared ++ [x] ∧
    (d.declares x).gv.thr = d.gv.thr := ⟨fun _ => rfl, fun _ => rfl, rfl, rfl⟩

/-- R101: PDU n marked, counted and its event raised. -/
def Dev.timeoutMarked (d : Dev) (n : Nat) : Dev :=
  ((d.modPdu n (fun e => { e with timedOut := true })).bump F.GV_TIMEOUTS_COUNT).raise (.gv 0) 2

theorem Dev.timeoutMarked_gv : (d.timeoutMarked n).gv = (d.modPdu n (fun e => { e with timedOut := true })).gv := by
  rw [Dev.timeoutMarked, Dev.raise_gv, Dev.bump_gv]

theorem Dev.timeoutMarked_pdu (k : Nat) :
    (d.timeoutMarked n).pdu k = (d.modPdu n (fun e => { e with timedOut := true })).pdu k := by
  rw [Dev.pdu, Dev.timeoutMarked_gv, Dev.pdu]

theorem Dev.timeoutMarked_count : (d.timeoutMarked n).get F.GV_TIMEOUTS_COUNT = satAdd 32 (d.get F.GV_TIMEOUTS_COUNT) 1 := by
  rw [Dev.timeoutMarked, Dev.get_raise_other _ _ _ (by decide), Dev.get_bump _ _ (by decide), Dev.modPdu_get, satAdd_eq_min]
  rfl

/-- R101: PDU n marked, counted and declared. -/
def Dev.timeoutDeclared (d : Dev) (n : Nat) (e : PduEntry) : Dev := (d.timeoutMarked n).declares ⟨n, e.gen, d.baseNs⟩

theorem Dev.timeoutDeclared_reads (he : d.pdu n = e) : (d.timeoutDeclared n e).pdu n = { e with timedOut := true } ∧
    (∀ k, k ≠ n → (d.timeoutDeclared n e).pdu k = d.pdu k) ∧
    (d.timeoutDeclared n e).gv.declared = d.gv.declared ++ [⟨n, e.gen, d.baseNs⟩] ∧
    (d.timeoutDeclared n e).get F.GV_TIMEOUTS_COUNT = satAdd 32 (d.get F.GV_TIMEOUTS_COUNT) 1 ∧
    (d.timeoutDeclared n e).gv.thr = d.gv.thr := by
  obtain ⟨hpdu, hget, hdecl, hthr⟩ := (d.timeoutMarked n).declares_beside ⟨n, e.gen, d.baseNs⟩
  refine ⟨?_, fun k hk => ?_, ?_, ?_, ?_⟩
  · rw [Dev.timeoutDeclared, hpdu, Dev.timeoutMarked_pdu, Dev.pdu_modPdu_same, he]
  · rw [Dev.timeoutDeclared, hpdu, Dev.timeoutMarked_pdu, Dev.pdu_modPdu_other hk]
  · rw [Dev.timeoutDeclared, hdecl, Dev.timeoutMarked_gv]
    rfl
  · rw [Dev.timeoutDeclared, hget, Dev.timeoutMarked_count]
  · rw [Dev.timeoutDeclared, hthr, Dev.timeoutMarked_gv]
    rfl

theorem Dev.rxTimeout_passed (hpdu : d.pdu n = e) (hr : d.released (.gv 0) = true) (he : d.enabled (.gv 0) = true)
    (hm : d.mode ≠ 8) (hrx : pduIsRx e = true) (ht : e.timedOut = false) (hms : pduTimeoutMs e ≠ 0)
    (ha : asleep (pduBus e) (pduChan e) = false) (hp : e.since + pduTimeoutMs e * 1000000 ≤ d.baseNs) :
    d.rxTimeout n asleep = d.timeoutDeclared n e := by
  unfold Dev.rxTimeout
  rw [hpdu]
  dsimp only
  rw [hr, he, bne_iff_ne.mpr hm, hrx, ht, bne_iff_ne.mpr hms, ha, decide_eq_true hp]
  have hns : (d.timeoutMarked n).baseNs = d.baseNs := by
    rw [Dev.timeoutMarked, Dev.baseNs_raise, Dev.baseNs, Dev.bump_tl, Dev.modPdu_tl, Dev.baseNs]
  rw [Dev.timeoutDeclared, ← hns]
  exact if_pos rfl

end

/-! ### Rows -/

section
variable {s : State}

theorem exec_instanceHandover {t t₂ : Fin 128} : exec (.instanceHandover t t₂) s =
    .next (s.ends (s.dev.handover t t₂)) := act_eq_ends s (fun d => d.handover t t₂)

theorem exec_instanceCommit {t : Fin 128} : exec (.instanceCommit t 0) s =
    .next (s.ends (s.dev.instanceCommit t)) := act_eq_ends s (fun d => d.instanceCommit t)

theorem exec_instanceErr {t : Fin 128} {err : Fin 3} (h : err ≠ 0) : exec (.instanceCommit t err) s =
    .next (s.ends (s.dev.instanceErr t (if err = 1 then 1 else 3))) := by
  have he := act_eq_ends s (fun d => if err = 0 then d.instanceCommit t else d.instanceErr t (if err = 1 then 1 else 3))
  rw [if_neg h] at he
  exact he

theorem exec_destinationAccept {x : GvDest} : exec (.destinationAccept x) s = .next (s.ends (s.dev.destAccept x)) :=
  act_eq_ends s (fun d => d.destAccept x)

theorem exec_rxTimeout {pdu : BitVec 16} : exec (.rxTimeout pdu) s =
    .next (s.ends (s.dev.rxTimeout pdu.toNat s.dev.chanAsleep)) := act_eq_ends s (fun d => d.rxTimeout pdu.toNat d.chanAsleep)

end

/-- Settles O13: the arbiter's instances delivered to one thread or to a pair, a stage committed, dropped or kept back, the
head of a queue handed to its destination, and a timeout declared. -/
theorem groveFlowCommands : Obligations.GroveFlowCommands := by
  unfold Obligations.GroveFlowCommands
  refine ⟨?single, ?pair, ?idle, ?commit, ?behind, ?fault, ?aborts, ?port26, ?can, ?lin, ?host, ?event, ?gap, ?timeout⟩
  case single =>
    intro s t t₂ x rd hw hst ha ht hp
    obtain ⟨hthr, harb, hns, hregs⟩ := s.dev.arbTaken_reads
    obtain ⟨hi, hstage, hready, hpc, hx, hbusy⟩ := handed_reads (s.dev.thr t) s.dev.baseNs 0 rd x
    obtain ⟨-, harb', hregs'⟩ := Dev.deliver_beside (d := s.dev.arbTaken) (t := t) (partner := 0) (rd := rd) (x := x)
    have hsame : (s.dev.arbTaken.deliver t 0 rd x).thr t = handed (s.dev.thr t) s.dev.baseNs 0 rd x := by
      rw [Dev.thr_deliver_same, hthr, hns]
    refine ⟨s.dev.arbTaken.deliver t 0 rd x, by rw [exec_instanceHandover, Dev.handover_single hw hst ha ht hp], ?_⟩
    rw [hsame, harb', harb, hregs', hregs]
    rw [ht, hp] at hx
    rw [ht] at hbusy
    exact ⟨hi, hstage, hready, hpc, hx, hbusy, rfl, fun k hk => (Dev.thr_deliver_other hk).trans (hthr k), rfl⟩
  case pair =>
    intro s t t₂ x rd rd₂ hw hw₂ hne hst hst₂ ha ht hp
    have hne' : t.val ≠ t₂.val := fun h => hne (by rw [h])
    obtain ⟨hthr, harb, hns, hregs⟩ := s.dev.arbTaken_reads
    obtain ⟨hns₁, harb₁, hregs₁⟩ := Dev.deliver_beside (d := s.dev.arbTaken) (t := t) (partner := t₂) (rd := rd) (x := x)
    obtain ⟨-, harb₂, hregs₂⟩ := Dev.deliver_beside (d := s.dev.arbTaken.deliver t t₂ rd x) (t := t₂) (partner := t)
      (rd := s.dev.waitRd t₂) (x := x)
    obtain ⟨hi, -, hready, -, hx, -⟩ := handed_reads (s.dev.thr t) s.dev.baseNs t₂ rd x
    obtain ⟨hi₂, -, hready₂, -, -, -⟩ := handed_reads (s.dev.thr t₂) s.dev.baseNs t (s.dev.waitRd t₂) x
    have hsame : ((s.dev.arbTaken.deliver t t₂ rd x).deliver t₂ t (s.dev.waitRd t₂) x).thr t =
        handed (s.dev.thr t) s.dev.baseNs t₂ rd x := by
      rw [Dev.thr_deliver_other hne', Dev.thr_deliver_same, hthr, hns]
    have hsame₂ : ((s.dev.arbTaken.deliver t t₂ rd x).deliver t₂ t (s.dev.waitRd t₂) x).thr t₂ =
        handed (s.dev.thr t₂) s.dev.baseNs t (s.dev.waitRd t₂) x := by
      rw [Dev.thr_deliver_same, Dev.thr_deliver_other hne'.symm, hthr, hns₁, hns]
    refine ⟨(s.dev.arbTaken.deliver t t₂ rd x).deliver t₂ t (s.dev.waitRd t₂) x,
      by rw [exec_instanceHandover, Dev.handover_pair hw hst ha ht hp hw₂ hne], ?_⟩
    rw [hsame, hsame₂, harb₂, harb₁, harb, hregs₂, hregs₁, hregs]
    rw [ht, hp] at hx
    exact ⟨hi, hi₂, hready, hready₂, hx, rfl, fun k hk hk₂ =>
      ((Dev.thr_deliver_other hk₂).trans (Dev.thr_deliver_other hk)).trans (hthr k), rfl⟩
  case idle =>
    intro s t t₂ hw
    rw [exec_instanceHandover, Dev.handover_idle hw]
  case commit =>
    intro s t rd x hst hi hf hp
    rw [exec_instanceCommit, Dev.instanceCommit_single hst hi hf hp]
  case behind =>
    intro s t rd x hst hi hf
    rw [exec_instanceCommit, Dev.instanceCommit_waits hst hi hf]
  case fault =>
    intro s t rd x err h0 hst hi hp he
    rw [exec_instanceErr h0, Dev.instanceErr_ends hst hi hp he, Dev.instanceFault]
  case aborts =>
    intro s t x err h0 hst hi he
    rw [exec_instanceErr h0, Dev.instanceErr_aborts hst hi he, Dev.instanceFault]
  case port26 =>
    intro s n rest hq hr he hm hg ha
    obtain ⟨hgv, hadm⟩ := Dev.sendFrame_beside (d := s.dev.popQueue 80 (.pdu n)) (n := n)
    obtain ⟨hpend, hlast⟩ := Dev.popQueue_pdu (d := s.dev) (k := 80) (n := n)
    refine ⟨(s.dev.popQueue 80 (.pdu n)).sendFrame n,
      by rw [exec_destinationAccept, Dev.destAccept_port26 ⟨hr, he, hm⟩ hq hg ha], ?_, ?_, ?_, hadm⟩
    · rw [Dev.queue, hgv, ← Dev.queue, Dev.popQueue_queue hq]
    · rw [Dev.pdu, hgv, ← Dev.pdu, hpend]
    · rw [Dev.pdu, hgv, ← Dev.pdu, hlast]
  case can =>
    intro s c n slot rest hq hr he hm hg hslot
    rw [exec_destinationAccept, Dev.destAccept_can ⟨hr, he, hm⟩ hq hg hslot]
  case lin =>
    intro s c n slot rest hq hr he hm hg hslot
    rw [exec_destinationAccept, Dev.destAccept_lin ⟨hr, he, hm⟩ hq hg hslot]
  case host =>
    intro s q p r n rest hq hr he hm hg hring
    rw [exec_destinationAccept, Dev.destAccept_host ⟨hr, he, hm⟩ hq hg hring]
  case event =>
    intro s q p r e rest hq hr he hm hring
    refine ⟨(s.dev.popQueue (81 + q) (.event e)).sendHost p r (.event e),
      by rw [exec_destinationAccept, Dev.destAccept_host ⟨hr, he, hm⟩ hq rfl hring], ?_, ?_, rfl⟩
    · exact Dev.popQueue_queue hq
    · rw [Dev.sendHost, Dev.pushBack, tget_tmod_same, tget_tmod_same, Dev.popQueue]
      rfl
  case gap =>
    intro s x n t rest hq hl hb
    rw [exec_destinationAccept, Dev.destAccept_gap hq (Dev.gapOver_early hl hb)]
  case timeout =>
    intro s pdu e hpdu hr he hm hrx ht hms ha hp
    exact ⟨s.dev.timeoutDeclared pdu.toNat e, by rw [exec_rxTimeout, Dev.rxTimeout_passed hpdu hr he hm hrx ht hms ha hp],
      Dev.timeoutDeclared_reads hpdu⟩

end Sys2Proof.Machine
end

section
/-! The Xgrove instructions that move and transform data (R80, R114, R116, R117, R118). -/

namespace Sys2Proof.Machine
open Sys2Proof

/-! ### A thread that issues an instruction -/

/-- R116: the device whose thread t stands at pc. -/
def Dev.started (d : Dev) (t pc : Nat) : Dev := d.modThr t (fun c => { c with pc })

/-- R116: a thread's context at pc. -/
def ThreadCtx.atPc (c : ThreadCtx) (pc : Nat) : ThreadCtx := { c with pc }

section
variable {d : Dev} {t pc rd : Nat} {x : Instance} {f : ThreadCtx → ThreadCtx}

theorem Dev.withThread_ready {f : Dev → ThreadCtx → Dev} (h : d.gxReady t = true) :
    d.withThread t pc f = f (d.started t pc) ((d.thr t).atPc pc) := by
  unfold Dev.withThread
  rw [if_pos h, ← Dev.started]
  dsimp only
  rw [Dev.started, Dev.thr_modThr_same, ThreadCtx.atPc]

theorem Dev.withInst_ready {f : Dev → ThreadCtx → Instance → Dev} (h : d.gxReady t = true) (hi : (d.thr t).inst = some x) :
    d.withInst t pc f = f (d.started t pc) ((d.thr t).atPc pc) x := by
  unfold Dev.withInst
  rw [if_pos h, ← Dev.started]
  dsimp only
  rw [Dev.started, Dev.thr_modThr_same, ← ThreadCtx.atPc]
  have hi' : ((d.thr t).atPc pc).inst = some x := hi
  rw [hi']

theorem Dev.sigWord_modThr : (d.modThr t f).sigWord = d.sigWord := rfl

theorem Dev.pdu_modThr : (d.modThr t f).pdu = d.pdu := rfl

theorem Dev.xfmWord_modThr : (d.modThr t f).xfmWord = d.xfmWord := rfl

theorem Dev.staged_modThr : (d.modThr t f).staged = d.staged := by
  funext s p
  rw [Dev.staged, Dev.pdu_modThr, Dev.staged]

theorem Dev.transform_modThr (k cls raw lsrc : Nat) (val : Int) (w : Nat) (sgn : Bool) :
    (d.modThr t f).transform k cls raw lsrc val w sgn = d.transform k cls raw lsrc val w sgn := by
  unfold Dev.transform
  rw [Dev.xfmWord_modThr]

theorem Dev.tbVal_modThr (tb : Nat) : (d.modThr t f).tbVal tb = d.tbVal tb := by
  rw [Dev.tbVal, Dev.base40, Dev.modThr_tl, Dev.tbVal, Dev.base40]

theorem atPc_v (c : ThreadCtx) (pc : Nat) : (c.atPc pc).v = c.v := rfl

theorem atPc_stage (c : ThreadCtx) (pc : Nat) : (c.atPc pc).stage = c.stage := rfl

theorem dreg_at (c : ThreadCtx) (pc k w : Nat) : dreg (c.atPc pc) k w = dreg c k w := rfl

end

/-! ### Signal descriptors (R80, R116) -/

/-- R116: descriptor register k of thread t loaded from descriptor n. -/
def Dev.sigLoaded (d : Dev) (t k n : Nat) : Dev :=
  d.modThr t (fun c => { c with
    dw := (List.range 3).foldl (fun a w => tset a (3 * k + w) (d.sigWord n w)) c.dw, dix := tset c.dix k n })

section
variable {d : Dev} {t pc rd k ix : Nat}

theorem Dev.gxSigld_sound (h : d.gxReady t = true) : d.gxSigld t pc rd k ix false =
    if sigValid (d.sigWord (ix % 2 ^ 20) 0) then ((d.started t pc).sigLoaded t k (ix % 2 ^ 20)).gxDone t rd
      (bitsOf (d.sigWord (ix % 2 ^ 20) 2) 0 20)
    else ((d.started t pc).sigLoaded t k (ix % 2 ^ 20)).gvSkip.gxDone t rd 0x800FFFFF := by
  have hs : ((d.started t pc).sigLoaded t k (ix % 2 ^ 20)).sigWord = d.sigWord := by
    rw [Dev.sigLoaded, Dev.sigWord_modThr, Dev.started, Dev.sigWord_modThr]
  unfold Dev.gxSigld
  rw [Dev.withThread_ready h]
  dsimp only
  rw [← Dev.sigLoaded, if_neg Bool.false_ne_true, hs, Bool.not_false, Bool.and_true]

theorem Dev.gxSigld_bad (h : d.gxReady t = true) : d.gxSigld t pc rd k ix true =
    (((d.started t pc).sigLoaded t k (ix % 2 ^ 20)).dbe 2).gvSkip.gxDone t rd 0x800FFFFF := by
  unfold Dev.gxSigld
  rw [Dev.withThread_ready h]
  dsimp only
  rw [← Dev.sigLoaded, if_pos rfl, Bool.not_true, Bool.and_false, if_neg Bool.false_ne_true]

theorem Dev.gxSigst_ready (h : d.gxReady t = true) : d.gxSigst t pc rd k ix =
    ((List.range 3).foldl (fun (a : Dev) w => a.setSig (3 * (ix % 2 ^ 20) + w) (Nat.land (dreg (d.thr t) k w) (sigMask w)))
      (d.started t pc)).gxDone t rd 0 := by
  unfold Dev.gxSigst
  rw [Dev.withThread_ready h]
  rfl

end

/-! ### Fields (R82, R83, R116, R117) -/

section
variable {d : Dev} {t pc rd k vn p w0 : Nat} {x : Instance} {c : ThreadCtx} (h : d.gxReady t = true)
  (hi : (d.thr t).inst = some x)

section
variable (ha : x.aborted = true)
include h hi ha

theorem Dev.gxExt_aborted : d.gxExt t pc rd k vn = (d.started t pc).gxDone t rd 3 := by
  unfold Dev.gxExt
  rw [Dev.withInst_ready h hi, if_pos ha]

theorem Dev.gxXfm_aborted {vs : Nat} : d.gxXfm t pc rd k vn vs = (d.started t pc).gxDone t rd 3 := by
  unfold Dev.gxXfm
  rw [Dev.withInst_ready h hi, if_pos ha]

theorem Dev.gxIns_aborted : d.gxIns t pc rd k vn = (d.started t pc).gxDone t rd 3 := by
  unfold Dev.gxIns
  rw [Dev.withInst_ready h hi]
  dsimp only
  rw [if_pos ha]

end

section
variable (ha : x.aborted = false)
include h hi ha

theorem Dev.gxExt_source (hs : sigSink (dreg (d.thr t) k 0) = false) :
    d.gxExt t pc rd k vn = (d.started t pc).extSource t rd k vn ((d.thr t).atPc pc) x := by
  unfold Dev.gxExt
  rw [Dev.withInst_ready h hi, ha, if_neg Bool.false_ne_true, dreg_at, hs, if_neg Bool.false_ne_true]

theorem Dev.gxExt_sink (hs : sigSink (dreg (d.thr t) k 0) = true) :
    d.gxExt t pc rd k vn = (d.started t pc).extSink t rd k vn ((d.thr t).atPc pc) := by
  unfold Dev.gxExt
  rw [Dev.withInst_ready h hi, ha, if_neg Bool.false_ne_true, dreg_at, hs, if_pos rfl]

end

theorem Dev.extSource_fits (hw : dreg c k 0 = w0) (ht : x.timeout = false)
    (hf : fieldFits (sigBig w0) (sigStart w0) (sigLen w0) x.fits = true) :
    d.extSource t rd k vn c x = (d.putV t vn {
      val := extended (sigSigned w0) (sigLen w0) (fieldGet (sigBig w0) (sigStart w0)
        (sigLen w0) x.input)
      cls := 0, upd := sigUpd w0, signed := sigSigned w0, lenM1 := sigLen w0 - 1
      xfm := bitsOf (dreg c k 1) 0 16 }).gxDone t rd 0 := by
  unfold Dev.extSource
  dsimp only
  rw [hw, if_pos hf, ht, if_neg Bool.false_ne_true]

theorem Dev.extSource_beyond (hw : dreg c k 0 = w0)
    (hf : fieldFits (sigBig w0) (sigStart w0) (sigLen w0) x.fits = false) :
    d.extSource t rd k vn c x = d.gvSkip.gxDone t rd 2 := by
  unfold Dev.extSource
  dsimp only
  rw [hw, hf, if_neg Bool.false_ne_true]

theorem Dev.extSink_fits (hw : dreg c k 0 = w0) (hp : bitsOf (dreg c k 1) 16 16 = p) (htx : pduIsTx (d.pdu p) = true)
    (hf : fieldFits (sigBig w0) (sigStart w0) (sigLen w0) (pduLen (d.pdu p)) = true) :
    d.extSink t rd k vn c = (d.putV t vn {
      val := extended (sigSigned w0) (sigLen w0) (fieldGet (sigBig w0) (sigStart w0)
        (sigLen w0) (d.staged c.stage p))
      cls := 0, upd := 0, signed := sigSigned w0, lenM1 := sigLen w0 - 1, xfm := 0 }).gxDone t rd 0 := by
  unfold Dev.extSink
  dsimp only
  rw [hw, hp, htx, hf, Bool.and_self, if_pos rfl]

end

/-! ### Transforms (R85 to R87, R116) -/

/-- R87, R116: what transform the value register names makes of it for the sink w0. -/
def Dev.xfmOf (d : Dev) (v : VReg) (w0 : Nat) : Option (Nat × Bool) :=
  d.transform v.xfm v.cls (v.val % 2 ^ (v.lenM1 + 1)) (v.lenM1 + 1) (vVal v) (sigLen w0) (sigSigned w0)

/-- R116: a value register that holds a result for the sink w0. -/
def xfmResult (v : VReg) (w0 val cls : Nat) : VReg :=
  { val, cls, upd := v.upd, signed := sigSigned w0, lenM1 := sigLen w0 - 1, xfm := 0 }

section
variable {d : Dev} {t pc rd k vd vs w0 r : Nat} {x : Instance} (h : d.gxReady t = true) (hi : (d.thr t).inst = some x)
  (ha : x.aborted = false) (hw : dreg (d.thr t) k 0 = w0)
include h hi ha hw

theorem Dev.gxXfm_made {sat : Bool} (hx : d.xfmOf (tget (d.thr t).v vs) w0 = some (r, sat)) :
    d.gxXfm t pc rd k vd vs = ((if sat then ((d.started t pc).bump F.GV_SAT_COUNT).raise (.gv 0) 4 else d.started t pc).putV
      t vd (xfmResult (tget (d.thr t).v vs) w0 (extended (sigSigned w0) (sigLen w0) r) 0)).gxDone t rd 0 := by
  unfold Dev.xfmOf at hx
  unfold Dev.gxXfm
  rw [Dev.withInst_ready h hi, ha, if_neg Bool.false_ne_true]
  dsimp only
  rw [dreg_at, hw, atPc_v, Dev.started, Dev.transform_modThr, hx]
  rfl

theorem Dev.gxXfm_none (hx : d.xfmOf (tget (d.thr t).v vs) w0 = none) : d.gxXfm t pc rd k vd vs =
    ((Dev.free (d.started t pc) (2 ^ 64)).2.putV t vd (xfmResult (tget (d.thr t).v vs) w0
      (Dev.free (d.started t pc) (2 ^ 64)).1 3)).gxDone t rd 1 := by
  unfold Dev.xfmOf at hx
  unfold Dev.gxXfm
  rw [Dev.withInst_ready h hi, ha, if_neg Bool.false_ne_true]
  dsimp only
  rw [dreg_at, hw, atPc_v, Dev.started, Dev.transform_modThr, hx]
  rfl

end

/-- R116: a value that is free takes no register and no thread. -/
theorem Dev.free_beside (d : Dev) (n : Nat) : (∀ k, (d.free n).2.thr k = d.thr k) ∧ (d.free n).2.regs = d.regs :=
  ⟨fun _ => rfl, rfl⟩

section
variable {d : Dev} {t rd v k vd pc : Nat} {x : VReg}

theorem Dev.gxDone_reads : ((d.gxDone t rd v).thr t).v = (d.thr t).v ∧ (rd ≠ 0 → tget ((d.gxDone t rd v).thr t).x rd =
    BitVec.ofNat 32 v) ∧ ((d.gxDone t rd v).thr t).pc = ((d.thr t).pc + 4) % 2 ^ 32 ∧ ((d.gxDone t rd v).thr t).st = .ready ∧
    (d.gxDone t rd v).regs = d.regs ∧ ∀ n, n ≠ t → (d.gxDone t rd v).thr n = d.thr n := by
  unfold Dev.gxDone
  rw [Dev.thr_modThr_same, Dev.modThr_regs]
  refine ⟨?_, setX_result _ _, rfl, rfl, rfl, fun n hn => Dev.thr_modThr_other hn⟩
  unfold setX
  split
  · rfl
  · rfl

theorem Dev.putV_reads : tget ((d.putV t vd x).thr t).v vd = x ∧ ((d.putV t vd x).thr t).pc = (d.thr t).pc ∧
    (d.putV t vd x).regs = d.regs ∧ ∀ n, n ≠ t → (d.putV t vd x).thr n = d.thr n := by
  unfold Dev.putV
  rw [Dev.thr_modThr_same, Dev.modThr_regs]
  exact ⟨tget_tset_same _ _ _, rfl, rfl, fun n hn => Dev.thr_modThr_other hn⟩

theorem Dev.started_reads : ((d.started t pc).thr t).pc = pc ∧ (d.started t pc).regs = d.regs ∧
    ∀ n, n ≠ t → (d.started t pc).thr n = d.thr n := by
  unfold Dev.started
  rw [Dev.thr_modThr_same, Dev.modThr_regs]
  exact ⟨rfl, rfl, fun n hn => Dev.thr_modThr_other hn⟩

end

/-! ### Times (R116, R118) -/

section
variable {d : Dev} {t pc rd sel : Nat} {x : Instance} (h : d.gxReady t = true)
include h

theorem Dev.gxTs_stamp (hs : sel < 2) (hi : (d.thr t).inst = some x) : d.gxTs t pc rd sel =
    (d.started t pc).gxDone t rd (if sel = 0 then x.stamp / 8 else x.stamp % 8) := by
  unfold Dev.gxTs
  rw [if_pos hs, Dev.withInst_ready h hi]

theorem Dev.gxTs_domain (h3 : 3 ≤ sel) (h6 : sel ≤ 6) : d.gxTs t pc rd sel =
    (d.started t pc).gxDone t rd (d.tbVal (sel - 2) / 2 ^ 16 % 2 ^ 32) := by
  unfold Dev.gxTs
  rw [if_neg (by omega), Dev.withThread_ready h, if_neg (by omega), if_neg (by omega), Dev.started, Dev.tbVal_modThr]

theorem Dev.gxTs_base : d.gxTs t pc rd 2 = (d.started t pc).gxDone t rd (d.baseNs % 2 ^ 32) := by
  unfold Dev.gxTs
  rw [if_neg (by decide), Dev.withThread_ready h, if_neg (by decide), if_pos rfl, Dev.started, Dev.baseNs_modThr]

theorem Dev.gxTs_illegal : d.gxTs t pc rd 7 = (d.started t pc).threadFault t 0x02 pc := by
  unfold Dev.gxTs
  rw [if_neg (by decide), Dev.withThread_ready h, if_pos rfl]

end

/-! ### Rows -/

section
variable {s : State} {t : Fin 128} {pc : Word} {rd : Fin 32}

theorem exec_gxSigld {k : Fin 4} {ix : Word} {dbe : Bool} : exec (.gxSigld t pc rd k ix dbe) s =
    .next (s.ends (s.dev.gxSigld t pc.toNat rd k ix.toNat dbe)) :=
  act_eq_ends s (fun d => d.gxSigld t pc.toNat rd k ix.toNat dbe)

theorem exec_gxSigst {k : Fin 4} {ix : Word} : exec (.gxSigst t pc rd k ix) s =
    .next (s.ends (s.dev.gxSigst t pc.toNat rd k ix.toNat)) := act_eq_ends s (fun d => d.gxSigst t pc.toNat rd k ix.toNat)

theorem exec_gxExt {k v : Fin 4} : exec (.gxExt t pc rd k v) s = .next (s.ends (s.dev.gxExt t pc.toNat rd k v)) :=
  act_eq_ends s (fun d => d.gxExt t pc.toNat rd k v)

theorem exec_gxXfm {k vd vs : Fin 4} : exec (.gxXfm t pc rd k vd vs) s =
    .next (s.ends (s.dev.gxXfm t pc.toNat rd k vd vs)) := act_eq_ends s (fun d => d.gxXfm t pc.toNat rd k vd vs)

theorem exec_gxIns {k v : Fin 4} : exec (.gxIns t pc rd k v) s = .next (s.ends (s.dev.gxIns t pc.toNat rd k v)) :=
  act_eq_ends s (fun d => d.gxIns t pc.toNat rd k v)

theorem exec_gxTs {sel : Fin 8} : exec (.gxTs t pc rd sel) s = .next (s.ends (s.dev.gxTs t pc.toNat rd sel)) :=
  act_eq_ends s (fun d => d.gxTs t pc.toNat rd sel)

end

/-- Settles O14: each instruction by what it does on the device whose thread stands at pc. -/
theorem xgroveDataInstructions : Obligations.XgroveDataInstructions := by
  unfold Obligations.XgroveDataInstructions
  refine ⟨?load, ?loadInvalid, ?loadBad, ?store, ?source, ?beyond, ?sink, ?aborted, ?made, ?saturated, ?none, ?domain,
    ?stampNs, ?stampFraction, ?base⟩
  case load =>
    intro s t pc rd k ix h hv
    rw [exec_gxSigld, Dev.gxSigld_sound h, if_pos hv, Dev.sigLoaded, Dev.started, Dev.sigWord_modThr]
  case loadInvalid =>
    intro s t pc rd k ix h hv
    rw [exec_gxSigld, Dev.gxSigld_sound h, hv, if_neg Bool.false_ne_true, Dev.sigLoaded, Dev.started, Dev.sigWord_modThr]
  case loadBad =>
    intro s t pc rd k ix h
    rw [exec_gxSigld, Dev.gxSigld_bad h, Dev.sigLoaded, Dev.started, Dev.sigWord_modThr]
  case store =>
    intro s t pc rd k ix h
    rw [exec_gxSigst, Dev.gxSigst_ready h, Dev.started]
  case source =>
    intro s t pc rd k v x w0 h hi ha ht hw hs hf
    subst hw
    rw [exec_gxExt, Dev.gxExt_source h hi ha hs, Dev.extSource_fits (dreg_at _ _ _ _) ht hf, dreg_at, Dev.started]
  case beyond =>
    intro s t pc rd k v x w0 h hi ha hw hs hf
    subst hw
    rw [exec_gxExt, Dev.gxExt_source h hi ha hs, Dev.extSource_beyond (dreg_at _ _ _ _) hf, Dev.started]
  case sink =>
    intro s t pc rd k v x w0 p h hi ha hw hp hs htx hf
    subst hw
    have hpdu : (s.dev.started t pc.toNat).pdu = s.dev.pdu := by rw [Dev.started, Dev.pdu_modThr]
    rw [exec_gxExt, Dev.gxExt_sink h hi ha hs, Dev.extSink_fits (dreg_at _ _ _ _) ((congrArg (bitsOf · 16 16)
      (dreg_at _ _ _ _)).trans hp) (by rw [hpdu, htx]) (by rw [hpdu, hf]), Dev.started, Dev.staged_modThr, atPc_stage]
  case aborted =>
    intro s t pc rd k v w x h hi ha
    rw [exec_gxExt, Dev.gxExt_aborted h hi ha, exec_gxXfm, Dev.gxXfm_aborted h hi ha, exec_gxIns,
      Dev.gxIns_aborted h hi ha, Dev.started]
    exact ⟨rfl, rfl, rfl⟩
  case made =>
    intro s t pc rd k vd vs x w0 r h hi ha hw hx
    rw [exec_gxXfm, Dev.gxXfm_made h hi ha hw hx, if_neg Bool.false_ne_true, xfmResult, Dev.started]
  case saturated =>
    intro s t pc rd k vd vs x w0 r h hi ha hw hx
    rw [exec_gxXfm, Dev.gxXfm_made h hi ha hw hx, if_pos rfl, xfmResult, Dev.started]
  case none =>
    intro s t pc rd k vd vs x w0 h hi ha hw hx
    have hx' : s.dev.xfmOf (tget (s.dev.thr t).v vs) w0 = Option.none := hx
    obtain ⟨hv, hres, hpc, hst, hregs, hthr⟩ := Dev.gxDone_reads (d := ((s.dev.started t pc.toNat).free (2 ^ 64)).2.putV t vd
      (xfmResult (tget (s.dev.thr t).v vs) w0 ((s.dev.started t pc.toNat).free (2 ^ 64)).1 3)) (t := t) (rd := rd) (v := 1)
    obtain ⟨hv', hpc', hregs', hthr'⟩ := Dev.putV_reads (d := ((s.dev.started t pc.toNat).free (2 ^ 64)).2) (t := t)
      (vd := vd) (x := xfmResult (tget (s.dev.thr t).v vs) w0 ((s.dev.started t pc.toNat).free (2 ^ 64)).1 3)
    obtain ⟨hthrF, hregsF⟩ := (s.dev.started t pc.toNat).free_beside (2 ^ 64)
    obtain ⟨hpcS, hregsS, hthrS⟩ := Dev.started_reads (d := s.dev) (t := t) (pc := pc.toNat)
    refine ⟨_, by rw [exec_gxXfm, Dev.gxXfm_none h hi ha hw hx'], ?_, fun hrd => hres (Fin.val_ne_of_ne hrd), ?_, hst, ?_,
      fun n hn => ?_⟩
    · rw [hv, hv']
      rfl
    · rw [hpc, hpc', hthrF, hpcS]
    · rw [hregs, hregs', hregsF, hregsS]
    · rw [hthr n hn, hthr' n hn, hthrF, hthrS n hn]
  case domain =>
    intro s t pc rd sel h h3 h6
    rw [exec_gxTs, Dev.gxTs_domain h h3 h6, Dev.started]
  case stampNs =>
    intro s t pc rd x h hi
    rw [exec_gxTs, Dev.gxTs_stamp h (by decide) hi, if_pos (by rfl), Dev.started]
  case stampFraction =>
    intro s t pc rd x h hi
    rw [exec_gxTs, Dev.gxTs_stamp h (by decide) hi, if_neg (by decide), Dev.started]
  case base =>
    intro s t pc rd h
    have h2 := Dev.gxTs_base (pc := pc.toNat) (rd := rd) h
    have h7 := Dev.gxTs_illegal (pc := pc.toNat) (rd := rd) h
    rw [Dev.started] at h2 h7
    rw [← h2, ← h7]
    exact ⟨exec_gxTs, exec_gxTs⟩

end Sys2Proof.Machine
end

section
/-! A command of a window (R66, R91): how it ends once its register is written. -/

namespace Sys2Proof.Machine
open Sys2Proof

section
variable {d c : Dev} {who : Init} {addr n : Nat} {v : Word} {go res : Fld} {code : Dev → Nat} {effect : Dev → Dev}
  (hgo : d.flag go = false) (h1 : newField v go = 1) (hc : d.commanded addr v go = c)
include hgo h1 hc

/-- R91: a command that is not refused acts on the device that shows it. -/
theorem Dev.window_done (h0 : code c = 0) : d.window who addr v go res code effect = (effect c).put res 0 := by
  rw [Dev.commanded] at hc
  rw [Dev.window, hgo, Bool.false_and, if_neg Bool.false_ne_true, hc]
  dsimp only
  rw [if_pos h1, h0, if_pos rfl, Dev.windowErr_none]

/-- R91: one that is refused shows its code, which is recorded in the page. -/
theorem Dev.window_refused {pg : Page} (hn : code c = n) (h0 : n ≠ 0) (hp : pageOf addr = some pg) :
    d.window who addr v go res code effect = (c.put res n).recordErr pg (initCode who) addr n := by
  rw [Dev.commanded] at hc
  rw [Dev.window, hgo, Bool.false_and, if_neg Bool.false_ne_true, hc]
  dsimp only
  rw [if_pos h1, hn, if_neg h0, Dev.windowErr, hp]
  dsimp only
  rw [if_neg h0]

end

theorem Dev.get_of_eq {d : Dev} {g : Fld} {x : Nat} {b : Bool} (h : d.get g = x) (hb : (x == 1) = b) : d.flag g = b := by
  rw [Dev.flag, h, hb]

/-- Registers written one after another. -/
theorem Dev.word_foldl_put {α : Type} (f : α → Fld) (x : Dev → α → Nat) {a : Nat} (l : List α) (d : Dev)
    (h : ∀ y ∈ l, a ≠ (f y).addr) : (l.foldl (fun (e : Dev) y => e.put (f y) (x e y)) d).word a = d.word a :=
  List.foldlRecOn (motive := fun e : Dev => e.word a = d.word a) _ _ rfl fun e he y hy =>
    (Dev.word_put_other e (f y) _ a (h y hy)).trans he

end Sys2Proof.Machine
end

section
/-! The MACsec table window and the snapshots of counters (R91, R170, R176). -/

namespace Sys2Proof.Machine
open Sys2Proof

/-! ### The command (R170) -/

/-- R170: the word of MS_CMD. -/
def msWord (n op table ix : Nat) : Word :=
  cmdWord [(F.MS_CMD_GO n, 1), (F.MS_CMD_OP n, op), (F.MS_CMD_TABLE n, table), (F.MS_CMD_INDEX n, ix)]

theorem newField_msWord {n op table ix : Nat} (hop : op < 4) (ht : table < 2) (hix : ix < 128) :
    newField (msWord n op table ix) (F.MS_CMD_GO n) = 1 ∧ newField (msWord n op table ix) (F.MS_CMD_OP n) = op ∧
      newField (msWord n op table ix) (F.MS_CMD_TABLE n) = table ∧
      newField (msWord n op table ix) (F.MS_CMD_INDEX n) = ix := by
  simp (disch := omega) only [msWord, cmdWord, List.foldl_cons, List.foldl_nil, newField, F.MS_CMD_GO, F.MS_CMD_OP,
    F.MS_CMD_TABLE, F.MS_CMD_INDEX, wordBits_wordPut, wordBits_wordPut_other, Nat.mod_eq_of_lt, and_self]

theorem ms_stored : ∀ n : Fin 16, (F.MS_CMD_OP n).stored = true ∧ (F.MS_CMD_TABLE n).stored = true ∧
    (F.MS_CMD_INDEX n).stored = true := by
  decide +kernel

/-- R170: the device that shows a command of the window of port n. -/
def Dev.msShows (d : Dev) (n op table ix : Nat) : Dev := d.commanded (R.MS_CMD n) (msWord n op table ix) (F.MS_CMD_GO n)

theorem msData_ne_cmd (n k : Nat) : (F.MS_DATA_DATA n k).addr ≠ R.MS_CMD n := by
  simp only [F.MS_DATA_DATA, R.MS_DATA, R.MS_CMD]
  omega

section
variable {d : Dev} {n : Fin 16} {op table ix : Nat}

theorem Dev.msShows_fields (hop : op < 4) (ht : table < 2) (hix : ix < 128) :
    (d.msShows n op table ix).get (F.MS_CMD_OP n) = op ∧ (d.msShows n op table ix).get (F.MS_CMD_TABLE n) = table ∧
      (d.msShows n op table ix).get (F.MS_CMD_INDEX n) = ix := by
  obtain ⟨-, h1, h2, h3⟩ := newField_msWord (n := n) hop ht hix
  obtain ⟨s1, s2, s3⟩ := ms_stored n
  refine ⟨Eq.trans ?_ h1, Eq.trans ?_ h2, Eq.trans ?_ h3⟩
  · exact Dev.get_commanded_field (g := F.MS_CMD_OP n) rfl s1 (Nat.le_refl 32)
      (.inr (.inl (by decide : 24 + 2 ≤ 31)))
  · exact Dev.get_commanded_field (g := F.MS_CMD_TABLE n) rfl s2 (Nat.le_refl 32)
      (.inr (.inl (by decide : 20 + 1 ≤ 31)))
  · exact Dev.get_commanded_field (g := F.MS_CMD_INDEX n) rfl s3 (Nat.le_refl 32)
      (.inr (.inl (by decide : 0 + 7 ≤ 31)))

theorem Dev.msShows_data (k : Nat) : (d.msShows n op table ix).get (F.MS_DATA_DATA n k) = d.get (F.MS_DATA_DATA n k) :=
  Dev.get_commanded rfl (msData_ne_cmd n k)

theorem Dev.msShows_entries : (d.msShows n op table ix).msc = d.msc ∧ (d.msShows n op table ix).msa = d.msa :=
  ⟨Dev.commanded_msc _ _ _ _, Dev.commanded_msa _ _ _ _⟩

end

/-! ### Codes and effects (R170) -/

section
variable {d : Dev} {n i : Nat}

/-- R170: a READ is refused for an entry that does not exist. -/
theorem Dev.msCode_read (hop : d.get (F.MS_CMD_OP n) = 0) (hi : d.get (F.MS_CMD_INDEX n) = i) :
    d.msCode n = if (if d.flag (F.MS_CMD_TABLE n) then 68 else 17) ≤ i then 0x0116 else 0 := by
  have hno : ((0 : Nat) == 1) = false := rfl
  have h2 : ¬ 2 ≤ 0 := by decide
  unfold Dev.msCode
  rw [hop, hi]
  dsimp only
  rw [if_neg h2, hno]
  simp only [Bool.false_and, Bool.or_false]
  cases d.flag (F.MS_CMD_TABLE n)
  · rw [if_neg Bool.false_ne_true, if_neg Bool.false_ne_true]
    simp only [decide_eq_true_eq]
  · rw [if_pos rfl, if_pos rfl]
    simp only [decide_eq_true_eq]

section
variable (hi : d.get (F.MS_CMD_INDEX n) = i)
include hi

section
variable (ht : d.flag (F.MS_CMD_TABLE n) = true)
include ht

theorem Dev.msEffect_readSa (hop : d.get (F.MS_CMD_OP n) = 0) : d.msEffect n =
    (List.range 6).foldl (fun (a : Dev) k => a.put (F.MS_DATA_DATA n k) (([(d.saEntry n i).w0, (d.saEntry n i).ssci,
      (d.saEntry n i).pn % 2 ^ 32, (d.saEntry n i).pn / 2 ^ 32][k]?).getD 0)) d := by
  unfold Dev.msEffect
  dsimp only
  rw [if_pos ht, if_pos hop, hi]

theorem Dev.msEffect_writeSa (hop : d.get (F.MS_CMD_OP n) = 1) : d.msEffect n = d.modSa n i (fun _ => {
    w0 := d.get (F.MS_DATA_DATA n 0), ssci := d.get (F.MS_DATA_DATA n 1)
    pn := d.get (F.MS_DATA_DATA n 3) * 2 ^ 32 + d.get (F.MS_DATA_DATA n 2), warned := false }) := by
  unfold Dev.msEffect
  dsimp only
  rw [if_pos ht, hop, if_neg (by decide), hi]

end

section
variable (ht : d.flag (F.MS_CMD_TABLE n) = false)
include ht

theorem Dev.msEffect_readSc (hop : d.get (F.MS_CMD_OP n) = 0) : d.msEffect n =
    (List.range 6).foldl (fun (a : Dev) k => a.put (F.MS_DATA_DATA n k) (([(d.scEntry n i).w0, (d.scEntry n i).w1,
      (d.scEntry n i).w2][k]?).getD 0)) d := by
  unfold Dev.msEffect
  dsimp only
  rw [ht, if_neg Bool.false_ne_true, if_pos hop, hi]

theorem Dev.msEffect_writeSc (hop : d.get (F.MS_CMD_OP n) = 1) : d.msEffect n = { d with
    msc := tset d.msc (17 * n + i) { w0 := d.get (F.MS_DATA_DATA n 0), w1 := d.get (F.MS_DATA_DATA n 1)
                                     w2 := d.get (F.MS_DATA_DATA n 2) } } := by
  unfold Dev.msEffect
  dsimp only
  rw [ht, if_neg Bool.false_ne_true, hop, if_neg (by decide), hi]

end

end

end

/-! ### Rows of the window -/

section
variable {s : State} {i : Init} {n : Fin 16} {ix : Fin 128} {sa : Bool} {d : Dev} {op : Nat}

theorem exec_msRead : exec (.msRead i n sa ix) s =
    .next (s.ends (s.dev.anyRow (idBlock s.id) i (R.MS_CMD n) (msWord n 0 (boolNat sa) ix))) :=
  act_eq_ends s (fun d => d.anyRow (idBlock s.id) i (R.MS_CMD n) (msWord n 0 (boolNat sa) ix))

theorem exec_msWrite : exec (.msWrite i n sa ix) s =
    .next (s.ends (s.dev.anyRow (idBlock s.id) i (R.MS_CMD n) (msWord n 1 (boolNat sa) ix))) :=
  act_eq_ends s (fun d => d.anyRow (idBlock s.id) i (R.MS_CMD n) (msWord n 1 (boolNat sa) ix))

theorem msCmd_page (n : Fin 16) : pageExists (.ep n 2) = true ∧ R.MS_CMD n = pageBase (.ep n 2) + 0x44 ∧
    R.MS_CMD n ≠ R.GV_TCMD ∧ R.MS_CMD n ≠ R.MS_CTRL n ∧ R.MS_CMD n % 0x1000 = 0x44 := by
  have hn := n.isLt
  refine ⟨?_, ?_, ?_, ?_, ?_⟩
  · simp only [pageExists, Bool.and_eq_true, decide_eq_true_eq]
    exact ⟨hn, by decide⟩
  · simp only [R.MS_CMD, pageBase]
    omega
  · simp only [R.MS_CMD, R.GV_TCMD]
    omega
  · simp only [R.MS_CMD, R.MS_CTRL]
    omega
  · simp only [R.MS_CMD]
    omega

/-- R91, R170: a write of MS_CMD is a command of the window. -/
theorem Dev.pageWrite_msCmd (ident : List Byte) (v : Word) : d.pageWrite ident i (.ep n 2) (R.MS_CMD n) v =
    .ok (d.window i (R.MS_CMD n) v (F.MS_CMD_GO n) (F.MS_RESULT_CODE n) (fun d => d.msCode n)
      (fun d => d.msEffect n)) := by
  obtain ⟨-, -, -, hctrl, hoff⟩ := msCmd_page n
  unfold Dev.pageWrite
  dsimp only
  rw [hoff, if_neg (by decide), Dev.epWrite, if_neg (by decide), if_neg (by decide), if_pos rfl, Dev.ep2Write,
    if_neg hctrl, if_pos rfl]

theorem boolNat_lt (b : Bool) : boolNat b < 2 := by cases b <;> decide

section
variable (hop : op < 4) (hr : s.dev.reaches i (R.MS_CMD n) = some d)
  (hl : d.lockedWrite (R.MS_CMD n) (msWord n op (boolNat sa) ix) = false) (hgo : d.flag (F.MS_CMD_GO n) = false)
include hop hr hl hgo

theorem msRow_done (hc : (d.msShows n op (boolNat sa) ix).msCode n = 0) :
    s.dev.anyRow (idBlock s.id) i (R.MS_CMD n) (msWord n op (boolNat sa) ix) =
      ((d.msShows n op (boolNat sa) ix).msEffect n).put (F.MS_RESULT_CODE n) 0 := by
  obtain ⟨hx, ha, htcmd, -, -⟩ := msCmd_page n
  obtain ⟨h1, -⟩ := newField_msWord (n := n) hop (boolNat_lt sa) ix.isLt
  rw [Dev.anyRow_page _ d _ _ i _ _ (.ep n 2) 0x44 hx (by decide) ha htcmd hr hl (Dev.pageWrite_msCmd _ _),
    Dev.window_done hgo h1 rfl hc, Dev.msShows]

theorem msRow_refused (hc : (d.msShows n op (boolNat sa) ix).msCode n = 0x0116) :
    s.dev.anyRow (idBlock s.id) i (R.MS_CMD n) (msWord n op (boolNat sa) ix) =
      ((d.msShows n op (boolNat sa) ix).put (F.MS_RESULT_CODE n) 0x0116).recordErr (.ep n 2) (initCode i) (R.MS_CMD n)
        0x0116 := by
  obtain ⟨hx, ha, htcmd, -, -⟩ := msCmd_page n
  obtain ⟨h1, -⟩ := newField_msWord (n := n) hop (boolNat_lt sa) ix.isLt
  rw [Dev.anyRow_page _ d _ _ i _ _ (.ep n 2) 0x44 hx (by decide) ha htcmd hr hl (Dev.pageWrite_msCmd _ _),
    Dev.window_refused hgo h1 rfl hc (by decide) (pageOf_page _ _ _ hx (by decide) ha), Dev.msShows]

end

end

/-! ### Snapshots (R176) -/

section
variable {d : Dev} {n : Nat}

/-- R176: counter k of a port as it stands. -/
def Dev.live (d : Dev) (p k : Nat) : Nat := tget (d.port p).live k

/-- R176: the four words of the two octet counters, shown. -/
def Dev.octetsShown (d : Dev) (n : Nat) : Dev :=
  (((d.put (F.EP_CNT_COUNT n 0) (d.live n 0 % 2 ^ 32)).put (F.EP_CNT_COUNT n 1) (d.live n 0 / 2 ^ 32)).put
    (F.EP_CNT_COUNT n 2) (d.live n 2 % 2 ^ 32)).put (F.EP_CNT_COUNT n 3) (d.live n 2 / 2 ^ 32)

theorem Dev.epSnap_eq : d.epSnap n =
    (List.range 22).foldl (fun (a : Dev) k => a.put (F.EP_CNT_COUNT n (4 + k)) (d.live n (4 + k)))
      (d.octetsShown n) := rfl

theorem epCnt_apart {j k : Nat} (h : j ≠ k) : (F.EP_CNT_COUNT n j).addr ≠ (F.EP_CNT_COUNT n k).addr := by
  simp only [F.EP_CNT_COUNT, R.EP_CNT]
  omega

theorem get_put_word {f : Fld} (h : f.lo = 0 ∧ f.width = 32) (v : Nat) : (d.put f v).get f = v % 2 ^ 32 := by
  rw [Dev.get_put _ _ _ (by rw [h.1, h.2]), h.2]

theorem Dev.octetsShown_reads : (d.octetsShown n).get (F.EP_CNT_COUNT n 0) = d.live n 0 % 2 ^ 32 ∧
    (d.octetsShown n).get (F.EP_CNT_COUNT n 1) = d.live n 0 / 2 ^ 32 % 2 ^ 32 ∧
    (d.octetsShown n).get (F.EP_CNT_COUNT n 2) = d.live n 2 % 2 ^ 32 ∧
    (d.octetsShown n).get (F.EP_CNT_COUNT n 3) = d.live n 2 / 2 ^ 32 % 2 ^ 32 := by
  unfold Dev.octetsShown
  refine ⟨?_, ?_, ?_, ?_⟩
  · rw [Dev.get_put_other _ _ _ _ (epCnt_apart (by decide)), Dev.get_put_other _ _ _ _ (epCnt_apart (by decide)),
      Dev.get_put_other _ _ _ _ (epCnt_apart (by decide)), get_put_word ⟨rfl, rfl⟩, Nat.mod_mod]
  · rw [Dev.get_put_other _ _ _ _ (epCnt_apart (by decide)), Dev.get_put_other _ _ _ _ (epCnt_apart (by decide)),
      get_put_word ⟨rfl, rfl⟩]
  · rw [Dev.get_put_other _ _ _ _ (epCnt_apart (by decide)), get_put_word ⟨rfl, rfl⟩, Nat.mod_mod]
  · rw [get_put_word ⟨rfl, rfl⟩]

theorem Dev.word_octetsShown {a : Nat} (h : ∀ k < 4, a ≠ R.EP_CNT n k) : (d.octetsShown n).word a = d.word a := by
  unfold Dev.octetsShown
  rw [Dev.word_put_other _ _ _ _ (h 3 (by decide)), Dev.word_put_other _ _ _ _ (h 2 (by decide)),
    Dev.word_put_other _ _ _ _ (h 1 (by decide)), Dev.word_put_other _ _ _ _ (h 0 (by decide))]

/-- Fields written in turn, each a register of its own: each reads as it was written. -/
theorem Dev.get_foldl_put {α : Type} (f : α → Fld) (x : α → Nat) (hf : ∀ y, (f y).lo = 0 ∧ (f y).width = 32)
    (l : List α) (d : Dev) (z : α) (hp : l.Pairwise (fun y y' => (f y).addr ≠ (f y').addr)) (hz : z ∈ l) :
    (l.foldl (fun (e : Dev) y => e.put (f y) (x y)) d).get (f z) = x z % 2 ^ 32 := by
  induction l generalizing d with
  | nil => exact absurd hz List.not_mem_nil
  | cons y l ih =>
    obtain ⟨hy, hl⟩ := List.pairwise_cons.mp hp
    rw [List.foldl_cons]
    by_cases hzl : z ∈ l
    · exact ih _ hl hzl
    · obtain rfl := (List.mem_cons.mp hz).resolve_right hzl
      rw [Dev.get_of_word (Dev.word_foldl_put f (fun _ => x) l _ hy), get_put_word (hf z)]

theorem Dev.ports_foldl_put {α : Type} (f : α → Fld) (x : α → Nat) (l : List α) (d : Dev) :
    (l.foldl (fun (e : Dev) y => e.put (f y) (x y)) d).ports = d.ports :=
  List.foldlRecOn (motive := fun e : Dev => e.ports = d.ports) _ _ rfl fun e he _ _ => by rw [Dev.put_ports, he]

theorem Dev.epSnap_reads :
    (∀ k, k < 22 → (d.epSnap n).get (F.EP_CNT_COUNT n (4 + k)) = d.live n (4 + k) % 2 ^ 32) ∧
    (∀ k < 4, (d.epSnap n).get (F.EP_CNT_COUNT n k) = (d.octetsShown n).get (F.EP_CNT_COUNT n k)) ∧
    (d.epSnap n).ports = d.ports ∧
    ∀ a, (a < R.EP_CNT n 0 ∨ R.EP_CNT n 25 < a) → (d.epSnap n).word a = d.word a := by
  rw [Dev.epSnap_eq]
  refine ⟨fun k hk => ?_, fun k hk => ?_, ?_, fun a ha => ?_⟩
  · refine Dev.get_foldl_put (fun k => F.EP_CNT_COUNT n (4 + k)) (fun k => d.live n (4 + k)) (fun _ => ⟨rfl, rfl⟩) _ _
      k ?_ (List.mem_range.mpr hk)
    exact List.nodup_range.imp fun h => epCnt_apart (by omega)
  · exact Dev.get_of_word (Dev.word_foldl_put (fun k => F.EP_CNT_COUNT n (4 + k)) (fun _ k => d.live n (4 + k)) _ _
      fun y _ => epCnt_apart (by omega))
  · rw [Dev.ports_foldl_put (fun k => F.EP_CNT_COUNT n (4 + k)) (fun k => d.live n (4 + k)), Dev.octetsShown]
    rfl
  · have hne : ∀ k < 26, a ≠ R.EP_CNT n k := fun k hk => by
      simp only [R.EP_CNT] at ha ⊢
      omega
    rw [Dev.word_foldl_put (fun k => F.EP_CNT_COUNT n (4 + k)) (fun _ k => d.live n (4 + k)) _ _ fun y hy =>
      hne (4 + y) (by have := List.mem_range.mp hy; omega), Dev.word_octetsShown fun k hk => hne k (by omega)]

theorem tsCnt_apart {j k : Nat} (h : j ≠ k) : (F.TS_CNT_COUNT n j).addr ≠ (F.TS_CNT_COUNT n k).addr := by
  simp only [F.TS_CNT_COUNT, R.TS_CNT]
  omega

theorem tsCounters_zipIdx : tsCounters.zipIdx = (List.range 11).map (fun k => (tsCounters.getD k 0, k)) := by decide

theorem Dev.tsSnap_eq : d.tsSnap n = (List.range 11).foldl (fun (a : Dev) k =>
    a.put (F.TS_CNT_COUNT n k) (d.live (16 + n) (tsCounters.getD k 0))) d := by
  rw [Dev.tsSnap, tsCounters_zipIdx, List.foldl_map]
  rfl

theorem Dev.tsSnap_reads : (∀ k, k < 11 → (d.tsSnap n).get (F.TS_CNT_COUNT n k) =
    d.live (16 + n) (tsCounters.getD k 0) % 2 ^ 32) ∧ (d.tsSnap n).ports = d.ports ∧
    ∀ a, (a < R.TS_CNT n 0 ∨ R.TS_CNT n 10 < a) → (d.tsSnap n).word a = d.word a := by
  rw [Dev.tsSnap_eq]
  refine ⟨fun k hk => ?_, ?_, fun a ha => ?_⟩
  · refine Dev.get_foldl_put (F.TS_CNT_COUNT n) (fun k => d.live (16 + n) (tsCounters.getD k 0))
      (fun _ => ⟨rfl, rfl⟩) _ _ k ?_ (List.mem_range.mpr hk)
    exact List.nodup_range.imp fun h => tsCnt_apart h
  · exact Dev.ports_foldl_put (F.TS_CNT_COUNT n) (fun k => d.live (16 + n) (tsCounters.getD k 0)) _ _
  · refine Dev.word_foldl_put (F.TS_CNT_COUNT n) (fun _ k => d.live (16 + n) (tsCounters.getD k 0)) _ _ fun k hk => ?_
    have := List.mem_range.mp hk
    simp only [F.TS_CNT_COUNT, R.TS_CNT] at ha ⊢
    omega

end

/-! ### Rows of the snapshots -/

section
variable {s : State} {i : Init} {p : Fin 24} {d : Dev}

theorem exec_cntSnap : exec (.cntSnap i p) s = .next (s.ends (s.dev.anyRow (idBlock s.id) i
    (if p.val < 16 then R.EP_CNT_CTRL p else R.TS_CNT_CTRL (p - 16)) 1)) :=
  act_eq_ends s (fun d => d.anyRow (idBlock s.id) i (if p.val < 16 then R.EP_CNT_CTRL p else R.TS_CNT_CTRL (p - 16)) 1)

/-- R176: CNT_SNAP of an EP port. -/
theorem epSnapRow (hp : p.val < 16) (hr : s.dev.reaches i (R.EP_CNT_CTRL p) = some d)
    (hl : d.lockedWrite (R.EP_CNT_CTRL p) 1 = false) : exec (.cntSnap i p) s = .next (s.ends (d.epSnap p)) := by
  have hx : pageExists (.ep p 3) = true := by
    simp only [pageExists, Bool.and_eq_true, decide_eq_true_eq]
    exact ⟨hp, by decide⟩
  have ha : R.EP_CNT_CTRL p = pageBase (.ep p 3) + 0x40 := by
    simp only [R.EP_CNT_CTRL, pageBase]
    omega
  have htcmd : R.EP_CNT_CTRL p ≠ R.GV_TCMD := by
    simp only [R.EP_CNT_CTRL, R.GV_TCMD]
    omega
  have hoff : R.EP_CNT_CTRL p % 0x1000 = 0x40 := by
    simp only [R.EP_CNT_CTRL]
    omega
  have hsnap : newField 1 (F.EP_CNT_CTRL_SNAP p) = 1 := (by decide : wordBits 1 0 1 = 1)
  have hj : d.pageWrite (idBlock s.id) i (.ep p 3) (R.EP_CNT_CTRL p) 1 = .ok (d.epSnap p) := by
    unfold Dev.pageWrite
    dsimp only
    rw [hoff, if_neg (by decide), Dev.epWrite, if_neg (by decide), if_neg (by decide), if_neg (by decide), if_pos rfl,
      if_pos hsnap]
  rw [exec_cntSnap, if_pos hp, Dev.anyRow_page _ d _ _ i _ _ (.ep p 3) 0x40 hx (by decide) ha htcmd hr hl hj]

/-- R176: CNT_SNAP of a T1S segment. -/
theorem tsSnapRow (hp : 16 ≤ p.val) (hr : s.dev.reaches i (R.TS_CNT_CTRL (p - 16)) = some d)
    (hl : d.lockedWrite (R.TS_CNT_CTRL (p - 16)) 1 = false) :
    exec (.cntSnap i p) s = .next (s.ends (d.tsSnap (p - 16))) := by
  have hlt := p.isLt
  have hx : pageExists (.ts (p - 16)) = true := by
    simp only [pageExists, decide_eq_true_eq]
    omega
  have ha : R.TS_CNT_CTRL (p - 16) = pageBase (.ts (p - 16)) + 0x50 := by
    simp only [R.TS_CNT_CTRL, pageBase]
    omega
  have htcmd : R.TS_CNT_CTRL (p - 16) ≠ R.GV_TCMD := by
    simp only [R.TS_CNT_CTRL, R.GV_TCMD]
    omega
  have hoff : R.TS_CNT_CTRL (p - 16) % 0x1000 = 0x50 := by
    simp only [R.TS_CNT_CTRL]
    omega
  have hne : ¬ (R.TS_CNT_CTRL (p - 16) = R.TS_PLCA (p - 16) ∨ R.TS_CNT_CTRL (p - 16) = R.TS_BURST (p - 16)) := by
    simp only [R.TS_CNT_CTRL, R.TS_PLCA, R.TS_BURST]
    omega
  have hmac : R.TS_CNT_CTRL (p - 16) ≠ R.TS_MAC (p - 16) := by
    simp only [R.TS_CNT_CTRL, R.TS_MAC]
    omega
  have hsnap : newField 1 (F.TS_CNT_CTRL_SNAP (p - 16)) = 1 := (by decide : wordBits 1 0 1 = 1)
  have hj : d.pageWrite (idBlock s.id) i (.ts (p - 16)) (R.TS_CNT_CTRL (p - 16)) 1 = .ok (d.tsSnap (p - 16)) := by
    unfold Dev.pageWrite
    dsimp only
    rw [hoff, if_neg (by decide), Dev.tsWrite, if_neg hne, if_neg hmac, if_pos rfl, if_pos hsnap]
  rw [exec_cntSnap, if_neg (by omega),
    Dev.anyRow_page _ d _ _ i _ _ (.ts (p - 16)) 0x50 hx (by decide) ha htcmd hr hl hj]

end

/-- Settles O27: a command of the window is judged by `Dev.msCode` and acts by `Dev.msEffect`; a snapshot writes each
counter's registers in turn. -/
theorem macsecTablesAndCounters : Obligations.MacsecTablesAndCounters := by
  unfold Obligations.MacsecTablesAndCounters
  refine ⟨?readSa, ?readSc, ?readNo, ?writeSc, ?writeSa, ?writeNo, ?ep, ?ts⟩
  case readSa =>
    intro s i n ix d hr hl hgo hix
    obtain ⟨h1, h2, h3⟩ := Dev.msShows_fields (d := d) (n := n) (op := 0) (table := boolNat true) (by decide)
      (boolNat_lt true) ix.isLt
    have ht : (d.msShows n 0 (boolNat true) ix).flag (F.MS_CMD_TABLE n) = true := Dev.get_of_eq h2 rfl
    have hc : (d.msShows n 0 (boolNat true) ix).msCode n = 0 := by
      rw [Dev.msCode_read h1 h3, if_pos ht, if_neg (by omega)]
    rw [exec_msRead, msRow_done (by decide) hr hl hgo hc, Dev.msEffect_readSa h3 ht h1, Dev.saEntry,
      Dev.msShows_entries.2, ← Dev.saEntry, Dev.msShows, msWord]
  case readSc =>
    intro s i n ix d hr hl hgo hix
    obtain ⟨h1, h2, h3⟩ := Dev.msShows_fields (d := d) (n := n) (op := 0) (table := boolNat false) (by decide)
      (boolNat_lt false) ix.isLt
    have ht : (d.msShows n 0 (boolNat false) ix).flag (F.MS_CMD_TABLE n) = false := Dev.get_of_eq h2 rfl
    have hc : (d.msShows n 0 (boolNat false) ix).msCode n = 0 := by
      rw [Dev.msCode_read h1 h3, ht, if_neg Bool.false_ne_true, if_neg (by omega)]
    rw [exec_msRead, msRow_done (by decide) hr hl hgo hc, Dev.msEffect_readSc h3 ht h1, Dev.scEntry,
      Dev.msShows_entries.1, ← Dev.scEntry, Dev.msShows, msWord]
  case readNo =>
    intro s i n ix d sa hr hl hgo hix
    obtain ⟨h1, h2, h3⟩ := Dev.msShows_fields (d := d) (n := n) (op := 0) (table := boolNat sa) (by decide)
      (boolNat_lt sa) ix.isLt
    have ht : (d.msShows n 0 (boolNat sa) ix).flag (F.MS_CMD_TABLE n) = sa := Dev.get_of_eq h2 (by cases sa <;> rfl)
    have hc : (d.msShows n 0 (boolNat sa) ix).msCode n = 0x0116 := by
      rw [Dev.msCode_read h1 h3, ht, if_pos hix]
    rw [exec_msRead, msRow_refused (by decide) hr hl hgo hc, Dev.msShows, msWord]
  case writeSc =>
    intro s i n ix d hr hl hgo hc
    obtain ⟨h1, h2, h3⟩ := Dev.msShows_fields (d := d) (n := n) (op := 1) (table := boolNat false) (by decide)
      (boolNat_lt false) ix.isLt
    have ht : (d.msShows n 1 (boolNat false) ix).flag (F.MS_CMD_TABLE n) = false := Dev.get_of_eq h2 rfl
    rw [exec_msWrite, msRow_done (by decide) hr hl hgo hc, Dev.msEffect_writeSc h3 ht h1, Dev.msShows_entries.1,
      Dev.msShows_data, Dev.msShows_data, Dev.msShows_data, Dev.msShows, msWord]
  case writeSa =>
    intro s i n ix d hr hl hgo hc
    obtain ⟨h1, h2, h3⟩ := Dev.msShows_fields (d := d) (n := n) (op := 1) (table := boolNat true) (by decide)
      (boolNat_lt true) ix.isLt
    have ht : (d.msShows n 1 (boolNat true) ix).flag (F.MS_CMD_TABLE n) = true := Dev.get_of_eq h2 rfl
    rw [exec_msWrite, msRow_done (by decide) hr hl hgo hc, Dev.msEffect_writeSa h3 ht h1, Dev.msShows_data,
      Dev.msShows_data, Dev.msShows_data, Dev.msShows_data, Dev.msShows, msWord]
  case writeNo =>
    intro s i n ix d sa hr hl hgo hc
    rw [exec_msWrite, msRow_refused (by decide) hr hl hgo hc, Dev.msShows, msWord]
  case ep =>
    intro s i p d hp hr hl
    obtain ⟨hcount, hoct, hports, hword⟩ := Dev.epSnap_reads (d := d) (n := p)
    obtain ⟨h0, h1, h2, h3⟩ := Dev.octetsShown_reads (d := d) (n := p)
    exact ⟨d.epSnap p, epSnapRow hp hr hl, hcount, (hoct 0 (by decide)).trans h0, (hoct 1 (by decide)).trans h1,
      (hoct 2 (by decide)).trans h2, (hoct 3 (by decide)).trans h3, hports, hword⟩
  case ts =>
    intro s i p d hp hr hl
    obtain ⟨hcount, hports, hword⟩ := Dev.tsSnap_reads (d := d) (n := p - 16)
    rw [Nat.add_sub_cancel' hp] at hcount
    exact ⟨d.tsSnap (p - 16), tsSnapRow hp hr hl, hcount, hports, hword⟩

end Sys2Proof.Machine
end

section
/-! The windows of flow meters and of histograms (R91, R212, R213, R220). -/

namespace Sys2Proof.Machine
open Sys2Proof

/-! ### The flow meter command (R213) -/

/-- R213: the word of TM_FM_CMD. -/
def fmCmdWord (op ix : Nat) : Word := cmdWord [(F.TM_FM_CMD_GO, 1), (F.TM_FM_CMD_OP, op), (F.TM_FM_CMD_INDEX, ix)]

theorem newField_fmCmdWord {op ix : Nat} (hop : op < 4) (hix : ix < 8192) :
    newField (fmCmdWord op ix) F.TM_FM_CMD_GO = 1 ∧ newField (fmCmdWord op ix) F.TM_FM_CMD_OP = op ∧
      newField (fmCmdWord op ix) F.TM_FM_CMD_INDEX = ix := by
  simp (disch := omega) only [fmCmdWord, cmdWord, List.foldl_cons, List.foldl_nil, newField, F.TM_FM_CMD_GO,
    F.TM_FM_CMD_OP, F.TM_FM_CMD_INDEX, wordBits_wordPut, wordBits_wordPut_other, Nat.mod_eq_of_lt, and_self]

theorem fmCmd_stored : F.TM_FM_CMD_OP.stored = true ∧ F.TM_FM_CMD_INDEX.stored = true := by decide +kernel

/-- R213: the device that shows a command on a flow meter. -/
def Dev.fmShows (d : Dev) (op ix : Nat) : Dev := d.commanded R.TM_FM_CMD (fmCmdWord op ix) F.TM_FM_CMD_GO

section
variable {d : Dev} {op ix : Nat}

theorem Dev.fmShows_fields (hop : op < 4) (hix : ix < 8192) :
    (d.fmShows op ix).get F.TM_FM_CMD_OP = op ∧ (d.fmShows op ix).get F.TM_FM_CMD_INDEX = ix := by
  obtain ⟨-, h1, h2⟩ := newField_fmCmdWord hop hix
  obtain ⟨s1, s2⟩ := fmCmd_stored
  refine ⟨Eq.trans ?_ h1, Eq.trans ?_ h2⟩
  · exact Dev.get_commanded_field (g := F.TM_FM_CMD_OP) rfl s1 (by decide) (.inr (.inl (by decide)))
  · exact Dev.get_commanded_field (g := F.TM_FM_CMD_INDEX) rfl s2 (by decide) (.inr (.inl (by decide)))

theorem Dev.fmShows_data (k : Nat) : (d.fmShows op ix).get (F.TM_FM_DATA_DATA k) = d.get (F.TM_FM_DATA_DATA k) :=
  Dev.get_commanded rfl (by simp only [F.TM_FM_DATA_DATA, R.TM_FM_DATA, R.TM_FM_CMD]; omega)

theorem Dev.fmShows_fm (m : Nat) : (d.fmShows op ix).fm m = d.fm m := by
  rw [Dev.fm, Dev.fmShows, Dev.commanded_tm, Dev.fm]

theorem Dev.fmShows_aon : (d.fmShows op ix).plat.aon = d.plat.aon := by
  rw [Dev.fmShows, Dev.commanded_plat]

end

/-! ### What it does (R212, R213) -/

/-- R212, R213: the fields of a meter as the window holds them. -/
def Dev.fmHeld (d : Dev) (x : FlowMeter) : FlowMeter :=
  { x with
    w0 := bitsOf (d.get (F.TM_FM_DATA_DATA 0)) 26 6 * 2 ^ 26, cir := bitsOf (d.get (F.TM_FM_DATA_DATA 1)) 0 28
    cbs := bitsOf (d.get (F.TM_FM_DATA_DATA 2)) 0 24, eir := bitsOf (d.get (F.TM_FM_DATA_DATA 3)) 0 28
    ebs := bitsOf (d.get (F.TM_FM_DATA_DATA 4)) 0 24 }

/-- R213: a rate that the window holds is above 50 Gb/s. -/
def Dev.fmFast (d : Dev) : Bool :=
  decide (50000000 < bitsOf (d.get (F.TM_FM_DATA_DATA 1)) 0 28) ||
    decide (50000000 < bitsOf (d.get (F.TM_FM_DATA_DATA 3)) 0 28)

/-- Word 0 of a meter is written with its upper six bits, its enable among them. -/
theorem bitOf_upperSix (v : Nat) : bitOf (bitsOf v 26 6 * 2 ^ 26) 31 = bitOf v 31 := by
  simp only [bitOf, bitsOf]
  congr 1
  omega

section
variable {d : Dev} {m : Nat}

theorem Dev.fmCode_read (hop : d.get F.TM_FM_CMD_OP = 0) : d.fmCode = 0 := by
  unfold Dev.fmCode
  rw [hop]
  rfl

theorem Dev.fmCode_write (hop : d.get F.TM_FM_CMD_OP = 1) : d.fmCode = if d.fmFast then 0x011E else 0 := by
  unfold Dev.fmCode
  rw [hop]
  rfl

section
variable (hm : d.get F.TM_FM_CMD_INDEX = m)
include hm

theorem Dev.fmEffect_read (hop : d.get F.TM_FM_CMD_OP = 0) : d.fmEffect =
    (List.range 8).foldl (fun (a : Dev) w => a.put (F.TM_FM_DATA_DATA w) (fmWord (d.fm m) w)) d := by
  unfold Dev.fmEffect
  rw [hop, hm]
  rfl

section
variable (hop : d.get F.TM_FM_CMD_OP = 1)
include hop

/-- R212: a WRITE that enables a meter fills its buckets and clears its counters. -/
theorem Dev.fmEffect_enable (hnew : bitOf (d.get (F.TM_FM_DATA_DATA 0)) 31 = true)
    (hold : bitOf (d.fm m).w0 31 = false) : d.fmEffect = d.setFm m { d.fmHeld (d.fm m) with
      green := 0, yellow := 0, red := 0
      tc := bucketFull (bitsOf (d.get (F.TM_FM_DATA_DATA 2)) 0 24) d.plat.aon
      te := bucketFull (bitsOf (d.get (F.TM_FM_DATA_DATA 4)) 0 24) d.plat.aon } := by
  have hc : (bitOf (bitsOf (d.get (F.TM_FM_DATA_DATA 0)) 26 6 * 2 ^ 26) 31 && !bitOf (d.fm m).w0 31) = true := by
    rw [bitOf_upperSix, hnew, hold]
    rfl
  unfold Dev.fmEffect
  dsimp only
  rw [hop, hm, if_neg (by decide), fmAt, if_pos hc]
  rfl

/-- R212: any other WRITE keeps the counters and cuts the buckets as they stand. -/
theorem Dev.fmEffect_keep (h : bitOf (d.get (F.TM_FM_DATA_DATA 0)) 31 = false ∨ bitOf (d.fm m).w0 31 = true) :
    d.fmEffect = d.setFm m { d.fmHeld (d.fm m) with
      tc := bucketAt 0 (bitsOf (d.get (F.TM_FM_DATA_DATA 2)) 0 24) d.plat.aon (fmAt d.plat.aon (d.fm m)).tc
      te := bucketAt 0 (bitsOf (d.get (F.TM_FM_DATA_DATA 4)) 0 24) d.plat.aon (fmAt d.plat.aon (d.fm m)).te } := by
  have hc : (bitOf (bitsOf (d.get (F.TM_FM_DATA_DATA 0)) 26 6 * 2 ^ 26) 31 && !bitOf (d.fm m).w0 31) = false := by
    rw [bitOf_upperSix]
    rcases h with h | h
    · rw [h, Bool.false_and]
    · rw [h, Bool.not_true, Bool.and_false]
  unfold Dev.fmEffect
  dsimp only
  rw [hop, hm, if_neg (by decide), fmAt, hc, if_neg Bool.false_ne_true]
  rfl

end

end

end

/-! ### Rows of the flow meter window -/

section
variable {s : State} {i : Init} {ix : Fin 8192} {d : Dev} {op : Nat}

theorem exec_fmRead : exec (.fmRead i ix) s =
    .next (s.ends (s.dev.anyRow (idBlock s.id) i R.TM_FM_CMD (fmCmdWord 0 ix))) :=
  act_eq_ends s (fun d => d.anyRow (idBlock s.id) i R.TM_FM_CMD (fmCmdWord 0 ix))

theorem exec_fmWrite : exec (.fmWrite i ix) s =
    .next (s.ends (s.dev.anyRow (idBlock s.id) i R.TM_FM_CMD (fmCmdWord 1 ix))) :=
  act_eq_ends s (fun d => d.anyRow (idBlock s.id) i R.TM_FM_CMD (fmCmdWord 1 ix))

/-- R91, R213: a write of TM_FM_CMD is a command of the window. -/
theorem Dev.pageWrite_fmCmd (ident : List Byte) (v : Word) : d.pageWrite ident i (.tm 1) R.TM_FM_CMD v =
    .ok (d.window i R.TM_FM_CMD v F.TM_FM_CMD_GO F.TM_FM_RESULT_CODE (fun d => d.fmCode) (fun d => d.fmEffect)) := by
  unfold Dev.pageWrite
  dsimp only
  rw [if_neg (by decide), Dev.tmWrite, if_neg (by decide), if_pos rfl, if_pos rfl]

section
variable (hop : op < 4) (hr : s.dev.reaches i R.TM_FM_CMD = some d)
  (hl : d.lockedWrite R.TM_FM_CMD (fmCmdWord op ix) = false) (hgo : d.flag F.TM_FM_CMD_GO = false)
include hop hr hl hgo

theorem fmRow_done (hc : (d.fmShows op ix).fmCode = 0) :
    s.dev.anyRow (idBlock s.id) i R.TM_FM_CMD (fmCmdWord op ix) =
      (d.fmShows op ix).fmEffect.put F.TM_FM_RESULT_CODE 0 := by
  obtain ⟨h1, -⟩ := newField_fmCmdWord hop ix.isLt
  rw [Dev.anyRow_page _ d _ _ i _ _ (.tm 1) 0x40 (by decide) (by decide) (by decide) (by decide) hr hl
    (Dev.pageWrite_fmCmd _ _), Dev.window_done hgo h1 rfl hc, Dev.fmShows]

theorem fmRow_refused (hc : (d.fmShows op ix).fmCode = 0x011E) :
    s.dev.anyRow (idBlock s.id) i R.TM_FM_CMD (fmCmdWord op ix) =
      ((d.fmShows op ix).put F.TM_FM_RESULT_CODE 0x011E).recordErr (.tm 1) (initCode i) R.TM_FM_CMD 0x011E := by
  obtain ⟨h1, -⟩ := newField_fmCmdWord hop ix.isLt
  rw [Dev.anyRow_page _ d _ _ i _ _ (.tm 1) 0x40 (by decide) (by decide) (by decide) (by decide) hr hl
    (Dev.pageWrite_fmCmd _ _), Dev.window_refused hgo h1 rfl hc (by decide)
    (pageOf_page (.tm 1) 0x40 _ (by decide) (by decide) (by decide)), Dev.fmShows]

end

end

/-! ### The histogram command (R220) -/

/-- R220: the word of TM_HIST_CMD. -/
def histWord (q : Nat) (clear : Bool) : Word :=
  cmdWord [(F.TM_HIST_CMD_GO, 1), (F.TM_HIST_CMD_CLEAR, boolNat clear), (F.TM_HIST_CMD_QUEUE, q)]

theorem newField_histWord {q : Nat} {clear : Bool} (hq : q < 256) :
    newField (histWord q clear) F.TM_HIST_CMD_GO = 1 ∧
      newField (histWord q clear) F.TM_HIST_CMD_CLEAR = boolNat clear ∧
      newField (histWord q clear) F.TM_HIST_CMD_QUEUE = q := by
  have hc := boolNat_lt clear
  simp (disch := omega) only [histWord, cmdWord, List.foldl_cons, List.foldl_nil, newField, F.TM_HIST_CMD_GO,
    F.TM_HIST_CMD_CLEAR, F.TM_HIST_CMD_QUEUE, wordBits_wordPut, wordBits_wordPut_other, Nat.mod_eq_of_lt, and_self]

theorem hist_stored : F.TM_HIST_CMD_CLEAR.stored = true ∧ F.TM_HIST_CMD_QUEUE.stored = true := by decide +kernel

/-- R220: the device that shows a histogram command. -/
def Dev.histShows (d : Dev) (q : Nat) (clear : Bool) : Dev :=
  d.commanded R.TM_HIST_CMD (histWord q clear) F.TM_HIST_CMD_GO

section
variable {d : Dev} {q : Nat} {clear : Bool}

theorem Dev.histShows_fields (hq : q < 256) : (d.histShows q clear).flag F.TM_HIST_CMD_CLEAR = clear ∧
    (d.histShows q clear).get F.TM_HIST_CMD_QUEUE = q := by
  obtain ⟨-, h1, h2⟩ := newField_histWord (clear := clear) hq
  obtain ⟨s1, s2⟩ := hist_stored
  refine ⟨?_, Eq.trans ?_ h2⟩
  · refine Dev.get_of_eq (Eq.trans (b := newField (histWord q clear) F.TM_HIST_CMD_CLEAR) ?_ h1)
      (by cases clear <;> rfl)
    exact Dev.get_commanded_field (g := F.TM_HIST_CMD_CLEAR) rfl s1 (by decide) (.inr (.inl (by decide)))
  · exact Dev.get_commanded_field (g := F.TM_HIST_CMD_QUEUE) rfl s2 (by decide) (.inr (.inl (by decide)))

theorem Dev.tm_foldl_put {α : Type} (f : α → Fld) (x : α → Nat) (l : List α) (d : Dev) :
    (l.foldl (fun (e : Dev) y => e.put (f y) (x y)) d).tm = d.tm :=
  List.foldlRecOn (motive := fun e : Dev => e.tm = d.tm) _ _ rfl fun e he _ _ => by rw [Dev.put_tm, he]

/-- The bins that a command shows, each as it stands when the command begins. -/
theorem Dev.foldl_bins (q : Nat) (l : List Nat) (d : Dev) :
    l.foldl (fun (a : Dev) w => a.put (F.TM_HIST_DATA_DATA w) (tget a.tm.hist (16 * q + w))) d =
      l.foldl (fun (a : Dev) w => a.put (F.TM_HIST_DATA_DATA w) (tget d.tm.hist (16 * q + w))) d := by
  induction l generalizing d with
  | nil => rfl
  | cons w l ih => rw [List.foldl_cons, ih, Dev.put_tm, List.foldl_cons]

/-- R220: the bins of queue q shown. -/
def Dev.binsShown (d : Dev) (q : Nat) (e : Dev) : Dev :=
  (List.range 16).foldl (fun (a : Dev) w => a.put (F.TM_HIST_DATA_DATA w) (tget d.tm.hist (16 * q + w))) e

theorem Dev.binsShown_tm (d e : Dev) (q : Nat) : (d.binsShown q e).tm = e.tm :=
  Dev.tm_foldl_put F.TM_HIST_DATA_DATA (fun w => tget d.tm.hist (16 * q + w)) _ e

theorem Dev.binsShown_clear (d e : Dev) (q : Nat) :
    (d.binsShown q e).flag F.TM_HIST_CMD_CLEAR = e.flag F.TM_HIST_CMD_CLEAR := by
  refine congrArg (· == 1) (Dev.get_of_word (Dev.word_foldl_put F.TM_HIST_DATA_DATA
    (fun _ w => tget d.tm.hist (16 * q + w)) _ e fun w _ => ?_))
  simp only [F.TM_HIST_CMD_CLEAR, F.TM_HIST_DATA_DATA, R.TM_HIST_CMD, R.TM_HIST_DATA]
  omega

/-- R220: a histogram command shows the bins and, with CLEAR, clears them. -/
theorem Dev.histEffect_eq {e : Dev} (htm : e.tm = d.tm) (hq : e.get F.TM_HIST_CMD_QUEUE = q)
    (hc : e.flag F.TM_HIST_CMD_CLEAR = clear) : e.histEffect = if clear then
      { d.binsShown q e with tm := { d.tm with hist := tabDrop (fun j => j / 16 == q) d.tm.hist } }
      else d.binsShown q e := by
  have hb : (List.range 16).foldl (fun (a : Dev) w => a.put (F.TM_HIST_DATA_DATA w) (tget a.tm.hist (16 * q + w))) e =
      d.binsShown q e := by
    rw [Dev.foldl_bins, htm, Dev.binsShown]
  unfold Dev.histEffect
  dsimp only
  rw [hq, hb, Dev.binsShown_clear, hc, Dev.binsShown_tm, htm]

end

/-! ### Rows of the histogram window -/

section
variable {s : State} {i : Init} {q : Fin 256} {clear : Bool} {d : Dev}

theorem exec_tmHistCmd : exec (.tmHistCmd i q clear) s =
    .next (s.ends (s.dev.anyRow (idBlock s.id) i R.TM_HIST_CMD (histWord q clear))) :=
  act_eq_ends s (fun d => d.anyRow (idBlock s.id) i R.TM_HIST_CMD (histWord q clear))

/-- R91, R220: a write of TM_HIST_CMD. -/
theorem Dev.pageWrite_hist (ident : List Byte) (v : Word) : d.pageWrite ident i (.tm 5) R.TM_HIST_CMD v =
    .ok (d.histCmdWrite i v) := by
  unfold Dev.pageWrite
  dsimp only
  rw [if_neg (by decide), Dev.tmWrite, if_neg (by decide), if_neg (by decide), if_neg (by decide), if_neg (by decide),
    if_neg (by decide), if_pos rfl]

theorem histRow (hr : s.dev.reaches i R.TM_HIST_CMD = some d)
    (hl : d.lockedWrite R.TM_HIST_CMD (histWord q clear) = false) :
    exec (.tmHistCmd i q clear) s = .next (s.ends (d.histCmdWrite i (histWord q clear))) := by
  rw [exec_tmHistCmd, Dev.anyRow_page _ d _ _ i _ _ (.tm 5) 0x40 (by decide) (by decide) (by decide) (by decide) hr hl
    (Dev.pageWrite_hist _ _)]

theorem Dev.histCmdWrite_waits (h : d.flag F.TM_HIST_CMD_GO = true) (v : Word) : d.histCmdWrite i v = d := by
  rw [Dev.histCmdWrite]
  dsimp only
  rw [if_pos h]

section
variable (hgo : d.flag F.TM_HIST_CMD_GO = false)
include hgo

/-- R220: a command on a queue that exists. -/
theorem Dev.histCmdWrite_taken (hq : q.val < 224) : d.histCmdWrite i (histWord q clear) =
    if d.flag F.TM_SAMPLE_EN then ((d.histShows q clear).put F.TM_HIST_RESULT_CODE 0).put F.TM_HIST_CMD_GO 1
    else ((d.histShows q clear).put F.TM_HIST_RESULT_CODE 0).histEffect := by
  obtain ⟨h1, -⟩ := newField_histWord (clear := clear) q.isLt
  obtain ⟨-, h3⟩ := Dev.histShows_fields (d := d) (clear := clear) q.isLt
  have hen : ((d.histShows q clear).put F.TM_HIST_RESULT_CODE 0).flag F.TM_SAMPLE_EN = d.flag F.TM_SAMPLE_EN := by
    rw [Dev.flag_put_apart _ _ _ _ (by decide) (.inl (by decide)), Dev.histShows,
      Dev.flag_commanded (addr := R.TM_HIST_CMD) (go := F.TM_HIST_CMD_GO) rfl (by decide)]
  have hs : (d.store R.TM_HIST_CMD (histWord q clear)).put F.TM_HIST_CMD_GO 0 = d.histShows q clear := by
    rw [Dev.histShows, Dev.commanded]
  have hz : ¬ (0 : Nat) ≠ 0 := fun h => h rfl
  unfold Dev.histCmdWrite
  dsimp only
  rw [hgo, if_neg Bool.false_ne_true, if_pos h1, hs, h3, if_neg (Nat.not_le.mpr hq), Dev.windowErr_none, hen, if_neg hz]

/-- R220: one on a queue that does not exist. -/
theorem Dev.histCmdWrite_refused (hq : 224 ≤ q.val) : d.histCmdWrite i (histWord q clear) =
    ((d.histShows q clear).put F.TM_HIST_RESULT_CODE 0x011E).recordErr (.tm 5) (initCode i) R.TM_HIST_CMD 0x011E := by
  obtain ⟨h1, -⟩ := newField_histWord (clear := clear) q.isLt
  obtain ⟨-, h3⟩ := Dev.histShows_fields (d := d) (clear := clear) q.isLt
  have hs : (d.store R.TM_HIST_CMD (histWord q clear)).put F.TM_HIST_CMD_GO 0 = d.histShows q clear := by
    rw [Dev.histShows, Dev.commanded]
  have hp : pageOf R.TM_HIST_CMD = some (.tm 5) := pageOf_page (.tm 5) 0x40 _ (by decide) (by decide) (by decide)
  have hn : (0x011E : Nat) ≠ 0 := by decide
  unfold Dev.histCmdWrite
  dsimp only
  rw [hgo, if_neg Bool.false_ne_true, if_pos h1, hs, h3, if_pos hq, Dev.windowErr, hp]
  dsimp only
  rw [if_pos hn, if_neg hn]

end

theorem Dev.histShows_tm : (d.histShows q clear).tm = d.tm := Dev.commanded_tm _ _ _ _

/-- R220: the device that shows a command and its result. -/
theorem Dev.histDone_fields (hq : q.val < 256) :
    ((d.histShows q clear).put F.TM_HIST_RESULT_CODE 0).tm = d.tm ∧
    ((d.histShows q clear).put F.TM_HIST_RESULT_CODE 0).get F.TM_HIST_CMD_QUEUE = q ∧
    ((d.histShows q clear).put F.TM_HIST_RESULT_CODE 0).flag F.TM_HIST_CMD_CLEAR = clear := by
  obtain ⟨h1, h2⟩ := Dev.histShows_fields (d := d) (clear := clear) hq
  refine ⟨?_, ?_, ?_⟩
  · rw [Dev.put_tm, Dev.histShows_tm]
  · rw [Dev.get_put_other _ _ _ _ (by decide), h2]
  · rw [Dev.flag_put_apart _ _ _ _ (by decide) (.inl (by decide)), h1]

end

/-! ### Sampling (R220) -/

section
variable {s : State} {d : Dev}

/-- R220: the sampling boundary that is next. -/
def Dev.nextSample (d : Dev) : Nat := d.tm.sampled + d.get F.TM_SAMPLE_PERIOD_US * 1000

/-- R220: every queue sampled at the boundary that is next. -/
def Dev.allSampled (d : Dev) : Dev :=
  (List.range 224).foldl (fun (a : Dev) q => a.sampleQueue q) { d with tm := { d.tm with sampled := d.nextSample } }

theorem Dev.word_sampleQueue (q a : Nat) : (d.sampleQueue q).word a = d.word a := rfl

theorem Dev.word_allSampled (a : Nat) : d.allSampled.word a = d.word a :=
  List.foldlRecOn (motive := fun e : Dev => e.word a = d.word a) _ _ rfl fun _ he q _ =>
    (Dev.word_sampleQueue q a).trans he

theorem exec_tmSample : exec .tmSample s = .next (s.ends s.dev.tmSample) := act_eq_ends s (fun d => d.tmSample)

theorem Dev.tmSample_due (he : d.flag F.TM_SAMPLE_EN = true) (ht : d.nextSample ≤ d.plat.aon) : d.tmSample =
    if d.flag F.TM_HIST_CMD_GO then d.allSampled.histEffect.put F.TM_HIST_CMD_GO 0 else d.allSampled := by
  have hgo : d.allSampled.flag F.TM_HIST_CMD_GO = d.flag F.TM_HIST_CMD_GO := by
    rw [Dev.flag, Dev.get, Dev.word_allSampled, ← Dev.get, ← Dev.flag]
  have ht' : decide (d.tm.sampled + d.get F.TM_SAMPLE_PERIOD_US * 1000 ≤ d.plat.aon) = true := decide_eq_true ht
  unfold Dev.tmSample
  dsimp only
  rw [he, ht', Bool.true_and, if_pos rfl, ← Dev.nextSample, ← Dev.allSampled, Dev.histDone, hgo]

theorem Dev.tmSample_idle (h : d.flag F.TM_SAMPLE_EN = false ∨ d.plat.aon < d.nextSample) : d.tmSample = d := by
  have hc : (d.flag F.TM_SAMPLE_EN && decide (d.nextSample ≤ d.plat.aon)) = false := by
    rcases h with h | h
    · rw [h, Bool.false_and]
    · rw [decide_eq_false (Nat.not_le.mpr h), Bool.and_false]
  unfold Dev.tmSample
  dsimp only
  rw [← Dev.nextSample, hc, if_neg Bool.false_ne_true]

end

end Sys2Proof.Machine
end

section
/-! Gate lists: COMMIT, ABORT and STOP of a port, and the entry in force (R217 to R219). -/

namespace Sys2Proof.Machine
open Sys2Proof

/-! ### A field written as it stands -/

/-- A field written with what it holds leaves every register as it is. -/
theorem Dev.word_put_get (d : Dev) {f : Fld} (hw : f.lo + f.width ≤ 32) (a : Nat) :
    (d.put f (d.get f)).word a = d.word a := by
  by_cases h : a = f.addr
  · rw [h, Dev.put, Dev.word_setWord_same, Dev.get, wordPut_wordBits _ _ _ hw]
  · exact Dev.word_put_other d f _ a h

/-! ### A one-shot entry that is past (R70) -/

theorem Dev.word_setAside (d : Dev) (r : LateRelease) (a : Nat) : (d.setAside r).word a = d.word a := rfl

section
variable {d : Dev} {ix : Nat} {e : WheelEntry}

/-- R70: a one-shot entry that is past is released late, and used up. -/
theorem Dev.writeEntry_late (hv : wheelValid e = true) (hper : wheelPeriodic e = false)
    (hlate : wheelLatePol e = false) (hph : wheelPhase e = false) (hact : wheelAction e ≠ 1) (hl : e.last = false)
    (hn : d.pastCount e = 1) : ∃ r, d.writeEntry ix e =
      ((d.setEntry ix { e with last := true }).setAside r).modEntry ix (fun e => { e with committed := e.committed + 1 }) := by
  have hn' : (d.setEntry ix e).pastCount e = 1 := hn
  have hset : ∀ x, (d.setEntry ix e).setEntry ix x = d.setEntry ix x := fun x => by
    rw [Dev.setEntry, Dev.setEntry, Dev.setEntry, tset_tset]
  refine ⟨{ index := ix, version := e.version, action := wheelAction e, target := wheelTarget e, param := e.w6,
            from_ := d.tl.ticks + 1, late := true, final := true }, ?_⟩
  unfold Dev.writeEntry Dev.armEntry
  dsimp only
  rw [Dev.entry_setEntry_same, hv, hph, hl, hlate, hn', useInstants, hper]
  simp only [Bool.not_true, Bool.or_self, Bool.false_eq_true, if_false, if_neg hact, hset, Nat.one_ne_zero, Nat.le_refl,
    if_true, Dev.setEntry_tl, Dev.setAside]

end

/-! ### The entry of a takeover (R218) -/

section
variable {dm p t version : Nat}

theorem gateEntry_w3 : (gateEntry dm p t version).w3 = t % 1000000000 := rfl

section
variable (hdm : dm ≤ 4) (hp : p < 28)
include hdm hp

/-- R218: the entry is a valid one-shot time entry of action GATE, late ones released. -/
theorem gateEntry_form : wheelValid (gateEntry dm p t version) = true ∧
    wheelPeriodic (gateEntry dm p t version) = false ∧ wheelLatePol (gateEntry dm p t version) = false ∧
    wheelPhase (gateEntry dm p t version) = false ∧ wheelAction (gateEntry dm p t version) = 3 := by
  have hw : (gateEntry dm p t version).w0 = 2 ^ 31 + dm * 2 ^ 24 + 3 * 2 ^ 20 + p := rfl
  refine ⟨?_, ?_, ?_, ?_, ?_⟩
  · rw [wheelValid, bitOf, hw, beq_iff_eq]
    omega
  · rw [wheelPeriodic, bitOf, hw, beq_eq_false_iff_ne]
    omega
  · rw [wheelLatePol, bitOf, hw, beq_eq_false_iff_ne]
    omega
  · rw [wheelPhase, wheelBase, bitsOf, hw, decide_eq_false_iff_not]
    omega
  · rw [wheelAction, bitsOf, hw]
    omega

theorem Dev.pastCount_gate (d : Dev) : d.pastCount (gateEntry dm p t version) ≤ 1 := by
  obtain ⟨-, hper, -⟩ := gateEntry_form (t := t) (version := version) hdm hp
  unfold Dev.pastCount
  dsimp only
  rw [hper, if_neg Bool.false_ne_true]
  split_ifs
  all_goals omega

/-- R70, R218: the entry written: registers, lists and other entries stay, and the entry names the instant, past or
not. -/
theorem Dev.writeEntry_gate (d : Dev) : (d.writeEntry p (gateEntry dm p t version)).tm = d.tm ∧
    (∀ a, (d.writeEntry p (gateEntry dm p t version)).word a = d.word a) ∧
    ((d.writeEntry p (gateEntry dm p t version)).entry p).w3 = t % 1000000000 ∧
    ∀ k, k ≠ p → (d.writeEntry p (gateEntry dm p t version)).entry k = d.entry k := by
  obtain ⟨hv, hper, hlate, hph, hact⟩ := gateEntry_form (t := t) (version := version) hdm hp
  by_cases hn : d.pastCount (gateEntry dm p t version) = 0
  · rw [Dev.writeEntry_ahead hv hph rfl hn]
    exact ⟨Dev.setEntry_tm _ _ _, fun a => Dev.setEntry_word _ _ _ a, congrArg WheelEntry.w3 (Dev.entry_setEntry_same _),
      fun k hk => Dev.entry_setEntry_other _ hk⟩
  · have hle := Dev.pastCount_gate (t := t) (version := version) hdm hp d
    obtain ⟨r, hr⟩ := Dev.writeEntry_late (d := d) (ix := p) hv hper hlate hph (by rw [hact]; decide) rfl (by omega)
    rw [hr]
    refine ⟨?_, fun a => ?_, ?_, fun k hk => ?_⟩
    · rw [Dev.modEntry, Dev.setEntry_tm, Dev.setAside, Dev.setEntry_tm]
    · rw [Dev.modEntry, Dev.setEntry_word, Dev.word_setAside, Dev.setEntry_word]
    · rw [Dev.modEntry, Dev.entry_setEntry_same, Dev.entry_setAside, Dev.entry_setEntry_same]
      exact gateEntry_w3 (dm := dm) (p := p) (version := version)
    · rw [Dev.modEntry, Dev.entry_setEntry_other _ hk, Dev.entry_setAside, Dev.entry_setEntry_other _ hk]

end

end

/-! ### What COMMIT, ABORT and STOP do (R218, R219) -/

section
variable {d e : Dev} {p : Nat}

section
variable (hw : ∀ a, e.word a = d.word a)
include hw

/-- R218: instant and verdict of a COMMIT rest on the registers, the lists and the clocks. -/
theorem Dev.takeInstant_congr (htl : e.tl = d.tl) : e.takeInstant p = d.takeInstant p := by
  have hg : ∀ g, e.get g = d.get g := fun g => Dev.get_of_word (hw g.addr)
  have htb : ∀ k, e.tbVal k = d.tbVal k := fun k => by rw [Dev.tbVal, Dev.base40, htl, Dev.tbVal, Dev.base40]
  rw [Dev.takeInstant, Dev.gclBase, Dev.gateTime, hg, hg, hg, hg, hg, htb, Dev.takeInstant, Dev.gclBase, Dev.gateTime]

theorem Dev.gclBad_congr (htm : e.tm = d.tm) : e.gclBad p = d.gclBad p := by
  have hg : ∀ g, e.get g = d.get g := fun g => Dev.get_of_word (hw g.addr)
  have hf : ∀ g, e.flag g = d.flag g := fun g => by rw [Dev.flag, hg, Dev.flag]
  have hgate : e.gate p (e.adminBank p) = d.gate p (d.adminBank p) := funext fun i => by
    rw [Dev.gate, htm, Dev.adminBank, hg, Dev.gate, Dev.adminBank]
  have hd : ∀ k, e.domEn k = d.domEn k := fun k => by rw [Dev.domEn, hf, Dev.domEn]
  unfold Dev.gclBad
  dsimp only
  rw [hg, hg, hg, hgate, hf, hd]

end

/-- R218: the registers of a takeover at instant t of port p. -/
def Dev.takeShown (d : Dev) (p t : Nat) : Dev :=
  (((d.put (F.TM_GCL_TAKE_SEC_LO_SEC p) (t / 1000000000 % 2 ^ 32)).put (F.TM_GCL_TAKE_SEC_HI_SEC p)
    (t / 1000000000 / 2 ^ 32 % 2 ^ 16)).put (F.TM_GCL_TAKE_NS_NS p) (t % 1000000000)).put (F.TM_GCL_STAT_PENDING p) 1

/-- R218: the list that a takeover at instant t makes operational. -/
def Dev.gclAhead (d : Dev) (p t : Nat) : Dev := d.modGcl p (fun g => { g with
  take := some t, newCycle := d.get (F.TM_GCL_CYCLE_NS p), newLen := d.get (F.TM_GCL_LEN_LEN p) })

/-- R218: the takeover shown and the list that it makes operational. -/
def Dev.gclScheduled (d : Dev) (p : Nat) : Dev := (d.takeShown p (d.takeInstant p)).gclAhead p (d.takeInstant p)

theorem Dev.gclCommit_eq : d.gclCommit p = (d.gclScheduled p).writeEntry p (gateEntry
    ((d.gclScheduled p).get (F.TM_GCL_CTRL_DOMAIN p)) p (d.takeInstant p) (((d.gclScheduled p).entry p).version + 1)) := by
  unfold Dev.gclCommit Dev.gclScheduled Dev.gclAhead Dev.takeShown
  rfl

@[simp] theorem Dev.gcl_modGcl_same (f : GateSt → GateSt) : (d.modGcl p f).gcl p = f (d.gcl p) := tget_tmod_same _ _ _

theorem Dev.gcl_modGcl_other {k : Nat} (f : GateSt → GateSt) (h : k ≠ p) : (d.modGcl p f).gcl k = d.gcl k :=
  tget_tmod_other _ _ _ _ h

@[simp] theorem Dev.word_modGcl (f : GateSt → GateSt) (a : Nat) : (d.modGcl p f).word a = d.word a := rfl

@[simp] theorem Dev.entry_modGcl (f : GateSt → GateSt) (k : Nat) : (d.modGcl p f).entry k = d.entry k := rfl

@[simp] theorem Dev.gcl_put (f : Fld) (v k : Nat) : (d.put f v).gcl k = d.gcl k := by
  rw [Dev.gcl, Dev.put_tm, Dev.gcl]

@[simp] theorem Dev.entry_put (f : Fld) (v k : Nat) : (d.put f v).entry k = d.entry k := by
  rw [Dev.entry, Dev.put_canopy, Dev.entry]

/-- The registers of a port's gate list lie apart. -/
theorem gcl_apart (p : Nat) : R.TM_GCL_TAKE_SEC_LO p ≠ R.TM_GCL_TAKE_SEC_HI p ∧
    R.TM_GCL_TAKE_SEC_LO p ≠ R.TM_GCL_TAKE_NS p ∧ R.TM_GCL_TAKE_SEC_HI p ≠ R.TM_GCL_TAKE_NS p ∧
    ∀ a, (a = R.TM_GCL_CTRL p ∨ a = R.TM_GCL_CYCLE p ∨ a = R.TM_GCL_LEN p ∨ a = R.TM_GCL_STAT p) →
      a ≠ R.TM_GCL_TAKE_SEC_LO p ∧ a ≠ R.TM_GCL_TAKE_SEC_HI p ∧ a ≠ R.TM_GCL_TAKE_NS p := by
  simp only [R.TM_GCL_TAKE_SEC_LO, R.TM_GCL_TAKE_SEC_HI, R.TM_GCL_TAKE_NS, R.TM_GCL_CTRL, R.TM_GCL_CYCLE, R.TM_GCL_LEN,
    R.TM_GCL_STAT]
  refine ⟨by omega, by omega, by omega, fun a h => ?_⟩
  rcases h with h | h | h | h <;> omega

theorem Dev.word_takeShown {a t : Nat} (h : a = R.TM_GCL_CTRL p ∨ a = R.TM_GCL_CYCLE p ∨ a = R.TM_GCL_LEN p) :
    (d.takeShown p t).word a = d.word a := by
  obtain ⟨-, -, -, hne⟩ := gcl_apart p
  obtain ⟨h1, h2, h3⟩ := hne a (by tauto)
  have h4 : a ≠ R.TM_GCL_STAT p := by
    simp only [R.TM_GCL_CTRL, R.TM_GCL_CYCLE, R.TM_GCL_LEN, R.TM_GCL_STAT] at h ⊢
    rcases h with h | h | h <;> omega
  rw [Dev.takeShown, Dev.word_put_other _ (F.TM_GCL_STAT_PENDING p) _ _ h4,
    Dev.word_put_other _ (F.TM_GCL_TAKE_NS_NS p) _ _ h3, Dev.word_put_other _ (F.TM_GCL_TAKE_SEC_HI_SEC p) _ _ h2,
    Dev.word_put_other _ (F.TM_GCL_TAKE_SEC_LO_SEC p) _ _ h1]

theorem Dev.takeShown_reads (t : Nat) : (d.takeShown p t).flag (F.TM_GCL_STAT_PENDING p) = true ∧
    (d.takeShown p t).get (F.TM_GCL_TAKE_SEC_LO_SEC p) = t / 1000000000 % 2 ^ 32 ∧
    (d.takeShown p t).get (F.TM_GCL_TAKE_SEC_HI_SEC p) = t / 1000000000 / 2 ^ 32 % 2 ^ 16 ∧
    (d.takeShown p t).get (F.TM_GCL_TAKE_NS_NS p) = t % 1000000000 ∧
    (d.takeShown p t).flag (F.TM_GCL_STAT_RUNNING p) = d.flag (F.TM_GCL_STAT_RUNNING p) := by
  obtain ⟨h1, h2, h3, hne⟩ := gcl_apart p
  obtain ⟨n1, n2, n3⟩ := hne (R.TM_GCL_STAT p) (.inr (.inr (.inr rfl)))
  have w1 : (F.TM_GCL_STAT_PENDING p).lo + (F.TM_GCL_STAT_PENDING p).width ≤ 32 := Nat.le_refl 32
  have w2 : (F.TM_GCL_TAKE_SEC_LO_SEC p).lo + (F.TM_GCL_TAKE_SEC_LO_SEC p).width ≤ 32 := Nat.le_refl 32
  have w3 : (F.TM_GCL_TAKE_SEC_HI_SEC p).lo + (F.TM_GCL_TAKE_SEC_HI_SEC p).width ≤ 32 := (by decide : 0 + 16 ≤ 32)
  have w4 : (F.TM_GCL_TAKE_NS_NS p).lo + (F.TM_GCL_TAKE_NS_NS p).width ≤ 32 := (by decide : 0 + 30 ≤ 32)
  have hns : t % 1000000000 % 2 ^ 30 = t % 1000000000 := by omega
  unfold Dev.takeShown
  refine ⟨?_, ?_, ?_, ?_, ?_⟩
  · exact Dev.get_of_eq (Dev.get_put _ _ _ w1) rfl
  · rw [Dev.get_put_other _ _ _ _ n1.symm, Dev.get_put_other _ _ _ _ h2, Dev.get_put_other _ _ _ _ h1,
      Dev.get_put _ _ _ w2]
    exact Nat.mod_mod _ _
  · rw [Dev.get_put_other _ _ _ _ n2.symm, Dev.get_put_other _ _ _ _ h3, Dev.get_put _ _ _ w3]
    exact Nat.mod_mod _ _
  · rw [Dev.get_put_other _ _ _ _ n3.symm, Dev.get_put _ _ _ w4]
    exact hns
  · rw [Dev.flag_put_apart _ _ _ _ w1 (.inr (.inl (by decide : 29 + 1 ≤ 31))), Dev.flag_put_apart _ _ _ _ w4 (.inl n3),
      Dev.flag_put_apart _ _ _ _ w3 (.inl n2), Dev.flag_put_apart _ _ _ _ w2 (.inl n1)]

/-- R218: a COMMIT of a domain that exists: what it shows and what stays. -/
theorem Dev.gclCommit_result {t : Nat} (hp : p < 28) (h4 : d.get (F.TM_GCL_CTRL_DOMAIN p) ≤ 4)
    (ht : d.takeInstant p = t) : (∀ a, (d.gclCommit p).word a = (d.takeShown p t).word a) ∧
      (d.gclCommit p).gcl p = { d.gcl p with
        take := some t, newCycle := d.get (F.TM_GCL_CYCLE_NS p), newLen := d.get (F.TM_GCL_LEN_LEN p) } ∧
      ((d.gclCommit p).entry p).w3 = t % 1000000000 ∧ (∀ k, k ≠ p → (d.gclCommit p).gcl k = d.gcl k) ∧
      ∀ k, k ≠ p → (d.gclCommit p).entry k = d.entry k := by
  have hdom : (d.gclScheduled p).get (F.TM_GCL_CTRL_DOMAIN p) = d.get (F.TM_GCL_CTRL_DOMAIN p) :=
    Dev.get_of_word ((Dev.word_modGcl _ _).trans (Dev.word_takeShown (.inl rfl)))
  have hshown : ∀ k, (d.takeShown p t).gcl k = d.gcl k ∧ (d.takeShown p t).entry k = d.entry k := fun k => by
    rw [Dev.takeShown, Dev.gcl_put, Dev.gcl_put, Dev.gcl_put, Dev.gcl_put, Dev.entry_put, Dev.entry_put, Dev.entry_put,
      Dev.entry_put]
    exact ⟨rfl, rfl⟩
  rw [Dev.gclCommit_eq, hdom, ht]
  obtain ⟨htm, hword, hw3, hentry⟩ := Dev.writeEntry_gate (t := t) (version := ((d.gclScheduled p).entry p).version + 1) h4
    hp (d.gclScheduled p)
  refine ⟨fun a => ?_, ?_, hw3, fun k hk => ?_, fun k hk => ?_⟩
  · rw [hword, Dev.gclScheduled, ht, Dev.gclAhead, Dev.word_modGcl]
  · rw [Dev.gcl, htm, ← Dev.gcl, Dev.gclScheduled, ht, Dev.gclAhead, Dev.gcl_modGcl_same, (hshown p).1,
      Dev.get_of_word (g := F.TM_GCL_CYCLE_NS p) (Dev.word_takeShown (.inr (.inl rfl))),
      Dev.get_of_word (g := F.TM_GCL_LEN_LEN p) (Dev.word_takeShown (.inr (.inr rfl)))]
  · rw [Dev.gcl, htm, ← Dev.gcl, Dev.gclScheduled, ht, Dev.gclAhead, Dev.gcl_modGcl_other _ hk, (hshown k).1]
  · rw [hentry k hk, Dev.gclScheduled, ht, Dev.gclAhead, Dev.entry_modGcl, (hshown k).2]

/-- R219: what ABORT changes. -/
theorem Dev.gclAbort_result : (∀ a, (d.gclAbort p).word a = (d.put (F.TM_GCL_STAT_PENDING p) 0).word a) ∧
    (d.gclAbort p).gcl p = { d.gcl p with take := none } ∧ wheelValid ((d.gclAbort p).entry p) = false ∧
    (∀ k, k ≠ p → (d.gclAbort p).gcl k = d.gcl k) ∧ ∀ k, k ≠ p → (d.gclAbort p).entry k = d.entry k := by
  have hword : ∀ a, ((d.gclClearEntry p).modGcl p (fun g => { g with take := none })).word a = d.word a := fun a => by
    rw [Dev.word_modGcl, Dev.gclClearEntry, Dev.setEntry_word]
  have hgcl : ∀ k, (d.gclClearEntry p).gcl k = d.gcl k := fun k => by
    rw [Dev.gcl, Dev.gclClearEntry, Dev.setEntry_tm, Dev.gcl]
  rw [Dev.gclAbort, Dev.gclDrop]
  refine ⟨fun a => ?_, ?_, ?_, fun k hk => ?_, fun k hk => ?_⟩
  · by_cases ha : a = R.TM_GCL_STAT p
    · rw [ha, Dev.put, Dev.put, F.TM_GCL_STAT_PENDING, Dev.word_setWord_same, Dev.word_setWord_same, hword]
    · rw [Dev.word_put_other _ (F.TM_GCL_STAT_PENDING p) _ _ ha, hword,
        Dev.word_put_other _ (F.TM_GCL_STAT_PENDING p) _ _ ha]
  · rw [Dev.gcl_put, Dev.gcl_modGcl_same, hgcl]
  · rw [Dev.entry_put, Dev.entry_modGcl, Dev.gclClearEntry, Dev.entry_setEntry_same]
    exact wheelValid_of_cleared rfl
  · rw [Dev.gcl_put, Dev.gcl_modGcl_other _ hk, hgcl]
  · rw [Dev.entry_put, Dev.entry_modGcl, Dev.gclClearEntry, Dev.entry_setEntry_other _ hk]

/-- R219: the takeover that waits, if any, dropped. -/
def Dev.gclDropped (d : Dev) (p : Nat) : Dev := if (d.gcl p).take.isSome then d.gclAbort p else d

theorem Dev.gclDropped_result : (∀ a, a ≠ R.TM_GCL_STAT p → (d.gclDropped p).word a = d.word a) ∧
    ((d.gclDropped p).gcl p).take = none ∧ (∀ k, k ≠ p → (d.gclDropped p).gcl k = d.gcl k) ∧
    ((d.gcl p).take ≠ none → (d.gclDropped p).flag (F.TM_GCL_STAT_PENDING p) = false ∧
      wheelValid ((d.gclDropped p).entry p) = false) := by
  obtain ⟨hword, hgcl, hvalid, hother, -⟩ := Dev.gclAbort_result (d := d) (p := p)
  rw [Dev.gclDropped]
  split
  next hs =>
    refine ⟨fun a ha => ?_, by rw [hgcl], hother, fun _ => ⟨?_, hvalid⟩⟩
    · rw [hword, Dev.word_put_other _ (F.TM_GCL_STAT_PENDING p) _ _ ha]
    · have hw : (F.TM_GCL_STAT_PENDING p).lo + (F.TM_GCL_STAT_PENDING p).width ≤ 32 := Nat.le_refl 32
      exact Dev.get_of_eq ((Dev.get_of_word (hword _)).trans (Dev.get_put _ _ _ hw)) rfl
  next hs =>
    have hnone : (d.gcl p).take = none := Option.not_isSome_iff_eq_none.mp hs
    exact ⟨fun _ _ => rfl, hnone, fun _ _ => rfl, fun h => absurd hnone h⟩

/-- R217: with no list running the register shows every gate open. -/
theorem Dev.gclStop_eq : d.gclStop p = (((d.gclDropped p).put (F.TM_GCL_STAT_RUNNING p) 0).put (F.TM_GCL_STAT_INDEX p) 0).put
    (F.TM_GCL_STAT_GATES p) 0xFF := by
  have hw : (F.TM_GCL_STAT_RUNNING p).lo + (F.TM_GCL_STAT_RUNNING p).width ≤ 32 := (by decide : 29 + 1 ≤ 32)
  have hrun : ((d.gclDropped p).put (F.TM_GCL_STAT_RUNNING p) 0).flag (F.TM_GCL_STAT_RUNNING p) = false :=
    Dev.get_of_eq (Dev.get_put _ _ _ hw) rfl
  unfold Dev.gclStop
  dsimp only
  rw [← Dev.gclDropped, Dev.gateShow, Dev.gateNow, hrun, if_neg Bool.false_ne_true]

theorem Dev.gclStop_result : (∀ a, a ≠ R.TM_GCL_STAT p → (d.gclStop p).word a = d.word a) ∧
    (∀ k, (d.gclStop p).gcl k = (d.gclDropped p).gcl k) ∧ (∀ k, (d.gclStop p).entry k = (d.gclDropped p).entry k) ∧
    (d.gclStop p).flag (F.TM_GCL_STAT_RUNNING p) = false ∧ (d.gclStop p).get (F.TM_GCL_STAT_GATES p) = 0xFF ∧
    (d.gclStop p).get (F.TM_GCL_STAT_INDEX p) = 0 ∧
    (d.gclStop p).flag (F.TM_GCL_STAT_PENDING p) = (d.gclDropped p).flag (F.TM_GCL_STAT_PENDING p) := by
  obtain ⟨hword, -⟩ := Dev.gclDropped_result (d := d) (p := p)
  have w1 : (F.TM_GCL_STAT_RUNNING p).lo + (F.TM_GCL_STAT_RUNNING p).width ≤ 32 := (by decide : 29 + 1 ≤ 32)
  have w2 : (F.TM_GCL_STAT_INDEX p).lo + (F.TM_GCL_STAT_INDEX p).width ≤ 32 := (by decide : 0 + 8 ≤ 32)
  have w3 : (F.TM_GCL_STAT_GATES p).lo + (F.TM_GCL_STAT_GATES p).width ≤ 32 := (by decide : 8 + 8 ≤ 32)
  rw [Dev.gclStop_eq]
  refine ⟨fun a ha => ?_, fun k => ?_, fun k => ?_, ?_, ?_, ?_, ?_⟩
  · rw [Dev.word_put_other _ (F.TM_GCL_STAT_GATES p) _ _ ha, Dev.word_put_other _ (F.TM_GCL_STAT_INDEX p) _ _ ha,
      Dev.word_put_other _ (F.TM_GCL_STAT_RUNNING p) _ _ ha, hword a ha]
  · rw [Dev.gcl_put, Dev.gcl_put, Dev.gcl_put]
  · rw [Dev.entry_put, Dev.entry_put, Dev.entry_put]
  · rw [Dev.flag_put_apart _ _ (F.TM_GCL_STAT_RUNNING p) _ w3 (.inr (.inr (by decide : 8 + 8 ≤ 29))),
      Dev.flag_put_apart _ _ (F.TM_GCL_STAT_RUNNING p) _ w2 (.inr (.inr (by decide : 0 + 8 ≤ 29)))]
    exact Dev.get_of_eq (Dev.get_put _ _ _ w1) rfl
  · exact Dev.get_put _ _ _ w3
  · rw [Dev.get_put_apart _ _ _ _ w3 (.inr (.inl (by decide : 0 + 8 ≤ 8)))]
    exact Dev.get_put _ _ _ w2
  · rw [Dev.flag_put_apart _ _ (F.TM_GCL_STAT_PENDING p) _ w3 (.inr (.inr (by decide : 8 + 8 ≤ 31))),
      Dev.flag_put_apart _ _ (F.TM_GCL_STAT_PENDING p) _ w2 (.inr (.inr (by decide : 0 + 8 ≤ 31))),
      Dev.flag_put_apart _ _ (F.TM_GCL_STAT_PENDING p) _ w1 (.inr (.inr (by decide : 29 + 1 ≤ 31)))]

end

/-! ### A write of TM_GCL_CTRL that keeps its domain (R217 to R219) -/

/-- R217: the domain written as it is. -/
def Dev.domainKept (d : Dev) (p : Nat) : Dev := d.put (F.TM_GCL_CTRL_DOMAIN p) (d.get (F.TM_GCL_CTRL_DOMAIN p))

section
variable {d : Dev} {p : Nat} {v : Word}

theorem Dev.word_domainKept (a : Nat) : (d.domainKept p).word a = d.word a :=
  Dev.word_put_get d (by decide : 24 + 4 ≤ 32) a

theorem Dev.get_domainKept (g : Fld) : (d.domainKept p).get g = d.get g := Dev.get_of_word (Dev.word_domainKept _)

theorem Dev.flag_domainKept (g : Fld) : (d.domainKept p).flag g = d.flag g := by rw [Dev.flag, Dev.get_domainKept, Dev.flag]

theorem Dev.gcl_domainKept (k : Nat) : (d.domainKept p).gcl k = d.gcl k := Dev.gcl_put _ _ _

theorem Dev.entry_domainKept (k : Nat) : (d.domainKept p).entry k = d.entry k := Dev.entry_put _ _ _

section
variable (hdom : newField v (F.TM_GCL_CTRL_DOMAIN p) = d.get (F.TM_GCL_CTRL_DOMAIN p))
  (h4 : d.get (F.TM_GCL_CTRL_DOMAIN p) ≤ 4)
include hdom h4

theorem Dev.gclCtrlWrite_commit (hc : (newField v (F.TM_GCL_CTRL_COMMIT p) == 1) = true)
    (ha : (newField v (F.TM_GCL_CTRL_ABORT p) == 1) = false) (hs : (newField v (F.TM_GCL_CTRL_STOP p) == 1) = false) :
    d.gclCtrlWrite p v = if d.flag (F.TM_GCL_STAT_PENDING p) then .no 0x011F
      else if d.gclBad p then .no 0x011E else .ok ((d.domainKept p).gclCommit p) := by
  have hbad : (d.domainKept p).gclBad p = d.gclBad p := Dev.gclBad_congr Dev.word_domainKept (Dev.put_tm _ _ _)
  have hgt : ¬ 4 < d.get (F.TM_GCL_CTRL_DOMAIN p) := Nat.not_lt.mpr h4
  unfold Dev.gclCtrlWrite
  dsimp only
  rw [Dev.changes, hdom, ← Dev.domainKept, hbad]
  simp only [refuseIf, hc, ha, hs, bne_self_eq_false, Bool.false_and, Bool.true_and, Bool.false_eq_true, if_false, hgt,
    decide_false, if_true]

theorem Dev.gclCtrlWrite_abort (hc : (newField v (F.TM_GCL_CTRL_COMMIT p) == 1) = false)
    (ha : (newField v (F.TM_GCL_CTRL_ABORT p) == 1) = true) (hs : (newField v (F.TM_GCL_CTRL_STOP p) == 1) = false) :
    d.gclCtrlWrite p v = if !d.flag (F.TM_GCL_STAT_PENDING p) || d.takeDue p then .no 0x011F
      else .ok ((d.domainKept p).gclAbort p) := by
  have hgt : ¬ 4 < d.get (F.TM_GCL_CTRL_DOMAIN p) := Nat.not_lt.mpr h4
  unfold Dev.gclCtrlWrite
  dsimp only
  rw [Dev.changes, hdom, ← Dev.domainKept]
  simp only [refuseIf, hc, ha, hs, bne_self_eq_false, Bool.false_and, Bool.true_and, Bool.false_eq_true, if_false, hgt,
    decide_false, if_true]

theorem Dev.gclCtrlWrite_stop (hc : (newField v (F.TM_GCL_CTRL_COMMIT p) == 1) = false)
    (ha : (newField v (F.TM_GCL_CTRL_ABORT p) == 1) = false) (hs : (newField v (F.TM_GCL_CTRL_STOP p) == 1) = true) :
    d.gclCtrlWrite p v = .ok ((d.domainKept p).gclStop p) := by
  have hgt : ¬ 4 < d.get (F.TM_GCL_CTRL_DOMAIN p) := Nat.not_lt.mpr h4
  unfold Dev.gclCtrlWrite
  dsimp only
  rw [Dev.changes, hdom, ← Dev.domainKept]
  simp only [refuseIf, hc, ha, hs, bne_self_eq_false, Bool.false_and, Bool.false_eq_true, if_false, hgt,
    decide_false, if_true]

end

end

end Sys2Proof.Machine
end

section
/-! The rows of gate lists, and the traffic manager's commands settled (R217 to R220). -/

namespace Sys2Proof.Machine
open Sys2Proof

/-! ### Rows of gate lists -/

section
variable {s : State} {i : Init} {p : Fin 28} {d : Dev}

theorem exec_gclCommit : exec (.gclCommit i p) s = .next (s.ends (s.dev.anyRow (idBlock s.id) i (R.TM_GCL_CTRL p)
    (s.dev.wordWith (F.TM_GCL_CTRL_COMMIT p) 1))) :=
  act_eq_ends s (fun d => d.anyRow (idBlock s.id) i (R.TM_GCL_CTRL p) (d.wordWith (F.TM_GCL_CTRL_COMMIT p) 1))

theorem exec_gclAbort : exec (.gclAbort i p) s = .next (s.ends (s.dev.anyRow (idBlock s.id) i (R.TM_GCL_CTRL p)
    (s.dev.wordWith (F.TM_GCL_CTRL_ABORT p) 1))) :=
  act_eq_ends s (fun d => d.anyRow (idBlock s.id) i (R.TM_GCL_CTRL p) (d.wordWith (F.TM_GCL_CTRL_ABORT p) 1))

theorem exec_gclStop : exec (.gclStop i p) s = .next (s.ends (s.dev.anyRow (idBlock s.id) i (R.TM_GCL_CTRL p)
    (s.dev.wordWith (F.TM_GCL_CTRL_STOP p) 1))) :=
  act_eq_ends s (fun d => d.anyRow (idBlock s.id) i (R.TM_GCL_CTRL p) (d.wordWith (F.TM_GCL_CTRL_STOP p) 1))

theorem exec_gateEntryChange : exec (.gateEntryChange p) s = .next (s.ends (s.dev.gateChange p)) :=
  act_eq_ends s (fun d => d.gateChange p)

theorem gclCtrl_page (p : Fin 28) : R.TM_GCL_CTRL p = pageBase (.tm 4) + (0x40 + p * 0x40) ∧
    0x40 + p.val * 0x40 < 0x740 ∧ R.TM_GCL_CTRL p ≠ R.GV_TCMD ∧ (∀ q, R.TM_GCL_CTRL p ≠ R.HB_WSEQ q) ∧
    R.TM_GCL_CTRL p % 0x1000 = 0x40 + p * 0x40 ∧ (R.TM_GCL_CTRL p % 0x1000 - 0x40) / 0x40 = p := by
  have hp := p.isLt
  refine ⟨?_, by omega, ?_, fun q => ?_, ?_, ?_⟩
  · simp only [R.TM_GCL_CTRL, pageBase]
    omega
  · simp only [R.TM_GCL_CTRL, R.GV_TCMD]
    omega
  · simp only [R.TM_GCL_CTRL, R.HB_WSEQ]
    omega
  · simp only [R.TM_GCL_CTRL]
    omega
  · simp only [R.TM_GCL_CTRL]
    omega

/-- R217: a write of TM_GCL_CTRL. -/
theorem Dev.pageWrite_gclCtrl (ident : List Byte) (v : Word) :
    d.pageWrite ident i (.tm 4) (R.TM_GCL_CTRL p) v = d.gclCtrlWrite p v := by
  obtain ⟨-, hlt, -, -, hoff, hp⟩ := gclCtrl_page p
  unfold Dev.pageWrite
  dsimp only
  rw [if_neg (by omega), Dev.tmWrite, if_neg (by decide), if_neg (by decide), if_neg (by decide), if_neg (by decide),
    if_pos rfl, Dev.tm4Write, if_pos (by omega), hp, if_pos rfl]

section
variable {v : Word} (hr : s.dev.reaches i (R.TM_GCL_CTRL p) = some d) (hl : d.lockedWrite (R.TM_GCL_CTRL p) v = false)
include hr hl

theorem gclRow_taken {d' : Dev} (hj : d.gclCtrlWrite p v = .ok d') :
    s.dev.anyRow (idBlock s.id) i (R.TM_GCL_CTRL p) v = d' := by
  obtain ⟨ha, hlt, htcmd, -, -, -⟩ := gclCtrl_page p
  exact Dev.anyRow_page _ d _ _ i _ _ (.tm 4) _ (by decide) (by omega) ha htcmd hr hl
    ((Dev.pageWrite_gclCtrl _ _).trans hj)

theorem gclRow_refused {code : Nat} (hj : d.gclCtrlWrite p v = .no code) :
    s.dev.anyRow (idBlock s.id) i (R.TM_GCL_CTRL p) v = d.failWrite i (R.TM_GCL_CTRL p) v code := by
  obtain ⟨ha, hlt, htcmd, -, -, -⟩ := gclCtrl_page p
  exact Dev.anyRow_page_refused _ d _ i _ _ (.tm 4) _ _ (by decide) (by omega) ha htcmd hr hl
    ((Dev.pageWrite_gclCtrl _ _).trans hj)

end

/-- The word of a row arrives as it was read. -/
theorem gclRow_word {f : Fld} (hr : s.dev.reaches i (R.TM_GCL_CTRL p) = some d) (ha : f.addr = R.TM_GCL_CTRL p) :
    s.dev.wordWith f 1 = d.wordWith f 1 :=
  Dev.wordWith_arrived f 1 hr fun q => ha ▸ (gclCtrl_page p).2.2.2.1 q

/-- A word with one of the bits COMMIT, ABORT and STOP set is as the register elsewhere. -/
theorem newField_gclBit {f g : Fld} (ha : g.addr = f.addr) (hf : f.lo + f.width ≤ 32)
    (h : g.lo + g.width ≤ f.lo ∨ f.lo + f.width ≤ g.lo) {b : Bool} (hg : d.flag g = b) :
    (newField (d.wordWith f 1) g == 1) = b := by
  rw [newField_wordWith_beside 1 hf ha h]
  exact hg

section
variable (hr : s.dev.reaches i (R.TM_GCL_CTRL p) = some d) (h4 : d.get (F.TM_GCL_CTRL_DOMAIN p) ≤ 4)
include h4

section
variable (hl : d.lockedWrite (R.TM_GCL_CTRL p) (d.wordWith (F.TM_GCL_CTRL_COMMIT p) 1) = false)
  (ha : d.flag (F.TM_GCL_CTRL_ABORT p) = false) (hs : d.flag (F.TM_GCL_CTRL_STOP p) = false)
include ha hs

theorem Dev.commitWrite : d.gclCtrlWrite p (d.wordWith (F.TM_GCL_CTRL_COMMIT p) 1) =
    if d.flag (F.TM_GCL_STAT_PENDING p) then .no 0x011F
      else if d.gclBad p then .no 0x011E else .ok ((d.domainKept p).gclCommit p) := by
  have hf : (F.TM_GCL_CTRL_COMMIT p).lo + (F.TM_GCL_CTRL_COMMIT p).width ≤ 32 := (by decide : 0 + 1 ≤ 32)
  have hset : newField (d.wordWith (F.TM_GCL_CTRL_COMMIT p) 1) (F.TM_GCL_CTRL_COMMIT p) = 1 := newField_wordWith _ 1 hf
  refine Dev.gclCtrlWrite_commit (newField_wordWith_beside 1 hf rfl (.inr (by decide : 0 + 1 ≤ 24))) h4 (by rw [hset]; rfl)
    (newField_gclBit (f := F.TM_GCL_CTRL_COMMIT p) (g := F.TM_GCL_CTRL_ABORT p) rfl hf (.inr (by decide : 0 + 1 ≤ 1)) ha)
    (newField_gclBit (f := F.TM_GCL_CTRL_COMMIT p) (g := F.TM_GCL_CTRL_STOP p) rfl hf (.inr (by decide : 0 + 1 ≤ 2)) hs)

include hr hl

theorem commitRow_taken (hp : d.flag (F.TM_GCL_STAT_PENDING p) = false) (hb : d.gclBad p = false) :
    exec (.gclCommit i p) s = .next (s.ends ((d.domainKept p).gclCommit p)) := by
  have hj := Dev.commitWrite h4 ha hs
  rw [hp, hb, if_neg Bool.false_ne_true, if_neg Bool.false_ne_true] at hj
  rw [exec_gclCommit, gclRow_word hr rfl, gclRow_taken hr hl hj]

theorem commitRow_refused {code : Nat} (h : (if d.flag (F.TM_GCL_STAT_PENDING p) then Wr.no 0x011F
      else if d.gclBad p then .no 0x011E else .ok ((d.domainKept p).gclCommit p)) = .no code) :
    exec (.gclCommit i p) s = .next (s.ends (d.failWrite i (R.TM_GCL_CTRL p)
      (d.wordWith (F.TM_GCL_CTRL_COMMIT p) 1) code)) := by
  rw [exec_gclCommit, gclRow_word hr rfl, gclRow_refused hr hl ((Dev.commitWrite h4 ha hs).trans h)]

end

section
variable (hl : d.lockedWrite (R.TM_GCL_CTRL p) (d.wordWith (F.TM_GCL_CTRL_ABORT p) 1) = false)
  (hc : d.flag (F.TM_GCL_CTRL_COMMIT p) = false) (hs : d.flag (F.TM_GCL_CTRL_STOP p) = false)
include hc hs

theorem Dev.abortWrite : d.gclCtrlWrite p (d.wordWith (F.TM_GCL_CTRL_ABORT p) 1) =
    if !d.flag (F.TM_GCL_STAT_PENDING p) || d.takeDue p then .no 0x011F else .ok ((d.domainKept p).gclAbort p) := by
  have hf : (F.TM_GCL_CTRL_ABORT p).lo + (F.TM_GCL_CTRL_ABORT p).width ≤ 32 := (by decide : 1 + 1 ≤ 32)
  have hset : newField (d.wordWith (F.TM_GCL_CTRL_ABORT p) 1) (F.TM_GCL_CTRL_ABORT p) = 1 := newField_wordWith _ 1 hf
  exact Dev.gclCtrlWrite_abort (newField_wordWith_beside 1 hf rfl (.inr (by decide : 1 + 1 ≤ 24))) h4
    (newField_gclBit (f := F.TM_GCL_CTRL_ABORT p) (g := F.TM_GCL_CTRL_COMMIT p) rfl hf (.inl (by decide : 0 + 1 ≤ 1)) hc)
    (by rw [hset]; rfl)
    (newField_gclBit (f := F.TM_GCL_CTRL_ABORT p) (g := F.TM_GCL_CTRL_STOP p) rfl hf (.inr (by decide : 1 + 1 ≤ 2)) hs)

include hr hl

theorem abortRow_taken (hp : d.flag (F.TM_GCL_STAT_PENDING p) = true) (ht : d.takeDue p = false) :
    exec (.gclAbort i p) s = .next (s.ends ((d.domainKept p).gclAbort p)) := by
  have hj := Dev.abortWrite h4 hc hs
  rw [hp, ht, Bool.not_true, Bool.or_self, if_neg Bool.false_ne_true] at hj
  rw [exec_gclAbort, gclRow_word hr rfl, gclRow_taken hr hl hj]

theorem abortRow_refused (h : d.flag (F.TM_GCL_STAT_PENDING p) = false ∨ d.takeDue p = true) :
    exec (.gclAbort i p) s = .next (s.ends (d.failWrite i (R.TM_GCL_CTRL p)
      (d.wordWith (F.TM_GCL_CTRL_ABORT p) 1) 0x011F)) := by
  have hcond : (!d.flag (F.TM_GCL_STAT_PENDING p) || d.takeDue p) = true := by
    rcases h with h | h
    · rw [h, Bool.not_false, Bool.true_or]
    · rw [h, Bool.or_true]
  have hj := Dev.abortWrite h4 hc hs
  rw [hcond, if_pos rfl] at hj
  rw [exec_gclAbort, gclRow_word hr rfl, gclRow_refused hr hl hj]

end

include hr

theorem stopRow (hl : d.lockedWrite (R.TM_GCL_CTRL p) (d.wordWith (F.TM_GCL_CTRL_STOP p) 1) = false)
    (hc : d.flag (F.TM_GCL_CTRL_COMMIT p) = false) (ha : d.flag (F.TM_GCL_CTRL_ABORT p) = false) :
    exec (.gclStop i p) s = .next (s.ends ((d.domainKept p).gclStop p)) := by
  have hf : (F.TM_GCL_CTRL_STOP p).lo + (F.TM_GCL_CTRL_STOP p).width ≤ 32 := (by decide : 2 + 1 ≤ 32)
  have hset : newField (d.wordWith (F.TM_GCL_CTRL_STOP p) 1) (F.TM_GCL_CTRL_STOP p) = 1 := newField_wordWith _ 1 hf
  have hj := Dev.gclCtrlWrite_stop (newField_wordWith_beside 1 hf rfl (.inr (by decide : 2 + 1 ≤ 24))) h4
    (newField_gclBit (f := F.TM_GCL_CTRL_STOP p) (g := F.TM_GCL_CTRL_COMMIT p) rfl hf (.inl (by decide : 0 + 1 ≤ 2)) hc)
    (newField_gclBit (f := F.TM_GCL_CTRL_STOP p) (g := F.TM_GCL_CTRL_ABORT p) rfl hf (.inl (by decide : 1 + 1 ≤ 2)) ha)
    (by rw [hset]; rfl)
  rw [exec_gclStop, gclRow_word hr rfl, gclRow_taken hr hl hj]

end

end

theorem Dev.domainKept_gcl {d : Dev} {p : Nat} : (d.domainKept p).tm = d.tm ∧ (d.domainKept p).tl = d.tl :=
  ⟨Dev.put_tm _ _ _, Dev.put_tl _ _ _⟩

/-- Settles O32: a window judges and acts by its command's code and effect; a write of TM_GCL_CTRL is COMMIT, ABORT or
STOP, of which COMMIT writes an entry that no other entry or list follows. -/
theorem trafficManagerCommands : Obligations.TrafficManagerCommands := by
  unfold Obligations.TrafficManagerCommands
  refine ⟨?read, ?enable, ?keep, ?fast, ?commit, ?pending, ?bad, ?abort, ?noAbort, ?stop, ?change, ?noChange, ?sample,
    ?sampleHist, ?noSample, ?waits, ?kept, ?bins, ?noQueue⟩
  case read =>
    intro s i ix d hr hl hgo
    obtain ⟨h1, h2⟩ := Dev.fmShows_fields (d := d) (op := 0) (by decide) ix.isLt
    rw [exec_fmRead, fmRow_done (by decide) hr hl hgo (Dev.fmCode_read h1), Dev.fmEffect_read h2 h1, Dev.fmShows_fm,
      Dev.fmShows, fmCmdWord]
  case enable =>
    intro s i ix d hr hl hgo hcir heir hnew hold
    obtain ⟨h1, h2⟩ := Dev.fmShows_fields (d := d) (op := 1) (by decide) ix.isLt
    have hc : (d.fmShows 1 ix).fmCode = 0 := by
      rw [Dev.fmCode_write h1, Dev.fmFast, Dev.fmShows_data, Dev.fmShows_data, decide_eq_false (Nat.not_lt.mpr hcir),
        decide_eq_false (Nat.not_lt.mpr heir), Bool.or_self, if_neg Bool.false_ne_true]
    rw [exec_fmWrite, fmRow_done (by decide) hr hl hgo hc,
      Dev.fmEffect_enable h2 h1 (by rw [Dev.fmShows_data, hnew]) (by rw [Dev.fmShows_fm, hold]), Dev.fmHeld, Dev.fmShows_data,
      Dev.fmShows_data, Dev.fmShows_data, Dev.fmShows_data, Dev.fmShows_data, Dev.fmShows_aon, Dev.fmShows, fmCmdWord]
  case keep =>
    intro s i ix d hr hl hgo hcir heir hkeep
    obtain ⟨h1, h2⟩ := Dev.fmShows_fields (d := d) (op := 1) (by decide) ix.isLt
    have hc : (d.fmShows 1 ix).fmCode = 0 := by
      rw [Dev.fmCode_write h1, Dev.fmFast, Dev.fmShows_data, Dev.fmShows_data, decide_eq_false (Nat.not_lt.mpr hcir),
        decide_eq_false (Nat.not_lt.mpr heir), Bool.or_self, if_neg Bool.false_ne_true]
    rw [exec_fmWrite, fmRow_done (by decide) hr hl hgo hc,
      Dev.fmEffect_keep h2 h1 (by rw [Dev.fmShows_data, Dev.fmShows_fm]; exact hkeep), Dev.fmHeld, Dev.fmShows_data,
      Dev.fmShows_data, Dev.fmShows_data, Dev.fmShows_data, Dev.fmShows_data, Dev.fmShows_aon, Dev.fmShows_fm, Dev.fmShows,
      fmCmdWord]
  case fast =>
    intro s i ix d hr hl hgo hfast
    obtain ⟨h1, -⟩ := Dev.fmShows_fields (d := d) (op := 1) (by decide) ix.isLt
    have hc : (d.fmShows 1 ix).fmCode = 0x011E := by
      rw [Dev.fmCode_write h1, Dev.fmFast, Dev.fmShows_data, Dev.fmShows_data, if_pos]
      simpa only [Bool.or_eq_true, decide_eq_true_eq] using hfast
    rw [exec_fmWrite, fmRow_refused (by decide) hr hl hgo hc, Dev.fmShows, fmCmdWord]
  case commit =>
    intro s i p d t hr hl ha hs h4 hp hb ht
    obtain ⟨hword, hgcl, hw3, hother, hentry⟩ := Dev.gclCommit_result (d := d.domainKept p) (t := t) p.isLt
      (by rw [Dev.get_domainKept]; exact h4)
      (by rw [Dev.takeInstant_congr Dev.word_domainKept Dev.domainKept_gcl.2, ht])
    obtain ⟨r1, r2, r3, r4, r5⟩ := Dev.takeShown_reads (d := d.domainKept p) (p := p) t
    have hget : ∀ g, ((d.domainKept p).gclCommit p).get g = ((d.domainKept p).takeShown p t).get g := fun g =>
      Dev.get_of_word (hword g.addr)
    have hflag : ∀ g, ((d.domainKept p).gclCommit p).flag g = ((d.domainKept p).takeShown p t).flag g := fun g => by
      rw [Dev.flag, hget, Dev.flag]
    refine ⟨_, commitRow_taken hr h4 hl ha hs hp hb, (hflag _).trans r1, by rw [hgcl], ?_, ?_, (hget _).trans r2,
      (hget _).trans r3, (hget _).trans r4, hw3, ?_, fun k hk => ?_, fun k hk => ?_⟩
    · rw [hgcl]
      exact Dev.get_domainKept _
    · rw [hgcl]
      exact Dev.get_domainKept _
    · rw [hflag, r5, Dev.flag_domainKept]
    · rw [hother k hk, Dev.gcl_domainKept]
    · rw [hentry k hk, Dev.entry_domainKept]
  case pending =>
    intro s i p d hr hl ha hs h4 hp
    exact commitRow_refused hr h4 hl ha hs (by rw [hp, if_pos rfl])
  case bad =>
    intro s i p d hr hl ha hs h4 hp hb
    exact commitRow_refused hr h4 hl ha hs (by rw [hp, hb, if_neg Bool.false_ne_true, if_pos rfl])
  case abort =>
    intro s i p d hr hl hc hs h4 hp ht
    obtain ⟨hword, hgcl, hvalid, hother, hentry⟩ := Dev.gclAbort_result (d := d.domainKept p) (p := p)
    have hw : (F.TM_GCL_STAT_PENDING p).lo + (F.TM_GCL_STAT_PENDING p).width ≤ 32 := Nat.le_refl 32
    have hflag : ∀ g, ((d.domainKept p).gclAbort p).flag g = ((d.domainKept p).put (F.TM_GCL_STAT_PENDING p) 0).flag g :=
      fun g => by rw [Dev.flag, Dev.get_of_word (hword g.addr), Dev.flag]
    refine ⟨_, abortRow_taken hr h4 hl hc hs hp ht, ?_, by rw [hgcl], hvalid, ?_, fun k hk => ?_, fun k hk => ?_⟩
    · rw [hflag]
      exact Dev.get_of_eq (Dev.get_put _ _ _ hw) rfl
    · rw [hflag, Dev.flag_put_apart _ _ _ _ hw (.inr (.inl (by decide : 29 + 1 ≤ 31))), Dev.flag_domainKept]
    · rw [hother k hk, Dev.gcl_domainKept]
    · rw [hentry k hk, Dev.entry_domainKept]
  case noAbort =>
    intro s i p d hr hl hc hs h4 h
    exact abortRow_refused hr h4 hl hc hs h
  case stop =>
    intro s i p d hr hl hc ha h4
    obtain ⟨hword, hgcl, hentry, hrun, hgates, hindex, hpend⟩ := Dev.gclStop_result (d := d.domainKept p) (p := p)
    obtain ⟨-, htake, hother, hdrop⟩ := Dev.gclDropped_result (d := d.domainKept p) (p := p)
    refine ⟨_, stopRow hr h4 hl hc ha, hrun, hgates, hindex, by rw [hgcl, htake], fun h => ?_, fun k hk => ?_,
      fun a _ hstat => ?_⟩
    · obtain ⟨h1, h2⟩ := hdrop (by rw [Dev.gcl_domainKept]; exact h)
      exact ⟨hpend.trans h1, by rw [hentry, h2]⟩
    · rw [hgcl, hother k hk, Dev.gcl_domainKept]
    · rw [hword a hstat, Dev.word_domainKept]
  case change =>
    intro s p k g hrun hnow
    rw [exec_gateEntryChange, Dev.gateChange, if_pos hrun, Dev.gateShow, hnow]
  case noChange =>
    intro s p hrun
    rw [exec_gateEntryChange, Dev.gateChange, hrun, if_neg Bool.false_ne_true]
  case sample =>
    intro s he ht hgo
    rw [exec_tmSample, Dev.tmSample_due he ht, hgo, if_neg Bool.false_ne_true, Dev.allSampled, Dev.nextSample]
  case sampleHist =>
    intro s he ht hgo
    rw [exec_tmSample, Dev.tmSample_due he ht, if_pos hgo, Dev.allSampled, Dev.nextSample]
  case noSample =>
    intro s h
    rw [exec_tmSample, Dev.tmSample_idle h]
  case waits =>
    intro s i q clear d hr hl hgo hq he
    rw [histRow hr hl, Dev.histCmdWrite_taken hgo hq, if_pos he, Dev.histShows, histWord]
  case kept =>
    intro s i q clear d hr hl hgo
    rw [histRow hr hl, Dev.histCmdWrite_waits hgo]
  case bins =>
    intro s i q clear d hr hl hgo hq he
    obtain ⟨htm, h1, h2⟩ := Dev.histDone_fields (d := d) (clear := clear) q.isLt
    rw [histRow hr hl, Dev.histCmdWrite_taken hgo hq, he, if_neg Bool.false_ne_true, Dev.histEffect_eq htm h1 h2,
      Dev.binsShown, Dev.histShows, histWord]
  case noQueue =>
    intro s i q clear d hr hl hgo hq
    rw [histRow hr hl, Dev.histCmdWrite_refused hgo hq, Dev.histShows, histWord]

end Sys2Proof.Machine
end

section
/-! Sleep groups: their states and wakes, and what sleep and wake commands change (R243 to R249, R254, R276). -/

namespace Sys2Proof.Machine
open Sys2Proof

/-! ### Lists of group numbers -/

/-- A step that a list takes at one of its members alone. -/
theorem foldl_at_one {α : Type} (f : α → Nat → α) (p : Nat → Bool) {l : List Nat} {g : Nat} (hl : l.Nodup) (hg : g ∈ l)
    (hp : ∀ k ∈ l, p k = decide (k = g)) (d : α) : l.foldl (fun a k => if p k then f a k else a) d = f d g := by
  have hskip : ∀ (m : List Nat), (∀ k ∈ m, p k = false) → ∀ e, m.foldl (fun a k => if p k then f a k else a) e = e := by
    intro m hm
    induction m with
    | nil => exact fun _ => rfl
    | cons k m ih =>
      intro e
      rw [List.foldl_cons, hm k List.mem_cons_self, if_neg Bool.false_ne_true]
      exact ih (fun j hj => hm j (List.mem_cons_of_mem _ hj)) e
  induction l generalizing d with
  | nil => exact absurd hg List.not_mem_nil
  | cons k l ih =>
    obtain ⟨hk, hl⟩ := List.nodup_cons.mp hl
    rw [List.foldl_cons, hp k List.mem_cons_self]
    by_cases hkg : k = g
    · rw [if_pos (decide_eq_true hkg), hkg]
      exact hskip l (fun j hj => (hp j (List.mem_cons_of_mem _ hj)).trans
        (decide_eq_false fun h => hk (by rw [hkg, ← h]; exact hj))) _
    · rw [if_neg (by simpa using hkg)]
      exact ih hl ((List.mem_cons.mp hg).resolve_left (Ne.symm hkg)) (fun j hj => hp j (List.mem_cons_of_mem _ hj)) d

theorem bitOf_two_pow : ∀ g : Fin 8, ∀ k ∈ List.range 8, bitOf (2 ^ g.val) k = decide (k = g.val) := by decide

/-! ### States and wakes of groups (R243) -/

section
variable {d : Dev} {g k st : Nat}

theorem Dev.groupState_of_word {e : Dev} (h : e.word R.PC_GRP_STAT = d.word R.PC_GRP_STAT) (k : Nat) :
    e.groupState k = d.groupState k := by
  rw [Dev.groupState, Dev.get_of_word (g := F.PC_GRP_STAT_STATES) h, Dev.groupState]

theorem Dev.word_setGroup {a : Nat} (h : a ≠ R.PC_GRP_STAT) : (d.setGroup g st).word a = d.word a :=
  Dev.word_put_other d F.PC_GRP_STAT_STATES _ a h

theorem Dev.get_setGroup (hg : g < 8) : (d.setGroup g st).get F.PC_GRP_STAT_STATES =
    putBits (d.get F.PC_GRP_STAT_STATES) (2 * g) 2 st := by
  rw [Dev.setGroup, Dev.get_put _ F.PC_GRP_STAT_STATES _ (by decide)]
  exact Nat.mod_eq_of_lt (putBits_lt _ _ _ _ 16 (wordBits_lt _ _ _) (by omega))

theorem Dev.groupState_setGroup_same (hg : g < 8) (hs : st < 4) : (d.setGroup g st).groupState g = st := by
  rw [Dev.groupState, Dev.get_setGroup hg, bitsOf_putBits]
  exact Nat.mod_eq_of_lt hs

theorem Dev.groupState_setGroup_other (hg : g < 8) (h : k ≠ g) : (d.setGroup g st).groupState k = d.groupState k := by
  rw [Dev.groupState, Dev.get_setGroup hg, bitsOf_putBits_other _ _ _ _ _ _ (by omega), Dev.groupState]

@[simp] theorem Dev.word_setWake (w : Option GroupWake) (a : Nat) : (d.setWake g w).word a = d.word a := rfl

@[simp] theorem Dev.groupState_setWake (w : Option GroupWake) (k : Nat) : (d.setWake g w).groupState k = d.groupState k := rfl

@[simp] theorem Dev.groupWake_setWake_same (w : Option GroupWake) : (d.setWake g w).groupWake g = w := tget_tset_same _ _ _

theorem Dev.groupWake_setWake_other (w : Option GroupWake) (h : k ≠ g) : (d.setWake g w).groupWake k = d.groupWake k :=
  tget_tset_other _ _ _ _ h

@[simp] theorem Dev.groupWake_setGroup (k : Nat) : (d.setGroup g st).groupWake k = d.groupWake k := by
  rw [Dev.groupWake, Dev.setGroup_slp, Dev.groupWake]

theorem Dev.sleeping_of_word {e : Dev} (h : e.word R.PC_MODE = d.word R.PC_MODE) : e.sleeping = d.sleeping := by
  rw [Dev.sleeping, Dev.mode, Dev.get_of_word (g := F.PC_MODE_MODE) h, Dev.sleeping, Dev.mode]

theorem Dev.groupState_bump {f : Fld} (h : R.PC_GRP_STAT ≠ f.addr) (k : Nat) : (d.bump f).groupState k = d.groupState k :=
  Dev.groupState_of_word (Dev.word_bump_other _ _ _ h) k

@[simp] theorem Dev.groupWake_bump (f : Fld) (k : Nat) : (d.bump f).groupWake k = d.groupWake k := by
  rw [Dev.groupWake, Dev.bump_slp, Dev.groupWake]

end

/-! ### Groups that go to sleep (R246) -/

section
variable {d : Dev}

/-- R246: a group of those named that is AWAKE leaves it. -/
def Dev.sleepStep (groups : Nat) (a : Dev) (g : Nat) : Dev :=
  if bitOf groups g && a.groupState g == 0 then a.setGroup g 1 else a

theorem Dev.goToSleep_eq (groups : Nat) : d.goToSleep groups = (List.range 8).foldl (Dev.sleepStep groups) d := rfl

theorem Dev.sleepStep_kept (groups g : Nat) : (d.sleepStep groups g).slp = d.slp ∧ (d.sleepStep groups g).chan = d.chan ∧
    ∀ a, a ≠ R.PC_GRP_STAT → (d.sleepStep groups g).word a = d.word a := by
  rw [Dev.sleepStep]
  split
  · exact ⟨Dev.setGroup_slp _ _ _, Dev.setGroup_chan _ _ _, fun a h => Dev.word_setGroup h⟩
  · exact ⟨rfl, rfl, fun _ _ => rfl⟩

theorem Dev.groupState_sleepStep_other {groups g k : Nat} (hg : g < 8) (h : k ≠ g) :
    (d.sleepStep groups g).groupState k = d.groupState k := by
  rw [Dev.sleepStep]
  split
  · exact Dev.groupState_setGroup_other hg h
  · rfl

theorem Dev.groupState_sleepStep_same {groups g : Nat} (hg : g < 8) : (d.sleepStep groups g).groupState g =
    if bitOf groups g && d.groupState g == 0 then 1 else d.groupState g := by
  rw [Dev.sleepStep]
  split
  · exact Dev.groupState_setGroup_same hg (by decide)
  · rfl

/-- R246: what the groups named leave as it is. -/
theorem Dev.goToSleep_kept (groups : Nat) : (d.goToSleep groups).slp = d.slp ∧ (d.goToSleep groups).chan = d.chan ∧
    ∀ a, a ≠ R.PC_GRP_STAT → (d.goToSleep groups).word a = d.word a := by
  rw [Dev.goToSleep_eq]
  refine List.foldlRecOn (motive := fun e : Dev => e.slp = d.slp ∧ e.chan = d.chan ∧
    ∀ a, a ≠ R.PC_GRP_STAT → e.word a = d.word a) _ _ ⟨rfl, rfl, fun _ _ => rfl⟩ fun e he g _ => ?_
  obtain ⟨h1, h2, h3⟩ := Dev.sleepStep_kept (d := e) groups g
  obtain ⟨e1, e2, e3⟩ := he
  exact ⟨h1.trans e1, h2.trans e2, fun a ha => (h3 a ha).trans (e3 a ha)⟩

theorem Dev.groupState_foldl_sleepStep (groups : Nat) {g : Nat} (l : List Nat) (d : Dev) (hl : l.Nodup)
    (h8 : ∀ k ∈ l, k < 8) : (l.foldl (Dev.sleepStep groups) d).groupState g =
      if g ∈ l ∧ (bitOf groups g && d.groupState g == 0) = true then 1 else d.groupState g := by
  induction l generalizing d with
  | nil => rw [List.foldl_nil, if_neg fun h => List.not_mem_nil h.1]
  | cons k l ih =>
    obtain ⟨hk, hl⟩ := List.nodup_cons.mp hl
    have hk8 := h8 k List.mem_cons_self
    rw [List.foldl_cons, ih _ hl fun j hj => h8 j (List.mem_cons_of_mem _ hj)]
    by_cases hgk : g = k
    · subst hgk
      rw [if_neg fun h => hk h.1, Dev.groupState_sleepStep_same hk8]
      simp only [List.mem_cons_self, true_and]
    · rw [Dev.groupState_sleepStep_other hk8 hgk]
      simp only [List.mem_cons, hgk, false_or]

theorem Dev.groupState_goToSleep (groups : Nat) (g : Fin 8) : (d.goToSleep groups).groupState g =
    if bitOf groups g && d.groupState g == 0 then 1 else d.groupState g := by
  rw [Dev.goToSleep_eq, Dev.groupState_foldl_sleepStep _ _ _ List.nodup_range fun k hk => List.mem_range.mp hk]
  simp only [List.mem_range, g.isLt, true_and]

end

/-! ### Wakes that begin (R247, R248) -/

section
variable {d : Dev} {g kind source : Nat}

/-- R247, R248: a wake without a check changes the wake of its group alone. -/
theorem Dev.startWake_unchecked : (d.startWake g kind source false).plat = d.plat ∧
    (∀ a, (d.startWake g kind source false).word a = d.word a) ∧
    (∀ k, (d.startWake g kind source false).groupState k = d.groupState k) ∧
    ∀ k, k ≠ g → (d.startWake g kind source false).groupWake k = d.groupWake k := by
  unfold Dev.startWake
  dsimp only
  rw [if_neg Bool.false_ne_true]
  split
  · exact ⟨rfl, fun _ => rfl, fun _ => rfl, fun k hk => Dev.groupWake_setWake_other _ hk⟩
  · exact ⟨rfl, fun _ => rfl, fun _ => rfl, fun _ _ => rfl⟩

theorem Dev.startWake_free (hs : d.groupState g ≠ 0) (hw : d.groupWake g = none) :
    (d.startWake g kind source false).groupWake g =
      some { kind, source, since := d.plat.aon, check := false, listen := false } := by
  have hc : (d.groupState g != 0 && (d.groupWake g).all (fun x => x.check)) = true := by
    rw [hw, bne_iff_ne.mpr hs]
    rfl
  unfold Dev.startWake
  dsimp only
  rw [if_neg Bool.false_ne_true, if_pos hc, Dev.groupWake_setWake_same, hw]
  rfl

/-- R247: the wake of a group of those named. -/
def Dev.wakeStep (all kind source : Nat) (a : Dev) (g : Nat) : Dev :=
  if bitOf all g then a.startWake g kind source false else a

theorem Dev.wakeStep_kept (all : Nat) : (d.wakeStep all kind source g).plat = d.plat ∧ (∀ a, (d.wakeStep all kind source g).word a = d.word a) ∧
    (∀ k, (d.wakeStep all kind source g).groupState k = d.groupState k) ∧
    ∀ k, k ≠ g → (d.wakeStep all kind source g).groupWake k = d.groupWake k := by
  rw [Dev.wakeStep]
  split
  · exact Dev.startWake_unchecked
  · exact ⟨rfl, fun _ => rfl, fun _ => rfl, fun _ _ => rfl⟩

theorem Dev.foldl_wakeStep_kept (all : Nat) (l : List Nat) (d : Dev) :
    (∀ a, (l.foldl (Dev.wakeStep all kind source) d).word a = d.word a) ∧
    (∀ k, (l.foldl (Dev.wakeStep all kind source) d).groupState k = d.groupState k) ∧
    ∀ k ∉ l, (l.foldl (Dev.wakeStep all kind source) d).groupWake k = d.groupWake k := by
  induction l generalizing d with
  | nil => exact ⟨fun _ => rfl, fun _ => rfl, fun _ _ => rfl⟩
  | cons j l ih =>
    obtain ⟨h2, h3, h4⟩ := ih (d.wakeStep all kind source j)
    obtain ⟨-, e2, e3, e4⟩ := Dev.wakeStep_kept (d := d) (g := j) (kind := kind) (source := source) all
    rw [List.foldl_cons]
    refine ⟨fun a => (h2 a).trans (e2 a), fun k => (h3 k).trans (e3 k), fun k hk => ?_⟩
    obtain ⟨hkj, hkl⟩ := not_or.mp (List.mem_cons.not.mp hk)
    exact (h4 k hkl).trans (e4 k hkj)

/-- R247: a group of those named, not AWAKE and with no wake, begins its own. -/
theorem Dev.foldl_wakeStep_free {all : Nat} (hbit : bitOf all g = true) (l : List Nat) (d : Dev) (hl : l.Nodup)
    (hg : g ∈ l) (hs : d.groupState g ≠ 0) (hw : d.groupWake g = none) :
    (l.foldl (Dev.wakeStep all kind source) d).groupWake g =
      some { kind, source, since := d.plat.aon, check := false, listen := false } := by
  induction l generalizing d with
  | nil => exact absurd hg List.not_mem_nil
  | cons j l ih =>
    obtain ⟨hj, hl⟩ := List.nodup_cons.mp hl
    rw [List.foldl_cons]
    by_cases hjg : g = j
    · subst hjg
      obtain ⟨-, -, hkept⟩ := Dev.foldl_wakeStep_kept (kind := kind) (source := source) all l
        (d.wakeStep all kind source g)
      rw [hkept g hj, Dev.wakeStep, if_pos hbit, Dev.startWake_free hs hw]
    · obtain ⟨hplat, -, hstate, hwake⟩ := Dev.wakeStep_kept (d := d) (g := j) (kind := kind) (source := source) all
      rw [ih _ hl ((List.mem_cons.mp hg).resolve_left hjg) (by rw [hstate]; exact hs) (by rw [hwake g hjg, hw]), hplat]

theorem Dev.wakeGroups_unchecked (groups : Nat) : d.wakeGroups groups kind source false = (List.range 8).foldl
    (Dev.wakeStep (if d.flag F.PC_GRP_CFG_FULL_WAKE then 255 else groups) kind source) d := by
  unfold Dev.wakeGroups Dev.wakeStep
  rw [Bool.not_false, Bool.and_true]

/-- R247: every group named is among those that a wake without a check wakes. -/
theorem bitOf_full {groups : Nat} {b : Bool} (g : Fin 8) (h : bitOf groups g = true) :
    bitOf (if b then 255 else groups) g = true := by
  cases b
  · exact h
  · exact (by decide : ∀ g : Fin 8, bitOf 255 g = true) g

/-- R247: a wake without a check of the groups named. -/
theorem Dev.wakeGroups_named (groups : Nat) : ∃ e, d.wakeGroups groups kind source false = e ∧
    (∀ a, e.word a = d.word a) ∧ (∀ k, e.groupState k = d.groupState k) ∧
    ∀ g : Fin 8, bitOf groups g = true → d.groupState g ≠ 0 → d.groupWake g = none → e.groupWake g =
      some { kind, source, since := d.plat.aon, check := false, listen := false } := by
  obtain ⟨hword, hstate, -⟩ := Dev.foldl_wakeStep_kept (kind := kind) (source := source)
    (if d.flag F.PC_GRP_CFG_FULL_WAKE then 255 else groups) (List.range 8) d
  exact ⟨_, Dev.wakeGroups_unchecked groups, hword, hstate, fun g hbit hs hw => Dev.foldl_wakeStep_free (bitOf_full g hbit)
    (List.range 8) d List.nodup_range (List.mem_range.mpr g.isLt) hs hw⟩

/-- R248: a wake with a check of one group. -/
theorem Dev.wakeGroups_one (g : Fin 8) : d.wakeGroups (2 ^ g.val) kind source true = d.startWake g kind source true := by
  unfold Dev.wakeGroups
  rw [Bool.not_true, Bool.and_false]
  exact foldl_at_one (fun a k => a.startWake k kind source true) (fun k => bitOf (2 ^ g.val) k) List.nodup_range
    (List.mem_range.mpr g.isLt) (bitOf_two_pow g) d

/-- R248: the check of a sleeping group begins. -/
theorem Dev.startWake_checked (hs : d.groupState g = 2) (hw : d.groupWake g = none) : d.startWake g kind source true =
    (d.setWake g (some { kind, source, since := d.plat.aon, check := true, listen := false })).setGroup g 3 := by
  have hc : (decide (d.groupState g = 2) && (d.groupWake g).isNone) = true := by
    rw [hw, decide_eq_true hs]
    rfl
  unfold Dev.startWake
  dsimp only
  rw [if_pos rfl, if_pos hc, hw]
  rfl

end

end Sys2Proof.Machine
end

section
/-! The rows of the sleep groups, settled (R243 to R249, R254, R255, R257, R276). -/

namespace Sys2Proof.Machine
open Sys2Proof

/-! ### Writes of PC_GRP_CMD (R245, R247) -/

/-- R245, R247: the word of PC_GRP_CMD. -/
def grpWord (op : Nat) (groups : Byte) : Word :=
  cmdWord [(F.PC_GRP_CMD_GO, 1), (F.PC_GRP_CMD_OP, op), (F.PC_GRP_CMD_GROUPS, groups.toNat)]

theorem newField_grpWord {op : Nat} {groups : Byte} (hop : op < 4) : newField (grpWord op groups) F.PC_GRP_CMD_GO = 1 ∧
    newField (grpWord op groups) F.PC_GRP_CMD_OP = op ∧
    newField (grpWord op groups) F.PC_GRP_CMD_GROUPS = groups.toNat := by
  have hg : groups.toNat < 256 := groups.isLt
  simp (disch := omega) only [grpWord, cmdWord, List.foldl_cons, List.foldl_nil, newField, F.PC_GRP_CMD_GO,
    F.PC_GRP_CMD_OP, F.PC_GRP_CMD_GROUPS, wordBits_wordPut, wordBits_wordPut_other, Nat.mod_eq_of_lt, and_self]

theorem regAt_grpCmd : regAt R.PC_GRP_CMD =
    some ⟨0x040, 1, 0x4, [⟨31, 1, .w1s, 0x0, .p⟩, ⟨24, 2, .rw, 0x0, .p⟩, ⟨0, 8, .rw, 0x0, .p⟩]⟩ := by
  decide +kernel

/-- R245: GO is set by writing 1 to it. -/
theorem Dev.flag_grpGo_store {d : Dev} {v : Word} (h : newField v F.PC_GRP_CMD_GO = 1) :
    (d.store R.PC_GRP_CMD v).flag F.PC_GRP_CMD_GO = true := by
  have hset : ∀ x < 2, Nat.lor x 1 % 2 = 1 := by decide
  have hold : wordBits (d.word R.PC_GRP_CMD) 31 1 < 2 := wordBits_lt _ _ _
  have hnew : wordBits v 31 1 = 1 := h
  refine Dev.get_of_eq (x := 1) ?_ rfl
  simp only [Dev.get, Dev.store, regAt_grpCmd, F.PC_GRP_CMD_GO, Dev.word_setWord_same, fieldsNext, List.foldl_cons,
    List.foldl_nil, fieldNext, hnew]
  rw [wordBits_wordPut_other _ _ _ _ _ _ (by decide) (by decide), wordBits_wordPut_other _ _ _ _ _ _ (by decide) (by decide),
    wordBits_wordPut _ _ _ _ (by decide)]
  exact hset _ hold

section
variable {s : State} {i : Init} {groups : Byte} {d : Dev} {op : Nat}

theorem exec_grpSleep : exec (.grpSleep i groups) s =
    .next (s.ends (s.dev.anyRow (idBlock s.id) i R.PC_GRP_CMD (grpWord 0 groups))) :=
  act_eq_ends s (fun d => d.anyRow (idBlock s.id) i R.PC_GRP_CMD (grpWord 0 groups))

theorem exec_grpWake : exec (.grpWake i groups) s =
    .next (s.ends (s.dev.anyRow (idBlock s.id) i R.PC_GRP_CMD (grpWord 1 groups))) :=
  act_eq_ends s (fun d => d.anyRow (idBlock s.id) i R.PC_GRP_CMD (grpWord 1 groups))

/-- R349: PC_GRP_CMD is the register of no INH output. -/
theorem Dev.inhWritten_grpCmd : d.inhWritten R.PC_GRP_CMD = d := by
  have h : (List.range 4).foldl (fun m k => if R.PC_GRP_CMD = R.PC_INH_CFG k then setBit m k else m) d.slp.inhLive =
      d.slp.inhLive := rfl
  rw [Dev.inhWritten, h]

theorem Dev.pageWrite_grpCmd (ident : List Byte) (v : Word) : d.pageWrite ident i (.pc 3) R.PC_GRP_CMD v =
    (d.grpCmdWrite v).map (fun d => d.goLive) := by
  unfold Dev.pageWrite
  dsimp only
  rw [if_neg (by decide), if_neg (by decide), if_pos rfl, Dev.pc3Write, if_pos rfl]
  exact congrArg (fun f => (d.grpCmdWrite v).map f) (funext fun d => Dev.inhWritten_grpCmd)

section
variable {v : Word} (hr : s.dev.reaches i R.PC_GRP_CMD = some d) (hl : d.lockedWrite R.PC_GRP_CMD v = false)
include hr hl

theorem grpRow_taken {d' : Dev} (hj : d.grpCmdWrite v = .ok d') :
    s.dev.anyRow (idBlock s.id) i R.PC_GRP_CMD v = d'.goLive :=
  Dev.anyRow_page _ d _ _ i _ _ (.pc 3) 0x40 (by decide) (by decide) (by decide) (by decide) hr hl
    (by rw [Dev.pageWrite_grpCmd, hj, Wr.map])

theorem grpRow_refused {code : Nat} (hj : d.grpCmdWrite v = .no code) :
    s.dev.anyRow (idBlock s.id) i R.PC_GRP_CMD v = d.failWrite i R.PC_GRP_CMD v code :=
  Dev.anyRow_page_refused _ d _ i _ _ (.pc 3) 0x40 _ (by decide) (by decide) (by decide) (by decide) hr hl
    (by rw [Dev.pageWrite_grpCmd, hj, Wr.map])

end

/-- R245: GRP_SLEEP. -/
theorem Dev.grpCmdWrite_sleep : d.grpCmdWrite (grpWord 0 groups) =
    if d.flag F.CLR_CFG_EN && bitOf groups.toNat (d.get F.CLR_CFG_CHAN / 8) then .no 0x0122
    else if d.get F.CLR_STAT_STATE == 3 || d.get F.CLR_STAT_STATE == 4 then .no 0x0123
    else .ok ((d.store R.PC_GRP_CMD (grpWord 0 groups)).goToSleep groups.toNat) := by
  obtain ⟨h1, h2, h3⟩ := newField_grpWord (op := 0) (groups := groups) (by decide)
  unfold Dev.grpCmdWrite
  dsimp only
  rw [h1, h2, h3, if_neg (by decide), if_neg (by decide), if_pos rfl, refuseIf, refuseIf]

/-- R247: GRP_WAKE. -/
theorem Dev.grpCmdWrite_wake : d.grpCmdWrite (grpWord 1 groups) =
    .ok ((d.store R.PC_GRP_CMD (grpWord 1 groups)).wakeGroups groups.toNat 4 0 false) := by
  obtain ⟨h1, h2, h3⟩ := newField_grpWord (op := 1) (groups := groups) (by decide)
  unfold Dev.grpCmdWrite
  dsimp only
  rw [h1, h2, h3, if_neg (by decide), if_neg (by decide), if_neg (by decide)]

theorem Dev.store_grpCmd (v : Word) : (d.store R.PC_GRP_CMD v).slp = d.slp ∧ (d.store R.PC_GRP_CMD v).chan = d.chan ∧
    (d.store R.PC_GRP_CMD v).plat = d.plat ∧
    (∀ a, a ≠ R.PC_GRP_CMD → (d.store R.PC_GRP_CMD v).word a = d.word a) ∧
    (∀ k, (d.store R.PC_GRP_CMD v).groupState k = d.groupState k) ∧
    ∀ k, (d.store R.PC_GRP_CMD v).groupWake k = d.groupWake k := by
  obtain ⟨regs, h⟩ := d.store_eq R.PC_GRP_CMD v
  have hslp : (d.store R.PC_GRP_CMD v).slp = d.slp := by rw [h]
  refine ⟨hslp, by rw [h], by rw [h], fun a ha => Dev.word_store_other _ _ ha, fun k => ?_, fun k => ?_⟩
  · exact Dev.groupState_of_word (Dev.word_store_other _ _ (by decide)) k
  · rw [Dev.groupWake, hslp, Dev.groupWake]

end

/-! ### Entering a sleep mode (R254, R276) -/

section
variable {d : Dev}

theorem Dev.raise_slp (pg : Page) (bit : Nat) : (d.raise pg bit).slp = d.slp := by
  obtain ⟨hb, out, h⟩ := d.raise_eq pg bit
  rw [h]
  rfl

theorem Dev.chRaise_slp (cause source : Nat) (data : List Byte) : (d.chRaise cause source data).slp = d.slp := by
  unfold Dev.chRaise
  dsimp only
  split_ifs
  · rfl
  · exact Dev.raise_slp _ _
  · rfl

theorem Dev.modeRecord_slp (old new trig who : Nat) : (d.modeRecord old new trig who).slp = d.slp := by
  rw [Dev.modeRecord, Dev.raise_slp, Dev.chRaise_slp]

/-- R276: what the device shows in a sleep mode that it entered from mode `old`. -/
def Dev.inSleepMode (e : Dev) (old m : Nat) : Dev :=
  let d := (e.put F.PC_MODE_PREV old).put F.PC_MODE_MODE m
  { d.put F.CLR_STAT_STATE 0 with
    slp := { d.slp with target := none, byRequest := none, latched := [], committed := 0 }
    clr := { d.clr with joined := false, turn := none, sent := none, buf := [] } }

/-- R254, R276: with no wake latched the device is left in the mode it was bound for. -/
theorem Dev.enterSleep_quiet {m : Nat} (ht : d.slp.target = some m) (hl : d.slp.latched = []) :
    ∃ e, d.enterSleep = Dev.inSleepMode e d.mode m := by
  unfold Dev.enterSleep
  rw [ht]
  dsimp only
  rw [Dev.modeRecord_slp, Dev.chRaise_slp, hl, List.foldl_nil]
  generalize Dev.coldState _ = e
  exact ⟨e, by rw [Dev.inSleepMode]⟩

theorem Dev.inSleepMode_reads {e : Dev} {old m : Nat} (ho : old < 16) (hm : m < 16) : (Dev.inSleepMode e old m).mode = m ∧
    (Dev.inSleepMode e old m).get F.PC_MODE_PREV = old ∧ (Dev.inSleepMode e old m).clrState = 0 := by
  have hregs : (Dev.inSleepMode e old m).regs =
      (((e.put F.PC_MODE_PREV old).put F.PC_MODE_MODE m).put F.CLR_STAT_STATE 0).regs := rfl
  have hget : ∀ f, (Dev.inSleepMode e old m).get f =
      (((e.put F.PC_MODE_PREV old).put F.PC_MODE_MODE m).put F.CLR_STAT_STATE 0).get f := fun f =>
    Dev.get_of_word (by rw [Dev.word, hregs, ← Dev.word])
  refine ⟨?_, ?_, ?_⟩
  · rw [Dev.mode, hget, Dev.get_put_other _ _ _ _ (by decide), Dev.get_put _ _ _ (by decide)]
    exact Nat.mod_eq_of_lt hm
  · rw [hget, Dev.get_put_other _ _ _ _ (by decide),
      Dev.get_put_apart _ _ _ _ (by decide) (.inr (.inr (by decide : 0 + 4 ≤ 16))), Dev.get_put _ _ _ (by decide)]
    exact Nat.mod_eq_of_lt ho
  · rw [Dev.clrState, hget, Dev.get_put _ _ _ (by decide)]
    rfl

/-! ### GROUP_ASLEEP (R246) -/

theorem exec_groupAsleep {s : State} {g : Fin 8} : exec (.groupAsleep g) s = .next (s.ends (s.dev.groupAsleep g)) :=
  act_eq_ends s (fun d => d.groupAsleep g)

/-- R246: the LIN masters of a group send go-to-sleep, where LIN_GTS asks for it. -/
def Dev.sleepFrames (d : Dev) (g : Nat) : Dev :=
  if d.flag F.PC_GRP_CFG_LIN_GTS then [2 * g, 2 * g + 1].foldl (fun (a : Dev) n =>
    if a.enabled (.lin n) && a.flag (F.LIN_MODE_MASTER n) then
      a.emit (.linFrame n 0x3C (some (0x00 :: List.replicate 7 0xFF))) else a) d
  else d

/-- R246: a group is ASLEEP, and what its LIN channels only listened to is lost. -/
def Dev.groupDown (d : Dev) (g : Nat) : Dev :=
  ((([2 * g, 2 * g + 1].foldl (fun (a : Dev) n => a.modChan (64 + n) (fun x => { x with lin := none })) d).setGroup
    g 2).bump F.SLEEPS_COUNT).raise (.pc 3) 1

theorem Dev.groupAsleep_done {g : Nat} (hs : d.groupState g = 1) (hl : d.linSends g = false) : d.groupAsleep g =
    if (List.range 8).all (fun k => ((d.sleepFrames g).groupDown g).groupState k == 2) then
      ((d.sleepFrames g).groupDown g).enterSleep else (d.sleepFrames g).groupDown g := by
  have hc : (decide (d.groupState g = 1) && !d.linSends g) = true := by
    rw [hl, decide_eq_true hs]
    rfl
  unfold Dev.groupAsleep
  rw [if_pos hc]
  rfl

theorem Dev.groupAsleep_waits {g : Nat} (h : d.groupState g ≠ 1 ∨ d.linSends g = true) : d.groupAsleep g = d := by
  have hc : (decide (d.groupState g = 1) && !d.linSends g) = false := by
    rcases h with h | h
    · rw [decide_eq_false h, Bool.false_and]
    · rw [h, Bool.not_true, Bool.and_false]
  unfold Dev.groupAsleep
  rw [hc, if_neg Bool.false_ne_true]

theorem Dev.sleepFrames_kept (g : Nat) : (d.sleepFrames g).slp = d.slp ∧ ∀ a, (d.sleepFrames g).word a = d.word a := by
  have hstep : ∀ (e : Dev) (n : Nat), (if e.enabled (.lin n) && e.flag (F.LIN_MODE_MASTER n) then
      e.emit (.linFrame n 0x3C (some (0x00 :: List.replicate 7 0xFF))) else e).slp = e.slp ∧
      ∀ a, (if e.enabled (.lin n) && e.flag (F.LIN_MODE_MASTER n) then
        e.emit (.linFrame n 0x3C (some (0x00 :: List.replicate 7 0xFF))) else e).word a = e.word a := by
    intro e n
    split
    · exact ⟨Dev.emit_slp _ _, fun _ => rfl⟩
    · exact ⟨rfl, fun _ => rfl⟩
  rw [Dev.sleepFrames]
  split
  · refine List.foldlRecOn (motive := fun e : Dev => e.slp = d.slp ∧ ∀ a, e.word a = d.word a) _ _ ⟨rfl, fun _ => rfl⟩
      fun e he n _ => ?_
    obtain ⟨h1, h2⟩ := hstep e n
    obtain ⟨e1, e2⟩ := he
    exact ⟨h1.trans e1, fun a => (h2 a).trans (e2 a)⟩
  · exact ⟨rfl, fun _ => rfl⟩

theorem Dev.groupDown_kept (g : Nat) : (d.groupDown g).slp = d.slp ∧ (d.groupDown g).mode = d.mode := by
  refine ⟨?_, ?_⟩
  · rw [Dev.groupDown, Dev.raise_slp, Dev.bump_slp, Dev.setGroup_slp]
    rfl
  · rw [Dev.mode, Dev.groupDown, Dev.get_raise_other _ _ _ (by decide), Dev.get_bump_other _ _ _ (by decide),
      Dev.get_of_word (g := F.PC_MODE_MODE) (Dev.word_setGroup (by decide))]
    rfl

end

/-! ### Rows of wakes (R247, R248) -/

section
variable {s : State} {d : Dev}

theorem exec_busWake {c : Fin 80} : exec (.busWake c) s = .next (s.ends (s.dev.busWake c)) :=
  act_eq_ends s (fun d => d.busWake c)

theorem exec_wakePinEdge {n : Fin 8} {rise : Bool} : exec (.wakePinEdge n rise) s = .next (s.ends (s.dev.pinWake n rise)) :=
  act_eq_ends s (fun d => d.pinWake n rise)

theorem exec_wakeCheckListen {g : Fin 8} : exec (.wakeCheckListen g) s = .next (s.ends (s.dev.wakeListen g)) :=
  act_eq_ends s (fun d => d.wakeListen g)

theorem exec_wakeCheckPass {g : Fin 8} : exec (.wakeCheckPass g) s = .next (s.ends (s.dev.wakePass g)) :=
  act_eq_ends s (fun d => d.wakePass g)

theorem exec_falseWake {g : Fin 8} : exec (.falseWake g) s = .next (s.ends (s.dev.falseWake g)) :=
  act_eq_ends s (fun d => d.falseWake g)

theorem exec_groupAwake {g : Fin 8} : exec (.groupAwake g) s = .next (s.ends (s.dev.groupAwake g)) :=
  act_eq_ends s (fun d => d.groupAwake g)

theorem chanGroup_lt (c : Fin 80) : chanGroup c < 8 := by
  have hc := c.isLt
  rw [chanGroup]
  split <;> omega

theorem Dev.busWake_latched {c : Nat} (ht : d.slp.target ≠ none) : d.busWake c =
    (d.bump F.BUS_WAKES_COUNT).latchWake
      { kind := busKind c, source := busSource c, groups := 2 ^ chanGroup c, check := true } := by
  unfold Dev.busWake
  dsimp only
  rw [if_pos (Option.isSome_iff_ne_none.mpr ht)]

section
variable {c : Nat} (ht : d.slp.target = none)
include ht

/-- R247: the wake of a sleeping group outside M0. -/
theorem Dev.busWake_begins (hs : d.groupState (chanGroup c) = 2) (hw : d.groupWake (chanGroup c) = none)
    (hm : d.mode ≠ 0) : d.busWake c = (if d.clrState = 3 then
      (d.bump F.BUS_WAKES_COUNT).lateWake 3 c (d.bump F.BUS_WAKES_COUNT).holdReason
      else d.bump F.BUS_WAKES_COUNT).wakeGroups (2 ^ chanGroup c) (busKind c) (busSource c) true := by
  have hc : (decide (d.groupState (chanGroup c) = 2) && (d.groupWake (chanGroup c)).isNone && d.mode != 0) = true := by
    rw [hw, decide_eq_true hs, bne_iff_ne.mpr hm]
    rfl
  have hclr : (d.bump F.BUS_WAKES_COUNT).clrState = d.clrState := Dev.get_bump_other _ _ _ (by decide)
  unfold Dev.busWake
  dsimp only
  rw [ht, if_neg (by decide), if_pos hc, hclr]

theorem Dev.busWake_idle (h : d.groupState (chanGroup c) ≠ 2 ∨ d.groupWake (chanGroup c) ≠ none ∨ d.mode = 0) :
    d.busWake c = d := by
  have hc : (decide (d.groupState (chanGroup c) = 2) && (d.groupWake (chanGroup c)).isNone && d.mode != 0) = false := by
    rcases h with h | h | h
    · rw [decide_eq_false h, Bool.false_and, Bool.false_and]
    · rw [Option.isNone_eq_false_iff.mpr (Option.isSome_iff_ne_none.mpr h), Bool.and_false, Bool.false_and]
    · rw [h, bne_self_eq_false, Bool.and_false]
  unfold Dev.busWake
  dsimp only
  rw [ht, if_neg (by decide), hc, if_neg Bool.false_ne_true]

end

/-- R247: the pin sees the edge that its register names. -/
def Dev.pinSees (d : Dev) (n : Nat) (rise : Bool) : Bool :=
  d.flag (F.PC_WAKE_CFG_EN n) && (d.get (F.PC_WAKE_CFG_EDGE n) == 2 || (rise && d.get (F.PC_WAKE_CFG_EDGE n) == 0) ||
    (!rise && d.get (F.PC_WAKE_CFG_EDGE n) == 1))

theorem Dev.pinSees_iff {n : Nat} {rise : Bool} : d.pinSees n rise = true ↔ d.flag (F.PC_WAKE_CFG_EN n) = true ∧
    (d.get (F.PC_WAKE_CFG_EDGE n) = 2 ∨ d.get (F.PC_WAKE_CFG_EDGE n) = if rise then 0 else 1) := by
  cases rise <;> simp [Dev.pinSees]

theorem pinWakes_apart (n : Fin 8) : (F.PC_WAKE_CFG_EN n).addr ≠ F.PIN_WAKES_COUNT.addr := by
  simp only [F.PC_WAKE_CFG_EN, F.PIN_WAKES_COUNT, R.PC_WAKE_CFG, R.PIN_WAKES]
  omega

section
variable {n : Fin 8} {rise : Bool}

/-- R247, R255: an edge that the pin sees wakes its groups, or is latched. -/
theorem Dev.pinWake_seen (h : d.pinSees n rise = true) : d.pinWake n rise =
    if d.slp.target.isSome then (d.bump F.PIN_WAKES_COUNT).latchWake
      { kind := 3, source := n, groups := d.get (F.PC_WAKE_CFG_GROUPS n), check := d.flag (F.PC_WAKE_CFG_CHECK n) }
    else (if d.clrState = 3 then
        (d.bump F.PIN_WAKES_COUNT).lateWake 2 n (d.bump F.PIN_WAKES_COUNT).holdReason
      else d.bump F.PIN_WAKES_COUNT).wakeGroups (d.get (F.PC_WAKE_CFG_GROUPS n)) 3 n (d.flag (F.PC_WAKE_CFG_CHECK n)) := by
  have hclr : (d.bump F.PIN_WAKES_COUNT).clrState = d.clrState := Dev.get_bump_other _ _ _ (by decide)
  have hgroups : (d.bump F.PIN_WAKES_COUNT).get (F.PC_WAKE_CFG_GROUPS n) = d.get (F.PC_WAKE_CFG_GROUPS n) :=
    Dev.get_bump_other _ _ _ (pinWakes_apart n)
  have hcheck : (d.bump F.PIN_WAKES_COUNT).flag (F.PC_WAKE_CFG_CHECK n) = d.flag (F.PC_WAKE_CFG_CHECK n) :=
    congrArg (· == 1) (Dev.get_bump_other _ _ (F.PC_WAKE_CFG_CHECK n) (pinWakes_apart n))
  unfold Dev.pinSees at h
  unfold Dev.pinWake
  dsimp only
  rw [if_pos h, Dev.bump_slp, hclr, hgroups, hcheck]

theorem Dev.pinWake_unseen (h : d.pinSees n rise = false) : d.pinWake n rise = d := by
  unfold Dev.pinSees at h
  unfold Dev.pinWake
  dsimp only
  rw [h, if_neg Bool.false_ne_true]

end

end

end Sys2Proof.Machine
end

section
/-! Checks of wakes and wakes that complete, and the sleep groups settled (R248, R249). -/

namespace Sys2Proof.Machine
open Sys2Proof

section
variable {d : Dev} {g : Nat} {w : GroupWake}

/-! ### A wake that completes (R248, R249) -/

/-- R249: the groups that a completing wake wakes. -/
def Dev.wokenBy (d : Dev) (g : Nat) (w : GroupWake) : List Nat :=
  (List.range 8).filter (fun k => (k == g || d.flag F.PC_GRP_CFG_FULL_WAKE || d.wakesWith w k) && d.groupState k != 0)

/-- R249: the groups of a list are AWAKE, their wakes over. -/
def Dev.awaken (d : Dev) (woken : List Nat) : Dev := woken.foldl (fun (a : Dev) k => (a.setGroup k 0).setWake k none) d

theorem Dev.sleeping_awaken (woken : List Nat) : (d.awaken woken).sleeping = d.sleeping := by
  refine Dev.sleeping_of_word (List.foldlRecOn (motive := fun e : Dev => e.word R.PC_MODE = d.word R.PC_MODE) _ _ rfl
    fun e he k _ => ?_)
  rw [Dev.word_setWake, Dev.word_setGroup (by decide), he]

theorem Dev.wakeDone_eq (hw : d.groupWake g = some w) {woken : List Nat} (hk : d.wokenBy g w = woken) : d.wakeDone g =
    if d.sleeping then (d.awaken woken).wakeDevice w (woken.foldl (fun n k => n + 2 ^ k) 0)
    else woken.foldl Dev.groupResume ((d.awaken woken).raise (.pc 3) 2) := by
  have hs := Dev.sleeping_awaken (d := d) woken
  unfold Dev.wokenBy at hk
  unfold Dev.awaken at hs
  unfold Dev.wakeDone Dev.awaken
  rw [hw]
  dsimp only
  rw [hk, hs]

theorem filter_range_one : ∀ g : Fin 8, (List.range 8).filter (fun k => k == g.val) = [g.val] := by decide

/-- R248: a wake with a check wakes its group alone, without FULL_WAKE. -/
theorem Dev.wokenBy_one {g : Fin 8} (hc : w.check = true) (hf : d.flag F.PC_GRP_CFG_FULL_WAKE = false)
    (hs : d.groupState g ≠ 0) : d.wokenBy g w = [g.val] := by
  rw [← filter_range_one g, Dev.wokenBy]
  refine List.filter_congr fun k _ => ?_
  rw [hf, Bool.or_false, Dev.wakesWith, hc, Bool.not_true, Bool.false_and, Bool.or_false]
  by_cases hk : k = g.val
  · rw [hk, beq_self_eq_true, bne_iff_ne.mpr hs, Bool.and_self]
  · rw [beq_eq_false_iff_ne.mpr hk, Bool.false_and]

theorem Dev.wokenBy_full (hf : d.flag F.PC_GRP_CFG_FULL_WAKE = true) :
    d.wokenBy g w = (List.range 8).filter (fun k => d.groupState k != 0) := by
  refine List.filter_congr fun k _ => ?_
  rw [hf, Bool.or_true, Bool.true_or, Bool.true_and]

/-! ### The four rows of a wake under way (R248) -/

/-- R248: time `ms` has passed since the wake began. -/
def Dev.wakeAged (d : Dev) (w : GroupWake) (ms : Nat) : Bool := decide (w.since + msNs ms ≤ d.plat.aon)

theorem Dev.wakeListen_none (hw : d.groupWake g = none) : d.wakeListen g = d := by rw [Dev.wakeListen, hw]

theorem Dev.wakePass_none (hw : d.groupWake g = none) : d.wakePass g = d := by
  rw [Dev.wakePass, hw, Option.any_none, if_neg Bool.false_ne_true]

theorem Dev.falseWake_none (hw : d.groupWake g = none) : d.falseWake g = d := by rw [Dev.falseWake, hw]

theorem Dev.groupAwake_none (hw : d.groupWake g = none) : d.groupAwake g = d := by rw [Dev.groupAwake, hw]

section
variable (hw : d.groupWake g = some w)
include hw

theorem Dev.wakeListen_some : d.wakeListen g = if w.check && d.wakeAged w (d.get F.PC_GRP_CFG_INH_LEAD_MS) then
    d.setWake g (some { w with listen := true }) else d := by
  rw [Dev.wakeListen, hw, Dev.wakeAged]

theorem Dev.wakePass_some : d.wakePass g = if w.check && w.listen then d.wakeDone g else d := by
  rw [Dev.wakePass, hw, Option.any_some]

theorem Dev.falseWake_some : d.falseWake g = if w.check && d.wakeAged w (d.get F.CLR_TIMING2_T_FALSEWAKE_MS) then
    (if d.sleeping then ((d.setGroup g 2).setWake g none).bump F.FALSE_WAKES_COUNT
      else (((d.setGroup g 2).setWake g none).bump F.FALSE_WAKES_COUNT).raise (.pc 3) 3) else d := by
  have hs : (((d.setGroup g 2).setWake g none).bump F.FALSE_WAKES_COUNT).sleeping = d.sleeping := by
    refine Dev.sleeping_of_word ?_
    rw [Dev.word_bump_other _ _ _ (by decide), Dev.word_setWake, Dev.word_setGroup (by decide)]
  rw [Dev.falseWake, hw]
  dsimp only
  rw [hs, Dev.wakeAged]

theorem Dev.groupAwake_some : d.groupAwake g =
    if !w.check && d.slp.target.isNone && d.wakeAged w (d.get F.PC_GRP_CFG_INH_LEAD_MS) then d.wakeDone g else d := by
  rw [Dev.groupAwake, hw, Dev.wakeAged]

end

end

/-- R243: what a write of PC page 3 leaves as it is. -/
theorem Dev.goLive_kept (d : Dev) : d.goLive.chan = d.chan ∧ (∀ a, d.goLive.word a = d.word a) ∧
    (∀ k, d.goLive.groupState k = d.groupState k) ∧ (∀ k, d.goLive.groupWake k = d.groupWake k) ∧
    d.goLive.slp = { d.slp with live := true } := ⟨rfl, fun _ => rfl, fun _ => rfl, fun _ => rfl, rfl⟩

/-- Settles O34: GRP_SLEEP and GRP_WAKE step through the groups named; entering a sleep mode, an edge and the rows of a
wake act by their own lemmas. -/
theorem sleepGroupCommands : Obligations.SleepGroupCommands := by
  unfold Obligations.SleepGroupCommands
  refine ⟨?sleep, ?ring, ?settle, ?wake, ?asleep, ?enter, ?waits, ?bus, ?busLate, ?busLatched, ?busIdle, ?pin, ?pinLate,
    ?pinLatched, ?pinIdle, ?listen, ?pass, ?passAsleep, ?passFull, ?falseWake, ?awake, ?none⟩
  case sleep =>
    intro s i groups d hr hl hring h3 h4
    have hj : d.grpCmdWrite (grpWord 0 groups) =
        .ok ((d.store R.PC_GRP_CMD (grpWord 0 groups)).goToSleep groups.toNat) := by
      have hc : (d.flag F.CLR_CFG_EN && bitOf groups.toNat (d.get F.CLR_CFG_CHAN / 8)) = false := by
        rcases hring with h | h
        · rw [h, Bool.false_and]
        · rw [h, Bool.and_false]
      rw [Dev.grpCmdWrite_sleep, hc, if_neg Bool.false_ne_true, beq_eq_false_iff_ne.mpr h3, beq_eq_false_iff_ne.mpr h4,
        Bool.or_self, if_neg Bool.false_ne_true]
    obtain ⟨hslp, hchan, -, hword, hstate, -⟩ := Dev.store_grpCmd (d := d) (grpWord 0 groups)
    obtain ⟨kslp, kchan, kword⟩ := Dev.goToSleep_kept (d := d.store R.PC_GRP_CMD (grpWord 0 groups)) groups.toNat
    obtain ⟨hgo, -⟩ := newField_grpWord (op := 0) (groups := groups) (by decide)
    obtain ⟨lchan, lword, lstate, -, lslp⟩ :=
      Dev.goLive_kept ((d.store R.PC_GRP_CMD (grpWord 0 groups)).goToSleep groups.toNat)
    refine ⟨((d.store R.PC_GRP_CMD (grpWord 0 groups)).goToSleep groups.toNat).goLive,
      by rw [exec_grpSleep, grpRow_taken (v := grpWord 0 groups) hr hl hj], fun g => ?_, ?_, ?_, ?_, fun a hcmd hstat => ?_⟩
    · rw [lstate, Dev.groupState_goToSleep, hstate]
    · rw [Dev.flag, Dev.get_of_word (g := F.PC_GRP_CMD_GO) ((lword _).trans (kword R.PC_GRP_CMD (by decide))), ← Dev.flag,
        Dev.flag_grpGo_store hgo]
    · rw [lslp, kslp, hslp]
    · rw [lchan, kchan, hchan]
    · rw [lword, kword a hstat, hword a hcmd]
  case ring =>
    intro s i groups d hr hl he hb
    have hj : d.grpCmdWrite (grpWord 0 groups) = .no 0x0122 := by
      rw [Dev.grpCmdWrite_sleep, he, hb, Bool.and_self, if_pos rfl]
    rw [exec_grpSleep, grpRow_refused (v := grpWord 0 groups) hr hl hj, grpWord]
  case settle =>
    intro s i groups d hr hl hring hst
    have hj : d.grpCmdWrite (grpWord 0 groups) = .no 0x0123 := by
      have hc : (d.flag F.CLR_CFG_EN && bitOf groups.toNat (d.get F.CLR_CFG_CHAN / 8)) = false := by
        rcases hring with h | h
        · rw [h, Bool.false_and]
        · rw [h, Bool.and_false]
      have hs : (d.get F.CLR_STAT_STATE == 3 || d.get F.CLR_STAT_STATE == 4) = true := by
        simpa only [Bool.or_eq_true, beq_iff_eq] using hst
      rw [Dev.grpCmdWrite_sleep, hc, if_neg Bool.false_ne_true, hs, if_pos rfl]
    rw [exec_grpSleep, grpRow_refused (v := grpWord 0 groups) hr hl hj, grpWord]
  case wake =>
    intro s i groups d hr hl
    obtain ⟨hslp, -, hplat, hword, hstate, hwake⟩ := Dev.store_grpCmd (d := d) (grpWord 1 groups)
    obtain ⟨e, he, kword, kstate, kwake⟩ := Dev.wakeGroups_named (d := d.store R.PC_GRP_CMD (grpWord 1 groups)) (kind := 4)
      (source := 0) groups.toNat
    have hj := (Dev.grpCmdWrite_wake (d := d) (groups := groups)).trans (congrArg Wr.ok he)
    obtain ⟨-, lword, lstate, lwake, lslp⟩ := Dev.goLive_kept e
    refine ⟨e.goLive, by rw [exec_grpWake, grpRow_taken (v := grpWord 1 groups) hr hl hj], fun g hbit hs hw => ?_,
      fun g => ?_, by rw [lslp], fun a ha => ?_⟩
    · rw [lwake, kwake g hbit (by rw [hstate]; exact hs) (by rw [hwake, hw]), hplat]
    · rw [lstate, kstate, hstate]
    · rw [lword, kword, hword a ha]
  case asleep =>
    intro s g d0 d1 hs hl h0 h1 hall
    obtain rfl : s.dev.sleepFrames g = d0 := h0
    obtain rfl : (s.dev.sleepFrames g).groupDown g = d1 := h1
    rw [exec_groupAsleep, Dev.groupAsleep_done hs hl]
    rcases hall with hall | hnone
    · rw [hall, if_neg Bool.false_ne_true]
    · rw [Dev.enterSleep, hnone, ite_self]
  case enter =>
    intro s g m d0 d1 hs hl h0 h1 hall ht hm hlat
    obtain rfl : s.dev.sleepFrames g = d0 := h0
    obtain rfl : (s.dev.sleepFrames g).groupDown g = d1 := h1
    obtain ⟨fslp, fword⟩ := Dev.sleepFrames_kept (d := s.dev) g
    obtain ⟨kslp, kmode⟩ := Dev.groupDown_kept (d := s.dev.sleepFrames g) g
    have hmode : ((s.dev.sleepFrames g).groupDown g).mode = s.dev.mode :=
      kmode.trans (Dev.get_of_word (g := F.PC_MODE_MODE) (fword _))
    obtain ⟨e, he⟩ := Dev.enterSleep_quiet (d := (s.dev.sleepFrames g).groupDown g) (m := m) (by rw [kslp, fslp, ht])
      (by rw [kslp, fslp, hlat])
    obtain ⟨r1, r2, r3⟩ := Dev.inSleepMode_reads (e := e) (old := s.dev.mode) (m := m) (wordBits_lt _ _ _) (by omega)
    refine ⟨Dev.inSleepMode e s.dev.mode m, ?_, r1, r2, r3, rfl, rfl, rfl, rfl⟩
    rw [exec_groupAsleep, Dev.groupAsleep_done hs hl, if_pos hall, he, hmode]
  case waits =>
    intro s g h
    rw [exec_groupAsleep, Dev.groupAsleep_waits h]
  case bus =>
    intro s c ht hs hw hm hclr
    have hg := chanGroup_lt c
    have hcount : F.BUS_WAKES_COUNT.lo + F.BUS_WAKES_COUNT.width ≤ 32 := by decide
    have hstate : ∀ k, (s.dev.bump F.BUS_WAKES_COUNT).groupState k = s.dev.groupState k :=
      Dev.groupState_bump (by decide)
    have hstart := (Dev.wakeGroups_one (d := s.dev.bump F.BUS_WAKES_COUNT) (kind := busKind c) (source := busSource c)
      ⟨chanGroup c, hg⟩).trans (Dev.startWake_checked ((hstate _).trans hs) ((Dev.groupWake_bump _ _).trans hw))
    refine ⟨_, by rw [exec_busWake, Dev.busWake_begins ht hs hw hm, if_neg hclr, hstart], ?_, ?_, fun g hne => ⟨?_, ?_⟩, ?_⟩
    · exact Dev.groupState_setGroup_same hg (by decide)
    · rw [Dev.groupWake_setGroup, Dev.groupWake_setWake_same, Dev.bump_plat]
    · rw [Dev.groupState_setGroup_other hg hne, Dev.groupState_setWake, hstate]
    · rw [Dev.groupWake_setGroup, Dev.groupWake_setWake_other _ hne, Dev.groupWake_bump]
    · rw [Dev.get_of_word (g := F.BUS_WAKES_COUNT) (Dev.word_setGroup (by decide)),
        Dev.get_of_word (g := F.BUS_WAKES_COUNT) (Dev.word_setWake _ _), Dev.get_bump _ _ hcount, satAdd_eq_min]
  case busLate =>
    intro s c d0 ht hs hw hm hclr h0
    rw [exec_busWake, Dev.busWake_begins ht hs hw hm, if_pos hclr, h0]
  case busLatched =>
    intro s c ht
    rw [exec_busWake, Dev.busWake_latched ht]
  case busIdle =>
    intro s c ht h
    rw [exec_busWake, Dev.busWake_idle ht h]
  case pin =>
    intro s n rise he hedge ht hclr
    rw [exec_wakePinEdge, Dev.pinWake_seen (Dev.pinSees_iff.mpr ⟨he, hedge⟩), ht, if_neg (by decide), if_neg hclr]
  case pinLate =>
    intro s n rise d0 he hedge ht hclr h0
    rw [exec_wakePinEdge, Dev.pinWake_seen (Dev.pinSees_iff.mpr ⟨he, hedge⟩), ht, if_neg (by decide), if_pos hclr, h0]
  case pinLatched =>
    intro s n rise he hedge ht
    rw [exec_wakePinEdge, Dev.pinWake_seen (Dev.pinSees_iff.mpr ⟨he, hedge⟩), if_pos (Option.isSome_iff_ne_none.mpr ht)]
  case pinIdle =>
    intro s n rise h
    have hno : s.dev.pinSees n rise = false := by
      rw [Bool.eq_false_iff, Ne, Dev.pinSees_iff]
      rintro ⟨he, hedge⟩
      rcases h with h | ⟨h2, hne⟩
      · exact absurd (he.symm.trans h) (by decide)
      · exact hedge.elim h2 hne
    rw [exec_wakePinEdge, Dev.pinWake_unseen hno]
  case listen =>
    intro s g w hw hc ht
    rw [exec_wakeCheckListen, Dev.wakeListen_some hw, hc, Dev.wakeAged, decide_eq_true ht, Bool.and_self, if_pos rfl]
  case pass =>
    intro s g w hw hc hlis hf hs hm
    rw [exec_wakeCheckPass, Dev.wakePass_some hw, hc, hlis, Bool.and_self, if_pos rfl,
      Dev.wakeDone_eq hw (Dev.wokenBy_one hc hf hs), hm, if_neg Bool.false_ne_true, Dev.awaken, List.foldl_cons,
      List.foldl_nil, List.foldl_cons, List.foldl_nil]
  case passAsleep =>
    intro s g w hw hc hlis hf hs hm
    rw [exec_wakeCheckPass, Dev.wakePass_some hw, hc, hlis, Bool.and_self, if_pos rfl,
      Dev.wakeDone_eq hw (Dev.wokenBy_one hc hf hs), if_pos hm, Dev.awaken, List.foldl_cons, List.foldl_nil, List.foldl_cons,
      List.foldl_nil, Nat.zero_add]
  case passFull =>
    intro s g w woken hw hc hlis hf hs hm hk
    rw [exec_wakeCheckPass, Dev.wakePass_some hw, hc, hlis, Bool.and_self, if_pos rfl,
      Dev.wakeDone_eq hw ((Dev.wokenBy_full hf).trans hk), hm, if_neg Bool.false_ne_true, Dev.awaken]
  case falseWake =>
    intro s g w d0 hw hc ht h0
    rw [exec_falseWake, Dev.falseWake_some hw, hc, Dev.wakeAged, decide_eq_true ht, Bool.and_self, if_pos rfl, h0]
  case awake =>
    intro s g w woken hw hc htar ht hk
    rw [exec_groupAwake, Dev.groupAwake_some hw, hc, htar, Dev.wakeAged, decide_eq_true ht, Option.isNone_none,
      Bool.not_false, Bool.and_self, Bool.and_self, if_pos rfl,
      Dev.wakeDone_eq hw hk, Dev.awaken]
  case none =>
    intro s g
    refine ⟨fun hw => ⟨?_, ?_, ?_, ?_⟩, fun w hw => ⟨fun h => ?_, fun h => ?_, fun h => ?_, fun h => ?_⟩⟩
    · rw [exec_wakeCheckListen, Dev.wakeListen_none hw]
    · rw [exec_wakeCheckPass, Dev.wakePass_none hw]
    · rw [exec_falseWake, Dev.falseWake_none hw]
    · rw [exec_groupAwake, Dev.groupAwake_none hw]
    · rw [exec_wakeCheckListen, Dev.wakeListen_some hw, if_neg]
      simpa only [Dev.wakeAged, Bool.and_eq_true, decide_eq_true_eq, not_and_or, Bool.not_eq_true, Nat.not_le] using h
    · rw [exec_wakeCheckPass, Dev.wakePass_some hw, if_neg]
      simpa only [Bool.and_eq_true, not_and_or, Bool.not_eq_true] using h
    · rw [exec_falseWake, Dev.falseWake_some hw, if_neg]
      simpa only [Dev.wakeAged, Bool.and_eq_true, decide_eq_true_eq, not_and_or, Bool.not_eq_true, Nat.not_le] using h
    · rw [exec_groupAwake, Dev.groupAwake_some hw, if_neg]
      simpa only [Dev.wakeAged, Bool.and_eq_true, Bool.not_eq_true', decide_eq_true_eq, not_and_or, Bool.not_eq_false,
        Option.isNone_iff_eq_none, or_assoc, Nat.not_le, ne_eq] using h

end Sys2Proof.Machine
end

section
/-! The exact-match tables: what setting, searching, inserting and removing entries reads and changes (R191 to R195). -/

namespace Sys2Proof.Machine
open Sys2Proof

/-! ### Registers that the tables leave alone -/

/-- A register outside page 0 of a slice, where the counters of its table stand. -/
def lkBody (a : Nat) : Prop := 0x1000 ≤ a % 0x100000

theorem lkBody_apart {a : Nat} (h : lkBody a) (s : Nat) : a ≠ R.LK_STAT s ∧ a ≠ R.LK_RELOC_SEQ s ∧
    ∀ p < 28, a ≠ R.LK_PORT_DYN s p := by
  simp only [lkBody] at h
  simp only [R.LK_STAT, R.LK_RELOC_SEQ, R.LK_PORT_DYN]
  refine ⟨by omega, by omega, fun p hp => by omega⟩

section
variable {d : Dev} {s i : Nat} {e : LkEntry}

/-- R192: entry i of slice s written, and the counters left. -/
def Dev.lkPut (d : Dev) (s i : Nat) (e : LkEntry) : Dev :=
  { d with lk := tmod d.lk s (fun x => { x with tab := tset x.tab i e }) }

@[simp] theorem Dev.lkSlice_lkPut_same : (d.lkPut s i e).lkSlice s = { d.lkSlice s with tab := tset (d.lkSlice s).tab i e } := by
  rw [Dev.lkSlice, Dev.lkPut, tget_tmod_same, Dev.lkSlice]

theorem Dev.lkSlice_lkPut_other {t : Nat} (h : t ≠ s) : (d.lkPut s i e).lkSlice t = d.lkSlice t := by
  rw [Dev.lkSlice, Dev.lkPut, tget_tmod_other _ _ _ _ h, Dev.lkSlice]

@[simp] theorem Dev.word_lkPut (a : Nat) : (d.lkPut s i e).word a = d.word a := rfl

@[simp] theorem Dev.get_lkPut (f : Fld) : (d.lkPut s i e).get f = d.get f := rfl

@[simp] theorem Dev.lkSlice_put (f : Fld) (v t : Nat) : (d.put f v).lkSlice t = d.lkSlice t := by
  rw [Dev.lkSlice, Dev.put_lk, Dev.lkSlice]

@[simp] theorem Dev.lkSlice_ite_put {c : Prop} [Decidable c] (f : Fld) (v t : Nat) :
    (if c then d.put f v else d).lkSlice t = d.lkSlice t := by
  split
  · exact Dev.lkSlice_put f v t
  · rfl

theorem Dev.word_ite_put {c : Prop} [Decidable c] {f : Fld} {v a : Nat} (h : c → a ≠ f.addr) :
    (if c then d.put f v else d).word a = d.word a := by
  split
  next hc => exact Dev.word_put_other _ _ _ _ (h hc)
  · rfl

/-- R192: the number of entries follows an entry that is taken or freed. -/
def Dev.lkCount (d : Dev) (s : Nat) (old e : LkEntry) : Dev :=
  if old.valid = e.valid then d
  else d.put (F.LK_STAT_ENTRIES s) (if e.valid then d.get (F.LK_STAT_ENTRIES s) + 1 else d.get (F.LK_STAT_ENTRIES s) - 1)

/-- R198: the counter of a port loses a dynamic entry. -/
def Dev.lkDynLess (d : Dev) (s : Nat) (e : LkEntry) : Dev :=
  if lkDynamic e && decide (e.srcPort < 28) then
    d.put (F.LK_PORT_DYN_COUNT s e.srcPort) (d.get (F.LK_PORT_DYN_COUNT s e.srcPort) - 1) else d

/-- R198: the counter of a port gains a dynamic entry. -/
def Dev.lkDynMore (d : Dev) (s : Nat) (e : LkEntry) : Dev :=
  if lkDynamic e && decide (e.srcPort < 28) then
    d.put (F.LK_PORT_DYN_COUNT s e.srcPort) (d.get (F.LK_PORT_DYN_COUNT s e.srcPort) + 1) else d

theorem Dev.lkSet_eq : d.lkSet s i e = (((d.lkPut s i e).lkCount s (tget (d.lkSlice s).tab i) e).lkDynLess s
    (tget (d.lkSlice s).tab i)).lkDynMore s e := rfl

theorem Dev.lkCount_kept (old : LkEntry) (t : Nat) : (d.lkCount s old e).lkSlice t = d.lkSlice t ∧
    ∀ a, lkBody a → (d.lkCount s old e).word a = d.word a := by
  rw [Dev.lkCount]
  split
  · exact ⟨rfl, fun _ _ => rfl⟩
  · exact ⟨Dev.lkSlice_put _ _ _, fun a ha => Dev.word_put_other _ (F.LK_STAT_ENTRIES s) _ _ (lkBody_apart ha s).1⟩

theorem lkDyn_lt {e : LkEntry} (h : (lkDynamic e && decide (e.srcPort < 28)) = true) : e.srcPort < 28 :=
  of_decide_eq_true ((Bool.and_eq_true _ _).mp h).2

theorem Dev.lkDynLess_kept (t : Nat) : (d.lkDynLess s e).lkSlice t = d.lkSlice t ∧
    ∀ a, lkBody a → (d.lkDynLess s e).word a = d.word a := by
  refine ⟨Dev.lkSlice_ite_put _ _ _, fun a ha => Dev.word_ite_put fun hc => ?_⟩
  obtain ⟨-, -, hne⟩ := lkBody_apart ha s
  exact hne _ (lkDyn_lt hc)

theorem Dev.lkDynMore_kept (t : Nat) : (d.lkDynMore s e).lkSlice t = d.lkSlice t ∧
    ∀ a, lkBody a → (d.lkDynMore s e).word a = d.word a := by
  refine ⟨Dev.lkSlice_ite_put _ _ _, fun a ha => Dev.word_ite_put fun hc => ?_⟩
  obtain ⟨-, -, hne⟩ := lkBody_apart ha s
  exact hne _ (lkDyn_lt hc)

theorem Dev.lkSlice_lkSet (t : Nat) : (d.lkSet s i e).lkSlice t = (d.lkPut s i e).lkSlice t := by
  obtain ⟨h1, -⟩ := Dev.lkCount_kept (d := d.lkPut s i e) (s := s) (e := e) (tget (d.lkSlice s).tab i) t
  rw [Dev.lkSet_eq, (Dev.lkDynMore_kept t).1, (Dev.lkDynLess_kept t).1, h1]

/-- R192: an entry written changes no register outside page 0 of its slice. -/
theorem Dev.word_lkSet {a : Nat} (h : lkBody a) : (d.lkSet s i e).word a = d.word a := by
  obtain ⟨-, h1⟩ := Dev.lkCount_kept (d := d.lkPut s i e) (s := s) (e := e) (tget (d.lkSlice s).tab i) 0
  rw [Dev.lkSet_eq, (Dev.lkDynMore_kept 0).2 a h, (Dev.lkDynLess_kept 0).2 a h, h1 a h, Dev.word_lkPut]

/-- R192: an entry that takes a free slot counts one up. -/
theorem Dev.entries_lkSet (hold : (tget (d.lkSlice s).tab i).valid = false) (hnew : e.valid = true) :
    (d.lkSet s i e).get (F.LK_STAT_ENTRIES s) = (d.get (F.LK_STAT_ENTRIES s) + 1) % 2 ^ 18 := by
  have hw : (F.LK_STAT_ENTRIES s).lo + (F.LK_STAT_ENTRIES s).width ≤ 32 := (by decide : 0 + 18 ≤ 32)
  have hcount : (d.lkPut s i e).lkCount s (tget (d.lkSlice s).tab i) e =
      (d.lkPut s i e).put (F.LK_STAT_ENTRIES s) (d.get (F.LK_STAT_ENTRIES s) + 1) := by
    rw [Dev.lkCount, hold, hnew, if_neg (by decide), if_pos rfl, Dev.get_lkPut]
  have hless : ∀ x : Dev, x.lkDynLess s (tget (d.lkSlice s).tab i) = x := fun x => by
    rw [Dev.lkDynLess, lkDynamic, hold, Bool.false_and, Bool.false_and, if_neg Bool.false_ne_true]
  have hmore : ∀ x : Dev, (x.lkDynMore s e).get (F.LK_STAT_ENTRIES s) = x.get (F.LK_STAT_ENTRIES s) := fun x => by
    refine Dev.get_of_word (Dev.word_ite_put fun hc => ?_)
    have := lkDyn_lt hc
    simp only [F.LK_STAT_ENTRIES, F.LK_PORT_DYN_COUNT, R.LK_STAT, R.LK_PORT_DYN]
    omega
  rw [Dev.lkSet_eq, hcount, hless, hmore]
  exact Dev.get_put _ _ _ hw

end

/-! ### Searching (R191, R193) -/

section
variable {d e : Dev} {t : Nat} (h : e.lkSlice t = d.lkSlice t)
include h

theorem Dev.lkFind_congr (mac vid : Nat) : e.lkFind t mac vid = d.lkFind t mac vid := by
  rw [Dev.lkFind, Dev.lkInBucket, Dev.lkInBucket, h, Dev.lkFind, Dev.lkInBucket, Dev.lkInBucket]

theorem Dev.lkFree_congr (b : Nat) : e.lkFree t b = d.lkFree t b := by
  rw [Dev.lkFree, h, Dev.lkFree]

theorem Dev.lkAlt_congr (i b : Nat) : e.lkAlt t i b = d.lkAlt t i b := by
  rw [Dev.lkAlt, h, Dev.lkAlt]

theorem Dev.lkPath_congr (n b : Nat) (path : List (Nat × Nat)) : e.lkPath t n b path = d.lkPath t n b path := by
  induction n generalizing b path with
  | zero => rfl
  | succ n ih => rw [Dev.lkPath, Dev.lkPath, Dev.lkAlt_congr h, Dev.lkFree_congr h, ih]

end

theorem Dev.lkFree_valid {d : Dev} {t b j : Nat} (h : d.lkFree t b = some j) : (tget (d.lkSlice t).tab j).valid = false := by
  have hj := List.find?_some h
  simpa using hj

/-! ### Inserting and removing (R193, R195) -/

section
variable {d : Dev} {t : Nat} {e : LkEntry}

theorem Dev.lkInsert_found {j : Nat} (h : d.lkFind t e.mac e.vid = some j) : d.lkInsert t e =
    (d.lkSet t j { e with visited := (tget (d.lkSlice t).tab j).visited }, true) := by
  rw [Dev.lkInsert, h]

section
variable (hf : d.lkFind t e.mac e.vid = none)
include hf

/-- R193: a new key takes the free slot of its first bucket, or else of its second. -/
theorem Dev.lkInsert_free {j : Nat} (h : d.lkFree t (lkHash0 e.mac e.vid) = some j ∨
    (d.lkFree t (lkHash0 e.mac e.vid) = none ∧ d.lkFree t (lkHash1 e.mac e.vid) = some j)) :
    d.lkInsert t e = (d.lkSet t j e, true) := by
  rw [Dev.lkInsert, hf]
  dsimp only
  rcases h with h | ⟨h0, h1⟩
  · rw [h]
  · rw [h0]
    dsimp only
    rw [h1]

section
variable (h0 : d.lkFree t (lkHash0 e.mac e.vid) = none) (h1 : d.lkFree t (lkHash1 e.mac e.vid) = none)
include h0 h1

theorem Dev.lkInsert_moved {path : List (Nat × Nat)} {x : Nat × Nat}
    (hp : d.lkPath t 16 (lkHash0 e.mac e.vid) [] = some path) (hx : path.getLast? = some x) :
    d.lkInsert t e = ((path.foldl (fun (a : Dev) m => a.lkMove t m) d).lkSet t x.1 e, true) := by
  rw [Dev.lkInsert, hf]
  dsimp only
  rw [h0]
  dsimp only
  rw [h1]
  dsimp only
  rw [hp]
  dsimp only
  rw [hx]

theorem Dev.lkInsert_full (hp : d.lkPath t 16 (lkHash0 e.mac e.vid) [] = none) : d.lkInsert t e = (d, false) := by
  rw [Dev.lkInsert, hf]
  dsimp only
  rw [h0]
  dsimp only
  rw [h1]
  dsimp only
  rw [hp]

end

end

theorem Dev.word_lkMove {a : Nat} (m : Nat × Nat) (h : lkBody a) : (d.lkMove t m).word a = d.word a := by
  obtain ⟨-, hne, -⟩ := lkBody_apart h t
  unfold Dev.lkMove
  rcases d.lkFree t m.2 with _ | j
  · rfl
  · dsimp only
    rw [Dev.bumpWrap, Dev.word_put_other _ (F.LK_RELOC_SEQ_COUNT t) _ _ hne, Dev.word_lkSet h, Dev.word_lkSet h]

theorem Dev.word_foldl_lkMove {a : Nat} (path : List (Nat × Nat)) (h : lkBody a) :
    (path.foldl (fun (e : Dev) m => e.lkMove t m) d).word a = d.word a :=
  List.foldlRecOn (motive := fun e : Dev => e.word a = d.word a) _ _ rfl fun _ he m _ => (Dev.word_lkMove m h).trans he

/-- R193: an insertion changes no register outside page 0 of its slice. -/
theorem Dev.word_lkInsert {a : Nat} (h : lkBody a) : (d.lkInsert t e).1.word a = d.word a := by
  unfold Dev.lkInsert
  rcases d.lkFind t e.mac e.vid with _ | i
  · rcases d.lkFree t (lkHash0 e.mac e.vid) with _ | i
    · rcases d.lkFree t (lkHash1 e.mac e.vid) with _ | i
      · rcases d.lkPath t 16 (lkHash0 e.mac e.vid) [] with _ | path
        · rfl
        · dsimp only
          rcases path.getLast? with _ | m
          · exact Dev.word_foldl_lkMove _ h
          · exact (Dev.word_lkSet h).trans (Dev.word_foldl_lkMove _ h)
      · exact Dev.word_lkSet h
    · exact Dev.word_lkSet h
  · exact Dev.word_lkSet h

theorem Dev.word_lkRemove {a : Nat} (p : LkEntry → Bool) (h : lkBody a) : (d.lkRemove t p).word a = d.word a := by
  rw [Dev.lkRemove]
  refine List.foldlRecOn (motive := fun e : Dev => e.word a = d.word a) _ _ rfl fun e he x _ => ?_
  split
  · exact (Dev.word_lkSet h).trans he
  · exact he

theorem Dev.word_lkFlush {a : Nat} (port kind : Nat) (h : lkBody a) : (d.lkFlush t port kind).word a = d.word a := by
  rw [Dev.lkFlush, Dev.word_lkRemove _ h]

end

end Sys2Proof.Machine
end

section
/-! The command window of a lookup slice: what a write of LK_CMD does (R91, R194, R195). -/

namespace Sys2Proof.Machine
open Sys2Proof

/-! ### The words of the commands (R195) -/

/-- R195: the word of a command that names no slice, kind or port. -/
def lkSearchWord (k : Nat) : Word := cmdWord [(F.LK_CMD_GO k, 1), (F.LK_CMD_OP k, 0)]

def lkNextWord (k kind port : Nat) : Word :=
  cmdWord [(F.LK_CMD_GO k, 1), (F.LK_CMD_OP k, 1), (F.LK_CMD_KIND k, kind), (F.LK_CMD_PORT k, port)]

/-- R195: the word of a command on entries of the slices named. -/
def lkEntryWord (k op slices : Nat) : Word :=
  cmdWord [(F.LK_CMD_GO k, 1), (F.LK_CMD_OP k, op), (F.LK_CMD_SLICES k, slices)]

def lkFlushWord (k slices kind port : Nat) : Word :=
  cmdWord [(F.LK_CMD_GO k, 1), (F.LK_CMD_OP k, 4), (F.LK_CMD_SLICES k, slices), (F.LK_CMD_KIND k, kind),
    (F.LK_CMD_PORT k, port)]

section
variable {k op slices kind port : Nat}

theorem newField_lkSearchWord : newField (lkSearchWord k) (F.LK_CMD_GO k) = 1 ∧
    newField (lkSearchWord k) (F.LK_CMD_OP k) = 0 := by
  simp (disch := omega) only [lkSearchWord, cmdWord, List.foldl_cons, List.foldl_nil, newField, F.LK_CMD_GO, F.LK_CMD_OP,
    wordBits_wordPut, wordBits_wordPut_other, Nat.mod_eq_of_lt, and_self]

theorem newField_lkNextWord (hk : kind < 4) (hp : port < 32) : newField (lkNextWord k kind port) (F.LK_CMD_GO k) = 1 ∧
    newField (lkNextWord k kind port) (F.LK_CMD_OP k) = 1 ∧ newField (lkNextWord k kind port) (F.LK_CMD_KIND k) = kind ∧
    newField (lkNextWord k kind port) (F.LK_CMD_PORT k) = port := by
  simp (disch := omega) only [lkNextWord, cmdWord, List.foldl_cons, List.foldl_nil, newField, F.LK_CMD_GO, F.LK_CMD_OP,
    F.LK_CMD_KIND, F.LK_CMD_PORT, wordBits_wordPut, wordBits_wordPut_other, Nat.mod_eq_of_lt, and_self]

theorem newField_lkEntryWord (hop : op < 16) (hs : slices < 4) : newField (lkEntryWord k op slices) (F.LK_CMD_GO k) = 1 ∧
    newField (lkEntryWord k op slices) (F.LK_CMD_OP k) = op ∧
    newField (lkEntryWord k op slices) (F.LK_CMD_SLICES k) = slices := by
  simp (disch := omega) only [lkEntryWord, cmdWord, List.foldl_cons, List.foldl_nil, newField, F.LK_CMD_GO, F.LK_CMD_OP,
    F.LK_CMD_SLICES, wordBits_wordPut, wordBits_wordPut_other, Nat.mod_eq_of_lt, and_self]

theorem newField_lkFlushWord (hs : slices < 4) (hk : kind < 4) (hp : port < 32) :
    newField (lkFlushWord k slices kind port) (F.LK_CMD_GO k) = 1 ∧
    newField (lkFlushWord k slices kind port) (F.LK_CMD_OP k) = 4 ∧
    newField (lkFlushWord k slices kind port) (F.LK_CMD_SLICES k) = slices ∧
    newField (lkFlushWord k slices kind port) (F.LK_CMD_KIND k) = kind ∧
    newField (lkFlushWord k slices kind port) (F.LK_CMD_PORT k) = port := by
  simp (disch := omega) only [lkFlushWord, cmdWord, List.foldl_cons, List.foldl_nil, newField, F.LK_CMD_GO, F.LK_CMD_OP,
    F.LK_CMD_SLICES, F.LK_CMD_KIND, F.LK_CMD_PORT, wordBits_wordPut, wordBits_wordPut_other, Nat.mod_eq_of_lt, and_self]

end

theorem lkCmd_stored : ∀ k : Fin 2, (F.LK_CMD_OP k).stored = true ∧ (F.LK_CMD_SLICES k).stored = true ∧
    (F.LK_CMD_KIND k).stored = true ∧ (F.LK_CMD_PORT k).stored = true := by
  decide +kernel

/-! ### The device that shows a command (R195) -/

/-- R195: a command stands in the window of slice k, its results cleared. -/
def Dev.lkShows (d : Dev) (k : Nat) (v : Word) : Dev :=
  (d.commanded (R.LK_CMD k) v (F.LK_CMD_GO k)).setWord (R.LK_RESULT k) 0

/-- A register of a window other than its command and its results. -/
def lkAside (k a : Nat) : Prop := a ≠ R.LK_CMD k ∧ a ≠ R.LK_RESULT k

section
variable {d : Dev} {k : Nat} {v : Word}

theorem Dev.word_lkShows {a : Nat} (h : lkAside k a) : (d.lkShows k v).word a = d.word a := by
  obtain ⟨h1, h2⟩ := h
  rw [Dev.lkShows, Dev.word_setWord_other _ _ _ _ h2, Dev.word_commanded (addr := R.LK_CMD k) (go := F.LK_CMD_GO k) rfl h1]

@[simp] theorem Dev.lkSlice_lkShows (t : Nat) : (d.lkShows k v).lkSlice t = d.lkSlice t := by
  rw [Dev.lkSlice, Dev.lkShows, Dev.setWord_lk, Dev.commanded_lk, Dev.lkSlice]

theorem Dev.word_lkShows_cmd : (d.lkShows k v).word (R.LK_CMD k) = (d.commanded (R.LK_CMD k) v (F.LK_CMD_GO k)).word
    (R.LK_CMD k) := by
  rw [Dev.lkShows, Dev.word_setWord_other _ _ _ _ (by simp only [R.LK_CMD, R.LK_RESULT]; omega)]

/-- R195: the fields of a command as the window shows them. -/
theorem Dev.lkShows_fields (k : Fin 2) : (d.lkShows k v).get (F.LK_CMD_OP k) = newField v (F.LK_CMD_OP k) ∧
    (d.lkShows k v).get (F.LK_CMD_SLICES k) = newField v (F.LK_CMD_SLICES k) ∧
    (d.lkShows k v).get (F.LK_CMD_KIND k) = newField v (F.LK_CMD_KIND k) ∧
    (d.lkShows k v).get (F.LK_CMD_PORT k) = newField v (F.LK_CMD_PORT k) := by
  obtain ⟨s1, s2, s3, s4⟩ := lkCmd_stored k
  refine ⟨?_, ?_, ?_, ?_⟩
  · exact (Dev.get_of_word (g := F.LK_CMD_OP k) Dev.word_lkShows_cmd).trans (Dev.get_commanded_field rfl s1 (Nat.le_refl 32)
      (.inr (.inl (by decide : 24 + 4 ≤ 31))))
  · exact (Dev.get_of_word (g := F.LK_CMD_SLICES k) Dev.word_lkShows_cmd).trans (Dev.get_commanded_field rfl s2
      (Nat.le_refl 32) (.inr (.inl (by decide : 20 + 2 ≤ 31))))
  · exact (Dev.get_of_word (g := F.LK_CMD_KIND k) Dev.word_lkShows_cmd).trans (Dev.get_commanded_field rfl s3
      (Nat.le_refl 32) (.inr (.inl (by decide : 16 + 2 ≤ 31))))
  · exact (Dev.get_of_word (g := F.LK_CMD_PORT k) Dev.word_lkShows_cmd).trans (Dev.get_commanded_field rfl s4
      (Nat.le_refl 32) (.inr (.inl (by decide : 0 + 5 ≤ 31))))

/-- The registers of a window that describe an entry or a place, and its counters, are neither command nor results. -/
theorem lkAside_of {a : Nat} (h : a = R.LK_KEY0 k ∨ a = R.LK_KEY1 k ∨ a = R.LK_CURSOR k ∨ (∃ w, a = R.LK_DATA k w)) :
    lkAside k a := by
  simp only [lkAside, R.LK_CMD, R.LK_RESULT]
  rcases h with h | h | h | ⟨w, h⟩
  · simp only [h, R.LK_KEY0]
    omega
  · simp only [h, R.LK_KEY1]
    omega
  · simp only [h, R.LK_CURSOR]
    omega
  · simp only [h, R.LK_DATA]
    omega

theorem lkAside_stat (t : Nat) (k : Fin 2) : lkAside k (R.LK_STAT t) := by
  have hk := k.isLt
  simp only [lkAside, R.LK_STAT, R.LK_CMD, R.LK_RESULT]
  omega

/-- The entry of a window follows its key and data registers. -/
theorem Dev.lkWindowEntry_congr {e : Dev} (h : ∀ a, lkAside k a → lkBody a → e.word a = d.word a) :
    e.lkWindowEntry k = d.lkWindowEntry k := by
  have hg : ∀ g : Fld, lkAside k g.addr → lkBody g.addr → e.get g = d.get g := fun g h1 h2 =>
    Dev.get_of_word (h g.addr h1 h2)
  have hd : ∀ w < 5, e.get (F.LK_DATA_DATA k w) = d.get (F.LK_DATA_DATA k w) := fun w hw =>
    hg _ (lkAside_of (.inr (.inr (.inr ⟨w, rfl⟩)))) (by simp only [lkBody, F.LK_DATA_DATA, R.LK_DATA]; omega)
  rw [Dev.lkWindowEntry, Dev.lkWindowEntry, lkOfWords, lkOfWords,
    hg (F.LK_KEY1_MAC k) (lkAside_of (.inr (.inl rfl))) (by simp only [lkBody, F.LK_KEY1_MAC, R.LK_KEY1]; omega),
    hg (F.LK_KEY0_MAC k) (lkAside_of (.inl rfl)) (by simp only [lkBody, F.LK_KEY0_MAC, R.LK_KEY0]; omega),
    hg (F.LK_KEY1_VID k) (lkAside_of (.inr (.inl rfl))) (by simp only [lkBody, F.LK_KEY1_VID, R.LK_KEY1]; omega),
    hd 1 (by decide), hd 2 (by decide), hd 3 (by decide), hd 4 (by decide)]

theorem Dev.lkWindowEntry_lkShows : (d.lkShows k v).lkWindowEntry k = d.lkWindowEntry k :=
  Dev.lkWindowEntry_congr (fun _ h _ => Dev.word_lkShows h)

end

/-! ### Results (R195) -/

theorem lkResultFld_form (k t : Nat) : (lkResultFld k t).addr = R.LK_RESULT k ∧
    (lkResultFld k t).lo + (lkResultFld k t).width ≤ 32 ∧ (lkResultFld k t).width = 16 := by
  rw [lkResultFld]
  split
  · exact ⟨rfl, (by decide : 0 + 16 ≤ 32), rfl⟩
  · exact ⟨rfl, (by decide : 16 + 16 ≤ 32), rfl⟩

theorem Dev.get_lkResult {d : Dev} {k t v : Nat} (hv : v < 2 ^ 16) : (d.put (lkResultFld k t) v).get (lkResultFld k t) = v := by
  obtain ⟨-, hw, h16⟩ := lkResultFld_form k t
  rw [Dev.get_put _ _ _ hw, h16, Nat.mod_eq_of_lt hv]

theorem Dev.word_lkResult {d : Dev} {k t v a : Nat} (h : lkAside k a ∨ a = R.LK_CMD k) :
    (d.put (lkResultFld k t) v).word a = d.word a := by
  obtain ⟨ha, -, -⟩ := lkResultFld_form k t
  refine Dev.word_put_other _ _ _ _ (ha ▸ ?_)
  rcases h with ⟨-, h⟩ | h
  · exact h
  · rw [h]
    simp only [R.LK_CMD, R.LK_RESULT]
    omega

/-! ### One slice's turn (R195) -/

section
variable {d : Dev} {k t : Nat} {e : LkEntry}

/-- R195: a command's turn in slice t, and its result shown. -/
def Dev.lkTurn (d : Dev) (k t op : Nat) : Dev := (d.lkRun k t op).1.put (lkResultFld k t) (d.lkRun k t op).2

section
variable (he : d.lkWindowEntry k = e)
include he

theorem Dev.lkTurn_search : d.lkTurn k t 0 = (d.lkFind t e.mac e.vid).elim (d.put (lkResultFld k t) 0x011D)
    (fun j => (d.lkShow k j).put (lkResultFld k t) 0) := by
  rw [Dev.lkTurn, Dev.lkRun, he, if_pos rfl]
  cases d.lkFind t e.mac e.vid <;> rfl

theorem Dev.lkTurn_insert : d.lkTurn k t 2 =
    (d.lkInsert t e).1.put (lkResultFld k t) (if (d.lkInsert t e).2 then 0 else 0x011C) := by
  rw [Dev.lkTurn, Dev.lkRun, he, if_neg (by decide), if_neg (by decide), if_pos rfl]

theorem Dev.lkTurn_delete : d.lkTurn k t 3 = (d.lkFind t e.mac e.vid).elim (d.put (lkResultFld k t) 0x011D)
    (fun j => (d.lkSet t j default).put (lkResultFld k t) 0) := by
  rw [Dev.lkTurn, Dev.lkRun, he, if_neg (by decide), if_neg (by decide), if_neg (by decide), if_pos rfl]
  cases d.lkFind t e.mac e.vid <;> rfl

end

theorem Dev.lkTurn_flush : d.lkTurn k t 4 =
    (d.lkFlush t (d.get (F.LK_CMD_PORT k)) (d.get (F.LK_CMD_KIND k))).put (lkResultFld k t) 0 := by
  rw [Dev.lkTurn, Dev.lkRun, if_neg (by decide), if_neg (by decide), if_neg (by decide), if_neg (by decide)]

/-- R195: the entry that NEXT finds. -/
def Dev.lkAhead (d : Dev) (k t port kind : Nat) : Option (Nat × LkEntry) :=
  (d.lkSlice t).tab.find? (fun y => decide (d.get (F.LK_CURSOR_INDEX k) ≤ y.1) && lkMatches port kind y.2)

theorem Dev.lkTurn_next : d.lkTurn k t 1 =
    (d.lkAhead k t (d.get (F.LK_CMD_PORT k)) (d.get (F.LK_CMD_KIND k))).elim
      ((d.put (F.LK_CURSOR_INDEX k) 0x20000).put (lkResultFld k t) 0x011D)
      (fun x => ((d.lkShow k x.1).put (F.LK_CURSOR_INDEX k) (x.1 + 1)).put (lkResultFld k t) 0) := by
  rw [Dev.lkTurn, Dev.lkRun, if_neg (by decide), if_pos rfl, Dev.lkAhead]
  cases (d.lkSlice t).tab.find? (fun x => decide (d.get (F.LK_CURSOR_INDEX k) ≤ x.1) &&
    lkMatches (d.get (F.LK_CMD_PORT k)) (d.get (F.LK_CMD_KIND k)) x.2) <;> rfl

/-- R195: a turn of a command on entries changes in its window nothing but the result. -/
theorem Dev.word_lkTurn {a op : Nat} (hop : 2 ≤ op) (ha : lkAside k a ∨ a = R.LK_CMD k) (hb : lkBody a) :
    (d.lkTurn k t op).word a = d.word a := by
  have hrun : (d.lkRun k t op).1.word a = d.word a := by
    unfold Dev.lkRun
    dsimp only
    rw [if_neg (by omega), if_neg (by omega)]
    by_cases h2 : op = 2
    · rw [if_pos h2]
      exact Dev.word_lkInsert hb
    · rw [if_neg h2]
      by_cases h3 : op = 3
      · rw [if_pos h3]
        rcases d.lkFind t (d.lkWindowEntry k).mac (d.lkWindowEntry k).vid with _ | j
        · rfl
        · exact Dev.word_lkSet hb
      · rw [if_neg h3]
        exact Dev.word_lkFlush _ _ hb
  rw [Dev.lkTurn, Dev.word_lkResult ha, hrun]

end

/-! ### A write of LK_CMD (R194, R195) -/

section
variable {d : Dev} {k : Nat} {i : Init} {v : Word}

/-- R194: GO in the other window while a command holds both. -/
theorem Dev.lkBusy_eq (h1 : newField v (F.LK_CMD_GO k) = 1) :
    d.lkBusy k v = (d.sw.lkHeld.isSome && !d.flag (F.LK_CMD_GO k)) := by
  rw [Dev.lkBusy, h1, beq_self_eq_true, Bool.and_true]

theorem Dev.lkCmdWrite_ignored (h1 : newField v (F.LK_CMD_GO k) = 1) (hgo : d.flag (F.LK_CMD_GO k) = true) :
    d.lkCmdWrite k i v = d := by
  unfold Dev.lkCmdWrite
  dsimp only
  rw [hgo, h1, Bool.true_and, beq_self_eq_true, if_pos rfl]

section
variable (h1 : newField v (F.LK_CMD_GO k) = 1) (hgo : d.flag (F.LK_CMD_GO k) = false)
include h1 hgo

/-- R195: a command that is taken. -/
theorem Dev.lkCmdWrite_taken (h0 : (d.lkShows k v).lkRefusal k = 0) : d.lkCmdWrite k i v =
    if ((d.lkShows k v).lkSlices k).length = 2 then
      ((((d.lkShows k v).lkSlices k).foldl (fun (a : Dev) t => a.lkTurn k t (a.get (F.LK_CMD_OP k))) (d.lkShows k v)).put
        (F.LK_CMD_GO k) 1).lkHold k
    else ((d.lkShows k v).lkSlices k).foldl (fun (a : Dev) t => a.lkTurn k t (a.get (F.LK_CMD_OP k))) (d.lkShows k v) := by
  have hs : ((d.store (R.LK_CMD k) v).put (F.LK_CMD_GO k) 0).setWord (R.LK_RESULT k) 0 = d.lkShows k v := by
    rw [Dev.lkShows, Dev.commanded]
  unfold Dev.lkCmdWrite
  dsimp only
  rw [hgo, Bool.false_and, if_neg Bool.false_ne_true, if_pos h1, hs, if_pos h0]
  rfl

/-- R195: one that is refused. -/
theorem Dev.lkCmdWrite_refused {c : Nat} {pg : Page} (hc : (d.lkShows k v).lkRefusal k = c) (h0 : c ≠ 0)
    (hp : pageOf (R.LK_CMD k) = some pg) : d.lkCmdWrite k i v =
      (((d.lkShows k v).lkSlices k).foldl (fun (a : Dev) t => a.put (lkResultFld k t) c) (d.lkShows k v)).recordErr pg
        (initCode i) (R.LK_CMD k) c := by
  have hs : ((d.store (R.LK_CMD k) v).put (F.LK_CMD_GO k) 0).setWord (R.LK_RESULT k) 0 = d.lkShows k v := by
    rw [Dev.lkShows, Dev.commanded]
  unfold Dev.lkCmdWrite
  dsimp only
  rw [hgo, Bool.false_and, if_neg Bool.false_ne_true, if_pos h1, hs, hc, if_neg h0, Dev.windowErr, hp]
  dsimp only
  rw [if_neg h0]

end

/-- R195: the slices that a command acts on. -/
theorem Dev.lkSlices_own (h : d.get (F.LK_CMD_OP k) < 2) : d.lkSlices k = [k] := by
  rw [Dev.lkSlices, if_pos (.inl h)]

theorem Dev.lkSlices_one {slices : Fin 4} {t : Nat} (hop : 2 ≤ d.get (F.LK_CMD_OP k))
    (hs : d.get (F.LK_CMD_SLICES k) = slices) (h : if slices = 0 then k = t else slices.val = 2 ^ t ∧ t < 2) :
    d.lkSlices k = [t] := by
  have hno : ¬ d.get (F.LK_CMD_OP k) < 2 := Nat.not_lt.mpr hop
  rw [Dev.lkSlices, hs]
  by_cases h0 : slices = 0
  · rw [if_pos h0] at h
    rw [if_pos (.inr (congrArg Fin.val h0)), h]
  · rw [if_neg h0] at h
    obtain ⟨hv, ht⟩ := h
    have hne : slices.val ≠ 0 := fun h => h0 (Fin.ext h)
    rw [if_neg (not_or.mpr ⟨hno, hne⟩), hv]
    exact (by decide : ∀ t < 2, (List.range 2).filter (fun j => bitOf (2 ^ t) j) = [t]) t ht

theorem Dev.lkSlices_both (hop : 2 ≤ d.get (F.LK_CMD_OP k)) (hs : d.get (F.LK_CMD_SLICES k) = 3) : d.lkSlices k = [0, 1] := by
  rw [Dev.lkSlices, hs, if_neg (by omega)]
  decide

end

end Sys2Proof.Machine
end

section
/-! The rows of the lookup window, settled (R191 to R195, R207). -/

namespace Sys2Proof.Machine
open Sys2Proof

/-! ### Refusals (R192, R195) -/

section
variable {d : Dev} {k : Nat}

theorem Dev.lkRefusal_plain {op : Nat} (hop : d.get (F.LK_CMD_OP k) = op) (h : op = 0 ∨ op = 1 ∨ op = 3) :
    d.lkRefusal k = 0 := by
  unfold Dev.lkRefusal
  rw [hop]
  rcases h with rfl | rfl | rfl <;> rfl

theorem Dev.lkRefusal_insert (hop : d.get (F.LK_CMD_OP k) = 2) :
    d.lkRefusal k = if lkEntryOk (d.lkWindowEntry k) then 0 else 0x0119 := by
  unfold Dev.lkRefusal
  rw [hop]
  cases lkEntryOk (d.lkWindowEntry k) <;> rfl

theorem Dev.lkRefusal_flush (hop : d.get (F.LK_CMD_OP k) = 4) :
    d.lkRefusal k = if d.get (F.LK_CMD_KIND k) == 0 then 0x0119 else 0 := by
  unfold Dev.lkRefusal
  rw [hop]
  cases d.get (F.LK_CMD_KIND k) == 0 <;> rfl

end

/-! ### The entry found, removed (R195) -/

/-- R195: what DELETE does in slice t of the entry found at `j`, if any. -/
def Dev.lkRemoved (d : Dev) (k t : Nat) (j : Option Nat) : Dev :=
  (j.elim d (fun j => d.lkSet t j default)).put (lkResultFld k t) (if j.isSome then 0 else 0x011D)

theorem Dev.lkTurn_removed {d : Dev} {k t : Nat} {e : LkEntry} {j : Option Nat} (he : d.lkWindowEntry k = e)
    (hj : d.lkFind t e.mac e.vid = j) : d.lkTurn k t 3 = d.lkRemoved k t j := by
  rw [Dev.lkTurn_delete he, hj]
  cases j <;> rfl

theorem Dev.lkSlice_lkRemoved {d : Dev} {k t u : Nat} {j : Option Nat} (h : u ≠ t) :
    (d.lkRemoved k t j).lkSlice u = d.lkSlice u := by
  rw [Dev.lkRemoved, Dev.lkSlice_put]
  cases j with
  | none => rfl
  | some j => rw [Option.elim_some, Dev.lkSlice_lkSet, Dev.lkSlice_lkPut_other h]

/-! ### A row that writes LK_CMD (R91, R195) -/

theorem lkCmd_page : ∀ k : Fin 2, pageExists (.lk k 1) = true ∧ R.LK_CMD k = pageBase (.lk k 1) + 0x40 ∧
    R.LK_CMD k ≠ R.GV_TCMD ∧ R.LK_CMD k % 0x1000 = 0x40 := by decide

theorem Dev.pageWrite_lkCmd {d : Dev} {i : Init} {k : Fin 2} (ident : List Byte) (v : Word) :
    d.pageWrite ident i (.lk k 1) (R.LK_CMD k) v = refuseIf (d.lkBusy k v) 0x011A (.ok (d.lkCmdWrite k i v)) := by
  obtain ⟨-, -, -, hoff⟩ := lkCmd_page k
  unfold Dev.pageWrite
  dsimp only
  rw [hoff, if_neg (by decide), Dev.lkWrite, if_neg (by decide), if_pos rfl, if_pos rfl]

section
variable {s : State} {i : Init} {k : Fin 2} {d : Dev} {v : Word} {op t : Nat} (hr : s.dev.reaches i (R.LK_CMD k) = some d)
  (hl : d.lockedWrite (R.LK_CMD k) v = false) (h1 : newField v (F.LK_CMD_GO k) = 1)
include hr hl h1

/-- R194: refused while a command of the other window holds both. -/
theorem lkRow_busy (hheld : d.sw.lkHeld ≠ none) (hgo : d.flag (F.LK_CMD_GO k) = false) :
    s.dev.anyRow (idBlock s.id) i (R.LK_CMD k) v = d.failWrite i (R.LK_CMD k) v 0x011A := by
  obtain ⟨hx, ha, htcmd, -⟩ := lkCmd_page k
  have hb : d.lkBusy k v = true := by
    rw [Dev.lkBusy_eq h1, hgo, Option.isSome_iff_ne_none.mpr hheld]
    rfl
  exact Dev.anyRow_page_refused _ d _ i _ _ (.lk k 1) 0x40 _ hx (by decide) ha htcmd hr hl
    (by rw [Dev.pageWrite_lkCmd, hb, refuseIf, if_pos rfl])

/-- R91: ignored while its own command is not complete. -/
theorem lkRow_ignored (hgo : d.flag (F.LK_CMD_GO k) = true) : s.dev.anyRow (idBlock s.id) i (R.LK_CMD k) v = d := by
  obtain ⟨hx, ha, htcmd, -⟩ := lkCmd_page k
  have hb : d.lkBusy k v = false := by
    rw [Dev.lkBusy_eq h1, hgo, Bool.not_true, Bool.and_false]
  exact Dev.anyRow_page _ d _ _ i _ _ (.lk k 1) 0x40 hx (by decide) ha htcmd hr hl
    (by rw [Dev.pageWrite_lkCmd, hb, refuseIf, if_neg Bool.false_ne_true, Dev.lkCmdWrite_ignored h1 hgo])

section
variable (hgo : d.flag (F.LK_CMD_GO k) = false) (hheld : d.sw.lkHeld = none)
include hheld

theorem lkRow_eq : s.dev.anyRow (idBlock s.id) i (R.LK_CMD k) v = d.lkCmdWrite k i v := by
  obtain ⟨hx, ha, htcmd, -⟩ := lkCmd_page k
  have hb : d.lkBusy k v = false := by
    rw [Dev.lkBusy_eq h1, hheld]
    rfl
  exact Dev.anyRow_page _ d _ _ i _ _ (.lk k 1) 0x40 hx (by decide) ha htcmd hr hl
    (by rw [Dev.pageWrite_lkCmd, hb, refuseIf, if_neg Bool.false_ne_true])

include hgo

/-- R195: a command on one slice. -/
theorem lkRow_one (hop : newField v (F.LK_CMD_OP k) = op) (h0 : (d.lkShows k v).lkRefusal k = 0)
    (hs : (d.lkShows k v).lkSlices k = [t]) :
    s.dev.anyRow (idBlock s.id) i (R.LK_CMD k) v = (d.lkShows k v).lkTurn k t op := by
  obtain ⟨hfop, -⟩ := Dev.lkShows_fields (d := d) (v := v) k
  rw [lkRow_eq hr hl h1 hheld, Dev.lkCmdWrite_taken h1 hgo h0, hs,
    List.length_singleton, if_neg (by decide : ¬ 1 = 2), List.foldl_cons, List.foldl_nil, hfop, hop]

/-- R194, R195: a command on entries of both slices. -/
theorem lkRow_both (hop : newField v (F.LK_CMD_OP k) = op) (h2 : 2 ≤ op) (h0 : (d.lkShows k v).lkRefusal k = 0)
    (hs : newField v (F.LK_CMD_SLICES k) = 3) : s.dev.anyRow (idBlock s.id) i (R.LK_CMD k) v =
      ((((d.lkShows k v).lkTurn k 0 op).lkTurn k 1 op).put (F.LK_CMD_GO k) 1).lkHold k := by
  obtain ⟨hfop, hfs, -⟩ := Dev.lkShows_fields (d := d) (v := v) k
  have hbody : lkBody (R.LK_CMD k) := by
    simp only [lkBody, R.LK_CMD]
    omega
  have hop0 : (d.lkShows k v).get (F.LK_CMD_OP k) = op := hfop.trans hop
  have hop1 : ((d.lkShows k v).lkTurn k 0 op).get (F.LK_CMD_OP k) = op :=
    (Dev.get_of_word (g := F.LK_CMD_OP k) (Dev.word_lkTurn h2 (.inr rfl) hbody)).trans hop0
  rw [lkRow_eq hr hl h1 hheld, Dev.lkCmdWrite_taken h1 hgo h0, Dev.lkSlices_both (by rw [hop0]; exact h2) (hfs.trans hs),
    if_pos (by decide), List.foldl_cons, List.foldl_cons, List.foldl_nil, hop0, hop1]

/-- R192, R195: a command on one slice that is refused. -/
theorem lkRow_refused (hc : (d.lkShows k v).lkRefusal k = 0x0119) (hs : (d.lkShows k v).lkSlices k = [t]) :
    s.dev.anyRow (idBlock s.id) i (R.LK_CMD k) v =
      ((d.lkShows k v).put (lkResultFld k t) 0x0119).recordErr (.lk k 1) (initCode i) (R.LK_CMD k) 0x0119 := by
  obtain ⟨hx, ha, -, -⟩ := lkCmd_page k
  rw [lkRow_eq hr hl h1 hheld, Dev.lkCmdWrite_refused h1 hgo hc (by decide) (pageOf_page _ _ _ hx (by decide) ha), hs,
    List.foldl_cons, List.foldl_nil]

end

end

/-! ### The rows -/

section
variable {s : State} {i : Init} {k : Fin 2} {slices kind : Fin 4} {port : Fin 32} {d : Dev} {t : Nat} {e : LkEntry}

theorem exec_lkSearch : exec (.lkSearch i k) s = .next (s.ends (s.dev.anyRow (idBlock s.id) i (R.LK_CMD k)
    (lkSearchWord k))) := act_eq_ends s (fun d => d.anyRow (idBlock s.id) i (R.LK_CMD k) (lkSearchWord k))

theorem exec_lkNext : exec (.lkNext i k kind port) s = .next (s.ends (s.dev.anyRow (idBlock s.id) i (R.LK_CMD k)
    (lkNextWord k kind port))) := act_eq_ends s (fun d => d.anyRow (idBlock s.id) i (R.LK_CMD k) (lkNextWord k kind port))

theorem exec_lkInsert : exec (.lkInsert i k slices) s = .next (s.ends (s.dev.anyRow (idBlock s.id) i (R.LK_CMD k)
    (lkEntryWord k 2 slices))) := act_eq_ends s (fun d => d.anyRow (idBlock s.id) i (R.LK_CMD k) (lkEntryWord k 2 slices))

theorem exec_lkDelete : exec (.lkDelete i k slices) s = .next (s.ends (s.dev.anyRow (idBlock s.id) i (R.LK_CMD k)
    (lkEntryWord k 3 slices))) := act_eq_ends s (fun d => d.anyRow (idBlock s.id) i (R.LK_CMD k) (lkEntryWord k 3 slices))

theorem exec_lkFlushPort : exec (.lkFlushPort i k slices kind port) s = .next (s.ends (s.dev.anyRow (idBlock s.id) i
    (R.LK_CMD k) (lkFlushWord k slices kind port))) :=
  act_eq_ends s (fun d => d.anyRow (idBlock s.id) i (R.LK_CMD k) (lkFlushWord k slices kind port))

/-- R194: the window describes the same entry in the turn of slice 1. -/
theorem lkEntry_second {v : Word} {op : Nat} (hop : 2 ≤ op) (he : d.lkWindowEntry k = e) :
    ((d.lkShows k v).lkTurn k 0 op).lkWindowEntry k = e :=
  (Dev.lkWindowEntry_congr fun _ ha hb => Dev.word_lkTurn hop (.inl ha) hb).trans (Dev.lkWindowEntry_lkShows.trans he)

section
variable (hr : s.dev.reaches i (R.LK_CMD k) = some d) (hgo : d.flag (F.LK_CMD_GO k) = false) (hheld : d.sw.lkHeld = none)
include hr hgo hheld

theorem lkSearchRow (hl : d.lockedWrite (R.LK_CMD k) (lkSearchWord k) = false) (he : d.lkWindowEntry k = e) :
    exec (.lkSearch i k) s = .next (s.ends ((d.lkFind k e.mac e.vid).elim
      ((d.lkShows k (lkSearchWord k)).put (lkResultFld k k) 0x011D)
      (fun j => ((d.lkShows k (lkSearchWord k)).lkShow k j).put (lkResultFld k k) 0))) := by
  obtain ⟨h1, hop⟩ := newField_lkSearchWord (k := k)
  obtain ⟨hfop, -⟩ := Dev.lkShows_fields (d := d) (v := lkSearchWord k) k
  have h0 := hfop.trans hop
  rw [exec_lkSearch, lkRow_one hr hl h1 hgo hheld hop (Dev.lkRefusal_plain h0 (.inl rfl))
    (Dev.lkSlices_own (by rw [h0]; decide)), Dev.lkTurn_search (Dev.lkWindowEntry_lkShows.trans he),
    Dev.lkFind_congr (Dev.lkSlice_lkShows _)]

theorem lkNextRow (hl : d.lockedWrite (R.LK_CMD k) (lkNextWord k kind port) = false) :
    exec (.lkNext i k kind port) s = .next (s.ends ((d.lkAhead k k port kind).elim
      (((d.lkShows k (lkNextWord k kind port)).put (F.LK_CURSOR_INDEX k) 0x20000).put (lkResultFld k k) 0x011D)
      (fun x => (((d.lkShows k (lkNextWord k kind port)).lkShow k x.1).put (F.LK_CURSOR_INDEX k) (x.1 + 1)).put
        (lkResultFld k k) 0))) := by
  obtain ⟨h1, hop, hkind, hport⟩ := newField_lkNextWord (k := k) kind.isLt port.isLt
  obtain ⟨hfop, -, hfkind, hfport⟩ := Dev.lkShows_fields (d := d) (v := lkNextWord k kind port) k
  have h0 := hfop.trans hop
  have hcur : (d.lkShows k (lkNextWord k kind port)).get (F.LK_CURSOR_INDEX k) = d.get (F.LK_CURSOR_INDEX k) :=
    Dev.get_of_word (Dev.word_lkShows (lkAside_of (.inr (.inr (.inl rfl)))))
  rw [exec_lkNext, lkRow_one hr hl h1 hgo hheld hop (Dev.lkRefusal_plain h0 (.inr (.inl rfl)))
    (Dev.lkSlices_own (by rw [h0]; decide)), Dev.lkTurn_next, hfkind, hfport, hkind, hport, Dev.lkAhead, hcur,
    Dev.lkSlice_lkShows, ← Dev.lkAhead]

section
variable (ht : if slices = 0 then k.val = t else slices.val = 2 ^ t ∧ t < 2)
include ht

section
variable (he : d.lkWindowEntry k = e)
include he

section
variable (hl : d.lockedWrite (R.LK_CMD k) (lkEntryWord k 2 slices) = false)
include hl

theorem lkInsertRow (hok : lkEntryOk e = true) : exec (.lkInsert i k slices) s =
    .next (s.ends (((d.lkShows k (lkEntryWord k 2 slices)).lkInsert t e).1.put (lkResultFld k t)
      (if ((d.lkShows k (lkEntryWord k 2 slices)).lkInsert t e).2 then 0 else 0x011C))) := by
  obtain ⟨h1, hop, hs⟩ := newField_lkEntryWord (k := k) (op := 2) (by decide) slices.isLt
  obtain ⟨hfop, hfs, -⟩ := Dev.lkShows_fields (d := d) (v := lkEntryWord k 2 slices) k
  have h0 := hfop.trans hop
  have he' : (d.lkShows k (lkEntryWord k 2 slices)).lkWindowEntry k = e := Dev.lkWindowEntry_lkShows.trans he
  rw [exec_lkInsert, lkRow_one hr hl h1 hgo hheld hop (by rw [Dev.lkRefusal_insert h0, he', hok, if_pos rfl])
    (Dev.lkSlices_one (Nat.le_of_eq h0.symm) (hfs.trans hs) ht), Dev.lkTurn_insert he']

theorem lkInsertRow_forbidden (hok : lkEntryOk e = false) : exec (.lkInsert i k slices) s =
    .next (s.ends (((d.lkShows k (lkEntryWord k 2 slices)).put (lkResultFld k t) 0x0119).recordErr (.lk k 1) (initCode i)
      (R.LK_CMD k) 0x0119)) := by
  obtain ⟨h1, hop, hs⟩ := newField_lkEntryWord (k := k) (op := 2) (by decide) slices.isLt
  obtain ⟨hfop, hfs, -⟩ := Dev.lkShows_fields (d := d) (v := lkEntryWord k 2 slices) k
  have h0 := hfop.trans hop
  have he' : (d.lkShows k (lkEntryWord k 2 slices)).lkWindowEntry k = e := Dev.lkWindowEntry_lkShows.trans he
  rw [exec_lkInsert, lkRow_refused hr hl h1 hgo hheld
    (by rw [Dev.lkRefusal_insert h0, he', hok, if_neg Bool.false_ne_true])
    (Dev.lkSlices_one (Nat.le_of_eq h0.symm) (hfs.trans hs) ht)]

end

theorem lkDeleteRow (hl : d.lockedWrite (R.LK_CMD k) (lkEntryWord k 3 slices) = false) : exec (.lkDelete i k slices) s =
    .next (s.ends ((d.lkFind t e.mac e.vid).elim
      ((d.lkShows k (lkEntryWord k 3 slices)).put (lkResultFld k t) 0x011D)
      (fun j => ((d.lkShows k (lkEntryWord k 3 slices)).lkSet t j default).put (lkResultFld k t) 0))) := by
  obtain ⟨h1, hop, hs⟩ := newField_lkEntryWord (k := k) (op := 3) (by decide) slices.isLt
  obtain ⟨hfop, hfs, -⟩ := Dev.lkShows_fields (d := d) (v := lkEntryWord k 3 slices) k
  have h0 := hfop.trans hop
  rw [exec_lkDelete, lkRow_one hr hl h1 hgo hheld hop (Dev.lkRefusal_plain h0 (.inr (.inr rfl)))
    (Dev.lkSlices_one (by rw [h0]; decide) (hfs.trans hs) ht), Dev.lkTurn_delete (Dev.lkWindowEntry_lkShows.trans he),
    Dev.lkFind_congr (Dev.lkSlice_lkShows _)]

end

section
variable (hl : d.lockedWrite (R.LK_CMD k) (lkFlushWord k slices kind port) = false)
include hl

theorem lkFlushRow (hk : kind ≠ 0) : exec (.lkFlushPort i k slices kind port) s =
    .next (s.ends (((d.lkShows k (lkFlushWord k slices kind port)).lkFlush t port kind).put (lkResultFld k t) 0)) := by
  obtain ⟨h1, hop, hs, hkind, hport⟩ := newField_lkFlushWord (k := k) slices.isLt kind.isLt port.isLt
  obtain ⟨hfop, hfs, hfkind, hfport⟩ := Dev.lkShows_fields (d := d) (v := lkFlushWord k slices kind port) k
  have h0 := hfop.trans hop
  have hne : (kind.val == 0) = false := beq_eq_false_iff_ne.mpr fun h => hk (Fin.ext h)
  rw [exec_lkFlushPort, lkRow_one hr hl h1 hgo hheld hop
    (by rw [Dev.lkRefusal_flush h0, hfkind, hkind, hne, if_neg Bool.false_ne_true])
    (Dev.lkSlices_one (by rw [h0]; decide) (hfs.trans hs) ht), Dev.lkTurn_flush, hfkind, hfport, hkind, hport]

theorem lkFlushRow_refused (hk : kind = 0) : exec (.lkFlushPort i k slices kind port) s =
    .next (s.ends (((d.lkShows k (lkFlushWord k slices kind port)).put (lkResultFld k t) 0x0119).recordErr (.lk k 1)
      (initCode i) (R.LK_CMD k) 0x0119)) := by
  obtain ⟨h1, hop, hs, hkind, -⟩ := newField_lkFlushWord (k := k) slices.isLt kind.isLt port.isLt
  obtain ⟨hfop, hfs, hfkind, -⟩ := Dev.lkShows_fields (d := d) (v := lkFlushWord k slices kind port) k
  have h0 := hfop.trans hop
  have hz : (kind.val == 0) = true := beq_iff_eq.mpr (congrArg Fin.val hk)
  rw [exec_lkFlushPort, lkRow_refused hr hl h1 hgo hheld
    (by rw [Dev.lkRefusal_flush h0, hfkind, hkind, hz, if_pos rfl])
    (Dev.lkSlices_one (by rw [h0]; decide) (hfs.trans hs) ht)]

end

end

/-! ### Rows on both slices (R194) -/

section
variable (hs3 : slices = 3)
include hs3

theorem lkFlushRow_both (hl : d.lockedWrite (R.LK_CMD k) (lkFlushWord k slices kind port) = false) (hk : kind ≠ 0) :
    exec (.lkFlushPort i k slices kind port) s = .next (s.ends
      ((((((d.lkShows k (lkFlushWord k slices kind port)).lkFlush 0 port kind).put (lkResultFld k 0) 0).lkFlush 1 port
        kind).put (lkResultFld k 1) 0).put (F.LK_CMD_GO k) 1 |>.lkHold k)) := by
  obtain ⟨h1, hop, hs, hkind, hport⟩ := newField_lkFlushWord (k := k) slices.isLt kind.isLt port.isLt
  obtain ⟨hfop, -, hfkind, hfport⟩ := Dev.lkShows_fields (d := d) (v := lkFlushWord k slices kind port) k
  have hne : (kind.val == 0) = false := beq_eq_false_iff_ne.mpr fun h => hk (Fin.ext h)
  have hbody : lkBody (R.LK_CMD k) := by
    simp only [lkBody, R.LK_CMD]
    omega
  have hkept : ((d.lkShows k (lkFlushWord k slices kind port)).lkTurn k 0 4).word (R.LK_CMD k) =
      (d.lkShows k (lkFlushWord k slices kind port)).word (R.LK_CMD k) := Dev.word_lkTurn (by decide) (.inr rfl) hbody
  rw [exec_lkFlushPort, lkRow_both hr hl h1 hgo hheld hop (by decide)
    (by rw [Dev.lkRefusal_flush (hfop.trans hop), hfkind, hkind, hne, if_neg Bool.false_ne_true])
    (hs.trans (congrArg Fin.val hs3)), Dev.lkTurn_flush (t := 1), Dev.get_of_word (g := F.LK_CMD_PORT k) hkept,
    Dev.get_of_word (g := F.LK_CMD_KIND k) hkept, Dev.lkTurn_flush, hfkind, hfport, hkind, hport]

theorem lkInsertRow_both (hl : d.lockedWrite (R.LK_CMD k) (lkEntryWord k 2 slices) = false) (he : d.lkWindowEntry k = e)
    (hok : lkEntryOk e = true) {x y : Dev} {p q : Bool}
    (hx : (d.lkShows k (lkEntryWord k 2 slices)).lkInsert 0 e = (x, p))
    (hy : (x.put (lkResultFld k 0) (if p then 0 else 0x011C)).lkInsert 1 e = (y, q)) :
    exec (.lkInsert i k slices) s = .next (s.ends (((y.put (lkResultFld k 1) (if q then 0 else 0x011C)).put
      (F.LK_CMD_GO k) 1).lkHold k)) := by
  obtain ⟨h1, hop, hs⟩ := newField_lkEntryWord (k := k) (op := 2) (by decide) slices.isLt
  obtain ⟨hfop, -⟩ := Dev.lkShows_fields (d := d) (v := lkEntryWord k 2 slices) k
  have he0 : (d.lkShows k (lkEntryWord k 2 slices)).lkWindowEntry k = e := Dev.lkWindowEntry_lkShows.trans he
  have he1 := lkEntry_second (v := lkEntryWord k 2 slices) (op := 2) (Nat.le_refl 2) he
  have hturn : (d.lkShows k (lkEntryWord k 2 slices)).lkTurn k 0 2 = x.put (lkResultFld k 0) (if p then 0 else 0x011C) := by
    rw [Dev.lkTurn_insert he0, hx]
  rw [hturn] at he1
  rw [exec_lkInsert, lkRow_both hr hl h1 hgo hheld hop (Nat.le_refl 2)
    (by rw [Dev.lkRefusal_insert (hfop.trans hop), he0, hok, if_pos rfl]) (hs.trans (congrArg Fin.val hs3)), hturn,
    Dev.lkTurn_insert he1, hy]

theorem lkDeleteRow_both (hl : d.lockedWrite (R.LK_CMD k) (lkEntryWord k 3 slices) = false) (he : d.lkWindowEntry k = e)
    {a b : Option Nat} (ha : d.lkFind 0 e.mac e.vid = a) (hb : d.lkFind 1 e.mac e.vid = b) :
    exec (.lkDelete i k slices) s = .next (s.ends
      (((((d.lkShows k (lkEntryWord k 3 slices)).lkRemoved k 0 a).lkRemoved k 1 b).put (F.LK_CMD_GO k) 1).lkHold k)) := by
  obtain ⟨h1, hop, hs⟩ := newField_lkEntryWord (k := k) (op := 3) (by decide) slices.isLt
  obtain ⟨hfop, -⟩ := Dev.lkShows_fields (d := d) (v := lkEntryWord k 3 slices) k
  have he0 : (d.lkShows k (lkEntryWord k 3 slices)).lkWindowEntry k = e := Dev.lkWindowEntry_lkShows.trans he
  have he1 := lkEntry_second (v := lkEntryWord k 3 slices) (op := 3) (by decide) he
  have ha' := (Dev.lkFind_congr (Dev.lkSlice_lkShows (d := d) (k := k) (v := lkEntryWord k 3 slices) 0) e.mac e.vid).trans ha
  have hb' : ((d.lkShows k (lkEntryWord k 3 slices)).lkRemoved k 0 a).lkFind 1 e.mac e.vid = b :=
    (Dev.lkFind_congr ((Dev.lkSlice_lkRemoved (by decide)).trans (Dev.lkSlice_lkShows 1)) e.mac e.vid).trans hb
  rw [Dev.lkTurn_removed he0 ha'] at he1
  rw [exec_lkDelete, lkRow_both hr hl h1 hgo hheld hop (by decide)
    (Dev.lkRefusal_plain (hfop.trans hop) (.inr (.inr rfl))) (hs.trans (congrArg Fin.val hs3)),
    Dev.lkTurn_removed he0 ha', Dev.lkTurn_removed he1 hb']

end

end

end

/-- Settles O30: the command's turn in each slice, from what the window shows; the tables give what each turn finds. -/
theorem lookupWindow : Obligations.LookupWindow := by
  unfold Obligations.LookupWindow
  refine ⟨?found, ?notFound, ?next, ?noNext, ?new, ?replace, ?moved, ?full, ?forbidden, ?delete, ?flush, ?kind0, ?flushBoth,
    ?insertBoth, ?deleteBoth, ?busy, ?ignored⟩
  case found =>
    intro s i k j e d hr hl hgo hheld he hf
    rw [lkSearchRow hr hgo hheld hl he, hf, Option.elim_some, Dev.lkShows, lkSearchWord]
  case notFound =>
    intro s i k e d hr hl hgo hheld he hf
    rw [lkSearchRow hr hgo hheld hl he, hf, Option.elim_none, Dev.lkShows, lkSearchWord]
  case next =>
    intro s i k kind port x d hr hl hgo hheld hf
    rw [lkNextRow hr hgo hheld hl, Dev.lkAhead, hf, Option.elim_some, Dev.lkShows, lkNextWord]
  case noNext =>
    intro s i k kind port d hr hl hgo hheld hf
    rw [lkNextRow hr hgo hheld hl, Dev.lkAhead, hf, Option.elim_none, Dev.lkShows, lkNextWord]
  case new =>
    intro s i k j slices t e d hr hl hgo hheld ht he hok hf hfree
    have hsl : (d.lkShows k (lkEntryWord k 2 slices)).lkSlice t = d.lkSlice t := Dev.lkSlice_lkShows t
    have hins := Dev.lkInsert_free (j := j) ((Dev.lkFind_congr hsl e.mac e.vid).trans hf)
      (by rw [Dev.lkFree_congr hsl, Dev.lkFree_congr hsl]; exact hfree)
    have hold : (tget (d.lkSlice t).tab j).valid = false :=
      hfree.elim Dev.lkFree_valid fun h => Dev.lkFree_valid h.2
    have hnew : e.valid = true := by
      rw [← he]
      rfl
    refine ⟨((d.lkShows k (lkEntryWord k 2 slices)).lkSet t j e).put (lkResultFld k t) 0,
      by rw [lkInsertRow hr hgo hheld ht he hl hok, hins, if_pos rfl], ?_, fun m hm => ?_, fun m hm => ?_,
      Dev.get_lkResult (by decide), ?_⟩
    · rw [Dev.lkSlice_put, Dev.lkSlice_lkSet, Dev.lkSlice_lkPut_same]
      exact tget_tset_same _ _ _
    · rw [Dev.lkSlice_put, Dev.lkSlice_lkSet, Dev.lkSlice_lkPut_same, hsl]
      exact tget_tset_other _ _ _ _ hm
    · rw [Dev.lkSlice_put, Dev.lkSlice_lkSet, Dev.lkSlice_lkPut_other hm, Dev.lkSlice_lkShows]
    · have hstat := lkAside_stat t k
      rw [Dev.get_of_word (g := F.LK_STAT_ENTRIES t) (Dev.word_lkResult (.inl hstat)),
        Dev.entries_lkSet (by rw [hsl]; exact hold) hnew,
        Dev.get_of_word (g := F.LK_STAT_ENTRIES t) (Dev.word_lkShows hstat)]
  case replace =>
    intro s i k j slices t e d hr hl hgo hheld ht he hok hf
    have hsl : (d.lkShows k (lkEntryWord k 2 slices)).lkSlice t = d.lkSlice t := Dev.lkSlice_lkShows t
    rw [lkInsertRow hr hgo hheld ht he hl hok, Dev.lkInsert_found ((Dev.lkFind_congr hsl e.mac e.vid).trans hf), hsl,
      if_pos rfl, Dev.lkShows, lkEntryWord]
  case moved =>
    intro s i k path x slices t e d hr hl hgo hheld ht he hok hf h0 h1 hp hx
    have hsl : (d.lkShows k (lkEntryWord k 2 slices)).lkSlice t = d.lkSlice t := Dev.lkSlice_lkShows t
    rw [lkInsertRow hr hgo hheld ht he hl hok, Dev.lkInsert_moved ((Dev.lkFind_congr hsl e.mac e.vid).trans hf)
      ((Dev.lkFree_congr hsl _).trans h0) ((Dev.lkFree_congr hsl _).trans h1) ((Dev.lkPath_congr hsl _ _ _).trans hp) hx,
      if_pos rfl, Dev.lkShows, lkEntryWord]
  case full =>
    intro s i k slices t e d hr hl hgo hheld ht he hok hf h0 h1 hp
    have hsl : (d.lkShows k (lkEntryWord k 2 slices)).lkSlice t = d.lkSlice t := Dev.lkSlice_lkShows t
    rw [lkInsertRow hr hgo hheld ht he hl hok, Dev.lkInsert_full ((Dev.lkFind_congr hsl e.mac e.vid).trans hf)
      ((Dev.lkFree_congr hsl _).trans h0) ((Dev.lkFree_congr hsl _).trans h1) ((Dev.lkPath_congr hsl _ _ _).trans hp),
      if_neg Bool.false_ne_true, Dev.lkShows, lkEntryWord]
  case forbidden =>
    intro s i k slices t e d hr hl hgo hheld ht he hok
    rw [lkInsertRow_forbidden hr hgo hheld ht he hl hok, Dev.lkShows, lkEntryWord]
  case delete =>
    intro s i k slices t e d hr hl hgo hheld ht he
    rw [lkDeleteRow hr hgo hheld ht he hl, Dev.lkShows, lkEntryWord]
  case flush =>
    intro s i k slices kind port t d hr hl hgo hheld ht hk
    rw [lkFlushRow hr hgo hheld ht hl hk, Dev.lkShows, lkFlushWord]
  case kind0 =>
    intro s i k slices kind port t d hr hl hgo hheld ht hk
    rw [lkFlushRow_refused hr hgo hheld ht hl hk, Dev.lkShows, lkFlushWord]
  case flushBoth =>
    intro s i k slices kind port d hr hl hgo hheld hs hk
    rw [lkFlushRow_both hr hgo hheld hs hl hk, Dev.lkShows, lkFlushWord]
  case insertBoth =>
    intro s i k slices e d x y p q hr hl hgo hheld hs he hok hx hy
    rw [lkInsertRow_both hr hgo hheld hs hl he hok hx hy]
  case deleteBoth =>
    intro s i k slices e a b d hr hl hgo hheld hs he ha hb
    rw [lkDeleteRow_both hr hgo hheld hs hl he ha hb, Dev.lkRemoved, Dev.lkRemoved, Dev.lkShows, lkEntryWord]
  case busy =>
    intro s i k slices kind port d hr hl1 hl2 hl3 hl4 hl5 hheld hgo
    obtain ⟨w1, -⟩ := newField_lkSearchWord (k := k)
    obtain ⟨w2, -⟩ := newField_lkNextWord (k := k) kind.isLt port.isLt
    obtain ⟨w3, -⟩ := newField_lkEntryWord (k := k) (op := 2) (by decide) slices.isLt
    obtain ⟨w4, -⟩ := newField_lkEntryWord (k := k) (op := 3) (by decide) slices.isLt
    obtain ⟨w5, -⟩ := newField_lkFlushWord (k := k) slices.isLt kind.isLt port.isLt
    exact ⟨by rw [exec_lkSearch, lkRow_busy (v := lkSearchWord k) hr hl1 w1 hheld hgo, lkSearchWord],
      by rw [exec_lkNext, lkRow_busy (v := lkNextWord k kind port) hr hl2 w2 hheld hgo, lkNextWord],
      by rw [exec_lkInsert, lkRow_busy (v := lkEntryWord k 2 slices) hr hl3 w3 hheld hgo, lkEntryWord],
      by rw [exec_lkDelete, lkRow_busy (v := lkEntryWord k 3 slices) hr hl4 w4 hheld hgo, lkEntryWord],
      by rw [exec_lkFlushPort, lkRow_busy (v := lkFlushWord k slices kind port) hr hl5 w5 hheld hgo, lkFlushWord]⟩
  case ignored =>
    intro s i k slices kind port d hr hl1 hl2 hl3 hl4 hl5 hgo
    obtain ⟨w1, -⟩ := newField_lkSearchWord (k := k)
    obtain ⟨w2, -⟩ := newField_lkNextWord (k := k) kind.isLt port.isLt
    obtain ⟨w3, -⟩ := newField_lkEntryWord (k := k) (op := 2) (by decide) slices.isLt
    obtain ⟨w4, -⟩ := newField_lkEntryWord (k := k) (op := 3) (by decide) slices.isLt
    obtain ⟨w5, -⟩ := newField_lkFlushWord (k := k) slices.isLt kind.isLt port.isLt
    exact ⟨by rw [exec_lkSearch, lkRow_ignored (v := lkSearchWord k) hr hl1 w1 hgo],
      by rw [exec_lkNext, lkRow_ignored (v := lkNextWord k kind port) hr hl2 w2 hgo],
      by rw [exec_lkInsert, lkRow_ignored (v := lkEntryWord k 2 slices) hr hl3 w3 hgo],
      by rw [exec_lkDelete, lkRow_ignored (v := lkEntryWord k 3 slices) hr hl4 w4 hgo],
      by rw [exec_lkFlushPort, lkRow_ignored (v := lkFlushWord k slices kind port) hr hl5 w5 hgo]⟩

end Sys2Proof.Machine
end

section
/-! GX.EXT in a timeout `Instance` (R117): what TO_POL makes of a source. -/

namespace Sys2Proof.Machine
open Sys2Proof

section
variable {w0 w1 : Nat}

theorem timeoutValue_hold (h : sigPol w0 = 0) : timeoutValue w0 w1 = (none, 3) := by
  rw [timeoutValue, h]
  rfl

theorem timeoutValue_subst (h : sigPol w0 = 1) :
    timeoutValue w0 w1 = (some (unsignedOf (sigLen w0) (signedOf 16 (bitsOf w1 16 16))), 0) := by
  rw [timeoutValue, h]
  rfl

theorem timeoutValue_na (h : sigPol w0 = 2) : timeoutValue w0 w1 = (none, 2) := by
  rw [timeoutValue, h]
  rfl

theorem timeoutValue_inv (h : sigPol w0 = 3) : timeoutValue w0 w1 = (none, 1) := by
  rw [timeoutValue, h]
  rfl

end

/-- R117: the value register that a source with the words w0 and w1 gives in a timeout `Instance`. -/
def timeoutReg (w0 w1 val cls : Nat) : VReg :=
  { val, cls, upd := sigUpd w0, signed := sigSigned w0, lenM1 := sigLen w0 - 1, xfm := bitsOf w1 0 16 }

section
variable {d : Dev} {t pc rd k vn w0 w1 cls : Nat} {x : Instance} {c : ThreadCtx}

/-- R117: what a value register written and the instruction completed leave of the thread. -/
theorem Dev.putV_gxDone_reads (v : VReg) (r : Nat) : tget (((d.putV t vn v).gxDone t rd r).thr t).v vn = v ∧
    (((d.putV t vn v).gxDone t rd r).thr t).pc = ((d.thr t).pc + 4) % 2 ^ 32 ∧
    (((d.putV t vn v).gxDone t rd r).thr t).st = .ready := by
  obtain ⟨hv, -, hpc, hst, -⟩ := Dev.gxDone_reads (d := d.putV t vn v) (t := t) (rd := rd) (v := r)
  obtain ⟨hput, hpc', -⟩ := Dev.putV_reads (d := d) (t := t) (vd := vn) (x := v)
  exact ⟨by rw [hv, hput], by rw [hpc, hpc'], hst⟩

section
variable (h0 : dreg c k 0 = w0) (h1 : dreg c k 1 = w1) (ht : x.timeout = true)
  (hf : fieldFits (sigBig w0) (sigStart w0) (sigLen w0) x.fits = true)
include h0 h1 ht hf

theorem Dev.extSource_stated {r : Nat} (hv : timeoutValue w0 w1 = (some r, cls)) : d.extSource t rd k vn c x =
    (d.putV t vn (timeoutReg w0 w1 (extended (sigSigned w0) (sigLen w0) r) cls)).gxDone t rd 0 := by
  unfold Dev.extSource
  dsimp only
  rw [h0, h1, if_pos hf, ht, if_pos rfl, hv]
  rfl

theorem Dev.extSource_unstated (hv : timeoutValue w0 w1 = (none, cls)) : d.extSource t rd k vn c x =
    ((d.free (2 ^ 64)).2.putV t vn (timeoutReg w0 w1 (d.free (2 ^ 64)).1 cls)).gxDone t rd 0 := by
  unfold Dev.extSource
  dsimp only
  rw [h0, h1, if_pos hf, ht, if_pos rfl, hv]
  rfl

end

/-- R117: the input window of a timeout `Instance` is not read. -/
theorem Dev.extSource_input (ht : x.timeout = true) (input : Nat) :
    d.extSource t rd k vn c { x with input } = d.extSource t rd k vn c x := by
  unfold Dev.extSource
  dsimp only
  rw [ht, if_pos rfl, if_pos rfl]

end

section
variable {s : State} {t : Fin 128} {pc : Word} {rd : Fin 32} {k v : Fin 4} {x : Instance} {w0 w1 cls : Nat}
  (h : s.dev.gxReady t = true) (hi : (s.dev.thr t).inst = some x) (ha : x.aborted = false) (ht : x.timeout = true)
  (h0 : dreg (s.dev.thr t) k 0 = w0) (h1 : dreg (s.dev.thr t) k 1 = w1) (hs : sigSink w0 = false)
  (hf : fieldFits (sigBig w0) (sigStart w0) (sigLen w0) x.fits = true)
include h hi ha ht h0 h1 hs hf

/-- R117: a policy that states a value gives it, sign-extended or truncated to the field. -/
theorem exec_gxExt_stated {r : Nat} (hv : timeoutValue w0 w1 = (some r, cls)) :
    ∃ d' : Dev, exec (.gxExt t pc rd k v) s = .next (s.ends d') ∧ (tget (d'.thr t).v v).cls = cls ∧
      (tget (d'.thr t).v v).val = extended (sigSigned w0) (sigLen w0) r ∧
      (d'.thr t).pc = (pc.toNat + 4) % 2 ^ 32 ∧ (d'.thr t).st = .ready := by
  obtain ⟨hreg, hpc, hst⟩ := Dev.putV_gxDone_reads (d := s.dev.started t pc.toNat) (t := t) (rd := rd) (vn := v)
    (timeoutReg w0 w1 (extended (sigSigned w0) (sigLen w0) r) cls) 0
  refine ⟨_, by rw [exec_gxExt, Dev.gxExt_source h hi ha (h0 ▸ hs), 
    Dev.extSource_stated ((dreg_at _ _ _ _).trans h0) ((dreg_at _ _ _ _).trans h1) ht hf hv], ?_, ?_, ?_, hst⟩
  · rw [hreg, timeoutReg]
  · rw [hreg, timeoutReg]
  · rw [hpc, Dev.started_reads.1]

/-- R117: a policy that states no value gives its class. -/
theorem exec_gxExt_unstated (hv : timeoutValue w0 w1 = (none, cls)) :
    ∃ d' : Dev, exec (.gxExt t pc rd k v) s = .next (s.ends d') ∧ (tget (d'.thr t).v v).cls = cls ∧
      (d'.thr t).pc = (pc.toNat + 4) % 2 ^ 32 ∧ (d'.thr t).st = .ready := by
  obtain ⟨hreg, hpc, hst⟩ := Dev.putV_gxDone_reads (d := ((s.dev.started t pc.toNat).free (2 ^ 64)).2) (t := t) (rd := rd)
    (vn := v) (timeoutReg w0 w1 ((s.dev.started t pc.toNat).free (2 ^ 64)).1 cls) 0
  refine ⟨_, by rw [exec_gxExt, Dev.gxExt_source h hi ha (h0 ▸ hs), 
    Dev.extSource_unstated ((dreg_at _ _ _ _).trans h0) ((dreg_at _ _ _ _).trans h1) ht hf hv], ?_, ?_, hst⟩
  · rw [hreg, timeoutReg]
  · rw [hpc, (Dev.free_beside _ _).1, Dev.started_reads.1]

end

/-- Settles O58: TO_POL states the value and the class, and nothing of it comes from the input window. -/
theorem timeoutExtraction : Obligations.TimeoutExtraction := by
  unfold Obligations.TimeoutExtraction
  refine ⟨?hold, ?subst, ?na, ?inv, ?window⟩
  case hold =>
    intro s t pc rd k v x w0 w1 h hi ha ht h0 h1 hs hf hp
    exact exec_gxExt_unstated h hi ha ht h0 h1 hs hf (timeoutValue_hold hp)
  case subst =>
    intro s t pc rd k v x w0 w1 h hi ha ht h0 h1 hs hf hp
    exact exec_gxExt_stated h hi ha ht h0 h1 hs hf (timeoutValue_subst hp)
  case na =>
    intro s t pc rd k v x w0 w1 h hi ha ht h0 h1 hs hf hp
    exact exec_gxExt_unstated h hi ha ht h0 h1 hs hf (timeoutValue_na hp)
  case inv =>
    intro s t pc rd k v x w0 w1 h hi ha ht h0 h1 hs hf hp
    exact exec_gxExt_unstated h hi ha ht h0 h1 hs hf (timeoutValue_inv hp)
  case window =>
    intro c x input t rd k v d ht
    exact Dev.extSource_input ht input

end Sys2Proof.Machine
end

section
/-! What the end of an `Instance` leaves as it is (R93, R94, R112, R120): registers, the Timeline and Grove's tables. -/

namespace Sys2Proof.Machine
open Sys2Proof

/-! ### The input of an `Instance` is released (R93, R112, R137, R186) -/

/-- From `d` to `e` no register below the pages of the CAN channels changes, and nothing of the Timeline and of Grove. -/
structure Dev.beyondGrove (d e : Dev) : Prop where
  word : ∀ a, a < 0x1000000 → e.word a = d.word a
  tl : e.tl = d.tl
  gv : e.gv = d.gv

namespace Dev.beyondGrove
variable {d e f : Dev}

theorem refl (d : Dev) : d.beyondGrove d := ⟨fun _ _ => rfl, rfl, rfl⟩

theorem trans (h : d.beyondGrove e) (k : e.beyondGrove f) : d.beyondGrove f :=
  ⟨fun a ha => (k.word a ha).trans (h.word a ha), k.tl.trans h.tl, k.gv.trans h.gv⟩

/-- A change beside the registers, the Timeline and Grove. -/
theorem of_eq (hr : e.regs = d.regs) (ht : e.tl = d.tl) (hg : e.gv = d.gv) : d.beyondGrove e :=
  ⟨fun a _ => by rw [Dev.word, Dev.word, hr], ht, hg⟩

theorem put (d : Dev) (g : Fld) (v : Nat) (hg : 0x1000000 ≤ g.addr) : d.beyondGrove (d.put g v) :=
  ⟨fun a ha => d.word_put_other g v a (by omega), rfl, rfl⟩

theorem raise (d : Dev) (pg : Page) (bit : Nat) (h : 0x1000000 ≤ pageBase pg) : d.beyondGrove (d.raise pg bit) :=
  ⟨fun _ ha => d.word_raise_other pg bit (by omega), d.raise_tl pg bit, d.raise_gv pg bit⟩

theorem foldl {α : Type} (step : Dev → α → Dev) (l : List α) (h : ∀ (e : Dev) x, e.beyondGrove (step e x)) (d : Dev) :
    d.beyondGrove (l.foldl step d) :=
  List.foldlRecOn (motive := fun e => d.beyondGrove e) _ _ (refl d) fun e he x _ => he.trans (h e x)

/-! #### Flowstone FIFOs -/

theorem fifoStat_ge (q : FifoId) : 0x1000000 ≤ fifoStat q := by
  cases q with
  | chan c f =>
    simp only [fifoStat, R.FS_STAT]
    omega
  | learn s =>
    simp only [fifoStat, R.LQ_STAT]
    omega

theorem fsDrop (d : Dev) (q : FifoId) (n : Nat) : d.beyondGrove (d.fsDrop q n) := by
  cases q with
  | chan c f => exact of_eq rfl rfl rfl
  | learn s => exact of_eq rfl rfl rfl

theorem fsSetFill (d : Dev) (q : FifoId) (fill : Nat) : d.beyondGrove (d.fsSetFill q fill) :=
  ((put d (fsFill q) _ (fifoStat_ge q)).trans (put _ (fsFull q) _ (fifoStat_ge q))).trans
    (put _ (fsFalling q) _ (fifoStat_ge q))

theorem fsFree (d : Dev) (q : FifoId) (n : Nat) : d.beyondGrove (d.fsFree q n) := by
  have hrpos := (fsDrop d q n).trans (put _ (fsRpos q) (d.get (fsRpos q) - n) (fifoStat_ge q))
  unfold Dev.fsFree
  dsimp only
  refine trans ?_ (fsSetFill _ _ _)
  split
  · split
    · exact (hrpos.trans (put _ (fsMarkValid q) _ (fifoStat_ge q))).trans (put _ (fsMark q) _ (fifoStat_ge q))
    · exact hrpos.trans (put _ (fsMark q) _ (fifoStat_ge q))
  · exact hrpos

theorem releaseItem (d : Dev) (it : SrcItem) : d.beyondGrove (d.releaseItem it) := by
  unfold Dev.releaseItem
  split
  · exact fsFree d _ 1
  · exact refl d

/-! #### Gallery copies, and the flow control that their cells release -/

theorem ifcStat_ge (p : Nat) : 0x1000000 ≤ R.SW_IFC_STAT p := by
  simp only [R.SW_IFC_STAT]
  omega

theorem fcStat_ge (p : Nat) : 0x1000000 ≤ R.FC_STAT p := by
  simp only [R.FC_STAT]
  omega

theorem modPort (d : Dev) (p : Nat) (g : PortSt → PortSt) : d.beyondGrove (d.modPort p g) := of_eq rfl rfl rfl

theorem sendCtl (d : Dev) (p : Nat) : d.beyondGrove (d.sendCtl p) := by
  refine (modPort d p _).trans (foldl _ _ (fun e x => ?_) _)
  have hsent : e.beyondGrove ((e.emit (.wire p x.2)).count p cTxPause) := of_eq rfl rfl rfl
  dsimp only
  split
  · exact hsent.trans (raise _ (.ep p 1) 2 (by simp only [pageBase]; omega))
  · exact hsent

theorem leaveLpi (d : Dev) (p : Nat) : d.beyondGrove (d.leaveLpi p) := by
  unfold Dev.leaveLpi
  split
  · exact (put d (F.EP_LINK_TX_LPI p) _ (by simp only [F.EP_LINK_TX_LPI, R.EP_LINK]; omega)).trans (modPort _ p _)
  · exact refl d

theorem dueCtl (d : Dev) (p : Nat) (xoff : Bool) (l : List Byte) : d.beyondGrove (d.dueCtl p xoff l) := by
  unfold Dev.dueCtl
  dsimp only
  split
  · exact ((modPort d p _).trans (leaveLpi _ p)).trans (sendCtl _ p)
  · exact (modPort d p _).trans (leaveLpi _ p)

theorem signal (d : Dev) (p c : Nat) (xoff : Bool) : d.beyondGrove (d.signal p c xoff) := by
  unfold Dev.signal
  dsimp only
  have hfree : d.beyondGrove (d.freeBytes 6).2 := of_eq rfl rfl rfl
  split
  · exact hfree.trans (dueCtl _ p xoff _)
  · split
    · exact hfree.trans (dueCtl _ p xoff _)
    · exact refl d

theorem sendXoff (d : Dev) (p c : Nat) : d.beyondGrove (d.sendXoff p c) := by
  unfold Dev.sendXoff
  dsimp only
  split
  · exact ((modPort d p _).trans (put _ (F.FC_STAT_XOFF_SENT p) _ (fcStat_ge p))).trans (signal _ p c true)
  · exact modPort d p _

theorem sendXon (d : Dev) (p c : Nat) : d.beyondGrove (d.sendXon p c) := by
  unfold Dev.sendXon
  dsimp only
  generalize (if d.get (F.FC_CTRL_MODE p) = 1 then d.get (F.SW_IFC_STAT_XOFF p)
    else clrBit (d.get (F.FC_STAT_XOFF_SENT p)) c) = left
  split
  · split
    · exact (put d (F.FC_STAT_XOFF_SENT p) _ (fcStat_ge p)).trans (signal _ p c false)
    · exact put d (F.FC_STAT_XOFF_SENT p) _ (fcStat_ge p)
  · exact refl d

theorem xoffCheck (d : Dev) (p c : Nat) : d.beyondGrove (d.xoffCheck p c) := by
  unfold Dev.xoffCheck
  dsimp only
  split
  · exact (put d (F.SW_IFC_STAT_XOFF p) _ (ifcStat_ge p)).trans (sendXoff _ p c)
  · split
    · exact (put d (F.SW_IFC_STAT_XOFF p) _ (ifcStat_ge p)).trans (sendXon _ p c)
    · exact refl d

theorem giveCells (d : Dev) (n : Nat) : d.beyondGrove (d.giveCells n) := by
  have hguard : d.beyondGrove { d with sw := { d.sw with guard := d.sw.guard - min d.sw.guard n } } := of_eq rfl rfl rfl
  exact hguard.trans (put _ F.SW_GAL_STAT_FREE _ (by decide))

theorem releaseCopy (d : Dev) (id : Nat) : d.beyondGrove (d.releaseCopy id) := by
  unfold Dev.releaseCopy
  split
  · exact refl d
  next g _ =>
    split
    · exact of_eq rfl rfl rfl
    · have hout : d.beyondGrove { d with sw := { d.sw with frames := d.sw.frames.filter (fun x => x.1 != id) } } :=
        of_eq rfl rfl rfl
      dsimp only
      refine hout.trans (trans ?_ (xoffCheck _ g.port g.cls))
      split
      · exact put _ (F.SW_IFC_STAT_HEAD_USED g.port) _ (ifcStat_ge g.port)
      · exact giveCells _ g.cells

theorem releaseFrame (d : Dev) (frame : Option Nat) : d.beyondGrove (d.releaseFrame frame) := by
  unfold Dev.releaseFrame
  split
  · exact releaseCopy d _
  · exact refl d

end Dev.beyondGrove

/-! ### An `Instance` ends (R93, R101) -/

section
variable (d : Dev) (src serial : Nat)

/-- R93: what leaves the order of a source changes that order, and frees what held it. -/
theorem Dev.releaseEnded_beyond :
    ∃ srcs, Dev.beyondGrove { d with gv := { d.gv with srcs } } (d.releaseEnded src) :=
  ⟨_, Dev.beyondGrove.foldl _ _ Dev.beyondGrove.releaseItem _⟩

/-- R93: an `Instance` that ends changes the order of its source, and releases what that order held back. -/
theorem Dev.endItem_beyond : ∃ srcs, Dev.beyondGrove { d with gv := { d.gv with srcs } } (d.endItem src serial) := by
  obtain ⟨srcs, h⟩ := Dev.releaseEnded_beyond { d with gv := { d.gv with srcs := tmod d.gv.srcs src (fun l =>
    l.map (fun it => if it.serial = serial then { it with ended := true, frame := none } else it)) } } src
  exact ⟨srcs, h.trans (Dev.beyondGrove.releaseFrame _ _)⟩

theorem Dev.word_endItem {a : Nat} (ha : a < 0x1000000) : (d.endItem src serial).word a = d.word a := by
  obtain ⟨_, h⟩ := d.endItem_beyond src serial
  exact h.word a ha

theorem Dev.endItem_tl : (d.endItem src serial).tl = d.tl := by
  obtain ⟨_, h⟩ := d.endItem_beyond src serial
  exact h.tl

/-- R93: of Grove the order of the source alone changes. -/
theorem Dev.endItem_gv : ∃ srcs, (d.endItem src serial).gv = { d.gv with srcs } := by
  obtain ⟨srcs, h⟩ := d.endItem_beyond src serial
  exact ⟨srcs, h.gv⟩

theorem Dev.thr_endItem (k : Nat) : (d.endItem src serial).thr k = d.thr k := by
  obtain ⟨_, h⟩ := d.endItem_gv src serial
  rw [Dev.thr, h, Dev.thr]

end

end Sys2Proof.Machine
end

section
/-! What an aborted `Instance` leaves as it is (R94, R113, R120, R121): the registers of the engines, the Timeline, and
the threads that hold no `Instance`. -/

namespace Sys2Proof.Machine
open Sys2Proof

/-- Registers of Grove's pages 1 and above, the counters of instances excepted. -/
def engineBody (a : Nat) : Prop := 0x801000 ≤ a ∧ a < 0x1000000 ∧ a % 0x1000 ≠ 0x48

/-- R113: the device whose thread t holds no `Instance` and no stage. -/
def Dev.withoutInst (d : Dev) (t : Nat) : Dev := d.modThr t (fun c => { c with inst := none, stage := {} })

/-- From `d` to `e` the registers of the engines and the Timeline stay, the initial test goes on as it does, and no
thread comes to hold an `Instance`. -/
structure Dev.sparesEngines (d e : Dev) : Prop where
  word : ∀ a, engineBody a → e.word a = d.word a
  tl : e.tl = d.tl
  initTest : e.gv.initTest = d.gv.initTest
  idle : ∀ k, (d.thr k).inst = none → (e.thr k).inst = none

namespace Dev.sparesEngines
variable {d e f : Dev}

theorem refl (d : Dev) : d.sparesEngines d := ⟨fun _ _ => rfl, rfl, rfl, fun _ h => h⟩

theorem trans (h : d.sparesEngines e) (k : e.sparesEngines f) : d.sparesEngines f :=
  ⟨fun a ha => (k.word a ha).trans (h.word a ha), k.tl.trans h.tl, k.initTest.trans h.initTest,
    fun n hn => k.idle n (h.idle n hn)⟩

theorem get (h : d.sparesEngines e) {g : Fld} (hg : engineBody g.addr) : e.get g = d.get g :=
  Dev.get_of_word (h.word _ hg)

theorem flag (h : d.sparesEngines e) {g : Fld} (hg : engineBody g.addr) : e.flag g = d.flag g :=
  Dev.flag_of_word (h.word _ hg)

theorem baseNs (h : d.sparesEngines e) : e.baseNs = d.baseNs := by rw [Dev.baseNs, h.tl, Dev.baseNs]

theorem thenOnly {p : Prop} [Decidable p] (h : d.sparesEngines e) : d.sparesEngines (if p then e else d) := by
  split
  · exact h
  · exact refl d

/-- A change beside the registers, the Timeline and Grove's threads and tests. -/
theorem of_eq (hr : e.regs = d.regs) (ht : e.tl = d.tl) (hi : e.gv.initTest = d.gv.initTest)
    (hthr : e.gv.thr = d.gv.thr) : d.sparesEngines e :=
  ⟨fun a _ => by rw [Dev.word, Dev.word, hr], ht, hi, fun k h => by rwa [Dev.thr, hthr]⟩

theorem put (d : Dev) (g : Fld) (v : Nat) (hg : ¬engineBody g.addr) : d.sparesEngines (d.put g v) :=
  ⟨fun a ha => d.word_put_other g v a (fun h => hg (h ▸ ha)), rfl, rfl, fun _ h => h⟩

theorem bump (d : Dev) (g : Fld) (hg : ¬engineBody g.addr) : d.sparesEngines (d.bump g) := put d g _ hg

theorem raise (d : Dev) (bit : Nat) : d.sparesEngines (d.raise (.gv 0) bit) := by
  refine ⟨fun a ha => d.word_raise_other _ bit (fun h => absurd ha ?_), d.raise_tl _ bit, ?_, fun k hk => ?_⟩
  · subst h
    simp only [engineBody, pageBase]
    omega
  · rw [Dev.raise_gv]
  · rwa [Dev.thr, Dev.raise_gv]

theorem modThr (d : Dev) (t : Nat) (g : ThreadCtx → ThreadCtx) (hg : ∀ c, c.inst = none → (g c).inst = none) :
    d.sparesEngines (d.modThr t g) := by
  refine ⟨fun _ _ => rfl, rfl, rfl, fun k hk => ?_⟩
  by_cases h : k = t
  · subst h
    rw [Dev.thr_modThr_same]
    exact hg _ hk
  · rwa [Dev.thr_modThr_other h]

theorem modInst (d : Dev) (t : Nat) (g : Instance → Instance) : d.sparesEngines (d.modInst t g) :=
  modThr d t _ fun c hc => by rw [hc, Option.map_none]

theorem gxDone (d : Dev) (t rd v : Nat) : d.sparesEngines (d.gxDone t rd v) :=
  modThr d t _ fun c hc => (setX_beside c rd v).1.trans hc

/-! #### Ends of instances -/

theorem endItem (d : Dev) (src serial : Nat) : d.sparesEngines (d.endItem src serial) := by
  obtain ⟨_, hgv⟩ := d.endItem_gv src serial
  exact ⟨fun a ha => d.word_endItem src serial ha.2.1, d.endItem_tl src serial, by rw [hgv],
    fun k hk => by rwa [d.thr_endItem]⟩

theorem gvEvent (d : Dev) (q type source data stamp announce : Nat) :
    d.sparesEngines (d.gvEvent q type source data stamp announce) := by
  have hqueue : ∀ l, d.sparesEngines (d.setQueue (81 + q) l) := fun l => of_eq rfl rfl rfl rfl
  unfold Dev.gvEvent
  dsimp only
  split
  · exact refl d
  · split
    · exact (hqueue _).trans (bump _ F.GV_EVT_COALESCED_COUNT (by simp only [engineBody]; decide))
    · exact hqueue _

theorem deviceEvent (d : Dev) (type source data stamp announce : Nat) :
    d.sparesEngines (d.deviceEvent type source data stamp announce) := gvEvent d _ type source data stamp announce

theorem report (d : Dev) (source data : Nat) : d.sparesEngines (d.report source data) := of_eq rfl rfl rfl rfl

theorem rxEvents (d : Dev) (x : Instance) (trig : List Nat) : d.sparesEngines (d.rxEvents x trig) :=
  (thenOnly (gvEvent _ _ _ _ _ _ _)).trans (thenOnly (gvEvent _ _ _ _ _ _ _))

theorem leave (d : Dev) (t rd : Nat) : d.sparesEngines (d.leave t rd) := by
  have hfree : d.sparesEngines (d.free (2 ^ 32)).2 := of_eq rfl rfl rfl rfl
  have hcount : ¬engineBody (F.ENG_INSTANCES_COUNT (t / 8)).addr := by
    simp only [engineBody, F.ENG_INSTANCES_COUNT, R.ENG_INSTANCES]
    omega
  exact ((hfree.trans (modThr _ t _ fun _ _ => rfl)).trans (bump _ _ hcount)).trans (gxDone _ t rd _)

theorem freePartner (d : Dev) (x : Instance) : d.sparesEngines (d.freePartner x) := by
  unfold Dev.freePartner
  split
  · exact thenOnly (leave d _ _)
  · exact refl d

theorem failPartner (d : Dev) (x : Instance) : d.sparesEngines (d.failPartner x) := by
  unfold Dev.failPartner
  refine thenOnly ?_
  dsimp only
  split
  · exact (modInst d _ _).trans (gxDone _ _ _ 2)
  · exact modInst d _ _

theorem mismatch (d : Dev) (t : Nat) (x : Instance) : d.sparesEngines (d.mismatch t x) := by
  have hcount : ¬engineBody F.GV_CMP_FAIL_COUNT.addr := by simp only [engineBody]; decide
  unfold Dev.mismatch
  dsimp only
  split
  · exact refl d
  · refine trans ?_ (endItem _ x.src x.serial)
    have hcounted := (bump d _ hcount).trans (raise _ 1)
    exact ((((hcounted.trans (deviceEvent _ _ _ _ _ _)).trans (report _ 4 _)).trans (rxEvents _ x [])).trans
      (modInst _ t _)).trans (thenOnly (modInst _ x.partner _))

/-- R113, R121, R124: an `Instance` that is aborted leaves its thread at once. -/
theorem abortInst_held {d : Dev} {t : Nat} {x : Instance} (hi : (d.thr t).inst = some x) :
    (d.withoutInst t).sparesEngines (d.abortInst t) := by
  unfold Dev.abortInst
  rw [hi]
  dsimp only
  rw [← Dev.withoutInst]
  split
  · split
    · split
      · exact (mismatch _ t x).trans (freePartner _ x)
      · exact failPartner _ x
    · exact mismatch _ t x
  · exact (rxEvents _ x []).trans (endItem _ x.src x.serial)

theorem withoutInst (d : Dev) (t : Nat) : d.sparesEngines (d.withoutInst t) := modThr d t _ fun _ _ => rfl

theorem abortInst (d : Dev) (t : Nat) : d.sparesEngines (d.abortInst t) := by
  cases hi : (d.thr t).inst with
  | none =>
    rw [Dev.abortInst, hi]
    exact refl d
  | some x => exact (withoutInst d t).trans (abortInst_held hi)

end Dev.sparesEngines

/-- R113, R121, R124: a thread whose `Instance` is aborted holds none. -/
theorem Dev.abortInst_inst (d : Dev) (t : Nat) : ((d.abortInst t).thr t).inst = none := by
  cases hi : (d.thr t).inst with
  | none => exact (Dev.sparesEngines.abortInst d t).idle t hi
  | some x => exact (Dev.sparesEngines.abortInst_held hi).idle t (by rw [Dev.withoutInst, Dev.thr_modThr_same])

end Sys2Proof.Machine
end

section
/-! The Xgrove instructions that take, stage and end instances (R112, R116, R118, R120). -/

namespace Sys2Proof.Machine
open Sys2Proof

/-! ### What an instruction finds of the device (R116) -/

section
variable {d : Dev} {t pc : Nat}

theorem Dev.serving_started (e : Nat) : (d.started t pc).serving e = d.serving e := rfl

theorem Dev.resting_started (e : Nat) : (d.started t pc).resting e = d.resting e := rfl

theorem Dev.pdu_started : (d.started t pc).pdu = d.pdu := rfl

theorem Dev.staged_started : (d.started t pc).staged = d.staged := Dev.staged_modThr

theorem Dev.thr_started_same : (d.started t pc).thr t = (d.thr t).atPc pc := Dev.thr_modThr_same

theorem Dev.thr_started_other {k : Nat} (h : k ≠ t) : (d.started t pc).thr k = d.thr k := Dev.thr_modThr_other h

theorem Dev.baseNs_started : (d.started t pc).baseNs = d.baseNs := Dev.baseNs_modThr

theorem atPc_inst (c : ThreadCtx) (pc : Nat) : (c.atPc pc).inst = c.inst := rfl

theorem atPc_wake (c : ThreadCtx) (pc : Nat) : (c.atPc pc).wake = c.wake := rfl

end

/-! ### GX.PDUGET (R112, R116) -/

section
variable {d : Dev} {t pc rd t₂ : Nat} {x : Instance} (h : d.gxReady t = true)
include h

theorem Dev.gxPduget_held {block : Bool} (hi : (d.thr t).inst = some x) :
    d.gxPduget t pc rd block t₂ = (d.started t pc).threadFault t 0x11 pc := by
  unfold Dev.gxPduget
  rw [Dev.withThread_ready h]
  dsimp only
  rw [atPc_inst, hi, Option.isSome_some, if_pos rfl]

section
variable (hi : (d.thr t).inst = none)
include hi

theorem Dev.gxPduget_blocks : d.gxPduget t pc rd true t₂ =
    (d.started t pc).modThr t (fun c => { c with st := .awaitWork rd }) := by
  unfold Dev.gxPduget
  rw [Dev.withThread_ready h]
  dsimp only
  rw [atPc_inst, hi, Option.isSome_none, if_neg Bool.false_ne_true, if_pos rfl]

/-- R116: one that does not block takes what its engine may take, or reports that nothing waits. -/
theorem Dev.gxPduget_polls {e : Dev}
    (he : (if d.serving (t / 8) then (d.started t pc).fillArb.handTo t t₂ rd else d.started t pc) = e) :
    d.gxPduget t pc rd false t₂ = if (e.thr t).inst.isSome then e else e.gxDone t rd 0x80000000 := by
  unfold Dev.gxPduget
  rw [Dev.withThread_ready h]
  dsimp only
  rw [atPc_inst, hi, Option.isSome_none, if_neg Bool.false_ne_true, if_neg Bool.false_ne_true, Dev.serving_started, he]
  rfl

theorem Dev.gxPduget_resting (hs : d.serving (t / 8) = false) :
    d.gxPduget t pc rd false t₂ = (d.started t pc).gxDone t rd 0x80000000 := by
  rw [Dev.gxPduget_polls h hi (by rw [hs, if_neg Bool.false_ne_true]), Dev.thr_started_same, atPc_inst, hi,
    Option.isSome_none, if_neg Bool.false_ne_true]

theorem Dev.gxPduget_takes (hs : d.serving (t / 8) = true) (ha : d.gv.arb = some x) (ht : x.timeout = false)
    (hp : x.paired = false) : d.gxPduget t pc rd false t₂ = (d.started t pc).arbTaken.deliver t 0 rd x := by
  have ha' : (d.started t pc).gv.arb = some x := ha
  have hto : (d.started t pc).handTo t t₂ rd = (d.started t pc).arbTaken.deliver t 0 rd x := by
    rw [Dev.handTo, ha']
    dsimp only
    rw [hp, if_neg Bool.false_ne_true, Dev.arbTaken]
  obtain ⟨hinst, -⟩ := handed_reads ((d.started t pc).arbTaken.thr t) (d.started t pc).arbTaken.baseNs 0 rd x
  rw [Dev.gxPduget_polls h hi (by rw [hs, if_pos rfl, Dev.fillArb_holds ha' ht, hto]), Dev.thr_deliver_same, hinst,
    Option.isSome_some, if_pos rfl]

end

end

/-! ### Staging (R92, R116, R118) -/

/-- R118: stage s written back to thread t. -/
def Dev.stageKept (d : Dev) (t : Nat) (s : Stage) : Dev :=
  (d.modThr t (fun c => { c with stage := s })).modInst t (fun x => { x with cmpOk := false })

/-- R92: the stage of context c with value v written into field w0 of transmit PDU p. -/
def Dev.insStage (d : Dev) (c : ThreadCtx) (w0 p : Nat) (v : VReg) : Stage :=
  stageField c.stage p (d.pdu p).gen (sigBig w0) (sigStart w0) (sigLen w0) (v.val % 2 ^ sigLen w0)

section
variable {d : Dev} {t pc rd k vn w0 p : Nat} {x : Instance} {s : Stage}

theorem Dev.putStage_fits (hf : stageFull s = false) : d.putStage t rd s = (d.stageKept t s).gxDone t rd 0 := by
  rw [Dev.putStage, hf, if_neg Bool.false_ne_true, Dev.stageKept]

theorem Dev.putStage_full (hf : stageFull s = true) : d.putStage t rd s = (d.stageAbort t).gxDone t rd 3 := by
  rw [Dev.putStage, if_pos hf]

section
variable (h : d.gxReady t = true) (hi : (d.thr t).inst = some x)
include h hi

section
variable (ha : x.aborted = false)
include ha

theorem Dev.gxIns_class (hc : (tget (d.thr t).v vn).cls ≠ 0) : d.gxIns t pc rd k vn = (d.started t pc).gxDone t rd 1 := by
  unfold Dev.gxIns
  rw [Dev.withInst_ready h hi]
  dsimp only
  rw [ha, if_neg Bool.false_ne_true, atPc_v, if_pos hc]

section
variable (hw : dreg (d.thr t) k 0 = w0) (hp : bitsOf (dreg (d.thr t) k 1) 16 16 = p)
  (hc : (tget (d.thr t).v vn).cls = 0)
include hw hp hc

/-- R116: a field that no valid transmit PDU has room for. -/
theorem Dev.gxIns_unfit (hno : sigSink w0 = false ∨ pduIsTx (d.pdu p) = false ∨
    fieldFits (sigBig w0) (sigStart w0) (sigLen w0) (pduLen (d.pdu p)) = false) :
    d.gxIns t pc rd k vn = (d.started t pc).gvSkip.gxDone t rd 2 := by
  have hskip : (!sigSink w0 || !pduIsTx (d.pdu p) ||
      !fieldFits (sigBig w0) (sigStart w0) (sigLen w0) (pduLen (d.pdu p))) = true := by
    rcases hno with hs | htx | hf
    · rw [hs, Bool.not_false, Bool.true_or, Bool.true_or]
    · rw [htx, Bool.not_false, Bool.or_true, Bool.true_or]
    · rw [hf, Bool.not_false, Bool.or_true]
  unfold Dev.gxIns
  rw [Dev.withInst_ready h hi]
  dsimp only
  rw [ha, if_neg Bool.false_ne_true, atPc_v, if_neg (not_not.mpr hc), dreg_at, dreg_at, hw, hp, Dev.pdu_started, if_pos hskip]

section
variable (hs : sigSink w0 = true) (htx : pduIsTx (d.pdu p) = true)
  (hf : fieldFits (sigBig w0) (sigStart w0) (sigLen w0) (pduLen (d.pdu p)) = true)
include hs htx hf

/-- R116: a field that fits: unchanged where UPD asks for a change, else staged. -/
theorem Dev.gxIns_fits : d.gxIns t pc rd k vn =
    if ((tget (d.thr t).v vn).upd = 1 ∨ (tget (d.thr t).v vn).upd = 3) ∧
        fieldGet (sigBig w0) (sigStart w0) (sigLen w0) (d.staged (d.thr t).stage p) =
          (tget (d.thr t).v vn).val % 2 ^ sigLen w0 then (d.started t pc).gxDone t rd 1
    else (d.started t pc).putStage t rd (if 2 ≤ (tget (d.thr t).v vn).upd then
      stageTrig (d.insStage (d.thr t) w0 p (tget (d.thr t).v vn)) p (d.pdu p).gen
      else d.insStage (d.thr t) w0 p (tget (d.thr t).v vn)) := by
  unfold Dev.gxIns
  rw [Dev.withInst_ready h hi]
  dsimp only
  rw [ha, if_neg Bool.false_ne_true, atPc_v, if_neg (not_not.mpr hc), dreg_at, dreg_at, hw, hp, Dev.pdu_started, hs, htx,
    hf, Bool.not_true, Bool.or_self, Bool.or_self, if_neg Bool.false_ne_true, Dev.staged_started, atPc_stage,
    Dev.insStage]
  simp only [beq_iff_eq]

theorem Dev.gxIns_unchanged (hu : (tget (d.thr t).v vn).upd = 1 ∨ (tget (d.thr t).v vn).upd = 3)
    (hsame : fieldGet (sigBig w0) (sigStart w0) (sigLen w0) (d.staged (d.thr t).stage p) =
      (tget (d.thr t).v vn).val % 2 ^ sigLen w0) : d.gxIns t pc rd k vn = (d.started t pc).gxDone t rd 1 := by
  rw [Dev.gxIns_fits h hi ha hw hp hc hs htx hf, if_pos ⟨hu, hsame⟩]

/-- R116: with UPD = 0 the field alone is staged. -/
theorem Dev.gxIns_always (hu : (tget (d.thr t).v vn).upd = 0) : d.gxIns t pc rd k vn =
    (d.started t pc).putStage t rd (d.insStage (d.thr t) w0 p (tget (d.thr t).v vn)) := by
  rw [Dev.gxIns_fits h hi ha hw hp hc hs htx hf, if_neg (by omega), if_neg (by omega)]

/-- R116: with UPD = 2 the field and a trigger are staged. -/
theorem Dev.gxIns_trigger (hu : (tget (d.thr t).v vn).upd = 2) : d.gxIns t pc rd k vn = (d.started t pc).putStage t rd
    (stageTrig (d.insStage (d.thr t) w0 p (tget (d.thr t).v vn)) p (d.pdu p).gen) := by
  rw [Dev.gxIns_fits h hi ha hw hp hc hs htx hf, if_neg (by omega), if_pos (by omega)]

end

end

/-! ### GX.PDUPUT SEND and GX.EVT (R116, R118) -/

theorem Dev.gxSend_staged (htx : pduIsTx (d.pdu (p % 2 ^ 16)) = true) : d.gxSend t pc rd p =
    (d.started t pc).putStage t rd (stageTrig (d.thr t).stage (p % 2 ^ 16) (d.pdu (p % 2 ^ 16)).gen) := by
  unfold Dev.gxSend
  rw [Dev.withInst_ready h hi]
  dsimp only
  rw [Dev.pdu_started, htx, Bool.not_true, if_neg Bool.false_ne_true, ha, if_neg Bool.false_ne_true, atPc_stage]

end

theorem Dev.gxSend_other (htx : pduIsTx (d.pdu (p % 2 ^ 16)) = false) :
    d.gxSend t pc rd p = (d.started t pc).gxDone t rd 1 := by
  unfold Dev.gxSend
  rw [Dev.withInst_ready h hi]
  dsimp only
  rw [Dev.pdu_started, htx, Bool.not_false, if_pos rfl]

theorem Dev.gxEvt_staged {tq data : Nat} (htype : 0x80 ≤ tq % 2 ^ 8) (hroom : (d.thr t).stage.events.length < 4) :
    d.gxEvt t pc rd tq data = ((d.started t pc).stageKept t { (d.thr t).stage with
      events := (d.thr t).stage.events ++ [⟨tq % 2 ^ 8, bitsOf tq 8 4, data⟩] }).gxDone t rd 0 := by
  unfold Dev.gxEvt
  rw [Dev.withInst_ready h hi, atPc_stage, if_neg (by omega), Dev.stageKept]

theorem Dev.gxEvt_refused {tq data : Nat} (hno : tq % 2 ^ 8 < 0x80 ∨ 4 ≤ (d.thr t).stage.events.length) :
    d.gxEvt t pc rd tq data = (d.started t pc).gxDone t rd 1 := by
  unfold Dev.gxEvt
  rw [Dev.withInst_ready h hi, atPc_stage, if_pos hno]

/-! ### GX.PDUPUT END and DROP (R93, R116, R120) -/

theorem Dev.gxEnd_waits (hp : x.paired = false) (ha : x.aborted = false) : d.gxEnd t pc rd =
    (d.started t pc).modThr t (fun c => { c with st := .committing rd }) := by
  unfold Dev.gxEnd
  rw [Dev.withInst_ready h hi, hp, if_neg Bool.false_ne_true, ha, if_neg Bool.false_ne_true]

theorem Dev.gxEnd_aborted (hp : x.paired = false) (ha : x.aborted = true) : d.gxEnd t pc rd =
    (((d.started t pc).rxEvents x []).endItem x.src x.serial).leave t rd := by
  unfold Dev.gxEnd
  rw [Dev.withInst_ready h hi, hp, if_neg Bool.false_ne_true, if_pos ha]

theorem Dev.gxEnd_paired (hp : x.paired = true) (he : x.ended = false) : d.gxEnd t pc rd =
    if x.cmpOk then (d.started t pc).modThr t (fun c => { c with st := .committing rd })
    else ((((d.started t pc).mismatch t x).leave t rd).failPartner x).freePartner x := by
  unfold Dev.gxEnd
  rw [Dev.withInst_ready h hi, if_pos hp, he, if_neg Bool.false_ne_true]

theorem Dev.gxDrop_paired (hp : x.paired = true) : d.gxDrop t pc rd =
    ((((d.started t pc).mismatch t x).leave t rd).failPartner x).freePartner x := by
  unfold Dev.gxDrop
  rw [Dev.withInst_ready h hi, if_pos hp]

theorem Dev.gxDrop_single (hp : x.paired = false) : d.gxDrop t pc rd =
    (((d.started t pc).rxEvents x []).endItem x.src x.serial).leave t rd := by
  unfold Dev.gxDrop
  rw [Dev.withInst_ready h hi, hp, if_neg Bool.false_ne_true]

end

/-- R101: an `Instance` that is no timeout and resumes nothing has no event of its own. -/
theorem Dev.rxEvents_none {l : List Nat} (ht : x.timeout = false) (hr : x.resume = false) : d.rxEvents x l = d := by
  unfold Dev.rxEvents
  dsimp only
  rw [ht, hr, if_neg Bool.false_ne_true, if_neg Bool.false_ne_true]

/-- R116: an instruction that completes leaves its thread's `Instance` and stage. -/
theorem Dev.gxDone_beside (v : Nat) : ((d.gxDone t rd v).thr t).inst = (d.thr t).inst ∧
    ((d.gxDone t rd v).thr t).stage = (d.thr t).stage := by
  obtain ⟨hinst, hstage, -⟩ := setX_beside (d.thr t) rd v
  rw [Dev.gxDone, Dev.thr_modThr_same]
  exact ⟨hinst, hstage⟩

/-- R116: thread t drops its `Instance`, counts it and completes its instruction. -/
theorem Dev.leave_eq : d.leave t rd = (((d.free (2 ^ 32)).2.withoutInst t).bump (F.ENG_INSTANCES_COUNT (t / 8))).gxDone t rd
    (d.free (2 ^ 32)).1 := rfl

theorem Dev.thr_bump (f : Fld) (n : Nat) : (d.bump f).thr n = d.thr n := rfl

/-- R116: a thread that leaves its `Instance` goes on without it and without its stage. -/
theorem Dev.leave_reads : ((d.leave t rd).thr t).inst = none ∧ ((d.leave t rd).thr t).stage = {} ∧
    ((d.leave t rd).thr t).st = .ready ∧ ((d.leave t rd).thr t).pc = ((d.thr t).pc + 4) % 2 ^ 32 ∧
    (∀ n, n ≠ t → (d.leave t rd).thr n = d.thr n) ∧ (d.leave t rd).gv.pdu = d.gv.pdu ∧
    (d.leave t rd).gv.queues = d.gv.queues := by
  have hdone := Dev.gxDone_reads (d := ((d.free (2 ^ 32)).2.withoutInst t).bump (F.ENG_INSTANCES_COUNT (t / 8)))
    (t := t) (rd := rd) (v := (d.free (2 ^ 32)).1)
  have hbeside := Dev.gxDone_beside (d := ((d.free (2 ^ 32)).2.withoutInst t).bump (F.ENG_INSTANCES_COUNT (t / 8)))
    (t := t) (rd := rd) (d.free (2 ^ 32)).1
  rw [← Dev.leave_eq, Dev.thr_bump, Dev.withoutInst, Dev.thr_modThr_same] at hdone hbeside
  obtain ⟨-, -, hpc, hst, -, hthr⟩ := hdone
  obtain ⟨hinst, hstage⟩ := hbeside
  refine ⟨hinst, hstage, hst, hpc, fun n hn => ?_, rfl, rfl⟩
  rw [hthr n hn, Dev.thr_bump, Dev.thr_modThr_other hn, (Dev.free_beside _ _).1]

end

/-! ### GX.WAIT (R63, R116, R123) -/

section
variable {d : Dev} {t pc rd : Nat} (h : d.gxReady t = true)
include h

theorem Dev.gxWait_takes {p : Nat} (hr : d.resting (t / 8) = false) (hw : (d.thr t).wake = some p) :
    d.gxWait t pc rd =
      (((d.started t pc).modThr t (fun c => { c with wake := none })).gxDone t rd p).busyFor t 2 := by
  unfold Dev.gxWait
  rw [Dev.withThread_ready h]
  rw [Dev.resting_started, hr, if_neg Bool.false_ne_true, atPc_wake, hw]

theorem Dev.gxWait_waits (hno : (d.thr t).wake = none ∨ d.resting (t / 8) = true) :
    d.gxWait t pc rd = (d.started t pc).modThr t (fun c => { c with st := .awaitWake rd }) := by
  have hnone : (if d.resting (t / 8) then none else (d.thr t).wake) = none := by
    rcases hno with hw | hr
    · rw [hw, ite_self]
    · rw [if_pos hr]
  unfold Dev.gxWait
  rw [Dev.withThread_ready h]
  rw [Dev.resting_started, atPc_wake, hnone]

end

/-! ### GX.CMP (R120) -/

section
variable {d : Dev} {t pc rd word : Nat} {x y : Instance} (h : d.gxReady t = true) (hi : (d.thr t).inst = some x)
include h hi

theorem Dev.gxCmp_single (hp : x.paired = false) : d.gxCmp t pc rd word = (d.started t pc).gxDone t rd 0 := by
  unfold Dev.gxCmp
  rw [Dev.withInst_ready h hi, hp, Bool.not_false, if_pos rfl]

section
variable (hp : x.paired = true) (ho : x.owed = false) (he : x.ended = false) (ha : x.aborted = false)
  (hne : x.partner ≠ t) (hi₂ : (d.thr x.partner).inst = some y) (hs : y.serial = x.serial) (ha₂ : y.aborted = false)
include hp ho he ha hne hi₂ hs ha₂

theorem Dev.gxCmp_waits (hst : (d.thr x.partner).st = .ready) : d.gxCmp t pc rd word =
    (d.started t pc).modThr t (fun c => { c with st := .awaitPartner rd word d.baseNs }) := by
  unfold Dev.gxCmp
  rw [Dev.withInst_ready h hi, hp, Bool.not_true, if_neg Bool.false_ne_true, ho, if_neg Bool.false_ne_true,
    Dev.thr_started_other hne, hi₂]
  dsimp only
  rw [he, ha, ha₂, if_neg (by simp [hs]), hst]
  dsimp only
  rw [Dev.baseNs_started]

theorem Dev.gxCmp_meets {rd₂ word₂ since : Nat} (hst : (d.thr x.partner).st = .awaitPartner rd₂ word₂ since)
    (hb : d.baseNs ≤ since + 20000) : d.gxCmp t pc rd word = (d.started t pc).cmpBoth t rd x.partner rd₂
      (if compared (d.thr t).stage == compared (d.thr x.partner).stage && word == word₂ then 0 else 1) := by
  unfold Dev.gxCmp
  rw [Dev.withInst_ready h hi, hp, Bool.not_true, if_neg Bool.false_ne_true, ho, if_neg Bool.false_ne_true,
    Dev.thr_started_other hne, hi₂]
  dsimp only
  rw [he, ha, ha₂, if_neg (by simp [hs]), hst]
  dsimp only
  rw [Dev.baseNs_started, if_neg (by omega), atPc_stage]

end

end

/-! ### Rows -/

section
variable {s : State} {t : Fin 128} {pc : Word} {rd : Fin 32}

theorem exec_gxPduget {block : Bool} {t₂ : Fin 128} : exec (.gxPduget t pc rd block t₂) s =
    .next (s.ends (s.dev.gxPduget t pc.toNat rd block t₂)) :=
  act_eq_ends s (fun d => d.gxPduget t pc.toNat rd block t₂)

theorem exec_gxPduputEnd : exec (.gxPduputEnd t pc rd) s = .next (s.ends (s.dev.gxEnd t pc.toNat rd)) :=
  act_eq_ends s (fun d => d.gxEnd t pc.toNat rd)

theorem exec_gxPduputSend {p : Word} : exec (.gxPduputSend t pc rd p) s =
    .next (s.ends (s.dev.gxSend t pc.toNat rd p.toNat)) := act_eq_ends s (fun d => d.gxSend t pc.toNat rd p.toNat)

theorem exec_gxPduputDrop : exec (.gxPduputDrop t pc rd) s = .next (s.ends (s.dev.gxDrop t pc.toNat rd)) :=
  act_eq_ends s (fun d => d.gxDrop t pc.toNat rd)

theorem exec_gxWait : exec (.gxWait t pc rd) s = .next (s.ends (s.dev.gxWait t pc.toNat rd)) :=
  act_eq_ends s (fun d => d.gxWait t pc.toNat rd)

theorem exec_gxEvt {tq x : Word} : exec (.gxEvt t pc rd tq x) s =
    .next (s.ends (s.dev.gxEvt t pc.toNat rd tq.toNat x.toNat)) :=
  act_eq_ends s (fun d => d.gxEvt t pc.toNat rd tq.toNat x.toNat)

theorem exec_gxCmp {x : Word} : exec (.gxCmp t pc rd x) s = .next (s.ends (s.dev.gxCmp t pc.toNat rd x.toNat)) :=
  act_eq_ends s (fun d => d.gxCmp t pc.toNat rd x.toNat)

end

/-- Settles O15: each instruction by what it does on the device whose thread stands at pc. -/
theorem xgroveStageAndInstances : Obligations.XgroveStageAndInstances := by
  unfold Obligations.XgroveStageAndInstances
  refine ⟨?blocks, ?resting, ?takes, ?held, ?stages, ?cls, ?unfit, ?unchanged, ?trigger, ?full, ?endWaits, ?endAborted,
    ?endPaired, ?send, ?sendOther, ?drop, ?dropPaired, ?wake, ?wait, ?event, ?eventNo, ?single, ?first, ?both⟩
  case blocks =>
    intro s t t₂ pc rd h hi
    rw [exec_gxPduget, Dev.gxPduget_blocks h hi, Dev.started]
  case resting =>
    intro s t t₂ pc rd h hi hs
    rw [exec_gxPduget, Dev.gxPduget_resting h hi hs, Dev.started]
  case takes =>
    intro s t t₂ pc rd x h hi hs ha ht hp
    rw [exec_gxPduget, Dev.gxPduget_takes h hi hs ha ht hp, Dev.arbTaken, Dev.started]
  case held =>
    intro s t t₂ pc rd block x h hi
    rw [exec_gxPduget, Dev.gxPduget_held h hi, Dev.started]
  case stages =>
    intro s t pc rd k v x w0 p h hi ha hw hp hc hu hs htx hf hroom
    rw [exec_gxIns, Dev.gxIns_always h hi ha hw hp hc hs htx hf hu, Dev.insStage,
      Dev.putStage_fits hroom, Dev.stageKept, Dev.started]
  case cls =>
    intro s t pc rd k v x h hi ha hc
    rw [exec_gxIns, Dev.gxIns_class h hi ha hc, Dev.started]
  case unfit =>
    intro s t pc rd k v x w0 p h hi ha hw hp hc hno
    rw [exec_gxIns, Dev.gxIns_unfit h hi ha hw hp hc hno, Dev.started]
  case unchanged =>
    intro s t pc rd k v x w0 p h hi ha hw hp hc hs htx hf hu hsame
    rw [exec_gxIns, Dev.gxIns_unchanged h hi ha hw hp hc hs htx hf hu hsame, Dev.started]
  case trigger =>
    intro s t pc rd k v x w0 p h hi ha hw hp hc hs htx hf hu hroom
    rw [exec_gxIns, Dev.gxIns_trigger h hi ha hw hp hc hs htx hf hu, Dev.insStage,
      Dev.putStage_fits hroom, Dev.stageKept, Dev.started]
  case full =>
    intro s t pc rd k v x w0 p h hi ha hw hp hc hs htx hf hu hfull
    rw [exec_gxIns, Dev.gxIns_always h hi ha hw hp hc hs htx hf hu, Dev.insStage, Dev.putStage_full hfull,
      Dev.started]
  case endWaits =>
    intro s t pc rd x h hi hp ha
    rw [exec_gxPduputEnd, Dev.gxEnd_waits h hi hp ha, Dev.started]
  case endAborted =>
    intro s t pc rd x h hi hp ha
    rw [exec_gxPduputEnd, Dev.gxEnd_aborted h hi hp ha, Dev.started]
  case endPaired =>
    intro s t pc rd x h hi hp he
    rw [exec_gxPduputEnd, Dev.gxEnd_paired h hi hp he, Dev.started]
  case send =>
    intro s t pc rd p x h hi ha htx hroom
    rw [exec_gxPduputSend, Dev.gxSend_staged h hi ha htx, Dev.putStage_fits hroom, Dev.stageKept, Dev.started]
  case sendOther =>
    intro s t pc rd p x h hi htx
    rw [exec_gxPduputSend, Dev.gxSend_other h hi htx, Dev.started]
  case drop =>
    intro s t pc rd x h hi hp ht hr _
    obtain ⟨srcs, hgv⟩ := (s.dev.started t pc.toNat).endItem_gv x.src x.serial
    obtain ⟨hinst, hstage, hst, hpc, hthr, hpdu, hqueues⟩ := Dev.leave_reads
      (d := (s.dev.started t pc.toNat).endItem x.src x.serial) (t := t) (rd := rd)
    obtain ⟨hpc', -, hthr'⟩ := Dev.started_reads (d := s.dev) (t := t) (pc := pc.toNat)
    refine ⟨((s.dev.started t pc.toNat).endItem x.src x.serial).leave t rd, ?_, hinst, hstage, hst, ?_, fun n hn => ?_, ?_, ?_⟩
    · rw [exec_gxPduputDrop, Dev.gxDrop_single h hi hp, Dev.rxEvents_none ht hr]
    · rw [hpc, Dev.thr_endItem, hpc']
    · rw [hthr n hn, Dev.thr_endItem, hthr' n hn]
    · rw [hpdu, hgv]
      rfl
    · rw [hqueues, hgv]
      rfl
  case dropPaired =>
    intro s t pc rd x h hi hp
    rw [exec_gxPduputDrop, Dev.gxDrop_paired h hi hp, Dev.started]
  case wake =>
    intro s t pc rd p h hr hw
    rw [exec_gxWait, Dev.gxWait_takes h hr hw, Dev.started]
  case wait =>
    intro s t pc rd h hno
    rw [exec_gxWait, Dev.gxWait_waits h hno, Dev.started]
  case event =>
    intro s t pc rd tq x y h hi htype hroom
    rw [exec_gxEvt, Dev.gxEvt_staged h hi htype hroom, Dev.stageKept, Dev.started]
  case eventNo =>
    intro s t pc rd tq x y h hi hno
    rw [exec_gxEvt, Dev.gxEvt_refused h hi hno, Dev.started]
  case single =>
    intro s t pc rd x y h hi hp
    rw [exec_gxCmp, Dev.gxCmp_single h hi hp, Dev.started]
  case first =>
    intro s t pc rd x y z h hi hp ho he ha hne hi₂ hs ha₂ hst
    rw [exec_gxCmp, Dev.gxCmp_waits h hi hp ho he ha hne hi₂ hs ha₂ hst, Dev.started]
  case both =>
    intro s t pc rd x y z rd₂ word since h hi hp ho he ha hne hi₂ hs ha₂ hst hb
    rw [exec_gxCmp, Dev.gxCmp_meets h hi hp ho he ha hne hi₂ hs ha₂ hst hb, Dev.started]

end Sys2Proof.Machine
end

section
/-! Faults of threads, the limits on instances and pairs, and the restart (R113, R116, R120, R121). -/

namespace Sys2Proof.Machine
open Sys2Proof

/-! ### What a fault records (R121) -/

/-- R121: the first fault of an engine: its thread, its cause, the PDU of the `Instance` and the program counter. -/
def Dev.faultNoted (d : Dev) (e thread cause pdu pc : Nat) : Dev :=
  ((((d.put (F.ENG_FAULT_CAUSE_VALID e) 1).put (F.ENG_FAULT_CAUSE_THREAD e) thread).put
    (F.ENG_FAULT_CAUSE_CAUSE e) cause).put (F.ENG_FAULT_CAUSE_PDU e) pdu).put (F.ENG_FAULT_PC_PC e) pc

section
variable {d : Dev} {e thread cause pdu pc : Nat}

theorem Dev.get_faultNoted_pc : (d.faultNoted e thread cause pdu pc).get (F.ENG_FAULT_PC_PC e) = pc % 2 ^ 32 :=
  Dev.get_put _ (F.ENG_FAULT_PC_PC e) pc (Nat.le_refl 32)

/-- R121: a field of ENG_FAULT_CAUSE other than PDU. -/
theorem Dev.get_faultNoted_cause {g : Fld} (ha : g.addr = R.ENG_FAULT_CAUSE e) (hlo : 16 ≤ g.lo) :
    (d.faultNoted e thread cause pdu pc).get g = (((d.put (F.ENG_FAULT_CAUSE_VALID e) 1).put
      (F.ENG_FAULT_CAUSE_THREAD e) thread).put (F.ENG_FAULT_CAUSE_CAUSE e) cause).get g := by
  have hne : g.addr ≠ (F.ENG_FAULT_PC_PC e).addr := by
    rw [ha]
    simp only [F.ENG_FAULT_PC_PC, R.ENG_FAULT_CAUSE, R.ENG_FAULT_PC]
    omega
  rw [Dev.faultNoted, Dev.get_put_other _ _ _ _ hne,
    Dev.get_put_beside _ (F.ENG_FAULT_CAUSE_PDU e) g _ (Nat.le_of_ble_eq_true rfl) (.inr hlo)]

theorem Dev.faultNoted_reads : (d.faultNoted e thread cause pdu pc).get (F.ENG_FAULT_CAUSE_CAUSE e) = cause % 2 ^ 8 ∧
    (d.faultNoted e thread cause pdu pc).get (F.ENG_FAULT_CAUSE_THREAD e) = thread % 2 ^ 3 ∧
    (d.faultNoted e thread cause pdu pc).get (F.ENG_FAULT_CAUSE_VALID e) = 1 := by
  have hle : ∀ {a b : Nat}, Nat.ble a b = true → a ≤ b := Nat.le_of_ble_eq_true
  refine ⟨?_, ?_, ?_⟩
  · rw [Dev.get_faultNoted_cause rfl (hle rfl), Dev.get_put _ (F.ENG_FAULT_CAUSE_CAUSE e) _ (hle rfl)]
    rfl
  · rw [Dev.get_faultNoted_cause rfl (hle rfl),
      Dev.get_put_beside _ (F.ENG_FAULT_CAUSE_CAUSE e) (F.ENG_FAULT_CAUSE_THREAD e) _ (hle rfl) (.inr (hle rfl)),
      Dev.get_put _ (F.ENG_FAULT_CAUSE_THREAD e) _ (hle rfl)]
    rfl
  · rw [Dev.get_faultNoted_cause rfl (hle rfl),
      Dev.get_put_beside _ (F.ENG_FAULT_CAUSE_CAUSE e) (F.ENG_FAULT_CAUSE_VALID e) _ (hle rfl) (.inr (hle rfl)),
      Dev.get_put_beside _ (F.ENG_FAULT_CAUSE_THREAD e) (F.ENG_FAULT_CAUSE_VALID e) _ (hle rfl) (.inr (hle rfl)),
      Dev.get_put _ (F.ENG_FAULT_CAUSE_VALID e) _ (hle rfl)]
    rfl

/-- R121: beside ENG_FAULT_CAUSE and ENG_FAULT_PC a fault recorded changes nothing. -/
theorem Dev.faultNoted_beside : (∀ a, a ≠ R.ENG_FAULT_CAUSE e → a ≠ R.ENG_FAULT_PC e →
    (d.faultNoted e thread cause pdu pc).word a = d.word a) ∧ (d.faultNoted e thread cause pdu pc).tl = d.tl ∧
    (d.faultNoted e thread cause pdu pc).gv = d.gv := by
  refine ⟨fun a hc hp => ?_, ?_, ?_⟩
  · rw [Dev.faultNoted, Dev.word_put_other _ (F.ENG_FAULT_PC_PC e) _ _ hp,
      Dev.word_put_other _ (F.ENG_FAULT_CAUSE_PDU e) _ _ hc, Dev.word_put_other _ (F.ENG_FAULT_CAUSE_CAUSE e) _ _ hc,
      Dev.word_put_other _ (F.ENG_FAULT_CAUSE_THREAD e) _ _ hc, Dev.word_put_other _ (F.ENG_FAULT_CAUSE_VALID e) _ _ hc]
  · rw [Dev.faultNoted, Dev.put_tl, Dev.put_tl, Dev.put_tl, Dev.put_tl, Dev.put_tl]
  · rw [Dev.faultNoted, Dev.put_gv, Dev.put_gv, Dev.put_gv, Dev.put_gv, Dev.put_gv]

end

/-! ### Thread faults (R121) -/

section
variable {d : Dev} {t cause pc : Nat}

/-- R121: the device whose thread t has lost its `Instance` to a fault, and counts the fault. -/
def Dev.faultCounted (d : Dev) (t : Nat) : Dev := (d.abortInst t).bump (F.ENG_FAULTS_COUNT (t / 8))

theorem engineBody_of_engine {e off : Nat} (he : e < 16) (ho : 0x4C ≤ off) (ho' : off < 0x1000) :
    engineBody (0x803000 + off + e * 0x1000) := by
  unfold engineBody
  omega

/-- R121: counting a fault leaves what the engine has recorded, and time. -/
theorem Dev.faultCounted_reads (ht : t < 128) :
    (d.faultCounted t).get (F.ENG_FAULTS_COUNT (t / 8)) = satAdd 32 (d.get (F.ENG_FAULTS_COUNT (t / 8))) 1 ∧
    (d.faultCounted t).flag (F.ENG_FAULT_CAUSE_VALID (t / 8)) = d.flag (F.ENG_FAULT_CAUSE_VALID (t / 8)) ∧
    (d.faultCounted t).tl = d.tl ∧ ((d.faultCounted t).thr t).inst = none := by
  have habort := Dev.sparesEngines.abortInst d t
  have he : t / 8 < 16 := by omega
  have hcount : engineBody (F.ENG_FAULTS_COUNT (t / 8)).addr := engineBody_of_engine he (off := 0x4C) (by decide) (by decide)
  have hcause : engineBody (F.ENG_FAULT_CAUSE_VALID (t / 8)).addr :=
    engineBody_of_engine he (off := 0x54) (by decide) (by decide)
  have hne : (F.ENG_FAULT_CAUSE_VALID (t / 8)).addr ≠ (F.ENG_FAULTS_COUNT (t / 8)).addr := by
    simp only [F.ENG_FAULT_CAUSE_VALID, R.ENG_FAULT_CAUSE, F.ENG_FAULTS_COUNT, R.ENG_FAULTS]
    omega
  refine ⟨?_, ?_, habort.tl, Dev.abortInst_inst d t⟩
  · rw [Dev.faultCounted, Dev.get_bump _ (F.ENG_FAULTS_COUNT (t / 8)) (Nat.le_refl 32), habort.get hcount, satAdd_eq_min]
    rfl
  · rw [Dev.faultCounted, Dev.flag, Dev.get_bump_other _ _ _ hne, ← Dev.flag, habort.flag hcause]

/-- R121: the first fault that the engine of thread t records. -/
theorem Dev.threadFault_first (ht : t < 128) (hv : d.flag (F.ENG_FAULT_CAUSE_VALID (t / 8)) = false) :
    ∃ pdu, d.threadFault t cause pc = (((d.faultCounted t).faultNoted (t / 8) (t % 8) cause pdu pc).raise
      (threadPage t) 1).modThr t (fun c => { c with st := .restarting (d.baseNs + 1000) }) := by
  obtain ⟨-, hvalid, htl, -⟩ := Dev.faultCounted_reads (d := d) ht
  have hns : ∀ pdu, ((d.faultCounted t).faultNoted (t / 8) (t % 8) cause pdu pc).baseNs = d.baseNs := fun pdu => by
    rw [Dev.baseNs, Dev.faultNoted_beside.2.1, htl, Dev.baseNs]
  unfold Dev.threadFault
  dsimp only
  rw [← Dev.faultCounted, hvalid, hv, if_neg Bool.false_ne_true, ← Dev.faultNoted, hns]
  exact ⟨_, rfl⟩

/-- R121: what a first fault of the engine leaves. -/
theorem Dev.threadFault_reads (ht : t < 128) (hc : cause < 2 ^ 8) (hpc : pc < 2 ^ 32)
    (hv : d.flag (F.ENG_FAULT_CAUSE_VALID (t / 8)) = false) :
    (d.threadFault t cause pc).get (F.ENG_FAULT_CAUSE_CAUSE (t / 8)) = cause ∧
    (d.threadFault t cause pc).get (F.ENG_FAULT_CAUSE_THREAD (t / 8)) = t % 8 ∧
    (d.threadFault t cause pc).get (F.ENG_FAULT_PC_PC (t / 8)) = pc ∧
    (d.threadFault t cause pc).get (F.ENG_FAULTS_COUNT (t / 8)) = satAdd 32 (d.get (F.ENG_FAULTS_COUNT (t / 8))) 1 ∧
    ((d.threadFault t cause pc).thr t).st = .restarting (d.baseNs + 1000) ∧
    ((d.threadFault t cause pc).thr t).inst = none ∧
    (d.threadFault t cause pc).flag (F.ENG_FAULT_CAUSE_VALID (t / 8)) = true ∧
    (d.threadFault t cause pc).tl = d.tl := by
  obtain ⟨pdu, heq⟩ := Dev.threadFault_first (cause := cause) (pc := pc) ht hv
  obtain ⟨hcount, -, htl, hinst⟩ := Dev.faultCounted_reads (d := d) ht
  obtain ⟨hword, hntl, hngv⟩ := Dev.faultNoted_beside (d := d.faultCounted t) (e := t / 8) (thread := t % 8)
    (cause := cause) (pdu := pdu) (pc := pc)
  obtain ⟨hcause, hthread, hvalid⟩ := Dev.faultNoted_reads (d := d.faultCounted t) (e := t / 8) (thread := t % 8)
    (cause := cause) (pdu := pdu) (pc := pc)
  have hget : ∀ g : Fld, 0x40 ≤ g.addr % 0x1000 → (d.threadFault t cause pc).get g =
      ((d.faultCounted t).faultNoted (t / 8) (t % 8) cause pdu pc).get g := fun g hg => by
    rw [heq, Dev.modThr_get, Dev.get_of_word (Dev.word_raise_of_body _ _ _ hg)]
  have hpage : ∀ off, 0x40 ≤ off → off < 0x1000 → 0x40 ≤ (0x803000 + off + t / 8 * 0x1000) % 0x1000 := by omega
  have hbody : 0x40 ≤ R.ENG_FAULT_CAUSE (t / 8) % 0x1000 := hpage 0x54 (by decide) (by decide)
  refine ⟨?_, ?_, ?_, ?_, ?_, ?_, ?_, ?_⟩
  · rw [hget _ hbody, hcause, Nat.mod_eq_of_lt hc]
  · rw [hget _ hbody, hthread]
    exact Nat.mod_mod t 8
  · rw [hget _ (hpage 0x58 (by decide) (by decide)), Dev.get_faultNoted_pc, Nat.mod_eq_of_lt hpc]
  · rw [hget _ (hpage 0x4C (by decide) (by decide)), Dev.get_of_word (hword _ ?_ ?_), hcount]
    · simp only [F.ENG_FAULTS_COUNT, R.ENG_FAULTS, R.ENG_FAULT_CAUSE]
      omega
    · simp only [F.ENG_FAULTS_COUNT, R.ENG_FAULTS, R.ENG_FAULT_PC]
      omega
  · rw [heq, Dev.thr_modThr_same]
  · rw [heq, Dev.thr_modThr_same, Dev.thr, Dev.raise_gv, hngv]
    exact hinst
  · rw [Dev.flag, hget _ hbody, hvalid]
    rfl
  · rw [heq, Dev.modThr_tl, Dev.raise_tl, hntl, htl]

theorem Dev.threadException_ready (h : d.gxReady t = true) : d.threadException t cause pc = d.threadFault t cause pc := by
  rw [Dev.threadException, if_pos h]

theorem Dev.threadException_idle (h : d.gxReady t = false) : d.threadException t cause pc = d := by
  rw [Dev.threadException, h, if_neg Bool.false_ne_true]

/-- R113: a thread that would issue has held its `Instance` for 100 µs. -/
theorem Dev.instanceTimeout_passed {x : Instance} (hi : (d.thr t).inst = some x) (hst : (d.thr t).st = .ready)
    (hb : x.start + 100000 ≤ d.baseNs) : d.instanceTimeout t pc = d.threadFault t 0x10 pc := by
  unfold Dev.instanceTimeout
  dsimp only
  rw [hi, hst]
  dsimp only
  rw [if_pos ⟨hb, Bool.not_false⟩, if_pos rfl]

theorem Dev.instanceTimeout_early (h : (d.thr t).inst.all (fun x => decide (d.baseNs < x.start + 100000)) = true) :
    d.instanceTimeout t pc = d := by
  unfold Dev.instanceTimeout
  dsimp only
  cases hi : (d.thr t).inst with
  | none => rfl
  | some x =>
    rw [hi, Option.all_some, decide_eq_true_eq] at h
    exact if_neg fun hp => absurd hp.1 (Nat.not_le.mpr h)

end

/-! ### The restart (R121) -/

section
variable {d : Dev} {t : Nat}

theorem Dev.startThread_reads : (d.startThread t).thr t = freshThread (d.thr t) .ready ∧
    (∀ k, k ≠ t → (d.startThread t).thr k = d.thr k) ∧ (d.startThread t).regs = d.regs :=
  ⟨Dev.thr_modThr_same, fun _ hk => Dev.thr_modThr_other hk, rfl⟩

theorem Dev.threadRestart_due {u : Nat} (hst : (d.thr t).st = .restarting u) (hr : d.gvRuns = true) (hu : u ≤ d.baseNs) :
    d.threadRestart t = d.startThread t := by
  unfold Dev.threadRestart
  rw [hst]
  dsimp only
  rw [hr, decide_eq_true hu, Bool.and_self, if_pos rfl]

end

/-! ### A partner that does not come (R120) -/

section
variable {d : Dev} {t k rd word since : Nat} {x : Instance} {f : Instance → Instance}

theorem Dev.thr_modInst_same : (d.modInst t f).thr t = { d.thr t with inst := (d.thr t).inst.map f } := Dev.thr_modThr_same

theorem Dev.thr_modInst_other (h : k ≠ t) : (d.modInst t f).thr k = d.thr k := Dev.thr_modThr_other h

/-- R120: the next comparison of the partner's copy of x returns 2. -/
def Dev.partnerOwed (d : Dev) (x : Instance) : Dev :=
  d.modInst x.partner (fun y => if y.serial = x.serial then { y with owed := true, cmpOk := false } else y)

theorem Dev.cmpTimeout_passed (hst : (d.thr t).st = .awaitPartner rd word since) (hi : (d.thr t).inst = some x)
    (hb : since + 20000 ≤ d.baseNs) : d.cmpTimeout t =
      ((d.partnerOwed x).modInst t (fun y => { y with cmpOk := false })).gxDone t rd 2 := by
  unfold Dev.cmpTimeout
  rw [hst, hi]
  dsimp only
  rw [if_pos hb, Dev.partnerOwed]

end

/-! ### Threads that do not run, or hold no `Instance` (R116) -/

section
variable {d : Dev} {t pc : Nat}

theorem Dev.withThread_idle {f : Dev → ThreadCtx → Dev} (h : d.gxReady t = false) : d.withThread t pc f = d := by
  rw [Dev.withThread, h, if_neg Bool.false_ne_true]

theorem Dev.withInst_idle {f : Dev → ThreadCtx → Instance → Dev} (h : d.gxReady t = false) : d.withInst t pc f = d := by
  rw [Dev.withInst, h, if_neg Bool.false_ne_true]

theorem Dev.gxTs_idle {rd sel : Nat} (h : d.gxReady t = false) : d.gxTs t pc rd sel = d := by
  unfold Dev.gxTs
  split
  · exact Dev.withInst_idle h
  · exact Dev.withThread_idle h

theorem Dev.withInst_none {f : Dev → ThreadCtx → Instance → Dev} (h : d.gxReady t = true) (hi : (d.thr t).inst = none) :
    d.withInst t pc f = (d.started t pc).threadFault t 0x12 pc := by
  unfold Dev.withInst
  rw [if_pos h, ← Dev.started]
  dsimp only
  rw [Dev.thr_started_same, atPc_inst, hi]

theorem Dev.gxTs_none {rd sel : Nat} (hs : sel < 2) (h : d.gxReady t = true) (hi : (d.thr t).inst = none) :
    d.gxTs t pc rd sel = (d.started t pc).threadFault t 0x12 pc := by
  rw [Dev.gxTs, if_pos hs, Dev.withInst_none h hi]

end

/-! ### Rows -/

section
variable {s : State} {t : Fin 128} {pc : Word}

theorem exec_threadException {cause : Fin 7} : exec (.threadException t cause pc) s =
    .next (s.ends (s.dev.threadException t (cause + 2) pc.toNat)) :=
  act_eq_ends s (fun d => d.threadException t (cause + 2) pc.toNat)

theorem exec_instanceTimeout : exec (.instanceTimeout t pc) s = .next (s.ends (s.dev.instanceTimeout t pc.toNat)) :=
  act_eq_ends s (fun d => d.instanceTimeout t pc.toNat)

theorem exec_threadRestart : exec (.threadRestart t) s = .next (s.ends (s.dev.threadRestart t)) :=
  act_eq_ends s (fun d => d.threadRestart t)

theorem exec_pairCmpTimeout : exec (.pairCmpTimeout t) s = .next (s.ends (s.dev.cmpTimeout t)) :=
  act_eq_ends s (fun d => d.cmpTimeout t)

end

/-- Settles O16: a fault records, counts and ends by `Dev.threadFault_reads`; the restart and the limit of a pair change
their threads alone; an instruction without a running thread or without its `Instance` by the two ways in. -/
theorem threadFaultsAndRestart : Obligations.ThreadFaultsAndRestart := by
  unfold Obligations.ThreadFaultsAndRestart
  refine ⟨?fault, ?timeout, ?faultIdle, ?timeoutEarly, ?restart, ?partner, ?idle, ?none⟩
  case fault =>
    intro s t cause pc h hv
    have hc : cause.val + 2 < 2 ^ 8 := by omega
    exact ⟨_, by rw [exec_threadException, Dev.threadException_ready h], Dev.threadFault_reads t.isLt hc pc.isLt hv⟩
  case timeout =>
    intro s t pc x hi hst hb hv
    obtain ⟨hcause, -, hpc, -, hst', hinst, hvalid, htl⟩ := Dev.threadFault_reads t.isLt (show 0x10 < 2 ^ 8 by decide)
      pc.isLt hv
    exact ⟨_, by rw [exec_instanceTimeout, Dev.instanceTimeout_passed hi hst hb], hcause, hpc, hst', hinst, hvalid, htl⟩
  case faultIdle =>
    intro s t cause pc h
    rw [exec_threadException, Dev.threadException_idle h]
  case timeoutEarly =>
    intro s t pc h
    rw [exec_instanceTimeout, Dev.instanceTimeout_early h]
  case restart =>
    intro s t u hst hr hu
    exact ⟨_, by rw [exec_threadRestart, Dev.threadRestart_due hst hr hu], Dev.startThread_reads⟩
  case partner =>
    intro s t rd word since x hst hi hb hne
    obtain ⟨-, hx, -, hst', hregs, hthr⟩ := Dev.gxDone_reads (d := (s.dev.partnerOwed x).modInst t
      (fun y => { y with cmpOk := false })) (t := t) (rd := rd) (v := 2)
    obtain ⟨hinst, -⟩ := Dev.gxDone_beside (d := (s.dev.partnerOwed x).modInst t (fun y => { y with cmpOk := false }))
      (t := t) (rd := rd) 2
    refine ⟨_, by rw [exec_pairCmpTimeout, Dev.cmpTimeout_passed hst hi hb], hst', ?_, hx, fun k hk hkp => ?_, hregs⟩
    · rw [hinst, Dev.thr_modInst_same, Dev.partnerOwed, Dev.thr_modInst_other hne.symm, hi, Option.map_some]
    · rw [hthr k hk, Dev.thr_modInst_other hk, Dev.partnerOwed, Dev.thr_modInst_other hkp]
  case idle =>
    intro s t t₂ pc v w rd k a b sel block dbe h
    rw [exec_gxSigld, exec_gxSigst, exec_gxExt, exec_gxXfm, exec_gxIns, exec_gxTs, exec_gxPduget, exec_gxPduputEnd,
      exec_gxPduputSend, exec_gxPduputDrop, exec_gxWait, exec_gxEvt, exec_gxCmp, Dev.gxSigld, Dev.gxSigst, Dev.gxExt,
      Dev.gxXfm, Dev.gxIns, Dev.gxPduget, Dev.gxEnd, Dev.gxSend, Dev.gxDrop, Dev.gxWait, Dev.gxEvt, Dev.gxCmp]
    simp only [Dev.withThread_idle h, Dev.withInst_idle h, Dev.gxTs_idle h, and_self]
  case none =>
    intro s t pc v w rd k a b sel h hi
    have hts := Dev.gxTs_none (pc := pc.toNat) (rd := rd) (sel := sel) sel.isLt h hi
    rw [exec_gxExt, exec_gxXfm, exec_gxIns, exec_gxTs, exec_gxPduputEnd, exec_gxPduputSend, exec_gxPduputDrop, exec_gxEvt,
      exec_gxCmp, Dev.gxExt, Dev.gxXfm, Dev.gxIns, Dev.gxEnd, Dev.gxSend, Dev.gxDrop, Dev.gxEvt, Dev.gxCmp, ← Dev.started]
    simp only [Dev.withInst_none h hi, hts, Fin.val_castLE, and_self]

end Sys2Proof.Machine
end

section
/-! Engines that run, halt, start again and are retired (R109, R111, R121, R122, R124). -/

namespace Sys2Proof.Machine
open Sys2Proof

/-! ### What one member of a list changes -/

/-- A reading that the step at k alone changes is, after a list that k is once in, what that step makes of it. -/
theorem foldl_once {α β : Type} (step : α → Nat → α) (inv : α → Prop) (read : α → β) {l : List Nat} {k : Nat} {b c : β}
    (hl : l.Nodup) (hk : k ∈ l) (hinv : ∀ a j, inv a → inv (step a j)) (hother : ∀ a j, j ≠ k → read (step a j) = read a)
    (hown : ∀ a, inv a → read a = b → read (step a k) = c) : ∀ a, inv a → read a = b → read (l.foldl step a) = c := by
  induction l with
  | nil => exact absurd hk List.not_mem_nil
  | cons j l ih =>
    intro a ha hb
    obtain ⟨hj, hl⟩ := List.nodup_cons.mp hl
    rw [List.foldl_cons]
    by_cases hjk : j = k
    · subst hjk
      refine List.foldlRecOn (motive := fun e => read e = c) _ _ (hown a ha hb) fun e he i hi => ?_
      rw [hother e i fun h => hj (h ▸ hi), he]
    · exact ih hl ((List.mem_cons.mp hk).resolve_left (Ne.symm hjk)) _ (hinv a j ha) ((hother a j hjk).trans hb)

/-- A reading that no step changes. -/
theorem foldl_kept {α β γ : Type} (step : α → γ → α) (read : α → β) (h : ∀ a j, read (step a j) = read a) (l : List γ)
    (a : α) : read (l.foldl step a) = read a :=
  List.foldlRecOn (motive := fun e => read e = read a) _ _ rfl fun e he j _ => (h e j).trans he

/-- A bit below the width of a field is kept in it. -/
theorem bitOf_mod_two_pow {v n i : Nat} (h : i < n) : bitOf (v % 2 ^ n) i = bitOf v i := by
  obtain ⟨m, rfl⟩ : ∃ m, n = i + (m + 1) := ⟨n - i - 1, by omega⟩
  rw [bitOf, bitOf, pow_add, Nat.mod_mul_right_div_self, Nat.mod_mod_of_dvd _ (dvd_pow_self 2 (Nat.succ_ne_zero m))]

/-! ### Registers that stay -/

section
variable {d e : Dev}

theorem Dev.get_of_regs (h : e.regs = d.regs) (g : Fld) : e.get g = d.get g :=
  Dev.get_of_word (by rw [Dev.word, Dev.word, h])

theorem Dev.flag_of_regs (h : e.regs = d.regs) (g : Fld) : e.flag g = d.flag g := by
  rw [Dev.flag, Dev.get_of_regs h, Dev.flag]

/-- Grove's own state takes no part in what a register reads. -/
theorem Dev.get_withGv (d : Dev) (x : GvSt) (g : Fld) : Dev.get { d with gv := x } g = d.get g := rfl

theorem Dev.word_withGv (d : Dev) (x : GvSt) (a : Nat) : Dev.word { d with gv := x } a = d.word a := rfl

theorem Dev.healthy_of_get (h : e.get F.GV_ENG_STAT_RETIRED = d.get F.GV_ENG_STAT_RETIRED) (k : Nat) :
    e.healthy k = d.healthy k := by
  rw [Dev.healthy, h, Dev.healthy]

theorem Dev.calThread_of_regs (h : e.regs = d.regs) (t : Nat) : e.calThread t = d.calThread t := by
  rw [Dev.calThread, Dev.flag_of_regs h, Dev.get_of_regs h, Dev.calThread]

end

/-! ### A halt (R111) -/

section
variable {d : Dev} {t k : Nat}

theorem Dev.haltInst_reads : ((d.haltInst t).thr t).inst = none ∧ ∀ k, k ≠ t → (d.haltInst t).thr k = d.thr k := by
  unfold Dev.haltInst
  cases hi : (d.thr t).inst with
  | none => exact ⟨hi, fun _ _ => rfl⟩
  | some x =>
    dsimp only
    refine ⟨?_, fun k hk => ?_⟩
    · rw [Dev.thr_endItem, Dev.thr_modThr_same]
    · rw [Dev.thr_endItem, Dev.thr_modThr_other hk]

theorem Dev.haltThread_reads : ((d.haltThread t).thr t).st = .halted ∧ ((d.haltThread t).thr t).inst = none ∧
    ∀ k, k ≠ t → (d.haltThread t).thr k = d.thr k := by
  obtain ⟨hinst, hother⟩ := Dev.haltInst_reads (d := d) (t := t)
  unfold Dev.haltThread
  rw [Dev.thr_modThr_same]
  exact ⟨rfl, hinst, fun k hk => (Dev.thr_modThr_other hk).trans (hother k hk)⟩

theorem Dev.sparesEngines.haltThread (d : Dev) (t : Nat) : d.sparesEngines (d.haltThread t) := by
  refine trans ?_ (modThr _ t _ fun _ h => h)
  unfold Dev.haltInst
  split
  · exact refl d
  · exact (withoutInst d t).trans (endItem _ _ _)

theorem Dev.sparesEngines.haltAll (d : Dev) : d.sparesEngines d.haltAll :=
  List.foldlRecOn (motive := fun e => d.sparesEngines e) _ _ (refl d) fun e he t _ => he.trans (haltThread e t)

/-- R111: after a halt no thread runs or holds an `Instance`. -/
theorem Dev.haltAll_halts (ht : t < 128) : (d.haltAll.thr t).st = .halted ∧ (d.haltAll.thr t).inst = none := by
  have hmem : t ∈ List.range 128 := List.mem_range.mpr ht
  have hl : (List.range 128).Nodup := List.nodup_range
  have hother : ∀ (a : Dev) j, j ≠ t → (a.haltThread j).thr t = a.thr t := fun a j hj => Dev.haltThread_reads.2.2 t hj.symm
  rw [Dev.haltAll]
  generalize List.range 128 = l at hmem hl
  exact ⟨foldl_once Dev.haltThread (fun _ => True) (fun a => (a.thr t).st) hl hmem (fun _ _ _ => trivial)
      (fun a j hj => congrArg ThreadCtx.st (hother a j hj)) (fun _ _ _ => Dev.haltThread_reads.1) d trivial rfl,
    foldl_once Dev.haltThread (fun _ => True) (fun a => (a.thr t).inst) hl hmem (fun _ _ _ => trivial)
      (fun a j hj => congrArg ThreadCtx.inst (hother a j hj)) (fun _ _ _ => Dev.haltThread_reads.2.1) d trivial rfl⟩

end

/-! ### A start (R111) -/

/-- R111, R125: the state in which thread t begins when RUN is set. -/
def Dev.runSt (d : Dev) (init : Bool) (t : Nat) : ThreadSt :=
  if !d.healthy (t / 8) || (!init && d.calThread t) then .halted else if init then .selftest else .ready

/-- R111: thread t is cleared when RUN is set. -/
def Dev.runThread (init : Bool) (d : Dev) (t : Nat) : Dev :=
  (d.clearData t).modThr t (fun c => freshThread c ((d.clearData t).runSt init t))

/-- R111, R125: the engines run, and the initial test begins where it has not been passed. -/
def Dev.running (d : Dev) : Dev :=
  { d.put F.GV_ENG_CTRL_RUN 1 with gv := { d.gv with initTest := !d.flag F.GV_ROT_STAT_INIT_DONE } }

section
variable {d : Dev} {t : Nat}

theorem Dev.runStart_eq : d.runStart = (List.range 128).foldl (Dev.runThread (!d.flag F.GV_ROT_STAT_INIT_DONE)) d.running := by
  have hinit : (d.put F.GV_ENG_CTRL_RUN 1).flag F.GV_ROT_STAT_INIT_DONE = d.flag F.GV_ROT_STAT_INIT_DONE :=
    Dev.flag_put_apart d F.GV_ENG_CTRL_RUN _ _ (by decide) (.inl (by decide))
  unfold Dev.runStart
  dsimp only
  rw [hinit]
  rfl

theorem Dev.runSt_of_regs {e : Dev} (h : e.regs = d.regs) (init : Bool) (t : Nat) : e.runSt init t = d.runSt init t := by
  rw [Dev.runSt, Dev.healthy_of_get (Dev.get_of_regs h _), Dev.calThread_of_regs h, Dev.runSt]

/-- R111: a thread of a healthy engine, other than the calendar's, begins to run or is under test. -/
theorem Dev.runSt_running (init : Bool) (hh : d.healthy (t / 8) = true) (hc : d.calThread t = false) :
    d.running.runSt init t = if init then .selftest else .ready := by
  have hget : ∀ g : Fld, g.addr ≠ R.GV_ENG_CTRL → d.running.get g = d.get g := fun g hg =>
    Dev.get_put_other d F.GV_ENG_CTRL_RUN g 1 hg
  have hcal : d.running.calThread t = d.calThread t := by
    rw [Dev.calThread, Dev.flag, hget _ (by decide), hget _ (by decide), ← Dev.flag, Dev.calThread]
  rw [Dev.runSt, Dev.healthy_of_get (hget _ (by decide)), hcal, hh, hc, Bool.and_false, Bool.not_true, Bool.or_self,
    if_neg Bool.false_ne_true]

/-- R111: each thread is cleared, a pending wake excepted. -/
theorem Dev.runStart_thr (ht : t < 128) :
    d.runStart.thr t = freshThread (d.thr t) (d.running.runSt (!d.flag F.GV_ROT_STAT_INIT_DONE) t) := by
  rw [Dev.runStart_eq]
  refine foldl_once (Dev.runThread _) (fun a => a.regs = d.running.regs) (fun a => a.thr t) (b := d.running.thr t)
    List.nodup_range (List.mem_range.mpr ht) (fun _ _ h => h) (fun a j hj => Dev.thr_modThr_other hj.symm)
    (fun a ha hb => ?_) _ rfl rfl
  have ha' : (a.clearData t).regs = d.running.regs := ha
  have hb' : (a.clearData t).thr t = d.thr t := hb
  rw [Dev.runThread, Dev.thr_modThr_same, Dev.runSt_of_regs ha', hb']

theorem Dev.runStart_reads : d.runStart.flag F.GV_ENG_CTRL_RUN = true ∧
    d.runStart.gv.initTest = (!d.flag F.GV_ROT_STAT_INIT_DONE) ∧ d.runStart.gv.pdu = d.gv.pdu := by
  rw [Dev.runStart_eq, Dev.flag_of_regs (foldl_kept (Dev.runThread _) Dev.regs (fun _ _ => rfl) _ d.running),
    foldl_kept (Dev.runThread _) (fun a => a.gv.initTest) (fun _ _ => rfl) _ d.running,
    foldl_kept (Dev.runThread _) (fun a => a.gv.pdu) (fun _ _ => rfl) _ d.running]
  exact ⟨Dev.get_of_eq (Dev.get_put d F.GV_ENG_CTRL_RUN 1 (by decide)) rfl, rfl, rfl⟩

end

/-! ### Retirement (R124) -/

section
variable {d : Dev} {e k : Nat}

/-- R124: every thread of engine e ends its `Instance` and halts. -/
def Dev.threadsRetired (d : Dev) (e : Nat) : Dev :=
  (List.range 8).foldl (fun (a : Dev) k => (a.abortInst (8 * e + k)).modThr (8 * e + k) (fun c => { c with st := .halted })) d

theorem Dev.sparesEngines.threadsRetired (d : Dev) (e : Nat) : d.sparesEngines (d.threadsRetired e) :=
  List.foldlRecOn (motive := fun a => d.sparesEngines a) _ _ (refl d) fun a ha k _ =>
    (ha.trans (abortInst a (8 * e + k))).trans (modThr _ _ _ fun _ h => h)

/-- R122, R124: engine e shows as retired; a turn of its own ends. -/
def Dev.retiredShown (d : Dev) (e : Nat) : Dev :=
  if d.resting e then
    { (d.put F.GV_ENG_STAT_RETIRED (setBit (d.get F.GV_ENG_STAT_RETIRED) e)).put F.GV_ROT_STAT_PHASE 0 with
      gv := { d.gv with next := (e + 1) % 16, again := false } }
  else d.put F.GV_ENG_STAT_RETIRED (setBit (d.get F.GV_ENG_STAT_RETIRED) e)

theorem Dev.retiredShown_reads : (d.retiredShown e).get F.GV_ENG_STAT_RETIRED =
    setBit (d.get F.GV_ENG_STAT_RETIRED) e % 2 ^ 16 ∧ (d.retiredShown e).gv.initTest = d.gv.initTest := by
  have hput := Dev.get_put d F.GV_ENG_STAT_RETIRED (setBit (d.get F.GV_ENG_STAT_RETIRED) e) (by decide)
  unfold Dev.retiredShown
  cases d.resting e with
  | false =>
    rw [if_neg Bool.false_ne_true]
    exact ⟨hput, by rw [Dev.put_gv]⟩
  | true =>
    rw [if_pos rfl]
    refine ⟨?_, rfl⟩
    rw [Dev.get_withGv, Dev.get_put_other _ F.GV_ROT_STAT_PHASE F.GV_ENG_STAT_RETIRED 0 (by decide), hput]
    rfl

theorem Dev.retire_healthy (h : d.healthy e = true) :
    d.retire e = (((d.threadsRetired e).retiredShown e).raise (.gv (3 + e)) 2).report 5 (e * 2 ^ 8) := by
  rw [Dev.retire, if_pos h]
  rfl

theorem Dev.retire_retired (h : d.healthy e = false) : d.retire e = d := by
  rw [Dev.retire, h, if_neg Bool.false_ne_true]

/-- R124: the engine and no other is retired. -/
theorem Dev.healthy_retire (hk : k < 16) : (d.retire e).healthy k = (d.healthy k && !decide (k = e)) := by
  cases h : d.healthy e with
  | false =>
    rw [Dev.retire_retired h]
    by_cases hke : k = e
    · rw [hke, h, Bool.false_and]
    · rw [decide_eq_false hke, Bool.not_false, Bool.and_true]
  | true =>
    have hspared := (Dev.sparesEngines.threadsRetired d e).get (g := F.GV_ENG_STAT_RETIRED) (by simp only [engineBody]; decide)
    have hbits : (d.retire e).get F.GV_ENG_STAT_RETIRED = setBit (d.get F.GV_ENG_STAT_RETIRED) e % 2 ^ 16 := by
      rw [Dev.retire_healthy h, Dev.report_get, Dev.get_of_word (Dev.word_raise_of_body _ _ _ (by decide)),
        Dev.retiredShown_reads.1, hspared]
    rw [Dev.healthy, hbits, bitOf_mod_two_pow hk, Dev.healthy]
    by_cases hke : k = e
    · rw [hke, bitOf_setBit, decide_eq_true rfl, Bool.not_true, Bool.and_false]
    · rw [bitOf_setBit_other _ _ _ hke, decide_eq_false hke, Bool.not_false, Bool.and_true]

theorem Dev.retire_initTest : (d.retire e).gv.initTest = d.gv.initTest := by
  cases h : d.healthy e with
  | false => rw [Dev.retire_retired h]
  | true =>
    rw [Dev.retire_healthy h, Dev.report_gv, Dev.raise_gv, Dev.retiredShown_reads.2, (Dev.sparesEngines.threadsRetired d e).initTest]

end

end Sys2Proof.Machine
end

section
/-! Running and halting the engines, their initial test, the image loader and the local memory window (R111, R125,
R126). -/

namespace Sys2Proof.Machine
open Sys2Proof

/-! ### Rows of Grove's page 2 -/

section
variable {s : State} {i : Init} {addr : Nat} {v : Word} {d d' : Dev} {ident : List Byte}

section
variable (hb : 0x40 ≤ addr % 0x1000)
include hb

theorem Dev.pageWrite_gv2 : d.pageWrite ident i (.gv 2) addr v = d.gvWrite 2 i addr v := by
  unfold Dev.pageWrite
  dsimp only
  rw [if_neg (Nat.not_lt.mpr hb)]

variable (hp : addr / 0x1000 = 0x802) (hr : s.dev.reaches i addr = some d) (hl : d.lockedWrite addr v = false)
include hp hr hl

theorem gv2Row_taken (hj : d.gvWrite 2 i addr v = .ok d') : s.dev.anyRow ident i addr v = d' :=
  Dev.anyRow_page _ d _ _ i _ _ (.gv 2) (addr % 0x1000) (by decide) (by omega) (by simp only [pageBase]; omega)
    (by simp only [R.GV_TCMD]; omega) hr hl ((Dev.pageWrite_gv2 hb).trans hj)

theorem gv2Row_refused {code : Nat} (hj : d.gvWrite 2 i addr v = .no code) :
    s.dev.anyRow ident i addr v = d.failWrite i addr v code :=
  Dev.anyRow_page_refused _ d _ i _ _ (.gv 2) (addr % 0x1000) _ (by decide) (by omega) (by simp only [pageBase]; omega)
    (by simp only [R.GV_TCMD]; omega) hr hl ((Dev.pageWrite_gv2 hb).trans hj)

end

theorem Dev.gvWrite_engCtrl : d.gvWrite 2 i R.GV_ENG_CTRL v = d.engCtrlWrite v := by
  rw [Dev.gvWrite, if_neg (by decide), if_pos rfl]

theorem Dev.gvWrite_rotCmd : d.gvWrite 2 i R.GV_ROT_CMD v = d.rotCmdWrite v := by
  rw [Dev.gvWrite, if_neg (by decide), if_neg (by decide), if_pos rfl]

theorem Dev.gvWrite_loadCtrl : d.gvWrite 2 i R.GV_LOAD_CTRL v = d.loadWrite i v := by
  rw [Dev.gvWrite, if_neg (by decide), if_neg (by decide), if_neg (by decide), if_pos rfl]

theorem Dev.gvWrite_lmData : d.gvWrite 2 i R.GV_LM_DATA v = d.lmWrite v := by
  rw [Dev.gvWrite, if_neg (by decide), if_neg (by decide), if_neg (by decide), if_neg (by decide), if_pos rfl]

end

/-! ### RUN (R111, R127) -/

section
variable {d : Dev}

theorem Dev.engCtrlWrite_run (h : d.flag F.GV_ENG_CTRL_RUN = false) : d.engCtrlWrite 1 = .ok d.runStart := by
  have hrun : (newField 1 F.GV_ENG_CTRL_RUN == 1) = true := by decide
  rw [Dev.engCtrlWrite, hrun, h]
  rfl

/-- R111: RUN = 0 is taken in M8 or with Grove disabled. -/
theorem Dev.engCtrlWrite_halt (h : d.flag F.GV_ENG_CTRL_RUN = true) :
    d.engCtrlWrite 0 = refuseIf (d.mode != 8 && d.enabled (.gv 0)) 0x0110 (.ok d.runStop) := by
  have hrun : (newField 0 F.GV_ENG_CTRL_RUN == 1) = false := by decide
  rw [Dev.engCtrlWrite, hrun, h]
  rfl

theorem Dev.runStop_reads : d.runStop.flag F.GV_ENG_CTRL_RUN = false ∧ d.runStop.gv.initTest = false ∧
    ∀ t < 128, (d.runStop.thr t).st = .halted ∧ (d.runStop.thr t).inst = none := by
  have hrun := (Dev.sparesEngines.haltAll (d.put F.GV_ENG_CTRL_RUN 0)).get (g := F.GV_ENG_CTRL_RUN)
    (by simp only [engineBody]; decide)
  have hthr : ∀ t < 128, _ := fun t ht => Dev.haltAll_halts (d := d.put F.GV_ENG_CTRL_RUN 0) (t := t) ht
  rw [Dev.get_put d F.GV_ENG_CTRL_RUN 0 (by decide)] at hrun
  unfold Dev.runStop
  generalize (d.put F.GV_ENG_CTRL_RUN 0).haltAll = e at hrun hthr
  exact ⟨Dev.get_of_eq hrun rfl, rfl, hthr⟩

end

/-! ### The initial test (R124, R125) -/

/-- R125: the failed engines are retired. -/
def Dev.failedRetired (d : Dev) (failed : Nat) : Dev :=
  (List.range 16).foldl (fun (a : Dev) e => if bitOf failed e then a.retire e else a)
    { d with gv := { d.gv with initTest := false } }

/-- R125, R327: the engines count as tested at the present instant. -/
def Dev.allTested (d : Dev) : Dev :=
  (List.range 16).foldl (fun (a : Dev) e => { a with gv := { a.gv with tested := tset a.gv.tested e a.testTime } }) d

/-- R111, R125: a thread of a healthy engine starts, and the calendar's halts. -/
def Dev.beginThread (d : Dev) (t : Nat) : Dev :=
  if d.healthy (t / 8) then (if d.calThread t then d.modThr t (fun c => { c with st := .halted }) else d.startThread t) else d

section
variable {d : Dev} {failed e : Nat}

theorem Dev.initTestDone_runs (hi : d.gv.initTest = true) (hr : d.released (.gv 2) = true) : d.initTestDone failed =
    (List.range 128).foldl Dev.beginThread ((d.failedRetired failed).put F.GV_ROT_STAT_INIT_DONE 1).allTested := by
  rw [Dev.initTestDone, hi, hr, Bool.and_self, if_pos rfl]
  rfl

theorem Dev.initTestDone_idle (hi : d.gv.initTest = false) : d.initTestDone failed = d := by
  rw [Dev.initTestDone, hi, Bool.false_and, if_neg Bool.false_ne_true]

theorem Dev.failedRetired_initTest : (d.failedRetired failed).gv.initTest = false := by
  rw [Dev.failedRetired]
  refine foldl_kept _ (fun a : Dev => a.gv.initTest) (fun a e => ?_) (List.range 16) _
  split
  · exact Dev.retire_initTest
  · rfl

/-- R124: exactly the engines that failed are retired. -/
theorem Dev.failedRetired_healthy (he : e < 16) :
    (d.failedRetired failed).healthy e = (d.healthy e && !bitOf failed e) := by
  have hmem : e ∈ List.range 16 := List.mem_range.mpr he
  have hl : (List.range 16).Nodup := List.nodup_range
  rw [Dev.failedRetired]
  generalize List.range 16 = l at hmem hl
  refine foldl_once _ (fun _ => True) (fun a : Dev => a.healthy e) hl hmem (fun _ _ _ => trivial) (fun a j hj => ?_)
    (fun a _ ha => ?_) _ trivial rfl
  · split
    · rw [Dev.healthy_retire he, decide_eq_false hj.symm, Bool.not_false, Bool.and_true]
    · rfl
  · have ha' : a.healthy e = d.healthy e := ha
    cases hb : bitOf failed e with
    | true => rw [if_pos rfl, Dev.healthy_retire he, ha', decide_eq_true rfl]
    | false => rw [if_neg Bool.false_ne_true, ha', Bool.not_false, Bool.and_true]

theorem Dev.allTested_beside : d.allTested.regs = d.regs ∧ d.allTested.gv.initTest = d.gv.initTest := by
  unfold Dev.allTested
  generalize List.range 16 = l
  exact ⟨foldl_kept _ Dev.regs (fun _ _ => by rfl) l d, foldl_kept _ (fun a : Dev => a.gv.initTest) (fun _ _ => by rfl) l d⟩

theorem Dev.beginThread_beside (t : Nat) : (d.beginThread t).regs = d.regs ∧ (d.beginThread t).gv.initTest = d.gv.initTest := by
  unfold Dev.beginThread
  split
  · split
    · exact ⟨rfl, rfl⟩
    · exact ⟨rfl, rfl⟩
  · exact ⟨rfl, rfl⟩

theorem Dev.initTestDone_reads (hi : d.gv.initTest = true) (hr : d.released (.gv 2) = true) :
    (d.initTestDone failed).flag F.GV_ROT_STAT_INIT_DONE = true ∧ (d.initTestDone failed).gv.initTest = false ∧
    ∀ e < 16, (d.initTestDone failed).healthy e = (d.healthy e && !bitOf failed e) := by
  have hregs : (d.initTestDone failed).regs = ((d.failedRetired failed).put F.GV_ROT_STAT_INIT_DONE 1).regs := by
    rw [Dev.initTestDone_runs hi hr, foldl_kept _ Dev.regs (fun a t => (Dev.beginThread_beside (d := a) t).1),
      Dev.allTested_beside.1]
  refine ⟨?_, ?_, fun e he => ?_⟩
  · rw [Dev.flag_of_regs hregs]
    exact Dev.get_of_eq (Dev.get_put _ F.GV_ROT_STAT_INIT_DONE 1 (by decide)) rfl
  · rw [Dev.initTestDone_runs hi hr, foldl_kept _ (fun a : Dev => a.gv.initTest)
      (fun a t => (Dev.beginThread_beside (d := a) t).2), Dev.allTested_beside.2, Dev.put_gv, Dev.failedRetired_initTest]
  · rw [Dev.healthy_of_get (Dev.get_of_regs hregs _), Dev.healthy_of_get (Dev.get_put_other _ _ _ 1 (by decide)),
      Dev.failedRetired_healthy he]

end

/-! ### The loader (R126) -/

/-- R126: the loader shows a state, and GO as given. -/
def Dev.loadShown (d : Dev) (go state : Nat) : Dev := (d.put F.GV_LOAD_CTRL_GO go).put F.GV_LOAD_CTRL_STATE state

section
variable {d : Dev} {go state : Nat}

theorem Dev.loadShown_reads : (d.loadShown go state).get F.GV_LOAD_CTRL_STATE = state % 2 ^ 3 ∧
    (d.loadShown go state).get F.GV_LOAD_CTRL_GO = go % 2 ^ 1 ∧ (d.loadShown go state).gv = d.gv ∧
    ∀ a, a ≠ R.GV_LOAD_CTRL → (d.loadShown go state).word a = d.word a := by
  refine ⟨?_, ?_, ?_, fun a ha => ?_⟩
  · exact Dev.get_put _ F.GV_LOAD_CTRL_STATE state (by decide)
  · rw [Dev.loadShown, Dev.get_put_beside _ F.GV_LOAD_CTRL_STATE F.GV_LOAD_CTRL_GO _ (by decide) (by decide)]
    exact Dev.get_put _ F.GV_LOAD_CTRL_GO go (by decide)
  · rw [Dev.loadShown, Dev.put_gv, Dev.put_gv]
  · rw [Dev.loadShown, Dev.word_put_other _ F.GV_LOAD_CTRL_STATE _ _ ha, Dev.word_put_other _ F.GV_LOAD_CTRL_GO _ _ ha]

end

/-- R126: the number of bytes that the loader copies. -/
def goodLength (n : Nat) : Prop := n ≠ 0 ∧ n % 64 = 0 ∧ n ≤ 196608

/-- R126: the loader is started by `who`. -/
def Dev.loadStarted (d : Dev) (who : Init) : Dev :=
  { d.loadShown 1 1 with gv := { d.gv with loadRetry := false, loadFw := who == .mc } }

/-- R126: the word of GV_LOAD_START. -/
def loadWord : Word := cmdWord [(F.GV_LOAD_CTRL_GO, 1)]

section
variable {d : Dev} {who : Init}

/-- R126: a start is judged by RUN and by the length. -/
theorem Dev.loadWrite_go (hs : d.get F.GV_LOAD_CTRL_STATE ≠ 1) : d.loadWrite who loadWord =
    refuseIf (d.flag F.GV_ENG_CTRL_RUN || d.get F.GV_LOAD_LEN_BYTES == 0 || d.get F.GV_LOAD_LEN_BYTES % 64 != 0 ||
      decide (196608 < d.get F.GV_LOAD_LEN_BYTES)) 0x0110 (.ok (d.loadStarted who)) := by
  have hgo : newField loadWord F.GV_LOAD_CTRL_GO ≠ 0 := by decide
  unfold Dev.loadWrite
  dsimp only
  rw [if_neg (not_or.mpr ⟨hgo, hs⟩)]
  rfl

theorem Dev.loadWrite_taken (hs : d.get F.GV_LOAD_CTRL_STATE ≠ 1) (hr : d.flag F.GV_ENG_CTRL_RUN = false)
    (hn : goodLength (d.get F.GV_LOAD_LEN_BYTES)) : d.loadWrite who loadWord = .ok (d.loadStarted who) := by
  obtain ⟨h0, h64, hmax⟩ := hn
  rw [Dev.loadWrite_go hs, hr, beq_eq_false_iff_ne.mpr h0, h64, bne_self_eq_false, decide_eq_false (Nat.not_lt.mpr hmax)]
  rfl

theorem Dev.loadWrite_refused (hs : d.get F.GV_LOAD_CTRL_STATE ≠ 1)
    (hno : d.flag F.GV_ENG_CTRL_RUN = true ∨ d.get F.GV_LOAD_LEN_BYTES = 0 ∨ d.get F.GV_LOAD_LEN_BYTES % 64 ≠ 0 ∨
      196608 < d.get F.GV_LOAD_LEN_BYTES) : d.loadWrite who loadWord = .no 0x0110 := by
  have hc : (d.flag F.GV_ENG_CTRL_RUN || d.get F.GV_LOAD_LEN_BYTES == 0 || d.get F.GV_LOAD_LEN_BYTES % 64 != 0 ||
      decide (196608 < d.get F.GV_LOAD_LEN_BYTES)) = true := by
    simpa only [Bool.or_eq_true, beq_iff_eq, bne_iff_ne, decide_eq_true_eq, or_assoc] using hno
  rw [Dev.loadWrite_go hs, hc]
  rfl

theorem Dev.loadStarted_reads : (d.loadStarted who).get F.GV_LOAD_CTRL_STATE = 1 ∧
    (d.loadStarted who).flag F.GV_LOAD_CTRL_GO = true ∧
    ∀ a, a ≠ R.GV_LOAD_CTRL → (d.loadStarted who).word a = d.word a := by
  obtain ⟨hstate, hgo, -, hword⟩ := Dev.loadShown_reads (d := d) (go := 1) (state := 1)
  unfold Dev.loadStarted
  refine ⟨?_, ?_, fun a ha => ?_⟩
  · rw [Dev.get_withGv, hstate]
    rfl
  · rw [Dev.flag, Dev.get_withGv, hgo]
    rfl
  · rw [Dev.word_withGv, hword a ha]

end

/-! ### The copy (R126) -/

theorem slice_length (bs : List Byte) (off n : Nat) : (Sys2Proof.Machine.slice bs off n).length = n := by
  rw [Sys2Proof.Machine.slice, List.length_append, List.length_replicate, List.length_take]
  omega

/-- R126: words written from word a on are the bytes, little-endian, and no others change. -/
theorem tget_writeWords : ∀ (fuel : Nat) (bs : List Byte) (lm : Tab Word) (a k : Nat), bs.length ≤ fuel →
    tget (writeWords lm a bs fuel) k = if a ≤ k ∧ 4 * (k - a) < bs.length then
      BitVec.ofNat 32 (leNat ((bs.drop (4 * (k - a))).take 4)) else tget lm k
  | 0, bs, lm, a, k, h => by
    rw [writeWords, if_neg (by omega)]
  | fuel + 1, bs, lm, a, k, h => by
    rw [writeWords]
    by_cases hbs : bs = []
    · rw [if_pos hbs, if_neg (by rw [hbs, List.length_nil]; omega)]
    · have hpos := List.length_pos_of_ne_nil hbs
      rw [if_neg hbs, tget_writeWords fuel _ _ _ k (by rw [List.length_drop]; omega), List.length_drop, List.drop_drop]
      obtain hlt | rfl | hgt := Nat.lt_trichotomy k a
      · rw [if_neg (by omega), if_neg (by omega), tget_tset_other _ _ _ _ (by omega)]
      · rw [if_neg (by omega), if_pos (by omega), tget_tset_same, Nat.sub_self, Nat.mul_zero, List.drop_zero]
      · rw [tget_tset_other _ _ _ _ (by omega), show 4 + 4 * (k - (a + 1)) = 4 * (k - a) by omega]
        by_cases hin : 4 * (k - a) < bs.length
        · rw [if_pos (by omega), if_pos (by omega)]
        · rw [if_neg (by omega), if_neg (by omega)]

/-- R126: the bytes that the loader copies. -/
def Dev.loadBytes (d : Dev) (bytes : List Byte) : List Byte :=
  Sys2Proof.Machine.slice bytes 0 (d.get F.GV_LOAD_LEN_BYTES)

/-- R126: local memory once the bytes stand in every healthy engine. -/
def Dev.loadedLm (d : Dev) (bs : List Byte) : Tab Word :=
  (List.range 16).foldl (fun lm e => if d.healthy e then writeWords lm (65536 * e) bs bs.length else lm) d.gv.lm

/-- R126: the device whose healthy engines hold the bytes. -/
def Dev.loadCopied (d : Dev) (bs : List Byte) : Dev :=
  ({ d with gv := { d.gv with lm := d.loadedLm bs } }).wordsWritten
    (fun w => w.1 == 5 && d.healthy w.2.1 && decide (4 * w.2.2 < bs.length))

/-- R126: the copy is made once more. -/
def Dev.loadAgain (d : Dev) : Dev := { d with gv := { d.gv with loadRetry := true } }

theorem Dev.loadAgain_reads (d : Dev) : d.loadAgain.gv.loadRetry = true ∧ d.loadAgain.regs = d.regs := ⟨rfl, rfl⟩

/-- R126, R314: the copy has the checksum of GV_LOAD_CRC, and begins with the code where that is known. -/
def Dev.loadGood (d : Dev) (code : Option (List Byte)) (bytes : List Byte) : Prop :=
  crc32c (d.loadBytes bytes) = d.get F.GV_LOAD_CRC_CRC ∧
    code.all (fun c => (d.loadBytes bytes).take c.length == c) = true

theorem Dev.not_loadGood {d : Dev} {code : Option (List Byte)} {bytes : List Byte}
    (h : crc32c (d.loadBytes bytes) ≠ d.get F.GV_LOAD_CRC_CRC ∨
      code.all (fun c => (d.loadBytes bytes).take c.length == c) = false) : ¬d.loadGood code bytes := by
  rintro ⟨hcrc, hcode⟩
  rcases h with h | h
  · exact h hcrc
  · exact absurd (hcode.symm.trans h) (by decide)

section
variable {d : Dev} {code : Option (List Byte)} {bytes : List Byte} {e w : Nat}

theorem Dev.loadedLm_word {bs : List Byte} (he : e < 16) (hh : d.healthy e = true) (hw : 4 * w < bs.length)
    (hmax : bs.length ≤ 196608) :
    tget (d.loadedLm bs) (65536 * e + w) = BitVec.ofNat 32 (leNat ((bs.drop (4 * w)).take 4)) := by
  have hmem : e ∈ List.range 16 := List.mem_range.mpr he
  have hl : (List.range 16).Nodup := List.nodup_range
  rw [Dev.loadedLm]
  generalize List.range 16 = l at hmem hl
  refine foldl_once _ (fun _ => True) (fun lm : Tab Word => tget lm (65536 * e + w)) hl hmem (fun _ _ _ => trivial)
    (fun lm j hj => ?_) (fun lm _ _ => ?_) _ trivial rfl
  · split
    · rw [tget_writeWords _ _ _ _ _ (Nat.le_refl _), if_neg (by omega)]
    · rfl
  · rw [if_pos hh, tget_writeWords _ _ _ _ _ (Nat.le_refl _), if_pos (by omega), Nat.add_sub_cancel_left]

theorem Dev.loadDone_running (hs : d.get F.GV_LOAD_CTRL_STATE = 1) (hr : d.flag F.GV_ENG_CTRL_RUN = true) :
    d.loadDone code bytes = d.loadShown 0 3 := by
  rw [Dev.loadDone, if_pos ⟨hs, hr⟩, Dev.loadShown]

theorem Dev.loadDone_idle (hs : d.get F.GV_LOAD_CTRL_STATE ≠ 1) : d.loadDone code bytes = d := by
  rw [Dev.loadDone, if_neg fun h => hs h.1, if_neg hs]

section
variable (hs : d.get F.GV_LOAD_CTRL_STATE = 1) (hr : d.flag F.GV_ENG_CTRL_RUN = false)
include hs hr

theorem Dev.loadDone_good (hg : d.loadGood code bytes) :
    d.loadDone code bytes = (d.loadCopied (d.loadBytes bytes)).loadShown 0 2 := by
  unfold Dev.loadDone
  rw [if_neg (by simp [hr]), if_pos hs]
  exact if_pos hg

theorem Dev.loadDone_bad (hg : ¬d.loadGood code bytes) : d.loadDone code bytes =
    if d.gv.loadRetry then (d.loadCopied (d.loadBytes bytes)).loadShown 0 3
    else (d.loadCopied (d.loadBytes bytes)).loadAgain := by
  unfold Dev.loadDone
  rw [if_neg (by simp [hr]), if_pos hs]
  exact if_neg hg

end

theorem Dev.loadCopied_reads (bs : List Byte) : (d.loadCopied bs).regs = d.regs ∧
    (d.loadCopied bs).gv = { d.gv with lm := d.loadedLm bs } := ⟨rfl, rfl⟩

end

/-! ### The end of a load (R126, R314, R315) -/

/-- R314: the code that a load takes. -/
def Dev.loadCode (d : Dev) : Option (List Byte) := if d.gv.loadFw then d.slotCode else none

section
variable {d : Dev} {code : Option (List Byte)} {bytes : List Byte}

theorem Dev.word_loadCopied (bs : List Byte) (a : Nat) : (d.loadCopied bs).word a = d.word a := by
  rw [Dev.word, (Dev.loadCopied_reads bs).1, Dev.word]

/-- R126: of the registers the end of a copy changes GV_LOAD_CTRL alone. -/
theorem Dev.word_loadDone {a : Nat} (ha : a ≠ R.GV_LOAD_CTRL) : (d.loadDone code bytes).word a = d.word a := by
  by_cases hs : d.get F.GV_LOAD_CTRL_STATE = 1
  · cases hr : d.flag F.GV_ENG_CTRL_RUN with
    | true => rw [Dev.loadDone_running hs hr, Dev.loadShown_reads.2.2.2 a ha]
    | false =>
      by_cases hg : d.loadGood code bytes
      · rw [Dev.loadDone_good hs hr hg, Dev.loadShown_reads.2.2.2 a ha, Dev.word_loadCopied]
      · rw [Dev.loadDone_bad hs hr hg]
        split
        · rw [Dev.loadShown_reads.2.2.2 a ha, Dev.word_loadCopied]
        · rw [Dev.word, (Dev.loadAgain_reads _).2, ← Dev.word, Dev.word_loadCopied]
  · rw [Dev.loadDone_idle hs]

theorem Dev.sapState_loadDone : (d.loadDone code bytes).sapState = d.sapState :=
  Dev.get_of_word (Dev.word_loadDone (by decide))

/-- R126: outside an activation a load ends as its copy does. -/
theorem Dev.loadEnds_plain (hs : d.sapState ≠ 5) : d.loadEnds bytes = d.loadDone d.loadCode bytes := by
  unfold Dev.loadEnds
  dsimp only
  rw [← Dev.loadCode, Dev.sapState_loadDone, beq_eq_false_iff_ne.mpr hs, Bool.and_false, if_neg Bool.false_ne_true]

theorem Dev.loadEnds_idle (hs : d.get F.GV_LOAD_CTRL_STATE ≠ 1) : d.loadEnds bytes = d := by
  unfold Dev.loadEnds
  dsimp only
  rw [Dev.loadDone_idle hs, beq_eq_false_iff_ne.mpr hs, Bool.false_and, if_neg Bool.false_ne_true]

/-- R314, R315: in an activation the relay is told how the copy ended. -/
theorem Dev.loadEnds_activation {e : Dev} (hs : d.get F.GV_LOAD_CTRL_STATE = 1) (hsap : d.sapState = 5)
    (he : d.loadDone d.loadCode bytes = e) : d.loadEnds bytes =
      if e.get F.GV_LOAD_CTRL_STATE = 3 then e.sapRevert 1
      else if e.get F.GV_LOAD_CTRL_STATE = 2 then e.sapLoaded else e := by
  have hsap' : e.sapState = 5 := by rw [← he, Dev.sapState_loadDone, hsap]
  unfold Dev.loadEnds
  dsimp only
  rw [← Dev.loadCode, he, hs, hsap', beq_self_eq_true, beq_self_eq_true, Bool.and_self, if_pos rfl]

/-- R126: a first copy that fails is made once more, in an activation too. -/
theorem Dev.loadEnds_again (hs : d.get F.GV_LOAD_CTRL_STATE = 1) (hr : d.flag F.GV_ENG_CTRL_RUN = false)
    (hg : ¬d.loadGood d.loadCode bytes) (hfirst : d.gv.loadRetry = false) :
    (d.loadEnds bytes).gv.loadRetry = true ∧ (d.loadEnds bytes).regs = d.regs := by
  have hdone := Dev.loadDone_bad hs hr hg
  rw [hfirst, if_neg Bool.false_ne_true] at hdone
  have hregs : (d.loadDone d.loadCode bytes).regs = d.regs := by
    rw [hdone, (Dev.loadAgain_reads _).2, (Dev.loadCopied_reads _).1]
  have hsame : d.loadEnds bytes = d.loadDone d.loadCode bytes := by
    by_cases hsap : d.sapState = 5
    · rw [Dev.loadEnds_activation hs hsap rfl, Dev.get_of_regs hregs, hs, if_neg (by decide), if_neg (by decide)]
    · exact Dev.loadEnds_plain hsap
  exact ⟨by rw [hsame, hdone, (Dev.loadAgain_reads _).1], by rw [hsame, hregs]⟩

end

/-! ### The local memory window (R111) -/

/-- R111: the selected engines hold v at the word that GV_LM_ADDR names. -/
def Dev.lmStored (d : Dev) (v : Word) : Tab Word :=
  (List.range 16).foldl (fun lm e => if bitOf (d.get F.GV_LM_SEL_MASK) e then
    tset lm (65536 * e + d.get F.GV_LM_ADDR_ADDR) v else lm) d.gv.lm

/-- R111: the device once v is stored through the window. -/
def Dev.lmWritten (d : Dev) (v : Word) : Dev :=
  (({ d with gv := { d.gv with lm := d.lmStored v } }).wordsWritten
    (fun w => w.1 == 5 && bitOf (d.get F.GV_LM_SEL_MASK) w.2.1 && w.2.2 == d.get F.GV_LM_ADDR_ADDR)).put
      F.GV_LM_ADDR_ADDR (d.get F.GV_LM_ADDR_ADDR + 1)

section
variable {d : Dev} {v : Word} {e : Nat}

theorem Dev.lmWrite_eq : d.lmWrite v = refuseIf (d.flag F.GV_ENG_CTRL_RUN) 0x0110 (.ok (d.lmWritten v)) := rfl

theorem Dev.lmStored_word (he : e < 16) (hb : bitOf (d.get F.GV_LM_SEL_MASK) e = true) :
    tget (d.lmStored v) (65536 * e + d.get F.GV_LM_ADDR_ADDR) = v := by
  have hmem : e ∈ List.range 16 := List.mem_range.mpr he
  have hl : (List.range 16).Nodup := List.nodup_range
  rw [Dev.lmStored]
  generalize List.range 16 = l at hmem hl
  refine foldl_once _ (fun _ => True) (fun lm : Tab Word => tget lm (65536 * e + d.get F.GV_LM_ADDR_ADDR)) hl hmem
    (fun _ _ _ => trivial) (fun lm j hj => ?_) (fun lm _ _ => ?_) _ trivial rfl
  · split
    · exact tget_tset_other _ _ _ _ (by omega)
    · rfl
  · rw [if_pos hb, tget_tset_same]

theorem Dev.lmWritten_reads : (d.lmWritten v).gv.lm = d.lmStored v ∧
    (d.lmWritten v).get F.GV_LM_ADDR_ADDR = (d.get F.GV_LM_ADDR_ADDR + 1) % 2 ^ F.GV_LM_ADDR_ADDR.width ∧
    ∀ a, a ≠ R.GV_LM_ADDR → (d.lmWritten v).word a = d.word a := by
  unfold Dev.lmWritten
  refine ⟨?_, Dev.get_put _ F.GV_LM_ADDR_ADDR _ (by decide), fun a ha => ?_⟩
  · rw [Dev.put_gv, Dev.wordsWritten_gv]
  · rw [Dev.word_put_other _ F.GV_LM_ADDR_ADDR _ _ ha, Dev.wordsWritten_word, Dev.word_withGv]

end

/-! ### Rows -/

section
variable {s : State} {i : Init}

theorem exec_engineRun : exec (.engineRun i) s = .next (s.ends (s.dev.anyRow (idBlock s.id) i R.GV_ENG_CTRL 1)) :=
  act_eq_ends s (fun d => d.anyRow (idBlock s.id) i R.GV_ENG_CTRL 1)

theorem exec_engineHalt : exec (.engineHalt i) s = .next (s.ends (s.dev.anyRow (idBlock s.id) i R.GV_ENG_CTRL 0)) :=
  act_eq_ends s (fun d => d.anyRow (idBlock s.id) i R.GV_ENG_CTRL 0)

theorem exec_engineInitTestDone {failed : BitVec 16} : exec (.engineInitTestDone failed) s =
    .next (s.ends (s.dev.initTestDone failed.toNat)) := act_eq_ends s (fun d => d.initTestDone failed.toNat)

theorem exec_gvLoadStart : exec (.gvLoadStart i) s =
    .next (s.ends (s.dev.anyRow (idBlock s.id) i R.GV_LOAD_CTRL loadWord)) :=
  act_eq_ends s (fun d => d.anyRow (idBlock s.id) i R.GV_LOAD_CTRL loadWord)

theorem exec_gvLoadDone {bytes : List Byte} : exec (.gvLoadDone bytes) s = .next (s.ends (s.dev.loadEnds bytes)) :=
  act_eq_ends s (fun d => d.loadEnds bytes)

theorem exec_gvLmDataWrite {v : Word} : exec (.gvLmDataWrite i v) s =
    .next (s.ends (s.dev.anyRow (idBlock s.id) i R.GV_LM_DATA v)) :=
  act_eq_ends s (fun d => d.anyRow (idBlock s.id) i R.GV_LM_DATA v)

end

/-- Settles O17: a write is judged by its register's function and leaves what that function stores; the end of the
initial test and of a load by `Dev.initTestDone_reads` and by the four ends of `Dev.loadDone`. -/
theorem engineRunAndLoad : Obligations.EngineRunAndLoad := by
  unfold Obligations.EngineRunAndLoad
  refine ⟨?run, ?halt, ?haltNo, ?test, ?load, ?good, ?bad, ?again, ?running, ?activation, ?idle, ?loadNo, ?lmNo, ?lm,
    ?testIdle⟩
  case run =>
    intro s i d hr hl hrun
    obtain ⟨hflag, hinit, hpdu⟩ := Dev.runStart_reads (d := d)
    refine ⟨d.runStart, ?_, hflag, hinit, hpdu, fun t hh hc => ?_⟩
    · rw [exec_engineRun, gv2Row_taken (by decide) (by decide) hr hl
        (Dev.gvWrite_engCtrl.trans (Dev.engCtrlWrite_run hrun))]
    · rw [Dev.runStart_thr t.isLt, Dev.runSt_running _ hh hc, freshThread, gvEntry]
      cases d.flag F.GV_ROT_STAT_INIT_DONE with
      | true => rfl
      | false => rfl
  case halt =>
    intro s i d hr hl hrun hm
    have hno : (d.mode != 8 && d.enabled (.gv 0)) = false := by
      rcases hm with hm | he
      · rw [hm, bne_self_eq_false, Bool.false_and]
      · rw [he, Bool.and_false]
    obtain ⟨hflag, hinit, hthr⟩ := Dev.runStop_reads (d := d)
    refine ⟨d.runStop, ?_, hflag, hinit, fun t => hthr t t.isLt⟩
    rw [exec_engineHalt, gv2Row_taken (by decide) (by decide) hr hl
      (Dev.gvWrite_engCtrl.trans (by rw [Dev.engCtrlWrite_halt hrun, hno, refuseIf, if_neg Bool.false_ne_true]))]
  case haltNo =>
    intro s i d hr hl hrun hm he
    rw [exec_engineHalt, gv2Row_refused (by decide) (by decide) hr hl
      (Dev.gvWrite_engCtrl.trans (by rw [Dev.engCtrlWrite_halt hrun, bne_iff_ne.mpr hm, he, Bool.and_self, refuseIf, if_pos rfl]))]
  case test =>
    intro s failed hi hr
    obtain ⟨hflag, hinit, hh⟩ := Dev.initTestDone_reads (failed := failed.toNat) hi hr
    exact ⟨_, exec_engineInitTestDone, hflag, hinit, fun e => hh e e.isLt⟩
  case load =>
    intro s i d hr hl hs hrun h0 h64 hmax
    obtain ⟨hstate, hgo, hword⟩ := Dev.loadStarted_reads (d := d) (who := i)
    refine ⟨d.loadStarted i, ?_, hstate, hgo, rfl, hword⟩
    rw [exec_gvLoadStart, gv2Row_taken (v := loadWord) (by decide) (by decide) hr hl
      (Dev.gvWrite_loadCtrl.trans (Dev.loadWrite_taken hs hrun ⟨h0, h64, hmax⟩))]
  case good =>
    intro s bytes code hs hrun hcrc hmax hcode hall hsap
    have hgood : s.dev.loadGood s.dev.loadCode bytes := ⟨hcrc, by rw [Dev.loadCode, hcode]; exact hall⟩
    obtain ⟨hstate, hgo, hgv, hword⟩ := Dev.loadShown_reads (d := s.dev.loadCopied (s.dev.loadBytes bytes)) (go := 0)
      (state := 2)
    obtain ⟨-, hgv'⟩ := Dev.loadCopied_reads (d := s.dev) (s.dev.loadBytes bytes)
    have hlen : (s.dev.loadBytes bytes).length = s.dev.get F.GV_LOAD_LEN_BYTES := slice_length _ _ _
    refine ⟨(s.dev.loadCopied (s.dev.loadBytes bytes)).loadShown 0 2, ?_, hstate, Dev.get_of_eq hgo rfl, fun e w hh hw => ?_,
      ?_, ?_, fun a ha => ?_⟩
    · rw [exec_gvLoadDone, Dev.loadEnds_plain hsap, Dev.loadDone_good hs hrun hgood]
    · rw [hgv, hgv']
      exact Dev.loadedLm_word e.isLt hh (by rw [hlen]; exact hw) (by rw [hlen]; exact hmax)
    · rw [hgv, hgv']
    · rw [hgv, hgv']
    · rw [hword a ha, Dev.word_loadCopied]
  case bad =>
    intro s bytes code hs hcode hbad hrun hretry hsap
    have hno : ¬s.dev.loadGood s.dev.loadCode bytes := by
      rw [Dev.loadCode, hcode]
      exact Dev.not_loadGood hbad
    obtain ⟨hstate, hgo, -⟩ := Dev.loadShown_reads (d := s.dev.loadCopied (s.dev.loadBytes bytes)) (go := 0) (state := 3)
    refine ⟨(s.dev.loadCopied (s.dev.loadBytes bytes)).loadShown 0 3, ?_, hstate, Dev.get_of_eq hgo rfl⟩
    rw [exec_gvLoadDone, Dev.loadEnds_plain hsap, Dev.loadDone_bad hs hrun hno, if_pos hretry]
  case again =>
    intro s bytes code hs hcode hbad hrun hfirst
    have hno : ¬s.dev.loadGood s.dev.loadCode bytes := by
      rw [Dev.loadCode, hcode]
      exact Dev.not_loadGood hbad
    exact ⟨_, exec_gvLoadDone, Dev.loadEnds_again hs hrun hno hfirst⟩
  case running =>
    intro s bytes hs hrun hsap
    rw [exec_gvLoadDone, Dev.loadEnds_plain hsap, Dev.loadDone_running hs hrun, Dev.loadShown]
  case activation =>
    intro s bytes d₁ hs hsap hd
    rw [exec_gvLoadDone, Dev.loadEnds_activation hs hsap hd]
  case idle =>
    intro s bytes hs
    rw [exec_gvLoadDone, Dev.loadEnds_idle hs]
  case loadNo =>
    intro s i d hr hl hs hno
    rw [exec_gvLoadStart, gv2Row_refused (v := loadWord) (by decide) (by decide) hr hl
      (Dev.gvWrite_loadCtrl.trans (Dev.loadWrite_refused hs hno)), loadWord]
  case lmNo =>
    intro s i v d hr hl hrun
    rw [exec_gvLmDataWrite, gv2Row_refused (by decide) (by decide) hr hl
      (Dev.gvWrite_lmData.trans (by rw [Dev.lmWrite_eq, hrun, refuseIf, if_pos rfl]))]
  case lm =>
    intro s i v d hr hl hrun
    obtain ⟨hlm, haddr, hword⟩ := Dev.lmWritten_reads (d := d) (v := v)
    refine ⟨d.lmWritten v, ?_, fun e he => ?_, haddr, hword⟩
    · rw [exec_gvLmDataWrite, gv2Row_taken (by decide) (by decide) hr hl
        (Dev.gvWrite_lmData.trans (by rw [Dev.lmWrite_eq, hrun, refuseIf, if_neg Bool.false_ne_true]))]
    · rw [hlm, Dev.lmStored_word e.isLt he]
  case testIdle =>
    intro s failed hi
    rw [exec_engineInitTestDone, Dev.initTestDone_idle hi]

end Sys2Proof.Machine
end

section
/-! The rotating self-test of the engines (R122, R123, R124, R127, R327). -/

namespace Sys2Proof.Machine
open Sys2Proof

/-! ### A turn begins (R122, R327) -/

/-- R122: the drain of engine x begins; a request that led to it is answered. -/
def Dev.drainBegun (d : Dev) (asked : Bool) (x : Nat) : Dev :=
  (if asked then d.put F.GV_ROT_CMD_GO 0 else d).put F.GV_ROT_STAT_RESTING x |>.put F.GV_ROT_STAT_PHASE 1

section
variable {d : Dev} {a e x t : Nat} {asked again : Bool}

theorem Dev.drainBegun_reads : (d.drainBegun asked x).gv = d.gv ∧
    ∀ a, a ≠ R.GV_ROT_CMD → a ≠ R.GV_ROT_STAT → (d.drainBegun asked x).word a = d.word a := by
  unfold Dev.drainBegun
  refine ⟨?_, fun a hc hs => ?_⟩
  · rw [Dev.put_gv, Dev.put_gv]
    split
    · rw [Dev.put_gv]
    · rfl
  · rw [Dev.word_put_other _ F.GV_ROT_STAT_PHASE _ _ hs, Dev.word_put_other _ F.GV_ROT_STAT_RESTING _ _ hs]
    split
    · rw [Dev.word_put_other _ F.GV_ROT_CMD_GO _ _ hc]
    · rfl

/-- R122: where no engine is healthy no turn begins; else a drain does. -/
theorem Dev.beginTurn_cases (d : Dev) (e : Nat) (again : Bool) : d.beginTurn e again = d ∨
    ∃ asked x at', d.beginTurn e again =
      { d.drainBegun asked x with gv := { (d.drainBegun asked x).gv with again := false, phaseAt := at' } } := by
  unfold Dev.beginTurn
  dsimp only
  generalize (!again && d.flag F.GV_ROT_CMD_GO && d.healthy (d.get F.GV_ROT_CMD_ENGINE) &&
    d.turnFits (d.get F.GV_ROT_CMD_ENGINE)) = asked
  split
  · exact .inl rfl
  · exact .inr ⟨asked, _, _, rfl⟩

theorem Dev.beginTurn_reads : (d.beginTurn e again).gv.thr = d.gv.thr ∧ (d.beginTurn e again).gv.tested = d.gv.tested ∧
    ∀ a, a ≠ R.GV_ROT_CMD → a ≠ R.GV_ROT_STAT → (d.beginTurn e again).word a = d.word a := by
  obtain h | ⟨asked, x, at', h⟩ := d.beginTurn_cases e again
  · rw [h]
    exact ⟨rfl, rfl, fun _ _ _ => rfl⟩
  · obtain ⟨hgv, hword⟩ := Dev.drainBegun_reads (d := d) (asked := asked) (x := x)
    rw [h, hgv]
    refine ⟨rfl, rfl, fun a hc hs => ?_⟩
    rw [Dev.word_withGv, hword a hc hs]

end

/-- R122: a turn ends, and the next one begins with engine e or behind it. -/
def Dev.turnOver (d : Dev) (e : Nat) : Dev := (d.put F.GV_ROT_STAT_PHASE 0).beginTurn e false

theorem Dev.turnOver_reads {d : Dev} {e : Nat} : (∀ t, (d.turnOver e).thr t = d.thr t) ∧
    (d.turnOver e).gv.tested = d.gv.tested ∧
    ∀ a, a ≠ R.GV_ROT_CMD → a ≠ R.GV_ROT_STAT → (d.turnOver e).word a = d.word a := by
  obtain ⟨hthr, htested, hword⟩ := Dev.beginTurn_reads (d := d.put F.GV_ROT_STAT_PHASE 0) (e := e) (again := false)
  unfold Dev.turnOver
  refine ⟨fun t => ?_, ?_, fun a hc hs => ?_⟩
  · rw [Dev.thr, hthr, Dev.put_gv, Dev.thr]
  · rw [htested, Dev.put_gv]
  · rw [hword a hc hs, Dev.word_put_other _ F.GV_ROT_STAT_PHASE _ _ hs]

/-! ### The engine rejoins (R122, R123) -/

/-- R123: thread t comes out of a test, or takes a wake that it waits for. -/
def Dev.rejoinThread (d : Dev) (t : Nat) : Dev := if (d.thr t).st = .selftest then d.startThread t else d.takeWake t

section
variable {d : Dev} {e t : Nat}

theorem Dev.takeWake_beside : (∀ k, k ≠ t → (d.takeWake t).thr k = d.thr k) ∧ (d.takeWake t).regs = d.regs ∧
    (d.takeWake t).gv.tested = d.gv.tested := by
  unfold Dev.takeWake
  split
  · refine ⟨fun k hk => ?_, rfl, rfl⟩
    rw [Dev.busyFor, Dev.thr_modThr_other hk, Dev.gxDone, Dev.thr_modThr_other hk, Dev.thr_modThr_other hk]
  · exact ⟨fun _ _ => rfl, rfl, rfl⟩

theorem Dev.rejoinThread_beside : (∀ k, k ≠ t → (d.rejoinThread t).thr k = d.thr k) ∧ (d.rejoinThread t).regs = d.regs ∧
    (d.rejoinThread t).gv.tested = d.gv.tested := by
  unfold Dev.rejoinThread
  split
  · exact ⟨Dev.startThread_reads.2.1, Dev.startThread_reads.2.2, rfl⟩
  · exact Dev.takeWake_beside

theorem Dev.rejoinThread_tested (h : (d.thr t).st = .selftest) : (d.rejoinThread t).thr t = freshThread (d.thr t) .ready := by
  rw [Dev.rejoinThread, if_pos h, Dev.startThread_reads.1]

theorem Dev.rejoin_eq : d.rejoin e = (List.range 8).foldl (fun a k => a.rejoinThread (8 * e + k)) d := rfl

theorem Dev.rejoin_beside : (d.rejoin e).regs = d.regs ∧ (d.rejoin e).gv.tested = d.gv.tested := by
  rw [Dev.rejoin_eq]
  exact ⟨foldl_kept _ Dev.regs (fun a k => Dev.rejoinThread_beside.2.1) _ d,
    foldl_kept _ (fun a : Dev => a.gv.tested) (fun a k => Dev.rejoinThread_beside.2.2) _ d⟩

/-- R122: a thread under test starts again with cleared state, a pending wake excepted. -/
theorem Dev.rejoin_thr {k : Nat} (hk : k < 8) (h : (d.thr (8 * e + k)).st = .selftest) :
    (d.rejoin e).thr (8 * e + k) = freshThread (d.thr (8 * e + k)) .ready := by
  rw [Dev.rejoin_eq]
  refine foldl_once _ (fun _ => True) (fun a : Dev => a.thr (8 * e + k)) (k := k) List.nodup_range (List.mem_range.mpr hk)
    (fun _ _ _ => trivial) (fun a j hj => Dev.rejoinThread_beside.1 _ (by omega)) (fun a _ ha => ?_) d trivial rfl
  have ha' : a.thr (8 * e + k) = d.thr (8 * e + k) := ha
  rw [Dev.rejoinThread_tested (by rw [ha', h]), ha']

end

/-! ### The test begins (R122) -/

/-- R122: a phase begins at the present instant. -/
def Dev.phaseNow (d : Dev) : Dev := { d with gv := { d.gv with phaseAt := d.baseNs } }

/-- R122: the test phase. -/
def Dev.testPhase (d : Dev) : Dev := (d.put F.GV_ROT_STAT_PHASE 2).phaseNow

/-- R122: the threads of the resting engine are in test. -/
def Dev.testBegun (d : Dev) (e : Nat) : Dev :=
  (List.range 8).foldl (fun (a : Dev) k => a.modThr (8 * e + k) (fun c => freshThread c .selftest)) d.testPhase

section
variable {d : Dev} {e k : Nat}

theorem Dev.phaseNow_reads (d : Dev) : d.phaseNow.regs = d.regs ∧ d.phaseNow.gv.phaseAt = d.baseNs := ⟨rfl, rfl⟩

theorem Dev.testPhase_reads : d.testPhase.get F.GV_ROT_STAT_PHASE = 2 ∧
    d.testPhase.get F.GV_ROT_STAT_RESTING = d.get F.GV_ROT_STAT_RESTING ∧ d.testPhase.gv.phaseAt = d.baseNs := by
  obtain ⟨hregs, hat⟩ := Dev.phaseNow_reads (d.put F.GV_ROT_STAT_PHASE 2)
  unfold Dev.testPhase
  rw [Dev.get_of_regs hregs, Dev.get_of_regs hregs, hat, Dev.get_put d F.GV_ROT_STAT_PHASE 2 (by decide),
    Dev.get_put_beside d F.GV_ROT_STAT_PHASE F.GV_ROT_STAT_RESTING 2 (by decide) (by decide), Dev.baseNs, Dev.put_tl,
    Dev.baseNs]
  exact ⟨rfl, rfl, rfl⟩

theorem Dev.testBegun_beside : (d.testBegun e).regs = d.testPhase.regs ∧
    (d.testBegun e).gv.phaseAt = d.testPhase.gv.phaseAt := by
  unfold Dev.testBegun
  exact ⟨foldl_kept _ Dev.regs (fun _ _ => by rfl) _ _, foldl_kept _ (fun a : Dev => a.gv.phaseAt) (fun _ _ => by rfl) _ _⟩

theorem Dev.testBegun_thr (hk : k < 8) : ((d.testBegun e).thr (8 * e + k)).st = .selftest := by
  unfold Dev.testBegun
  refine foldl_once _ (fun _ => True) (fun a : Dev => (a.thr (8 * e + k)).st) (k := k) List.nodup_range
    (List.mem_range.mpr hk) (fun _ _ _ => trivial) (fun a j hj => ?_) (fun a _ _ => ?_) _ trivial rfl
  · exact congrArg ThreadCtx.st (Dev.thr_modThr_other (by omega))
  · rw [Dev.thr_modThr_same, freshThread]

/-- R122: the test begins once the engine in the drain phase holds no `Instance`. -/
theorem Dev.selftestStart_drained (hp : d.get F.GV_ROT_STAT_PHASE = 1)
    (hi : ∀ k < 8, (d.thr (8 * d.get F.GV_ROT_STAT_RESTING + k)).inst = none) :
    d.selftestStart = d.testBegun (d.get F.GV_ROT_STAT_RESTING) := by
  have hall : (List.range 8).all (fun k => (d.thr (8 * d.get F.GV_ROT_STAT_RESTING + k)).inst.isNone) = true :=
    List.all_eq_true.mpr fun k hk => by rw [hi k (List.mem_range.mp hk), Option.isNone_none]
  unfold Dev.selftestStart Dev.testBegun Dev.testPhase Dev.phaseNow
  dsimp only
  rw [hall, hp, beq_self_eq_true, Bool.and_self, if_pos rfl]

theorem Dev.selftestStart_outside (hp : d.get F.GV_ROT_STAT_PHASE ≠ 1) : d.selftestStart = d := by
  unfold Dev.selftestStart
  dsimp only
  rw [beq_eq_false_iff_ne.mpr hp, Bool.false_and, if_neg Bool.false_ne_true]

theorem Dev.selftestStart_draining (hk : k < 8)
    (hi : (d.thr (8 * d.get F.GV_ROT_STAT_RESTING + k)).inst.isSome = true) : d.selftestStart = d := by
  have hall : (List.range 8).all (fun k => (d.thr (8 * d.get F.GV_ROT_STAT_RESTING + k)).inst.isNone) = false :=
    List.all_eq_false.mpr ⟨k, List.mem_range.mpr hk, by rw [← Option.not_isSome, hi]; exact Bool.false_ne_true⟩
  unfold Dev.selftestStart
  dsimp only
  rw [hall, Bool.and_false, if_neg Bool.false_ne_true]

end

/-! ### The test ends (R122, R124) -/

/-- R122, R327: engine e has passed; the turn counts, and the engine is tested as of now. -/
def Dev.testPassed (d : Dev) (e : Nat) : Dev :=
  { d.bumpWrap F.GV_ROT_CYCLES_COUNT with gv := { d.gv with tested := tset d.gv.tested e d.testTime } }

section
variable {d : Dev} {e : Nat} {pass : Bool}

theorem Dev.testPassed_reads : (d.testPassed e).get F.GV_ROT_CYCLES_COUNT =
      (d.get F.GV_ROT_CYCLES_COUNT + 1) % 2 ^ F.GV_ROT_CYCLES_COUNT.width ∧
    tget (d.testPassed e).gv.tested e = d.testTime ∧ ∀ t, (d.testPassed e).thr t = d.thr t := by
  unfold Dev.testPassed
  refine ⟨?_, tget_tset_same _ _ _, fun t => rfl⟩
  rw [Dev.get_withGv, Dev.bumpWrap, Dev.get_put d F.GV_ROT_CYCLES_COUNT _ (by decide)]

section
variable (hp : d.get F.GV_ROT_STAT_PHASE = 2) (he : d.get F.GV_ROT_STAT_RESTING = e)
include hp he

theorem Dev.selftestDone_passed : d.selftestDone true = ((d.testPassed e).rejoin e).turnOver ((e + 1) % 16) := by
  subst he
  rw [Dev.selftestDone, if_pos hp, if_pos rfl]
  rfl

theorem Dev.selftestDone_failed : d.selftestDone false = (d.retire e).turnOver ((e + 1) % 16) := by
  subst he
  rw [Dev.selftestDone, if_pos hp, if_neg Bool.false_ne_true, Dev.turnOver]

end

theorem Dev.selftestDone_outside (hp : d.get F.GV_ROT_STAT_PHASE ≠ 2) : d.selftestDone pass = d := by
  rw [Dev.selftestDone, if_neg hp]

end

/-! ### A request (R127, R327) -/

/-- R127: the word of GV_ROT_CMD for engine e. -/
def rotWord (e : Fin 16) : Word := cmdWord [(F.GV_ROT_CMD_GO, 1), (F.GV_ROT_CMD_ENGINE, e)]

theorem newField_rotWord (e : Fin 16) : newField (rotWord e) F.GV_ROT_CMD_GO = 1 ∧
    newField (rotWord e) F.GV_ROT_CMD_ENGINE = e := by
  have he : (e : Nat) < 2 ^ 4 := e.isLt
  simp (disch := omega) only [rotWord, cmdWord, List.foldl_cons, List.foldl_nil, newField, F.GV_ROT_CMD_GO,
    F.GV_ROT_CMD_ENGINE, wordBits_wordPut, wordBits_wordPut_other, Nat.mod_eq_of_lt, and_self]

section
variable {d : Dev} {e : Fin 16}

theorem Dev.rotCmdWrite_eq : d.rotCmdWrite (rotWord e) =
    refuseIf (!d.healthy e || d.mode == 8) 0x0111 (.ok (d.store R.GV_ROT_CMD (rotWord e))) := by
  rw [Dev.rotCmdWrite, (newField_rotWord e).2]

theorem Dev.rotCmdWrite_taken (hh : d.healthy e = true) (hm : d.mode ≠ 8) :
    d.rotCmdWrite (rotWord e) = .ok (d.store R.GV_ROT_CMD (rotWord e)) := by
  rw [Dev.rotCmdWrite_eq, hh, beq_eq_false_iff_ne.mpr hm, Bool.not_true, Bool.or_false, refuseIf, if_neg Bool.false_ne_true]

theorem Dev.rotCmdWrite_refused (h : d.healthy e = false ∨ d.mode = 8) : d.rotCmdWrite (rotWord e) = .no 0x0111 := by
  have hc : (!d.healthy e || d.mode == 8) = true := by
    rcases h with h | h
    · rw [h, Bool.not_false, Bool.true_or]
    · rw [h, beq_self_eq_true, Bool.or_true]
  rw [Dev.rotCmdWrite_eq, hc, refuseIf, if_pos rfl]

theorem regAt_rotCmd : regAt R.GV_ROT_CMD =
    some ⟨0x04C, 1, 0x4, [⟨31, 1, .w1s, 0x0, .w⟩, ⟨0, 4, .rw, 0x0, .w⟩]⟩ := by
  decide +kernel

/-- R127: GO is set by writing 1 to it. -/
theorem Dev.flag_rotGo_store {v : Word} (h : newField v F.GV_ROT_CMD_GO = 1) :
    (d.store R.GV_ROT_CMD v).flag F.GV_ROT_CMD_GO = true := by
  have hor : ∀ x < 2, Nat.lor x 1 % 2 ^ 1 = 1 := by decide
  have hold : wordBits (d.word R.GV_ROT_CMD) 31 1 < 2 := wordBits_lt _ _ _
  have hget : (d.store R.GV_ROT_CMD v).get F.GV_ROT_CMD_GO =
      Nat.lor (wordBits (d.word R.GV_ROT_CMD) 31 1) (newField v F.GV_ROT_CMD_GO) % 2 ^ 1 := by
    rw [Dev.get, Dev.store, regAt_rotCmd]
    dsimp only
    rw [F.GV_ROT_CMD_GO, Dev.word_setWord_same, fieldsNext, List.foldl_cons, List.foldl_cons, List.foldl_nil,
      wordBits_wordPut_other _ _ _ _ _ _ (by decide) (by decide), wordBits_wordPut _ _ _ _ (by decide)]
    rfl
  exact Dev.get_of_eq (hget.trans (by rw [h, hor _ hold])) rfl

theorem Dev.rotStored_reads : (d.store R.GV_ROT_CMD (rotWord e)).flag F.GV_ROT_CMD_GO = true ∧
    (d.store R.GV_ROT_CMD (rotWord e)).get F.GV_ROT_CMD_ENGINE = e ∧ (d.store R.GV_ROT_CMD (rotWord e)).gv = d.gv := by
  obtain ⟨hgo, hengine⟩ := newField_rotWord e
  have hengineNow := d.get_store (rotWord e) (g := F.GV_ROT_CMD_ENGINE) (by decide +kernel)
  refine ⟨Dev.flag_rotGo_store hgo, hengineNow.trans hengine, ?_⟩
  obtain ⟨regs, h⟩ := d.store_eq R.GV_ROT_CMD (rotWord e)
  rw [h]

end

/-! ### Rows -/

section
variable {s : State} {i : Init}

theorem exec_selftestStart : exec .selftestStart s = .next (s.ends s.dev.selftestStart) :=
  act_eq_ends s (fun d => d.selftestStart)

theorem exec_selftestDone {pass : Bool} : exec (.selftestDone pass) s = .next (s.ends (s.dev.selftestDone pass)) :=
  act_eq_ends s (fun d => d.selftestDone pass)

theorem exec_gvRotCmd {e : Fin 16} : exec (.gvRotCmd i e) s =
    .next (s.ends (s.dev.anyRow (idBlock s.id) i R.GV_ROT_CMD (rotWord e))) :=
  act_eq_ends s (fun d => d.anyRow (idBlock s.id) i R.GV_ROT_CMD (rotWord e))

end

/-- Settles O18: the threads of an engine are read after the fold over them, and the turn that begins next changes
only GV_ROT_CMD and GV_ROT_STAT. -/
theorem rotatingSelfTest : Obligations.RotatingSelfTest := by
  unfold Obligations.RotatingSelfTest
  refine ⟨?start, ?passed, ?failed, ?cmd, ?cmdNo, ?outside, ?startNo⟩
  case start =>
    intro s hp hi
    obtain ⟨hphase, hresting, hat⟩ := Dev.testPhase_reads (d := s.dev)
    obtain ⟨hregs, hkept⟩ := Dev.testBegun_beside (d := s.dev) (e := s.dev.get F.GV_ROT_STAT_RESTING)
    refine ⟨s.dev.testBegun (s.dev.get F.GV_ROT_STAT_RESTING), ?_, ?_, fun k => Dev.testBegun_thr k.isLt, ?_, ?_⟩
    · rw [exec_selftestStart, Dev.selftestStart_drained hp fun k hk => hi ⟨k, hk⟩]
    · rw [Dev.get_of_regs hregs, hphase]
    · rw [Dev.get_of_regs hregs, hresting]
    · rw [hkept, hat]
  case passed =>
    intro s e hp he
    obtain ⟨hcount, htested, hthr⟩ := Dev.testPassed_reads (d := s.dev) (e := e)
    obtain ⟨hregs, htested'⟩ := Dev.rejoin_beside (d := s.dev.testPassed e) (e := e)
    obtain ⟨hthrOver, htestedOver, hword⟩ := Dev.turnOver_reads (d := (s.dev.testPassed e).rejoin e) (e := (e + 1) % 16)
    refine ⟨_, by rw [exec_selftestDone, Dev.selftestDone_passed hp he], ?_, ?_, fun k hk => ?_⟩
    · rw [Dev.get_of_word (hword _ (by decide) (by decide)), Dev.get_of_regs hregs, hcount]
    · rw [htestedOver, htested', htested]
    · rw [hthrOver, Dev.rejoin_thr k.isLt (by rw [hthr, hk]), hthr, freshThread, gvEntry]
  case failed =>
    intro s e hp he
    obtain ⟨-, -, hword⟩ := Dev.turnOver_reads (d := s.dev.retire e) (e := (e + 1) % 16)
    have hh : ∀ f : Fin 16, ((s.dev.retire e).turnOver ((e + 1) % 16)).healthy f = (s.dev.healthy f && !decide ((f : Nat) = e)) :=
      fun f => (Dev.healthy_of_get (Dev.get_of_word (hword _ (by decide) (by decide))) f).trans (Dev.healthy_retire f.isLt)
    refine ⟨_, by rw [exec_selftestDone, Dev.selftestDone_failed hp he], ?_, fun f hf => ?_⟩
    · rw [hh, decide_eq_true rfl, Bool.not_true, Bool.and_false]
    · rw [hh, decide_eq_false fun h => hf (Fin.ext h), Bool.not_false, Bool.and_true]
  case cmd =>
    intro s i e d hr hl hh hm
    obtain ⟨hgo, hengine, hgv⟩ := Dev.rotStored_reads (d := d) (e := e)
    refine ⟨_, ?_, hgo, hengine, hgv, fun a ha => Dev.word_store_other d _ ha⟩
    rw [exec_gvRotCmd, gv2Row_taken (v := rotWord e) (by decide) (by decide) hr hl (Dev.gvWrite_rotCmd.trans (Dev.rotCmdWrite_taken hh hm))]
  case cmdNo =>
    intro s i e d hr hl hno
    rw [exec_gvRotCmd, gv2Row_refused (v := rotWord e) (by decide) (by decide) hr hl (Dev.gvWrite_rotCmd.trans (Dev.rotCmdWrite_refused hno)),
      rotWord]
  case outside =>
    intro s pass hp
    rw [exec_selftestDone, Dev.selftestDone_outside hp]
  case startNo =>
    intro s k hno
    rw [exec_selftestStart]
    rcases hno with hp | hi
    · rw [Dev.selftestStart_outside hp]
    · rw [Dev.selftestStart_draining k.isLt hi]

end Sys2Proof.Machine
end

section
/-! Flowstone FIFOs (R137 to R141): what FS_STAT or LQ_STAT shows after items fall, land and are freed, and what an
operation of a FIFO leaves. -/

namespace Sys2Proof.Machine
open Sys2Proof

section
variable (d : Dev) (q : FifoId)

/-! ### FS_STAT and LQ_STAT (R137) -/

@[simp] theorem Dev.fsSetFill_tl (k : Nat) : (d.fsSetFill q k).tl = d.tl := by
  rw [Dev.fsSetFill, Dev.putFlag_tl, Dev.putFlag_tl, Dev.put_tl]

@[simp] theorem Dev.fsSetFill_lk (k : Nat) : (d.fsSetFill q k).lk = d.lk := by
  rw [Dev.fsSetFill, Dev.putFlag_lk, Dev.putFlag_lk, Dev.put_lk]

@[simp] theorem Dev.fsSetFill_learnq (k : Nat) : (d.fsSetFill q k).learnq = d.learnq := by
  rw [Dev.fsSetFill, Dev.putFlag_learnq, Dev.putFlag_learnq, Dev.put_learnq]

@[simp] theorem Dev.chanSt_fsSetFill (k c : Nat) : (d.fsSetFill q k).chanSt c = d.chanSt c :=
  Dev.chanSt_of_chan (d.fsSetFill_chan q k) c

theorem Dev.get_fill_fsSetFill {k : Nat} (h : k < 64) : (d.fsSetFill q k).get (fsFill q) = k := by
  unfold Dev.fsSetFill
  dsimp only
  rw [Dev.get_putFlag_apart _ (fsFalling q) _ _ (by decide : 28 + 1 ≤ 32) (.inr (.inl (by decide : 0 + 6 ≤ 28))),
    Dev.get_putFlag_apart _ (fsFull q) _ _ (by decide : 31 + 1 ≤ 32) (.inr (.inl (by decide : 0 + 6 ≤ 31))),
    Dev.get_put _ (fsFill q) _ (by decide : 0 + 6 ≤ 32)]
  exact Nat.mod_eq_of_lt h

theorem Dev.flag_falling_fsSetFill (k : Nat) : (d.fsSetFill q k).flag (fsFalling q) = decide (k < d.fsCount q) :=
  Dev.flag_putFlag _ (fsFalling q) _ (by decide : 28 + 1 ≤ 32) (by decide : 1 ≤ 1)

/-- FILL, FULL and FALLING set leave the read position and the mark. -/
theorem Dev.get_fsSetFill_apart (k : Nat) {g : Fld} (hfill : (fsFill q).apart g) (hfull : (fsFull q).apart g)
    (hfalling : (fsFalling q).apart g) : (d.fsSetFill q k).get g = d.get g := by
  unfold Dev.fsSetFill
  dsimp only
  rw [Dev.get_putFlag_apart _ (fsFalling q) _ _ (by decide : 28 + 1 ≤ 32) hfalling,
    Dev.get_putFlag_apart _ (fsFull q) _ _ (by decide : 31 + 1 ≤ 32) hfull,
    Dev.get_put_apart _ (fsFill q) _ _ (by decide : 0 + 6 ≤ 32) hfill]

theorem Dev.get_rpos_fsSetFill (k : Nat) : (d.fsSetFill q k).get (fsRpos q) = d.get (fsRpos q) :=
  d.get_fsSetFill_apart q k (.inr (.inr (by decide : 0 + 6 ≤ 8))) (.inr (.inl (by decide : 8 + 6 ≤ 31)))
    (.inr (.inl (by decide : 8 + 6 ≤ 28)))

theorem Dev.get_mark_fsSetFill (k : Nat) : (d.fsSetFill q k).get (fsMark q) = d.get (fsMark q) :=
  d.get_fsSetFill_apart q k (.inr (.inr (by decide : 0 + 6 ≤ 16))) (.inr (.inl (by decide : 16 + 6 ≤ 31)))
    (.inr (.inl (by decide : 16 + 6 ≤ 28)))

theorem Dev.flag_markValid_fsSetFill (k : Nat) : (d.fsSetFill q k).flag (fsMarkValid q) = d.flag (fsMarkValid q) := by
  rw [Dev.flag, d.get_fsSetFill_apart q k (g := fsMarkValid q) (.inr (.inr (by decide : 0 + 6 ≤ 29)))
    (.inr (.inl (by decide : 29 + 1 ≤ 31))) (.inr (.inr (by decide : 28 + 1 ≤ 29))), ← Dev.flag]

/-! ### Freed items (R137, R138) -/

theorem Dev.word_fsDrop (n a : Nat) : (d.fsDrop q n).word a = d.word a := by
  cases q with
  | chan c f => rfl
  | learn s => rfl

/-- R138: the read position once the n oldest items have left. -/
def Dev.fsShifted (n : Nat) : Dev := (d.fsDrop q n).put (fsRpos q) (d.get (fsRpos q) - n)

/-- R138: the mark shifts with the items, and a mark among those freed is lost. -/
def Dev.fsMarked (n : Nat) : Dev :=
  if d.flag (fsMarkValid q) then
    if d.get (fsMark q) < n then ((d.fsShifted q n).put (fsMarkValid q) 0).put (fsMark q) 0
    else (d.fsShifted q n).put (fsMark q) (d.get (fsMark q) - n)
  else d.fsShifted q n

theorem Dev.flag_markValid_fsShifted (n : Nat) : (d.fsShifted q n).flag (fsMarkValid q) = d.flag (fsMarkValid q) := by
  rw [Dev.fsShifted, Dev.flag_put_apart _ (fsRpos q) (fsMarkValid q) _ (by decide : 8 + 6 ≤ 32)
    (.inr (.inr (by decide : 8 + 6 ≤ 29))), Dev.flag_of_word (d.word_fsDrop q n _)]

theorem Dev.get_rpos_fsShifted (n : Nat) : (d.fsShifted q n).get (fsRpos q) = d.get (fsRpos q) - n := by
  have hlt := d.get_lt (fsRpos q)
  rw [Dev.fsShifted, Dev.get_put _ (fsRpos q) _ (by decide : 8 + 6 ≤ 32)]
  exact Nat.mod_eq_of_lt (by omega)

theorem Dev.fsFree_eq (n : Nat) : d.fsFree q n = (d.fsMarked q n).fsSetFill q (d.get (fsFill q) - n) := by
  unfold Dev.fsFree
  dsimp only
  rw [← Dev.fsShifted, Dev.flag_markValid_fsShifted, ← Dev.fsMarked]

theorem Dev.fsMarked_reads (n : Nat) : (d.fsMarked q n).get (fsRpos q) = d.get (fsRpos q) - n ∧
    (d.fsMarked q n).flag (fsMarkValid q) = (d.flag (fsMarkValid q) && decide (n ≤ d.get (fsMark q))) ∧
    (d.flag (fsMarkValid q) = true → (d.fsMarked q n).get (fsMark q) = d.get (fsMark q) - n) := by
  have hlt := d.get_lt (fsMark q)
  have hrpos : ∀ (e : Dev) v, (e.put (fsMark q) v).get (fsRpos q) = e.get (fsRpos q) := fun e v =>
    e.get_put_beside _ _ v (by decide : 16 + 6 ≤ 32) (.inl (by decide : 8 + 6 ≤ 16))
  have hrpos' : ∀ (e : Dev) v, (e.put (fsMarkValid q) v).get (fsRpos q) = e.get (fsRpos q) := fun e v =>
    e.get_put_beside _ _ v (by decide : 29 + 1 ≤ 32) (.inl (by decide : 8 + 6 ≤ 29))
  have hvalid : ∀ (e : Dev) v, (e.put (fsMark q) v).flag (fsMarkValid q) = e.flag (fsMarkValid q) := fun e v =>
    e.flag_put_apart _ _ v (by decide : 16 + 6 ≤ 32) (.inr (.inr (by decide : 16 + 6 ≤ 29)))
  have hmark : ∀ (e : Dev) v, (e.put (fsMark q) v).get (fsMark q) = v % 64 := fun e v =>
    e.get_put _ v (by decide : 16 + 6 ≤ 32)
  unfold Dev.fsMarked
  cases hv : d.flag (fsMarkValid q) with
  | false =>
    rw [if_neg Bool.false_ne_true, Dev.flag_markValid_fsShifted, hv]
    exact ⟨d.get_rpos_fsShifted q n, rfl, fun h => absurd h Bool.false_ne_true⟩
  | true =>
    rw [if_pos rfl, Bool.true_and]
    split
    next hlost =>
      rw [hrpos, hrpos', hvalid, hmark, d.get_rpos_fsShifted, decide_eq_false (by omega)]
      exact ⟨rfl, Dev.flag_putFlag _ (fsMarkValid q) false (by decide : 29 + 1 ≤ 32) (by decide : 1 ≤ 1), fun _ => by omega⟩
    next hkept =>
      rw [hrpos, hvalid, hmark, d.get_rpos_fsShifted, Dev.flag_markValid_fsShifted, hv, decide_eq_true (by omega)]
      exact ⟨rfl, rfl, fun _ => Nat.mod_eq_of_lt (by have : 2 ^ (fsMark q).width = 64 := rfl; omega)⟩

/-- R137, R138: what FS_STAT or LQ_STAT shows once n items are freed. -/
theorem Dev.fsFree_reads (n : Nat) : (d.fsFree q n).get (fsRpos q) = d.get (fsRpos q) - n ∧
    (d.fsFree q n).get (fsFill q) = d.get (fsFill q) - n ∧
    (d.fsFree q n).flag (fsMarkValid q) = (d.flag (fsMarkValid q) && decide (n ≤ d.get (fsMark q))) ∧
    (d.flag (fsMarkValid q) = true → (d.fsFree q n).get (fsMark q) = d.get (fsMark q) - n) := by
  obtain ⟨hrpos, hvalid, hmark⟩ := d.fsMarked_reads q n
  have hlt : d.get (fsFill q) < 64 := d.get_lt (fsFill q)
  rw [Dev.fsFree_eq, Dev.get_rpos_fsSetFill, Dev.get_fill_fsSetFill _ _ (by omega), Dev.flag_markValid_fsSetFill,
    Dev.get_mark_fsSetFill]
  exact ⟨hrpos, rfl, hvalid, hmark⟩

end

end Sys2Proof.Machine
end

section
/-! The rows of FS_CMD (R137 to R142, R148): who may give which operation to which FIFO, what a push appends and what a
flush keeps. -/

namespace Sys2Proof.Machine
open Sys2Proof

/-! ### A row that writes FS_CMD (R138, R148) -/

section
variable {d₀ d d' : Dev} {i : Init} {c : Fin 80} {f : Fin 3} {op n code : Nat} {b : Bool}

theorem fifoReserved_tx (c : Fin 80) : fifoReserved c 2 = false := Bool.and_false _

theorem Dev.fsRow_taken (hr : d₀.reaches i (R.FS_CMD c f) = some d) (hf : fifoReserved c f = false)
    (h : d.fsCmd c f i op n b = .ok d') : d₀.fsRow i c f op n b = d' := by
  rw [Dev.fsRow, d₀.busWrite_reaches d i _ _ _ hr, hf, if_neg Bool.false_ne_true, h]

theorem Dev.fsRow_refused (hr : d₀.reaches i (R.FS_CMD c f) = some d) (hf : fifoReserved c f = false)
    (h : d.fsCmd c f i op n b = .no code) :
    d₀.fsRow i c f op n b = d.failWrite i (R.FS_CMD c f) (fsCmdWord op n) code := by
  rw [Dev.fsRow, d₀.busWrite_reaches d i _ _ _ hr, hf, if_neg Bool.false_ne_true, h]

theorem Dev.fsRow_tx_taken (hr : d₀.reaches i (R.FS_CMD c 2) = some d) (h : d.fsCmd c 2 i op n b = .ok d') :
    d₀.fsRow i c 2 op n b = d' := Dev.fsRow_taken (f := 2) hr (fifoReserved_tx c) h

theorem Dev.fsRow_tx_refused (hr : d₀.reaches i (R.FS_CMD c 2) = some d) (h : d.fsCmd c 2 i op n b = .no code) :
    d₀.fsRow i c 2 op n b = d.failWrite i (R.FS_CMD c 2) (fsCmdWord op n) code :=
  Dev.fsRow_refused (f := 2) hr (fifoReserved_tx c) h

/-- R20, R148: a write to a reserved offset has no effect. -/
theorem Dev.fsRow_reserved (hr : d₀.reaches i (R.FS_CMD c f) = some d) (hf : fifoReserved c f = true) :
    d₀.fsRow i c f op n b = d := by
  rw [Dev.fsRow, d₀.busWrite_reaches d i _ _ _ hr, hf, if_pos rfl]

/-! ### The operations by FIFO and owner (R138, R140 to R142) -/

theorem fifo_lt_two (hf : f ≠ 2) : f < 2 := by omega

theorem Dev.fsCmd_rx_other (hf : f ≠ 2) (ho : fsOwnerIs (d.get (F.FS_CFG_OWNER c f)) i = false) :
    d.fsCmd c f i op n b = .no 0x0113 := by
  unfold Dev.fsCmd
  dsimp only
  rw [if_pos (fifo_lt_two hf), ho]
  rfl

theorem Dev.fsCmd_rx_owner (hf : f ≠ 2) (ho : fsOwnerIs (d.get (F.FS_CFG_OWNER c f)) i = true) (hop : op ≠ 5) :
    d.fsCmd c f i op n b = d.fsOp (.chan c f) op n 0x0114 := by
  unfold Dev.fsCmd
  dsimp only
  rw [if_pos (fifo_lt_two hf), ho, if_neg hop]
  rfl

/-- R141: a notice is acknowledged by the owner in notice mode. -/
theorem Dev.fsCmd_ack (hf : f ≠ 2) (ho : fsOwnerIs (d.get (F.FS_CFG_OWNER c f)) i = true) :
    d.fsCmd c f i 5 n b = if d.flag (F.FS_CFG_NOTICE c f) then
      .ok (d.put (F.FS_NOTICE_PENDING c f) (d.get (F.FS_NOTICE_PENDING c f) - 1)) else .no 0x0114 := by
  unfold Dev.fsCmd
  dsimp only
  rw [if_pos (fifo_lt_two hf), ho, if_pos rfl]
  cases d.flag (F.FS_CFG_NOTICE c f) <;> rfl

theorem Dev.fsCmd_push : d.fsCmd c 2 i 8 n b = refuseIf (!fsOwnerIs (d.get (F.FS_CFG_OWNER c 2)) i) 0x0008
    (d.fsPushSlot c (n % 32) (d.anySlotFree c (n % 32)) (d.slotBlocks c (n % 32))) := rfl

theorem Dev.fsCmd_flush : d.fsCmd c 2 i 9 n b = refuseIf (!fsOwnerIs (d.get (F.FS_CFG_OWNER c 2)) i) 0x0113
    (.ok (if c.val < 64 then d.canFlush c b else d.linFlush c)) := rfl

theorem Dev.fsCmd_tx_none (h8 : op ≠ 8) (h9 : op ≠ 9) : d.fsCmd c 2 i op n b = .no 0x0114 := by
  unfold Dev.fsCmd
  dsimp only
  rw [if_neg (by decide), if_neg h8, if_neg h9]

/-! ### The operations that move the read position (R138) -/

theorem Dev.fsOp_rewind {q : FifoId} : d.fsOp q 3 n code = d.fsRewind q code := rfl

theorem Dev.fsOp_release {q : FifoId} : d.fsOp q 4 n code = d.fsRelease q n code := rfl

theorem Dev.fsRelease_taken {q : FifoId} (h0 : n ≠ 0) (h32 : n ≤ 32) (hr : n ≤ d.get (fsRpos q)) :
    d.fsRelease q n code = .ok (d.fsFree q n) := by
  unfold Dev.fsRelease refuseIf
  rw [if_neg]
  simp only [Bool.or_eq_true, beq_iff_eq, decide_eq_true_eq]
  omega

theorem Dev.fsRelease_refused {q : FifoId} (h : n = 0 ∨ 32 < n ∨ d.get (fsRpos q) < n) :
    d.fsRelease q n code = .no code := by
  unfold Dev.fsRelease refuseIf
  rw [if_pos]
  simp only [Bool.or_eq_true, beq_iff_eq, decide_eq_true_eq]
  omega

theorem Dev.fsRewind_eq {q : FifoId} : d.fsRewind q code =
    if d.flag (fsMarkValid q) then .ok (d.put (fsRpos q) (d.get (fsMark q))) else .no code := by
  unfold Dev.fsRewind refuseIf
  cases d.flag (fsMarkValid q) <;> rfl

end

/-! ### Items that enter a FIFO and leave it (R137, R138, R142) -/

section
variable (d : Dev) (c : Fin 80)

theorem Dev.fsItems_tx : d.fsItems c 2 = (d.chanSt c).tx := rfl

theorem Dev.fsItems_fsFree (f : Fin 3) (n : Nat) : (d.fsFree (.chan c f) n).fsItems c f = (d.fsItems c f).drop n := by
  rw [Dev.fsItems, Dev.chanSt_of_chan (d.fsFree_chan _ n), Dev.fsDrop, Dev.chanSt_modChan_same, Dev.fsItems]
  fin_cases f <;> rfl

theorem withItems_ram (s : ChanSt) (f : Fin 3) (l : List FsItem) : (withItems s f l).ram = s.ram := by
  fin_cases f <;> rfl

theorem Dev.chanSt_fsFree_ram (f : Fin 3) (n : Nat) :
    ((d.fsFree (.chan c f) n).chanSt c).ram = (d.chanSt c).ram := by
  rw [Dev.chanSt_of_chan (d.fsFree_chan _ n), Dev.fsDrop, Dev.chanSt_modChan_same, withItems_ram]

theorem Dev.chanSt_fsFree_other (f : Fin 3) (n : Nat) {k : Nat} (h : k ≠ c.val) :
    (d.fsFree (.chan c f) n).chanSt k = d.chanSt k := by
  rw [Dev.chanSt_of_chan (d.fsFree_chan _ n), Dev.fsDrop, Dev.chanSt_modChan_other _ _ h]

variable (block blocks ns : Nat)

/-- R138: what a push of the transmit FIFO leaves: the item appended, falling. -/
theorem Dev.fsPush_tx_reads : (d.fsPush c 2 block blocks ns).fsItems c 2 =
      d.fsItems c 2 ++ [{ block, blocks, ns, seq := (d.chanSt c).seq }] ∧
    (d.fsPush c 2 block blocks ns).get (F.FS_STAT_FILL c 2) = d.get (F.FS_STAT_FILL c 2) ∧
    (d.fsPush c 2 block blocks ns).flag (F.FS_STAT_FALLING c 2) =
      decide (d.get (F.FS_STAT_FILL c 2) < (d.chanSt c).tx.length + 1) ∧
    (∀ k, k ≠ c.val → (d.fsPush c 2 block blocks ns).chanSt k = d.chanSt k) ∧
    ∀ a, a ≠ R.FS_STAT c 2 → (d.fsPush c 2 block blocks ns).word a = d.word a := by
  have hst : (d.modChan c (fun s => { withItems s 2 (chanItems s 2 ++ [{ block, blocks, ns, seq := s.seq }]) with
      seq := s.seq + 1 })).chanSt c =
      { d.chanSt c with tx := (d.chanSt c).tx ++ [{ block, blocks, ns, seq := (d.chanSt c).seq }]
                        seq := (d.chanSt c).seq + 1 } := by
    rw [Dev.chanSt_modChan_same]
    rfl
  unfold Dev.fsPush
  refine ⟨?_, Dev.get_fill_fsSetFill _ (.chan c 2) (d.get_lt (fsFill (.chan c 2))), ?_, fun k hk => ?_, fun a ha => ?_⟩
  · dsimp only
    rw [Dev.fsItems_tx, Dev.chanSt_fsSetFill]
    exact congrArg ChanSt.tx hst
  · refine (Dev.flag_falling_fsSetFill _ (.chan c 2) _).trans ?_
    dsimp only
    rw [Dev.fsCount, Dev.modChan_get]
    refine congrArg (fun l => decide (d.get (F.FS_STAT_FILL c 2) < l)) ?_
    exact (congrArg (fun s : ChanSt => s.tx.length) hst).trans List.length_append
  · dsimp only
    rw [Dev.chanSt_fsSetFill, Dev.chanSt_modChan_other _ _ hk]
  · dsimp only
    rw [Dev.word_fsSetFill _ (.chan c 2) _ ha, Dev.modChan_word]

end

end Sys2Proof.Machine
end

section
/-! Flowstone FIFOs: pushes judged, flushes and landings (R137 to R142, R148, R197). -/

namespace Sys2Proof.Machine
open Sys2Proof

section
variable {d : Dev} {c : Fin 80}

/-! ### PUSH (R138, R139, R142) -/

section
variable {slot blocks : Nat} {free : Bool}

theorem Dev.fsPushSlot_taken (hen : d.flag (F.FS_CFG_EN c 2) = true) (hlen : (d.chanSt c).tx.length < 32) :
    d.fsPushSlot c slot true blocks = .ok (d.fsPush c 2 slot blocks d.baseNs) := by
  unfold Dev.fsPushSlot
  rw [hen, decide_eq_false (by omega)]
  rfl

theorem Dev.fsPushSlot_full (hen : d.flag (F.FS_CFG_EN c 2) = true) (hlen : 32 ≤ (d.chanSt c).tx.length) :
    d.fsPushSlot c slot free blocks = .ok (d.fsOverrunAt c 2) := by
  unfold Dev.fsPushSlot
  dsimp only
  rw [hen, decide_eq_true hlen, if_pos rfl]
  rfl

theorem Dev.fsPushSlot_refused (h : (free = false ∧ (d.chanSt c).tx.length < 32) ∨ d.flag (F.FS_CFG_EN c 2) = false) :
    d.fsPushSlot c slot free blocks = .no 0x0114 := by
  unfold Dev.fsPushSlot refuseIf
  rcases h with ⟨hfree, hlen⟩ | hen
  · rw [if_pos (by simp [hfree, hlen])]
  · rw [if_pos (by simp [hen])]

end

/-! ### FLUSH (R142, R148) -/

theorem canCnt_ne_fsStat (c : Fin 80) (k : Nat) : R.CAN_CNT c k ≠ R.FS_STAT c 2 := by
  simp only [R.CAN_CNT, R.FS_STAT]
  omega

/-- R142: the items that a flush of a transmit FIFO keeps, the head alone or none. -/
def flushKept (keep : Bool) (l : List FsItem) : List FsItem := if keep then l.take 1 else []

/-- R142: a flush of a CAN channel. -/
def Dev.canFlushed (d : Dev) (c : Fin 80) (keep : Bool) : Dev :=
  (((d.put (fsRpos (.chan c 2)) 0).modChan c (fun s => { s with
      tx := flushKept keep s.tx
      head := if keep then s.head.map (fun h => { h with flushed := true }) else none })).fsSetFill
    (.chan c 2) (boolNat keep)).bumpBy (F.CAN_CNT_COUNT c 10) ((d.chanSt c).tx.length - boolNat keep)

theorem Dev.canFlush_eq {b : Bool} : d.canFlush c b =
    if !(b && d.txEligible c) && (d.chanSt c).tx != [] then (d.canFlushed c (b && d.txEligible c)).raise (chanPage c) 3
    else d.canFlushed c (b && d.txEligible c) := by
  unfold Dev.canFlush Dev.canFlushed flushKept
  dsimp only
  cases b && d.txEligible c <;> rfl

theorem Dev.canFlushed_reads (keep : Bool) :
    (d.canFlushed c keep).chanSt c = { d.chanSt c with
      tx := flushKept keep (d.chanSt c).tx
      head := if keep then (d.chanSt c).head.map (fun h => { h with flushed := true }) else none } ∧
    (d.canFlushed c keep).get (F.FS_STAT_FILL c 2) = boolNat keep ∧
    (d.canFlushed c keep).get (F.CAN_CNT_COUNT c 10) =
      satAdd 32 (d.get (F.CAN_CNT_COUNT c 10)) ((d.chanSt c).tx.length - boolNat keep) ∧
    ∀ k, k ≠ c.val → (d.canFlushed c keep).chanSt k = d.chanSt k := by
  have hne := canCnt_ne_fsStat c 10
  unfold Dev.canFlushed
  refine ⟨?_, ?_, ?_, fun k hk => ?_⟩
  · rw [Dev.bumpBy, Dev.chanSt_put, Dev.chanSt_fsSetFill, Dev.chanSt_modChan_same, Dev.chanSt_put]
  · rw [Dev.get_bumpBy_other _ _ _ _ hne.symm]
    refine Dev.get_fill_fsSetFill _ (.chan c 2) ?_
    cases keep <;> decide
  · rw [Dev.get_bumpBy _ _ _ (by decide : 0 + 32 ≤ 32), Dev.get_of_word (Dev.word_fsSetFill _ (.chan c 2) _ hne),
      Dev.modChan_get, Dev.get_put_other _ _ _ _ hne, satAdd_eq_min]
    rfl
  · rw [Dev.bumpBy, Dev.chanSt_put, Dev.chanSt_fsSetFill, Dev.chanSt_modChan_other _ _ hk, Dev.chanSt_put]

/-- An event of a channel's page leaves its FIFOs, its counters and every channel. -/
theorem Dev.canFlush_shows {b : Bool} :
    (d.canFlush c b).chan = (d.canFlushed c (b && d.txEligible c)).chan ∧
    ∀ g : Fld, 0x40 ≤ g.addr % 0x1000 → (d.canFlush c b).get g = (d.canFlushed c (b && d.txEligible c)).get g := by
  rw [Dev.canFlush_eq]
  split
  · exact ⟨Dev.raise_chan _ _ _, fun g hg => Dev.get_of_word (Dev.word_raise_of_body _ _ _ hg)⟩
  · exact ⟨rfl, fun g _ => rfl⟩

/-- R142: what a flush of a CAN channel leaves. -/
theorem Dev.canFlush_reads {b keep : Bool} (hk : (b && d.txEligible c) = keep) :
    (d.canFlush c b).chanSt c = { d.chanSt c with
      tx := flushKept keep (d.chanSt c).tx
      head := if keep then (d.chanSt c).head.map (fun h => { h with flushed := true }) else none } ∧
    (d.canFlush c b).get (F.FS_STAT_FILL c 2) = boolNat keep ∧
    (d.canFlush c b).get (F.CAN_CNT_COUNT c 10) =
      satAdd 32 (d.get (F.CAN_CNT_COUNT c 10)) ((d.chanSt c).tx.length - boolNat keep) ∧
    ∀ k, k ≠ c.val → (d.canFlush c b).chanSt k = d.chanSt k := by
  obtain ⟨hchan, hget⟩ := Dev.canFlush_shows (d := d) (c := c) (b := b)
  obtain ⟨hst, hfill, hcnt, hother⟩ := Dev.canFlushed_reads (d := d) (c := c) keep
  rw [hk] at hchan hget
  have hbody : 0x40 ≤ R.FS_STAT c 2 % 0x1000 ∧ 0x40 ≤ R.CAN_CNT c 10 % 0x1000 := by
    simp only [R.FS_STAT, R.CAN_CNT]
    omega
  exact ⟨(Dev.chanSt_of_chan hchan _).trans hst, (hget _ hbody.1).trans hfill, (hget _ hbody.2).trans hcnt,
    fun k hk => (Dev.chanSt_of_chan hchan _).trans (hother k hk)⟩

/-- R148: a flush of a LIN channel. -/
def Dev.linFlushed (d : Dev) (c : Fin 80) (keep : Bool) : Dev :=
  (d.modChan c (fun s => { s with tx := flushKept keep s.tx })).fsSetFill (.chan c 2) (boolNat keep)

theorem Dev.linFlush_eq {keep : Bool} (hk : (d.chanSt c).lin.any (fun x => x.item) = keep) : d.linFlush c =
    if !keep && (d.chanSt c).tx != [] then (d.linFlushed c keep).raise (chanPage c) 3 else d.linFlushed c keep := by
  subst hk
  unfold Dev.linFlush Dev.linFlushed flushKept
  cases (d.chanSt c).lin with
  | none => rfl
  | some x =>
    rw [Option.any_some]
    dsimp only
    cases x.item <;> rfl

/-- R148: a flush of a LIN channel keeps the item whose frame is in progress, and changes nothing else of its channel. -/
theorem Dev.linFlush_reads : (d.linFlush c).chanSt c = { d.chanSt c with
      tx := flushKept ((d.chanSt c).lin.any (fun x => x.item)) (d.chanSt c).tx } ∧
    ∀ k, k ≠ c.val → (d.linFlush c).chanSt k = d.chanSt k := by
  have hchan : ∀ k, (d.linFlush c).chanSt k =
      (d.linFlushed c ((d.chanSt c).lin.any (fun x => x.item))).chanSt k := fun k => by
    rw [Dev.linFlush_eq rfl]
    split
    · exact Dev.chanSt_of_chan (Dev.raise_chan _ _ _) k
    · rfl
  refine ⟨?_, fun k hk => ?_⟩
  · rw [hchan, Dev.linFlushed, Dev.chanSt_fsSetFill, Dev.chanSt_modChan_same]
  · rw [hchan, Dev.linFlushed, Dev.chanSt_fsSetFill, Dev.chanSt_modChan_other _ _ hk]

/-! ### Landing (R137, R141) -/

theorem Dev.fsLand_none {q : FifoId} (h : d.fsCount q ≤ d.get (fsFill q)) : d.fsLand q = d := by
  unfold Dev.fsLand
  exact if_neg (by omega)

/-- Registers of a FIFO other than FS_STAT. -/
theorem fs_ne_stat (c f : Nat) : R.FS_CFG c f ≠ R.FS_STAT c f ∧ R.FS_NOTICE c f ≠ R.FS_STAT c f := by
  simp only [R.FS_CFG, R.FS_STAT, R.FS_NOTICE]
  omega

theorem Dev.fsLand_rx {f : Fin 3} {n : Nat} (hf : f ≠ 2) (hn : d.get (F.FS_STAT_FILL c f) = n)
    (h : n < (d.fsItems c f).length) : d.fsLand (.chan c f) = (d.fsSetFill (.chan c f) (n + 1)).fsLanded c f := by
  subst hn
  unfold Dev.fsLand
  exact (if_pos h).trans (if_neg hf)

/-- R141: a received item that has landed by the registers before it did. -/
theorem Dev.fsLanded_fsSetFill {f : Fin 3} {k : Nat} (h : k < 64) : (d.fsSetFill (.chan c f) k).fsLanded c f =
    if d.flag (F.FS_CFG_NOTICE c f) then
      ((d.fsSetFill (.chan c f) k).put (F.FS_NOTICE_PENDING c f) (min 32 (d.get (F.FS_NOTICE_PENDING c f) + 1))).raise
        (chanPage c) (1 + f)
    else if d.get (F.FS_CFG_WATERMARK c f) = k then (d.fsSetFill (.chan c f) k).raise (chanPage c) (1 + f)
    else d.fsSetFill (.chan c f) k := by
  obtain ⟨hcfg, hnotice⟩ := fs_ne_stat c f
  unfold Dev.fsLanded
  rw [Dev.get_fill_fsSetFill _ _ h, Dev.flag_of_word (g := F.FS_CFG_NOTICE c f) (Dev.word_fsSetFill d (.chan c f) k hcfg),
    Dev.get_of_word (g := F.FS_CFG_WATERMARK c f) (Dev.word_fsSetFill d (.chan c f) k hcfg),
    Dev.get_of_word (g := F.FS_NOTICE_PENDING c f) (Dev.word_fsSetFill d (.chan c f) k hnotice)]

theorem Dev.modChan_congr {k : Nat} {f g : ChanSt → ChanSt} (h : f (d.chanSt k) = g (d.chanSt k)) :
    d.modChan k f = d.modChan k g := by
  unfold Dev.chanSt at h
  unfold Dev.modChan tmod
  rw [h]

/-- R137: an item of a transmit FIFO notes when it landed. -/
theorem Dev.fsLand_tx {n : Nat} {t : List FsItem} (hn : d.get (F.FS_STAT_FILL c 2) = n) (h : n < (d.fsItems c 2).length)
    (ht : (d.chanSt c).tx.modify n (fun it => { it with landed := d.baseNs }) = t) :
    d.fsLand (.chan c 2) =
      if c.val < 64 then ((d.fsSetFill (.chan c 2) (n + 1)).modChan c (fun x => { x with tx := t })).txNext c
      else (d.fsSetFill (.chan c 2) (n + 1)).modChan c (fun x => { x with tx := t }) := by
  have hmod : (d.fsSetFill (.chan c 2) (n + 1)).modChan c (fun s => { s with
      tx := s.tx.modify n (fun it => { it with landed := (d.fsSetFill (.chan c 2) (n + 1)).baseNs }) }) =
      (d.fsSetFill (.chan c 2) (n + 1)).modChan c (fun x => { x with tx := t }) := by
    refine Dev.modChan_congr ?_
    rw [Dev.chanSt_fsSetFill, Dev.baseNs, Dev.fsSetFill_tl, ← Dev.baseNs, ht]
  rw [← hmod]
  subst hn
  unfold Dev.fsLand
  exact (if_pos h).trans (if_pos rfl)

/-- R197: a notice that has landed. -/
theorem Dev.fsLand_learn {k : Fin 2} {n : Nat} (hn : d.get (F.LQ_STAT_FILL k) = n) (h : n < (tget d.learnq k).length) :
    d.fsLand (.learn k) = if d.get (F.LQ_CFG_WATERMARK k) = n + 1 then (d.fsSetFill (.learn k) (n + 1)).raise (.lk k 2) 1
      else d.fsSetFill (.learn k) (n + 1) := by
  have hne : R.LQ_CFG k ≠ R.LQ_STAT k := by
    simp only [R.LQ_CFG, R.LQ_STAT]
    omega
  rw [← Dev.get_of_word (g := F.LQ_CFG_WATERMARK k) (Dev.word_fsSetFill d (.learn k) (n + 1) hne)]
  subst hn
  unfold Dev.fsLand
  exact if_pos h

end

end Sys2Proof.Machine
end

section
/-! The commands of the Flowstone FIFOs (R137 to R142, R148, R197). -/

namespace Sys2Proof.Machine
open Sys2Proof

section
variable {s : State} {i : Init} {c : Fin 80} {f : Fin 3} {n : Fin 64} {b : Bool}

theorem exec_flowstoneLand {q : FifoId} : exec (.flowstoneLand q) s = .next (s.ends (s.dev.fsLand q)) :=
  act_eq_ends s (fun d => d.fsLand q)

theorem exec_fsAdvance : exec (.fsAdvance i c f) s = .next (s.ends (s.dev.fsRow i c f 1 0 false)) :=
  act_eq_ends s (fun d => d.fsRow i c f 1 0 false)

theorem exec_fsMark : exec (.fsMark i c f) s = .next (s.ends (s.dev.fsRow i c f 2 0 false)) :=
  act_eq_ends s (fun d => d.fsRow i c f 2 0 false)

theorem exec_fsRewind : exec (.fsRewind i c f) s = .next (s.ends (s.dev.fsRow i c f 3 0 false)) :=
  act_eq_ends s (fun d => d.fsRow i c f 3 0 false)

theorem exec_fsRelease : exec (.fsRelease i c f n) s = .next (s.ends (s.dev.fsRow i c f 4 n false)) :=
  act_eq_ends s (fun d => d.fsRow i c f 4 n false)

theorem exec_fsNoticeAck : exec (.fsNoticeAck i c f) s = .next (s.ends (s.dev.fsRow i c f 5 0 false)) :=
  act_eq_ends s (fun d => d.fsRow i c f 5 0 false)

theorem exec_fsPush : exec (.fsPush i c f n) s = .next (s.ends (s.dev.fsRow i c f 8 n false)) :=
  act_eq_ends s (fun d => d.fsRow i c f 8 n false)

theorem exec_fsFlush : exec (.fsFlush i c f b) s = .next (s.ends (s.dev.fsRow i c f 9 0 b)) :=
  act_eq_ends s (fun d => d.fsRow i c f 9 0 b)

section
variable {d d' : Dev} {code : Nat} (hr : s.dev.reaches i (R.FS_CMD c 2) = some d)
  (ho : fsOwnerIs (d.get (F.FS_CFG_OWNER c 2)) i = true)
include hr ho

/-- R142: by its owner a transmit FIFO is flushed. -/
theorem exec_fsFlush_owner :
    exec (.fsFlush i c 2 b) s = .next (s.ends (if c.val < 64 then d.canFlush c b else d.linFlush c)) := by
  rw [exec_fsFlush, Dev.fsRow_tx_taken hr (by rw [Dev.fsCmd_flush, ho]; rfl)]

/-- R138: by its owner a push into a transmit FIFO is judged. -/
theorem exec_fsPush_taken
    (h : d.fsPushSlot c (n % 32) (d.anySlotFree c (n % 32)) (d.slotBlocks c (n % 32)) = .ok d') :
    exec (.fsPush i c 2 n) s = .next (s.ends d') := by
  rw [exec_fsPush, Dev.fsRow_tx_taken hr (by rw [Dev.fsCmd_push, ho]; exact h)]

theorem exec_fsPush_refused
    (h : d.fsPushSlot c (n % 32) (d.anySlotFree c (n % 32)) (d.slotBlocks c (n % 32)) = .no code) :
    exec (.fsPush i c 2 n) s = .next (s.ends (d.failWrite i (R.FS_CMD c 2) (fsCmdWord 8 n) code)) := by
  rw [exec_fsPush, Dev.fsRow_tx_refused hr (by rw [Dev.fsCmd_push, ho]; exact h)]

end

end

/-- Settles O22: each row by the operation of the FIFO that it names (`Dev.fsCmd_rx_owner`, `Dev.fsCmd_push`,
`Dev.fsCmd_flush`), a refusal by the code that `Dev.fsCmd` gives, a landing by what FS_STAT shows after it. -/
theorem flowstoneCommands : Obligations.FlowstoneCommands := by
  unfold Obligations.FlowstoneCommands
  refine ⟨?landRx, ?landTx, ?landLearn, ?landNone, ?advance, ?mark, ?rewind, ?release, ?releaseNo, ?ack, ?push, ?pushFull,
    ?pushNo, ?flush, ?flushKept, ?flushLin, ?otherRx, ?otherTx, ?rxOpsAtTx, ?txOpsAtRx, ?reserved⟩
  case landRx =>
    intro s c f hf hfill hlen
    rw [exec_flowstoneLand, Dev.fsLand_rx hf rfl hfill, Dev.fsLanded_fsSetFill (by omega)]
  case landTx =>
    intro s c t hfill ht
    rw [exec_flowstoneLand, Dev.fsLand_tx rfl hfill ht]
  case landLearn =>
    intro s k hfill hlen
    rw [exec_flowstoneLand, Dev.fsLand_learn rfl hfill]
  case landNone =>
    intro s q h
    rw [exec_flowstoneLand, Dev.fsLand_none h]
  case advance =>
    intro s i c f d hr hres hf ho
    rw [exec_fsAdvance, Dev.fsRow_taken hr hres (Dev.fsCmd_rx_owner hf ho (by decide))]
    rfl
  case mark =>
    intro s i c f d hr hres hf ho
    rw [exec_fsMark, Dev.fsRow_taken hr hres (Dev.fsCmd_rx_owner hf ho (by decide))]
    rfl
  case rewind =>
    intro s i c f d hr hres hf ho
    have hcmd := ((Dev.fsCmd_rx_owner (n := 0) (b := false) hf ho (by decide : 3 ≠ 5)).trans Dev.fsOp_rewind).trans
      Dev.fsRewind_eq
    rw [exec_fsRewind]
    split
    next hv => rw [Dev.fsRow_taken hr hres (hcmd.trans (if_pos hv))]; rfl
    next hv => rw [Dev.fsRow_refused hr hres (hcmd.trans (if_neg hv))]
  case release =>
    intro s i c f count d hr hres hf ho h0 h32 hrpos
    have h0' : count.val ≠ 0 := fun h => h0 (Fin.ext h)
    obtain ⟨hr', hfill, hvalid, hmark⟩ := d.fsFree_reads (.chan c f) count
    refine ⟨d.fsFree (.chan c f) count, ?_, d.fsItems_fsFree c f count, hr', hfill, hvalid, hmark,
      d.chanSt_fsFree_ram c f count, fun k hk => d.chanSt_fsFree_other c f count hk, fun a ha => (d.word_fsFree _ _ ha).trans (d.word_fsDrop _ _ _)⟩
    rw [exec_fsRelease, Dev.fsRow_taken hr hres
      ((Dev.fsCmd_rx_owner hf ho (by decide : 4 ≠ 5)).trans (Dev.fsOp_release.trans (Dev.fsRelease_taken h0' h32 hrpos)))]
  case releaseNo =>
    intro s i c f count d hr hres hf ho h
    have h' : count.val = 0 ∨ 32 < count.val ∨ d.get (F.FS_STAT_RPOS c f) < count := h.imp_left (congrArg Fin.val)
    rw [exec_fsRelease, Dev.fsRow_refused hr hres
      ((Dev.fsCmd_rx_owner hf ho (by decide : 4 ≠ 5)).trans (Dev.fsOp_release.trans (Dev.fsRelease_refused h')))]
  case ack =>
    intro s i c f d hr hres hf ho
    have hcmd := Dev.fsCmd_ack (n := 0) (b := false) hf ho
    rw [exec_fsNoticeAck]
    split
    next hn => rw [Dev.fsRow_taken hr hres (hcmd.trans (if_pos hn))]
    next hn => rw [Dev.fsRow_refused hr hres (hcmd.trans (if_neg hn))]
  case push =>
    intro s i c slot d hr ho hen hfree hlen
    refine ⟨_, ?_, d.fsPush_tx_reads c (slot % 32) (d.slotBlocks c (slot % 32)) d.baseNs⟩
    exact exec_fsPush_taken hr ho (by rw [hfree, Dev.fsPushSlot_taken hen hlen])
  case pushFull =>
    exact fun s i c slot d hr ho hen hlen => exec_fsPush_taken hr ho (Dev.fsPushSlot_full hen hlen)
  case pushNo =>
    exact fun s i c slot d hr ho h => exec_fsPush_refused hr ho (Dev.fsPushSlot_refused h)
  case flush =>
    intro s i c d hr ho hc
    obtain ⟨hst, hfill, hcnt, hother⟩ := Dev.canFlush_reads (d := d) (c := c) (b := false) rfl
    refine ⟨_, exec_fsFlush_owner hr ho, ?_⟩
    rw [if_pos hc, Dev.fsItems_tx, hst]
    exact ⟨rfl, rfl, hfill, hcnt, rfl, hother⟩
  case flushKept =>
    intro s i c h d hr ho hc hh he
    obtain ⟨hst, hfill, hcnt, -⟩ := Dev.canFlush_reads (d := d) (c := c) (b := true) he
    refine ⟨_, exec_fsFlush_owner hr ho, ?_⟩
    rw [if_pos hc, Dev.fsItems_tx, hst, hh]
    exact ⟨rfl, rfl, hfill, hcnt⟩
  case flushLin =>
    intro s i c b d hr ho hc
    obtain ⟨hst, hother⟩ := Dev.linFlush_reads (d := d) (c := c)
    refine ⟨_, exec_fsFlush_owner hr ho, ?_⟩
    rw [if_neg (by omega), Dev.fsItems_tx, hst]
    exact ⟨rfl, rfl, hother⟩
  case otherRx =>
    intro s i c f count d hr hres hf ho
    rw [exec_fsAdvance, exec_fsMark, exec_fsRewind, exec_fsRelease, exec_fsNoticeAck]
    iterate 5 rw [Dev.fsRow_refused hr hres (Dev.fsCmd_rx_other hf ho)]
    exact ⟨rfl, rfl, rfl, rfl, rfl⟩
  case otherTx =>
    intro s i c slot b d hr ho
    rw [exec_fsPush, exec_fsFlush, Dev.fsRow_tx_refused hr (by rw [Dev.fsCmd_push, ho]; rfl),
      Dev.fsRow_tx_refused hr (by rw [Dev.fsCmd_flush, ho]; rfl)]
    exact ⟨rfl, rfl⟩
  case rxOpsAtTx =>
    intro s i c count d hr
    rw [exec_fsAdvance, exec_fsMark, exec_fsRewind, exec_fsRelease, exec_fsNoticeAck]
    iterate 5 rw [Dev.fsRow_tx_refused hr (Dev.fsCmd_tx_none (by decide) (by decide))]
    exact ⟨rfl, rfl, rfl, rfl, rfl⟩
  case txOpsAtRx =>
    intro s i c f slot b d hr hres hf ho
    rw [exec_fsPush, exec_fsFlush, Dev.fsRow_refused hr hres (Dev.fsCmd_rx_owner hf ho (by decide)),
      Dev.fsRow_refused hr hres (Dev.fsCmd_rx_owner hf ho (by decide))]
    exact ⟨rfl, rfl⟩
  case reserved =>
    intro s i c count slot b d hr hc
    have hres : fifoReserved c 1 = true := Bool.and_eq_true_iff.mpr ⟨decide_eq_true hc, rfl⟩
    rw [exec_fsAdvance, exec_fsMark, exec_fsRewind, exec_fsRelease, exec_fsNoticeAck, exec_fsPush, exec_fsFlush]
    iterate 7 rw [Dev.fsRow_reserved (f := 1) hr hres]
    exact ⟨rfl, rfl, rfl, rfl, rfl, rfl, rfl⟩

end Sys2Proof.Machine
end

section
/-! What a CAN channel does with a frame that it received (R129, R131, R135, R139, R145, R225, R370). -/

namespace Sys2Proof.Machine
open Sys2Proof

/-! ### What becomes of a frame (R135, R139, R145) -/

section
variable {d : Dev} {n : Fin 64} {f : CanFrame} {act flt stamp ns : Nat} {q : Fin 3}

/-- R145: what a verdict makes of a frame that finds room in FIFO q. -/
def Dev.rxJudged (d : Dev) (n : Fin 64) (q : Fin 3) (f : CanFrame) (flt stamp ns : Nat) : AuthVerdict → Dev × Nat × Bool
  | .plain => (d.rxStore n q f none flt stamp ns, 0, false)
  | .pass k fresh =>
    ((d.ramWrite n (d.authAddr n k + 8) (leBytes 8 fresh)).rxStore n q f (some k) flt stamp ns, 0, true)
  | .fail k =>
    let a := d.authAddr n k + 16
    (((d.ramWrite n a (leBytes 4 (satAdd 32 (d.ramNat n a 4) 1))).bump (F.CAN_CNT_COUNT n 5)).raise (.can n) 6, 2, false)
  | .noKey => (d.bump (F.CAN_CNT_COUNT n 6), 2, false)

theorem Dev.rxDecide_rejected (hflt : d.canFilter n f = (3, flt)) :
    d.rxDecide n f stamp ns = (d.bump (F.CAN_CNT_COUNT n 4), 1, false) := by
  unfold Dev.rxDecide
  rw [hflt]
  exact if_pos rfl

section
variable (hflt : d.canFilter n f = (act, flt)) (ha : act ≠ 3) (hq : q = if act = 1 then 0 else 1)
include hflt ha hq

theorem Dev.rxDecide_overrun (hroom : d.rxRoom n q (elemBlocks (storedData f).length) = false) :
    d.rxDecide n f stamp ns = (d.fsOverrunAt (canC n) q, 3, false) := by
  unfold Dev.rxDecide
  rw [hflt]
  dsimp only
  rw [if_neg ha, ← hq, hroom]
  exact if_pos rfl

theorem Dev.rxDecide_room {v : AuthVerdict} (hroom : d.rxRoom n q (elemBlocks (storedData f).length) = true)
    (hv : d.authVerify n f (storedData f) = v) : d.rxDecide n f stamp ns = d.rxJudged n q f flt stamp ns v := by
  unfold Dev.rxDecide
  rw [hflt]
  dsimp only
  rw [if_neg ha, ← hq, hroom, if_neg (by decide), hv]
  cases v <;> rfl

end

end

/-! ### A frame on its way to the filters (R129, R131, R225, R250, R253) -/

section
variable {s : State} {n : Fin 64} {f : CanFrame} {ago : Nat}

theorem exec_canFrameRx : exec (.canFrameRx n f ago) s = .next (s.ends (s.dev.canReceive n f ago)) :=
  act_eq_ends s (fun d => d.canReceive n f ago)

/-- R129, R246: a controller that hears no bus, and a frame of a format that is not enabled, reach neither the Clearing
assist nor the filters. -/
theorem Dev.canReceive_unheard {d : Dev} (h : (d.canHears n && d.fmtEnabled n f.fmt) = false) :
    d.canReceive n f ago = d.canFrameRx n f ago := by
  unfold Dev.canReceive
  rw [h]
  rfl

theorem Dev.canReceive_heard {d d0 : Dev} (hh : d.canHears n = true) (hf : d.fmtEnabled n f.fmt = true)
    (hring : (d.ringNode n f).elim (d.chanActivity n) (fun r => d.ringRx r f.data) = d0) :
    d.canReceive n f ago = d0.canFrameRx n f ago := by
  unfold Dev.canReceive
  rw [hh, hf, ← hring]
  cases d.ringNode n f <;> rfl

theorem Dev.canFrameRx_taken {d e : Dev} (hh : d.canHears n = true) (hf : d.fmtEnabled n f.fmt = true)
    (hrec : d.recReceived n = e) : d.canFrameRx n f ago = e.canStore n f ago := by
  unfold Dev.canFrameRx
  rw [hh, hf, hrec]
  rfl

theorem Dev.canFrameRx_deaf {d : Dev} (hh : d.canHears n = false) : d.canFrameRx n f ago = d := by
  unfold Dev.canFrameRx
  rw [hh]
  rfl

theorem Dev.canFrameRx_foreign {d : Dev} (hh : d.canHears n = true) (hf : d.fmtEnabled n f.fmt = false) :
    d.canFrameRx n f ago = d.canForeign n := by
  unfold Dev.canFrameRx
  rw [hh, hf]
  rfl

theorem Dev.canStore_eq {e d1 d2 : Dev} {rs : List TapRes} {fate : Nat} {auth : Bool}
    (htap : e.tapHead (32 + n) false 2048 = (d1, rs))
    (hdec : d1.rxDecide n f (e.canRxStamp n ago) (e.canInstant ago / 64).toNat = (d2, fate, auth)) :
    e.canStore n f ago = d2.tapTail rs (e.canRxRecord n f ago fate auth) := by
  unfold Dev.canStore
  dsimp only
  rw [htap]
  dsimp only
  rw [hdec]

/-- The way of a frame that is received: to the assist, to the counters, past the taps, to what becomes of it. -/
theorem exec_canFrameRx_decided {d0 e d1 d2 : Dev} {rs : List TapRes} {fate : Nat} {auth : Bool}
    (hh : s.dev.canHears n = true) (hf : s.dev.fmtEnabled n f.fmt = true)
    (hring : (s.dev.ringNode n f).elim (s.dev.chanActivity n) (fun r => s.dev.ringRx r f.data) = d0)
    (hh0 : d0.canHears n = true) (hf0 : d0.fmtEnabled n f.fmt = true) (hrec : d0.recReceived n = e)
    (htap : e.tapHead (32 + n) false 2048 = (d1, rs))
    (hdec : d1.rxDecide n f (e.canRxStamp n ago) (e.canInstant ago / 64).toNat = (d2, fate, auth)) :
    exec (.canFrameRx n f ago) s = .next (s.ends (d2.tapTail rs (e.canRxRecord n f ago fate auth))) := by
  rw [exec_canFrameRx, Dev.canReceive_heard hh hf hring, Dev.canFrameRx_taken hh0 hf0 hrec, Dev.canStore_eq htap hdec]

theorem exec_canFrameRx_foreign (hh : s.dev.canHears n = true) (hf : s.dev.fmtEnabled n f.fmt = false) :
    exec (.canFrameRx n f ago) s = .next (s.ends (s.dev.canForeign n)) := by
  rw [exec_canFrameRx, Dev.canReceive_unheard (by rw [hh, hf]; rfl), Dev.canFrameRx_foreign hh hf]

/-! ### Integration (R370) -/

theorem exec_canIntegrationDone : exec (.canIntegrationDone n) s = .next (s.ends (s.dev.canIntegrated n)) :=
  act_eq_ends s (fun d => d.canIntegrated n)

theorem Dev.canIntegrated_done {d : Dev} (he : d.enabled (.can n) = true) (h3 : d.get (F.CAN_ERR_STATE n) = 3) :
    d.canIntegrated n = d.canSetState n (d.canErrState n) := by
  unfold Dev.canIntegrated
  rw [he, h3]
  rfl

theorem Dev.canIntegrated_none {d : Dev} (h : d.enabled (.can n) = false ∨ d.get (F.CAN_ERR_STATE n) ≠ 3) :
    d.canIntegrated n = d := by
  unfold Dev.canIntegrated
  rw [if_neg (by rcases h with h | h <;> simp [h])]

end

/-- Settles O19: what the filters and the authentication decide (`Dev.rxDecide_rejected`, `Dev.rxDecide_overrun`,
`Dev.rxDecide_room` with each verdict) carried to the end of the row by `exec_canFrameRx_decided`. -/
theorem canReception : Obligations.CanReception := by
  unfold Obligations.CanReception
  refine ⟨?stored, ?rejected, ?overrun, ?verified, ?failed, ?noKey, ?exception, ?formError, ?deaf, ?integrated, ?other⟩
  case stored =>
    intro s n f ago d0 e d1 rs act flt q hh hf hring hh0 hf0 hrec htap hflt ha hq hroom hv
    exact exec_canFrameRx_decided hh hf hring hh0 hf0 hrec htap (Dev.rxDecide_room hflt ha hq hroom hv)
  case rejected =>
    intro s n f ago d0 e d1 rs flt hh hf hring hh0 hf0 hrec htap hflt
    exact exec_canFrameRx_decided hh hf hring hh0 hf0 hrec htap (Dev.rxDecide_rejected hflt)
  case overrun =>
    intro s n f ago d0 e d1 rs act flt q hh hf hring hh0 hf0 hrec htap hflt ha hq hroom
    exact exec_canFrameRx_decided hh hf hring hh0 hf0 hrec htap (Dev.rxDecide_overrun hflt ha hq hroom)
  case verified =>
    intro s n f ago d0 e d1 rs act flt k fresh q hh hf hring hh0 hf0 hrec htap hflt ha hq hroom hv
    exact exec_canFrameRx_decided hh hf hring hh0 hf0 hrec htap (Dev.rxDecide_room hflt ha hq hroom hv)
  case failed =>
    intro s n f ago d0 e d1 rs act flt k q hh hf hring hh0 hf0 hrec htap hflt ha hq hroom hv
    exact exec_canFrameRx_decided hh hf hring hh0 hf0 hrec htap (Dev.rxDecide_room hflt ha hq hroom hv)
  case noKey =>
    intro s n f ago d0 e d1 rs act flt q hh hf hring hh0 hf0 hrec htap hflt ha hq hroom hv
    exact exec_canFrameRx_decided hh hf hring hh0 hf0 hrec htap (Dev.rxDecide_room hflt ha hq hroom hv)
  case exception =>
    intro s n f ago hh hf hp
    rw [exec_canFrameRx_foreign hh hf, Dev.canForeign, hp]
    rfl
  case formError =>
    intro s n f ago hh hf hp
    rw [exec_canFrameRx_foreign hh hf, Dev.canForeign, hp, if_neg Bool.false_ne_true]
  case deaf =>
    intro s n f ago hh
    rw [exec_canFrameRx, Dev.canReceive_unheard (by rw [hh]; rfl), Dev.canFrameRx_deaf hh]
  case integrated =>
    intro s n he h3
    rw [exec_canIntegrationDone, Dev.canIntegrated_done he h3]
  case other =>
    intro s n h
    rw [exec_canIntegrationDone, Dev.canIntegrated_none h]

end Sys2Proof.Machine
end

section
/-! What the capture of an event leaves as it is (R225, R232): the channels, and every register below those of Capture. -/

namespace Sys2Proof.Machine
open Sys2Proof

/-- From `d` to `e` no register below the pages of Capture changes, and no channel. -/
structure Dev.belowCapture (d e : Dev) : Prop where
  word : ∀ a, a < 0x2800000 → e.word a = d.word a
  chan : e.chan = d.chan

namespace Dev.belowCapture
variable {d e f : Dev}

theorem refl (d : Dev) : d.belowCapture d := ⟨fun _ _ => rfl, rfl⟩

theorem trans (h : d.belowCapture e) (k : e.belowCapture f) : d.belowCapture f :=
  ⟨fun a ha => (k.word a ha).trans (h.word a ha), k.chan.trans h.chan⟩

theorem get (h : d.belowCapture e) {g : Fld} (hg : g.addr < 0x2800000) : e.get g = d.get g :=
  Dev.get_of_word (h.word _ hg)

/-- A change beside the registers and the channels. -/
theorem of_eq (hr : e.regs = d.regs) (hc : e.chan = d.chan) : d.belowCapture e :=
  ⟨fun a _ => by rw [Dev.word, Dev.word, hr], hc⟩

theorem put (d : Dev) (g : Fld) (v : Nat) (hg : 0x2800000 ≤ g.addr) : d.belowCapture (d.put g v) :=
  ⟨fun a ha => d.word_put_other g v a (by omega), rfl⟩

theorem raise (d : Dev) (pg : Page) (bit : Nat) (h : 0x2800000 ≤ pageBase pg) : d.belowCapture (d.raise pg bit) :=
  ⟨fun _ ha => d.word_raise_other pg bit (by omega), d.raise_chan pg bit⟩

theorem modRing (d : Dev) (k : Nat) (g : LogRing → LogRing) : d.belowCapture (d.modRing k g) := of_eq rfl rfl

theorem ringLoss (d : Dev) (k : Nat) : d.belowCapture (d.ringLoss k) := by
  have ha : 0x2800000 ≤ (F.CP_RING_LOST_COUNT k).addr := by
    change 0x2800000 ≤ R.CP_RING_LOST k
    unfold R.CP_RING_LOST
    omega
  exact ((put d _ _ ha).trans (modRing _ _ _)).trans (raise _ _ _ (by decide))

theorem tapHead (d : Dev) (src : Nat) (dir : Bool) (most : Nat) : d.belowCapture (d.tapHead src dir most).1 := by
  unfold Dev.tapHead
  split
  · exact refl d
  · refine List.foldlRecOn (motive := fun acc : Dev × List TapRes => d.belowCapture acc.1) _ _ (refl d) fun acc h t _ => ?_
    dsimp only
    split
    · split
      · exact h.trans (ringLoss _ _)
      · exact h.trans (put _ F.CP_BUF_STAT_USED _ (by decide))
    · exact h

theorem tapTail (d : Dev) (rs : List TapRes) (x : CapRec) : d.belowCapture (d.tapTail rs x) := by
  unfold Dev.tapTail
  refine List.foldlRecOn (motive := fun e => d.belowCapture e) _ _ (refl d) fun e h y _ => ?_
  exact (h.trans (put e F.CP_BUF_STAT_USED _ (by decide))).trans (of_eq rfl rfl)

theorem tapEvent (d : Dev) (src : Nat) (dir : Bool) (most : Nat) (x : CapRec) :
    d.belowCapture (d.tapEvent src dir most x) :=
  (tapHead d src dir most).trans (tapTail _ _ x)

end Dev.belowCapture

end Sys2Proof.Machine
end

section
/-! The end of a CAN transmission attempt (R130, R131, R142): what a frame sent shows and counts, and what leaves the
transmit FIFO. -/

namespace Sys2Proof.Machine
open Sys2Proof

section
variable {d : Dev} {n : Fin 64}

/-! ### The head leaves the transmit FIFO (R142) -/

theorem Dev.txFree_chan {c : Fin 80} : (d.txFree c).chan =
    ((d.fsDrop (.chan c 2) 1).modChan c (fun s => { s with head := none })).chan := by
  have hmod : ((d.fsFree (.chan c 2) 1).modChan c (fun s => { s with head := none })).chan =
      ((d.fsDrop (.chan c 2) 1).modChan c (fun s => { s with head := none })).chan := by
    rw [Dev.modChan_chan, Dev.modChan_chan, d.fsFree_chan]
  unfold Dev.txFree
  dsimp only
  split
  · rw [Dev.raise_chan, hmod]
  · exact hmod

theorem Dev.chanSt_txFree {c : Fin 80} :
    (d.txFree c).chanSt c = { d.chanSt c with tx := (d.chanSt c).tx.drop 1, head := none } := by
  rw [Dev.chanSt_of_chan Dev.txFree_chan, Dev.chanSt_modChan_same, Dev.fsDrop_tx, Dev.chanSt_modChan_same]

theorem Dev.chanSt_txFree_other {c : Fin 80} {k : Nat} (h : k ≠ c.val) : (d.txFree c).chanSt k = d.chanSt k := by
  rw [Dev.chanSt_of_chan Dev.txFree_chan, Dev.chanSt_modChan_other _ _ h, Dev.fsDrop_tx, Dev.chanSt_modChan_other _ _ h]

/-- R142: of the registers in the body of a page FS_STAT alone changes. -/
theorem Dev.word_txFree {c : Fin 80} {a : Nat} (ha : a ≠ R.FS_STAT c 2) (hb : 0x40 ≤ a % 0x1000) :
    (d.txFree c).word a = d.word a := by
  have hmod : ((d.fsFree (.chan c 2) 1).modChan c (fun s => { s with head := none })).word a = d.word a := by
    rw [Dev.modChan_word, d.word_fsFree _ _ ha, d.word_fsDrop]
  unfold Dev.txFree
  dsimp only
  split
  · rw [Dev.word_raise_of_body _ _ _ hb, hmod]
  · exact hmod

/-! ### A frame sent (R130, R131, R142) -/

/-- R142: the transmit event of a frame sent. -/
def Dev.txcShown (d : Dev) (n slot tag stamp : Nat) : Dev :=
  ((((d.put (F.CAN_TXC_INFO_VALID n) 1).put (F.CAN_TXC_INFO_SLOT n) slot).put (F.CAN_TXC_INFO_TAG n) tag).put
    (F.CAN_TXC_NS_NS n) (stamp / 8)).put (F.CAN_TXC_FRAC_FRAC n) stamp

theorem Dev.txcShown_chan (slot tag stamp : Nat) : (d.txcShown n slot tag stamp).chan = d.chan := by
  rw [Dev.txcShown, Dev.put_chan, Dev.put_chan, Dev.put_chan, Dev.put_chan, Dev.put_chan]

theorem Dev.word_txcShown (slot tag stamp : Nat) {a : Nat} (hi : a ≠ R.CAN_TXC_INFO n) (hn : a ≠ R.CAN_TXC_NS n)
    (hf : a ≠ R.CAN_TXC_FRAC n) : (d.txcShown n slot tag stamp).word a = d.word a := by
  unfold Dev.txcShown
  rw [Dev.word_put_other _ (F.CAN_TXC_FRAC_FRAC n) _ _ hf, Dev.word_put_other _ (F.CAN_TXC_NS_NS n) _ _ hn,
    Dev.word_put_other _ (F.CAN_TXC_INFO_TAG n) _ _ hi, Dev.word_put_other _ (F.CAN_TXC_INFO_SLOT n) _ _ hi,
    Dev.word_put_other _ (F.CAN_TXC_INFO_VALID n) _ _ hi]

theorem Dev.txcShown_reads {slot tag : Nat} (stamp : Nat) (hs : slot < 32) (ht : tag < 2 ^ 16) :
    (d.txcShown n slot tag stamp).flag (F.CAN_TXC_INFO_VALID n) = true ∧
    (d.txcShown n slot tag stamp).get (F.CAN_TXC_INFO_SLOT n) = slot ∧
    (d.txcShown n slot tag stamp).get (F.CAN_TXC_INFO_TAG n) = tag ∧
    (d.txcShown n slot tag stamp).get (F.CAN_TXC_NS_NS n) = stamp / 8 % 2 ^ 32 ∧
    (d.txcShown n slot tag stamp).get (F.CAN_TXC_FRAC_FRAC n) = stamp % 8 := by
  have hinfo : R.CAN_TXC_INFO n ≠ R.CAN_TXC_NS n ∧ R.CAN_TXC_INFO n ≠ R.CAN_TXC_FRAC n ∧
      R.CAN_TXC_NS n ≠ R.CAN_TXC_FRAC n := by
    unfold R.CAN_TXC_INFO R.CAN_TXC_NS R.CAN_TXC_FRAC
    omega
  obtain ⟨hns, hfrac, hnf⟩ := hinfo
  have info : ∀ (e : Dev) x y (g : Fld), g.addr = R.CAN_TXC_INFO n →
      ((e.put (F.CAN_TXC_NS_NS n) x).put (F.CAN_TXC_FRAC_FRAC n) y).get g = e.get g := fun e x y g hg => by
    rw [Dev.get_put_other _ (F.CAN_TXC_FRAC_FRAC n) _ _ (hg ▸ hfrac),
      Dev.get_put_other _ (F.CAN_TXC_NS_NS n) _ _ (hg ▸ hns)]
  unfold Dev.txcShown
  refine ⟨?_, ?_, ?_, ?_, Dev.get_put _ (F.CAN_TXC_FRAC_FRAC n) _ (by decide : 0 + 3 ≤ 32)⟩
  · rw [Dev.flag, info _ _ _ _ rfl,
      Dev.get_put_beside _ (F.CAN_TXC_INFO_TAG n) (F.CAN_TXC_INFO_VALID n) _ (by decide : 0 + 16 ≤ 32)
        (.inr (by decide : 0 + 16 ≤ 31)),
      Dev.get_put_beside _ (F.CAN_TXC_INFO_SLOT n) (F.CAN_TXC_INFO_VALID n) _ (by decide : 16 + 5 ≤ 32)
        (.inr (by decide : 16 + 5 ≤ 31)),
      Dev.get_put _ _ _ (by decide : 31 + 1 ≤ 32)]
    rfl
  · rw [info _ _ _ _ rfl,
      Dev.get_put_beside _ (F.CAN_TXC_INFO_TAG n) (F.CAN_TXC_INFO_SLOT n) _ (by decide : 0 + 16 ≤ 32)
        (.inr (by decide : 0 + 16 ≤ 16)),
      Dev.get_put _ _ _ (by decide : 16 + 5 ≤ 32)]
    exact Nat.mod_eq_of_lt hs
  · rw [info _ _ _ _ rfl, Dev.get_put _ _ _ (by decide : 0 + 16 ≤ 32)]
    exact Nat.mod_eq_of_lt ht
  · rw [Dev.get_put_other _ (F.CAN_TXC_FRAC_FRAC n) _ _ hnf, Dev.get_put _ _ _ (by decide : 0 + 32 ≤ 32)]
    rfl

/-- R130: a measured delay shows in CAN_TDC alone. -/
theorem Dev.canTdc_leaves (ctrl : Nat) : (d.canTdc n ctrl).chan = d.chan ∧
    ∀ a, a ≠ R.CAN_TDC n → (d.canTdc n ctrl).word a = d.word a := by
  unfold Dev.canTdc
  split
  · exact ⟨(Dev.put_chan _ _ _).trans rfl, fun a ha => (Dev.word_put_other _ (F.CAN_TDC_TDCV n) _ a ha).trans rfl⟩
  · exact ⟨rfl, fun _ _ => rfl⟩

/-- R142: the frame at the head leaves the FIFO and is counted. -/
def Dev.txCounted (d : Dev) (n : Fin 64) (ctrl : Nat) : Dev :=
  let e := ((d.txFree (canC n)).canCount n 1).canTdc n ctrl
  e.put (F.CAN_ERR_TEC n) (e.get (F.CAN_ERR_TEC n) - 1)

theorem Dev.word_txCounted (ctrl : Nat) {a : Nat} (hfs : a ≠ R.FS_STAT n 2) (hcnt : a ≠ R.CAN_CNT n 1)
    (htdc : a ≠ R.CAN_TDC n) (herr : a ≠ R.CAN_ERR n) (hb : 0x40 ≤ a % 0x1000) : (d.txCounted n ctrl).word a = d.word a := by
  obtain ⟨-, hword⟩ := ((d.txFree (canC n)).canCount n 1).canTdc_leaves (n := n) ctrl
  unfold Dev.txCounted
  dsimp only
  rw [Dev.word_put_other _ (F.CAN_ERR_TEC n) _ _ herr, hword a htdc, Dev.canCount,
    Dev.word_bump_other _ (F.CAN_CNT_COUNT n 1) _ hcnt, Dev.word_txFree (c := canC n) hfs hb]

theorem Dev.txCounted_chan (ctrl : Nat) : (d.txCounted n ctrl).chan = (d.txFree (canC n)).chan := by
  obtain ⟨hchan, -⟩ := ((d.txFree (canC n)).canCount n 1).canTdc_leaves (n := n) ctrl
  unfold Dev.txCounted
  dsimp only
  rw [Dev.put_chan, hchan, Dev.canCount, Dev.bump_chan]

theorem Dev.txCounted_reads (ctrl : Nat) :
    (d.txCounted n ctrl).get (F.CAN_CNT_COUNT n 1) = min (2 ^ 32 - 1) (d.get (F.CAN_CNT_COUNT n 1) + 1) ∧
    (d.txCounted n ctrl).get (F.CAN_ERR_TEC n) = d.get (F.CAN_ERR_TEC n) - 1 := by
  have haddr : R.CAN_CNT n 1 ≠ R.CAN_ERR n ∧ R.CAN_CNT n 1 ≠ R.CAN_TDC n ∧ R.CAN_CNT n 1 ≠ R.FS_STAT n 2 ∧
      0x40 ≤ R.CAN_CNT n 1 % 0x1000 ∧ R.CAN_ERR n ≠ R.CAN_TDC n ∧ R.CAN_ERR n ≠ R.FS_STAT n 2 ∧
      0x40 ≤ R.CAN_ERR n % 0x1000 := by
    unfold R.CAN_CNT R.CAN_ERR R.CAN_TDC R.FS_STAT
    omega
  obtain ⟨hce, hct, hcf, hcb, het, hef, heb⟩ := haddr
  obtain ⟨-, hword⟩ := ((d.txFree (canC n)).canCount n 1).canTdc_leaves (n := n) ctrl
  have htec : (((d.txFree (canC n)).canCount n 1).canTdc n ctrl).get (F.CAN_ERR_TEC n) = d.get (F.CAN_ERR_TEC n) := by
    rw [Dev.get_of_word (hword _ het), Dev.canCount, Dev.get_bump_other _ (F.CAN_CNT_COUNT n 1) _ hce.symm,
      Dev.get_of_word (Dev.word_txFree (c := canC n) hef heb)]
  have hlt := d.get_lt (F.CAN_ERR_TEC n)
  unfold Dev.txCounted
  dsimp only
  rw [htec]
  refine ⟨?_, ?_⟩
  · rw [Dev.get_put_other _ (F.CAN_ERR_TEC n) _ _ hce, Dev.get_of_word (hword _ hct), Dev.canCount,
      Dev.get_bump _ (F.CAN_CNT_COUNT n 1) (by decide : 0 + 32 ≤ 32),
      Dev.get_of_word (g := F.CAN_CNT_COUNT n 1) (Dev.word_txFree (c := canC n) hcf hcb)]
    rfl
  · rw [Dev.get_put _ (F.CAN_ERR_TEC n) _ (by decide : 16 + 9 ≤ 32)]
    exact Nat.mod_eq_of_lt (by omega)

/-- R132, R142: the stamp of a frame sent whose start lay `ago` CAN clocks back. -/
def Dev.canTxStamp (d : Dev) (n ago : Nat) : Nat := d.stampAt (24 + n) ((d.canEdge64 : Int) - ago * 800) res12ns5

/-- R142: a frame sent is captured, shown and counted; then the state follows the counters and the next item may take the
head. -/
theorem Dev.canLeft_eq (it : FsItem) (ago : Nat) : ∃ e : Dev, d.belowCapture e ∧
    d.canLeft n it ago =
      (((e.txcShown n it.block (d.ramNat n (d.slotAddr n it.block + 14) 2) (d.canTxStamp n ago)).txCounted n
          (d.ramNat n (d.slotAddr n it.block + 4) 4)).canSetState n
        (((e.txcShown n it.block (d.ramNat n (d.slotAddr n it.block + 14) 2) (d.canTxStamp n ago)).txCounted n
          (d.ramNat n (d.slotAddr n it.block + 4) 4)).canErrState n)).txNext (canC n) :=
  ⟨_, Dev.belowCapture.tapEvent d _ _ _ _, rfl⟩

end

end Sys2Proof.Machine
end

section
/-! The commands that end a CAN transmission attempt, a MAC computation and the wait of a timed frame (R142, R143, R146,
R246, R251). -/

namespace Sys2Proof.Machine
open Sys2Proof

section
variable {d : Dev} {n : Fin 64} {ago : Nat}

/-! ### A frame sent (R142) -/

theorem leNat_lt (bs : List Byte) : leNat bs < 256 ^ bs.length := by
  induction bs with
  | nil => decide
  | cons b bs ih =>
    rw [leNat, List.length_cons, pow_succ]
    have := b.isLt
    omega

theorem Dev.ramNat_lt (d : Dev) (c a k : Nat) : d.ramNat c a k < 256 ^ k := by
  have h := leNat_lt (d.ramBytes c a k)
  rwa [Dev.ramBytes, List.length_map, List.length_range] at h

/-- R142: the device that shows and counts a frame sent, before its state follows the counters. -/
def Dev.sentShown (d e : Dev) (n : Fin 64) (it : FsItem) (ago : Nat) : Dev :=
  (e.txcShown n it.block (d.ramNat n (d.slotAddr n it.block + 14) 2) (d.canTxStamp n ago)).txCounted n
    (d.ramNat n (d.slotAddr n it.block + 4) 4)

theorem Dev.sentShown_chan (d e : Dev) (it : FsItem) :
    (d.sentShown e n it ago).chanSt n = { e.chanSt n with tx := (e.chanSt n).tx.drop 1, head := none } ∧
    ∀ k, k ≠ n.val → (d.sentShown e n it ago).chanSt k = e.chanSt k := by
  refine ⟨?_, fun k hk => ?_⟩
  · rw [Dev.sentShown, Dev.chanSt_of_chan (Dev.txCounted_chan _)]
    refine (Dev.chanSt_txFree (c := canC n)).trans ?_
    rw [canC_val, Dev.chanSt_of_chan (Dev.txcShown_chan _ _ _)]
  · rw [Dev.sentShown, Dev.chanSt_of_chan (Dev.txCounted_chan _), Dev.chanSt_txFree_other (c := canC n) hk,
      Dev.chanSt_of_chan (Dev.txcShown_chan _ _ _)]

/-- The registers of the transmit event lie apart from the others that a frame sent changes. -/
theorem canTxc_apart {n a : Nat} (h : a = R.CAN_TXC_INFO n ∨ a = R.CAN_TXC_NS n ∨ a = R.CAN_TXC_FRAC n) :
    0x1000000 ≤ a ∧ 0x40 ≤ a % 0x1000 ∧ a ≠ R.FS_STAT n 2 ∧ a ≠ R.CAN_CNT n 1 ∧ a ≠ R.CAN_TDC n ∧ a ≠ R.CAN_ERR n := by
  unfold R.CAN_TXC_INFO R.CAN_TXC_NS R.CAN_TXC_FRAC at h
  unfold R.FS_STAT R.CAN_CNT R.CAN_TDC R.CAN_ERR
  omega

/-- What a frame sent leaves in the registers of its channel. -/
theorem Dev.sentShown_reads (d e : Dev) {it : FsItem} (hb : it.block < 32) :
    (d.sentShown e n it ago).flag (F.CAN_TXC_INFO_VALID n) = true ∧
    (d.sentShown e n it ago).get (F.CAN_TXC_INFO_SLOT n) = it.block ∧
    (d.sentShown e n it ago).get (F.CAN_TXC_INFO_TAG n) = d.ramNat n (d.slotAddr n it.block + 14) 2 ∧
    (d.sentShown e n it ago).get (F.CAN_TXC_NS_NS n) = d.canTxStamp n ago / 8 % 2 ^ 32 ∧
    (d.sentShown e n it ago).get (F.CAN_TXC_FRAC_FRAC n) = d.canTxStamp n ago % 8 ∧
    (d.sentShown e n it ago).get (F.CAN_CNT_COUNT n 1) = min (2 ^ 32 - 1) (e.get (F.CAN_CNT_COUNT n 1) + 1) ∧
    (d.sentShown e n it ago).get (F.CAN_ERR_TEC n) = e.get (F.CAN_ERR_TEC n) - 1 := by
  have htag : d.ramNat n (d.slotAddr n it.block + 14) 2 < 2 ^ 16 := d.ramNat_lt _ _ 2
  have shown : ∀ a, a = R.CAN_TXC_INFO n ∨ a = R.CAN_TXC_NS n ∨ a = R.CAN_TXC_FRAC n →
      (d.sentShown e n it ago).word a = (e.txcShown n it.block (d.ramNat n (d.slotAddr n it.block + 14) 2)
        (d.canTxStamp n ago)).word a := fun a ha => by
    obtain ⟨-, hbody, hfs, hcnt, htdc, herr⟩ := canTxc_apart ha
    exact Dev.word_txCounted _ hfs hcnt htdc herr hbody
  have kept : ∀ a, a = R.CAN_CNT n 1 ∨ a = R.CAN_ERR n → (e.txcShown n it.block
      (d.ramNat n (d.slotAddr n it.block + 14) 2) (d.canTxStamp n ago)).word a = e.word a := fun a ha => by
    have hne : ¬ (a = R.CAN_TXC_INFO n ∨ a = R.CAN_TXC_NS n ∨ a = R.CAN_TXC_FRAC n) := fun h => by
      obtain ⟨-, -, -, hcnt, -, herr⟩ := canTxc_apart h
      exact ha.elim hcnt herr
    obtain ⟨hinfo, hns, hfrac⟩ := not_or.mp hne |>.imp_right not_or.mp
    exact Dev.word_txcShown _ _ _ hinfo hns hfrac
  obtain ⟨hvalid, hslot, htag', hns, hfrac⟩ := e.txcShown_reads (n := n) (d.canTxStamp n ago) hb htag
  obtain ⟨hcnt, htec⟩ := (e.txcShown n it.block (d.ramNat n (d.slotAddr n it.block + 14) 2)
    (d.canTxStamp n ago)).txCounted_reads (n := n) (d.ramNat n (d.slotAddr n it.block + 4) 4)
  exact ⟨(Dev.flag_of_word (shown _ (.inl rfl))).trans hvalid, (Dev.get_of_word (shown _ (.inl rfl))).trans hslot,
    (Dev.get_of_word (shown _ (.inl rfl))).trans htag', (Dev.get_of_word (shown _ (.inr (.inl rfl)))).trans hns,
    (Dev.get_of_word (shown _ (.inr (.inr rfl)))).trans hfrac,
    hcnt.trans (by rw [Dev.get_of_word (g := F.CAN_CNT_COUNT n 1) (kept _ (.inl rfl))]),
    htec.trans (by rw [Dev.get_of_word (g := F.CAN_ERR_TEC n) (kept _ (.inr rfl))])⟩

/-- R142: the only item sent leaves its FIFO, and none follows it. -/
theorem Dev.canLeft_only {it : FsItem} (htx : (d.chanSt n).tx = [it]) : ∃ e : Dev, d.belowCapture e ∧
    d.canLeft n it ago = (d.sentShown e n it ago).canSetState n ((d.sentShown e n it ago).canErrState n) := by
  obtain ⟨e, he, heq⟩ := d.canLeft_eq (n := n) it ago
  refine ⟨e, he, heq.trans (Dev.txNext_empty (c := canC n) ?_)⟩
  rw [← Dev.sentShown, Dev.chanSt_of_chan (Dev.canSetState_chan _ _ _), canC_val, (d.sentShown_chan e it).1,
    Dev.chanSt_of_chan he.chan, htx]
  rfl

/-! ### The end of an attempt (R129, R142, R251) -/

theorem Dev.canEnds_fifo {how : CanEnd} (hr : d.ringSending n ago = none) :
    d.canEnds n how ago = d.canTxDone n how ago := by
  unfold Dev.canEnds
  rw [hr]

theorem Dev.canEnds_ring {how : CanEnd} {m : RingMsg} (hr : d.ringSending n ago = some m) : d.canEnds n how ago =
    if how = .sent then d.ringLeft n m ago
    else if d.flag (F.CAN_MODE_DAR n) then d.modClr (fun c => { c with buf := c.buf.drop 1 }) else d := by
  unfold Dev.canEnds
  rw [hr]

theorem Dev.canTxDone_idle {how : CanEnd} (he : d.txEligible n = false) : d.canTxDone n how ago = d := by
  unfold Dev.canTxDone
  rw [he, if_neg Bool.false_ne_true]

theorem Dev.canTxDone_sent {it : FsItem} {t : List FsItem} (he : d.txEligible n = true) (htx : (d.chanSt n).tx = it :: t) :
    d.canTxDone n .sent ago = if d.canLoops n then
      (d.canLeft n it ago).canStore n (d.slotFrame n (d.slotAddr (canC n) it.block)) ago else d.canLeft n it ago := by
  unfold Dev.canTxDone
  rw [he, if_pos rfl, Dev.canSent, canC_val, htx]

theorem Dev.canTxDone_notSent {how : CanEnd} (he : d.txEligible n = true) (hn : how ≠ .sent) :
    d.canTxDone n how ago = d.canNotSent n := by
  unfold Dev.canTxDone
  rw [he, if_pos rfl]
  cases how with
  | sent => exact absurd rfl hn
  | lost => rfl
  | error => rfl

/-! ### The MAC of a head, and a timed head that waits (R143, R146, R246) -/

/-- R146: the head with its MAC computed. -/
def Dev.macTaken (d : Dev) (n : Nat) (h : TxHead) : Dev :=
  d.modChan n (fun c => { c with head := some { h with macAt := none } })

theorem Dev.canMacReady_due {h : TxHead} {t : Nat} (hh : (d.chanSt n).head = some h) (hm : h.macAt = some t)
    (ht : t ≤ d.baseNs) : d.canMacReady n =
      if h.timed && h.released then (d.macTaken n h).bump (F.CAN_CNT_COUNT n 8) else d.macTaken n h := by
  unfold Dev.canMacReady
  rw [hh]
  dsimp only
  rw [hm]
  exact if_pos ht

theorem Dev.canMacReady_none (h : ((d.chanSt n).head.bind TxHead.macAt).all (fun t => decide (d.baseNs < t)) = true) :
    d.canMacReady n = d := by
  unfold Dev.canMacReady
  cases hh : (d.chanSt n).head with
  | none => rfl
  | some x =>
    dsimp only
    cases hm : x.macAt with
    | none => rfl
    | some t =>
      rw [hh, Option.bind_some, hm, Option.all_some, decide_eq_true_eq] at h
      exact if_neg (by omega)

/-- R143, R246: a timed frame has waited its time at the head. -/
def Dev.timedOut (d : Dev) (n : Nat) (h : TxHead) : Bool :=
  h.timed && d.get (F.CAN_TIMED_WAIT_US n) != 0 && d.chanDrives n &&
    decide (h.landed + d.get (F.CAN_TIMED_WAIT_US n) * 1000 ≤ d.baseNs)

theorem Dev.canTimedExpire_out {h : TxHead} (hh : (d.chanSt n).head = some h) (ho : d.timedOut n h = true) :
    d.canTimedExpire n =
      (((d.txFree (canC n)).bump (F.CAN_CNT_COUNT n 7)).raise (.can n) 7).txNext (canC n) := by
  unfold Dev.canTimedExpire
  dsimp only
  rw [canC_val, hh]
  exact if_pos ho

theorem Dev.canTimedExpire_waits (h : (d.chanSt n).head.all (fun h => !d.timedOut n h) = true) :
    d.canTimedExpire n = d := by
  unfold Dev.canTimedExpire
  dsimp only
  rw [canC_val]
  cases hh : (d.chanSt n).head with
  | none => rfl
  | some x =>
    rw [hh, Option.all_some, Bool.not_eq_true'] at h
    exact if_neg (by rw [← Dev.timedOut, h]; exact Bool.false_ne_true)

theorem Dev.not_timedOut (d : Dev) (n : Nat) (h : TxHead) : (!d.timedOut n h) =
    (!h.timed || d.get (F.CAN_TIMED_WAIT_US n) == 0 || !d.chanDrives n ||
      decide (d.baseNs < h.landed + d.get (F.CAN_TIMED_WAIT_US n) * 1000)) := by
  rw [Dev.timedOut, Bool.not_and, Bool.not_and, Bool.not_and, bne, Bool.not_not, ← decide_not]
  simp only [Nat.not_le]

end

section
variable {s : State} {n : Fin 64} {ago : Nat}

theorem exec_canTxDone {how : CanEnd} : exec (.canTxDone n how ago) s = .next (s.ends (s.dev.canEnds n how ago)) :=
  act_eq_ends s (fun d => d.canEnds n how ago)

theorem exec_canMacReady : exec (.canMacReady n) s = .next (s.ends (s.dev.canMacReady n)) :=
  act_eq_ends s (fun d => d.canMacReady n)

theorem exec_canTimedExpire : exec (.canTimedExpire n) s = .next (s.ends (s.dev.canTimedExpire n)) :=
  act_eq_ends s (fun d => d.canTimedExpire n)

/-- R142: an attempt of the head that ended without success. -/
theorem exec_canTxDone_notSent {how : CanEnd} {h : TxHead} (hr : s.dev.ringSending n ago = none)
    (he : s.dev.txEligible n = true) (hh : (s.dev.chanSt n).head = some h) (hn : how ≠ .sent) :
    exec (.canTxDone n how ago) s = .next (s.ends
      (if h.flushed then ((s.dev.txFree (canC n)).canCount n 10).txNext (canC n)
       else if s.dev.flag (F.CAN_MODE_DAR n) then (s.dev.txFree (canC n)).txNext (canC n) else s.dev)) := by
  rw [exec_canTxDone, Dev.canEnds_fifo hr, Dev.canTxDone_notSent he hn, Dev.canNotSent_eq hh]

end

/-- Settles O20: what a frame sent shows and counts is `Dev.sentShown_reads`, what its channel then holds
`Dev.sentShown_chan`; an attempt without success is `exec_canTxDone_notSent`. -/
theorem canTransmission : Obligations.CanTransmission := by
  unfold Obligations.CanTransmission
  refine ⟨?sent, ?loops, ?kept, ?dar, ?flushed, ?idle, ?ringSent, ?ringNot, ?mac, ?macLate, ?macNone, ?expired, ?waits⟩
  case sent =>
    intro s n ago it hr he htx hb hl hcnt
    obtain ⟨e, hce, heq⟩ := Dev.canLeft_only (ago := ago) htx
    obtain ⟨hst, hother⟩ := s.dev.sentShown_chan (n := n) (ago := ago) e it
    obtain ⟨hvalid, hslot, htag, hns, hfrac, hcnt', htec⟩ := s.dev.sentShown_reads (n := n) (ago := ago) e hb
    have hk := (s.dev.sentShown e n it ago).canSetState_keeps n ((s.dev.sentShown e n it ago).canErrState n)
    have hchan := (s.dev.sentShown e n it ago).canSetState_chan n ((s.dev.sentShown e n it ago).canErrState n)
    have htxc : ∀ g : Fld, (g.addr = R.CAN_TXC_INFO n ∨ g.addr = R.CAN_TXC_NS n ∨ g.addr = R.CAN_TXC_FRAC n) →
        ((s.dev.sentShown e n it ago).canSetState n ((s.dev.sentShown e n it ago).canErrState n)).get g =
          (s.dev.sentShown e n it ago).get g := fun g hg => by
      obtain ⟨hregs, hbody, -, -, -, herr⟩ := canTxc_apart hg
      exact Dev.get_canSetState_other _ _ _ hregs hbody (.inl herr)
    have haddr : R.CAN_CNT n 1 < 0x2800000 ∧ R.CAN_ERR n < 0x2800000 := by
      unfold R.CAN_CNT R.CAN_ERR
      omega
    refine ⟨_, ?_, ?_, ?_, ?_, ?_, (htxc _ (.inl rfl)).trans hslot, (htxc _ (.inl rfl)).trans htag,
      (htxc _ (.inr (.inl rfl))).trans hns, (htxc _ (.inr (.inr rfl))).trans hfrac, (hk.count 1 (by decide)).trans ?_,
      hk.err_tec.trans ?_, fun k hk => ?_⟩
    · rw [exec_canTxDone, Dev.canEnds_fifo hr, Dev.canTxDone_sent he htx, hl, if_neg Bool.false_ne_true, heq]
    · rw [Dev.chanSt_of_chan hchan, hst, Dev.chanSt_of_chan hce.chan, htx, List.drop_one, List.tail_cons]
    · rw [Dev.chanSt_of_chan hchan, hst]
    · rw [Dev.chanSt_of_chan hchan, hst, Dev.chanSt_of_chan hce.chan]
    · rw [Dev.flag, htxc _ (.inl rfl), ← Dev.flag, hvalid]
    · rw [hcnt', hce.get haddr.1]
      omega
    · rw [htec, hce.get haddr.2]
    · rw [Dev.chanSt_of_chan hchan, hother k hk, Dev.chanSt_of_chan hce.chan]
  case loops =>
    intro s n ago it t hr he htx hl
    rw [exec_canTxDone, Dev.canEnds_fifo hr, Dev.canTxDone_sent he htx, Dev.canLoops, if_pos (decide_eq_true hl)]
  case kept =>
    intro s n ago how h hr he hh hn hf hdar
    rw [exec_canTxDone_notSent hr he hh hn, hf, if_neg Bool.false_ne_true, hdar, if_neg Bool.false_ne_true]
  case dar =>
    intro s n ago how h hr he hh hn hf hdar
    rw [exec_canTxDone_notSent hr he hh hn, hf, if_neg Bool.false_ne_true, hdar, if_pos rfl]
  case flushed =>
    intro s n ago how h hr he hh hn hf
    rw [exec_canTxDone_notSent hr he hh hn, hf, if_pos rfl, Dev.canCount]
  case idle =>
    intro s n ago how hr he
    rw [exec_canTxDone, Dev.canEnds_fifo hr, Dev.canTxDone_idle he]
  case ringSent =>
    intro s n ago m hr
    rw [exec_canTxDone, Dev.canEnds_ring hr, if_pos rfl]
  case ringNot =>
    intro s n ago how m hr hn
    rw [exec_canTxDone, Dev.canEnds_ring hr, if_neg hn]
  case mac =>
    intro s n h t hh hm ht hno
    rw [exec_canMacReady, Dev.canMacReady_due hh hm ht, if_neg (by rcases hno with hno | hno <;> simp [hno]), Dev.macTaken]
  case macLate =>
    intro s n h t hh hm ht htimed hrel
    rw [exec_canMacReady, Dev.canMacReady_due hh hm ht, if_pos (by rw [htimed, hrel]; rfl), Dev.macTaken]
  case macNone =>
    intro s n h
    rw [exec_canMacReady, Dev.canMacReady_none h]
  case expired =>
    intro s n h hh htimed hw hdr ht
    rw [exec_canTimedExpire, Dev.canTimedExpire_out hh]
    rw [Dev.timedOut, htimed, hdr, decide_eq_true ht, bne_iff_ne.mpr hw]
    rfl
  case waits =>
    intro s n h
    rw [exec_canTimedExpire, Dev.canTimedExpire_waits]
    simpa only [Dev.not_timedOut] using h

end Sys2Proof.Machine
end

section
/-! LIN channels: items taken, headers, responses, timeouts and wake-up pulses (R148 to R151, R225, R246, R253). -/

namespace Sys2Proof.Machine
open Sys2Proof

section
variable {d : Dev} {n : Fin 16}

@[simp] theorem linC_val (n : Fin 16) : (linC n).val = 64 + n.val := rfl

/-! ### Items (R149) -/

/-- R149: what an item with this control word does. -/
def Dev.linGiven (d : Dev) (n : Fin 16) (it : FsItem) (ctrl : Nat) : Dev :=
  let data := d.ramBytes (64 + n) (0x800 + 32 * it.block + 16) (min 8 (bitsOf ctrl 8 4))
  if bitsOf ctrl 12 2 = 2 then (d.linUpdate n (bitsOf ctrl 0 6) (min 8 (bitsOf ctrl 8 4)) data).linItemFree n
  else if !d.flag (F.LIN_MODE_MASTER n) then d.linItemFree n
  else if bitsOf ctrl 12 2 = 3 ∧ bitsOf ctrl 14 2 = 1 then (d.emit (.linWake n)).linItemFree n
  else if bitsOf ctrl 12 2 = 0 then d.linStart n (bitsOf ctrl 0 6) (some data) 0
  else if bitsOf ctrl 12 2 = 1 then d.linStart n (bitsOf ctrl 0 6) (d.linPublished n (bitsOf ctrl 0 6)) 1
  else d.linStart n 0x3C (some [0x00, 0xFF, 0xFF, 0xFF, 0xFF, 0xFF, 0xFF, 0xFF]) 3

/-- R149, R246: a channel does not take the item at its head: it has not landed, the channel or the FIFO is out of
service, or the group is not awake. -/
def Dev.linHeld (d : Dev) (n : Fin 16) : Bool :=
  decide (d.get (F.FS_STAT_FILL (64 + n) 2) = 0) || !d.enabled (.lin n) || !d.flag (F.FS_CFG_EN (64 + n) 2) ||
    !d.chanAwake (64 + n)

theorem Dev.linItem_eq {it : FsItem} {t : List FsItem} (htx : (d.chanSt (64 + n)).tx = it :: t)
    (hf : d.linFrame n = none) : d.linItem n =
      if d.linHeld n then d else d.linGiven n it (d.ramNat (64 + n) (0x800 + 32 * it.block) 4) := by
  unfold Dev.linItem
  dsimp only
  rw [linC_val, htx, hf]
  rfl

theorem Dev.linItem_none (h : (d.chanSt (64 + n)).tx = [] ∨ d.linFrame n ≠ none ∨ d.linHeld n = true) :
    d.linItem n = d := by
  cases htx : (d.chanSt (64 + n)).tx with
  | nil =>
    unfold Dev.linItem
    dsimp only
    rw [linC_val, htx]
  | cons it t =>
    cases hf : d.linFrame n with
    | none =>
      rcases h with h | h | h
      · exact absurd (htx.symm.trans h) (List.cons_ne_nil it t)
      · exact absurd hf h
      · rw [Dev.linItem_eq htx hf, h, if_pos rfl]
    | some f =>
      unfold Dev.linItem
      dsimp only
      rw [linC_val, htx, hf]

/-! ### Headers (R150) -/

theorem Dev.linHeader_none {pid ago : Nat} {b : Bool}
    (h : d.enabled (.lin n) = false ∨ d.flag (F.LIN_MODE_MASTER n) = true) : d.linHeader n pid b ago = d := by
  unfold Dev.linHeader
  rw [if_pos (by rcases h with h | h <;> simp [h])]

section
variable {pid ago : Nat} (he : d.enabled (.lin n) = true) (hm : d.flag (F.LIN_MODE_MASTER n) = false)
include he hm

theorem Dev.linHeader_sync : d.linHeader n pid false ago = d.linError n 6 pid 0 := by
  unfold Dev.linHeader
  rw [he, hm, if_neg (by decide), if_pos (by decide)]

theorem Dev.linHeader_parity (hp : pid ≠ linPid (pid % 64)) : d.linHeader n pid true ago = d.linError n 5 pid 0 := by
  unfold Dev.linHeader
  rw [he, hm, if_neg (by decide), if_neg (by decide), if_pos hp]

/-- R150: the frame in progress once a correct header is received. -/
def Dev.linHeard (d : Dev) (n : Fin 16) (pid ago : Nat) (own : Option (List Byte)) : Dev :=
  d.setLinFrame n (some { id := pid % 64, own := own.isSome, data := own.getD [], item := false,
                          stamp := (d.linStamp n false ago).1, tb := (d.linStamp n false ago).2.1,
                          ns := (d.linStamp n false ago).2.2 })

theorem Dev.linHeader_listens (hp : pid = linPid (pid % 64)) (ho : d.linPublished n (pid % 64) = none) :
    d.linHeader n pid true ago = d.linHeard n pid ago none := by
  unfold Dev.linHeader
  dsimp only
  rw [he, hm, ho]
  exact if_neg (not_not.mpr hp)

theorem Dev.linHeader_answers {bs : List Byte} (hp : pid = linPid (pid % 64)) (ho : d.linPublished n (pid % 64) = some bs) :
    d.linHeader n pid true ago = ((d.linHeard n pid ago (some bs)).linTap n true (pid % 64 + bs.length * 2 ^ 8)
      (d.linStamp n false ago).1 (d.linStamp n false ago).2.1 bs).emit (.linFrame n (pid % 64) (some bs)) := by
  unfold Dev.linHeader
  dsimp only
  rw [he, hm, ho]
  exact if_neg (not_not.mpr hp)

end

/-! ### What the end of a frame leaves (R142, R149, R225) -/

theorem Dev.word_linItemFree {a : Nat} (ha : a ≠ R.FS_STAT (64 + n) 2) (hb : 0x40 ≤ a % 0x1000) :
    (d.linItemFree n).word a = d.word a := by
  have hfree : (d.fsFree (.chan (linC n) 2) 1).word a = d.word a := by
    rw [d.word_fsFree _ _ ha, d.word_fsDrop]
  unfold Dev.linItemFree
  dsimp only
  split
  · rw [Dev.word_raise_of_body _ _ _ hb, hfree]
  · exact hfree

theorem Dev.word_linEnd (f : LinFrame) {a : Nat} (ha : a ≠ R.FS_STAT (64 + n) 2) (hb : 0x40 ≤ a % 0x1000) :
    (d.linEnd n f).word a = d.word a := by
  unfold Dev.linEnd
  dsimp only
  split
  · rw [Dev.word_linItemFree ha hb, Dev.setLinFrame, Dev.modChan_word]
  · rw [Dev.setLinFrame, Dev.modChan_word]

theorem Dev.linEnhanced_congr {e : Dev} (hlo : e.word (R.LIN_ENH_LO n) = d.word (R.LIN_ENH_LO n))
    (hhi : e.word (R.LIN_ENH_HI n) = d.word (R.LIN_ENH_HI n)) (id : Nat) : e.linEnhanced n id = d.linEnhanced n id := by
  rw [Dev.linEnhanced, Dev.linEnhanced, hlo, hhi]

/-- R253: activity of a channel is kept by the Clearing assist alone. -/
theorem Dev.chanActivity_eq (d : Dev) (c : Nat) : ∃ clr, d.chanActivity c = { d with clr } := by
  unfold Dev.chanActivity
  split
  · exact ⟨_, rfl⟩
  · exact ⟨_, rfl⟩

/-! ### Responses (R149 to R151, R225) -/

section
variable {f : LinFrame} {r : LinResponse}

/-- R225: the control word of the record of a response. -/
def Dev.linCtrl (d : Dev) (n : Fin 16) (f : LinFrame) (r : LinResponse) : Nat :=
  f.id + (r.data.take 8).length * 2 ^ 8 + boolNat (d.linEnhanced n f.id) * 2 ^ 16

/-- R149, R225: the frame in progress has ended and its response is captured. -/
def Dev.linSeen (d : Dev) (n : Fin 16) (f : LinFrame) (r : LinResponse) : Dev :=
  (d.linEnd n f).linTap n false (d.linCtrl n f r) f.stamp f.tb (r.data.take 8)

theorem Dev.linGood_linSeen : (d.linSeen n f r).linGood n f r = d.linGood n f r := by
  have hword : ∀ a, a = R.LIN_ENH_LO n ∨ a = R.LIN_ENH_HI n → (d.linSeen n f r).word a = d.word a := fun a ha => by
    unfold R.LIN_ENH_LO R.LIN_ENH_HI at ha
    rw [Dev.linSeen, Dev.linTap, (Dev.belowCapture.tapEvent _ _ _ _ _).word _ (by omega),
      Dev.word_linEnd _ (by unfold R.FS_STAT; omega) (by omega)]
  rw [Dev.linGood, Dev.linEnhanced_congr (hword _ (.inl rfl)) (hword _ (.inr rfl)), Dev.linGood]

theorem Dev.linResponse_none (hf : d.linFrame n = none) : d.linResponse n r = d := by
  unfold Dev.linResponse
  rw [hf]

/-- R149: the device's own response as it was read back. -/
theorem Dev.linResponse_own (hf : d.linFrame n = some f) (ho : f.own = true) : d.linResponse n r =
    if r.bitErr || r.data != f.data then (d.linSeen n f r).linError n 1 (linPid f.id) r.data.length
    else (d.linSeen n f r).bump (F.LIN_CNT_COUNT n 1) := by
  unfold Dev.linResponse
  rw [hf]
  exact if_pos ho

/-- R150, R151: the response of another node. -/
theorem Dev.linResponse_other (hf : d.linFrame n = some f) (ho : f.own = false) : d.linResponse n r =
    if r.framing then (d.linSeen n f r).linError n 7 (linPid f.id) r.data.length
    else if d.linGood n f r then (d.linSeen n f r).linStore n f (d.linCtrl n f r) r.data
    else (d.linSeen n f r).linError n 2 (linPid f.id) r.data.length := by
  rw [← Dev.linGood_linSeen]
  unfold Dev.linResponse
  rw [hf]
  exact if_neg (by rw [ho]; exact Bool.false_ne_true)

theorem Dev.linReceive_unheard (hs : d.linServed n = true) (hf : d.linFrame n = some f)
    (hno : (!f.own && d.linGood n f r) = false) : d.linReceive n r = d.linResponse n r := by
  unfold Dev.linReceive
  dsimp only
  rw [hs, if_pos rfl, hf, Option.any_some, hno, if_neg Bool.false_ne_true]

theorem Dev.linReceive_heard (hs : d.linServed n = true) (hf : d.linFrame n = some f) (ho : f.own = false)
    (hg : d.linGood n f r = true) : d.linReceive n r = (d.chanActivity (64 + n)).linResponse n r := by
  unfold Dev.linReceive
  dsimp only
  rw [hs, if_pos rfl, hf, Option.any_some, ho, hg, if_pos (by decide)]

theorem Dev.linReceive_none (h : d.linServed n = false ∨ d.linFrame n = none) : d.linReceive n r = d := by
  unfold Dev.linReceive
  dsimp only
  cases hs : d.linServed n with
  | false => exact if_neg Bool.false_ne_true
  | true =>
    have hf := h.resolve_left (by rw [hs]; decide)
    rw [if_pos rfl, hf, Option.any_none, if_neg Bool.false_ne_true, Dev.linResponse_none hf]

theorem Dev.linGood_framing (h : r.framing = true) : d.linGood n f r = false := by
  rw [Dev.linGood, h]
  rfl

/-- R253: activity changes nothing that a response is judged by. -/
theorem Dev.linResponse_active (hf : d.linFrame n = some f) (ho : f.own = false) (hg : d.linGood n f r = true) (c : Nat) :
    (d.chanActivity c).linResponse n r =
      ((d.chanActivity c).linEnd n f |>.linTap n false (d.linCtrl n f r) f.stamp f.tb (r.data.take 8)).linStore n f
        (d.linCtrl n f r) r.data := by
  obtain ⟨clr, he⟩ := d.chanActivity_eq c
  have hframing : ¬ r.framing = true := fun h => by rw [Dev.linGood_framing h] at hg; exact Bool.false_ne_true hg
  have hgood : (d.chanActivity c).linGood n f r = true := by rw [he]; exact hg
  have hctrl : (d.chanActivity c).linCtrl n f r = d.linCtrl n f r := by rw [he]; rfl
  rw [Dev.linResponse_other (by rw [he]; exact hf) ho, if_neg hframing, if_pos hgood, Dev.linSeen, hctrl]

/-! ### Timeouts and wake-up pulses (R149 to R151) -/

theorem Dev.linTimeout_none {bytes : Nat} (hf : d.linFrame n = none) : d.linTimeout n bytes = d := by
  unfold Dev.linTimeout
  rw [hf]

theorem Dev.linTimeout_eq {bytes : Nat} (hf : d.linFrame n = some f) : d.linTimeout n bytes =
    if d.flag (F.LIN_MODE_MASTER n) || f.own || bytes != 0 then
      (d.linEnd n f).linError n (if bytes = 0 then 3 else 4) (linPid f.id) bytes
    else d.linEnd n f := by
  have hmode : (d.linEnd n f).flag (F.LIN_MODE_MASTER n) = d.flag (F.LIN_MODE_MASTER n) := by
    refine Dev.flag_of_word (Dev.word_linEnd f ?_ ?_) <;> simp only [F.LIN_MODE_MASTER, R.LIN_MODE, R.FS_STAT] <;> omega
  rw [← hmode]
  unfold Dev.linTimeout
  rw [hf]

theorem Dev.linWakeUp_idle (he : d.enabled (.lin n) = true) (hf : d.linFrame n = none) :
    d.linWakeUp n = d.raise (.lin n) 6 := by
  unfold Dev.linWakeUp
  rw [he, hf]
  rfl

theorem Dev.linWakeUp_none (h : d.enabled (.lin n) = false ∨ d.linFrame n ≠ none) : d.linWakeUp n = d := by
  unfold Dev.linWakeUp
  rw [if_neg]
  rcases h with h | h
  · simp [h]
  · simp [Option.isNone_iff_eq_none, h]

end

end

end Sys2Proof.Machine
end

section
/-! The commands of the LIN channels (R148 to R151, R225, R246, R253). -/

namespace Sys2Proof.Machine
open Sys2Proof

section
variable {s : State} {n : Fin 16}

theorem exec_linMasterItem : exec (.linMasterItem n) s = .next (s.ends (s.dev.linItem n)) :=
  act_eq_ends s (fun d => d.linItem n)

theorem exec_linHeaderRx {pid : Byte} {b : Bool} {ago : Nat} : exec (.linHeaderRx n pid b ago) s =
    .next (s.ends (if s.dev.linServed n then s.dev.linHeader n pid.toNat b ago else s.dev)) :=
  act_eq_ends s (fun d => if d.linServed n then d.linHeader n pid.toNat b ago else d)

theorem exec_linHeaderRx_served {pid : Byte} {b : Bool} {ago : Nat} (hs : s.dev.linServed n = true) :
    exec (.linHeaderRx n pid b ago) s = .next (s.ends (s.dev.linHeader n pid.toNat b ago)) := by
  rw [exec_linHeaderRx, if_pos hs]

theorem exec_linResponseRx {r : LinResponse} : exec (.linResponseRx n r) s = .next (s.ends (s.dev.linReceive n r)) :=
  act_eq_ends s (fun d => d.linReceive n r)

theorem exec_linResponseTimeout {bytes : Nat} :
    exec (.linResponseTimeout n bytes) s = .next (s.ends (s.dev.linTimeout n bytes)) :=
  act_eq_ends s (fun d => d.linTimeout n bytes)

theorem exec_linWakePulse : exec (.linWakePulse n) s =
    .next (s.ends (if s.dev.linServed n then s.dev.linWakeUp n else s.dev)) :=
  act_eq_ends s (fun d => if d.linServed n then d.linWakeUp n else d)

section
variable {it : FsItem} {t : List FsItem} {ctrl : Nat} (htx : (s.dev.chanSt (64 + n)).tx = it :: t)
  (hf : s.dev.linFrame n = none) (hfill : s.dev.get (F.FS_STAT_FILL (64 + n) 2) ≠ 0)
  (he : s.dev.enabled (.lin n) = true) (hen : s.dev.flag (F.FS_CFG_EN (64 + n) 2) = true)
  (haw : s.dev.chanAwake (64 + n) = true) (hc : s.dev.ramNat (64 + n) (0x800 + 32 * it.block) 4 = ctrl)
include htx hf hfill he hen haw hc

/-- R149, R246: a channel that is ready takes the item at its head. -/
theorem exec_linMasterItem_taken : exec (.linMasterItem n) s = .next (s.ends (s.dev.linGiven n it ctrl)) := by
  have hheld : s.dev.linHeld n = false := by
    rw [Dev.linHeld, he, hen, haw, decide_eq_false hfill]
    rfl
  rw [exec_linMasterItem, Dev.linItem_eq htx hf, hheld, if_neg Bool.false_ne_true, hc]

/-- R149: of a master, by the kind of the item. -/
theorem exec_linMasterItem_master (hk : bitsOf ctrl 12 2 ≠ 2) (hm : s.dev.flag (F.LIN_MODE_MASTER n) = true) :
    exec (.linMasterItem n) s = .next (s.ends
      (if bitsOf ctrl 12 2 = 3 ∧ bitsOf ctrl 14 2 = 1 then (s.dev.emit (.linWake n)).linItemFree n
       else if bitsOf ctrl 12 2 = 0 then s.dev.linStart n (bitsOf ctrl 0 6)
         (some (s.dev.ramBytes (64 + n) (0x800 + 32 * it.block + 16) (min 8 (bitsOf ctrl 8 4)))) 0
       else if bitsOf ctrl 12 2 = 1 then s.dev.linStart n (bitsOf ctrl 0 6) (s.dev.linPublished n (bitsOf ctrl 0 6)) 1
       else s.dev.linStart n 0x3C (some [0x00, 0xFF, 0xFF, 0xFF, 0xFF, 0xFF, 0xFF, 0xFF]) 3)) := by
  rw [exec_linMasterItem_taken htx hf hfill he hen haw hc, Dev.linGiven, if_neg hk, hm, if_neg (by decide)]

end

end

/-- Settles O23: an item by `Dev.linGiven`, a header by `Dev.linHeader_listens` and `Dev.linHeader_answers`, a response by
`Dev.linResponse_own` and `Dev.linResponse_other`, a timeout by `Dev.linTimeout_eq`. -/
theorem linCommands : Obligations.LinCommands := by
  unfold Obligations.LinCommands
  refine ⟨?data, ?published, ?sleep, ?slave, ?update, ?wake, ?noItem, ?listens, ?answers, ?parity, ?sync, ?noHeader,
    ?ownGood, ?ownBad, ?good, ?framing, ?bad, ?noResponse, ?timeout, ?timeoutQuiet, ?timeoutNone, ?pulse, ?pulseNone⟩
  case data =>
    intro s n it t ctrl htx hf hfill he hen haw hc hk hm
    rw [exec_linMasterItem_master htx hf hfill he hen haw hc (by rw [hk]; decide) hm, if_neg (by omega), if_pos hk]
  case published =>
    intro s n it t ctrl htx hf hfill he hen haw hc hk hm
    rw [exec_linMasterItem_master htx hf hfill he hen haw hc (by rw [hk]; decide) hm, if_neg (by omega),
      if_neg (by rw [hk]; decide), if_pos hk]
  case sleep =>
    intro s n it t ctrl htx hf hfill he hen haw hc hk hfn hm
    rw [exec_linMasterItem_master htx hf hfill he hen haw hc (by rw [hk]; decide) hm, if_neg (fun h => hfn h.2),
      if_neg (by rw [hk]; decide), if_neg (by rw [hk]; decide)]
  case slave =>
    intro s n it t ctrl htx hf hfill he hen haw hc hk hm
    rw [exec_linMasterItem_taken htx hf hfill he hen haw hc, Dev.linGiven, if_neg hk, hm, if_pos (by decide)]
  case update =>
    intro s n it t ctrl htx hf hfill he hen haw hc hk
    rw [exec_linMasterItem_taken htx hf hfill he hen haw hc, Dev.linGiven, if_pos hk]
  case wake =>
    intro s n it t ctrl htx hf hfill he hen haw hc hk hfn hm
    rw [exec_linMasterItem_master htx hf hfill he hen haw hc (by rw [hk]; decide) hm, if_pos ⟨hk, hfn⟩]
  case noItem =>
    intro s n h
    have h' : (s.dev.chanSt (64 + n)).tx = [] ∨ s.dev.linFrame n ≠ none ∨ s.dev.linHeld n = true := by
      refine h.imp_right (Or.imp_right fun h => ?_)
      rcases h with h | h | h | h <;> simp [Dev.linHeld, h]
    rw [exec_linMasterItem, Dev.linItem_none h']
  case listens =>
    intro s n pid ago hs he hm hp ho
    rw [exec_linHeaderRx_served hs, Dev.linHeader_listens he hm hp ho]
    rfl
  case answers =>
    intro s n pid ago bs hs he hm hp ho
    rw [exec_linHeaderRx_served hs, Dev.linHeader_answers he hm hp ho]
    rfl
  case parity =>
    intro s n pid ago hs he hm hp
    rw [exec_linHeaderRx_served hs, Dev.linHeader_parity he hm hp]
  case sync =>
    intro s n pid ago hs he hm
    rw [exec_linHeaderRx_served hs, Dev.linHeader_sync he hm]
  case noHeader =>
    intro s n pid ago b h
    rw [exec_linHeaderRx]
    rcases h with hs | h
    · rw [if_neg (by simp [hs])]
    · rw [Dev.linHeader_none h, ite_self]
  case ownGood =>
    intro s n r f hs hf ho hb hd
    rw [exec_linResponseRx, Dev.linReceive_unheard hs hf (by rw [ho]; rfl), Dev.linResponse_own hf ho,
      if_neg (by simp [hb, hd]), Dev.linSeen, Dev.linCtrl]
  case ownBad =>
    intro s n r f hs hf ho hno
    rw [exec_linResponseRx, Dev.linReceive_unheard hs hf (by rw [ho]; rfl), Dev.linResponse_own hf ho,
      if_pos (by rcases hno with h | h <;> simp [h]), Dev.linSeen, Dev.linCtrl]
  case good =>
    intro s n r f hs hf ho hg
    rw [exec_linResponseRx, Dev.linReceive_heard hs hf ho hg, Dev.linResponse_active hf ho hg, Dev.linCtrl]
  case framing =>
    intro s n r f hs hf ho hfr
    rw [exec_linResponseRx, Dev.linReceive_unheard hs hf (by rw [Dev.linGood_framing hfr, Bool.and_false]),
      Dev.linResponse_other hf ho, if_pos hfr, Dev.linSeen, Dev.linCtrl]
  case bad =>
    intro s n r f hs hf ho hfr hg
    rw [exec_linResponseRx, Dev.linReceive_unheard hs hf (by rw [hg, Bool.and_false]), Dev.linResponse_other hf ho, hfr,
      if_neg Bool.false_ne_true, hg, if_neg Bool.false_ne_true, Dev.linSeen, Dev.linCtrl]
  case noResponse =>
    intro s n r h
    rw [exec_linResponseRx, Dev.linReceive_none h]
  case timeout =>
    intro s n bytes f hf h
    rw [exec_linResponseTimeout, Dev.linTimeout_eq hf, if_pos (by rcases h with h | h | h <;> simp [h])]
  case timeoutQuiet =>
    intro s n f hf hm ho
    rw [exec_linResponseTimeout, Dev.linTimeout_eq hf, hm, ho, if_neg (by decide)]
  case timeoutNone =>
    intro s n bytes hf
    rw [exec_linResponseTimeout, Dev.linTimeout_none hf]
  case pulse =>
    intro s n hs he hf
    rw [exec_linWakePulse, if_pos hs, Dev.linWakeUp_idle he hf]
  case pulseNone =>
    intro s n h
    rw [exec_linWakePulse]
    rcases h with hs | h
    · rw [if_neg (by simp [hs])]
    · rw [Dev.linWakeUp_none h, ite_self]

end Sys2Proof.Machine
end

section
/-! The learning queue, the sweeper, the flush after a link went down and the stream filter window (R138, R194, R197, R199,
R203, R204). -/

namespace Sys2Proof.Machine
open Sys2Proof

/-! ### A LEARNQ (R138, R197) -/

section
variable (d : Dev) (k : Fin 2) (n : Nat)

theorem Dev.fsMarked_lk : (d.fsMarked (.learn k) n).lk = d.lk := by
  unfold Dev.fsMarked
  split
  · split
    · rw [Dev.put_lk, Dev.put_lk, Dev.fsShifted, Dev.put_lk, Dev.fsDrop]
    · rw [Dev.put_lk, Dev.fsShifted, Dev.put_lk, Dev.fsDrop]
  · rw [Dev.fsShifted, Dev.put_lk, Dev.fsDrop]

theorem Dev.fsMarked_learnq : (d.fsMarked (.learn k) n).learnq = tset d.learnq k ((tget d.learnq k).drop n) := by
  unfold Dev.fsMarked
  split
  · split
    · rw [Dev.put_learnq, Dev.put_learnq, Dev.fsShifted, Dev.put_learnq, Dev.fsDrop]
    · rw [Dev.put_learnq, Dev.fsShifted, Dev.put_learnq, Dev.fsDrop]
  · rw [Dev.fsShifted, Dev.put_learnq, Dev.fsDrop]

theorem Dev.fsFree_lk : (d.fsFree (.learn k) n).lk = d.lk := by
  rw [Dev.fsFree_eq, Dev.fsSetFill_lk, Dev.fsMarked_lk]

theorem Dev.fsFree_learnq : (d.fsFree (.learn k) n).learnq = tset d.learnq k ((tget d.learnq k).drop n) := by
  rw [Dev.fsFree_eq, Dev.fsSetFill_learnq, Dev.fsMarked_learnq]

end

/-! ### A row that writes LQ_CMD (R138, R197) -/

theorem lqCmd_page : ∀ k : Fin 2, pageExists (.lk k 2) = true ∧ R.LQ_CMD k = pageBase (.lk k 2) + 0x58 ∧
    R.LQ_CMD k ≠ R.GV_TCMD ∧ R.LQ_CMD k % 0x1000 = 0x58 ∧ R.LQ_CMD k ≠ R.LQ_CFG k := by decide

theorem Dev.pageWrite_lqCmd {d : Dev} {i : Init} {k : Fin 2} (ident : List Byte) (v : Word) :
    d.pageWrite ident i (.lk k 2) (R.LQ_CMD k) v = refuseIf (!ownerIs (d.get (F.LQ_CFG_OWNER k)) i) 0x011B
      (d.fsOp (.learn k) (newField v (F.LQ_CMD_OP k)) (newField v (F.LQ_CMD_COUNT k)) 0x0119) := by
  obtain ⟨-, -, -, hoff, hcfg⟩ := lqCmd_page k
  have hq : (if k.val = 0 then FifoId.learn 0 else .learn 1) = .learn k := by
    fin_cases k <;> rfl
  unfold Dev.pageWrite
  dsimp only
  rw [hoff, if_neg (by decide), Dev.lkWrite, if_neg (by decide), if_neg (by decide), if_pos rfl, if_neg hcfg, if_pos rfl,
    Dev.lqCmdWrite, hq]

theorem newField_lqOp (k op : Nat) (h : op < 16) : newField (cmdWord [(F.LQ_CMD_OP k, op)]) (F.LQ_CMD_OP k) = op ∧
    newField (cmdWord [(F.LQ_CMD_OP k, op)]) (F.LQ_CMD_COUNT k) = 0 := by
  have h0 : wordBits 0 0 6 = 0 := by decide
  simp (disch := omega) only [cmdWord, List.foldl_cons, List.foldl_nil, newField, F.LQ_CMD_OP, F.LQ_CMD_COUNT,
    wordBits_wordPut, wordBits_wordPut_other, Nat.mod_eq_of_lt, h0, and_self]

theorem newField_lqRelease (k : Nat) (count : Fin 64) :
    newField (cmdWord [(F.LQ_CMD_OP k, 4), (F.LQ_CMD_COUNT k, count)]) (F.LQ_CMD_OP k) = 4 ∧
    newField (cmdWord [(F.LQ_CMD_OP k, 4), (F.LQ_CMD_COUNT k, count)]) (F.LQ_CMD_COUNT k) = count := by
  simp (disch := omega) only [cmdWord, List.foldl_cons, List.foldl_nil, newField, F.LQ_CMD_OP, F.LQ_CMD_COUNT,
    wordBits_wordPut, wordBits_wordPut_other, Nat.mod_eq_of_lt, and_self]

section
variable {s : State} {i : Init} {k : Fin 2} {count : Fin 64}

theorem exec_lqAdvance : exec (.lqAdvance i k) s = .next (s.ends (s.dev.anyRow (idBlock s.id) i (R.LQ_CMD k)
    (cmdWord [(F.LQ_CMD_OP k, 1)]))) := act_eq_ends s (fun d => d.anyRow (idBlock s.id) i (R.LQ_CMD k) _)

theorem exec_lqMark : exec (.lqMark i k) s = .next (s.ends (s.dev.anyRow (idBlock s.id) i (R.LQ_CMD k)
    (cmdWord [(F.LQ_CMD_OP k, 2)]))) := act_eq_ends s (fun d => d.anyRow (idBlock s.id) i (R.LQ_CMD k) _)

theorem exec_lqRewind : exec (.lqRewind i k) s = .next (s.ends (s.dev.anyRow (idBlock s.id) i (R.LQ_CMD k)
    (cmdWord [(F.LQ_CMD_OP k, 3)]))) := act_eq_ends s (fun d => d.anyRow (idBlock s.id) i (R.LQ_CMD k) _)

theorem exec_lqRelease : exec (.lqRelease i k count) s = .next (s.ends (s.dev.anyRow (idBlock s.id) i (R.LQ_CMD k)
    (cmdWord [(F.LQ_CMD_OP k, 4), (F.LQ_CMD_COUNT k, count)]))) :=
  act_eq_ends s (fun d => d.anyRow (idBlock s.id) i (R.LQ_CMD k) _)

section
variable {d d' : Dev} {v : Word} {op n code : Nat} (hr : s.dev.reaches i (R.LQ_CMD k) = some d)
  (hl : d.lockedWrite (R.LQ_CMD k) v = false)
include hr hl

/-- R197: an initiator that is not the owner. -/
theorem lqRow_other (ho : ownerIs (d.get (F.LQ_CFG_OWNER k)) i = false) :
    s.dev.anyRow (idBlock s.id) i (R.LQ_CMD k) v = d.failWrite i (R.LQ_CMD k) v 0x011B := by
  obtain ⟨hx, ha, htcmd, -⟩ := lqCmd_page k
  exact Dev.anyRow_page_refused _ d _ i _ _ (.lk k 2) 0x58 _ hx (by decide) ha htcmd hr hl
    (by rw [Dev.pageWrite_lqCmd, ho, refuseIf, if_pos (by decide)])

section
variable (ho : ownerIs (d.get (F.LQ_CFG_OWNER k)) i = true) (hf : newField v (F.LQ_CMD_OP k) = op ∧
  newField v (F.LQ_CMD_COUNT k) = n)
include ho hf

theorem lqRow_taken (h : d.fsOp (.learn k) op n 0x0119 = .ok d') :
    s.dev.anyRow (idBlock s.id) i (R.LQ_CMD k) v = d' := by
  obtain ⟨hx, ha, htcmd, -⟩ := lqCmd_page k
  exact Dev.anyRow_page _ d _ _ i _ _ (.lk k 2) 0x58 hx (by decide) ha htcmd hr hl
    (by rw [Dev.pageWrite_lqCmd, ho, hf.1, hf.2, refuseIf, if_neg (by decide), h])

theorem lqRow_refused (h : d.fsOp (.learn k) op n 0x0119 = .no code) :
    s.dev.anyRow (idBlock s.id) i (R.LQ_CMD k) v = d.failWrite i (R.LQ_CMD k) v code := by
  obtain ⟨hx, ha, htcmd, -⟩ := lqCmd_page k
  exact Dev.anyRow_page_refused _ d _ i _ _ (.lk k 2) 0x58 _ hx (by decide) ha htcmd hr hl
    (by rw [Dev.pageWrite_lqCmd, ho, hf.1, hf.2, refuseIf, if_neg (by decide), h])

end

end

end

/-! ### The sweeper (R199) -/

section
variable {s : State} {d : Dev} {k ix : Nat}

theorem exec_ageSweepVisit {k : Fin 2} {ix : Fin 0x20000} :
    exec (.ageSweepVisit k ix) s = .next (s.ends (s.dev.ageVisit k ix)) := act_eq_ends s (fun d => d.ageVisit k ix)

theorem Dev.ageVisit_none (h : d.enabled (.lk k 0) = false ∨ d.flag (F.LK_CFG_AGE_EN k) = false ∨
    lkDynamic (tget (d.lkSlice k).tab ix) = false ∨ lkRemote k (tget (d.lkSlice k).tab ix) = true ∨
    d.ageDue k (tget (d.lkSlice k).tab ix) = false) : d.ageVisit k ix = d := by
  unfold Dev.ageVisit
  dsimp only
  rw [if_neg]
  rcases h with h | h | h | h | h <;> simp [h]

section
variable {e : LkEntry} (he : d.enabled (.lk k 0) = true) (hen : d.flag (F.LK_CFG_AGE_EN k) = true)
  (ht : tget (d.lkSlice k).tab ix = e) (hd : lkDynamic e = true) (hr : lkRemote k e = false) (hdue : d.ageDue k e = true)
include he hen ht hd hr hdue

theorem Dev.ageVisit_hit (hh : e.hit = true) : d.ageVisit k ix =
    d.lkSet k ix { e with hit := e.hitAt == some d.plat.aon, aged := false, visited := some d.plat.aon } := by
  unfold Dev.ageVisit
  dsimp only
  rw [ht, he, hen, hd, hr, hdue, if_pos (by decide), if_pos hh]

theorem Dev.ageVisit_unused (hh : e.hit = false) (ha : e.aged = false) : d.ageVisit k ix =
    d.lkSet k ix { e with aged := true, visited := some d.plat.aon } := by
  unfold Dev.ageVisit
  dsimp only
  rw [ht, he, hen, hd, hr, hdue, if_pos (by decide), if_neg (by simp [hh]), if_pos (by simp [ha])]

/-- R199: an aged entry leaves the table once its notice is queued. -/
theorem Dev.ageVisit_noticed {d1 : Dev} {b : Bool} (hh : e.hit = false) (ha : e.aged = true)
    (hn : d.lkNotice k 3 e.mac e.vid e.srcPort 0 (d.baseNs % 2 ^ 32) = (d1, b)) : d.ageVisit k ix =
      if b then (d1.lkSet k ix default).bump (F.LK_AGED_COUNT k)
      else (d1.lkSet k ix { e with visited := some d.plat.aon }).bump (F.LK_AGE_DEFER_COUNT k) := by
  unfold Dev.ageVisit
  dsimp only
  rw [ht, he, hen, hd, hr, hdue, if_pos (by decide), if_neg (by simp [hh]), if_neg (by simp [ha]), hn]

end

/-! ### The flush after a link went down (R203) -/

theorem exec_linkdownFlush {p : Fin 24} : exec (.linkdownFlush p) s = .next (s.ends (s.dev.linkFlush p)) :=
  act_eq_ends s (fun d => d.linkFlush p)

theorem Dev.linkFlush_none {p : Nat} (h : p ∉ d.sw.flush ∨ d.sw.lkHeld ≠ none) : d.linkFlush p = d := by
  unfold Dev.linkFlush
  exact if_neg fun ⟨hp, hheld⟩ => h.elim (fun h => h hp) (fun h => h hheld)

theorem Dev.linkFlush_due {p : Nat} (hp : p ∈ d.sw.flush) (hheld : d.sw.lkHeld = none) : d.linkFlush p =
    ((({ d with sw := { d.sw with flush := d.sw.flush.filter (· != p) } } : Dev).lkFlush 0 p 1).lkFlush 1 p 1).lkHold
      (portSlice p) := by
  unfold Dev.linkFlush
  exact if_pos ⟨hp, hheld⟩

end

/-! ### The stream filter window (R204) -/

/-- R204: the word of SF_CMD. -/
def sfCmdWord (k op ix : Nat) : Word := cmdWord [(F.SF_CMD_GO k, 1), (F.SF_CMD_OP k, op), (F.SF_CMD_INDEX k, ix)]

theorem newField_sfCmdWord {k op ix : Nat} (hop : op < 4) (hix : ix < 8192) :
    newField (sfCmdWord k op ix) (F.SF_CMD_GO k) = 1 ∧ newField (sfCmdWord k op ix) (F.SF_CMD_OP k) = op ∧
      newField (sfCmdWord k op ix) (F.SF_CMD_INDEX k) = ix := by
  simp (disch := omega) only [sfCmdWord, cmdWord, List.foldl_cons, List.foldl_nil, newField, F.SF_CMD_GO, F.SF_CMD_OP,
    F.SF_CMD_INDEX, wordBits_wordPut, wordBits_wordPut_other, Nat.mod_eq_of_lt, and_self]

theorem sf_stored : ∀ k : Fin 2, (F.SF_CMD_OP k).stored = true ∧ (F.SF_CMD_INDEX k).stored = true := by
  decide +kernel

theorem sfCmd_page : ∀ k : Fin 2, pageExists (.lk k 3) = true ∧ R.SF_CMD k = pageBase (.lk k 3) + 0x40 ∧
    R.SF_CMD k ≠ R.GV_TCMD ∧ R.SF_CMD k % 0x1000 = 0x40 := by decide

theorem Dev.pageWrite_sfCmd {d : Dev} {i : Init} {k : Fin 2} (ident : List Byte) (v : Word) :
    d.pageWrite ident i (.lk k 3) (R.SF_CMD k) v = .ok (d.window i (R.SF_CMD k) v (F.SF_CMD_GO k) (F.SF_RESULT_CODE k)
      (fun d => d.sfCode k) (fun d => d.sfEffect k)) := by
  obtain ⟨-, -, -, hoff⟩ := sfCmd_page k
  unfold Dev.pageWrite
  dsimp only
  rw [hoff, if_neg (by decide), Dev.lkWrite, if_neg (by decide), if_neg (by decide), if_neg (by decide), if_pos rfl]

/-- R204: the device that shows a command of the filter window. -/
def Dev.sfShows (d : Dev) (k op ix : Nat) : Dev := d.commanded (R.SF_CMD k) (sfCmdWord k op ix) (F.SF_CMD_GO k)

section
variable {s : State} {i : Init} {k : Fin 2} {d : Dev} {op ix : Nat} (hop : op < 2) (hix : ix < 8192)
include hop hix

theorem Dev.sfShows_fields : (d.sfShows k op ix).get (F.SF_CMD_OP k) = op ∧
    (d.sfShows k op ix).get (F.SF_CMD_INDEX k) = ix := by
  obtain ⟨-, hfop, hfix⟩ := newField_sfCmdWord (k := k) (op := op) (by omega) hix
  obtain ⟨hsop, hsix⟩ := sf_stored k
  have hap : (F.SF_CMD_GO k).apart (F.SF_CMD_OP k) := .inr (.inl (by decide : 24 + 2 ≤ 31))
  have hap' : (F.SF_CMD_GO k).apart (F.SF_CMD_INDEX k) := .inr (.inl (by decide : 0 + 13 ≤ 31))
  exact ⟨(Dev.get_commanded_field rfl hsop (by decide : 31 + 1 ≤ 32) hap).trans hfop,
    (Dev.get_commanded_field rfl hsix (by decide : 31 + 1 ≤ 32) hap').trans hfix⟩

theorem Dev.sfCode_sfShows : (d.sfShows k op ix).sfCode k = if ix = 0 then 0x0119 else 0 := by
  obtain ⟨hfop, hfix⟩ := Dev.sfShows_fields (d := d) (k := k) hop hix
  rw [Dev.sfCode, hfop, hfix]
  exact if_congr (or_iff_right (by omega)) rfl rfl

section
variable (hr : s.dev.reaches i (R.SF_CMD k) = some d) (hl : d.lockedWrite (R.SF_CMD k) (sfCmdWord k op ix) = false)
  (hgo : d.flag (F.SF_CMD_GO k) = false)
include hr hl hgo

theorem sfRow_done (h0 : ix ≠ 0) : s.dev.anyRow (idBlock s.id) i (R.SF_CMD k) (sfCmdWord k op ix) =
    ((d.sfShows k op ix).sfEffect k).put (F.SF_RESULT_CODE k) 0 := by
  obtain ⟨hx, ha, htcmd, -⟩ := sfCmd_page k
  obtain ⟨h1, -⟩ := newField_sfCmdWord (k := k) (op := op) (by omega) hix
  refine Dev.anyRow_page _ d _ _ i _ _ (.lk k 3) 0x40 hx (by decide) ha htcmd hr hl ?_
  rw [Dev.pageWrite_sfCmd, Dev.window_done hgo h1 rfl (by rw [← Dev.sfShows, Dev.sfCode_sfShows hop hix, if_neg h0]),
    Dev.sfShows]

theorem sfRow_refused (h0 : ix = 0) : s.dev.anyRow (idBlock s.id) i (R.SF_CMD k) (sfCmdWord k op ix) =
    ((d.sfShows k op ix).put (F.SF_RESULT_CODE k) 0x0119).recordErr (.lk k 3) (initCode i) (R.SF_CMD k) 0x0119 := by
  obtain ⟨hx, ha, htcmd, -⟩ := sfCmd_page k
  obtain ⟨h1, -⟩ := newField_sfCmdWord (k := k) (op := op) (by omega) hix
  refine Dev.anyRow_page _ d _ _ i _ _ (.lk k 3) 0x40 hx (by decide) ha htcmd hr hl ?_
  rw [Dev.pageWrite_sfCmd, Dev.window_refused hgo h1 rfl (by rw [← Dev.sfShows, Dev.sfCode_sfShows hop hix, if_pos h0])
    (by decide) (pageOf_page _ _ _ hx (by decide) ha), Dev.sfShows]

end

end

section
variable {s : State} {i : Init} {k : Fin 2} {d : Dev} {ix : Fin 8192}

theorem Dev.filter_sfShows (op j h : Nat) : (d.sfShows k op j).filter k h = d.filter k h := by
  rw [Dev.filter, Dev.lkSlice, Dev.sfShows, Dev.commanded_lk, Dev.filter, Dev.lkSlice]

/-- R204: READ shows the eight words of a filter. -/
theorem Dev.sfEffect_read : (d.sfShows k 0 ix).sfEffect k =
    (List.range 8).foldl (fun (a : Dev) w => a.put (F.SF_DATA_DATA k w) (sfWord (d.filter k ix) w)) (d.sfShows k 0 ix) := by
  obtain ⟨hfop, hfix⟩ := Dev.sfShows_fields (d := d) (k := k) (op := 0) (by decide) ix.isLt
  unfold Dev.sfEffect
  dsimp only
  rw [hfop, hfix, if_pos rfl, Dev.filter_sfShows]

/-- R204: WRITE takes the two configuration words from SF_DATA. -/
theorem Dev.sfEffect_write : (d.sfShows k 1 ix).sfEffect k = (d.sfShows k 1 ix).setFilter k ix { d.filter k ix with
    w0 := bitsOf (d.get (F.SF_DATA_DATA k 0)) 29 3 * 2 ^ 29 + bitsOf (d.get (F.SF_DATA_DATA k 0)) 27 1 * 2 ^ 27 +
      bitsOf (d.get (F.SF_DATA_DATA k 0)) 0 13
    w1 := bitsOf (d.get (F.SF_DATA_DATA k 1)) 0 14 } := by
  obtain ⟨hfop, hfix⟩ := Dev.sfShows_fields (d := d) (k := k) (op := 1) (by decide) ix.isLt
  have hdata : ∀ w, (d.sfShows k 1 ix).get (F.SF_DATA_DATA k w) = d.get (F.SF_DATA_DATA k w) := fun w => by
    refine Dev.get_commanded rfl ?_
    simp only [F.SF_DATA_DATA, R.SF_DATA, R.SF_CMD]
    omega
  unfold Dev.sfEffect
  dsimp only
  rw [hfop, hfix, if_neg (by decide), Dev.filter_sfShows, hdata, hdata]

theorem exec_sfRead : exec (.sfRead i k ix) s =
    .next (s.ends (s.dev.anyRow (idBlock s.id) i (R.SF_CMD k) (sfCmdWord k 0 ix))) :=
  act_eq_ends s (fun d => d.anyRow (idBlock s.id) i (R.SF_CMD k) (sfCmdWord k 0 ix))

theorem exec_sfWrite : exec (.sfWrite i k ix) s =
    .next (s.ends (s.dev.anyRow (idBlock s.id) i (R.SF_CMD k) (sfCmdWord k 1 ix))) :=
  act_eq_ends s (fun d => d.anyRow (idBlock s.id) i (R.SF_CMD k) (sfCmdWord k 1 ix))

end

end Sys2Proof.Machine
end

section
/-! The commands of the learning queues, the sweeper, the link-down flush and the stream filter window (R138, R194, R197,
R199, R203, R204, R207). -/

namespace Sys2Proof.Machine
open Sys2Proof

/-- Settles O31: LQ_CMD by `lqRow_taken`, `lqRow_refused` and `lqRow_other`, a visit of the sweeper by the lemmas about
`Dev.ageVisit`, SF_CMD by `sfRow_done` with `Dev.sfEffect_read` and `Dev.sfEffect_write`, and by `sfRow_refused`. -/
theorem learningAndFilters : Obligations.LearningAndFilters := by
  unfold Obligations.LearningAndFilters
  refine ⟨?advance, ?mark, ?rewind, ?release, ?releaseNo, ?other, ?hit, ?unused, ?aged, ?deferred, ?noVisit, ?flush,
    ?noFlush, ?sfRead, ?sfWrite, ?sfZero⟩
  case advance =>
    intro s i k d hr hl ho
    rw [exec_lqAdvance, lqRow_taken hr hl ho (newField_lqOp k 1 (by decide)) rfl]
    rfl
  case mark =>
    intro s i k d hr hl ho
    rw [exec_lqMark, lqRow_taken hr hl ho (newField_lqOp k 2 (by decide)) rfl]
    rfl
  case rewind =>
    intro s i k d hr hl ho
    have hop := (Dev.fsOp_rewind (d := d) (n := 0) (code := 0x0119) (q := .learn k)).trans Dev.fsRewind_eq
    rw [exec_lqRewind]
    split
    next hv => rw [lqRow_taken hr hl ho (newField_lqOp k 3 (by decide)) (hop.trans (if_pos hv))]; rfl
    next hv => rw [lqRow_refused hr hl ho (newField_lqOp k 3 (by decide)) (hop.trans (if_neg hv))]
  case release =>
    intro s i k count d hr hl ho h0 h32 hrpos
    have h0' : count.val ≠ 0 := fun h => h0 (Fin.ext h)
    obtain ⟨hr', hfill, hvalid, hmark⟩ := d.fsFree_reads (.learn k) count
    refine ⟨d.fsFree (.learn k) count, ?_, ?_, hr', hfill, hvalid, hmark, d.fsFree_lk k count, fun m hm => ?_,
      fun a ha => (d.word_fsFree (.learn k) count ha).trans (d.word_fsDrop (.learn k) count a)⟩
    · rw [exec_lqRelease, lqRow_taken hr hl ho (newField_lqRelease k count)
        (Dev.fsOp_release.trans (Dev.fsRelease_taken h0' h32 hrpos))]
    · rw [Dev.fsFree_learnq, tget_tset_same]
    · rw [Dev.fsFree_learnq, tget_tset_other _ _ _ _ hm]
  case releaseNo =>
    intro s i k count d hr hl ho h
    have h' : count.val = 0 ∨ 32 < count.val ∨ d.get (F.LQ_STAT_RPOS k) < count := h.imp_left (congrArg Fin.val)
    rw [exec_lqRelease, lqRow_refused hr hl ho (newField_lqRelease k count)
      (Dev.fsOp_release.trans (Dev.fsRelease_refused h'))]
  case other =>
    intro s i k count d hr hl1 hl2 hl3 hl4 ho
    rw [exec_lqAdvance, exec_lqMark, exec_lqRewind, exec_lqRelease, lqRow_other hr hl1 ho, lqRow_other hr hl2 ho,
      lqRow_other hr hl3 ho, lqRow_other hr hl4 ho]
    exact ⟨rfl, rfl, rfl, rfl⟩
  case hit =>
    intro s k ix e he hen ht hd hr hdue hh
    rw [exec_ageSweepVisit, Dev.ageVisit_hit he hen ht hd hr hdue hh]
  case unused =>
    intro s k ix e he hen ht hd hr hdue hh ha
    rw [exec_ageSweepVisit, Dev.ageVisit_unused he hen ht hd hr hdue hh ha]
  case aged =>
    intro s k ix e d1 he hen ht hd hr hdue hh ha hn
    rw [exec_ageSweepVisit, Dev.ageVisit_noticed he hen ht hd hr hdue hh ha hn, if_pos rfl]
  case deferred =>
    intro s k ix e d1 he hen ht hd hr hdue hh ha hn
    rw [exec_ageSweepVisit, Dev.ageVisit_noticed he hen ht hd hr hdue hh ha hn, if_neg Bool.false_ne_true]
  case noVisit =>
    intro s k ix h
    rw [exec_ageSweepVisit, Dev.ageVisit_none h]
  case flush =>
    intro s p hp hheld
    rw [exec_linkdownFlush, Dev.linkFlush_due hp hheld]
  case noFlush =>
    intro s p h
    rw [exec_linkdownFlush, Dev.linkFlush_none h]
  case sfRead =>
    intro s i k ix d hr hl hgo h0
    rw [exec_sfRead, sfRow_done (by decide) ix.isLt hr hl hgo (fun h => h0 (Fin.ext h)), Dev.sfEffect_read, Dev.sfShows,
      sfCmdWord]
  case sfWrite =>
    intro s i k ix d hr hl hgo h0
    rw [exec_sfWrite, sfRow_done (by decide) ix.isLt hr hl hgo (fun h => h0 (Fin.ext h)), Dev.sfEffect_write, Dev.sfShows,
      sfCmdWord]
  case sfZero =>
    intro s i k ix d h0 hr hlw hgo hlr
    have h0' : ix.val = 0 := congrArg Fin.val h0
    rw [exec_sfWrite, exec_sfRead, sfRow_refused (by decide) ix.isLt hr hlw hgo h0',
      sfRow_refused (by decide) ix.isLt hr hlr hgo h0', Dev.sfShows, Dev.sfShows, sfCmdWord, sfCmdWord]
    exact ⟨rfl, rfl⟩

end Sys2Proof.Machine
end
